-- ==== Sys2Proof/Word.lean ====
section
/-! DEFINITION. The word types, the parts of a fetched descriptor, and the payload structures that the
commands carry (R348, R353, R379, R388, R431, R445, R492, R494). -/

namespace Sys2Proof

/-- A 32-bit register or memory word. -/
abbrev Word := BitVec 32

/-- The control part of a descriptor that the device has fetched (R348), with where it came from:
the function, its CMD ring and the index of the entry. -/
structure Ctl where
  fn : Nat
  ring : Nat
  idx : Nat := 0
  tag : Nat := 0
  target : Nat := 0
  target2 : Nat := 0
  irq : Bool := false
  quiet : Bool := false
  chained : Bool := false
  deriving DecidableEq, Repr

/-- The charge profile of CHARGE_START and AUDIT, bytes 16 to 31 (R353). -/
structure Profile where
  cvCell : Nat
  icc : Nat
  ipre : Nat
  itrickle : Nat
  taper : Nat
  cvMax : Nat
  totalMax : Nat
  trickleMax : Nat
  preMax : Nat
  prio : Nat := 0
  deriving DecidableEq, Repr

/-- The fields AUDIT adds to a profile, bytes 32 to 37 (R353). -/
structure AuditPar where
  audI : Nat
  audTaper : Nat
  rest : Nat
  recharge : Bool
  deriving DecidableEq, Repr

/-- The payload of TRANSFER (R353). -/
structure TransferPar where
  imax : Nat
  floorCell : Nat
  socFloor : Nat
  emax : Nat
  deriving DecidableEq, Repr

/-- The payload of SET_LIMITS (R353). Temperatures are signed degrees; `warn` holds levels 0 to 3. -/
structure Limits where
  mask : Nat
  icap : Nat := 0
  donor : Bool := false
  t1 : Int := 0
  t2 : Int := 0
  t3 : Int := 0
  t4 : Int := 0
  warn : Nat := 0
  deriving DecidableEq, Repr

/-- The payload of GAUGE_RESTORE (R313): the record's fields that a restore takes; `qRem` signed. -/
structure RestorePar where
  packId : Nat := 0
  qFull : Nat := 0
  qRem : Int := 0
  vCut : Nat
  flags : Nat := 0
  learnCnt : Nat := 0
  thruIn : Nat := 0
  thruOut : Nat := 0
  deriving DecidableEq, Repr

/-- The payload of QUOTA_SET (R379). -/
structure QuotaPar where
  mask : Nat
  power : Nat := 0
  maxSlots : Nat := 0
  maxXfer : Nat := 0
  evtRate : Nat := 1
  wdgPeriod : Nat := 100
  wdgOpen : Nat := 0
  slotMask : Nat := 0
  deriving DecidableEq, Repr

/-- The payload of KEY_WRITE (R388). -/
structure KeyPar where
  kind : Nat
  keyId : Nat := 0
  erase : Bool := false
  key : List Nat := []
  kcv : List Nat := []
  deriving DecidableEq, Repr

/-- The payload of TWB_XFER (R431), and the shape of the bus agent's own transactions (R424). -/
structure TwbPar where
  proto : Nat
  addr : Nat
  cmd : Nat := 0
  pec : Bool := false
  read : Bool := false
  wcount : Nat := 0
  rcount : Nat := 0
  timeout : Nat := 0
  rbuf : Nat := 0
  wdata : List Nat := []
  deriving DecidableEq, Repr

/-- How a two-wire transaction went on the wire, up to its STOP (R405, R407, R422): the address acknowledged, the data
bytes acknowledged in the write direction, a written byte (the PEC byte too) not acknowledged, the count byte of a counted
read, the data bytes received, the PEC byte received, and whether the STOP fell where the transaction ends anyway (R423). -/
structure TwbEnd where
  acked : Bool
  wrote : Nat := 0
  nack : Bool := false
  count : Nat := 0
  data : List Nat := []
  pec : Nat := 0
  whole : Bool := true
  deriving DecidableEq, Repr

/-- A transaction of a remote controller that names the device (R429, R430): the address byte's seven bits and direction,
the command byte, the data of a block write, and the PEC byte sent, if any. -/
structure TwbTgt where
  addr : Nat
  read : Bool := false
  cmd : Nat := 0
  data : List Nat := []
  pec : Option Nat := none
  deriving DecidableEq, Repr

/-- The policy bytes of PD_POLICY (R445): PMAX in 0.1 W, IMAX in mA, the PPS range in mV. -/
structure PdPolicy where
  pps : Bool := false
  epr : Bool := false
  svc : Bool := false
  vswap : Bool := false
  pmax : Nat := 75
  imax : Nat := 1500
  vmask : Nat := 0
  vmin : Nat := 3300
  vmax : Nat := 21000
  deriving DecidableEq, Repr

/-- One sample of the bus and source modulators (R40): both bus sensors in mV, and voltage (mV) and current (mA) of SRC0 to SRC3;
none where a modulator showed no transition, so that its sample is invalid. -/
structure BusSample where
  busA : Option Nat
  busB : Option Nat
  srcs : List (Option (Nat × Int))
  deriving DecidableEq, Repr

/-- The header of a microcode image as it is read from a flash bank, with what the checks of R489 find. -/
structure Image where
  /-- The flash can be read; FORMAT is good; LENGTH; the key's hash equals the fuse bank's; the signature holds. -/
  readable : Bool := true
  formatOk : Bool := true
  len : Nat := 4096
  keyOk : Bool := true
  signed : Bool := true
  /-- GEN, SCHEMA_LO and SCHEMA_HI. -/
  gen : Nat := 0
  lo : Nat := 0
  hi : Nat := 0
  /-- The read-idempotent addresses, as first and last of each range (R474). -/
  idempotent : List (Nat × Nat) := []
  /-- Subsystem Vendor ID and Subsystem ID, where the header gives them (R9). -/
  ids : Option (Nat × Nat) := none
  /-- The timeout of each barrier, µs, and its member tasks (R487). -/
  barriers : List (Nat × List Nat) := []
  deriving DecidableEq, Repr

/-- The error of the first check of R489 that the image fails, as in `ENG_BOOT.ERR`: 4 flash read, 3 format or LENGTH, 2 key hash, 1 signature,
0 none. -/
def Image.err (x : Image) : Nat :=
  if !x.readable then 4 else if !x.formatOk || decide (x.len < 4096 ∨ 1048576 < x.len) then 3
  else if !x.keyOk then 2 else if !x.signed then 1 else 0

/-- What a pair's committed instruction stream does in a period, as the store queue sees it (R473, R474): a store outside the tine, a
message to a task or a register write enters it (`effect` with its kind 1, 2 or 3, its target and data), or a store to the tine's own data
memory; a load from that memory; a remote read; the oldest instruction still speculative commits; every instruction still speculative is
discarded (mispredicted branch, exception, discarded run-ahead); an arrival at a barrier (R487); and a USER trace record (R502). -/
inductive TineAct where
  | effect (kind target data : Nat)
  | store (addr data : Nat)
  | load (addr : Nat)
  | read (addr : Nat)
  | commit
  | discard
  | arrive (barrier : Nat)
  | trace (kind data : Nat)
  deriving DecidableEq, Repr

/-- What START meets (R558 to R560): the time of each step, and the findings of its tests and readings. -/
structure StartEnv where
  /-- How long steps 1 to 10 take, µs. -/
  durs : List Nat := []
  /-- Keep locations whose record has decayed (R573). -/
  decayed : List Nat := []
  /-- The lockstep, HALT_N and watchdog-clock-monitor tests fail (R538); the crystal does not run. -/
  lockstepBad : Bool := false
  haltNBad : Bool := false
  clkMonBad : Bool := false
  noCrystal : Bool := false
  /-- Feeds absent or out of limits, as `GLB_HEALTH_FE.FEED_LOST` (R38), and FCVs whose self-test fails. -/
  feeds : Nat := 0
  fcvBad : List Nat := []
  /-- ICVs and channels, as ICV and channel, that the re-test finds bad, ICVs with the cause as in ICV_SUBST (R275, R286). -/
  icvBad : List (Nat × Nat) := []
  chanBad : List (Nat × Nat) := []
  /-- Slots whose coulomb converter the re-test finds bad (R302). -/
  coulBad : List Nat := []
  /-- Buses whose SDA is low, each with the clock pulse after which it is seen high, if any (R416, R434). -/
  sdaLow : List (Nat × Option Nat) := []
  /-- Runner-link directions, as link and direction, whose lane test finds a lane bad (R24, R37). -/
  laneBad : List (Nat × Nat) := []
  /-- Leads whose park path fails its test (R538). -/
  parkBad : List Nat := []
  /-- Pairs and beds that fail self-test (R560). -/
  badPairs : List Nat := []
  badBeds : List Nat := []
  /-- The images of flash banks 0 and 1 (R491). -/
  images : List Image := [{}, {}]
  /-- Presence and SRC_ID voltage, mV, of SRC0 to SRC3 (R42). -/
  srcs : List (Bool × Nat) := []
  /-- The battery, mV, on its side of the switch (R62). -/
  battery : Nat := 12800
  deriving DecidableEq, Repr

end Sys2Proof
end

