-- ==== Sys2Proof/Syntax.lean ====
section
/-! DEFINITION. The commands: one constructor per row of spec/opcode_table.json, with the row's operands. What comes
from the pins, the buses, the packs and the passing of time stands in the operands of the commands that bring it. The rows with operands
stand first, in the table's order, and after them the rows without any. -/

namespace Sys2Proof

/-- The commands of the block. -/
inductive Instr where
  /-- RUNNER_FLIT_RECEIVE (R23): A runner-link or fabric control flit arrives and its parity is checked; a failed flit is discarded and a replay is requested. -/
  | runnerFlitReceive (fabric : Bool) (link : Nat) (dir : Nat) (flit : Nat) (got : Nat) (parity : Nat)
  /-- LANE_FAULT (R24): Three parity failures in a row, or a handshake not completed within 200 ns, declare a lane fault and traffic steers to the spare lane. -/
  | laneFault (fabric : Bool) (link : Nat) (dir : Nat) (ns : Nat)
  /-- BUS_SAMPLE (R40): A sinc3 sample of every source and bus modulator is produced every 3.2 us, and the bus protection acts on it. -/
  | busSample (b : BusSample) (avgs : List (Nat × Nat))
  /-- MODULATOR_STUCK (R40): A modulator bitstream shows no transition for 64 SD_MCLK clocks, so its samples become invalid. -/
  | modulatorStuck (m : Nat) (clocks : Nat)
  /-- BUS_BELOW_PACK (R52): The bus stays below a slot's pack voltage plus 20 V for two samples, so that slot opens DISC. -/
  | busBelowPack (sl : Nat)
  /-- SOURCE_PRESENCE_RISE (R42): SRC_PRESk rises, so the source is classified and its qualification period starts. -/
  | sourcePresenceRise (k : Nat) (mv : Nat)
  /-- SOURCE_LOST (R44): A source is declared lost on a presence fall, under-voltage, reverse current or stuck modulator, so SRC_INHk goes high and SRC_CHANGE is raised. -/
  | sourceLost (k : Nat) (why : Nat)
  /-- SOURCE_QUALIFIED (R45): A source's qualification period ends without a break, so it may be enabled and SRC_CHANGE is raised. -/
  | sourceQualified (k : Nat)
  /-- SRC_LIMIT_WRITE (R43): A write of OVERRIDE changes the effective source limit, which the bus guard applies from the next sample. -/
  | srcLimitWrite (k : Nat) (override : Nat)
  /-- SRC_MODE_WRITE (R46): A write of a source port MODE sets how the qualified source is used, and OFF drives SRC_INHk high. -/
  | srcModeWrite (k : Nat) (mode : Nat)
  /-- ISLAND_DONOR_FLOOR (R57): A donor reaches FLOOR + 2 % or FLOOR, so the next donor starts or the donor soft-stops, with ISLAND_NO_DONOR if none remains. -/
  | islandDonorFloor (sl : Nat)
  /-- ISLAND_SOURCE_RETURN (R58): After the donor set-point ramp, a qualified source is enabled in ISLAND and the donors ramp to zero. -/
  | islandSourceReturn (k : Nat)
  /-- HB_CHARGER_TRANSITION (R59): The house-battery charger moves between its states by the chemistry thresholds and end-of-charge timers. -/
  | hbChargerTransition (mv : Nat) (ma : Int) (sys : Nat) (rail : Nat)
  /-- HB_FAULT (R61): A charge-time limit expires or the battery exceeds its CV voltage by 500 mV, so the charger enters FAULT. -/
  | hbFault (cause : Nat)
  /-- SHIP_WAKE (R67): SERVICE_BTN is held low 100 ms or a source is present 10 ms in SHIP, so WAKE is recorded and START begins. -/
  | shipWake (cause : Nat) (battery : Nat)
  /-- CURRENT_UPDATE (R84): Once per lead period the compensator computes the current loop and a new duty. -/
  | currentUpdate (lead : Nat) (phases : List Int) (vout : Nat) (shadowDiffers : Bool)
  /-- APPLY (R87): A write of 1 to PHC_LOOP.APPLY requests that all pending coefficients and shifts go into use together. -/
  | apply (n : Nat)
  /-- RISE_ABORT (R111): The output does not rise above RISE_V within RISE_TMO, or ARMED stays 0 for 2 ms, so the attempt fails. -/
  | riseAbort (lead : Nat)
  /-- SOFT_LEVEL_UPDATE (R112): Every 100 us the soft-start or soft-stop level advances along its table. -/
  | softLevelUpdate (lead : Nat) (avg : Option Nat)
  /-- START_BACKOFF_END (R113): The 2 s back-off after a failed start ends and a new attempt starts, or the slot enters FAULTED when retries are exhausted. -/
  | startBackoffEnd (lead : Nat) (avg : Option Nat)
  /-- RETRIES_RESET (R113): The output has regulated for 10 s, so RETRIES returns to zero. -/
  | retriesReset (lead : Nat)
  /-- PEAK_LIMIT_TRUNCATE (R114): A phase current crosses PEAK_LIM, so the PWMH pulse ends within 40 ns and CBC counts. -/
  | peakLimitTruncate (ch : Nat) (ma : Nat) (tick : Nat)
  /-- PHC_ENABLE_WRITE (R130): A write of PHC_CTRL.ENABLE puts a channel in or out of service; a 0 soft-stops a switching output. -/
  | phcEnableWrite (n : Nat) (v : Bool)
  /-- SYNC_IN_EDGE (R99): A SYNC_IN rising edge starts the epoch of locked leads and is measured for the effective period. -/
  | syncInEdge (ticks : Nat)
  /-- SYNC_LOSS (R100): No SYNC_IN edge arrives for SYNC_LOSS_N periods, so locked leads free-run and SYNC_LOST is raised. -/
  | syncLoss (lead : Nat) (ticks : Nat)
  /-- SYNC_RELOCK (R100): After 16 consistent SYNC_IN edges a lead locks again and slews toward the edges. -/
  | syncRelock (lead : Nat) (offset : Nat)
  /-- PHASE_ADD_MEASURED (R102): The measured current exceeds the add threshold for 4 consecutive updates, so one phase is added. -/
  | phaseAddMeasured (lead : Nat)
  /-- PHASE_SHED (R102): Current stays below the shed threshold for SHED_DWELL, so the highest active phase is shed. -/
  | phaseShed (lead : Nat)
  /-- PHASE_HANDOVER_END (R103): After 32 periods with PWML held low, a shed phase parks or an added phase switches synchronously. -/
  | phaseHandoverEnd (lead : Nat)
  /-- GANG_WRITE (R105): A write of PHC_GANG.GANG_EN forms or dissolves a gang when both slots are empty and parked. -/
  | gangWrite (v : Nat)
  /-- IMBALANCE_CHECK (R108): Once per second the lead computes phase imbalance and may raise PHASE_IMBAL. -/
  | imbalanceCheck (lead : Nat)
  /-- DRV_FAULT (R122): DRV_FLT is held low for 200 ns, so the output parks and its slot or channel enters its safe state. -/
  | drvFault (lead : Nat) (lowNs : Nat)
  /-- RUNAWAY (R124): A runaway condition persists, so the output parks, the slot enters its safe state and RUNAWAY is raised. -/
  | runaway (lead : Nat) (cond : Nat)
  /-- COMMIT_STALE (R125): A switching lead has received no commit for 250 ms, so it soft-stops and COMMIT_STALE is raised. -/
  | commitStale (lead : Nat)
  /-- ID_PIN_CLOSE (R146): An ID pin falls below 2,900 mV, so an empty slot starts debounce or a FAULTED slot reports PACK_IN. -/
  | idPinClose (sl : Nat)
  /-- DEBOUNCE_END (R146): The ID pin stays closed through DEBOUNCE, so the slot enters IDENTIFYING. -/
  | debounceEnd (sl : Nat)
  /-- WET_TEST_COMPLETE (R158): The 15 ms wet-connector test ends, the leakage is reported and WET may be set. -/
  | wetTestComplete (sl : Nat) (v1 : Nat) (v2 : Nat)
  /-- ID_DECODE (R149): The 1 ms ID-voltage average ends and a pack TYPE is decoded. -/
  | idDecode (sl : Nat) (mv : Nat)
  /-- IDENTIFICATION_COMPLETE (R151): Pack data and a valid NTC reading are both present, so the slot becomes IDLE with PACK_IN. -/
  | identificationComplete (sl : Nat)
  /-- IDENTIFICATION_FAIL (R153): Identification fails, so the slot enters IDENT_FAIL with its reason. -/
  | identificationFail (sl : Nat)
  /-- IDENT_RETRY (R153): 1 s after a challenge-response failure the identification runs once more. -/
  | identRetry (sl : Nat)
  /-- IDENTITY_LOSS (R178): The ID voltage leaves its window for 2 us, or a poll finds another serial, so the slot parks and enters FAULTED. -/
  | identityLoss (sl : Nat) (mv : Nat) (ns : Nat)
  /-- PACK_REMOVAL (R177): The ID pin rises above 2,900 mV, so the phases park, DISC opens and the slot becomes EMPTY with PACK_OUT. -/
  | packRemoval (sl : Nat) (pulses : Option Nat)
  /-- SLOT_ENABLE_WRITE (R146): A write of SLT_CFG.ENABLE takes a slot OFF, after a soft stop, or back to EMPTY or GANGED. -/
  | slotEnableWrite (sl : Nat) (v : Bool)
  /-- SLOT_FAULT_CLEAR (R182): A PF write of 1 to SLT_FAULT.CLEAR clears FAULTED unless the cause persists. -/
  | slotFaultClear (sl : Nat)
  /-- CHARGE_PHASE_ADVANCE (R164): Five consecutive pack readings at the next threshold advance the charge from TRICKLE or PRE. -/
  | chargePhaseAdvance (sl : Nat)
  /-- CV_ENTRY (R164): LOOP_MODE reads constant voltage for 1 s, so the sequencer enters CV. -/
  | cvEntry (sl : Nat)
  /-- PACK_SAG (R165): Five CC readings fall 100 mV per cell below the CC threshold, so the charge returns to PRE with PACK_SAG. -/
  | packSag (sl : Nat)
  /-- CHARGE_PHASE_TIMEOUT (R166): TRICKLE_MAX, PRE_MAX or TOTAL_MAX expires, so the slot enters FAULTED. -/
  | chargePhaseTimeout (sl : Nat)
  /-- CV_MAX_EXPIRY (R175): The sequencer or Sundial CV_MAX timer expires, so the charge soft-stops and ends with CHARGE_END reason CV_MAX. -/
  | cvMaxExpiry (sl : Nat)
  /-- CV_MAX_PARK_FAIL (R175): The lead has not parked 1 s after a CV_MAX order, so the slot enters FAULTED with cause TIMER. -/
  | cvMaxParkFail (sl : Nat)
  /-- SLOT_SUSPEND (R169): The Almanac has ramped a zero-ceiling slot to zero, so the slot enters SUSPENDED. -/
  | slotSuspend (sl : Nat)
  /-- NTC_BOTH_INVALID (R171): Both NTCs stay invalid for 500 ms, so the slot enters FAULTED with cause NTC. -/
  | ntcBothInvalid (sl : Nat)
  /-- TAPER_CHECK (R172): In CV the 1 s average current crosses a taper step, or 60 s pass below TAPER, so a TAPER event is raised. -/
  | taperCheck (sl : Nat)
  /-- SERIAL_POLL (R179): Every AUTH_POLL seconds the bus agent reads the pack serial and may raise ID_SILENT. -/
  | serialPoll (sl : Nat)
  /-- TRANSFER_END (R185): A TRANSFER end condition is met, so the donor soft-stops and TRANSFER_END is raised. -/
  | transferEnd (sl : Nat)
  /-- AUDIT_FILL_COMPLETE (R188): The current stays below AUD_TAPER in CV for 60 s, so the pack is full and the rest starts. -/
  | auditFillComplete (sl : Nat)
  /-- AUDIT_REST_END (R188): The rest ends, so the audit counters are zeroed and the donor starts in REV_I. -/
  | auditRestEnd (sl : Nat)
  /-- AUDIT_PAUSE (R188): The absorbable current falls below AUD_I / 4, so the audit donor soft-stops. -/
  | auditPause (sl : Nat)
  /-- AUDIT_RESUME (R188): AUD_I / 2 becomes absorbable, so the paused audit donor restarts. -/
  | auditResume (sl : Nat)
  /-- AUDIT_EMPTY (R188): The voltage loop holds the cut-off with a low mean current, so the audit result is written and AUDIT_END is raised. -/
  | auditEmpty (sl : Nat)
  /-- AUDIT_PAUSE_LIMIT (R188): The audit pauses total more than 60 min, so the audit ends as invalid. -/
  | auditPauseLimit (sl : Nat)
  /-- FG_OV_TRIP (R513): The frost-guard OV comparator trips, so the slot parks and opens DISC in hardware (SF1). -/
  | fgOvTrip (sl : Nat) (mv : Nat) (us : Nat)
  /-- FG_OC_TRIP (R513): The frost-guard OC comparator trips, so the slot parks and opens DISC (SF2). -/
  | fgOcTrip (sl : Nat) (ma : Nat) (us : Nat)
  /-- FG_RV_TRIP (R513): The frost-guard RV comparator trips on reverse current, so the slot parks and opens DISC (SF10). -/
  | fgRvTrip (sl : Nat) (ma : Nat) (us : Nat)
  /-- FG_NTC_TRIP (R515): An NTC comparator trips for 500 ms, so the slot parks and opens DISC (SF3). -/
  | fgNtcTrip (sl : Nat) (input : Nat) (code : Nat) (ms : Nat)
  /-- TICK_BOUNDARY (R206): At B(T) every lead takes its committed reference, and the snapshot and rebuild for the following ticks begin. -/
  | tickBoundary (late : List Nat) (avgs : List (Nat × Nat))
  /-- TICK_FREEZE (R206): At B(T) - 1,000 us the root freezes tick T and distributes its records to the phase-block islands. -/
  | tickFreeze (late : Bool)
  /-- QUOTA_OVER_REPEAT (R221): Every second while a tenant is over quota, QUOTA_OVER is raised again. -/
  | quotaOverRepeat (fn : Nat)
  /-- RESV_AT_RISK (R225): For 100 consecutive ticks the grant or ceiling stays below I_req, so the reservation is at risk. -/
  | resvAtRisk (sl : Nat)
  /-- RESV_DEADLINE (R225): At B(RESV_TICK) RESV_MET or RESV_MISSED is raised and the reservation ends. -/
  | resvDeadline (sl : Nat)
  /-- ROOT_HANDOVER (R231): The alternate root takes over the Almanac at the tick boundary after the root is lost, skipping at most one tick. -/
  | rootHandover (late : List Nat) (avgs : List (Nat × Nat))
  /-- ALM_VIEW_SELECT (R240): A write to ALM_VIEW_SEL snapshots the plan of the named channel into ALM_VIEWi. -/
  | almViewSelect (chan : Nat)
  /-- MAINS_CROSSING (R247): A rising MAINS_SENSE crossing is measured and may establish lock. -/
  | mainsCrossing (period : Nat)
  /-- ICV_CONVERSION_START (R248): The sequencer begins a conversion, switching range if needed and settling the multiplexer. -/
  | icvConversionStart (n : Nat)
  /-- ICV_INTEGRATION_END (R248): An integration ends, the result is calibrated and its record is issued. -/
  | icvIntegrationEnd (n : Nat) (raw : Int) (pin : Nat) (fast : Nat) (others : List Nat)
  /-- ICV_CONVERSION_TIMEOUT (R248): A conversion's readout has not ended in time, so the ICV is treated as failed. -/
  | icvConversionTimeout (n : Nat)
  /-- ICV_PASS_START (R255): A new table pass starts and the pending table loads go into use. -/
  | icvPassStart (n : Nat)
  /-- ICV_TRIGGER (R261): A trigger arrives and starts a waiting integration, or is dropped, deferred or restarts one by TRIG_POLICY. -/
  | icvTrigger (n : Nat)
  /-- GROUP_TRIGGER (R262): A sampling-group trigger arrives and the group gathers its members. -/
  | groupTrigger (g : Nat)
  /-- GROUP_START (R262): All members are ready, so the group starts together at a common device-time microsecond. -/
  | groupStart (g : Nat)
  /-- URGENT_CONVERSION_START (R264): A queued urgent conversion aborts the running conversion and runs, once per pass. -/
  | urgentConversionStart (n : Nat)
  /-- FCV_CONVERSION_END (R270): An FCV precision conversion ends and its result serves a cross-check, substitution or request. -/
  | fcvConversionEnd (p : Nat) (raw : Int) (fast : Nat)
  /-- REFEREE_FINDING (R274): The referee injections are converted and the device acts on the finding. -/
  | refereeFinding (p : Nat) (icvR : List Int) (fcvR : List Int) (fast : Nat)
  /-- FCV_SELF_TEST (R276): Every 10 s the FCV reads its zero and reference and is taken out of service on failure. -/
  | fcvSelfTest (p : Nat) (zero : Int) (ref : Int)
  /-- FCV_LOST_INJECTION_CHECK (R276): With the FCV lost, each NTC and SHUNT channel is checked by test-DAC injection every 60 s. -/
  | fcvLostInjectionCheck (n : Nat) (chan : Nat) (range : Nat) (readings : List Int)
  /-- DAC_INJECT_WRITE (R280): A PF write of MSR_DAC_CTRL injects into a permitted target or is refused with REJ. -/
  | dacInjectWrite (p : Nat) (en : Bool) (att : Bool) (target : Nat) (code : Nat)
  /-- CAL_AVERAGE_DONE (R282): Sixteen calibration conversions complete and CAL_ZERO or CAL_FULL completes with its result. -/
  | calAverageDone (unit : Nat)
  /-- COULOMB_SAMPLE (R296): Every 250 us a coulomb code is added to the accumulator, and ACC_OVR is set on an over-range. -/
  | coulombSample (sl : Nat) (code : Int)
  /-- GAU_ACC_READ (R298): A read of GAU_ACC_LO latches GAU_ACC_HI and GAU_NSAMP. -/
  | gauAccRead (sl : Nat)
  /-- GAUGE_REPORT_UPDATE (R308): Every 100 ms the gauge pair updates SOC, E_REM and the GAU registers. -/
  | gaugeReportUpdate (sl : Nat)
  /-- AUTO_ZERO_TRIM (R301): After 2 s at zero current the coulomb offset is trimmed over 1 s. -/
  | autoZeroTrim (sl : Nat)
  /-- FULL_ANCHOR (R310): CV current stays below TAPER for 60 s, so Q_REM is set to Q_FULL. -/
  | fullAnchor (sl : Nat)
  /-- GAUGE_SNAPSHOT_TIMED (R316): At the slot's instant each second a gauge snapshot is posted or dropped. -/
  | gaugeSnapshotTimed (sl : Nat)
  /-- CURRENT_XCHECK (R518): Every second the coulomb and phase-current means of a slot are compared. -/
  | currentXcheck (sl : Nat)
  /-- CURRENT_REFEREE (R520): An ICV SHUNT referee conversion ends and decides a current mismatch. -/
  | currentReferee (sl : Nat) (raw : Int)
  /-- OUTPUT_V_REFEREE (R519): An FCV referee of the slot's VPACK ends and decides an output-voltage mismatch. -/
  | outputVReferee (sl : Nat) (raw : Int)
  /-- PCIE_LANE_FAULT (R332): A PCIe lane fails training or shows 8 receiver errors in 1 ms. -/
  | pcieLaneFault (lane : Option Nat)
  /-- DOORBELL_POLL (R346): The device reads a function's doorbell line 0 at its poll interval. -/
  | doorbellPoll (fn : Nat) (line : List Nat)
  /-- DESCRIPTOR_FETCH (R340): A descriptor, or whole chain, is fetched once its completion entry can be reserved. -/
  | descriptorFetch (fn : Nat) (ring : Nat) (mem : List (List Nat))
  /-- MSIX_MODERATION_TIMEOUT (R343): MOD_US passes since the first unsignalled entry, so the ring raises its MSI-X message. -/
  | msixModerationTimeout (fn : Nat) (r : Nat)
  /-- STATUS_LINE_WRITE (R345): The device writes a function's status line on change and at least every second. -/
  | statusLineWrite (fn : Nat)
  /-- FLR (R366): An FLR of a VF stops its traffic, holds it and clears its class F fields. -/
  | flr (vf : Nat)
  /-- D3HOT_ENTRY (R368): A function in D3hot neither fetches nor receives writes while its watchdog runs. -/
  | d3hotEntry (fn : Nat)
  /-- HOST_READ_ERROR (R371): A host-memory read returns an error, so the ring is stopped with ERR_CODE 2. -/
  | hostReadError (fn : Nat) (r : Nat) (poisoned : Bool)
  /-- DOORBELL_PAGE_WRITE (R373): A write of DB_LO with EN sets the doorbell page and starts polling. -/
  | doorbellPageWrite (fn : Nat) (value : Nat)
  /-- RING_ENABLE_WRITE (R338): A write of RING_CTRL.EN enables a ring with both indices at zero. -/
  | ringEnableWrite (fn : Nat) (r : Nat) (value : Nat)
  /-- NOP (R351): NOP completes with the last committed tick. -/
  | nop (c : Ctl)
  /-- SLOT_CLAIM (R383): SLOT_CLAIM makes the issuer the slot's owner through a keep record. -/
  | slotClaim (c : Ctl)
  /-- SLOT_RELEASE (R155): SLOT_RELEASE makes the slot unclaimed through a keep record. -/
  | slotRelease (c : Ctl)
  /-- CHARGE_START (R161): CHARGE_START accepts a charge profile and the slot enters CHARGING, queued. -/
  | chargeStart (c : Ctl) (p : Profile) (resvSoc : Nat) (resvTick : Nat)
  /-- CHARGE_TERMINATE (R173): CHARGE_TERMINATE soft-stops the slot with CHARGE_END reason HOST. -/
  | chargeTerminate (c : Ctl)
  /-- SET_LIMITS (R353): SET_LIMITS applies the masked caps, donor grant, temperature window, warnings, wet test, fault clear or re-identify. -/
  | setLimits (c : Ctl) (l : Limits)
  /-- RESERVE (R223): RESERVE sets, replaces or cancels a reservation and sets PRIO. -/
  | reserve (c : Ctl) (prio : Nat) (resvSoc : Nat) (resvTick : Nat)
  /-- TRANSFER (R183): TRANSFER pairs a donor slot with a receiver and the donor starts in REV_I. -/
  | transfer (c : Ctl) (p : TransferPar)
  /-- AUDIT (R187): AUDIT starts a fill, rest and discharge audit of the slot's pack. -/
  | audit (c : Ctl) (p : Profile) (a : AuditPar)
  /-- GAUGE_RESTORE (R315): GAUGE_RESTORE loads a gauge record and the gauge becomes RESTORED. -/
  | gaugeRestore (c : Ctl) (r : RestorePar)
  /-- GAUGE_SNAPSHOT (R316): GAUGE_SNAPSHOT posts a snapshot within 1 ms. -/
  | gaugeSnapshot (c : Ctl)
  /-- MEAS_TABLE_LOAD (R255): MEAS_TABLE_LOAD writes table entries into the pending copy. -/
  | measTableLoad (c : Ctl) (first : Nat) (words : List (Nat × Nat))
  /-- MEAS_URGENT (R264): MEAS_URGENT queues one conversion outside the table. -/
  | measUrgent (c : Ctl) (chan : Nat) (range : Nat) (cyc : Nat)
  /-- CAL_ZERO (R282): CAL_ZERO starts the zero calibration of a slot input. -/
  | calZero (c : Ctl) (input : Nat) (range : Nat) (fcv : Bool) (applied : Int)
  /-- CAL_FULL (R283): CAL_FULL starts the full-scale calibration and keeps the offset and gain pair. -/
  | calFull (c : Ctl) (input : Nat) (range : Nat) (fcv : Bool) (applied : Int)
  /-- TWB_XFER (R431): TWB_XFER queues a host transaction on a two-wire bus. -/
  | twbXfer (c : Ctl) (p : TwbPar)
  /-- PD_POLICY_HOLD (R446): PD_POLICY HOLD makes the issuer the port's holder with the given policy. -/
  | pdPolicyHold (c : Ctl) (p : PdPolicy)
  /-- PD_POLICY_RELEASE (R447): PD_POLICY RELEASE returns the port to the default policy. -/
  | pdPolicyRelease (c : Ctl)
  /-- PD_POLICY_SET (R447): PD_POLICY SET changes the held port's policy and renegotiates the offer. -/
  | pdPolicySet (c : Ctl) (p : PdPolicy)
  /-- PD_POLICY_SOFT_RESET (R461): PD_POLICY SOFT_RESET sends Soft Reset on a port with an explicit contract. -/
  | pdPolicySoftReset (c : Ctl)
  /-- PD_POLICY_HARD_RESET (R460): PD_POLICY HARD_RESET sends Hard Reset to an attached sink. -/
  | pdPolicyHardReset (c : Ctl)
  /-- ENTER_SERVICE (R463): PD_POLICY ENTER_SERVICE discovers and enters the vendor service mode. -/
  | enterService (c : Ctl)
  /-- EXIT_SERVICE (R465): PD_POLICY EXIT_SERVICE opens the SBU multiplexer and sends Exit Mode. -/
  | exitService (c : Ctl)
  /-- WDG_ANSWER (R392): WDG_ANSWER is judged against the question in force as good or a miss. -/
  | wdgAnswer (c : Ctl) (token : Nat) (qseq : Nat)
  /-- FENCE (R356): FENCE holds later descriptors of its scope until its condition is met. -/
  | fence (c : Ctl) (scope : Nat) (wait : Nat) (token : Nat) (timeout : Nat)
  /-- QUOTA_SET (R379): QUOTA_SET sets a function's configuration through a keep record. -/
  | quotaSet (c : Ctl) (p : QuotaPar)
  /-- KEY_WRITE (R388): KEY_WRITE writes, replaces or erases a pack or master watchdog key. -/
  | keyWrite (c : Ctl) (p : KeyPar)
  /-- MICROCODE_STAGE (R493): MICROCODE_STAGE erases the inactive bank and copies and checks a new image. -/
  | microcodeStage (c : Ctl) (addr : Nat) (len : Nat) (gen : Nat)
  /-- MICROCODE_STAGE_COMPLETE (R493): Staging ends, so the completion is written and STATE becomes STAGED or IDLE. -/
  | microcodeStageComplete (img : Image) (cause : Nat)
  /-- MICROCODE_ROLL (R494): MICROCODE_ACTIVATE ROLL starts the rolling upgrade. -/
  | microcodeRoll (c : Ctl) (dwell : Nat)
  /-- MICROCODE_ABORT (R494): MICROCODE_ACTIVATE ABORT returns every reloaded bed to the active generation. -/
  | microcodeAbort (c : Ctl)
  /-- MICROCODE_DISCARD (R494): MICROCODE_ACTIVATE DISCARD erases the staged bank. -/
  | microcodeDiscard (c : Ctl)
  /-- SEAL (R622): SEAL recomputes the derived values and sets GLB_SEAL.SEALED. -/
  | seal (c : Ctl)
  /-- UNKNOWN_OPCODE (R351): A descriptor with an unlisted opcode completes with ERR_OPCODE. -/
  | unknownOpcode (c : Ctl) (code : Nat)
  /-- KEEP_WRITE (R572): A queued keep record is written, read back, marked and committed, and its descriptor may complete. -/
  | keepWrite (ok : Bool)
  /-- WDG_QUESTION (R391): A new watchdog question is posted, and an unanswered previous question is judged late. -/
  | wdgQuestion (fn : Nat)
  /-- RATE_LIMIT (R386): Once per second while class 2 events are dropped, RATE_LIMIT is raised to the tenant. -/
  | rateLimit (fn : Nat)
  /-- TWB_TRANSACTION_START (R403): On a free bus the next transaction starts from START. -/
  | twbTransactionStart (b : Nat)
  /-- TWB_TRANSACTION_END (R432): A transaction ends with STOP, and its data and completion are written. -/
  | twbTransactionEnd (b : Nat) (e : TwbEnd)
  /-- IDENT_BUS_RETRY (R427): 10 ms after a NACK, PEC error or timeout during identification, the transaction is repeated. -/
  | identBusRetry (sl : Nat)
  /-- TWB_SCL_TIMEOUT (R415): SCL stays low for TMO_SCL, so the device releases the bus. -/
  | twbSclTimeout (b : Nat) (ms : Nat)
  /-- TWB_SDA_TIMEOUT (R415): SDA stays low with SCL high for TMO_SDA, so recovery runs. -/
  | twbSdaTimeout (b : Nat) (ms : Nat) (pulses : Option Nat)
  /-- TWB_ARB_LOSS (R419): The device loses arbitration, releases SDA and retries later or completes with TWB_ARB_LOST. -/
  | twbArbLoss (b : Nat) (own : Bool)
  /-- TWB_TARGET_TRANSACTION (R429): A remote controller addresses the device, which serves a mailbox write, mailbox read or alert response. -/
  | twbTargetTransaction (b : Nat) (p : TwbTgt)
  /-- TWB_SLEEP (R414): After 1 ms idle with nothing queued, a system-bus cell stops its island clock. -/
  | twbSleep (b : Nat)
  /-- TWB_ALERT_IN (R430): Another device pulls ALERT low, so the device reads the alert response address and raises TWB_ALERT. -/
  | twbAlertIn (b : Nat) (low : Bool)
  /-- TWB_ALERT_REREAD (R430): 100 ms later, with ALERT still low, the alert response address is read again. -/
  | twbAlertReread (b : Nat)
  /-- ALERT_REQ (R430): A write of TWB_TGT.ALERT_REQ drives ALERT low until the alert response is read. -/
  | alertReq (b : Nat) (v : Bool)
  /-- CANCEL (R421): A write of TWB_CTRL.CANCEL cancels every host transfer on the bus. -/
  | cancel (b : Nat)
  /-- RECOVER (R417): A write of TWB_CTRL.RECOVER clears BUS_DEAD and runs recovery. -/
  | recover (b : Nat) (pulses : Option Nat)
  /-- TWB_XFER_TIMEOUT (R421): A TWB_XFER TIMEOUT expires, so the transaction is cancelled. -/
  | twbXferTimeout (b : Nat)
  /-- PD_RD_DETECT (R448): Rd appears on one CC pin, so the port enters AttachWait.SRC. -/
  | pdRdDetect (k : Nat) (orient : Nat) (ra : Bool)
  /-- PD_ATTACH (R448): Rd holds for 150 ms, so the port attaches, switches VCONN and raises PD_ATTACH. -/
  | pdAttach (k : Nat)
  /-- PD_VBUS_READY (R448): VBUS reaches vSafe5V, so cable discovery and Source_Capabilities start. -/
  | pdVbusReady (k : Nat) (vbus : Nat)
  /-- PD_CABLE_IDENTITY (R451): The e-marker's Discover Identity reply sets PDP_CABLE and raises PD_CABLE. -/
  | pdCableIdentity (k : Nat) (curCode : Nat) (vmax : Nat) (epr : Bool) (amid : Option Nat)
  /-- PD_REQUEST (R455): A valid Request is accepted and the new contract enters the plan at the next boundary. -/
  | pdRequest (k : Nat) (pos : Nat) (mv : Nat) (ma : Nat) (rev : Nat) (amid : Option Nat)
  /-- PD_PS_RDY (R455): VBUS stays within tolerance of the new voltage for 1 ms, so PS_RDY is sent. -/
  | pdPsRdy (k : Nat) (vbus : Nat) (us : Nat)
  /-- PD_EPR_ENTER (R453): EPR_Mode Enter is received and EPR mode is entered or refused. -/
  | pdEprEnter (k : Nat) (amid : Option Nat)
  /-- PD_EPR_KEEPALIVE_TIMEOUT (R453): The EPR keep-alive timeout expires, so Hard Reset is sent. -/
  | pdEprKeepaliveTimeout (k : Nat)
  /-- PD_VCONN_SWAP (R450): A VCONN_Swap from the sink is accepted or rejected by VSWAP. -/
  | pdVconnSwap (k : Nat) (amid : Option Nat)
  /-- PD_VCONN_OVERCURRENT (R450): VCONN exceeds 400 mA for 1 ms, so VCONN switches off and PD_FAULT is raised. -/
  | pdVconnOvercurrent (k : Nat) (ma : Nat) (us : Nat)
  /-- PD_HARD_RESET (R460): Hard Reset is sent or received, so the protocol resets, EPR ends and PD_RESET is raised. -/
  | pdHardReset (k : Nat) (received : Bool) (amid : Option Nat)
  /-- PD_HARD_RESET_PARK (R460): 30 ms after a Hard Reset the stage parks and VBUS discharges. -/
  | pdHardResetPark (k : Nat)
  /-- PD_VSAFE0V_HOLD_END (R460): The 700 ms vSafe0V hold ends and the port restarts VBUS. -/
  | pdVsafe0vHoldEnd (k : Nat) (since : Nat)
  /-- PD_SOFT_RESET_RECEIVED (R461): A Soft Reset is accepted and new Source_Capabilities are sent. -/
  | pdSoftResetReceived (k : Nat) (amid : Option Nat)
  /-- PD_SOFT_RESET_TIMEOUT (R461): A sent Soft Reset receives no Accept, so it escalates to Hard Reset. -/
  | pdSoftResetTimeout (k : Nat)
  /-- PD_UNSUPPORTED_MESSAGE (R441): An unused message receives Not_Supported, or a Structured VDM to SOP is NAKed. -/
  | pdUnsupportedMessage (k : Nat) (vdm : Bool) (structured : Bool) (amid : Option Nat)
  /-- PD_ENTER_MODE_ACK (R463): Enter Mode is acknowledged, so the SBU multiplexer connects the diagnostic pair. -/
  | pdEnterModeAck (k : Nat) (amid : Option Nat)
  /-- PD_DETACH (R465): The sink detaches, so the multiplexer opens, the port parks and PD_DETACH is raised. -/
  | pdDetach (k : Nat)
  /-- PD_OVP (R459): VBUS exceeds its over-voltage limit, so the port parks, opens VBUS_EN and sends Hard Reset. -/
  | pdOvp (k : Nat) (vbus : Nat)
  /-- PD_OCP (R459): The port stays in current limit for 50 ms under a fixed contract, so Hard Reset is sent. -/
  | pdOcp (k : Nat)
  /-- PD_ERROR_RECOVERY_END (R449): ErrorRecovery's 250 ms end and the port retries or enters the faulted state. -/
  | pdErrorRecoveryEnd (k : Nat)
  /-- PD_FAULT_CLEAR (R449): A PF write of PDP_CTRL.CLEAR takes the port out of its faulted state. -/
  | pdFaultClear (k : Nat)
  /-- TASK_PERIOD (R477): A task's period boundary runs it for one period and commits its checkpoint. -/
  | taskPeriod (t : Nat) (cycles : Nat) (acts : List TineAct)
  /-- TASK_FAULT (R476): A task exception or period overrun restarts the task from its checkpoint and raises TASK_FAULT. -/
  | taskFault (t : Nat) (overrun : Bool) (acts : List TineAct)
  /-- PAIR_DISAGREE (R481): The pair comparator sees a difference, suppresses the effect and halts both tines. -/
  | pairDisagree (p : Nat) (point : Nat) (acts : List TineAct)
  /-- PAIR_SELF_TEST_END (R482): A quarantined pair's 20 ms self-test ends and the pair becomes a spare or is retired. -/
  | pairSelfTestEnd (p : Nat) (pass : Bool)
  /-- TASK_MIGRATION_RESUME (R483): A spare pair resumes a migrated task from its checkpoint at the task's period boundary. -/
  | taskMigrationResume (t : Nat)
  /-- BED_FAULT (R484): A bed fault re-homes all 26 tasks in order and the bed takes a BED reset. -/
  | bedFault (b : Nat)
  /-- BARRIER_RELEASE (R487): The last member arrives at a barrier and every waiting member is released. -/
  | barrierRelease (k : Nat)
  /-- BARRIER_TIMEOUT (R487): A barrier wait passes its timeout, which is a task fault. -/
  | barrierTimeout (k : Nat) (t : Nat)
  /-- ROLLOUT_BED_STEP (R496): A rollout bed step completes and the next step of the bed reload follows. -/
  | rolloutBedStep (bad : List Nat)
  /-- PAIR_SNAPSHOT_SELECT (R507): A write to ENG_PAIR_SEL snapshots the named pair into ENG_PAIR. -/
  | pairSnapshotSelect (p : Nat)
  /-- TINE_BREAKPOINT_HIT (R486): A pair in debug run reaches a breakpoint and halts with its partner. -/
  | tineBreakpointHit (p : Nat) (addr : Nat)
  /-- THRESHOLD_READBACK (R523): Every 100 ms the Sundial reads back the frost-guard thresholds and rewrites on a mismatch. -/
  | thresholdReadback (bad : List Nat)
  /-- SUNDIAL_SILENT (R527): D0 sees no Sundial heartbeat for 5 ms and enters HALT with CAUSE 0x02. -/
  | sundialSilent (us : Nat)
  /-- SYS_WDG_QUESTION (R528): The Sundial poses a system-watchdog question, and two misses enter HALT with CAUSE 0x03. -/
  | sysWdgQuestion (answer : Option (Nat × Nat))
  /-- AUTO_WARM (R529): RESTART_S after an eligible HALT the Sundial issues WARM, at most 3 times a day. -/
  | autoWarm (env : StartEnv)
  /-- WDG_CLOCK_FAIL (R530): The selected watchdog clock stops, so the watchdog switches clocks or HALT follows if both stop. -/
  | wdgClockFail (clock : Nat) (us : Nat)
  /-- PLL_UNLOCK (R532): The phase-block PLL is unlocked or off its reference for 20 us, so HALT is entered with CAUSE 0x07. -/
  | pllUnlock (us : Nat)
  /-- LATENT_TEST (R538): A periodic latent-fault test runs and a failure sets SAF_LATENT and raises LATENT. -/
  | latentTest (b : Nat) (obj : Nat) (k : Nat) (us : Nat) (pass : Bool)
  /-- SSP_NOP (R542): Side-port NOP frame is answered with zero. -/
  | sspNop (seq : Nat)
  /-- SSP_READ (R542): Side-port READ returns the requested status word. -/
  | sspRead (seq : Nat) (i : Nat)
  /-- SSP_HEARTBEAT (R542): Side-port HEARTBEAT returns its data inverted. -/
  | sspHeartbeat (seq : Nat) (data : Nat)
  /-- SSP_HALT_REQ (R542): Side-port HALT_REQ enters HALT with CAUSE 0x05 when HALT_ALLOW is set. -/
  | sspHaltReq (seq : Nat) (data : Nat)
  /-- BUTTON_SHIP_REQUEST (R551): SERVICE_BTN held low for 5 s with BTN_SHIP requests SHIP. -/
  | buttonShipRequest (ms : Nat)
  /-- BUTTON_RUN_REQUEST (R551): SERVICE_BTN held low 100 ms to 5 s requests RUN. -/
  | buttonRunRequest (ms : Nat)
  /-- HOST_CURTAIL_WRITE (R552): A write of PWR_CTRL.CURTAIL sets or clears the host curtail cause. -/
  | hostCurtailWrite (v : Bool)
  /-- WARM (R565): A write of PWR_CTRL.WARM resets the device but classes W, P and K and runs START from step 2. -/
  | warm (env : StartEnv)
  /-- THERMAL_SENSOR_READ (R574): Every millisecond the device reads all die sensors and reports the hottest. -/
  | thermalSensorRead (temps : List Int)
  /-- THERMAL_SHUTDOWN (R575): The hottest sensor stands at or above SHUT_T for 1 ms, so outputs park and the device enters SENTINEL. -/
  | thermalShutdown
  /-- SENTINEL_ROUND (R556): In SENTINEL a bed wakes for its round each second and runs one period of its slot pairs. -/
  | sentinelRound (b : Nat) (wake : Bool)
  /-- BROWNOUT (R565): The system rail stays below 8,000 mV for 20 us, so the whole device resets and parks. -/
  | brownout (mv : Nat) (us : Nat)
  /-- BROWNOUT_END (R565): The rail stays above 9,000 mV for 10 ms, so START runs from step 1. -/
  | brownoutEnd (mv : Nat) (us : Nat) (env : StartEnv)
  /-- PIN_RESET (R565): RESET_N is held low, so the device resets and START runs from step 2. -/
  | pinReset (us : Nat)
  /-- FEED_LOST (R633): A Planter feed leaves its range for 10 us, so FEED_LOST is set, or both lost put the Planter's slots in safe state. -/
  | feedLost (feed : Nat) (us : Nat)
  /-- FEED_GOOD (R633): A lost feed stays within range for 10 ms and is declared good again. -/
  | feedGood (feed : Nat) (us : Nat)
  /-- CRYSTAL_FAIL (R583): The crystal is declared stopped, so the LPO takes over device time, the Sundial and the PLL. -/
  | crystalFail (us : Nat) (slew : Nat)
  /-- PLL_REF_SWITCH (R583): The PLL reference fails, so the PLL holds, slews to the fallback and raises CLK_FAIL. -/
  | pllRefSwitch (noEdge : Nat) (hz : Nat) (slew : Nat)
  /-- PLL_REF_RETURN (R583): The selected reference has been valid for 100 ms, so the PLL returns to it. -/
  | pllRefReturn (ref : Nat) (hz : Nat) (ms : Nat) (slew : Nat)
  /-- ISLAND_OSC_FAIL (R587): An island oscillator fails, so the island switches to its other oscillator or is handled as dead. -/
  | islandOscFail (i : Nat) (us : Nat) (silent : Bool)
  /-- TIME_TREE_UPDATE (R589): Every 64 us D0 sends device time down the tree and each island corrects its copy. -/
  | timeTreeUpdate (corr : Nat)
  /-- FREEZE_PIN (R592): FREEZE held low for 1 us parks every channel and stops every island clock. -/
  | freezePin (us : Nat)
  /-- FREEZE_RELEASE_PIN (R595): FREEZE held high for 1 us restarts the islands and returns to the mode left. -/
  | freezeReleasePin (us : Nat)
  /-- SAMPLE_PRELOAD (R601): JTAG SAMPLE/PRELOAD samples the boundary with power controls observe only. -/
  | samplePreload (load : Nat)
  /-- SNAP_READ (R598): The JTAG SNAP_READ instruction streams the selected snapshot sections. -/
  | snapRead (mask : Nat)
  /-- TINE_DBG_READ_REG (R597): TINE_DBG reads a register or the PC of both tines of a pair. -/
  | tineDbgReadReg (p : Nat) (r : Nat) (differs : Bool)
  /-- TINE_DBG_WRITE_REG (R597): TINE_DBG writes a register or the PC of both tines of a pair. -/
  | tineDbgWriteReg (p : Nat) (r : Nat) (v : Nat)
  /-- TINE_DBG_READ_DATA (R597): TINE_DBG reads a data-memory word of both tines. -/
  | tineDbgReadData (p : Nat) (addr : Nat) (differs : Bool)
  /-- TINE_DBG_WRITE_DATA (R597): TINE_DBG writes a data-memory word of both tines. -/
  | tineDbgWriteData (p : Nat) (addr : Nat) (v : Nat)
  /-- TINE_DBG_READ_CODE (R597): TINE_DBG reads a code-memory word. -/
  | tineDbgReadCode (p : Nat) (addr : Nat) (differs : Bool)
  /-- TINE_DBG_STEP (R597): TINE_DBG steps a pair by a number of instructions with its comparator active. -/
  | tineDbgStep (p : Nat) (n : Nat) (acts : List TineAct)
  /-- TINE_DBG_SET_BREAKPOINT (R597): TINE_DBG sets a breakpoint of a pair. -/
  | tineDbgSetBreakpoint (p : Nat) (addr : Nat)
  /-- TINE_DBG_CLEAR_BREAKPOINT (R597): TINE_DBG clears a breakpoint of a pair. -/
  | tineDbgClearBreakpoint (p : Nat) (addr : Nat)
  /-- TINE_DBG_RESUME (R597): TINE_DBG resumes a pair halted at a breakpoint in debug run. -/
  | tineDbgResume (p : Nat)
  /-- SVC_LOCK_KEY_WRITE (R602): A write of SVC_LOCK.KEY advances or breaks the sequence that blows SERVICE_LOCK. -/
  | svcLockKeyWrite (v : Nat)
  /-- MISALIGNED_ACCESS (R615): A request spanning registers or longer than 8 bytes completes with Completer Abort. -/
  | misalignedAccess (fn : Nat) (a : Nat) (size : Nat) (write : Bool)
  /-- REGISTER_WRITE (R618): A write to a register with no row of its own is applied or ignored whole by the access rules. -/
  | registerWrite (fn : Nat) (a : Nat) (size : Nat) (v : Nat) (env : StartEnv) (pulses : Option Nat)
  /-- LINK_UP (R332): PERST# rises or the link comes back, so the endpoint trains at the widest width and speed both ends support, and in SENTINEL D18 powers up again. -/
  | linkUp (width : Nat) (speed : Nat)
  /-- VF_ENABLE_WRITE (R367): A configuration write sets or clears SR-IOV VF Enable, so every VF is held with cause 3 or returns. -/
  | vfEnableWrite (en : Bool)
  /-- D3HOT_EXIT (R368): A function returns from D3hot to D0 and fetches and receives writes again. -/
  | d3hotExit (fn : Nat)
  /-- RESET_N_RELEASE (R565): RESET_N returns high after a PIN reset and START runs from step 2. -/
  | resetNRelease (env : StartEnv)
  /-- SYSTEM_RAIL_IN_RANGE (R634): VDD_CORE, VDD_PCIE09, VDD_PCIE18 and VDD_IO all come within range, so step 1 of START may begin. -/
  | systemRailInRange (core : Nat) (pcie09 : Nat) (pcie18 : Nat) (io : Nat) (env : StartEnv)
  /-- START_STEP_TIMEOUT (R560): A START step's trigger does not come within twice the previous step's bound, so the device enters HALT with CAUSE 0x09. -/
  | startStepTimeout (us : Nat)
  /-- TWB_START_SEEN (R418): Another controller's START or STOP on a system bus marks the bus busy or free, and a foreign address lets a sleeping cell stay asleep. -/
  | twbStartSeen (b : Nat) (stop : Bool)
  /-- PD_SENDER_RESPONSE_TIMEOUT (R448): A PD message gets no GoodCRC or reply within the standard's retries, so the port keeps its implicit contract, treats the cable as unmarked or completes with PD_NO_RESPONSE. -/
  | pdSenderResponseTimeout (k : Nat)
  /-- PD_DISCOVER_RESPONSE (R463): A Discover Identity, SVIDs or Modes reply or a NAK arrives during ENTER_SERVICE, so the sequence proceeds or completes with PD_NO_SVC. -/
  | pdDiscoverResponse (k : Nat) (listed : Bool) (amid : Option Nat)
  /-- BUS_SENSOR_MISMATCH (R41): The two bus readings differ by more than 2 % for 1 ms, so MISMATCH latches and a SENSOR event is raised. -/
  | busSensorMismatch
  /-- BUS_GUARD_TRIP (R48): A source exceeds its trip level for two consecutive samples, so SCALE falls, TRIPS increments and GUARD_TRIP is raised. -/
  | busGuardTrip
  /-- BUS_OVERVOLTAGE (R52): The bus stays above OV_V for two samples, so every bus-feeding channel parks. -/
  | busOvervoltage
  /-- BUS_UNDERVOLTAGE (R52): The bus stays below UV_V for two samples, so SCALE becomes 0 for all bus-drawing channels. -/
  | busUndervoltage
  /-- BUS_UV_RESTART (R52): After an under-voltage, the bus exceeds RESTART_V for 100 ms and the Almanac restarts drawing channels from zero. -/
  | busUvRestart
  /-- DEMAND_SOURCE_DISABLE (R46): The planned demand stays below 70 % of the remaining limit for 60 s, so the most recent DEMAND source is disabled. -/
  | demandSourceDisable
  /-- ISLAND_BUS_READY (R56): The donor-regulated bus comes within 2 % of V_SET, so the Almanac plans PD supply and transfers within donor limits. -/
  | islandBusReady
  /-- HB_TEMP_READ (R61): Once per second the device reads the house-battery temperature sensor on TWB64. -/
  | hbTempRead
  /-- HB_TEMP_SUSPEND (R61): The house-battery temperature leaves its window, or no valid reading arrives for 5 s, so the charger enters SUSPEND. -/
  | hbTempSuspend
  /-- ACC_UVLO (R64): The house battery falls below the accessory cut-off, so PHC137 stops and UVLO is set. -/
  | accUvlo
  /-- ACC_RESTART (R64): The house battery exceeds the accessory cut-off by 800 mV, so PHC137 restarts. -/
  | accRestart
  /-- MAINS_LOCK_LOSS (R247): No crossing arrives within 1.5 T, or a period leaves the window, so lock is lost and MAINS_LOST is raised. -/
  | mainsLockLoss
  /-- MAINS_FREE_TRIGGER (R247): While unlocked, a mains trigger is generated every T from device time. -/
  | mainsFreeTrigger
  /-- CAL_ZERO_EXPIRY (R282): A pending Z is dropped 10 minutes after CAL_ZERO. -/
  | calZeroExpiry
  /-- TIME_ANCHOR (R364): At each whole second of device time TIME_ANCHOR goes to every live function. -/
  | timeAnchor
  /-- PERST (R365): PERST#, a hot reset or a link down clears class F fields and holds every function. -/
  | perst
  /-- PF_FLR (R367): An FLR of the PF acts on the PF and clears VF Enable. -/
  | pfFlr
  /-- FENCE_RELEASE (R356): A FENCE's condition is met, so it completes and releases its scope. -/
  | fenceRelease
  /-- FENCE_TIMEOUT (R356): A FENCE's TIMEOUT passes, so it completes with ERR_FENCE_TMO and releases its scope. -/
  | fenceTimeout
  /-- ROLLOUT_DWELL_END (R496): A bed's dwell ends, so the next bed starts or ACTIVE_BANK commits and MCODE_DONE is raised. -/
  | rolloutDwellEnd
  /-- TRACE_WINDOW_READ (R504): A read of ENG_TRACE_WIN3 advances the trace read index. -/
  | traceWindowRead
  /-- SUNDIAL_LOCKSTEP_MISMATCH (R526): The Sundial cores differ, so HALT is entered with CAUSE 0x01. -/
  | sundialLockstepMismatch
  /-- SAF_CTRL_HALT (R532): A PF write of SAF_CTRL.HALT enters HALT with CAUSE 0x06. -/
  | safCtrlHalt
  /-- LATENT_NOW (R547): A write of SAF_CTRL.LATENT_NOW runs every periodic latent test once within 10 min. -/
  | latentNow
  /-- SAFE_RECOVERED (R536): Once the PF's rings run after START following HALT, SAFE_RECOVERED is raised. -/
  | safeRecovered
  /-- SSP_FRAME_ERROR (R541): A side-port frame with a wrong length or CRC is discarded and counted. -/
  | sspFrameError
  /-- SSP_SILENT (R543): No valid side-port frame arrives for TMO ms, so SSP_SILENT is raised once. -/
  | sspSilent
  /-- MODE_REQUEST_SHIP (R551): A write of PWR_CTRL.REQ 0 requests SHIP, which is refused or starts dusk. -/
  | modeRequestShip
  /-- MODE_REQUEST_SENTINEL (R551): A write of PWR_CTRL.REQ 1 requests SENTINEL, which is refused or starts dusk. -/
  | modeRequestSentinel
  /-- MODE_REQUEST_RUN (R551): A write of PWR_CTRL.REQ 3 requests RUN from SENTINEL or during dusk. -/
  | modeRequestRun
  /-- THERMAL_CURTAIL_ON (R552): The hottest sensor stands at or above CURT_T for 1 s, so RUN enters CURTAIL. -/
  | thermalCurtailOn
  /-- THERMAL_CURTAIL_OFF (R552): The sensor stands below CURT_T - 5 C for 10 s, so the thermal curtail cause ends. -/
  | thermalCurtailOff
  /-- THERMAL_SHUTDOWN_END (R575): The sensor stands below CURT_T - 5 C for 60 s, so the device leaves SENTINEL. -/
  | thermalShutdownEnd
  /-- ISLAND_LOW_BATTERY (R553): In ISLAND with no donor and the house battery below cut-off for 10 s, the device dusks to SENTINEL. -/
  | islandLowBattery
  /-- POR (R565): VAON rises through its power-on level, so the whole device resets and START runs from step 1. -/
  | por
  /-- SNAP_STREAM_END (R598): The snapshot stream sends its END block, and a waiting release proceeds. -/
  | snapStreamEnd
  /-- BYPASS (R600): JTAG BYPASS selects the 1-bit bypass register. -/
  | bypass
  /-- IDCODE (R600): JTAG IDCODE returns 0x5641_09E7. -/
  | idcode
  /-- EXTEST (R601): JTAG EXTEST drives the boundary while frozen with power controls held safe. -/
  | extest
  /-- FREEZE (R592): The JTAG FREEZE instruction freezes the device at Update-IR. -/
  | freeze
  /-- THAW (R595): The JTAG THAW instruction releases the freeze and leaves SERVICE. -/
  | thaw
  /-- THAW_DBG (R596): The JTAG THAW_DBG instruction restarts clocks with the park lines held. -/
  | thawDbg
  /-- SVC_STATUS (R600): The JTAG SVC_STATUS instruction returns SVC_STATUS. -/
  | svcStatus
  /-- GLB_TIME_READ (R578): A read of GLB_TIME_LO latches GLB_TIME_HI. -/
  | glbTimeRead
  /-- SERVICE_LOCK_FUSE_BLOWN (R602): The SERVICE_LOCK fuse finishes blowing within 10 ms, so LOCKED is set and SERVICE_LOCKED is raised. -/
  | serviceLockFuseBlown
  deriving DecidableEq, Repr

end Sys2Proof
end

