-- ==== Sys2Proof/Config.lean ====
section
/-! DEFINITION. What an implementation fixes and the values that the spec leaves open. Each is opaque: no proof
can see a value, so a claim about it holds whatever the value is. -/

namespace Sys2Proof.Config

/-- The stream of values that the spec leaves open, one per use: the random source of R391 and R426, and every other
result the spec does not state. Applied to a counter that the state holds and each use advances. -/
opaque freeValue : Nat → Nat

/-- A byte of a section of the snapshot whose layout the spec does not give (R598), by the time of the freeze, the section and the offset. -/
opaque snapByte : Nat → Nat → Nat → Nat

/-- The 64-bit die identifier, fuse loaded (R12). -/
opaque dieUid : Nat

/-- The image key hash and K_sys, fuse loaded (R558 step 2); bytes. -/
opaque kSys : List Nat

end Sys2Proof.Config
end

