-- ==== Sys2Proof/Machine/RegMap.lean ====
section
/-! DEFINITION. The register map: every software-visible register field of the spec as one `Fld`,
with its place, width, access code, reset value, retention class and range (R2, R3, R5, R607 to R613;
each field's own rule stands in its docstring), and the table of all fields by address. -/

namespace Sys2Proof.Machine

/-- The access codes of R3. -/
inductive Acc where
  | ro | rw | rws | w1c | w1s | pfo
  deriving DecidableEq, Repr

/-- The retention classes of R5. -/
inductive Keep where
  | k | p | w | f | x
  deriving DecidableEq, Repr

/-- Where a register stands: in PF BAR0 only, or once per function (PF copy in PF BAR0, VF copy in VF BAR0). -/
inductive Space where
  | pf | fn
  deriving DecidableEq, Repr

/-- How the reset value of a field depends on its instance, where the spec does not give one value for all. -/
inductive RstRule where
  | const | index | icvEnt | homePair | buses65 | phcEnable | phcTopo | phcCoef
  deriving DecidableEq, Repr

/-- One register field. `base` is the byte address of instance 0 in PF BAR0 (for `Space.fn`: the PF copy's),
`vf` the offset in VF BAR0, `n1 s1 n2 s2 n3 s3` the instance counts and strides of up to three indices,
`lo` and `w` the lowest bit and the width. -/
structure Fld where
  id : Nat
  space : Space := .pf
  base : Nat
  vf : Nat := 0
  n1 : Nat := 1
  s1 : Nat := 0
  n2 : Nat := 1
  s2 : Nat := 0
  n3 : Nat := 1
  s3 : Nat := 0
  lo : Nat
  w : Nat
  acc : Acc := .ro
  keep : Keep := .x
  rst : Nat := 0
  rule : RstRule := .const
  /-- Hard-wired: the value never differs from its reset value (R5, "hardwired and fuse-loaded values"). -/
  hard : Bool := false
  /-- Lowest legal value of a written field. -/
  lowest : Nat := 0
  /-- Highest legal value of a written field; `none` where every value of the width is legal. -/
  highest : Option Nat := none
  deriving DecidableEq, Repr


/-- `GLB_ID.PART`, R10. -/
def Reg.GLB_ID.PART : Fld :=
  { id := 0, base := 0x0, lo := 16, w := 16, keep := .p, rst := 0x6410, hard := true }

/-- `GLB_ID.MAP_VER`, R10. -/
def Reg.GLB_ID.MAP_VER : Fld :=
  { id := 1, base := 0x0, lo := 12, w := 4, keep := .p, rst := 0x1, hard := true }

/-- `GLB_ID.TRELLIS_STEP`, R10. -/
def Reg.GLB_ID.TRELLIS_STEP : Fld :=
  { id := 2, base := 0x0, lo := 8, w := 4, keep := .p, rst := 0x5, hard := true }

/-- `GLB_ID.PKG`, R10. -/
def Reg.GLB_ID.PKG : Fld :=
  { id := 3, base := 0x0, lo := 0, w := 8, keep := .p, rst := 0x1, hard := true }

/-- `GLB_STEP.FUSE_MAP`, R11. -/
def Reg.GLB_STEP.FUSE_MAP : Fld :=
  { id := 4, base := 0x4, lo := 16, w := 8, keep := .p, rst := 0x1, hard := true }

/-- `GLB_STEP.PLANTER3_STEP`, R11. -/
def Reg.GLB_STEP.PLANTER3_STEP : Fld :=
  { id := 5, base := 0x4, lo := 12, w := 4, keep := .p, rst := 0x2, hard := true }

/-- `GLB_STEP.PLANTER2_STEP`, R11. -/
def Reg.GLB_STEP.PLANTER2_STEP : Fld :=
  { id := 6, base := 0x4, lo := 8, w := 4, keep := .p, rst := 0x2, hard := true }

/-- `GLB_STEP.PLANTER1_STEP`, R11. -/
def Reg.GLB_STEP.PLANTER1_STEP : Fld :=
  { id := 7, base := 0x4, lo := 4, w := 4, keep := .p, rst := 0x2, hard := true }

/-- `GLB_STEP.PLANTER0_STEP`, R11. -/
def Reg.GLB_STEP.PLANTER0_STEP : Fld :=
  { id := 8, base := 0x4, lo := 0, w := 4, keep := .p, rst := 0x2, hard := true }

/-- `GLB_HEALTH.BED_LOST`, R37. -/
def Reg.GLB_HEALTH.BED_LOST : Fld :=
  { id := 9, base := 0x20, lo := 16, w := 16 }

/-- `GLB_HEALTH.SPARE_PAIRS`, R37. -/
def Reg.GLB_HEALTH.SPARE_PAIRS : Fld :=
  { id := 10, base := 0x20, lo := 9, w := 7 }

/-- `GLB_HEALTH.ROOT_ALT`, R37. -/
def Reg.GLB_HEALTH.ROOT_ALT : Fld :=
  { id := 11, base := 0x20, lo := 8, w := 1 }

/-- `GLB_HEALTH.LANE_SPARED`, R37. -/
def Reg.GLB_HEALTH.LANE_SPARED : Fld :=
  { id := 12, base := 0x20, lo := 4, w := 4 }

/-- `GLB_HEALTH.XTAL_LOST`, R37. -/
def Reg.GLB_HEALTH.XTAL_LOST : Fld :=
  { id := 13, base := 0x20, lo := 3, w := 1 }

/-- `GLB_HEALTH.PCIE_NARROW`, R37. -/
def Reg.GLB_HEALTH.PCIE_NARROW : Fld :=
  { id := 14, base := 0x20, lo := 2, w := 1 }

/-- `GLB_HEALTH.COVERAGE_LOST`, R37. -/
def Reg.GLB_HEALTH.COVERAGE_LOST : Fld :=
  { id := 15, base := 0x20, lo := 1, w := 1 }

/-- `GLB_HEALTH_FE.ICV_SUBST`, R38. -/
def Reg.GLB_HEALTH_FE.ICV_SUBST : Fld :=
  { id := 16, base := 0x24, lo := 12, w := 16 }

/-- `GLB_HEALTH_FE.FCV_LOST`, R38. -/
def Reg.GLB_HEALTH_FE.FCV_LOST : Fld :=
  { id := 17, base := 0x24, lo := 8, w := 4 }

/-- `GLB_HEALTH_FE.FEED_LOST`, R38. -/
def Reg.GLB_HEALTH_FE.FEED_LOST : Fld :=
  { id := 18, base := 0x24, lo := 0, w := 8 }

/-- `SRC_BUS.MISMATCH`, R68. -/
def Reg.SRC_BUS.MISMATCH : Fld :=
  { id := 19, base := 0x10000, lo := 31, w := 1 }

/-- `SRC_BUS.OV`, R68. -/
def Reg.SRC_BUS.OV : Fld :=
  { id := 20, base := 0x10000, lo := 30, w := 1 }

/-- `SRC_BUS.UV`, R68. -/
def Reg.SRC_BUS.UV : Fld :=
  { id := 21, base := 0x10000, lo := 29, w := 1 }

/-- `SRC_BUS.BUS_V`, R68. -/
def Reg.SRC_BUS.BUS_V : Fld :=
  { id := 22, base := 0x10000, lo := 0, w := 19 }

/-- `SRC_BUS_CFG.OV_V`, R69. -/
def Reg.SRC_BUS_CFG.OV_V : Fld :=
  { id := 23, base := 0x10004, lo := 18, w := 9, acc := .rws, keep := .p, rst := 0x1AE, lowest := 421, highest := some 440 }

/-- `SRC_BUS_CFG.UV_V`, R69. -/
def Reg.SRC_BUS_CFG.UV_V : Fld :=
  { id := 24, base := 0x10004, lo := 9, w := 9, acc := .rws, keep := .p, rst := 0x122, lowest := 250, highest := some 299 }

/-- `SRC_BUS_CFG.RESTART_V`, R69. -/
def Reg.SRC_BUS_CFG.RESTART_V : Fld :=
  { id := 25, base := 0x10004, lo := 0, w := 9, acc := .rws, keep := .p, rst := 0x14A, lowest := 300, highest := some 380 }

/-- `SRC_GUARD.ACTIVE`, R70. -/
def Reg.SRC_GUARD.ACTIVE : Fld :=
  { id := 26, base := 0x10008, lo := 31, w := 1 }

/-- `SRC_GUARD.ALL_LOST`, R70. -/
def Reg.SRC_GUARD.ALL_LOST : Fld :=
  { id := 27, base := 0x10008, lo := 30, w := 1 }

/-- `SRC_GUARD.TRIP_PCT`, R70. -/
def Reg.SRC_GUARD.TRIP_PCT : Fld :=
  { id := 28, base := 0x10008, lo := 24, w := 6, acc := .rw, keep := .w, rst := 0x5, lowest := 1, highest := some 20 }

/-- `SRC_GUARD.TRIPS`, R70. -/
def Reg.SRC_GUARD.TRIPS : Fld :=
  { id := 29, base := 0x10008, lo := 16, w := 8 }

/-- `SRC_GUARD.SCALE`, R70. -/
def Reg.SRC_GUARD.SCALE : Fld :=
  { id := 30, base := 0x10008, lo := 0, w := 11, rst := 0x400 }

/-- `SRC_ISLAND.V_SET`, R71. -/
def Reg.SRC_ISLAND.V_SET : Fld :=
  { id := 31, base := 0x1000C, lo := 23, w := 9, acc := .rw, keep := .w, rst := 0x168, lowest := 320, highest := some 400 }

/-- `SRC_ISLAND.DROOP`, R71. -/
def Reg.SRC_ISLAND.DROOP : Fld :=
  { id := 32, base := 0x1000C, lo := 17, w := 6, acc := .rw, keep := .w, rst := 0x5, highest := some 50 }

/-- `SRC_ISLAND.DONOR_MAX`, R71. -/
def Reg.SRC_ISLAND.DONOR_MAX : Fld :=
  { id := 33, base := 0x1000C, lo := 13, w := 4, acc := .rw, keep := .w, rst := 0x4, lowest := 1, highest := some 8 }

/-- `SRC_ISLAND.FLOOR`, R71. -/
def Reg.SRC_ISLAND.FLOOR : Fld :=
  { id := 34, base := 0x1000C, lo := 6, w := 7, acc := .rw, keep := .w, rst := 0x28, lowest := 10, highest := some 90 }

/-- `SRC_ISLAND.ENABLE`, R71. -/
def Reg.SRC_ISLAND.ENABLE : Fld :=
  { id := 35, base := 0x1000C, lo := 0, w := 1, acc := .rw, keep := .w, rst := 0x1 }

/-- `SRC_PORT_CFG.QUAL_T`, R72. -/
def Reg.SRC_PORT_CFG.QUAL_T : Fld :=
  { id := 36, base := 0x10100, n1 := 4, s1 := 0x20, lo := 10, w := 6, acc := .rw, keep := .w, rst := 0x5, lowest := 1, highest := some 60 }

/-- `SRC_PORT_CFG.MODE`, R72. -/
def Reg.SRC_PORT_CFG.MODE : Fld :=
  { id := 37, base := 0x10100, n1 := 4, s1 := 0x20, lo := 8, w := 2, acc := .rw, keep := .w, rst := 0x1, highest := some 2 }

/-- `SRC_PORT_CFG.CLASS_SEL`, R72. -/
def Reg.SRC_PORT_CFG.CLASS_SEL : Fld :=
  { id := 38, base := 0x10100, n1 := 4, s1 := 0x20, lo := 5, w := 3, acc := .rws, keep := .p, highest := some 6 }

/-- `SRC_PORT_LIMIT.OVERRIDE`, R73. -/
def Reg.SRC_PORT_LIMIT.OVERRIDE : Fld :=
  { id := 39, base := 0x10104, n1 := 4, s1 := 0x20, lo := 0, w := 18, acc := .rw, keep := .w, rst := 0x3FFFF }

/-- `SRC_PORT_STATUS.PRESENT`, R74. -/
def Reg.SRC_PORT_STATUS.PRESENT : Fld :=
  { id := 40, base := 0x10108, n1 := 4, s1 := 0x20, lo := 31, w := 1 }

/-- `SRC_PORT_STATUS.ENABLED`, R74. -/
def Reg.SRC_PORT_STATUS.ENABLED : Fld :=
  { id := 41, base := 0x10108, n1 := 4, s1 := 0x20, lo := 30, w := 1 }

/-- `SRC_PORT_STATUS.QUALIFYING`, R74. -/
def Reg.SRC_PORT_STATUS.QUALIFYING : Fld :=
  { id := 42, base := 0x10108, n1 := 4, s1 := 0x20, lo := 29, w := 1 }

/-- `SRC_PORT_STATUS.CLASS`, R74. -/
def Reg.SRC_PORT_STATUS.CLASS : Fld :=
  { id := 43, base := 0x10108, n1 := 4, s1 := 0x20, lo := 26, w := 3, rst := 0x6 }

/-- `SRC_PORT_STATUS.LOST_WHY`, R74. -/
def Reg.SRC_PORT_STATUS.LOST_WHY : Fld :=
  { id := 44, base := 0x10108, n1 := 4, s1 := 0x20, lo := 23, w := 3 }

/-- `SRC_PORT_STATUS.LIMIT_EFF`, R74. -/
def Reg.SRC_PORT_STATUS.LIMIT_EFF : Fld :=
  { id := 45, base := 0x10108, n1 := 4, s1 := 0x20, lo := 0, w := 18, rst := 0x7D0 }

/-- `SRC_PORT_MEAS.VOLT`, R75. -/
def Reg.SRC_PORT_MEAS.VOLT : Fld :=
  { id := 46, base := 0x1010C, n1 := 4, s1 := 0x20, lo := 19, w := 13 }

/-- `SRC_PORT_MEAS.CURR`, R75. -/
def Reg.SRC_PORT_MEAS.CURR : Fld :=
  { id := 47, base := 0x1010C, n1 := 4, s1 := 0x20, lo := 0, w := 19 }

/-- `SRC_HB_CFG.CHEM`, R76. -/
def Reg.SRC_HB_CFG.CHEM : Fld :=
  { id := 48, base := 0x10200, lo := 30, w := 2, acc := .rws, keep := .p, highest := some 2 }

/-- `SRC_HB_CFG.TSENS_ADDR`, R76. -/
def Reg.SRC_HB_CFG.TSENS_ADDR : Fld :=
  { id := 49, base := 0x10200, lo := 23, w := 7, acc := .rws, keep := .p, rst := 0x48 }

/-- `SRC_HB_CFG.ICHG`, R76. -/
def Reg.SRC_HB_CFG.ICHG : Fld :=
  { id := 50, base := 0x10200, lo := 16, w := 7, acc := .rw, keep := .w, rst := 0x32, lowest := 5, highest := some 80 }

/-- `SRC_HB_STATUS.STATE`, R77. -/
def Reg.SRC_HB_STATUS.STATE : Fld :=
  { id := 51, base := 0x10204, lo := 29, w := 3 }

/-- `SRC_HB_STATUS.ABSENT`, R77. -/
def Reg.SRC_HB_STATUS.ABSENT : Fld :=
  { id := 52, base := 0x10204, lo := 28, w := 1 }

/-- `SRC_HB_STATUS.HRAIL`, R77. -/
def Reg.SRC_HB_STATUS.HRAIL : Fld :=
  { id := 53, base := 0x10204, lo := 27, w := 1 }

/-- `SRC_HB_STATUS.WAKE`, R77. -/
def Reg.SRC_HB_STATUS.WAKE : Fld :=
  { id := 54, base := 0x10204, lo := 25, w := 2, keep := .p }

/-- `SRC_HB_STATUS.TEMP`, R77. -/
def Reg.SRC_HB_STATUS.TEMP : Fld :=
  { id := 55, base := 0x10204, lo := 13, w := 12, rst := 0x800 }

/-- `SRC_HB_MEAS.VOLT`, R78. -/
def Reg.SRC_HB_MEAS.VOLT : Fld :=
  { id := 56, base := 0x10208, lo := 16, w := 16 }

/-- `SRC_HB_MEAS.CURR`, R78. -/
def Reg.SRC_HB_MEAS.CURR : Fld :=
  { id := 57, base := 0x10208, lo := 0, w := 16 }

/-- `SRC_ACC_CTRL.MODE`, R79. -/
def Reg.SRC_ACC_CTRL.MODE : Fld :=
  { id := 58, base := 0x10300, lo := 30, w := 2, acc := .rw, keep := .w, rst := 0x1, highest := some 2 }

/-- `SRC_ACC_CTRL.VOUT`, R79. -/
def Reg.SRC_ACC_CTRL.VOUT : Fld :=
  { id := 59, base := 0x10300, lo := 21, w := 9, acc := .rw, keep := .w, rst := 0xF0, lowest := 200, highest := some 280 }

/-- `SRC_ACC_CTRL.ILIM`, R79. -/
def Reg.SRC_ACC_CTRL.ILIM : Fld :=
  { id := 60, base := 0x10300, lo := 14, w := 7, acc := .rw, keep := .w, rst := 0x32, lowest := 5, highest := some 80 }

/-- `SRC_ACC_CTRL.UVLO`, R79. -/
def Reg.SRC_ACC_CTRL.UVLO : Fld :=
  { id := 61, base := 0x10300, lo := 1, w := 1 }

/-- `SRC_ACC_CTRL.RUNNING`, R79. -/
def Reg.SRC_ACC_CTRL.RUNNING : Fld :=
  { id := 62, base := 0x10300, lo := 0, w := 1 }

/-- `PHC_CTRL.ENABLE`, R130. -/
def Reg.PHC_CTRL.ENABLE : Fld :=
  { id := 63, base := 0x20000, n1 := 144, s1 := 0x100, lo := 31, w := 1, acc := .rw, keep := .w, rule := .phcEnable }

/-- `PHC_CTRL.TOPO`, R130. -/
def Reg.PHC_CTRL.TOPO : Fld :=
  { id := 64, base := 0x20000, n1 := 144, s1 := 0x100, lo := 30, w := 1, acc := .rws, keep := .p, rule := .phcTopo }

/-- `PHC_CTRL.SYNC`, R130. -/
def Reg.PHC_CTRL.SYNC : Fld :=
  { id := 65, base := 0x20000, n1 := 144, s1 := 0x100, lo := 29, w := 1, acc := .rw, keep := .w }

/-- `PHC_CTRL.RATIO`, R130. -/
def Reg.PHC_CTRL.RATIO : Fld :=
  { id := 66, base := 0x20000, n1 := 144, s1 := 0x100, lo := 26, w := 3, acc := .rw, keep := .w }

/-- `PHC_CTRL.PEAK_LIM`, R130. -/
def Reg.PHC_CTRL.PEAK_LIM : Fld :=
  { id := 67, base := 0x20000, n1 := 144, s1 := 0x100, lo := 8, w := 7, acc := .rw, keep := .w, rst := 0x78, lowest := 20, highest := some 125 }

/-- `PHC_STATUS.PARKED`, R131. -/
def Reg.PHC_STATUS.PARKED : Fld :=
  { id := 68, base := 0x20004, n1 := 144, s1 := 0x100, lo := 31, w := 1, rst := 0x1 }

/-- `PHC_STATUS.LEAD`, R131. -/
def Reg.PHC_STATUS.LEAD : Fld :=
  { id := 69, base := 0x20004, n1 := 144, s1 := 0x100, lo := 30, w := 1 }

/-- `PHC_STATUS.LOOP_MODE`, R131. -/
def Reg.PHC_STATUS.LOOP_MODE : Fld :=
  { id := 70, base := 0x20004, n1 := 144, s1 := 0x100, lo := 28, w := 2 }

/-- `PHC_STATUS.DIR`, R131. -/
def Reg.PHC_STATUS.DIR : Fld :=
  { id := 71, base := 0x20004, n1 := 144, s1 := 0x100, lo := 26, w := 2 }

/-- `PHC_STATUS.STAGE`, R131. -/
def Reg.PHC_STATUS.STAGE : Fld :=
  { id := 72, base := 0x20004, n1 := 144, s1 := 0x100, lo := 23, w := 3 }

/-- `PHC_STATUS.ACTIVE_PH`, R131. -/
def Reg.PHC_STATUS.ACTIVE_PH : Fld :=
  { id := 73, base := 0x20004, n1 := 144, s1 := 0x100, lo := 20, w := 3 }

/-- `PHC_STATUS.SYNC_LOCK`, R131. -/
def Reg.PHC_STATUS.SYNC_LOCK : Fld :=
  { id := 74, base := 0x20004, n1 := 144, s1 := 0x100, lo := 19, w := 1 }

/-- `PHC_STATUS.SYNC_LOST`, R131. -/
def Reg.PHC_STATUS.SYNC_LOST : Fld :=
  { id := 75, base := 0x20004, n1 := 144, s1 := 0x100, lo := 18, w := 1 }

/-- `PHC_STATUS.SHORT_AT_START`, R131. -/
def Reg.PHC_STATUS.SHORT_AT_START : Fld :=
  { id := 76, base := 0x20004, n1 := 144, s1 := 0x100, lo := 17, w := 1 }

/-- `PHC_STATUS.RISE_ABORT`, R131. -/
def Reg.PHC_STATUS.RISE_ABORT : Fld :=
  { id := 77, base := 0x20004, n1 := 144, s1 := 0x100, lo := 16, w := 1 }

/-- `PHC_STATUS.RUNAWAY`, R131. -/
def Reg.PHC_STATUS.RUNAWAY : Fld :=
  { id := 78, base := 0x20004, n1 := 144, s1 := 0x100, lo := 15, w := 1 }

/-- `PHC_STATUS.DRV_FLT`, R131. -/
def Reg.PHC_STATUS.DRV_FLT : Fld :=
  { id := 79, base := 0x20004, n1 := 144, s1 := 0x100, lo := 14, w := 1 }

/-- `PHC_STATUS.LOOP_UNSET`, R131. -/
def Reg.PHC_STATUS.LOOP_UNSET : Fld :=
  { id := 80, base := 0x20004, n1 := 144, s1 := 0x100, lo := 13, w := 1 }

/-- `PHC_STATUS.WR_REJ`, R131. -/
def Reg.PHC_STATUS.WR_REJ : Fld :=
  { id := 81, base := 0x20004, n1 := 144, s1 := 0x100, lo := 12, w := 1, acc := .w1c }

/-- `PHC_TIMING.PER`, R132. -/
def Reg.PHC_TIMING.PER : Fld :=
  { id := 82, base := 0x20008, n1 := 144, s1 := 0x100, lo := 14, w := 18, acc := .rw, keep := .w, rst := 0xFA00, lowest := 16000, highest := some 160000 }

/-- `PHC_TIMING.PHASE`, R132. -/
def Reg.PHC_TIMING.PHASE : Fld :=
  { id := 83, base := 0x20008, n1 := 144, s1 := 0x100, lo := 2, w := 12, acc := .rw, keep := .w }

/-- `PHC_DT.DT_R`, R133. -/
def Reg.PHC_DT.DT_R : Fld :=
  { id := 84, base := 0x2000C, n1 := 144, s1 := 0x100, lo := 20, w := 12, acc := .rw, keep := .w, rst := 0x140, lowest := 32 }

/-- `PHC_DT.DT_F`, R133. -/
def Reg.PHC_DT.DT_F : Fld :=
  { id := 85, base := 0x2000C, n1 := 144, s1 := 0x100, lo := 8, w := 12, acc := .rw, keep := .w, rst := 0x140, lowest := 32 }

/-- `PHC_DT.MIN_ON`, R133. -/
def Reg.PHC_DT.MIN_ON : Fld :=
  { id := 86, base := 0x2000C, n1 := 144, s1 := 0x100, lo := 0, w := 8, acc := .rw, keep := .w, rst := 0x3C, lowest := 10 }

/-- `PHC_DUTY_LIM.DUTY_MAX`, R134. -/
def Reg.PHC_DUTY_LIM.DUTY_MAX : Fld :=
  { id := 87, base := 0x20010, n1 := 144, s1 := 0x100, lo := 16, w := 16, acc := .rw, keep := .w, rst := 0xF000 }

/-- `PHC_DUTY_LIM.DUTY_MIN`, R134. -/
def Reg.PHC_DUTY_LIM.DUTY_MIN : Fld :=
  { id := 88, base := 0x20010, n1 := 144, s1 := 0x100, lo := 0, w := 16, acc := .rw, keep := .w }

/-- `PHC_SENSE.RSNS`, R135. -/
def Reg.PHC_SENSE.RSNS : Fld :=
  { id := 89, base := 0x20014, n1 := 144, s1 := 0x100, lo := 16, w := 8, acc := .rws, keep := .p, rst := 0x28, lowest := 20, highest := some 50 }

/-- `PHC_SHED.SHED_I`, R136. -/
def Reg.PHC_SHED.SHED_I : Fld :=
  { id := 90, base := 0x20018, n1 := 144, s1 := 0x100, lo := 24, w := 8, acc := .rw, keep := .w, rst := 0x1E, lowest := 10, highest := some 95 }

/-- `PHC_SHED.ADD_I`, R136. -/
def Reg.PHC_SHED.ADD_I : Fld :=
  { id := 91, base := 0x20018, n1 := 144, s1 := 0x100, lo := 16, w := 8, acc := .rw, keep := .w, rst := 0x2D, lowest := 15, highest := some 100 }

/-- `PHC_SHED.SHED_DWELL`, R136. -/
def Reg.PHC_SHED.SHED_DWELL : Fld :=
  { id := 92, base := 0x20018, n1 := 144, s1 := 0x100, lo := 8, w := 8, acc := .rw, keep := .w, rst := 0x64, lowest := 1 }

/-- `PHC_SHED.SHED_EN`, R136. -/
def Reg.PHC_SHED.SHED_EN : Fld :=
  { id := 93, base := 0x20018, n1 := 144, s1 := 0x100, lo := 0, w := 1, acc := .rw, keep := .w, rst := 0x1 }

/-- `PHC_START.SHORT_V`, R137. -/
def Reg.PHC_START.SHORT_V : Fld :=
  { id := 94, base := 0x2001C, n1 := 144, s1 := 0x100, lo := 24, w := 8, acc := .rw, keep := .w, rst := 0xF, lowest := 5, highest := some 50 }

/-- `PHC_START.RISE_V`, R137. -/
def Reg.PHC_START.RISE_V : Fld :=
  { id := 95, base := 0x2001C, n1 := 144, s1 := 0x100, lo := 16, w := 8, acc := .rw, keep := .w, rst := 0x1E, lowest := 10, highest := some 100 }

/-- `PHC_START.RISE_TMO`, R137. -/
def Reg.PHC_START.RISE_TMO : Fld :=
  { id := 96, base := 0x2001C, n1 := 144, s1 := 0x100, lo := 8, w := 8, acc := .rw, keep := .w, rst := 0x32, lowest := 1 }

/-- `PHC_START.RETRY_MAX`, R137. -/
def Reg.PHC_START.RETRY_MAX : Fld :=
  { id := 97, base := 0x2001C, n1 := 144, s1 := 0x100, lo := 4, w := 4, acc := .rw, keep := .w, rst := 0x3 }

/-- `PHC_SS_A.SEGS`, R138. -/
def Reg.PHC_SS_A.SEGS : Fld :=
  { id := 98, base := 0x20020, n1 := 144, s1 := 0x100, lo := 0, w := 32, acc := .rw, keep := .w, rst := 0x832020A }

/-- `PHC_SS_B.SEGS`, R138. -/
def Reg.PHC_SS_B.SEGS : Fld :=
  { id := 99, base := 0x20024, n1 := 144, s1 := 0x100, lo := 0, w := 32, acc := .rw, keep := .w, rst := 0xA64 }

/-- `PHC_ST_A.SEGS`, R138. -/
def Reg.PHC_ST_A.SEGS : Fld :=
  { id := 100, base := 0x20028, n1 := 144, s1 := 0x100, lo := 0, w := 32, acc := .rw, keep := .w, rst := 0x5000A14 }

/-- `PHC_ST_B.SEGS`, R138. -/
def Reg.PHC_ST_B.SEGS : Fld :=
  { id := 101, base := 0x2002C, n1 := 144, s1 := 0x100, lo := 0, w := 32, acc := .rw, keep := .w }

/-- `PHC_BURST.BURST_I`, R139. -/
def Reg.PHC_BURST.BURST_I : Fld :=
  { id := 102, base := 0x20030, n1 := 144, s1 := 0x100, lo := 24, w := 8, acc := .rw, keep := .w, rst := 0x1E, lowest := 5, highest := some 200 }

/-- `PHC_BURST.BURST_PK`, R139. -/
def Reg.PHC_BURST.BURST_PK : Fld :=
  { id := 103, base := 0x20030, n1 := 144, s1 := 0x100, lo := 16, w := 8, acc := .rw, keep := .w, rst := 0x3C, lowest := 10, highest := some 250 }

/-- `PHC_BURST.BURST_ON`, R139. -/
def Reg.PHC_BURST.BURST_ON : Fld :=
  { id := 104, base := 0x20030, n1 := 144, s1 := 0x100, lo := 8, w := 8, acc := .rw, keep := .w, rst := 0x8, lowest := 1, highest := some 64 }

/-- `PHC_BURST.BURST_EN`, R139. -/
def Reg.PHC_BURST.BURST_EN : Fld :=
  { id := 105, base := 0x20030, n1 := 144, s1 := 0x100, lo := 0, w := 1, acc := .rw, keep := .w, rst := 0x1 }

/-- `PHC_LOOP.APPLY`, R140. -/
def Reg.PHC_LOOP.APPLY : Fld :=
  { id := 106, base := 0x20034, n1 := 144, s1 := 0x100, lo := 31, w := 1, acc := .w1s }

/-- `PHC_LOOP.VL_DIV`, R140. -/
def Reg.PHC_LOOP.VL_DIV : Fld :=
  { id := 107, base := 0x20034, n1 := 144, s1 := 0x100, lo := 16, w := 5, acc := .rw, keep := .w, rst := 0x4, lowest := 1, highest := some 16 }

/-- `PHC_LOOP.CL_SHIFT`, R140. -/
def Reg.PHC_LOOP.CL_SHIFT : Fld :=
  { id := 108, base := 0x20034, n1 := 144, s1 := 0x100, lo := 8, w := 3, acc := .rw, keep := .w }

/-- `PHC_LOOP.VL_SHIFT`, R140. -/
def Reg.PHC_LOOP.VL_SHIFT : Fld :=
  { id := 109, base := 0x20034, n1 := 144, s1 := 0x100, lo := 4, w := 3, acc := .rw, keep := .w }

/-- `PHC_LOOP.BL_SHIFT`, R140. -/
def Reg.PHC_LOOP.BL_SHIFT : Fld :=
  { id := 110, base := 0x20034, n1 := 144, s1 := 0x100, lo := 0, w := 3, acc := .rw, keep := .w }

/-- `PHC_REF_I.REF_I`, R141. -/
def Reg.PHC_REF_I.REF_I : Fld :=
  { id := 111, base := 0x20038, n1 := 144, s1 := 0x100, lo := 0, w := 18 }

/-- `PHC_REF_V.REF_V`, R141. -/
def Reg.PHC_REF_V.REF_V : Fld :=
  { id := 112, base := 0x2003C, n1 := 144, s1 := 0x100, lo := 0, w := 17 }

/-- `PHC_MEAS_I.MEAS_I`, R141. -/
def Reg.PHC_MEAS_I.MEAS_I : Fld :=
  { id := 113, base := 0x20040, n1 := 144, s1 := 0x100, lo := 0, w := 18 }

/-- `PHC_MEAS_V.MEAS_V`, R141. -/
def Reg.PHC_MEAS_V.MEAS_V : Fld :=
  { id := 114, base := 0x20044, n1 := 144, s1 := 0x100, lo := 0, w := 17 }

/-- `PHC_OUT.DUTY`, R141. -/
def Reg.PHC_OUT.DUTY : Fld :=
  { id := 115, base := 0x20048, n1 := 144, s1 := 0x100, lo := 16, w := 16 }

/-- `PHC_PER_EFF.PER_EFF`, R141. -/
def Reg.PHC_PER_EFF.PER_EFF : Fld :=
  { id := 116, base := 0x2004C, n1 := 144, s1 := 0x100, lo := 0, w := 18, rst := 0xFA00 }

/-- `PHC_IMBAL.IMB_PCT`, R141. -/
def Reg.PHC_IMBAL.IMB_PCT : Fld :=
  { id := 117, base := 0x20050, n1 := 144, s1 := 0x100, lo := 0, w := 8 }

/-- `PHC_CNT.CBC`, R141. -/
def Reg.PHC_CNT.CBC : Fld :=
  { id := 118, base := 0x20054, n1 := 144, s1 := 0x100, lo := 16, w := 16 }

/-- `PHC_CNT.RETRIES`, R141. -/
def Reg.PHC_CNT.RETRIES : Fld :=
  { id := 119, base := 0x20054, n1 := 144, s1 := 0x100, lo := 8, w := 8 }

/-- `PHC_CNT.SYNC_LOSSES`, R141. -/
def Reg.PHC_CNT.SYNC_LOSSES : Fld :=
  { id := 120, base := 0x20054, n1 := 144, s1 := 0x100, lo := 0, w := 8 }

/-- `PHC_GCTL.SYNC_LOSS_N`, R143. -/
def Reg.PHC_GCTL.SYNC_LOSS_N : Fld :=
  { id := 121, base := 0x2F000, lo := 16, w := 4, acc := .rw, keep := .w, rst := 0x4, lowest := 2 }

/-- `PHC_GCTL.SYNC_OUT_EN`, R143. -/
def Reg.PHC_GCTL.SYNC_OUT_EN : Fld :=
  { id := 122, base := 0x2F000, lo := 8, w := 1, acc := .rw, keep := .w }

/-- `PHC_GCTL.SYNC_OUT_SRC`, R143. -/
def Reg.PHC_GCTL.SYNC_OUT_SRC : Fld :=
  { id := 123, base := 0x2F000, lo := 0, w := 8, acc := .rw, keep := .w, highest := some 143 }

/-- `PHC_GANG.GANG_EN`, R144. -/
def Reg.PHC_GANG.GANG_EN : Fld :=
  { id := 124, base := 0x2F004, lo := 0, w := 32, acc := .rws, keep := .p }

/-- `SLT_CFG.ENABLE`, R194. -/
def Reg.SLT_CFG.ENABLE : Fld :=
  { id := 125, base := 0x30000, n1 := 64, s1 := 0x100, lo := 31, w := 1, acc := .rw, keep := .w, rst := 0x1 }

/-- `SLT_CFG.IDENT`, R194. -/
def Reg.SLT_CFG.IDENT : Fld :=
  { id := 126, base := 0x30000, n1 := 64, s1 := 0x100, lo := 30, w := 1, acc := .rw, keep := .w }

/-- `SLT_CFG.SWAP_AUTH`, R194. -/
def Reg.SLT_CFG.SWAP_AUTH : Fld :=
  { id := 127, base := 0x30000, n1 := 64, s1 := 0x100, lo := 29, w := 1, acc := .rw, keep := .w }

/-- `SLT_CFG.WET_AUTO`, R194. -/
def Reg.SLT_CFG.WET_AUTO : Fld :=
  { id := 128, base := 0x30000, n1 := 64, s1 := 0x100, lo := 28, w := 1, acc := .rw, keep := .w, rst := 0x1 }

/-- `SLT_CFG.DEBOUNCE`, R194. -/
def Reg.SLT_CFG.DEBOUNCE : Fld :=
  { id := 129, base := 0x30000, n1 := 64, s1 := 0x100, lo := 16, w := 8, acc := .rw, keep := .w, rst := 0x32, lowest := 10, highest := some 200 }

/-- `SLT_CFG.AUTH_POLL`, R194. -/
def Reg.SLT_CFG.AUTH_POLL : Fld :=
  { id := 130, base := 0x30000, n1 := 64, s1 := 0x100, lo := 8, w := 8, acc := .rw, keep := .w, rst := 0xA, lowest := 1 }

/-- `SLT_STATUS.STATE`, R195. -/
def Reg.SLT_STATUS.STATE : Fld :=
  { id := 131, base := 0x30004, n1 := 64, s1 := 0x100, lo := 28, w := 4 }

/-- `SLT_STATUS.PHASE`, R195. -/
def Reg.SLT_STATUS.PHASE : Fld :=
  { id := 132, base := 0x30004, n1 := 64, s1 := 0x100, lo := 25, w := 3 }

/-- `SLT_STATUS.ZONE`, R195. -/
def Reg.SLT_STATUS.ZONE : Fld :=
  { id := 133, base := 0x30004, n1 := 64, s1 := 0x100, lo := 22, w := 3, rst := 0x7 }

/-- `SLT_STATUS.TYPE`, R195. -/
def Reg.SLT_STATUS.TYPE : Fld :=
  { id := 134, base := 0x30004, n1 := 64, s1 := 0x100, lo := 18, w := 4, rst := 0xF }

/-- `SLT_STATUS.ID_LOW`, R195. -/
def Reg.SLT_STATUS.ID_LOW : Fld :=
  { id := 135, base := 0x30004, n1 := 64, s1 := 0x100, lo := 17, w := 1 }

/-- `SLT_STATUS.WET`, R195. -/
def Reg.SLT_STATUS.WET : Fld :=
  { id := 136, base := 0x30004, n1 := 64, s1 := 0x100, lo := 16, w := 1 }

/-- `SLT_STATUS.ROLE`, R195. -/
def Reg.SLT_STATUS.ROLE : Fld :=
  { id := 137, base := 0x30004, n1 := 64, s1 := 0x100, lo := 14, w := 2 }

/-- `SLT_STATUS.RECEIVER`, R195. -/
def Reg.SLT_STATUS.RECEIVER : Fld :=
  { id := 138, base := 0x30004, n1 := 64, s1 := 0x100, lo := 13, w := 1 }

/-- `SLT_STATUS.NTC_A_BAD`, R195. -/
def Reg.SLT_STATUS.NTC_A_BAD : Fld :=
  { id := 139, base := 0x30004, n1 := 64, s1 := 0x100, lo := 12, w := 1 }

/-- `SLT_STATUS.NTC_B_BAD`, R195. -/
def Reg.SLT_STATUS.NTC_B_BAD : Fld :=
  { id := 140, base := 0x30004, n1 := 64, s1 := 0x100, lo := 11, w := 1 }

/-- `SLT_OWNER.CLAIMED`, R196. -/
def Reg.SLT_OWNER.CLAIMED : Fld :=
  { id := 141, base := 0x30008, n1 := 64, s1 := 0x100, lo := 31, w := 1, keep := .k }

/-- `SLT_OWNER.OWNER`, R196. -/
def Reg.SLT_OWNER.OWNER : Fld :=
  { id := 142, base := 0x30008, n1 := 64, s1 := 0x100, lo := 0, w := 11, keep := .k }

/-- `SLT_FAULT.FAULTED`, R197. -/
def Reg.SLT_FAULT.FAULTED : Fld :=
  { id := 143, base := 0x3000C, n1 := 64, s1 := 0x100, lo := 31, w := 1, keep := .w }

/-- `SLT_FAULT.CLEAR`, R197. -/
def Reg.SLT_FAULT.CLEAR : Fld :=
  { id := 144, base := 0x3000C, n1 := 64, s1 := 0x100, lo := 30, w := 1, acc := .w1s }

/-- `SLT_FAULT.CAUSE`, R197. -/
def Reg.SLT_FAULT.CAUSE : Fld :=
  { id := 145, base := 0x3000C, n1 := 64, s1 := 0x100, lo := 16, w := 8, keep := .w }

/-- `SLT_FAULT.COUNT`, R197. -/
def Reg.SLT_FAULT.COUNT : Fld :=
  { id := 146, base := 0x3000C, n1 := 64, s1 := 0x100, lo := 0, w := 16, keep := .w }

/-- `SLT_PACK_ID_LO.ID_LO`, R198. -/
def Reg.SLT_PACK_ID_LO.ID_LO : Fld :=
  { id := 147, base := 0x30010, n1 := 64, s1 := 0x100, lo := 0, w := 32 }

/-- `SLT_PACK_ID_HI.ID_HI`, R198. -/
def Reg.SLT_PACK_ID_HI.ID_HI : Fld :=
  { id := 148, base := 0x30014, n1 := 64, s1 := 0x100, lo := 0, w := 32 }

/-- `SLT_PACK_A.CHEM`, R198. -/
def Reg.SLT_PACK_A.CHEM : Fld :=
  { id := 149, base := 0x30018, n1 := 64, s1 := 0x100, lo := 31, w := 1 }

/-- `SLT_PACK_A.CELLS`, R198. -/
def Reg.SLT_PACK_A.CELLS : Fld :=
  { id := 150, base := 0x30018, n1 := 64, s1 := 0x100, lo := 26, w := 5 }

/-- `SLT_PACK_A.ICHG_MAX`, R198. -/
def Reg.SLT_PACK_A.ICHG_MAX : Fld :=
  { id := 151, base := 0x30018, n1 := 64, s1 := 0x100, lo := 17, w := 9 }

/-- `SLT_PACK_A.IDIS_MAX`, R198. -/
def Reg.SLT_PACK_A.IDIS_MAX : Fld :=
  { id := 152, base := 0x30018, n1 := 64, s1 := 0x100, lo := 8, w := 9 }

/-- `SLT_PACK_B.VCHG_CELL`, R198. -/
def Reg.SLT_PACK_B.VCHG_CELL : Fld :=
  { id := 153, base := 0x3001C, n1 := 64, s1 := 0x100, lo := 16, w := 16 }

/-- `SLT_PACK_B.VDIS_CELL`, R198. -/
def Reg.SLT_PACK_B.VDIS_CELL : Fld :=
  { id := 154, base := 0x3001C, n1 := 64, s1 := 0x100, lo := 0, w := 16 }

/-- `SLT_PROF_A.CV_CELL`, R198. -/
def Reg.SLT_PROF_A.CV_CELL : Fld :=
  { id := 155, base := 0x30020, n1 := 64, s1 := 0x100, lo := 16, w := 16, keep := .w }

/-- `SLT_PROF_A.ICC`, R198. -/
def Reg.SLT_PROF_A.ICC : Fld :=
  { id := 156, base := 0x30020, n1 := 64, s1 := 0x100, lo := 7, w := 9, keep := .w }

/-- `SLT_PROF_B.IPRE`, R198. -/
def Reg.SLT_PROF_B.IPRE : Fld :=
  { id := 157, base := 0x30024, n1 := 64, s1 := 0x100, lo := 24, w := 8, keep := .w }

/-- `SLT_PROF_B.ITRICKLE`, R198. -/
def Reg.SLT_PROF_B.ITRICKLE : Fld :=
  { id := 158, base := 0x30024, n1 := 64, s1 := 0x100, lo := 16, w := 8, keep := .w }

/-- `SLT_PROF_B.TAPER`, R198. -/
def Reg.SLT_PROF_B.TAPER : Fld :=
  { id := 159, base := 0x30024, n1 := 64, s1 := 0x100, lo := 8, w := 8, keep := .w }

/-- `SLT_TIMERS.CV_MAX`, R198. -/
def Reg.SLT_TIMERS.CV_MAX : Fld :=
  { id := 160, base := 0x30028, n1 := 64, s1 := 0x100, lo := 22, w := 10, keep := .w }

/-- `SLT_TIMERS.TOTAL_MAX`, R198. -/
def Reg.SLT_TIMERS.TOTAL_MAX : Fld :=
  { id := 161, base := 0x30028, n1 := 64, s1 := 0x100, lo := 14, w := 8, keep := .w }

/-- `SLT_TIMERS.TRICKLE_MAX`, R198. -/
def Reg.SLT_TIMERS.TRICKLE_MAX : Fld :=
  { id := 162, base := 0x30028, n1 := 64, s1 := 0x100, lo := 7, w := 7, keep := .w }

/-- `SLT_TIMERS.PRE_MAX`, R198. -/
def Reg.SLT_TIMERS.PRE_MAX : Fld :=
  { id := 163, base := 0x30028, n1 := 64, s1 := 0x100, lo := 0, w := 7, keep := .w }

/-- `SLT_TEMP_WIN.T1`, R199. -/
def Reg.SLT_TEMP_WIN.T1 : Fld :=
  { id := 164, base := 0x3002C, n1 := 64, s1 := 0x100, lo := 24, w := 8 }

/-- `SLT_TEMP_WIN.T2`, R199. -/
def Reg.SLT_TEMP_WIN.T2 : Fld :=
  { id := 165, base := 0x3002C, n1 := 64, s1 := 0x100, lo := 16, w := 8, rst := 0xA }

/-- `SLT_TEMP_WIN.T3`, R199. -/
def Reg.SLT_TEMP_WIN.T3 : Fld :=
  { id := 166, base := 0x3002C, n1 := 64, s1 := 0x100, lo := 8, w := 8, rst := 0x2D }

/-- `SLT_TEMP_WIN.T4`, R199. -/
def Reg.SLT_TEMP_WIN.T4 : Fld :=
  { id := 167, base := 0x3002C, n1 := 64, s1 := 0x100, lo := 0, w := 8, rst := 0x32 }

/-- `SLT_TEMP.NTC_A`, R199. -/
def Reg.SLT_TEMP.NTC_A : Fld :=
  { id := 168, base := 0x30030, n1 := 64, s1 := 0x100, lo := 16, w := 16, rst := 0x8000 }

/-- `SLT_TEMP.NTC_B`, R199. -/
def Reg.SLT_TEMP.NTC_B : Fld :=
  { id := 169, base := 0x30030, n1 := 64, s1 := 0x100, lo := 0, w := 16, rst := 0x8000 }

/-- `SLT_VPACK.VPACK`, R199. -/
def Reg.SLT_VPACK.VPACK : Fld :=
  { id := 170, base := 0x30034, n1 := 64, s1 := 0x100, lo := 0, w := 17 }

/-- `SLT_TIME.PH_TIME`, R199. -/
def Reg.SLT_TIME.PH_TIME : Fld :=
  { id := 171, base := 0x30038, n1 := 64, s1 := 0x100, lo := 16, w := 16 }

/-- `SLT_TIME.CHG_TIME`, R199. -/
def Reg.SLT_TIME.CHG_TIME : Fld :=
  { id := 172, base := 0x30038, n1 := 64, s1 := 0x100, lo := 0, w := 16 }

/-- `SLT_LINK.PEER`, R199. -/
def Reg.SLT_LINK.PEER : Fld :=
  { id := 173, base := 0x3003C, n1 := 64, s1 := 0x100, lo := 24, w := 8, rst := 0xFF }

/-- `SLT_DIAG.ID_MV`, R199. -/
def Reg.SLT_DIAG.ID_MV : Fld :=
  { id := 174, base := 0x30040, n1 := 64, s1 := 0x100, lo := 20, w := 12 }

/-- `SLT_DIAG.LEAK_R`, R199. -/
def Reg.SLT_DIAG.LEAK_R : Fld :=
  { id := 175, base := 0x30040, n1 := 64, s1 := 0x100, lo := 8, w := 12, rst := 0xFFF }

/-- `SLT_DIAG.LEAK_V`, R199. -/
def Reg.SLT_DIAG.LEAK_V : Fld :=
  { id := 176, base := 0x30040, n1 := 64, s1 := 0x100, lo := 0, w := 8 }

/-- `SLT_AUD_Q.Q`, R199. -/
def Reg.SLT_AUD_Q.Q : Fld :=
  { id := 177, base := 0x30048, n1 := 64, s1 := 0x100, lo := 0, w := 32, keep := .w }

/-- `SLT_AUD_E.VALID`, R199. -/
def Reg.SLT_AUD_E.VALID : Fld :=
  { id := 178, base := 0x3004C, n1 := 64, s1 := 0x100, lo := 31, w := 1, keep := .w }

/-- `SLT_AUD_E.E`, R199. -/
def Reg.SLT_AUD_E.E : Fld :=
  { id := 179, base := 0x3004C, n1 := 64, s1 := 0x100, lo := 0, w := 31, keep := .w }

/-- `SLT_BOARD.IMAX_BRD`, R200. -/
def Reg.SLT_BOARD.IMAX_BRD : Fld :=
  { id := 180, base := 0x30044, n1 := 64, s1 := 0x100, lo := 23, w := 9, acc := .rws, keep := .p, rst := 0xC8, lowest := 10, highest := some 400 }

/-- `SLT_BOARD.VMAX_BRD`, R200. -/
def Reg.SLT_BOARD.VMAX_BRD : Fld :=
  { id := 181, base := 0x30044, n1 := 64, s1 := 0x100, lo := 6, w := 17, acc := .rws, keep := .p, rst := 0x11D28, lowest := 5000, highest := some 80000 }

/-- `SLT_GCFG.T_OT`, R201. -/
def Reg.SLT_GCFG.T_OT : Fld :=
  { id := 182, base := 0x3F000, lo := 24, w := 8, acc := .rws, keep := .p, rst := 0x3C, lowest := 50, highest := some 75 }

/-- `SLT_PTYPE_A.VALID`, R202. -/
def Reg.SLT_PTYPE_A.VALID : Fld :=
  { id := 183, base := 0x3F100, n1 := 9, s1 := 0x8, lo := 31, w := 1, acc := .rws, keep := .p }

/-- `SLT_PTYPE_A.CHEM`, R202. -/
def Reg.SLT_PTYPE_A.CHEM : Fld :=
  { id := 184, base := 0x3F100, n1 := 9, s1 := 0x8, lo := 30, w := 1, acc := .rws, keep := .p }

/-- `SLT_PTYPE_A.CELLS`, R202. -/
def Reg.SLT_PTYPE_A.CELLS : Fld :=
  { id := 185, base := 0x3F100, n1 := 9, s1 := 0x8, lo := 25, w := 5, acc := .rws, keep := .p }

/-- `SLT_PTYPE_A.ICHG_MAX`, R202. -/
def Reg.SLT_PTYPE_A.ICHG_MAX : Fld :=
  { id := 186, base := 0x3F100, n1 := 9, s1 := 0x8, lo := 16, w := 9, acc := .rws, keep := .p }

/-- `SLT_PTYPE_A.IDIS_MAX`, R202. -/
def Reg.SLT_PTYPE_A.IDIS_MAX : Fld :=
  { id := 187, base := 0x3F100, n1 := 9, s1 := 0x8, lo := 7, w := 9, acc := .rws, keep := .p }

/-- `SLT_PTYPE_B.VCHG_CELL`, R202. -/
def Reg.SLT_PTYPE_B.VCHG_CELL : Fld :=
  { id := 188, base := 0x3F104, n1 := 9, s1 := 0x8, lo := 16, w := 16, acc := .rws, keep := .p }

/-- `SLT_PTYPE_B.VDIS_CELL`, R202. -/
def Reg.SLT_PTYPE_B.VDIS_CELL : Fld :=
  { id := 189, base := 0x3F104, n1 := 9, s1 := 0x8, lo := 0, w := 16, acc := .rws, keep := .p }

/-- `ALM_STATUS.RUNNING`, R236. -/
def Reg.ALM_STATUS.RUNNING : Fld :=
  { id := 190, base := 0x90000, lo := 31, w := 1 }

/-- `ALM_STATUS.ROOT_ALT`, R236. -/
def Reg.ALM_STATUS.ROOT_ALT : Fld :=
  { id := 191, base := 0x90000, lo := 30, w := 1 }

/-- `ALM_STATUS.CURTAIL`, R236. -/
def Reg.ALM_STATUS.CURTAIL : Fld :=
  { id := 192, base := 0x90000, lo := 29, w := 1 }

/-- `ALM_STATUS.ISLAND`, R236. -/
def Reg.ALM_STATUS.ISLAND : Fld :=
  { id := 193, base := 0x90000, lo := 28, w := 1 }

/-- `ALM_STATUS.GUARD`, R236. -/
def Reg.ALM_STATUS.GUARD : Fld :=
  { id := 194, base := 0x90000, lo := 27, w := 1 }

/-- `ALM_STATUS.HELD_FN`, R236. -/
def Reg.ALM_STATUS.HELD_FN : Fld :=
  { id := 195, base := 0x90000, lo := 16, w := 11 }

/-- `ALM_STATUS.SCHEMA`, R236. -/
def Reg.ALM_STATUS.SCHEMA : Fld :=
  { id := 196, base := 0x90000, lo := 0, w := 16 }

/-- `ALM_TICK.TICK`, R237. -/
def Reg.ALM_TICK.TICK : Fld :=
  { id := 197, base := 0x90004, lo := 0, w := 32 }

/-- `ALM_GEN.GEN`, R237. -/
def Reg.ALM_GEN.GEN : Fld :=
  { id := 198, base := 0x90008, lo := 0, w := 32 }

/-- `ALM_BUDGET.BUDGET`, R237. -/
def Reg.ALM_BUDGET.BUDGET : Fld :=
  { id := 199, base := 0x90014, lo := 0, w := 21 }

/-- `ALM_DRAW.DRAW`, R237. -/
def Reg.ALM_DRAW.DRAW : Fld :=
  { id := 200, base := 0x90018, lo := 0, w := 21 }

/-- `ALM_FEED.FEED`, R237. -/
def Reg.ALM_FEED.FEED : Fld :=
  { id := 201, base := 0x9001C, lo := 0, w := 21 }

/-- `ALM_CNT.SKIPPED`, R237. -/
def Reg.ALM_CNT.SKIPPED : Fld :=
  { id := 202, base := 0x90020, lo := 24, w := 8 }

/-- `ALM_CNT.LATE_PLAN`, R237. -/
def Reg.ALM_CNT.LATE_PLAN : Fld :=
  { id := 203, base := 0x90020, lo := 16, w := 8 }

/-- `ALM_CNT.LATE_ISLAND`, R237. -/
def Reg.ALM_CNT.LATE_ISLAND : Fld :=
  { id := 204, base := 0x90020, lo := 8, w := 8 }

/-- `ALM_CNT.HANDOVERS`, R237. -/
def Reg.ALM_CNT.HANDOVERS : Fld :=
  { id := 205, base := 0x90020, lo := 0, w := 8 }

/-- `ALM_CFG.BUDGET_PCT`, R238. -/
def Reg.ALM_CFG.BUDGET_PCT : Fld :=
  { id := 206, base := 0x9000C, lo := 25, w := 7, acc := .rw, keep := .w, rst := 0x5F, lowest := 50, highest := some 100 }

/-- `ALM_CFG.ETA_PCT`, R238. -/
def Reg.ALM_CFG.ETA_PCT : Fld :=
  { id := 207, base := 0x9000C, lo := 18, w := 7, acc := .rw, keep := .w, rst := 0x60, lowest := 80, highest := some 99 }

/-- `ALM_CFG.CURTAIL_PCT`, R238. -/
def Reg.ALM_CFG.CURTAIL_PCT : Fld :=
  { id := 208, base := 0x9000C, lo := 11, w := 7, acc := .rw, keep := .w, rst := 0x32, lowest := 10, highest := some 100 }

/-- `ALM_CFG.HOLD_PCT`, R238. -/
def Reg.ALM_CFG.HOLD_PCT : Fld :=
  { id := 209, base := 0x9000C, lo := 4, w := 7, acc := .rw, keep := .w, rst := 0x32, lowest := 10, highest := some 100 }

/-- `ALM_RAMP.UP`, R239. -/
def Reg.ALM_RAMP.UP : Fld :=
  { id := 210, base := 0x90010, lo := 24, w := 8, acc := .rw, keep := .w, rst := 0xA, lowest := 1, highest := some 40 }

/-- `ALM_RAMP.DN`, R239. -/
def Reg.ALM_RAMP.DN : Fld :=
  { id := 211, base := 0x90010, lo := 16, w := 8, acc := .rw, keep := .w, rst := 0x14, lowest := 1, highest := some 40 }

/-- `ALM_RAMP.QCUT_PCT`, R239. -/
def Reg.ALM_RAMP.QCUT_PCT : Fld :=
  { id := 212, base := 0x90010, lo := 8, w := 8, acc := .rw, keep := .w, rst := 0x5, lowest := 1, highest := some 5 }

/-- `ALM_VIEW_SEL.CHAN`, R240. -/
def Reg.ALM_VIEW_SEL.CHAN : Fld :=
  { id := 213, base := 0x90024, lo := 0, w := 8, acc := .rw, highest := some 143 }

/-- `ALM_VIEW_BASE.TICK`, R240. -/
def Reg.ALM_VIEW_BASE.TICK : Fld :=
  { id := 214, base := 0x90028, lo := 0, w := 32 }

/-- `ALM_VIEW.VALID`, R240. -/
def Reg.ALM_VIEW.VALID : Fld :=
  { id := 215, base := 0x90080, n1 := 32, s1 := 0x4, lo := 31, w := 1 }

/-- `ALM_VIEW.COMMITTED`, R240. -/
def Reg.ALM_VIEW.COMMITTED : Fld :=
  { id := 216, base := 0x90080, n1 := 32, s1 := 0x4, lo := 30, w := 1 }

/-- `ALM_VIEW.REF_I`, R240. -/
def Reg.ALM_VIEW.REF_I : Fld :=
  { id := 217, base := 0x90080, n1 := 32, s1 := 0x4, lo := 0, w := 18 }

/-- `ALM_AUX_I.EN`, R241. -/
def Reg.ALM_AUX_I.EN : Fld :=
  { id := 218, base := 0x90040, n1 := 6, s1 := 0x4, lo := 31, w := 1, acc := .pfo, keep := .w }

/-- `ALM_AUX_I.REF_I`, R241. -/
def Reg.ALM_AUX_I.REF_I : Fld :=
  { id := 219, base := 0x90040, n1 := 6, s1 := 0x4, lo := 0, w := 18, acc := .pfo, keep := .w }

/-- `ALM_AUX_V.REF_V`, R241. -/
def Reg.ALM_AUX_V.REF_V : Fld :=
  { id := 220, base := 0x90060, n1 := 6, s1 := 0x4, lo := 0, w := 17, acc := .pfo, keep := .w }

/-- `ALM_SLOT_A.PRIO`, R242. -/
def Reg.ALM_SLOT_A.PRIO : Fld :=
  { id := 221, base := 0x90400, n1 := 64, s1 := 0x8, lo := 30, w := 2, keep := .w }

/-- `ALM_SLOT_A.RESV`, R242. -/
def Reg.ALM_SLOT_A.RESV : Fld :=
  { id := 222, base := 0x90400, n1 := 64, s1 := 0x8, lo := 28, w := 2, keep := .w }

/-- `ALM_SLOT_A.HELD`, R242. -/
def Reg.ALM_SLOT_A.HELD : Fld :=
  { id := 223, base := 0x90400, n1 := 64, s1 := 0x8, lo := 27, w := 1 }

/-- `ALM_SLOT_A.QCUT`, R242. -/
def Reg.ALM_SLOT_A.QCUT : Fld :=
  { id := 224, base := 0x90400, n1 := 64, s1 := 0x8, lo := 26, w := 1 }

/-- `ALM_SLOT_A.RESV_SOC`, R242. -/
def Reg.ALM_SLOT_A.RESV_SOC : Fld :=
  { id := 225, base := 0x90400, n1 := 64, s1 := 0x8, lo := 12, w := 14, keep := .w }

/-- `ALM_SLOT_B.RESV_TICK`, R242. -/
def Reg.ALM_SLOT_B.RESV_TICK : Fld :=
  { id := 226, base := 0x90404, n1 := 64, s1 := 0x8, lo := 0, w := 32, keep := .w }

/-- `MSR_ICV_CTRL.RUN`, R288. -/
def Reg.MSR_ICV_CTRL.RUN : Fld :=
  { id := 227, base := 0x40000, n1 := 16, s1 := 0x400, lo := 31, w := 1, acc := .rw, keep := .w, rst := 0x1 }

/-- `MSR_ICV_CTRL.LP`, R288. -/
def Reg.MSR_ICV_CTRL.LP : Fld :=
  { id := 228, base := 0x40000, n1 := 16, s1 := 0x400, lo := 30, w := 1, acc := .rw, keep := .w }

/-- `MSR_ICV_CTRL.WINDOWS`, R288. -/
def Reg.MSR_ICV_CTRL.WINDOWS : Fld :=
  { id := 229, base := 0x40000, n1 := 16, s1 := 0x400, lo := 29, w := 1, acc := .rw, keep := .w, rst := 0x1 }

/-- `MSR_ICV_CTRL.TRIG_SRC`, R288. -/
def Reg.MSR_ICV_CTRL.TRIG_SRC : Fld :=
  { id := 230, base := 0x40000, n1 := 16, s1 := 0x400, lo := 26, w := 3, acc := .rw, keep := .w }

/-- `MSR_ICV_CTRL.TRIG_POLICY`, R288. -/
def Reg.MSR_ICV_CTRL.TRIG_POLICY : Fld :=
  { id := 231, base := 0x40000, n1 := 16, s1 := 0x400, lo := 24, w := 2, acc := .rw, keep := .w, rst := 0x1, highest := some 2 }

/-- `MSR_ICV_CTRL.TICK_MS`, R288. -/
def Reg.MSR_ICV_CTRL.TICK_MS : Fld :=
  { id := 232, base := 0x40000, n1 := 16, s1 := 0x400, lo := 16, w := 8, acc := .rw, keep := .w, rst := 0xA, lowest := 1 }

/-- `MSR_ICV_CTRL.SETTLE`, R288. -/
def Reg.MSR_ICV_CTRL.SETTLE : Fld :=
  { id := 233, base := 0x40000, n1 := 16, s1 := 0x400, lo := 5, w := 11, acc := .rw, keep := .w, rst := 0x1F4, lowest := 100, highest := some 2000 }

/-- `MSR_ICV_STATUS.STATE`, R289. -/
def Reg.MSR_ICV_STATUS.STATE : Fld :=
  { id := 234, base := 0x40004, n1 := 16, s1 := 0x400, lo := 29, w := 3 }

/-- `MSR_ICV_STATUS.FAILED`, R289. -/
def Reg.MSR_ICV_STATUS.FAILED : Fld :=
  { id := 235, base := 0x40004, n1 := 16, s1 := 0x400, lo := 28, w := 1 }

/-- `MSR_ICV_STATUS.TRIG_LATCHED`, R289. -/
def Reg.MSR_ICV_STATUS.TRIG_LATCHED : Fld :=
  { id := 236, base := 0x40004, n1 := 16, s1 := 0x400, lo := 27, w := 1 }

/-- `MSR_ICV_STATUS.ENTRY`, R289. -/
def Reg.MSR_ICV_STATUS.ENTRY : Fld :=
  { id := 237, base := 0x40004, n1 := 16, s1 := 0x400, lo := 22, w := 5 }

/-- `MSR_ICV_STATUS.REPEAT_DONE`, R289. -/
def Reg.MSR_ICV_STATUS.REPEAT_DONE : Fld :=
  { id := 238, base := 0x40004, n1 := 16, s1 := 0x400, lo := 14, w := 8 }

/-- `MSR_ICV_STATUS.WINDOW`, R289. -/
def Reg.MSR_ICV_STATUS.WINDOW : Fld :=
  { id := 239, base := 0x40004, n1 := 16, s1 := 0x400, lo := 12, w := 2 }

/-- `MSR_ICV_STATUS.URG_Q`, R289. -/
def Reg.MSR_ICV_STATUS.URG_Q : Fld :=
  { id := 240, base := 0x40004, n1 := 16, s1 := 0x400, lo := 8, w := 4 }

/-- `MSR_ICV_CNT.TRIG_OVR`, R289. -/
def Reg.MSR_ICV_CNT.TRIG_OVR : Fld :=
  { id := 241, base := 0x40008, n1 := 16, s1 := 0x400, lo := 24, w := 8 }

/-- `MSR_ICV_CNT.ABORTS`, R289. -/
def Reg.MSR_ICV_CNT.ABORTS : Fld :=
  { id := 242, base := 0x40008, n1 := 16, s1 := 0x400, lo := 16, w := 8 }

/-- `MSR_ICV_CNT.OVR`, R289. -/
def Reg.MSR_ICV_CNT.OVR : Fld :=
  { id := 243, base := 0x40008, n1 := 16, s1 := 0x400, lo := 8, w := 8 }

/-- `MSR_ICV_CNT.TIMEOUTS`, R289. -/
def Reg.MSR_ICV_CNT.TIMEOUTS : Fld :=
  { id := 244, base := 0x40008, n1 := 16, s1 := 0x400, lo := 0, w := 8 }

/-- `MSR_ICV_PASS.PASS_LAST`, R289. -/
def Reg.MSR_ICV_PASS.PASS_LAST : Fld :=
  { id := 245, base := 0x4000C, n1 := 16, s1 := 0x400, lo := 12, w := 20 }

/-- `MSR_ICV_BUDGET.PASS_CHK`, R289. -/
def Reg.MSR_ICV_BUDGET.PASS_CHK : Fld :=
  { id := 246, base := 0x40010, n1 := 16, s1 := 0x400, lo := 0, w := 20, keep := .w, rst := 0x48930 }

/-- `MSR_ICV_SUBST.CHAN_SUBST`, R289. -/
def Reg.MSR_ICV_SUBST.CHAN_SUBST : Fld :=
  { id := 247, base := 0x40014, n1 := 16, s1 := 0x400, lo := 0, w := 16 }

/-- `MSR_ICV_RNG.RNG`, R289. -/
def Reg.MSR_ICV_RNG.RNG : Fld :=
  { id := 248, base := 0x40018, n1 := 16, s1 := 0x400, lo := 0, w := 32, rst := 0x55596596 }

/-- `MSR_ICV_LAST.VALUE`, R289. -/
def Reg.MSR_ICV_LAST.VALUE : Fld :=
  { id := 249, base := 0x40200, n1 := 16, s1 := 0x400, n2 := 16, s2 := 0x4, lo := 0, w := 32, rst := 0x80000000 }

/-- `MSR_ICV_ENT_A.CHAN`, R290. -/
def Reg.MSR_ICV_ENT_A.CHAN : Fld :=
  { id := 250, base := 0x40100, n1 := 16, s1 := 0x400, n2 := 32, s2 := 0x8, lo := 27, w := 5, acc := .rw, keep := .w, rule := .icvEnt }

/-- `MSR_ICV_ENT_A.RANGE`, R290. -/
def Reg.MSR_ICV_ENT_A.RANGE : Fld :=
  { id := 251, base := 0x40100, n1 := 16, s1 := 0x400, n2 := 32, s2 := 0x8, lo := 25, w := 2, acc := .rw, keep := .w, rule := .icvEnt }

/-- `MSR_ICV_ENT_A.CYC`, R290. -/
def Reg.MSR_ICV_ENT_A.CYC : Fld :=
  { id := 252, base := 0x40100, n1 := 16, s1 := 0x400, n2 := 32, s2 := 0x8, lo := 21, w := 4, acc := .rw, keep := .w }

/-- `MSR_ICV_ENT_A.REPEAT`, R290. -/
def Reg.MSR_ICV_ENT_A.REPEAT : Fld :=
  { id := 253, base := 0x40100, n1 := 16, s1 := 0x400, n2 := 32, s2 := 0x8, lo := 13, w := 8, acc := .rw, keep := .w, rule := .icvEnt }

/-- `MSR_ICV_ENT_A.TRIG`, R290. -/
def Reg.MSR_ICV_ENT_A.TRIG : Fld :=
  { id := 254, base := 0x40100, n1 := 16, s1 := 0x400, n2 := 32, s2 := 0x8, lo := 12, w := 1, acc := .rw, keep := .w }

/-- `MSR_ICV_ENT_A.RING`, R290. -/
def Reg.MSR_ICV_ENT_A.RING : Fld :=
  { id := 255, base := 0x40100, n1 := 16, s1 := 0x400, n2 := 32, s2 := 0x8, lo := 11, w := 1, acc := .rw, keep := .w }

/-- `MSR_ICV_ENT_A.AVG`, R290. -/
def Reg.MSR_ICV_ENT_A.AVG : Fld :=
  { id := 256, base := 0x40100, n1 := 16, s1 := 0x400, n2 := 32, s2 := 0x8, lo := 10, w := 1, acc := .rw, keep := .w }

/-- `MSR_ICV_ENT_B.DELAY`, R290. -/
def Reg.MSR_ICV_ENT_B.DELAY : Fld :=
  { id := 257, base := 0x40104, n1 := 16, s1 := 0x400, n2 := 32, s2 := 0x8, lo := 0, w := 16, acc := .rw, keep := .w }

/-- `MSR_ICV_OFF.OFFSET`, R291. -/
def Reg.MSR_ICV_OFF.OFFSET : Fld :=
  { id := 258, base := 0x40240, n1 := 16, s1 := 0x400, n2 := 16, s2 := 0x18, n3 := 3, s3 := 0x8, lo := 0, w := 32, keep := .k }

/-- `MSR_ICV_GAIN.GAIN`, R291. -/
def Reg.MSR_ICV_GAIN.GAIN : Fld :=
  { id := 259, base := 0x40244, n1 := 16, s1 := 0x400, n2 := 16, s2 := 0x18, n3 := 3, s3 := 0x8, lo := 0, w := 32, keep := .k, rst := 0x40000000 }

/-- `MSR_FCV_STATUS.STATE`, R292. -/
def Reg.MSR_FCV_STATUS.STATE : Fld :=
  { id := 260, base := 0x44000, n1 := 4, s1 := 0x400, lo := 30, w := 2 }

/-- `MSR_FCV_STATUS.SUBST_ICV`, R292. -/
def Reg.MSR_FCV_STATUS.SUBST_ICV : Fld :=
  { id := 261, base := 0x44000, n1 := 4, s1 := 0x400, lo := 28, w := 2 }

/-- `MSR_FCV_STATUS.CHANS`, R292. -/
def Reg.MSR_FCV_STATUS.CHANS : Fld :=
  { id := 262, base := 0x44000, n1 := 4, s1 := 0x400, lo := 25, w := 3 }

/-- `MSR_FCV_XCHK.AGE_MAX`, R292. -/
def Reg.MSR_FCV_XCHK.AGE_MAX : Fld :=
  { id := 263, base := 0x44004, n1 := 4, s1 := 0x400, lo := 16, w := 16 }

/-- `MSR_FCV_XCHK.MISMATCH`, R292. -/
def Reg.MSR_FCV_XCHK.MISMATCH : Fld :=
  { id := 264, base := 0x44004, n1 := 4, s1 := 0x400, lo := 8, w := 8 }

/-- `MSR_FCV_XCHK.REFEREES`, R292. -/
def Reg.MSR_FCV_XCHK.REFEREES : Fld :=
  { id := 265, base := 0x44004, n1 := 4, s1 := 0x400, lo := 0, w := 8 }

/-- `MSR_FCV_LAST.VALUE`, R292. -/
def Reg.MSR_FCV_LAST.VALUE : Fld :=
  { id := 266, base := 0x44008, n1 := 4, s1 := 0x400, lo := 0, w := 32, rst := 0x80000000 }

/-- `MSR_DAC_CTRL.EN`, R292. -/
def Reg.MSR_DAC_CTRL.EN : Fld :=
  { id := 267, base := 0x44100, n1 := 4, s1 := 0x400, lo := 31, w := 1, acc := .pfo }

/-- `MSR_DAC_CTRL.ATT`, R292. -/
def Reg.MSR_DAC_CTRL.ATT : Fld :=
  { id := 268, base := 0x44100, n1 := 4, s1 := 0x400, lo := 30, w := 1, acc := .pfo }

/-- `MSR_DAC_CTRL.TARGET`, R292. -/
def Reg.MSR_DAC_CTRL.TARGET : Fld :=
  { id := 269, base := 0x44100, n1 := 4, s1 := 0x400, lo := 16, w := 8, acc := .pfo }

/-- `MSR_DAC_CTRL.CODE`, R292. -/
def Reg.MSR_DAC_CTRL.CODE : Fld :=
  { id := 270, base := 0x44100, n1 := 4, s1 := 0x400, lo := 0, w := 16, acc := .pfo }

/-- `MSR_DAC_STATUS.USER`, R292. -/
def Reg.MSR_DAC_STATUS.USER : Fld :=
  { id := 271, base := 0x44104, n1 := 4, s1 := 0x400, lo := 30, w := 2 }

/-- `MSR_DAC_STATUS.CONNECTED`, R292. -/
def Reg.MSR_DAC_STATUS.CONNECTED : Fld :=
  { id := 272, base := 0x44104, n1 := 4, s1 := 0x400, lo := 29, w := 1 }

/-- `MSR_DAC_STATUS.REJ`, R292. -/
def Reg.MSR_DAC_STATUS.REJ : Fld :=
  { id := 273, base := 0x44104, n1 := 4, s1 := 0x400, lo := 28, w := 1, acc := .w1c }

/-- `MSR_MAINS.SRC`, R293. -/
def Reg.MSR_MAINS.SRC : Fld :=
  { id := 274, base := 0x4F000, lo := 30, w := 2, acc := .rw, keep := .w, highest := some 2 }

/-- `MSR_MAINS.LOCKED`, R293. -/
def Reg.MSR_MAINS.LOCKED : Fld :=
  { id := 275, base := 0x4F000, lo := 29, w := 1 }

/-- `MSR_MAINS.PERIOD`, R293. -/
def Reg.MSR_MAINS.PERIOD : Fld :=
  { id := 276, base := 0x4F000, lo := 0, w := 18, rst := 0x30D40 }

/-- `MSR_GRP.SRC`, R294. -/
def Reg.MSR_GRP.SRC : Fld :=
  { id := 277, base := 0x4F010, n1 := 4, s1 := 0x4, lo := 29, w := 3, acc := .rw, keep := .w, highest := some 3 }

/-- `MSR_GRP.TICK_MS`, R294. -/
def Reg.MSR_GRP.TICK_MS : Fld :=
  { id := 278, base := 0x4F010, n1 := 4, s1 := 0x4, lo := 21, w := 8, acc := .rw, keep := .w, rst := 0xA, lowest := 1 }

/-- `MSR_GRP.MEMBERS`, R294. -/
def Reg.MSR_GRP.MEMBERS : Fld :=
  { id := 279, base := 0x4F010, n1 := 4, s1 := 0x4, lo := 0, w := 16 }

/-- `MSR_NTC.B_K`, R295. -/
def Reg.MSR_NTC.B_K : Fld :=
  { id := 280, base := 0x4F020, lo := 19, w := 13, acc := .rws, keep := .p, rst := 0xD6B, lowest := 2000, highest := some 5000 }

/-- `MSR_NTC.NOM_OHM`, R295. -/
def Reg.MSR_NTC.NOM_OHM : Fld :=
  { id := 281, base := 0x4F020, lo := 0, w := 18, acc := .rws, keep := .p, rst := 0x2710, lowest := 1000, highest := some 100000 }

/-- `GAU_CFG.SHUNT`, R325. -/
def Reg.GAU_CFG.SHUNT : Fld :=
  { id := 282, base := 0x50000, n1 := 64, s1 := 0x80, lo := 21, w := 11, acc := .rws, keep := .p, rst := 0x3E8, lowest := 500, highest := some 2000 }

/-- `GAU_CFG.AZERO`, R325. -/
def Reg.GAU_CFG.AZERO : Fld :=
  { id := 283, base := 0x50000, n1 := 64, s1 := 0x80, lo := 0, w := 1, acc := .rw, keep := .w, rst := 0x1 }

/-- `GAU_STATUS.STATE`, R326. -/
def Reg.GAU_STATUS.STATE : Fld :=
  { id := 284, base := 0x50004, n1 := 64, s1 := 0x80, lo := 30, w := 2 }

/-- `GAU_STATUS.DEGRADED`, R326. -/
def Reg.GAU_STATUS.DEGRADED : Fld :=
  { id := 285, base := 0x50004, n1 := 64, s1 := 0x80, lo := 29, w := 1 }

/-- `GAU_STATUS.LEARNED`, R326. -/
def Reg.GAU_STATUS.LEARNED : Fld :=
  { id := 286, base := 0x50004, n1 := 64, s1 := 0x80, lo := 28, w := 1 }

/-- `GAU_STATUS.ANCHOR`, R326. -/
def Reg.GAU_STATUS.ANCHOR : Fld :=
  { id := 287, base := 0x50004, n1 := 64, s1 := 0x80, lo := 26, w := 2 }

/-- `GAU_STATUS.ACC_OVR`, R326. -/
def Reg.GAU_STATUS.ACC_OVR : Fld :=
  { id := 288, base := 0x50004, n1 := 64, s1 := 0x80, lo := 25, w := 1, acc := .w1c }

/-- `GAU_STATUS.CUT_DEF`, R326. -/
def Reg.GAU_STATUS.CUT_DEF : Fld :=
  { id := 289, base := 0x50004, n1 := 64, s1 := 0x80, lo := 24, w := 1, rst := 0x1 }

/-- `GAU_STATUS.AGE_H`, R326. -/
def Reg.GAU_STATUS.AGE_H : Fld :=
  { id := 290, base := 0x50004, n1 := 64, s1 := 0x80, lo := 16, w := 8 }

/-- `GAU_STATUS.UNCAL`, R326. -/
def Reg.GAU_STATUS.UNCAL : Fld :=
  { id := 291, base := 0x50004, n1 := 64, s1 := 0x80, lo := 15, w := 1, rst := 0x1 }

/-- `GAU_SOC.SOC`, R327. -/
def Reg.GAU_SOC.SOC : Fld :=
  { id := 292, base := 0x50008, n1 := 64, s1 := 0x80, lo := 16, w := 16 }

/-- `GAU_SOC.V_CUT_CELL`, R327. -/
def Reg.GAU_SOC.V_CUT_CELL : Fld :=
  { id := 293, base := 0x50008, n1 := 64, s1 := 0x80, lo := 0, w := 16 }

/-- `GAU_QFULL.Q_FULL`, R327. -/
def Reg.GAU_QFULL.Q_FULL : Fld :=
  { id := 294, base := 0x5000C, n1 := 64, s1 := 0x80, lo := 0, w := 32 }

/-- `GAU_QREM.Q_REM`, R327. -/
def Reg.GAU_QREM.Q_REM : Fld :=
  { id := 295, base := 0x50010, n1 := 64, s1 := 0x80, lo := 0, w := 32 }

/-- `GAU_EREM.E_REM`, R327. -/
def Reg.GAU_EREM.E_REM : Fld :=
  { id := 296, base := 0x50014, n1 := 64, s1 := 0x80, lo := 0, w := 32 }

/-- `GAU_ACC_LO.ACC_LO`, R327. -/
def Reg.GAU_ACC_LO.ACC_LO : Fld :=
  { id := 297, base := 0x50018, n1 := 64, s1 := 0x80, lo := 0, w := 32 }

/-- `GAU_ACC_HI.ACC_HI`, R327. -/
def Reg.GAU_ACC_HI.ACC_HI : Fld :=
  { id := 298, base := 0x5001C, n1 := 64, s1 := 0x80, lo := 0, w := 16 }

/-- `GAU_NSAMP.NSAMP`, R327. -/
def Reg.GAU_NSAMP.NSAMP : Fld :=
  { id := 299, base := 0x50020, n1 := 64, s1 := 0x80, lo := 0, w := 32 }

/-- `GAU_CURR.I_AVG`, R327. -/
def Reg.GAU_CURR.I_AVG : Fld :=
  { id := 300, base := 0x50024, n1 := 64, s1 := 0x80, lo := 0, w := 18 }

/-- `GAU_THRU_IN.THRU_IN`, R327. -/
def Reg.GAU_THRU_IN.THRU_IN : Fld :=
  { id := 301, base := 0x50028, n1 := 64, s1 := 0x80, lo := 0, w := 32 }

/-- `GAU_THRU_OUT.THRU_OUT`, R327. -/
def Reg.GAU_THRU_OUT.THRU_OUT : Fld :=
  { id := 302, base := 0x5002C, n1 := 64, s1 := 0x80, lo := 0, w := 32 }

/-- `GAU_ZTRIM.ZTRIM`, R327. -/
def Reg.GAU_ZTRIM.ZTRIM : Fld :=
  { id := 303, base := 0x50040, n1 := 64, s1 := 0x80, lo := 0, w := 11 }

/-- `GAU_SNAP.SEQ`, R327. -/
def Reg.GAU_SNAP.SEQ : Fld :=
  { id := 304, base := 0x50044, n1 := 64, s1 := 0x80, lo := 0, w := 32 }

/-- `GAU_CNT.LEARN_CNT`, R327. -/
def Reg.GAU_CNT.LEARN_CNT : Fld :=
  { id := 305, base := 0x50048, n1 := 64, s1 := 0x80, lo := 16, w := 16 }

/-- `GAU_CNT.SNAP_DROP`, R327. -/
def Reg.GAU_CNT.SNAP_DROP : Fld :=
  { id := 306, base := 0x50048, n1 := 64, s1 := 0x80, lo := 8, w := 8 }

/-- `GAU_CNT.OVR_CNT`, R327. -/
def Reg.GAU_CNT.OVR_CNT : Fld :=
  { id := 307, base := 0x50048, n1 := 64, s1 := 0x80, lo := 0, w := 8 }

/-- `GAU_WARN.LVL0`, R328. -/
def Reg.GAU_WARN.LVL0 : Fld :=
  { id := 308, base := 0x50030, n1 := 64, s1 := 0x80, lo := 0, w := 8, keep := .f }

/-- `GAU_WARN.LVL1`, R328. -/
def Reg.GAU_WARN.LVL1 : Fld :=
  { id := 309, base := 0x50030, n1 := 64, s1 := 0x80, lo := 8, w := 8, keep := .f }

/-- `GAU_WARN.LVL2`, R328. -/
def Reg.GAU_WARN.LVL2 : Fld :=
  { id := 310, base := 0x50030, n1 := 64, s1 := 0x80, lo := 16, w := 8, keep := .f }

/-- `GAU_WARN.LVL3`, R328. -/
def Reg.GAU_WARN.LVL3 : Fld :=
  { id := 311, base := 0x50030, n1 := 64, s1 := 0x80, lo := 24, w := 8, keep := .f }

/-- `GAU_WARN_ST.FIRED`, R328. -/
def Reg.GAU_WARN_ST.FIRED : Fld :=
  { id := 312, base := 0x50034, n1 := 64, s1 := 0x80, lo := 0, w := 4, keep := .f }

/-- `GAU_CAL_OFF.OFF`, R329. -/
def Reg.GAU_CAL_OFF.OFF : Fld :=
  { id := 313, base := 0x50038, n1 := 64, s1 := 0x80, lo := 0, w := 32, keep := .k }

/-- `GAU_CAL_GAIN.GAIN`, R329. -/
def Reg.GAU_CAL_GAIN.GAIN : Fld :=
  { id := 314, base := 0x5003C, n1 := 64, s1 := 0x80, lo := 0, w := 32, keep := .k, rst := 0x40000000 }

/-- `HIF_LINK.SPEED`, R371. -/
def Reg.HIF_LINK.SPEED : Fld :=
  { id := 315, base := 0x8000, lo := 28, w := 4 }

/-- `HIF_LINK.WIDTH`, R371. -/
def Reg.HIF_LINK.WIDTH : Fld :=
  { id := 316, base := 0x8000, lo := 24, w := 4 }

/-- `HIF_LINK.LANE_FAULT`, R371. -/
def Reg.HIF_LINK.LANE_FAULT : Fld :=
  { id := 317, base := 0x8000, lo := 20, w := 4 }

/-- `HIF_LINK.RETRAINS`, R371. -/
def Reg.HIF_LINK.RETRAINS : Fld :=
  { id := 318, base := 0x8000, lo := 0, w := 16 }

/-- `HIF_CFG.POLL_CAP`, R371. -/
def Reg.HIF_CFG.POLL_CAP : Fld :=
  { id := 319, base := 0x8004, lo := 24, w := 8, acc := .rw, keep := .w, rst := 0xC8, lowest := 50, highest := some 200 }

/-- `HIF_CFG.POLL_MIN`, R371. -/
def Reg.HIF_CFG.POLL_MIN : Fld :=
  { id := 320, base := 0x8004, lo := 16, w := 8, acc := .rw, keep := .w, rst := 0x5, lowest := 5, highest := some 50 }

/-- `HIF_POLL.POLL_BW`, R371. -/
def Reg.HIF_POLL.POLL_BW : Fld :=
  { id := 321, base := 0x8008, lo := 24, w := 8 }

/-- `HIF_POLL.ACTIVE_FN`, R371. -/
def Reg.HIF_POLL.ACTIVE_FN : Fld :=
  { id := 322, base := 0x8008, lo := 13, w := 11 }

/-- `HIF_POLL.INT_ACT`, R371. -/
def Reg.HIF_POLL.INT_ACT : Fld :=
  { id := 323, base := 0x8008, lo := 0, w := 13, rst := 0x5 }

/-- `HIF_CNT.CRC_ERRS`, R371. -/
def Reg.HIF_CNT.CRC_ERRS : Fld :=
  { id := 324, base := 0x800C, lo := 16, w := 16 }

/-- `HIF_CNT.RING_ERRS`, R371. -/
def Reg.HIF_CNT.RING_ERRS : Fld :=
  { id := 325, base := 0x800C, lo := 8, w := 8 }

/-- `HIF_CNT.DMA_ERRS`, R371. -/
def Reg.HIF_CNT.DMA_ERRS : Fld :=
  { id := 326, base := 0x800C, lo := 0, w := 8 }

/-- `HIF_RNG_WIN.GROUP`, R371. -/
def Reg.HIF_RNG_WIN.GROUP : Fld :=
  { id := 327, base := 0x8010, lo := 0, w := 2, acc := .rw, keep := .w }

/-- `FN_STATUS.LIVE`, R372. -/
def Reg.FN_STATUS.LIVE : Fld :=
  { id := 328, space := .fn, base := 0x8020, vf := 0x0, n1 := 1025, s1 := 0x0, lo := 31, w := 1 }

/-- `FN_STATUS.HELD`, R372. -/
def Reg.FN_STATUS.HELD : Fld :=
  { id := 329, space := .fn, base := 0x8020, vf := 0x0, n1 := 1025, s1 := 0x0, lo := 30, w := 1 }

/-- `FN_STATUS.FLR_BUSY`, R372. -/
def Reg.FN_STATUS.FLR_BUSY : Fld :=
  { id := 330, space := .fn, base := 0x8020, vf := 0x0, n1 := 1025, s1 := 0x0, lo := 29, w := 1 }

/-- `FN_STATUS.FN`, R372. -/
def Reg.FN_STATUS.FN : Fld :=
  { id := 331, space := .fn, base := 0x8020, vf := 0x0, n1 := 1025, s1 := 0x0, lo := 0, w := 11, keep := .p, rule := .index, hard := true }

/-- `FN_DB_LO.ADDR_LO`, R373. -/
def Reg.FN_DB_LO.ADDR_LO : Fld :=
  { id := 332, space := .fn, base := 0x8028, vf := 0x8, n1 := 1025, s1 := 0x0, lo := 12, w := 20, acc := .rw, keep := .f }

/-- `FN_DB_LO.EN`, R373. -/
def Reg.FN_DB_LO.EN : Fld :=
  { id := 333, space := .fn, base := 0x8028, vf := 0x8, n1 := 1025, s1 := 0x0, lo := 0, w := 1, acc := .rw, keep := .f }

/-- `FN_DB_HI.ADDR_HI`, R373. -/
def Reg.FN_DB_HI.ADDR_HI : Fld :=
  { id := 334, space := .fn, base := 0x802C, vf := 0xC, n1 := 1025, s1 := 0x0, lo := 0, w := 16, acc := .rw, keep := .f }

/-- `RING_CTRL.EN`, R374. -/
def Reg.RING_CTRL.EN : Fld :=
  { id := 335, space := .fn, base := 0x8400, vf := 0x400, n1 := 1025, s1 := 0x0, n2 := 16, s2 := 0x40, lo := 31, w := 1, acc := .rw, keep := .f }

/-- `RING_CTRL.TYPE`, R374. -/
def Reg.RING_CTRL.TYPE : Fld :=
  { id := 336, space := .fn, base := 0x8400, vf := 0x400, n1 := 1025, s1 := 0x0, n2 := 16, s2 := 0x40, lo := 29, w := 2, acc := .rw, keep := .f }

/-- `RING_CTRL.LOG2`, R374. -/
def Reg.RING_CTRL.LOG2 : Fld :=
  { id := 337, space := .fn, base := 0x8400, vf := 0x400, n1 := 1025, s1 := 0x0, n2 := 16, s2 := 0x40, lo := 24, w := 5, acc := .rw, keep := .f, rst := 0x4, lowest := 4, highest := some 16 }

/-- `RING_CTRL.VEC`, R374. -/
def Reg.RING_CTRL.VEC : Fld :=
  { id := 338, space := .fn, base := 0x8400, vf := 0x400, n1 := 1025, s1 := 0x0, n2 := 16, s2 := 0x40, lo := 20, w := 4, acc := .rw, keep := .f }

/-- `RING_CTRL.CPL_RING`, R374. -/
def Reg.RING_CTRL.CPL_RING : Fld :=
  { id := 339, space := .fn, base := 0x8400, vf := 0x400, n1 := 1025, s1 := 0x0, n2 := 16, s2 := 0x40, lo := 16, w := 4, acc := .rw, keep := .f }

/-- `RING_CTRL.CLASS_MASK`, R374. -/
def Reg.RING_CTRL.CLASS_MASK : Fld :=
  { id := 340, space := .fn, base := 0x8400, vf := 0x400, n1 := 1025, s1 := 0x0, n2 := 16, s2 := 0x40, lo := 8, w := 8, acc := .rw, keep := .f }

/-- `RING_BASE_LO.ADDR_LO`, R374. -/
def Reg.RING_BASE_LO.ADDR_LO : Fld :=
  { id := 341, space := .fn, base := 0x8404, vf := 0x404, n1 := 1025, s1 := 0x0, n2 := 16, s2 := 0x40, lo := 6, w := 26, acc := .rw, keep := .f }

/-- `RING_BASE_HI.ADDR_HI`, R374. -/
def Reg.RING_BASE_HI.ADDR_HI : Fld :=
  { id := 342, space := .fn, base := 0x8408, vf := 0x408, n1 := 1025, s1 := 0x0, n2 := 16, s2 := 0x40, lo := 0, w := 16, acc := .rw, keep := .f }

/-- `RING_MOD.MOD_CNT`, R374. -/
def Reg.RING_MOD.MOD_CNT : Fld :=
  { id := 343, space := .fn, base := 0x840C, vf := 0x40C, n1 := 1025, s1 := 0x0, n2 := 16, s2 := 0x40, lo := 24, w := 8, acc := .rw, keep := .f }

/-- `RING_MOD.MOD_US`, R374. -/
def Reg.RING_MOD.MOD_US : Fld :=
  { id := 344, space := .fn, base := 0x840C, vf := 0x40C, n1 := 1025, s1 := 0x0, n2 := 16, s2 := 0x40, lo := 0, w := 16, acc := .rw, keep := .f }

/-- `RING_DEV_IDX.DEV_IDX`, R374. -/
def Reg.RING_DEV_IDX.DEV_IDX : Fld :=
  { id := 345, space := .fn, base := 0x8410, vf := 0x410, n1 := 1025, s1 := 0x0, n2 := 16, s2 := 0x40, lo := 0, w := 32, keep := .f }

/-- `RING_HOST_IDX.HOST_IDX`, R374. -/
def Reg.RING_HOST_IDX.HOST_IDX : Fld :=
  { id := 346, space := .fn, base := 0x8414, vf := 0x414, n1 := 1025, s1 := 0x0, n2 := 16, s2 := 0x40, lo := 0, w := 32, keep := .f }

/-- `RING_ERRST.ERR_CODE`, R374. -/
def Reg.RING_ERRST.ERR_CODE : Fld :=
  { id := 347, space := .fn, base := 0x8418, vf := 0x418, n1 := 1025, s1 := 0x0, n2 := 16, s2 := 0x40, lo := 28, w := 4, keep := .f }

/-- `RING_ERRST.DROPS`, R374. -/
def Reg.RING_ERRST.DROPS : Fld :=
  { id := 348, space := .fn, base := 0x8418, vf := 0x418, n1 := 1025, s1 := 0x0, n2 := 16, s2 := 0x40, lo := 0, w := 16, keep := .f }

/-- `TEN_QUOTA_P.POWER`, R400. -/
def Reg.TEN_QUOTA_P.POWER : Fld :=
  { id := 349, base := 0xA0000, n1 := 1024, s1 := 0x40, lo := 0, w := 20, keep := .k }

/-- `TEN_QUOTA_B.MAX_SLOTS`, R400. -/
def Reg.TEN_QUOTA_B.MAX_SLOTS : Fld :=
  { id := 350, base := 0xA0004, n1 := 1024, s1 := 0x40, lo := 25, w := 7, keep := .k }

/-- `TEN_QUOTA_B.MAX_XFER`, R400. -/
def Reg.TEN_QUOTA_B.MAX_XFER : Fld :=
  { id := 351, base := 0xA0004, n1 := 1024, s1 := 0x40, lo := 20, w := 5, keep := .k }

/-- `TEN_QUOTA_B.EVT_RATE`, R400. -/
def Reg.TEN_QUOTA_B.EVT_RATE : Fld :=
  { id := 352, base := 0xA0004, n1 := 1024, s1 := 0x40, lo := 8, w := 12, keep := .k, rst := 0x64 }

/-- `TEN_SLOTMASK_LO.MASK_LO`, R400. -/
def Reg.TEN_SLOTMASK_LO.MASK_LO : Fld :=
  { id := 353, base := 0xA0008, n1 := 1024, s1 := 0x40, lo := 0, w := 32, keep := .k }

/-- `TEN_SLOTMASK_HI.MASK_HI`, R400. -/
def Reg.TEN_SLOTMASK_HI.MASK_HI : Fld :=
  { id := 354, base := 0xA000C, n1 := 1024, s1 := 0x40, lo := 0, w := 32, keep := .k }

/-- `TEN_WDG_CFG.PERIOD`, R400. -/
def Reg.TEN_WDG_CFG.PERIOD : Fld :=
  { id := 355, base := 0xA0010, n1 := 1024, s1 := 0x40, lo := 20, w := 12, keep := .k, rst := 0x64 }

/-- `TEN_WDG_CFG.OPEN`, R400. -/
def Reg.TEN_WDG_CFG.OPEN : Fld :=
  { id := 356, base := 0xA0010, n1 := 1024, s1 := 0x40, lo := 16, w := 4, keep := .k }

/-- `TEN_KEY.KEY0`, R400. -/
def Reg.TEN_KEY.KEY0 : Fld :=
  { id := 357, base := 0xA0014, n1 := 1024, s1 := 0x40, lo := 0, w := 8, keep := .k }

/-- `TEN_KEY.KEY1`, R400. -/
def Reg.TEN_KEY.KEY1 : Fld :=
  { id := 358, base := 0xA0014, n1 := 1024, s1 := 0x40, lo := 8, w := 8, keep := .k }

/-- `TEN_KEY.KEY2`, R400. -/
def Reg.TEN_KEY.KEY2 : Fld :=
  { id := 359, base := 0xA0014, n1 := 1024, s1 := 0x40, lo := 16, w := 8, keep := .k }

/-- `TEN_KEY.KEY3`, R400. -/
def Reg.TEN_KEY.KEY3 : Fld :=
  { id := 360, base := 0xA0014, n1 := 1024, s1 := 0x40, lo := 24, w := 8, keep := .k }

/-- `TEN_USE.SLOTS`, R400. -/
def Reg.TEN_USE.SLOTS : Fld :=
  { id := 361, base := 0xA0018, n1 := 1024, s1 := 0x40, lo := 25, w := 7 }

/-- `TEN_USE.XFER`, R400. -/
def Reg.TEN_USE.XFER : Fld :=
  { id := 362, base := 0xA0018, n1 := 1024, s1 := 0x40, lo := 20, w := 5 }

/-- `TEN_USE.PLAN`, R400. -/
def Reg.TEN_USE.PLAN : Fld :=
  { id := 363, base := 0xA0018, n1 := 1024, s1 := 0x40, lo := 0, w := 20 }

/-- `TEN_CNT.RATE_DROP`, R400. -/
def Reg.TEN_CNT.RATE_DROP : Fld :=
  { id := 364, base := 0xA001C, n1 := 1024, s1 := 0x40, lo := 16, w := 16 }

/-- `TEN_CNT.LOST_CNT`, R400. -/
def Reg.TEN_CNT.LOST_CNT : Fld :=
  { id := 365, base := 0xA001C, n1 := 1024, s1 := 0x40, lo := 8, w := 8 }

/-- `TEN_CNT.WRONG`, R400. -/
def Reg.TEN_CNT.WRONG : Fld :=
  { id := 366, base := 0xA001C, n1 := 1024, s1 := 0x40, lo := 0, w := 8 }

/-- `FN_WDG.STATE`, R401. -/
def Reg.FN_WDG.STATE : Fld :=
  { id := 367, space := .fn, base := 0x8024, vf := 0x10, n1 := 1025, s1 := 0x0, lo := 30, w := 2, keep := .f }

/-- `FN_WDG.MISSES`, R401. -/
def Reg.FN_WDG.MISSES : Fld :=
  { id := 368, space := .fn, base := 0x8024, vf := 0x10, n1 := 1025, s1 := 0x0, lo := 28, w := 2, keep := .f }

/-- `FN_WDG.GOOD`, R401. -/
def Reg.FN_WDG.GOOD : Fld :=
  { id := 369, space := .fn, base := 0x8024, vf := 0x10, n1 := 1025, s1 := 0x0, lo := 26, w := 2, keep := .f }

/-- `FN_WDG.QSEQ`, R401. -/
def Reg.FN_WDG.QSEQ : Fld :=
  { id := 370, space := .fn, base := 0x8024, vf := 0x10, n1 := 1025, s1 := 0x0, lo := 0, w := 16, keep := .f }

/-- `TWB_CFG.SPEED`, R436. -/
def Reg.TWB_CFG.SPEED : Fld :=
  { id := 371, base := 0x60000, n1 := 66, s1 := 0x100, lo := 30, w := 2, acc := .rw, keep := .w, rst := 0x1, rule := .buses65, highest := some 2 }

/-- `TWB_CFG.FILT`, R436. -/
def Reg.TWB_CFG.FILT : Fld :=
  { id := 372, base := 0x60000, n1 := 66, s1 := 0x100, lo := 25, w := 5, acc := .rw, keep := .w, rst := 0x3 }

/-- `TWB_CFG.TMO_SCL`, R436. -/
def Reg.TWB_CFG.TMO_SCL : Fld :=
  { id := 373, base := 0x60000, n1 := 66, s1 := 0x100, lo := 19, w := 6, acc := .rw, keep := .w, rst := 0x22 }

/-- `TWB_CFG.TMO_SDA`, R436. -/
def Reg.TWB_CFG.TMO_SDA : Fld :=
  { id := 374, base := 0x60000, n1 := 66, s1 := 0x100, lo := 13, w := 6, acc := .rw, keep := .w, rst := 0x22 }

/-- `TWB_CFG.ARB_RETRY`, R436. -/
def Reg.TWB_CFG.ARB_RETRY : Fld :=
  { id := 375, base := 0x60000, n1 := 66, s1 := 0x100, lo := 10, w := 3, acc := .rw, keep := .w, rst := 0x3 }

/-- `TWB_CFG.ARA_AUTO`, R436. -/
def Reg.TWB_CFG.ARA_AUTO : Fld :=
  { id := 376, base := 0x60000, n1 := 66, s1 := 0x100, lo := 9, w := 1, acc := .rw, keep := .w }

/-- `TWB_CFG.SLEEP_EN`, R436. -/
def Reg.TWB_CFG.SLEEP_EN : Fld :=
  { id := 377, base := 0x60000, n1 := 66, s1 := 0x100, lo := 8, w := 1, acc := .rw, keep := .w, rst := 0x1 }

/-- `TWB_CFG.PEC_SYS`, R436. -/
def Reg.TWB_CFG.PEC_SYS : Fld :=
  { id := 378, base := 0x60000, n1 := 66, s1 := 0x100, lo := 7, w := 1, acc := .rw, keep := .w }

/-- `TWB_STATUS.BUSY`, R437. -/
def Reg.TWB_STATUS.BUSY : Fld :=
  { id := 379, base := 0x60004, n1 := 66, s1 := 0x100, lo := 31, w := 1 }

/-- `TWB_STATUS.USER`, R437. -/
def Reg.TWB_STATUS.USER : Fld :=
  { id := 380, base := 0x60004, n1 := 66, s1 := 0x100, lo := 29, w := 2 }

/-- `TWB_STATUS.BUS_DEAD`, R437. -/
def Reg.TWB_STATUS.BUS_DEAD : Fld :=
  { id := 381, base := 0x60004, n1 := 66, s1 := 0x100, lo := 28, w := 1 }

/-- `TWB_STATUS.SCL_TMO`, R437. -/
def Reg.TWB_STATUS.SCL_TMO : Fld :=
  { id := 382, base := 0x60004, n1 := 66, s1 := 0x100, lo := 27, w := 1, acc := .w1c }

/-- `TWB_STATUS.SDA_TMO`, R437. -/
def Reg.TWB_STATUS.SDA_TMO : Fld :=
  { id := 383, base := 0x60004, n1 := 66, s1 := 0x100, lo := 26, w := 1, acc := .w1c }

/-- `TWB_STATUS.ARB_LOST`, R437. -/
def Reg.TWB_STATUS.ARB_LOST : Fld :=
  { id := 384, base := 0x60004, n1 := 66, s1 := 0x100, lo := 25, w := 1, acc := .w1c }

/-- `TWB_STATUS.PEC_ERR`, R437. -/
def Reg.TWB_STATUS.PEC_ERR : Fld :=
  { id := 385, base := 0x60004, n1 := 66, s1 := 0x100, lo := 24, w := 1, acc := .w1c }

/-- `TWB_STATUS.ALERT`, R437. -/
def Reg.TWB_STATUS.ALERT : Fld :=
  { id := 386, base := 0x60004, n1 := 66, s1 := 0x100, lo := 23, w := 1 }

/-- `TWB_STATUS.HOSTQ`, R437. -/
def Reg.TWB_STATUS.HOSTQ : Fld :=
  { id := 387, base := 0x60004, n1 := 66, s1 := 0x100, lo := 20, w := 3 }

/-- `TWB_STATUS.LAST`, R437. -/
def Reg.TWB_STATUS.LAST : Fld :=
  { id := 388, base := 0x60004, n1 := 66, s1 := 0x100, lo := 8, w := 8 }

/-- `TWB_CTRL.CANCEL`, R437. -/
def Reg.TWB_CTRL.CANCEL : Fld :=
  { id := 389, base := 0x60008, n1 := 66, s1 := 0x100, lo := 31, w := 1, acc := .w1s }

/-- `TWB_CTRL.RECOVER`, R437. -/
def Reg.TWB_CTRL.RECOVER : Fld :=
  { id := 390, base := 0x60008, n1 := 66, s1 := 0x100, lo := 30, w := 1, acc := .w1s }

/-- `TWB_CNT.NACKS`, R438. -/
def Reg.TWB_CNT.NACKS : Fld :=
  { id := 391, base := 0x6000C, n1 := 66, s1 := 0x100, lo := 24, w := 8 }

/-- `TWB_CNT.TIMEOUTS`, R438. -/
def Reg.TWB_CNT.TIMEOUTS : Fld :=
  { id := 392, base := 0x6000C, n1 := 66, s1 := 0x100, lo := 16, w := 8 }

/-- `TWB_CNT.ARB_LOSSES`, R438. -/
def Reg.TWB_CNT.ARB_LOSSES : Fld :=
  { id := 393, base := 0x6000C, n1 := 66, s1 := 0x100, lo := 8, w := 8 }

/-- `TWB_CNT.PEC_ERRS`, R438. -/
def Reg.TWB_CNT.PEC_ERRS : Fld :=
  { id := 394, base := 0x6000C, n1 := 66, s1 := 0x100, lo := 0, w := 8 }

/-- `TWB_TGT.EN`, R439. -/
def Reg.TWB_TGT.EN : Fld :=
  { id := 395, base := 0x64010, n1 := 2, s1 := 0x100, lo := 31, w := 1, acc := .rw, keep := .w }

/-- `TWB_TGT.ADDR`, R439. -/
def Reg.TWB_TGT.ADDR : Fld :=
  { id := 396, base := 0x64010, n1 := 2, s1 := 0x100, lo := 24, w := 7, acc := .rw, keep := .w, rst := 0x3A, lowest := 8, highest := some 119 }

/-- `TWB_TGT.WAKE`, R439. -/
def Reg.TWB_TGT.WAKE : Fld :=
  { id := 397, base := 0x64010, n1 := 2, s1 := 0x100, lo := 23, w := 1, acc := .rw, keep := .w }

/-- `TWB_TGT.ALERT_REQ`, R439. -/
def Reg.TWB_TGT.ALERT_REQ : Fld :=
  { id := 398, base := 0x64010, n1 := 2, s1 := 0x100, lo := 22, w := 1, acc := .rw }

/-- `TWB_TGT.RX_FULL`, R439. -/
def Reg.TWB_TGT.RX_FULL : Fld :=
  { id := 399, base := 0x64010, n1 := 2, s1 := 0x100, lo := 21, w := 1, acc := .w1c }

/-- `TWB_TGT.TX_LEN`, R439. -/
def Reg.TWB_TGT.TX_LEN : Fld :=
  { id := 400, base := 0x64010, n1 := 2, s1 := 0x100, lo := 8, w := 8, acc := .rw, keep := .w, highest := some 32 }

/-- `TWB_TGT.RX_LEN`, R439. -/
def Reg.TWB_TGT.RX_LEN : Fld :=
  { id := 401, base := 0x64010, n1 := 2, s1 := 0x100, lo := 0, w := 8 }

/-- `TWB_TGT_TX.TX`, R439. -/
def Reg.TWB_TGT_TX.TX : Fld :=
  { id := 402, base := 0x64020, n1 := 2, s1 := 0x100, n2 := 8, s2 := 0x4, lo := 0, w := 32, acc := .rw, keep := .w }

/-- `TWB_TGT_RX.RX`, R439. -/
def Reg.TWB_TGT_RX.RX : Fld :=
  { id := 403, base := 0x64040, n1 := 2, s1 := 0x100, n2 := 8, s2 := 0x4, lo := 0, w := 32 }

/-- `PDP_CFG.EN`, R470. -/
def Reg.PDP_CFG.EN : Fld :=
  { id := 404, base := 0x70000, n1 := 8, s1 := 0x400, lo := 31, w := 1, acc := .pfo, keep := .w, rst := 0x1 }

/-- `PDP_CFG.ALLOW`, R470. -/
def Reg.PDP_CFG.ALLOW : Fld :=
  { id := 405, base := 0x70000, n1 := 8, s1 := 0x400, lo := 20, w := 11, acc := .pfo, keep := .w, rst := 0x7FF }

/-- `PDP_DEF_A.PMAX`, R470. -/
def Reg.PDP_DEF_A.PMAX : Fld :=
  { id := 406, base := 0x70004, n1 := 8, s1 := 0x400, lo := 20, w := 12, acc := .pfo, keep := .w, rst := 0x258, lowest := 75, highest := some 2400 }

/-- `PDP_DEF_A.IMAX`, R470. -/
def Reg.PDP_DEF_A.IMAX : Fld :=
  { id := 407, base := 0x70004, n1 := 8, s1 := 0x400, lo := 7, w := 13, acc := .pfo, keep := .w, rst := 0xBB8, lowest := 1500, highest := some 5000 }

/-- `PDP_DEF_B.VMASK`, R470. -/
def Reg.PDP_DEF_B.VMASK : Fld :=
  { id := 408, base := 0x70008, n1 := 8, s1 := 0x400, lo := 26, w := 6, acc := .pfo, keep := .w, rst := 0x7 }

/-- `PDP_DEF_B.PPS_EN`, R470. -/
def Reg.PDP_DEF_B.PPS_EN : Fld :=
  { id := 409, base := 0x70008, n1 := 8, s1 := 0x400, lo := 25, w := 1, acc := .pfo, keep := .w, rst := 0x1 }

/-- `PDP_DEF_B.EPR_EN`, R470. -/
def Reg.PDP_DEF_B.EPR_EN : Fld :=
  { id := 410, base := 0x70008, n1 := 8, s1 := 0x400, lo := 24, w := 1, acc := .pfo, keep := .w }

/-- `PDP_DEF_B.SVC_EN`, R470. -/
def Reg.PDP_DEF_B.SVC_EN : Fld :=
  { id := 411, base := 0x70008, n1 := 8, s1 := 0x400, lo := 23, w := 1, acc := .pfo, keep := .w }

/-- `PDP_DEF_B.VSWAP`, R470. -/
def Reg.PDP_DEF_B.VSWAP : Fld :=
  { id := 412, base := 0x70008, n1 := 8, s1 := 0x400, lo := 22, w := 1, acc := .pfo, keep := .w, rst := 0x1 }

/-- `PDP_DEF_C.PPS_VMIN`, R470. -/
def Reg.PDP_DEF_C.PPS_VMIN : Fld :=
  { id := 413, base := 0x7000C, n1 := 8, s1 := 0x400, lo := 16, w := 16, acc := .pfo, keep := .w, rst := 0xCE4 }

/-- `PDP_DEF_C.PPS_VMAX`, R470. -/
def Reg.PDP_DEF_C.PPS_VMAX : Fld :=
  { id := 414, base := 0x7000C, n1 := 8, s1 := 0x400, lo := 0, w := 16, acc := .pfo, keep := .w, rst := 0x5208 }

/-- `PDP_STATUS.TC_STATE`, R470. -/
def Reg.PDP_STATUS.TC_STATE : Fld :=
  { id := 415, base := 0x70020, n1 := 8, s1 := 0x400, lo := 29, w := 3 }

/-- `PDP_STATUS.ORIENT`, R470. -/
def Reg.PDP_STATUS.ORIENT : Fld :=
  { id := 416, base := 0x70020, n1 := 8, s1 := 0x400, lo := 28, w := 1 }

/-- `PDP_STATUS.VCONN`, R470. -/
def Reg.PDP_STATUS.VCONN : Fld :=
  { id := 417, base := 0x70020, n1 := 8, s1 := 0x400, lo := 27, w := 1 }

/-- `PDP_STATUS.CONTRACT`, R470. -/
def Reg.PDP_STATUS.CONTRACT : Fld :=
  { id := 418, base := 0x70020, n1 := 8, s1 := 0x400, lo := 25, w := 2 }

/-- `PDP_STATUS.SVC`, R470. -/
def Reg.PDP_STATUS.SVC : Fld :=
  { id := 419, base := 0x70020, n1 := 8, s1 := 0x400, lo := 24, w := 1 }

/-- `PDP_STATUS.HELD`, R470. -/
def Reg.PDP_STATUS.HELD : Fld :=
  { id := 420, base := 0x70020, n1 := 8, s1 := 0x400, lo := 23, w := 1, keep := .w }

/-- `PDP_STATUS.HOLDER`, R470. -/
def Reg.PDP_STATUS.HOLDER : Fld :=
  { id := 421, base := 0x70020, n1 := 8, s1 := 0x400, lo := 12, w := 11, keep := .w }

/-- `PDP_STATUS.REV`, R470. -/
def Reg.PDP_STATUS.REV : Fld :=
  { id := 422, base := 0x70020, n1 := 8, s1 := 0x400, lo := 10, w := 2 }

/-- `PDP_CONTRACT.V`, R470. -/
def Reg.PDP_CONTRACT.V : Fld :=
  { id := 423, base := 0x70024, n1 := 8, s1 := 0x400, lo := 16, w := 16 }

/-- `PDP_CONTRACT.I`, R470. -/
def Reg.PDP_CONTRACT.I : Fld :=
  { id := 424, base := 0x70024, n1 := 8, s1 := 0x400, lo := 0, w := 13 }

/-- `PDP_CABLE.VALID`, R470. -/
def Reg.PDP_CABLE.VALID : Fld :=
  { id := 425, base := 0x70028, n1 := 8, s1 := 0x400, lo := 31, w := 1 }

/-- `PDP_CABLE.EPR_CAP`, R470. -/
def Reg.PDP_CABLE.EPR_CAP : Fld :=
  { id := 426, base := 0x70028, n1 := 8, s1 := 0x400, lo := 30, w := 1 }

/-- `PDP_CABLE.CABLE_I`, R470. -/
def Reg.PDP_CABLE.CABLE_I : Fld :=
  { id := 427, base := 0x70028, n1 := 8, s1 := 0x400, lo := 28, w := 2 }

/-- `PDP_CABLE.VMAX`, R470. -/
def Reg.PDP_CABLE.VMAX : Fld :=
  { id := 428, base := 0x70028, n1 := 8, s1 := 0x400, lo := 20, w := 8 }

/-- `PDP_MEAS.VBUS`, R470. -/
def Reg.PDP_MEAS.VBUS : Fld :=
  { id := 429, base := 0x7002C, n1 := 8, s1 := 0x400, lo := 16, w := 16 }

/-- `PDP_MEAS.IBUS`, R470. -/
def Reg.PDP_MEAS.IBUS : Fld :=
  { id := 430, base := 0x7002C, n1 := 8, s1 := 0x400, lo := 0, w := 16 }

/-- `PDP_CNT.HARD_RESETS`, R470. -/
def Reg.PDP_CNT.HARD_RESETS : Fld :=
  { id := 431, base := 0x70030, n1 := 8, s1 := 0x400, lo := 24, w := 8 }

/-- `PDP_CNT.SOFT_RESETS`, R470. -/
def Reg.PDP_CNT.SOFT_RESETS : Fld :=
  { id := 432, base := 0x70030, n1 := 8, s1 := 0x400, lo := 16, w := 8 }

/-- `PDP_CNT.RX_ABORTS`, R470. -/
def Reg.PDP_CNT.RX_ABORTS : Fld :=
  { id := 433, base := 0x70030, n1 := 8, s1 := 0x400, lo := 8, w := 8 }

/-- `PDP_CNT.FAULTS`, R470. -/
def Reg.PDP_CNT.FAULTS : Fld :=
  { id := 434, base := 0x70030, n1 := 8, s1 := 0x400, lo := 0, w := 8 }

/-- `PDP_CTRL.CLEAR`, R470. -/
def Reg.PDP_CTRL.CLEAR : Fld :=
  { id := 435, base := 0x70034, n1 := 8, s1 := 0x400, lo := 31, w := 1, acc := .w1s }

/-- `PDP_GCFG.ISL_PMAX`, R471. -/
def Reg.PDP_GCFG.ISL_PMAX : Fld :=
  { id := 436, base := 0x7F000, lo := 20, w := 12, acc := .rw, keep := .w, rst := 0x258, lowest := 75, highest := some 2400 }

/-- `ENG_GEN.ACTIVE`, R506. -/
def Reg.ENG_GEN.ACTIVE : Fld :=
  { id := 437, base := 0x80000, lo := 16, w := 16 }

/-- `ENG_GEN.STAGED`, R506. -/
def Reg.ENG_GEN.STAGED : Fld :=
  { id := 438, base := 0x80000, lo := 0, w := 16 }

/-- `ENG_SCHEMA.ACT_LO`, R506. -/
def Reg.ENG_SCHEMA.ACT_LO : Fld :=
  { id := 439, base := 0x80004, lo := 16, w := 16 }

/-- `ENG_SCHEMA.ACT_HI`, R506. -/
def Reg.ENG_SCHEMA.ACT_HI : Fld :=
  { id := 440, base := 0x80004, lo := 0, w := 16 }

/-- `ENG_SCHEMA_STG.STG_LO`, R506. -/
def Reg.ENG_SCHEMA_STG.STG_LO : Fld :=
  { id := 441, base := 0x80008, lo := 16, w := 16 }

/-- `ENG_SCHEMA_STG.STG_HI`, R506. -/
def Reg.ENG_SCHEMA_STG.STG_HI : Fld :=
  { id := 442, base := 0x80008, lo := 0, w := 16 }

/-- `ENG_UPG.STATE`, R506. -/
def Reg.ENG_UPG.STATE : Fld :=
  { id := 443, base := 0x8000C, lo := 29, w := 3 }

/-- `ENG_UPG.BED`, R506. -/
def Reg.ENG_UPG.BED : Fld :=
  { id := 444, base := 0x8000C, lo := 24, w := 5, rst := 0x1F }

/-- `ENG_UPG.STEP`, R506. -/
def Reg.ENG_UPG.STEP : Fld :=
  { id := 445, base := 0x8000C, lo := 21, w := 3 }

/-- `ENG_UPG.BEDS_NEW`, R506. -/
def Reg.ENG_UPG.BEDS_NEW : Fld :=
  { id := 446, base := 0x8000C, lo := 0, w := 16 }

/-- `ENG_UPG_CFG.DWELL`, R506. -/
def Reg.ENG_UPG_CFG.DWELL : Fld :=
  { id := 447, base := 0x80010, lo := 20, w := 12, acc := .rw, keep := .w, rst := 0x258, lowest := 1, highest := some 3600 }

/-- `ENG_UPG_CFG.AUTO_ABORT`, R506. -/
def Reg.ENG_UPG_CFG.AUTO_ABORT : Fld :=
  { id := 448, base := 0x80010, lo := 0, w := 1, acc := .rw, keep := .w, rst := 0x1 }

/-- `ENG_BOOT.ACTIVE_BANK`, R506. -/
def Reg.ENG_BOOT.ACTIVE_BANK : Fld :=
  { id := 449, base := 0x80014, lo := 31, w := 1, keep := .k }

/-- `ENG_BOOT.FALLBACK`, R506. -/
def Reg.ENG_BOOT.FALLBACK : Fld :=
  { id := 450, base := 0x80014, lo := 30, w := 1 }

/-- `ENG_BOOT.ERR`, R506. -/
def Reg.ENG_BOOT.ERR : Fld :=
  { id := 451, base := 0x80014, lo := 24, w := 4 }

/-- `ENG_STAGE.CAUSE`, R506. -/
def Reg.ENG_STAGE.CAUSE : Fld :=
  { id := 452, base := 0x80018, lo := 28, w := 4 }

/-- `ENG_STAGE.PROGRESS`, R506. -/
def Reg.ENG_STAGE.PROGRESS : Fld :=
  { id := 453, base := 0x80018, lo := 0, w := 16 }

/-- `ENG_CNT.DISAGREE`, R506. -/
def Reg.ENG_CNT.DISAGREE : Fld :=
  { id := 454, base := 0x8001C, lo := 24, w := 8 }

/-- `ENG_CNT.MIGRATIONS`, R506. -/
def Reg.ENG_CNT.MIGRATIONS : Fld :=
  { id := 455, base := 0x8001C, lo := 8, w := 16 }

/-- `ENG_CNT.RETIRED`, R506. -/
def Reg.ENG_CNT.RETIRED : Fld :=
  { id := 456, base := 0x8001C, lo := 0, w := 8 }

/-- `ENG_PAIR_SEL.PAIR`, R507. -/
def Reg.ENG_PAIR_SEL.PAIR : Fld :=
  { id := 457, base := 0x80030, lo := 0, w := 9, acc := .rw }

/-- `ENG_PAIR.STATE`, R507. -/
def Reg.ENG_PAIR.STATE : Fld :=
  { id := 458, base := 0x80034, lo := 29, w := 3 }

/-- `ENG_PAIR.GEN`, R507. -/
def Reg.ENG_PAIR.GEN : Fld :=
  { id := 459, base := 0x80034, lo := 28, w := 1 }

/-- `ENG_PAIR.TASK`, R507. -/
def Reg.ENG_PAIR.TASK : Fld :=
  { id := 460, base := 0x80034, lo := 16, w := 9, rst := 0x1FF }

/-- `ENG_PAIR.STRIKES`, R507. -/
def Reg.ENG_PAIR.STRIKES : Fld :=
  { id := 461, base := 0x80034, lo := 14, w := 2 }

/-- `ENG_TASK.HOST`, R507. -/
def Reg.ENG_TASK.HOST : Fld :=
  { id := 462, base := 0x80400, n1 := 416, s1 := 0x4, lo := 23, w := 9, rule := .homePair }

/-- `ENG_TASK.GEN`, R507. -/
def Reg.ENG_TASK.GEN : Fld :=
  { id := 463, base := 0x80400, n1 := 416, s1 := 0x4, lo := 22, w := 1 }

/-- `ENG_TASK.STATE`, R507. -/
def Reg.ENG_TASK.STATE : Fld :=
  { id := 464, base := 0x80400, n1 := 416, s1 := 0x4, lo := 20, w := 2 }

/-- `ENG_TASK.FAULTS`, R507. -/
def Reg.ENG_TASK.FAULTS : Fld :=
  { id := 465, base := 0x80400, n1 := 416, s1 := 0x4, lo := 0, w := 8 }

/-- `ENG_TRACE_CTRL.EN`, R508. -/
def Reg.ENG_TRACE_CTRL.EN : Fld :=
  { id := 466, base := 0x80020, lo := 31, w := 1, acc := .rw, keep := .w, rst := 0x1 }

/-- `ENG_TRACE_CTRL.MODE`, R508. -/
def Reg.ENG_TRACE_CTRL.MODE : Fld :=
  { id := 467, base := 0x80020, lo := 30, w := 1, acc := .rw, keep := .w }

/-- `ENG_TRACE_CTRL.USER`, R508. -/
def Reg.ENG_TRACE_CTRL.USER : Fld :=
  { id := 468, base := 0x80020, lo := 15, w := 1, acc := .rw, keep := .w }

/-- `ENG_TRACE_CTRL.MASK`, R508. -/
def Reg.ENG_TRACE_CTRL.MASK : Fld :=
  { id := 469, base := 0x80020, lo := 0, w := 10, acc := .rw, keep := .w, rst := 0x3FC }

/-- `ENG_TRACE_PTR.WR`, R508. -/
def Reg.ENG_TRACE_PTR.WR : Fld :=
  { id := 470, base := 0x80024, lo := 16, w := 14 }

/-- `ENG_TRACE_PTR.RD`, R508. -/
def Reg.ENG_TRACE_PTR.RD : Fld :=
  { id := 471, base := 0x80024, lo := 0, w := 14, acc := .rw }

/-- `ENG_TRACE_CNT.LOST`, R508. -/
def Reg.ENG_TRACE_CNT.LOST : Fld :=
  { id := 472, base := 0x80028, lo := 16, w := 16 }

/-- `ENG_TRACE_WIN.REC`, R508. -/
def Reg.ENG_TRACE_WIN.REC : Fld :=
  { id := 473, base := 0x80100, n1 := 4, s1 := 0x4, lo := 0, w := 32 }

/-- `SAF_STATUS.START_OK`, R547. -/
def Reg.SAF_STATUS.START_OK : Fld :=
  { id := 474, base := 0x3000, lo := 31, w := 1 }

/-- `SAF_STATUS.SSP_LIVE`, R547. -/
def Reg.SAF_STATUS.SSP_LIVE : Fld :=
  { id := 475, base := 0x3000, lo := 30, w := 1 }

/-- `SAF_STATUS.FAULTED_CNT`, R547. -/
def Reg.SAF_STATUS.FAULTED_CNT : Fld :=
  { id := 476, base := 0x3000, lo := 16, w := 7 }

/-- `SAF_HALT.CAUSE`, R547. -/
def Reg.SAF_HALT.CAUSE : Fld :=
  { id := 477, base := 0x3004, lo := 24, w := 8, keep := .p }

/-- `SAF_HALT.DETAIL`, R547. -/
def Reg.SAF_HALT.DETAIL : Fld :=
  { id := 478, base := 0x3004, lo := 16, w := 8, keep := .p }

/-- `SAF_HALT.COUNT`, R547. -/
def Reg.SAF_HALT.COUNT : Fld :=
  { id := 479, base := 0x3004, lo := 0, w := 16, keep := .p }

/-- `SAF_HALT_TIME.TIME`, R547. -/
def Reg.SAF_HALT_TIME.TIME : Fld :=
  { id := 480, base := 0x3008, lo := 0, w := 32, keep := .p }

/-- `SAF_CTRL.HALT`, R547. -/
def Reg.SAF_CTRL.HALT : Fld :=
  { id := 481, base := 0x300C, lo := 31, w := 1, acc := .w1s }

/-- `SAF_CTRL.LATENT_NOW`, R547. -/
def Reg.SAF_CTRL.LATENT_NOW : Fld :=
  { id := 482, base := 0x300C, lo := 30, w := 1, acc := .w1s }

/-- `SAF_FG_CFG.OV_CELL`, R547. -/
def Reg.SAF_FG_CFG.OV_CELL : Fld :=
  { id := 483, base := 0x3014, lo := 24, w := 8, acc := .rws, keep := .p, rst := 0x4B, lowest := 25, highest := some 200 }

/-- `SAF_FG_CFG.OC_PCT`, R547. -/
def Reg.SAF_FG_CFG.OC_PCT : Fld :=
  { id := 484, base := 0x3014, lo := 16, w := 8, acc := .rws, keep := .p, rst := 0x19, lowest := 10, highest := some 50 }

/-- `SAF_FG_CFG.RV_IDLE`, R547. -/
def Reg.SAF_FG_CFG.RV_IDLE : Fld :=
  { id := 485, base := 0x3014, lo := 8, w := 8, acc := .rws, keep := .p, rst := 0xA, lowest := 5, highest := some 30 }

/-- `SAF_LATENT.FAIL`, R547. -/
def Reg.SAF_LATENT.FAIL : Fld :=
  { id := 486, base := 0x3018, lo := 0, w := 13, acc := .w1c }

/-- `SAF_CNT.FG_TRIPS`, R547. -/
def Reg.SAF_CNT.FG_TRIPS : Fld :=
  { id := 487, base := 0x301C, lo := 24, w := 8 }

/-- `SAF_CNT.XCHK_FAIL`, R547. -/
def Reg.SAF_CNT.XCHK_FAIL : Fld :=
  { id := 488, base := 0x301C, lo := 16, w := 8 }

/-- `SAF_CNT.LATENT_FAIL`, R547. -/
def Reg.SAF_CNT.LATENT_FAIL : Fld :=
  { id := 489, base := 0x301C, lo := 8, w := 8 }

/-- `SAF_CNT.TASK_SAFE`, R547. -/
def Reg.SAF_CNT.TASK_SAFE : Fld :=
  { id := 490, base := 0x301C, lo := 0, w := 8 }

/-- `SAF_SSP.EN`, R547. -/
def Reg.SAF_SSP.EN : Fld :=
  { id := 491, base := 0x3020, lo := 31, w := 1, acc := .rws, keep := .p }

/-- `SAF_SSP.HALT_ALLOW`, R547. -/
def Reg.SAF_SSP.HALT_ALLOW : Fld :=
  { id := 492, base := 0x3020, lo := 30, w := 1, acc := .rws, keep := .p }

/-- `SAF_SSP.TMO`, R547. -/
def Reg.SAF_SSP.TMO : Fld :=
  { id := 493, base := 0x3020, lo := 22, w := 8, acc := .rws, keep := .p, rst := 0x64, lowest := 1 }

/-- `SAF_SSP.SPI_ERR_CNT`, R547. -/
def Reg.SAF_SSP.SPI_ERR_CNT : Fld :=
  { id := 494, base := 0x3020, lo := 8, w := 8 }

/-- `SAF_SSP.LAST_SEQ`, R547. -/
def Reg.SAF_SSP.LAST_SEQ : Fld :=
  { id := 495, base := 0x3020, lo := 4, w := 4 }

/-- `SAF_FG_A.ARMED`, R548. -/
def Reg.SAF_FG_A.ARMED : Fld :=
  { id := 496, base := 0x3400, n1 := 64, s1 := 0x8, lo := 31, w := 1 }

/-- `SAF_FG_A.OV_TH`, R548. -/
def Reg.SAF_FG_A.OV_TH : Fld :=
  { id := 497, base := 0x3400, n1 := 64, s1 := 0x8, lo := 18, w := 13, rst := 0xEA6 }

/-- `SAF_FG_A.OC_TH`, R548. -/
def Reg.SAF_FG_A.OC_TH : Fld :=
  { id := 498, base := 0x3400, n1 := 64, s1 := 0x8, lo := 8, w := 10, rst := 0x14 }

/-- `SAF_FG_B.NTC_CODE`, R548. -/
def Reg.SAF_FG_B.NTC_CODE : Fld :=
  { id := 499, base := 0x3404, n1 := 64, s1 := 0x8, lo := 22, w := 10, rst := 0xEC }

/-- `SAF_FG_B.TRIP_OV`, R548. -/
def Reg.SAF_FG_B.TRIP_OV : Fld :=
  { id := 500, base := 0x3404, n1 := 64, s1 := 0x8, lo := 21, w := 1, keep := .w }

/-- `SAF_FG_B.TRIP_OC`, R548. -/
def Reg.SAF_FG_B.TRIP_OC : Fld :=
  { id := 501, base := 0x3404, n1 := 64, s1 := 0x8, lo := 20, w := 1, keep := .w }

/-- `SAF_FG_B.TRIP_RV`, R548. -/
def Reg.SAF_FG_B.TRIP_RV : Fld :=
  { id := 502, base := 0x3404, n1 := 64, s1 := 0x8, lo := 19, w := 1, keep := .w }

/-- `SAF_FG_B.TRIP_NTC`, R548. -/
def Reg.SAF_FG_B.TRIP_NTC : Fld :=
  { id := 503, base := 0x3404, n1 := 64, s1 := 0x8, lo := 18, w := 1, keep := .w }

/-- `SAF_FG_B.TRIP_ID`, R548. -/
def Reg.SAF_FG_B.TRIP_ID : Fld :=
  { id := 504, base := 0x3404, n1 := 64, s1 := 0x8, lo := 17, w := 1, keep := .w }

/-- `SAF_FG_B.TEST_FAIL`, R548. -/
def Reg.SAF_FG_B.TEST_FAIL : Fld :=
  { id := 505, base := 0x3404, n1 := 64, s1 := 0x8, lo := 16, w := 1 }

/-- `SAF_FG_B.SUBCAUSE`, R548. -/
def Reg.SAF_FG_B.SUBCAUSE : Fld :=
  { id := 506, base := 0x3404, n1 := 64, s1 := 0x8, lo := 12, w := 4, keep := .w }

/-- `SAF_FG_B.RV_TH`, R548. -/
def Reg.SAF_FG_B.RV_TH : Fld :=
  { id := 507, base := 0x3404, n1 := 64, s1 := 0x8, lo := 0, w := 10, rst := 0xA }

/-- `WDG_CFG.CLK_SEL`, R549. -/
def Reg.WDG_CFG.CLK_SEL : Fld :=
  { id := 508, base := 0x4000, lo := 31, w := 1, acc := .rw, keep := .w }

/-- `WDG_CFG.AUTO_WARM`, R549. -/
def Reg.WDG_CFG.AUTO_WARM : Fld :=
  { id := 509, base := 0x4000, lo := 30, w := 1, acc := .rw, keep := .w, rst := 0x1 }

/-- `WDG_CFG.PERIOD`, R549. -/
def Reg.WDG_CFG.PERIOD : Fld :=
  { id := 510, base := 0x4000, lo := 20, w := 10, acc := .rw, keep := .w, rst := 0x64, lowest := 10, highest := some 1000 }

/-- `WDG_CFG.OPEN`, R549. -/
def Reg.WDG_CFG.OPEN : Fld :=
  { id := 511, base := 0x4000, lo := 16, w := 4, acc := .rw, keep := .w, highest := some 8 }

/-- `WDG_CFG.RESTART_S`, R549. -/
def Reg.WDG_CFG.RESTART_S : Fld :=
  { id := 512, base := 0x4000, lo := 8, w := 8, acc := .rw, keep := .w, rst := 0x1E, lowest := 1 }

/-- `WDG_STATUS.STATE`, R549. -/
def Reg.WDG_STATUS.STATE : Fld :=
  { id := 513, base := 0x4004, lo := 30, w := 2 }

/-- `WDG_STATUS.CLK_USE`, R549. -/
def Reg.WDG_STATUS.CLK_USE : Fld :=
  { id := 514, base := 0x4004, lo := 29, w := 1 }

/-- `WDG_STATUS.XTAL_FAIL`, R549. -/
def Reg.WDG_STATUS.XTAL_FAIL : Fld :=
  { id := 515, base := 0x4004, lo := 28, w := 1 }

/-- `WDG_STATUS.LPO_FAIL`, R549. -/
def Reg.WDG_STATUS.LPO_FAIL : Fld :=
  { id := 516, base := 0x4004, lo := 27, w := 1 }

/-- `WDG_STATUS.MISSES`, R549. -/
def Reg.WDG_STATUS.MISSES : Fld :=
  { id := 517, base := 0x4004, lo := 25, w := 2 }

/-- `WDG_STATUS.QSEQ`, R549. -/
def Reg.WDG_STATUS.QSEQ : Fld :=
  { id := 518, base := 0x4004, lo := 0, w := 16 }

/-- `WDG_CNT.MISSES_TOT`, R549. -/
def Reg.WDG_CNT.MISSES_TOT : Fld :=
  { id := 519, base := 0x4008, lo := 24, w := 8 }

/-- `WDG_CNT.CLK_SWITCHES`, R549. -/
def Reg.WDG_CNT.CLK_SWITCHES : Fld :=
  { id := 520, base := 0x4008, lo := 16, w := 8 }

/-- `WDG_CNT.AUTO_WARMS`, R549. -/
def Reg.WDG_CNT.AUTO_WARMS : Fld :=
  { id := 521, base := 0x4008, lo := 8, w := 8, keep := .p }

/-- `GLB_SEAL.SEALED`, R578. -/
def Reg.GLB_SEAL.SEALED : Fld :=
  { id := 522, base := 0x10, lo := 31, w := 1, keep := .p }

/-- `GLB_RESET_CAUSE.POR`, R578. -/
def Reg.GLB_RESET_CAUSE.POR : Fld :=
  { id := 523, base := 0x14, lo := 0, w := 1, acc := .w1c, keep := .p, rst := 0x1 }

/-- `GLB_RESET_CAUSE.BROWNOUT`, R578. -/
def Reg.GLB_RESET_CAUSE.BROWNOUT : Fld :=
  { id := 524, base := 0x14, lo := 1, w := 1, acc := .w1c, keep := .p }

/-- `GLB_RESET_CAUSE.PIN`, R578. -/
def Reg.GLB_RESET_CAUSE.PIN : Fld :=
  { id := 525, base := 0x14, lo := 2, w := 1, acc := .w1c, keep := .p }

/-- `GLB_RESET_CAUSE.PERST`, R578. -/
def Reg.GLB_RESET_CAUSE.PERST : Fld :=
  { id := 526, base := 0x14, lo := 3, w := 1, acc := .w1c, keep := .p }

/-- `GLB_RESET_CAUSE.FLR`, R578. -/
def Reg.GLB_RESET_CAUSE.FLR : Fld :=
  { id := 527, base := 0x14, lo := 4, w := 1, acc := .w1c, keep := .p }

/-- `GLB_RESET_CAUSE.BED`, R578. -/
def Reg.GLB_RESET_CAUSE.BED : Fld :=
  { id := 528, base := 0x14, lo := 5, w := 1, acc := .w1c, keep := .p }

/-- `GLB_RESET_CAUSE.WARM`, R578. -/
def Reg.GLB_RESET_CAUSE.WARM : Fld :=
  { id := 529, base := 0x14, lo := 6, w := 1, acc := .w1c, keep := .p }

/-- `GLB_RESET_CAUSE.SAFE`, R578. -/
def Reg.GLB_RESET_CAUSE.SAFE : Fld :=
  { id := 530, base := 0x14, lo := 7, w := 1, acc := .w1c, keep := .p }

/-- `GLB_RESET_CAUSE.FN_WDG`, R578. -/
def Reg.GLB_RESET_CAUSE.FN_WDG : Fld :=
  { id := 531, base := 0x14, lo := 8, w := 1, acc := .w1c, keep := .p }

/-- `GLB_RESET_CAUSE.SHIP_WAKE`, R578. -/
def Reg.GLB_RESET_CAUSE.SHIP_WAKE : Fld :=
  { id := 532, base := 0x14, lo := 9, w := 1, acc := .w1c, keep := .p }

/-- `GLB_RESET_INFO.BED`, R578. -/
def Reg.GLB_RESET_INFO.BED : Fld :=
  { id := 533, base := 0x18, lo := 28, w := 4, keep := .p }

/-- `GLB_RESET_INFO.FLR_FN`, R578. -/
def Reg.GLB_RESET_INFO.FLR_FN : Fld :=
  { id := 534, base := 0x18, lo := 16, w := 11, keep := .p }

/-- `GLB_RESET_INFO.WDG_FN`, R578. -/
def Reg.GLB_RESET_INFO.WDG_FN : Fld :=
  { id := 535, base := 0x18, lo := 0, w := 11, keep := .p }

/-- `GLB_TIME_LO.TIME_LO`, R578. -/
def Reg.GLB_TIME_LO.TIME_LO : Fld :=
  { id := 536, base := 0x28, lo := 0, w := 32 }

/-- `GLB_TIME_HI.TIME_HI`, R578. -/
def Reg.GLB_TIME_HI.TIME_HI : Fld :=
  { id := 537, base := 0x2C, lo := 0, w := 32 }

/-- `PWR_MODE.MODE`, R579. -/
def Reg.PWR_MODE.MODE : Fld :=
  { id := 538, base := 0x2000, lo := 29, w := 3, rst := 0x2 }

/-- `PWR_MODE.PREV`, R579. -/
def Reg.PWR_MODE.PREV : Fld :=
  { id := 539, base := 0x2000, lo := 26, w := 3, rst := 0x2 }

/-- `PWR_MODE.SEQ`, R579. -/
def Reg.PWR_MODE.SEQ : Fld :=
  { id := 540, base := 0x2000, lo := 24, w := 2, rst := 0x1 }

/-- `PWR_MODE.STEP`, R579. -/
def Reg.PWR_MODE.STEP : Fld :=
  { id := 541, base := 0x2000, lo := 20, w := 4, rst := 0x1 }

/-- `PWR_MODE.TARGET`, R579. -/
def Reg.PWR_MODE.TARGET : Fld :=
  { id := 542, base := 0x2000, lo := 17, w := 3, rst := 0x3 }

/-- `PWR_CTRL.REQ`, R579. -/
def Reg.PWR_CTRL.REQ : Fld :=
  { id := 543, base := 0x2004, lo := 29, w := 3, acc := .rw, rst := 0x7 }

/-- `PWR_CTRL.CURTAIL`, R579. -/
def Reg.PWR_CTRL.CURTAIL : Fld :=
  { id := 544, base := 0x2004, lo := 28, w := 1, acc := .rw, keep := .w }

/-- `PWR_CTRL.WARM`, R579. -/
def Reg.PWR_CTRL.WARM : Fld :=
  { id := 545, base := 0x2004, lo := 27, w := 1, acc := .w1s }

/-- `PWR_CFG.SENT_HIF`, R579. -/
def Reg.PWR_CFG.SENT_HIF : Fld :=
  { id := 546, base := 0x2008, lo := 31, w := 1, acc := .rw, keep := .w, rst := 0x1 }

/-- `PWR_CFG.SENT_AUTO`, R579. -/
def Reg.PWR_CFG.SENT_AUTO : Fld :=
  { id := 547, base := 0x2008, lo := 30, w := 1, acc := .rw, keep := .w, rst := 0x1 }

/-- `PWR_CFG.BTN_SHIP`, R579. -/
def Reg.PWR_CFG.BTN_SHIP : Fld :=
  { id := 548, base := 0x2008, lo := 29, w := 1, acc := .rws, keep := .p, rst := 0x1 }

/-- `PWR_DOM.ON`, R579. -/
def Reg.PWR_DOM.ON : Fld :=
  { id := 549, base := 0x200C, lo := 0, w := 30, rst := 0x1 }

/-- `PWR_THERM.CURT_T`, R579. -/
def Reg.PWR_THERM.CURT_T : Fld :=
  { id := 550, base := 0x2010, lo := 24, w := 8, acc := .rws, keep := .p, rst := 0x64, lowest := 85, highest := some 105 }

/-- `PWR_THERM.SHUT_T`, R579. -/
def Reg.PWR_THERM.SHUT_T : Fld :=
  { id := 551, base := 0x2010, lo := 16, w := 8, acc := .rws, keep := .p, rst := 0x73, lowest := 106, highest := some 125 }

/-- `PWR_TEMP.TEMP`, R579. -/
def Reg.PWR_TEMP.TEMP : Fld :=
  { id := 552, base := 0x2014, lo := 20, w := 12 }

/-- `PWR_TEMP.SRC`, R579. -/
def Reg.PWR_TEMP.SRC : Fld :=
  { id := 553, base := 0x2014, lo := 15, w := 5 }

/-- `PWR_TEMP.CURT_THERM`, R579. -/
def Reg.PWR_TEMP.CURT_THERM : Fld :=
  { id := 554, base := 0x2014, lo := 7, w := 1 }

/-- `PWR_TEMP.SHUT`, R579. -/
def Reg.PWR_TEMP.SHUT : Fld :=
  { id := 555, base := 0x2014, lo := 6, w := 1 }

/-- `PWR_STATUS.REFUSE`, R579. -/
def Reg.PWR_STATUS.REFUSE : Fld :=
  { id := 556, base := 0x2018, lo := 28, w := 4 }

/-- `PWR_STATUS.LAST_SRC`, R579. -/
def Reg.PWR_STATUS.LAST_SRC : Fld :=
  { id := 557, base := 0x2018, lo := 24, w := 4 }

/-- `PWR_CNT.THERM_SHUT`, R579. -/
def Reg.PWR_CNT.THERM_SHUT : Fld :=
  { id := 558, base := 0x201C, lo := 24, w := 8, keep := .p }

/-- `PWR_CNT.REVERSALS`, R579. -/
def Reg.PWR_CNT.REVERSALS : Fld :=
  { id := 559, base := 0x201C, lo := 16, w := 8 }

/-- `PWR_CNT.STARTS`, R579. -/
def Reg.PWR_CNT.STARTS : Fld :=
  { id := 560, base := 0x201C, lo := 0, w := 16, keep := .p }

/-- `KEEP_STATUS.VALID`, R580. -/
def Reg.KEEP_STATUS.VALID : Fld :=
  { id := 561, base := 0x5000, lo := 21, w := 11 }

/-- `KEEP_STATUS.FREE`, R580. -/
def Reg.KEEP_STATUS.FREE : Fld :=
  { id := 562, base := 0x5000, lo := 10, w := 11 }

/-- `KEEP_STATUS.BAD`, R580. -/
def Reg.KEEP_STATUS.BAD : Fld :=
  { id := 563, base := 0x5000, lo := 0, w := 10 }

/-- `KEEP_CNT.TORN`, R580. -/
def Reg.KEEP_CNT.TORN : Fld :=
  { id := 564, base := 0x5004, lo := 24, w := 8 }

/-- `KEEP_CNT.REFUSED`, R580. -/
def Reg.KEEP_CNT.REFUSED : Fld :=
  { id := 565, base := 0x5004, lo := 16, w := 8 }

/-- `KEEP_CNT.QUEUED`, R580. -/
def Reg.KEEP_CNT.QUEUED : Fld :=
  { id := 566, base := 0x5004, lo := 0, w := 16 }

/-- `KEEP_WRITES.WRITES`, R580. -/
def Reg.KEEP_WRITES.WRITES : Fld :=
  { id := 567, base := 0x5008, lo := 0, w := 32 }

/-- `CLK_STATUS.XTAL_OK`, R605. -/
def Reg.CLK_STATUS.XTAL_OK : Fld :=
  { id := 568, base := 0x1000, lo := 31, w := 1 }

/-- `CLK_STATUS.LPO_OK`, R605. -/
def Reg.CLK_STATUS.LPO_OK : Fld :=
  { id := 569, base := 0x1000, lo := 30, w := 1, rst := 0x1 }

/-- `CLK_STATUS.PLL_LOCK`, R605. -/
def Reg.CLK_STATUS.PLL_LOCK : Fld :=
  { id := 570, base := 0x1000, lo := 29, w := 1 }

/-- `CLK_STATUS.PLL_REF`, R605. -/
def Reg.CLK_STATUS.PLL_REF : Fld :=
  { id := 571, base := 0x1000, lo := 27, w := 2 }

/-- `CLK_STATUS.HOLDOVER`, R605. -/
def Reg.CLK_STATUS.HOLDOVER : Fld :=
  { id := 572, base := 0x1000, lo := 26, w := 1 }

/-- `CLK_STATUS.TIME_LPO`, R605. -/
def Reg.CLK_STATUS.TIME_LPO : Fld :=
  { id := 573, base := 0x1000, lo := 25, w := 1 }

/-- `CLK_STATUS.ISL_BACKUP`, R605. -/
def Reg.CLK_STATUS.ISL_BACKUP : Fld :=
  { id := 574, base := 0x1000, lo := 8, w := 8 }

/-- `CLK_STATUS.ISL_DEAD`, R605. -/
def Reg.CLK_STATUS.ISL_DEAD : Fld :=
  { id := 575, base := 0x1000, lo := 0, w := 8 }

/-- `CLK_CFG.PLL_REF`, R605. -/
def Reg.CLK_CFG.PLL_REF : Fld :=
  { id := 576, base := 0x1004, lo := 31, w := 1, acc := .rw, keep := .w }

/-- `CLK_CFG.SYNC_DIV`, R605. -/
def Reg.CLK_CFG.SYNC_DIV : Fld :=
  { id := 577, base := 0x1004, lo := 0, w := 17, acc := .rw, keep := .w, rst := 0x3E8, lowest := 1000, highest := some 80000 }

/-- `CLK_ISL_BACKUP.BACKUP`, R605. -/
def Reg.CLK_ISL_BACKUP.BACKUP : Fld :=
  { id := 578, base := 0x1010, n1 := 3, s1 := 0x4, lo := 0, w := 32 }

/-- `CLK_ISL_DEAD.DEAD`, R605. -/
def Reg.CLK_ISL_DEAD.DEAD : Fld :=
  { id := 579, base := 0x1020, n1 := 3, s1 := 0x4, lo := 0, w := 32 }

/-- `CLK_TIME_ERR.MAX_CORR`, R605. -/
def Reg.CLK_TIME_ERR.MAX_CORR : Fld :=
  { id := 580, base := 0x1030, lo := 0, w := 8 }

/-- `CLK_CNT.ISL_SWITCHES`, R605. -/
def Reg.CLK_CNT.ISL_SWITCHES : Fld :=
  { id := 581, base := 0x1034, lo := 24, w := 8 }

/-- `CLK_CNT.REF_SWITCHES`, R605. -/
def Reg.CLK_CNT.REF_SWITCHES : Fld :=
  { id := 582, base := 0x1034, lo := 16, w := 8 }

/-- `CLK_CNT.PLL_UNLOCKS`, R605. -/
def Reg.CLK_CNT.PLL_UNLOCKS : Fld :=
  { id := 583, base := 0x1034, lo := 8, w := 8 }

/-- `CLK_CNT.TIME_RESYNC`, R605. -/
def Reg.CLK_CNT.TIME_RESYNC : Fld :=
  { id := 584, base := 0x1034, lo := 0, w := 8 }

/-- `SVC_STATUS.LOCKED`, R606. -/
def Reg.SVC_STATUS.LOCKED : Fld :=
  { id := 585, base := 0x6000, lo := 31, w := 1, keep := .p }

/-- `SVC_STATUS.FROZEN`, R606. -/
def Reg.SVC_STATUS.FROZEN : Fld :=
  { id := 586, base := 0x6000, lo := 30, w := 1 }

/-- `SVC_STATUS.DBG_RUN`, R606. -/
def Reg.SVC_STATUS.DBG_RUN : Fld :=
  { id := 587, base := 0x6000, lo := 29, w := 1 }

/-- `SVC_STATUS.FROM`, R606. -/
def Reg.SVC_STATUS.FROM : Fld :=
  { id := 588, base := 0x6000, lo := 26, w := 3 }

/-- `SVC_STATUS.SNAP_BUSY`, R606. -/
def Reg.SVC_STATUS.SNAP_BUSY : Fld :=
  { id := 589, base := 0x6000, lo := 25, w := 1 }

/-- `SVC_STATUS.DBG_DIFF`, R606. -/
def Reg.SVC_STATUS.DBG_DIFF : Fld :=
  { id := 590, base := 0x6000, lo := 24, w := 1, acc := .w1c }

/-- `SVC_STATUS.HALTED_PAIRS`, R606. -/
def Reg.SVC_STATUS.HALTED_PAIRS : Fld :=
  { id := 591, base := 0x6000, lo := 0, w := 10 }

/-- `SVC_LOCK.BAD`, R606. -/
def Reg.SVC_LOCK.BAD : Fld :=
  { id := 592, base := 0x6004, lo := 31, w := 1, acc := .w1c }

/-- `SVC_LOCK.KEY`, R606. -/
def Reg.SVC_LOCK.KEY : Fld :=
  { id := 593, base := 0x6004, lo := 0, w := 16, acc := .pfo }

/-- `SVC_FREEZE_T.START_LO`, R606. -/
def Reg.SVC_FREEZE_T.START_LO : Fld :=
  { id := 594, base := 0x6008, lo := 0, w := 32 }

/-- `SVC_FREEZE_LEN.LEN`, R606. -/
def Reg.SVC_FREEZE_LEN.LEN : Fld :=
  { id := 595, base := 0x600C, lo := 0, w := 32 }

/-- `SVC_CNT.FREEZES`, R606. -/
def Reg.SVC_CNT.FREEZES : Fld :=
  { id := 596, base := 0x6010, lo := 0, w := 16, keep := .p }

/-- `GLB_ACC_ERR.VALID`, R619. -/
def Reg.GLB_ACC_ERR.VALID : Fld :=
  { id := 597, base := 0x30, lo := 31, w := 1, acc := .w1c }

/-- `GLB_ACC_ERR.CAUSE`, R619. -/
def Reg.GLB_ACC_ERR.CAUSE : Fld :=
  { id := 598, base := 0x30, lo := 28, w := 3 }

/-- `GLB_ACC_ERR.COUNT`, R619. -/
def Reg.GLB_ACC_ERR.COUNT : Fld :=
  { id := 599, base := 0x30, lo := 20, w := 8 }

/-- `GLB_ACC_ERR.ADDR`, R619. -/
def Reg.GLB_ACC_ERR.ADDR : Fld :=
  { id := 600, base := 0x30, lo := 0, w := 20 }

/-- `GLB_UID_LO.UID_LO`, R12. -/
def Reg.GLB_UID_LO.UID_LO : Fld :=
  { id := 601, base := 0x8, lo := 0, w := 32, keep := .p }

/-- `GLB_UID_HI.UID_HI`, R12. -/
def Reg.GLB_UID_HI.UID_HI : Fld :=
  { id := 602, base := 0xC, lo := 0, w := 32, keep := .p }

/-- `PHC_CL_B0.COEF`, R142. -/
def Reg.PHC_CL_B0.COEF : Fld :=
  { id := 603, base := 0x20060, n1 := 144, s1 := 0x100, lo := 0, w := 18, acc := .rw, keep := .w, rule := .phcCoef }

/-- `PHC_CL_B1.COEF`, R142. -/
def Reg.PHC_CL_B1.COEF : Fld :=
  { id := 604, base := 0x20064, n1 := 144, s1 := 0x100, lo := 0, w := 18, acc := .rw, keep := .w, rule := .phcCoef }

/-- `PHC_CL_B2.COEF`, R142. -/
def Reg.PHC_CL_B2.COEF : Fld :=
  { id := 605, base := 0x20068, n1 := 144, s1 := 0x100, lo := 0, w := 18, acc := .rw, keep := .w, rule := .phcCoef }

/-- `PHC_CL_B3.COEF`, R142. -/
def Reg.PHC_CL_B3.COEF : Fld :=
  { id := 606, base := 0x2006C, n1 := 144, s1 := 0x100, lo := 0, w := 18, acc := .rw, keep := .w, rule := .phcCoef }

/-- `PHC_CL_A1.COEF`, R142. -/
def Reg.PHC_CL_A1.COEF : Fld :=
  { id := 607, base := 0x20070, n1 := 144, s1 := 0x100, lo := 0, w := 18, acc := .rw, keep := .w, rule := .phcCoef }

/-- `PHC_CL_A2.COEF`, R142. -/
def Reg.PHC_CL_A2.COEF : Fld :=
  { id := 608, base := 0x20074, n1 := 144, s1 := 0x100, lo := 0, w := 18, acc := .rw, keep := .w, rule := .phcCoef }

/-- `PHC_CL_A3.COEF`, R142. -/
def Reg.PHC_CL_A3.COEF : Fld :=
  { id := 609, base := 0x20078, n1 := 144, s1 := 0x100, lo := 0, w := 18, acc := .rw, keep := .w, rule := .phcCoef }

/-- `PHC_VL_B0.COEF`, R142. -/
def Reg.PHC_VL_B0.COEF : Fld :=
  { id := 610, base := 0x20080, n1 := 144, s1 := 0x100, lo := 0, w := 18, acc := .rw, keep := .w, rule := .phcCoef }

/-- `PHC_VL_B1.COEF`, R142. -/
def Reg.PHC_VL_B1.COEF : Fld :=
  { id := 611, base := 0x20084, n1 := 144, s1 := 0x100, lo := 0, w := 18, acc := .rw, keep := .w, rule := .phcCoef }

/-- `PHC_VL_B2.COEF`, R142. -/
def Reg.PHC_VL_B2.COEF : Fld :=
  { id := 612, base := 0x20088, n1 := 144, s1 := 0x100, lo := 0, w := 18, acc := .rw, keep := .w, rule := .phcCoef }

/-- `PHC_VL_B3.COEF`, R142. -/
def Reg.PHC_VL_B3.COEF : Fld :=
  { id := 613, base := 0x2008C, n1 := 144, s1 := 0x100, lo := 0, w := 18, acc := .rw, keep := .w, rule := .phcCoef }

/-- `PHC_VL_A1.COEF`, R142. -/
def Reg.PHC_VL_A1.COEF : Fld :=
  { id := 614, base := 0x20090, n1 := 144, s1 := 0x100, lo := 0, w := 18, acc := .rw, keep := .w, rule := .phcCoef }

/-- `PHC_VL_A2.COEF`, R142. -/
def Reg.PHC_VL_A2.COEF : Fld :=
  { id := 615, base := 0x20094, n1 := 144, s1 := 0x100, lo := 0, w := 18, acc := .rw, keep := .w, rule := .phcCoef }

/-- `PHC_VL_A3.COEF`, R142. -/
def Reg.PHC_VL_A3.COEF : Fld :=
  { id := 616, base := 0x20098, n1 := 144, s1 := 0x100, lo := 0, w := 18, acc := .rw, keep := .w, rule := .phcCoef }

/-- `PHC_BL_B0.COEF`, R142. -/
def Reg.PHC_BL_B0.COEF : Fld :=
  { id := 617, base := 0x200A0, n1 := 144, s1 := 0x100, lo := 0, w := 18, acc := .rw, keep := .w, rule := .phcCoef }

/-- `PHC_BL_B1.COEF`, R142. -/
def Reg.PHC_BL_B1.COEF : Fld :=
  { id := 618, base := 0x200A4, n1 := 144, s1 := 0x100, lo := 0, w := 18, acc := .rw, keep := .w, rule := .phcCoef }

/-- `PHC_BL_B2.COEF`, R142. -/
def Reg.PHC_BL_B2.COEF : Fld :=
  { id := 619, base := 0x200A8, n1 := 144, s1 := 0x100, lo := 0, w := 18, acc := .rw, keep := .w, rule := .phcCoef }

/-- `PHC_BL_B3.COEF`, R142. -/
def Reg.PHC_BL_B3.COEF : Fld :=
  { id := 620, base := 0x200AC, n1 := 144, s1 := 0x100, lo := 0, w := 18, acc := .rw, keep := .w, rule := .phcCoef }

/-- `PHC_BL_A1.COEF`, R142. -/
def Reg.PHC_BL_A1.COEF : Fld :=
  { id := 621, base := 0x200B0, n1 := 144, s1 := 0x100, lo := 0, w := 18, acc := .rw, keep := .w, rule := .phcCoef }

/-- `PHC_BL_A2.COEF`, R142. -/
def Reg.PHC_BL_A2.COEF : Fld :=
  { id := 622, base := 0x200B4, n1 := 144, s1 := 0x100, lo := 0, w := 18, acc := .rw, keep := .w, rule := .phcCoef }

/-- `PHC_BL_A3.COEF`, R142. -/
def Reg.PHC_BL_A3.COEF : Fld :=
  { id := 623, base := 0x200B8, n1 := 144, s1 := 0x100, lo := 0, w := 18, acc := .rw, keep := .w, rule := .phcCoef }

/-- `PDP_POL_A.PMAX`, R470. -/
def Reg.PDP_POL_A.PMAX : Fld :=
  { id := 624, base := 0x70010, n1 := 8, s1 := 0x400, lo := 20, w := 12, keep := .w, rst := 0x258 }

/-- `PDP_POL_A.IMAX`, R470. -/
def Reg.PDP_POL_A.IMAX : Fld :=
  { id := 625, base := 0x70010, n1 := 8, s1 := 0x400, lo := 7, w := 13, keep := .w, rst := 0xBB8 }

/-- `PDP_POL_B.VMASK`, R470. -/
def Reg.PDP_POL_B.VMASK : Fld :=
  { id := 626, base := 0x70014, n1 := 8, s1 := 0x400, lo := 26, w := 6, keep := .w, rst := 0x7 }

/-- `PDP_POL_B.PPS_EN`, R470. -/
def Reg.PDP_POL_B.PPS_EN : Fld :=
  { id := 627, base := 0x70014, n1 := 8, s1 := 0x400, lo := 25, w := 1, keep := .w, rst := 0x1 }

/-- `PDP_POL_B.EPR_EN`, R470. -/
def Reg.PDP_POL_B.EPR_EN : Fld :=
  { id := 628, base := 0x70014, n1 := 8, s1 := 0x400, lo := 24, w := 1, keep := .w }

/-- `PDP_POL_B.SVC_EN`, R470. -/
def Reg.PDP_POL_B.SVC_EN : Fld :=
  { id := 629, base := 0x70014, n1 := 8, s1 := 0x400, lo := 23, w := 1, keep := .w }

/-- `PDP_POL_B.VSWAP`, R470. -/
def Reg.PDP_POL_B.VSWAP : Fld :=
  { id := 630, base := 0x70014, n1 := 8, s1 := 0x400, lo := 22, w := 1, keep := .w, rst := 0x1 }

/-- `PDP_POL_C.PPS_VMIN`, R470. -/
def Reg.PDP_POL_C.PPS_VMIN : Fld :=
  { id := 631, base := 0x70018, n1 := 8, s1 := 0x400, lo := 16, w := 16, keep := .w, rst := 0xCE4 }

/-- `PDP_POL_C.PPS_VMAX`, R470. -/
def Reg.PDP_POL_C.PPS_VMAX : Fld :=
  { id := 632, base := 0x70018, n1 := 8, s1 := 0x400, lo := 0, w := 16, keep := .w, rst := 0x5208 }

/-- `MSR_FCV_OFF.OFFSET`, R291. -/
def Reg.MSR_FCV_OFF.OFFSET : Fld :=
  { id := 633, base := 0x44040, n1 := 4, s1 := 0x400, n2 := 3, s2 := 0x8, lo := 0, w := 32, keep := .k }

/-- `MSR_FCV_GAIN.GAIN`, R291. -/
def Reg.MSR_FCV_GAIN.GAIN : Fld :=
  { id := 634, base := 0x44044, n1 := 4, s1 := 0x400, n2 := 3, s2 := 0x8, lo := 0, w := 32, keep := .k, rst := 0x40000000 }

/-- `MSIX_ADDR_LO.ADDR_LO`, R374. -/
def Reg.MSIX_ADDR_LO.ADDR_LO : Fld :=
  { id := 635, space := .fn, base := 0xE000, vf := 0x2000, n1 := 1025, s1 := 0x0, n2 := 16, s2 := 0x10, lo := 2, w := 30, acc := .rw, keep := .f }

/-- `MSIX_ADDR_HI.ADDR_HI`, R374. -/
def Reg.MSIX_ADDR_HI.ADDR_HI : Fld :=
  { id := 636, space := .fn, base := 0xE004, vf := 0x2004, n1 := 1025, s1 := 0x0, n2 := 16, s2 := 0x10, lo := 0, w := 32, acc := .rw, keep := .f }

/-- `MSIX_DATA.DATA`, R374. -/
def Reg.MSIX_DATA.DATA : Fld :=
  { id := 637, space := .fn, base := 0xE008, vf := 0x2008, n1 := 1025, s1 := 0x0, n2 := 16, s2 := 0x10, lo := 0, w := 32, acc := .rw, keep := .f }

/-- `MSIX_CTRL.MASK`, R374. -/
def Reg.MSIX_CTRL.MASK : Fld :=
  { id := 638, space := .fn, base := 0xE00C, vf := 0x200C, n1 := 1025, s1 := 0x0, n2 := 16, s2 := 0x10, lo := 0, w := 1, acc := .rw, keep := .f, rst := 0x1 }

/-- `MSIX_PBA.PEND`, R374. -/
def Reg.MSIX_PBA.PEND : Fld :=
  { id := 639, space := .fn, base := 0xF000, vf := 0x3000, n1 := 1025, s1 := 0x0, lo := 0, w := 16, keep := .f }

/-- Part 0 of the field table. -/
def fieldTable0 : List Fld :=
  [Reg.GLB_ID.PART, Reg.GLB_ID.MAP_VER, Reg.GLB_ID.TRELLIS_STEP, Reg.GLB_ID.PKG, Reg.GLB_STEP.FUSE_MAP,
   Reg.GLB_STEP.PLANTER3_STEP, Reg.GLB_STEP.PLANTER2_STEP, Reg.GLB_STEP.PLANTER1_STEP,
   Reg.GLB_STEP.PLANTER0_STEP, Reg.GLB_HEALTH.BED_LOST, Reg.GLB_HEALTH.SPARE_PAIRS,
   Reg.GLB_HEALTH.ROOT_ALT, Reg.GLB_HEALTH.LANE_SPARED, Reg.GLB_HEALTH.XTAL_LOST,
   Reg.GLB_HEALTH.PCIE_NARROW, Reg.GLB_HEALTH.COVERAGE_LOST, Reg.GLB_HEALTH_FE.ICV_SUBST,
   Reg.GLB_HEALTH_FE.FCV_LOST, Reg.GLB_HEALTH_FE.FEED_LOST, Reg.SRC_BUS.MISMATCH, Reg.SRC_BUS.OV,
   Reg.SRC_BUS.UV, Reg.SRC_BUS.BUS_V, Reg.SRC_BUS_CFG.OV_V, Reg.SRC_BUS_CFG.UV_V,
   Reg.SRC_BUS_CFG.RESTART_V, Reg.SRC_GUARD.ACTIVE, Reg.SRC_GUARD.ALL_LOST, Reg.SRC_GUARD.TRIP_PCT,
   Reg.SRC_GUARD.TRIPS, Reg.SRC_GUARD.SCALE, Reg.SRC_ISLAND.V_SET, Reg.SRC_ISLAND.DROOP,
   Reg.SRC_ISLAND.DONOR_MAX, Reg.SRC_ISLAND.FLOOR, Reg.SRC_ISLAND.ENABLE, Reg.SRC_PORT_CFG.QUAL_T,
   Reg.SRC_PORT_CFG.MODE, Reg.SRC_PORT_CFG.CLASS_SEL, Reg.SRC_PORT_LIMIT.OVERRIDE]

/-- Part 1 of the field table. -/
def fieldTable1 : List Fld :=
  [Reg.SRC_PORT_STATUS.PRESENT, Reg.SRC_PORT_STATUS.ENABLED, Reg.SRC_PORT_STATUS.QUALIFYING,
   Reg.SRC_PORT_STATUS.CLASS, Reg.SRC_PORT_STATUS.LOST_WHY, Reg.SRC_PORT_STATUS.LIMIT_EFF,
   Reg.SRC_PORT_MEAS.VOLT, Reg.SRC_PORT_MEAS.CURR, Reg.SRC_HB_CFG.CHEM, Reg.SRC_HB_CFG.TSENS_ADDR,
   Reg.SRC_HB_CFG.ICHG, Reg.SRC_HB_STATUS.STATE, Reg.SRC_HB_STATUS.ABSENT, Reg.SRC_HB_STATUS.HRAIL,
   Reg.SRC_HB_STATUS.WAKE, Reg.SRC_HB_STATUS.TEMP, Reg.SRC_HB_MEAS.VOLT, Reg.SRC_HB_MEAS.CURR,
   Reg.SRC_ACC_CTRL.MODE, Reg.SRC_ACC_CTRL.VOUT, Reg.SRC_ACC_CTRL.ILIM, Reg.SRC_ACC_CTRL.UVLO,
   Reg.SRC_ACC_CTRL.RUNNING, Reg.PHC_CTRL.ENABLE, Reg.PHC_CTRL.TOPO, Reg.PHC_CTRL.SYNC,
   Reg.PHC_CTRL.RATIO, Reg.PHC_CTRL.PEAK_LIM, Reg.PHC_STATUS.PARKED, Reg.PHC_STATUS.LEAD,
   Reg.PHC_STATUS.LOOP_MODE, Reg.PHC_STATUS.DIR, Reg.PHC_STATUS.STAGE, Reg.PHC_STATUS.ACTIVE_PH,
   Reg.PHC_STATUS.SYNC_LOCK, Reg.PHC_STATUS.SYNC_LOST, Reg.PHC_STATUS.SHORT_AT_START,
   Reg.PHC_STATUS.RISE_ABORT, Reg.PHC_STATUS.RUNAWAY, Reg.PHC_STATUS.DRV_FLT]

/-- Part 2 of the field table. -/
def fieldTable2 : List Fld :=
  [Reg.PHC_STATUS.LOOP_UNSET, Reg.PHC_STATUS.WR_REJ, Reg.PHC_TIMING.PER, Reg.PHC_TIMING.PHASE,
   Reg.PHC_DT.DT_R, Reg.PHC_DT.DT_F, Reg.PHC_DT.MIN_ON, Reg.PHC_DUTY_LIM.DUTY_MAX,
   Reg.PHC_DUTY_LIM.DUTY_MIN, Reg.PHC_SENSE.RSNS, Reg.PHC_SHED.SHED_I, Reg.PHC_SHED.ADD_I,
   Reg.PHC_SHED.SHED_DWELL, Reg.PHC_SHED.SHED_EN, Reg.PHC_START.SHORT_V, Reg.PHC_START.RISE_V,
   Reg.PHC_START.RISE_TMO, Reg.PHC_START.RETRY_MAX, Reg.PHC_SS_A.SEGS, Reg.PHC_SS_B.SEGS,
   Reg.PHC_ST_A.SEGS, Reg.PHC_ST_B.SEGS, Reg.PHC_BURST.BURST_I, Reg.PHC_BURST.BURST_PK,
   Reg.PHC_BURST.BURST_ON, Reg.PHC_BURST.BURST_EN, Reg.PHC_LOOP.APPLY, Reg.PHC_LOOP.VL_DIV,
   Reg.PHC_LOOP.CL_SHIFT, Reg.PHC_LOOP.VL_SHIFT, Reg.PHC_LOOP.BL_SHIFT, Reg.PHC_REF_I.REF_I,
   Reg.PHC_REF_V.REF_V, Reg.PHC_MEAS_I.MEAS_I, Reg.PHC_MEAS_V.MEAS_V, Reg.PHC_OUT.DUTY,
   Reg.PHC_PER_EFF.PER_EFF, Reg.PHC_IMBAL.IMB_PCT, Reg.PHC_CNT.CBC, Reg.PHC_CNT.RETRIES]

/-- Part 3 of the field table. -/
def fieldTable3 : List Fld :=
  [Reg.PHC_CNT.SYNC_LOSSES, Reg.PHC_GCTL.SYNC_LOSS_N, Reg.PHC_GCTL.SYNC_OUT_EN,
   Reg.PHC_GCTL.SYNC_OUT_SRC, Reg.PHC_GANG.GANG_EN, Reg.SLT_CFG.ENABLE, Reg.SLT_CFG.IDENT,
   Reg.SLT_CFG.SWAP_AUTH, Reg.SLT_CFG.WET_AUTO, Reg.SLT_CFG.DEBOUNCE, Reg.SLT_CFG.AUTH_POLL,
   Reg.SLT_STATUS.STATE, Reg.SLT_STATUS.PHASE, Reg.SLT_STATUS.ZONE, Reg.SLT_STATUS.TYPE,
   Reg.SLT_STATUS.ID_LOW, Reg.SLT_STATUS.WET, Reg.SLT_STATUS.ROLE, Reg.SLT_STATUS.RECEIVER,
   Reg.SLT_STATUS.NTC_A_BAD, Reg.SLT_STATUS.NTC_B_BAD, Reg.SLT_OWNER.CLAIMED, Reg.SLT_OWNER.OWNER,
   Reg.SLT_FAULT.FAULTED, Reg.SLT_FAULT.CLEAR, Reg.SLT_FAULT.CAUSE, Reg.SLT_FAULT.COUNT,
   Reg.SLT_PACK_ID_LO.ID_LO, Reg.SLT_PACK_ID_HI.ID_HI, Reg.SLT_PACK_A.CHEM, Reg.SLT_PACK_A.CELLS,
   Reg.SLT_PACK_A.ICHG_MAX, Reg.SLT_PACK_A.IDIS_MAX, Reg.SLT_PACK_B.VCHG_CELL, Reg.SLT_PACK_B.VDIS_CELL,
   Reg.SLT_PROF_A.CV_CELL, Reg.SLT_PROF_A.ICC, Reg.SLT_PROF_B.IPRE, Reg.SLT_PROF_B.ITRICKLE,
   Reg.SLT_PROF_B.TAPER]

/-- Part 4 of the field table. -/
def fieldTable4 : List Fld :=
  [Reg.SLT_TIMERS.CV_MAX, Reg.SLT_TIMERS.TOTAL_MAX, Reg.SLT_TIMERS.TRICKLE_MAX, Reg.SLT_TIMERS.PRE_MAX,
   Reg.SLT_TEMP_WIN.T1, Reg.SLT_TEMP_WIN.T2, Reg.SLT_TEMP_WIN.T3, Reg.SLT_TEMP_WIN.T4,
   Reg.SLT_TEMP.NTC_A, Reg.SLT_TEMP.NTC_B, Reg.SLT_VPACK.VPACK, Reg.SLT_TIME.PH_TIME,
   Reg.SLT_TIME.CHG_TIME, Reg.SLT_LINK.PEER, Reg.SLT_DIAG.ID_MV, Reg.SLT_DIAG.LEAK_R,
   Reg.SLT_DIAG.LEAK_V, Reg.SLT_AUD_Q.Q, Reg.SLT_AUD_E.VALID, Reg.SLT_AUD_E.E, Reg.SLT_BOARD.IMAX_BRD,
   Reg.SLT_BOARD.VMAX_BRD, Reg.SLT_GCFG.T_OT, Reg.SLT_PTYPE_A.VALID, Reg.SLT_PTYPE_A.CHEM,
   Reg.SLT_PTYPE_A.CELLS, Reg.SLT_PTYPE_A.ICHG_MAX, Reg.SLT_PTYPE_A.IDIS_MAX, Reg.SLT_PTYPE_B.VCHG_CELL,
   Reg.SLT_PTYPE_B.VDIS_CELL, Reg.ALM_STATUS.RUNNING, Reg.ALM_STATUS.ROOT_ALT, Reg.ALM_STATUS.CURTAIL,
   Reg.ALM_STATUS.ISLAND, Reg.ALM_STATUS.GUARD, Reg.ALM_STATUS.HELD_FN, Reg.ALM_STATUS.SCHEMA,
   Reg.ALM_TICK.TICK, Reg.ALM_GEN.GEN, Reg.ALM_BUDGET.BUDGET]

/-- Part 5 of the field table. -/
def fieldTable5 : List Fld :=
  [Reg.ALM_DRAW.DRAW, Reg.ALM_FEED.FEED, Reg.ALM_CNT.SKIPPED, Reg.ALM_CNT.LATE_PLAN,
   Reg.ALM_CNT.LATE_ISLAND, Reg.ALM_CNT.HANDOVERS, Reg.ALM_CFG.BUDGET_PCT, Reg.ALM_CFG.ETA_PCT,
   Reg.ALM_CFG.CURTAIL_PCT, Reg.ALM_CFG.HOLD_PCT, Reg.ALM_RAMP.UP, Reg.ALM_RAMP.DN,
   Reg.ALM_RAMP.QCUT_PCT, Reg.ALM_VIEW_SEL.CHAN, Reg.ALM_VIEW_BASE.TICK, Reg.ALM_VIEW.VALID,
   Reg.ALM_VIEW.COMMITTED, Reg.ALM_VIEW.REF_I, Reg.ALM_AUX_I.EN, Reg.ALM_AUX_I.REF_I,
   Reg.ALM_AUX_V.REF_V, Reg.ALM_SLOT_A.PRIO, Reg.ALM_SLOT_A.RESV, Reg.ALM_SLOT_A.HELD,
   Reg.ALM_SLOT_A.QCUT, Reg.ALM_SLOT_A.RESV_SOC, Reg.ALM_SLOT_B.RESV_TICK, Reg.MSR_ICV_CTRL.RUN,
   Reg.MSR_ICV_CTRL.LP, Reg.MSR_ICV_CTRL.WINDOWS, Reg.MSR_ICV_CTRL.TRIG_SRC,
   Reg.MSR_ICV_CTRL.TRIG_POLICY, Reg.MSR_ICV_CTRL.TICK_MS, Reg.MSR_ICV_CTRL.SETTLE,
   Reg.MSR_ICV_STATUS.STATE, Reg.MSR_ICV_STATUS.FAILED, Reg.MSR_ICV_STATUS.TRIG_LATCHED,
   Reg.MSR_ICV_STATUS.ENTRY, Reg.MSR_ICV_STATUS.REPEAT_DONE, Reg.MSR_ICV_STATUS.WINDOW]

/-- Part 6 of the field table. -/
def fieldTable6 : List Fld :=
  [Reg.MSR_ICV_STATUS.URG_Q, Reg.MSR_ICV_CNT.TRIG_OVR, Reg.MSR_ICV_CNT.ABORTS, Reg.MSR_ICV_CNT.OVR,
   Reg.MSR_ICV_CNT.TIMEOUTS, Reg.MSR_ICV_PASS.PASS_LAST, Reg.MSR_ICV_BUDGET.PASS_CHK,
   Reg.MSR_ICV_SUBST.CHAN_SUBST, Reg.MSR_ICV_RNG.RNG, Reg.MSR_ICV_LAST.VALUE, Reg.MSR_ICV_ENT_A.CHAN,
   Reg.MSR_ICV_ENT_A.RANGE, Reg.MSR_ICV_ENT_A.CYC, Reg.MSR_ICV_ENT_A.REPEAT, Reg.MSR_ICV_ENT_A.TRIG,
   Reg.MSR_ICV_ENT_A.RING, Reg.MSR_ICV_ENT_A.AVG, Reg.MSR_ICV_ENT_B.DELAY, Reg.MSR_ICV_OFF.OFFSET,
   Reg.MSR_ICV_GAIN.GAIN, Reg.MSR_FCV_STATUS.STATE, Reg.MSR_FCV_STATUS.SUBST_ICV,
   Reg.MSR_FCV_STATUS.CHANS, Reg.MSR_FCV_XCHK.AGE_MAX, Reg.MSR_FCV_XCHK.MISMATCH,
   Reg.MSR_FCV_XCHK.REFEREES, Reg.MSR_FCV_LAST.VALUE, Reg.MSR_DAC_CTRL.EN, Reg.MSR_DAC_CTRL.ATT,
   Reg.MSR_DAC_CTRL.TARGET, Reg.MSR_DAC_CTRL.CODE, Reg.MSR_DAC_STATUS.USER,
   Reg.MSR_DAC_STATUS.CONNECTED, Reg.MSR_DAC_STATUS.REJ, Reg.MSR_MAINS.SRC, Reg.MSR_MAINS.LOCKED,
   Reg.MSR_MAINS.PERIOD, Reg.MSR_GRP.SRC, Reg.MSR_GRP.TICK_MS, Reg.MSR_GRP.MEMBERS]

/-- Part 7 of the field table. -/
def fieldTable7 : List Fld :=
  [Reg.MSR_NTC.B_K, Reg.MSR_NTC.NOM_OHM, Reg.GAU_CFG.SHUNT, Reg.GAU_CFG.AZERO, Reg.GAU_STATUS.STATE,
   Reg.GAU_STATUS.DEGRADED, Reg.GAU_STATUS.LEARNED, Reg.GAU_STATUS.ANCHOR, Reg.GAU_STATUS.ACC_OVR,
   Reg.GAU_STATUS.CUT_DEF, Reg.GAU_STATUS.AGE_H, Reg.GAU_STATUS.UNCAL, Reg.GAU_SOC.SOC,
   Reg.GAU_SOC.V_CUT_CELL, Reg.GAU_QFULL.Q_FULL, Reg.GAU_QREM.Q_REM, Reg.GAU_EREM.E_REM,
   Reg.GAU_ACC_LO.ACC_LO, Reg.GAU_ACC_HI.ACC_HI, Reg.GAU_NSAMP.NSAMP, Reg.GAU_CURR.I_AVG,
   Reg.GAU_THRU_IN.THRU_IN, Reg.GAU_THRU_OUT.THRU_OUT, Reg.GAU_ZTRIM.ZTRIM, Reg.GAU_SNAP.SEQ,
   Reg.GAU_CNT.LEARN_CNT, Reg.GAU_CNT.SNAP_DROP, Reg.GAU_CNT.OVR_CNT, Reg.GAU_WARN.LVL0,
   Reg.GAU_WARN.LVL1, Reg.GAU_WARN.LVL2, Reg.GAU_WARN.LVL3, Reg.GAU_WARN_ST.FIRED, Reg.GAU_CAL_OFF.OFF,
   Reg.GAU_CAL_GAIN.GAIN, Reg.HIF_LINK.SPEED, Reg.HIF_LINK.WIDTH, Reg.HIF_LINK.LANE_FAULT,
   Reg.HIF_LINK.RETRAINS, Reg.HIF_CFG.POLL_CAP]

/-- Part 8 of the field table. -/
def fieldTable8 : List Fld :=
  [Reg.HIF_CFG.POLL_MIN, Reg.HIF_POLL.POLL_BW, Reg.HIF_POLL.ACTIVE_FN, Reg.HIF_POLL.INT_ACT,
   Reg.HIF_CNT.CRC_ERRS, Reg.HIF_CNT.RING_ERRS, Reg.HIF_CNT.DMA_ERRS, Reg.HIF_RNG_WIN.GROUP,
   Reg.FN_STATUS.LIVE, Reg.FN_STATUS.HELD, Reg.FN_STATUS.FLR_BUSY, Reg.FN_STATUS.FN,
   Reg.FN_DB_LO.ADDR_LO, Reg.FN_DB_LO.EN, Reg.FN_DB_HI.ADDR_HI, Reg.RING_CTRL.EN, Reg.RING_CTRL.TYPE,
   Reg.RING_CTRL.LOG2, Reg.RING_CTRL.VEC, Reg.RING_CTRL.CPL_RING, Reg.RING_CTRL.CLASS_MASK,
   Reg.RING_BASE_LO.ADDR_LO, Reg.RING_BASE_HI.ADDR_HI, Reg.RING_MOD.MOD_CNT, Reg.RING_MOD.MOD_US,
   Reg.RING_DEV_IDX.DEV_IDX, Reg.RING_HOST_IDX.HOST_IDX, Reg.RING_ERRST.ERR_CODE, Reg.RING_ERRST.DROPS,
   Reg.TEN_QUOTA_P.POWER, Reg.TEN_QUOTA_B.MAX_SLOTS, Reg.TEN_QUOTA_B.MAX_XFER, Reg.TEN_QUOTA_B.EVT_RATE,
   Reg.TEN_SLOTMASK_LO.MASK_LO, Reg.TEN_SLOTMASK_HI.MASK_HI, Reg.TEN_WDG_CFG.PERIOD,
   Reg.TEN_WDG_CFG.OPEN, Reg.TEN_KEY.KEY0, Reg.TEN_KEY.KEY1, Reg.TEN_KEY.KEY2]

/-- Part 9 of the field table. -/
def fieldTable9 : List Fld :=
  [Reg.TEN_KEY.KEY3, Reg.TEN_USE.SLOTS, Reg.TEN_USE.XFER, Reg.TEN_USE.PLAN, Reg.TEN_CNT.RATE_DROP,
   Reg.TEN_CNT.LOST_CNT, Reg.TEN_CNT.WRONG, Reg.FN_WDG.STATE, Reg.FN_WDG.MISSES, Reg.FN_WDG.GOOD,
   Reg.FN_WDG.QSEQ, Reg.TWB_CFG.SPEED, Reg.TWB_CFG.FILT, Reg.TWB_CFG.TMO_SCL, Reg.TWB_CFG.TMO_SDA,
   Reg.TWB_CFG.ARB_RETRY, Reg.TWB_CFG.ARA_AUTO, Reg.TWB_CFG.SLEEP_EN, Reg.TWB_CFG.PEC_SYS,
   Reg.TWB_STATUS.BUSY, Reg.TWB_STATUS.USER, Reg.TWB_STATUS.BUS_DEAD, Reg.TWB_STATUS.SCL_TMO,
   Reg.TWB_STATUS.SDA_TMO, Reg.TWB_STATUS.ARB_LOST, Reg.TWB_STATUS.PEC_ERR, Reg.TWB_STATUS.ALERT,
   Reg.TWB_STATUS.HOSTQ, Reg.TWB_STATUS.LAST, Reg.TWB_CTRL.CANCEL, Reg.TWB_CTRL.RECOVER,
   Reg.TWB_CNT.NACKS, Reg.TWB_CNT.TIMEOUTS, Reg.TWB_CNT.ARB_LOSSES, Reg.TWB_CNT.PEC_ERRS,
   Reg.TWB_TGT.EN, Reg.TWB_TGT.ADDR, Reg.TWB_TGT.WAKE, Reg.TWB_TGT.ALERT_REQ, Reg.TWB_TGT.RX_FULL]

/-- Part 10 of the field table. -/
def fieldTable10 : List Fld :=
  [Reg.TWB_TGT.TX_LEN, Reg.TWB_TGT.RX_LEN, Reg.TWB_TGT_TX.TX, Reg.TWB_TGT_RX.RX, Reg.PDP_CFG.EN,
   Reg.PDP_CFG.ALLOW, Reg.PDP_DEF_A.PMAX, Reg.PDP_DEF_A.IMAX, Reg.PDP_DEF_B.VMASK, Reg.PDP_DEF_B.PPS_EN,
   Reg.PDP_DEF_B.EPR_EN, Reg.PDP_DEF_B.SVC_EN, Reg.PDP_DEF_B.VSWAP, Reg.PDP_DEF_C.PPS_VMIN,
   Reg.PDP_DEF_C.PPS_VMAX, Reg.PDP_STATUS.TC_STATE, Reg.PDP_STATUS.ORIENT, Reg.PDP_STATUS.VCONN,
   Reg.PDP_STATUS.CONTRACT, Reg.PDP_STATUS.SVC, Reg.PDP_STATUS.HELD, Reg.PDP_STATUS.HOLDER,
   Reg.PDP_STATUS.REV, Reg.PDP_CONTRACT.V, Reg.PDP_CONTRACT.I, Reg.PDP_CABLE.VALID,
   Reg.PDP_CABLE.EPR_CAP, Reg.PDP_CABLE.CABLE_I, Reg.PDP_CABLE.VMAX, Reg.PDP_MEAS.VBUS,
   Reg.PDP_MEAS.IBUS, Reg.PDP_CNT.HARD_RESETS, Reg.PDP_CNT.SOFT_RESETS, Reg.PDP_CNT.RX_ABORTS,
   Reg.PDP_CNT.FAULTS, Reg.PDP_CTRL.CLEAR, Reg.PDP_GCFG.ISL_PMAX, Reg.ENG_GEN.ACTIVE,
   Reg.ENG_GEN.STAGED, Reg.ENG_SCHEMA.ACT_LO]

/-- Part 11 of the field table. -/
def fieldTable11 : List Fld :=
  [Reg.ENG_SCHEMA.ACT_HI, Reg.ENG_SCHEMA_STG.STG_LO, Reg.ENG_SCHEMA_STG.STG_HI, Reg.ENG_UPG.STATE,
   Reg.ENG_UPG.BED, Reg.ENG_UPG.STEP, Reg.ENG_UPG.BEDS_NEW, Reg.ENG_UPG_CFG.DWELL,
   Reg.ENG_UPG_CFG.AUTO_ABORT, Reg.ENG_BOOT.ACTIVE_BANK, Reg.ENG_BOOT.FALLBACK, Reg.ENG_BOOT.ERR,
   Reg.ENG_STAGE.CAUSE, Reg.ENG_STAGE.PROGRESS, Reg.ENG_CNT.DISAGREE, Reg.ENG_CNT.MIGRATIONS,
   Reg.ENG_CNT.RETIRED, Reg.ENG_PAIR_SEL.PAIR, Reg.ENG_PAIR.STATE, Reg.ENG_PAIR.GEN, Reg.ENG_PAIR.TASK,
   Reg.ENG_PAIR.STRIKES, Reg.ENG_TASK.HOST, Reg.ENG_TASK.GEN, Reg.ENG_TASK.STATE, Reg.ENG_TASK.FAULTS,
   Reg.ENG_TRACE_CTRL.EN, Reg.ENG_TRACE_CTRL.MODE, Reg.ENG_TRACE_CTRL.USER, Reg.ENG_TRACE_CTRL.MASK,
   Reg.ENG_TRACE_PTR.WR, Reg.ENG_TRACE_PTR.RD, Reg.ENG_TRACE_CNT.LOST, Reg.ENG_TRACE_WIN.REC,
   Reg.SAF_STATUS.START_OK, Reg.SAF_STATUS.SSP_LIVE, Reg.SAF_STATUS.FAULTED_CNT, Reg.SAF_HALT.CAUSE,
   Reg.SAF_HALT.DETAIL, Reg.SAF_HALT.COUNT]

/-- Part 12 of the field table. -/
def fieldTable12 : List Fld :=
  [Reg.SAF_HALT_TIME.TIME, Reg.SAF_CTRL.HALT, Reg.SAF_CTRL.LATENT_NOW, Reg.SAF_FG_CFG.OV_CELL,
   Reg.SAF_FG_CFG.OC_PCT, Reg.SAF_FG_CFG.RV_IDLE, Reg.SAF_LATENT.FAIL, Reg.SAF_CNT.FG_TRIPS,
   Reg.SAF_CNT.XCHK_FAIL, Reg.SAF_CNT.LATENT_FAIL, Reg.SAF_CNT.TASK_SAFE, Reg.SAF_SSP.EN,
   Reg.SAF_SSP.HALT_ALLOW, Reg.SAF_SSP.TMO, Reg.SAF_SSP.SPI_ERR_CNT, Reg.SAF_SSP.LAST_SEQ,
   Reg.SAF_FG_A.ARMED, Reg.SAF_FG_A.OV_TH, Reg.SAF_FG_A.OC_TH, Reg.SAF_FG_B.NTC_CODE,
   Reg.SAF_FG_B.TRIP_OV, Reg.SAF_FG_B.TRIP_OC, Reg.SAF_FG_B.TRIP_RV, Reg.SAF_FG_B.TRIP_NTC,
   Reg.SAF_FG_B.TRIP_ID, Reg.SAF_FG_B.TEST_FAIL, Reg.SAF_FG_B.SUBCAUSE, Reg.SAF_FG_B.RV_TH,
   Reg.WDG_CFG.CLK_SEL, Reg.WDG_CFG.AUTO_WARM, Reg.WDG_CFG.PERIOD, Reg.WDG_CFG.OPEN,
   Reg.WDG_CFG.RESTART_S, Reg.WDG_STATUS.STATE, Reg.WDG_STATUS.CLK_USE, Reg.WDG_STATUS.XTAL_FAIL,
   Reg.WDG_STATUS.LPO_FAIL, Reg.WDG_STATUS.MISSES, Reg.WDG_STATUS.QSEQ, Reg.WDG_CNT.MISSES_TOT]

/-- Part 13 of the field table. -/
def fieldTable13 : List Fld :=
  [Reg.WDG_CNT.CLK_SWITCHES, Reg.WDG_CNT.AUTO_WARMS, Reg.GLB_SEAL.SEALED, Reg.GLB_RESET_CAUSE.POR,
   Reg.GLB_RESET_CAUSE.BROWNOUT, Reg.GLB_RESET_CAUSE.PIN, Reg.GLB_RESET_CAUSE.PERST,
   Reg.GLB_RESET_CAUSE.FLR, Reg.GLB_RESET_CAUSE.BED, Reg.GLB_RESET_CAUSE.WARM, Reg.GLB_RESET_CAUSE.SAFE,
   Reg.GLB_RESET_CAUSE.FN_WDG, Reg.GLB_RESET_CAUSE.SHIP_WAKE, Reg.GLB_RESET_INFO.BED,
   Reg.GLB_RESET_INFO.FLR_FN, Reg.GLB_RESET_INFO.WDG_FN, Reg.GLB_TIME_LO.TIME_LO,
   Reg.GLB_TIME_HI.TIME_HI, Reg.PWR_MODE.MODE, Reg.PWR_MODE.PREV, Reg.PWR_MODE.SEQ, Reg.PWR_MODE.STEP,
   Reg.PWR_MODE.TARGET, Reg.PWR_CTRL.REQ, Reg.PWR_CTRL.CURTAIL, Reg.PWR_CTRL.WARM, Reg.PWR_CFG.SENT_HIF,
   Reg.PWR_CFG.SENT_AUTO, Reg.PWR_CFG.BTN_SHIP, Reg.PWR_DOM.ON, Reg.PWR_THERM.CURT_T,
   Reg.PWR_THERM.SHUT_T, Reg.PWR_TEMP.TEMP, Reg.PWR_TEMP.SRC, Reg.PWR_TEMP.CURT_THERM,
   Reg.PWR_TEMP.SHUT, Reg.PWR_STATUS.REFUSE, Reg.PWR_STATUS.LAST_SRC, Reg.PWR_CNT.THERM_SHUT,
   Reg.PWR_CNT.REVERSALS]

/-- Part 14 of the field table. -/
def fieldTable14 : List Fld :=
  [Reg.PWR_CNT.STARTS, Reg.KEEP_STATUS.VALID, Reg.KEEP_STATUS.FREE, Reg.KEEP_STATUS.BAD,
   Reg.KEEP_CNT.TORN, Reg.KEEP_CNT.REFUSED, Reg.KEEP_CNT.QUEUED, Reg.KEEP_WRITES.WRITES,
   Reg.CLK_STATUS.XTAL_OK, Reg.CLK_STATUS.LPO_OK, Reg.CLK_STATUS.PLL_LOCK, Reg.CLK_STATUS.PLL_REF,
   Reg.CLK_STATUS.HOLDOVER, Reg.CLK_STATUS.TIME_LPO, Reg.CLK_STATUS.ISL_BACKUP, Reg.CLK_STATUS.ISL_DEAD,
   Reg.CLK_CFG.PLL_REF, Reg.CLK_CFG.SYNC_DIV, Reg.CLK_ISL_BACKUP.BACKUP, Reg.CLK_ISL_DEAD.DEAD,
   Reg.CLK_TIME_ERR.MAX_CORR, Reg.CLK_CNT.ISL_SWITCHES, Reg.CLK_CNT.REF_SWITCHES,
   Reg.CLK_CNT.PLL_UNLOCKS, Reg.CLK_CNT.TIME_RESYNC, Reg.SVC_STATUS.LOCKED, Reg.SVC_STATUS.FROZEN,
   Reg.SVC_STATUS.DBG_RUN, Reg.SVC_STATUS.FROM, Reg.SVC_STATUS.SNAP_BUSY, Reg.SVC_STATUS.DBG_DIFF,
   Reg.SVC_STATUS.HALTED_PAIRS, Reg.SVC_LOCK.BAD, Reg.SVC_LOCK.KEY, Reg.SVC_FREEZE_T.START_LO,
   Reg.SVC_FREEZE_LEN.LEN, Reg.SVC_CNT.FREEZES, Reg.GLB_ACC_ERR.VALID, Reg.GLB_ACC_ERR.CAUSE,
   Reg.GLB_ACC_ERR.COUNT]

/-- Part 15 of the field table. -/
def fieldTable15 : List Fld :=
  [Reg.GLB_ACC_ERR.ADDR, Reg.GLB_UID_LO.UID_LO, Reg.GLB_UID_HI.UID_HI, Reg.PHC_CL_B0.COEF,
   Reg.PHC_CL_B1.COEF, Reg.PHC_CL_B2.COEF, Reg.PHC_CL_B3.COEF, Reg.PHC_CL_A1.COEF, Reg.PHC_CL_A2.COEF,
   Reg.PHC_CL_A3.COEF, Reg.PHC_VL_B0.COEF, Reg.PHC_VL_B1.COEF, Reg.PHC_VL_B2.COEF, Reg.PHC_VL_B3.COEF,
   Reg.PHC_VL_A1.COEF, Reg.PHC_VL_A2.COEF, Reg.PHC_VL_A3.COEF, Reg.PHC_BL_B0.COEF, Reg.PHC_BL_B1.COEF,
   Reg.PHC_BL_B2.COEF, Reg.PHC_BL_B3.COEF, Reg.PHC_BL_A1.COEF, Reg.PHC_BL_A2.COEF, Reg.PHC_BL_A3.COEF,
   Reg.PDP_POL_A.PMAX, Reg.PDP_POL_A.IMAX, Reg.PDP_POL_B.VMASK, Reg.PDP_POL_B.PPS_EN,
   Reg.PDP_POL_B.EPR_EN, Reg.PDP_POL_B.SVC_EN, Reg.PDP_POL_B.VSWAP, Reg.PDP_POL_C.PPS_VMIN,
   Reg.PDP_POL_C.PPS_VMAX, Reg.MSR_FCV_OFF.OFFSET, Reg.MSR_FCV_GAIN.GAIN, Reg.MSIX_ADDR_LO.ADDR_LO,
   Reg.MSIX_ADDR_HI.ADDR_HI, Reg.MSIX_DATA.DATA, Reg.MSIX_CTRL.MASK, Reg.MSIX_PBA.PEND]

/-- Every register field of the device, in the order of their numbers. -/
def fieldTable : List Fld :=
  fieldTable0 ++
  fieldTable1 ++
  fieldTable2 ++
  fieldTable3 ++
  fieldTable4 ++
  fieldTable5 ++
  fieldTable6 ++
  fieldTable7 ++
  fieldTable8 ++
  fieldTable9 ++
  fieldTable10 ++
  fieldTable11 ++
  fieldTable12 ++
  fieldTable13 ++
  fieldTable14 ++
  fieldTable15


/-- The reference coefficients of PHC136 and PHC137 (R129, R142), by register address within the channel. -/
def coefReset (ch off : Nat) : Nat :=
  if ch = 136 then
    if off = 0x60 then 0x00CCD else if off = 0x64 then 0x3F439 else if off = 0x70 then 0x10000 else
    if off = 0x80 then 0x13333 else if off = 0x84 then 0x2D1EC else if off = 0x90 then 0x10000 else 0
  else if ch = 137 then
    if off = 0x60 then 0x00666 else if off = 0x64 then 0x3F9DB else if off = 0x70 then 0x10000 else
    if off = 0x80 then 0x08000 else if off = 0x84 then 0x3828F else if off = 0x90 then 0x10000 else 0
  else 0

/-- The default conversion table of R259: the value of one field of word A of entry `e`. -/
def icvEntReset (f : Fld) (e : Nat) : Nat :=
  if e % 8 < 3 then
    if f.lo = 27 then 3 * (e / 8) + e % 8 else if f.lo = 25 then 3 else if f.lo = 13 then 1 else 0
  else 0

/-- The home pair of task `t`: bed `b = t / 26`, pair `32 b + t mod 26` (R473). -/
def homePair (t : Nat) : Nat := 32 * (t / 26) + t % 26

/-- The reset value of a field's instance (R5, with R129, R259, R372, R436 and R507 where it differs by instance). -/
def Fld.resetAt (f : Fld) (i j : Nat) : Nat :=
  match f.rule with
  | .const => f.rst
  | .index => i
  | .icvEnt => icvEntReset f j
  | .homePair => homePair i
  | .buses65 => if i = 64 ∨ i = 65 then 0 else f.rst
  | .phcEnable => if i = 136 ∨ i = 137 then 1 else 0
  | .phcTopo => if i = 137 then 1 else 0
  | .phcCoef => coefReset i (f.base % 0x100)

/-- The cell a field's instance is stored under: the field's number with its indices. -/
def Fld.key (f : Fld) (i j k : Nat) : Nat := Nat.pair f.id (Nat.pair i (Nat.pair j k))

/-- The reset value of the cell with a given key, found through the field table. -/
def keyReset (key : Nat) : Nat :=
  match fieldTable[(Nat.unpair key).1]? with
  | some f => f.resetAt (Nat.unpair (Nat.unpair key).2).1 (Nat.unpair (Nat.unpair (Nat.unpair key).2).2).1
  | none => 0

end Sys2Proof.Machine
end

