-- ==== Sys2Proof/Machine/Tab.lean ====
section
/-! DEFINITION. Sparse tables: lists of (key, record) pairs with strictly rising keys, where no entry equals what
an unlisted key reads as. Equal tables are equal lists. -/

namespace Sys2Proof.Machine

/-- The record under a key; `d` where the key is not listed. -/
def Tab.get {β : Type} (d : β) : List (Nat × β) → Nat → β
  | [], _ => d
  | (k', v) :: t, k => if k' = k then v else Tab.get d t k

/-- The table with the record of a key placed in order. -/
def Tab.ins {β : Type} (k : Nat) (v : β) : List (Nat × β) → List (Nat × β)
  | [] => [(k, v)]
  | (k', v') :: t => if k < k' then (k, v) :: (k', v') :: t else if k = k' then (k, v) :: t else (k', v') :: Tab.ins k v t

/-- The table without the key. -/
def Tab.del {β : Type} (k : Nat) (t : List (Nat × β)) : List (Nat × β) := t.filter fun e => e.1 != k

/-- The table with the record of a key replaced; a record equal to the default is not listed. -/
def Tab.put {β : Type} [DecidableEq β] (d : β) (t : List (Nat × β)) (k : Nat) (v : β) : List (Nat × β) :=
  if v = d then Tab.del k t else Tab.ins k v t

/-- The table with every listed record replaced by its image. -/
def Tab.map {β : Type} [DecidableEq β] (d : β) (g : Nat → β → β) (t : List (Nat × β)) : List (Nat × β) :=
  (t.map fun e => (e.1, g e.1 e.2)).filter fun e => decide (e.2 ≠ d)

/-- The canonical form. -/
def Tab.wf {β : Type} [DecidableEq β] (d : β) (t : List (Nat × β)) : Bool :=
  decide (t.Pairwise fun a b => a.1 < b.1) && t.all fun e => decide (e.2 ≠ d)

end Sys2Proof.Machine
end

