-- ==== Sys2Proof/Machine/State.lean ====
section
/-! DEFINITION. The state of the KX6410 as plain data: the register file, the hidden state of every unit,
device time, the log of what the block put out, and the queue of waiting commands. -/

namespace Sys2Proof.Machine

/-- The reasons a command stops with a fault. The spec gives every command of the table an effect, so no
command of this block faults and the type has no constructor. -/
inductive Fault where
  deriving DecidableEq, Repr

/-- The reasons a command is refused. -/
inductive Refusal where
  /-- Raised by an arm of `exec` whose command has no meaning yet; safe, because nothing can be concluded from it. -/
  | notModelled (mnemonic : String)
  deriving DecidableEq, Repr

/-- The USB Power Delivery messages that a port sends of its own (R440, R441, R448 to R465), and the GoodCRC by which its PHY
acknowledges a message (R462). -/
inductive PdMsg where
  /-- Source_Capabilities and EPR_Source_Capabilities with the objects of the offer (R452): position, mV and mA of the fixed ones, the PPS
  object, and EPR Mode Capable of the 5 V one. -/
  | sourceCaps (fixed : List (Nat × Nat × Nat)) (pps : Option (Nat × Nat × Nat × Nat)) (eprCapable : Bool)
  | eprSourceCaps (fixed : List (Nat × Nat × Nat)) (pps : Option (Nat × Nat × Nat × Nat)) (eprCapable : Bool)
  | goodCrc | accept | reject | psRdy | notSupported | vdmNak | discoverIdentityCable | discoverIdentity
  | discoverSvids | discoverModes | enterMode | exitMode | softReset | hardReset | vconnSwap | eprEnterAck | eprEntered | eprFailed
  deriving DecidableEq, Repr

/-- What the block puts out: a write to host memory, an MSI-X message, an AER report, bytes on a two-wire bus, or a
Power Delivery message. -/
inductive Out where
  /-- `bytes` written to host memory of function `fn` at `addr` (R342). -/
  | hostWrite (fn addr : Nat) (bytes : List Nat)
  /-- An MSI-X message of a function's vector (R343). -/
  | msix (fn vec : Nat)
  /-- Bytes that the device returns on a two-wire bus as target (R429, R430). -/
  | twb (bus : Nat) (bytes : List Nat)
  /-- A pulse of `ns` on SYNC_OUT at a frame start of channel `ch` (R101). -/
  | syncOut (ch ns : Nat)
  /-- An effect of a task leaves its pair: the task, its sequence number, its kind (1 store outside the tine, 2 message, 3 register write),
  target and data (R474, R479). -/
  | effect (task seq kind target data : Nat)
  /-- A remote read request of a task goes out (R473, R474). -/
  | remoteRead (task addr : Nat)
  /-- A safe-state order to a Planter, as a word with its parity: on path 0, the runner link's control channel, or 1, the safety line (R524). -/
  | order (planter path word parity : Nat)
  /-- The bytes that the device drives on a two-wire bus as controller in a transaction that runs to its end (R405, R407). -/
  | twbSent (bus : Nat) (bytes : List Nat)
  /-- A Completer Abort reported through AER (R615). -/
  | aer (fn : Nat)
  /-- The word that the safety side port drives on MISO during a frame (R541). -/
  | miso (word : Nat)
  /-- A message that a PD port sends (chapter 11). -/
  | pd (port : Nat) (msg : PdMsg)
  /-- The snapshot stream of the sections of a mask goes out on SNAP[3:0] (R598, R599). -/
  | snap (mask : Nat)
  /-- Bytes of the stream, each as two nibbles on SNAP[3:0] (R599). -/
  | snapBytes (bytes : List Nat)
  deriving DecidableEq, Repr

/-- Hidden state of a function. -/
structure FnRec where
  /-- Device time until which the function is active (R346). -/
  activeUntil : Nat := 0
  /-- Line 0 as last read, sixteen indices (R346). -/
  line0 : List Nat := []
  /-- Events dropped for want of a ring (R345, R361). -/
  evtDrop : Nat := 0
  /-- When line 0 was last read (R346, R347). -/
  pollAt : Option Nat := none
  /-- The tag history: opcode, TARGET and TAG of the last 64 state-changing descriptors, newest first (R352). -/
  history : List (Nat × Nat × Nat) := []
  /-- The function is in D3hot (R368). -/
  d3hot : Bool := false
  /-- The cause of the present hold, as in HOLD_ON (R363). -/
  holdCause : Nat := 0
  /-- The watchdog is armed (R391). -/
  armed : Bool := false
  /-- The question in force (R391). -/
  question : Nat := 0
  /-- The question before it (R391). -/
  prevQuestion : Nat := 0
  /-- When the question in force was issued, t_k (R391). -/
  askedAt : Nat := 0
  /-- When the next question is due, t_(k+1) (R391). -/
  nextAt : Nat := 0
  /-- WDG_PERIOD in force at the question's issue, 10 ms (R391). -/
  askPeriod : Nat := 0
  /-- WDG_OPEN in force at the question's issue, 1/16 of WDG_PERIOD (R382, R392). -/
  askOpen : Nat := 0
  /-- The master key in force at the question's issue (R391, R397). -/
  askKey : List Nat := []
  /-- The question in force has been judged (R392). -/
  judged : Bool := true
  /-- A question has been posed since the last reset of `VF_WDG` (R391). -/
  posed : Bool := false
  /-- Tokens taken from the class 2 event bucket, in millionths of a token (R386). -/
  bucketUsed : Nat := 0
  /-- When the bucket was last brought up to date (R386). -/
  bucketAt : Nat := 0
  /-- Class 2 events dropped since the last RATE_LIMIT (R386, R399). -/
  rateDrops : Nat := 0
  /-- When the status line was last written (R345). -/
  statusAt : Nat := 0
  /-- Completions that wait while the function is in D3hot: CPL ring, IRQ flag and entry (R357, R368). -/
  waiting : List (Nat × Bool × List Nat) := []
  /-- A QUOTA_SET has been accepted for the function: SET of its keep entry (R571). -/
  quotaSet : Bool := false
  /-- Planned power has exceeded the quota since, and the last QUOTA_OVER (R221). -/
  overSince : Option Nat := none
  overAt : Nat := 0
  /-- The last RATE_LIMIT (R386). -/
  rateAt : Option Nat := none
  deriving DecidableEq, Repr

/-- Hidden state of a ring. -/
structure RingRec where
  /-- Count of events routed to this ring (R359). -/
  seq : Nat := 0
  /-- Events were dropped since the last written one (R359, R361). -/
  loss : Bool := false
  /-- CPL entries reserved by fetched descriptors (R340). -/
  reserved : Nat := 0
  /-- The CMD ring waits for free completion entries (R340, R345); its next descriptors are a chain that does not lie whole below the
  producer index (R354). -/
  stalled : Bool := false
  short : Bool := false
  /-- Entries written since the last message (R343). -/
  modCount : Nat := 0
  /-- When the first of them was written (R343). -/
  modSince : Nat := 0
  deriving DecidableEq, Repr

/-- A descriptor that runs on after acceptance (R355), with its number in order of execution. -/
structure OpenDesc where
  num : Nat
  ctl : Ctl
  opcode : Nat
  deriving DecidableEq, Repr

/-- A FENCE in force (R356). `before` is the number of the FENCE itself: it waits on smaller numbers of its scope. -/
structure FenceRec where
  num : Nat
  ctl : Ctl
  scope : Nat
  wait : Nat
  token : Nat
  /-- Device time at which it runs out; none for TIMEOUT 0. -/
  until? : Option Nat
  deriving DecidableEq, Repr

/-- The ring engine's work in hand. -/
structure HostRec where
  /-- Descriptors executed so far; the number of the next (R355). -/
  count : Nat := 0
  /-- Descriptors that run on (R355). -/
  runs : List OpenDesc := []
  /-- FENCEs in force, oldest first (R356). -/
  fences : List FenceRec := []
  /-- The functions that have been served in the ring engine's present turn (R378). -/
  served : List Nat := []
  /-- SR-IOV VF Enable (R367). -/
  vfEnable : Bool := false
  /-- The last tick that reflects a descriptor of each function and ring, for FENCE WAIT 1 (R356). -/
  tokens : List ((Nat × Nat) × Nat) := []
  /-- Widest width that both ends support (R332). -/
  maxWidth : Nat := 4
  /-- Highest speed that both ends support: 1 Gen1 to 3 Gen3 (R332). -/
  maxSpeed : Nat := 3
  deriving DecidableEq, Repr

/-- Parity checking on one runner-link direction (2 × link + direction) or fabric island (0x100 + island). -/
structure LaneRec where
  /-- Parity failures in a row (R24). -/
  fails : Nat := 0
  /-- The spare lane is in use (R24, R30). -/
  spared : Bool := false
  /-- The sender's buffer: the last 8 flits, newest first; and the flits of it that it sends again, oldest first (R23, R30). -/
  replay : List Nat := []
  resent : List Nat := []
  /-- Replays so far (R23). -/
  replays : Nat := 0
  /-- A lane has failed with the spare in use: the direction carries nothing more (R35). -/
  down : Bool := false
  deriving DecidableEq, Repr

/-- Hidden state of a phase channel; the loops, stages and counts are the lead's. -/
structure ChanRec where
  /-- Coefficients and shifts in use: current, voltage and bus loop (b0 to b3, a1 to a3 each), then the three shifts;
  empty for the reset set (R87, R129). -/
  inUse : List Nat := []
  /-- Error histories e[n-1] to e[n-3] of the current, voltage and bus loop (R85). -/
  eC : List Int := []
  eV : List Int := []
  eB : List Int := []
  /-- Output histories u[n-1] to u[n-3], saturated (R85). -/
  uC : List Int := []
  uV : List Int := []
  uB : List Int := []
  /-- The current command in use, mA (R84). -/
  iCmd : Int := 0
  /-- Current updates since the last voltage-loop update (R84). -/
  vlCount : Nat := 0
  /-- soft_level as a fraction, and the number of 100 µs updates of the present table (R112). -/
  softNum : Nat := 0
  softDen : Nat := 1
  softTick : Nat := 0
  /-- The level at which the present soft stop began (R112). -/
  fromNum : Nat := 1
  fromDen : Nat := 1
  /-- The pre-bias average passed and DISC waits for ARMED (R111 step 2), since this time. -/
  biasOk : Bool := false
  biasAt : Nat := 0
  /-- The output-voltage average of the pre-bias check, mV (R111 step 1). -/
  biasV : Nat := 0
  /-- The output's DRV_FLT ball is low (R122). -/
  drvLow : Bool := false
  /-- LOOP_MODE has read constant voltage, and constant current, since (R164, R175, R459). -/
  cvSince : Option Nat := none
  ccSince : Option Nat := none
  /-- End of the rise time-out of R111 step 4; met once the output rose above RISE_V. -/
  riseBy : Nat := 0
  risen : Bool := false
  /-- End of the back-off of R113. -/
  backoffUntil : Nat := 0
  /-- Start of regulation (R113). -/
  regSince : Nat := 0
  /-- Device time of the last commit received (R125). -/
  commitAt : Nat := 0
  /-- A non-zero commit arrived during a soft stop (R115). -/
  again : Bool := false
  /-- The direction last committed: 0 FORWARD, 1 REV_I, 2 REV_BUS (R117). -/
  dirNext : Nat := 0
  /-- The donor limit I_lim of REV_BUS, mA (R55, R84). -/
  ilim : Nat := 0
  /-- Last change of the number of active phases, and the start of a current below the shed threshold (R102). -/
  changeAt : Nat := 0
  belowSince : Nat := 0
  isBelow : Bool := false
  /-- Consecutive updates above the add threshold (R102). -/
  addRun : Nat := 0
  /-- Phases in a handover of 32 periods: channels being added, and the channel being shed (R103); of the phase itself, the periods of
  its handover so far. -/
  adding : List Nat := []
  shedding : Option Nat := none
  lowRun : Nat := 0
  /-- When the output last parked (R126). -/
  parkedAt : Option Nat := none
  /-- The measured current lies beyond the clamp bound by more than R124 allows since, and has the wrong sign since; the phase's present
  pulse was truncated, and all its pulses since (R114, R124). -/
  overSince : Option Nat := none
  wrongSince : Option Nat := none
  cut : Bool := false
  cutSince : Option Nat := none
  /-- Burst: in burst, and periods left of the packet and of the idle gap (R116). -/
  burst : Bool := false
  packetLeft : Nat := 0
  offLeft : Nat := 0
  /-- SYNC_IN: measured period in ticks of 62.5 ps, time of the last edge, which is the epoch of a locked lead (R96), and consistent
  edges in a row (R99, R100). -/
  tSync : Nat := 0
  edgeAt : Nat := 0
  edgeRun : Nat := 0
  /-- Ticks by which the frame still lies off the SYNC_IN edge (R100). -/
  slewLeft : Nat := 0
  /-- Ticks by which the next frame is lengthened (R97), and the start of the channel's frames after the epoch (R96). -/
  lengthen : Nat := 0
  frameOff : Nat := 0
  /-- The second of R108: the sum of the phase's samples, their number, and whether the set of active phases has changed in it. -/
  imbSum : Int := 0
  imbN : Nat := 0
  imbChanged : Bool := false
  /-- Consecutive imbalance computations above the limit, and the last event (R108). -/
  imbRun : Nat := 0
  imbAt : Nat := 0
  imbRaised : Bool := false
  /-- LOOP_UNSET has been raised since the flag was last clear (R88). -/
  unsetRaised : Bool := false
  /-- Edges of the channel's frame: T_on, PWMH rise, PWMH fall, PWML fall, PWML rise, in ticks; none for a frame held low (R93, R94).
  PWML is held low throughout it in a handover (R103). -/
  edges : Option (Int × Int × Int × Int × Int) := none
  pwmlLow : Bool := false
  /-- Duties computed and not yet governing (R89), oldest first. -/
  dutyQueue : List Nat := []
  deriving DecidableEq, Repr

/-- The pack data of an authenticated record (R151, R152): limits, serial and nominal capacity (0.1 mAh; 0 where none). -/
structure PackRec where
  chem : Nat
  cells : Nat
  ichg : Nat
  idis : Nat
  vchg : Nat
  vdis : Nat
  serial : Nat := 0
  nominal : Nat := 0
  deriving DecidableEq, Repr

/-- Hidden state of a slot. -/
structure SlotRec where
  /-- DISC is closed (R111). -/
  disc : Bool := false
  /-- The ID pin is closed (R148), since this time. -/
  idClosed : Bool := false
  closedAt : Nat := 0
  /-- The slot's front-end supply is isolated (R521). -/
  isolated : Bool := false
  /-- The comparator under test, and until when it is masked (R539). -/
  masked : Option (Nat × Nat) := none
  /-- The method of the running identification: 0 ID pin, 1 challenge-response (R151, R154). -/
  method : Nat := 0
  /-- The wet test runs and the pull-up is disconnected (R158). -/
  wetRunning : Bool := false
  /-- A TYPE has been decoded (R149). -/
  typed : Bool := false
  /-- Challenge-response attempts made (R153), the time of a retry, and the reason of the last failure (R363). -/
  tries : Nat := 0
  retryAt : Option Nat := none
  /-- Pack data of the authenticated record, once read (R151). -/
  pack : Option PackRec := none
  /-- When the present attempt began, and the reason by which challenge-response has failed (R153, R427). -/
  identAt : Nat := 0
  crFail : Option Nat := none
  /-- The pack record's bytes as read, the challenge sent, and when a failed transaction is repeated (R426, R427). -/
  record : List Nat := []
  chal : List Nat := []
  /-- The key with which the running exchange began (R389, R427). -/
  authKey : List Nat := []
  busRetryAt : Option Nat := none
  /-- Valid and invalid NTC readings since the pin closed, NTC_A in bit 0 and NTC_B in bit 1 (R151). -/
  ntcValid : Nat := 0
  ntcInvalid : Nat := 0
  /-- Both NTCs invalid since (R171). -/
  ntcBothSince : Option Nat := none
  /-- The profile in mA as accepted (R161); `SLT_PROF` shows it rounded. -/
  icc : Nat := 0
  ipre : Nat := 0
  itrickle : Nat := 0
  taper : Nat := 0
  /-- The owner's ceiling cap (R162). -/
  icap : Option Nat := none
  /-- Donor use granted for ISLAND (R55). -/
  donorGrant : Bool := false
  /-- Phase timers in ticks of 10 ms (R166) and the Sundial's CV_MAX timer (R175), with whether it has started. -/
  tPhase : Nat := 0
  tTotal : Nat := 0
  tCv : Nat := 0
  tSun : Nat := 0
  sunOn : Bool := false
  /-- When the present phase and the charge began (R199). -/
  phaseAt : Nat := 0
  chargeAt : Nat := 0
  /-- CV has been entered in this charge: it never moves back to CC (R164). -/
  cvSeen : Bool := false
  /-- Consecutive readings at or above the next threshold, and below the sag level (R164, R165). -/
  upRun : Nat := 0
  sagRun : Nat := 0
  /-- The charge phase that the sequencer has chosen, 1 TRICKLE to 4 CV, 0 none; `SLT_STATUS.PHASE` shows it while current
  is planned, and queued otherwise (R161, R163). -/
  curPhase : Nat := 0
  /-- Current at CV entry, mA, when CV began, taper steps raised, and the last TAPER event (R172). -/
  cvCurrent : Nat := 0
  cvAt : Nat := 0
  taperBits : Nat := 0
  taperAt : Nat := 0
  /-- The 1 s mean current has stayed below TAPER in CV since (R310), and below AUD_TAPER (R188). -/
  belowSince : Option Nat := none
  audBelowSince : Option Nat := none
  /-- What follows the soft stop: the state entered at the park (R146). -/
  afterStop : Nat := 3
  /-- The reason of the CHARGE_END that the soft stop owes (R363), none where none is due. -/
  endReason : Option Nat := none
  /-- The Sundial's order of R175 and its time. -/
  cvOrderAt : Option Nat := none
  /-- A change of owner that waits for its keep record: `some (some fn)` claimed, `some none` released (R155). -/
  pendingOwner : Option (Option Nat) := none
  /-- The PF's SLOT_RELEASE that waits for the park (R155). -/
  releaseCtl : Option Ctl := none
  /-- Serial polls without an answer in a row, and ID_SILENT raised (R179). -/
  pollMisses : Nat := 0
  silent : Bool := false
  pollAt : Nat := 0
  /-- TRANSFER parameters and the energy delivered by the donor, mWh (R183, R185). -/
  imax : Nat := 0
  floorCell : Nat := 0
  socFloor : Nat := 0
  emax : Nat := 0
  eOut : Nat := 0
  /-- Remainder of the energy count, in 0.1 mAh × mV. -/
  eFrac : Nat := 0
  /-- AUDIT: step in progress (0 none, 1 fill, 2 rest, 3 discharge, 4 pause, 6 recharge) and parameters (R187, R188). -/
  audStep : Nat := 0
  audI : Nat := 0
  audTaper : Nat := 0
  audRest : Nat := 0
  audRecharge : Bool := false
  restAt : Nat := 0
  pauseAt : Nat := 0
  pauseTotal : Nat := 0
  audBad : Bool := false
  /-- A protective park of an AUDIT's discharge since (R650). -/
  parkAt : Option Nat := none
  /-- The absorbable current of the AUDIT's donor at the last rebuild, mA (R218). -/
  absorb : Nat := 0
  /-- Charge (0.1 mAh) and energy (mWh) drawn since the rest ended, with the energy's remainder (R188). -/
  audQ : Int := 0
  audE : Nat := 0
  audEFrac : Nat := 0
  /-- Charge counted since CHARGE_START, 0.1 mAh (R363 CHARGE_END). -/
  chargeQ : Int := 0
  /-- Last threshold read-back error (R523). -/
  fgErrAt : Option Nat := none
  /-- Consecutive output-voltage mismatches, and an escalation: the fast mean and the ICV value, mV, the ICV's range, and when (R518, R519). -/
  xchkRun : Nat := 0
  outRef : Option (Nat × Nat × Nat × Nat) := none
  /-- A write of `SLT_CFG.ENABLE` 0 waits for the park (R146). -/
  offWait : Bool := false
  /-- The committed reference at the start of the owner's hold, mA (R227). -/
  holdRef : Option Nat := none
  /-- Consecutive ticks below, and at or above, the required current (R225). -/
  resvLow : Nat := 0
  resvOk : Nat := 0
  /-- The reference at the start of a quota cut, mA (R220). -/
  cutR0 : Option Nat := none
  /-- When the slot's present fault was taken (R545). -/
  faultAt : Option Nat := none
  deriving DecidableEq, Repr

/-- Hidden state of a gauge (chapter 07). -/
structure GaugeRec where
  /-- The 48-bit accumulator and the 32-bit sample count (R298). -/
  acc : Nat := 0
  nsamp : Nat := 0
  /-- Both as the gauge pair last read them (R299). -/
  lastAcc : Nat := 0
  lastN : Nat := 0
  /-- The fractional remainder of R299, in its own units. -/
  frac : Int := 0
  /-- The last eleven readings, 100 ms apart, of accumulator, count, phase sum and time, newest first, for the 1 s means
  (R308, R312, R518). -/
  marks : List (Nat × Nat × Int × Nat) := []
  /-- Charge counted since PACK_IN, 0.1 mAh (R315). -/
  counted : Int := 0
  /-- Charge into and out of the pack below one 0.1 Ah, in 0.1 mAh (R308, R313). -/
  inFrac : Nat := 0
  outFrac : Nat := 0
  /-- When the latest anchor was taken (R310). -/
  anchorAt : Nat := 0
  /-- A full anchor holds and no forward current has flowed since: the charge counted from it (R318). -/
  learnFrom : Option Int := none
  /-- The CV that took the full anchor continues: Q_REM does not rise above Q_FULL (R310). -/
  capAtFull : Bool := false
  /-- The pack's current has been known to be zero since (R301). -/
  zeroSince : Option Nat := none
  /-- The last offset trim (R301). -/
  trimAt : Option Nat := none
  /-- Sum of the phase currents × ticks of 62.5 ps, at every current update of the lead, and the part of it a degraded gauge has
  counted (R302, R518). -/
  phaseTot : Int := 0
  lastPhase : Int := 0
  /-- The nominal capacity of the pack record, 0.1 mAh (R312). -/
  nominal : Nat := 0
  /-- A current mismatch that waits for its referee: the means of the coulomb converter and of the phase sum, mA, and when (R518, R520). -/
  curRef : Option (Int × Int × Nat) := none
  deriving DecidableEq, Repr

/-- What a keep record's commit brings into force (R155, R283, R380, R388, R495, R499). -/
inductive KeepEffect where
  /-- A slot's owner: `some fn` claimed, `none` released. -/
  | owner (sl : Nat) (fn : Option Nat)
  /-- A function's configuration. -/
  | quota (fn : Nat) (p : QuotaPar)
  /-- A pack key in a key slot, or its erasure. -/
  | packKey (slot fn keyId : Nat) (key : List Nat) (erase : Bool)
  /-- The master watchdog key, or its erasure. -/
  | master (key : List Nat) (erase : Bool)
  /-- An ICV calibration pair of a channel and range; for SHUNT ±80 mV also the coulomb converter's pair of a slot. -/
  | calIcv (icv chan range off gain : Nat) (coulomb : Option (Nat × Nat × Nat))
  /-- An FCV calibration pair of a range. -/
  | calFcv (fcv range off gain : Nat)
  /-- The active microcode bank. -/
  | boot (bank : Nat)
  deriving DecidableEq, Repr

/-- A record that waits to be written: what its commit brings, and the descriptor that completes then (R572). -/
structure KeepReq where
  effect : KeepEffect
  ctl : Option Ctl := none
  deriving DecidableEq, Repr

/-- One record location of the keep (R571), with the order in which it was retired. -/
structure KeepLoc where
  typ : Nat := 0
  ver : Nat := 0
  id : Nat := 0
  gen : Nat := 0
  data : List Nat := []
  check : Nat := 0
  marker : Nat := 0
  bad : Bool := false
  retired : Nat := 0
  deriving DecidableEq, Repr

/-- The keep's write queue and counts (R572, R573, R575). -/
structure KeepRec where
  queue : List KeepReq := []
  /-- When the write of the first waiting record began (R572). -/
  startAt : Nat := 0
  /-- Locations retired so far; orders the free locations. -/
  retires : Nat := 0
  /-- KEEP_ERR events owed to the PF once its rings run: locations found decayed by the scan (R573). -/
  owed : List Nat := []
  /-- The master watchdog key in force (R388). -/
  master : Option (List Nat) := none
  /-- Writes are refused until the hottest sensor has fallen below SHUT_T − 10 °C (R575). -/
  hot : Bool := false
  deriving DecidableEq, Repr

/-- A key slot of the keep (R387). -/
structure KeyRec where
  used : Bool := false
  fn : Nat := 0
  keyId : Nat := 0
  key : List Nat := []
  deriving DecidableEq, Repr

/-- A message that a port's policy engine takes from its sink or cable (R441, R448 to R463). -/
inductive PdIn where
  | cableIdentity (curCode vmax : Nat) (epr : Bool)
  | request (pos mv ma rev : Nat)
  | eprEnter
  | vconnSwap
  | softReset
  | unsupported (vdm structured : Bool)
  | discover (listed : Bool)
  | enterModeAck
  deriving DecidableEq, Repr

/-- Hidden state of a PD port (chapter 11). -/
structure PortRec where
  /-- VBUS_EN closed and VBUS_DIS closed (R448, R459, R460). -/
  vbusEn : Bool := false
  vbusDis : Bool := false
  /-- Rd seen since; ErrorRecovery, Hard Reset and vSafe0V timers (R448, R449, R460). -/
  rdAt : Nat := 0
  recoverAt : Nat := 0
  hardAt : Nat := 0
  holdAt : Nat := 0
  /-- Where the Hard Reset sequence stands: 0 none, 1 sent or received, 2 parked, 3 vSafe0V held (R460). -/
  hardStep : Nat := 0
  /-- The cable was found unmarked or not; Ra seen on the other pin (R448, R450). -/
  ra : Bool := false
  unmarked : Bool := false
  /-- The sink holds VCONN after a swap (R450). -/
  vconnSink : Bool := false
  /-- Messages received while the port's policy pair did not run, oldest first (R467). -/
  inbox : List PdIn := []
  /-- The present offer's fixed objects: object position, mV and mA (R452). -/
  offer : List (Nat × Nat × Nat) := []
  /-- The programmable supply in the offer: object position, lowest and highest mV, and its current (R452). -/
  pps : Option (Nat × Nat × Nat × Nat) := none
  /-- The contract under negotiation, mV and mA, and whether it is PPS or EPR (R455). -/
  nextV : Nat := 0
  nextI : Nat := 0
  nextKind : Nat := 0
  /-- A Request has been accepted and PS_RDY is owed (R455). -/
  readyOwed : Bool := false
  /-- The new contract has entered the plan and drives the reference (R455). -/
  planned : Bool := false
  /-- EPR mode, and when its keep-alive was last seen (R453). -/
  epr : Bool := false
  eprAt : Nat := 0
  /-- PD_POLICY descriptors that run on, oldest first: the action and its descriptor (R446). -/
  actions : List (Nat × Ctl) := []
  /-- The step of ENTER_SERVICE: 0 none, 1 Identity, 2 SVIDs, 3 Modes, 4 Enter Mode (R463). -/
  svcStep : Nat := 0
  /-- The object position of the contract under negotiation (R455). -/
  nextPos : Nat := 0
  /-- The message whose reply the device awaits: 0 none, 1 cable identity, 2 Request, 3 Accept of Soft Reset, 4 VCONN_Swap,
  5 a service-mode reply (R448, R450, R461, R463). -/
  awaits : Nat := 0
  /-- A changed policy acts after the negotiation in progress (R447, R466). -/
  offerOwed : Bool := false
  /-- Energy delivered under the present attach, mWh, and its remainder (R469). -/
  energy : Nat := 0
  eFrac : Nat := 0
  /-- When the sink attached (R448). -/
  attachedAt : Nat := 0
  deriving DecidableEq, Repr

/-- A two-wire transaction that waits or runs (R403): of the bus agent (`what` 0xA0 PACK_RECORD, 0xA1 PACK_AUTH, 0xA2
PACK_SERIAL, 1 house-battery sensor, 0x0C alert response) or, with `what` 0, a host transfer with its descriptor. -/
structure TwbJob where
  what : Nat
  par : TwbPar
  ctl : Option Ctl := none
  /-- When TIMEOUT expires (R421). -/
  deadline : Option Nat := none
  /-- Retries made after arbitration losses (R419). -/
  arb : Nat := 0
  /-- It waits as a retry after a recovery of SDA (R416). -/
  retried : Bool := false
  deriving DecidableEq, Repr

/-- Hidden state of a two-wire bus (chapter 10). -/
structure BusRec where
  /-- The bus agent's own work and the host transfers that wait, oldest first (R403). -/
  agent : List TwbJob := []
  queue : List TwbJob := []
  /-- The transaction on the wire. -/
  run : Option TwbJob := none
  /-- It has been cancelled (R422), or its result is to be discarded (R369). -/
  cancel : Bool := false
  /-- The island clock is stopped (R414), and since when the bus has been idle. -/
  asleep : Bool := false
  idleAt : Nat := 0
  /-- Transactions that have ended while the slot's bus agent pair did not run, oldest first, with whether they had been cancelled (R434). -/
  held : List (TwbJob × TwbEnd × Bool) := []
  /-- Another device pulls ALERT low, and when the alert response address was last read (R430). -/
  alertIn : Bool := false
  araAt : Nat := 0
  deriving DecidableEq, Repr

/-- Hidden state of the house rail (R59 to R64, R553). -/
structure HouseRec where
  /-- When the last valid temperature was read (R61). -/
  tempAt : Nat := 0
  /-- Pre-charge since; CC and CV together since; CV since; the current below the end-of-charge level since (R59, R61). -/
  preAt : Nat := 0
  chargeAt : Nat := 0
  cvAt : Nat := 0
  endSince : Option Nat := none
  /-- The level of HB_PRE (R62), and the step of R62 reached. -/
  hbPre : Bool := false
  railStep : Nat := 0
  /-- The measured system current, mA (R60). -/
  sysMa : Nat := 0
  /-- The battery has stood below the accessory cut-off since (R553). -/
  lowSince : Option Nat := none
  deriving DecidableEq, Repr

/-- Hidden state of the bus and its guard (R40 to R58). -/
structure GridRec where
  /-- Latest readings of the two bus sensors, mV, and whether each is stuck (R40, R41). -/
  busA : Nat := 0
  busB : Nat := 0
  stuckA : Bool := false
  stuckB : Bool := false
  /-- When SCALE last left 1,024 (R458). -/
  guardSince : Nat := 0
  /-- The last fall of SCALE (R50), and SCALE as the latest sample found it (R49). -/
  fallAt : Nat := 0
  scaleBefore : Nat := 1024
  /-- Sources above their trip level now (R49). -/
  tripped : List Nat := []
  /-- Consecutive samples above OV_V and below UV_V (R52). -/
  ovRun : Nat := 0
  uvRun : Nat := 0
  /-- An under-voltage holds drawing channels until the bus has exceeded RESTART_V for 100 ms (R52). -/
  uvHold : Bool := false
  restartSince : Option Nat := none
  /-- The order in which DEMAND sources were enabled, and since when the disable condition holds (R47). -/
  demand : List Nat := []
  demandLow : Option Nat := none
  /-- The ISLAND bus is ready (R56); the source whose return ramps the donors, since when and from which set point, mV (R58). -/
  ready : Bool := false
  returning : Option (Nat × Nat × Nat) := none
  /-- No donor remained (R57). -/
  noDonor : Bool := false
  /-- The bus readings have differed since (R41). -/
  misSince : Option Nat := none
  /-- Slots whose pack voltage plus 20 V the bus did not reach, in the last sample, and in the last two (R52). -/
  below1 : List Nat := []
  below2 : List Nat := []
  /-- The donors of this ISLAND have been chosen (R55), and those whose successor has been started (R57). -/
  chosen : Bool := false
  handed : List Nat := []
  /-- The guard has tripped and has not been released (R48, R49). -/
  trip : Bool := false
  deriving DecidableEq, Repr

/-- Hidden state of a source port (R42 to R47, R649). -/
structure SrcRec where
  /-- The class by the identification resistor, 1 to 6 (R42). -/
  idClass : Nat := 6
  /-- Consecutive samples above the trip level and below -1,000 mA (R44, R48); the voltage below UV_V since. -/
  tripRun : Nat := 0
  revRun : Nat := 0
  uvSince : Option Nat := none
  /-- One of the port's modulators is stuck (R40). -/
  stuck : Bool := false
  /-- The qualification period runs since (R45), and the source has qualified. -/
  qualAt : Option Nat := none
  qualified : Bool := false
  /-- The voltage modulator's latest sample is valid and lies in the window of R45. -/
  vGood : Bool := false
  /-- The source counts in the budget, or will after so many further tick boundaries (R46, R649). -/
  inBudget : Bool := false
  budgetIn : Nat := 0
  deriving DecidableEq, Repr

/-- A conversion of an ICV that has begun (R248): of table entry `entry`, or with entry 0xFF an urgent (`kind` 1), calibration
(2) or referee (3) conversion. `startAt` is its stamp once its integration start is known. -/
structure Conv where
  kind : Nat
  entry : Nat
  chan : Nat
  range : Nat
  auto : Bool
  cyc : Nat
  /-- When steps 1 and 2 end (R248). -/
  readyAt : Nat
  trig : Bool := false
  startAt : Option Nat := none
  /-- T in force at the integration start, 0.1 µs, and the flags collected so far (R266). -/
  per : Nat := 0
  lp : Bool := false
  flags : Nat := 0
  ctl : Option Ctl := none
  fn : Nat := 0
  /-- The calibration pair in force at its start, and that no keep record stands behind it (R283). -/
  off : Int := 0
  gain : Nat := 0
  uncal : Bool := false
  /-- A reset of its function has discarded its record (R286). -/
  discard : Bool := false
  deriving DecidableEq, Repr

/-- A result record before its DERIVED is known (R266, R269): SRC, CHAN, SLOT, RANGE, FLAGS, ENTRY, CYC, VALUE and RAW; the device time at
which its integration began and ended; and the function whose event ring it goes to, none where it goes to none (R268). -/
structure MeasRec where
  src : Nat
  chan : Nat
  sl : Nat
  range : Nat
  flags : Nat
  entry : Nat
  cyc : Nat
  value : Int
  raw : Int
  stamp : Nat
  endAt : Nat
  ring : Option Nat := none
  deriving DecidableEq, Repr

/-- A precision conversion of an FCV (R270, R271): `task` 0 cross-check, 1 substitution, 2 PF urgent request, 3 calibration, 4 self-test,
5 wet-connector test, 6 to no use after a reset of the PF; the target as `MSR_DAC_CTRL` codes targets, with 0x51 and 0x52 the FCV's zero and reference points; the range; the
substituted entry or the place of a cross-check in its round; and the calibration pair in force at its start (R283). -/
structure FcvSel where
  task : Nat
  target : Nat := 0
  range : Nat := 2
  entry : Nat := 0
  off : Int := 0
  gain : Nat := 0
  uncal : Bool := false
  deriving DecidableEq, Repr

/-- A calibration under way (R282). -/
structure CalJob where
  ctl : Ctl
  full : Bool
  slot : Nat
  input : Nat
  range : Nat
  applied : Int
  codes : List Int := []
  /-- The coulomb converter's accumulator and sample count when the present integration began, and the sum and number of its codes over the
  conversions so far (R300). -/
  acc0 : Nat := 0
  n0 : Nat := 0
  accSum : Int := 0
  accN : Nat := 0
  deriving DecidableEq, Repr

/-- A mean Z that waits for CAL_FULL (R282); `coul` is the coulomb converter's own over the same time (R300). -/
structure PendZ where
  slot : Nat
  input : Nat
  range : Nat
  fcv : Bool
  z : Int
  applied : Int
  coul : Option Int
  at_ : Nat
  deriving DecidableEq, Repr

/-- Hidden state of an ICV (chapter 06). -/
structure IcvRec where
  /-- Number of the present pass, when it began, and whether one runs (R254, R289). -/
  pass : Nat := 0
  passAt : Nat := 0
  inPass : Bool := false
  /-- The entry to visit next, 32 at the end of the pass, and the conversions of this visit done. -/
  pos : Nat := 0
  done : Nat := 0
  /-- The conversion that runs, and a table conversion that an urgent one aborted (R264). -/
  cur : Option Conv := none
  resume : Bool := false
  /-- The end of a running DELAY (R253). -/
  delayUntil : Nat := 0
  /-- The range of each channel's last conversion (R248), and the states of channels 16 to 19 (R290). -/
  lastRange : List (Nat × Nat) := []
  highRng : List (Nat × Nat) := []
  /-- Channels whose latest result lay below the down-range level (R251). -/
  narrow : List Nat := []
  /-- Accepted loads that wait for the next pass: entry, word A, word B (R255). -/
  pend : List (Nat × Nat × Nat) := []
  /-- Conversions of an AVG visit: values and flags so far, and the first stamp (R253). -/
  avgVals : List Int := []
  avgFlags : Nat := 0
  avgStamp : Nat := 0
  /-- Queued urgent requests (R264); a host urgent or calibration conversion has run in this pass. -/
  queue : List Conv := []
  used : Bool := false
  cal : Option CalJob := none
  /-- A latched trigger (R261). -/
  latched : Bool := false
  /-- The slot positions whose protected direct path the Planter holds open (R244). -/
  paths : List Nat := []
  /-- The latest result of each channel (R272), and the records that wait for a post-processing pair that migrates, oldest first (R269). -/
  res : List (Nat × MeasRec) := []
  held : List MeasRec := []
  /-- Internal channels 16 to 19 that are substituted, and the substituted channels whose turn has come in this pass (R275). -/
  substHi : List Nat := []
  turned : List Nat := []
  deriving DecidableEq, Repr

/-- Hidden state of an FCV and its test DAC (R270 to R280). -/
structure FcvRec where
  /-- Channels whose last comparison was beyond its limit, as ICV position × 32 + channel (R273). -/
  mis : List Nat := []
  /-- A referee procedure due: ICV, channel, range, and the two readings in µV (R274); run again with the reference. -/
  referee : Option (Nat × Nat × Nat × Int × Int) := none
  again : Bool := false
  /-- When each channel was last checked (R272). -/
  ages : List (Nat × Nat) := []
  /-- PF urgent requests: descriptor, channel, range and CYC, oldest first (R271). -/
  urg : List (Ctl × Nat × Nat × Nat) := []
  cal : Option CalJob := none
  /-- The conversion that runs, when the one before it ended, when the FCV came up, and when it last tested itself (R270 to R272). -/
  cur : Option FcvSel := none
  endAt : Nat := 0
  bootAt : Nat := 0
  selfAt : Nat := 0
  /-- The place in the present round and its window; substituted channels whose turn has come, as ICV and entry (R275). -/
  subPos : Nat := 0
  subWin : Nat := 0
  owed : List (Nat × Nat) := []
  deriving DecidableEq, Repr

/-- The mains measurement (R246, R247), in 0.1 µs: measured periods, newest first, and how many in a row agree. -/
structure MainsRec where
  periods : List Nat := []
  run : Nat := 0
  /-- When the last rising crossing came. -/
  lastAt : Nat := 0
  /-- The last mean of MAINS_SENSE (R246); before any, that of the reset value of PERIOD. -/
  lastMean : Nat := 200000
  deriving DecidableEq, Repr

/-- A sampling group (R262): when the trigger it gathers for arrived. -/
structure GrpRec where
  since : Option Nat := none
  deriving DecidableEq, Repr

/-- One planned reference of a lead: current, voltage, direction and donor limit, as `commitLead` takes them. -/
structure PlanRef where
  lead : Nat
  refI : Int
  refV : Nat
  dir : Nat := 0
  ilim : Nat := 0
  deriving DecidableEq, Repr

/-- Hidden state of the Almanac (chapter 05). Leads that a planned tick does not list are planned at zero. -/
structure AlmRec where
  /-- The uncommitted ticks planned at the last boundary, next first, and those of the rebuild before (R206, R208). -/
  plan : List (List PlanRef) := []
  prev : List (List PlanRef) := []
  /-- The frozen record of the next tick, once it is frozen (R206 step 3). -/
  frozen : Option (List PlanRef) := none
  /-- Leads that switched at the last snapshot (R206 step 3). -/
  live : List Nat := []
  /-- Budget of the plan and of the plan before it, 0.1 W; budget, draw and feed of the frozen record (R237); the planned demand of R46. -/
  budget : Nat := 0
  prevBudget : Nat := 0
  figures : Nat × Nat × Nat := (0, 0, 0)
  demand : Nat := 0
  /-- Beds whose shard is absent (R233). -/
  absent : List Nat := []
  /-- The root's bed has been lost; the alternate root takes over at the next boundary (R32, R231). -/
  rootLost : Bool := false
  /-- The next commit carries zero for every slot (R229, R554). -/
  firstZero : Bool := false
  /-- The references by lead that stood before the commit of the last boundary, mA; zeros are left out. Quotas are judged by them (R206, R222). -/
  before : List (Nat × Nat) := []
  /-- Device time of the last boundary that was taken. -/
  boundaryAt : Option Nat := none
  /-- A freeze has been released: the next boundary rebuilds from the last committed tick and commits none (R595). -/
  resume : Bool := false
  deriving DecidableEq, Repr

/-- A happening that arises during a freeze and is taken at release (R594), with what it was seen as. -/
inductive Latched where
  /-- A frost-guard comparator sees its condition: OV (mV), OC and RV (mA) with its time in µs, NTC with its input, code and time in ms. -/
  | fgOv (sl mv us : Nat)
  | fgOc (sl ma us : Nat)
  | fgRv (sl ma us : Nat)
  | fgNtc (sl input code ms : Nat)
  /-- The ID voltage leaves its window for a time in ns. -/
  | idLoss (sl mv ns : Nat)
  /-- An ID pin opens, or closes. -/
  | idOpen (sl : Nat) (pulses : Option Nat)
  | idClosed (sl : Nat)
  /-- A source's presence line: its new level, and the voltage on SRC_ID. -/
  | presence (k : Nat) (level : Bool) (mv : Nat)
  /-- A mode request of R551: mode and source. -/
  | request (mode src : Nat)
  /-- A HALT cause with its detail. -/
  | halt (cause detail : Nat)
  /-- PERST# or a hot reset. -/
  | perst
  /-- A request to freeze (R564, R592). -/
  | freeze
  /-- What D0 and the phase-block PLL see through a freeze (R593): the PLL unlocked, a watchdog clock stopped, the crystal stopped with the PLL's
  slew after it; and a Planter feed lost. -/
  | pllUnlock
  | wdgClock (clock : Nat)
  | crystal (slew : Nat)
  | feed (n : Nat)
  deriving DecidableEq, Repr

/-- Hidden state of the mode logic in D0 (chapter 14). -/
structure PowerRec where
  /-- The happenings that the START under way meets, and a SHIP request that waits for its step (R558, R561). -/
  env : Option StartEnv := none
  shipPending : Bool := false
  /-- Tick boundaries left of leaving SENTINEL (R554), 0 none. -/
  leaving : Nat := 0
  /-- A reversal that waits for the step in progress (R563). -/
  reverse : Bool := false
  /-- A wake after the point of no return: its cause as `SRC_HB_STATUS.WAKE`, 0 none (R66), and whether it closes the rail switch (R67). -/
  wakeLate : Nat := 0
  wakeRail : Bool := false
  /-- The hottest sensor at or above CURT_T since, below CURT_T − 5 °C since, at or above SHUT_T since (R552, R575). -/
  hotSince : Option Nat := none
  coolSince : Option Nat := none
  shutSince : Option Nat := none
  /-- When HALT was entered, and AUTO_WARM and RESTART_S as they stood then (R529). -/
  haltAt : Nat := 0
  autoWarm : Bool := false
  restartS : Nat := 0
  /-- The automatic WARM resets of the last 24 h (R529). -/
  autoWarms : List Nat := []
  /-- SAFE_RECOVERED is owed once the PF's rings run (R536). -/
  recovered : Bool := false
  /-- Happenings that wait for others of the same moment which R564 takes first. -/
  deferred : List Latched := []
  /-- The Planters whose feeds are both lost (R537). -/
  deadPlanters : List Nat := []
  deriving DecidableEq, Repr

/-- Hidden state of a tine pair (chapter 12). -/
structure PairRec where
  /-- A state that does not follow from the tasks' hosts: 3 quarantine, 4 retired, 5 reloading, 6 lost (R507); 0 none of them. -/
  st : Nat := 0
  /-- When the pair erred in the last 24 h, newest first (R482). -/
  strikes : List Nat := []
  /-- When quarantine began (R482). -/
  quarAt : Nat := 0
  /-- Breakpoints, code word addresses (R597), and a halt at one of them (R486). -/
  bps : List Nat := []
  halted : Bool := false
  deriving DecidableEq, Repr

/-- An entry of a pair's store queue (R472, R474): its kind (0 store to the data memory, 1 store outside, 2 message, 3 register write, 4
remote read that waits), target and data, and whether its instruction has committed. -/
structure StoreEntry where
  kind : Nat
  target : Nat
  data : Nat
  done : Bool := false
  deriving DecidableEq, Repr

/-- Hidden state of a task (R476 to R485). -/
structure TaskRec where
  /-- The store queue, oldest first, at most 16 entries (R472, R474); the data memory's words that a store has written, newest first, and what the
  last load returned. -/
  queue : List StoreEntry := []
  mem : List (Nat × Nat) := []
  loaded : Option Nat := none
  /-- The sequence number of the task's next effect, that at its last checkpoint, and the first that the fabric has not delivered yet (R479). -/
  seq : Nat := 0
  ckptSeq : Nat := 0
  sent : Nat := 0
  /-- The data memory as the last checkpoint holds it, and the messages delivered to the task since, oldest first: sender and data (R478). -/
  ckptMem : List (Nat × Nat) := []
  log : List (Nat × Nat) := []
  /-- The number of the next period (R477). -/
  period : Nat := 0
  /-- Recent task faults, newest first (R522). -/
  faults : List Nat := []
  /-- A migration under way: the pair left, the cause as in MIGRATE, and the earliest resumption (R483). -/
  from? : Option Nat := none
  cause : Nat := 0
  readyAt : Nat := 0
  /-- The task is stopped after repeated faults (R522). -/
  stopped : Bool := false
  /-- The beginning of the SENTINEL round in which the task has run (R556). -/
  roundAt : Option Nat := none
  /-- The kind of a task fault that fell into a migration and is taken after it (R485). -/
  owed : Option Nat := none
  /-- The barrier at which the task waits and since when, and what is left of its period: its acts and the cycles used (R487). -/
  waits : Option (Nat × Nat) := none
  rest : List TineAct := []
  restCycles : Nat := 0
  deriving DecidableEq, Repr

/-- A record of the trace buffer (R502): its sixteen bytes. -/
structure TraceRec where
  bytes : List Nat := []
  deriving DecidableEq, Repr

/-- Staging, rollout and the engines' other work (chapter 12). -/
structure EngRec where
  /-- The staging in progress: its descriptor, IMG_LEN and GEN (R492). -/
  stage : Option (Ctl × Nat × Nat) := none
  /-- The ROLL and the ABORT that wait for their completion (R494). -/
  roll : Option Ctl := none
  abort : Option Ctl := none
  /-- DWELL in force, s, and the start of the present dwell (R496). -/
  dwell : Nat := 600
  dwellAt : Nat := 0
  /-- Beds reloaded so far, newest first, and while aborting the beds still to return (R498). -/
  reloaded : List Nat := []
  toReturn : List Nat := []
  /-- Why a rollout ended early, and the bed then in progress (R498). -/
  abortCause : Nat := 0
  abortBed : Nat := 31
  /-- Disagreements of the last 10 ms: bed and time (R30). -/
  recent : List (Nat × Nat) := []
  /-- Events owed once the PF's rings run: MCODE_FALLBACK (bank, error) and MCODE_ABORT by a reset (R491, R499). -/
  owedFallback : Option (Nat × Nat) := none
  owedAbort : Bool := false
  /-- Records in the trace buffer (R501). -/
  traced : Nat := 0
  /-- Device time at which each bed's domain went off (R503). -/
  offAt : List (Nat × Nat) := []
  /-- The beds in a SENTINEL round, with its beginning, and those woken for one out of turn (R556, R557). -/
  rounds : List (Nat × Nat) := []
  wakes : List Nat := []
  /-- Writes to the SLT registers of slots in retention, oldest first, by address and word, and each slot's registers as they stood when its
  supervisor pair last ran (R617). -/
  sltWrites : List (Nat × Nat) := []
  sltSeen : List (Nat × List (Nat × Nat)) := []
  /-- Trace records on their way to the buffer, oldest first, with the bed whose FIFO holds them, and the records each FIFO has discarded since
  its last LOST record (R501). -/
  fifo : List (Nat × TraceRec) := []
  fifoLost : List (Nat × Nat) := []
  /-- The headers of the active image and of the staged one (R489, R491, R493). -/
  active : Image := {}
  staged : Option Image := none
  /-- The subsystem ids in force, where the active image gave any at the last PERST# or POR, and whether a WARM has kept them (R9, R491). -/
  ids : Option (Nat × Nat) := none
  idsKept : Bool := false
  deriving DecidableEq, Repr

/-- Hidden state of the Sundial and the safety side port (chapter 13). -/
structure SunRec where
  /-- The system watchdog: the question in force and the one before, when it was issued, when the next is due, the window opening
  and period in force, whether it has been judged, and whether one has been posed (R528). -/
  question : Nat := 0
  prevQuestion : Nat := 0
  askedAt : Nat := 0
  nextAt : Nat := 0
  askPeriod : Nat := 0
  askOpen : Nat := 0
  judged : Bool := true
  posed : Bool := false
  /-- The side port's next answer: CMD, SEQ and DATA (R541); the last valid frame's time; SSP_SILENT raised (R543). -/
  answer : Nat × Nat × Nat := (0, 0, 0)
  validAt : Nat := 0
  silent : Bool := false
  /-- The periodic tests that LATENT_NOW asked for and that have not run yet (R547). -/
  latentDue : List Nat := []
  /-- The question timer stands still since (R531). -/
  stopAt : Option Nat := none
  deriving DecidableEq, Repr

/-- Hidden state of the clocks (chapter 15). -/
structure ClkRec where
  /-- The end of the present holdover and slew (R583). -/
  holdUntil : Nat := 0
  /-- The corrections of the islands' copies of device time in the last second: when and how much, µs (R589). -/
  errs : List (Nat × Nat) := []
  /-- Islands that are out of service: both oscillators lost (R588), or a fault of the fabric that they send on (R24). -/
  isleOut : List Nat := []
  deriving DecidableEq, Repr

/-- Hidden state of the freeze controller and the TAP (chapter 15). -/
structure SvcRec where
  /-- The SERVICE_LOCK fuse is blown. -/
  fuse : Bool := false
  /-- Device time of step 1 of the freeze in force (R592), as 64 bits. -/
  frozenAt : Nat := 0
  latched : List Latched := []
  /-- A release that waits for the end of the snapshot stream (R595): true for THAW_DBG. -/
  releaseOwed : Option Bool := none
  /-- The stream's section mask and the time at which it ends (R598, R599). -/
  snapMask : Nat := 0
  snapEnd : Nat := 0
  /-- Bytes of the stream that have gone out. -/
  snapPos : Nat := 0
  /-- The first lock word was written at this time (R602), and the fuse blows. -/
  lockAt : Option Nat := none
  blowing : Bool := false
  /-- The TAP: the instruction in force (R600), the data register's answer, the preloaded boundary, and EXTEST in force. -/
  ir : Nat := 1
  tdo : Nat := 0
  preload : Nat := 0
  extest : Bool := false
  /-- The freeze to debug run ended at this time: the park lines stay driven (R596). -/
  parkLines : Bool := false
  deriving DecidableEq, Repr

/-- A register or memory word of a pair that debug has seen or written (R597). -/
structure TineCell where
  v : Option Nat := none
  deriving DecidableEq, Repr


/-- The whole state. Tables are lists of (key, record) pairs in canonical form: keys strictly rising, no entry
equal to what an unlisted key reads as. -/
structure State where
  /-- Register fields by cell key; an unlisted cell reads its reset value (R5). -/
  regs : List (Nat × Nat) := []
  /-- Device time, 64-bit microseconds, kept in D0 (chapter 01; R558, R569) -/
  time : Nat := 0
  /-- Hidden state of each function, PF under 0x400 (R345 to R347, R352, R386, R391) -/
  fns : List (Nat × FnRec) := []
  /-- Hidden state of each ring, under the pair of function and ring (R340, R343, R359) -/
  rings : List (Nat × RingRec) := []
  /-- The ring engine's work in hand (R354 to R356, R369) -/
  host : HostRec := {}
  /-- Parity checking of each runner-link direction and fabric island (R23, R24) -/
  lanes : List (Nat × LaneRec) := []
  /-- What the block has put out to the host, newest first (R342, R345) -/
  out : List Out := []
  /-- The model's own counter of free values taken -/
  freeCtr : Nat := 0
  /-- Hidden state of each phase channel (chapter 03) -/
  chans : List (Nat × ChanRec) := []
  /-- Hidden state of each slot (chapter 04) -/
  slots : List (Nat × SlotRec) := []
  /-- Hidden state of each gauge (chapter 07) -/
  gauges : List (Nat × GaugeRec) := []
  /-- The record locations of the keep, 0 to 1,023 (R570, R571) -/
  keepLocs : List (Nat × KeepLoc) := []
  /-- The keep's write queue and counts (R572) -/
  keep : KeepRec := {}
  /-- The pack keys, by key slot (R387) -/
  keys : List (Nat × KeyRec) := []
  /-- Hidden state of each PD port (chapter 11) -/
  ports : List (Nat × PortRec) := []
  /-- Hidden state of each two-wire bus (chapter 10) -/
  twb : List (Nat × BusRec) := []
  /-- Hidden state of the house rail (R59 to R64) -/
  house : HouseRec := {}
  /-- Hidden state of the bus and its guard (R40 to R58) -/
  grid : GridRec := {}
  /-- Hidden state of each source port (R42 to R47) -/
  srcs : List (Nat × SrcRec) := []
  /-- Hidden state of each ICV (chapter 06) -/
  icvs : List (Nat × IcvRec) := []
  /-- Hidden state of each FCV and test DAC (chapter 06) -/
  fcvs : List (Nat × FcvRec) := []
  /-- The mains measurement (R247) -/
  mains : MainsRec := {}
  /-- Calibration means that wait for CAL_FULL (R282) -/
  pendZ : List PendZ := []
  /-- When each gathering sampling group was triggered (R262) -/
  groups : List (Nat × GrpRec) := []
  /-- Hidden state of the Almanac (chapter 05) -/
  alm : AlmRec := {}
  /-- Hidden state of the mode logic (chapter 14) -/
  power : PowerRec := {}
  /-- Hidden state of each tine pair (R482, R486) -/
  pairs : List (Nat × PairRec) := []
  /-- Hidden state of each task (R477 to R485) -/
  tasks : List (Nat × TaskRec) := []
  /-- Staging and rollout (R492 to R500) -/
  eng : EngRec := {}
  /-- The trace buffer, by record index (R501) -/
  trace : List (Nat × TraceRec) := []
  /-- Hidden state of the Sundial and the side port (chapter 13) -/
  sun : SunRec := {}
  /-- Hidden state of the clocks (chapter 15) -/
  clk : ClkRec := {}
  /-- Hidden state of the freeze controller and the TAP (chapter 15) -/
  svc : SvcRec := {}
  /-- What debug has seen or written of a pair's registers and memories (R597) -/
  tines : List (Nat × TineCell) := []
  /-- Every challenge that the device has sent (R426) -/
  chals : List Nat := []
  /-- The commands that wait, first in, first out. -/
  pending : List Instr := []
  deriving DecidableEq, Repr

/-- The machine right after reset: power-on (R5, R565, R578, R579): every register at its Reset value, nothing
waiting, START about to run (`PWR_MODE` MODE 2, SEQ 1, STEP 1, TARGET 3). -/
def State.reset : State := {}

/-- Hidden state of each function, PF under 0x400 (R345 to R347, R352, R386, R391): the record under key `k`. -/
def State.fnr (s : State) (k : Nat) : FnRec := Tab.get {} s.fns k

/-- Hidden state of each ring, under the pair of function and ring (R340, R343, R359): the record under key `k`. -/
def State.ringr (s : State) (k : Nat) : RingRec := Tab.get {} s.rings k

/-- Parity checking of each runner-link direction and fabric island (R23, R24): the record under key `k`. -/
def State.lane (s : State) (k : Nat) : LaneRec := Tab.get {} s.lanes k

/-- Hidden state of each phase channel (chapter 03): the record under key `k`. -/
def State.chan (s : State) (k : Nat) : ChanRec := Tab.get {} s.chans k

/-- Hidden state of each slot (chapter 04): the record under key `k`. -/
def State.slot (s : State) (k : Nat) : SlotRec := Tab.get {} s.slots k

/-- Hidden state of each gauge (chapter 07): the record under key `k`. -/
def State.gauge (s : State) (k : Nat) : GaugeRec := Tab.get {} s.gauges k

/-- The record locations of the keep, 0 to 1,023 (R570, R571): the record under key `k`. -/
def State.keepLoc (s : State) (k : Nat) : KeepLoc := Tab.get {} s.keepLocs k

/-- The pack keys, by key slot (R387): the record under key `k`. -/
def State.keyr (s : State) (k : Nat) : KeyRec := Tab.get {} s.keys k

/-- Hidden state of each PD port (chapter 11): the record under key `k`. -/
def State.port (s : State) (k : Nat) : PortRec := Tab.get {} s.ports k

/-- Hidden state of each two-wire bus (chapter 10): the record under key `k`. -/
def State.bus (s : State) (k : Nat) : BusRec := Tab.get {} s.twb k

/-- Hidden state of each source port (R42 to R47): the record under key `k`. -/
def State.src (s : State) (k : Nat) : SrcRec := Tab.get {} s.srcs k

/-- Hidden state of each ICV (chapter 06): the record under key `k`. -/
def State.icv (s : State) (k : Nat) : IcvRec := Tab.get {} s.icvs k

/-- Hidden state of each FCV and test DAC (chapter 06): the record under key `k`. -/
def State.fcv (s : State) (k : Nat) : FcvRec := Tab.get {} s.fcvs k

/-- When each gathering sampling group was triggered (R262): the record under key `k`. -/
def State.group (s : State) (k : Nat) : GrpRec := Tab.get {} s.groups k

/-- Hidden state of each tine pair (R482, R486): the record under key `k`. -/
def State.pair (s : State) (k : Nat) : PairRec := Tab.get {} s.pairs k

/-- Hidden state of each task (R477 to R485): the record under key `k`. -/
def State.task (s : State) (k : Nat) : TaskRec := Tab.get {} s.tasks k

/-- The trace buffer, by record index (R501): the record under key `k`. -/
def State.traceRec (s : State) (k : Nat) : TraceRec := Tab.get {} s.trace k

/-- What debug has seen or written of a pair's registers and memories (R597): the record under key `k`. -/
def State.tine (s : State) (k : Nat) : TineCell := Tab.get {} s.tines k

end Sys2Proof.Machine
end

