-- ==== Sys2Proof/Machine/Act.lean ====
section
/-! DEFINITION. The primitive updates of the state (`Act`), and the programs of updates (`Prog`) that every
meaning is written in. No primitive touches the queue of waiting commands. -/

namespace Sys2Proof.Machine

/-- The present value of a register field's instance. -/
def State.rd (s : State) (f : Fld) (i : Nat := 0) (j : Nat := 0) (k : Nat := 0) : Nat :=
  if f.hard then f.resetAt i j else Tab.get (f.resetAt i j) s.regs (f.key i j k)

/-- The present value of a one-bit field as a Boolean. -/
def State.flag (s : State) (f : Fld) (i : Nat := 0) (j : Nat := 0) (k : Nat := 0) : Bool :=
  s.rd f i j k == 1

/-- The update of one register field's instance: cut to the field's width; a hard-wired field keeps its value (R3, R5). -/
def State.wr (s : State) (f : Fld) (i j k v : Nat) : State :=
  if f.hard then s else { s with regs := Tab.put (f.resetAt i j) s.regs (f.key i j k) (v % 2 ^ min f.w 32) }

/-- Which retention classes a reset clears (R5), as a list. -/
def clearedCells (classes : List Keep) (keep : Nat → Bool) (regs : List (Nat × Nat)) : List (Nat × Nat) :=
  regs.filter fun e =>
    match fieldTable[(Nat.unpair e.1).1]? with
    | some f => !(classes.contains f.keep) || keep e.1
    | none => true

/-- The primitive updates. -/
inductive Act where
  /-- A register field's instance takes a value. -/
  | reg (f : Fld) (i j k v : Nat)
  /-- Every field of the classes returns to its reset value (R5), but for the cells that `keep` names. -/
  | clear (classes : List Keep) (keep : Nat → Bool)
  /-- `time` takes a value. -/
  | time (r : Nat)
  /-- A record of `fns` is replaced. -/
  | fns (key : Nat) (r : FnRec)
  /-- Every record of `fns` is replaced by its image. -/
  | fnsMap (g : Nat → FnRec → FnRec)
  /-- A record of `rings` is replaced. -/
  | rings (key : Nat) (r : RingRec)
  /-- Every record of `rings` is replaced by its image. -/
  | ringsMap (g : Nat → RingRec → RingRec)
  /-- `host` takes a value. -/
  | host (r : HostRec)
  /-- A record of `lanes` is replaced. -/
  | lanes (key : Nat) (r : LaneRec)
  /-- Every record of `lanes` is replaced by its image. -/
  | lanesMap (g : Nat → LaneRec → LaneRec)
  /-- `out` takes a value. -/
  | out (r : List Out)
  /-- `freeCtr` takes a value. -/
  | freeCtr (r : Nat)
  /-- A record of `chans` is replaced. -/
  | chans (key : Nat) (r : ChanRec)
  /-- Every record of `chans` is replaced by its image. -/
  | chansMap (g : Nat → ChanRec → ChanRec)
  /-- A record of `slots` is replaced. -/
  | slots (key : Nat) (r : SlotRec)
  /-- Every record of `slots` is replaced by its image. -/
  | slotsMap (g : Nat → SlotRec → SlotRec)
  /-- A record of `gauges` is replaced. -/
  | gauges (key : Nat) (r : GaugeRec)
  /-- Every record of `gauges` is replaced by its image. -/
  | gaugesMap (g : Nat → GaugeRec → GaugeRec)
  /-- A record of `keepLocs` is replaced. -/
  | keepLocs (key : Nat) (r : KeepLoc)
  /-- Every record of `keepLocs` is replaced by its image. -/
  | keepLocsMap (g : Nat → KeepLoc → KeepLoc)
  /-- `keep` takes a value. -/
  | keep (r : KeepRec)
  /-- A record of `keys` is replaced. -/
  | keys (key : Nat) (r : KeyRec)
  /-- Every record of `keys` is replaced by its image. -/
  | keysMap (g : Nat → KeyRec → KeyRec)
  /-- A record of `ports` is replaced. -/
  | ports (key : Nat) (r : PortRec)
  /-- Every record of `ports` is replaced by its image. -/
  | portsMap (g : Nat → PortRec → PortRec)
  /-- A record of `twb` is replaced. -/
  | twb (key : Nat) (r : BusRec)
  /-- Every record of `twb` is replaced by its image. -/
  | twbMap (g : Nat → BusRec → BusRec)
  /-- `house` takes a value. -/
  | house (r : HouseRec)
  /-- `grid` takes a value. -/
  | grid (r : GridRec)
  /-- A record of `srcs` is replaced. -/
  | srcs (key : Nat) (r : SrcRec)
  /-- Every record of `srcs` is replaced by its image. -/
  | srcsMap (g : Nat → SrcRec → SrcRec)
  /-- A record of `icvs` is replaced. -/
  | icvs (key : Nat) (r : IcvRec)
  /-- Every record of `icvs` is replaced by its image. -/
  | icvsMap (g : Nat → IcvRec → IcvRec)
  /-- A record of `fcvs` is replaced. -/
  | fcvs (key : Nat) (r : FcvRec)
  /-- Every record of `fcvs` is replaced by its image. -/
  | fcvsMap (g : Nat → FcvRec → FcvRec)
  /-- `mains` takes a value. -/
  | mains (r : MainsRec)
  /-- `pendZ` takes a value. -/
  | pendZ (r : List PendZ)
  /-- A record of `groups` is replaced. -/
  | groups (key : Nat) (r : GrpRec)
  /-- Every record of `groups` is replaced by its image. -/
  | groupsMap (g : Nat → GrpRec → GrpRec)
  /-- `alm` takes a value. -/
  | alm (r : AlmRec)
  /-- `power` takes a value. -/
  | power (r : PowerRec)
  /-- A record of `pairs` is replaced. -/
  | pairs (key : Nat) (r : PairRec)
  /-- Every record of `pairs` is replaced by its image. -/
  | pairsMap (g : Nat → PairRec → PairRec)
  /-- A record of `tasks` is replaced. -/
  | tasks (key : Nat) (r : TaskRec)
  /-- Every record of `tasks` is replaced by its image. -/
  | tasksMap (g : Nat → TaskRec → TaskRec)
  /-- `eng` takes a value. -/
  | eng (r : EngRec)
  /-- A record of `trace` is replaced. -/
  | trace (key : Nat) (r : TraceRec)
  /-- Every record of `trace` is replaced by its image. -/
  | traceMap (g : Nat → TraceRec → TraceRec)
  /-- `sun` takes a value. -/
  | sun (r : SunRec)
  /-- `clk` takes a value. -/
  | clk (r : ClkRec)
  /-- `svc` takes a value. -/
  | svc (r : SvcRec)
  /-- A record of `tines` is replaced. -/
  | tines (key : Nat) (r : TineCell)
  /-- Every record of `tines` is replaced by its image. -/
  | tinesMap (g : Nat → TineCell → TineCell)
  /-- `chals` takes a value. -/
  | chals (r : List Nat)

/-- The state after a primitive update. -/
def Act.apply : Act → State → State
  | .reg f i j k v, s => s.wr f i j k v
  | .clear c kp, s => { s with regs := clearedCells c kp s.regs }
  | .time r, s => { s with time := r }
  | .fns key r, s => { s with fns := Tab.put {} s.fns key r }
  | .fnsMap g, s => { s with fns := Tab.map {} g s.fns }
  | .rings key r, s => { s with rings := Tab.put {} s.rings key r }
  | .ringsMap g, s => { s with rings := Tab.map {} g s.rings }
  | .host r, s => { s with host := r }
  | .lanes key r, s => { s with lanes := Tab.put {} s.lanes key r }
  | .lanesMap g, s => { s with lanes := Tab.map {} g s.lanes }
  | .out r, s => { s with out := r }
  | .freeCtr r, s => { s with freeCtr := r }
  | .chans key r, s => { s with chans := Tab.put {} s.chans key r }
  | .chansMap g, s => { s with chans := Tab.map {} g s.chans }
  | .slots key r, s => { s with slots := Tab.put {} s.slots key r }
  | .slotsMap g, s => { s with slots := Tab.map {} g s.slots }
  | .gauges key r, s => { s with gauges := Tab.put {} s.gauges key r }
  | .gaugesMap g, s => { s with gauges := Tab.map {} g s.gauges }
  | .keepLocs key r, s => { s with keepLocs := Tab.put {} s.keepLocs key r }
  | .keepLocsMap g, s => { s with keepLocs := Tab.map {} g s.keepLocs }
  | .keep r, s => { s with keep := r }
  | .keys key r, s => { s with keys := Tab.put {} s.keys key r }
  | .keysMap g, s => { s with keys := Tab.map {} g s.keys }
  | .ports key r, s => { s with ports := Tab.put {} s.ports key r }
  | .portsMap g, s => { s with ports := Tab.map {} g s.ports }
  | .twb key r, s => { s with twb := Tab.put {} s.twb key r }
  | .twbMap g, s => { s with twb := Tab.map {} g s.twb }
  | .house r, s => { s with house := r }
  | .grid r, s => { s with grid := r }
  | .srcs key r, s => { s with srcs := Tab.put {} s.srcs key r }
  | .srcsMap g, s => { s with srcs := Tab.map {} g s.srcs }
  | .icvs key r, s => { s with icvs := Tab.put {} s.icvs key r }
  | .icvsMap g, s => { s with icvs := Tab.map {} g s.icvs }
  | .fcvs key r, s => { s with fcvs := Tab.put {} s.fcvs key r }
  | .fcvsMap g, s => { s with fcvs := Tab.map {} g s.fcvs }
  | .mains r, s => { s with mains := r }
  | .pendZ r, s => { s with pendZ := r }
  | .groups key r, s => { s with groups := Tab.put {} s.groups key r }
  | .groupsMap g, s => { s with groups := Tab.map {} g s.groups }
  | .alm r, s => { s with alm := r }
  | .power r, s => { s with power := r }
  | .pairs key r, s => { s with pairs := Tab.put {} s.pairs key r }
  | .pairsMap g, s => { s with pairs := Tab.map {} g s.pairs }
  | .tasks key r, s => { s with tasks := Tab.put {} s.tasks key r }
  | .tasksMap g, s => { s with tasks := Tab.map {} g s.tasks }
  | .eng r, s => { s with eng := r }
  | .trace key r, s => { s with trace := Tab.put {} s.trace key r }
  | .traceMap g, s => { s with trace := Tab.map {} g s.trace }
  | .sun r, s => { s with sun := r }
  | .clk r, s => { s with clk := r }
  | .svc r, s => { s with svc := r }
  | .tines key r, s => { s with tines := Tab.put {} s.tines key r }
  | .tinesMap g, s => { s with tines := Tab.map {} g s.tines }
  | .chals r, s => { s with chals := r }

/-- Programs of primitive updates. `read` looks at the state reached so far. -/
inductive Prog where
  | skip
  | act (a : Act)
  | seq (p q : Prog)
  | read (k : State → Prog)

/-- The state a program ends in. -/
def Prog.run : Prog → State → State
  | .skip, s => s
  | .act a, s => a.apply s
  | .seq p q, s => q.run (p.run s)
  | .read k, s => (k s).run s

/-- Programs one after the other. -/
def seqs : List Prog → Prog
  | [] => .skip
  | p :: ps => .seq p (seqs ps)

/-- One program for each member of a list, in order. -/
def each {α : Type} (l : List α) (f : α → Prog) : Prog := seqs (l.map f)

/-- A program run where a condition on the state reached holds. -/
def when (c : State → Bool) (p : Prog) : Prog := .read fun s => if c s then p else .skip

/-- The choice between two programs by a condition on the state reached. -/
def cond (c : State → Bool) (p q : Prog) : Prog := .read fun s => if c s then p else q

/-- A register field's instance takes a value. -/
def setR (f : Fld) (v : Nat) (i : Nat := 0) (j : Nat := 0) (k : Nat := 0) : Prog := .act (.reg f i j k v)

/-- A register field's instance takes a value computed from the state reached. -/
def updR (f : Fld) (v : State → Nat) (i : Nat := 0) (j : Nat := 0) (k : Nat := 0) : Prog :=
  .read fun s => setR f (v s) i j k

/-- A counter field counts up by one, saturating at its width. -/
def incSat (f : Fld) (i : Nat := 0) (j : Nat := 0) (k : Nat := 0) : Prog :=
  .read fun s => setR f (min (s.rd f i j k + 1) (2 ^ f.w - 1)) i j k

/-- A counter field counts up by one, wrapping at its width. -/
def incWrap (f : Fld) (i : Nat := 0) (j : Nat := 0) (k : Nat := 0) : Prog :=
  .read fun s => setR f ((s.rd f i j k + 1) % 2 ^ f.w) i j k

/-- `time` changes. -/
def updTime (f : Nat → Nat) : Prog := .read fun s => .act (.time (f s.time))

/-- The record under key `k` of `fns` changes. -/
def updFns (k : Nat) (f : FnRec → FnRec) : Prog := .read fun s => .act (.fns k (f (s.fnr k)))

/-- The record under key `k` of `rings` changes. -/
def updRings (k : Nat) (f : RingRec → RingRec) : Prog := .read fun s => .act (.rings k (f (s.ringr k)))

/-- `host` changes. -/
def updHost (f : HostRec → HostRec) : Prog := .read fun s => .act (.host (f s.host))

/-- The record under key `k` of `lanes` changes. -/
def updLanes (k : Nat) (f : LaneRec → LaneRec) : Prog := .read fun s => .act (.lanes k (f (s.lane k)))

/-- `out` changes. -/
def updOut (f : List Out → List Out) : Prog := .read fun s => .act (.out (f s.out))

/-- `freeCtr` changes. -/
def updFreeCtr (f : Nat → Nat) : Prog := .read fun s => .act (.freeCtr (f s.freeCtr))

/-- The record under key `k` of `chans` changes. -/
def updChans (k : Nat) (f : ChanRec → ChanRec) : Prog := .read fun s => .act (.chans k (f (s.chan k)))

/-- The record under key `k` of `slots` changes. -/
def updSlots (k : Nat) (f : SlotRec → SlotRec) : Prog := .read fun s => .act (.slots k (f (s.slot k)))

/-- The record under key `k` of `gauges` changes. -/
def updGauges (k : Nat) (f : GaugeRec → GaugeRec) : Prog := .read fun s => .act (.gauges k (f (s.gauge k)))

/-- The record under key `k` of `keepLocs` changes. -/
def updKeepLocs (k : Nat) (f : KeepLoc → KeepLoc) : Prog := .read fun s => .act (.keepLocs k (f (s.keepLoc k)))

/-- `keep` changes. -/
def updKeep (f : KeepRec → KeepRec) : Prog := .read fun s => .act (.keep (f s.keep))

/-- The record under key `k` of `keys` changes. -/
def updKeys (k : Nat) (f : KeyRec → KeyRec) : Prog := .read fun s => .act (.keys k (f (s.keyr k)))

/-- The record under key `k` of `ports` changes. -/
def updPorts (k : Nat) (f : PortRec → PortRec) : Prog := .read fun s => .act (.ports k (f (s.port k)))

/-- The record under key `k` of `twb` changes. -/
def updTwb (k : Nat) (f : BusRec → BusRec) : Prog := .read fun s => .act (.twb k (f (s.bus k)))

/-- `house` changes. -/
def updHouse (f : HouseRec → HouseRec) : Prog := .read fun s => .act (.house (f s.house))

/-- `grid` changes. -/
def updGrid (f : GridRec → GridRec) : Prog := .read fun s => .act (.grid (f s.grid))

/-- The record under key `k` of `srcs` changes. -/
def updSrcs (k : Nat) (f : SrcRec → SrcRec) : Prog := .read fun s => .act (.srcs k (f (s.src k)))

/-- The record under key `k` of `icvs` changes. -/
def updIcvs (k : Nat) (f : IcvRec → IcvRec) : Prog := .read fun s => .act (.icvs k (f (s.icv k)))

/-- The record under key `k` of `fcvs` changes. -/
def updFcvs (k : Nat) (f : FcvRec → FcvRec) : Prog := .read fun s => .act (.fcvs k (f (s.fcv k)))

/-- `mains` changes. -/
def updMains (f : MainsRec → MainsRec) : Prog := .read fun s => .act (.mains (f s.mains))

/-- `pendZ` changes. -/
def updPendZ (f : List PendZ → List PendZ) : Prog := .read fun s => .act (.pendZ (f s.pendZ))

/-- The record under key `k` of `groups` changes. -/
def updGroups (k : Nat) (f : GrpRec → GrpRec) : Prog := .read fun s => .act (.groups k (f (s.group k)))

/-- `alm` changes. -/
def updAlm (f : AlmRec → AlmRec) : Prog := .read fun s => .act (.alm (f s.alm))

/-- `power` changes. -/
def updPower (f : PowerRec → PowerRec) : Prog := .read fun s => .act (.power (f s.power))

/-- The record under key `k` of `pairs` changes. -/
def updPairs (k : Nat) (f : PairRec → PairRec) : Prog := .read fun s => .act (.pairs k (f (s.pair k)))

/-- The record under key `k` of `tasks` changes. -/
def updTasks (k : Nat) (f : TaskRec → TaskRec) : Prog := .read fun s => .act (.tasks k (f (s.task k)))

/-- `eng` changes. -/
def updEng (f : EngRec → EngRec) : Prog := .read fun s => .act (.eng (f s.eng))

/-- The record under key `k` of `trace` changes. -/
def updTrace (k : Nat) (f : TraceRec → TraceRec) : Prog := .read fun s => .act (.trace k (f (s.traceRec k)))

/-- `sun` changes. -/
def updSun (f : SunRec → SunRec) : Prog := .read fun s => .act (.sun (f s.sun))

/-- `clk` changes. -/
def updClk (f : ClkRec → ClkRec) : Prog := .read fun s => .act (.clk (f s.clk))

/-- `svc` changes. -/
def updSvc (f : SvcRec → SvcRec) : Prog := .read fun s => .act (.svc (f s.svc))

/-- The record under key `k` of `tines` changes. -/
def updTines (k : Nat) (f : TineCell → TineCell) : Prog := .read fun s => .act (.tines k (f (s.tine k)))

/-- `chals` changes. -/
def updChals (f : List Nat → List Nat) : Prog := .read fun s => .act (.chals (f s.chals))

end Sys2Proof.Machine
end

