-- ==== Sys2Proof/Machine/Bytes.lean ====
section
/-! DEFINITION. Byte order (R7), the cyclic redundancy codes of R349 and R571, serial-number comparison (R204),
and two's complement fields (R6). -/

namespace Sys2Proof.Machine

/-- An element enters a sorted list, before the first that it does not follow. -/
def insertBy {α : Type} (le : α → α → Bool) (a : α) : List α → List α
  | [] => [a]
  | b :: bs => if le a b then a :: b :: bs else b :: insertBy le a bs

/-- A list in the order `le`; equal elements keep their order. -/
def sortBy {α : Type} (le : α → α → Bool) (l : List α) : List α := l.foldr (insertBy le) []

/-- `n` bytes of `v`, the least significant first (R7). -/
def leBytes : Nat → Nat → List Nat
  | 0, _ => []
  | n + 1, v => v % 256 :: leBytes n (v / 256)

/-- The number that bytes spell, the least significant first (R7). -/
def leNat : List Nat → Nat
  | [] => 0
  | b :: bs => b % 256 + 256 * leNat bs

/-- Byte `i` of a structure; zero past its end. -/
def byteAt (bs : List Nat) (i : Nat) : Nat := bs.getD i 0

/-- The little-endian number in bytes `i` to `i + n - 1` of a structure. -/
def leAt (bs : List Nat) (i n : Nat) : Nat := leNat ((bs.drop i).take n)

/-- One bit step of CRC-16/CCITT-FALSE (R349). -/
def crc16Bit (c : Nat) : Nat := if c % 0x10000 ≥ 0x8000 then Nat.xor (c * 2 % 0x10000) 0x1021 else c * 2 % 0x10000

/-- One byte step of CRC-16/CCITT-FALSE (R349). -/
def crc16Byte (c b : Nat) : Nat :=
  let x := Nat.xor c (b % 256 * 256)
  crc16Bit (crc16Bit (crc16Bit (crc16Bit (crc16Bit (crc16Bit (crc16Bit (crc16Bit x)))))))

/-- CRC-16/CCITT-FALSE: polynomial 0x1021, initial value 0xFFFF, no reflection, no final exclusive or (R349). -/
def crc16 (bs : List Nat) : Nat := bs.foldl crc16Byte 0xFFFF

/-- One bit step of the reflected CRC-32 of R571. -/
def crc32Bit (c : Nat) : Nat := if c % 2 = 1 then Nat.xor (c / 2) 0xEDB88320 else c / 2

/-- One byte step of the CRC-32 of R571. -/
def crc32Byte (c b : Nat) : Nat :=
  crc32Bit (crc32Bit (crc32Bit (crc32Bit (crc32Bit (crc32Bit (crc32Bit (crc32Bit (Nat.xor c (b % 256)))))))))

/-- CRC-32, reflected in and out, initial value and final exclusive or 0xFFFF_FFFF (R571). -/
def crc32 (bs : List Nat) : Nat := Nat.xor (bs.foldl crc32Byte 0xFFFFFFFF) 0xFFFFFFFF

/-- One bit step of the CRC-8 of R407. -/
def crc8Bit (c : Nat) : Nat := if c % 256 ≥ 128 then Nat.xor (c * 2 % 256) 0x07 else c * 2 % 256

/-- One byte step of the CRC-8 of R407. -/
def crc8Byte (c b : Nat) : Nat :=
  crc8Bit (crc8Bit (crc8Bit (crc8Bit (crc8Bit (crc8Bit (crc8Bit (crc8Bit (Nat.xor c (b % 256)))))))))

/-- The packet error code: CRC-8 with polynomial 0x07, initial value 0, no reflection, no final exclusive or (R407). -/
def crc8 (bs : List Nat) : Nat := bs.foldl crc8Byte 0

/-- Tick `a` is later than tick `b` (R204). -/
def laterTick (a b : Nat) : Bool :=
  let d := (a + 0x100000000 - b % 0x100000000) % 0x100000000
  decide (0 < d ∧ d < 0x80000000)

/-- The field of `w` bits that holds a signed number (R6). -/
def toField (w : Nat) (x : Int) : Nat := (x % (2 ^ w : Nat)).toNat

/-- The signed number that a field of `w` bits holds (R6). -/
def ofField (w v : Nat) : Int := if v % 2 ^ w ≥ 2 ^ (w - 1) then (v % 2 ^ w : Nat) - (2 ^ w : Nat) else (v % 2 ^ w : Nat)

/-- A signed number cut to the range of a field of `w` bits. -/
def clampS (w : Nat) (x : Int) : Int := max (-(2 ^ (w - 1) : Nat)) (min ((2 ^ (w - 1) : Nat) - 1) x)

/-- Division of signed numbers rounded to nearest, halves away from zero. -/
def divRound (a : Int) (b : Nat) : Int :=
  if b = 0 then 0 else if a ≥ 0 then (2 * a + b) / (2 * b : Nat) else -((2 * (-a) + b) / (2 * b : Nat))

/-- A value at byte offset `off` (16 to 31) of an event's DATA, as part of the DATA number. -/
def dat (off bytes v : Nat) : Nat := v % 2 ^ (8 * bytes) * 2 ^ (8 * (off - 16))

/-- A Boolean as one bit. -/
def bit (b : Bool) : Nat := if b then 1 else 0

/-- Bit `i` of a number. -/
def hasBit (v i : Nat) : Bool := v / 2 ^ i % 2 == 1

/-- The number with bit `i` set. -/
def setBit (v i : Nat) : Nat := if hasBit v i then v else v + 2 ^ i

/-- The number with bit `i` clear. -/
def clrBit (v i : Nat) : Nat := if hasBit v i then v - 2 ^ i else v

end Sys2Proof.Machine
end

