-- ==== Sys2Proof/Machine/Flags.lean ====
section
/-! DEFINITION. The codes the spec gives: operating modes (R550), completion statuses (R358, R432, R468), event types
with their classes (R361, R363, R399, R433, R469, R505, R546, R577, R604) and sources (R360), and slot states (R146). -/

namespace Sys2Proof.Machine

/-! Operating modes, `PWR_MODE.MODE` (R550). -/

def mShip : Nat := 0
def mSentinel : Nat := 1
def mStart : Nat := 2
def mRun : Nat := 3
def mCurtail : Nat := 4
def mIsland : Nat := 5
def mService : Nat := 6
def mHalt : Nat := 7

/-- The mode as `PWR_MODE.MODE` reads it (R550). -/
def State.modeReg (s : State) : Nat := s.rd Reg.PWR_MODE.MODE

/-- The mode by which the units work: in debug run, the mode that the freeze left (R596). -/
def State.mode (s : State) : Nat := if s.modeReg = mService ∧ s.flag Reg.SVC_STATUS.DBG_RUN then s.rd Reg.SVC_STATUS.FROM else s.modeReg

/-- The device regulates and plans: RUN, CURTAIL or ISLAND (R555). -/
def State.running (s : State) : Bool := s.mode == mRun || s.mode == mCurtail || s.mode == mIsland

/-- Dusk is under way (R562). -/
def State.inDusk (s : State) : Bool := s.rd Reg.PWR_MODE.SEQ == 2

/-! Completion statuses (R358). -/

def stOk : Nat := 0x00
def stDoneBefore : Nat := 0x01
def stNotActive : Nat := 0x02
def stCancelledPartial : Nat := 0x03
def stErrCrc : Nat := 0x10
def stErrOpcode : Nat := 0x11
def stErrVersion : Nat := 0x12
def stErrChain : Nat := 0x13
def stErrFenceTmo : Nat := 0x14
def stErrRsvd : Nat := 0x15
def stRejPerm : Nat := 0x20
def stRejState : Nat := 0x21
def stRejParam : Nat := 0x22
def stRejMode : Nat := 0x23
def stRejWet : Nat := 0x24
def stRejOverdis : Nat := 0x25
def stRejPack : Nat := 0x26
def stRejTable : Nat := 0x27
def stRejBusy : Nat := 0x28
def stRejQuota : Nat := 0x29
def stRejToken : Nat := 0x2A
def stRejImage : Nat := 0x2B
def stCalNoisy : Nat := 0x30
def stCalNozero : Nat := 0x31
def stCalRange : Nat := 0x32

/-! The status codes of TWB_XFER (R432). -/

def stTwbCancelled : Nat := 0x50
def stTwbNackAddr : Nat := 0x51
def stTwbNackData : Nat := 0x52
def stTwbArbLost : Nat := 0x53
def stTwbSclTmo : Nat := 0x54
def stTwbSdaStuck : Nat := 0x55
def stTwbPec : Nat := 0x56
def stTwbBusDead : Nat := 0x57
def stTwbCount : Nat := 0x58

/-! The status codes of PD_POLICY (R468). -/

def stPdHeldOther : Nat := 0x60
def stPdNotAttached : Nat := 0x61
def stPdNoSvc : Nat := 0x62
def stPdSvcBusy : Nat := 0x63
def stPdNoResponse : Nat := 0x64
def stPdAborted : Nat := 0x65

/-! Event types (R363). -/


def evPackIn : Nat := 0x01
def evPackOut : Nat := 0x02
def evIdentFail : Nat := 0x03
def evWet : Nat := 0x04
def evFaulted : Nat := 0x05
def evTempZone : Nat := 0x06
def evNtcFault : Nat := 0x07
def evPackSag : Nat := 0x08
def evTaper : Nat := 0x09
def evChargeEnd : Nat := 0x0A
def evIdSilent : Nat := 0x0B
def evTransferEnd : Nat := 0x0C
def evAuditEnd : Nat := 0x0D
def evShortAtStart : Nat := 0x0E
def evRiseAbort : Nat := 0x0F
def evPhaseImbal : Nat := 0x10
def evDrvFault : Nat := 0x11
def evRunaway : Nat := 0x12
def evGaugeWarn : Nat := 0x20
def evCapLearned : Nat := 0x21
def evCapReject : Nat := 0x22
def evGaugeDoubt : Nat := 0x23
def evGaugeDegraded : Nat := 0x24
def evMeas : Nat := 0x30
def evMainsLost : Nat := 0x31
def evMainsLock : Nat := 0x32
def evIcvSubst : Nat := 0x33
def evChanSubst : Nat := 0x34
def evFcvLost : Nat := 0x35
def evQuotaOver : Nat := 0x40
def evQuotaOk : Nat := 0x41
def evResvAtRisk : Nat := 0x42
def evResvMet : Nat := 0x43
def evResvMissed : Nat := 0x44
def evHoldOn : Nat := 0x45
def evHoldOff : Nat := 0x46
def evRootHandover : Nat := 0x47
def evTickSkipped : Nat := 0x48
def evCommitLate : Nat := 0x49
def evCommitStale : Nat := 0x4A
def evHealth : Nat := 0x50
def evSensor : Nat := 0x51
def evSrcChange : Nat := 0x52
def evGuardTrip : Nat := 0x53
def evIslandNoDonor : Nat := 0x54
def evHbFault : Nat := 0x55
def evAccUvlo : Nat := 0x56
def evLoopUnset : Nat := 0x57
def evSyncLost : Nat := 0x58
def evHifRingErr : Nat := 0x59
def evTwbTimeout : Nat := 0x60
def evTwbAlert : Nat := 0x61
def evTwbTargetRx : Nat := 0x62
def evPdAttach : Nat := 0x70
def evPdDetach : Nat := 0x71
def evPdContract : Nat := 0x72
def evPdReset : Nat := 0x73
def evPdCable : Nat := 0x74
def evPdService : Nat := 0x75
def evPdFault : Nat := 0x76
def evTimeAnchor : Nat := 0x80
def evClkFail : Nat := 0x81
def evFreezeEnd : Nat := 0x82
def evWdgMiss : Nat := 0x90
def evFnLost : Nat := 0x91
def evFnLive : Nat := 0x92
def evQuotaChanged : Nat := 0x93
def evRateLimit : Nat := 0x94
def evKeyChanged : Nat := 0x95
def evPairDisagree : Nat := 0xA0
def evTaskMigrated : Nat := 0xA1
def evTaskFault : Nat := 0xA2
def evMcodeStaged : Nat := 0xA3
def evMcodeBed : Nat := 0xA4
def evMcodeDone : Nat := 0xA5
def evMcodeAbort : Nat := 0xA6
def evMcodeFallback : Nat := 0xA7
def evModeChange : Nat := 0xB0
def evModeRefused : Nat := 0xB1
def evThermal : Nat := 0xB2
def evKeepErr : Nat := 0xB3
def evFgTrip : Nat := 0xA8
def evXchkFail : Nat := 0xA9
def evLatent : Nat := 0xAA
def evWdgClk : Nat := 0xAB
def evSysWdgMiss : Nat := 0xAC
def evSspSilent : Nat := 0xAD
def evSafeRecovered : Nat := 0xAE

/-- The PF's function number (R375). -/
def pfFn : Nat := 0x400

/-- SOURCE of an event that concerns the whole device (R360). -/
def srcDevice : Nat := 0xFFFF

/-- SOURCE of a function (R360). -/
def srcFn (fn : Nat) : Nat := 0x0800 + fn

/-- SOURCE of a phase channel (R360). -/
def srcChan (n : Nat) : Nat := 0x0200 + n

/-- The class of an event type (R361). -/
def evClass (t : Nat) : Nat :=
  if t < 0x20 then 0 else if t < 0x30 then 1 else if t < 0x40 then 2 else if t < 0x50 then 3
  else if t < 0x60 then 4 else if t < 0x80 then 5 else if t < 0x90 then 6 else if t < 0xA0 then 7 else 4

/-! Slot states, `SLT_STATUS.STATE` (R145, R195). -/

def slEmpty : Nat := 0
def slDebounce : Nat := 1
def slIdentifying : Nat := 2
def slIdle : Nat := 3
def slCharging : Nat := 4
def slSuspended : Nat := 5
def slDonor : Nat := 6
def slStopping : Nat := 7
def slFaulted : Nat := 8
def slIdentFail : Nat := 9
def slGanged : Nat := 10
def slOff : Nat := 11

/-! Slot fault causes, `SLT_FAULT.CAUSE` (R180). -/

def caOverVoltage : Nat := 0x01
def caOverCurrent : Nat := 0x02
def caOverTemp : Nat := 0x03
def caIdentLoss : Nat := 0x04
def caRunaway : Nat := 0x05
def caReverse : Nat := 0x06
def caRetries : Nat := 0x07
def caDriver : Nat := 0x08
def caTimer : Nat := 0x09
def caTotal : Nat := 0x0A
def caNtc : Nat := 0x0B
def caFrontEnd : Nat := 0x0C

/-- The state of a slot (R145). -/
def State.slSt (s : State) (sl : Nat) : Nat := s.rd Reg.SLT_STATUS.STATE sl

end Sys2Proof.Machine
end

