-- ==== Sys2Proof/Machine/Ops.lean ====
section
/-! DEFINITION. The named operations every meaning shares: what the block puts out to a function's rings
(entries, completions, events, status lines, MSI-X messages) and the reading of a free value. -/

namespace Sys2Proof.Machine

/-- The units stand still: frozen (R593), or in SHIP, where only D0 is powered (R555). -/
def State.stopped (s : State) : Bool := s.flag Reg.SVC_STATUS.FROZEN || s.mode == mShip

/-- The outcome of a command: the state its program ends in. Where the units stand still nothing of it happens. -/
def ends (p : Prog) (s : State) : Host.Outcome State Fault Refusal := .next (if s.stopped then s else p.run s)

/-- The outcome of a happening in D0, at the pins or at the service port, which go on in every mode (R593, R555). -/
def endsAlways (p : Prog) (s : State) : Host.Outcome State Fault Refusal := .next (p.run s)

/-- The outcome of a happening at the pins that a freeze latches until its release (R594); in SHIP only D0 watches (R555). -/
def latching (l : Latched) (p : Prog) : State → Host.Outcome State Fault Refusal := endsAlways (.read fun s =>
  if s.flag Reg.SVC_STATUS.FROZEN then updSvc fun v => { v with latched := v.latched ++ [l] }
  else if s.modeReg = mShip then .skip else p)

/-- An island is out of service (R24, R588). -/
def State.isleGone (s : State) (i : Nat) : Bool := s.clk.isleOut.contains i

/-- The ring engine or the host interface has failed beyond what its partner island carries (R35, R537). -/
def State.hifDead (s : State) : Bool := (s.isleGone 54 && s.isleGone 55) || (s.isleGone 56 && s.isleGone 57)

/-- Something goes out. -/
def emit (o : Out) : Prog := updOut (o :: ·)

/-- A free value is taken: `k` gets it, and the model's counter advances. -/
def withFree (k : Nat → Prog) : Prog :=
  .read fun s => .seq (updFreeCtr (· + 1)) (k (Config.freeValue s.freeCtr))

/-- The key of a function's ring. -/
def ringKey (fn r : Nat) : Nat := Nat.pair fn r

/-- Rings of a function that are enabled with the given TYPE (R335, R374). -/
def State.ringIs (s : State) (ty fn r : Nat) : Bool := s.flag Reg.RING_CTRL.EN fn r && s.rd Reg.RING_CTRL.TYPE fn r == ty

/-- The base address of a ring (R336). -/
def State.ringBase (s : State) (fn r : Nat) : Nat :=
  s.rd Reg.RING_BASE_HI.ADDR_HI fn r * 2 ^ 32 + s.rd Reg.RING_BASE_LO.ADDR_LO fn r * 64

/-- The number of entries of a ring (R336). -/
def State.ringSize (s : State) (fn r : Nat) : Nat := 2 ^ s.rd Reg.RING_CTRL.LOG2 fn r

/-- The PHASE bit of entry `i` (R337). -/
def State.phaseOf (s : State) (fn r i : Nat) : Nat := (i / 2 ^ s.rd Reg.RING_CTRL.LOG2 fn r + 1) % 2

/-- The entries a device-written ring holds: producer less consumer, mod 2³² (R336). -/
def State.ringHeld (s : State) (fn r : Nat) : Nat :=
  (s.rd Reg.RING_DEV_IDX.DEV_IDX fn r + 0x100000000 - s.rd Reg.RING_HOST_IDX.HOST_IDX fn r) % 0x100000000

/-- The doorbell page address of a function (R373). -/
def State.dbPage (s : State) (fn : Nat) : Nat :=
  s.rd Reg.FN_DB_HI.ADDR_HI fn * 2 ^ 32 + s.rd Reg.FN_DB_LO.ADDR_LO fn * 2 ^ 12

/-- An MSI-X message of a vector: sent, or marked pending where the vector is masked (R343, PCI Express MSI-X rules). -/
def msixRaise (fn vec : Nat) : Prog := .read fun s =>
  if s.flag Reg.MSIX_CTRL.MASK fn vec then setR Reg.MSIX_PBA.PEND (setBit (s.rd Reg.MSIX_PBA.PEND fn) vec) fn
  else emit (.msix fn vec)

/-- A ring's message goes out and its moderation starts afresh (R343). -/
def ringMessage (fn r : Nat) : Prog := .read fun s =>
  .seq (msixRaise fn (s.rd Reg.RING_CTRL.VEC fn r)) (updRings (ringKey fn r) fun x => { x with modCount := 0 })

/-- Moderation after an entry is written (R343): a message at once where it is due, else the entry is counted. -/
def ringModerate (fn r : Nat) (now : Bool) : Prog := .read fun s =>
  let x := s.ringr (ringKey fn r)
  if now || decide (x.modCount + 1 ≥ s.rd Reg.RING_MOD.MOD_CNT fn r) then ringMessage fn r
  else updRings (ringKey fn r) fun x =>
    { x with modCount := x.modCount + 1, modSince := if x.modCount = 0 then s.time else x.modSince }

/-- The device writes the next entry of a ring: the entry, its producer word in doorbell line 1, then the
message where due (R342, R343). -/
def ringPost (fn r : Nat) (entry : Nat → List Nat) (now : Bool) : Prog := .read fun s =>
  let i := s.rd Reg.RING_DEV_IDX.DEV_IDX fn r
  let bs := entry (s.phaseOf fn r i)
  let i' := (i + 1) % 0x100000000
  seqs [emit (.hostWrite fn (s.ringBase fn r + i % s.ringSize fn r * bs.length) bs),
        setR Reg.RING_DEV_IDX.DEV_IDX i' fn r,
        emit (.hostWrite fn (s.dbPage fn + 64 + 4 * r) (leBytes 4 i')),
        ringModerate fn r now]

/-- An event: its TYPE, its SOURCE and its DATA as one little-endian number of 16 bytes (R359). -/
structure Ev where
  typ : Nat
  src : Nat
  data : Nat := 0
  /-- The TOKEN of a planner event about another tick than the last committed one (R235); none for that one. -/
  token : Option Nat := none
  /-- A MEAS event's 24-byte record in place of bytes 8 to 31 (R359). -/
  record : Option (List Nat) := none
  deriving DecidableEq, Repr

/-- The 32 bytes of an event entry (R359). -/
def evtBytes (e : Ev) (phase loss seq stamp token : Nat) : List Nat :=
  let h := [e.typ % 256, phase + 2 * loss] ++ leBytes 2 e.src ++ leBytes 2 seq
  h ++ leBytes 2 (crc16 h) ++
    match e.record with
    | some r => r
    | none => leBytes 4 stamp ++ leBytes 4 token ++ leBytes 16 e.data

/-- The lowest enabled EVT ring of a function that accepts a class (R361). -/
def State.evtRing (s : State) (fn cls : Nat) : Option Nat :=
  if s.hifDead then none else (List.range 16).find? fun r => s.ringIs 2 fn r && hasBit (s.rd Reg.RING_CTRL.CLASS_MASK fn r) cls

/-- The tokens taken from a tenant's bucket, in millionths, brought up to the present (R386). -/
def State.bucketNow (s : State) (fn : Nat) : Nat :=
  let x := s.fnr fn
  x.bucketUsed - (s.time - x.bucketAt) * (10 * s.rd Reg.TEN_QUOTA_B.EVT_RATE fn)

/-- The event rate limit drops a class 2 event of this function now: the bucket is empty (R386). -/
def State.rateEmpty (s : State) (fn cls : Nat) : Bool :=
  cls == 2 && fn != pfFn && decide (s.bucketNow fn + 1000000 > 10 * s.rd Reg.TEN_QUOTA_B.EVT_RATE fn * 1000000)

/-- One token is taken from a tenant's bucket (R386). -/
def takeToken (fn cls : Nat) : Prog := .read fun s =>
  if cls = 2 ∧ fn ≠ pfFn then updFns fn fun x => { x with bucketUsed := s.bucketNow fn + 1000000, bucketAt := s.time }
  else .skip

/-- CPL_STALL of a function (R345): a CMD ring of it waits for completion entries. -/
def State.cplStall (s : State) (fn : Nat) : Bool := (List.range 16).any fun r => s.ringIs 0 fn r && (s.ringr (ringKey fn r)).stalled

/-- The 64 bytes of a function's status line (R345, R391). -/
def State.statusLine (s : State) (fn : Nat) : List Nat :=
  let x := s.fnr fn
  leBytes 4 x.question ++ leBytes 2 (s.rd Reg.FN_WDG.QSEQ fn) ++ [s.rd Reg.FN_WDG.STATE fn, s.rd Reg.FN_WDG.MISSES fn] ++
  leBytes 8 s.time ++ leBytes 4 (s.rd Reg.ALM_TICK.TICK) ++
  [s.rd Reg.FN_STATUS.LIVE fn + 2 * s.rd Reg.FN_STATUS.HELD fn + 4 * bit (s.cplStall fn), s.modeReg] ++
  leBytes 2 x.evtDrop ++ leBytes 40 0

/-- The status line of a function is written to line 2 of its doorbell page, where the page is in use (R344, R345). -/
def writeStatus (fn : Nat) : Prog := .read fun s =>
  if s.flag Reg.FN_DB_LO.EN fn && !(s.fnr fn).d3hot && !s.hifDead then
    .seq (emit (.hostWrite fn (s.dbPage fn + 128) (s.statusLine fn))) (updFns fn fun x => { x with statusAt := s.time })
  else .skip

/-- An event reaches one function: the lowest matching EVT ring, or it is dropped and counted, which
the status line shows (R345, R361, R386).
A function in D3hot receives no write (R368), so its events are dropped as at a full ring. -/
def deliver (e : Ev) (fn : Nat) : Prog := .read fun s =>
  let cls := evClass e.typ
  match s.evtRing fn cls with
  | none => if (s.fnr fn).evtDrop = 0xFFFF then .skip
    else .seq (updFns fn fun x => { x with evtDrop := x.evtDrop + 1 }) (writeStatus fn)
  | some r =>
    let x := s.ringr (ringKey fn r)
    let count := updRings (ringKey fn r) fun x => { x with seq := (x.seq + 1) % 65536 }
    let lost := updRings (ringKey fn r) fun x => { x with loss := true }
    if s.rateEmpty fn cls then
      seqs [count, lost, incSat Reg.TEN_CNT.RATE_DROP fn, updFns fn fun x => { x with rateDrops := x.rateDrops + 1 }]
    else if s.ringHeld fn r ≥ s.ringSize fn r ∨ (s.fnr fn).d3hot then
      seqs [takeToken fn cls, count, lost, incSat Reg.RING_ERRST.DROPS fn r]
    else
      seqs [takeToken fn cls,
        ringPost fn r (fun ph => evtBytes e ph (bit x.loss) x.seq (s.time % 2 ^ 32) (e.token.getD (s.rd Reg.ALM_TICK.TICK))) false,
        updRings (ringKey fn r) fun x => { x with seq := (x.seq + 1) % 65536, loss := false }]

/-- An event is raised to a list of functions (R361). -/
def raise (e : Ev) (fns : List Nat) : Prog := each fns (deliver e)

/-- An event is raised to the PF. -/
def raisePf (typ src data : Nat) : Prog := raise { typ, src, data } [pfFn]

/-- The functions that receive a slot's events: the owner, or the PF for an unclaimed slot, and the PF as well for
FAULTED, IDENT_FAIL and WET (R156). -/
def State.slotFns (s : State) (typ sl : Nat) : List Nat :=
  if s.flag Reg.SLT_OWNER.CLAIMED sl then
    let o := s.rd Reg.SLT_OWNER.OWNER sl
    if o ≠ pfFn ∧ (typ = evFaulted ∨ typ = evIdentFail ∨ typ = evWet) then [o, pfFn] else [o]
  else [pfFn]

/-- An event of a slot is raised (R156). -/
def raiseSlot (typ sl data : Nat) : Prog := .read fun s => raise { typ, src := sl, data } (s.slotFns typ sl)

/-- The 16 bytes of a completion entry (R357). -/
def cplBytes (c : Ctl) (opcode phase status result detail : Nat) : List Nat :=
  let b := [opcode % 256, phase + 2 * bit c.chained, status % 256, c.ring % 16] ++
    leBytes 4 (if status = stErrCrc then 0 else c.tag) ++ leBytes 4 (if status = stOk then result else 0) ++ leBytes 2 detail
  b ++ leBytes 2 (crc16 b)

/-- A descriptor completes: exactly one completion, except under QUIET (R348, R357). The reserved entry of its CPL ring is
used or given back (R340). A function in D3hot receives the entry once it returns to D0 (R368). -/
def complete (c : Ctl) (opcode status : Nat) (result : Nat := 0) (detail : Nat := 0) : Prog := .read fun s =>
  let r := s.rd Reg.RING_CTRL.CPL_RING c.fn c.ring
  let free := updRings (ringKey c.fn r) fun x => { x with reserved := x.reserved - 1 }
  let active := updFns c.fn fun x => { x with activeUntil := s.time + 10000 }
  let d := if status = stErrCrc then c.idx % 65536 else detail
  if c.quiet ∧ (status = stOk ∨ status = stDoneBefore) then free
  else if ¬ s.ringIs 1 c.fn r ∨ s.hifDead then free
  else if (s.fnr c.fn).d3hot then
    .seq free (updFns c.fn fun x => { x with waiting := x.waiting ++ [(r, c.irq, cplBytes c opcode 0 status result d)] })
  else seqs [free, ringPost c.fn r (fun ph => cplBytes c opcode ph status result d) c.irq, active]

/-- A descriptor runs on after its acceptance (R355). -/
def runOn (c : Ctl) (opcode : Nat) : Prog := updHost fun h => { h with runs := h.runs ++ [{ num := h.count, ctl := c, opcode }] }

/-- The token of a descriptor executed now: the first tick whose commit reflects it (R205, R206, R351). -/
def State.token (s : State) : Nat := (s.time / 10000 + 2) % 2 ^ 32

/-- A descriptor that executed OK and changed state enters its function's tag history of 64 (R352). -/
def histAdd (c : Ctl) (opcode : Nat) : Prog :=
  updFns c.fn fun x => { x with history := ((opcode, c.target, c.tag) :: x.history).take 64 }

/-- The last tick that reflects the descriptors of a ring is that of the present one (R356). -/
def tokenNote (c : Ctl) : Prog := .read fun s => updHost fun h =>
  { h with tokens := ((c.fn, c.ring), s.token) :: h.tokens.filter fun t => t.1 != (c.fn, c.ring) }

/-- Opcodes that run on and enter the tag history as they end OK: CAL_ZERO, TWB_XFER, PD_POLICY, MICROCODE_STAGE and ABORT. Those
with a keep record enter it at its commit; MEAS_URGENT changes no state. -/
def histLate (opcode : Nat) : Bool := opcode == 0x32 || opcode == 0x40 || opcode == 0x41 || opcode == 0x62 || opcode == 0x63

/-- A descriptor that ran on completes (R355); nothing is written where a reset has discarded it (R369). -/
def finishRun (c : Ctl) (status : Nat) (result : Nat := 0) (detail : Nat := 0) : Prog := .read fun s =>
  match s.host.runs.find? (fun d => d.ctl == c) with
  | some d => seqs [updHost fun h => { h with runs := h.runs.erase d },
      if status = stOk ∧ histLate d.opcode then histAdd c d.opcode else .skip,
      tokenNote c, complete c d.opcode status result detail]
  | none => .skip

/-- `GLB_HEALTH` and `GLB_HEALTH_FE` as the HEALTH event carries them (R37, R38, R363). -/
def State.healthWord (s : State) : Nat :=
  s.rd Reg.GLB_HEALTH.BED_LOST * 2 ^ 16 + s.rd Reg.GLB_HEALTH.SPARE_PAIRS * 2 ^ 9 + s.rd Reg.GLB_HEALTH.ROOT_ALT * 2 ^ 8 +
  s.rd Reg.GLB_HEALTH.LANE_SPARED * 2 ^ 4 + s.rd Reg.GLB_HEALTH.XTAL_LOST * 8 + s.rd Reg.GLB_HEALTH.PCIE_NARROW * 4 +
  s.rd Reg.GLB_HEALTH.COVERAGE_LOST * 2

/-- `GLB_HEALTH_FE` (R38). -/
def State.healthFeWord (s : State) : Nat :=
  s.rd Reg.GLB_HEALTH_FE.ICV_SUBST * 2 ^ 12 + s.rd Reg.GLB_HEALTH_FE.FCV_LOST * 2 ^ 8 + s.rd Reg.GLB_HEALTH_FE.FEED_LOST

/-- HEALTH is raised to the PF with both health registers (R37, R363). -/
def raiseHealth : Prog := .read fun s =>
  raisePf evHealth srcDevice (dat 16 4 s.healthWord + dat 20 4 s.healthFeWord)

/-- A one-bit health flag is set and HEALTH raised, where it was not set before (R37). -/
def healthSet (f : Fld) (v : State → Nat) : Prog := .read fun s =>
  if s.rd f = v s then .skip else .seq (setR f (v s)) raiseHealth

/-! Keep records (R571, R573). -/

/-- Bytes 0 to 55 of a record (R571). -/
def keepBytes (typ ver id gen : Nat) (data : List Nat) : List Nat := [typ, ver] ++ leBytes 2 id ++ leBytes 4 gen ++ data

/-- MARKER of a generation (R571). -/
def keepMarker (gen : Nat) : Nat := Nat.xor gen 0xA5A5A5A5

/-- A location is valid (R573). -/
def KeepLoc.isValid (l : KeepLoc) : Bool :=
  l.typ != 0 && !l.bad && l.ver == 1 && l.check == crc32 (keepBytes l.typ l.ver l.id l.gen l.data) && l.marker == keepMarker l.gen

end Sys2Proof.Machine
end

