-- ==== Sys2Proof/Machine/Access.lean ====
section
/-! DEFINITION. Reach of the register spaces: the addresses of the fields, the power domain of a register, and what
an ignored write to PF BAR0 records (R607 to R619). -/

namespace Sys2Proof.Machine

/-- The byte address of a field's register in PF BAR0 (R607). -/
def Fld.addr (f : Fld) (i j k : Nat) : Nat := f.base + (if f.space = .fn then 0 else i * f.s1) + j * f.s2 + k * f.s3

/-- The power domain of a PF BAR0 address (R607). -/
def domainAt (a : Nat) : Nat :=
  if a < 0x3000 then 0 else if a < 0x5000 then 19 else if a < 0x6000 then 21 else if a < 0x8000 then 0
  else if a < 0x10000 then 18 else if a < 0x30000 then 20 else if a < 0x40000 then 17
  else if a < 0x44000 then 22 + (a - 0x40000) / 0x1000
  else if a < 0x45000 then 22 + (a - 0x44000) / 0x400
  else if a < 0x50000 then 19
  else if a < 0x60000 then 26 + (a - 0x50000) / 0x800
  else if a < 0x64000 then 22 + (a - 0x60000) / 0x1000
  else if a < 0x70000 then 22 + (a - 0x64000) / 0x100
  else if a < 0x7F000 then 22 + (a - 0x70000) / 0x800
  else if a < 0x80000 then 22
  else if a < 0xA0000 then 17 else 18

/-- The field of a register cell. -/
def fldOf (key : Nat) : Option Fld := fieldTable[(Nat.unpair key).1]?

/-- A register takes writes (R617, R555): its domain is powered, and runs; in HALT D17 carries its register routers alone, and
D18 PF BAR0. -/
def State.blockOn (s : State) (a : Nat) : Bool :=
  let d := domainAt a
  hasBit (s.rd Reg.PWR_DOM.ON) d && !(s.modeReg == mHalt && (d == 17 || d == 18))

/-- PF BAR0 answers (R555): the host interface is powered, in part in HALT, and one of its islands runs (R588); the device does not
stand still; the PF is not in D3hot (R368). -/
def State.barOn (s : State) : Bool :=
  !s.stopped && hasBit (s.rd Reg.PWR_DOM.ON) 18 && !(s.fnr pfFn).d3hot && !(s.isleGone 56 && s.isleGone 57)

/-- An ignored write to PF BAR0 is recorded (R618, R619). -/
def accErr (a cause : Nat) : Prog := .read fun s => seqs [
  incSat Reg.GLB_ACC_ERR.COUNT,
  if s.flag Reg.GLB_ACC_ERR.VALID then .skip
  else seqs [setR Reg.GLB_ACC_ERR.VALID 1, setR Reg.GLB_ACC_ERR.CAUSE cause, setR Reg.GLB_ACC_ERR.ADDR a]]

/-- The outcome of a write of the PF to the register of a field: it is recorded and has no effect where the register's domain is
off (CAUSE 3), or for the CAUSE that `bad` names; it is taken otherwise. -/
def pfWrites (f : Fld) (i j : Nat) (bad : State → Nat) (p : Prog) : State → Host.Outcome State Fault Refusal :=
  endsAlways (when State.barOn (.read fun s =>
    let a := f.addr i j 0
    if !s.blockOn a then accErr a 3 else if bad s = 0 then p else accErr a (bad s)))

/-- A value outside a field's range is ignored with CAUSE 5 (R618). -/
def Fld.rangeCause (f : Fld) (v : Nat) : Nat :=
  if v % 2 ^ f.w != v || decide (v < f.lowest) || (match f.highest with | some h => decide (h < v) | none => false) then 5 else 0

end Sys2Proof.Machine
end

