-- ==== Sys2Proof/Machine/PhaseOps.lean ====
section
/-! DEFINITION. The arithmetic of the phase channels: outputs and leads (R80), the loop equation (R85), edge
placement (R93, R94, R96), the soft-start and soft-stop tables (R112) and the clamps of R84 and R119. -/

namespace Sys2Proof.Machine

/-- Gang `g` is in force (R104). -/
def State.ganged (s : State) (g : Nat) : Bool := hasBit (s.rd Reg.PHC_GANG.GANG_EN) g

/-- The lead of the output that channel `n` belongs to (R80). -/
def State.leadOf (s : State) (n : Nat) : Nat :=
  if n < 128 then (if s.ganged (n / 4) then n / 4 * 4 else n / 2 * 2) else n

/-- The channels of the output led by `n` (R80). -/
def State.outputOf (s : State) (n : Nat) : List Nat :=
  if n < 128 then (if s.ganged (n / 4) then [n / 4 * 4, n / 4 * 4 + 1, n / 4 * 4 + 2, n / 4 * 4 + 3] else [n / 2 * 2, n / 2 * 2 + 1])
  else [n]

/-- Channel `n` is a lead (R80). -/
def State.isLead (s : State) (n : Nat) : Bool := s.leadOf n == n

/-- Physical phases of an output (R80). -/
def State.nPhys (s : State) (lead : Nat) : Nat := (s.outputOf lead).length

/-- The lead of slot `sl`'s output (R80). -/
def State.slotLead (s : State) (sl : Nat) : Nat := s.leadOf (2 * sl)

/-- The slots whose DISC an output drives: both of a gang in force (R104). -/
def State.slotsOf (s : State) (lead : Nat) : List Nat :=
  if lead < 128 then (if s.ganged (lead / 4) then [lead / 4 * 2, lead / 4 * 2 + 1] else [lead / 2]) else []

/-- A slot takes part as the odd slot of a gang in force (R157). -/
def State.oddGanged (s : State) (sl : Nat) : Bool := decide (sl % 2 = 1) && s.ganged (sl / 2)

/-- The channel switches: soft start, regulating or soft stop (R131 STAGE). -/
def State.switching (s : State) (lead : Nat) : Bool :=
  let g := s.rd Reg.PHC_STATUS.STAGE lead
  g == 2 || g == 3 || g == 4

/-- Every channel of the output is parked (R98). -/
def State.outputParked (s : State) (lead : Nat) : Bool := (s.outputOf lead).all fun c => s.flag Reg.PHC_STATUS.PARKED c

/-- The pending coefficients and shifts of a channel, in the order of `ChanRec.inUse` (R87, R142). -/
def State.pendingCoefs (s : State) (n : Nat) : List Nat :=
  [s.rd Reg.PHC_CL_B0.COEF n, s.rd Reg.PHC_CL_B1.COEF n, s.rd Reg.PHC_CL_B2.COEF n, s.rd Reg.PHC_CL_B3.COEF n,
   s.rd Reg.PHC_CL_A1.COEF n, s.rd Reg.PHC_CL_A2.COEF n, s.rd Reg.PHC_CL_A3.COEF n,
   s.rd Reg.PHC_VL_B0.COEF n, s.rd Reg.PHC_VL_B1.COEF n, s.rd Reg.PHC_VL_B2.COEF n, s.rd Reg.PHC_VL_B3.COEF n,
   s.rd Reg.PHC_VL_A1.COEF n, s.rd Reg.PHC_VL_A2.COEF n, s.rd Reg.PHC_VL_A3.COEF n,
   s.rd Reg.PHC_BL_B0.COEF n, s.rd Reg.PHC_BL_B1.COEF n, s.rd Reg.PHC_BL_B2.COEF n, s.rd Reg.PHC_BL_B3.COEF n,
   s.rd Reg.PHC_BL_A1.COEF n, s.rd Reg.PHC_BL_A2.COEF n, s.rd Reg.PHC_BL_A3.COEF n,
   s.rd Reg.PHC_LOOP.CL_SHIFT n, s.rd Reg.PHC_LOOP.VL_SHIFT n, s.rd Reg.PHC_LOOP.BL_SHIFT n]

/-- The reset set in use (R129): coefficients by their register offset, shifts zero. -/
def resetCoefs (n : Nat) : List Nat :=
  [0x60, 0x64, 0x68, 0x6C, 0x70, 0x74, 0x78, 0x80, 0x84, 0x88, 0x8C, 0x90, 0x94, 0x98,
   0xA0, 0xA4, 0xA8, 0xAC, 0xB0, 0xB4, 0xB8].map (coefReset n) ++ [0, 0, 0]

/-- The coefficients and shifts in use (R87). -/
def State.coefs (s : State) (n : Nat) : List Nat :=
  let c := (s.chan n).inUse
  if c = [] then resetCoefs n else c

/-- One of the three loops of a lead (R83, R84). -/
inductive Loop where
  | current | voltage | bus
  deriving DecidableEq, Repr

/-- Where a loop's coefficients start in the set. -/
def Loop.base : Loop → Nat
  | .current => 0
  | .voltage => 7
  | .bus => 14

/-- The loop's coefficient `i` as a signed Q2.16 number (R86). -/
def coefOf (cs : List Nat) (l : Loop) (i : Nat) : Int := ofField 18 (cs.getD (l.base + i) 0)

/-- The loop's shift k (R85). -/
def shiftOf (cs : List Nat) (l : Loop) : Nat := cs.getD (21 + l.base / 7) 0

/-- Entry `i` of a history; zero where it is not yet filled. -/
def hist (h : List Int) (i : Nat) : Int := h.getD i 0

/-- A number clamped to [lo, hi]. -/
def sat (lo hi x : Int) : Int := if x < lo then lo else if hi < x then hi else x

/-- One update of a loop (R85): the exact sum, rounded to nearest with halves away from zero, and clamped. -/
def loopEq (cs : List Nat) (l : Loop) (e : Int) (es us : List Int) (lo hi : Int) : Int :=
  let f := (2 ^ shiftOf cs l : Nat) * (coefOf cs l 0 * e + coefOf cs l 1 * hist es 0 + coefOf cs l 2 * hist es 1 + coefOf cs l 3 * hist es 2)
  let b := coefOf cs l 4 * hist us 0 + coefOf cs l 5 * hist us 1 + coefOf cs l 6 * hist us 2
  sat lo hi (divRound (f + b) 65536)

/-- The error clamped before use (R85). -/
def clampE (e : Int) : Int := sat (-131071) 131071 e

/-- A history with its newest entry in front, three entries long. -/
def pushHist (x : Int) (h : List Int) : List Int := (x :: h).take 3

/-- The loop's b0 to b3 in use are all zero (R88). -/
def loopUnset (cs : List Nat) (l : Loop) : Bool := (List.range 4).all fun i => coefOf cs l i == 0

/-- A signed current scaled by a fraction, truncated toward zero to whole mA (R84). -/
def scaleMa (i : Int) (num den : Nat) : Int := Int.tdiv (i * num) den

/-- The signed committed current reference of a lead, mA (R141). -/
def State.refI (s : State) (lead : Nat) : Int := ofField 18 (s.rd Reg.PHC_REF_I.REF_I lead)

/-- The present direction (R117, R131): 0 FORWARD, 1 REV_I, 2 REV_BUS. -/
def State.dir (s : State) (lead : Nat) : Nat := s.rd Reg.PHC_STATUS.DIR lead

/-- Active phases of a lead (R102). -/
def State.nAct (s : State) (lead : Nat) : Nat := s.rd Reg.PHC_STATUS.ACTIVE_PH lead

/-- Channel `lead` draws from the bus and takes the bus guard's SCALE: a FORWARD lead other than the accessory boost, which
is fed from the house rail (R48, R84). PHC138 to PHC143, which R48's list of bus-drawing channels does not name, take it as R84 says of
every FORWARD lead (DESIGN CHOICE). -/
def State.scaled (s : State) (lead : Nat) : Bool := s.dir lead == 0 && lead != 137

/-- The identified discharge limit of a lead's pack, mA (R119, R198). -/
def State.idisOf (s : State) (lead : Nat) : Nat := 100 * s.rd Reg.SLT_PACK_A.IDIS_MAX (lead / 2)

/-- The limit on |Iref_eff| of an output (R104, R119): a gang 40,000 mA; reverse 10,000 mA per active phase and the pack's
identified discharge limit, where the output has a pack. -/
def State.refLimit (s : State) (lead : Nat) : Nat :=
  if s.dir lead = 0 then (if lead < 128 && s.ganged (lead / 4) then 40000 else 131071)
  else min (10000 * max 1 (s.nAct lead)) (if lead < 128 then s.idisOf lead else 131071)

/-- Iref_eff: the committed reference scaled by soft_level and, in FORWARD, by SCALE (R84), within the limits of R104, R119. A reference of
the other direction, committed while the lead still switches in the old one, counts as zero until the park (R118, DEDUCED). -/
def State.irefEff (s : State) (lead : Nat) : Int :=
  let c := s.chan lead
  let r := if s.dir lead = 0 then max 0 (s.refI lead) else min 0 (s.refI lead)
  let a := scaleMa r c.softNum c.softDen
  let b := if s.scaled lead then scaleMa a (s.rd Reg.SRC_GUARD.SCALE) 1024 else a
  sat (-(s.refLimit lead : Int)) (s.refLimit lead) b

/-- The clamps lo and hi of the voltage and bus loops (R84). -/
def State.clamps (s : State) (lead : Nat) : Int × Int :=
  let c := s.chan lead
  match s.dir lead with
  | 0 => (0, s.irefEff lead)
  | 1 => (s.irefEff lead, 0)
  | _ => (scaleMa (-(min c.ilim (s.refLimit lead) : Nat)) c.softNum c.softDen, 0)

/-- The edges of a frame for a duty (R93): on-time, PWMH rise, PWMH fall, PWML fall, PWML rise, in ticks of 62.5 ps; none
where the on-time is below MIN_ON or zero and both outputs are held low (R94). -/
def edgesOf (duty per dtR dtF minOn : Nat) : Option (Int × Int × Int × Int × Int) :=
  let ton := duty * per / 65536
  if ton = 0 ∨ ton < minOn * 16 then none
  else
    let re : Int := (per / 2 : Nat) - (ton / 2 : Nat)
    some (ton, re, re + ton, re - dtR, re + ton + dtF)

/-- The start of the frame of the output's `j`-th active phase after the lead's (R96). -/
def phaseOffset (per n j : Nat) : Nat := j * per / n

/-- The start of a lead's frame after the epoch (R96). -/
def leadOffset (phase per : Nat) : Nat := phase * per / 4096

/-- The start of the frames of the `j`-th of `n` active phases of an output after the epoch (R96). -/
def State.offsetOf (s : State) (lead n j : Nat) : Nat :=
  let per := s.rd Reg.PHC_PER_EFF.PER_EFF lead
  (leadOffset (s.rd Reg.PHC_TIMING.PHASE lead) per + phaseOffset per n j) % per

/-- A frame of channel `ch` starts within the microsecond from `t` on (R96): frames of PER_EFF ticks, counted from the last SYNC_IN edge
where the lead is locked, and from device time 0 in free run (DESIGN CHOICE: the spec does not tie the PLL's frame count to device time). -/
def State.frameStarts (s : State) (ch t : Nat) : Bool :=
  let lead := s.leadOf ch
  let per := s.rd Reg.PHC_PER_EFF.PER_EFF lead
  let epoch := if s.flag Reg.PHC_STATUS.SYNC_LOCK lead then 16000 * (s.chan lead).edgeAt else 0
  let past := (16000 * t + per - (epoch + (s.chan ch).frameOff) % per) % per
  decide (past = 0 ∨ per < past + 16000)

/-- The segments (DUR in ms, LVL in %) of a soft table from its two registers (R138). -/
def softSegs (a b : Nat) : List (Nat × Nat) :=
  [(a / 256 % 256, a % 256), (a / 0x1000000 % 256, a / 0x10000 % 256), (b / 256 % 256, b % 256), (b / 0x1000000 % 256, b / 0x10000 % 256)]

/-- The segments in use: up to the first with DUR 0 (R112). -/
def softUsed (l : List (Nat × Nat)) : List (Nat × Nat) := l.takeWhile fun e => e.1 != 0

/-- The soft-start table as played: levels never fall and stop at 100, with 10 ms to 100 % added where it ends below (R112). -/
def startTable (prev : Nat) : List (Nat × Nat) → List (Nat × Nat)
  | [] => if prev < 100 then [(10, 100)] else []
  | (d, l) :: t => (d, min 100 (max prev l)) :: startTable (min 100 (max prev l)) t

/-- The soft-stop table as played: levels never rise, with 10 ms to 0 % added where it ends above (R112). -/
def stopTable (prev : Nat) : List (Nat × Nat) → List (Nat × Nat)
  | [] => if 0 < prev then [(10, 0)] else []
  | (d, l) :: t => (d, min prev l) :: stopTable (min prev l) t

/-- The level of a table after `k` updates of 100 µs, starting from the fraction `n/d`: linear in each segment (R112).
The third part is true once the table has ended. `low` cuts each segment's end level to the starting level. -/
def softAt (n d : Nat) : List (Nat × Nat) → Nat → Nat × Nat × Bool
  | [], _ => (n, d, true)
  | (dur, lvl) :: t, k =>
    if k < 10 * dur then
      -- n/d + (lvl/100 - n/d) * k/(10 dur)
      let den := d * 100 * (10 * dur)
      (n * 100 * (10 * dur - k) + lvl * d * k, den, false)
    else softAt lvl 100 t (k - 10 * dur)

/-- The stop level of a segment: the lower of its LVL and the starting level `fn/fd` (R112), as a fraction. -/
def softStopAt (fn fd : Nat) (n d : Nat) : List (Nat × Nat) → Nat → Nat × Nat × Bool
  | [], _ => (n, d, true)
  | (dur, lvl) :: t, k =>
    let (ln, ld) := if lvl * fd ≤ fn * 100 then (lvl, 100) else (fn, fd)
    if k < 10 * dur then (n * ld * (10 * dur - k) + ln * d * k, d * ld * (10 * dur), false)
    else softStopAt fn fd ln ld t (k - 10 * dur)

/-- A pulse that ends at tick `at_` of its frame, where it is not over (R114): PWMH falls there, and PWML rises its dead time later. -/
def edgesCut (e : Int × Int × Int × Int × Int) (at_ : Int) : Int × Int × Int × Int × Int :=
  let (ton, re, fe, lf, lr) := e
  let f := max re (min fe at_)
  (ton, re, f, lf, lr + f - fe)

/-- The phases that a current asks for by the add thresholds: grown from `n` while |i| > n × ADD_I (R102). -/
def addTo (addI i : Nat) (top : Nat) : Nat → Nat → Nat
  | 0, n => n
  | fuel + 1, n => if n < top ∧ i > n * addI then addTo addI i top fuel (n + 1) else n

/-- The number of active phases a starting lead takes (R102, R111 step 3). -/
def State.phasesFor (s : State) (lead : Nat) (i : Nat) : Nat :=
  if s.flag Reg.PHC_SHED.SHED_EN lead then addTo (100 * s.rd Reg.PHC_SHED.ADD_I lead) i (s.nPhys lead) 4 1 else s.nPhys lead

end Sys2Proof.Machine
end

