-- ==== Sys2Proof/Machine/GaugeOps.lean ====
section
/-! DEFINITION. The shared operations of the gauges (chapter 07): the voltage curve (R304), rescaling (R305 to R309), the
gauge record (R313), snapshots (R316, R317), anchors (R310), learning (R319) and warnings (R320). -/

namespace Sys2Proof.Machine

/-- The open-circuit voltage points of a chemistry, in steps of 0.1 of the fraction (R304). -/
def ocvPoints (chem : Nat) : List Nat :=
  if chem = 0 then [3000, 3450, 3580, 3650, 3700, 3760, 3840, 3920, 4000, 4090, 4200]
  else [2500, 3150, 3220, 3260, 3280, 3290, 3300, 3310, 3330, 3350, 3600]

/-- F(v) over the remaining points, from fraction `k` tenths; v = num/den mV per cell; in 1/10,000, to nearest (R304). -/
def fracIn (num : Int) (den : Nat) : Nat → List Nat → Nat
  | k, a :: b :: t =>
    if num < (b * den : Nat) then
      if num < (a * den : Nat) then 1000 * k
      else 1000 * k + (divRound (1000 * (num - (a * den : Nat))) ((b - a) * den)).toNat
    else fracIn num den (k + 1) (b :: t)
  | _, _ => 10000

/-- F(v): the fraction at a per-cell voltage num/den mV, in 1/10,000 (R304). -/
def fracAt (chem : Nat) (num : Int) (den : Nat) : Nat := fracIn num den 0 (ocvPoints chem)

/-- The slot's f_cut and f_top, in 1/10,000 (R305). -/
def State.fCut (s : State) (sl : Nat) : Nat := fracAt (s.rd Reg.SLT_PACK_A.CHEM sl) (s.rd Reg.GAU_SOC.V_CUT_CELL sl) 1
def State.fTop (s : State) (sl : Nat) : Nat := fracAt (s.rd Reg.SLT_PACK_A.CHEM sl) (s.rd Reg.SLT_PACK_B.VCHG_CELL sl) 1

/-- The reported charge, signed (R306). -/
def State.qRem (s : State) (sl : Nat) : Int := ofField 32 (s.rd Reg.GAU_QREM.Q_REM sl)

/-- The 1 s mean current, mA, signed (R312). -/
def State.iAvg (s : State) (sl : Nat) : Int := ofField 18 (s.rd Reg.GAU_CURR.I_AVG sl)

/-- The open-circuit voltage per cell of R312, F(v), in 1/10,000. -/
def State.fNow (s : State) (sl : Nat) : Nat :=
  let cells := s.rd Reg.SLT_PACK_A.CELLS sl
  fracAt (s.rd Reg.SLT_PACK_A.CHEM sl)
    (1000 * (s.rd Reg.SLT_VPACK.VPACK sl : Int) - s.iAvg sl * cells * 5) (1000 * cells)

/-- The charge above the cut-off that the voltage gives for a full charge `qf` (R312, R315). -/
def State.qFromV (s : State) (sl qf : Nat) : Int :=
  divRound ((qf : Int) * ((s.fNow sl : Int) - s.fCut sl)) (s.fTop sl - s.fCut sl)

/-- SOC from the charge, 0.01 % (R306). -/
def socOf (qr : Int) (qf : Nat) : Nat := (sat 0 10000 (divRound (10000 * qr) qf)).toNat

/-- SOC from the voltage, 0.01 % (R312). -/
def State.socFromV (s : State) (sl : Nat) : Nat :=
  (sat 0 10000 (divRound (10000 * ((s.fNow sl : Int) - s.fCut sl)) (s.fTop sl - s.fCut sl))).toNat

/-- Twice the integral of V over the curve between two fractions in 1e-8, in mV × 1e-15 (R307); segment `k` starts at
`k` tenths. The segments are linear, so the trapezoid is exact. -/
def ocvIntegral (lo hi : Nat) : Nat → List Nat → Nat
  | k, a :: b :: t =>
    let s0 := 10000000 * k
    let x := max lo s0
    let y := min hi (s0 + 10000000)
    let part := if x < y then
      ((a * 10000000 + (b - a) * (x - s0)) + (a * 10000000 + (b - a) * (y - s0))) * (y - x) else 0
    part + ocvIntegral lo hi (k + 1) (b :: t)
  | _, _ => 0

/-- E_REM in mWh: CELLS × Q_ABS × the integral of V from f_cut to f_now, to nearest; 0xFFFF_FFFF where Q_FULL is unknown (R307). -/
def State.eRem (s : State) (sl : Nat) : Nat :=
  let qf := s.rd Reg.GAU_QFULL.Q_FULL sl
  let span := s.fTop sl - s.fCut sl
  if qf = 0 ∨ span = 0 then 0xFFFFFFFF
  else
    let lo := 10000 * s.fCut sl
    let hi := lo + s.rd Reg.GAU_SOC.SOC sl * span
    let i2 := ocvIntegral lo hi 0 (ocvPoints (s.rd Reg.SLT_PACK_A.CHEM sl))
    (divRound (s.rd Reg.SLT_PACK_A.CELLS sl * qf * i2 : Nat) (span * 2 * 10 ^ 15)).toNat

/-- A gauge with a pack: not NONE (R311). -/
def State.gaugeOn (s : State) (sl : Nat) : Bool := s.rd Reg.GAU_STATUS.STATE sl != 0

/-- UNRESTORED, as records and events carry it (R226, R312). -/
def State.unrestored (s : State) (sl : Nat) : Nat := bit (s.rd Reg.GAU_STATUS.STATE sl == 1)

/-- FLAGS of a snapshot's record (R313). -/
def State.gaugeFlags (s : State) (sl : Nat) (final : Bool) : Nat :=
  s.rd Reg.GAU_STATUS.LEARNED sl + 8 * s.unrestored sl + 16 * s.rd Reg.GAU_STATUS.DEGRADED sl + 32 * bit final +
  64 * s.rd Reg.GAU_STATUS.ANCHOR sl + 256 * s.rd Reg.GAU_STATUS.UNCAL sl

/-- The 48-byte gauge record (R313). -/
def State.gaugeRecord (s : State) (sl : Nat) (final : Bool) (seq : Nat) : List Nat :=
  leBytes 4 (s.rd Reg.SLT_PACK_ID_LO.ID_LO sl) ++ leBytes 4 (s.rd Reg.SLT_PACK_ID_HI.ID_HI sl) ++
  leBytes 4 (s.rd Reg.GAU_QFULL.Q_FULL sl) ++ leBytes 4 (s.rd Reg.GAU_QREM.Q_REM sl) ++
  leBytes 2 (s.rd Reg.GAU_SOC.V_CUT_CELL sl) ++ leBytes 2 (s.gaugeFlags sl final) ++
  leBytes 2 (s.rd Reg.GAU_SOC.SOC sl) ++ leBytes 2 (s.rd Reg.GAU_CNT.LEARN_CNT sl) ++
  leBytes 4 (s.rd Reg.GAU_EREM.E_REM sl) ++ leBytes 4 (s.rd Reg.GAU_THRU_IN.THRU_IN sl) ++
  leBytes 4 (s.rd Reg.GAU_THRU_OUT.THRU_OUT sl) ++ leBytes 4 (toField 32 (s.iAvg sl)) ++
  leBytes 4 (s.time % 2 ^ 32) ++ leBytes 4 seq

/-- The 64 bytes of a gauge snapshot's telemetry entry (R362). -/
def State.telBytes (s : State) (sl : Nat) (final : Bool) (seq phase : Nat) : List Nat :=
  let h := [0x01, phase] ++ leBytes 2 sl ++ leBytes 4 (s.rd Reg.ALM_TICK.TICK) ++ leBytes 6 0
  h ++ leBytes 2 (crc16 h) ++ s.gaugeRecord sl final seq

/-- The function a slot's snapshots go to: the owner, or the PF for an unclaimed slot (R316). -/
def State.ownerOrPf (s : State) (sl : Nat) : Nat :=
  if s.flag Reg.SLT_OWNER.CLAIMED sl then s.rd Reg.SLT_OWNER.OWNER sl else pfFn

/-- A snapshot of a slot is posted to the lowest TEL ring of a function, or dropped and counted; either way it takes the
slot's next SEQ (R316). -/
def snapshot (sl : Nat) (final : Bool) : Prog := .read fun s =>
  let fn := s.ownerOrPf sl
  let seq := (s.rd Reg.GAU_SNAP.SEQ sl + 1) % 2 ^ 32
  let drop := incSat Reg.GAU_CNT.SNAP_DROP sl
  .seq (setR Reg.GAU_SNAP.SEQ seq sl)
    (match (List.range 16).find? fun r => s.ringIs 3 fn r with
     | none => drop
     | some r =>
       if s.hifDead ∨ s.flag Reg.FN_STATUS.HELD fn ∨ s.ringHeld fn r ≥ s.ringSize fn r ∨ (s.fnr fn).d3hot then drop
       else ringPost fn r (fun ph => s.telBytes sl final seq ph) false)

/-- The gauge goes to NONE: its value registers read zero (R311). Counts of the converter, SEQ and the counters stand. -/
def gaugeClear (sl : Nat) : Prog := seqs [
  setR Reg.GAU_STATUS.STATE 0 sl, setR Reg.GAU_STATUS.LEARNED 0 sl, setR Reg.GAU_STATUS.ANCHOR 0 sl,
  setR Reg.GAU_STATUS.CUT_DEF 1 sl, setR Reg.GAU_STATUS.AGE_H 0 sl, setR Reg.GAU_SOC.SOC 0 sl, setR Reg.GAU_SOC.V_CUT_CELL 0 sl,
  setR Reg.GAU_QFULL.Q_FULL 0 sl, setR Reg.GAU_QREM.Q_REM 0 sl, setR Reg.GAU_EREM.E_REM 0 sl,
  setR Reg.GAU_THRU_IN.THRU_IN 0 sl, setR Reg.GAU_THRU_OUT.THRU_OUT 0 sl, setR Reg.GAU_CNT.LEARN_CNT 0 sl,
  updGauges sl fun g => { g with counted := 0, frac := 0, inFrac := 0, outFrac := 0, learnFrom := none, capAtFull := false, nominal := 0 }]

/-- The final snapshot, then the gauge clears to NONE (R317). -/
def finalSnapshot (sl : Nat) : Prog := .read fun s =>
  if s.gaugeOn sl then .seq (snapshot sl true) (gaugeClear sl) else .skip

/-- One warning level against the present SOC (R320): a level passed fires once and re-arms 1 % on the other side. -/
def warnLevel (sl k lvl : Nat) : Prog := .read fun s =>
  let fired := hasBit (s.rd Reg.GAU_WARN_ST.FIRED sl) k
  let soc := s.rd Reg.GAU_SOC.SOC sl
  let l := 100 * (lvl % 128)
  let rising := decide (lvl ≥ 128)
  if lvl % 128 = 0 then .skip
  else if !fired && (if rising then decide (l ≤ soc) else decide (soc < l)) then
    .seq (updR Reg.GAU_WARN_ST.FIRED (fun s => setBit (s.rd Reg.GAU_WARN_ST.FIRED sl) k) sl)
      (raiseSlot evGaugeWarn sl (dat 16 1 k + dat 17 1 (s.unrestored sl) + dat 18 2 soc))
  else if fired && (if rising then decide (soc + 100 ≤ l) else decide (l + 100 ≤ soc)) then
    updR Reg.GAU_WARN_ST.FIRED (fun s => clrBit (s.rd Reg.GAU_WARN_ST.FIRED sl) k) sl
  else .skip

/-- The four warning levels of a slot are evaluated (R320). -/
def warnCheck (sl : Nat) : Prog := .read fun s => seqs [
  warnLevel sl 0 (s.rd Reg.GAU_WARN.LVL0 sl), warnLevel sl 1 (s.rd Reg.GAU_WARN.LVL1 sl),
  warnLevel sl 2 (s.rd Reg.GAU_WARN.LVL2 sl), warnLevel sl 3 (s.rd Reg.GAU_WARN.LVL3 sl)]

/-- The levels are evaluated afresh: each is armed and then checked against the present SOC (R320). -/
def warnFresh (sl : Nat) : Prog := .seq (setR Reg.GAU_WARN_ST.FIRED 0 sl) (warnCheck sl)

/-- SOC and E_REM follow Q_REM and Q_FULL (R306, R307, R308). -/
def gaugeDerive (sl : Nat) : Prog := seqs [
  .read fun s => if s.rd Reg.GAU_QFULL.Q_FULL sl = 0 then .skip
    else setR Reg.GAU_SOC.SOC (socOf (s.qRem sl) (s.rd Reg.GAU_QFULL.Q_FULL sl)) sl,
  updR Reg.GAU_EREM.E_REM (fun s => s.eRem sl) sl]

/-- The unrestored estimate from the pack voltage (R312). -/
def unrestoredEstimate (sl : Nat) : Prog := .read fun s =>
  let qf := (s.gauge sl).nominal
  seqs [setR Reg.GAU_QFULL.Q_FULL qf sl,
        setR Reg.GAU_QREM.Q_REM (toField 32 (s.qFromV sl qf)) sl,
        setR Reg.GAU_SOC.SOC (s.socFromV sl) sl,
        updR Reg.GAU_EREM.E_REM (fun s => s.eRem sl) sl,
        warnCheck sl]

/-- The gauge enters UNRESTORED at PACK_IN (R305, R311, R312): the cut-off takes its default. -/
def gaugeStart (sl nominal : Nat) : Prog := .read fun s => seqs [
  setR Reg.GAU_STATUS.STATE 1 sl, setR Reg.GAU_STATUS.CUT_DEF 1 sl,
  setR Reg.GAU_SOC.V_CUT_CELL (s.rd Reg.SLT_PACK_B.VDIS_CELL sl + 300) sl,
  updGauges sl fun g => { g with nominal, counted := 0, frac := 0, lastAcc := g.acc, lastN := g.nsamp, inFrac := 0, outFrac := 0 },
  unrestoredEstimate sl, warnFresh sl]

/-- The vehicle cut-off changes by R309: Q_ABS and the charge in the pack stay, the zero moves. -/
def moveCut (sl vCut : Nat) : Prog := .read fun s =>
  let fc := s.fCut sl
  let ft := s.fTop sl
  let fc' := fracAt (s.rd Reg.SLT_PACK_A.CHEM sl) vCut 1
  let qf := s.rd Reg.GAU_QFULL.Q_FULL sl
  seqs [setR Reg.GAU_SOC.V_CUT_CELL vCut sl, setR Reg.GAU_STATUS.CUT_DEF 0 sl,
    setR Reg.GAU_QFULL.Q_FULL (divRound ((qf : Int) * ((ft : Int) - fc')) (ft - fc)).toNat sl,
    setR Reg.GAU_QREM.Q_REM (toField 32 (s.qRem sl - divRound ((qf : Int) * ((fc' : Int) - fc)) (ft - fc))) sl,
    updGauges sl fun g => { g with learnFrom := none },
    gaugeDerive sl]

/-- An anchor is taken: its code, and when (R310). -/
def takeAnchor (sl code : Nat) : Prog := .read fun s => seqs [
  setR Reg.GAU_STATUS.ANCHOR code sl, setR Reg.GAU_STATUS.AGE_H 0 sl, updGauges sl fun g => { g with anchorAt := s.time }]

/-- The full anchor (R310): Q_REM = Q_FULL, and a learning run may start from here (R318). -/
def fullAnchor (sl : Nat) : Prog := seqs [
  updR Reg.GAU_QREM.Q_REM (fun s => s.rd Reg.GAU_QFULL.Q_FULL sl) sl,
  takeAnchor sl 2,
  updGauges sl fun g => { g with capAtFull := true, learnFrom := some g.counted },
  gaugeDerive sl]

/-- A learned capacity is adopted or refused (R319). -/
def learn (sl ql : Nat) : Prog := .read fun s =>
  let qf := s.rd Reg.GAU_QFULL.Q_FULL sl
  let base := if qf = 0 then (s.gauge sl).nominal else qf
  if base ≤ 2 * ql ∧ 100 * ql ≤ 120 * base then
    seqs [setR Reg.GAU_QFULL.Q_FULL ql sl, setR Reg.GAU_QREM.Q_REM 0 sl, setR Reg.GAU_STATUS.LEARNED 1 sl,
      incWrap Reg.GAU_CNT.LEARN_CNT sl, setR Reg.GAU_STATUS.STATE 2 sl, gaugeDerive sl,
      .read fun t => raiseSlot evCapLearned sl (dat 16 4 qf + dat 20 4 ql + dat 24 2 (t.rd Reg.GAU_CNT.LEARN_CNT sl)),
      when (fun _ => s.rd Reg.GAU_STATUS.STATE sl != 2) (warnFresh sl)]
  else raiseSlot evCapReject sl (dat 16 4 qf + dat 20 4 ql)

/-- The empty anchor (R310), then learning where the run began at a full anchor and is valid (R318, R319). -/
def emptyAnchor (sl : Nat) (valid : Bool) (ql : Option Nat) : Prog := .read fun s =>
  let g := s.gauge sl
  let q := match ql with | some q => some q | none => g.learnFrom.map fun c => (c - g.counted).toNat
  seqs [setR Reg.GAU_QREM.Q_REM 0 sl, takeAnchor sl 3, gaugeDerive sl,
    match q with
    | some q => if valid && g.learnFrom.isSome && !s.flag Reg.GAU_STATUS.DEGRADED sl && !s.flag Reg.GAU_STATUS.UNCAL sl
        then learn sl q else .skip
    | none => .skip,
    updGauges sl fun g => { g with learnFrom := none }]

end Sys2Proof.Machine
end

