-- ==== Sys2Proof/Machine/Sha.lean ====
section
/-! DEFINITION. SHA-256 and HMAC-SHA-256, which R390, R392 and R426 name (PRESUMED: from the published standard). -/

namespace Sys2Proof.Machine

/-- A 32-bit rotation to the right. -/
def rotr32 (x n : Nat) : Nat := Nat.lor (Nat.shiftRight x n) (Nat.shiftLeft x (32 - n) % 0x100000000)

/-- The integer `k`-th root of `x`, found bit by bit: `b` bits are open below the part `r` found so far. -/
def rootBelow (k x : Nat) : Nat → Nat → Nat
  | 0, r => r
  | b + 1, r => rootBelow k x b (if (r + 2 ^ b) ^ k ≤ x then r + 2 ^ b else r)

/-- The first 32 bits after the binary point of the `k`-th root of a number below 2⁹. -/
def rootFraction (k p : Nat) : Nat := rootBelow k (p * 2 ^ (32 * k)) 37 0 % 2 ^ 32

/-- The primes below `n`, by trial division. -/
def primesBelow (n : Nat) : List Nat := (List.range n).filter fun p => decide (2 ≤ p) && (List.range p).all fun d => decide (d < 2) || p % d != 0

/-- The round constants of SHA-256: the fractional parts of the cube roots of the first 64 primes. -/
def shaK : List Nat := (primesBelow 312).map (rootFraction 3)

/-- The initial hash value of SHA-256: the fractional parts of the square roots of the first eight primes. -/
def shaInit : List Nat := (primesBelow 20).map (rootFraction 2)

/-- One more word of the message schedule, from the words so far, newest first. -/
def shaNext (w : List Nat) : Nat :=
  let a := w.getD 14 0
  let b := w.getD 1 0
  let s0 := Nat.xor (Nat.xor (rotr32 a 7) (rotr32 a 18)) (Nat.shiftRight a 3)
  let s1 := Nat.xor (Nat.xor (rotr32 b 17) (rotr32 b 19)) (Nat.shiftRight b 10)
  (w.getD 15 0 + s0 + w.getD 6 0 + s1) % 0x100000000

/-- The schedule extended by `n` words, newest first. -/
def shaExtend : Nat → List Nat → List Nat
  | 0, w => w
  | n + 1, w => shaExtend n (shaNext w :: w)

/-- One round on the eight working words. -/
def shaRound (h : List Nat) (kw : Nat × Nat) : List Nat :=
  match h with
  | [a, b, c, d, e, f, g, hh] =>
    let s1 := Nat.xor (Nat.xor (rotr32 e 6) (rotr32 e 11)) (rotr32 e 25)
    let ch := Nat.xor (Nat.land e f) (Nat.land (Nat.xor e 0xFFFFFFFF) g)
    let t1 := hh + s1 + ch + kw.1 + kw.2
    let s0 := Nat.xor (Nat.xor (rotr32 a 2) (rotr32 a 13)) (rotr32 a 22)
    let mj := Nat.xor (Nat.xor (Nat.land a b) (Nat.land a c)) (Nat.land b c)
    [(t1 + s0 + mj) % 0x100000000, a, b, c, (d + t1) % 0x100000000, e, f, g]
  | x => x

/-- Sixteen big-endian words of a block. -/
def beWords : Nat → List Nat → List Nat
  | 0, _ => []
  | n + 1, bs => (bs.getD 0 0 * 2 ^ 24 + bs.getD 1 0 * 2 ^ 16 + bs.getD 2 0 * 256 + bs.getD 3 0) :: beWords n (bs.drop 4)

/-- The hash value after one block of 64 bytes. -/
def shaBlock (h bs : List Nat) : List Nat :=
  let w := (shaExtend 48 (beWords 16 bs).reverse).reverse
  List.zipWith (fun a b => (a + b) % 0x100000000) h ((List.zip shaK w).foldl shaRound h)

/-- The hash value after `n` blocks. -/
def shaBlocks : Nat → List Nat → List Nat → List Nat
  | 0, h, _ => h
  | n + 1, h, bs => shaBlocks n (shaBlock h (bs.take 64)) (bs.drop 64)

/-- `n` bytes of a number, the most significant first. -/
def beBytes (n v : Nat) : List Nat := (leBytes n v).reverse

/-- SHA-256 of a byte string. -/
def sha256 (m : List Nat) : List Nat :=
  let z := (119 - m.length % 64) % 64
  let p := m ++ [0x80] ++ List.replicate z 0 ++ beBytes 8 (8 * m.length)
  ((shaBlocks (p.length / 64) shaInit p).map (beBytes 4)).flatten

/-- HMAC-SHA-256 of a message under a key of at most 64 bytes. -/
def hmac256 (key m : List Nat) : List Nat :=
  let k := key ++ List.replicate (64 - key.length) 0
  sha256 (k.map (Nat.xor 0x5C) ++ sha256 (k.map (Nat.xor 0x36) ++ m))

end Sys2Proof.Machine
end

