-- ==== Sys2Proof/Machine/TwbOps.lean ====
section
/-! DEFINITION. The shared operations of the two-wire buses (chapter 10): queueing, the end of a transaction, cancelling
(R421, R422), recovery (R416) and the packet error code (R407). -/

namespace Sys2Proof.Machine

/-- The SOURCE of a bus's events (R433). -/
def busSrc (b : Nat) : Nat := if b < 64 then b else 0x0140 + (b - 64)

/-- The functions that receive a bus's TWB_TIMEOUT: the PF, and the owner of the slot (R433). -/
def State.busFns (s : State) (b : Nat) : List Nat :=
  if b < 64 ∧ s.ownerOrPf b ≠ pfFn then [pfFn, s.ownerOrPf b] else [pfFn]

/-- Host transfers and the agent's work may start in the present mode (R434). -/
def State.busServes (s : State) (b : Nat) (j : TwbJob) : Bool :=
  s.running || (s.mode == mSentinel && (b ≥ 64 || j.what == 0xA2))

/-- HOSTQ follows the queue (R437). -/
def hostqUpdate (b : Nat) : Prog := updR Reg.TWB_STATUS.HOSTQ (fun s => (s.bus b).queue.length) b

/-- The pack protocol's transactions (R424), at address 0x2C with PEC. -/
def packRecordJob : TwbJob := { what := 0xA0, par := { proto := 8, addr := 0x2C, cmd := 0xA0, pec := true, rcount := 32 } }
def packAuthJob (chal : List Nat) : TwbJob :=
  { what := 0xA1, par := { proto := 9, addr := 0x2C, cmd := 0xA1, pec := true, wcount := 16, rcount := 16, wdata := chal } }
def packSerialJob : TwbJob := { what := 0xA2, par := { proto := 8, addr := 0x2C, cmd := 0xA2, pec := true, rcount := 8 } }

/-- The house-battery sensor read (R408) and the alert response read (R430). -/
def sensorJob (addr : Nat) (pec : Bool) : TwbJob := { what := 1, par := { proto := 6, addr, cmd := 0, pec, rcount := 2 } }
def araJob : TwbJob := { what := 0x0C, par := { proto := 2, addr := 0x0C, rcount := 1 } }

/-- A host transfer completes with a status, which LAST shows (R437). -/
def hostDone (b : Nat) (j : TwbJob) (status : Nat) (result : Nat := 0) (detail : Nat := 0) : Prog :=
  .seq (setR Reg.TWB_STATUS.LAST status b)
    (match j.ctl with | some c => finishRun c status result detail | none => .skip)

/-- A slot with an identified pack, whose identity window is armed (R150). -/
def State.seated (s : State) (sl : Nat) : Bool :=
  let st := s.slSt sl
  st == slIdle || st == slCharging || st == slSuspended || st == slDonor || st == slStopping

/-- An identification transaction has failed: it is repeated 10 ms later (R427), while the slot still identifies its pack. -/
def identRetryLater (sl : Nat) : Prog := .read fun s =>
  if s.slSt sl = slIdentifying then updSlots sl fun x => { x with busRetryAt := some (s.time + 10000) } else .skip

/-- A serial poll has gone unanswered (R179, R428): three in a row of a seated pack raise ID_SILENT once. -/
def pollMissed (sl : Nat) : Prog := when (fun s => s.seated sl) <| seqs [
  updSlots sl fun x => { x with pollMisses := x.pollMisses + 1 },
  .read fun s => if (s.slot sl).pollMisses ≥ 3 ∧ ¬ (s.slot sl).silent
    then .seq (raiseSlot evIdSilent sl 0) (updSlots sl fun x => { x with silent := true }) else .skip]

/-- A transaction of the bus agent has failed (R427, R428). -/
def agentFailed (b : Nat) (j : TwbJob) : Prog :=
  if j.what = 0xA0 ∨ j.what = 0xA1 then identRetryLater b
  else if j.what = 0xA2 then pollMissed b
  else if j.what = 0x0C then raisePf evTwbAlert (busSrc b) (dat 16 1 b + dat 17 1 0xFF)
  else .skip

/-- A transaction ends without its data (R403): a host transfer completes, the agent's work fails. -/
def jobFails (b : Nat) (j : TwbJob) (status : Nat) (detail : Nat := 0) : Prog :=
  if j.what = 0 then hostDone b j status 0 detail else agentFailed b j

/-- A transaction of the bus agent is queued, and a sleeping cell wakes (R403, R414); on a dead bus it fails at once (R417). -/
def agentQueue (b : Nat) (j : TwbJob) : Prog := .read fun s =>
  if s.flag Reg.TWB_STATUS.BUS_DEAD b then agentFailed b j else updTwb b fun x => { x with agent := x.agent ++ [j], asleep := false }

/-- Everything that waits on a dead bus completes with TWB_BUS_DEAD (R417). -/
def deadFlush (b : Nat) : Prog := .read fun s => seqs [
  updTwb b fun x => { x with agent := [], queue := [] }, hostqUpdate b,
  each ((s.bus b).agent ++ (s.bus b).queue) fun j => jobFails b j stTwbBusDead]

/-- The wire is free of the device's own transaction; a STOP has ended it (R418). -/
def runOver (b : Nat) : Prog := .read fun s => seqs [
  updTwb b fun x => { x with run := none, cancel := false, idleAt := s.time },
  setR Reg.TWB_STATUS.BUSY 0 b, setR Reg.TWB_STATUS.USER 0 b]

/-- A transaction that has not started is cancelled (R422): TWB_CANCELLED for a host transfer; the agent's is dropped. -/
def dropWaiting (b : Nat) (j : TwbJob) : Prog := if j.what = 0 then hostDone b j stTwbCancelled else .skip

/-- Every transaction of a bus that `p` names is cancelled (R421): a waiting one at once, a running one at its next byte
boundary, where TWB_TRANSACTION_END finds it (R422). -/
def busCancel (b : Nat) (p : TwbJob → Bool) : Prog := .read fun s =>
  let x := s.bus b
  seqs [
    updTwb b fun x => { x with
      agent := x.agent.filter (fun j => !p j), queue := x.queue.filter (fun j => !p j),
      cancel := x.cancel || (match x.run with | some j => p j | none => false) },
    hostqUpdate b,
    each (x.queue.filter p) (dropWaiting b)]

/-- The owner's host transfers on a slot's bus: those of the function (R421). -/
def jobOf (fn : Nat) (j : TwbJob) : Bool := match j.ctl with | some c => c.fn == fn | none => false

/-- Recovery of a stuck SDA (R416): `pulses` is the clock pulse after which SDA was seen high, none after nine of them. -/
def recoverSda (b : Nat) (pulses : Option Nat) : Prog := .read fun s =>
  let ok := match pulses with | some n => decide (n ≤ 9) | none => false
  let ev := fun k => raise { typ := evTwbTimeout, src := busSrc b, data := dat 16 1 b + dat 17 1 k } (s.busFns b)
  if ok then seqs [ev 1, updTwb b fun x =>
    { x with
      agent := x.agent.head?.toList.map (fun j => { j with retried := true }) ++ x.agent.drop 1,
      queue := (if x.agent = [] then x.queue.head?.toList.map (fun j => { j with retried := true }) else x.queue.head?.toList) ++ x.queue.drop 1,
      idleAt := s.time }]
  else seqs [setR Reg.TWB_STATUS.BUS_DEAD 1 b, ev 2, deadFlush b]

/-- The bytes that the packet error code covers (R407): every address byte with its direction, the command, the counts and the
data in the order of R405. -/
def pecBytes (p : TwbPar) (e : TwbEnd) : List Nat :=
  let aw := [2 * p.addr]
  let ar := [2 * p.addr + 1]
  let w := p.wdata.take p.wcount
  match p.proto with
  | 0 => if p.read then ar else aw
  | 1 => aw ++ [p.cmd]
  | 2 => ar ++ e.data
  | 3 | 5 | 10 => aw ++ [p.cmd] ++ w
  | 7 => aw ++ [p.cmd, p.wcount] ++ w
  | 4 | 6 | 11 => aw ++ [p.cmd] ++ ar ++ e.data
  | 8 => aw ++ [p.cmd] ++ ar ++ [e.count] ++ e.data
  | _ => aw ++ [p.cmd, p.wcount] ++ w ++ ar ++ [e.count] ++ e.data

/-- The bytes that the device drives in a whole transaction (R405): the address bytes, the command, the count and data it writes, and the PEC
of a write. -/
def sentBytes (p : TwbPar) : List Nat :=
  let aw := [2 * p.addr]
  let ar := [2 * p.addr + 1]
  let w := p.wdata.take p.wcount
  let sum := if p.pec ∧ p.proto ≠ 0 then [crc8 (pecBytes p { acked := true })] else []
  match p.proto with
  | 0 => if p.read then ar else aw
  | 1 => aw ++ [p.cmd] ++ sum
  | 2 => ar
  | 3 | 5 | 10 => aw ++ [p.cmd] ++ w ++ sum
  | 7 => aw ++ [p.cmd, p.wcount] ++ w ++ sum
  | 4 | 6 | 8 | 11 => aw ++ [p.cmd] ++ ar
  | _ => aw ++ [p.cmd, p.wcount] ++ w ++ ar

/-- The transaction reads data from the target (R405). -/
def twbReads (p : TwbPar) : Bool := p.proto == 2 || p.proto == 4 || p.proto == 6 || p.proto == 8 || p.proto == 9 || p.proto == 11

/-- The transaction reads a counted block (R405). -/
def twbCounted (p : TwbPar) : Bool := p.proto == 8 || p.proto == 9

/-- The status a transaction ends with when nothing cancels it (R407, R432). -/
def twbStatus (p : TwbPar) (e : TwbEnd) : Nat :=
  if !e.acked then stTwbNackAddr
  else if e.nack then stTwbNackData
  else if twbCounted p && (e.count > p.rcount || (p.proto == 9 && p.wcount + e.count > 255)) then stTwbCount
  else if p.pec && twbReads p && crc8 (pecBytes p e) != e.pec % 256 then stTwbPec
  else stOk

/-- The data bytes that a well-formed end delivers: RCOUNT of them, or the received count (R432). -/
def twbData (p : TwbPar) (e : TwbEnd) : List Nat := e.data.take (if twbCounted p then e.count else p.rcount)

/-- The data bytes that have passed when a transaction is cut short (R422): those received in the read direction, or those acknowledged in
the write direction. -/
def twbPassed (p : TwbPar) (e : TwbEnd) : Nat := if twbReads p && !e.data.isEmpty then e.data.length else e.wrote

/-- The written PEC byte was not acknowledged (R407). -/
def pecRefused (p : TwbPar) (e : TwbEnd) : Bool := e.acked && e.nack && p.pec && !twbReads p && p.proto != 1 && e.wrote == p.wcount

/-- The bus agent task of a slot, whose pair takes what its bus brings (R18). -/
def agentTask (sl : Nat) : Nat := 26 * (sl / 4) + 6 * (sl % 4) + 3

/-- The key slot that holds a function's key of a KEY_ID, if any (R387). -/
def State.packKey (s : State) (fn keyId : Nat) : Option (List Nat) :=
  ((List.range 64).find? fun k => (s.keyr k).used && (s.keyr k).fn == fn && (s.keyr k).keyId == keyId).map fun k => (s.keyr k).key

/-- The correct response to a challenge (R426). -/
def authResponse (key chal rec : List Nat) : List Nat := (hmac256 key ([0x50, 0x4B, 0x41, 0x31] ++ chal ++ rec.take 32)).take 16

end Sys2Proof.Machine
end

