-- ==== Sys2Proof/Machine/Outputs.lean ====
section
/-! DEFINITION. The shared operations on outputs and slots: parking and soft stop (R115, R120), DISC, the frost-guard
thresholds (R513, R514), the safe state (R29, R180, R181), the end of a charge, TRANSFER or AUDIT, and keep requests. -/

namespace Sys2Proof.Machine

/-- A record is queued for the keep (R572). -/
def keepRequest (q : KeepReq) : Prog := .read fun s =>
  .seq (updKeep fun k => { k with queue := k.queue ++ [q], startAt := if k.queue = [] then s.time else k.startAt })
    (updR Reg.KEEP_CNT.QUEUED fun s => min s.keep.queue.length 0xFFFF)

/-- Every DISC of an output opens or closes (R104, R111); a PD port's stage has VBUS_EN in its place (R512). -/
def setDisc (lead : Nat) (closed : Bool) : Prog := .read fun s =>
  if lead < 128 then each (s.slotsOf lead) fun sl => updSlots sl fun x => { x with disc := closed }
  else if lead < 136 then updPorts (lead - 128) fun x => { x with vbusEn := closed }
  else .skip

/-- The slot that carries the pack: the even slot of a gang in force (R157). -/
def State.carrier (s : State) (sl : Nat) : Nat := if s.oddGanged sl then sl - 1 else sl

/-- The slots whose guards carry a slot's thresholds: both of a gang (R513). -/
def State.guardsOf (s : State) (sl : Nat) : List Nat := if s.ganged (sl / 2) then [sl / 2 * 2, sl / 2 * 2 + 1] else [sl]

/-- Every channel of an output parks: PWMH and PWML low (R120), and DISC opens. `stage` is the STAGE left in the lead. RUNNING tells
whether PHC137 switches (R79). A slot's RV threshold is RV_IDLE once its lead has parked (R514). -/
def parkOutput (lead stage : Nat) : Prog := .read fun s => seqs [
  each (s.outputOf lead) fun c => seqs [setR Reg.PHC_STATUS.PARKED 1 c, setR Reg.PHC_OUT.DUTY 0 c,
    updChans c fun x => { x with edges := none, pwmlLow := false, cut := false, cutSince := none, lowRun := 0 }],
  if lead = 137 then setR Reg.SRC_ACC_CTRL.RUNNING 0 else .skip,
  setR Reg.PHC_STATUS.STAGE stage lead, setR Reg.PHC_STATUS.ACTIVE_PH 0 lead, setR Reg.PHC_STATUS.LOOP_MODE 0 lead,
  updChans lead fun x => { x with
    softNum := 0, softDen := 1, softTick := 0, fromNum := 1, fromDen := 1, biasOk := false,
    burst := false, packetLeft := 0, offLeft := 0, adding := [], shedding := none, addRun := 0, isBelow := false,
    dutyQueue := [], iCmd := 0, vlCount := 0,
    parkedAt := some s.time, overSince := none, wrongSince := none, imbChanged := true },
  if lead < 128 then each (s.guardsOf (lead / 2)) fun g => setR Reg.SAF_FG_B.RV_TH (s.rd Reg.SAF_FG_CFG.RV_IDLE) g else .skip,
  setDisc lead false]

/-- The soft_level reached, taken as the start of a soft stop (R112). -/
def softStopBegin (lead : Nat) : Prog := seqs [
  setR Reg.PHC_STATUS.STAGE 4 lead,
  updChans lead fun x => { x with fromNum := x.softNum, fromDen := x.softDen, softTick := 0, again := false }]

/-- The thresholds a slot's guards take for the pack of slot `c` (R513): OV in 20 mV, OC and RV in 100 mA, rounded down. -/
def State.fgOv (s : State) (c : Nat) : Nat :=
  s.rd Reg.SLT_PACK_A.CELLS c * (s.rd Reg.SLT_PACK_B.VCHG_CELL c + s.rd Reg.SAF_FG_CFG.OV_CELL) / 20
def State.fgOc (s : State) (c : Nat) : Nat := s.rd Reg.SLT_PACK_A.ICHG_MAX c * (100 + s.rd Reg.SAF_FG_CFG.OC_PCT) / 100
def State.fgRvDonor (s : State) (c : Nat) : Nat := s.rd Reg.SLT_PACK_A.IDIS_MAX c * (100 + s.rd Reg.SAF_FG_CFG.OC_PCT) / 100

/-- The Sundial loads the armed thresholds, reads them back and sets ARMED (R513, R514). -/
def fgArm (sl : Nat) : Prog := .read fun s => each (s.guardsOf sl) fun g => seqs [
  setR Reg.SAF_FG_A.OV_TH (s.fgOv sl) g, setR Reg.SAF_FG_A.OC_TH (s.fgOc sl) g,
  setR Reg.SAF_FG_B.RV_TH (s.rd Reg.SAF_FG_CFG.RV_IDLE) g, setR Reg.SAF_FG_A.ARMED 1 g]

/-- The thresholds return to their unarmed values (R513, R514). -/
def fgDisarm (sl : Nat) : Prog := .read fun s => each (s.guardsOf sl) fun g => seqs [
  setR Reg.SAF_FG_A.ARMED 0 g, setR Reg.SAF_FG_A.OV_TH ((s.rd Reg.SLT_BOARD.VMAX_BRD g + 2000) / 20) g,
  setR Reg.SAF_FG_A.OC_TH 20 g, setR Reg.SAF_FG_B.RV_TH (s.rd Reg.SAF_FG_CFG.RV_IDLE) g]

/-- The RV threshold takes its DONOR value before a reverse start, and RV_IDLE once the lead has parked (R514). -/
def fgReverse (sl : Nat) (donor : Bool) : Prog := .read fun s => each (s.guardsOf sl) fun g =>
  setR Reg.SAF_FG_B.RV_TH (if donor then s.fgRvDonor sl else s.rd Reg.SAF_FG_CFG.RV_IDLE) g

/-- A slot's reservation ends without a deadline event (R226). -/
def resvEnd (sl : Nat) : Prog := seqs [
  setR Reg.ALM_SLOT_A.RESV 0 sl, setR Reg.ALM_SLOT_A.RESV_SOC 0 sl, setR Reg.ALM_SLOT_B.RESV_TICK 0 sl]

/-- The tenants' use registers follow the slots (R400): slots owned and TRANSFERs whose donor the tenant owns. -/
def State.slotsOwned (s : State) (fn : Nat) : Nat :=
  ((List.range 64).filter fun sl => s.flag Reg.SLT_OWNER.CLAIMED sl && s.rd Reg.SLT_OWNER.OWNER sl == fn).length
def State.xfersOwned (s : State) (fn : Nat) : Nat :=
  ((List.range 64).filter fun sl => s.rd Reg.SLT_STATUS.ROLE sl == 1 && s.flag Reg.SLT_OWNER.CLAIMED sl &&
    s.rd Reg.SLT_OWNER.OWNER sl == fn).length
def useUpdate (fn : Nat) : Prog :=
  if fn < 1024 then seqs [updR Reg.TEN_USE.SLOTS (fun s => s.slotsOwned fn) fn, updR Reg.TEN_USE.XFER (fun s => s.xfersOwned fn) fn]
  else .skip

/-- The slot's identification runs by challenge-response: an owned slot with IDENT 1 (R151, R154). -/
def State.identMethod (s : State) (sl : Nat) : Nat := if s.flag Reg.SLT_OWNER.CLAIMED sl then s.rd Reg.SLT_CFG.IDENT sl else 0

/-- An attempt at identification starts (R153, R427): under challenge-response with PACK_RECORD. -/
def identAttempt (sl : Nat) : Prog := .read fun s => seqs [
  updSlots sl fun x => { x with identAt := s.time, crFail := none, record := [], chal := [], busRetryAt := none, retryAt := none, pack := none },
  if (s.slot sl).method = 1 then agentQueue sl packRecordJob else .skip]

/-- `MSR_DAC_STATUS` shows who holds the DAC (R280): referee before wet test before the PF. -/
def dacShow (p : Nat) : Prog := .read fun s =>
  let user := if (s.fcv p).referee.isSome then 3
    else if (List.range 16).any fun k => (s.slot (16 * p + k)).wetRunning then 2
    else if s.flag Reg.MSR_DAC_CTRL.EN p then 1 else 0
  .seq (setR Reg.MSR_DAC_STATUS.USER user p) (setR Reg.MSR_DAC_STATUS.CONNECTED (bit (user != 0)) p)

/-- The slot a channel of an ICV belongs to, 0xFF for internal points (R243, R266). -/
def chanSlot (icv chan : Nat) : Nat :=
  if chan < 12 then 4 * icv + chan / 3 else if chan < 16 then 4 * icv + (chan - 12) else 0xFF

/-- The referee procedure ends (R274): the DAC leaves the input, and the ICV goes on. -/
def refereeEnds (p : Nat) : Prog := .read fun s => seqs [
  (match (s.fcv p).referee with
   | some r => when (fun t => t.rd Reg.MSR_ICV_STATUS.STATE r.1 == 6 && (t.icv r.1).cur.isNone) (setR Reg.MSR_ICV_STATUS.STATE 1 r.1)
   | none => .skip),
  updFcvs p fun x => { x with referee := none, again := false }, dacShow p]

/-- Escalations of cross-checks on a slot that faults, empties or identifies afresh are abandoned without a finding (R545). -/
def escalationsDrop (sl : Nat) : Prog := .read fun s => seqs [
  updSlots sl fun x => { x with outRef := none, xchkRun := 0 }, updGauges sl fun g => { g with curRef := none },
  (match (s.fcv (sl / 16)).referee with
   | some r => if chanSlot r.1 r.2.1 = sl then refereeEnds (sl / 16) else .skip
   | none => .skip)]

/-- Entry to IDENTIFYING (R146, R149, R158): the wet test first where WET_AUTO asks for it. -/
def identBegin (sl : Nat) : Prog := .read fun s => seqs [
  setR Reg.SLT_STATUS.STATE slIdentifying sl, setR Reg.SLT_STATUS.TYPE 0xF sl, setR Reg.SLT_STATUS.ID_LOW 0 sl,
  updSlots sl fun x =>
    { x with
             method := s.identMethod sl, wetRunning := s.flag Reg.SLT_CFG.WET_AUTO sl, typed := false, tries := 0,
             pollMisses := 0, silent := false },
  dacShow (sl / 16), identAttempt sl]

/-- What is known of a pack is forgotten: the class X pack registers read as after reset (R198, R199). -/
def packForget (sl : Nat) : Prog := seqs [
  setR Reg.SLT_STATUS.TYPE 0xF sl, setR Reg.SLT_STATUS.ID_LOW 0 sl, setR Reg.SLT_STATUS.PHASE 0 sl, setR Reg.SLT_STATUS.ROLE 0 sl,
  setR Reg.SLT_PACK_ID_LO.ID_LO 0 sl, setR Reg.SLT_PACK_ID_HI.ID_HI 0 sl,
  setR Reg.SLT_PACK_A.CHEM 0 sl, setR Reg.SLT_PACK_A.CELLS 0 sl, setR Reg.SLT_PACK_A.ICHG_MAX 0 sl, setR Reg.SLT_PACK_A.IDIS_MAX 0 sl,
  setR Reg.SLT_PACK_B.VCHG_CELL 0 sl, setR Reg.SLT_PACK_B.VDIS_CELL 0 sl,
  updSlots sl fun x => { x with
                                pack := none, typed := false, wetRunning := false, curPhase := 0, retryAt := none, busRetryAt := none,
                                crFail := none, audStep := 0, endReason := none, sunOn := false, cvOrderAt := none },
  dacShow (sl / 16), escalationsDrop sl]

/-- A slot identifies its pack afresh, by its owner's method and key (R155). -/
def reidentify (sl : Nat) : Prog := seqs [fgDisarm sl, packForget sl, identBegin sl]

/-- The slot acts on its pins and readings in the present mode (R191). -/
def State.slotsLive (s : State) : Bool := s.running || s.mode == mSentinel

/-- A closed ID pin of an EMPTY slot starts the debounce (R146). -/
def scanPresence (sl : Nat) : Prog := .read fun s =>
  if s.slSt sl = slEmpty ∧ (s.slot sl).idClosed ∧ s.slotsLive then
    .seq (setR Reg.SLT_STATUS.STATE slDebounce sl) (updSlots sl fun x => { x with closedAt := s.time })
  else .skip

/-- The odd slot of a gang in force reads GANGED, and its other status fields zero (R157). -/
def gangShow (sl : Nat) : Prog := seqs [
  setR Reg.SLT_STATUS.STATE slGanged sl, setR Reg.SLT_STATUS.ZONE 0 sl, setR Reg.SLT_STATUS.TYPE 0 sl, setR Reg.SLT_STATUS.ID_LOW 0 sl,
  setR Reg.SLT_STATUS.WET 0 sl, setR Reg.SLT_STATUS.NTC_A_BAD 0 sl, setR Reg.SLT_STATUS.NTC_B_BAD 0 sl, setR Reg.SLT_STATUS.PHASE 0 sl,
  setR Reg.SLT_STATUS.ROLE 0 sl, setR Reg.SLT_STATUS.RECEIVER 0 sl]

/-- A slot leaves GANGED: its status fields read as after reset (R157). -/
def gangLeave (sl : Nat) : Prog := .seq (setR Reg.SLT_STATUS.ZONE 7 sl) (setR Reg.SLT_STATUS.TYPE 0xF sl)

/-- CHARGE_END of a slot with its reason and the charge delivered (R173, R363); its reservation ends with it (R226). -/
def chargeEnd (sl reason : Nat) : Prog := .read fun s =>
  .seq (raiseSlot evChargeEnd sl (dat 16 1 reason + dat 20 4 (toField 32 (s.slot sl).chargeQ))) (resvEnd sl)

/-- The state of a slot whose lead has parked after a soft stop (R115, R146): what the stop was for. -/
def slotStopped (sl : Nat) : Prog := .read fun s =>
  let x := s.slot sl
  if s.slSt sl = slStopping then
    let after := if x.offWait then slOff else x.afterStop
    seqs [setR Reg.SLT_STATUS.STATE after sl,
      if after = slIdle ∨ after = slOff ∨ after = slIdentifying then seqs [setR Reg.SLT_STATUS.PHASE 0 sl, setR Reg.SLT_STATUS.ROLE 0 sl,
        updSlots sl fun x => { x with sunOn := false, cvOrderAt := none }] else .skip,
      match x.endReason with
      | some r => .seq (updSlots sl fun x => { x with endReason := none }) (chargeEnd sl r)
      | none => .skip,
      when (fun _ => x.offWait) (seqs [finalSnapshot sl, fgDisarm sl, updSlots sl fun x => { x with offWait := false }]),
      match x.releaseCtl with
      | some c => .seq (updSlots sl fun x => { x with releaseCtl := none })
          (keepRequest { effect := .owner sl none, ctl := some c })
      | none => .skip,
      .read fun t => useUpdate (t.ownerOrPf sl),
      when (fun _ => after == slIdentifying) (if x.idClosed then reidentify sl else setR Reg.SLT_STATUS.STATE slEmpty sl)]
  else if s.slSt sl = slCharging then setR Reg.SLT_STATUS.PHASE 0 sl
  else .skip

/-- A lead parks at the end of a soft stop (R115): DISC opens, the guards' RV threshold returns, and its slot goes on. -/
def leadPark (lead : Nat) : Prog := .read fun s => seqs [
  parkOutput lead 0,
  if lead < 128 then .seq (fgReverse (lead / 2) false) (slotStopped (lead / 2)) else .skip,
  setR Reg.PHC_STATUS.DIR (s.chan lead).dirNext lead]

/-- A stop of an output (R115): a switching output soft-stops; one that only checks or backs off parks at once. -/
def softStop (lead : Nat) : Prog := .read fun s =>
  let g := s.rd Reg.PHC_STATUS.STAGE lead
  if g = 2 ∨ g = 3 then softStopBegin lead
  else if g = 4 then .skip
  else leadPark lead

/-- A slot stops (R146): STOPPING with a soft stop where its lead switches, and at once to what follows where it does not. -/
def stopSlot (sl after : Nat) (reason : Option Nat) : Prog := .read fun s => seqs [
  updSlots sl fun x => { x with afterStop := after, endReason := reason },
  setR Reg.SLT_STATUS.STATE slStopping sl,
  if s.switching (s.slotLead sl) then softStop (s.slotLead sl) else leadPark (s.slotLead sl)]

/-- The receiver side of a TRANSFER is released (R185). -/
def freeReceiver (peer : Nat) : Prog :=
  if peer < 64 then seqs [setR Reg.SLT_STATUS.RECEIVER 0 peer, setR Reg.SLT_LINK.PEER 0xFF peer]
  else .skip

/-- TRANSFER_END of a donor (R185): the event with the reason, the peer and the energy, and the pairing ends. -/
def transferEnd (donor reason : Nat) : Prog := .read fun s =>
  let peer := s.rd Reg.SLT_LINK.PEER donor
  seqs [raiseSlot evTransferEnd donor (dat 16 1 reason + dat 17 1 peer + dat 20 4 (s.slot donor).eOut),
    freeReceiver peer, setR Reg.SLT_LINK.PEER 0xFF donor, setR Reg.SLT_STATUS.ROLE 0 donor, useUpdate (s.ownerOrPf donor)]

/-- The time of a protective park counts toward an AUDIT's pauses (R650). -/
def parkCounted (sl : Nat) : Prog := .read fun s =>
  match (s.slot sl).parkAt with
  | some t => updSlots sl fun x => { x with pauseTotal := x.pauseTotal + (s.time - t), parkAt := none }
  | none => .skip

/-- AUDIT_END of a slot (R188, R189): end 0 empty, 1 HOST, 2 removal, 3 fault, 4 pause limit. -/
def auditEnd (sl fin : Nat) (valid : Bool) : Prog := .read fun s => seqs [
  setR Reg.SLT_AUD_E.VALID (bit valid) sl,
  raiseSlot evAuditEnd sl (dat 16 1 (bit valid) + dat 17 1 fin + dat 20 4 (s.rd Reg.SLT_AUD_Q.Q sl) + dat 24 4 (s.rd Reg.SLT_AUD_E.E sl)),
  updSlots sl fun x => { x with audStep := 0, parkAt := none },
  setR Reg.SLT_LINK.PEER 0xFF sl, setR Reg.SLT_STATUS.ROLE 0 sl]

/-- The donor of a TRANSFER that a slot or port receives, if any (R183). -/
def State.donorOf (s : State) (peer : Nat) : Option Nat :=
  (List.range 64).find? fun d => s.rd Reg.SLT_STATUS.ROLE d == 1 && s.rd Reg.SLT_LINK.PEER d == peer

/-- A donor of a TRANSFER ends with a soft stop to IDLE (R185). -/
def transferStop (donor reason : Nat) : Prog := seqs [transferEnd donor reason, stopSlot donor slIdle none]

/-- A removal, fault or reset ends any TRANSFER or AUDIT in which a slot takes part (R186): the slot's own part without a soft
stop, its donor's with one. -/
def endParts (sl reason auditFin : Nat) : Prog := .read fun s => seqs [
  when (fun _ => s.rd Reg.SLT_STATUS.ROLE sl == 1) (transferEnd sl reason),
  when (fun _ => (s.slot sl).audStep != 0) (auditEnd sl auditFin false),
  match (if s.flag Reg.SLT_STATUS.RECEIVER sl then s.donorOf sl else none) with
  | some d => transferStop d reason
  | none => .skip]

/-- What a parked lead's slot owes when a soft stop is cut short by a park: the PF's release goes on (R155). -/
def releaseGoesOn (sl : Nat) : Prog := .read fun s =>
  match (s.slot sl).releaseCtl with
  | some c => .seq (updSlots sl fun x => { x with releaseCtl := none })
      (keepRequest { effect := .owner sl none, ctl := some c })
  | none => .skip

/-- The order in which causes that reach a slot at the same moment are taken (R545): a frost-guard trip or the bus check of SF10, a runaway, any other. -/
def causeRank (cause : Nat) : Nat := if cause ∈ [1, 2, 3, 4, 6] then 1 else if cause = 5 then 2 else 3

/-- The safe state of a slot with a cause (R29, R180): both phases parked, DISC open, FAULTED. A later cause is only
counted and reported (R181); one of the same moment that R545 takes before the recorded one becomes the cause. A slot without a pack at hand (EMPTY, GANGED, OFF) only parks (R146). -/
def slotSafe (sl0 cause : Nat) : Prog := .read fun s =>
  let sl := s.carrier sl0
  let st := s.slSt sl
  let count := incSat Reg.SLT_FAULT.COUNT sl
  if st = slFaulted then
    seqs [parkOutput (s.slotLead sl) 6, count,
      if (s.slot sl).faultAt = some s.time ∧ causeRank cause < causeRank (s.rd Reg.SLT_FAULT.CAUSE sl) then
        .seq (setR Reg.SLT_FAULT.CAUSE cause sl) (setR Reg.SAF_FG_B.SUBCAUSE 0 sl) else .skip,
      .read fun t => raiseSlot evFaulted sl (dat 16 1 cause + dat 17 1 1 + dat 18 2 (t.rd Reg.SLT_FAULT.COUNT sl))]
  else if st = slEmpty ∨ st = slGanged ∨ st = slOff then parkOutput (s.slotLead sl) 0
  else seqs [
    endParts sl 6 3,
    parkOutput (s.slotLead sl) 6, fgDisarm sl,
    setR Reg.SLT_STATUS.STATE slFaulted sl, setR Reg.SLT_FAULT.FAULTED 1 sl, setR Reg.SLT_FAULT.CAUSE cause sl, count,
    updSlots sl fun x => { x with endReason := none, sunOn := false, cvOrderAt := none, faultAt := some s.time }, escalationsDrop sl,
    updR Reg.SAF_STATUS.FAULTED_CNT fun t => ((List.range 64).filter fun k => t.flag Reg.SLT_FAULT.FAULTED k).length,
    .read fun t => raiseSlot evFaulted sl (dat 16 1 cause + dat 18 2 (t.rd Reg.SLT_FAULT.COUNT sl)),
    resvEnd sl, releaseGoesOn sl]

/-- Comparator `k` of a slot (0 OV, 1 OC, 2 RV, 3 NTC_A, 4 NTC_B, 5 ID) is masked by its latent test (R539). -/
def State.fgMasked (s : State) (sl k : Nat) : Bool :=
  match (s.slot sl).masked with
  | some (c, t) => c == k && decide (s.time < t)
  | none => false

/-- The Planter isolates a slot's front-end supply, that of both slots of a gang (R30, R521). -/
def isolate (sl : Nat) : Prog := .read fun s => each (s.guardsOf sl) fun g => updSlots g fun x => { x with isolated := true }

/-- In SENTINEL a slot's bed, or where its supervisor has moved to, is woken for a round out of turn (R557). -/
def bedWake (sl : Nat) : Prog := when (fun s => s.mode == mSentinel) (.read fun s =>
  updEng fun e => { e with wakes := s.rd Reg.ENG_TASK.HOST (26 * (sl / 4) + 6 * (sl % 4) + 5) / 32 :: e.wakes })

/-- FG_TRIP (R546) of comparator `k` with its threshold, the trip's bit and count (R513, R517), and the front-end supply isolated (R30). -/
def fgReport (sl k th : Nat) (f : Fld) : Prog := seqs [
  setR f 1 sl, incSat Reg.SAF_CNT.FG_TRIPS, isolate sl, bedWake sl, raisePf evFgTrip sl (dat 16 1 k + dat 20 4 th)]

/-- What the gate interface does in place of a masked OV or OC comparator of a slot (R539): it parks the slot where the fast output-voltage
converter reads above the OV threshold, or the phase-current sum exceeds the OC threshold. -/
def maskStandIn (sl : Nat) : Prog := .read fun s =>
  let lead := s.slotLead sl
  let ov := 20 * s.rd Reg.SAF_FG_A.OV_TH sl
  let oc := 100 * s.rd Reg.SAF_FG_A.OC_TH sl
  if s.fgMasked sl 0 ∧ ov < s.rd Reg.PHC_MEAS_V.MEAS_V lead then .seq (fgReport sl 0 ov Reg.SAF_FG_B.TRIP_OV) (slotSafe sl caOverVoltage)
  else if s.fgMasked sl 1 ∧ (oc : Int) < ofField 18 (s.rd Reg.PHC_MEAS_I.MEAS_I lead) then
    .seq (fgReport sl 1 oc Reg.SAF_FG_B.TRIP_OC) (slotSafe sl caOverCurrent)
  else .skip

/-! Safe-state orders (R524). -/

/-- The parity bit of an order word. -/
def wordParity (w : Nat) : Nat := ((List.range 32).filter (hasBit w)).length % 2

/-- The copies of an order word that reach a Planter's gate interface, as they arrive: on the runner link's control channel unless its lanes
carry nothing, spoilt while the link's last flit has failed its parity and is being sent again (R23, R24); and on the safety line. -/
def State.orderCopies (s : State) (p w : Nat) : List (Nat × Nat) :=
  let x := s.lane (2 * p)
  (if x.down then [] else [(w, if x.fails = 0 then wordParity w else 1 - wordParity w)]) ++ [(w, wordParity w)]

/-- An order of the Sundial goes out to a Planter on both paths; its gate interface ignores a copy whose parity fails and acts on the first
valid one (R524). -/
def orderTo (p w : Nat) (act : Prog) : Prog := .read fun s => seqs [
  emit (.order p 0 w (wordParity w)), emit (.order p 1 w (wordParity w)),
  match (s.orderCopies p w).find? fun c => c.2 == wordParity c.1 with
  | some _ => act
  | none => .skip]

/-- A safe state that the Sundial orders from its own checks: CAUSE 0x0C with a subcause, and the front-end supply is
isolated (R521). The order word names the slot and the subcause. -/
def slotSafeSub (sl sub : Nat) : Prog := orderTo (sl / 16) (16 * sl + sub) <| .read fun s =>
  let c := s.carrier sl
  seqs [when (fun _ => s.slSt c != slFaulted) (setR Reg.SAF_FG_B.SUBCAUSE sub c),
    slotSafe sl caFrontEnd, isolate sl]

/-- The contract is gone (R185, R460): a TRANSFER to the port ends. -/
def contractGone (k : Nat) : Prog := .read fun s => seqs [
  setR Reg.PDP_STATUS.CONTRACT 0 k, setR Reg.PDP_CONTRACT.V 0 k, setR Reg.PDP_CONTRACT.I 0 k,
  updPorts k fun x => { x with
    nextV := 0, nextI := 0, nextKind := 0, nextPos := 0, readyOwed := false, planned := false, epr := false,
    awaits := 0, offerOwed := false, offer := [], pps := none, svcStep := 0 },
  match s.donorOf (0x80 + k) with
  | some d => transferStop d 3
  | none => .skip]

/-- An auxiliary channel's safe state (R512): parked, its output switch open, out of service until the PF clears it. A port's contract is
gone, and a TRANSFER to it ends as by a fault (R185, R186). -/
def auxSafe (n : Nat) : Prog := .seq (parkOutput n 6)
  (if n < 136 then seqs [
    .read fun s => (match s.donorOf n with | some d => transferStop d 6 | none => .skip),
    contractGone (n - 128), setR Reg.PDP_STATUS.TC_STATE 5 (n - 128), updPorts (n - 128) fun x => { x with vbusEn := false, vbusDis := true }]
   else .skip)

/-- An auxiliary channel's safe state with its own fault event (R512). -/
def auxFault (n : Nat) : Prog := .seq (auxSafe n) (raisePf evFaulted (srcChan n) (dat 16 1 caFrontEnd))

/-- The safe state of an output's slot or auxiliary channel. -/
def outputSafe (lead cause : Nat) : Prog := if lead < 128 then slotSafe (lead / 2) cause else auxSafe lead

/-- An event of an output goes to the slot's owner and to the PF, or to the PF for an auxiliary channel (R113, R122). -/
def raiseOutput (typ lead data : Nat) : Prog := .read fun s =>
  if lead < 128 then
    let o := s.ownerOrPf (lead / 2)
    raise { typ, src := lead / 2, data } (if o = pfFn then [pfFn] else [o, pfFn])
  else raisePf typ (srcChan lead) data

end Sys2Proof.Machine
end

