-- ==== Sys2Proof/Machine/Channels.lean ====
section
/-! DEFINITION. The phase channels (chapter 03): the control loops, starting and stopping, shedding, synchronisation,
balance and the faults of an output. -/

namespace Sys2Proof.Machine

/-- The bus reading in use, mV, where one is valid (R41, R68): `SRC_BUS.BUS_V`, the mean of the sensors, or the good one. R41 gives MISMATCH
rules for the voltage checks and for donors only, so that V_bus of R91 is the mean also while MISMATCH is set (DESIGN CHOICE). -/
def State.busMv (s : State) : Nat := s.rd Reg.SRC_BUS.BUS_V

/-- PHC_STATUS.LEAD of every channel follows the grouping (R80, R131). -/
def leadFlags : Prog := each (List.range 144) fun c => updR Reg.PHC_STATUS.LEAD (fun s => bit (s.isLead c)) c

/-- The pending coefficients and shifts go into use together; LOOP_UNSET clears and APPLY reads 0 (R87, R88, R140). -/
def takeCoefs (n : Nat) : Prog := .read fun s => seqs [
  updChans n fun x => { x with inUse := s.pendingCoefs n, unsetRaised := false },
  setR Reg.PHC_STATUS.LOOP_UNSET 0 n, setR Reg.PHC_LOOP.APPLY 0 n]

/-- APPLY (R87): at the lead's next current update, or at once where the lead does not switch and has none. -/
def applyWritten (n : Nat) : Prog := .read fun s =>
  if !s.isLead n then .skip else if s.switching n then setR Reg.PHC_LOOP.APPLY 1 n else takeCoefs n

/-- The start is refused by R88: a loop that would run has only zero coefficients. -/
def State.startUnset (s : State) (lead : Nat) : Bool :=
  let cs := s.coefs lead
  loopUnset cs .current || loopUnset cs .voltage || ((s.chan lead).dirNext == 2 && loopUnset cs .bus)

/-- The back-off, or the safe state where retries are exhausted, after a failed attempt (R113): `short` for SHORT_AT_START.
A PD port takes ErrorRecovery (R449). -/
def attemptFailed (lead : Nat) (short : Bool) : Prog := .read fun s => seqs [
  parkOutput lead 5,
  setR (if short then Reg.PHC_STATUS.SHORT_AT_START else Reg.PHC_STATUS.RISE_ABORT) 1 lead,
  incSat Reg.PHC_CNT.RETRIES lead,
  .read fun t => raiseOutput (if short then evShortAtStart else evRiseAbort) lead (dat 16 1 (t.rd Reg.PHC_CNT.RETRIES lead)),
  updChans lead fun x => { x with backoffUntil := s.time + 2000000, again := false },
  if 128 ≤ lead ∧ lead < 136 then seqs [setR Reg.PDP_STATUS.TC_STATE 4 (lead - 128),
    updPorts (lead - 128) fun p => { p with vbusDis := true, recoverAt := s.time + 250000 }] else .skip,
  when (fun t => t.rd Reg.PHC_CNT.RETRIES lead > s.rd Reg.PHC_START.RETRY_MAX lead) (outputSafe lead caRetries)]

/-- The output is a boost (R91, R130): TOPO applies to PHC128 to PHC143 only. -/
def State.isBoost (s : State) (lead : Nat) : Bool := s.flag Reg.PHC_CTRL.TOPO lead && decide (lead ≥ 128)

/-- The guards allow DISC to close (R111 step 2, R514): every slot of the output is ARMED; an auxiliary channel has none. -/
def State.armed (s : State) (lead : Nat) : Bool := (s.slotsOf lead).all fun sl => s.flag Reg.SAF_FG_A.ARMED sl

/-- A buck output may preload from the present input reading (R91): it is valid and lies above the output voltage `v`. -/
def State.inputOk (s : State) (lead v : Nat) : Bool :=
  s.isBoost lead || (decide (s.busMv > v) && !(s.grid.stuckA && s.grid.stuckB))

/-- The frames of the output's first `n` phases move to the offsets of R96 (R97): each phase's next frame is lengthened, never shortened. -/
def moveOffsets (lead n : Nat) : Prog := .read fun s =>
  let per := s.rd Reg.PHC_PER_EFF.PER_EFF lead
  each (((s.outputOf lead).take n).zipIdx) fun e =>
    updChans e.1 fun x => { x with
      lengthen := (s.offsetOf lead n e.2 + per - x.frameOff % per) % per, frameOff := s.offsetOf lead n e.2 }

/-- DISC closes, the loops preload and soft start begins at level 0 (R91, R111 steps 2 and 3), once ARMED allows it. Where the input reading
has gone since step 1, the start waits in step 1 again (R91). -/
def startOutput (lead : Nat) : Prog := .read fun s =>
  let c := s.chan lead
  if c.biasOk && !s.inputOk lead c.biasV then updChans lead fun x => { x with biasOk := false }
  else if c.biasOk && s.armed lead then
    let n := s.phasesFor lead (s.refI lead).natAbs
    let u : Int := if s.isBoost lead then s.rd Reg.PHC_DUTY_LIM.DUTY_MIN lead
      else sat (s.rd Reg.PHC_DUTY_LIM.DUTY_MIN lead) (s.rd Reg.PHC_DUTY_LIM.DUTY_MAX lead) (divRound (65536 * c.biasV) s.busMv)
    seqs [setDisc lead true,
      setR Reg.PHC_STATUS.STAGE 2 lead, setR Reg.PHC_STATUS.ACTIVE_PH n lead,
      each ((s.outputOf lead).take n) fun p => setR Reg.PHC_STATUS.PARKED 0 p,
      if lead = 137 then setR Reg.SRC_ACC_CTRL.RUNNING 1 else .skip,
      moveOffsets lead n,
      updChans lead fun x =>
        { x with
          imbChanged := true, biasOk := false, softNum := 0, softDen := 1, softTick := 0, eC := [], eV := [], eB := [], uC := [u, u, u],
          vlCount := 0, iCmd := 0, riseBy := s.time + 1000 * s.rd Reg.PHC_START.RISE_TMO lead, risen := false,
          changeAt := s.time, isBelow := false, addRun := 0, burst := false, cvSince := none, ccSince := none },
      .read fun t => updChans lead fun x =>
        let hi := (t.clamps lead).2
        { x with uV := [hi, hi, hi], uB := [hi, hi, hi] }]
  else .skip

/-- The pre-bias check (R111 step 1) on a new average of 64 output-voltage samples: below SHORT_V the attempt fails without
switching; a PD port's VBUS must lie below 800 mV instead (R448); a buck waits for a valid input reading above the output (R91). -/
def preBias (lead : Nat) (avg : Option Nat) : Prog := .read fun s =>
  if s.rd Reg.PHC_STATUS.STAGE lead = 1 then
    if (s.chan lead).biasOk then startOutput lead
    else match avg with
      | none => .skip
      | some v =>
        if (if 128 ≤ lead ∧ lead < 136 then decide (v ≥ 800) else decide (v < 100 * s.rd Reg.PHC_START.SHORT_V lead)) then attemptFailed lead true
        else if !s.inputOk lead v then .skip
        else .seq (updChans lead fun x => { x with biasOk := true, biasAt := s.time, biasV := v }) (startOutput lead)
  else .skip

/-- A start (R88, R111, R130): a parked lead with a non-zero committed reference, every channel in service, loops set. -/
def leadStart (lead : Nat) (avg : Option Nat) : Prog := .read fun s =>
  let ready := s.rd Reg.PHC_STATUS.STAGE lead == 0 && s.refI lead != 0 && !s.svc.parkLines &&
    (s.outputOf lead).all fun c => s.flag Reg.PHC_CTRL.ENABLE c
  if !ready then .skip
  else if s.startUnset lead then
    seqs [setR Reg.PHC_STATUS.LOOP_UNSET 1 lead,
      if (s.chan lead).unsetRaised then .skip else raisePf evLoopUnset (srcChan lead) 0,
      updChans lead fun x => { x with unsetRaised := true }]
  else seqs [
    setR Reg.PHC_STATUS.DIR (s.chan lead).dirNext lead,
    when (fun _ => decide (lead < 128)) (fgReverse (lead / 2) ((s.chan lead).dirNext != 0)),
    if lead < 128 then parkCounted (lead / 2) else .skip,
    setR Reg.PHC_STATUS.STAGE 1 lead,
    preBias lead avg]

/-- Phases are added up to `m` (R102, R103): each switches with PWML held low for 32 periods first; phases added before go on with theirs. -/
def addPhases (lead m : Nat) : Prog := .read fun s =>
  let n := s.nAct lead
  if m ≤ n then .skip
  else
    let new := ((s.outputOf lead).take m).drop n
    seqs [setR Reg.PHC_STATUS.ACTIVE_PH m lead, moveOffsets lead m,
      each new fun c => .seq (setR Reg.PHC_STATUS.PARKED 0 c) (updChans c fun x => { x with lowRun := 0 }),
      updChans lead fun x =>
        { x with
          imbChanged := true, adding := x.adding ++ new, shedding := (if new.any (fun c => x.shedding == some c) then none else x.shedding),
          changeAt := s.time, addRun := 0, isBelow := false }]

/-- A switching lead adds the phases that its reference in force asks for (R102); with SHED_EN 0 every physical phase switches. -/
def phasesByRef (lead : Nat) : Prog := .read fun s =>
  if s.rd Reg.PHC_STATUS.STAGE lead = 2 ∨ s.rd Reg.PHC_STATUS.STAGE lead = 3 then
    addPhases lead (if s.flag Reg.PHC_SHED.SHED_EN lead then
      addTo (100 * s.rd Reg.PHC_SHED.ADD_I lead) (s.irefEff lead).natAbs (s.nPhys lead) 4 (s.nAct lead) else s.nPhys lead)
  else .skip

/-- A commit reaches a lead (R90, R111, R115, R117, R118, R126): references and direction are stored, and the lead starts, stops or waits
for its park; with a park at the same microsecond it starts nothing. A lead that still checks its output takes the new direction at once.
`avg` is the pre-bias average, where one is at hand. -/
def commitLead (lead : Nat) (refI : Int) (refV dir ilim : Nat) (avg : Option Nat) : Prog := seqs [
  .read fun s => updChans lead fun x => { x with commitAt := s.time, dirNext := dir, ilim := ilim },
  setR Reg.PHC_REF_I.REF_I (toField 18 refI) lead, setR Reg.PHC_REF_V.REF_V refV lead,
  .read fun s =>
    match s.rd Reg.PHC_STATUS.STAGE lead with
    | 0 => if (s.chan lead).parkedAt = some s.time then .skip else leadStart lead avg
    | 1 =>
      if refI = 0 then leadPark lead
      else if s.dir lead ≠ dir then .seq (setR Reg.PHC_STATUS.STAGE 0 lead) (leadStart lead avg)
      else preBias lead avg
    | 2 | 3 =>
      if refI = 0 then softStop lead
      else if s.dir lead ≠ dir then .seq (softStop lead) (updChans lead fun x => { x with again := true })
      else .skip
    | 4 => updChans lead fun x => { x with again := decide (refI ≠ 0) }
    | 5 => if refI = 0 then setR Reg.PHC_STATUS.STAGE 0 lead else .skip
    | _ => .skip]

/-- A phase runaway (R124): the output parks, its slot or channel takes its safe state, RUNAWAY is set and raised. The slot's CAUSE is that
of a runaway for the wrong-sign case too, which Functional Safety lists under SF5 and SF10 (DESIGN CHOICE). -/
def runaway (lead cond : Nat) : Prog := seqs [
  setR Reg.PHC_STATUS.RUNAWAY 1 lead, outputSafe lead caRunaway, raiseOutput evRunaway lead (dat 16 1 cond)]

/-- One update of the voltage loop, where it is due (R84). -/
def voltageUpdate (lead : Nat) (vout : Nat) : Prog := .read fun s =>
  let c := s.chan lead
  if c.vlCount + 1 ≥ s.rd Reg.PHC_LOOP.VL_DIV lead then
    let e := clampE ((s.rd Reg.PHC_REF_V.REF_V lead : Int) - vout)
    let u := loopEq (s.coefs lead) .voltage e c.eV c.uV (s.clamps lead).1 (s.clamps lead).2
    updChans lead fun x => { x with vlCount := 0, eV := pushHist e x.eV, uV := pushHist u x.uV }
  else updChans lead fun x => { x with vlCount := x.vlCount + 1 }

/-- The current command (R84): the voltage loop's output; in REV_BUS the greater of the bus and the voltage loop's. -/
def State.command (s : State) (lead : Nat) : Int :=
  let c := s.chan lead
  if s.dir lead = 2 then max (hist c.uB 0) (hist c.uV 0) else hist c.uV 0

/-- Burst is entered or left as the current command crosses the thresholds (R116). -/
def burstUpdate (lead : Nat) (cmd : Int) : Prog := .read fun s =>
  let c := s.chan lead
  let bi := 10 * s.rd Reg.PHC_BURST.BURST_I lead
  if c.burst then
    if 4 * cmd.natAbs > 5 * bi ∨ s.dir lead ≠ 0 then updChans lead fun x => { x with burst := false } else .skip
  else if s.nAct lead = 1 ∧ s.dir lead = 0 ∧ s.flag Reg.PHC_BURST.BURST_EN lead ∧ cmd.natAbs < bi then
    updChans lead fun x => { x with burst := true, packetLeft := s.rd Reg.PHC_BURST.BURST_ON lead, offLeft := 0 }
  else .skip

/-- The idle periods after a packet (R116): round(BURST_ON × (BURST_PK / I_cmd − 1)), at most 4,095. -/
def State.burstOff (s : State) (lead : Nat) (cmd : Int) : Nat :=
  if cmd.natAbs = 0 then 4095
  else min 4095 (divRound ((s.rd Reg.PHC_BURST.BURST_ON lead : Int) * (10 * s.rd Reg.PHC_BURST.BURST_PK lead - cmd.natAbs)) cmd.natAbs).toNat

/-- LOOP_MODE (R131) and since when it reads constant voltage or constant current (R164, R459). -/
def modeUpdate (lead : Nat) (cmd : Int) : Prog := .read fun s =>
  let c := s.chan lead
  let bound := if s.dir lead = 0 then (s.clamps lead).2 else (s.clamps lead).1
  let m := if c.burst then 3 else if cmd = bound then 1 else 2
  .seq (setR Reg.PHC_STATUS.LOOP_MODE m lead)
    (updChans lead fun x =>
      { x with
        cvSince := (if m = 2 then (if x.cvSince.isSome then x.cvSince else some s.time) else none),
        ccSince := (if m = 1 then (if x.ccSince.isSome then x.ccSince else some s.time) else none) })

/-- One active phase takes the lead's duty for its next frame (R80, R93, R94, R103): its own dead times and minimum on-time place the edges. -/
def phaseDuty (lead g c : Nat) : Prog := .read fun s =>
  let x := s.chan lead
  let low := x.adding.contains c || x.shedding == some c
  .seq (setR Reg.PHC_OUT.DUTY g c) (updChans c fun y =>
    { y with
      edges := edgesOf g (s.rd Reg.PHC_PER_EFF.PER_EFF c) (s.rd Reg.PHC_DT.DT_R c) (s.rd Reg.PHC_DT.DT_F c) (s.rd Reg.PHC_DT.MIN_ON c),
      pwmlLow := low, lowRun := if low then y.lowRun + 1 else 0, lengthen := 0,
      cut := false, cutSince := if y.cut then y.cutSince else none })

/-- The phases of an output that switch: the active ones, and one that is being shed (R103). -/
def State.phasesOn (s : State) (lead : Nat) : List Nat :=
  (s.outputOf lead).take (s.nAct lead) ++ (s.chan lead).shedding.toList

/-- The duty computed now governs the next period, or the one after above 500 kHz (R89). -/
def dutyOut (lead : Nat) (duty : Int) : Prog := .read fun s =>
  let d := duty.toNat
  let q := (s.chan lead).dutyQueue ++ [d]
  let now := if s.rd Reg.PHC_TIMING.PER lead ≥ 32000 then some d else if q.length ≥ 2 then q.head? else none
  match now with
  | none => updChans lead fun x => { x with dutyQueue := q }
  | some g => .seq (updChans lead fun x => { x with dutyQueue := (if s.rd Reg.PHC_TIMING.PER lead ≥ 32000 then [] else [d]) })
      (each (s.phasesOn lead) (phaseDuty lead g))

/-- Both outputs are held low for an idle period of burst; the loop histories hold (R116). -/
def burstIdle (lead : Nat) (cmd : Int) : Prog := .read fun s => seqs [
  setR Reg.PHC_OUT.DUTY 0 lead,
  updChans lead fun x =>
    { x with
             edges := none, cut := false, cutSince := none, lengthen := 0, offLeft := x.offLeft - 1, packetLeft := (if x.offLeft ≤ 1 then s.rd Reg.PHC_BURST.BURST_ON lead else 0),
             iCmd := cmd }]

/-- One current-loop update (R84, R85): the duty from the command and the measured current. -/
def currentLoop (lead : Nat) (cmd meas : Int) : Prog := .read fun s =>
  let c := s.chan lead
  let target : Int := if c.burst then (10 * s.rd Reg.PHC_BURST.BURST_PK lead : Nat) else cmd
  let e := clampE (target - meas)
  let u := loopEq (s.coefs lead) .current e c.eC c.uC (s.rd Reg.PHC_DUTY_LIM.DUTY_MIN lead) (s.rd Reg.PHC_DUTY_LIM.DUTY_MAX lead)
  seqs [updChans lead fun x =>
      { x with
               eC := pushHist e x.eC, uC := pushHist u x.uC, iCmd := cmd, packetLeft := x.packetLeft - 1,
               offLeft := (if x.burst && x.packetLeft ≤ 1 then s.burstOff lead cmd else 0) },
    dutyOut lead u]

/-- The counts that shedding and adding go by (R102): updates above the add threshold, and since when the current and the
reference lie below the shed threshold. -/
def shedCounts (lead : Nat) (meas : Int) : Prog := .read fun s =>
  let n := s.nAct lead
  let below := decide (meas.natAbs < (n - 1) * (100 * s.rd Reg.PHC_SHED.SHED_I lead) ∧
    (s.irefEff lead).natAbs < (n - 1) * (100 * s.rd Reg.PHC_SHED.SHED_I lead))
  updChans lead fun x =>
    { x with
      addRun := (if meas.natAbs > n * (100 * s.rd Reg.PHC_SHED.ADD_I lead) then x.addRun + 1 else 0),
      belowSince := (if below && x.isBelow then x.belowSince else s.time), isBelow := below }

/-- The sum of a slot's phase currents is kept at every current update of the lead (R302, R518). -/
def phaseCount (lead : Nat) (meas : Int) : Prog := .read fun s =>
  if lead < 128 then
    updGauges (lead / 2) fun g => { g with phaseTot := g.phaseTot + meas * s.rd Reg.PHC_PER_EFF.PER_EFF lead }
  else .skip

/-- A phase sample in mA (R83): the voltage on its sense resistor in µV by `PHC_SENSE.RSNS`, truncated to whole mA as R84 says of every
quotient that yields a current. -/
def State.phaseMa (s : State) (c : Nat) (uv : Int) : Int := Int.tdiv (10 * uv) (s.rd Reg.PHC_SENSE.RSNS c)

/-- The sums of R108's second: every active phase's sample. -/
def imbalanceCount (lead : Nat) (ma : List (Nat × Int)) : Prog := .seq
  (each ma fun e => updChans e.1 fun x => { x with imbSum := x.imbSum + e.2 })
  (updChans lead fun x => { x with imbN := x.imbN + 1 })

/-- The currents that R124 watches: beyond the clamp bound in force by more than 1,000 mA per physical phase, or of the wrong sign beyond
500 mA. -/
def runawayCount (lead : Nat) (meas : Int) : Prog := .read fun s =>
  let bound := if s.dir lead = 0 then (s.clamps lead).2 else (s.clamps lead).1
  let beyond := decide (meas.natAbs > bound.natAbs + 1000 * s.nPhys lead)
  let wrong := if s.dir lead = 0 then decide (meas < -500) else decide (meas > 500)
  updChans lead fun x => { x with
    overSince := if beyond then some (x.overSince.getD s.time) else none
    wrongSince := if wrong then some (x.wrongSince.getD s.time) else none }

/-- CURRENT_UPDATE (R82 to R91, R116): at the centre of a period, the active phases' samples in µV on their sense resistors and the output
voltage in mV; `shadowDiffers` where the shadow compensator's result is another. -/
def execCurrentUpdate (lead : Nat) (phases : List Int) (vout : Nat) (shadowDiffers : Bool) : State → Host.Outcome State Fault Refusal :=
  ends (.read fun s =>
    if !s.isLead lead || !s.switching lead then .skip
    else
      let ma := ((s.outputOf lead).zip phases).map fun e => (e.1, s.phaseMa e.1 e.2)
      let active := ma.take (s.nAct lead)
      let meas := (active.map (·.2)).sum
      seqs [
        when (fun t => t.flag Reg.PHC_LOOP.APPLY lead) (takeCoefs lead),
        each (ma.drop 1) fun e => setR Reg.PHC_MEAS_I.MEAS_I (toField 18 (clampS 18 e.2)) e.1,
        setR Reg.PHC_MEAS_I.MEAS_I (toField 18 (clampS 18 meas)) lead, each (s.outputOf lead) fun c => setR Reg.PHC_MEAS_V.MEAS_V vout c,
        when (fun t => decide (vout > 100 * t.rd Reg.PHC_START.RISE_V lead)) (updChans lead fun x => { x with risen := true }),
        when (fun t => !((t.chan lead).burst && decide ((t.chan lead).offLeft > 0))) (voltageUpdate lead vout),
        .read fun t =>
          let cmd := t.command lead
          seqs [burstUpdate lead cmd,
            .read fun b => if (b.chan lead).burst && decide ((b.chan lead).offLeft > 0) then burstIdle lead cmd else currentLoop lead cmd meas,
            modeUpdate lead cmd],
        shedCounts lead meas, phaseCount lead meas, imbalanceCount lead active, runawayCount lead meas,
        updChans lead fun x => { x with slewLeft := x.slewLeft - s.rd Reg.PHC_PER_EFF.PER_EFF lead / 64 },
        when (fun _ => shadowDiffers && decide (s.nPhys lead > 1)) (runaway lead 0),
        if lead < 128 then each (s.guardsOf (lead / 2)) maskStandIn else .skip])

/-- RISE_ABORT (R111, R113): the output has not risen above RISE_V by RISE_TMO, or ARMED stayed 0 for 2 ms. -/
def execRiseAbort (lead : Nat) : State → Host.Outcome State Fault Refusal :=
  ends (.read fun s =>
    let c := s.chan lead
    let g := s.rd Reg.PHC_STATUS.STAGE lead
    let late := (g == 2 || g == 3) && !c.risen && decide (s.time ≥ c.riseBy)
    let unarmed := g == 1 && c.biasOk && !s.armed lead && decide (s.time ≥ c.biasAt + 2000)
    if late || unarmed then attemptFailed lead false else .skip)

/-- SOFT_LEVEL_UPDATE (R112, R115): the level advances along its table by 100 µs; the end of a soft start begins regulation,
the end of a soft stop parks the lead, and a commit that waited starts it anew. -/
def execSoftLevelUpdate (lead : Nat) (avg : Option Nat) : State → Host.Outcome State Fault Refusal :=
  ends (.read fun s =>
    let c := s.chan lead
    let k := c.softTick + 1
    match s.rd Reg.PHC_STATUS.STAGE lead with
    | 2 =>
      let r := softAt 0 1 (startTable 0 (softUsed (softSegs (s.rd Reg.PHC_SS_A.SEGS lead) (s.rd Reg.PHC_SS_B.SEGS lead)))) k
      .seq (updChans lead fun x => { x with softTick := k, softNum := r.1, softDen := r.2.1 })
        (if r.2.2 then seqs [setR Reg.PHC_STATUS.STAGE 3 lead, setR Reg.PHC_STATUS.SHORT_AT_START 0 lead,
            setR Reg.PHC_STATUS.RISE_ABORT 0 lead,
            updChans lead fun x => { x with regSince := s.time, softNum := 1, softDen := 1, fromNum := 1, fromDen := 1 }] else .skip)
    | 4 =>
      let r := softStopAt c.fromNum c.fromDen c.fromNum c.fromDen
        (stopTable 100 (softUsed (softSegs (s.rd Reg.PHC_ST_A.SEGS lead) (s.rd Reg.PHC_ST_B.SEGS lead)))) k
      .seq (updChans lead fun x => { x with softTick := k, softNum := r.1, softDen := r.2.1 })
        (if r.2.2 then seqs [leadPark lead,
            if c.again then .seq (updChans lead fun x => { x with again := false }) (leadStart lead avg) else .skip] else .skip)
    | _ => .skip)

/-- START_BACKOFF_END (R113): a new attempt with the reference then committed. -/
def execStartBackoffEnd (lead : Nat) (avg : Option Nat) : State → Host.Outcome State Fault Refusal :=
  ends (.read fun s =>
    if s.rd Reg.PHC_STATUS.STAGE lead = 5 ∧ s.time ≥ (s.chan lead).backoffUntil then
      .seq (setR Reg.PHC_STATUS.STAGE 0 lead) (leadStart lead avg)
    else .skip)

/-- RETRIES_RESET (R113): after 10 s of regulation RETRIES returns to zero. -/
def execRetriesReset (lead : Nat) : State → Host.Outcome State Fault Refusal :=
  ends (.read fun s =>
    if s.rd Reg.PHC_STATUS.STAGE lead = 3 ∧ s.time ≥ (s.chan lead).regSince + 10000000 then setR Reg.PHC_CNT.RETRIES 0 lead
    else .skip)

/-- PEAK_LIMIT_TRUNCATE (R114): a phase current of `ma` mA crosses PEAK_LIM; the pulse ends at tick `tick` of the phase's frame, at most 40 ns
after the crossing, and CBC counts. -/
def execPeakLimitTruncate (ch : Nat) (ma tick : Nat) : State → Host.Outcome State Fault Refusal :=
  ends (.read fun s =>
    if !s.flag Reg.PHC_STATUS.PARKED ch && decide (ma ≥ 100 * s.rd Reg.PHC_CTRL.PEAK_LIM ch) then
      .seq (incSat Reg.PHC_CNT.CBC ch) (updChans ch fun x =>
        { x with edges := x.edges.map fun e => edgesCut e tick, cut := true, cutSince := some (x.cutSince.getD s.time) })
    else .skip)

/-- The effect of a written ENABLE (R130): a 0 soft-stops a switching output; an output that only checks or backs off parks. -/
def enableWritten (ch : Nat) : Prog := .read fun s =>
  if s.flag Reg.PHC_CTRL.ENABLE ch then .skip
  else
    let lead := s.leadOf ch
    let g := s.rd Reg.PHC_STATUS.STAGE lead
    if g = 2 ∨ g = 3 then .seq (softStop lead) (updChans lead fun x => { x with again := false })
    else if g = 1 ∨ g = 5 then leadPark lead else .skip

/-- The effective period that SYNC_IN gives a lead (R99): floor(T_sync / (RATIO + 1)) ticks. -/
def State.syncPer (s : State) (lead t : Nat) : Nat := t / (s.rd Reg.PHC_CTRL.RATIO lead + 1)

/-- A SYNC_IN period and its effective period lie in range (R99): 12.5 kHz to 1 MHz, and 16,000 to 160,000 ticks. -/
def State.syncOk (s : State) (lead t : Nat) : Bool :=
  decide (16000 ≤ t ∧ t ≤ 1280000 ∧ 16000 ≤ s.syncPer lead t ∧ s.syncPer lead t ≤ 160000)

/-- The channels of an output run free, each at its own PER (R92, R99). -/
def freeRun (lead : Nat) : Prog := .read fun s => each (s.outputOf lead) fun c => setR Reg.PHC_PER_EFF.PER_EFF (s.rd Reg.PHC_TIMING.PER c) c

/-- Every phase of a locked output runs the lead's effective period (R99, R141). -/
def perEff (lead per : Nat) : Prog := .read fun s => each (s.outputOf lead) fun c => setR Reg.PHC_PER_EFF.PER_EFF per c

/-- Two periods agree within 1 % (R100). -/
def within1pct (a b : Nat) : Bool := decide (100 * (max a b - min a b) ≤ b)

/-- SYNC_IN_EDGE (R99): a rising edge `ticks` of 62.5 ps after the one before. Locked leads take it as their epoch; a lead
without a loss locks at the first period in range; a lead that lost SYNC_IN counts consistent edges (R100). -/
def execSyncInEdge (ticks : Nat) : State → Host.Outcome State Fault Refusal :=
  ends (each (List.range 144) fun lead => .read fun s =>
    if !s.isLead lead || !s.flag Reg.PHC_CTRL.SYNC lead then .skip
    else
      let ok := s.syncOk lead ticks
      seqs [updChans lead fun x =>
          { x with tSync := ticks, edgeAt := s.time, edgeRun := (if within1pct ticks x.tSync then x.edgeRun + 1 else 0) },
        if s.flag Reg.PHC_STATUS.SYNC_LOST lead then .skip
        else if ok then .seq (setR Reg.PHC_STATUS.SYNC_LOCK 1 lead) (perEff lead (s.syncPer lead ticks))
        else .seq (setR Reg.PHC_STATUS.SYNC_LOCK 0 lead) (freeRun lead)])

/-- SYNC_LOSS (R100): no edge for SYNC_LOSS_N periods; the lead free-runs at its last effective period. -/
def execSyncLoss (lead : Nat) (ticks : Nat) : State → Host.Outcome State Fault Refusal :=
  ends (.read fun s =>
    if s.flag Reg.PHC_CTRL.SYNC lead && s.flag Reg.PHC_STATUS.SYNC_LOCK lead &&
        decide (ticks > s.rd Reg.PHC_GCTL.SYNC_LOSS_N * (s.chan lead).tSync) then
      seqs [setR Reg.PHC_STATUS.SYNC_LOCK 0 lead, setR Reg.PHC_STATUS.SYNC_LOST 1 lead, incSat Reg.PHC_CNT.SYNC_LOSSES lead,
        updChans lead fun x => { x with edgeRun := 0 }, raisePf evSyncLost (srcChan lead) 0]
    else .skip)

/-- SYNC_RELOCK (R100): after 16 consistent edges the lead locks again and slews `offset` ticks toward the edge. -/
def execSyncRelock (lead : Nat) (offset : Nat) : State → Host.Outcome State Fault Refusal :=
  ends (.read fun s =>
    let c := s.chan lead
    if s.flag Reg.PHC_CTRL.SYNC lead && s.flag Reg.PHC_STATUS.SYNC_LOST lead && decide (c.edgeRun ≥ 16) && s.syncOk lead c.tSync then
      seqs [setR Reg.PHC_STATUS.SYNC_LOCK 1 lead, setR Reg.PHC_STATUS.SYNC_LOST 0 lead,
        perEff lead (s.syncPer lead c.tSync), updChans lead fun x => { x with slewLeft := offset }]
    else .skip)

/-- PHASE_ADD_MEASURED (R102, R103): four consecutive updates above the add threshold add one phase. -/
def execPhaseAddMeasured (lead : Nat) : State → Host.Outcome State Fault Refusal :=
  ends (.read fun s =>
    if s.flag Reg.PHC_SHED.SHED_EN lead && s.switching lead && decide ((s.chan lead).addRun ≥ 4 ∧ s.nAct lead < s.nPhys lead) then
      addPhases lead (s.nAct lead + 1)
    else .skip)

/-- PHASE_SHED (R102, R103): after SHED_DWELL below the threshold the highest active phase is shed: PWML low for 32 periods. -/
def execPhaseShed (lead : Nat) : State → Host.Outcome State Fault Refusal :=
  ends (.read fun s =>
    let c := s.chan lead
    let n := s.nAct lead
    let dwell := 1000 * s.rd Reg.PHC_SHED.SHED_DWELL lead
    if s.flag Reg.PHC_SHED.SHED_EN lead && s.switching lead && decide (n > 1) && c.isBelow &&
        decide (s.time ≥ c.belowSince + dwell ∧ s.time ≥ c.changeAt + dwell) then
      let shed := (s.outputOf lead)[n - 1]?
      seqs [setR Reg.PHC_STATUS.ACTIVE_PH (n - 1) lead, moveOffsets lead (n - 1),
        each shed.toList fun p => updChans p fun x => { x with lowRun := 0 },
        updChans lead fun x =>
          { x with
            imbChanged := true, shedding := shed, adding := x.adding.filter fun p => some p != shed, changeAt := s.time, addRun := 0,
            isBelow := false }]
    else .skip)

/-- PHASE_HANDOVER_END (R103): a phase's 32 periods with PWML held low are over; a shed phase parks, an added one switches synchronously. -/
def execPhaseHandoverEnd (lead : Nat) : State → Host.Outcome State Fault Refusal :=
  ends (.read fun s =>
    let c := s.chan lead
    let done := fun p => decide ((s.chan p).lowRun ≥ 32)
    seqs [
      each (c.shedding.toList.filter done) fun p => seqs [setR Reg.PHC_STATUS.PARKED 1 p, setR Reg.PHC_OUT.DUTY 0 p,
        updChans p fun x => { x with edges := none, pwmlLow := false, cut := false, cutSince := none, lowRun := 0 }],
      updChans lead fun x => { x with shedding := x.shedding.filter fun p => !done p, adding := x.adding.filter fun p => !done p }])

/-- A gang forms or dissolves (R105, R146, R157): the odd slot reads GANGED, or EMPTY again and scans its pin, and the leads follow. -/
def gangWritten (old : Nat) : Prog := .read fun s => seqs [
  each (List.range 32) fun g =>
    let sl := 2 * g + 1
    if hasBit old g = s.ganged g then .skip
    else if s.ganged g then gangShow sl
    else when (fun t => t.slSt sl == slGanged) (seqs [gangLeave sl, setR Reg.SLT_STATUS.STATE slEmpty sl, scanPresence sl]),
  leadFlags]

/-- The 1 s averages of an output's active phases, mA, as magnitudes (R108). -/
def State.phaseAvgs (s : State) (lead : Nat) : List Nat :=
  ((s.outputOf lead).take (s.nAct lead)).map fun c => ((s.chan c).imbSum.natAbs) / (s.chan lead).imbN

/-- The next second of R108 begins. -/
def imbalanceNext (lead : Nat) : Prog := .read fun s => .seq
  (each (s.outputOf lead) fun c => updChans c fun x => { x with imbSum := 0 })
  (updChans lead fun x => { x with imbN := 0, imbChanged := x.shedding.isSome || !x.adding.isEmpty })

/-- IMBALANCE_CHECK (R108): the end of a second, with the 1 s averages of the active phases. IMB is rounded down, and 'exceeds 25' is judged
on the rounded value (DESIGN CHOICE). A second in which the set of active phases changed yields no computation. -/
def execImbalanceCheck (lead : Nat) : State → Host.Outcome State Fault Refusal :=
  ends (.seq (.read fun s =>
    let c := s.chan lead
    let a := s.phaseAvgs lead
    let sum := a.foldl (· + ·) 0
    if c.imbChanged || c.shedding.isSome || !c.adding.isEmpty || a.isEmpty || sum == 0 then updChans lead fun x => { x with imbRun := 0 }
    else
      let imb := (a.foldl max 0 - a.foldl min (a.headD 0)) * 100 * a.length / sum
      let mean := sum / a.length
      let high := decide (imb > 25 ∧ mean ≥ 2000)
      let due := high && decide (c.imbRun + 1 ≥ 2) && (!c.imbRaised || decide (s.time ≥ c.imbAt + 60000000))
      seqs [setR Reg.PHC_IMBAL.IMB_PCT (min imb 255) lead,
        updChans lead fun x =>
          { x with
            imbRun := (if high then x.imbRun + 1 else 0), imbRaised := high && (x.imbRaised || due),
            imbAt := (if due then s.time else x.imbAt) },
        if due then raiseOutput evPhaseImbal lead (dat 16 1 (min imb 255) + dat 20 4 mean) else .skip]) (imbalanceNext lead))

/-- DRV_FAULT (R122): DRV_FLT of an output has been low for `lowNs`; 0 where the ball is high again. Its level is a cause that persists
(R182). -/
def execDrvFault (lead : Nat) (lowNs : Nat) : State → Host.Outcome State Fault Refusal :=
  ends (.seq (updChans lead fun x => { x with drvLow := decide (lowNs ≠ 0) })
    (if lowNs ≥ 200 then seqs [setR Reg.PHC_STATUS.DRV_FLT 1 lead, outputSafe lead caDriver, raiseOutput evDrvFault lead 0] else .skip))

/-- How long a condition of R124 must persist, µs, in its row order. -/
def runawayPersist : Nat → Nat
  | 0 => 0
  | 2 => 32
  | _ => 64

/-- Since when condition `cond` of R124 holds on an output; the difference from the shadow is taken at its update. -/
def State.runawaySince (s : State) (lead cond : Nat) : Option Nat :=
  let cuts := ((s.outputOf lead).take (s.nAct lead)).map fun p => (s.chan p).cutSince
  match cond with
  | 1 => (s.chan lead).overSince
  | 2 => (s.chan lead).wrongSince
  | 3 => if cuts.all Option.isSome then (cuts.filterMap id).max? else none
  | _ => none

/-- RUNAWAY (R124): condition `cond`, 0 to 3 in the row order of R124, has persisted for its time on a switching output. -/
def execRunaway (lead cond : Nat) : State → Host.Outcome State Fault Refusal :=
  ends (.read fun s =>
    match s.runawaySince lead cond with
    | some t => if s.isLead lead && s.switching lead && decide (s.time ≥ t + runawayPersist cond) then runaway lead cond else .skip
    | none => .skip)

/-- COMMIT_STALE (R125): a switching lead without a commit for 250 ms soft-stops. -/
def execCommitStale (lead : Nat) : State → Host.Outcome State Fault Refusal :=
  ends (.read fun s =>
    if s.switching lead && decide (s.time ≥ (s.chan lead).commitAt + 250000) then
      .seq (softStop lead) (raisePf evCommitStale (srcChan lead) 0)
    else .skip)

end Sys2Proof.Machine
end

