-- ==== Sys2Proof/Machine/SlotOps.lean ====
section
/-! DEFINITION. The shared operations of the slots (chapter 04): identification (R148 to R154), ownership (R155), the limits of
R152 and R161, charge phases (R163), temperature zones (R168), ceilings (R162) and the ends of charging and donor use. -/

namespace Sys2Proof.Machine

/-- A pack's limits lie in their ranges (R152): currents in 100 mA. -/
def packOk (chem cells ichg idis vchg vdis : Nat) (gang : Bool) (vmax : Nat) : Bool :=
  let top := if gang then 400 else 200
  (if chem = 0 then decide (4 ≤ cells ∧ cells ≤ 16 ∧ 3900 ≤ vchg ∧ vchg ≤ 4200 ∧ 2500 ≤ vdis ∧ vdis ≤ 3400)
   else chem == 1 && decide (4 ≤ cells ∧ cells ≤ 20 ∧ 3400 ≤ vchg ∧ vchg ≤ 3650 ∧ 2000 ≤ vdis ∧ vdis ≤ 3000)) &&
  decide (1 ≤ ichg ∧ ichg ≤ top ∧ idis ≤ top ∧ cells * vchg ≤ vmax)

/-- A pack's limits hold on a slot (R152). -/
def State.packFits (s : State) (sl : Nat) (p : PackRec) : Bool :=
  packOk p.chem p.cells p.ichg p.idis p.vchg p.vdis (s.ganged (sl / 2)) (s.rd Reg.SLT_BOARD.VMAX_BRD sl)

/-- The pack data of a type entry (R202). -/
def State.typeEntry (s : State) (t : Nat) : PackRec :=
  { chem := s.rd Reg.SLT_PTYPE_A.CHEM t, cells := s.rd Reg.SLT_PTYPE_A.CELLS t, ichg := s.rd Reg.SLT_PTYPE_A.ICHG_MAX t,
    idis := s.rd Reg.SLT_PTYPE_A.IDIS_MAX t, vchg := s.rd Reg.SLT_PTYPE_B.VCHG_CELL t, vdis := s.rd Reg.SLT_PTYPE_B.VDIS_CELL t }

/-- The pack data of a pack record (R425): currents rounded down to 100 mA. -/
def recordPack (r : List Nat) : PackRec :=
  { chem := byteAt r 1, cells := byteAt r 2, ichg := leAt r 16 2 / 100, idis := leAt r 18 2 / 100, vchg := leAt r 12 2,
    vdis := leAt r 14 2, serial := leAt r 4 8, nominal := leAt r 20 4 }

/-- The pack data at hand for a running identification: the type entry's or the authenticated record's (R151). -/
def State.identPack (s : State) (sl : Nat) : Option PackRec :=
  let t := s.rd Reg.SLT_STATUS.TYPE sl
  if (s.slot sl).method = 0 then
    (if (s.slot sl).typed ∧ t < 9 ∧ s.flag Reg.SLT_PTYPE_A.VALID t ∧ s.packFits sl (s.typeEntry t) then some (s.typeEntry t) else none)
  else (s.slot sl).pack

/-- The reason by which a running identification has failed, if it has (R153, R363). -/
def State.identFailure (s : State) (sl : Nat) : Option Nat :=
  let x := s.slot sl
  let t := s.rd Reg.SLT_STATUS.TYPE sl
  if s.slSt sl ≠ slIdentifying ∨ x.retryAt ≠ none then none
  else if x.typed ∧ t = 9 then some 0
  else if x.method = 0 ∧ x.typed ∧ ¬ s.flag Reg.SLT_PTYPE_A.VALID t then some 1
  else if x.method = 0 ∧ x.typed ∧ ¬ s.packFits sl (s.typeEntry t) then some 2
  else if x.method = 1 ∧ x.crFail ≠ none then x.crFail
  else if x.method = 1 ∧ x.pack = none ∧ s.time ≥ x.identAt + 2000000 then some 4
  else if x.ntcValid = 0 ∧ x.ntcInvalid = 3 then some 7
  else none

/-- Identification is complete (R151): a decoded type other than 9, pack data, a valid NTC reading since the pin closed. -/
def State.identDone (s : State) (sl : Nat) : Bool :=
  let x := s.slot sl
  s.slSt sl == slIdentifying && x.typed && !x.wetRunning && decide (s.rd Reg.SLT_STATUS.TYPE sl < 9) &&
    (s.identPack sl).isSome && x.ntcValid != 0

/-- The type that an ID voltage decodes to (R149). -/
def idType (mv : Nat) : Nat :=
  if mv ≤ 150 then 0 else if 282 ≤ mv ∧ mv ≤ 318 then 1 else if 405 ≤ mv ∧ mv ≤ 456 then 2
  else if 559 ≤ mv ∧ mv ≤ 631 then 3 else if 770 ≤ mv ∧ mv ≤ 868 then 4 else if 992 ≤ mv ∧ mv ≤ 1118 then 5
  else if 1256 ≤ mv ∧ mv ≤ 1416 then 6 else if 1551 ≤ mv ∧ mv ≤ 1749 then 7 else if 1861 ≤ mv ∧ mv ≤ 2099 then 8 else 9

/-- The identity window of a type (R150): an ID voltage in it decodes to that type. -/
def inWindow (t mv : Nat) : Bool := idType mv == t

/-- The default temperature window of a chemistry, in degrees (R167). -/
def tempDefault (chem : Nat) : Int × Int × Int × Int := (0, 10, 45, if chem = 0 then 50 else 55)

/-- PACK_IN's DATA (R363). -/
def State.packInData (s : State) (sl : Nat) : Nat :=
  dat 16 1 (s.rd Reg.SLT_STATUS.TYPE sl) + dat 17 1 (s.rd Reg.SLT_PACK_A.CHEM sl) + dat 18 1 (s.rd Reg.SLT_PACK_A.CELLS sl) +
  dat 19 1 (s.rd Reg.SLT_STATUS.ID_LOW sl + 2 * (s.slot sl).method) +
  dat 20 4 (s.rd Reg.SLT_PACK_ID_LO.ID_LO sl) + dat 24 4 (s.rd Reg.SLT_PACK_ID_HI.ID_HI sl)

/-- PACK_OUT's DATA: the last gauge values (R363). -/
def State.packOutData (s : State) (sl : Nat) : Nat :=
  dat 16 2 (s.rd Reg.GAU_SOC.SOC sl) + dat 20 4 (s.rd Reg.GAU_QREM.Q_REM sl) + dat 24 4 (s.rd Reg.GAU_EREM.E_REM sl)

/-- The pack is taken over: registers, temperature window, guards and gauge, then IDLE with PACK_IN (R146, R152, R167, R514). -/
def identified (sl : Nat) (p : PackRec) : Prog :=
  let w := tempDefault p.chem
  seqs [
    setR Reg.SLT_PACK_A.CHEM p.chem sl, setR Reg.SLT_PACK_A.CELLS p.cells sl, setR Reg.SLT_PACK_A.ICHG_MAX p.ichg sl,
    setR Reg.SLT_PACK_A.IDIS_MAX p.idis sl, setR Reg.SLT_PACK_B.VCHG_CELL p.vchg sl, setR Reg.SLT_PACK_B.VDIS_CELL p.vdis sl,
    setR Reg.SLT_PACK_ID_LO.ID_LO (p.serial % 2 ^ 32) sl, setR Reg.SLT_PACK_ID_HI.ID_HI (p.serial / 2 ^ 32) sl,
    setR Reg.SLT_TEMP_WIN.T1 (toField 8 w.1) sl, setR Reg.SLT_TEMP_WIN.T2 (toField 8 w.2.1) sl,
    setR Reg.SLT_TEMP_WIN.T3 (toField 8 w.2.2.1) sl, setR Reg.SLT_TEMP_WIN.T4 (toField 8 w.2.2.2) sl,
    .read fun s => updSlots sl fun x => { x with pack := some p, pollAt := s.time, icap := none, donorGrant := false },
    fgArm sl, setR Reg.SLT_STATUS.STATE slIdle sl,
    .read fun s => raiseSlot evPackIn sl (s.packInData sl),
    gaugeStart sl p.nominal]

/-- V_pack / CELLS is at or above `mv` (R163). -/
def State.cellAt (s : State) (sl mv : Nat) : Bool := decide (mv * s.rd Reg.SLT_PACK_A.CELLS sl ≤ s.rd Reg.SLT_VPACK.VPACK sl)

/-- The thresholds per cell of R163: refuse, pre-charge and constant current. -/
def thRefuse (chem : Nat) : Nat := if chem = 0 then 2000 else 1500
def thPre (chem : Nat) : Nat := if chem = 0 then 2500 else 2000
def thCc (chem : Nat) : Nat := if chem = 0 then 3000 else 2500

/-- The phase the pack voltage selects among TRICKLE, PRE and CC (R163). -/
def State.phaseByV (s : State) (sl : Nat) : Nat :=
  let chem := s.rd Reg.SLT_PACK_A.CHEM sl
  if s.cellAt sl (thCc chem) then 3 else if s.cellAt sl (thPre chem) then 2 else 1

/-- The charge moves to a phase, with a new phase timer (R164 to R166, R199). -/
def toPhase (sl ph : Nat) : Prog := .read fun s => seqs [
  when (fun s => s.rd Reg.SLT_STATUS.PHASE sl != 0) (setR Reg.SLT_STATUS.PHASE ph sl),
  updSlots sl fun x => { x with curPhase := ph, tPhase := 0, phaseAt := s.time, upRun := 0, sagRun := 0 },
  setR Reg.SLT_TIME.PH_TIME 0 sl]

/-- The accepted profile, with its defaults (R161). -/
def State.profileFill (s : State) (sl : Nat) (p : Profile) : Profile :=
  let imax := min (100 * s.rd Reg.SLT_PACK_A.ICHG_MAX sl) (100 * s.rd Reg.SLT_BOARD.IMAX_BRD sl)
  let icc := if p.icc = 0 then imax else p.icc
  let ipre := if p.ipre = 0 then min 500 icc else p.ipre
  { cvCell := if p.cvCell = 0 then s.rd Reg.SLT_PACK_B.VCHG_CELL sl else p.cvCell
    icc, ipre
    itrickle := if p.itrickle = 0 then min 100 ipre else p.itrickle
    taper := if p.taper = 0 then max 20 (min 5000 (min (icc / 20) (icc - 1))) else p.taper
    cvMax := if p.cvMax = 0 then 120 else p.cvMax
    totalMax := if p.totalMax = 0 then 120 else p.totalMax
    trickleMax := if p.trickleMax = 0 then 30 else p.trickleMax
    preMax := if p.preMax = 0 then 60 else p.preMax
    prio := p.prio }

/-- The offset of the first field of a profile that lies outside its range or bound (R161, R357). -/
def State.profileBad (s : State) (sl : Nat) (p : Profile) : Option Nat :=
  let q := s.profileFill sl p
  let chem := s.rd Reg.SLT_PACK_A.CHEM sl
  let imax := min (100 * s.rd Reg.SLT_PACK_A.ICHG_MAX sl) (100 * s.rd Reg.SLT_BOARD.IMAX_BRD sl)
  let lo := if chem = 0 then 3900 else 3400
  if q.cvCell < lo ∨ s.rd Reg.SLT_PACK_B.VCHG_CELL sl < q.cvCell then some 16
  else if q.icc < 100 ∨ imax < q.icc then some 18
  else if q.ipre < 100 ∨ 2000 < q.ipre ∨ q.icc < q.ipre then some 20
  else if q.itrickle < 50 ∨ 500 < q.itrickle ∨ q.ipre < q.itrickle then some 22
  else if q.taper < 20 ∨ 5000 < q.taper ∨ q.icc ≤ q.taper then some 24
  else if q.cvMax < 10 ∨ 600 < q.cvMax then some 26
  else if q.totalMax < 10 ∨ 240 < q.totalMax then some 28
  else if q.trickleMax < 1 ∨ 120 < q.trickleMax then some 29
  else if q.preMax < 1 ∨ 120 < q.preMax then some 30
  else none

/-- A charge begins by the profile in force (R161, R188 step 6): CHARGING, queued. -/
def chargeRestart (sl : Nat) : Prog := .read fun s => seqs [
  setR Reg.SLT_STATUS.STATE slCharging sl, setR Reg.SLT_STATUS.PHASE 0 sl,
  setR Reg.SLT_TIME.PH_TIME 0 sl, setR Reg.SLT_TIME.CHG_TIME 0 sl,
  updSlots sl fun x =>
    { x with
      curPhase := s.phaseByV sl, tPhase := 0, tTotal := 0, tCv := 0, tSun := 0, sunOn := false, phaseAt := s.time, chargeAt := s.time,
      cvSeen := false, upRun := 0, sagRun := 0, taperBits := 0, taperAt := 0, belowSince := none, audBelowSince := none, chargeQ := 0,
      endReason := none, cvOrderAt := none }]

/-- A charge begins with an accepted profile (R161, R198). -/
def chargeBegin (sl : Nat) (p : Profile) : Prog := seqs [
  setR Reg.SLT_PROF_A.CV_CELL p.cvCell sl, setR Reg.SLT_PROF_A.ICC (p.icc / 100) sl,
  setR Reg.SLT_PROF_B.IPRE (p.ipre / 20) sl, setR Reg.SLT_PROF_B.ITRICKLE (p.itrickle / 10) sl,
  setR Reg.SLT_PROF_B.TAPER (min (p.taper / 20) 255) sl,
  setR Reg.SLT_TIMERS.CV_MAX p.cvMax sl, setR Reg.SLT_TIMERS.TOTAL_MAX p.totalMax sl,
  setR Reg.SLT_TIMERS.TRICKLE_MAX p.trickleMax sl, setR Reg.SLT_TIMERS.PRE_MAX p.preMax sl,
  updSlots sl fun x => { x with icc := p.icc, ipre := p.ipre, itrickle := p.itrickle, taper := p.taper },
  chargeRestart sl]

/-- The zone of a pair of readings in 0.1 °C by the boundaries of R167, which `h1` to `h4` move inward. With one reading below T1 or T2 and
the other above T3 or T4, a suspending zone comes first: 4, then 0, then 1, then 3 (DESIGN CHOICE: the spec orders none). -/
def zoneAt (cold hot t1 t2 t3 t4 h1 h2 h3 h4 : Int) : Nat :=
  if 10 * t4 - h4 < hot then 4 else if cold < 10 * t1 + h1 then 0 else if cold < 10 * t2 + h2 then 1
  else if 10 * t3 - h3 < hot then 3 else 2

/-- The new zone from the present one (R168): a boundary that the present zone lies beyond is crossed back only 2.0 °C inside it; 7 with
no valid reading. -/
def zoneNext (cur : Nat) (cold hot : Option Int) (t1 t2 t3 t4 : Int) : Nat :=
  let back := fun (b : Bool) => if b then (20 : Int) else 0
  match cold, hot with
  | some c, some h => zoneAt c h t1 t2 t3 t4 (back (cur == 0)) (back (cur ≤ 1)) (back (cur == 3 || cur == 4)) (back (cur == 4))
  | _, _ => 7

/-- An NTC register as a temperature in 0.1 °C; none for the invalid code (R199). -/
def ntcTemp (v : Nat) : Option Int := if v = 0x8000 then none else some (ofField 16 v)

/-- The valid NTC temperatures of a slot. -/
def State.ntcs (s : State) (sl : Nat) : List Int :=
  ([s.rd Reg.SLT_TEMP.NTC_A sl, s.rd Reg.SLT_TEMP.NTC_B sl].map ntcTemp).filterMap id

/-- The colder and the hotter valid NTC (R168). -/
def State.ntcCold (s : State) (sl : Nat) : Option Int := (s.ntcs sl).head?.map fun a => (s.ntcs sl).foldl min a
def State.ntcHot (s : State) (sl : Nat) : Option Int := (s.ntcs sl).head?.map fun a => (s.ntcs sl).foldl max a

/-- LOOP_MODE of a slot's lead has read constant voltage for `us` (R164, R175). -/
def State.cvFor (s : State) (sl us : Nat) : Bool :=
  match (s.chan (s.slotLead sl)).cvSince with
  | some t => decide (s.time ≥ t + us)
  | none => false

/-- The charge is in CV and current is planned for it (R161, R172, R188). -/
def State.inCv (s : State) (sl : Nat) : Bool := s.slSt sl == slCharging && s.rd Reg.SLT_STATUS.PHASE sl == 4

/-- A suspended charge goes on (R146): queued until the plan grants current. -/
def chargeResume (sl : Nat) : Prog := .seq (setR Reg.SLT_STATUS.STATE slCharging sl) (setR Reg.SLT_STATUS.PHASE 0 sl)

/-- An AUDIT in its discharge pauses (R188 step 4): its donor soft-stops and stays DONOR. -/
def auditPause (sl : Nat) : Prog := .read fun s => seqs [
  parkCounted sl, updSlots sl fun x => { x with audStep := 4, pauseAt := s.time },
  softStop (s.slotLead sl)]

/-- A zone change acts on the slot (R146, R168 to R170, R189). -/
def zoneAct (sl new : Nat) : Prog := .read fun s =>
  let st := s.slSt sl
  let out := new = 0 ∨ new = 4
  if st = slSuspended ∧ ¬ out ∧ new ≠ 7 then chargeResume sl
  else if st = slDonor ∧ out then
    (if s.rd Reg.SLT_STATUS.ROLE sl = 1 then transferStop sl 5
     else if (s.slot sl).audStep ≠ 0 then
       .seq (updSlots sl fun x => { x with audBad := x.audBad || decide (x.audStep ≥ 3) }) (if (s.slot sl).audStep = 3 then auditPause sl else .skip)
     else stopSlot sl slIdle none)
  else .skip

/-- The zone is decided at a new NTC result (R168), with TEMP_ZONE where it changes. -/
def zoneUpdate (sl : Nat) : Prog := .read fun s =>
  let t := fun f => ofField 8 (s.rd f sl)
  let cur := s.rd Reg.SLT_STATUS.ZONE sl
  let new := zoneNext cur (s.ntcCold sl) (s.ntcHot sl) (t Reg.SLT_TEMP_WIN.T1) (t Reg.SLT_TEMP_WIN.T2) (t Reg.SLT_TEMP_WIN.T3) (t Reg.SLT_TEMP_WIN.T4)
  if new = cur then .skip
  else seqs [setR Reg.SLT_STATUS.ZONE new sl,
    raiseSlot evTempZone sl (dat 16 1 cur + dat 17 1 new + dat 18 2 (s.rd Reg.SLT_TEMP.NTC_A sl) + dat 20 2 (s.rd Reg.SLT_TEMP.NTC_B sl)),
    zoneAct sl new]

/-- A new NTC result of a slot (R168, R171, R268): input 0 NTC_A, 1 NTC_B; none where the reading is invalid. `since` is true
for a conversion that started after the ID pin closed (R151). -/
def ntcResult (sl input : Nat) (temp : Option Int) (since : Bool) : Prog := .read fun s =>
  let code := match temp with | some t => toField 16 t | none => 0x8000
  let bad := temp.isNone
  let fld := if input = 0 then Reg.SLT_STATUS.NTC_A_BAD else Reg.SLT_STATUS.NTC_B_BAD
  if s.oddGanged sl then .skip
  else seqs [
    setR (if input = 0 then Reg.SLT_TEMP.NTC_A else Reg.SLT_TEMP.NTC_B) code sl,
    if since && (s.slot sl).idClosed then updSlots sl fun x =>
      { x with
        ntcValid := if bad then x.ntcValid else setBit x.ntcValid input,
        ntcInvalid := if bad then setBit x.ntcInvalid input else x.ntcInvalid } else .skip,
    when (fun t => t.flag fld sl != bad) (.seq (setR fld (bit bad) sl)
      (.read fun t => if bad then raiseSlot evNtcFault sl (dat 16 1 (t.rd Reg.SLT_STATUS.NTC_A_BAD sl + 2 * t.rd Reg.SLT_STATUS.NTC_B_BAD sl)) else .skip)),
    .read fun t => updSlots sl fun x =>
      { x with
          ntcBothSince := if t.flag Reg.SLT_STATUS.NTC_A_BAD sl && t.flag Reg.SLT_STATUS.NTC_B_BAD sl
          then some (x.ntcBothSince.getD t.time) else none },
    zoneUpdate sl]

/-- A new pack-voltage result of a slot (R164, R165, R268): `SLT_VPACK` follows and the runs of readings are counted. -/
def vpackResult (sl mv : Nat) : Prog := .read fun s =>
  if s.oddGanged sl then .skip
  else seqs [
    setR Reg.SLT_VPACK.VPACK mv sl,
    .read fun t =>
      let x := t.slot sl
      let chem := t.rd Reg.SLT_PACK_A.CHEM sl
      let next := if x.curPhase = 1 then thPre chem else thCc chem
      updSlots sl fun x =>
        { x with
          upRun := if (x.curPhase = 1 ∨ x.curPhase = 2) ∧ t.cellAt sl next then x.upRun + 1 else 0,
          sagRun := if x.curPhase = 3 ∧ ¬ t.cellAt sl (thCc chem - 100) then x.sagRun + 1 else 0 }]

/-- The current of the present charge phase, mA (R163). -/
def State.phaseCurrent (s : State) (sl : Nat) : Nat :=
  let x := s.slot sl
  match x.curPhase with
  | 1 => x.itrickle
  | 2 => x.ipre
  | 3 | 4 => x.icc
  | _ => 0

/-- The power term of R162, mA. -/
def State.powerLimit (s : State) (sl : Nat) : Nat :=
  let v := s.rd Reg.SLT_VPACK.VPACK sl
  if v = 0 then 131071 else (if s.ganged (sl / 2) then 2688000000 else 1344000000) / v

/-- The charge ceiling that the sequencer gives the Almanac, mA (R162, R169). -/
def State.slotCeiling (s : State) (sl : Nat) : Nat :=
  let z := s.rd Reg.SLT_STATUS.ZONE sl
  let p := s.phaseCurrent sl
  let zoned := if z = 0 ∨ z = 4 ∨ z = 7 then 0 else if z = 1 then p / 2 else p
  let c := min zoned (s.powerLimit sl)
  match (s.slot sl).icap with
  | some cap => min c cap
  | none => c

/-- The CV voltage per cell in force: lowered in zone 3 (R167, R169). -/
def State.cvCell (s : State) (sl : Nat) : Nat :=
  let cv := s.rd Reg.SLT_PROF_A.CV_CELL sl
  if s.rd Reg.SLT_STATUS.ZONE sl = 3 then cv - (if s.rd Reg.SLT_PACK_A.CHEM sl = 0 then 100 else 50) else cv

/-- The TRANSFER that a slot receives ends (R185). -/
def receiptEnd (sl xfer : Nat) : Prog := .read fun s =>
  match (if s.flag Reg.SLT_STATUS.RECEIVER sl then s.donorOf sl else none) with
  | some d => transferStop d xfer
  | none => .skip

/-- A charge ends with CHARGE_END (R173, R185): a TRANSFER it receives ends too. -/
def endCharge (sl reason xfer : Nat) : Prog := .seq (receiptEnd sl xfer) (stopSlot sl slIdle (some reason))

/-- CV_MAX has expired on a slot: the sequencer's timer or the Sundial's (R175). -/
def State.cvExpired (s : State) (sl : Nat) : Bool :=
  let x := s.slot sl
  let m := 6000 * s.rd Reg.SLT_TIMERS.CV_MAX sl
  (x.curPhase == 4 && decide (x.tCv ≥ m)) || (x.sunOn && decide (x.tSun ≥ m))

/-- A phase timer that has expired makes the slot FAULTED (R166): TRICKLE_MAX or PRE_MAX, cause TIMER; TOTAL_MAX, cause TOTAL. -/
def phaseTimeout (sl : Nat) : Prog := .read fun s =>
  let x := s.slot sl
  if s.slSt sl ≠ slCharging then .skip
  else if x.curPhase = 1 ∧ x.tPhase ≥ 6000 * s.rd Reg.SLT_TIMERS.TRICKLE_MAX sl then slotSafe sl caTimer
  else if x.curPhase = 2 ∧ x.tPhase ≥ 6000 * s.rd Reg.SLT_TIMERS.PRE_MAX sl then slotSafe sl caTimer
  else if 1 ≤ x.curPhase ∧ x.tTotal ≥ 36000 * s.rd Reg.SLT_TIMERS.TOTAL_MAX sl then slotSafe sl caTotal
  else .skip

/-- CV_MAX has expired (R166, R175): the charge soft-stops and ends once, with reason CV_MAX. An AUDIT in its fill step ends with
it; the spec gives no `end` code for that, so the code is a free value. -/
def cvTimeout (sl : Nat) : Prog := .read fun s =>
  if (s.slSt sl = slCharging ∨ s.slSt sl = slSuspended) ∧ s.cvExpired sl then seqs [
    when (fun _ => (s.slot sl).audStep != 0) (withFree fun v => auditEnd sl (v % 256) false),
    updSlots sl fun x => { x with cvOrderAt := some s.time },
    endCharge sl 1 3]
  else .skip

/-- A slot's expired timers come before any descriptor at the same time (R193). -/
def timersFirst (sl : Nat) : Prog := .seq (phaseTimeout sl) (cvTimeout sl)

/-- Whatever runs on a slot ends on the host's word (R146, R155, R190): a charge with its reason, a TRANSFER with HOST, an
AUDIT with HOST and no valid result; the slot then goes to `after`. -/
def endAll (sl reason after : Nat) : Prog := .read fun s =>
  let aud := (s.slot sl).audStep != 0
  let st := s.slSt sl
  seqs [
    when (fun _ => aud) (auditEnd sl 1 false),
    if st = slCharging ∨ st = slSuspended then
      (if aud then stopSlot sl after none else .seq (endCharge sl reason 3) (updSlots sl fun x => { x with afterStop := after }))
    else if st = slDonor then
      (if s.rd Reg.SLT_STATUS.ROLE sl = 1 then .seq (transferEnd sl 4) (stopSlot sl after none) else stopSlot sl after none)
    else .skip]

/-- Both feeds of a slot's Planter have failed (R20, R537). -/
def State.feedsLost (s : State) (sl : Nat) : Bool :=
  let f := s.rd Reg.GLB_HEALTH_FE.FEED_LOST
  hasBit f (2 * (sl / 16)) && hasBit f (2 * (sl / 16) + 1)

/-- A frost-guard trip of the slot is due at the present microsecond (R545): a clear that meets it is refused. -/
def State.tripDue (s : State) (sl : Nat) : Bool := s.pending.any fun c =>
  match c with
  | .fgOvTrip g _ _ => s.carrier g == sl
  | .fgOcTrip g _ _ => s.carrier g == sl
  | .fgRvTrip g _ _ => s.carrier g == sl
  | .fgNtcTrip g _ _ _ => s.carrier g == sl
  | .identityLoss g _ _ => g == sl
  | _ => false

/-- The cause of a slot's fault persists (R182, R517): a tripped comparator still sees its condition, by the last readings, both NTCs are
invalid, a DRV_FLT of its output is low, or its Planter has no feed. The currents of a parked slot with DISC open are zero. -/
def State.causePersists (s : State) (sl : Nat) : Bool :=
  let ov := (s.slot sl).idClosed && (s.guardsOf sl).any fun g =>
    s.flag Reg.SAF_FG_B.TRIP_OV g && decide (20 * s.rd Reg.SAF_FG_A.OV_TH g < s.rd Reg.SLT_VPACK.VPACK sl)
  let hot := s.flag Reg.SAF_FG_B.TRIP_NTC sl && (match s.ntcHot sl with
    | some t => decide (10 * (s.rd Reg.SLT_GCFG.T_OT : Int) < t)
    | none => false)
  let ntc := s.rd Reg.SLT_FAULT.CAUSE sl == caNtc && s.flag Reg.SLT_STATUS.NTC_A_BAD sl && s.flag Reg.SLT_STATUS.NTC_B_BAD sl
  let feed := s.rd Reg.SLT_FAULT.CAUSE sl == caFrontEnd && s.rd Reg.SAF_FG_B.SUBCAUSE sl == 9 && s.feedsLost sl
  ov || hot || ntc || feed || (s.chan (s.slotLead sl)).drvLow || s.tripDue sl

/-- An output leaves its faulted stage: the flags and the retry count that R113 and R131 clear with it. -/
def outputClear (lead : Nat) : Prog := seqs [
  setR Reg.PHC_STATUS.STAGE 0 lead, setR Reg.PHC_STATUS.RUNAWAY 0 lead, setR Reg.PHC_STATUS.DRV_FLT 0 lead,
  setR Reg.PHC_STATUS.SHORT_AT_START 0 lead, setR Reg.PHC_STATUS.RISE_ABORT 0 lead, setR Reg.PHC_CNT.RETRIES 0 lead]

/-- The pair that runs a task (R507). -/
def State.hostOf (s : State) (t : Nat) : Nat := s.rd Reg.ENG_TASK.HOST t

/-- The bed that runs a slot's supervisor pair. -/
def State.slotBed (s : State) (sl : Nat) : Nat := s.hostOf (26 * (sl / 4) + 6 * (sl % 4) + 5) / 32

/-- A bed is in a round, which lasts 60 ms (R556). -/
def State.inRound (s : State) (b : Nat) : Bool := s.eng.rounds.any fun r => r.1 == b && decide (s.time < r.2 + 60000)

/-- A slot's supervisor pair is in retention (R556, R617). -/
def State.slotRests (s : State) (sl : Nat) : Bool := s.mode == mSentinel && !s.inRound (s.slotBed sl)

/-- A write to an address of PF BAR0 waits for the next round of the slot whose SLT registers hold it (R617), behind those that wait already. -/
def State.sltWaits (s : State) (a : Nat) : Bool :=
  decide (0x30000 ≤ a ∧ a < 0x34000) &&
    (s.slotRests ((a - 0x30000) / 0x100) || s.eng.sltWrites.any fun w => w.1 / 0x100 == a / 0x100)

/-- A written word waits (R617). -/
def sltLater (a v : Nat) : Prog := updEng fun e => { e with sltWrites := e.sltWrites ++ [(a, v)] }

/-- A task that repeated faults stopped runs again, from its checkpoint, once the fault is cleared (R522). -/
def taskAgain (t : Nat) : Prog := when (fun s => (s.task t).stopped) (.read fun s => seqs [
    setR Reg.ENG_TASK.STATE (if s.hostOf t = homePair t then 0 else 1) t,
    updTasks t fun x => { x with stopped := false, faults := [], queue := [], mem := x.ckptMem, seq := x.ckptSeq, loaded := none }])

/-- The tasks of a slot that repeated faults stopped. -/
def tasksResume (sl : Nat) : Prog := each (List.range 6) fun k => taskAgain (26 * (sl / 4) + 6 * (sl % 4) + k)

/-- The fault of a FAULTED slot clears (R182, R517, R521): its supply returns, and the slot identifies its pack afresh. -/
def faultClear (sl : Nat) : Prog := .read fun s => seqs [
  setR Reg.SLT_FAULT.FAULTED 0 sl,
  each (s.guardsOf sl) fun g => seqs [
    setR Reg.SAF_FG_B.TRIP_OV 0 g, setR Reg.SAF_FG_B.TRIP_OC 0 g, setR Reg.SAF_FG_B.TRIP_RV 0 g, setR Reg.SAF_FG_B.TRIP_NTC 0 g,
    setR Reg.SAF_FG_B.TRIP_ID 0 g, setR Reg.SAF_FG_B.TEST_FAIL 0 g, setR Reg.SAF_FG_B.SUBCAUSE 0 g,
    updSlots g fun x => { x with isolated := false }],
  updSlots sl fun x => { x with fgErrAt := none, xchkRun := 0 },
  updR Reg.SAF_STATUS.FAULTED_CNT fun t => ((List.range 64).filter fun k => t.flag Reg.SLT_FAULT.FAULTED k).length,
  outputClear (s.slotLead sl), tasksResume sl,
  finalSnapshot sl, packForget sl,
  if !s.flag Reg.SLT_CFG.ENABLE sl then setR Reg.SLT_STATUS.STATE slOff sl
  else if (s.slot sl).idClosed then identBegin sl
  else setR Reg.SLT_STATUS.STATE slEmpty sl]

/-- A slot's owner changes once its keep record has committed (R155): the final snapshot to the earlier owner, the earlier
owner's transfers cancelled (R421), and identification afresh. What the new owner has started meanwhile ends first, as by a release
(DESIGN CHOICE: the spec does not say how). -/
def ownerCommit (sl : Nat) (fn : Option Nat) : Prog := .read fun s =>
  let old := s.ownerOrPf sl
  let st := s.slSt sl
  seqs [
    finalSnapshot sl,
    when (fun _ => s.flag Reg.SLT_OWNER.CLAIMED sl) (busCancel sl (jobOf old)),
    (match fn with
     | some f => .seq (setR Reg.SLT_OWNER.CLAIMED 1 sl) (setR Reg.SLT_OWNER.OWNER f sl)
     | none => .seq (setR Reg.SLT_OWNER.CLAIMED 0 sl) (setR Reg.SLT_OWNER.OWNER 0 sl)),
    -- a change accepted since still waits for its own record
    updSlots sl fun x => { x with pendingOwner := if x.pendingOwner = some fn then none else x.pendingOwner },
    useUpdate old, (match fn with | some f => useUpdate f | none => .skip),
    if ¬ (s.slot sl).idClosed then .skip
    else if st = slIdentifying ∨ st = slIdle ∨ st = slIdentFail then reidentify sl
    else if st = slCharging ∨ st = slSuspended ∨ st = slDonor then endAll sl 2 slIdentifying
    else if st = slStopping then updSlots sl fun x => { x with afterStop := slIdentifying }
    else .skip]

end Sys2Proof.Machine
end

