-- ==== Sys2Proof/Machine/Charging.lean ====
section
/-! DEFINITION. Charging, TRANSFER and AUDIT as time and readings move them (chapter 04, R161 to R175, R183 to R190). -/

namespace Sys2Proof.Machine

/-- CHARGE_PHASE_ADVANCE (R164): five consecutive readings at or above the next threshold, in TRICKLE or PRE. -/
def execChargePhaseAdvance (sl : Nat) : State → Host.Outcome State Fault Refusal :=
  ends (.read fun s =>
    let x := s.slot sl
    if s.slSt sl = slCharging ∧ (x.curPhase = 1 ∨ x.curPhase = 2) ∧ x.upRun ≥ 5 then toPhase sl (x.curPhase + 1) else .skip)

/-- CV_ENTRY (R164, R172, R175): LOOP_MODE has read constant voltage for 1 s. The Sundial's CV_MAX timer starts too. -/
def execCvEntry (sl : Nat) : State → Host.Outcome State Fault Refusal :=
  ends (.read fun s =>
    let x := s.slot sl
    if s.slSt sl = slCharging ∧ 1 ≤ x.curPhase ∧ x.curPhase ≤ 3 ∧ s.rd Reg.SLT_STATUS.PHASE sl ≠ 0 ∧ s.cvFor sl 1000000 then seqs [
      toPhase sl 4,
      updSlots sl fun x => { x with cvSeen := true, sunOn := true, cvCurrent := (s.iAvg sl).natAbs, cvAt := s.time, taperBits := 0 }]
    else .skip)

/-- PACK_SAG (R165): five consecutive readings more than 100 mV per cell below the constant-current threshold, in CC. -/
def execPackSag (sl : Nat) : State → Host.Outcome State Fault Refusal :=
  ends (.read fun s =>
    if s.slSt sl = slCharging ∧ (s.slot sl).curPhase = 3 ∧ (s.slot sl).sagRun ≥ 5 then
      .seq (raiseSlot evPackSag sl (dat 16 4 (s.rd Reg.SLT_VPACK.VPACK sl) + dat 20 4 (toField 32 (s.iAvg sl)))) (toPhase sl 2)
    else .skip)

/-- CHARGE_PHASE_TIMEOUT (R166): TRICKLE_MAX or PRE_MAX, cause TIMER; TOTAL_MAX, cause TOTAL. -/
def execChargePhaseTimeout (sl : Nat) : State → Host.Outcome State Fault Refusal :=
  ends (phaseTimeout sl)

/-- CV_MAX_EXPIRY (R166, R175): the charge ends, with reason CV_MAX. -/
def execCvMaxExpiry (sl : Nat) : State → Host.Outcome State Fault Refusal :=
  ends (cvTimeout sl)

/-- CV_MAX_PARK_FAIL (R175): the lead has not parked 1 s after the order. -/
def execCvMaxParkFail (sl : Nat) : State → Host.Outcome State Fault Refusal :=
  ends (.read fun s =>
    match (s.slot sl).cvOrderAt with
    | some t => if s.slSt sl = slStopping ∧ ¬ s.outputParked (s.slotLead sl) ∧ s.time ≥ t + 1000000 then slotSafe sl caTimer else .skip
    | none => .skip)

/-- SLOT_SUSPEND (R169): a zero-ceiling zone, and the Almanac has ramped the reference to zero. -/
def execSlotSuspend (sl : Nat) : State → Host.Outcome State Fault Refusal :=
  ends (.read fun s =>
    let z := s.rd Reg.SLT_STATUS.ZONE sl
    if s.slSt sl = slCharging ∧ (z = 0 ∨ z = 4 ∨ z = 7) ∧ s.refI (s.slotLead sl) = 0 then setR Reg.SLT_STATUS.STATE slSuspended sl
    else .skip)

/-- A TAPER event of a step (R172, R363). -/
def taperEvent (sl step : Nat) (i : Int) : Prog := .read fun s =>
  raiseSlot evTaper sl (dat 16 1 step + dat 20 4 (toField 32 i) + dat 24 4 ((s.time - (s.slot sl).cvAt) / 1000000))

/-- TAPER_CHECK (R172): in CV, each step the 1 s average current has fallen below for the first time, and the repeat every 60 s. -/
def execTaperCheck (sl : Nat) : State → Host.Outcome State Fault Refusal :=
  ends (.read fun s =>
    let x := s.slot sl
    let i := (s.iAvg sl).natAbs
    if ¬ s.inCv sl then .skip
    else
      let crossed := fun k => match k with
        | 0 => decide (2 * i < x.cvCurrent)
        | 1 => decide (4 * i < x.cvCurrent)
        | 2 => decide (10 * i < x.cvCurrent)
        | _ => decide (i < x.taper)
      seqs [
        each [0, 1, 2, 3] fun k =>
          if crossed k && !hasBit x.taperBits k then
            .seq (taperEvent sl k (s.iAvg sl)) (updSlots sl fun y => { y with taperBits := setBit y.taperBits k, taperAt := if k = 3 then s.time else y.taperAt })
          else .skip,
        if i ≥ x.taper then updSlots sl fun y => { y with taperAt := s.time }
        else if hasBit x.taperBits 3 ∧ s.time ≥ x.taperAt + 60000000 then
          .seq (taperEvent sl 4 (s.iAvg sl)) (updSlots sl fun y => { y with taperAt := s.time })
        else .skip])

/-- The reason by which a TRANSFER's own conditions end it (R185), if one holds. -/
def State.transferDue (s : State) (sl : Nat) : Option Nat :=
  let x := s.slot sl
  let lead := s.slotLead sl
  let peer := s.rd Reg.SLT_LINK.PEER sl
  if s.rd Reg.PHC_STATUS.LOOP_MODE lead = 2 ∧ s.rd Reg.PHC_REF_V.REF_V lead = s.rd Reg.SLT_PACK_A.CELLS sl * x.floorCell ∧
      10 * (s.iAvg sl).natAbs < x.imax then some 0
  else if x.socFloor ≠ 0 ∧ s.rd Reg.GAU_SOC.SOC sl ≤ x.socFloor then some 1
  else if x.emax ≠ 0 ∧ x.eOut ≥ x.emax then some 2
  else if peer < 64 ∧ s.slSt peer ≠ slCharging ∧ s.slSt peer ≠ slSuspended then some 3
  else if 0x80 ≤ peer ∧ peer < 0x88 ∧ s.rd Reg.PDP_STATUS.CONTRACT (peer - 0x80) = 0 then some 3
  else if s.rd Reg.SLT_STATUS.ZONE sl = 0 ∨ s.rd Reg.SLT_STATUS.ZONE sl = 4 then some 5
  else none

/-- TRANSFER_END (R185): an end condition of the donor's TRANSFER holds. -/
def execTransferEnd (sl : Nat) : State → Host.Outcome State Fault Refusal :=
  ends (.read fun s =>
    if s.slSt sl = slDonor ∧ s.rd Reg.SLT_STATUS.ROLE sl = 1 then
      (match s.transferDue sl with | some r => transferStop sl r | none => .skip)
    else .skip)

/-- AUDIT_FILL_COMPLETE (R188 step 2): below AUD_TAPER in CV for 60 s; the lead soft-stops and the rest begins. -/
def execAuditFillComplete (sl : Nat) : State → Host.Outcome State Fault Refusal :=
  ends (.read fun s =>
    let x := s.slot sl
    match x.audBelowSince with
    | some t =>
      if s.slSt sl = slCharging ∧ x.audStep = 1 ∧ x.curPhase = 4 ∧ s.time ≥ t + 60000000 then seqs [
        setR Reg.SLT_STATUS.STATE slDonor sl, setR Reg.SLT_STATUS.PHASE 0 sl, setR Reg.SLT_STATUS.ROLE 2 sl,
        setR Reg.SLT_LINK.PEER 0xFE sl,
        updSlots sl fun x => { x with audStep := 2, restAt := s.time, curPhase := 0, sunOn := false },
        softStop (s.slotLead sl)]
      else .skip
    | none => .skip)

/-- AUDIT_REST_END (R188 step 3): after REST the counters are zeroed and the plan starts the lead in REV_I. In zone 0 or 4 the discharge
pauses at once (R170) and the result is not valid (R189). -/
def execAuditRestEnd (sl : Nat) : State → Host.Outcome State Fault Refusal :=
  ends (.read fun s =>
    let x := s.slot sl
    if x.audStep = 2 ∧ s.outputParked (s.slotLead sl) ∧ s.time ≥ x.restAt + 60000000 * x.audRest then
      .seq (updSlots sl fun x => { x with audStep := 3, audQ := 0, audE := 0, audEFrac := 0, pauseTotal := 0, audBad := false })
        (when (fun _ => s.rd Reg.SLT_STATUS.ZONE sl == 0 || s.rd Reg.SLT_STATUS.ZONE sl == 4)
          (.seq (updSlots sl fun x => { x with audBad := true }) (auditPause sl)))
    else .skip)

/-- AUDIT_PAUSE (R188 step 4, R218): the absorbable current lies below AUD_I / 4. -/
def execAuditPause (sl : Nat) : State → Host.Outcome State Fault Refusal :=
  ends (.read fun s =>
    if (s.slot sl).audStep = 3 ∧ 4 * (s.slot sl).absorb < (s.slot sl).audI then auditPause sl else .skip)

/-- AUDIT_RESUME (R188 step 4, R218): AUD_I / 2 is absorbable, and the zone allows a donor (R170). -/
def execAuditResume (sl : Nat) : State → Host.Outcome State Fault Refusal :=
  ends (.read fun s =>
    let x := s.slot sl
    let z := s.rd Reg.SLT_STATUS.ZONE sl
    if x.audStep = 4 ∧ 2 * x.absorb ≥ x.audI ∧ 1 ≤ z ∧ z ≤ 3 then
      updSlots sl fun x => { x with audStep := 3, pauseTotal := x.pauseTotal + (s.time - x.pauseAt) }
    else .skip)

/-- The result of an audit is valid (R189). -/
def State.auditValid (s : State) (sl : Nat) : Bool :=
  let x := s.slot sl
  !x.audBad && !s.flag Reg.GAU_STATUS.DEGRADED sl && decide (x.pauseTotal ≤ 3600000000)

/-- AUDIT_EMPTY (R188 steps 5 and 6, R189): the loop holds the cut-off with the mean current below AUD_I / 10. The result is
written, AUDIT_END raised, the gauge takes its empty anchor, and the pack is charged again where RECHARGE asks for it. -/
def execAuditEmpty (sl : Nat) : State → Host.Outcome State Fault Refusal :=
  ends (.read fun s =>
    let x := s.slot sl
    if x.audStep = 3 ∧ s.rd Reg.PHC_STATUS.LOOP_MODE (s.slotLead sl) = 2 ∧ 10 * (s.iAvg sl).natAbs < x.audI then
      let ok := s.auditValid sl
      let q := x.audQ.toNat
      seqs [
        setR Reg.SLT_AUD_Q.Q q sl, setR Reg.SLT_AUD_E.E x.audE sl, auditEnd sl 0 ok,
        emptyAnchor sl ok (some q),
        if x.audRecharge then .seq (softStop (s.slotLead sl)) (chargeRestart sl) else stopSlot sl slIdle none]
    else .skip)

/-- AUDIT_PAUSE_LIMIT (R188 step 4, R650): pauses of more than 60 min in total, protective parks among them, end the audit as invalid. -/
def execAuditPauseLimit (sl : Nat) : State → Host.Outcome State Fault Refusal :=
  ends (.read fun s =>
    let x := s.slot sl
    let since := if x.audStep = 4 then some x.pauseAt else if x.audStep = 3 then x.parkAt else none
    let long := match since with
      | some t => decide (x.pauseTotal + (s.time - t) > 3600000000)
      | none => false
    if long then
      seqs [setR Reg.SLT_AUD_Q.Q x.audQ.toNat sl, setR Reg.SLT_AUD_E.E x.audE sl, auditEnd sl 4 false, stopSlot sl slIdle none]
    else .skip)

end Sys2Proof.Machine
end

