-- ==== Sys2Proof/Machine/Num.lean ====
section
/-! DEFINITION. The logarithm and the exponential of R267 and R515, in units of 10⁻¹⁸ (DEDUCED: the spec gives the real
formulas; the model computes them to within 10⁻¹⁵). -/

namespace Sys2Proof.Machine

/-- The unit of the fixed-point numbers here. -/
def numOne : Nat := 1000000000000000000

/-- The natural logarithm of 2 in that unit. -/
def numLn2 : Nat := 693147180559945309

/-- The sum z + z³/3 + z⁵/5 + …: `zp` is the present power of z, `z2` is z², `k` the present exponent. -/
def atanhSum (z2 : Nat) : Nat → Nat → Nat → Nat
  | 0, _, _ => 0
  | n + 1, zp, k => zp / k + atanhSum z2 n (zp * z2 / numOne) (k + 2)

/-- ln(num / den) for 1 ≤ num / den < 2, in the unit. -/
def lnUnit (num den : Nat) : Nat :=
  let z := numOne * (num - den) / (num + den)
  2 * atanhSum (z * z / numOne) 24 z 1

/-- ln(num / den) for num / den ≥ 1, in the unit. -/
def lnGe (num den : Nat) : Nat :=
  let k := Nat.log2 (num / den)
  k * numLn2 + lnUnit num (den * 2 ^ k)

/-- ln(num / den) in the unit, for positive numbers. -/
def lnRat (num den : Nat) : Int := if den ≤ num then (lnGe num den : Nat) else -(lnGe den num : Nat)

/-- The sum 1 + x + x²/2! + …, from the present term. -/
def expSum (x : Nat) : Nat → Nat → Nat → Nat
  | 0, _, _ => 0
  | n + 1, t, k => t + expSum x n (t * x / numOne / k) (k + 1)

/-- exp of a number of the unit, in the unit. -/
def expNum (x : Int) : Nat :=
  let e := expSum x.natAbs 60 numOne 1
  if 0 ≤ x then e else numOne * numOne / e

/-- The temperature of an NTC reading of `v` µV, in 0.1 °C (R267): none where it is invalid. -/
def ntcDerived (v : Int) (nom b : Nat) : Option Int :=
  if v ≤ 0 ∨ 2500000 ≤ v then none
  else
    let r : Nat := 10000 * v.toNat
    let l := lnRat r ((2500000 - v.toNat) * nom)
    let d : Int := 100 * (numOne : Int) * b + 29815 * l
    if d ≤ 0 then none
    else
      let t := divRound (20 * 29815 * (b : Int) * numOne - 5463 * d) (2 * d.toNat)
      if 1500 < t ∨ t < -450 then none else some t

/-- CODE of an NTC comparator (R515): rounded up. -/
def ntcCode (nom b tOt : Nat) : Nat :=
  let x : Int := divRound ((numOne : Int) * b * 100 * (29815 - (100 * tOt + 27315 : Nat))) ((100 * tOt + 27315) * 29815)
  let r := nom * expNum x
  (1024 * r + (10000 * numOne + r) - 1) / (10000 * numOne + r)

end Sys2Proof.Machine
end

