-- ==== Sys2Proof/Machine/MeasOps.lean ====
section
/-! DEFINITION. The shared operations of precision measurement (chapter 06): channels and ranges (R243 to R251), the sequencer
table (R253 to R257), result records (R266 to R268), substitution (R274 to R277), the test DAC and calibration (R278 to R283). -/

namespace Sys2Proof.Machine

/-! Channels and ranges. -/

/-- The ranges a channel permits (R243), narrowest first: 0 ±80 mV, 1 ±2.5 V, 2 ±80 V. -/
def permitted (chan : Nat) : List Nat :=
  if chan < 12 then (if chan % 3 = 0 then [1, 2] else [0, 1])
  else if chan ≤ 16 then [0, 1]
  else if chan = 17 then [0, 1, 2]
  else if chan = 18 ∨ chan = 19 then [1]
  else []

/-- The widest permitted range (R243). -/
def widest (chan : Nat) : Nat := (permitted chan).getLastD 2

/-- Full scale of a range, µV (R245). -/
def fsOf (r : Nat) : Nat := if r = 0 then 80000 else if r = 1 then 2500000 else 80000000

/-- The channel of a slot's input: 0 VPACK, 1 NTC_A, 2 NTC_B, 3 SHUNT (R243). -/
def slotChan (sl input : Nat) : Nat := if input = 3 then 12 + sl % 4 else 3 * (sl % 4) + input

/-- The auto-range state of a channel (R250). -/
def State.autoRange (s : State) (icv chan : Nat) : Nat :=
  if chan < 16 then s.rd Reg.MSR_ICV_RNG.RNG icv / 4 ^ chan % 4
  else match (s.icv icv).highRng.find? (fun e => e.1 == chan) with
    | some e => e.2
    | none => widest chan

/-- A channel's auto-range state changes. -/
def setAutoRange (icv chan r : Nat) : Prog :=
  if chan < 16 then updR Reg.MSR_ICV_RNG.RNG (fun s =>
    let v := s.rd Reg.MSR_ICV_RNG.RNG icv
    v - v / 4 ^ chan % 4 * 4 ^ chan + r % 4 * 4 ^ chan) icv
  else updIcvs icv fun x => { x with highRng := (chan, r) :: x.highRng.filter fun e => e.1 != chan }

/-! Calibration in use (R283). -/

/-- Offset and gain of an ICV channel in a range; channels without registers have the reset pair. -/
def State.icvOff (s : State) (icv chan r : Nat) : Int := if chan < 16 then ofField 32 (s.rd Reg.MSR_ICV_OFF.OFFSET icv chan r) else 0
def State.icvGain (s : State) (icv chan r : Nat) : Nat := if chan < 16 then s.rd Reg.MSR_ICV_GAIN.GAIN icv chan r else 0x40000000

/-- A valid keep record of an object stands (R573). -/
def State.keepValid (s : State) (typ id : Nat) : Bool :=
  s.keepLocs.any fun e => e.2.typ == typ && e.2.id == id && e.2.isValid

/-- No calibration record stands for an ICV channel's range, or an FCV's (R283). -/
def rangeIdx (chan r : Nat) : Nat := if r = (permitted chan).headD 0 then 0 else 1
def State.icvUncal (s : State) (icv chan r : Nat) : Bool :=
  let sl := chanSlot icv chan
  let input := if chan < 12 then chan % 3 else 3
  sl == 0xFF || !s.keepValid 0x01 (sl * 8 + input * 2 + rangeIdx chan r)
def State.fcvUncal (s : State) (p r : Nat) : Bool := !s.keepValid 0x02 (p * 3 + r)

/-- VALUE from a raw code (R283), µV. -/
def calValue (raw off : Int) (gain fs : Nat) : Int := divRound ((raw - off) * gain * fs) (2 ^ 53)

/-! Mains (R246). -/

/-- T in force, 0.1 µs. -/
def State.perT (s : State) : Nat := s.rd Reg.MSR_MAINS.PERIOD

/-- Results integrated now carry MAINS_FREE (R247): by MAINS_SENSE, and without lock. -/
def State.mainsFree (s : State) : Bool := s.rd Reg.MSR_MAINS.SRC == 0 && !s.flag Reg.MSR_MAINS.LOCKED

/-- A conversion takes the mains as it stands (R246, R247): before its integration starts, T and the flag; while it integrates, the flag where
the lock is lost. -/
def Conv.mains (free : Bool) (per now : Nat) (c : Conv) : Conv :=
  if (match c.startAt with | some t => decide (t ≤ now) | none => false) then (if free then { c with flags := setBit c.flags 11 } else c)
  else { c with per, flags := if free then setBit c.flags 11 else clrBit c.flags 11 }

/-- T or the lock has changed (R246, R247). -/
def mainsApply : Prog := .read fun s => .act (.icvsMap fun _ x => { x with cur := x.cur.map (Conv.mains s.mainsFree s.perT s.time) })

/-- An ICV runs in low power (R249): by its LP bit, or forced in SENTINEL. -/
def State.lowPower (s : State) (icv : Nat) : Bool := s.flag Reg.MSR_ICV_CTRL.LP icv || s.mode == mSentinel

/-- The length of a conversion's integration, µs (R248 step 3). -/
def Conv.len (c : Conv) : Nat := c.cyc * (if c.lp then 2 else 1) * c.per / 10

/-! The sequencer table (R253). -/

/-- A table entry as its fields. -/
structure Entry where
  chan : Nat
  range : Nat
  cyc : Nat
  rep : Nat
  trig : Bool
  ring : Bool
  avg : Bool
  delay : Nat
  deriving DecidableEq, Repr

/-- An entry from its two words (R290). -/
def entryOf (a b : Nat) : Entry :=
  { chan := a / 2 ^ 27 % 32, range := a / 2 ^ 25 % 4, cyc := a / 2 ^ 21 % 16 + 1, rep := a / 2 ^ 13 % 256,
    trig := hasBit a 12, ring := hasBit a 11, avg := hasBit a 10, delay := b % 65536 }

/-- The words of a table entry in use (R290). -/
def State.entryA (s : State) (icv i : Nat) : Nat :=
  s.rd Reg.MSR_ICV_ENT_A.CHAN icv i * 2 ^ 27 + s.rd Reg.MSR_ICV_ENT_A.RANGE icv i * 2 ^ 25 + s.rd Reg.MSR_ICV_ENT_A.CYC icv i * 2 ^ 21 +
  s.rd Reg.MSR_ICV_ENT_A.REPEAT icv i * 2 ^ 13 + s.rd Reg.MSR_ICV_ENT_A.TRIG icv i * 2 ^ 12 +
  s.rd Reg.MSR_ICV_ENT_A.RING icv i * 2 ^ 11 + s.rd Reg.MSR_ICV_ENT_A.AVG icv i * 2 ^ 10
def State.entryB (s : State) (icv i : Nat) : Nat := s.rd Reg.MSR_ICV_ENT_B.DELAY icv i

/-- The entry in use. -/
def State.entry (s : State) (icv i : Nat) : Entry := entryOf (s.entryA icv i) (s.entryB icv i)

/-- The words of an entry in the pending copy (R255). -/
def State.pendWords (s : State) (icv i : Nat) : Nat × Nat :=
  match (s.icv icv).pend.find? (fun e => e.1 == i) with
  | some e => e.2
  | none => (s.entryA icv i, s.entryB icv i)

/-- The pending copy with further loads, as a list of 32 entries (R255). -/
def State.tableWith (s : State) (icv : Nat) (loads : List (Nat × Nat × Nat)) : List Entry :=
  (List.range 32).map fun i =>
    match loads.find? (fun e => e.1 == i) with
    | some e => entryOf e.2.1 e.2.2
    | none => entryOf (s.pendWords icv i).1 (s.pendWords icv i).2

/-- An entry belongs to the base entries (R254). -/
def isBase (i : Nat) : Bool := decide (i % 8 < 3)

/-- What an entry adds to the pass length (R257), µs. -/
def entryCost (settle : Nat) (e : Entry) : Nat :=
  e.rep * (settle + e.cyc * 22222 + 50 + e.delay + (if e.range = 3 then 2000 else 0))

/-- The pass length of a table (R257). -/
def passLen (settle : Nat) (windows : Bool) (t : List Entry) : Nat :=
  let cost := fun (p : Nat → Bool) => ((t.zipIdx.filter fun e => p e.2).map fun e => entryCost settle e.1).sum
  if windows then
    cost isBase + ((List.range 4).map fun j => cost fun i => !isBase i && i / 8 == j).foldl max 0
  else cost fun _ => true

/-- One entry is well formed (R250, R255): an empty one always. -/
def entryOk (e : Entry) : Bool := e.rep == 0 || (decide (e.chan < 20) && (e.range == 3 || (permitted e.chan).contains e.range))

/-- A table passes the checks of R255. -/
def tableOk (settle : Nat) (windows : Bool) (t : List Entry) : Bool :=
  t.all entryOk &&
  ((List.range 12).all fun c => (t.zipIdx.filter fun e => !windows || isBase e.2).any fun e => e.1.rep != 0 && e.1.chan == c) &&
  decide (passLen settle windows t ≤ 320000)

/-- The settle time and the window mode of an ICV. -/
def State.settle (s : State) (icv : Nat) : Nat := s.rd Reg.MSR_ICV_CTRL.SETTLE icv
def State.windows (s : State) (icv : Nat) : Bool := s.flag Reg.MSR_ICV_CTRL.WINDOWS icv

/-- `MSR_ICV_BUDGET` follows an accepted load or setting (R257). -/
def budgetUpdate (icv : Nat) : Prog := updR Reg.MSR_ICV_BUDGET.PASS_CHK (fun s => passLen (s.settle icv) (s.windows icv) (s.tableWith icv [])) icv

/-- Accepted loads enter the pending copy; the later of two loads of an entry stands (R255). -/
def pendAdd (icv : Nat) (loads : List (Nat × Nat × Nat)) : Prog :=
  .seq (updIcvs icv fun x => { x with pend := loads ++ x.pend.filter fun e => !loads.any fun l => l.1 == e.1 }) (budgetUpdate icv)

/-- A channel of an ICV is substituted by itself (R275). -/
def State.chanSubst (s : State) (icv chan : Nat) : Bool :=
  if chan < 16 then hasBit (s.rd Reg.MSR_ICV_SUBST.CHAN_SUBST icv) chan else (s.icv icv).substHi.contains chan

/-- An entry has its turn in a pass of a window (R254): not empty, a base entry or one of that window. -/
def State.turnIn (s : State) (icv win i : Nat) : Bool :=
  (s.entry icv i).rep != 0 && (!s.windows icv || isBase i || i / 8 == win % 4)

/-- An entry is visited in the present pass (R254, R275): its channel is not substituted. -/
def State.visited (s : State) (icv i : Nat) : Bool :=
  s.turnIn icv (s.icv icv).pass i && !s.chanSubst icv (s.entry icv i).chan

/-- The first visited entry at or after `i`; 32 where none is left. -/
def State.nextEntry (s : State) (icv i : Nat) : Nat :=
  ((List.range 32).find? fun k => decide (i ≤ k) && s.visited icv k).getD 32

/-- The entries skipped from `a` up to `b` whose channel the FCV is to convert in this pass (R275). -/
def State.skippedTurns (s : State) (icv a b : Nat) : List Nat :=
  (List.range 32).filter fun i => decide (a ≤ i ∧ i < b) && s.turnIn icv (s.icv icv).pass i && s.chanSubst icv (s.entry icv i).chan

/-- The turns of substituted channels that the sequencer passes from `a` up to `b` fall to the FCV, once per channel and pass (R275). -/
def turnsPass (icv a b : Nat) : Prog := .read fun s => each (s.skippedTurns icv a b) fun i => .read fun t =>
  let c := (t.entry icv i).chan
  if (t.icv icv).turned.contains c then .skip
  else .seq (updIcvs icv fun x => { x with turned := c :: x.turned }) (updFcvs (icv / 4) fun x => { x with owed := x.owed ++ [(icv, i)] })

/-- The pending loads go into use (R255). -/
def pendTake (n : Nat) : Prog := .read fun s => .seq
  (each (s.icv n).pend fun e => seqs [
    setR Reg.MSR_ICV_ENT_A.CHAN (e.2.1 / 2 ^ 27 % 32) n e.1, setR Reg.MSR_ICV_ENT_A.RANGE (e.2.1 / 2 ^ 25 % 4) n e.1,
    setR Reg.MSR_ICV_ENT_A.CYC (e.2.1 / 2 ^ 21 % 16) n e.1, setR Reg.MSR_ICV_ENT_A.REPEAT (e.2.1 / 2 ^ 13 % 256) n e.1,
    setR Reg.MSR_ICV_ENT_A.TRIG (e.2.1 / 2 ^ 12 % 2) n e.1, setR Reg.MSR_ICV_ENT_A.RING (e.2.1 / 2 ^ 11 % 2) n e.1,
    setR Reg.MSR_ICV_ENT_A.AVG (e.2.1 / 2 ^ 10 % 2) n e.1, setR Reg.MSR_ICV_ENT_B.DELAY (e.2.2 % 65536) n e.1])
  (updIcvs n fun x => { x with pend := [] })

/-- The converter of an ICV is powered and in service (R285, R607), and its conversions run. -/
def State.icvLive (s : State) (icv : Nat) : Bool :=
  !s.flag Reg.MSR_ICV_STATUS.FAILED icv && s.mode != mShip && s.mode != mService && hasBit (s.rd Reg.PWR_DOM.ON) (22 + icv / 4)

/-- The sequencer may run on (R254, R288). -/
def State.icvRuns (s : State) (icv : Nat) : Bool := s.flag Reg.MSR_ICV_CTRL.RUN icv && s.icvLive icv

/-- A referee procedure holds an ICV (R265, R274). -/
def State.refereeOn (s : State) (icv : Nat) : Bool := match (s.fcv (icv / 4)).referee with
  | some r => r.1 == icv
  | none => false

/-- The range an entry or request converts in (R250). -/
def State.convRange (s : State) (icv chan range : Nat) : Nat := if range = 3 then s.autoRange icv chan else range

/-- When steps 1 and 2 of a conversion that begins now end (R248): a range switch takes 2,000 µs. -/
def State.convReady (s : State) (icv chan r : Nat) : Nat :=
  let last := match (s.icv icv).lastRange.find? (fun e => e.1 == chan) with | some e => e.2 | none => widest chan
  s.time + (if last = r then 0 else 2000) + s.settle icv

/-- The conversion of a table entry that begins now (R248). -/
def State.convOf (s : State) (icv i : Nat) (e : Entry) (flags : Nat) : Conv :=
  let r := s.convRange icv e.chan e.range
  let waits := e.trig && s.rd Reg.MSR_ICV_CTRL.TRIG_SRC icv != 0
  { kind := 0, entry := i, chan := e.chan, range := r, auto := e.range == 3, cyc := e.cyc, trig := waits, flags,
    readyAt := s.convReady icv e.chan r, per := s.perT, lp := s.lowPower icv }

/-- A conversion goes onto the converter; an untriggered one has its integration start as soon as it has settled. It keeps the calibration in
force now (R283). -/
def convBegin (icv : Nat) (c : Conv) : Prog := .read fun s =>
  let c := { c with
                    startAt := if c.trig then none else some c.readyAt, off := s.icvOff icv c.chan c.range,
                    gain := s.icvGain icv c.chan c.range, uncal := s.icvUncal icv c.chan c.range }
  seqs [
    updIcvs icv fun x => { x with
      cur := some (c.mains s.mainsFree s.perT s.time), lastRange := (c.chan, c.range) :: x.lastRange.filter fun e => e.1 != c.chan },
    setR Reg.MSR_ICV_STATUS.STATE (if c.kind != 0 then 6 else 1) icv,
    updR Reg.MSR_ICV_STATUS.ENTRY (fun t => min (t.icv icv).pos 31) icv]

/-- A running table conversion is aborted by an urgent or referee conversion (R264): its entry starts again. -/
def abortRunning (n : Nat) : Prog := .read fun s =>
  match (s.icv n).cur with
  | some c => if c.kind = 0 then .seq (incSat Reg.MSR_ICV_CNT.ABORTS n) (updIcvs n fun x => { x with cur := none, resume := true }) else .skip
  | none => .skip

/-- The referee procedure takes the ICV and the FCV of a channel (R265, R274): the two readings, µV, that disagree. -/
def refereeBegin (n chan range : Nat) (a b : Int) : Prog := seqs [
  incSat Reg.MSR_FCV_XCHK.REFEREES (n / 4),
  updFcvs (n / 4) fun x => { x with referee := some (n, chan, range, a, b), again := false },
  abortRunning n, when (fun s => (s.icv n).cur.isNone) (setR Reg.MSR_ICV_STATUS.STATE 6 n), dacShow (n / 4)]

/-! Result records (R266). -/

/-- DERIVED of a channel (R266, R267); none where there is no valid derived value. -/
def State.derived (s : State) (icv chan : Nat) (v : Int) : Option Int :=
  if chan < 12 then
    (if chan % 3 = 0 then some (divRound v 1000) else ntcDerived v (s.rd Reg.MSR_NTC.NOM_OHM) (s.rd Reg.MSR_NTC.B_K))
  else if chan < 16 then some (divRound (v * 1000) (s.rd Reg.GAU_CFG.SHUNT (chanSlot icv chan)))
  else if chan = 19 then some (divRound (v - 600000) 200)
  else some 0

/-- The 24 bytes of a result record (R266). -/
def recordBytes (stamp src chan sl range flags entry cyc : Nat) (value raw : Int) (derived : Option Int) : List Nat :=
  leBytes 4 stamp ++ [src, chan, sl, range] ++ leBytes 2 flags ++ [entry, cyc] ++ leBytes 4 (toField 32 value) ++
  leBytes 4 (toField 32 raw) ++ leBytes 4 (match derived with | some d => toField 32 d | none => 0x80000000)

/-- The function that a slot's measurement events go to (R268): the owner, or the PF; internal points go to the PF. -/
def State.measFn (s : State) (sl : Nat) : Nat := if sl = 0xFF then pfFn else s.ownerOrPf sl

/-- A record goes to a function's event ring as MEAS (R268, R287, R360), where the function is live; in HALT no record does (R285). -/
def measEvent (src fn : Nat) (bytes : List Nat) : Prog := .read fun s =>
  if s.mode = mHalt ∨ ¬ s.flag Reg.FN_STATUS.LIVE fn then .skip
  else raise { typ := evMeas, src := if src < 16 then 0x0100 + src else 0x0110 + (src - 16), record := some bytes } [fn]

/-- A limit of R518 on a pack voltage, an NTC or a shunt reading, µV. -/
def uvLimit (range : Nat) : Nat := if range = 0 then 160 else if range = 1 then 1250 else 40000

/-- A fast mean and an ICV value of the output voltage agree within `k` times the limit of R518. -/
def outAgree (k fast icv : Nat) : Bool := decide ((max fast icv - min fast icv) ≤ k * max 400 (icv / 100))

/-- The Sundial compares an output-voltage mean with a VPACK value (R518): two mismatches in a row escalate. -/
def outCheck (sl k fast icv range : Nat) : Prog := .read fun s =>
  if !(s.slot (s.carrier sl)).idClosed then .skip
  else if outAgree k fast icv then updSlots sl fun x => { x with xchkRun := 0 }
  else updSlots sl fun x => { x with xchkRun := x.xchkRun + 1, outRef := if x.xchkRun + 1 ≥ 2 then x.outRef.or (some (fast, icv, range, s.time)) else x.outRef }

/-- A record's value reaches its consumers (R268): the slot's pack voltage and temperatures, the gauge, the last value. `src`
is below 16 for an ICV. `since` where the conversion started after the slot's ID pin closed. -/
def deliverValue (icv chan : Nat) (value : Int) (ovr : Bool) (derived : Option Int) (stamp : Nat) : Prog := .read fun s =>
  let sl := chanSlot icv chan
  let since := decide ((s.slot sl).closedAt ≤ stamp)
  seqs [
    if chan < 16 then setR Reg.MSR_ICV_LAST.VALUE (toField 32 value) icv chan else .skip,
    if sl = 0xFF ∨ s.mode = mHalt then .skip
    else if chan < 12 ∧ chan % 3 = 0 then
      (match (if ovr then none else derived) with
       | some d => .seq (vpackResult sl d.toNat) (.read fun t => if t.rd Reg.GAU_STATUS.STATE sl = 1 then unrestoredEstimate sl else .skip)
       | none => .skip)
    else if chan < 12 then ntcResult sl (chan % 3 - 1) (if ovr then none else derived) since
    else .skip]

/-- A record is derived and routed (R268, R269): to the consumers of an ICV channel, and to an event ring. -/
def recDeliver (n : Nat) (r : MeasRec) : Prog := .read fun s =>
  let ovr := hasBit r.flags 0
  let d := if ovr then none else if r.chan < 20 then s.derived n r.chan r.value else some 0
  .seq (if r.chan < 20 then deliverValue n r.chan r.value ovr d r.stamp else .skip)
    (match r.ring with
     | some fn => measEvent r.src fn (recordBytes (r.stamp % 2 ^ 32) r.src r.chan r.sl r.range r.flags r.entry r.cyc r.value r.raw d)
     | none => .skip)

/-- The measurement post-processing task of a slot (R18). -/
def postTask (sl : Nat) : Nat := 26 * (sl / 4) + 6 * (sl % 4) + 4

/-- In SENTINEL the pair sleeps between the rounds of the bed that hosts it, at most 60 ms each (R556). -/
def State.postSleeps (s : State) (sl : Nat) : Bool :=
  s.mode == mSentinel && !s.eng.rounds.any fun r => r.1 == s.rd Reg.ENG_TASK.HOST (postTask sl) / 32 && decide (s.time < r.2 + 60000)

/-- A record reaches its slot's post-processing pair (R269): while the pair does not run, the Planter holds it, up to four per ICV; between the
rounds of SENTINEL the latest of each channel, while the Planter shows each in `MSR_ICV_LAST` itself (R557). -/
def recIssue (n : Nat) (r : MeasRec) : Prog := .read fun s =>
  if r.sl < 64 && s.postSleeps r.sl then .seq
    (updIcvs n fun x => { x with held := x.held.filter (fun y => y.sl != r.sl || y.chan != r.chan) ++ [r] })
    (if r.chan < 16 then setR Reg.MSR_ICV_LAST.VALUE (toField 32 r.value) n r.chan else .skip)
  else if r.sl < 64 && decide (2 ≤ s.rd Reg.ENG_TASK.STATE (postTask r.sl)) then updIcvs n fun x => { x with held := (x.held ++ [r]).take 4 }
  else recDeliver n r

/-- The post-processing pair of a slot runs again: the held records are delivered in order (R269). -/
def heldDeliver (sl : Nat) : Prog := .read fun s =>
  .seq (updIcvs (sl / 4) fun x => { x with held := x.held.filter fun r => r.sl != sl })
    (each ((s.icv (sl / 4)).held.filter fun r => r.sl == sl) (recDeliver (sl / 4)))

/-- The result of a channel is kept for the cross-check (R272). -/
def resKeep (n : Nat) (r : MeasRec) : Prog := updIcvs n fun x => { x with res := (r.chan, r) :: x.res.filter fun e => e.1 != r.chan }

/-- A channel's auto-range state follows a result of it in range `r` (R251): wider than an over-range, narrower once two results in a row lie
below the level of the next narrower range. -/
def rangeFollows (n chan r : Nat) (value : Int) (ovr : Bool) : Prog := .read fun s =>
  let ps := permitted chan
  let now := s.autoRange n chan
  let narrower := (ps.filter (· < now)).getLast?
  let seen := (s.icv n).narrow.contains chan
  let low := match narrower with
    | some k => !ovr && decide (value.natAbs * 10 < 9 * fsOf k)
    | none => false
  let forget := updIcvs n fun x => { x with narrow := x.narrow.filter (· != chan) }
  if ovr then .seq forget (match ps.find? fun k => decide (r < k) with | some k => setAutoRange n chan (max k now) | none => .skip)
  else if low && seen then .seq forget (match narrower with | some k => setAutoRange n chan k | none => .skip)
  else if low then updIcvs n fun x => { x with narrow := chan :: x.narrow }
  else forget

/-! Substitution (R274 to R277). -/

/-- A slot's converters are lost: safe state with SUBCAUSE 3 (R277, R521). -/
def measLost (sls : List Nat) : Prog := .seq (each sls fun sl => slotSafeSub sl 3) (healthSet Reg.GLB_HEALTH.COVERAGE_LOST fun _ => 1)

/-- The slots an ICV serves (R19). -/
def icvSlots (icv : Nat) : List Nat := (List.range 4).map (4 * icv + ·)

/-- The members of the sampling groups follow TRIG_SRC (R262); a failed ICV leaves its group (R275). -/
def grpMembers : Prog := each (List.range 4) fun g => updR Reg.MSR_GRP.MEMBERS (fun s =>
  ((List.range 16).filter fun n => s.rd Reg.MSR_ICV_CTRL.TRIG_SRC n == 4 + g && !s.flag Reg.MSR_ICV_STATUS.FAILED n).foldl setBit 0) g

/-- An FCV can carry a whole ICV, or one more channel (R277). -/
def State.fcvFreeWhole (s : State) (p : Nat) : Bool := s.rd Reg.MSR_FCV_STATUS.STATE p == 0 && s.rd Reg.MSR_FCV_STATUS.CHANS p == 0
def State.fcvFreeChan (s : State) (p : Nat) : Bool := s.rd Reg.MSR_FCV_STATUS.STATE p == 0 && decide (s.rd Reg.MSR_FCV_STATUS.CHANS p < 4)

/-- An ICV fails (R274, R275): the FCV of its Planter substitutes, or its slots lose their measurement (R277). ICV_SUBST is raised for a
conversion timeout in either case (R287). -/
def icvFail (icv cause : Nat) : Prog := .read fun s =>
  let p := icv / 4
  if s.flag Reg.MSR_ICV_STATUS.FAILED icv then .skip
  else seqs [
    when (fun t => t.refereeOn icv) (refereeEnds p),
    setR Reg.MSR_ICV_STATUS.FAILED 1 icv, setR Reg.MSR_ICV_STATUS.STATE 7 icv,
    updIcvs icv fun x => { x with cur := none, resume := false },
    when (fun _ => s.fcvFreeWhole p || cause == 1) (raise { typ := evIcvSubst, src := 0x0100 + icv, data := dat 16 1 cause }
      (pfFn :: ((icvSlots icv).map s.ownerOrPf).eraseDups.filter (· != pfFn))),
    if s.fcvFreeWhole p then seqs [
      setR Reg.MSR_FCV_STATUS.STATE 1 p, setR Reg.MSR_FCV_STATUS.SUBST_ICV (icv % 4) p,
      updFcvs p fun x => { x with subPos := 0, subWin := 0 },
      updR Reg.GLB_HEALTH_FE.ICV_SUBST (fun t => setBit (t.rd Reg.GLB_HEALTH_FE.ICV_SUBST) icv), raiseHealth]
    else measLost (icvSlots icv),
    grpMembers]

/-- An FCV substitutes one channel (R274, R275), or its slot loses its measurement (R277). -/
def chanFail (icv chan : Nat) : Prog := .read fun s =>
  let p := icv / 4
  let sl := chanSlot icv chan
  let fn := s.measFn sl
  if s.chanSubst icv chan then .skip
  else if s.fcvFreeChan p then seqs [
    if chan < 16 then updR Reg.MSR_ICV_SUBST.CHAN_SUBST (fun t => setBit (t.rd Reg.MSR_ICV_SUBST.CHAN_SUBST icv) chan) icv
    else updIcvs icv fun x => { x with substHi := chan :: x.substHi },
    setR Reg.MSR_FCV_STATUS.CHANS (s.rd Reg.MSR_FCV_STATUS.CHANS p + 1) p,
    raise { typ := evChanSubst, src := 0x0100 + icv, data := dat 16 1 chan + dat 17 1 sl }
      (if fn = pfFn then [pfFn] else [pfFn, fn])]
  else measLost (if sl = 0xFF then [] else [sl])

/-- The slots left without measurement when an FCV that substitutes fails (R277). -/
def State.fcvCarried (s : State) (p : Nat) : List Nat :=
  if s.rd Reg.MSR_FCV_STATUS.STATE p = 1 then icvSlots (4 * p + s.rd Reg.MSR_FCV_STATUS.SUBST_ICV p)
  else (((List.range 4).map fun k => ((List.range 20).filter (s.chanSubst (4 * p + k))).map (chanSlot (4 * p + k))).flatten.eraseDups).filter
    (· != 0xFF)

/-- An FCV goes out of service (R276): a second fault where it substitutes (R277), which it then does no longer (R38). -/
def fcvOut (p cause : Nat) : Prog := .read fun s =>
  if s.rd Reg.MSR_FCV_STATUS.STATE p = 2 then .skip
  else seqs [
    setR Reg.MSR_FCV_STATUS.STATE 2 p, refereeEnds p, updFcvs p fun x => { x with cur := none, owed := [] },
    when (fun _ => s.rd Reg.MSR_FCV_STATUS.STATE p == 1) (updR Reg.GLB_HEALTH_FE.ICV_SUBST
      (fun t => clrBit (t.rd Reg.GLB_HEALTH_FE.ICV_SUBST) (4 * p + s.rd Reg.MSR_FCV_STATUS.SUBST_ICV p))),
    updR Reg.GLB_HEALTH_FE.FCV_LOST (fun t => setBit (t.rd Reg.GLB_HEALTH_FE.FCV_LOST) p), raiseHealth,
    raisePf evFcvLost (0x0110 + p) (dat 16 1 cause),
    if s.fcvCarried p = [] ∧ s.rd Reg.MSR_FCV_STATUS.CHANS p = 0 then .skip else measLost (s.fcvCarried p)]

/-! The test DAC (R278 to R280). -/

/-- The output of the test DAC in hundredths of a microvolt for a code (R278): CODE × 2,500,000 / 65,536 µV, by 1:32 with ATT. -/
def dacCuv (att : Bool) (code : Nat) : Nat := code * 250000000 / (65536 * (if att then 32 else 1))

/-- The level nearest to `uv` that the test DAC puts behind an input's divider of 1:`div`, µV at the input (R274, R278): by the attenuator below
78,124 µV. -/
def dacLevel (uv div : Nat) : Int :=
  let att := decide (uv / div < 78124)
  let code := (divRound (uv * 65536 * (if att then 32 else 1) : Nat) (2500000 * div)).toNat
  divRound (div * dacCuv att code : Nat) 100

/-- The slot that a DAC target drives, 0xFF for an internal point (R292). -/
def dacSlot (p target : Nat) : Nat :=
  if target < 0x40 then chanSlot (4 * p + target / 16) (target % 16) else if target < 0x50 then 16 * p + (target - 0x40) else 0xFF

/-- A PF injection is permitted (R280): an internal point, or an input of a slot that is EMPTY, OFF or FAULTED. -/
def State.dacMay (s : State) (p target : Nat) : Bool :=
  let sl := dacSlot p target
  sl == 0xFF || s.slSt sl == slEmpty || s.slSt sl == slOff || s.slSt sl == slFaulted

/-- The PF drives a target of a Planter with the test DAC (R278, R280). -/
def State.pfInjects (s : State) (p target : Nat) : Bool :=
  s.rd Reg.MSR_DAC_STATUS.USER p == 1 && s.rd Reg.MSR_DAC_CTRL.TARGET p == target

/-- The test DAC drives a channel's input (R278): its records carry INJ. -/
def State.injected (s : State) (icv chan : Nat) : Bool :=
  let p := icv / 4
  s.pfInjects p (icv % 4 * 16 + chan) || (match (s.fcv p).referee with | some r => r.1 == icv && r.2.1 == chan | none => false)

/-! Calibration (R281 to R283, R300). -/

/-- The pair that R283 gives: zero mean `z` at `a0`, full-scale mean `f` at `a1`, full scale `fs` µV for 2^`n` codes. -/
def calPair (z f a0 a1 : Int) (fs n : Nat) : Option (Int × Nat) :=
  if f ≤ z ∨ a1 ≤ a0 then none
  else
    let num : Int := (a1 - a0) * (2 ^ n : Nat)
    let den : Int := fs * (f - z)
    let off := divRound (z * (a1 - a0) - a0 * (f - z)) (a1 - a0).toNat
    if 98 * den ≤ 100 * num ∧ 100 * num ≤ 102 * den then some (off, (divRound (num * 2 ^ 30) den.toNat).toNat) else none

/-- The pair is within the limits of R283, or of R300 for the coulomb converter. -/
def calOk (lim : Nat) (p : Int × Nat) : Bool := decide (p.1.natAbs ≤ lim)

/-- The mean of codes to the nearest (R282). -/
def codeMean (l : List Int) : Int := divRound l.sum l.length

/-- The codes spread by more than 839 (R282). -/
def noisy (l : List Int) : Bool :=
  match l with
  | [] => false
  | a :: t => decide (839 < t.foldl max a - t.foldl min a)

/-- A function's queued requests are dropped, and its running conversion's record is discarded (R286). -/
def measDiscard (p : Nat → Bool) : Prog := seqs [
  .act (.icvsMap fun _ x => { x with
    queue := x.queue.filter (fun c => !p c.fn),
    cur := x.cur.map fun c => if c.kind != 0 && p c.fn then { c with ctl := none, discard := true } else c,
    cal := x.cal.filter fun j => !p j.ctl.fn }),
  .act (.fcvsMap fun _ x => { x with
    urg := x.urg.filter (fun u => !p u.1.fn), cal := x.cal.filter fun j => !p j.ctl.fn,
    -- the requests are the PF's: a running conversion of one completes to no use
    cur := x.cur.map fun c => if (c.task == 2 || c.task == 3) && p pfFn then { c with task := 6 } else c }),
  when (fun _ => p pfFn) (updPendZ fun _ => []),
  each (List.range 16) fun n => updR Reg.MSR_ICV_STATUS.URG_Q (fun s => (s.icv n).queue.length) n]

end Sys2Proof.Machine
end

