-- ==== Sys2Proof/Machine/Measurement.lean ====
section
/-! DEFINITION. The commands of precision measurement (chapter 06). -/

namespace Sys2Proof.Machine

/-! Mains (R246, R247). -/

/-- T without lock: 20,000 µs where the last mean was 18,182 µs or more, else 16,667 µs (R246). -/
def State.freeT (s : State) : Nat := if s.mains.lastMean ≥ 181820 then 200000 else 166670

/-- The lock is lost (R247). -/
def mainsLoss : Prog := .read fun s => seqs [
  setR Reg.MSR_MAINS.LOCKED 0, setR Reg.MSR_MAINS.PERIOD s.freeT, updMains (fun m => { m with run := 0 }), mainsApply,
  raisePf evMainsLost srcDevice 0]

/-- `MSR_MAINS.SRC` has been written (R246). -/
def mainsSrcWritten (old : Nat) : Prog := .read fun s =>
  let src := s.rd Reg.MSR_MAINS.SRC
  if src = old then .skip
  else seqs [setR Reg.MSR_MAINS.LOCKED 0, updMains (fun m => { lastMean := m.lastMean }),
    setR Reg.MSR_MAINS.PERIOD (if src = 1 then 200000 else if src = 2 then 166670 else s.freeT), mainsApply]

/-- MAINS_CROSSING (R247): a rising crossing `period` (0.1 µs) after the one before. -/
def execMainsCrossing (period : Nat) : State → Host.Outcome State Fault Refusal := ends <| .read fun s =>
  let m := s.mains
  let inWin := decide (153850 ≤ period ∧ period ≤ 222220)
  let agrees := match m.periods with
    | p :: _ => decide (100 * (max p period - min p period) ≤ p)
    | [] => true
  let run := if !inWin then 0 else if m.run == 0 || agrees then m.run + 1 else 1
  let periods := (period :: m.periods).take 8
  let mean := (divRound (periods.sum : Nat) 8).toNat
  if s.rd Reg.MSR_MAINS.SRC ≠ 0 then .skip
  else seqs [
    updMains fun m => { m with periods, run, lastAt := s.time },
    if s.flag Reg.MSR_MAINS.LOCKED then
      (if inWin then seqs [setR Reg.MSR_MAINS.PERIOD mean, updMains (fun m => { m with lastMean := mean }), mainsApply] else mainsLoss)
    else if run ≥ 8 then seqs [setR Reg.MSR_MAINS.LOCKED 1, setR Reg.MSR_MAINS.PERIOD mean, updMains (fun m => { m with lastMean := mean }),
      mainsApply,
      raisePf evMainsLock srcDevice (dat 16 4 mean)]
    else .skip]

/-- MAINS_LOCK_LOSS (R247): no rising crossing within 1.5 × T. -/
def execMainsLockLoss : State → Host.Outcome State Fault Refusal := ends <| .read fun s =>
  if s.flag Reg.MSR_MAINS.LOCKED && decide (20 * (s.time - s.mains.lastAt) ≥ 3 * s.perT) then mainsLoss else .skip

/-! Triggers (R260 to R262). -/

/-- The integration of the conversion on ICV `n` starts at `t` with a flag set (0xFF: none). For a calibration the coulomb converter's codes count
from here (R300). -/
def integrate (n t flag : Nat) : Prog := .read fun s => seqs [
  updIcvs n fun x => { x with
    cal := x.cal.map fun j => { j with acc0 := (s.gauge j.slot).acc, n0 := (s.gauge j.slot).nsamp },
    cur := x.cur.map fun c =>
    { (c.mains s.mainsFree s.perT s.time) with
      startAt := some t,
      flags := (fun f => if flag = 0xFF then f else setBit f flag) (c.mains s.mainsFree s.perT s.time).flags } },
  setR Reg.MSR_ICV_STATUS.STATE 2 n]

/-- A trigger is latched (R261): a second one counts as excess. -/
def trigLatch (n : Nat) : Prog := .read fun s =>
  if (s.icv n).latched then incSat Reg.MSR_ICV_CNT.TRIG_OVR n
  else .seq (updIcvs n fun x => { x with latched := true }) (setR Reg.MSR_ICV_STATUS.TRIG_LATCHED 1 n)

/-- The host request that runs next (R264, R282): a calibration that lacks codes, or the first queued one; with the queue's rest. -/
def IcvRec.nextUrgent (x : IcvRec) : Option (Conv × List Conv) :=
  let calConv := (x.cal.filter fun j => decide (j.codes.length < 16)).map fun j =>
    { kind := 2, entry := 0xFF, chan := slotChan j.slot j.input, range := j.range, auto := false, cyc := 1, readyAt := 0, fn := j.ctl.fn }
  match calConv, x.queue with
  | some c, q => some (c, q)
  | none, c :: q => some (c, q)
  | none, [] => none

/-- A host urgent or calibration conversion is to run now (R264): no other one runs or has run in this pass, and no referee procedure goes
ahead of it (R265). -/
def State.urgentDue (s : State) (n : Nat) : Bool :=
  let x := s.icv n
  s.icvRuns n && !s.refereeOn n && !x.used && x.nextUrgent.isSome && (match x.cur with | some c => c.kind == 0 | none => true)

/-- A conversion stands at step 3 and waits for its trigger (R261); an urgent conversion that waits comes first (R284). -/
def State.awaits (s : State) (n : Nat) : Bool := !s.urgentDue n && match (s.icv n).cur with
  | some c => c.kind == 0 && c.trig && c.startAt.isNone && decide (c.readyAt ≤ s.time)
  | none => false

/-- A triggered table conversion integrates (R261 RESTART). -/
def State.trigInteg (s : State) (n : Nat) : Bool := !s.urgentDue n && match (s.icv n).cur with
  | some c => c.kind == 0 && c.trig && (match c.startAt with | some t => decide (t ≤ s.time ∧ s.time < t + c.len) | none => false)
  | none => false

/-- What the passing of time does on an ICV (R248, R261, R289): a conversion that has settled integrates, waits for its trigger or takes the
latched one; STATE follows. -/
def icvClock (n : Nat) : Prog := .read fun s =>
  let x := s.icv n
  let st := s.rd Reg.MSR_ICV_STATUS.STATE n
  match x.cur with
  | some c =>
    if c.kind ≠ 0 then .skip
    else match c.startAt with
      | some t => if t + c.len ≤ s.time then setR Reg.MSR_ICV_STATUS.STATE 3 n else if t ≤ s.time then setR Reg.MSR_ICV_STATUS.STATE 2 n else .skip
      | none =>
        if x.latched && s.awaits n && decide (s.rd Reg.MSR_ICV_CTRL.TRIG_SRC n < 4) then
          seqs [integrate n s.time 3, updIcvs n fun x => { x with latched := false }, setR Reg.MSR_ICV_STATUS.TRIG_LATCHED 0 n]
        else if c.readyAt ≤ s.time then setR Reg.MSR_ICV_STATUS.STATE 5 n else .skip
  | none =>
    if s.icvLive n && !s.flag Reg.MSR_ICV_CTRL.RUN n then setR Reg.MSR_ICV_STATUS.STATE 0 n
    else if (st = 4 ∧ x.delayUntil ≤ s.time) ∨ (st = 0 ∧ s.icvRuns n) then setR Reg.MSR_ICV_STATUS.STATE 1 n
    else .skip

/-- A trigger of its selected source reaches an ICV (R261). -/
def trigArrives (n : Nat) : Prog := .read fun s =>
  if s.awaits n then integrate n s.time 0xFF
  else
    let pol := s.rd Reg.MSR_ICV_CTRL.TRIG_POLICY n
    if pol = 0 then incSat Reg.MSR_ICV_CNT.TRIG_OVR n
    else if pol = 2 ∧ s.trigInteg n then .seq (incSat Reg.MSR_ICV_CNT.ABORTS n) (integrate n s.time 12)
    else trigLatch n

/-- A group's trigger arrives (R262). -/
def groupArrives (g : Nat) : Prog := .read fun s =>
  match (s.group g).since with
  | none => updGroups g fun _ => { since := some s.time }
  | some _ => each ((List.range 16).filter (hasBit (s.rd Reg.MSR_GRP.MEMBERS g))) fun n => incSat Reg.MSR_ICV_CNT.TRIG_OVR n

/-- A trigger of a source is present now (R247, R260): a crossing under lock, a device-time tick of `ms`, or a SYNC_IN edge. -/
def State.trigNow (s : State) (src ms : Nat) : Bool :=
  if src = 1 then s.flag Reg.MSR_MAINS.LOCKED else if src = 2 then s.time % (1000 * max ms 1) == 0 else src == 3

/-- ICV_TRIGGER (R261): the trigger that `TRIG_SRC` of ICV `n` selects. -/
def execIcvTrigger (n : Nat) : State → Host.Outcome State Fault Refusal := ends <| .read fun s =>
  if s.icvLive n && (s.flag Reg.MSR_ICV_CTRL.RUN n || (s.icv n).cur.isSome) && s.trigNow (s.rd Reg.MSR_ICV_CTRL.TRIG_SRC n) (s.rd Reg.MSR_ICV_CTRL.TICK_MS n) then trigArrives n else .skip

/-- MAINS_FREE_TRIGGER (R247): the mains trigger made from device time while unlocked. -/
def execMainsFreeTrigger : State → Host.Outcome State Fault Refusal := ends <| .read fun s =>
  if s.flag Reg.MSR_MAINS.LOCKED ∨ s.time % (max (s.perT / 10) 1) ≠ 0 then .skip
  else .seq (each ((List.range 16).filter fun n =>
      s.icvLive n && (s.flag Reg.MSR_ICV_CTRL.RUN n || (s.icv n).cur.isSome) && s.rd Reg.MSR_ICV_CTRL.TRIG_SRC n == 1) trigArrives)
    (each ((List.range 4).filter fun g => s.rd Reg.MSR_GRP.SRC g == 1) groupArrives)

/-- GROUP_TRIGGER (R262): the trigger of sampling group `g`. -/
def execGroupTrigger (g : Nat) : State → Host.Outcome State Fault Refusal := ends <| .read fun s =>
  if s.trigNow (s.rd Reg.MSR_GRP.SRC g) (s.rd Reg.MSR_GRP.TICK_MS g) then groupArrives g else .skip

/-- GROUP_START (R262): every member stands at step 3, and 50 µs have passed since the trigger and the last member's ready. -/
def execGroupStart (g : Nat) : State → Host.Outcome State Fault Refusal := ends <| .read fun s =>
  let ms := (List.range 16).filter (hasBit (s.rd Reg.MSR_GRP.MEMBERS g))
  match (s.group g).since with
  | none => .skip
  | some t0 =>
    let t := (ms.map fun n => match (s.icv n).cur with | some c => c.readyAt | none => 0).foldl max t0 + 50
    if ms ≠ [] ∧ ms.all s.awaits ∧ t ≤ s.time then
      .seq (updGroups g fun _ => {}) (each ms fun n => .seq (integrate n t 7)
        (updIcvs n fun x => { x with cur := x.cur.map fun c => { c with flags := setBit c.flags 3 } }))
    else .skip

/-! Conversions (R248 to R255, R264). -/

/-- ICV_PASS_START (R254, R255): the table has been run to its end, or has not begun; pending loads go into use. -/
def execIcvPassStart (n : Nat) : State → Host.Outcome State Fault Refusal := ends <| .read fun s =>
  let x := s.icv n
  if s.icvRuns n && !s.refereeOn n && x.cur.isNone && decide (x.delayUntil ≤ s.time) && (!x.inPass || s.nextEntry n x.pos == 32) then
    let pass := if x.inPass then x.pass + 1 else x.pass
    seqs [
      when (fun _ => x.inPass) (setR Reg.MSR_ICV_PASS.PASS_LAST (min (s.time - x.passAt) 0xFFFFF) n),
      when (fun _ => x.inPass) (turnsPass n x.pos 32), pendTake n,
      updIcvs n fun x => { x with
        pass, passAt := s.time, inPass := true, pos := 0, done := 0, used := false, turned := [],
        resume := false, avgVals := [], avgFlags := 0 },
      setR Reg.MSR_ICV_STATUS.WINDOW (pass % 4) n, setR Reg.MSR_ICV_STATUS.REPEAT_DONE 0 n, setR Reg.MSR_ICV_STATUS.ENTRY 0 n]
  else .skip

/-- ICV_CONVERSION_START (R248, R253): the next conversion of the table begins; a referee or host request that waits comes first (R284). -/
def execIcvConversionStart (n : Nat) : State → Host.Outcome State Fault Refusal := ends <| .read fun s =>
  let x := s.icv n
  let i := s.nextEntry n x.pos
  if s.icvRuns n && !s.refereeOn n && !s.urgentDue n && x.cur.isNone && x.inPass && decide (x.delayUntil ≤ s.time ∧ i < 32) then
    seqs [
      turnsPass n x.pos i,
      when (fun _ => i != x.pos) (updIcvs n fun x => { x with pos := i, done := 0, avgVals := [], avgFlags := 0 }),
      convBegin n (s.convOf n i (s.entry n i) (if x.resume then 2 ^ 12 else 0)),
      updIcvs n fun x => { x with resume := false },
      updR Reg.MSR_ICV_STATUS.REPEAT_DONE (fun t => (t.icv n).done) n]
  else .skip

/-- `URG_Q` shows the queued urgent requests (R289). -/
def urgQ (n : Nat) : Prog := updR Reg.MSR_ICV_STATUS.URG_Q (fun s => (s.icv n).queue.length) n

/-- URGENT_CONVERSION_START (R264): a host urgent or calibration conversion runs, at most one per pass. -/
def execUrgentConversionStart (n : Nat) : State → Host.Outcome State Fault Refusal := ends <| .read fun s =>
  match (s.icv n).nextUrgent with
  | none => .skip
  | some (c, rest) =>
    if !s.urgentDue n then .skip
    else
      let auto := c.range == 3
      let r := s.convRange n c.chan c.range
      seqs [abortRunning n, updIcvs n fun x => { x with queue := rest, used := true }, urgQ n,
        convBegin n { c with range := r, auto, readyAt := s.convReady n c.chan r, trig := false, per := s.perT, lp := s.lowPower n }]

/-- The flags of a conversion's result (R266). -/
def State.resultFlags (s : State) (n : Nat) (c : Conv) (ovr : Bool) : Nat :=
  let put := fun (b : Bool) (k f : Nat) => if b then setBit f k else f
  put ovr 0 <| put c.auto 1 <| put c.uncal 5 <| put c.lp 6 <| put (s.injected n c.chan) 10 <|
    put (c.kind != 0) 4 <| put (c.kind == 2) 8 c.flags

/-- The record of a conversion that has ended now (R266): the stamp in full, the flags and the value. -/
def State.recOf (s : State) (n : Nat) (c : Conv) (stamp flags : Nat) (value raw : Int) (ring : Option Nat) : MeasRec :=
  { src := n, chan := c.chan, sl := chanSlot n c.chan, range := c.range, flags, entry := c.entry, cyc := c.cyc, value, raw, stamp,
    endAt := s.time, ring }

/-- The conversion of a table entry has a result (R253, R266 to R268): a record at once, or at the end of an AVG visit. -/
def tableResult (n : Nat) (c : Conv) (stamp flags : Nat) (value raw : Int) : Prog := .read fun s =>
  let x := s.icv n
  let e := s.entry n c.entry
  let last := decide (x.done + 1 ≥ e.rep)
  let issue := fun (st fl : Nat) (v : Int) => recIssue n (s.recOf n c st fl v raw (if e.ring then some (s.measFn (chanSlot n c.chan)) else none))
  seqs [
    if e.avg then
      (let vals := value :: x.avgVals
       let fl := setBit (x.avgFlags ||| flags) 9
       let st := if x.avgVals = [] then stamp else x.avgStamp
       if last then issue st fl (divRound vals.sum vals.length)
       else updIcvs n fun x => { x with avgVals := vals, avgFlags := fl, avgStamp := st })
    else issue stamp flags value,
    updIcvs n fun x => { x with
      delayUntil := s.time + e.delay, done := if last then 0 else x.done + 1, pos := if last then x.pos + 1 else x.pos,
      avgVals := if last then [] else x.avgVals, avgFlags := if last then 0 else x.avgFlags },
    setR Reg.MSR_ICV_STATUS.STATE (if e.delay = 0 then 1 else 4) n,
    updR Reg.MSR_ICV_STATUS.REPEAT_DONE (fun t => (t.icv n).done) n,
    updR Reg.MSR_ICV_STATUS.ENTRY (fun t => min (t.nextEntry n (t.icv n).pos) 31) n]

/-- A calibration code of a job is kept until there are sixteen (R282). -/
def calCode (j : CalJob) (raw : Int) : CalJob := { j with codes := (raw :: j.codes).take 16 }

/-- The coulomb converter's codes of one conversion count toward its mean (R300). -/
def coulCode (g : GaugeRec) (j : CalJob) : CalJob := { j with
  accSum := j.accSum + ofField 48 ((g.acc + 2 ^ 48 - j.acc0) % 2 ^ 48), accN := j.accN + (g.nsamp + 2 ^ 32 - j.n0) % 2 ^ 32 }

/-- An urgent or calibration conversion has a result (R264, R282); none where a reset of its function has discarded it (R286). -/
def urgentResult (n : Nat) (c : Conv) (stamp flags : Nat) (value raw : Int) : Prog := .read fun s => .seq
  (setR Reg.MSR_ICV_STATUS.STATE 1 n)
  (if c.discard then .skip else seqs [
    recIssue n (s.recOf n c stamp flags value raw (some c.fn)),
    (match c.kind, c.ctl with
     | 1, some ctl => finishRun ctl stOk (stamp % 2 ^ 32)
     | _, _ => .skip),
    updIcvs n fun x => { x with cal := if c.kind = 2 then x.cal.map fun j => coulCode (s.gauge j.slot) (calCode j raw) else x.cal }])

/-- The code of a conversion and whether its input was at or beyond ±FS (R245), from the code that the input asks for. -/
def clipCode (raw : Int) : Int × Bool := (sat (-8388608) 8388607 raw, decide (8388608 ≤ raw ∨ raw ≤ -8388608))

/-- ICV_INTEGRATION_END (R244, R248 steps 3 to 5): the code `raw` that the input asks for, not clipped; the highest voltage on the pin
meanwhile, mV, which opens the protected path of a VPACK input above 3,000 mV; the mean of the fast output-voltage samples over the window where
the channel is VPACK, and such means over other mains cycles since the last record (R268, R518). -/
def execIcvIntegrationEnd (n : Nat) (raw : Int) (pin fast : Nat) (others : List Nat) :
    State → Host.Outcome State Fault Refusal := ends <| .read fun s =>
  match (s.icv n).cur with
  | none => .skip
  | some c =>
    match c.startAt with
    | none => .skip
    | some t0 =>
      if s.time < t0 + c.len ∨ s.flag Reg.MSR_ICV_STATUS.FAILED n then .skip
      else
        let vpack := decide (c.chan < 12 ∧ c.chan % 3 = 0)
        let opens := vpack && decide (3000 < pin)
        let got := if opens && c.range == 1 then (8388607, true) else clipCode raw
        let code := got.1
        let ovr := got.2
        let value := calValue code c.off c.gain (fsOf c.range)
        let flags := s.resultFlags n c ovr
        let sl := chanSlot n c.chan
        seqs [
          when (fun _ => ovr) (incSat Reg.MSR_ICV_CNT.OVR n),
          updIcvs n fun x => { x with
            cur := none,
            paths := if !vpack then x.paths else (if opens then [c.chan / 3] else []) ++ x.paths.filter (· != c.chan / 3) },
          resKeep n (s.recOf n c t0 flags value code none),
          when (fun t => vpack && t.rd Reg.MSR_ICV_LAST.VALUE n c.chan != 0x80000000)
            (each others fun m => .read fun t =>
              outCheck sl 2 m (divRound (ofField 32 (t.rd Reg.MSR_ICV_LAST.VALUE n c.chan)) 1000).toNat c.range),
          when (fun _ => vpack && !ovr) (outCheck sl 1 fast (divRound value 1000).toNat c.range),
          rangeFollows n c.chan c.range value ovr,
          if c.kind = 0 then tableResult n c t0 flags value code else urgentResult n c t0 flags value code]

/-- ICV_CONVERSION_TIMEOUT (R248): the readout has not ended within T after the expected end of the integration. -/
def execIcvConversionTimeout (n : Nat) : State → Host.Outcome State Fault Refusal := ends <| .read fun s =>
  match (s.icv n).cur with
  | some c =>
    if (match c.startAt with | some t => decide (t + c.len + c.per / 10 ≤ s.time) | none => false) then
      .seq (incSat Reg.MSR_ICV_CNT.TIMEOUTS n) (icvFail n 1)
    else .skip
  | none => .skip

/-! The fine converter (R270 to R277). -/

/-- Offset and gain of an FCV in a range (R283). -/
def State.fcvValue (s : State) (p r : Nat) (raw : Int) : Int :=
  calValue raw (ofField 32 (s.rd Reg.MSR_FCV_OFF.OFFSET p r)) (s.rd Reg.MSR_FCV_GAIN.GAIN p r) (fsOf r)

/-! What an FCV converts next (R271, R272, R275). -/

/-- The channels that an ICV's table in use names (R272). -/
def State.tableChans (s : State) (n : Nat) : List Nat :=
  ((List.range 32).filterMap fun i => if (s.entry n i).rep = 0 then none else some (s.entry n i).chan).eraseDups

/-- The channels that an FCV cross-checks (R272), as ICV position × 32 + channel: in the tables of its Planter, and not carried by itself. -/
def State.checkKeys (s : State) (p : Nat) : List Nat :=
  (List.range 4).flatMap fun k => if s.flag Reg.MSR_ICV_STATUS.FAILED (4 * p + k) then []
    else ((s.tableChans (4 * p + k)).filter fun c => !s.chanSubst (4 * p + k) c).map (32 * k + ·)

/-- The age of a channel's last cross-check, µs; since the FCV came up where there has been none. -/
def State.checkAge (s : State) (p key : Nat) : Nat :=
  s.time - (((s.fcv p).ages.find? fun e => e.1 == key).map (·.2)).getD (s.fcv p).bootAt

/-- `AGE_MAX` (R272): the age of the oldest check, s. -/
def ageShow (p : Nat) : Prog := updR Reg.MSR_FCV_XCHK.AGE_MAX (fun s =>
  min (((s.checkKeys p).map fun k => s.checkAge p k / 1000000).foldl max 0) 0xFFFF) p

/-- The channel checked longest ago, where that is at least `us`. -/
def State.checkOldest (s : State) (p us : Nat) : Option Nat :=
  (s.checkKeys p).foldl (fun best k =>
    if s.checkAge p k < us then best
    else match best with
      | none => some k
      | some b => if s.checkAge p b < s.checkAge p k then some k else some b) none

/-- A channel is due for a cross-check (R272). That it is from 20 s on is the model's choice, which keeps every check within 60 s. -/
def checkDueUs : Nat := 20000000

/-- A target of an FCV as the ICV of its Planter and the channel (R292). -/
def targetIcv (p target : Nat) : Nat := 4 * p + target / 16
def targetChan (target : Nat) : Nat := target % 16

/-- An FCV conversion with the calibration in force now (R283). -/
def State.fcvSel (s : State) (p task target range entry : Nat) : FcvSel :=
  { task, target, range, entry, off := ofField 32 (s.rd Reg.MSR_FCV_OFF.OFFSET p range), gain := s.rd Reg.MSR_FCV_GAIN.GAIN p range,
    uncal := s.fcvUncal p range }

/-- A channel of an ICV as a target code: channels 16 to 19 lie beyond the codes of R292. -/
def chanTarget (n chan : Nat) : Nat := if chan < 16 then n % 4 * 16 + chan else 0x100 + n % 4 * 32 + chan

/-- The ICV and channel of such a target. -/
def targetOf (p target : Nat) : Nat × Nat :=
  if target < 0x100 then (targetIcv p target, targetChan target) else (4 * p + (target - 0x100) / 32, target % 32)

/-- The cross-check of a channel, in the range of the ICV's own conversion of it (R272). -/
def State.checkSel (s : State) (p key place : Nat) : FcvSel :=
  let n := 4 * p + key / 32
  let c := key % 32
  s.fcvSel p 0 (chanTarget n c) (((s.icv n).lastRange.find? fun e => e.1 == c).map (·.2) |>.getD (s.autoRange n c)) place

/-- The substituted conversion of an entry (R275). -/
def State.substSel (s : State) (n i : Nat) : FcvSel :=
  let e := s.entry n i
  s.fcvSel (n / 4) 1 (chanTarget n e.chan) (s.convRange n e.chan e.range) i

/-- The slot of a Planter whose wet-connector test runs: the DAC has one user at a time, the lower slot first (R280). -/
def State.wetSlot (s : State) (p : Nat) : Option Nat := ((List.range 16).map (16 * p + ·)).find? fun sl => (s.slot sl).wetRunning

/-- The FCV's tasks below substitution (R271): wet tests, self-test, calibrations, due cross-checks, PF urgent requests. Where calibrations
stand in that order is the model's choice, by their bound of 3 s (R282). -/
def State.fcvLower (s : State) (p : Nat) (checks : Bool) : Option FcvSel :=
  let x := s.fcv p
  if (s.wetSlot p).isSome then some (s.fcvSel p 5 0x50 1 0)
  else if x.selfAt + 10000000 ≤ s.time then some (s.fcvSel p 4 0x51 1 0)
  else match x.cal.filter fun j => decide (j.codes.length < 16) with
  | some j => some (s.fcvSel p 3 (chanTarget (j.slot / 4) (slotChan j.slot j.input)) j.range 0)
  | none => match (if checks then s.checkOldest p checkDueUs else none) with
    | some k => some (s.checkSel p k 0)
    | none => match x.urg with
      | (_, t, r, _) :: _ =>
        some (s.fcvSel p 2 t (if r ≠ 3 then r else if t < 0x40 then s.autoRange (targetIcv p t) (targetChan t) else 2) 0)
      | [] => none

/-- The entries of a round of whole-ICV substitution (R275). -/
def State.roundOf (s : State) (n win : Nat) : List Nat := (List.range 32).filter (s.turnIn n win)

/-- The conversion that an FCV begins now (R271). In whole-ICV substitution the entries of the round come first, then its two cross-checks; where
that leaves room within 19 conversions, one lower task goes between two rounds. -/
def State.fcvPick (s : State) (p : Nat) : Option FcvSel :=
  let x := s.fcv p
  if s.rd Reg.MSR_FCV_STATUS.STATE p = 2 ∨ s.mode = mShip ∨ s.mode = mService ∨ ¬ hasBit (s.rd Reg.PWR_DOM.ON) (22 + p) ∨ x.referee.isSome then none
  else if s.rd Reg.MSR_FCV_STATUS.STATE p = 1 then
    let n := 4 * p + s.rd Reg.MSR_FCV_STATUS.SUBST_ICV p
    let l := s.roundOf n x.subWin
    match l.find? fun i => decide (x.subPos ≤ i) with
    | some i => some (s.substSel n i)
    | none =>
      match (if x.subPos ≤ 33 then s.checkOldest p 0 else none) with
      | some k => some (s.checkSel p k (max 32 x.subPos))
      | none =>
        match (if x.subPos ≤ 34 ∧ l.length ≤ 15 then s.fcvLower p false else none) with
        | some c => some { c with entry := 34 }
        | none => l.head?.map (s.substSel n)
  else match x.owed with
    | e :: _ => some (s.substSel e.1 e.2)
    | [] => s.fcvLower p true

/-- The next conversion of an FCV begins; a new round of substitution takes the next window and the pending loads (R255, R275). -/
def fcvNext (p : Nat) : Prog := .read fun s =>
  let turn := match s.fcvPick p with
    | some c => s.rd Reg.MSR_FCV_STATUS.STATE p == 1 && c.task == 1 && decide (c.entry < (s.fcv p).subPos)
    | none => false
  .seq (if turn then .seq (pendTake (4 * p + s.rd Reg.MSR_FCV_STATUS.SUBST_ICV p))
      (updFcvs p fun x => { x with subPos := 0, subWin := (x.subWin + 1) % 4 }) else .skip)
    (.read fun t => updFcvs p fun x => { x with cur := t.fcvPick p })

/-- An FCV conversion has ended now: the round goes on, and the next conversion begins. -/
def fcvDone (p : Nat) (c : FcvSel) : Prog := .read fun s => seqs [
  updFcvs p fun x => { x with
    endAt := s.time, cur := none,
    owed := if c.task = 1 then x.owed.filter fun e => e != ((targetOf p c.target).1, c.entry) else x.owed,
    subPos := if c.task = 1 ∨ 32 ≤ c.entry then c.entry + 1 else x.subPos },
  ageShow p, fcvNext p]

/-- An escalated mismatch is reported (R518, R546). -/
def xchkFail (sl check sub a b : Nat) : Prog :=
  .seq (incSat Reg.SAF_CNT.XCHK_FAIL) (raisePf evXchkFail sl (dat 16 1 check + dat 17 1 sub + dat 20 4 a + dat 24 4 b))

/-- The ICV's result that a cross-check compares with (R272): of the same channel and range, integrated within the 100 ms window that ends now; an
integration longer than the window ends within it. -/
def State.checkWith (s : State) (n chan range : Nat) : Option MeasRec :=
  (((s.icv n).res.find? fun e => e.1 == chan).map (·.2)).filter fun r =>
    r.range == range && decide (s.time ≤ r.endAt + 100000) && (decide (s.time ≤ r.stamp + 100000) || decide (r.stamp + 100000 < r.endAt))

/-- A cross-check of an ICV channel against the FCV's value (R272, R273, R518): the second mismatch in a row calls the referee. -/
def crossCheck (p : Nat) (c : FcvSel) (v : Int) (ovr : Bool) : Prog := .read fun s =>
  let n := (targetOf p c.target).1
  let chan := (targetOf p c.target).2
  let key := n % 4 * 32 + chan
  let sl := chanSlot n chan
  match s.checkWith n chan c.range with
  | none => .skip
  | some r =>
    let skip := ovr || hasBit r.flags 0 || (decide (chan < 12 ∧ chan % 3 = 0) && !(s.slot (s.carrier sl)).idClosed)
    let bad := decide ((v - r.value).natAbs > uvLimit c.range)
    seqs [
      updFcvs p fun x => { x with ages := (key, s.time) :: x.ages.filter fun e => e.1 != key },
      if skip then .skip
      else if !bad then updFcvs p fun x => { x with mis := x.mis.filter (· != key) }
      else .seq (incSat Reg.MSR_FCV_XCHK.MISMATCH p)
        (if (s.fcv p).mis.contains key then .seq (updFcvs p fun x => { x with mis := x.mis.filter (· != key) })
          (refereeBegin n chan c.range r.value v)
        else updFcvs p fun x => { x with mis := key :: x.mis })]

/-- The channel of an ICV is carried by its FCV (R275). -/
def State.substituted (s : State) (n chan : Nat) : Bool :=
  s.flag Reg.MSR_ICV_STATUS.FAILED n || s.chanSubst n chan

/-- The CHAN of an FCV record (R266, R353). -/
def fcvChan (p target : Nat) : Nat :=
  if 0x40 ≤ target ∧ target < 0x50 then 0x20 + (target - 0x40) else if 0x50 ≤ target ∧ target < 0x100 then target else (targetOf p target).2

/-- The record of an FCV conversion that has ended now, 100 ms after its start (R266, R270): `put` adds flags. INJ where the DAC drives its input. -/
def State.fcvRecord (s : State) (p : Nat) (c : FcvSel) (v raw : Int) (ovr : Bool) (put entry cyc : Nat) (ring : Option Nat) : MeasRec :=
  let n := (targetOf p c.target).1
  let chan := (targetOf p c.target).2
  let own := decide (0x40 ≤ c.target ∧ c.target < 0x100)
  let inj := s.pfInjects p 0x50 || (if own then s.pfInjects p c.target else s.injected n chan)
  { src := 16 + p, chan := fcvChan p c.target, sl := if own then dacSlot p c.target else chanSlot n chan, range := c.range,
    flags := put + bit ovr + 32 * bit c.uncal + 1024 * bit inj, entry, cyc, value := v, raw, stamp := s.time - 100000, endAt := s.time, ring }

/-- A substituted conversion (R268, R275): the record carries SUBST and goes where the ICV's record would; the Sundial compares a pack voltage
with the fast mean, and the channel's auto-range state follows. -/
def substResult (p : Nat) (c : FcvSel) (v raw : Int) (ovr : Bool) (fast : Nat) : Prog := .read fun s =>
  let n := (targetOf p c.target).1
  let chan := (targetOf p c.target).2
  let e := s.entry n c.entry
  let sl := chanSlot n chan
  if s.substituted n chan && e.chan == chan then seqs [
    rangeFollows n chan c.range v ovr,
    when (fun _ => decide (chan < 12 ∧ chan % 3 = 0) && !ovr) (outCheck sl 1 fast (divRound v 1000).toNat c.range),
    recIssue n (s.fcvRecord p c v raw ovr (4 + 2 * bit (e.range == 3)) c.entry e.cyc (if e.ring then some (s.measFn sl) else none))]
  else .skip

/-- A PF urgent request of the FCV ends (R264, R271). -/
def fcvUrgent (p : Nat) (c : FcvSel) (v raw : Int) (ovr : Bool) : Prog := .read fun s =>
  match (s.fcv p).urg with
  | [] => .skip
  | (ctl, target, range, cyc) :: rest => seqs [
      updFcvs p fun x => { x with urg := rest },
      if target < 0x40 then rangeFollows (targetIcv p target) (targetChan target) c.range v ovr else .skip,
      recIssue (targetIcv p target) (s.fcvRecord p c v raw ovr (16 + 2 * bit (range == 3)) 0xFF cyc (some pfFn)),
      finishRun ctl stOk ((s.time - 100000) % 2 ^ 32)]

/-- FCV_CONVERSION_END (R270): the precision conversion that runs, 100 ms after the one before it, ends with the code `raw` that its input asks
for, and serves its task; `fast` is the mean of the fast output-voltage samples over its window. -/
def execFcvConversionEnd (p : Nat) (raw : Int) (fast : Nat) : State → Host.Outcome State Fault Refusal := ends <| .read fun s =>
  let x := s.fcv p
  match x.cur.or (s.fcvPick p) with
  | none => .skip
  | some c =>
    if s.rd Reg.MSR_FCV_STATUS.STATE p = 2 ∨ s.mode = mShip ∨ s.mode = mService ∨ s.time < x.endAt + 100000 ∨ c.task = 4 ∨ c.task = 5 then .skip
    else
      let code := (clipCode raw).1
      let ovr := (clipCode raw).2
      let v := calValue code c.off c.gain (fsOf c.range)
      seqs [
        setR Reg.MSR_FCV_LAST.VALUE (toField 32 v) p,
        if c.task = 0 then crossCheck p c v ovr
        else if c.task = 1 then substResult p c v code ovr fast
        else if c.task = 2 then fcvUrgent p c v code ovr
        else if c.task = 3 then updFcvs p fun x => { x with cal := x.cal.map fun j => calCode j code } else .skip,
        fcvDone p c]

/-- A converter is right on the DAC (R274, R278): both readings within the limit of the injected levels, 25 % and 75 % of FS. -/
def onDac (range : Nat) (again : Bool) (l : List Int) : Bool :=
  let levels : List Int := if again then [1250000] else
    [dacLevel (fsOf range / 4) (if range = 2 then 32 else 1), dacLevel (fsOf range / 4 * 3) (if range = 2 then 32 else 1)]
  let lim := if again then uvLimit 1 else uvLimit range
  decide (l.length = levels.length) && (List.zipWith (fun a b => decide ((a - b).natAbs ≤ lim)) l levels).all id

/-- REFEREE_FINDING (R265, R274): once the conversions that ran have ended, the readings of the ICV and of the FCV on the injected levels, µV, and for a VPACK channel the fast
output-voltage mean, mV. The records of these conversions, of voltages that the DAC made up, have no issuer; they go to the LAST registers
alone. -/
def execRefereeFinding (p : Nat) (icvR fcvR : List Int) (fast : Nat) : State → Host.Outcome State Fault Refusal := ends <| .read fun s =>
  match (s.fcv p).referee with
  | none => .skip
  | some (n, chan, range, a, b) =>
    if (s.icv n).cur.isSome ∨ (s.fcv p).cur.isSome then .skip else
    let again := (s.fcv p).again
    let icvOk := onDac range again icvR
    let fcvOk := onDac range again fcvR
    let sl := chanSlot n chan
    let told := fun (sub : Nat) => if sl = 0xFF then .skip else xchkFail sl 0 sub (toField 32 a) (toField 32 b)
    let mv := fun (v : Int) => (divRound v 1000).toNat
    let toIcv := outAgree 1 fast (mv a)
    let toFcv := outAgree 1 fast (mv b)
    let nearIcv := decide ((max fast (mv a) - min fast (mv a)) ≤ (max fast (mv b) - min fast (mv b)))
    let shown := fun (f : Nat → Prog) (l : List Int) => match l.getLast? with
      | some v => f (toField 32 v)
      | none => .skip
    seqs [
      shown (fun v => if chan < 16 then setR Reg.MSR_ICV_LAST.VALUE v n chan else .skip) icvR,
      shown (fun v => setR Reg.MSR_FCV_LAST.VALUE v p) fcvR,
      if !icvOk && fcvOk then seqs [told 0xFF, refereeEnds p, icvFail n 0]
      else if icvOk && !fcvOk then seqs [told 0xFF, refereeEnds p, fcvOut p 1]
      else if icvOk then
        (if chan < 12 ∧ chan % 3 = 0 ∧ toIcv ∧ (¬ toFcv ∨ nearIcv) then seqs [told 0xFF, refereeEnds p, fcvOut p 1]
         else seqs [told 0xFF, refereeEnds p, chanFail n chan])
      else if !again then updFcvs p fun x => { x with again := true }
      else seqs [told 3, refereeEnds p, fcvOut p 1, icvFail n 0],
      updFcvs p fun x => { x with endAt := s.time }, fcvNext p]

/-- FCV_SELF_TEST (R271, R276): the self-test that is due, in two conversions: the zero point and the 1,250 mV reference as read on ±2.5 V, µV. -/
def execFcvSelfTest (p : Nat) (zero ref : Int) : State → Host.Outcome State Fault Refusal := ends <| .read fun s =>
  let x := s.fcv p
  match x.cur.or (s.fcvPick p) with
  | none => .skip
  | some c =>
    if c.task ≠ 4 ∨ s.time < x.endAt + 200000 then .skip
    else seqs [
      setR Reg.MSR_FCV_LAST.VALUE (toField 32 ref) p, updFcvs p fun x => { x with selfAt := s.time },
      if zero.natAbs > 1250 ∨ (ref - 1250000).natAbs > 2500 then fcvOut p 0 else fcvDone p c]

/-- FCV_LOST_INJECTION_CHECK (R265, R276): with the FCV lost, an NTC or SHUNT channel is read with the test DAC at two levels, as an urgent
conversion. -/
def execFcvLostInjectionCheck (n chan range : Nat) (readings : List Int) : State → Host.Outcome State Fault Refusal := ends <| .read fun s =>
  let p := n / 4
  let busy : Bool := match (s.icv n).cur with | some c => c.kind != 0 | none => false
  if s.rd Reg.MSR_FCV_STATUS.STATE p ≠ 2 ∨ chan ≥ 16 ∨ (chan < 12 ∧ chan % 3 = 0) ∨ ¬ s.icvLive n ∨ s.chanSubst n chan ∨ busy then .skip
  else seqs [
    abortRunning n, updFcvs p fun x => { x with ages := (n % 4 * 32 + chan, s.time) :: x.ages.filter fun e => e.1 != n % 4 * 32 + chan },
    (match readings.getLast? with
     | some v => setR Reg.MSR_ICV_LAST.VALUE (toField 32 v) n chan
     | none => .skip),
    if onDac range false readings then .skip else chanFail n chan]

/-! The test DAC and calibration (R278 to R283). -/

/-- DAC_INJECT_WRITE (R280): a PF write of `MSR_DAC_CTRL`. An injection into an input in use is ignored whole and sets REJ. -/
def execDacInjectWrite (p : Nat) (en att : Bool) (target code : Nat) : State → Host.Outcome State Fault Refusal :=
  pfWrites Reg.MSR_DAC_CTRL.EN p 0 (fun _ => if target > 0x50 ∨ code ≥ 65536 then 5 else 0) (.read fun s =>
    if en && !s.dacMay p target then .seq (setR Reg.MSR_DAC_STATUS.REJ 1 p) (accErr (Reg.MSR_DAC_CTRL.EN.addr p 0 0) 6)
    else seqs [setR Reg.MSR_DAC_CTRL.EN (bit en) p, setR Reg.MSR_DAC_CTRL.ATT (bit att) p,
      setR Reg.MSR_DAC_CTRL.TARGET target p, setR Reg.MSR_DAC_CTRL.CODE code p, dacShow p])

/-- The pending mean of a calibration target (R282). -/
def PendZ.is (z : PendZ) (j : CalJob) (fcv : Bool) : Bool := z.slot == j.slot && z.input == j.input && z.range == j.range && z.fcv == fcv

/-- CAL_FULL has its mean (R283, R300): the pair, and the coulomb converter's beside it, go to the keep in one record. -/
def calFull (j : CalJob) (fcv : Bool) (f : Int) (coul : Option Int) : Prog := .read fun s =>
  match s.pendZ.find? fun z => z.is j fcv with
  | none => finishRun j.ctl stCalNozero
  | some z =>
    let pair := (calPair z.z f z.applied j.applied (fsOf j.range) 23).filter (calOk 41943)
    let wants := !fcv && j.input == 3 && j.range == 0 && decide (40000 ≤ j.applied ∧ j.applied ≤ 47500)
    let cpair := match z.coul, coul with
      | some cz, some cf => (calPair cz cf z.applied j.applied 50000 19).filter (calOk 2621)
      | _, _ => none
    let drop := updPendZ fun l => l.filter fun z => !z.is j fcv
    let chan := slotChan j.slot j.input
    .seq drop
      (match pair with
       | none => finishRun j.ctl stCalRange
       | some (off, gain) =>
         if fcv then keepRequest { effect := .calFcv (j.slot / 16) j.range (toField 32 off) gain, ctl := some j.ctl }
         else if !wants then keepRequest { effect := .calIcv (j.slot / 4) chan j.range (toField 32 off) gain none, ctl := some j.ctl }
         else match cpair with
           | none => finishRun j.ctl stCalRange
           | some (co, cg) => keepRequest
              { effect := .calIcv (j.slot / 4) chan j.range (toField 32 off) gain (some (j.slot, toField 32 co, cg)), ctl := some j.ctl })

/-- Sixteen codes of a calibration are averaged (R282). -/
def calEnd (j : CalJob) (fcv : Bool) : Prog := .read fun s =>
  let z := codeMean j.codes
  let cz := if !fcv && j.input == 3 && j.range == 0 && j.accN != 0 then some (divRound j.accSum j.accN) else none
  if noisy j.codes then finishRun j.ctl stCalNoisy
  else if j.full then calFull j fcv z cz
  else .seq (updPendZ fun l => { slot := j.slot, input := j.input, range := j.range, fcv, z, applied := j.applied, coul := cz, at_ := s.time } ::
      l.filter fun z => !z.is j fcv)
    (finishRun j.ctl stOk (toField 32 z))

/-- CAL_AVERAGE_DONE (R282, R283, R300): on ICV `unit`, or on FCV `unit - 16`. -/
def execCalAverageDone (unit : Nat) : State → Host.Outcome State Fault Refusal := ends <| .read fun s =>
  let fcv := decide (16 ≤ unit)
  match (if fcv then (s.fcv (unit - 16)).cal else (s.icv unit).cal) with
  | none => .skip
  | some j =>
    if j.codes.length < 16 then .skip
    else .seq (if fcv then updFcvs (unit - 16) fun x => { x with cal := none } else updIcvs unit fun x => { x with cal := none })
      (calEnd j fcv)

/-- CAL_ZERO_EXPIRY (R282): a mean that has waited 10 minutes is dropped. -/
def execCalZeroExpiry : State → Host.Outcome State Fault Refusal := ends <| .read fun s =>
  updPendZ fun l => l.filter fun z => decide (s.time < z.at_ + 600000000)

end Sys2Proof.Machine
end

