-- ==== Sys2Proof/Machine/Gauge.lean ====
section
/-! DEFINITION. The commands of the gauges (chapter 07) and of their cross-checks (R518 to R521), and what the gauge pairs do at
every tick boundary (R299, R308). -/

namespace Sys2Proof.Machine

/-- The code-samples that count, ΔA − ΔN × (OFF + ZTRIM), between two readings (R299). -/
def State.netCodes (s : State) (sl acc n acc0 n0 : Nat) : Int :=
  let dA := ofField 48 ((acc + 2 ^ 48 - acc0) % 2 ^ 48)
  let dN : Nat := (n + 2 ^ 32 - n0) % 2 ^ 32
  dA - dN * (ofField 32 (s.rd Reg.GAU_CAL_OFF.OFF sl) + ofField 11 (s.rd Reg.GAU_ZTRIM.ZTRIM sl))

/-- One 0.1 mAh in the units of `phaseTot`: 360 mA s in mA × ticks of 62.5 ps. -/
def phaseUnit : Int := 5760000000000

/-- The charge of a tick is added: to the gauge's counts, and to the charge and energy that a charge, TRANSFER or AUDIT keeps
(R185, R188, R308, R315, R363). -/
def chargeAdd (sl : Nat) (q : Int) : Prog := .read fun s =>
  let v := s.rd Reg.SLT_VPACK.VPACK sl
  let out := (-q).toNat
  let donor := s.slSt sl == slDonor
  let aud := (s.slot sl).audStep == 3 || (s.slot sl).audStep == 4
  let qf : Int := s.rd Reg.GAU_QFULL.Q_FULL sl
  let g := s.gauge sl
  let top := if g.capAtFull then qf else divRound (6 * qf) 5
  seqs [
    updSlots sl fun x => { x with
      chargeQ := x.chargeQ + q,
      audQ := if aud then x.audQ - q else x.audQ,
      audE := if aud then x.audE + (x.audEFrac + out * v) / 10000 else x.audE,
      audEFrac := if aud then (x.audEFrac + out * v) % 10000 else x.audEFrac,
      eOut := if donor && x.audStep == 0 then x.eOut + (x.eFrac + out * v) / 10000 else x.eOut,
      eFrac := if donor && x.audStep == 0 then (x.eFrac + out * v) % 10000 else x.eFrac },
    if s.gaugeOn sl then seqs [
      updGauges sl fun g => { g with
        counted := g.counted + q,
        inFrac := (g.inFrac + q.toNat) % 1000, outFrac := (g.outFrac + out) % 1000 },
      setR Reg.GAU_THRU_IN.THRU_IN (s.rd Reg.GAU_THRU_IN.THRU_IN sl + (g.inFrac + q.toNat) / 1000) sl,
      setR Reg.GAU_THRU_OUT.THRU_OUT (s.rd Reg.GAU_THRU_OUT.THRU_OUT sl + (g.outFrac + out) / 1000) sl,
      if s.rd Reg.GAU_STATUS.STATE sl = 2 then
        setR Reg.GAU_QREM.Q_REM (toField 32 (sat (-(divRound qf 5)) top (s.qRem sl + q))) sl
      else .skip]
    else .skip]

/-- What the gauge pair of a slot does at a tick boundary (R299, R302, R308). -/
def gaugeTick (sl : Nat) : Prog := .read fun s =>
  let g := s.gauge sl
  if s.flag Reg.GAU_STATUS.DEGRADED sl then
    let q := (g.phaseTot - g.lastPhase) / phaseUnit
    .seq (updGauges sl fun g => { g with lastPhase := g.lastPhase + q * phaseUnit, lastAcc := g.acc, lastN := g.nsamp }) (chargeAdd sl q)
  else
    let num := s.netCodes sl g.acc g.nsamp g.lastAcc g.lastN * s.rd Reg.GAU_CAL_GAIN.GAIN sl * 10000 + g.frac
    let den : Int := 2 ^ 52 * 36 * s.rd Reg.GAU_CFG.SHUNT sl
    .seq (updGauges sl fun g => { g with lastAcc := g.acc, lastN := g.nsamp, frac := num % den }) (chargeAdd sl (num / den))

/-- The coulomb converter's mean current between the newest and the oldest of the readings, mA. -/
def State.coulMean (s : State) (sl : Nat) (l : List (Nat × Nat × Int × Nat)) : Int :=
  match l.head?, l.getLast? with
  | some (a1, n1, _, _), some (a0, n0, _, _) =>
    let dN := (n1 + 2 ^ 32 - n0) % 2 ^ 32
    if dN = 0 then 0
    else divRound (s.netCodes sl a1 n1 a0 n0 * s.rd Reg.GAU_CAL_GAIN.GAIN sl * 50000000) (2 ^ 49 * dN * s.rd Reg.GAU_CFG.SHUNT sl)
  | _, _ => 0

/-- The mean of the phase-current sum over the same time, mA. -/
def phaseMean (l : List (Nat × Nat × Int × Nat)) : Int :=
  match l.head?, l.getLast? with
  | some (_, _, p1, t1), some (_, _, p0, t0) => if t1 ≤ t0 then 0 else divRound (p1 - p0) ((t1 - t0) * 16000)
  | _, _ => 0

/-- A donor of a TRANSFER, also one in ISLAND, that may teach its capacity (R318). -/
def State.mayLearn (s : State) (sl : Nat) : Bool :=
  let x := s.slot sl
  let z := s.rd Reg.SLT_STATUS.ZONE sl
  decide (x.floorCell ≤ s.rd Reg.GAU_SOC.V_CUT_CELL sl) && x.socFloor == 0 && x.emax == 0 && !x.audBad && z != 0 && z != 4 &&
  s.rd Reg.SLT_STATUS.ROLE sl == 1

/-- Since when a condition has held: kept while it holds. -/
def sinceWhen (b : Bool) (now : Nat) (old : Option Nat) : Option Nat := if b then some (old.getD now) else none

/-- GAUGE_REPORT_UPDATE (R308, R310, R312, R318, R320): every 100 ms. -/
def execGaugeReportUpdate (sl : Nat) : State → Host.Outcome State Fault Refusal := ends <| .read fun s =>
  let g := s.gauge sl
  let marks := ((g.acc, g.nsamp, g.phaseTot, s.time) :: g.marks).take 11
  let i := if s.flag Reg.GAU_STATUS.DEGRADED sl then phaseMean marks else s.coulMean sl marks
  let x := s.slot sl
  let zero := !x.disc && s.outputParked (s.slotLead sl)
  if s.time % 100000 ≠ 0 ∨ s.mode = mShip ∨ s.mode = mService then .skip
  else seqs [
    setR Reg.GAU_CURR.I_AVG (toField 18 (sat (-131072) 131071 i)) sl,
    updGauges sl fun g => { g with
      marks, zeroSince := sinceWhen zero s.time g.zeroSince, capAtFull := g.capAtFull && s.inCv sl,
      learnFrom := if i > 100 && !(g.capAtFull && s.inCv sl) then none else g.learnFrom },
    updSlots sl fun x => { x with
      belowSince := sinceWhen (s.inCv sl && decide (i < x.taper)) s.time x.belowSince,
      audBelowSince := sinceWhen (s.inCv sl && x.audStep == 1 && decide (i < x.audTaper)) s.time x.audBelowSince },
    if s.mode = mHalt ∨ ¬ s.gaugeOn sl then .skip
    else seqs [
      when (fun t => t.slSt sl == slDonor && x.audStep == 0 &&
          decide (s.rd Reg.SLT_VPACK.VPACK sl ≤ s.rd Reg.SLT_PACK_A.CELLS sl * s.rd Reg.GAU_SOC.V_CUT_CELL sl ∧
            i.natAbs * 200 < s.rd Reg.GAU_QFULL.Q_FULL sl))
        (emptyAnchor sl (s.mayLearn sl) none),
      when (fun _ => s.rd Reg.GAU_STATUS.ANCHOR sl != 0)
        (updR Reg.GAU_STATUS.AGE_H (fun t => min ((t.time - (t.gauge sl).anchorAt) / 3600000000) 255) sl),
      when (fun t => t.rd Reg.GAU_STATUS.STATE sl == 2) (.seq (gaugeDerive sl) (warnCheck sl))]]

/-- COULOMB_SAMPLE (R296, R298, R322): the unclipped code of a sample of slot `sl`, whose GAUGE domain is powered. -/
def execCoulombSample (sl : Nat) (code : Int) : State → Host.Outcome State Fault Refusal := ends <| .read fun s =>
  let c := sat (-524288) 524287 code
  if s.mode = mService ∨ ¬ hasBit (s.rd Reg.PWR_DOM.ON) (26 + sl / 16) then .skip
  else .seq (updGauges sl fun g => { g with acc := toField 48 (g.acc + c), nsamp := (g.nsamp + 1) % 2 ^ 32 })
    (when (fun _ => decide (code ≥ 524288 ∨ code ≤ -524288))
      (.seq (setR Reg.GAU_STATUS.ACC_OVR 1 sl) (incSat Reg.GAU_CNT.OVR_CNT sl)))

/-- GAU_ACC_READ (R298): a read of `GAU_ACC_LO` shows the accumulator and latches `GAU_ACC_HI` and `GAU_NSAMP` with it. -/
def execGauAccRead (sl : Nat) : State → Host.Outcome State Fault Refusal := endsAlways <| when State.barOn <| seqs [
  updR Reg.GAU_ACC_LO.ACC_LO (fun s => (s.gauge sl).acc % 2 ^ 32) sl,
  updR Reg.GAU_ACC_HI.ACC_HI (fun s => (s.gauge sl).acc / 2 ^ 32) sl,
  updR Reg.GAU_NSAMP.NSAMP (fun s => (s.gauge sl).nsamp) sl]

/-- GAUGE_DEGRADED goes to the owner and the PF (R324): cause 0 converter out of service, 1 trim at its clamp. -/
def raiseDegraded (sl cause : Nat) : Prog := .read fun s =>
  raise { typ := evGaugeDegraded, src := sl, data := dat 16 1 cause }
    (if s.ownerOrPf sl = pfFn then [pfFn] else [s.ownerOrPf sl, pfFn])

/-- AUTO_ZERO_TRIM (R301): 2 s of zero current, then the mean of the codes of 1 s, at most once every 60 s. -/
def execAutoZeroTrim (sl : Nat) : State → Host.Outcome State Fault Refusal := ends <| .read fun s =>
  let g := s.gauge sl
  let due := s.flag Reg.GAU_CFG.AZERO sl &&
    (match g.zeroSince with | some t => decide (t + 3000000 ≤ s.time) | none => false) &&
    (match g.trimAt with | some t => decide (t + 60000000 ≤ s.time) | none => true)
  match g.marks.head?, g.marks.getLast? with
  | some (a1, n1, _, _), some (a0, n0, _, _) =>
    let dN := (n1 + 2 ^ 32 - n0) % 2 ^ 32
    if !due || dN == 0 then .skip
    else
      let mean := divRound (ofField 48 ((a1 + 2 ^ 48 - a0) % 2 ^ 48)) dN
      let z := mean - ofField 32 (s.rd Reg.GAU_CAL_OFF.OFF sl)
      seqs [setR Reg.GAU_ZTRIM.ZTRIM (toField 11 (sat (-524) 524 z)) sl,
        updGauges sl fun g => { g with trimAt := some s.time },
        when (fun _ => decide (z.natAbs ≥ 524)) (raiseDegraded sl 1)]
  | _, _ => .skip

/-- FULL_ANCHOR (R310): CV near the pack's full voltage, and the current below TAPER for 60 s. -/
def execFullAnchor (sl : Nat) : State → Host.Outcome State Fault Refusal := ends <| .read fun s =>
  let cv := s.rd Reg.SLT_PROF_A.CV_CELL sl
  let top := s.rd Reg.SLT_PACK_B.VCHG_CELL sl
  if s.inCv sl && s.gaugeOn sl && !(s.gauge sl).capAtFull && decide (max cv top - min cv top ≤ 10) &&
      (match (s.slot sl).belowSince with | some t => decide (t + 60000000 ≤ s.time) | none => false) then fullAnchor sl
  else .skip

/-- GAUGE_SNAPSHOT_TIMED (R316): at the slot's instant of each second. -/
def execGaugeSnapshotTimed (sl : Nat) : State → Host.Outcome State Fault Refusal := ends <| .read fun s =>
  if s.time % 1000000 = 15625 * sl ∧ s.gaugeOn sl ∧ s.mode ≠ mHalt ∧ s.mode ≠ mService then snapshot sl false else .skip

/-! The current and output-voltage cross-checks (R518 to R520). -/

/-- Two currents agree within the limit of R518: 200 mA or 3 % of the larger. -/
def curAgree (a b : Int) : Bool :=
  decide ((a - b).natAbs ≤ 200 ∨ 100 * (a - b).natAbs ≤ 3 * max a.natAbs b.natAbs)

/-- CURRENT_XCHECK (R518): every second, the 1 s means of the coulomb converter and of the phase sum. -/
def execCurrentXcheck (sl : Nat) : State → Host.Outcome State Fault Refusal := ends <| .read fun s =>
  let m := (s.gauge sl).marks
  let c := s.coulMean sl m
  let p := phaseMean m
  if s.flag Reg.GAU_STATUS.DEGRADED sl ∨ s.oddGanged sl ∨ m.length < 11 ∨ s.slSt sl = slFaulted ∨ curAgree c p then .skip
  else updGauges sl fun g => { g with curRef := g.curRef.or (some (c, p, s.time)) }

/-- The coulomb converter goes out of service (R302). -/
def coulombLost (sl : Nat) : Prog := seqs [setR Reg.GAU_STATUS.DEGRADED 1 sl,
  updGauges sl fun g => { g with lastPhase := g.phaseTot, learnFrom := none }, updSlots sl fun x => { x with audBad := true },
  raiseDegraded sl 0]

/-- CURRENT_REFEREE (R265, R520): the referee conversion of the slot's SHUNT on ±80 mV ends, no sooner than it settles and integrates one mains
cycle; `raw` is the code that the input asks for. -/
def execCurrentReferee (sl : Nat) (raw : Int) : State → Host.Outcome State Fault Refusal := ends <| .read fun s =>
  match (s.gauge sl).curRef with
  | none => .skip
  | some (c, p, at_) =>
    let n := sl / 4
    let chan := slotChan sl 3
    let v := calValue (clipCode raw).1 (s.icvOff n chan 0) (s.icvGain n chan 0) (fsOf 0)
    let i := divRound (v * 1000) (s.rd Reg.GAU_CFG.SHUNT sl)
    if s.time < at_ + s.rd Reg.MSR_ICV_CTRL.SETTLE n + s.perT / 10 ∨ ¬ s.icvLive n then .skip else
    let toP := curAgree i p && (!curAgree i c || decide ((i - p).natAbs ≤ (i - c).natAbs))
    seqs [abortRunning n, updGauges sl fun g => { g with curRef := none }, setR Reg.MSR_ICV_LAST.VALUE (toField 32 v) n chan,
      xchkFail sl 2 (if toP then 0xFF else 2) (toField 32 c) (toField 32 p),
      if toP then coulombLost sl else slotSafeSub sl 2]

/-- OUTPUT_V_REFEREE (R265, R519): the referee conversion of the slot's VPACK on the FCV ends after its 100 ms, in the range the ICV used; `raw` is
the code that the input asks for. -/
def execOutputVReferee (sl : Nat) (raw : Int) : State → Host.Outcome State Fault Refusal := ends <| .read fun s =>
  match (s.slot sl).outRef with
  | none => .skip
  | some (fast, icv, range, at_) =>
    let p := sl / 16
    let v := s.fcvValue p range (clipCode raw).1
    let mv := (divRound v 1000).toNat
    let done := updSlots sl fun x => { x with outRef := none, xchkRun := 0 }
    let read := .seq done (setR Reg.MSR_FCV_LAST.VALUE (toField 32 v) p)
    let safe := .seq (xchkFail sl 1 1 fast icv) (slotSafeSub sl 1)
    if s.rd Reg.MSR_FCV_STATUS.STATE p = 2 then .seq done safe
    else if s.time < at_ + 100000 then .skip
    else if (v - 1000 * icv).natAbs ≤ uvLimit range then .seq read safe
    else if outAgree 1 fast mv then seqs [read, xchkFail sl 1 0xFF fast icv,
      refereeBegin (sl / 4) (slotChan sl 0) range (1000 * (icv : Int)) v]
    else .seq read safe

end Sys2Proof.Machine
end

