-- ==== Sys2Proof/Machine/KeepOps.lean ====
section
/-! DEFINITION. The keep (R570 to R573): its records, the scan at START, and what a record brings into force; and the commit
token of a descriptor (R205, R206). -/

namespace Sys2Proof.Machine

/-- The number of record locations (R570). -/
def keepSize : Nat := 1024

/-- A location takes a record: neither used nor retired as bad. -/
def KeepLoc.isFree (l : KeepLoc) : Bool := l.typ == 0 && !l.bad

/-- The valid copy of an object, with its location. -/
def State.keepCopy (s : State) (typ id : Nat) : Option (Nat × KeepLoc) :=
  s.keepLocs.find? fun e => e.2.isValid && e.2.typ == typ && e.2.id == id

/-- The free location that was retired longest ago (R572). -/
def State.keepFree (s : State) : Option Nat :=
  ((List.range keepSize).filter fun k => (s.keepLoc k).isFree).foldl (fun best k => match best with
    | none => some k
    | some b => if (s.keepLoc k).retired < (s.keepLoc b).retired then some k else some b) none

/-- `KEEP_STATUS` follows the locations (R580). -/
def keepShow : Prog := .read fun s => seqs [
  setR Reg.KEEP_STATUS.VALID (s.keepLocs.filter fun e => e.2.isValid).length,
  setR Reg.KEEP_STATUS.FREE (keepSize - (s.keepLocs.filter fun e => !e.2.isFree).length),
  setR Reg.KEEP_STATUS.BAD (min (s.keepLocs.filter fun e => e.2.bad).length 1023)]

/-- A location is retired (R572, R573). -/
def keepRetire (k : Nat) (bad : Bool) : Prog := .read fun s => .seq
  (updKeepLocs k fun l => if bad then { l with bad := true } else { retired := s.keep.retires + 1 })
  (updKeep fun q => { q with retires := q.retires + 1 })

/-- The record of a request stands in location `k` (R572), with its marker or, where the write was cut before it, torn; a committed record retires
the older copy. -/
def keepStore (r : Nat × Nat × List Nat) (k : Nat) (marked : Bool) : Prog := .read fun s =>
  let old := s.keepCopy r.1 r.2.1
  let gen := match old with | some e => (e.2.gen + 1) % 2 ^ 32 | none => 1
  .seq (updKeepLocs k fun l => { l with
      typ := r.1, ver := 1, id := r.2.1, gen, data := r.2.2, check := crc32 (keepBytes r.1 1 r.2.1 gen r.2.2),
      marker := if marked then keepMarker gen else l.marker })
    (if marked then seqs [(match old with | some e => keepRetire e.1 false | none => .skip), incWrap Reg.KEEP_WRITES.WRITES, keepShow]
     else .skip)

/-- The 48 bytes of DATA with the given start. -/
def keepPad (l : List Nat) : List Nat := (l ++ leBytes 48 0).take 48

/-- The 16-byte tenant entry of a VF (R571), with a QUOTA_SET applied where there is one. -/
def State.tenEntry (s : State) (fn : Nat) (p : Option QuotaPar) : List Nat :=
  let on := fun k => match p with | some p => hasBit p.mask k | none => false
  let q := p.getD { mask := 0 }
  let power := if on 0 then q.power else s.rd Reg.TEN_QUOTA_P.POWER fn
  let slots := if on 1 then q.maxSlots else s.rd Reg.TEN_QUOTA_B.MAX_SLOTS fn
  let xfer := if on 2 then q.maxXfer else s.rd Reg.TEN_QUOTA_B.MAX_XFER fn
  let rate := if on 3 then q.evtRate else s.rd Reg.TEN_QUOTA_B.EVT_RATE fn
  let mask := if on 4 then q.slotMask else s.rd Reg.TEN_SLOTMASK_LO.MASK_LO fn + s.rd Reg.TEN_SLOTMASK_HI.MASK_HI fn * 2 ^ 32
  let per := if on 5 then q.wdgPeriod else s.rd Reg.TEN_WDG_CFG.PERIOD fn
  let opn := if on 5 then q.wdgOpen else s.rd Reg.TEN_WDG_CFG.OPEN fn
  let set := bit ((s.fnr fn).quotaSet || p.isSome)
  if set = 0 ∨ fn ≥ 1024 then leBytes 16 0
  else leBytes 4 (power + slots * 2 ^ 20 + xfer * 2 ^ 27) ++ leBytes 4 (rate + per * 2 ^ 12 + opn * 2 ^ 24 + set * 2 ^ 28) ++ leBytes 8 mask

/-- The two bytes of a slot's ownership (R570). -/
def ownWord (o : Option Nat) : List Nat := leBytes 2 (match o with | some f => 0x8000 + f | none => 0)

/-- The owner of a slot, if claimed. -/
def State.ownerOf (s : State) (sl : Nat) : Option Nat := if s.flag Reg.SLT_OWNER.CLAIMED sl then some (s.rd Reg.SLT_OWNER.OWNER sl) else none

/-- TYPE, ID and DATA of the record that an effect writes (R570, R571). -/
def State.keepRecord (s : State) : KeepEffect → Nat × Nat × List Nat
  | .calIcv icv chan r off gain coul =>
    let sl := chanSlot icv chan
    let input := if chan < 12 then chan % 3 else 3
    let shunt := input == 3 && r == 0
    let cc := match coul with
      | some (_, co, cg) => leBytes 4 co ++ leBytes 4 cg
      | none => if shunt && !s.flag Reg.GAU_STATUS.UNCAL sl then
          leBytes 4 (s.rd Reg.GAU_CAL_OFF.OFF sl) ++ leBytes 4 (s.rd Reg.GAU_CAL_GAIN.GAIN sl) else []
    (1, sl * 8 + input * 2 + rangeIdx chan r, keepPad (leBytes 4 off ++ leBytes 4 gain ++ cc))
  | .calFcv p r off gain => (2, p * 3 + r, keepPad (leBytes 4 off ++ leBytes 4 gain))
  | .quota fn p =>
    if fn = pfFn then (4, 0, keepPad (leBytes 2 (p.wdgOpen + p.wdgPeriod * 16)))
    else
      let b := fn / 3 * 3
      let e := fun k => s.tenEntry (b + k) (if b + k = fn then some p else none)
      (3, fn / 3, keepPad (e 0 ++ e 1 ++ e 2))
  | .packKey slot fn keyId key erase =>
    (5, slot, keepPad (if erase then leBytes 2 0xFFFF else leBytes 2 fn ++ [keyId] ++ leBytes 5 0 ++ key))
  | .master key erase => (6, 0, keepPad (leBytes 8 0 ++ (if erase then [] else key)))
  | .owner sl fn =>
    let b := sl / 16 * 16
    (7, sl / 16, keepPad (((List.range 16).map fun k => ownWord (if b + k = sl then fn else s.ownerOf (b + k))).flatten))
  | .boot bank => (8, 0, keepPad [bank])

/-- The write in progress ends where its supply or circuit does (R566, R573, R575): before TYPE is written the location reads free, before MARKER
it is torn, after it the record has committed. With `whole` the write completes. -/
def keepCut (whole : Bool) : Prog := .read fun s =>
  match s.keep.queue, s.keepFree with
  | q :: _, some k =>
    let e := s.time - s.keep.startAt
    if s.keep.hot then .skip
    else if whole ∨ e ≥ 70 then keepStore (s.keepRecord q.effect) k true
    else if e ≥ 40 then keepStore (s.keepRecord q.effect) k false
    else .skip
  | _, _ => .skip

/-- A field from the bytes of DATA. -/
def dataAt (d : List Nat) (k n : Nat) : Nat := leAt d k n

/-- The tenant entry of a VF comes into force (R381, R571). -/
def applyTenant (fn : Nat) (d : List Nat) : Prog :=
  let a := dataAt d 0 4
  let b := dataAt d 4 4
  if b / 2 ^ 28 % 2 = 0 then .skip
  else seqs [
    setR Reg.TEN_QUOTA_P.POWER (a % 2 ^ 20) fn, setR Reg.TEN_QUOTA_B.MAX_SLOTS (a / 2 ^ 20 % 128) fn,
    setR Reg.TEN_QUOTA_B.MAX_XFER (a / 2 ^ 27) fn, setR Reg.TEN_QUOTA_B.EVT_RATE (b % 4096) fn,
    setR Reg.TEN_WDG_CFG.PERIOD (b / 2 ^ 12 % 4096) fn, setR Reg.TEN_WDG_CFG.OPEN (b / 2 ^ 24 % 16) fn,
    setR Reg.TEN_SLOTMASK_LO.MASK_LO (dataAt d 8 4) fn, setR Reg.TEN_SLOTMASK_HI.MASK_HI (dataAt d 12 4) fn,
    updFns fn fun x => { x with quotaSet := true }]

/-- A function's KEY byte (R400): bit 7 valid, bits 5:0 the key slot. -/
def setKeyByte (fn keyId v : Nat) : Prog :=
  setR (if keyId = 0 then Reg.TEN_KEY.KEY0 else if keyId = 1 then Reg.TEN_KEY.KEY1
    else if keyId = 2 then Reg.TEN_KEY.KEY2 else Reg.TEN_KEY.KEY3) v fn

/-- The slot, input and range that the ID of an ICV calibration record names (R570). -/
def calSlotOf (id : Nat) : Nat := id / 8
def calChanOf (id : Nat) : Nat := slotChan (id / 8) (id / 2 % 4)
def calRangeOf (id : Nat) : Nat := (permitted (calChanOf id)).getD (id % 2) 0

/-- A kept record comes into force (R558 step 10, R570). -/
def applyRecord (typ id : Nat) (d : List Nat) : Prog :=
  match typ with
  | 1 =>
    let sl := calSlotOf id
    let c := calChanOf id
    let r := calRangeOf id
    seqs [setR Reg.MSR_ICV_OFF.OFFSET (dataAt d 0 4) (sl / 4) c r, setR Reg.MSR_ICV_GAIN.GAIN (dataAt d 4 4) (sl / 4) c r,
      if id / 2 % 4 = 3 ∧ r = 0 ∧ dataAt d 12 4 ≠ 0 then
        seqs [setR Reg.GAU_CAL_OFF.OFF (dataAt d 8 4) sl, setR Reg.GAU_CAL_GAIN.GAIN (dataAt d 12 4) sl, setR Reg.GAU_STATUS.UNCAL 0 sl]
      else .skip]
  | 2 => .seq (setR Reg.MSR_FCV_OFF.OFFSET (dataAt d 0 4) (id / 3) (id % 3)) (setR Reg.MSR_FCV_GAIN.GAIN (dataAt d 4 4) (id / 3) (id % 3))
  | 3 => each (List.range 3) fun k => applyTenant (3 * id + k) ((d.drop (16 * k)).take 16)
  | 4 => .seq (setR Reg.TEN_WDG_CFG.PERIOD (dataAt d 0 2 / 16) pfFn) (setR Reg.TEN_WDG_CFG.OPEN (dataAt d 0 2 % 16) pfFn)
  | 5 =>
    let fn := dataAt d 0 2
    let kid := dataAt d 2 1
    if fn = 0xFFFF then updKeys id fun _ => {}
    else .seq (updKeys id fun _ => { used := true, fn, keyId := kid, key := (d.drop 8).take 32 }) (setKeyByte fn kid (0x80 + id))
  | 6 =>
    let key := (d.drop 8).take 32
    updKeep fun q => { q with master := if key.all (· == 0) then none else some key }
  | 7 => each (List.range 16) fun k =>
    let w := dataAt d (2 * k) 2
    .seq (setR Reg.SLT_OWNER.CLAIMED (w / 0x8000) (16 * id + k)) (setR Reg.SLT_OWNER.OWNER (w % 0x800) (16 * id + k))
  | 8 => setR Reg.ENG_BOOT.ACTIVE_BANK (dataAt d 0 1 % 2)
  | _ => .skip

/-- The scan of START step 2 (R573): locations that have decayed are retired as bad, torn ones and older copies are retired. -/
def keepScan (decayed : List Nat) : Prog := .read fun s =>
  let rot := decayed.filter fun k => (s.keepLoc k).isValid
  let torn := (s.keepLocs.filter fun e => e.2.typ != 0 && !e.2.bad && e.2.marker != keepMarker e.2.gen).map (·.1)
  let old := (s.keepLocs.filter fun e => e.2.isValid && !rot.contains e.1 && s.keepLocs.any fun f =>
    f.2.isValid && !rot.contains f.1 && f.2.typ == e.2.typ && f.2.id == e.2.id &&
      decide (0 < (f.2.gen + 2 ^ 32 - e.2.gen) % 2 ^ 32 ∧ (f.2.gen + 2 ^ 32 - e.2.gen) % 2 ^ 32 < 2 ^ 31)).map (·.1)
  seqs [
    each rot fun k => keepRetire k true,
    each torn fun k => keepRetire k false,
    each old fun k => keepRetire k false,
    updKeep fun q => { q with owed := q.owed ++ rot, queue := [] },
    setR Reg.KEEP_CNT.TORN (min torn.length 255), setR Reg.KEEP_CNT.QUEUED 0, keepShow]

/-- Every valid record comes into force (R558 step 10, R569 class K). -/
def keepApply : Prog := .read fun s => each s.keepLocs fun e =>
  if e.2.isValid then applyRecord e.2.typ e.2.id e.2.data else .skip

end Sys2Proof.Machine
end

