-- ==== Sys2Proof/Machine/PdOps.lean ====
section
/-! DEFINITION. The shared operations of the PD ports (chapter 11): the offer (R452), contracts (R454, R455), resets (R460), the
service mode (R463 to R465), and the loss of VBUS (R449, R457, R459). -/

namespace Sys2Proof.Machine

/-- The phase channel of a port (R440). -/
def portLead (k : Nat) : Nat := 128 + k

/-- The task whose pair runs a port's policy engine: the auxiliary task of its bed (R20, R440). -/
def policyTask (k : Nat) : Nat := 26 * k + 25

/-- The functions that receive a port's events: the holder and the PF (R469). -/
def State.portFns (s : State) (k : Nat) : List Nat :=
  if s.flag Reg.PDP_STATUS.HELD k ∧ s.rd Reg.PDP_STATUS.HOLDER k ≠ pfFn then [s.rd Reg.PDP_STATUS.HOLDER k, pfFn] else [pfFn]

/-- An event of a port (R469). -/
def raisePort (typ k data : Nat) : Prog := .read fun s => raise { typ, src := 0x80 + k, data } (s.portFns k)

/-- The port sends a message. -/
def pdSend (k : Nat) (m : PdMsg) : Prog := emit (.pd k m)

/-- A message arrives at a port's PHY (R462). `amid` is none, or the bits of valid preamble with which it came while another message was being
received: with 20 or more that one is aborted without a GoodCRC and counted, and this one is received; with fewer this one is not. A message
that is received gets its GoodCRC, a Hard Reset none. -/
def pdReceive (k : Nat) (amid : Option Nat) (acked : Bool) (p : Prog) : Prog := .read fun s =>
  let take := .seq (if acked then pdSend k .goodCrc else .skip) p
  if s.rd Reg.PDP_STATUS.TC_STATE k ≠ 3 then .skip
  else match amid with
    | none => take
    | some n => if n < 20 then .skip else .seq (incSat Reg.PDP_CNT.RX_ABORTS k) take

/-- PD_FAULT (R449, R450, R459). -/
def pdFault (k cause : Nat) : Prog := .seq (incSat Reg.PDP_CNT.FAULTS k) (raisePort evPdFault k (dat 16 1 cause))

/-- The sink is attached (R448). -/
def State.attached (s : State) (k : Nat) : Bool := s.rd Reg.PDP_STATUS.TC_STATE k == 3

/-- An explicit contract is in force (R446). -/
def State.explicit (s : State) (k : Nat) : Bool := s.attached k && s.rd Reg.PDP_STATUS.CONTRACT k != 0

/-! The offer (R452, R456). -/

/-- Bus power of a voltage and current on the planner's estimate (R212), 0.1 W. -/
def State.busDw (s : State) (mv ma : Nat) : Nat := mv * ma / (1000 * s.rd Reg.ALM_CFG.ETA_PCT)

/-- PMAX_eff, 0.1 W (R452, R456). -/
def State.pmaxEff (s : State) (k : Nat) : Nat :=
  let p := s.rd Reg.PDP_POL_A.PMAX k
  let h := s.rd Reg.PDP_STATUS.HOLDER k
  let room := s.rd Reg.TEN_QUOTA_P.POWER h + s.busDw (s.rd Reg.PDP_CONTRACT.V k) (s.rd Reg.PDP_CONTRACT.I k) - s.rd Reg.TEN_USE.PLAN h
  let p := if s.flag Reg.PDP_STATUS.HELD k ∧ h ≠ pfFn then min p room else p
  let p := if s.mode = mCurtail then min p 75 else if s.mode = mIsland then min p (s.rd Reg.PDP_GCFG.ISL_PMAX) else p
  max p 75

/-- The cable's current rating, mA, and maximum voltage, mV (R451). -/
def State.cableI (s : State) (k : Nat) : Nat := if s.flag Reg.PDP_CABLE.VALID k ∧ s.rd Reg.PDP_CABLE.CABLE_I k = 2 then 5000 else 3000
def State.cableV (s : State) (k : Nat) : Nat := if s.flag Reg.PDP_CABLE.VALID k then 1000 * s.rd Reg.PDP_CABLE.VMAX k else 20000

/-- The cable carries EPR: EPR Mode Capable, 50 V and 5 A (R452). -/
def State.cableEpr (s : State) (k : Nat) : Bool :=
  s.flag Reg.PDP_CABLE.VALID k && s.flag Reg.PDP_CABLE.EPR_CAP k && s.rd Reg.PDP_CABLE.CABLE_I k == 2 && decide (s.rd Reg.PDP_CABLE.VMAX k ≥ 50)

/-- The current of an object: within the limits, rounded down to a unit (R452). -/
def objI (ic pdw mv unit : Nat) : Nat := min ic (100000 * pdw / max mv 1) / unit * unit

/-- The Rp that a port presents, as its current in mA (R440, R448, R460): none while the CC pins are open; 3.0 A (SinkTxOK) under an explicit
contract while the device starts no message, else 1.5 A (SinkTxNG). -/
def State.rpMa (s : State) (k : Nat) : Option Nat :=
  let st := s.rd Reg.PDP_STATUS.TC_STATE k
  let x := s.port k
  if st = 0 ∨ 4 ≤ st then none
  else if s.explicit k && x.hardStep == 0 && x.awaits == 0 && !x.readyOwed then some 3000 else some 1500

/-- The SBU multiplexer of a port in service mode (R463): closed, and crossed where CC2 is the active pin. -/
def State.muxOf (s : State) (k : Nat) : Option Bool := if s.flag Reg.PDP_STATUS.SVC k then some (s.flag Reg.PDP_STATUS.ORIENT k) else none

/-- The EPR conditions of the EPR row hold (R452, R453). -/
def State.eprMay (s : State) (k : Nat) : Bool :=
  s.flag Reg.PDP_POL_B.EPR_EN k && s.cableEpr k && decide (s.rd Reg.PDP_POL_B.VMASK k / 8 ≠ 0) && s.rd Reg.PDP_STATUS.REV k != 1 &&
  s.mode != mCurtail

/-- The EPR objects that the policy allows: mV and mA (R452). -/
def State.eprObjs (s : State) (k : Nat) : List (Nat × Nat) :=
  (([(3, 28000), (4, 36000), (5, 48000)].filter fun e => hasBit (s.rd Reg.PDP_POL_B.VMASK k) e.1).map
    fun e => (e.2, objI (min (s.rd Reg.PDP_POL_A.IMAX k) 5000) (s.pmaxEff k) e.2 10)).filter fun e => decide (e.2 ≥ 500)

/-- EPR Mode Capable of the 5 V object: an EPR object would be offered (R452). -/
def State.eprCapable (s : State) (k : Nat) : Bool := s.eprMay k && !(s.eprObjs k).isEmpty

/-- The fixed objects of the offer: object position, mV, mA. EPR objects begin at position 8 of the EPR capabilities (R452). -/
def State.fixedOffer (s : State) (k : Nat) : List (Nat × Nat × Nat) :=
  let ps := min (s.pmaxEff k) 1000
  let ic := min (s.rd Reg.PDP_POL_A.IMAX k) (s.cableI k)
  let mask := s.rd Reg.PDP_POL_B.VMASK k
  if s.mode = mCurtail then [(1, 5000, 1500)]
  else
    let spr := (([(0, 9000), (1, 15000), (2, 20000)].filter fun e => hasBit mask e.1 && decide (e.2 ≤ s.cableV k)).map
      fun e => (e.2, objI ic ps e.2 10)).filter fun e => decide (e.2 ≥ 500)
    let epr := if (s.port k).epr && s.eprMay k then s.eprObjs k else []
    (((5000, objI ic ps 5000 10) :: spr).zipIdx 1 |>.map fun e => (e.2, e.1)) ++ (epr.zipIdx 8 |>.map fun e => (e.2, e.1))

/-- The programmable supply of the offer, after the fixed objects up to 20 V (R452). -/
def State.ppsOffer (s : State) (k : Nat) : Option (Nat × Nat × Nat × Nat) :=
  let lo := s.rd Reg.PDP_POL_C.PPS_VMIN k
  let hi := s.rd Reg.PDP_POL_C.PPS_VMAX k
  let i := objI (min (s.rd Reg.PDP_POL_A.IMAX k) (s.cableI k)) (min (s.pmaxEff k) 1000) hi 50
  let n := ((s.fixedOffer k).filter fun e => decide (e.1 < 8)).length
  if s.flag Reg.PDP_POL_B.PPS_EN k && s.rd Reg.PDP_STATUS.REV k != 1 && s.mode != mCurtail && decide (i ≥ 500) then some (n + 1, lo, hi, i) else none

/-- New capabilities go to the sink (R447, R448, R456): the offer is built afresh. -/
def sendCaps (k : Nat) : Prog := .read fun s =>
  if s.attached k then .seq
    (updPorts k fun x => { x with offer := s.fixedOffer k, pps := s.ppsOffer k, awaits := 2, offerOwed := false })
    (pdSend k (if (s.port k).epr then .eprSourceCaps (s.fixedOffer k) (s.ppsOffer k) (s.eprCapable k)
      else .sourceCaps (s.fixedOffer k) (s.ppsOffer k) (s.eprCapable k)))
  else .skip

/-- A changed offer goes out once the message sequence in progress has ended (R447, R466). -/
def offerChanged (k : Nat) : Prog := .read fun s =>
  let x := s.port k
  if !s.attached k || x.hardStep != 0 || x.offer.isEmpty then .skip
  else if x.readyOwed || x.awaits != 0 then updPorts k fun x => { x with offerOwed := true }
  else sendCaps k

/-- PD_POLICY actions that `p` names complete (R445, R447). -/
def actionsDone (k : Nat) (p : Nat → Bool) (status : Nat) : Prog := .read fun s => .seq
  (updPorts k fun x => { x with actions := x.actions.filter fun a => !p a.1 })
  (each ((s.port k).actions.filter fun a => p a.1) fun a => finishRun a.2 status s.token)

/-! Service mode (R463 to R465). -/

/-- The SBU multiplexer opens (R465); PD_SERVICE tells that the mode has been left. -/
def svcOpen (k : Nat) : Prog := .read fun s =>
  if s.flag Reg.PDP_STATUS.SVC k then .seq (setR Reg.PDP_STATUS.SVC 0 k) (raisePort evPdService k (dat 16 1 1)) else .skip

/-- The device leaves the service mode by its own act: the multiplexer opens before Exit Mode (R465). -/
def svcExit (k : Nat) : Prog := .read fun s =>
  if s.flag Reg.PDP_STATUS.SVC k then .seq (svcOpen k) (pdSend k .exitMode) else .skip

/-- The ports of a function that is held now leave the service mode (R465). -/
def holderHeld (fn : Nat) : Prog := .read fun s =>
  each ((List.range 8).filter fun k => s.flag Reg.PDP_STATUS.HELD k && s.rd Reg.PDP_STATUS.HOLDER k == fn) svcExit

/-! The loss of contract and VBUS. -/

/-- The stage parks, VBUS_EN opens and VBUS_DIS closes (R457, R459, R460). -/
def vbusOff (k : Nat) : Prog := .seq (parkOutput (portLead k) 0) (updPorts k fun x => { x with vbusDis := true })

/-- VBUS is withdrawn (R457, R562): the CC pins open, and the sink is gone until Rp is presented again. -/
def portWithdraw (k cause : Nat) : Prog := .read fun s =>
  let st := s.rd Reg.PDP_STATUS.TC_STATE k
  if st = 0 ∨ st = 6 then .skip
  else seqs [
    svcOpen k, contractGone k, vbusOff k, setR Reg.PDP_STATUS.VCONN 0 k, setR Reg.PDP_STATUS.TC_STATE 6 k,
    setR Reg.PDP_STATUS.REV 0 k, updPorts k fun x => { x with hardStep := 0 },
    actionsDone k (fun _ => true) stPdAborted,
    if st = 3 then raisePort evPdReset k (dat 16 1 4 + dat 17 1 cause) else .skip]

/-- A port presents Rp where it is enabled and the mode supplies it (R448, R456, R467). -/
def portPresent (k : Nat) : Prog := .read fun s =>
  let st := s.rd Reg.PDP_STATUS.TC_STATE k
  let may := s.mode == mRun || s.mode == mCurtail || (s.mode == mIsland && s.grid.ready)
  if s.flag Reg.PDP_CFG.EN k && may && (st == 0 || st == 6) then
    .seq (setR Reg.PDP_STATUS.TC_STATE 1 k) (updPorts k fun x => { x with vbusDis := false })
  else .skip

/-- The sequence of a Hard Reset begins (R460 step 1): `kind` 0 sent or 1 received, with the cause of R469. -/
def hardReset (k kind cause : Nat) : Prog := .read fun s =>
  if s.attached k then seqs [
    svcOpen k, if kind = 0 then pdSend k .hardReset else .skip, contractGone k, setR Reg.PDP_STATUS.VCONN 0 k, setR Reg.PDP_STATUS.REV 0 k,
    updPorts k fun x => { x with hardStep := 1, hardAt := s.time, vconnSink := false },
    actionsDone k (fun a => a != 4) stPdAborted, actionsDone k (fun a => a == 4) stOk,
    incSat Reg.PDP_CNT.HARD_RESETS k,
    raisePort evPdReset k (dat 16 1 kind + dat 17 1 cause)]
  else .skip

/-- The port starts with 5 V at 1.5 A by the implicit contract (R448 step 3). -/
def portStart (k : Nat) : Prog := .seq (setR Reg.PDP_CONTRACT.V 5000 k) (setR Reg.PDP_CONTRACT.I 1500 k)

/-- The sink has gone (R460, R465). -/
def portDetach (k : Nat) : Prog := .read fun s => seqs [
  svcOpen k, raisePort evPdDetach k (dat 16 4 (s.port k).energy),
  contractGone k, vbusOff k,
  setR Reg.PDP_STATUS.VCONN 0 k, setR Reg.PDP_STATUS.TC_STATE 1 k, setR Reg.PDP_STATUS.REV 0 k,
  setR Reg.PDP_CABLE.VALID 0 k, setR Reg.PDP_CABLE.EPR_CAP 0 k, setR Reg.PDP_CABLE.CABLE_I 0 k, setR Reg.PDP_CABLE.VMAX 0 k,
  actionsDone k (fun _ => true) stPdAborted,
  updPorts k fun x => { actions := x.actions, vbusDis := true }]

/-- A port is switched off by `PDP_CFG.EN` (R470). -/
def portDisable (k : Nat) : Prog := .read fun s =>
  .seq (if s.attached k then portDetach k else vbusOff k) (setR Reg.PDP_STATUS.TC_STATE 0 k)

/-- An unheld port serves under the default policy (R444). -/
def policyDefault (k : Nat) : Prog := .read fun s =>
  if s.flag Reg.PDP_STATUS.HELD k then .skip
  else seqs [
    setR Reg.PDP_POL_A.PMAX (s.rd Reg.PDP_DEF_A.PMAX k) k, setR Reg.PDP_POL_A.IMAX (s.rd Reg.PDP_DEF_A.IMAX k) k,
    setR Reg.PDP_POL_B.VMASK (s.rd Reg.PDP_DEF_B.VMASK k) k, setR Reg.PDP_POL_B.PPS_EN (s.rd Reg.PDP_DEF_B.PPS_EN k) k,
    setR Reg.PDP_POL_B.EPR_EN (s.rd Reg.PDP_DEF_B.EPR_EN k) k, setR Reg.PDP_POL_B.SVC_EN (s.rd Reg.PDP_DEF_B.SVC_EN k) k,
    setR Reg.PDP_POL_B.VSWAP (s.rd Reg.PDP_DEF_B.VSWAP k) k, setR Reg.PDP_POL_C.PPS_VMIN (s.rd Reg.PDP_DEF_C.PPS_VMIN k) k,
    setR Reg.PDP_POL_C.PPS_VMAX (s.rd Reg.PDP_DEF_C.PPS_VMAX k) k]

/-- The policy of PD_POLICY comes into force (R444). -/
def policySet (k : Nat) (p : PdPolicy) : Prog := seqs [
  setR Reg.PDP_POL_A.PMAX p.pmax k, setR Reg.PDP_POL_A.IMAX p.imax k, setR Reg.PDP_POL_B.VMASK p.vmask k,
  setR Reg.PDP_POL_B.PPS_EN (bit p.pps) k, setR Reg.PDP_POL_B.EPR_EN (bit p.epr) k, setR Reg.PDP_POL_B.SVC_EN (bit p.svc) k,
  setR Reg.PDP_POL_B.VSWAP (bit p.vswap) k, setR Reg.PDP_POL_C.PPS_VMIN p.vmin k, setR Reg.PDP_POL_C.PPS_VMAX p.vmax k]

/-- What runs through an offer that changes: new capabilities, and the action waits for the sink's Request; with no sink, or no
change of the offer, the action completes at once (R447). -/
def policyActs (k action : Nat) (c : Ctl) (change : Prog) : Prog := .read fun s =>
  .seq change (.read fun t =>
    if s.attached k && !(s.port k).offer.isEmpty && (t.fixedOffer k != s.fixedOffer k || t.ppsOffer k != s.ppsOffer k) then
      .seq (updPorts k fun x => { x with actions := x.actions ++ [(action, c)] }) (offerChanged k)
    else finishRun c stOk t.token)

/-- An action on the contract begins: 3 SOFT_RESET, 4 HARD_RESET, 5 ENTER_SERVICE, 6 EXIT_SERVICE (R460, R461, R463, R465). -/
def actStart (k action : Nat) (c : Ctl) : Prog :=
  let waits := updPorts k fun x => { x with actions := x.actions ++ [(action, c)] }
  match action with
  | 3 => seqs [waits, updPorts k fun x => { x with awaits := 3 }, pdSend k .softReset, incSat Reg.PDP_CNT.SOFT_RESETS k,
      raisePort evPdReset k (dat 16 1 2)]
  | 4 => .seq waits (hardReset k 0 0)
  | 5 => seqs [waits, updPorts k fun x => { x with svcStep := 1, awaits := 5 }, pdSend k .discoverIdentity]
  | _ => .seq (svcExit k) (.read fun s => finishRun c stOk s.token)

/-- An action accepted during a negotiation acts after it (R466): it waits, marked by 16 above its code. -/
def actBegin (k action : Nat) (c : Ctl) : Prog := .read fun s =>
  if (s.port k).readyOwed || (s.port k).awaits != 0 then updPorts k fun x => { x with actions := x.actions ++ [(action + 16, c)] }
  else actStart k action c

/-- Capabilities owed go out when nothing else is under way, and then an action that has waited begins (R447, R466). -/
def offerPaid (k : Nat) : Prog := .read fun s =>
  let x := s.port k
  if x.readyOwed || x.awaits != 0 then .skip
  else if x.offerOwed then sendCaps k
  else match x.actions.find? fun a => decide (16 ≤ a.1) with
    | some (a, c) => .seq (updPorts k fun x => { x with actions := x.actions.erase (a, c) }) (actStart k (a - 16) c)
    | none => .skip

/-- Every mode limit change sends new capabilities to each attached port (R456). -/
def portsLimitChanged : Prog := each (List.range 8) offerChanged

end Sys2Proof.Machine
end

