-- ==== Sys2Proof/Machine/GridOps.lean ====
section
/-! DEFINITION. The shared operations of the 380 V bus (chapter 02): source classes and limits (R42, R43), enabling and losing
sources (R44 to R47), the bus guard (R48 to R52), and the donors of ISLAND (R55 to R57). -/

namespace Sys2Proof.Machine

/-- The default input current limit of a class, mA (R42). -/
def classLimit (c : Nat) : Nat := [2000, 39400, 78900, 26300, 26300, 52600, 2000].getD c 2000

/-- The class that an SRC_ID voltage gives, 1 to 6 for A to F (R42). -/
def classOf (mv : Nat) : Nat :=
  if 92 ≤ mv ∧ mv ≤ 108 then 1 else if 184 ≤ mv ∧ mv ≤ 216 then 2 else if 359 ≤ mv ∧ mv ≤ 421 then 3
  else if 690 ≤ mv ∧ mv ≤ 810 then 4 else if 1380 ≤ mv ∧ mv ≤ 1620 then 5 else 6

/-- The effective class (R42, R72). -/
def State.srcClass (s : State) (k : Nat) : Nat :=
  let c := s.rd Reg.SRC_PORT_CFG.CLASS_SEL k
  if c = 0 then (s.src k).idClass else c

/-- SRC_CHANGE of a port (R44, R363). -/
def srcChange (k : Nat) : Prog := .read fun s =>
  raisePf evSrcChange (0x0120 + k) (dat 16 1 (s.rd Reg.SRC_PORT_STATUS.PRESENT k + 2 * s.rd Reg.SRC_PORT_STATUS.ENABLED k) +
    dat 17 1 (s.rd Reg.SRC_PORT_STATUS.LOST_WHY k) + dat 18 1 (s.rd Reg.SRC_PORT_STATUS.CLASS k) +
    dat 20 4 (s.rd Reg.SRC_PORT_STATUS.LIMIT_EFF k))

/-- CLASS and LIMIT_EFF follow the class and the override (R42, R43); `tell` raises SRC_CHANGE where they change. -/
def srcLimit (k : Nat) (tell : Bool) : Prog := .read fun s =>
  let c := s.srcClass k
  let l := min (classLimit c) (s.rd Reg.SRC_PORT_LIMIT.OVERRIDE k)
  let same := c == s.rd Reg.SRC_PORT_STATUS.CLASS k && l == s.rd Reg.SRC_PORT_STATUS.LIMIT_EFF k
  seqs [setR Reg.SRC_PORT_STATUS.CLASS c k, setR Reg.SRC_PORT_STATUS.LIMIT_EFF l k,
    if tell && !same then srcChange k else .skip]

/-- The ports whose SRC_INH is low. -/
def State.srcsOn (s : State) : List Nat := (List.range 4).filter fun k => s.flag Reg.SRC_PORT_STATUS.ENABLED k

/-- A source is present at some port (R65). -/
def State.anyPresent (s : State) : Bool := (List.range 4).any fun k => s.flag Reg.SRC_PORT_STATUS.PRESENT k

/-- A source enters service (R46): SRC_INH falls; it enters the budget `boundaries` tick boundaries later, and some source is
enabled again (R70). -/
def srcEnable (k boundaries : Nat) : Prog := seqs [
  setR Reg.SRC_PORT_STATUS.ENABLED 1 k, setR Reg.SRC_GUARD.ALL_LOST 0,
  updSrcs k fun x => { x with inBudget := false, budgetIn := boundaries },
  srcChange k]

/-- A DEMAND source leaves service (R46, R47). -/
def srcDisable (k : Nat) : Prog := seqs [
  setR Reg.SRC_PORT_STATUS.ENABLED 0 k,
  updSrcs k fun x => { x with inBudget := false, budgetIn := 0, tripRun := 0 },
  updGrid fun g => { g with demand := g.demand.filter (· != k), tripped := g.tripped.filter (· != k) },
  srcChange k]

/-- The leads that feed the bus now (R48): slot leads in a reverse direction that are not parked. -/
def State.feeding (s : State) : List Nat :=
  (List.range 128).filter fun n => s.isLead n && s.dir n != 0 && decide (1 ≤ s.rd Reg.PHC_STATUS.STAGE n ∧ s.rd Reg.PHC_STATUS.STAGE n ≤ 5)

/-- Every bus-feeding channel parks, without a fault of its slot (R52, R54, R650); of an AUDIT's discharge the time counts as a pause. -/
def parkFeeding : Prog := .read fun s => each s.feeding fun n => .seq (parkOutput n 0)
  (when (fun _ => decide (n < 128) && (s.slot (n / 2)).audStep == 3)
    (updSlots (n / 2) fun x => { x with parkAt := some (x.parkAt.getD s.time) }))

/-- The time under an active guard does not count toward a port's OCP (R458, R459). -/
def ocpSkip (k since : Nat) : Prog := .read fun s => updChans (portLead k) fun x => { x with
  ccSince := x.ccSince.map fun t => if since ≤ t then s.time else t + (s.time - since) }

/-- SCALE takes a value; a fall is stamped (R49, R50, R70), and at its release the ports' OCP times go on (R458). -/
def setScale (v : Nat) : Prog := .read fun s => seqs [
  setR Reg.SRC_GUARD.SCALE v, setR Reg.SRC_GUARD.ACTIVE (bit (v < 1024)),
  updGrid fun g => if v < s.rd Reg.SRC_GUARD.SCALE then { g with
      fallAt := s.time, guardSince := if s.rd Reg.SRC_GUARD.SCALE = 1024 then s.time else g.guardSince } else { g with scaleBefore := v },
  if v = 1024 ∧ s.rd Reg.SRC_GUARD.SCALE < 1024 then each (List.range 8) fun k => ocpSkip k s.grid.guardSince else .skip]

/-- A source's trip level, mA (R48): L × (100 + TRIP_PCT) / 100. -/
def State.tripLevel (s : State) (k : Nat) : Nat := s.rd Reg.SRC_PORT_STATUS.LIMIT_EFF k * (100 + s.rd Reg.SRC_GUARD.TRIP_PCT) / 100

/-- A source's current, mA (R75). -/
def State.srcCurr (s : State) (k : Nat) : Int := ofField 19 (s.rd Reg.SRC_PORT_MEAS.CURR k)

/-- SCALE after the tripped sources `ks` (R48), from the SCALE that the sample found: floor(SCALE_old × min of 0.95 L / I), and never
above the SCALE in force. A sample on which one source trips and another stays tripped scales once (R49). -/
def State.scaleFor (s : State) (ks : List Nat) : Nat :=
  let old := s.grid.scaleBefore
  ks.foldl (fun a k => min a (old * 95 * s.rd Reg.SRC_PORT_STATUS.LIMIT_EFF k / (100 * max 1 (s.srcCurr k).toNat)))
    (min old (s.rd Reg.SRC_GUARD.SCALE))

/-- The donors of ISLAND that run (R55). -/
def State.islandDonors (s : State) : List Nat :=
  (List.range 64).filter fun sl => s.rd Reg.SLT_STATUS.ROLE sl == 3 && s.slSt sl == slDonor

/-- A donor's current limit in the present zone (R170): halved in zone 1, none in zones 0 and 4. -/
def State.zoneLimit (s : State) (sl i : Nat) : Nat :=
  let z := s.rd Reg.SLT_STATUS.ZONE sl
  if z = 0 ∨ z = 4 then 0 else if z = 1 then i / 2 else i

/-- The current limit of an ISLAND donor, mA (R55, R170). -/
def State.donorLimit (s : State) (sl : Nat) : Nat :=
  s.zoneLimit sl (min (100 * s.rd Reg.SLT_PACK_A.IDIS_MAX sl) (if s.ganged (sl / 2) then 40000 else 20000))

/-- The function that owns a slot is live (R55). -/
def State.ownerLive (s : State) (sl : Nat) : Bool := s.flag Reg.FN_STATUS.LIVE (s.ownerOrPf sl)

/-- A slot may become an ISLAND donor (R55, R71, R146): IDLE with a donor grant of its live owner, and charged above the floor. -/
def State.donorEligible (s : State) (sl : Nat) : Bool :=
  s.flag Reg.SRC_ISLAND.ENABLE && s.slSt sl == slIdle && (s.slot sl).donorGrant && s.ownerLive sl && s.rd Reg.SLT_PACK_A.IDIS_MAX sl != 0 &&
  s.rd Reg.SLT_STATUS.ZONE sl != 0 && s.rd Reg.SLT_STATUS.ZONE sl != 4 && s.gaugeOn sl &&
  decide (s.rd Reg.GAU_SOC.SOC sl ≥ 100 * (s.rd Reg.SRC_ISLAND.FLOOR + 5))

/-- The eligible slots by state of charge, highest first, the lower number first at equal charge (R55). -/
def State.donorRank (s : State) : List Nat :=
  sortBy (fun a b => decide (s.rd Reg.GAU_SOC.SOC b < s.rd Reg.GAU_SOC.SOC a) ||
    (s.rd Reg.GAU_SOC.SOC a == s.rd Reg.GAU_SOC.SOC b && decide (a ≤ b))) ((List.range 64).filter s.donorEligible)

/-- A slot takes the role of ISLAND donor (R55, R146). -/
def donorStart (sl : Nat) : Prog := seqs [setR Reg.SLT_STATUS.STATE slDonor sl, setR Reg.SLT_STATUS.ROLE 3 sl]

/-- The donors of ISLAND are chosen (R55): up to DONOR_MAX of the ranked slots. -/
def donorsChoose : Prog := .read fun s =>
  .seq (updGrid fun g => { g with chosen := true }) (each (s.donorRank.take (s.rd Reg.SRC_ISLAND.DONOR_MAX)) donorStart)

/-- VBUS of every port is withdrawn (R457, R562). -/
def portsWithdraw (cause : Nat) : Prog := each (List.range 8) fun k => portWithdraw k cause

/-- The house-battery thresholds of a chemistry, mV (R59): dead, pre-charge, CV, recharge or float, accessory cut-off. -/
def hbDead (c : Nat) : Nat := [10000, 12000, 10500].getD c 10000
def hbPreTh (c : Nat) : Nat := [11200, 12800, 10500].getD c 11200
def hbCv (c : Nat) : Nat := [14400, 16400, 14400].getD c 14400
def hbBack (c : Nat) : Nat := [13300, 16000, 13600].getD c 13300
def hbCut (c : Nat) : Nat := [11600, 13200, 11800].getD c 11600

/-- The house-battery chemistry (R76). -/
def State.hbChem (s : State) : Nat := s.rd Reg.SRC_HB_CFG.CHEM

/-- The battery's voltage, mV (R78). -/
def State.hbMv (s : State) : Nat := s.rd Reg.SRC_HB_MEAS.VOLT

/-- The accessory boost is to run in the present mode (R64), and is not stopped at the cut-off. -/
def State.accWanted (s : State) : Bool :=
  !s.flag Reg.SRC_ACC_CTRL.UVLO &&
  match s.rd Reg.SRC_ACC_CTRL.MODE with
  | 1 => s.mode == mIsland
  | 2 => s.mode != mShip
  | _ => false

/-- The accessory boost stops where its mode no longer wants it (R64); where it wants it, the next commit starts it. -/
def accUpdate : Prog := when (fun s => !s.accWanted && s.switching 137) (softStop 137)

/-- The set point of the donors, mV (R56); a source's return ramps it over 100 ms to 10 V below the source, not below 300 V (R58). -/
def State.donorVset (s : State) : Int :=
  match s.grid.returning with
  | none => 1000 * s.rd Reg.SRC_ISLAND.V_SET
  | some (k, t0, v) =>
    let target : Int := max 300000 (100 * s.rd Reg.SRC_PORT_MEAS.VOLT k - 10000)
    v + Int.tdiv ((target - v) * (min 100000 (s.time - t0) : Nat)) 100000

/-- A source waits to return to the bus in ISLAND (R58): qualified, not enabled, and its MODE allows it. -/
def State.waitsReturn (s : State) (k : Nat) : Bool :=
  (s.src k).qualified && s.rd Reg.SRC_PORT_CFG.MODE k != 0 && !s.flag Reg.SRC_PORT_STATUS.ENABLED k

/-- The next waiting source returns (R58), the lowest port first, once the return before it has ended: the donors' set point ramps from
where it stands. -/
def returnNext : Prog := .read fun s =>
  let busy := match s.grid.returning with
    | some (k, _, _) => s.waitsReturn k
    | none => false
  if s.mode ≠ mIsland || busy then .skip
  else match (List.range 4).find? s.waitsReturn with
    | some k => updGrid fun g => { g with returning := some (k, s.time, s.donorVset.toNat) }
    | none => .skip

/-- A source no longer returns (R58); the next waiting one does. -/
def returnDrop (k : Nat) : Prog := .seq
  (updGrid fun g => { g with returning := if (g.returning.map (·.1)) = some k then none else g.returning }) returnNext

/-- Sources of MODE ALWAYS enter service whenever qualified (R46); in ISLAND by R58. -/
def alwaysEnable : Prog := each (List.range 4) fun k =>
  when (fun s => s.mode != mIsland && s.waitsReturn k && s.rd Reg.SRC_PORT_CFG.MODE k == 1) (srcEnable k 2)

/-- No donor serves the ISLAND any more (R57, R71): SCALE 0, the bus is not ready, and the ports lose VBUS. -/
def donorsGone : Prog := seqs [setScale 0, updGrid fun g => { g with ready := false, noDonor := true }, portsWithdraw 5]

/-- A written `SRC_ISLAND.ENABLE` (R71): 0 soft-stops the donors, 1 lets the device choose them; outside ISLAND it waits for the next. -/
def islandWritten : Prog := .read fun s =>
  if s.mode ≠ mIsland ∨ ¬ s.srcsOn.isEmpty then .skip
  else if s.flag Reg.SRC_ISLAND.ENABLE then
    .seq (updGrid fun g => { g with noDonor := false }) (if s.islandDonors.isEmpty then donorsChoose else .skip)
  else .seq (each s.islandDonors fun sl => stopSlot sl slIdle none) donorsGone

end Sys2Proof.Machine
end

