-- ==== Sys2Proof/Machine/EngOps.lean ====
section
/-! DEFINITION. The shared operations of the engines (chapter 12): tasks and pairs (R477), the trace (R501, R502), choosing spares
and migrating (R31, R483), bed faults (R484), the root's place (R231, R232) and the steps of a rollout (R496 to R498). -/

namespace Sys2Proof.Machine

/-- The home bed and index of a task (R477). -/
def taskBed (t : Nat) : Nat := t / 26
def taskIdx (t : Nat) : Nat := t % 26

/-- The kind of a task: 0 sequencer, 1 gauge, 2 thermal, 3 bus agent, 4 post-processing, 5 supervisor, 6 shard, 7 auxiliary (R18). -/
def taskKind (t : Nat) : Nat := if t % 26 = 24 then 6 else if t % 26 = 25 then 7 else t % 26 % 6

/-- The slot of a slot's task (R18). -/
def taskSlot (t : Nat) : Option Nat := if t % 26 < 24 then some (4 * (t / 26) + t % 26 / 6) else none

/-- The period of a task, µs (R477). -/
def taskPeriod (t : Nat) : Nat := if taskKind t = 1 ∨ taskKind t = 2 ∨ taskKind t = 6 then 10000 else 1000

/-- The place of a task in the order of R31. -/
def taskRank (t : Nat) : Nat := [2, 5, 1, 3, 4, 0, 7, 6].getD (taskKind t) 7

/-- The task is on a planned move (R483, R496). -/
def State.planned (s : State) (t : Nat) : Bool := s.rd Reg.ENG_TASK.STATE t == 2 && (s.task t).cause == 2 && (s.task t).from?.isSome

/-- The pair on which a task now runs, if any: during a planned move the pair that it leaves (R485). -/
def State.runsOn (s : State) (t : Nat) : Option Nat :=
  let p? := if s.rd Reg.ENG_TASK.STATE t < 2 then some (s.hostOf t) else if s.planned t then (s.task t).from? else none
  p?.filter fun p => (s.pair p).st == 0 && !(s.pair p).halted

/-- The task that has a pair, if any: the pair's host shows it, or it runs there until its planned move. A task that R485 stopped has none. -/
def State.taskOn (s : State) (p : Nat) : Option Nat :=
  (List.range 416).find? fun t => (s.hostOf t == p && (s.rd Reg.ENG_TASK.STATE t != 3 || (s.task t).stopped)) || (s.planned t && (s.task t).from? == some p)

/-- The image whose generation a task runs (R497). -/
def State.imageOf (s : State) (t : Nat) : Image := if s.flag Reg.ENG_TASK.GEN t then s.eng.staged.getD s.eng.active else s.eng.active

/-- The state of a pair (R507). -/
def State.pairState (s : State) (p : Nat) : Nat :=
  let x := s.pair p
  if x.st ≠ 0 then x.st
  else match s.taskOn p with
    | some t => if homePair t = p then 0 else 2
    | none => 1

/-- The pairs that have a task, as `State.taskOn` finds them. -/
def State.usedPairs (s : State) : List Nat := (List.range 416).flatMap fun t =>
  (if s.rd Reg.ENG_TASK.STATE t ≠ 3 ∨ (s.task t).stopped then [s.hostOf t] else []) ++ (if s.planned t then (s.task t).from?.toList else [])

/-- The free spare pairs (R37): in service, without a task. -/
def State.freePairs (s : State) : List Nat :=
  let used := s.usedPairs
  (List.range 512).filter fun p => (s.pair p).st == 0 && !used.contains p

/-! The store queue and what leaves it (R472 to R474, R478, R479). -/

/-- Entries of a store queue (R472). -/
def storeDepth : Nat := 16

/-- What a load from the data memory returns (R474): the youngest earlier store to the address, committed or queued. -/
def TaskRec.loadOf (x : TaskRec) (addr : Nat) : Option Nat :=
  match x.queue.reverse.find? fun e => e.kind == 0 && e.target == addr with
  | some e => some e.data
  | none => (x.mem.find? (·.1 == addr)).map (·.2)

/-- One entry leaves the store queue: into the data memory, as a read request, or as an effect with its sequence number, which the fabric
delivers once (R474, R479). A message enters its target's log (R478). -/
def storeLeaves (t : Nat) (e : StoreEntry) : Prog := .read fun s =>
  let x := s.task t
  if e.kind = 0 then updTasks t fun x => { x with mem := (e.target, e.data) :: x.mem.filter (·.1 != e.target) }
  else if e.kind = 4 then emit (.remoteRead t e.target)
  else .seq (updTasks t fun x => { x with seq := x.seq + 1, sent := max x.sent (x.seq + 1) })
    (if x.seq < x.sent then .skip
     else .seq (emit (.effect t x.seq e.kind e.target e.data))
       (if e.kind = 2 ∧ e.target < 416 then updTasks e.target fun y => { y with log := y.log ++ [(t, e.data)] } else .skip))

/-- The committed entries at the head of the store queue leave it, in program order (R474). -/
def storeDrain (t : Nat) : Prog := .read fun s =>
  let q := (s.task t).queue
  .seq (updTasks t fun x => { x with queue := x.queue.dropWhile (·.done) }) (each (q.takeWhile (·.done)) (storeLeaves t))

/-- The oldest speculative entry's instruction commits. -/
def commitOldest : List StoreEntry → List StoreEntry
  | [] => []
  | e :: l => if e.done then e :: commitOldest l else { e with done := true } :: l

/-- An instruction places an entry in the store queue; in a full one it waits for the oldest to commit and leave (R472). -/
def storeEnters (t : Nat) (e : StoreEntry) : Prog := .seq
  (when (fun s => decide ((s.task t).queue.length ≥ storeDepth)) (.seq (updTasks t fun x => { x with queue := commitOldest x.queue }) (storeDrain t)))
  (updTasks t fun x => { x with queue := x.queue ++ [e] })

/-- The checkpoint at a period's end (R478). -/
def checkpoint (t : Nat) : Prog :=
  updTasks t fun x => { x with period := (x.period + 1) % 2 ^ 32, ckptSeq := x.seq, ckptMem := x.mem, log := [], waits := none, rest := [] }

/-- A task goes back to its last checkpoint (R476, R478, R483); its re-executed effects carry their numbers again (R479). -/
def toCheckpoint (t : Nat) : Prog := updTasks t fun x => 
  { x with queue := [], mem := x.ckptMem, seq := x.ckptSeq, loaded := none, waits := none, rest := [], restCycles := 0 }

/-! The trace (R501 to R503). -/

/-- A trace record is kept by the mask (R508); DOMAIN_OFF, DOMAIN_ON, GAP and LOST always are. Tracing ends with its island (R588). -/
def State.traceKept (s : State) (kind : Nat) : Bool :=
  s.flag Reg.ENG_TRACE_CTRL.EN && !s.isleGone 60 && (kind == 6 || kind == 7 || kind == 8 || kind == 10 ||
    (if kind ≥ 0x80 then s.flag Reg.ENG_TRACE_CTRL.USER else hasBit (s.rd Reg.ENG_TRACE_CTRL.MASK) (kind - 1)))

/-- The window shows the record at the read index (R504, R508). -/
def traceShow : Prog := .read fun s =>
  let b := (s.traceRec (s.rd Reg.ENG_TRACE_PTR.RD)).bytes
  each (List.range 4) fun w => setR Reg.ENG_TRACE_WIN.REC (leAt b (4 * w) 4) w

/-- A record of the trace (R502). -/
def State.traceOf (s : State) (tine kind bed data : Nat) : TraceRec :=
  { bytes := leBytes 4 (s.time % 2 ^ 32) ++ leBytes 2 tine ++ [kind, bed] ++ leBytes 8 data }

/-- A trace record goes into its bed's FIFO of 64 records; a full one discards it and counts (R501). Between its DOMAIN_OFF and its DOMAIN_ON a bed
traces nothing (R503). -/
def traceWrite (tine kind bed data : Nat) : Prog := .read fun s =>
  if !s.traceKept kind || s.eng.offAt.any (·.1 == bed) then .skip
  else if (s.eng.fifo.filter (·.1 == bed)).length < 64 then updEng fun e => { e with fifo := e.fifo ++ [(bed, s.traceOf tine kind bed data)] }
  else .seq (incSat Reg.ENG_TRACE_CNT.LOST) (updEng fun e =>
    { e with fifoLost := (bed, ((e.fifoLost.find? (·.1 == bed)).map (·.2)).getD 0 + 1) :: e.fifoLost.filter (·.1 != bed) })

/-- A record leaves its FIFO for the buffer (R501): in wrap over the oldest, in stop only while there is room. -/
def traceStore (r : TraceRec) : Prog := .read fun s =>
  if s.flag Reg.ENG_TRACE_CTRL.MODE && decide (s.eng.traced ≥ 16384) then incSat Reg.ENG_TRACE_CNT.LOST
  else
    let w := s.rd Reg.ENG_TRACE_PTR.WR
    seqs [
      .act (.trace w r),
      setR Reg.ENG_TRACE_PTR.WR ((w + 1) % 16384),
      updEng fun e => { e with traced := min 16384 (e.traced + 1) },
      traceShow]

/-- The FIFOs of the beds `p` drain into the buffer; one that had discarded records now takes its LOST record (R501). -/
def traceDrain (p : Nat → Bool) : Prog := .read fun s =>
  if s.eng.fifo.any (p ·.1) then seqs [
    updEng fun e => { e with fifo := e.fifo.filter fun r => !p r.1 },
    each (s.eng.fifo.filter (p ·.1)) fun r => traceStore r.2,
    each (s.eng.fifoLost.filter (p ·.1)) fun l =>
      updEng fun e => { e with fifo := e.fifo ++ [(l.1, s.traceOf 0xFFFF 10 l.1 l.2)], fifoLost := e.fifoLost.filter (·.1 != l.1) }]
  else .skip

/-- A record of a pair. -/
def tracePair (p kind data : Nat) : Prog := traceWrite (2 * p) kind (p / 32) data

/-- One act of a task's instruction stream (R473, R474); arrivals are `runPeriod`'s. A remote read of an address that the image does not declare
read-idempotent waits for every older instruction. -/
def tineAct (t : Nat) : TineAct → Prog
  | .effect kind target data => if 1 ≤ kind ∧ kind ≤ 3 then storeEnters t { kind, target, data := data % 2 ^ 32 } else .skip
  | .store addr data => if addr < 4096 then storeEnters t { kind := 0, target := addr, data := data % 2 ^ 32 } else .skip
  | .load addr => updTasks t fun x => { x with loaded := x.loadOf addr }
  | .read addr => .read fun s =>
    if (s.imageOf t).idempotent.any fun r => decide (r.1 ≤ addr ∧ addr ≤ r.2) then emit (.remoteRead t addr)
    else storeEnters t { kind := 4, target := addr, data := 0 }
  | .commit => .seq (updTasks t fun x => { x with queue := commitOldest x.queue }) (storeDrain t)
  | .discard => updTasks t fun x => { x with queue := x.queue.filter (·.done) }
  | .arrive _ => .skip
  | .trace kind data => .read fun s => if 0x80 ≤ kind ∧ kind ≤ 0xFF then tracePair (s.hostOf t) kind data else .skip

/-- The acts of a period that an exception, an overrun or a disagreement cuts short: what was still speculative is discarded (R474, R481). -/
def cutActs (t : Nat) (acts : List TineAct) : Prog := .seq (each acts (tineAct t)) (tineAct t .discard)

/-! Barriers (R487). -/

/-- The tasks that the images make members of a barrier. -/
def State.barrierMembers (s : State) (k : Nat) : List Nat := (List.range 416).filter fun t =>
  ((s.imageOf t).barriers.getD k (0, [])).2.contains t && s.rd Reg.ENG_TASK.STATE t != 3

/-- The timeout of a task's wait at a barrier, 1 µs to 1 ms. -/
def State.barrierTimeout (s : State) (t k : Nat) : Nat := max 1 (min 1000 ((s.imageOf t).barriers.getD k (0, [])).1)

/-- The acts before the first arrival at a barrier `p` that holds the task, that barrier, and the acts after it. -/
def splitArrive (p : Nat → Bool) : List TineAct → List TineAct × Option (Nat × List TineAct)
  | [] => ([], none)
  | .arrive k :: l => if p k then ([], some (k, l)) else splitArrive p l
  | a :: l => (a :: (splitArrive p l).1, (splitArrive p l).2)

/-- A period, or what is left of it, runs: to its end, where every instruction has committed and the checkpoint is taken (R474, R478), or to an
arrival at a barrier of which the task is a member, where it waits (R487). -/
def runPeriod (t cycles : Nat) (acts : List TineAct) : Prog := .read fun s =>
  let r := splitArrive (fun k => k < 16 && ((s.imageOf t).barriers.getD k (0, [])).2.contains t) acts
  seqs [
    each r.1 (tineAct t), updTasks t fun x => { x with queue := x.queue.map fun e => { e with done := true } }, storeDrain t,
    match r.2 with
    | some (k, rest) => .seq (tracePair (s.hostOf t) 5 (dat 16 1 k))
        (updTasks t fun x => { x with waits := some (k, s.time), rest, restCycles := cycles })
    | none => .seq (tracePair (s.hostOf t) 2 (dat 16 2 t + dat 20 4 cycles)) (checkpoint t)]

/-- A bed's domain goes off (R503). -/
def bedOff (b : Nat) : Prog := seqs [traceWrite 0xFFFF 6 b 0, traceDrain (· == b), traceDrain (· == b),
  .read fun s => updEng fun e => { e with offAt := (b, s.time) :: e.offAt.filter (·.1 != b) }]

/-- A bed's domain returns: DOMAIN_ON, and the root's GAP (R503). -/
def bedOn (b : Nat) : Prog := .read fun s =>
  match s.eng.offAt.find? (·.1 == b) with
  | some e => seqs [updEng fun x => { x with offAt := x.offAt.filter (·.1 != b) }, traceWrite 0xFFFF 7 b 0,
      traceWrite (2 * s.hostOf (if s.flag Reg.ALM_STATUS.ROOT_ALT then 232 else 24)) 8 b e.2]
  | none => .skip

/-! Where the root runs (R231, R32). -/

/-- ROOT_HANDOVER (R231, R363). -/
def rootMoved (bed skipped tick : Nat) : Prog := seqs [
  setR Reg.ALM_STATUS.ROOT_ALT (bit (bed = 8)),
  incSat Reg.ALM_CNT.HANDOVERS,
  raisePf evRootHandover srcDevice (dat 16 1 bed + dat 17 1 skipped + dat 20 4 tick),
  healthSet Reg.GLB_HEALTH.ROOT_ALT fun _ => bit (bed = 8)]

/-- A planned handover, with no tick skipped (R496, R556). -/
def rootPlanned (bed : Nat) : Prog := .read fun s =>
  if s.flag Reg.ALM_STATUS.ROOT_ALT = decide (bed = 8) then .skip else rootMoved bed 0 ((s.time / 10000 + 1) % 2 ^ 32)

/-! Spares and migration (R31, R483, R485). -/

/-- The beds in the order of R31 from a bed: its own, then the same Planter's, then by distance, the lower number first. -/
def bedOrder (b : Nat) : List Nat :=
  let key := fun c => (if c = b then 0 else if c / 4 = b / 4 then 100 else 200) + 2 * (max b c - min b c) + (if c > b then 1 else 0)
  sortBy (fun a c => decide (key a ≤ key c)) (List.range 16)

/-- The free spare that R483 chooses for a task that leaves bed `b`, outside the beds `out`. Its value depends on every task
and pair, so it is unfolded by name only. -/
@[irreducible] def State.spareFor (s : State) (b : Nat) (out : List Nat) : Option Nat :=
  let free := s.freePairs.filter fun p => !out.contains (p / 32)
  (bedOrder b).findSome? fun c => free.find? fun p => p / 32 == c

/-- A bed's shard is absent (R233). Where it carries the root, the root is lost with it (R32). -/
def shardGone (b : Nat) : Prog := .read fun s => .seq
  (updAlm fun a => { a with absent := if a.absent.contains b then a.absent else b :: a.absent })
  (if b = (if s.flag Reg.ALM_STATUS.ROOT_ALT then 8 else 0) then updAlm fun a => { a with rootLost := true } else .skip)

/-- A stopped task's slot, channel or shard (R485, R522): SUBCAUSE `sub` for a slot's task. -/
def taskStops (t sub : Nat) : Prog := .seq (setR Reg.ENG_TASK.STATE 3 t)
  (match taskSlot t with
   | some sl => slotSafeSub sl sub
   | none =>
     if taskKind t = 7 then auxFault (128 + taskBed t) else shardGone (taskBed t))

/-- A planned move begins (R483, R485): HOST shows the new pair, and the task runs on where it is until the first boundary of its period after
the code is loaded. -/
def planMove (t q : Nat) : Prog := .read fun s => seqs [
  setR Reg.ENG_TASK.HOST q t, setR Reg.ENG_TASK.STATE 2 t,
  updTasks t fun x => { x with from? := some (s.hostOf t), cause := 2, readyAt := s.time + 100 }]

/-- A planned move is taken back: the task stays where it runs. -/
def planBack (t p : Nat) : Prog := seqs [
  setR Reg.ENG_TASK.HOST p t, setR Reg.ENG_TASK.STATE (if p = homePair t then 0 else 1) t, updTasks t fun x => { x with from? := none }]

/-- A task leaves its pair for a spare outside the beds `out` (R483): HOST shows it, and it resumes at its period boundary. `cause` as in MIGRATE;
2 is a planned move. A task on a planned move into such a bed stays where it runs. -/
def migrate (t cause : Nat) (out : List Nat) : Prog := .read fun s =>
  let p := s.hostOf t
  match (s.runsOn t).filter fun f => s.planned t && !out.contains (f / 32) with
  | some f => planBack t f
  | none => match s.spareFor (p / 32) out with
    | none => .seq (taskStops t 5) (healthSet Reg.GLB_HEALTH.COVERAGE_LOST fun _ => 1)
    | some q => if cause = 2 then planMove t q else seqs [
        setR Reg.ENG_TASK.HOST q t, setR Reg.ENG_TASK.STATE 2 t, toCheckpoint t,
        updTasks t fun x => { x with from? := some p, cause, readyAt := s.time + 100 },
        if taskKind t = 6 then shardGone (taskBed t) else .skip]

/-- A task runs on its new pair from its checkpoint (R478, R483), in its home bed in the generation of the bed, elsewhere in its own (R497). -/
def migrated (t : Nat) : Prog := .read fun s =>
  let x := s.task t
  let q := s.hostOf t
  let p := x.from?.getD q
  seqs [
    setR Reg.ENG_TASK.STATE (if q = homePair t then 0 else 1) t, incSat Reg.ENG_CNT.MIGRATIONS,
    if q / 32 = taskBed t then setR Reg.ENG_TASK.GEN (bit (hasBit (s.rd Reg.ENG_UPG.BEDS_NEW) (taskBed t))) t else .skip,
    toCheckpoint t, updTasks t fun x => { x with from? := none },
    tracePair q 3 (dat 16 2 t + dat 18 2 p + dat 20 2 q + dat 22 1 x.cause),
    raisePf evTaskMigrated srcDevice (dat 16 2 t + dat 18 2 p + dat 20 2 q + dat 22 1 x.cause),
    if taskKind t = 6 then updAlm fun a => { a with absent := a.absent.filter (· != taskBed t) } else .skip]

/-- The tasks in the order of R31. -/
@[irreducible] def inOrder (ts : List Nat) : List Nat :=
  sortBy (fun x y => decide (taskRank x < taskRank y) || (taskRank x == taskRank y && decide (x ≤ y))) ts

/-- The tasks whose host is in a bed, in the order of R31. -/
def State.tasksIn (s : State) (b : Nat) : List Nat :=
  inOrder ((List.range 416).filter fun t => s.hostOf t / 32 == b && s.rd Reg.ENG_TASK.STATE t != 3)

/-- The tasks on a planned move out of a bed or into it. -/
def State.moversOf (s : State) (b : Nat) : List Nat :=
  inOrder ((List.range 416).filter fun t => s.planned t && (s.hostOf t / 32 == b || (s.task t).from?.any (· / 32 == b)))

/-- A task that repeated faults stopped keeps a pair for its resumption (R522): a bed that goes hands it a spare elsewhere. -/
def stoppedLeave (b : Nat) : Prog := each (List.range 416) fun t =>
  when (fun s => (s.task t).stopped && s.hostOf t / 32 == b) (.read fun s =>
    match s.spareFor b [b] with
    | some q => setR Reg.ENG_TASK.HOST q t
    | none => updTasks t fun x => { x with stopped := false })

/-- The schema version in force (R232): the lowest version every shard speaks. While a rollout has reloaded only some beds, the
lowest version that both generations speak; a bed whose generation does not speak it counts as absent (`State.schemaMute`). -/
def schemaUpdate : Prog := .read fun s =>
  let news := s.rd Reg.ENG_UPG.BEDS_NEW
  let lo := s.rd Reg.ENG_SCHEMA.ACT_LO
  let stg := s.rd Reg.ENG_SCHEMA_STG.STG_LO
  setR Reg.ALM_STATUS.SCHEMA (if news = 0 then lo else if news = 0xFFFF then stg else max lo stg)

/-- Step 2 of R496 begins: the bed's tasks move to spares elsewhere, each at its own period boundary. -/
def bedEmpties (b : Nat) : Prog := seqs [
  setR Reg.ENG_UPG.STEP 2, .read fun s => each (s.tasksIn b) fun t => migrate t 2 [b], stoppedLeave b]

/-- A bed's steps begin (R496). -/
def bedBegins (b : Nat) : Prog := .seq (setR Reg.ENG_UPG.BED b) (if b = 0 then setR Reg.ENG_UPG.STEP 1 else bedEmpties b)

/-- An abort has brought every bed back (R498): STAGED, with MCODE_ABORT; ROLL and ABORT complete (R494). -/
def abortDone : Prog := .read fun s => seqs [
  setR Reg.ENG_UPG.STATE 2, setR Reg.ENG_UPG.BED 31, setR Reg.ENG_UPG.STEP 0, setR Reg.ENG_UPG.BEDS_NEW 0, schemaUpdate,
  raisePf evMcodeAbort srcDevice (dat 16 1 s.eng.abortCause + dat 17 1 s.eng.abortBed),
  match s.eng.roll with | some c => finishRun c stRejState | none => .skip,
  match s.eng.abort with | some c => finishRun c stOk (s.rd Reg.ENG_GEN.ACTIVE) | none => .skip,
  updEng fun e => { e with roll := none, abort := none, reloaded := [], toReturn := [] }]

/-- While aborting, the next bed returns, or the abort is done (R498). -/
def bedReturns : Prog := .read fun s =>
  match s.eng.toReturn with
  | c :: _ => bedBegins c
  | [] => abortDone

/-- The request writes ACTIVE_BANK (R499). -/
def KeepReq.isBoot (q : KeepReq) : Bool :=
  match q.effect with
  | .boot _ => true
  | _ => false

/-- The keep record of ACTIVE_BANK that still waits is taken back, and its ROLL with it (R498, R499). -/
def bootBack : Prog := .read fun s =>
  match s.keep.queue.find? KeepReq.isBoot with
  | some q => seqs [updKeep fun k => { k with queue := k.queue.filter fun r => !r.isBoot }, updEng fun e => { e with roll := q.ctl },
      updR Reg.KEEP_CNT.QUEUED fun t => min t.keep.queue.length 0xFFFF]
  | none => .skip

/-- A rollout ends without completing (R498): the beds already reloaded, and the bed in progress, return to the active generation. -/
def rollAbort (cause : Nat) : Prog := .read fun s =>
  if s.rd Reg.ENG_UPG.STATE = 3 then
    let b := s.rd Reg.ENG_UPG.BED
    let back := (if s.rd Reg.ENG_UPG.STEP ≥ 2 ∧ ¬ s.eng.reloaded.contains b then [b] else []) ++ s.eng.reloaded
    seqs [
      bootBack,
      updEng fun e => { e with toReturn := back.filter fun c => !hasBit (s.rd Reg.GLB_HEALTH.BED_LOST) c, abortCause := cause, abortBed := b },
      setR Reg.ENG_UPG.STATE 4, bedReturns]
  else .skip

/-- Spares below a rollout's level end it (R498): 32 during steps 2 to 5. -/
def rollSpares : Prog := .read fun s =>
  let st := s.rd Reg.ENG_UPG.STEP
  if s.rd Reg.ENG_UPG.STATE = 3 ∧ 2 ≤ st ∧ st ≤ 5 ∧ s.rd Reg.GLB_HEALTH.SPARE_PAIRS < 32 then rollAbort 3 else .skip

/-- `GLB_HEALTH.SPARE_PAIRS` follows the pairs, with HEALTH where it changes (R37), and a rollout with them (R498). -/
def sparesUpdate : Prog := .seq (healthSet Reg.GLB_HEALTH.SPARE_PAIRS fun s => s.freePairs.length) rollSpares

/-- A bed leaves service (R30, R484): every task moves in the order of R31, its pairs are lost, and it takes a BED reset. The root
moves at the next boundary where the bed carried it (R32). A rollout's bed in progress ends the rollout, or while aborting its return (R500). -/
def bedFault (b : Nat) : Prog := .read fun s =>
  if hasBit (s.rd Reg.GLB_HEALTH.BED_LOST) b then .skip
  else seqs [
    each (List.range 32) fun i => updPairs (32 * b + i) fun x => { x with st := 6, halted := false },
    each (s.tasksIn b) fun t => migrate t 1 [b], stoppedLeave b,
    setR Reg.GLB_HEALTH.BED_LOST (setBit (s.rd Reg.GLB_HEALTH.BED_LOST) b),
    updR Reg.GLB_HEALTH.SPARE_PAIRS fun t => t.freePairs.length,
    setR Reg.GLB_RESET_CAUSE.BED 1, setR Reg.GLB_RESET_INFO.BED b,
    bedOff b, setR Reg.PWR_DOM.ON (clrBit (s.rd Reg.PWR_DOM.ON) (b + 1)),
    raiseHealth,
    if b = (if s.flag Reg.ALM_STATUS.ROOT_ALT then 8 else 0) then updAlm fun a => { a with rootLost := true } else .skip,
    updEng fun e => { e with toReturn := e.toReturn.filter (· != b) },
    if s.rd Reg.ENG_UPG.BED ≠ b then .skip else if s.rd Reg.ENG_UPG.STATE = 4 then bedReturns else rollAbort 2,
    rollSpares]

/-- A task fault (R476, R487): 0 exception, 1 period overrun, 2 barrier timeout. The third within 60 s stops the task (R522). -/
def taskFault (t kind : Nat) : Prog := .read fun s =>
  let x := s.task t
  let recent := (s.time :: x.faults).filter fun a => decide (s.time < a + 60000000)
  seqs [
    incSat Reg.ENG_TASK.FAULTS t, toCheckpoint t,
    updTasks t fun x => { x with faults := recent },
    .read fun u => raisePf evTaskFault srcDevice (dat 16 2 t + dat 18 1 kind + dat 19 1 (u.rd Reg.ENG_TASK.FAULTS t)),
    if s.flag Reg.ENG_TASK.GEN t && s.flag Reg.ENG_UPG_CFG.AUTO_ABORT then rollAbort 1 else .skip,
    if recent.length < 3 then .skip
    else if taskKind t = 6 then
      seqs [shardGone (taskBed t), setR Reg.ENG_TASK.STATE 3 t, raiseHealth, sparesUpdate]
    else seqs [updTasks t fun x => { x with stopped := true }, incSat Reg.SAF_CNT.TASK_SAFE, taskStops t 4, raiseHealth]]

/-- An image stands staged in the inactive bank (R493, R499). -/
def imageStaged (img : Image) : Prog := seqs [
  setR Reg.ENG_UPG.STATE 2, setR Reg.ENG_GEN.STAGED img.gen, updEng fun e => { e with staged := some img },
  setR Reg.ENG_SCHEMA_STG.STG_LO img.lo, setR Reg.ENG_SCHEMA_STG.STG_HI img.hi]

/-- The next bed of a rollout (R495). -/
def rollNext (b : Nat) : Option Nat :=
  let order := [15, 14, 13, 12, 11, 10, 9, 7, 6, 5, 4, 3, 2, 1, 8, 0]
  ((order.dropWhile (· != b)).drop 1).head?

/-- A bed of a rollout is due (R496, R498): it needs 64 free spare pairs. -/
def rollBed (b : Nat) : Prog := .read fun s =>
  if s.rd Reg.GLB_HEALTH.SPARE_PAIRS < 64 then seqs [setR Reg.ENG_UPG.STEP 1, setR Reg.ENG_UPG.BED b, rollAbort 3] else bedBegins b

end Sys2Proof.Machine
end

