-- ==== Sys2Proof/Machine/Slots.lean ====
section
/-! DEFINITION. The slots' presence, identification and faults (chapter 04, R145 to R160, R176 to R182): what each event on a
slot's pins, its timers and its registers does. -/

namespace Sys2Proof.Machine

/-- A change of an ID pin: latched by a freeze (R594); in SHIP only the pin's level is known (R555). -/
def pinSeen (sl : Nat) (closed : Bool) (l : Latched) (p : Prog) : State → Host.Outcome State Fault Refusal := endsAlways (.read fun s =>
  if s.flag Reg.SVC_STATUS.FROZEN then updSvc fun v => { v with latched := v.latched ++ [l] }
  else if s.modeReg = mShip then updSlots sl fun x => { x with idClosed := closed } else p)

/-- What ID_PIN_CLOSE does, once it is taken. -/
def pinClose (sl : Nat) : Prog := .read fun s =>
    if (s.slot sl).idClosed then .skip
    else seqs [
      updSlots sl fun x => { x with idClosed := true, closedAt := s.time, ntcValid := 0, ntcInvalid := 0 }, bedWake sl,
      if s.oddGanged sl then .skip
      else if s.slSt sl = slFaulted ∧ s.slotsLive then raiseSlot evPackIn sl (dat 16 1 0xF)
      else scanPresence sl]

/-- ID_PIN_CLOSE (R146, R147): the pin of a slot falls below 2,900 mV. An EMPTY slot debounces; a FAULTED one reports PACK_IN
with TYPE 0xF. -/
def execIdPinClose (sl : Nat) : State → Host.Outcome State Fault Refusal :=
  pinSeen sl true (.idClosed sl) (pinClose sl)

/-- DEBOUNCE_END (R146): the pin has stayed closed throughout `SLT_CFG.DEBOUNCE`. -/
def execDebounceEnd (sl : Nat) : State → Host.Outcome State Fault Refusal :=
  ends (.read fun s =>
    if s.slSt sl = slDebounce ∧ (s.slot sl).idClosed ∧ s.time ≥ (s.slot sl).closedAt + 1000 * s.rd Reg.SLT_CFG.DEBOUNCE sl
    then identBegin sl else .skip)

/-- The source voltage of a leakage as the fraction of R158, from the readings at 500 mV and 2,000 mV; a pin that follows the
test DAC through 100 kΩ has none. -/
def leakNum (v1 v2 : Nat) : Int := if v1 + 1500 ≤ v2 then 0 else 1500 * (v1 : Int) - 500 * ((v2 : Int) - v1)
def leakDen (v1 v2 : Nat) : Nat := if v1 + 1500 ≤ v2 then 1 else (1500 - ((v2 : Int) - v1)).toNat

/-- The leakage resistance of R158 in kΩ, 0xFFF at or above 4,095 kΩ. -/
def leakR (v1 v2 : Nat) : Nat :=
  if v1 + 1500 ≤ v2 then 0xFFF else min 0xFFF (100 * (v2 - v1) / (1500 - (v2 - v1)))

/-- WET_TEST_COMPLETE (R158, R159, R280): the test that the FCV runs ends after 15 ms: the pin read `v1` mV at 500 mV and `v2` mV at 2,000 mV. -/
def execWetTestComplete (sl v1 v2 : Nat) : State → Host.Outcome State Fault Refusal :=
  ends (.read fun s =>
    match (s.fcv (sl / 16)).cur.or (s.fcvPick (sl / 16)) with
    | none => .skip
    | some c =>
      if c.task ≠ 5 ∨ s.wetSlot (sl / 16) ≠ some sl ∨ s.time < (s.fcv (sl / 16)).endAt + 15000 then .skip else
      let mv := (divRound (leakNum v1 v2) (leakDen v1 v2)).toNat
      let wet := decide (200 * (leakDen v1 v2 : Int) < leakNum v1 v2)
      seqs [
        updSlots sl fun x => { x with wetRunning := false },
        setR Reg.SLT_DIAG.LEAK_R (leakR v1 v2) sl, setR Reg.SLT_DIAG.LEAK_V (min 255 (mv / 20)) sl,
        setR Reg.SLT_STATUS.WET (bit wet) sl, dacShow (sl / 16), fcvDone (sl / 16) c,
        if wet then raiseSlot evWet sl (dat 16 2 mv + dat 18 2 (leakR v1 v2)) else .skip])

/-- ID_DECODE (R149): the 1 ms average of the ID voltage ends at `mv`. -/
def execIdDecode (sl mv : Nat) : State → Host.Outcome State Fault Refusal :=
  ends (.read fun s =>
    if s.slSt sl = slIdentifying ∧ ¬ (s.slot sl).wetRunning ∧ ¬ (s.slot sl).typed then seqs [
      setR Reg.SLT_DIAG.ID_MV (min mv 4095) sl, setR Reg.SLT_STATUS.TYPE (idType mv) sl,
      setR Reg.SLT_STATUS.ID_LOW (bit (idType mv == 0)) sl,
      updSlots sl fun x => { x with typed := true }]
    else .skip)

/-- IDENTIFICATION_COMPLETE (R146, R151): in SENTINEL the slot waits for RUN (R191). -/
def execIdentificationComplete (sl : Nat) : State → Host.Outcome State Fault Refusal :=
  ends (.read fun s =>
    if s.identDone sl && s.running && (s.identFailure sl).isNone then
      (match s.identPack sl with | some p => identified sl p | none => .skip)
    else .skip)

/-- IDENTIFICATION_FAIL (R153): a challenge-response failure is retried once after 1 s; else IDENT_FAIL with its reason. -/
def execIdentificationFail (sl : Nat) : State → Host.Outcome State Fault Refusal :=
  ends (.read fun s =>
    match s.identFailure sl with
    | none => .skip
    | some r =>
      if !s.running then .skip
      else seqs [
        busCancel sl (fun j => j.what != 0),
        if 3 ≤ r ∧ r ≤ 5 ∧ (s.slot sl).tries = 0 then
          updSlots sl fun x => { x with tries := 1, retryAt := some (s.time + 1000000), busRetryAt := none }
        else seqs [
          setR Reg.SLT_STATUS.STATE slIdentFail sl,
          updSlots sl fun x => { x with busRetryAt := none },
          raiseSlot evIdentFail sl (dat 16 1 r + dat 17 1 (s.rd Reg.SLT_STATUS.TYPE sl))]])

/-- IDENT_RETRY (R153): 1 s after the first failure the whole sequence runs again. -/
def execIdentRetry (sl : Nat) : State → Host.Outcome State Fault Refusal :=
  ends (.read fun s =>
    match (s.slot sl).retryAt with
    | some t => if s.slSt sl = slIdentifying ∧ s.time ≥ t then identAttempt sl else .skip
    | none => .skip)

/-- The window edge that an ID voltage has crossed (R150). -/
def idEdge (t mv : Nat) : Nat :=
  let lo := [0, 282, 405, 559, 770, 992, 1256, 1551, 1861].getD t 0
  let hi := [150, 318, 456, 631, 868, 1118, 1416, 1749, 2099].getD t 0
  if mv < lo then lo else hi

/-- Identity loss (R178): steps 2 and 3 of R177, then FAULTED with cause IDENT_LOSS; the bus's work is cancelled (R421). -/
def identityLoss (sl : Nat) : Prog := .seq (busCancel sl (fun _ => true)) (slotSafe sl caIdentLoss)

/-- What IDENTITY_LOSS does, once it is taken. -/
def idLossTrip (sl mv ns : Nat) : Prog := .read fun s =>
    let t := s.rd Reg.SLT_STATUS.TYPE sl
    if s.seated sl && s.slotsLive && !s.fgMasked sl 5 && !inWindow t mv && decide (mv < 2900 ∧ ns ≥ 2000) then
      .seq (fgReport sl 5 (idEdge t mv) Reg.SAF_FG_B.TRIP_ID) (identityLoss sl)
    else .skip

/-- IDENTITY_LOSS (R150, R178): the ID voltage `mv` has lain outside the decoded type's window for `ns`, below 2,900 mV. -/
def execIdentityLoss (sl mv ns : Nat) : State → Host.Outcome State Fault Refusal :=
  latching (.idLoss sl mv ns) (idLossTrip sl mv ns)

/-- What PACK_REMOVAL does, once it is taken. A dead bus is recovered anew (R417): `pulses` as in R416, `some 0` where SDA is high. -/
def packRemoval (sl : Nat) (pulses : Option Nat) : Prog := .read fun s =>
    let st := s.slSt sl
    let out := raiseSlot evPackOut sl (s.packOutData sl)
    if !(s.slot sl).idClosed then .skip
    else seqs [
      updSlots sl fun x => { x with idClosed := false }, bedWake sl,
      if s.oddGanged sl ∨ ¬ s.slotsLive then .skip
      else seqs [
        busCancel sl (fun _ => true),
        when (fun _ => s.flag Reg.TWB_STATUS.BUS_DEAD sl) (.seq (setR Reg.TWB_STATUS.BUS_DEAD 0 sl) (recoverSda sl pulses)),
        if st = slDebounce then setR Reg.SLT_STATUS.STATE slEmpty sl
        else if st = slFaulted then seqs [parkOutput (s.slotLead sl) 6, out, finalSnapshot sl]
        else if st = slEmpty ∨ st = slGanged ∨ st = slOff then .skip
        else seqs [
          parkOutput (s.slotLead sl) 0,
          setR Reg.SLT_STATUS.STATE slEmpty sl,
          endParts sl 6 2, fgDisarm sl, resvEnd sl, out, finalSnapshot sl, releaseGoesOn sl,
          when (fun t => (t.slot sl).offWait) (.seq (setR Reg.SLT_STATUS.STATE slOff sl) (updSlots sl fun x => { x with offWait := false })),
          packForget sl, setR Reg.SLT_STATUS.RECEIVER 0 sl, setR Reg.SLT_LINK.PEER 0xFF sl,
          .read fun t => useUpdate (t.ownerOrPf sl)]]]

/-- PACK_REMOVAL (R177, R146, R147): the ID pin rises above 2,900 mV. -/
def execPackRemoval (sl : Nat) (pulses : Option Nat) : State → Host.Outcome State Fault Refusal :=
  pinSeen sl false (.idOpen sl pulses) (packRemoval sl pulses)

/-- A slot goes OFF on a written 0 (R146): after a soft stop where current flows, a FAULTED one once its fault is cleared. -/
def slotOff (sl : Nat) : Prog := .read fun s =>
  let st := s.slSt sl
  if st = slFaulted ∨ st = slOff then .skip
  else if st = slStopping then updSlots sl fun x => { x with offWait := true }
  else if st = slCharging ∨ st = slSuspended ∨ st = slDonor then
    .seq (updSlots sl fun x => { x with offWait := true }) (endAll sl 3 slOff)
  else seqs [
    busCancel sl (fun j => j.what != 0), finalSnapshot sl, fgDisarm sl, packForget sl,
    if st = slGanged then gangLeave sl else .skip, setR Reg.SLT_STATUS.STATE slOff sl]

/-- The effect of a written `SLT_CFG.ENABLE` (R146). -/
def slotEnableWritten (sl : Nat) : Prog := .read fun s =>
  if !s.flag Reg.SLT_CFG.ENABLE sl then slotOff sl
  else seqs [
    updSlots sl fun x => { x with offWait := false },
    if s.slSt sl ≠ slOff then .skip
    else if s.oddGanged sl then gangShow sl
    else .seq (setR Reg.SLT_STATUS.STATE slEmpty sl) (scanPresence sl)]

/-- The word of `SLT_CFG` with another ENABLE. -/
def State.cfgWord (s : State) (sl : Nat) (v : Bool) : Nat :=
  bit v * 2 ^ Reg.SLT_CFG.ENABLE.lo + (([Reg.SLT_CFG.IDENT, Reg.SLT_CFG.SWAP_AUTH, Reg.SLT_CFG.WET_AUTO, Reg.SLT_CFG.DEBOUNCE,
    Reg.SLT_CFG.AUTH_POLL]).map fun f => s.rd f sl * 2 ^ f.lo).sum

/-- SLOT_ENABLE_WRITE (R146): the PF writes `v` to `SLT_CFG.ENABLE`; the value it has already is no write. -/
def execSlotEnableWrite (sl : Nat) (v : Bool) : State → Host.Outcome State Fault Refusal :=
  pfWrites Reg.SLT_CFG.ENABLE sl 0 (fun _ => 0) (.read fun s =>
    if s.sltWaits (Reg.SLT_CFG.ENABLE.addr sl 0 0) then sltLater (Reg.SLT_CFG.ENABLE.addr sl 0 0) (s.cfgWord sl v)
    else if s.flag Reg.SLT_CFG.ENABLE sl = v then .skip
    else .seq (setR Reg.SLT_CFG.ENABLE (bit v) sl) (slotEnableWritten sl))

/-- The effect of a 1 written to `SLT_FAULT.CLEAR` (R182). -/
def faultClearWritten (sl : Nat) : Prog := .read fun s =>
  if s.slSt sl = slFaulted ∧ ¬ s.causePersists sl then faultClear sl else .skip

/-- SLOT_FAULT_CLEAR (R182, R617): the PF writes 1 to `SLT_FAULT.CLEAR`. -/
def execSlotFaultClear (sl : Nat) : State → Host.Outcome State Fault Refusal := 
  pfWrites Reg.SLT_FAULT.CLEAR sl 0 (fun _ => 0) (.read fun s =>
    if s.sltWaits (Reg.SLT_FAULT.CLEAR.addr sl 0 0) then sltLater (Reg.SLT_FAULT.CLEAR.addr sl 0 0) (2 ^ Reg.SLT_FAULT.CLEAR.lo)
    else faultClearWritten sl)

/-- NTC_BOTH_INVALID (R171): both NTCs of a seated pack invalid for 500 ms. -/
def execNtcBothInvalid (sl : Nat) : State → Host.Outcome State Fault Refusal :=
  ends (.read fun s =>
    match (s.slot sl).ntcBothSince with
    | some t => if s.seated sl && s.slotsLive && decide (s.time ≥ t + 500000) then slotSafe sl caNtc else .skip
    | none => .skip)

/-- SERIAL_POLL (R179, R428): every AUTH_POLL seconds one PACK_SERIAL of an authenticated, seated pack. -/
def execSerialPoll (sl : Nat) : State → Host.Outcome State Fault Refusal :=
  ends (.read fun s =>
    let x := s.slot sl
    if s.flag Reg.SLT_CFG.SWAP_AUTH sl && x.method == 1 && s.seated sl && s.slotsLive &&
        decide (s.time ≥ x.pollAt + 1000000 * s.rd Reg.SLT_CFG.AUTH_POLL sl) then
      .seq (updSlots sl fun x => { x with pollAt := s.time }) (agentQueue sl packSerialJob)
    else .skip)

/-- What FG_OV_TRIP does, once it is taken. -/
def fgOvTrip (sl mv us : Nat) : Prog := .read fun s =>
    let th := 20 * s.rd Reg.SAF_FG_A.OV_TH sl
    if (s.slot (s.carrier sl)).idClosed ∧ s.slotsLive ∧ ¬ s.fgMasked sl 0 ∧ th < mv ∧ us ≥ 4 then
      .seq (fgReport sl 0 th Reg.SAF_FG_B.TRIP_OV) (slotSafe sl caOverVoltage)
    else .skip

/-- FG_OV_TRIP (R513): VSNS of `mv` mV above the OV threshold for `us`, with the pin of the slot that carries the pack closed. -/
def execFgOvTrip (sl mv us : Nat) : State → Host.Outcome State Fault Refusal :=
  latching (.fgOv sl mv us) (fgOvTrip sl mv us)

/-- What FG_OC_TRIP does, once it is taken. -/
def fgOcTrip (sl ma us : Nat) : Prog := .read fun s =>
    let th := 100 * s.rd Reg.SAF_FG_A.OC_TH sl
    if s.slotsLive ∧ ¬ s.fgMasked sl 1 ∧ th < ma ∧ us ≥ 8 then .seq (fgReport sl 1 th Reg.SAF_FG_B.TRIP_OC) (slotSafe sl caOverCurrent) else .skip

/-- FG_OC_TRIP (R513): a forward shunt current of `ma` mA above the OC threshold for `us`. -/
def execFgOcTrip (sl ma us : Nat) : State → Host.Outcome State Fault Refusal :=
  latching (.fgOc sl ma us) (fgOcTrip sl ma us)

/-- What FG_RV_TRIP does, once it is taken. -/
def fgRvTrip (sl ma us : Nat) : Prog := .read fun s =>
    let th := 100 * s.rd Reg.SAF_FG_B.RV_TH sl
    if s.slotsLive ∧ ¬ s.fgMasked sl 2 ∧ th < ma ∧ us ≥ 16 then .seq (fgReport sl 2 th Reg.SAF_FG_B.TRIP_RV) (slotSafe sl caReverse) else .skip

/-- FG_RV_TRIP (R513): a reverse shunt current of `ma` mA above the RV threshold for `us`. -/
def execFgRvTrip (sl ma us : Nat) : State → Host.Outcome State Fault Refusal :=
  latching (.fgRv sl ma us) (fgRvTrip sl ma us)

/-- What FG_NTC_TRIP does, once it is taken. -/
def fgNtcTrip (sl input code ms : Nat) : Prog := .read fun s =>
    let th := s.rd Reg.SAF_FG_B.NTC_CODE sl
    if s.slotsLive ∧ ¬ s.oddGanged sl ∧ ¬ s.fgMasked sl (3 + min input 1) ∧ code < th ∧ ms ≥ 500 then
      .seq (fgReport sl (3 + min input 1) (th * 2500 / 1024) Reg.SAF_FG_B.TRIP_NTC) (slotSafe sl caOverTemp)
    else .skip

/-- FG_NTC_TRIP (R513, R515): NTC pin `input` (0 NTC_A, 1 NTC_B) below NTC_CODE, in 1/1,024 of the pull-up voltage, for `ms`. -/
def execFgNtcTrip (sl input code ms : Nat) : State → Host.Outcome State Fault Refusal :=
  latching (.fgNtc sl input code ms) (fgNtcTrip sl input code ms)

end Sys2Proof.Machine
end

