-- ==== Sys2Proof/Machine/Twb.lean ====
section
/-! DEFINITION. The two-wire buses (chapter 10): transactions, timeouts, recovery, arbitration, the alert line and cancelling. The
target role is in Machine/Modes.lean, beside the wake that it may bring. -/

namespace Sys2Proof.Machine

/-- The first of the values from `v` on that has not been sent as a challenge. -/
def unusedChal (used : List Nat) (v : Nat) : Nat :=
  ((List.range (used.length + 1)).map fun i => (v + i) % 2 ^ 128).find? (fun c => !used.contains c) |>.getD v

/-- The challenge of a PACK_AUTH transaction (R426): a free value of 16 bytes from the random source, none that has been sent before. -/
def freshChal (k : List Nat → Prog) : Prog := withFree fun v => .read fun s =>
  let c := unusedChal s.chals (v % 2 ^ 128)
  .seq (updChals (c :: ·)) (k (leBytes 16 c))

/-- A transaction goes onto the wire (R403, R418). -/
def jobRuns (b : Nat) (j : TwbJob) : Prog := seqs [
  updTwb b fun x => { x with run := some j, cancel := false },
  setR Reg.TWB_STATUS.BUSY 1 b, setR Reg.TWB_STATUS.USER (if j.what = 0 then 2 else 1) b]

/-- TWB_TRANSACTION_START (R403, R417, R418, R434): on a free bus the next transaction starts, the agent's own first. -/
def execTwbTransactionStart (b : Nat) : State → Host.Outcome State Fault Refusal :=
  ends (.read fun s =>
    let x := s.bus b
    let take := fun (j : TwbJob) (drop : Prog) =>
      if !s.busServes b j then .skip
      else if s.flag Reg.TWB_STATUS.BUS_DEAD b then .seq drop (jobFails b j stTwbBusDead)
      else if j.what = 0xA1 then .seq drop (freshChal fun c =>
        .seq (updSlots b fun y => { y with chal := c }) (jobRuns b { packAuthJob c with arb := j.arb, retried := j.retried }))
      else .seq drop (jobRuns b j)
    if x.run.isSome || (s.flag Reg.TWB_STATUS.BUSY b && !s.flag Reg.TWB_STATUS.BUS_DEAD b) then .skip
    else match x.agent, x.queue with
      | j :: t, _ => take j (updTwb b fun x => { x with agent := t })
      | [], j :: t => take j (.seq (updTwb b fun x => { x with queue := t }) (hostqUpdate b))
      | [], [] => .skip)

/-- A PEC mismatch, of a byte received or of one sent (R437, R438). -/
def pecCounted (b : Nat) : Prog := .seq (incSat Reg.TWB_CNT.PEC_ERRS b) (setR Reg.TWB_STATUS.PEC_ERR 1 b)

/-- NACKs are counted (R438). -/
def countNack (b status : Nat) : Prog :=
  if status = stTwbNackAddr ∨ status = stTwbNackData then incSat Reg.TWB_CNT.NACKS b
  else if status = stTwbPec then pecCounted b
  else .skip

/-- PACK_RECORD has been read (R427 step 2): FORMAT and limits, then the owner's key, then PACK_AUTH. -/
def recordRead (sl : Nat) (r : List Nat) : Prog := .read fun s =>
  let fail := fun n => updSlots sl fun x => { x with crFail := some n }
  if s.slSt sl ≠ slIdentifying then .skip
  else if byteAt r 0 ≠ 1 ∨ ¬ s.packFits sl (recordPack r) then fail 2
  else match s.packKey (s.ownerOrPf sl) (byteAt r 3) with
    | none => fail 5
    | some k => .seq (updSlots sl fun x => { x with record := r, authKey := k }) (agentQueue sl (packAuthJob []))

/-- The response to PACK_AUTH has arrived (R427 step 4): it is judged by the key with which the exchange began (R389). -/
def authRead (sl : Nat) (resp : List Nat) : Prog := .read fun s =>
  let x := s.slot sl
  if s.slSt sl ≠ slIdentifying then .skip
  else if resp = authResponse x.authKey x.chal x.record then updSlots sl fun x => { x with pack := some (recordPack x.record) }
  else updSlots sl fun x => { x with crFail := some 3 }

/-- The serial of a poll has been read (R428). -/
def serialRead (sl : Nat) (r : List Nat) : Prog := .read fun s =>
  let known := s.rd Reg.SLT_PACK_ID_HI.ID_HI sl * 2 ^ 32 + s.rd Reg.SLT_PACK_ID_LO.ID_LO sl
  if !s.seated sl then .skip
  else if leAt r 0 8 = known then updSlots sl fun x => { x with pollMisses := 0, silent := false }
  else identityLoss sl

/-- The house-battery temperature has been read (R408): bits 15:4 in 1/16 °C, to 0.1 °C. -/
def sensorRead (w : Nat) : Prog := .read fun s =>
  .seq (setR Reg.SRC_HB_STATUS.TEMP (toField Reg.SRC_HB_STATUS.TEMP.w (divRound (10 * ofField 12 (w / 16 % 4096)) 16)))
    (updHouse fun h => { h with tempAt := s.time })

/-- The data of one of the agent's transactions arrives. -/
def agentRead (b : Nat) (j : TwbJob) (d : List Nat) : Prog :=
  if j.what = 0xA0 then (if d.length = 32 then recordRead b d else agentFailed b j)
  else if j.what = 0xA1 then (if d.length = 16 then authRead b d else agentFailed b j)
  else if j.what = 0xA2 then (if d.length = 8 then serialRead b d else agentFailed b j)
  else if j.what = 1 then sensorRead (leNat d)
  else raisePf evTwbAlert (busSrc b) (dat 16 1 b + dat 17 1 (byteAt d 0))

/-- The result of a transaction that has ended as `e` says (R407, R422, R423, R432); `cancelled` where it had been cancelled. -/
def jobResult (b : Nat) (j : TwbJob) (e : TwbEnd) (cancelled : Bool) : Prog :=
  let st := twbStatus j.par e
  let d := twbData j.par e
  if cancelled && !e.whole then
    (if j.what = 0 then hostDone b j (if e.acked then stCancelledPartial else stTwbCancelled) 0 (if e.acked then twbPassed j.par e else 0) else .skip)
  else if cancelled && !e.acked then dropWaiting b j
  else if st ≠ stOk then jobFails b j st
  else if j.what ≠ 0 then agentRead b j d
  else seqs [
    (match j.ctl with
     | some c => if twbReads j.par && d != [] then emit (.hostWrite c.fn j.par.rbuf d) else .skip
     | none => .skip),
    hostDone b j stOk ((if twbReads j.par then d.length else 0) + 256 * j.par.wcount)]

/-- TWB_TRANSACTION_END (R407, R422, R423, R432): the running transaction has ended on the wire as `e` says. While a slot's bus agent pair
does not run, the result waits for it (R30, R434). -/
def execTwbTransactionEnd (b : Nat) (e : TwbEnd) : State → Host.Outcome State Fault Refusal :=
  ends (.read fun s =>
    match (s.bus b).run with
    | none => .skip
    | some j =>
      let cut := (s.bus b).cancel
      seqs [
        runOver b, countNack b (twbStatus j.par e), if pecRefused j.par e then pecCounted b else .skip,
        if e.whole && ([stOk, stTwbPec, stTwbCount] : List Nat).contains (twbStatus j.par e) then emit (.twbSent b (sentBytes j.par)) else .skip,
        if b < 64 ∧ 2 ≤ s.rd Reg.ENG_TASK.STATE (agentTask b) then updTwb b fun x => { x with held := x.held ++ [(j, e, cut)] }
        else jobResult b j e cut,
        if j.what = 0x0C then updTwb b fun x => { x with araAt := s.time } else .skip])

/-- A slot's bus agent pair runs again: it takes the results that have waited (R434). -/
def busHeldTake (b : Nat) : Prog := .read fun s =>
  .seq (updTwb b fun x => { x with held := [] }) (each (s.bus b).held fun h => jobResult b h.1 h.2.1 h.2.2)

/-- IDENT_BUS_RETRY (R427): 10 ms after a NACK, a PEC error or a timeout the transaction is repeated, with a new CHAL. -/
def execIdentBusRetry (sl : Nat) : State → Host.Outcome State Fault Refusal :=
  ends (.read fun s =>
    let x := s.slot sl
    match x.busRetryAt with
    | some t =>
      if s.slSt sl = slIdentifying ∧ x.method = 1 ∧ s.time ≥ t then
        .seq (updSlots sl fun x => { x with busRetryAt := none })
          (agentQueue sl (if x.record = [] then packRecordJob else packAuthJob []))
      else .skip
    | none => .skip)

/-- TWB_SCL_TIMEOUT (R415): SCL low without a break for `ms`. The lines are released and the transaction completes. -/
def execTwbSclTimeout (b ms : Nat) : State → Host.Outcome State Fault Refusal :=
  ends (.read fun s =>
    if ms < s.rd Reg.TWB_CFG.TMO_SCL b + 1 then .skip
    else seqs [
      setR Reg.TWB_STATUS.SCL_TMO 1 b, incSat Reg.TWB_CNT.TIMEOUTS b,
      raise { typ := evTwbTimeout, src := busSrc b, data := dat 16 1 b } (s.busFns b),
      (match (s.bus b).run with
       | some j => .seq (runOver b) (if (s.bus b).cancel && j.what != 0 then .skip else jobFails b j stTwbSclTmo)
       | none => when (fun t => t.rd Reg.TWB_STATUS.USER b == 3) (runOver b))])

/-- TWB_SDA_TIMEOUT (R415, R416): SDA low with SCL high for `ms`, with no transaction of the device's own. A retried
transaction that meets it again completes with TWB_SDA_STUCK. -/
def execTwbSdaTimeout (b ms : Nat) (pulses : Option Nat) : State → Host.Outcome State Fault Refusal :=
  ends (.read fun s =>
    let x := s.bus b
    if ms < s.rd Reg.TWB_CFG.TMO_SDA b + 1 ∨ x.run.isSome ∨ s.rd Reg.TWB_STATUS.USER b = 3 then .skip
    else seqs [
      setR Reg.TWB_STATUS.SDA_TMO 1 b, incSat Reg.TWB_CNT.TIMEOUTS b,
      (match x.agent, x.queue with
       | j :: t, _ => if j.retried then .seq (updTwb b fun x => { x with agent := t }) (jobFails b j stTwbSdaStuck) else .skip
       | [], j :: t => if j.retried then seqs [updTwb b fun x => { x with queue := t }, hostqUpdate b, jobFails b j stTwbSdaStuck] else .skip
       | [], [] => .skip),
      recoverSda b pulses])

/-- TWB_ARB_LOSS (R419, R420, R423): arbitration is lost; `own` where the byte turns out to name the device's target address. -/
def execTwbArbLoss (b : Nat) (own : Bool) : State → Host.Outcome State Fault Refusal :=
  ends (.read fun s =>
    match (s.bus b).run with
    | none => .skip
    | some j =>
      let again := fun (j : TwbJob) =>
        if j.what = 0 then .seq (updTwb b fun x => { x with queue := j :: x.queue }) (hostqUpdate b)
        else updTwb b fun x => { x with agent := j :: x.agent }
      seqs [
        incSat Reg.TWB_CNT.ARB_LOSSES b, setR Reg.TWB_STATUS.ARB_LOST 1 b,
        updTwb b fun x => { x with run := none, cancel := false },
        setR Reg.TWB_STATUS.BUSY 1 b, setR Reg.TWB_STATUS.USER 0 b,
        if (s.bus b).cancel then dropWaiting b j
        else if own && decide (b ≥ 64) && s.flag Reg.TWB_TGT.EN (b - 64) then .seq (setR Reg.TWB_STATUS.USER 3 b) (again j)
        else if j.arb < s.rd Reg.TWB_CFG.ARB_RETRY b then again { j with arb := j.arb + 1 }
        else jobFails b j stTwbArbLost])

/-- TWB_SLEEP (R414): a system bus idle for 1 ms with nothing queued stops its island clock. -/
def execTwbSleep (b : Nat) : State → Host.Outcome State Fault Refusal :=
  ends (.read fun s =>
    let x := s.bus b
    if 64 ≤ b ∧ s.flag Reg.TWB_CFG.SLEEP_EN b ∧ ¬ s.flag Reg.TWB_STATUS.BUSY b ∧ x.run = none ∧ x.agent = [] ∧ x.queue = [] ∧
        s.time ≥ x.idleAt + 1000 then updTwb b fun x => { x with asleep := true }
    else .skip)

/-- `TWB_STATUS.ALERT` shows the line: low while another device or the device itself pulls it (R430). -/
def alertShow (b : Nat) : Prog := updR Reg.TWB_STATUS.ALERT (fun s => bit ((s.bus b).alertIn || (decide (64 ≤ b) && s.flag Reg.TWB_TGT.ALERT_REQ (b - 64)))) b

/-- TWB_ALERT_IN (R430): another device pulls ALERT low, or lets it go. -/
def execTwbAlertIn (b : Nat) (low : Bool) : State → Host.Outcome State Fault Refusal :=
  ends (.read fun s =>
    if b < 64 then .skip
    else seqs [
      updTwb b fun x => { x with alertIn := low }, alertShow b,
      if low && !(s.bus b).alertIn && s.flag Reg.TWB_CFG.ARA_AUTO b then
        .seq (updTwb b fun x => { x with araAt := s.time }) (agentQueue b araJob) else .skip])

/-- TWB_ALERT_REREAD (R430): 100 ms later, with ALERT still low, the alert response address is read again. -/
def execTwbAlertReread (b : Nat) : State → Host.Outcome State Fault Refusal :=
  ends (.read fun s =>
    let x := s.bus b
    if 64 ≤ b ∧ x.alertIn ∧ s.flag Reg.TWB_CFG.ARA_AUTO b ∧ s.time ≥ x.araAt + 100000 ∧ x.agent = [] ∧ x.run = none then
      .seq (updTwb b fun x => { x with araAt := s.time }) (agentQueue b araJob)
    else .skip)

/-- ALERT_REQ (R430): a write of `TWB_TGT.ALERT_REQ` on a system bus drives ALERT, or lets it go. -/
def execAlertReq (b : Nat) (v : Bool) : State → Host.Outcome State Fault Refusal :=
  if b < 64 then endsAlways .skip
  else pfWrites Reg.TWB_TGT.ALERT_REQ (b - 64) 0 (fun _ => 0) (.seq (setR Reg.TWB_TGT.ALERT_REQ (bit v) (b - 64)) (alertShow b))

/-- CANCEL (R421): a write of 1 to `TWB_CTRL.CANCEL` cancels every host transfer on the bus. -/
def execCancel (b : Nat) : State → Host.Outcome State Fault Refusal :=
  pfWrites Reg.TWB_CTRL.CANCEL b 0 (fun _ => 0) (busCancel b fun j => j.what == 0)

/-- RECOVER (R417): a write of 1 to `TWB_CTRL.RECOVER` clears BUS_DEAD and runs R416; SDA is seen high after `pulses`. -/
def execRecover (b : Nat) (pulses : Option Nat) : State → Host.Outcome State Fault Refusal :=
  pfWrites Reg.TWB_CTRL.RECOVER b 0 (fun _ => 0) (.seq (setR Reg.TWB_STATUS.BUS_DEAD 0 b) (recoverSda b pulses))

/-- TWB_XFER_TIMEOUT (R421): a TIMEOUT has expired, counted from acceptance. -/
def execTwbXferTimeout (b : Nat) : State → Host.Outcome State Fault Refusal :=
  ends (.read fun s => busCancel b fun j => match j.deadline with | some t => decide (t ≤ s.time) | none => false)

/-- TWB_START_SEEN (R414, R418): another controller's START, or its STOP, marks a bus busy or free; a foreign address leaves a
sleeping cell asleep. -/
def execTwbStartSeen (b : Nat) (stop : Bool) : State → Host.Outcome State Fault Refusal :=
  ends (.read fun s =>
    if (s.bus b).run.isSome then .skip
    else if stop then runOver b
    else setR Reg.TWB_STATUS.BUSY 1 b)

end Sys2Proof.Machine
end

