-- ==== Sys2Proof/Machine/HostOps.lean ====
section
/-! DEFINITION. The shared operations of the host interface and the tenants: holds (R227, R228, R365 to R369), the watchdogs
(R390 to R398), ring errors (R339), rings and doorbell pages (R338, R373, R374), and the poll budget (R347). -/

namespace Sys2Proof.Machine

/-- Every function: the VFs, then the PF (R375). -/
def allFns : List Nat := (List.range 1024) ++ [pfFn]

/-- A function and the PF, each once. -/
def fnAndPf (fn : Nat) : List Nat := if fn = pfFn then [pfFn] else [fn, pfFn]

/-- The slots a function owns. -/
def State.ownedBy (s : State) (fn : Nat) : List Nat := (List.range 64).filter fun sl => s.ownerOf sl == some fn

/-- The host interface is powered and runs, and the mode processes rings (R398, R537, R555, R558). -/
def State.hifOn (s : State) : Bool := s.mode != mShip && s.mode != mStart && s.mode != mHalt && s.mode != mService && hasBit (s.rd Reg.PWR_DOM.ON) 18 && !s.hifDead

/-- Registers of a function can be reached: the PF, or a VF while VF Enable is set (R330, R367). -/
def State.fnUp (s : State) (fn : Nat) : Bool := fn == pfFn || (s.host.vfEnable && decide (fn < 1024))

/-! The identity in PCI configuration space (R9). -/

/-- What a function's configuration header shows: Vendor ID, Device ID, Class Code, Revision ID and the Subsystem ids. -/
structure PciIds where
  vendor : Nat
  device : Nat
  classCode : Nat
  revision : Nat
  subsystem : Nat × Nat
  deriving DecidableEq, Repr

/-- The ids of the PF and of a VF (R9): the Subsystem ids are those of the active image's header, where it gives any. -/
def State.pciIds (s : State) (fn : Nat) : PciIds := {
  vendor := 0x1E77, device := if fn = pfFn then 0x6410 else 0x6411, classCode := 0x118000,
  revision := s.rd Reg.GLB_ID.TRELLIS_STEP, subsystem := s.eng.ids.getD (0x1E77, 0x6410) }

/-- What the endpoint offers (R330, R331): SR-IOV, the BARs, MSI-X, the payload sizes and the Device Serial Number. -/
structure PciCaps where
  totalVfs : Nat
  initialVfs : Nat
  firstVfOffset : Nat
  vfStride : Nat
  pageSize : Nat
  pfBar : Nat
  vfBar : Nat
  vectors : Nat
  maxPayload : Nat
  maxReadRequest : Nat
  serial : Nat
  deriving DecidableEq, Repr

def State.pciCaps (s : State) : PciCaps := {
  totalVfs := 1024, initialVfs := 1024, firstVfOffset := 1, vfStride := 1, pageSize := 4096, pfBar := 0x100000, vfBar := 0x4000,
  vectors := 16, maxPayload := 512, maxReadRequest := 512,
  serial := s.rd Reg.GLB_UID_HI.UID_HI * 2 ^ 32 + s.rd Reg.GLB_UID_LO.UID_LO }

/-- The routing ID of a function relative to the PF (R331), and whether it can be addressed: above 7 only with ARI. -/
def routingId (fn : Nat) : Nat := if fn = pfFn then 0 else 1 + fn
def addressable (ari : Bool) (fn : Nat) : Bool := ari || decide (routingId fn < 8)

/-! Holds (R227, R228). -/

/-- What a function submitted and the device had not accepted is not executed (R228): each CMD ring goes on at the producer index last read. A
descriptor that the host had submitted, but whose doorbell no poll had yet read, is to the device one submitted after the hold. -/
def unacceptedDrop (fn : Nat) : Prog := .read fun s =>
  each ((List.range 16).filter (s.ringIs 0 fn)) fun r => setR Reg.RING_DEV_IDX.DEV_IDX (s.rd Reg.RING_HOST_IDX.HOST_IDX fn r) fn r

/-- A function is held from now (R227): with its cause, as in HOLD_ON. -/
def holdFn (tell : Bool) (fn cause : Nat) : Prog := .read fun s =>
  .seq (.seq (setR Reg.FN_STATUS.LIVE 0 fn) (updFns fn fun x => { x with holdCause := cause }))
    (if s.flag Reg.FN_STATUS.HELD fn then .skip
     else seqs [
      setR Reg.FN_STATUS.HELD 1 fn, unacceptedDrop fn,
      setR Reg.ALM_STATUS.HELD_FN (s.rd Reg.ALM_STATUS.HELD_FN + 1),
      each (s.ownedBy fn) fun sl => .seq (setR Reg.ALM_SLOT_A.HELD 1 sl)
        (updSlots sl fun x => { x with holdRef := some (s.refI (s.slotLead sl)).natAbs }),
      holderHeld fn,
      if tell then raisePf evHoldOn (srcFn fn) (dat 16 1 cause) else .skip])

/-- The hold of a function ends (R228). -/
def holdEnd (fn : Nat) : Prog := .read fun s =>
  if s.flag Reg.FN_STATUS.HELD fn then seqs [
    setR Reg.FN_STATUS.HELD 0 fn, setR Reg.ALM_STATUS.HELD_FN (s.rd Reg.ALM_STATUS.HELD_FN - 1),
    each (s.ownedBy fn) fun sl => .seq (setR Reg.ALM_SLOT_A.HELD 0 sl) (updSlots sl fun x => { x with holdRef := none }),
    raise { typ := evHoldOff, src := srcFn fn } (fnAndPf fn)]
  else .skip

/-! Watchdogs (R390 to R397). -/

/-- K_f (R390). -/
def fnKey (master : List Nat) (fn : Nat) : List Nat := hmac256 master ([0x57, 0x44, 0x47] ++ leBytes 2 fn)

/-- The correct token of a question (R392). -/
def wdgToken (master : List Nat) (fn question : Nat) : Nat :=
  let d := hmac256 (fnKey master fn) (leBytes 4 question)
  byteAt d 28 * 2 ^ 24 + byteAt d 29 * 2 ^ 16 + byteAt d 30 * 2 ^ 8 + byteAt d 31

/-- A question is posed at `t` (R391). The value comes from the device's random source: a free value, never the previous one. -/
def wdgAsk (fn t : Nat) : Prog := withFree fun v => .read fun s =>
  let x := s.fnr fn
  let q := if v % 2 ^ 32 = x.question ∧ x.posed then (v + 1) % 2 ^ 32 else v % 2 ^ 32
  let per := s.rd Reg.TEN_WDG_CFG.PERIOD fn
  seqs [
    setR Reg.FN_WDG.QSEQ (if x.posed then (s.rd Reg.FN_WDG.QSEQ fn + 1) % 65536 else 0) fn,
    when (fun _ => s.rd Reg.FN_WDG.STATE fn == 0) (setR Reg.FN_WDG.STATE (if s.flag Reg.FN_STATUS.LIVE fn then 2 else 1) fn),
    updFns fn fun x => { x with
      armed := true, posed := true, judged := false, prevQuestion := x.question, question := q, askedAt := t,
      nextAt := t + 10000 * per, askPeriod := per, askOpen := s.rd Reg.TEN_WDG_CFG.OPEN fn, askKey := s.keep.master.getD [] },
    writeStatus fn]

/-- A function is armed while its doorbell page is enabled and a master key exists (R391), and the host interface runs (R398). -/
def armUpdate (fn : Nat) : Prog := .read fun s =>
  let should := s.hifOn && s.flag Reg.FN_DB_LO.EN fn && s.keep.master.isSome
  if should = (s.fnr fn).armed then .skip
  else if should then wdgAsk fn s.time
  else .seq (updFns fn fun x => { x with armed := false, judged := true }) (setR Reg.FN_WDG.STATE 0 fn)

/-- A function is live (R395): its hold ends. -/
def goLive (fn : Nat) (tell : Bool) : Prog := .read fun s => seqs [
  setR Reg.FN_STATUS.LIVE 1 fn,
  when (fun _ => (s.fnr fn).armed) (setR Reg.FN_WDG.STATE 2 fn),
  if tell then raise { typ := evFnLive, src := srcFn fn, data := dat 16 2 (s.rd Reg.FN_WDG.QSEQ fn) } (fnAndPf fn) else .skip,
  holdEnd fn, writeStatus fn]

/-- Until a master key exists, the PF counts as live (R395), while the host interface runs (R398). -/
def pfCounts : Prog := .read fun s =>
  if s.hifOn && s.keep.master.isNone && s.flag Reg.FN_DB_LO.EN pfFn && !s.flag Reg.FN_STATUS.LIVE pfFn then goLive pfFn false else .skip

/-- The host side follows a new mode (R345, R395, R398): watchdogs are armed where the host interface runs, and status lines show MODE. -/
def hostFollow : Prog := .seq pfCounts (each allFns fun f => .seq (armUpdate f) (writeStatus f))

/-- A good outcome (R393, R395). -/
def wdgGood (fn : Nat) : Prog := .read fun s =>
  let g := min (s.rd Reg.FN_WDG.GOOD fn + 1) 2
  seqs [setR Reg.FN_WDG.MISSES 0 fn, setR Reg.FN_WDG.GOOD g fn, updFns fn fun x => { x with judged := true },
    if g ≥ 2 ∧ ¬ s.flag Reg.FN_STATUS.LIVE fn then goLive fn true else writeStatus fn]

/-- A function is declared lost at its second miss in a row (R393). -/
def fnLost (fn : Nat) : Prog := .read fun s => seqs [
  setR Reg.FN_WDG.STATE 3 fn, holdFn true fn 0,
  raisePf evFnLost (srcFn fn) (dat 16 2 (s.rd Reg.FN_WDG.QSEQ fn)),
  setR Reg.GLB_RESET_CAUSE.FN_WDG 1, setR Reg.GLB_RESET_INFO.WDG_FN fn,
  if fn = pfFn then .skip else incSat Reg.TEN_CNT.LOST_CNT fn]

/-- A reset that covers a function is due at the present microsecond: device time stands still while commands wait. -/
def State.resetDue (s : State) (fn : Nat) : Bool := s.pending.any fun c =>
  match c with
  | .perst => true
  | .flr vf => vf == fn
  | .pfFlr => true
  | .vfEnableWrite en => !en && fn != pfFn
  | _ => false

/-- A miss of the question in force, cause 0 late, 1 wrong token, 2 early, 3 wrong QSEQ (R392, R393, R399). -/
def wdgMiss (fn cause : Nat) : Prog := .read fun s =>
  let m := s.rd Reg.FN_WDG.MISSES fn
  seqs [
    setR Reg.FN_WDG.MISSES (min (m + 1) 2) fn, setR Reg.FN_WDG.GOOD 0 fn, updFns fn fun x => { x with judged := true },
    if cause = 0 ∨ fn = pfFn then .skip else incSat Reg.TEN_CNT.WRONG fn,
    raise { typ := evWdgMiss, src := srcFn fn,
            data := dat 16 2 (s.rd Reg.FN_WDG.QSEQ fn) + dat 18 1 cause + dat 19 1 (min (m + 1) 2) } (fnAndPf fn),
    -- a reset at the same microsecond takes the hold's place (R397)
    if m = 1 ∧ ¬ s.resetDue fn then fnLost fn else .skip,
    writeStatus fn]

/-- An answer is judged (R392). -/
def wdgAnswer (fn token qseq : Nat) : Prog := .read fun s =>
  let x := s.fnr fn
  let k := s.rd Reg.FN_WDG.QSEQ fn
  if !x.armed || x.judged || decide (s.time ≥ x.nextAt) then .skip
  else if qseq = k then
    (if s.time < x.askedAt + 10000 * x.askPeriod * x.askOpen / 16 then wdgMiss fn 2
     else if token = wdgToken x.askKey fn x.question then wdgGood fn else wdgMiss fn 1)
  else if (qseq + 1) % 65536 = k then .skip
  else wdgMiss fn 3

/-! Resets of the host side (R365 to R369, R286). -/

/-- What a reset leaves of a function's hidden state: the tag history, its quota standing and its hold (R352, R365). -/
def FnRec.afterReset (x : FnRec) : FnRec :=
  { history := x.history, quotaSet := x.quotaSet, holdCause := x.holdCause, overSince := x.overSince, overAt := x.overAt,
    bucketUsed := x.bucketUsed, bucketAt := x.bucketAt }

/-- Work of the functions `p` that a reset finds under way ends (R369). -/
def discardWork (p : Nat → Bool) : Prog := .read fun s => seqs [
  updHost fun h => { h with
    runs := h.runs.filter (fun d => !p d.ctl.fn), fences := h.fences.filter (fun f => !p f.ctl.fn),
    tokens := h.tokens.filter fun t => !p t.1.1 },
  each (List.range 66) fun b => busCancel b fun j => match j.ctl with | some c => p c.fn | none => false,
  measDiscard p,
  .act (.portsMap fun _ x => { x with actions := x.actions.filter fun a => !p a.2.fn }),
  if p pfFn ∧ s.rd Reg.ENG_UPG.STATE = 1 then
    seqs [setR Reg.ENG_UPG.STATE 0, setR Reg.ENG_STAGE.PROGRESS 0, updEng fun e => { e with stage := none }]
    else .skip]

/-- The class F cells of the functions `p`: by function, or for the warning levels by the slot's owner (R5, R365). -/
def State.fCell (s : State) (p : Nat → Bool) (key : Nat) : Bool :=
  let i := (Nat.unpair (Nat.unpair key).2).1
  match fldOf key with
  | some f => if f.space = .fn then p i else p (s.ownerOrPf i)
  | none => false

/-- The class F fields and the rings of the functions `p` clear (R365, R366). -/
def clearFns (p : Nat → Bool) : Prog := .read fun s => seqs [
  .act (.clear [.f] fun key => !s.fCell p key),
  .act (.fnsMap fun k x => if p k then x.afterReset else x),
  .act (.ringsMap fun k x => if p (Nat.unpair k).1 then {} else x)]

/-- A reset of the host side of the functions `fns` with a HOLD_ON cause (R365 to R367). -/
def hostReset (fns : List Nat) (cause : Nat) (tell : Bool) : Prog :=
  let p := fun f => fns.contains f
  seqs [discardWork p, clearFns p, each fns fun f => holdFn tell f cause]

/-- The cells that lie outside the scope of PERST, for class X (R5, R365): those outside D18, and the state of the functions, which
follows their holds and owners. -/
def perstKeeps (key : Nat) : Bool :=
  match fldOf key with
  | some f => domainAt f.base != 18 || f.base == Reg.FN_STATUS.HELD.base || f.base == Reg.TEN_USE.SLOTS.base
  | none => true

/-- PERST#, a hot reset, a link down, or the loss of D18 (R5, R365, R555). -/
def perst : Prog := seqs [
  setR Reg.GLB_RESET_CAUSE.PERST 1,
  .act (.clear [.x] perstKeeps),
  updHost fun h => { h with vfEnable := false },
  updEng fun e => { e with ids := e.active.ids },
  hostReset allFns 2 true]

/-! The poll budget (R346, R347). -/

/-- A quarter of the data rate of the link as trained, bytes/s. -/
def State.linkQuarter (s : State) : Nat :=
  let lane := match s.rd Reg.HIF_LINK.SPEED with | 1 => 250000000 | 2 => 500000000 | 3 => 984615384 | _ => 0
  lane * s.rd Reg.HIF_LINK.WIDTH / 4

/-- The effective cap C, bytes/s (R347). -/
def State.pollCap (s : State) : Nat := min (1000000 * s.rd Reg.HIF_CFG.POLL_CAP) s.linkQuarter

/-- The functions polled and, of them, those that are active (R346). -/
def State.polled (s : State) : List Nat := allFns.filter fun f => s.flag Reg.FN_DB_LO.EN f
def State.isActive (s : State) (fn : Nat) : Bool := decide (s.time < (s.fnr fn).activeUntil)

/-- The interval of active functions, that of idle ones, µs, and the poll traffic, bytes/s, with `n` functions polled of which `act` are
active (R347): within the cap idle functions keep 1,000 µs; where they alone would exceed it, or leave nothing, all share one interval. -/
def State.pollUse (s : State) (n act : Nat) : Nat × Nat × Nat :=
  let cap := s.pollCap
  let idle := n - act
  let rest := cap - idle * 64000
  let pmin := s.rd Reg.HIF_CFG.POLL_MIN
  if cap = 0 then (pmin, 1000, 0)
  else if cap < idle * 64000 ∨ (act ≠ 0 ∧ rest = 0) then
    let all := (n * 64000000 + cap - 1) / cap
    (all, all, n * 64000000 / all)
  else if act = 0 then (pmin, 1000, idle * 64000)
  else
    let int := max pmin ((act * 64000000 + rest - 1) / rest)
    (int, 1000, idle * 64000 + act * 64000000 / int)

/-- The polling interval of a function, µs (R346, R347). -/
def State.pollInterval (s : State) (fn : Nat) : Nat :=
  let on := s.polled
  let u := s.pollUse on.length (on.filter s.isActive).length
  if s.isActive fn then u.1 else u.2.1

/-- `HIF_POLL` as the cap makes it (R347, R371). -/
def pollReport : Prog := .read fun s =>
  let on := s.polled
  let act := (on.filter s.isActive).length
  let u := s.pollUse on.length act
  seqs [setR Reg.HIF_POLL.POLL_BW (min (u.2.2 / 1000000) 255), setR Reg.HIF_POLL.ACTIVE_FN act, setR Reg.HIF_POLL.INT_ACT (min u.1 8191)]

/-! Rings and doorbell pages. -/

/-- The completion entries that a CPL ring still has free (R340). -/
def State.cplFree (s : State) (fn r : Nat) : Nat := s.ringSize fn r - s.ringHeld fn r - (s.ringr (ringKey fn r)).reserved

/-- The descriptors that a ring's producer index announces beyond its consumer index (R336, R340). -/
def State.descAvail (s : State) (fn ring : Nat) : Nat :=
  (s.rd Reg.RING_HOST_IDX.HOST_IDX fn ring + 2 ^ 32 - s.rd Reg.RING_DEV_IDX.DEV_IDX fn ring) % 2 ^ 32

/-- A ring error (R339, R341, R371): the ring stops, with HIF_RING_ERR to the function and the PF. -/
def ringError (fn r code : Nat) : Prog := seqs [
  setR Reg.RING_CTRL.EN 0 fn r, setR Reg.RING_ERRST.ERR_CODE code fn r,
  if code = 2 then incSat Reg.HIF_CNT.DMA_ERRS else incSat Reg.HIF_CNT.RING_ERRS,
  raise { typ := evHifRingErr, src := srcFn fn, data := dat 16 1 r + dat 17 1 code } (fnAndPf fn)]

/-- The events that the PF is owed from a start go out once its rings run: KEEP_ERR for decayed locations (R573), MCODE_FALLBACK and
MCODE_ABORT (R491, R499). -/
def pfOwed : Prog := .read fun s =>
  if (s.evtRing pfFn 4).isNone then .skip
  else seqs [
    each s.keep.owed fun k => raisePf evKeepErr srcDevice (dat 18 2 k),
    updKeep fun q => { q with owed := [] },
    (match s.eng.owedFallback with
     | some (bank, err) => raisePf evMcodeFallback srcDevice (dat 16 1 bank + dat 17 1 err)
     | none => .skip),
    if s.eng.owedAbort then raisePf evMcodeAbort srcDevice (dat 16 1 4 + dat 17 1 31) else .skip,
    updEng fun e => { e with owedFallback := none, owedAbort := false }]

/-- The outcome of a function's write to one of its own registers in either BAR0 (R607, R613): the PF's is recorded where it is
ignored, a VF's is not (R618). -/
def fnWrites (fn a : Nat) (bad : State → Nat) (p : Prog) : State → Host.Outcome State Fault Refusal := endsAlways (.read fun s =>
  if fn = pfFn then
    (if !s.barOn then .skip else if !s.blockOn a then accErr a 3 else if bad s = 0 then p else accErr a (bad s))
  else if s.stopped || !s.fnUp fn || (s.fnr fn).d3hot || !s.blockOn 0x8000 || bad s != 0 then .skip else p)

/-- Why a write of RING_CTRL is ignored (R374, R618): LOG2 out of range; TYPE, LOG2 or CPL_RING changed while EN is 1. -/
def State.ringCtrlCause (s : State) (fn r v : Nat) : Nat :=
  let lg := v / 2 ^ 24 % 32
  let held := v / 2 ^ 29 % 4 == s.rd Reg.RING_CTRL.TYPE fn r && lg == s.rd Reg.RING_CTRL.LOG2 fn r &&
    v / 2 ^ 16 % 16 == s.rd Reg.RING_CTRL.CPL_RING fn r
  if lg ≠ s.rd Reg.RING_CTRL.LOG2 fn r ∧ (lg < 4 ∨ lg > 16) then 5
  else if s.flag Reg.RING_CTRL.EN fn r && !held then 6 else 0

/-- A write of RING_CTRL that is taken (R338): enabling starts both indices at 0. -/
def ringCtrlWrite (fn r v : Nat) : Prog := .read fun s => seqs [
  setR Reg.RING_CTRL.TYPE (v / 2 ^ 29 % 4) fn r, setR Reg.RING_CTRL.LOG2 (v / 2 ^ 24 % 32) fn r,
  setR Reg.RING_CTRL.CPL_RING (v / 2 ^ 16 % 16) fn r,
  setR Reg.RING_CTRL.VEC (v / 2 ^ 20 % 16) fn r, setR Reg.RING_CTRL.CLASS_MASK (v / 2 ^ 8 % 256) fn r,
  if v / 2 ^ 31 % 2 = 1 ∧ ¬ s.flag Reg.RING_CTRL.EN fn r then seqs [
    setR Reg.RING_DEV_IDX.DEV_IDX 0 fn r, setR Reg.RING_HOST_IDX.HOST_IDX 0 fn r,
    updRings (ringKey fn r) fun x => { x with modCount := 0 }]
  else .skip,
  setR Reg.RING_CTRL.EN (v / 2 ^ 31 % 2) fn r,
  if fn = pfFn then pfOwed else .skip]

/-- Why a write of DB_LO or DB_HI is ignored (R373): a change of address while a ring of the function is enabled. -/
def State.dbAddrCause (s : State) (fn : Nat) (same : Bool) : Nat :=
  if !same && ((List.range 16).any fun r => s.flag Reg.RING_CTRL.EN fn r) then 6 else 0
def State.dbLoCause (s : State) (fn v : Nat) : Nat := s.dbAddrCause fn (v / 2 ^ 12 % 2 ^ 20 == s.rd Reg.FN_DB_LO.ADDR_LO fn)

/-- A write of DB_LO that is taken (R373). -/
def dbLoWrite (fn v : Nat) : Prog := seqs [
  setR Reg.FN_DB_LO.ADDR_LO (v / 2 ^ 12 % 2 ^ 20) fn, setR Reg.FN_DB_LO.EN (v % 2) fn,
  armUpdate fn, if fn = pfFn then pfCounts else .skip, pollReport, writeStatus fn]

end Sys2Proof.Machine
end

