-- ==== Sys2Proof/Machine/Keep.lean ====
section
/-! DEFINITION. The keep's writes (R572): KEEP_WRITE, and what each commit brings into force. -/

namespace Sys2Proof.Machine

/-- The opcode of the descriptor that causes a record (R351); a rollout's completes by `histLate`. -/
def keepOpcode : KeepEffect → Nat
  | .owner _ (some _) => 0x10
  | .owner _ none => 0x11
  | .quota _ _ => 0x60
  | .packKey _ _ _ _ _ | .master _ _ => 0x61
  | .calIcv _ _ _ _ _ _ | .calFcv _ _ _ _ => 0x33
  | .boot _ => 0x63

/-- The descriptor that caused a record completes (R572); with OK it is in the tag history even where a reset has taken its
completion (R352). -/
def keepDone (q : KeepReq) (status result : Nat) : Prog := match q.ctl with
  | some c => .seq (if status = stOk ∧ keepOpcode q.effect ≠ 0x63 then histAdd c (keepOpcode q.effect) else .skip) (finishRun c status result)
  | none => .skip

/-- A refused change of owner is forgotten (R155). -/
def keepUndo : KeepEffect → Prog
  | .owner sl fn => updSlots sl fun x => { x with pendingOwner := if x.pendingOwner = some fn then none else x.pendingOwner }
  | _ => .skip

/-- QUOTA_CHANGED goes to the tenant (R382, R399). -/
def quotaTold (fn : Nat) (p : QuotaPar) : Prog := .read fun s =>
  raise { typ := evQuotaChanged, src := srcFn fn, data := dat 16 2 p.mask + dat 20 4 (s.rd Reg.TEN_QUOTA_P.POWER fn) } [fn]

/-- KEY_CHANGED goes to the owning function (R388, R399). -/
def keyTold (fn kind keyId : Nat) (erased : Bool) : Prog :=
  raise { typ := evKeyChanged, src := srcFn fn, data := dat 16 1 kind + dat 17 1 keyId + dat 18 1 (bit erased) } [fn]

/-- What a committed record brings, beside what `applyRecord` loads from its bytes; `loc` is the record's number (R155, R283,
R382, R388, R391, R499). -/
def keepEffect (q : KeepReq) (typ id : Nat) (data : List Nat) (loc : Nat) : Prog :=
  match q.effect with
  | .owner sl fn => .seq (ownerCommit sl fn) (keepDone q stOk 0)
  | .quota fn p => seqs [applyRecord typ id data, quotaTold fn p, .read fun s => keepDone q stOk s.token]
  | .packKey slot fn keyId _ erase => seqs [
      if erase then .seq (updKeys slot fun _ => {}) (setKeyByte fn keyId 0) else applyRecord typ id data,
      keyTold fn 0 keyId erase, keepDone q stOk loc]
  | .master _ erase => seqs [
      applyRecord typ id data, keyTold pfFn 1 0 erase, keepDone q stOk loc, each allFns armUpdate, pfCounts]
  | .calIcv _ _ _ _ _ _ => .seq (applyRecord typ id data) (keepDone q stOk loc)
  | .calFcv _ _ _ _ => .seq (applyRecord typ id data) (keepDone q stOk loc)
  | .boot _ => .read fun s => seqs [
      applyRecord typ id data,
      setR Reg.ENG_GEN.ACTIVE (s.rd Reg.ENG_GEN.STAGED), setR Reg.ENG_GEN.STAGED 0,
      updEng fun e => { e with active := e.staged.getD e.active, staged := none, reloaded := [] },
      setR Reg.ENG_SCHEMA.ACT_LO (s.rd Reg.ENG_SCHEMA_STG.STG_LO), setR Reg.ENG_SCHEMA.ACT_HI (s.rd Reg.ENG_SCHEMA_STG.STG_HI),
      setR Reg.ENG_SCHEMA_STG.STG_LO 0, setR Reg.ENG_SCHEMA_STG.STG_HI 0,
      setR Reg.ENG_UPG.STATE 0, setR Reg.ENG_UPG.BED 31, setR Reg.ENG_UPG.STEP 0, setR Reg.ENG_UPG.BEDS_NEW 0,
      each (List.range 416) fun t => setR Reg.ENG_TASK.GEN 0 t,
      raisePf evMcodeDone srcDevice (dat 16 2 (s.rd Reg.ENG_GEN.STAGED)),
      keepDone q stOk (s.rd Reg.ENG_GEN.STAGED)]

/-- A record is refused (R572, R575): KEEP_ERR of kind 1 without a free location, of kind 2 while hot. Without a location the keep takes no
writes any more: the values in use stay, and coverage is lost (R35, R537). -/
def keepRefuse (q : KeepReq) (kind : Nat) : Prog := seqs [
  incSat Reg.KEEP_CNT.REFUSED, keepUndo q.effect, keepDone q stRejState 0, raisePf evKeepErr srcDevice (dat 16 1 kind),
  if kind = 1 then healthSet Reg.GLB_HEALTH.COVERAGE_LOST fun _ => 1 else .skip]

/-- The first waiting record leaves the queue. -/
def keepPop : Prog := .seq (.read fun s => updKeep fun k => { k with queue := k.queue.tail, startAt := s.time })
  (updR Reg.KEEP_CNT.QUEUED fun s => min s.keep.queue.length 0xFFFF)

/-- KEEP_WRITE (R572): the first waiting record is written; `ok` where the read-back matches. -/
def execKeepWrite (ok : Bool) : State → Host.Outcome State Fault Refusal := ends <| .read fun s =>
  match s.keep.queue with
  | [] => .skip
  | q :: _ =>
    let (typ, id, data) := s.keepRecord q.effect
    if s.keep.hot then .seq keepPop (keepRefuse q 2)
    else match s.keepFree with
      | none => .seq keepPop (keepRefuse q 1)
      | some k =>
        if !ok then seqs [keepRetire k true, keepShow, updKeep fun x => { x with startAt := s.time }, raisePf evKeepErr srcDevice (dat 16 1 0 + dat 18 2 k)]
        else seqs [
          keepStore (typ, id, data) k true, keepPop,
          keepEffect q typ id data k]

end Sys2Proof.Machine
end

