-- ==== Sys2Proof/Machine/ModeOps.lean ====
section
/-! DEFINITION. The mode logic (chapter 14, R533): mode changes and requests (R550 to R554), dusk and its reversal (R562, R563), HALT
(R533), the whole-device resets (R565 to R569) and START (R558 to R561). -/

namespace Sys2Proof.Machine

/-! Where a field stands: D0 (R578, R607) and the fields that show a pin. -/

/-- The field lies in D0: the GLB, CLK, PWR and SVC blocks (R607). -/
def Fld.inD0 (f : Fld) : Bool := decide (f.base < 0x3000) || (decide (0x6000 ≤ f.base) && decide (f.base < 0x8000))

/-- The cells that SAFE leaves (R569): those in D0, and the gauges' values (class X of their block), which go on counting. -/
def safeKeeps (key : Nat) : Bool :=
  match fldOf key with
  | some f => f.inD0 || (decide (0x50000 ≤ f.base) && decide (f.base < 0x52000) && f.keep == .x)
  | none => true

/-! Mode changes (R550, R577). -/

/-- MODE_CHANGE (R577). -/
def modeEvent (old new seq src : Nat) : Prog := raisePf evModeChange srcDevice (dat 16 1 old + dat 17 1 new + dat 18 1 seq + dat 19 1 src)

/-- A curtail cause holds (R552). -/
def State.curtailCause (s : State) : Bool := s.flag Reg.PWR_TEMP.CURT_THERM || s.flag Reg.PWR_CTRL.CURTAIL

/-- The domains of the beds in service (R555). -/
def State.bedDoms (s : State) : Nat := ((List.range 16).map fun b => if hasBit (s.rd Reg.GLB_HEALTH.BED_LOST) b then 0 else 2 ^ (b + 1)).sum

/-- Every domain on, but the beds lost (R555). -/
def State.domsOn (s : State) : Nat := 0x3FFE0001 + s.bedDoms

/-- What a mode brings with it once it is entered (R191, R456, R64, R236, R562 step 1): slots scan presence, ports present Rp, the
accessory boost follows, and the Almanac's flags; watchdogs are posed and status lines show the mode (R345, R398). -/
def modeEntered : Prog := .read fun s => seqs [
  setR Reg.ALM_STATUS.CURTAIL (bit (s.mode == mCurtail)), setR Reg.ALM_STATUS.ISLAND (bit (s.mode == mIsland)),
  accUpdate, alwaysEnable, hostFollow,
  if s.running then seqs [each (List.range 64) scanPresence, each (List.range 8) portPresent, portsLimitChanged]
  else if s.mode = mSentinel then each (List.range 64) scanPresence else .skip]

/-- A mode is entered (R550, R577, R579); `seq` is the SEQ that MODE_CHANGE carries. SERVICE is left by a release alone (R595). -/
def enterMode (m src seq : Nat) : Prog := .read fun s => if s.modeReg = mService then .skip else seqs [
  setR Reg.PWR_MODE.PREV s.modeReg, setR Reg.PWR_MODE.MODE m, setR Reg.PWR_MODE.SEQ 0, setR Reg.PWR_MODE.STEP 0,
  setR Reg.PWR_MODE.TARGET m, setR Reg.PWR_STATUS.LAST_SRC src, setR Reg.PWR_CTRL.REQ 7,
  updHouse fun h => { h with lowSince := none },
  modeEvent s.mode m seq src,
  modeEntered]

/-- A refused request (R551). -/
def refuse (m why : Nat) : Prog := .seq (setR Reg.PWR_STATUS.REFUSE why) (raisePf evModeRefused srcDevice (dat 16 1 m + dat 17 1 why))

/-- The mode that a reversal, or the end of SENTINEL, leads to (R554, R563, R564). -/
def State.modeBack (s : State) : Nat := if s.flag Reg.SRC_GUARD.ALL_LOST then mIsland else if s.curtailCause then mCurtail else mRun

/-- Every TRANSFER and AUDIT ends, and every ISLAND donor soft-stops (R562 step 2, R575). -/
def rolesEnd : Prog := each (List.range 64) fun sl => .read fun s =>
  if s.rd Reg.SLT_STATUS.ROLE sl = 1 then transferStop sl 4
  else if (s.slot sl).audStep ≠ 0 then .seq (auditEnd sl 1 false) (stopSlot sl slIdle none)
  else if s.rd Reg.SLT_STATUS.ROLE sl = 3 then stopSlot sl slIdle none
  else .skip

/-- Dusk begins (R562 steps 1 and 2), or from SENTINEL its step 4. -/
def duskStart (target src : Nat) : Prog := .read fun s => seqs [
  setR Reg.PWR_MODE.SEQ 2, setR Reg.PWR_MODE.TARGET target, setR Reg.PWR_CTRL.REQ target, setR Reg.PWR_STATUS.LAST_SRC src,
  setR Reg.PWR_MODE.STEP (if s.mode = mSentinel then 4 else 2),
  updPower fun p => { p with reverse := false, leaving := 0 },
  modeEvent s.mode target 2 src,
  if s.mode = mSentinel then .skip else .seq rolesEnd (portsWithdraw 0)]

/-- The first condition of R65 that fails, as REFUSE: 0 where none does. In START the sources and the battery are those that its steps 8
and 9 find (R561); the odd slot of a gang has no ID pin (R157). -/
def State.shipBar (s : State) : Nat :=
  let env := if s.mode = mStart then s.power.env else none
  let src := match env with
    | some e => decide (s.rd Reg.PWR_MODE.STEP ≤ 8) && e.srcs.any (·.1)
    | none => false
  let bat := match env with
    | some e => if s.rd Reg.PWR_MODE.STEP ≤ 9 then decide (e.battery < 2000) else s.flag Reg.SRC_HB_STATUS.ABSENT
    | none => s.flag Reg.SRC_HB_STATUS.ABSENT
  if src || s.anyPresent then 2
  else if (List.range 64).any fun sl => (s.slot sl).idClosed && !s.oddGanged sl then 1
  else if bat then 3 else 0

/-- A SHIP request (R551, R561, R563). -/
def requestShip (src : Nat) : Prog := .read fun s =>
  let q := s.rd Reg.PWR_MODE.SEQ
  let may := s.modeReg != mService && ((q == 0 && (s.running || s.mode == mSentinel)) || (s.mode == mStart && q == 1) ||
    (q == 2 && s.rd Reg.PWR_MODE.TARGET == mSentinel && s.mode != mShip))
  if !may then refuse mShip 4
  else if s.shipBar ≠ 0 then refuse mShip s.shipBar
  else if s.mode = mStart then .seq (updPower fun p => { p with shipPending := true }) (setR Reg.PWR_CTRL.REQ mShip)
  else if q = 2 then .seq (setR Reg.PWR_MODE.TARGET mShip) (setR Reg.PWR_CTRL.REQ mShip)
  else duskStart mShip src

/-- A SENTINEL request (R551, R563). -/
def requestSentinel (src : Nat) : Prog := .read fun s =>
  let q := s.rd Reg.PWR_MODE.SEQ
  if s.modeReg = mService then refuse mSentinel 4
  else if q = 0 ∧ s.running then duskStart mSentinel src
  else if q = 2 ∧ s.rd Reg.PWR_MODE.TARGET = mShip ∧ s.rd Reg.PWR_MODE.STEP < 4 then
    .seq (setR Reg.PWR_MODE.TARGET mSentinel) (setR Reg.PWR_CTRL.REQ mSentinel)
  else refuse mSentinel 4

/-- A RUN request (R551, R554, R563); `any` where it may also reverse a dusk toward SHIP. In RUN, CURTAIL and ISLAND it is
ignored; a SENTINEL that a thermal shutdown entered is left only once it has cooled (R575). -/
def requestRun (src : Nat) (any : Bool) : Prog := .read fun s =>
  let q := s.rd Reg.PWR_MODE.SEQ
  if s.modeReg = mService then refuse mRun 4
  else if (q = 0 ∧ s.running) ∨ q = 3 then .skip
  else if q = 2 ∧ s.rd Reg.PWR_MODE.STEP < 6 ∧ (any ∨ s.rd Reg.PWR_MODE.TARGET = mSentinel) ∧ ¬ s.flag Reg.PWR_TEMP.SHUT then
    seqs [updPower fun p => { p with reverse := true }, setR Reg.PWR_CTRL.REQ mRun, setR Reg.PWR_STATUS.LAST_SRC src]
  else if q = 0 ∧ s.mode = mSentinel ∧ ¬ s.flag Reg.PWR_TEMP.SHUT then
    (if s.power.leaving = 0 then seqs [updPower fun p => { p with leaving := 2 }, setR Reg.PWR_CTRL.REQ mRun,
      setR Reg.PWR_MODE.TARGET mRun, setR Reg.PWR_STATUS.LAST_SRC src] else .skip)
  else refuse mRun 4

/-- A mode request by its mode and source, as `PWR_STATUS.LAST_SRC` names it (R551). -/
def modeRequest (m src : Nat) : Prog :=
  if m = mShip then requestShip src else if m = mSentinel then requestSentinel src else requestRun src (decide (src ≤ 1))

/-- The place of a command in the order of R564: resets, HALT causes, a thermal shutdown, a source's loss, a freeze, the boundary that may pass the
point of no return, requests of the PF, then SERVICE_BTN. -/
def modeRank : Instr → Nat
  | .por | .brownout _ _ | .pinReset _ | .warm _ | .autoWarm _ => 1
  | .safCtrlHalt | .sundialLockstepMismatch | .sundialSilent _ | .pllUnlock _ | .sspHaltReq _ _ => 2
  | .thermalShutdown => 3
  | .sourceLost _ _ => 4
  | .freeze | .freezePin _ => 5
  | .tickBoundary _ _ => 6
  | .modeRequestShip | .modeRequestSentinel | .modeRequestRun => 8
  | .buttonShipRequest _ | .buttonRunRequest _ => 9
  | _ => 10

/-- A command of the same moment comes before place `r` of R564: device time stands still while commands wait. -/
def State.outranked (s : State) (r : Nat) : Bool :=
  s.pending.any fun c => decide (modeRank c < r) && (modeRank c != 6 || (s.inDusk && s.rd Reg.PWR_MODE.STEP == 5))

/-- A mode request is taken, after what R564 takes before it. -/
def requestBy (m src : Nat) : Prog := .read fun s =>
  if s.outranked (8 + min src 2) then updPower fun p => { p with deferred := p.deferred ++ [.request m src] } else modeRequest m src

/-- SENTINEL is reached (R555, R556, R562 step 3): the root hands over to bed 8, the beds turn to rounds, and D18 goes off where
SENT_HIF is 0. -/
def sentinelIn : Prog := .read fun s => seqs [
  rootPlanned 8,
  each (List.range 16) fun b => if hasBit (s.rd Reg.GLB_HEALTH.BED_LOST) b then .skip else bedOff b,
  if s.flag Reg.PWR_CFG.SENT_HIF then .skip else .seq perst (setR Reg.PWR_DOM.ON (clrBit (s.rd Reg.PWR_DOM.ON) 18)),
  each (List.range 64) fun sl => when (fun t => t.slSt sl == slCharging) (setR Reg.SLT_STATUS.PHASE 0 sl)]

/-- The root and the beds return from SENTINEL (R554). -/
def sentinelOut : Prog := .read fun s => seqs [
  each (List.range 16) bedOn, updEng fun e => { e with rounds := [], wakes := [], sltSeen := [] }, each (List.range 64) heldDeliver,
  if hasBit (s.rd Reg.GLB_HEALTH.BED_LOST) 0 then .skip else rootPlanned 0,
  setR Reg.PWR_DOM.ON s.domsOn]

/-- Every slot's lead and every port's stage is parked (R562 step 3). -/
def State.allParked (s : State) : Bool :=
  (List.range 136).all fun n => s.rd Reg.PHC_STATUS.STAGE n == 0 || s.rd Reg.PHC_STATUS.STAGE n == 6

/-- SHIP is entered (R66, R562 step 6): HRAIL_EN falls, and D0 alone runs. -/
def shipIn : Prog := .read fun s => seqs [
  setR Reg.SRC_HB_STATUS.HRAIL 0, enterMode mShip (s.rd Reg.PWR_STATUS.LAST_SRC) 0, setR Reg.PWR_DOM.ON 1]

/-- Leaving SHIP clears what R569 clears: every field outside D0 but class K and WAKE; hidden state but for the keep, the pins and the
fuse. Device time restarts at 0. -/
def hiddenReset (warm powerOn : Bool) : Prog := .read fun s => seqs [
  .act (.fnsMap fun _ x => if warm then { history := x.history, quotaSet := x.quotaSet } else { quotaSet := x.quotaSet }),
  .act (.ringsMap fun _ _ => {}), updHost fun h => { maxWidth := h.maxWidth, maxSpeed := h.maxSpeed },
  .act (.lanesMap fun _ _ => {}), .act (.chansMap fun _ _ => {}), .act (.gaugesMap fun _ _ => {}),
  .act (.slotsMap fun _ x => { idClosed := x.idClosed, closedAt := s.time }),
  updKeep fun k => { retires := k.retires, owed := k.owed, master := k.master },
  .act (.portsMap fun _ _ => {}), .act (.twbMap fun _ x => { alertIn := x.alertIn }),
  updHouse fun _ => {}, updGrid fun _ => {}, .act (.srcsMap fun _ _ => {}),
  .act (.icvsMap fun _ _ => {}), .act (.fcvsMap fun _ _ => {}), updMains fun _ => {}, updPendZ fun _ => [], .act (.groupsMap fun _ _ => {}),
  updAlm fun _ => {}, .act (.pairsMap fun _ _ => {}), .act (.tasksMap fun _ _ => {}), .act (.traceMap fun _ _ => {}),
  updEng fun e => { 
    owedAbort := e.owedAbort || s.rd Reg.ENG_UPG.STATE == 3 || s.rd Reg.ENG_UPG.STATE == 4,
    ids := if warm then e.ids else none, idsKept := warm },
  updSun fun _ => {}, updClk fun _ => {}, .act (.tinesMap fun _ _ => {}),
  updSvc fun v => { fuse := v.fuse },
  updPower fun p => { autoWarms := if powerOn then [] else p.autoWarms, recovered := (p.recovered || s.mode == mHalt) && !powerOn }]

/-- START is about to run from a step (R558, R579). -/
def startPending (step : Nat) : Prog := seqs [
  setR Reg.PWR_MODE.MODE mStart, setR Reg.PWR_MODE.PREV mStart, setR Reg.PWR_MODE.SEQ 1, setR Reg.PWR_MODE.STEP step,
  setR Reg.PWR_MODE.TARGET mRun, setR Reg.PWR_DOM.ON (if step = 1 then 1 else 0x200001),
  incSat Reg.PWR_CNT.STARTS]

/-- A whole-device reset but WARM (R565 to R568): POR (kind 0), BROWNOUT (1), PIN (2). -/
def deviceReset (kind : Nat) : Prog := seqs [
  -- a keep write in progress completes while D21 keeps its supply, in a BROWNOUT for an unstated time (R566, R573)
  if kind = 1 then withFree fun v => keepCut (v % 2 == 1) else keepCut (kind == 2),
  hiddenReset false (kind < 2),
  .act (.clear (if kind < 2 then [.p, .w, .f, .x] else [.w, .f, .x]) fun key =>
    match fldOf key with
    | some f => kind == 1 && (decide (f.base = 0x18))
    | none => true),
  (match kind with
   | 0 => setR Reg.GLB_RESET_CAUSE.POR 1
   | 1 => .seq (setR Reg.GLB_RESET_CAUSE.POR 0) (setR Reg.GLB_RESET_CAUSE.BROWNOUT 1)
   | _ => setR Reg.GLB_RESET_CAUSE.PIN 1),
  if kind < 2 then updTime fun _ => 0 else .skip,
  startPending (if kind < 2 then 1 else 2)]

/-- Leaving SHIP (R67, R568, R569, R623): as POR for every field outside D0; `rail` where a button wake closes the rail switch. -/
def shipWake (cause : Nat) (rail : Bool) : Prog := .read fun s => seqs [
  hiddenReset false true,
  .act (.clear [.p, .w, .f, .x] fun key =>
    match fldOf key with
    | some f => (f.inD0 && f.id != Reg.GLB_SEAL.SEALED.id)
    | none => true),
  updTime fun _ => 0,
  setR Reg.SRC_HB_STATUS.WAKE cause, setR Reg.SRC_HB_STATUS.HRAIL (bit rail), setR Reg.GLB_RESET_CAUSE.SHIP_WAKE 1,
  updSvc fun v => { v with fuse := s.svc.fuse },
  startPending 1]

/-! HALT (R532 to R536). -/

/-- The domains on in HALT (R555): D0, the register routers of D17, D18, D19, D21 and the FRONT and GAUGE domains. -/
def haltDoms : Nat := 0x3FEE0001

/-- The phase channels on a Planter's gate interface (R19, R20). -/
def gatesOf (p : Nat) : List Nat := (List.range 32).map (32 * p + ·) ++ (List.range 4).map (128 + 4 * p + ·)

/-- HALT is entered with a cause and its detail (R533): every channel parks, every DISC and VBUS_EN opens, SAF_HALT is written, and
SAFE is applied. HALT stands until a reset ends it, so that a further cause changes nothing. -/
def haltEnter (cause detail : Nat) : Prog := .read fun s =>
  if s.modeReg = mHalt ∨ s.modeReg = mShip then .skip
  else seqs [
    each (List.range 4) fun p => orderTo p (0x10000 + 0x100 * cause + detail % 0x100) (each (gatesOf p) fun n => parkOutput n 0),
    updPower fun p => { p with
      env := none, shipPending := false, leaving := 0, reverse := false, deferred := [], haltAt := s.time,
      autoWarm := s.flag Reg.WDG_CFG.AUTO_WARM, restartS := s.rd Reg.WDG_CFG.RESTART_S },
    setR Reg.SAF_HALT.CAUSE cause, setR Reg.SAF_HALT.DETAIL detail, incSat Reg.SAF_HALT.COUNT,
    setR Reg.SAF_HALT_TIME.TIME (s.time % 2 ^ 32),
    discardWork fun _ => true,
    .act (.clear [.w, .f, .x] safeKeeps),
    .act (.fnsMap fun _ x => { quotaSet := x.quotaSet }), .act (.ringsMap fun _ _ => {}),
    .act (.chansMap fun _ _ => {}), .act (.slotsMap fun _ x => { idClosed := x.idClosed, closedAt := s.time }),
    .act (.portsMap fun _ _ => {}), .act (.twbMap fun _ x => { alertIn := x.alertIn }),
    updHouse fun _ => {}, updGrid fun _ => {}, .act (.icvsMap fun _ _ => {}), .act (.fcvsMap fun _ _ => {}),
    updPendZ fun _ => [], .act (.groupsMap fun _ _ => {}), updAlm fun _ => {},
    .act (.pairsMap fun _ _ => {}), .act (.tasksMap fun _ _ => {}), .act (.traceMap fun _ _ => {}),
    updEng fun e => { owedAbort := e.owedAbort || s.rd Reg.ENG_UPG.STATE == 3 || s.rd Reg.ENG_UPG.STATE == 4, ids := e.ids, active := e.active },
    setR Reg.GLB_RESET_CAUSE.SAFE 1,
    setR Reg.SVC_STATUS.DBG_RUN 0, updSvc fun v => { v with parkLines := false },
    setR Reg.PWR_MODE.PREV s.modeReg, setR Reg.PWR_MODE.MODE mHalt, setR Reg.PWR_MODE.SEQ 0, setR Reg.PWR_MODE.STEP 0,
    setR Reg.PWR_MODE.TARGET mHalt, setR Reg.PWR_CTRL.REQ 7, setR Reg.PWR_DOM.ON haltDoms]

/-! Losing every source (R54, R457). -/

/-- Every enabled source has been lost (R54): SCALE 0, feeding channels park, ports lose VBUS, and ISLAND is entered from RUN and
CURTAIL (R551, R564). -/
def allSourcesLost : Prog := .read fun s => seqs [
  setR Reg.SRC_GUARD.ALL_LOST 1, setScale 0, parkFeeding,
  updGrid fun g => { g with ready := false, chosen := false, handed := [], returning := none, noDonor := false },
  portsWithdraw 5,
  if (s.modeReg = mRun ∨ s.modeReg = mCurtail) ∧ s.rd Reg.PWR_MODE.SEQ = 0 then .seq (enterMode mIsland 7 0) donorsChoose else .skip]

/-- A source is lost (R44), with LOST_WHY: SRC_INH rises, the source leaves the budget, and its qualification restarts where it is
still present and its MODE allows it (R45). -/
def sourceLost (k why : Nat) : Prog := .read fun s =>
  let was := s.flag Reg.SRC_PORT_STATUS.ENABLED k
  let q := s.flag Reg.SRC_PORT_STATUS.PRESENT k && why != 1
  seqs [
    setR Reg.SRC_PORT_STATUS.ENABLED 0 k, setR Reg.SRC_PORT_STATUS.LOST_WHY why k,
    if why = 1 then setR Reg.SRC_PORT_STATUS.PRESENT 0 k else .skip,
    updSrcs k fun x => { x with
      inBudget := false, budgetIn := 0, qualified := false, tripRun := 0, revRun := 0, uvSince := none,
      qualAt := if q then some s.time else none },
    setR Reg.SRC_PORT_STATUS.QUALIFYING (bit q) k,
    updGrid fun g => { g with demand := g.demand.filter (· != k), tripped := g.tripped.filter (· != k) },
    srcChange k, returnDrop k,
    if was then when (fun t => t.srcsOn.isEmpty) allSourcesLost else .skip]

/-! Dusk, its reversal and the end of SENTINEL go on at tick boundaries (R554, R562, R563). -/

/-- One step of a sequence under way. -/
def sequenceStep : Prog := .read fun s =>
  let p := s.power
  if s.modeReg = mService then .skip
  else match s.rd Reg.PWR_MODE.SEQ with
  | 2 =>
    if p.reverse then seqs [
      setR Reg.PWR_MODE.SEQ 3, setR Reg.PWR_MODE.TARGET s.modeBack, incSat Reg.PWR_CNT.REVERSALS,
      updPower fun p => { p with reverse := false },
      modeEvent s.mode s.modeBack 3 (s.rd Reg.PWR_STATUS.LAST_SRC)]
    else match s.rd Reg.PWR_MODE.STEP with
      | 2 => if s.allParked then setR Reg.PWR_MODE.STEP 3 else .skip
      | 3 => .seq sentinelIn (if s.rd Reg.PWR_MODE.TARGET = mSentinel then enterMode mSentinel (s.rd Reg.PWR_STATUS.LAST_SRC) 0
          else seqs [setR Reg.PWR_MODE.STEP 4, softStop 136, softStop 137])
      | 4 =>
        if s.rd Reg.PHC_STATUS.STAGE 136 ∈ [0, 6] ∧ s.rd Reg.PHC_STATUS.STAGE 137 ∈ [0, 6] ∧ s.keep.queue = [] then seqs [
          if hasBit (s.rd Reg.PWR_DOM.ON) 18 then perst else .skip,
          setR Reg.PWR_DOM.ON 0x3FE80001, setR Reg.PWR_MODE.STEP 5]
        else .seq (softStop 136) (softStop 137)
      | 5 => .seq (setR Reg.PWR_DOM.ON 1) (setR Reg.PWR_MODE.STEP 6)
      | _ => .seq shipIn (if p.wakeLate ≠ 0 then shipWake p.wakeLate p.wakeRail else .skip)
  | 3 =>
    if s.mode = mStart then .skip
    else .seq (if s.rd Reg.PWR_MODE.STEP ≥ 3 ∨ s.mode = mSentinel then sentinelOut else .skip)
      (seqs [updAlm fun a => { a with firstZero := s.mode == mSentinel },
        enterMode s.modeBack (s.rd Reg.PWR_STATUS.LAST_SRC) 3])
  | _ =>
    if s.mode = mSentinel ∧ p.leaving ≠ 0 then
      (if p.leaving = 2 then .seq (updPower fun p => { p with leaving := 1 }) (each (List.range 16) bedOn)
       else seqs [updPower fun p => { p with leaving := 0 }, sentinelOut, updAlm fun a => { a with firstZero := true },
         enterMode s.modeBack (s.rd Reg.PWR_STATUS.LAST_SRC) 0])
    else .skip

/-! START (R558 to R561). -/

/-- A latent-test finding (R538): its bit, the count, and LATENT to the PF. -/
def latentFail (b obj : Nat) : Prog := .read fun s => seqs [
  setR Reg.SAF_LATENT.FAIL (setBit (s.rd Reg.SAF_LATENT.FAIL) b), incSat Reg.SAF_CNT.LATENT_FAIL,
  raisePf evLatent srcDevice (dat 16 1 b + dat 18 2 obj)]

/-- START step 3 (R526, R530, R538, R560): the Sundial, the HALT_N and lockstep tests, the crystal and the clock monitor. -/
def start3 (e : StartEnv) : Prog :=
  if e.lockstepBad then .seq (latentFail 6 0) (haltEnter 0x0B 6)
  else if e.haltNBad then .seq (latentFail 5 0) (haltEnter 0x0B 5)
  else seqs [
    setR Reg.CLK_STATUS.LPO_OK 1,
    if e.noCrystal then seqs [setR Reg.CLK_STATUS.TIME_LPO 1, setR Reg.CLK_STATUS.PLL_REF 2, setR Reg.GLB_HEALTH.XTAL_LOST 1,
      setR Reg.WDG_STATUS.XTAL_FAIL 1, setR Reg.WDG_STATUS.CLK_USE 1]
    else .seq (setR Reg.CLK_STATUS.XTAL_OK 1) (updR Reg.WDG_STATUS.CLK_USE fun s => s.rd Reg.WDG_CFG.CLK_SEL),
    if e.clkMonBad then .seq (latentFail 7 0) (setR Reg.GLB_HEALTH.COVERAGE_LOST 1) else .skip]

/-- A lane of a runner-link direction has failed (R24, R30): traffic steers to the spare lane and the sender sends the flits in flight again.
A second lane of the direction is not covered (R35, R37). -/
def laneSteer (link dir : Nat) : Prog := .read fun s =>
  let k := 2 * link + dir
  if (s.lane k).spared then .seq (updLanes k fun x => { x with down := true, fails := 0 }) (healthSet Reg.GLB_HEALTH.COVERAGE_LOST fun _ => 1)
  else .seq (updLanes k fun x => { x with spared := true, fails := 0, resent := x.replay.reverse, replays := x.replays + 1 })
    (healthSet Reg.GLB_HEALTH.LANE_SPARED fun t => setBit (t.rd Reg.GLB_HEALTH.LANE_SPARED) link)

/-- START step 4: the front end comes up on its feeds, and the FCVs test themselves (R271, R276, R538); a bus with SDA low
recovers (R434). -/
def start4 (e : StartEnv) : Prog := seqs [
  setR Reg.GLB_HEALTH_FE.FEED_LOST e.feeds,
  updPower fun p => { p with deadPlanters := (List.range 4).filter fun k => hasBit e.feeds (2 * k) && hasBit e.feeds (2 * k + 1) },
  .read fun s => each (List.range 4) fun p => updFcvs p fun x => { x with bootAt := s.time, selfAt := s.time },
  each e.sdaLow fun r => if r.1 < 66 then recoverSda r.1 r.2 else .skip,
  each e.laneBad fun r => if r.1 < 4 ∧ r.2 < 2 then laneSteer r.1 r.2 else .skip,
  each e.fcvBad fun p => .seq (latentFail 12 p) (fcvOut p 0),
  each e.icvBad fun r => icvFail r.1 r.2, each e.chanBad fun r => chanFail r.1 r.2,
  each e.coulBad coulombLost,
  grpMembers, each (List.range 16) budgetUpdate]

/-- START step 6: the beds and the self-test of every pair (R482, R484, R560). -/
def start6 (e : StartEnv) : Prog := .read fun s => seqs [
  each e.badPairs fun p => if p < 512 then .seq (updPairs p fun x => { x with st := 4 }) (incSat Reg.ENG_CNT.RETIRED) else .skip,
  each e.badBeds fun b => if b < 16 then each (List.range 32) fun i => updPairs (32 * b + i) fun x => { x with st := 6 } else .skip,
  setR Reg.GLB_HEALTH.BED_LOST (e.badBeds.foldl (fun a b => if b < 16 then setBit a b else a) 0),
  .read fun t => setR Reg.PWR_DOM.ON (s.rd Reg.PWR_DOM.ON % 2 + t.bedDoms + 0x20000 + s.rd Reg.PWR_DOM.ON / 2 ^ 18 * 2 ^ 18),
  updR Reg.GLB_HEALTH.SPARE_PAIRS fun t => t.freePairs.length,
  -- the root runs on bed 8 where bed 0 is lost (R32)
  when (fun t => hasBit (t.rd Reg.GLB_HEALTH.BED_LOST) 0 && !hasBit (t.rd Reg.GLB_HEALTH.BED_LOST) 8)
    (.seq (setR Reg.ALM_STATUS.ROOT_ALT 1) (setR Reg.GLB_HEALTH.ROOT_ALT 1))]

/-- A staged image stands in the other bank (R490, R493, R499). -/
def stagedFound (img : Image) : Prog := .read fun s =>
  let d := (img.gen + 65536 - s.rd Reg.ENG_GEN.ACTIVE) % 65536
  if img.err = 0 ∧ 0 < d ∧ d < 32768 ∧ img.lo ≤ s.rd Reg.ENG_SCHEMA.ACT_HI then imageStaged img else .skip

/-- A task whose home pair is not to be had starts on a spare (R558 step 7), or does not run at all (R485). -/
def taskPlaced (t : Nat) : Prog := .read fun s =>
  match s.spareFor (taskBed t) [] with
  | some q => .seq (setR Reg.ENG_TASK.HOST q t) (setR Reg.ENG_TASK.STATE 1 t)
  | none => .seq (taskStops t 5) (healthSet Reg.GLB_HEALTH.COVERAGE_LOST fun _ => 1)

/-- START step 7 (R491, R232): an image is loaded, or HALT; tasks start at home, or on spares where their pair is not to be had. -/
def start7 (e : StartEnv) : Prog := .read fun s =>
  let b := s.rd Reg.ENG_BOOT.ACTIVE_BANK
  let imgAt := fun k => e.images.getD k { formatOk := false }
  let a := imgAt b
  let o := imgAt (1 - b)
  if a.err ≠ 0 ∧ o.err ≠ 0 then .seq (setR Reg.ENG_BOOT.ERR a.err) (haltEnter 0x0A a.err)
  else
    let img := if a.err = 0 then a else o
    seqs [
      if a.err = 0 then .skip else seqs [setR Reg.ENG_BOOT.FALLBACK 1, setR Reg.ENG_BOOT.ERR a.err,
        updEng fun x => { x with owedFallback := some (1 - b, a.err) }],
      updEng fun x => { x with active := img, ids := if x.idsKept then x.ids else img.ids, idsKept := false },
      setR Reg.ENG_GEN.ACTIVE img.gen, setR Reg.ENG_SCHEMA.ACT_LO img.lo, setR Reg.ENG_SCHEMA.ACT_HI img.hi,
      if a.err = 0 then stagedFound o else .skip,
      schemaUpdate,
      each (List.range 416) fun t => when (fun u => (u.pair (homePair t)).st != 0) (taskPlaced t),
      updR Reg.GLB_HEALTH.SPARE_PAIRS fun t => t.freePairs.length]

/-- START step 8 (R649, R42, R44, R45, R229): sources are classified, held or left, and qualify; the first commit is zero everywhere. -/
def start8 (e : StartEnv) : Prog := seqs [
  each (List.range 4) fun k =>
    let src := e.srcs.getD k (false, 0)
    .read fun s =>
      let on := src.1 && s.rd Reg.SRC_PORT_CFG.MODE k != 0
      seqs [
        setR Reg.SRC_PORT_STATUS.PRESENT (bit src.1) k,
        updSrcs k fun x => { x with idClass := classOf src.2, qualAt := if src.1 then some s.time else none },
        setR Reg.SRC_PORT_STATUS.QUALIFYING (bit src.1) k,
        setR Reg.SRC_PORT_STATUS.ENABLED (bit on) k, srcLimit k false,
        when (fun t => src.1 != s.flag Reg.SRC_PORT_STATUS.PRESENT k || on != s.flag Reg.SRC_PORT_STATUS.ENABLED k ||
          t.rd Reg.SRC_PORT_STATUS.CLASS k != s.rd Reg.SRC_PORT_STATUS.CLASS k ||
          t.rd Reg.SRC_PORT_STATUS.LIMIT_EFF k != s.rd Reg.SRC_PORT_STATUS.LIMIT_EFF k) (srcChange k)],
  each (List.range 144) fun n => when (fun s => s.isLead n) (commitLead n 0 0 0 0 none),
  .read fun s => setR Reg.ALM_TICK.TICK (s.time / 10000 % 2 ^ 32),
  setR Reg.ALM_STATUS.RUNNING 1, leadFlags]

/-- Steps 2 to 5 of R62 on a battery reading: absent, below the dead threshold, or matched and closed (R62, R63). -/
def railStart (mv : Nat) : Prog := .read fun s => seqs [
  setR Reg.SRC_HB_MEAS.VOLT mv, updHouse fun h => { h with tempAt := s.time },
  if mv < 2000 then seqs [setR Reg.SRC_HB_STATUS.ABSENT 1, setR Reg.SRC_HB_STATUS.HRAIL 0, updHouse fun h => { h with railStep := 3 }]
  else if mv < hbDead s.hbChem then seqs [setR Reg.SRC_HB_STATUS.STATE 0, setR Reg.SRC_HB_STATUS.HRAIL 0,
    updHouse fun h => { h with railStep := 3, hbPre := true, preAt := s.time }]
  else updHouse fun h => { h with railStep := 4 }]

/-- START step 9: the rail, and the NTC codes (R515). -/
def start9 (e : StartEnv) : Prog := .seq (railStart e.battery)
  (each (List.range 64) fun sl => updR Reg.SAF_FG_B.NTC_CODE (fun s =>
    ntcCode (s.rd Reg.MSR_NTC.NOM_OHM) (s.rd Reg.MSR_NTC.B_K) (s.rd Reg.SLT_GCFG.T_OT sl)) sl)

/-- A Planter without a feed (R20, R37, R537): its sixteen slots and its four auxiliary channels enter their safe states; coverage is lost. -/
def planterDead (p : Nat) : Prog := seqs [each (List.range 16) fun i => slotSafeSub (16 * p + i) 9,
  each (List.range 4) fun i => auxFault (128 + 4 * p + i), healthSet Reg.GLB_HEALTH.COVERAGE_LOST fun _ => 1]

/-- Slots that were FAULTED through a WARM read FAULTED again (R192); slots of a Planter without a feed, or whose park path failed,
enter their safe state (R537, R538, R560). -/
def slotsAfterStart (e : StartEnv) : Prog := .read fun s => seqs [
  each (List.range 64) fun sl =>
    if s.flag Reg.SLT_FAULT.FAULTED sl then setR Reg.SLT_STATUS.STATE slFaulted sl
    else if ¬ s.flag Reg.SLT_CFG.ENABLE sl then setR Reg.SLT_STATUS.STATE slOff sl
    else if s.oddGanged sl then gangShow sl else .skip,
  updR Reg.SAF_STATUS.FAULTED_CNT fun t => ((List.range 64).filter fun k => t.flag Reg.SLT_FAULT.FAULTED k).length,
  each e.parkBad fun n => .seq (latentFail 3 (if n < 128 then n / 2 else n)) (if n < 128 then
    .seq (setR Reg.SAF_FG_B.TEST_FAIL 1 (n / 2)) (slotSafeSub (n / 2) 7) else if n < 144 then auxFault n else .skip),
  each s.power.deadPlanters planterDead]

/-- START step 10 (R558, R559): the kept configuration, presence, START_OK and the end mode. -/
def start10 (e : StartEnv) : Prog := seqs [
  .act (.clear [.k] fun _ => false), .act (.keysMap fun _ _ => {}), updKeep fun k => { k with master := none }, keepApply,
  pfCounts, each (List.range 1024) useUpdate, each (List.range 8) policyDefault,
  setR Reg.SAF_STATUS.START_OK 1,
  .read fun s => updSun fun x => { x with validAt := s.time },
  slotsAfterStart e,
  .read fun s => seqs [
    setR Reg.PWR_DOM.ON s.domsOn,
    updPower fun p => { p with env := none },
    -- a SHIP request that waits undoes START, or is refused now (R559, R561)
    if s.power.shipPending ∧ s.shipBar ≠ 0 then
      seqs [updPower fun p => { p with shipPending := false }, refuse mShip s.shipBar, enterMode mSentinel 8 1, sentinelIn]
    else if s.power.shipPending then updPower fun p => { p with env := some e }
    else if s.anyPresent then enterMode (if s.curtailCause then mCurtail else mRun) 8 1
    else .seq (enterMode mSentinel 8 1) sentinelIn]]

/-- The work of one START step. -/
def startWork (e : StartEnv) : Nat → Prog
  | 1 => setR Reg.PWR_DOM.ON 0x200001
  | 2 => seqs [keepScan e.decayed, updR Reg.SVC_STATUS.LOCKED fun s => bit s.svc.fuse,
      setR Reg.GLB_UID_LO.UID_LO (Config.dieUid % 2 ^ 32), setR Reg.GLB_UID_HI.UID_HI (Config.dieUid / 2 ^ 32 % 2 ^ 32)]
  | 3 => .seq (setR Reg.PWR_DOM.ON 0x280001) (start3 e)
  | 4 => .seq (setR Reg.PWR_DOM.ON 0x3FEC0001) (start4 e)
  | 5 => .seq (setR Reg.PWR_DOM.ON 0x3FFC0001) (setR Reg.CLK_STATUS.PLL_LOCK 1)
  | 6 => start6 e
  | 7 => start7 e
  | 8 => start8 e
  | 9 => start9 e
  | _ => start10 e

/-- The domains that stand when the first `k` steps of START are done (R555), for undoing them (R561). -/
def startDoms (k : Nat) : Nat :=
  if k = 0 then 1 else if k < 3 then 0x200001 else if k = 3 then 0x280001 else if k = 4 then 0x3FEC0001 else if k = 5 then 0x3FFC0001 else 0x3FFFFFFF

/-- The bounds of START's steps, µs (R558). -/
def startBound (k : Nat) : Nat := [2000, 20000, 15000, 30000, 10000, 100000, 250000, 20000, 200000, 10000].getD (k - 1) 10000

/-- START goes on by one step (R558), or back by one where SHIP has been asked for (R561). -/
def startAdvance : Prog := .read fun s =>
  match s.power.env with
  | none => .skip
  | some e =>
    let k := s.rd Reg.PWR_MODE.STEP
    if s.mode ≠ mStart then .skip
    else if s.rd Reg.PWR_MODE.SEQ = 3 then
      (if k ≤ 1 then .seq (updPower fun p => { p with env := none, shipPending := false }) shipIn
       else .seq (setR Reg.PWR_MODE.STEP (k - 1)) (setR Reg.PWR_DOM.ON (startDoms (k - 2))))
    else seqs [
      updTime (· + e.durs.getD (k - 1) 0),
      setR Reg.PWR_MODE.STEP (min 10 (k + 1)),
      if e.durs.getD (k - 1) 0 > 2 * startBound k then haltEnter 0x09 0 else startWork e k,
      when (fun t => t.power.shipPending && t.mode == mStart) (seqs [
        setR Reg.PWR_MODE.SEQ 3, setR Reg.PWR_MODE.TARGET mShip, incSat Reg.PWR_CNT.REVERSALS, modeEvent mStart mShip 3 0])]

/-- A wake before HRAIL_EN falls reverses a START that is on its way to SHIP, from the step in progress (R66, R561): it goes forward again. -/
def startResume (src : Nat) : Prog := .read fun s =>
  if s.rd Reg.PWR_MODE.SEQ = 3 ∧ s.rd Reg.PWR_MODE.TARGET = mShip then seqs [
    setR Reg.PWR_MODE.SEQ 1, setR Reg.PWR_MODE.TARGET mRun, setR Reg.PWR_CTRL.REQ 7, setR Reg.PWR_STATUS.LAST_SRC src,
    incSat Reg.PWR_CNT.REVERSALS, updPower fun p => { p with shipPending := false }, modeEvent mStart mRun 1 src]
  else if s.power.shipPending then .seq (updPower fun p => { p with shipPending := false }) (setR Reg.PWR_CTRL.REQ 7)
  else .skip

/-- START begins at the step that `PWR_MODE.STEP` names, with what it will meet; its first step runs. -/
def startBegin (e : StartEnv) : Prog := .read fun s =>
  if s.mode = mStart ∧ s.power.env = none ∧ s.rd Reg.PWR_MODE.SEQ = 1 then .seq (updPower fun p => { p with env := some e }) startAdvance else .skip

/-- WARM (R565): every class but W, P and K, then START from step 2. -/
def warmReset : Prog := .read fun s => seqs [
  keepCut true,
  hiddenReset true false,
  .act (.clear [.f, .x] fun key => match fldOf key with | some _ => false | none => true),
  setR Reg.GLB_RESET_CAUSE.WARM 1,
  -- ports lose their holders (R467)
  each (List.range 8) fun k => .seq (setR Reg.PDP_STATUS.HELD 0 k) (setR Reg.PDP_STATUS.HOLDER 0 k),
  -- PER is kept, and the period in use follows it (R92, R141)
  each (List.range 144) fun n => updR Reg.PHC_PER_EFF.PER_EFF (fun t => t.rd Reg.PHC_TIMING.PER n) n,
  updPower fun p => { p with recovered := p.recovered || s.mode == mHalt },
  startPending 2]

end Sys2Proof.Machine
end

