-- ==== Sys2Proof/Machine/Modes.lean ====
section
/-! DEFINITION. The commands of chapter 14: mode requests, the curtail causes, the die sensors and thermal shutdown, SENTINEL's
rounds, and the whole-device resets with what lets START begin. -/

namespace Sys2Proof.Machine

/-- The outcome of a write of a PF register: it reaches the device while PF BAR0 answers (R555). -/
def pfWrite (p : Prog) : State → Host.Outcome State Fault Refusal := endsAlways (when State.barOn p)

/-! Requests (R551). -/

/-- MODE_REQUEST_SHIP: a write of `PWR_CTRL.REQ` 0. -/
def execModeRequestShip : State → Host.Outcome State Fault Refusal := pfWrite (requestBy mShip 0)

/-- MODE_REQUEST_SENTINEL: a write of `PWR_CTRL.REQ` 1. -/
def execModeRequestSentinel : State → Host.Outcome State Fault Refusal := pfWrite (requestBy mSentinel 0)

/-- MODE_REQUEST_RUN: a write of `PWR_CTRL.REQ` 3. -/
def execModeRequestRun : State → Host.Outcome State Fault Refusal := pfWrite (requestBy mRun 0)

/-- BUTTON_SHIP_REQUEST: SERVICE_BTN held low for `ms`, at least 5 s. -/
def execButtonShipRequest (ms : Nat) : State → Host.Outcome State Fault Refusal :=
  latching (.request mShip 1) (when (fun s => decide (ms ≥ 5000) && s.flag Reg.PWR_CFG.BTN_SHIP) (requestBy mShip 1))

/-- BUTTON_RUN_REQUEST: SERVICE_BTN held low for `ms`, 100 ms to 5 s. -/
def execButtonRunRequest (ms : Nat) : State → Host.Outcome State Fault Refusal :=
  if 100 ≤ ms ∧ ms < 5000 then latching (.request mRun 1) (requestBy mRun 1) else endsAlways .skip

/-! The curtail causes (R552). -/

/-- RUN and CURTAIL follow the curtail causes (R552); not during a sequence (R564). -/
def curtailUpdate (src : Nat) : Prog := .read fun s =>
  if s.rd Reg.PWR_MODE.SEQ ≠ 0 then .skip
  else if s.modeReg = mRun ∧ s.curtailCause then enterMode mCurtail src 0
  else if s.modeReg = mCurtail ∧ ¬ s.curtailCause then enterMode mRun src 0
  else .skip

/-- The host's curtail cause is written (R552). -/
def hostCurtail (v : Nat) : Prog := .seq (setR Reg.PWR_CTRL.CURTAIL (v % 2)) (curtailUpdate 0)

/-- HOST_CURTAIL_WRITE. -/
def execHostCurtailWrite (v : Bool) : State → Host.Outcome State Fault Refusal := pfWrite (hostCurtail (bit v))

/-- The hottest sensor, 0.1 °C, signed. -/
def State.dieTemp (s : State) : Int := ofField 12 (s.rd Reg.PWR_TEMP.TEMP)

/-- THERMAL (R577). -/
def thermalEvent (kind : Nat) : Prog := .read fun s =>
  raisePf evThermal srcDevice (dat 16 1 kind + dat 18 2 (toField 16 s.dieTemp) + dat 20 1 (s.rd Reg.PWR_TEMP.SRC))

/-- A condition that has held since `t`, or begins to hold now. -/
def since (holds : Bool) (t : Option Nat) (now : Nat) : Option Nat := if holds then some (t.getD now) else none

/-- It has held for `us`. -/
def heldFor (t : Option Nat) (us now : Nat) : Bool :=
  match t with
  | some a => decide (a + us ≤ now)
  | none => false

/-- The hottest sensor's reading starts and ends the times of R552 and R575. -/
def thermalTimes (temp : Int) : Prog := .read fun s =>
  let curt : Int := 10 * s.rd Reg.PWR_THERM.CURT_T
  let shut : Int := 10 * s.rd Reg.PWR_THERM.SHUT_T
  seqs [
    updPower fun p =>
      { p with
        hotSince := since (decide (curt ≤ temp)) p.hotSince s.time
        coolSince := since (decide (temp < curt - 50)) p.coolSince s.time
        shutSince := since (decide (shut ≤ temp)) p.shutSince s.time },
    if temp < shut - 100 then updKeep fun k => { k with hot := false } else .skip]

/-- THERMAL_SENSOR_READ (R574): the readings of the 16 bed sensors and the 4 Planter sensors, 0.1 °C; the hottest is reported, the
lowest number where two are equal. -/
def execThermalSensorRead (temps : List Int) : State → Host.Outcome State Fault Refusal := ends <|
  match (temps.take 20).zipIdx with
  | [] => .skip
  | h :: l =>
    let m := l.foldl (fun a b => if a.1 < b.1 then b else a) h
    seqs [setR Reg.PWR_TEMP.TEMP (toField 12 m.1), setR Reg.PWR_TEMP.SRC m.2, thermalTimes m.1]

/-- THERMAL_CURTAIL_ON (R552): the hottest sensor has stood at or above CURT_T for 1 s. -/
def execThermalCurtailOn : State → Host.Outcome State Fault Refusal := ends <| .read fun s =>
  if heldFor s.power.hotSince 1000000 s.time && !s.flag Reg.PWR_TEMP.CURT_THERM then
    seqs [setR Reg.PWR_TEMP.CURT_THERM 1, thermalEvent 0, curtailUpdate 6]
  else .skip

/-- THERMAL_CURTAIL_OFF (R552): it has stood below CURT_T − 5 °C for 10 s. -/
def execThermalCurtailOff : State → Host.Outcome State Fault Refusal := ends <| .read fun s =>
  if heldFor s.power.coolSince 10000000 s.time && s.flag Reg.PWR_TEMP.CURT_THERM then
    seqs [setR Reg.PWR_TEMP.CURT_THERM 0, thermalEvent 1, curtailUpdate 6]
  else .skip

/-- Steps 2 to 6 of thermal shutdown (R575): the keep's writes stop, every channel parks, work ends as in dusk step 2, and dusk
step 3 follows. -/
def thermalShutdown : Prog := .read fun s => seqs [
  keepCut false, updKeep fun k => { k with hot := true },
  each ((List.range 136).filter fun n => s.isLead n && s.rd Reg.PHC_STATUS.STAGE n != 6) leadPark,
  rolesEnd, portsWithdraw 0,
  each [136, 137] fun n => parkOutput n 0,
  setR Reg.PWR_TEMP.SHUT 1, thermalEvent 2, incSat Reg.PWR_CNT.THERM_SHUT,
  updPower fun p => { p with leaving := 0, reverse := false },
  if s.mode = mSentinel ∧ s.rd Reg.PWR_MODE.SEQ = 0 then .skip
  else seqs [
    setR Reg.PWR_STATUS.LAST_SRC 6,
    if s.rd Reg.PWR_MODE.SEQ = 2 then (if s.rd Reg.PWR_MODE.STEP < 3 then setR Reg.PWR_MODE.STEP 3 else .skip)
    else seqs [setR Reg.PWR_MODE.SEQ 2, setR Reg.PWR_MODE.STEP 3, setR Reg.PWR_MODE.TARGET mSentinel,
      setR Reg.PWR_CTRL.REQ mSentinel, modeEvent s.mode mSentinel 2 6]]]

/-- THERMAL_SHUTDOWN (R575): the hottest sensor has stood at or above SHUT_T for 1 ms. A keep write in progress is waited for, at
most 100 µs. -/
def execThermalShutdown : State → Host.Outcome State Fault Refusal := ends <| .read fun s =>
  if heldFor s.power.shutSince 1000 s.time && !s.flag Reg.PWR_TEMP.SHUT && (s.running || s.mode == mSentinel)
      && s.modeReg != mService && (s.keep.queue.isEmpty || heldFor s.power.shutSince 1100 s.time) then thermalShutdown
  else .skip

/-- THERMAL_SHUTDOWN_END (R575): the sensor has stood below CURT_T − 5 °C for 60 s; the device leaves SENTINEL (R554). -/
def execThermalShutdownEnd : State → Host.Outcome State Fault Refusal := ends <| .read fun s =>
  if heldFor s.power.coolSince 60000000 s.time && s.flag Reg.PWR_TEMP.SHUT then seqs [
    setR Reg.PWR_TEMP.SHUT 0, thermalEvent 3,
    if s.mode = mSentinel ∧ s.rd Reg.PWR_MODE.SEQ = 0 then requestRun 6 false else .skip]
  else .skip

/-! ISLAND's end and SENTINEL's rounds (R553, R556). -/

/-- ISLAND_LOW_BATTERY (R553): no donor runs and the battery has stood below the accessory cut-off for 10 s. -/
def execIslandLowBattery : State → Host.Outcome State Fault Refusal := ends <| .read fun s =>
  if s.modeReg = mIsland ∧ s.rd Reg.PWR_MODE.SEQ = 0 ∧ s.islandDonors = [] ∧ heldFor s.house.lowSince 10000000 s.time then duskStart mSentinel 5
  else .skip

/-- One round of a bed begins (R556, R557): the gauge pairs that it hosts read their accumulators, and its post-processing pairs take the latest
record of each channel. Its pairs run their period by TASK_PERIOD. -/
def sentinelRound (b : Nat) : Prog := .read fun s => seqs [
  updEng fun e => { e with rounds := (b, s.time) :: e.rounds.filter (·.1 != b), wakes := e.wakes.filter (· != b) },
  each ((List.range 64).filter fun sl => s.hostOf (postTask sl) / 32 == b) heldDeliver,
  each ((List.range 64).filter fun sl => s.gaugeOn sl && s.hostOf (postTask sl - 3) / 32 == b) gaugeTick]

/-- SENTINEL_ROUND (R556, R557): at 62,500·b past each second, or out of turn by a wake. -/
def execSentinelRound (b : Nat) (wake : Bool) : State → Host.Outcome State Fault Refusal := ends <| .read fun s =>
  if b < 16 ∧ s.mode = mSentinel ∧ ¬ hasBit (s.rd Reg.GLB_HEALTH.BED_LOST) b ∧ (if wake then s.eng.wakes.contains b else s.time % 1000000 = 62500 * b) then
    sentinelRound b
  else .skip

/-! Resets and START's beginning (R565 to R568, R634). -/

/-- POR: VAON rises through its power-on level. -/
def execPor : State → Host.Outcome State Fault Refusal := endsAlways (deviceReset 0)

/-- BROWNOUT: the system rail has stood at `mv`, below 8,000 mV, for `us`, at least 20 µs. In SHIP the rail is off by HRAIL_EN (R66),
and D0 runs on from VAON. -/
def execBrownout (mv us : Nat) : State → Host.Outcome State Fault Refusal :=
  endsAlways (when (fun s => decide (mv < 8000) && decide (us ≥ 20) && s.modeReg != mShip) (deviceReset 1))

/-- BROWNOUT_END: the rail has stood at `mv`, above 9,000 mV, for `us`, at least 10 ms. -/
def execBrownoutEnd (mv us : Nat) (env : StartEnv) : State → Host.Outcome State Fault Refusal :=
  endsAlways (when (fun s => decide (mv > 9000) && decide (us ≥ 10000) && s.flag Reg.GLB_RESET_CAUSE.BROWNOUT && s.rd Reg.PWR_MODE.STEP == 1)
    (startBegin env))

/-- PIN_RESET: RESET_N low for `us`, at least 1 µs. -/
def execPinReset (us : Nat) : State → Host.Outcome State Fault Refusal :=
  endsAlways (when (fun s => decide (us ≥ 1) && s.modeReg != mShip) (deviceReset 2))

/-- RESET_N_RELEASE: START runs from step 2 (R565). -/
def execResetNRelease (env : StartEnv) : State → Host.Outcome State Fault Refusal :=
  endsAlways (when (fun s => s.rd Reg.PWR_MODE.STEP == 2) (startBegin env))

/-- SYSTEM_RAIL_IN_RANGE (R634): VDD_CORE, VDD_PCIE09, VDD_PCIE18 and VDD_IO stand at these levels, mV; after a BROWNOUT the system
rail must have recovered as well (R565). -/
def execSystemRailInRange (core pcie09 pcie18 io : Nat) (env : StartEnv) : State → Host.Outcome State Fault Refusal :=
  endsAlways (when (fun s => decide (776 ≤ core) && decide (core ≤ 824) && decide (873 ≤ pcie09) && decide (pcie09 ≤ 927) &&
    decide (1710 ≤ pcie18) && decide (pcie18 ≤ 1890) && decide (1710 ≤ io) && decide (io ≤ 1890) &&
    !s.flag Reg.GLB_RESET_CAUSE.BROWNOUT && s.rd Reg.PWR_MODE.STEP == 1) (startBegin env))

/-- WARM (R565): a write of `PWR_CTRL.WARM`, with what the following START meets. -/
def execWarm (env : StartEnv) : State → Host.Outcome State Fault Refusal :=
  endsAlways (when State.barOn (.seq warmReset (startBegin env)))

/-- SHIP_WAKE (R67): SERVICE_BTN low for 100 ms (cause 1), a source present for 10 ms (2), or both (3). In SHIP START begins once the rail
is up; a battery below its dead threshold does not start by the button. In a dusk toward SHIP it is a RUN request, and after
the point of no return START follows the entry (R66, R563). A START that is undone toward SHIP goes forward again. -/
def execShipWake (cause battery : Nat) : State → Host.Outcome State Fault Refusal := endsAlways <| .read fun s =>
  let rail := decide (cause ≠ 2 ∧ battery ≥ hbDead s.hbChem)
  let src := if cause = 1 then 1 else 3
  if cause = 0 ∨ cause > 3 then .skip
  else if s.modeReg = mShip then
    (if cause = 1 ∧ battery < hbDead s.hbChem then .skip else shipWake cause rail)
  else if s.rd Reg.PWR_MODE.SEQ = 2 ∧ s.rd Reg.PWR_MODE.TARGET = mShip then
    (if s.rd Reg.PWR_MODE.STEP < 6 then requestRun src true
     else if cause = 1 ∧ battery < hbDead s.hbChem then .skip
     else updPower fun p => { p with wakeLate := cause, wakeRail := rail })
  else if s.mode = mStart then startResume src
  else .skip

/-- START_STEP_TIMEOUT (R558, R560): a step's trigger has not come within twice the bound of the step before. -/
def execStartStepTimeout (us : Nat) : State → Host.Outcome State Fault Refusal :=
  endsAlways <| .read fun s =>
    let k := s.rd Reg.PWR_MODE.STEP
    if s.mode = mStart ∧ s.rd Reg.PWR_MODE.SEQ = 1 ∧ 2 ≤ k ∧ us > 2 * startBound (k - 1) then haltEnter 0x09 0 else .skip

end Sys2Proof.Machine
end

