-- ==== Sys2Proof/Machine/Sundial.lean ====
section
/-! DEFINITION. The commands of the Sundial and D0's monitors (R523 to R532), the latent-fault tests (R538), SAFE_RECOVERED (R536) and
the safety side port (R541 to R543). -/

namespace Sys2Proof.Machine

/-- The outcome of a HALT cause with its detail (R532): a freeze latches it (R594). -/
def haltCause (cause detail : Nat) : State → Host.Outcome State Fault Refusal := latching (.halt cause detail) (haltEnter cause detail)

/-- The Sundial runs: its domain is on (R555). -/
def State.sundialOn (s : State) : Bool := !s.stopped && hasBit (s.rd Reg.PWR_DOM.ON) 19

/-! Threshold read-back (R523). -/

/-- A read-back finds a parity error or a difference in slot `sl`: the Sundial writes its own values again, so that the registers read
as before; the second within 1 s is the slot's fault (R523). -/
def readbackError (sl : Nat) : Prog := .read fun s =>
  let again := match (s.slot sl).fgErrAt with
    | some t => decide (s.time < t + 1000000)
    | none => false
  seqs [latentFail 8 sl, updSlots sl fun x => { x with fgErrAt := some s.time }, if again then slotSafeSub sl 6 else .skip]

/-- THRESHOLD_READBACK (R523): every 100 ms, with the slots whose thresholds, NTC codes or ARMED bits differ. -/
def execThresholdReadback (bad : List Nat) : State → Host.Outcome State Fault Refusal :=
  ends (when State.sundialOn (each bad fun sl => if sl < 64 then readbackError sl else .skip))

/-! The Sundial's own failures (R526, R527). -/

/-- SUNDIAL_LOCKSTEP_MISMATCH (R526). -/
def execSundialLockstepMismatch : State → Host.Outcome State Fault Refusal := haltCause 0x01 0

/-- SUNDIAL_SILENT (R527): D0 has seen no heartbeat for `us`, at least 5 ms; not while the Sundial is off. -/
def execSundialSilent (us : Nat) : State → Host.Outcome State Fault Refusal :=
  if us < 5000 then endsAlways .skip else ends (when (fun s => hasBit (s.rd Reg.PWR_DOM.ON) 19) (haltEnter 0x02 0))

/-! The system watchdog (R528, R529, R531). -/

/-- The correct answer to a question: the low 32 bits of HMAC-SHA-256 under K_sys, taken as in R392. -/
def sysToken (question : Nat) : Nat :=
  let d := hmac256 Config.kSys (leBytes 4 question)
  byteAt d 28 * 2 ^ 24 + byteAt d 29 * 2 ^ 16 + byteAt d 30 * 2 ^ 8 + byteAt d 31

/-- A question is posed at `t` (R528): a free value, never the previous one. -/
def sysAsk (t : Nat) : Prog := withFree fun v => .read fun s =>
  let x := s.sun
  let q := if v % 2 ^ 32 = x.question ∧ x.posed then (v + 1) % 2 ^ 32 else v % 2 ^ 32
  let per := s.rd Reg.WDG_CFG.PERIOD
  seqs [
    setR Reg.WDG_STATUS.QSEQ (if x.posed then (s.rd Reg.WDG_STATUS.QSEQ + 1) % 65536 else 0), setR Reg.WDG_STATUS.STATE 1,
    updSun fun x =>
      { x with
        posed := true, judged := false, prevQuestion := x.question, question := q, askedAt := t, nextAt := t + 1000 * per,
        askPeriod := per, askOpen := s.rd Reg.WDG_CFG.OPEN },
    setR Reg.WDG_CNT.AUTO_WARMS (s.power.autoWarms.filter fun a => decide (s.time < a + 86400000000)).length]

/-- A miss of the question in force; the second in a row expires the watchdog (R529). -/
def sysMiss : Prog := .read fun s =>
  let m := min 2 (s.rd Reg.WDG_STATUS.MISSES + 1)
  seqs [
    setR Reg.WDG_STATUS.MISSES m, incSat Reg.WDG_CNT.MISSES_TOT, updSun fun x => { x with judged := true },
    raisePf evSysWdgMiss srcDevice (dat 16 2 (s.rd Reg.WDG_STATUS.QSEQ) + dat 18 1 m),
    if m = 2 then .seq (setR Reg.WDG_STATUS.STATE 3) (haltEnter 0x03 0) else .skip]

/-- The root's answer is judged by the windows of R392. -/
def sysAnswer (qseq token : Nat) : Prog := .read fun s =>
  let x := s.sun
  let k := s.rd Reg.WDG_STATUS.QSEQ
  if x.judged || decide (s.time ≥ x.nextAt) then .skip
  else if qseq = k then
    (if s.time ≥ x.askedAt + 1000 * x.askPeriod * x.askOpen / 16 ∧ token = sysToken x.question then
      .seq (setR Reg.WDG_STATUS.MISSES 0) (updSun fun x => { x with judged := true })
     else sysMiss)
  else if (qseq + 1) % 65536 = k then .skip
  else sysMiss

/-- The watchdog's timer stands still: a tine is halted by the service port (R531). -/
def State.sysWdgStopped (s : State) : Bool := s.sun.stopAt.isSome

/-- SYS_WDG_QUESTION (R528, R529): the root answers the question in force, or the next one is due; an unanswered one is a miss. -/
def execSysWdgQuestion (answer : Option (Nat × Nat)) : State → Host.Outcome State Fault Refusal := ends <| .read fun s =>
  if !(s.running || s.mode == mSentinel) || s.sysWdgStopped || s.rd Reg.WDG_STATUS.STATE == 3 then .skip
  else match answer with
    | some (qseq, token) => if s.sun.posed then sysAnswer qseq token else .skip
    | none =>
      if !s.sun.posed then sysAsk s.time
      else if s.time ≥ s.sun.nextAt then .seq (if s.sun.judged then .skip else sysMiss)
        (when (fun t => t.mode != mHalt) (sysAsk s.sun.nextAt))
      else .skip

/-- AUTO_WARM (R529): RESTART_S after a HALT by cause 0x03, 0x07 or 0x08 the Sundial issues WARM, at most three times in 24 h. -/
def execAutoWarm (env : StartEnv) : State → Host.Outcome State Fault Refusal := ends <| .read fun s =>
  let c := s.rd Reg.SAF_HALT.CAUSE
  let recent := s.power.autoWarms.filter fun a => decide (s.time < a + 86400000000)
  if s.mode = mHalt ∧ s.power.autoWarm ∧ (c = 3 ∨ c = 7 ∨ c = 8) ∧ s.time ≥ s.power.haltAt + 1000000 * s.power.restartS ∧ recent.length < 3 then
    seqs [updPower fun p => { p with autoWarms := s.time :: recent }, setR Reg.WDG_CNT.AUTO_WARMS (recent.length + 1),
      warmReset, startBegin env]
  else .skip

/-! Clocks that the Sundial and D0 watch (R530, R532). -/

/-- CLK_FAIL (R604). -/
def clkFail (kind obj : Nat) : Prog := raisePf evClkFail srcDevice (dat 16 1 kind + dat 17 1 obj)

/-- A watchdog clock has stopped: 0 crystal, 1 LPO (R530). The watchdog leaves it for the other; with both stopped D0 halts. -/
def wdgClockStopped (clock : Nat) : Prog := .read fun s =>
  let other := s.flag (if clock = 0 then Reg.WDG_STATUS.LPO_FAIL else Reg.WDG_STATUS.XTAL_FAIL)
  seqs [
    setR (if clock = 0 then Reg.WDG_STATUS.XTAL_FAIL else Reg.WDG_STATUS.LPO_FAIL) 1,
    if clock = 1 ∧ s.flag Reg.CLK_STATUS.LPO_OK then .seq (setR Reg.CLK_STATUS.LPO_OK 0) (clkFail 1 0) else .skip,
    if other then haltEnter 0x04 0
    else if s.rd Reg.WDG_STATUS.CLK_USE = clock then seqs [
      setR Reg.WDG_STATUS.CLK_USE (1 - clock), incSat Reg.WDG_CNT.CLK_SWITCHES,
      raisePf evWdgClk srcDevice (dat 16 1 (1 - clock) + dat 17 1 clock)]
    else .skip]

/-- The same while the Sundial's domain is on. -/
def wdgClockSeen (clock : Nat) : Prog := when (fun s => hasBit (s.rd Reg.PWR_DOM.ON) 19) (wdgClockStopped clock)

/-- WDG_CLOCK_FAIL (R530): a watchdog clock has shown no edge for `us`, at least 20 µs. -/
def execWdgClockFail (clock us : Nat) : State → Host.Outcome State Fault Refusal :=
  if us < 20 ∨ clock > 1 then endsAlways .skip else latching (.wdgClock clock) (wdgClockSeen clock)

/-- The phase-block PLL has lost its lock (R532, R537). -/
def pllUnlocked : Prog := when (fun s => hasBit (s.rd Reg.PWR_DOM.ON) 20)
  (seqs [setR Reg.CLK_STATUS.PLL_LOCK 0, incSat Reg.CLK_CNT.PLL_UNLOCKS, haltEnter 0x07 0])

/-- PLL_UNLOCK (R532, R537): the phase-block PLL has been unlocked, or off its reference by more than 2 %, for `us`, at least 20 µs. -/
def execPllUnlock (us : Nat) : State → Host.Outcome State Fault Refusal :=
  if us < 20 then endsAlways .skip else latching .pllUnlock pllUnlocked

/-- SAF_CTRL_HALT (R532): a PF write of `SAF_CTRL.HALT`. -/
def execSafCtrlHalt : State → Host.Outcome State Fault Refusal := pfWrite (haltEnter 0x06 0)

/-! Latent-fault tests (R538, R547). -/

/-- The periodic tests of R538. -/
def periodicTests : List Nat := [0, 1, 2, 7, 8, 9, 10, 11, 12]

/-- LATENT_NOW (R547): every periodic test is asked for once within 10 min. -/
def latentNow : Prog := updSun fun x => { x with latentDue := periodicTests }

/-- LATENT_NOW: a write of `SAF_CTRL.LATENT_NOW`. -/
def execLatentNow : State → Host.Outcome State Fault Refusal := pfWrite latentNow

/-- The stated action of a failed test on its object (R538): a slot, for test 3 a lead, for test 9 a pair, for test 12 an FCV. -/
def latentAction (b obj : Nat) : Prog :=
  match b with
  | 0 | 1 | 2 | 4 => if obj < 64 then seqs [latentFail b obj, setR Reg.SAF_FG_B.TEST_FAIL 1 obj, slotSafeSub obj 7] else .skip
  | 3 => if obj < 128 then seqs [latentFail 3 (obj / 2), setR Reg.SAF_FG_B.TEST_FAIL 1 (obj / 2), slotSafeSub (obj / 2) 7]
      else if obj < 144 then .seq (latentFail 3 obj) (auxFault obj) else .skip
  | 7 | 10 | 11 => .seq (latentFail b obj) (healthSet Reg.GLB_HEALTH.COVERAGE_LOST fun _ => 1)
  | 8 => if obj < 64 then readbackError obj else .skip
  | 9 => when (fun s => decide (obj < 512) && s.pairState obj == 1)
      (seqs [latentFail 9 obj, updPairs obj fun x => { x with st := 4 }, incSat Reg.ENG_CNT.RETIRED, sparesUpdate])
  | 12 => if obj < 4 then .seq (latentFail 12 obj) (fcvOut obj 0) else .skip
  | _ => .skip

/-- The comparators that a latent test steps: OV, OC and RV, NTC_A and NTC_B, ID (R538). -/
def comparatorsOf (b : Nat) : List Nat := if b = 0 then [0, 1, 2] else if b = 1 then [3, 4] else if b = 2 then [5] else []

/-- A comparator of the slot is under test now (R539). -/
def State.inTest (s : State) (sl : Nat) : Bool := (List.range 6).any (s.fgMasked sl)

/-- LATENT_TEST (R538, R539): test `b` runs on its object; of a slot's comparators on `k`, which is masked for `us`, at most 20 µs, while none
of the slot's others is. Tests 5 and 6 run at START alone. -/
def execLatentTest (b obj k us : Nat) (pass : Bool) : State → Host.Outcome State Fault Refusal :=
  ends (when State.sundialOn (.read fun s =>
    if b ≤ 2 ∧ (obj ≥ 64 ∨ k ∉ comparatorsOf b ∨ us > 20 ∨ s.inTest obj) then .skip
    else seqs [
      updSun fun x => { x with latentDue := x.latentDue.filter (· != b) },
      if b ≤ 2 then .seq (updSlots obj fun x => { x with masked := some (k, s.time + us) }) (maskStandIn obj) else .skip,
      if pass then .skip else latentAction b obj]))

/-- SAFE_RECOVERED (R536): the PF's rings run after the START that followed HALT. -/
def execSafeRecovered : State → Host.Outcome State Fault Refusal := ends <| .read fun s =>
  if s.power.recovered && s.hifOn && (s.evtRing pfFn 4).isSome then .seq (updPower fun p => { p with recovered := false })
    (raisePf evSafeRecovered srcDevice (dat 16 1 (s.rd Reg.SAF_HALT.CAUSE) + dat 17 1 (s.rd Reg.SAF_HALT.DETAIL) +
      dat 20 4 (s.rd Reg.SAF_HALT_TIME.TIME)))
  else .skip

/-! The safety side port (R541 to R543). -/

/-- A frame of the side port: CMD, SEQ and DATA with its CRC-8 over bits 31:8 (R541). -/
def sspFrame (cmd seq data : Nat) : Nat :=
  let h := cmd % 16 * 2 ^ 20 + seq % 16 * 2 ^ 16 + data % 65536
  h * 256 + crc8 [h / 65536, h / 256 % 256, h % 256]

/-- A status word of the side port, index 0 to 5 (R542). -/
def State.sspWord (s : State) (i : Nat) : Nat :=
  if i = 0 then s.modeReg * 2 ^ 12 + bit (s.modeReg == mHalt) * 2 ^ 8 + s.rd Reg.SAF_HALT.CAUSE
  else if i ≤ 4 then ((List.range 16).map fun b => s.rd Reg.SLT_FAULT.FAULTED (16 * (i - 1) + b) * 2 ^ b).sum
  else s.healthWord % 65536

/-- The word that goes out on MISO with the next frame (R541). -/
def State.sspNext (s : State) : Nat := sspFrame s.sun.answer.1 s.sun.answer.2.1 s.sun.answer.2.2

/-- The side port works: it is enabled and the Sundial runs. -/
def State.sspOn (s : State) : Bool := s.flag Reg.SAF_SSP.EN && s.sundialOn

/-- The outcome of a frame: meanwhile the answer to the one before goes out on MISO (R541). -/
def ssp (p : Prog) : State → Host.Outcome State Fault Refusal :=
  ends (when State.sspOn (.read fun s => .seq (emit (.miso s.sspNext)) p))

/-- A valid frame: its answer goes out with the next one (R541). -/
def sspTake (cmd seq data answer : Nat) : Prog := .read fun s => seqs [
  updSun fun x => { x with answer := (cmd, seq % 16, answer), validAt := s.time, silent := false },
  setR Reg.SAF_SSP.LAST_SEQ (seq % 16), setR Reg.SAF_STATUS.SSP_LIVE 1,
  if cmd = 3 ∧ data = 0xA5C3 ∧ s.flag Reg.SAF_SSP.HALT_ALLOW then haltEnter 0x05 0 else .skip]

/-- A READ past the last index: the spec states no value, and the answer carries a free value. -/
def sspRead (seq i : Nat) : Prog :=
  if i ≤ 5 then .read fun s => sspTake 1 seq i (s.sspWord i) else withFree fun v => sspTake 1 seq i (v % 65536)

/-- SSP_NOP (R542). -/
def execSspNop (seq : Nat) : State → Host.Outcome State Fault Refusal := ssp (sspTake 0 seq 0 0)

/-- SSP_READ (R542). -/
def execSspRead (seq i : Nat) : State → Host.Outcome State Fault Refusal := ssp (sspRead seq (i % 65536))

/-- SSP_HEARTBEAT (R542). -/
def execSspHeartbeat (seq data : Nat) : State → Host.Outcome State Fault Refusal := ssp (sspTake 2 seq (data % 65536) (65535 - data % 65536))

/-- SSP_HALT_REQ (R542): taken with HALT_ALLOW and the data word 0xA5C3. -/
def execSspHaltReq (seq data : Nat) : State → Host.Outcome State Fault Refusal := ssp <| .read fun s =>
  sspTake 3 seq data (if s.flag Reg.SAF_SSP.HALT_ALLOW ∧ data = 0xA5C3 then 0xA5C3 else 0)

/-- SSP_FRAME_ERROR (R541): a frame of another length, or with a wrong CRC, is discarded and counted; the next answer carries CMD 0xF, with a
SEQ and DATA that the spec does not state: free values. -/
def execSspFrameError : State → Host.Outcome State Fault Refusal :=
  ssp (.seq (incSat Reg.SAF_SSP.SPI_ERR_CNT) (withFree fun v => updSun fun x => { x with answer := (15, v % 16, v / 16 % 65536) }))

/-- SSP_SILENT (R543): no valid frame for TMO ms; told once. -/
def execSspSilent : State → Host.Outcome State Fault Refusal := ends <| when State.sspOn <| .read fun s =>
  if s.time ≥ s.sun.validAt + 1000 * s.rd Reg.SAF_SSP.TMO then seqs [
    setR Reg.SAF_STATUS.SSP_LIVE 0,
    if s.sun.silent then .skip else .seq (updSun fun x => { x with silent := true }) (raisePf evSspSilent srcDevice 0)]
  else .skip

end Sys2Proof.Machine
end

