-- ==== Sys2Proof/Machine/Clocks.lean ====
section
/-! DEFINITION. The clocks (R581 to R589), the lanes of runner links and fabric (R23, R24) and the Planter feeds (R633, R635). -/

namespace Sys2Proof.Machine

/-! The crystal and the PLL's reference (R583). -/

/-- The PLL changes to a reference: 0 crystal, 1 SYNC_IN, 2 LPO. It holds for 1 ms and slews for `slew` µs. -/
def pllTo (ref slew : Nat) : Prog := .read fun s =>
  if s.rd Reg.CLK_STATUS.PLL_REF = ref then .skip
  else seqs [
    setR Reg.CLK_STATUS.PLL_REF ref, setR Reg.CLK_STATUS.HOLDOVER 1, updClk fun c => { c with holdUntil := s.time + 1000 + slew },
    incSat Reg.CLK_CNT.REF_SWITCHES, clkFail 2 ref]

/-- The crystal has stopped (R583, R530): the LPO takes over device time, the Sundial and the PLL. -/
def crystalStopped (slew : Nat) : Prog := .read fun s =>
  if s.flag Reg.CLK_STATUS.XTAL_OK then seqs [
    setR Reg.CLK_STATUS.XTAL_OK 0, setR Reg.CLK_STATUS.TIME_LPO 1, clkFail 0 0,
    healthSet Reg.GLB_HEALTH.XTAL_LOST fun _ => 1,
    when (fun t => t.rd Reg.CLK_STATUS.PLL_REF == 0) (pllTo 2 slew),
    wdgClockStopped 0]
  else .skip

/-- CRYSTAL_FAIL (R583): no edge for `us`, at least 20 µs; the PLL then slews for `slew` µs. -/
def execCrystalFail (us slew : Nat) : State → Host.Outcome State Fault Refusal := 
  if us < 20 then endsAlways .skip else latching (.crystal slew) (crystalStopped slew)

/-- R582's window for SYNC_IN: f × SYNC_DIV within 1 GHz ± 0.5 %, with f in Hz. -/
def State.syncUsable (s : State) (hz : Nat) : Bool :=
  decide (995000000 ≤ hz * s.rd Reg.CLK_CFG.SYNC_DIV) && decide (hz * s.rd Reg.CLK_CFG.SYNC_DIV ≤ 1005000000)

/-- PLL_REF_SWITCH (R583): the reference in use fails: SYNC_IN by no edge for `noEdge` µs or by its measured frequency `hz`, or a
crystal that has stopped. -/
def execPllRefSwitch (noEdge hz slew : Nat) : State → Host.Outcome State Fault Refusal := ends <| .read fun s =>
  match s.rd Reg.CLK_STATUS.PLL_REF with
  | 1 => if noEdge ≥ 4 ∨ ¬ s.syncUsable hz then pllTo (if s.flag Reg.CLK_STATUS.XTAL_OK then 0 else 2) slew else .skip
  | 0 => if s.flag Reg.CLK_STATUS.XTAL_OK then .skip else pllTo 2 slew
  | _ => .skip

/-- The crystal runs again. -/
def crystalBack : Prog := .read fun s =>
  if s.flag Reg.CLK_STATUS.XTAL_OK then .skip
  else seqs [setR Reg.CLK_STATUS.XTAL_OK 1, setR Reg.CLK_STATUS.TIME_LPO 0, healthSet Reg.GLB_HEALTH.XTAL_LOST fun _ => 0]

/-- PLL_REF_RETURN (R583): reference `ref`, 0 crystal or 1 SYNC_IN at `hz`, has been valid for `ms`, at least 100 ms. -/
def execPllRefReturn (ref hz ms slew : Nat) : State → Host.Outcome State Fault Refusal := ends <| .read fun s =>
  let sel := s.rd Reg.CLK_CFG.PLL_REF
  if ms < 100 ∨ ref > 1 ∨ ¬ hasBit (s.rd Reg.PWR_DOM.ON) 20 ∨ (ref = 1 ∧ ¬ s.syncUsable hz) then .skip
  else .seq (if ref = 0 then crystalBack else .skip)
    (if ref = sel ∨ (ref = 0 ∧ s.rd Reg.CLK_STATUS.PLL_REF = 2) then pllTo ref slew else .skip)

/-! Islands (R585 to R588). -/

/-- The island that carries on for one of a pair: root path, ring engine, host interface (R588). -/
def partner (i : Nat) : Nat := i / 2 * 2 + (1 - i % 2)

/-- The host interface is gone (R35, R537): every function is held, and charging goes on under the hold plan. -/
def hostGone : Prog := .seq (each allFns fun f => holdFn false f 2) (discardWork fun _ => true)

/-- What the loss of an island brings (R588, second column; R24 for a sending island). -/
def islandActs (i : Nat) : Prog := .read fun s =>
  let covered := healthSet Reg.GLB_HEALTH.COVERAGE_LOST fun _ => 1
  if i < 16 then bedFault i
  else if i < 32 then .seq (each (List.range 4) fun k => slotSafeSub (4 * (i - 16) + k) 8) (auxFault (128 + (i - 16)))
  else if 52 ≤ i ∧ i ≤ 53 then (if s.isleGone (partner i) then haltEnter 0x08 i else covered)
  else if 54 ≤ i ∧ i ≤ 57 then .seq covered (when State.hifDead hostGone)
  else if i = 58 then .skip
  else if i = 60 ∨ i = 62 then covered
  else if i = 63 then haltEnter 0x09 0
  else if i < 64 then haltEnter 0x08 i
  else
    let p := (i - 64) / 6
    match (i - 64) % 6 with
    | 4 => seqs [auxFault (128 + 2 * p), auxFault (129 + 2 * p), if p < 2 then setR Reg.TWB_STATUS.BUS_DEAD 1 (64 + p) else .skip]
    | 5 => planterDead p
    | k => .seq (each (List.range 4) fun j => slotSafeSub (16 * p + 4 * k + j) 8) (icvFail (4 * p + k) 1)

/-- An island is lost, once (R24, R588). -/
def islandLost (i : Nat) : Prog := .read fun s =>
  if s.isleGone i then .skip else .seq (updClk fun c => { c with isleOut := i :: c.isleOut }) (islandActs i)

/-- The number of bits set in the three words of an island register. -/
def State.islandBits (s : State) (f : Fld) : Nat := ((List.range 88).filter fun i => hasBit (s.rd f (i / 32)) (i % 32)).length

/-- The running oscillator of an island has failed (R587): its first loss switches it to the backup, its second leaves it dead. -/
def oscFail (i : Nat) : Prog := .read fun s =>
  let set := fun f => setR f (setBit (s.rd f (i / 32)) (i % 32)) (i / 32)
  if hasBit (s.rd Reg.CLK_ISL_DEAD.DEAD (i / 32)) (i % 32) then .skip
  else if hasBit (s.rd Reg.CLK_ISL_BACKUP.BACKUP (i / 32)) (i % 32) then seqs [
    set Reg.CLK_ISL_DEAD.DEAD, updR Reg.CLK_STATUS.ISL_DEAD fun t => t.islandBits Reg.CLK_ISL_DEAD.DEAD,
    clkFail 4 i, islandLost i]
  else seqs [
    set Reg.CLK_ISL_BACKUP.BACKUP, updR Reg.CLK_STATUS.ISL_BACKUP fun t => t.islandBits Reg.CLK_ISL_BACKUP.BACKUP,
    incSat Reg.CLK_CNT.ISL_SWITCHES, clkFail 3 i,
    if i < 16 then bedFault i else .skip]

/-- ISLAND_OSC_FAIL (R587): no edge for `us`, at least 1 µs, or outside ±5 % for at least 10 µs. -/
def execIslandOscFail (i us : Nat) (silent : Bool) : State → Host.Outcome State Fault Refusal :=
  ends (if i < 88 ∧ (if silent then us ≥ 1 else us ≥ 10) then oscFail i else .skip)

/-- TIME_TREE_UPDATE (R589): every 64 µs each island corrects its copy; `corr` is the largest correction, µs. -/
def execTimeTreeUpdate (corr : Nat) : State → Host.Outcome State Fault Refusal := ends <| .read fun s =>
  let errs := (s.time, corr) :: s.clk.errs.filter fun e => decide (s.time < e.1 + 1000000)
  seqs [
    updClk fun c => { c with errs },
    setR Reg.CLK_TIME_ERR.MAX_CORR (min 255 (errs.foldl (fun m e => max m e.2) 0)),
    if corr > 4 then incSat Reg.CLK_CNT.TIME_RESYNC else .skip,
    if s.flag Reg.CLK_STATUS.HOLDOVER ∧ s.time ≥ s.clk.holdUntil then setR Reg.CLK_STATUS.HOLDOVER 0 else .skip]

/-! Runner links and the fabric (R23, R24, R30). -/

/-- The key of a runner-link direction: link and direction, 0 from the Trellis; or of a fabric island. -/
def laneKey (fabric : Bool) (link dir : Nat) : Nat := if fabric then 0x100 + link else 2 * link + dir

/-- A lane fault (R24, R30): a runner link steers to its spare lane; in the fabric it is an island fault of the sender. -/
def laneFault (fabric : Bool) (link dir : Nat) : Prog :=
  if fabric then .seq (updLanes (laneKey fabric link dir) fun x => { x with fails := 0 }) (islandLost link) else laneSteer link dir

/-- The number of 1s in a control flit, and the check of its even parity bit (R23). -/
def onesOf (flit : Nat) : Nat := ((List.range 64).filter (hasBit flit)).length
def flitOk (flit parity : Nat) : Bool := (onesOf flit + parity) % 2 == 0

/-- RUNNER_FLIT_RECEIVE (R23): control flit `flit`, sent on runner link `link` in direction `dir` or by fabric island `link`, arrives as
`got` with its parity bit. One whose parity fails is discarded, and the sender sends the flits of its buffer again; the third failure in a
row is a lane fault. -/
def execRunnerFlitReceive (fabric : Bool) (link dir flit got parity : Nat) : State → Host.Outcome State Fault Refusal := ends <| .read fun s =>
  let k := laneKey fabric link dir
  let again := (s.lane k).resent.head? == some flit
  let sent := updLanes k fun x => if again then x else { x with replay := (flit :: x.replay).take 8 }
  if (fabric ∧ link ≥ 64) ∨ (¬ fabric ∧ (link ≥ 4 ∨ dir ≥ 2)) ∨ (s.lane k).down then .skip
  else if flitOk got parity then .seq sent (updLanes k fun x => { x with fails := 0, resent := if again then x.resent.tail else x.resent })
  else .seq sent (.seq (updLanes k fun x => { x with fails := x.fails + 1, resent := x.replay.reverse, replays := x.replays + 1 })
    (if (s.lane k).fails + 1 ≥ 3 then laneFault fabric link dir else .skip))

/-- LANE_FAULT (R24): a handshake has not completed for `ns`, at least 200 ns. -/
def execLaneFault (fabric : Bool) (link dir ns : Nat) : State → Host.Outcome State Fault Refusal :=
  ends (if ns < 200 ∨ (fabric ∧ link ≥ 64) ∨ (¬ fabric ∧ (link ≥ 4 ∨ dir ≥ 2)) then .skip else laneFault fabric link dir)

/-! The Planter feeds (R633, R635). -/

/-- The Planters are powered (R555). -/
def State.frontOn (s : State) : Bool := !s.stopped && hasBit (s.rd Reg.PWR_DOM.ON) 22

/-- The other feed of a feed's Planter. -/
def twinFeed (feed : Nat) : Nat := feed / 2 * 2 + 1 - feed % 2

/-- A feed is declared good in the same moment (R635). -/
def State.feedReturns (s : State) (feed : Nat) : Bool := s.pending.any fun c =>
  match c with
  | .feedGood k us => k == feed && decide (us ≥ 10000)
  | _ => false

/-- A feed is lost; without the other one, and unless that is declared good in the same moment, its Planter is dead (R537, R635). -/
def feedGone (feed : Nat) : Prog := .read fun s =>
  let l := s.rd Reg.GLB_HEALTH_FE.FEED_LOST
  if hasBit l feed ∨ ¬ hasBit (s.rd Reg.PWR_DOM.ON) 22 then .skip
  else seqs [setR Reg.GLB_HEALTH_FE.FEED_LOST (setBit l feed), raiseHealth,
    if hasBit l (twinFeed feed) ∧ ¬ s.feedReturns (twinFeed feed) then planterDead (feed / 2) else .skip]

/-- FEED_LOST (R633, R537): a rail of feed 2p (A) or 2p + 1 (B) of Planter p has stood outside its range for `us`, at least 10 µs. -/
def execFeedLost (feed us : Nat) : State → Host.Outcome State Fault Refusal :=
  if feed ≥ 8 ∨ us < 10 then endsAlways .skip else latching (.feed feed) (feedGone feed)

/-- FEED_GOOD (R633): a lost feed has stayed within range for `us`, at least 10 ms. -/
def execFeedGood (feed us : Nat) : State → Host.Outcome State Fault Refusal := ends <| .read fun s =>
  let l := s.rd Reg.GLB_HEALTH_FE.FEED_LOST
  if feed ≥ 8 ∨ us < 10000 ∨ ¬ hasBit l feed ∨ ¬ s.frontOn then .skip
  else .seq (setR Reg.GLB_HEALTH_FE.FEED_LOST (clrBit l feed)) raiseHealth

end Sys2Proof.Machine
end

