-- ==== Sys2Proof/Machine/Pd.lean ====
section
/-! DEFINITION. The commands of the PD ports that carry no descriptor (chapter 11). -/

namespace Sys2Proof.Machine

/-- PD_RD_DETECT (R448 step 1): Rd on exactly one CC pin (`orient` 0 CC1, 1 CC2); `ra` where the other shows Ra. -/
def execPdRdDetect (k orient : Nat) (ra : Bool) : State → Host.Outcome State Fault Refusal := ends <| .read fun s =>
  if s.rd Reg.PDP_STATUS.TC_STATE k = 1 ∧ s.running then seqs [
    setR Reg.PDP_STATUS.TC_STATE 2 k, setR Reg.PDP_STATUS.ORIENT orient k, updPorts k fun x => { x with rdAt := s.time, ra }]
  else .skip

/-- PD_ATTACH (R448 step 2): Rd has held for 150 ms. -/
def execPdAttach (k : Nat) : State → Host.Outcome State Fault Refusal := ends <| .read fun s =>
  let x := s.port k
  if s.rd Reg.PDP_STATUS.TC_STATE k = 2 ∧ x.rdAt + 150000 ≤ s.time then seqs [
    setR Reg.PDP_STATUS.TC_STATE 3 k, setR Reg.PDP_STATUS.VCONN (bit x.ra) k,
    updPorts k fun x => { x with energy := 0, eFrac := 0, unmarked := false, vbusDis := false, attachedAt := s.time },
    portStart k,
    raisePort evPdAttach k (dat 16 1 (s.rd Reg.PDP_STATUS.ORIENT k) + dat 17 1 (3 * bit x.ra))]
  else .skip

/-- The cable is unmarked: 3 A and 20 V (R450, R451). -/
def cableUnmarked (k : Nat) : Prog := seqs [
  setR Reg.PDP_CABLE.VALID 0 k, setR Reg.PDP_CABLE.EPR_CAP 0 k, setR Reg.PDP_CABLE.CABLE_I 0 k, setR Reg.PDP_CABLE.VMAX 0 k,
  updPorts k fun x => { x with unmarked := true }]

/-- The cable's e-marker is asked where it is not known yet (R448 step 4, R450, R451): with VCONN by Discover Identity on SOP′, and where the
sink holds VCONN by a VCONN_Swap first; then the capabilities go out. -/
def cableAsk (k : Nat) : Prog := .read fun s =>
  let x := s.port k
  if x.unmarked || s.flag Reg.PDP_CABLE.VALID k then sendCaps k
  else if s.flag Reg.PDP_STATUS.VCONN k then .seq (pdSend k .discoverIdentityCable) (updPorts k fun x => { x with awaits := 1 })
  else if x.vconnSink then .seq (pdSend k .vconnSwap) (updPorts k fun x => { x with awaits := 4 })
  else sendCaps k

/-- PD_VBUS_READY (R448 step 4): VBUS lies within 4,750 to 5,500 mV. -/
def execPdVbusReady (k vbus : Nat) : State → Host.Outcome State Fault Refusal := ends <| .read fun s =>
  let x := s.port k
  if s.attached k && x.hardStep == 0 && x.offer.isEmpty && x.awaits == 0 && x.vbusEn && decide (4750 ≤ vbus ∧ vbus ≤ 5500) then
    .seq (setR Reg.PDP_MEAS.VBUS vbus k) (cableAsk k)
  else .skip

/-- The e-marker answers with its current code (1 3 A, 2 5 A), maximum voltage and EPR bit (R451). Where the device had asked for VCONN, the sink
has accepted and Discover Identity has gone out since (R450). -/
def cableTook (k curCode vmax : Nat) (epr : Bool) : Prog := .read fun s =>
  if s.attached k ∧ ((s.port k).awaits = 1 ∨ (s.port k).awaits = 4) then seqs [
    if (s.port k).awaits = 4 then seqs [setR Reg.PDP_STATUS.VCONN 1 k, updPorts k fun x => { x with vconnSink := false }, pdSend k .discoverIdentityCable]
    else .skip,
    setR Reg.PDP_CABLE.VALID 1 k, setR Reg.PDP_CABLE.EPR_CAP (bit epr) k, setR Reg.PDP_CABLE.CABLE_I curCode k,
    setR Reg.PDP_CABLE.VMAX vmax k,
    raisePort evPdCable k (dat 16 1 (1 + 2 * bit epr) + dat 17 1 curCode + dat 18 1 vmax),
    sendCaps k]
  else .skip

/-- The contract that a Request asks for: mV, mA and kind (1 SPR fixed, 2 PPS, 3 EPR fixed); none where it is not valid (R455). -/
def PortRec.asked (x : PortRec) (pos mv ma : Nat) : Option (Nat × Nat × Nat) :=
  match x.offer.find? fun e => e.1 == pos with
  | some (_, v, i) => if ma ≤ i then some (v, ma, if pos ≥ 8 then 3 else 1) else none
  | none => match x.pps with
    | some (p, lo, hi, i) => if pos = p ∧ lo ≤ mv ∧ mv ≤ hi ∧ ma ≤ i then some (mv, ma, 2) else none
    | none => none

/-- The sink's Request has been answered: PD_POLICY actions that wait for it complete (R447, R461), but those whose offer is still owed. -/
def requestAnswered (k : Nat) : Prog := .read fun s =>
  if (s.port k).offerOwed then .skip else actionsDone k (fun a => decide (a ≤ 3)) stOk

/-- A Request is judged by the offer (R455). -/
def requestJudged (k pos mv ma rev : Nat) : Prog := .read fun s =>
  let x := s.port k
  let v := s.rd Reg.PDP_CONTRACT.V k
  let stands := !s.explicit k || (x.offer.any fun e => e.2.1 == v && decide (e.2.2 ≥ s.rd Reg.PDP_CONTRACT.I k)) ||
    (match x.pps with | some (_, lo, hi, _) => decide (lo ≤ v ∧ v ≤ hi) | none => false)
  if !s.attached k || x.hardStep != 0 || x.offer.isEmpty then .skip
  else match x.asked pos mv ma with
    | none => .seq (.seq (pdSend k .reject) (updPorts k fun x => { x with awaits := 0 }))
        (if stands then .seq (requestAnswered k) (offerPaid k) else hardReset k 0 6)
    | some (nv, ni, kind) => seqs [
      pdSend k .accept,
      when (fun _ => s.rd Reg.PDP_STATUS.REV k == 0) (setR Reg.PDP_STATUS.REV rev k),
      updPorts k fun x => { x with nextV := nv, nextI := ni, nextKind := kind, nextPos := pos, readyOwed := true, planned := false, awaits := 0 },
      requestAnswered k]

/-- A Request (R455): object position, operating voltage (PPS) and current, and the revision the sink speaks (1 2.0, 2 3.x). A request that is
not valid is rejected, with a Hard Reset where the contract in force is no longer offered. After a Soft Reset of the device it follows the Accept
and the capabilities sent upon it (R461). -/
def requestTook (k pos mv ma rev : Nat) : Prog := .seq (when (fun s => (s.port k).awaits == 3) (sendCaps k)) (requestJudged k pos mv ma rev)

/-- PD_PS_RDY (R455): VBUS has stayed within tolerance of the new voltage for `us`, 1 ms at least. -/
def execPdPsRdy (k vbus us : Nat) : State → Host.Outcome State Fault Refusal := ends <| .read fun s =>
  let x := s.port k
  let d := max vbus x.nextV - min vbus x.nextV
  let ok := if x.nextKind = 2 then decide (d ≤ 100) else decide (20 * d ≤ x.nextV)
  if s.attached k && x.readyOwed && x.planned && s.rd Reg.PHC_REF_V.REF_V (portLead k) == x.nextV && ok && decide (1000 ≤ us) then seqs [
    setR Reg.PDP_MEAS.VBUS vbus k, pdSend k .psRdy,
    setR Reg.PDP_CONTRACT.V x.nextV k, setR Reg.PDP_CONTRACT.I x.nextI k, setR Reg.PDP_STATUS.CONTRACT x.nextKind k,
    updPorts k fun x => { x with readyOwed := false, planned := false },
    raisePort evPdContract k (dat 16 1 x.nextKind + dat 17 1 x.nextPos + dat 18 1 (s.rd Reg.PDP_STATUS.REV k) +
      dat 20 2 x.nextV + dat 22 2 x.nextI),
    offerPaid k]
  else .skip

/-- EPR_Mode (Enter) arrives (R453). -/
def eprTook (k : Nat) : Prog := .read fun s =>
  let c := s.rd Reg.PDP_STATUS.CONTRACT k
  if !s.attached k then .skip
  else if s.eprMay k && s.rd Reg.PDP_STATUS.REV k == 2 && (c == 1 || c == 2) then seqs [
    pdSend k .eprEnterAck, pdSend k .eprEntered, updPorts k fun x => { x with epr := true, eprAt := s.time }, sendCaps k]
  else pdSend k .eprFailed

/-- PD_EPR_KEEPALIVE_TIMEOUT (R453). -/
def execPdEprKeepaliveTimeout (k : Nat) : State → Host.Outcome State Fault Refusal := ends <| .read fun s =>
  if (s.port k).epr then hardReset k 0 4 else .skip

/-- A VCONN_Swap arrives (R450): accepted only with VSWAP set; VCONN then changes sides. -/
def swapTook (k : Nat) : Prog := .read fun s =>
  if !s.attached k then .skip
  else if s.flag Reg.PDP_POL_B.VSWAP k then seqs [
    pdSend k .accept, setR Reg.PDP_STATUS.VCONN (1 - s.rd Reg.PDP_STATUS.VCONN k) k,
    updPorts k fun x => { x with vconnSink := s.flag Reg.PDP_STATUS.VCONN k }]
  else pdSend k .reject

/-- PD_VCONN_OVERCURRENT (R450): VCONN carries `ma` for `us`; above 400 mA for 1 ms it switches off. -/
def execPdVconnOvercurrent (k ma us : Nat) : State → Host.Outcome State Fault Refusal := ends <| .read fun s =>
  if s.flag Reg.PDP_STATUS.VCONN k && decide (400 < ma ∧ 1000 ≤ us) then seqs [setR Reg.PDP_STATUS.VCONN 0 k, cableUnmarked k, pdFault k 1,
    .read fun t => if (t.port k).awaits = 1 then sendCaps k else offerChanged k]
  else .skip

/-- PD_HARD_RESET (R460): received from the sink, or sent on a protocol error. -/
def execPdHardReset (k : Nat) (received : Bool) (amid : Option Nat) : State → Host.Outcome State Fault Refusal := ends <|
  if received then pdReceive k amid false (hardReset k 1 1) else hardReset k 0 1

/-- PD_HARD_RESET_PARK (R460 step 2): 30 ms after step 1. -/
def execPdHardResetPark (k : Nat) : State → Host.Outcome State Fault Refusal := ends <| .read fun s =>
  let x := s.port k
  if x.hardStep = 1 ∧ x.hardAt + 30000 ≤ s.time then .seq (vbusOff k) (updPorts k fun x => { x with hardStep := 2 }) else .skip

/-- PD_VSAFE0V_HOLD_END (R460 steps 3 and 4): VBUS has lain below 800 mV since `since`, and 700 ms have passed. -/
def execPdVsafe0vHoldEnd (k since : Nat) : State → Host.Outcome State Fault Refusal := ends <| .read fun s =>
  let x := s.port k
  if x.hardStep = 2 ∧ x.hardAt + 30000 ≤ since ∧ since + 700000 ≤ s.time then seqs [
    updPorts k fun x => { x with hardStep := 0, vbusDis := false },
    setR Reg.PDP_STATUS.VCONN (bit (x.ra && !x.unmarked)) k, portStart k]
  else .skip

/-- A Soft Reset arrives (R461). -/
def softTook (k : Nat) : Prog := .read fun s =>
  if s.attached k ∧ (s.port k).hardStep = 0 then seqs [
    incSat Reg.PDP_CNT.SOFT_RESETS k, raisePort evPdReset k (dat 16 1 3 + dat 17 1 1), pdSend k .accept, sendCaps k]
  else .skip

/-- PD_SOFT_RESET_TIMEOUT (R461): no Accept came. -/
def execPdSoftResetTimeout (k : Nat) : State → Host.Outcome State Fault Refusal := ends <| .read fun s =>
  if (s.port k).awaits = 3 then hardReset k 0 1 else .skip

/-- A message without a use arrives (R441): a Structured VDM on SOP is NAKed, an Unstructured one ignored, anything else gets Not_Supported. -/
def unusedTook (k : Nat) (vdm structured : Bool) : Prog := .read fun s =>
  if !s.attached k || (vdm && !structured) then .skip
  else pdSend k (if vdm then .vdmNak else .notSupported)

/-- The service sequence ends without the mode (R463). -/
def svcFails (k status : Nat) : Prog := seqs [
  updPorts k fun x => { x with svcStep := 0, awaits := 0 },
  if status = stPdNoSvc then raisePort evPdService k (dat 16 1 2) else .skip,
  actionsDone k (fun a => a == 5) status, offerPaid k]

/-- The reply to the step under way (R463); `listed` where it is an ACK that lists the SVID or mode. -/
def discoverTook (k : Nat) (listed : Bool) : Prog := .read fun s =>
  let n := (s.port k).svcStep
  if n = 0 ∨ ¬ s.explicit k then .skip
  else if !listed then svcFails k stPdNoSvc
  else if n ≥ 4 then .skip
  else .seq (updPorts k fun x => { x with svcStep := n + 1 })
    (pdSend k (if n = 1 then .discoverSvids else if n = 2 then .discoverModes else .enterMode))

/-- The other port on the diagnostic pair (R464). -/
def svcTwin (k : Nat) : Nat := if k % 2 = 0 then k + 1 else k - 1

/-- Enter Mode is acknowledged (R463): the multiplexer connects the diagnostic pair, unless the other port of the pair has it by now (R464), or
no function that watches holds the port any more (R465): the device then leaves the mode at once. -/
def modeTook (k : Nat) : Prog := .read fun s =>
  let watched := s.flag Reg.PDP_STATUS.HELD k && !s.flag Reg.FN_STATUS.HELD (s.rd Reg.PDP_STATUS.HOLDER k)
  if (s.port k).svcStep ≠ 4 ∨ ¬ s.explicit k then .skip
  else if s.flag Reg.PDP_STATUS.SVC (svcTwin k) then .seq (pdSend k .exitMode) (svcFails k stPdSvcBusy)
  else if !watched then .seq (pdSend k .exitMode) (svcFails k stPdAborted)
  else seqs [
    updPorts k fun x => { x with svcStep := 0, awaits := 0 }, setR Reg.PDP_STATUS.SVC 1 k,
    raisePort evPdService k (dat 16 1 0), actionsDone k (fun a => a == 5) stOk, offerPaid k]

/-- The policy engine of a port takes a message. -/
def pdTake (k : Nat) : PdIn → Prog
  | .cableIdentity c v e => cableTook k c v e
  | .request p mv ma rev => requestTook k p mv ma rev
  | .eprEnter => eprTook k
  | .vconnSwap => swapTook k
  | .softReset => softTook k
  | .unsupported v st => unusedTook k v st
  | .discover l => discoverTook k l
  | .enterModeAck => modeTook k

/-- A message arrives for the policy engine (R462); while its pair does not run, the message waits (R467). -/
def pdMessage (k : Nat) (amid : Option Nat) (m : PdIn) : Prog := pdReceive k amid true <| .read fun s =>
  if 2 ≤ s.rd Reg.ENG_TASK.STATE (policyTask k) then updPorts k fun x => { x with inbox := x.inbox ++ [m] } else pdTake k m

/-- The policy pair of a port runs again: it takes the messages that have waited (R467). -/
def inboxTake (k : Nat) : Prog := .read fun s =>
  .seq (updPorts k fun x => { x with inbox := [] }) (each (s.port k).inbox (pdTake k))

/-- PD_CABLE_IDENTITY (R451). -/
def execPdCableIdentity (k curCode vmax : Nat) (epr : Bool) (amid : Option Nat) : State → Host.Outcome State Fault Refusal :=
  ends (pdMessage k amid (.cableIdentity curCode vmax epr))

/-- PD_REQUEST (R455). -/
def execPdRequest (k pos mv ma rev : Nat) (amid : Option Nat) : State → Host.Outcome State Fault Refusal :=
  ends (pdMessage k amid (.request pos mv ma rev))

/-- PD_EPR_ENTER (R453). -/
def execPdEprEnter (k : Nat) (amid : Option Nat) : State → Host.Outcome State Fault Refusal := ends (pdMessage k amid .eprEnter)

/-- PD_VCONN_SWAP (R450). -/
def execPdVconnSwap (k : Nat) (amid : Option Nat) : State → Host.Outcome State Fault Refusal := ends (pdMessage k amid .vconnSwap)

/-- PD_SOFT_RESET_RECEIVED (R461). -/
def execPdSoftResetReceived (k : Nat) (amid : Option Nat) : State → Host.Outcome State Fault Refusal := ends (pdMessage k amid .softReset)

/-- PD_UNSUPPORTED_MESSAGE (R441). -/
def execPdUnsupportedMessage (k : Nat) (vdm structured : Bool) (amid : Option Nat) : State → Host.Outcome State Fault Refusal :=
  ends (pdMessage k amid (.unsupported vdm structured))

/-- PD_DISCOVER_RESPONSE (R463). -/
def execPdDiscoverResponse (k : Nat) (listed : Bool) (amid : Option Nat) : State → Host.Outcome State Fault Refusal :=
  ends (pdMessage k amid (.discover listed))

/-- PD_ENTER_MODE_ACK (R463). -/
def execPdEnterModeAck (k : Nat) (amid : Option Nat) : State → Host.Outcome State Fault Refusal := ends (pdMessage k amid .enterModeAck)

/-- PD_SENDER_RESPONSE_TIMEOUT (R448, R450, R463): no GoodCRC or reply within the standard's retries. -/
def execPdSenderResponseTimeout (k : Nat) : State → Host.Outcome State Fault Refusal := ends <| .read fun s =>
  match (s.port k).awaits with
  | 1 => if (s.port k).vconnSink then cableAsk k else .seq (cableUnmarked k) (sendCaps k)
  | 2 => seqs [updPorts k fun x => { x with awaits := 0 }, actionsDone k (fun a => decide (a ≤ 2)) stPdNoResponse, offerPaid k]
  | 3 => hardReset k 0 1
  | 4 => .seq (cableUnmarked k) (sendCaps k)
  | 5 => svcFails k stPdNoResponse
  | _ => .skip

/-- PD_DETACH (R465). -/
def execPdDetach (k : Nat) : State → Host.Outcome State Fault Refusal := ends <| .read fun s =>
  let st := s.rd Reg.PDP_STATUS.TC_STATE k
  if st = 2 then setR Reg.PDP_STATUS.TC_STATE 1 k
  else if st = 3 then portDetach k
  else .skip

/-- PD_OVP (R459): the VBUS read by the Planter's comparator. While a new contract ramps in, the higher of the two voltages counts. -/
def execPdOvp (k vbus : Nat) : State → Host.Outcome State Fault Refusal := ends <| .read fun s =>
  let x := s.port k
  let v := if x.readyOwed then max x.nextV (s.rd Reg.PDP_CONTRACT.V k) else s.rd Reg.PDP_CONTRACT.V k
  let lim := if s.rd Reg.PDP_STATUS.CONTRACT k = 2 then 100 * (v + 1000) else 115 * v
  if s.attached k ∧ x.vbusEn ∧ v ≠ 0 ∧ 100 * vbus > lim then seqs [vbusOff k, pdFault k 2, hardReset k 0 2] else .skip

/-- PD_OCP (R459): constant current for 50 ms under a fixed contract, with no guard active. -/
def execPdOcp (k : Nat) : State → Host.Outcome State Fault Refusal := ends <| .read fun s =>
  let c := s.rd Reg.PDP_STATUS.CONTRACT k
  if s.attached k && (c == 1 || c == 3) && !s.flag Reg.SRC_GUARD.ACTIVE &&
      (match (s.chan (portLead k)).ccSince with | some t => decide (t + 50000 ≤ s.time) | none => false) then
    .seq (pdFault k 3) (hardReset k 0 3)
  else .skip

/-- PD_ERROR_RECOVERY_END (R449): the 250 ms end; with the retries exhausted the port is faulted. -/
def execPdErrorRecoveryEnd (k : Nat) : State → Host.Outcome State Fault Refusal := ends <| .read fun s =>
  let x := s.port k
  let spent := decide (s.rd Reg.PHC_CNT.RETRIES (portLead k) > s.rd Reg.PHC_START.RETRY_MAX (portLead k))
  if s.rd Reg.PDP_STATUS.TC_STATE k ≠ 4 ∨ s.time < x.recoverAt then .skip
  else seqs [contractGone k, setR Reg.PDP_STATUS.VCONN 0 k, setR Reg.PDP_STATUS.REV 0 k,
    actionsDone k (fun _ => true) stPdAborted,
    if spent then .seq (setR Reg.PDP_STATUS.TC_STATE 5 k) (pdFault k 0)
    else .seq (setR Reg.PDP_STATUS.TC_STATE 1 k) (updPorts k fun x => { x with vbusDis := false })]

/-- A port leaves its faulted state (R449). -/
def portFaultClear (k : Nat) : Prog := .read fun s =>
  if s.rd Reg.PDP_STATUS.TC_STATE k = 5 then seqs [
    taskAgain (26 * k + 25), setR Reg.PHC_CNT.RETRIES 0 (portLead k), setR Reg.PHC_STATUS.STAGE 0 (portLead k),
    setR Reg.PDP_STATUS.TC_STATE 1 k, updPorts k fun x => { x with vbusDis := false }]
  else .skip

/-- PD_FAULT_CLEAR (R449): a PF write of `PDP_CTRL.CLEAR`. -/
def execPdFaultClear (k : Nat) : State → Host.Outcome State Fault Refusal :=
  pfWrites Reg.PDP_CTRL.CLEAR k 0 (fun _ => 0) (portFaultClear k)

end Sys2Proof.Machine
end

