-- ==== Sys2Proof/Machine/Engines.lean ====
section
/-! DEFINITION. The engines (chapter 12): task periods and faults, disagreements and self-tests, bed faults, barriers, the
rollout's steps, staging's end and the trace window. -/

namespace Sys2Proof.Machine

/-- In SENTINEL a task runs where its pair runs continuously, the root's, PHC136's and PHC137's, or once in a round of the bed that hosts it, but for
sequencers, shards and auxiliary tasks (R556). -/
def State.roundRuns (s : State) (t p : Nat) : Bool :=
  s.mode != mSentinel || t == 232 || t == 233 || t == 259 ||
    (taskKind t != 0 && decide (taskKind t < 6) && s.eng.rounds.any fun r => r.1 == p / 32 && decide (s.time < r.2 + 60000) && (s.task t).roundAt != some r.2)

/-- TASK_PERIOD (R474, R477 to R480, R487): at a period boundary a task runs one period in `cycles` of 400 MHz, with the acts on which both tines
of its pair agree, and commits its checkpoint, or waits at a barrier. -/
def execTaskPeriod (t cycles : Nat) (acts : List TineAct) : State → Host.Outcome State Fault Refusal := ends <| .read fun s =>
  match (if t < 416 ∧ s.time % taskPeriod t = 0 ∧ cycles ≤ 400 * taskPeriod t ∧ (s.task t).waits = none then s.runsOn t else none) with
  | some p => if hasBit (s.rd Reg.PWR_DOM.ON) (p / 32 + 1) && s.roundRuns t p then seqs [
      updTasks t fun x => { x with roundAt := (s.eng.rounds.find? (·.1 == p / 32)).map (·.2) },
      tracePair p 1 (dat 16 2 t + dat 20 4 (s.task t).period), runPeriod t cycles acts] else .skip
  | none => .skip

/-- A task fault is taken, or where the task is on its way to another pair it is taken after the migration (R485). -/
def taskFaultDue (t kind : Nat) (acts : List TineAct) : Prog := .read fun s =>
  if (s.runsOn t).isSome ∧ ¬ s.planned t then .seq (cutActs t acts) (taskFault t kind)
  else if s.rd Reg.ENG_TASK.STATE t = 2 then updTasks t fun x => { x with owed := some (x.owed.getD kind) }
  else .skip

/-- TASK_FAULT (R476, R485): an exception, or with `overrun` a period that has not ended by the next boundary, after the period's acts so far. -/
def execTaskFault (t : Nat) (overrun : Bool) (acts : List TineAct) : State → Host.Outcome State Fault Refusal := ends <| .read fun s =>
  if t < 416 ∧ (overrun → s.time % taskPeriod t = 0) then taskFaultDue t (bit overrun) acts else .skip

/-- PAIR_DISAGREE (R481 to R485): the comparator of a pair sees a difference; `point` 0 effect, 1 read address, 2 signature. The
differing effect does not leave the pair: `acts` are the period's acts before it. A planned move completes (R485). More than one in a bed within
10 ms is a bed fault (R30). -/
def execPairDisagree (p point : Nat) (acts : List TineAct) : State → Host.Outcome State Fault Refusal := ends <| .read fun s =>
  match (s.taskOn p).filter fun t => s.runsOn t == some p with
  | none => .skip
  | some t =>
    let b := p / 32
    let recent := s.eng.recent.filter fun e => decide (s.time < e.2 + 10000)
    seqs [
      cutActs t acts, incSat Reg.ENG_CNT.DISAGREE,
      tracePair p 4 (dat 16 2 p + dat 18 1 point),
      raisePf evPairDisagree srcDevice (dat 16 2 p + dat 18 1 point + dat 20 2 t),
      updEng fun e => { e with recent := (b, s.time) :: recent },
      if recent.any (·.1 == b) then bedFault b
      else seqs [
        updPairs p fun x =>
          { x with
            st := 3, quarAt := s.time, strikes := s.time :: x.strikes.filter fun a => decide (s.time < a + 86400000000) },
        if s.planned t then toCheckpoint t else migrate t 0 [], sparesUpdate]]

/-- PAIR_SELF_TEST_END (R482): the 20 ms self-test of a quarantined pair ends; `pass` where both tines pass. -/
def execPairSelfTestEnd (p : Nat) (pass : Bool) : State → Host.Outcome State Fault Refusal := ends <| .read fun s =>
  let x := s.pair p
  if x.st = 3 ∧ s.time ≥ x.quarAt + 20000 then
    let strikes := x.strikes.filter fun a => decide (s.time < a + 86400000000)
    seqs [
      if pass && decide (strikes.length < 2) then updPairs p fun x => { x with st := 0 }
      else .seq (updPairs p fun x => { x with st := 4 }) (incSat Reg.ENG_CNT.RETIRED),
      sparesUpdate]
  else .skip

/-- A task runs on its new pair: a post-processing task gets the records held for it (R269), a bus agent its bus's results (R434), a port's policy
engine its messages (R467). A fault that fell into the migration is taken now (R485). -/
def taskResumes (t : Nat) : Prog := .read fun s => seqs [migrated t,
  (match taskSlot t with
   | some sl => if taskKind t = 4 then heldDeliver sl else if taskKind t = 3 then busHeldTake sl else .skip
   | none => if t % 26 = 25 ∧ t / 26 < 8 then inboxTake (t / 26) else .skip),
  match (s.task t).owed with
  | some kind => .seq (updTasks t fun x => { x with owed := none }) (taskFault t kind)
  | none => .skip]

/-- A planned mover's turn has come: of the movers of the bed in progress it is the first in the order of R31 (R496). -/
def State.moversTurn (s : State) (t : Nat) : Bool :=
  match s.moversOf (s.rd Reg.ENG_UPG.BED) with
  | m :: l => m == t || !l.contains t
  | [] => true

/-- TASK_MIGRATION_RESUME (R483, R496): at a period boundary at least 100 µs after the detection, or after a planned move began, the new pair
resumes the task. -/
def execTaskMigrationResume (t : Nat) : State → Host.Outcome State Fault Refusal := ends <| .read fun s =>
  if t < 416 ∧ s.rd Reg.ENG_TASK.STATE t = 2 ∧ s.time ≥ (s.task t).readyAt ∧ s.time % taskPeriod t = 0 ∧ (s.planned t → s.moversTurn t) then
    taskResumes t
  else .skip

/-- BED_FAULT (R484). -/
def execBedFault (b : Nat) : State → Host.Outcome State Fault Refusal := ends (if b < 16 then bedFault b else .skip)

/-- The task waits at the barrier. -/
def State.waitsAt (s : State) (k t : Nat) : Bool := ((s.task t).waits.map (·.1)) == some k

/-- BARRIER_RELEASE (R487): the last member has arrived at barrier `k`: each member is released, and its period goes on. -/
def execBarrierRelease (k : Nat) : State → Host.Outcome State Fault Refusal := ends <| .read fun s =>
  let ms := s.barrierMembers k
  if k < 16 ∧ ms ≠ [] ∧ ms.all (s.waitsAt k) then each ms fun t => seqs [
    tracePair (s.hostOf t) 5 (dat 16 1 k + dat 17 1 1),
    updTasks t fun x => { x with waits := none, rest := [] },
    runPeriod t (s.task t).restCycles (s.task t).rest]
  else .skip

/-- BARRIER_TIMEOUT (R487): a member's wait passes the barrier's timeout: a task fault. -/
def execBarrierTimeout (k t : Nat) : State → Host.Outcome State Fault Refusal := ends <| .read fun s =>
  match (s.task t).waits with
  | some (k', since) => if t < 416 ∧ k' = k ∧ s.time ≥ since + s.barrierTimeout t k then
      .seq (tracePair (s.hostOf t) 5 (dat 16 1 k + dat 17 1 2)) (taskFaultDue t 2 []) else .skip
  | none => .skip

/-- The pair of bed `b` that a task elsewhere goes home to (R496 step 5): its own, or where that is not to be had a spare of the bed. Its value
depends on every task and pair, so it is unfolded by name only. -/
@[irreducible] def State.homeFor (s : State) (b t : Nat) : Option Nat :=
  if s.rd Reg.ENG_TASK.STATE t ≥ 2 ∨ s.hostOf t / 32 = b then none
  else if s.pairState (homePair t) = 1 then some (homePair t) else s.freePairs.find? fun p => p / 32 == b

/-- Step 5 of R496 begins: the tasks of a bed move home, in the order of R31. -/
def tasksHome (b : Nat) : Prog := .seq (setR Reg.ENG_UPG.STEP 5) (each (inOrder ((List.range 26).map (26 * b + ·))) fun t => .read fun s =>
  match s.homeFor b t with
  | some q => planMove t q
  | none => .skip)

/-- The pairs of the bed in progress after its self-test (R482, R496 step 4): one in quarantine goes on with its own test. -/
def pairsBack (b : Nat) : Prog := each (List.range 32) fun i => updPairs (32 * b + i) fun x => if x.st = 5 then { x with st := 0 } else x

/-- The generation that a bed in progress loads: while aborting the active one. -/
def State.loadGen (s : State) : Nat := if s.rd Reg.ENG_UPG.STATE = 3 then s.rd Reg.ENG_GEN.STAGED else s.rd Reg.ENG_GEN.ACTIVE

/-- ROLLOUT_BED_STEP (R496, R498): the present step of the bed in progress completes, steps 2 and 5 once every move is over, step 6 of bed 0 at a
tick boundary; `bad` are the pairs that fail the self-test of step 4. While aborting, a bed returns by the same steps in the active generation. -/
def execRolloutBedStep (bad : List Nat) : State → Host.Outcome State Fault Refusal := ends <| .read fun s =>
  let st := s.rd Reg.ENG_UPG.STATE
  let b := s.rd Reg.ENG_UPG.BED
  let go := fun k => setR Reg.ENG_UPG.STEP k
  if (st ≠ 3 ∧ st ≠ 4) ∨ b ≥ 16 then .skip
  else match s.rd Reg.ENG_UPG.STEP with
    | 1 => if s.time % 10000 = 0 then .seq (rootPlanned 8) (bedEmpties b) else .skip
    | 2 => if s.tasksIn b ≠ [] then bedEmpties b else if s.moversOf b ≠ [] then .skip else seqs [
        each (List.range 32) fun i => updPairs (32 * b + i) fun x => if x.st = 4 ∨ x.st = 3 then x else { x with st := 5 },
        go 3, sparesUpdate]
    | 3 => seqs [
        traceWrite 0xFFFF 9 b (dat 16 2 s.loadGen),
        setR Reg.ENG_UPG.BEDS_NEW (if st = 3 then setBit (s.rd Reg.ENG_UPG.BEDS_NEW) b else clrBit (s.rd Reg.ENG_UPG.BEDS_NEW) b),
        go 4]
    | 4 => if bad.any fun p => p / 32 == b then .seq (rollAbort 2) (bedFault b) else seqs [pairsBack b, sparesUpdate, tasksHome b, sparesUpdate]
    | 5 => if s.moversOf b ≠ [] then .skip else seqs [schemaUpdate, go 6]
    | 6 => if b = 0 ∧ s.mode ≠ mSentinel ∧ s.time % 10000 ≠ 0 then .skip else seqs [
        if b = 0 ∧ s.mode ≠ mSentinel then rootPlanned 0 else .skip,
        raisePf evMcodeBed srcDevice (dat 16 1 b + dat 17 2 s.loadGen),
        if st = 3 then .seq (updEng fun e => { e with dwellAt := s.time, reloaded := b :: e.reloaded }) (go 7)
        else .seq (updEng fun e => { e with toReturn := e.toReturn.filter (· != b) }) bedReturns]
    | _ => .skip

/-- ROLLOUT_DWELL_END (R496 step 7): the next bed begins; after bed 0 the keep record of ACTIVE_BANK is written, whose commit
completes the rollout (R499). -/
def execRolloutDwellEnd : State → Host.Outcome State Fault Refusal := ends <| .read fun s =>
  if s.rd Reg.ENG_UPG.STATE = 3 ∧ s.rd Reg.ENG_UPG.STEP = 7 ∧ s.time ≥ s.eng.dwellAt + 1000000 * s.eng.dwell then
    match rollNext (s.rd Reg.ENG_UPG.BED) with
    | some b => rollBed b
    | none => if s.keep.queue.any KeepReq.isBoot then .skip else .seq (updEng fun e => { e with roll := none })
        (keepRequest { effect := .boot (1 - s.rd Reg.ENG_BOOT.ACTIVE_BANK), ctl := s.eng.roll })
  else .skip

/-- The cause for which a staged image is turned away, as in `ENG_STAGE.CAUSE` (R489, R490, R493); 0 where none is. -/
def State.stageCause (s : State) (img : Image) (wantLen wantGen : Nat) : Nat :=
  let d := (img.gen + 65536 - s.rd Reg.ENG_GEN.ACTIVE) % 65536
  if img.err ≠ 0 then (if img.err = 4 then 8 else img.err)
  else if ¬ (0 < d ∧ d < 32768) then 4
  else if s.rd Reg.ENG_SCHEMA.ACT_HI < img.lo then 5
  else if img.len ≠ wantLen ∨ img.gen ≠ wantGen then 6 else 0

/-- MICROCODE_STAGE_COMPLETE (R489, R490, R493): the staged bank has been read back as `img`; `cause` 7 or 8 where the host memory or the flash
failed. A host-memory error also stops the ring (R371). -/
def execMicrocodeStageComplete (img : Image) (cause : Nat) : State → Host.Outcome State Fault Refusal := ends <| .read fun s =>
  match s.eng.stage with
  | none => .skip
  | some (c, wantLen, wantGen) =>
    let code := if cause = 7 ∨ cause = 8 then cause else s.stageCause img wantLen wantGen
    seqs [
      updEng fun e => { e with stage := none }, setR Reg.ENG_STAGE.PROGRESS 0, setR Reg.ENG_STAGE.CAUSE code,
      if code = 0 then seqs [
        imageStaged img, raisePf evMcodeStaged srcDevice (dat 16 2 img.gen + dat 18 2 img.lo + dat 20 2 img.hi), finishRun c stOk img.gen]
      else seqs [
        setR Reg.ENG_UPG.STATE 0, finishRun c stRejImage 0 code, if code = 7 then ringError c.fn c.ring 2 else .skip]]

/-- TRACE_WINDOW_READ (R504): a read of window word 3 advances the read index. -/
def execTraceWindowRead : State → Host.Outcome State Fault Refusal := ends <| .seq
  (updR Reg.ENG_TRACE_PTR.RD fun s => (s.rd Reg.ENG_TRACE_PTR.RD + 1) % 16384) traceShow

/-- The snapshot of a pair into `ENG_PAIR` (R507). -/
def pairShow (p : Nat) : Prog := .read fun s => seqs [
  setR Reg.ENG_PAIR.STATE (s.pairState p), setR Reg.ENG_PAIR.TASK ((s.taskOn p).getD 0x1FF),
  setR Reg.ENG_PAIR.GEN (match s.taskOn p with
    | some t => s.rd Reg.ENG_TASK.GEN t
    | none => bit (hasBit (s.rd Reg.ENG_UPG.BEDS_NEW) (p / 32))),
  setR Reg.ENG_PAIR.STRIKES (min 3 ((s.pair p).strikes.filter fun a => decide (s.time < a + 86400000000)).length)]

/-- PAIR_SNAPSHOT_SELECT (R507): a write of `ENG_PAIR_SEL`. -/
def execPairSnapshotSelect (p : Nat) : State → Host.Outcome State Fault Refusal :=
  pfWrites Reg.ENG_PAIR_SEL.PAIR 0 0 (fun _ => Reg.ENG_PAIR_SEL.PAIR.rangeCause p) (.seq (setR Reg.ENG_PAIR_SEL.PAIR p) (pairShow p))

/-- TINE_BREAKPOINT_HIT (R486, R596): in debug run a pair reaches a breakpoint and halts; its watchdog stops (R531). -/
def execTineBreakpointHit (p addr : Nat) : State → Host.Outcome State Fault Refusal := ends <| .read fun s =>
  if s.flag Reg.SVC_STATUS.DBG_RUN && (s.pair p).bps.contains addr && !(s.pair p).halted then seqs [
    updPairs p fun x => { x with halted := true },
    setR Reg.SVC_STATUS.HALTED_PAIRS (s.rd Reg.SVC_STATUS.HALTED_PAIRS + 1),
    setR Reg.WDG_STATUS.STATE 2, updSun fun x => { x with stopAt := some (x.stopAt.getD s.time) }]
  else .skip

end Sys2Proof.Machine
end

