-- ==== Sys2Proof/Machine/OpSlots.lean ====
section
/-! DEFINITION. What the slot opcodes check and do (R155, R161, R167, R173, R182, R183, R187, R223, R353, R383). Each `...Bad`
answers the status and DETAIL of the first check that fails; each `...Do` acts on an accepted descriptor and completes it. -/

namespace Sys2Proof.Machine

/-- The first check of a list that fails: its status and DETAIL (R350). -/
def firstBad (l : List (Bool × Nat × Nat)) : Option (Nat × Nat) := (l.find? fun e => e.1).map fun e => e.2

/-- A payload field out of range (R357). -/
def param (off : Nat) : Nat × Nat := (stRejParam, off)

/-- A value lies outside a range. -/
def outside (lo hi v : Nat) : Bool := decide (v < lo) || decide (hi < v)

/-- A descriptor has executed and changed state: tag history, the token of its ring, and its completion (R352, R356, R357). -/
def opDone (c : Ctl) (code : Nat) (result : State → Nat) : Prog := seqs [
  histAdd c code, tokenNote c, .read fun s => complete c code stOk (result s)]

/-- A descriptor has executed and changed no state: its completion, and no entry of the tag history (R352). -/
def opTold (c : Ctl) (code result : Nat) : Prog := .seq (tokenNote c) (complete c code stOk result)

/-- The owner of a slot for the checks of a descriptor (R155): a change that waits for its commit counts. -/
def State.effOwner (s : State) (sl : Nat) : Option Nat :=
  match (s.slot sl).pendingOwner with
  | some o => o
  | none => s.ownerOf sl

/-- The function owns the slot. -/
def State.owns (s : State) (fn sl : Nat) : Bool := s.effOwner sl == some fn

/-- The slots a function owns, for the checks of a descriptor (R383). -/
def State.ownsCount (s : State) (fn : Nat) : Nat := ((List.range 64).filter fun sl => s.owns fn sl).length

/-- Bit `sl` of a tenant's SLOTMASK (R379, R383). -/
def State.slotAllowed (s : State) (fn sl : Nat) : Bool :=
  if sl < 32 then hasBit (s.rd Reg.TEN_SLOTMASK_LO.MASK_LO fn) sl else hasBit (s.rd Reg.TEN_SLOTMASK_HI.MASK_HI fn) (sl - 32)

/-- CHARGE_START, TRANSFER and AUDIT are rejected with REJ_MODE: outside RUN, CURTAIL and ISLAND, and in dusk (R191, R562). -/
def State.startBarred (s : State) : Bool := s.inDusk || !s.running

/-! Ownership (R155, R383). -/

/-- SLOT_CLAIM's checks, in their order (R383); a claim by the present owner passes. -/
def claimBad (s : State) (c : Ctl) : Option (Nat × Nat) :=
  let sl := c.target
  let vf := c.fn != pfFn
  if s.owns c.fn sl then none
  else firstBad [
    (vf && !s.slotAllowed c.fn sl, stRejPerm, 0),
    (vf && decide (s.ownsCount c.fn ≥ s.rd Reg.TEN_QUOTA_B.MAX_SLOTS c.fn), stRejQuota, 0),
    (s.oddGanged sl, stRejState, 0),
    ((s.effOwner sl).isSome, stRejState, 0)]

/-- SLOT_CLAIM (R155): the keep record is queued, and the slot counts as the issuer's from now on. -/
def claimDo (c : Ctl) : Prog := .read fun s =>
  if s.owns c.fn c.target then opTold c 0x10 0
  else seqs [
    updSlots c.target fun x => { x with pendingOwner := some (some c.fn) },
    runOn c 0x10, keepRequest { effect := .owner c.target (some c.fn), ctl := some c }]

/-- The slot runs something that a release must stop first (R155). -/
def State.slotBusy (s : State) (sl : Nat) : Bool :=
  let st := s.slSt sl
  st == slCharging || st == slSuspended || st == slDonor || st == slStopping

/-- SLOT_RELEASE's checks (R155). -/
def releaseBad (s : State) (c : Ctl) : Option (Nat × Nat) :=
  let vf := c.fn != pfFn
  match s.effOwner c.target with
  | none => some (if vf then stRejPerm else stNotActive, 0)
  | some o => firstBad [(vf && o != c.fn, stRejPerm, 0), (vf && s.slotBusy c.target, stRejState, 0)]

/-- SLOT_RELEASE (R155): the PF's release of a busy slot soft-stops it first. -/
def releaseDo (c : Ctl) : Prog := .read fun s =>
  let sl := c.target
  seqs [
    updSlots sl fun x => { x with pendingOwner := some none }, runOn c 0x11,
    if s.slotBusy sl then .seq (updSlots sl fun x => { x with releaseCtl := some c }) (endAll sl 2 slIdle)
    else keepRequest { effect := .owner sl none, ctl := some c }]

/-! Charging (R161, R173, R223). -/

/-- A reservation may be made (R223): RESV_SOC, and RESV_TICK later than the tick being planned and at most 7 days ahead. -/
def resvBad (s : State) (soc tick offSoc offTick : Nat) : Option (Nat × Nat) :=
  let d := (tick + 2 ^ 32 - s.token) % 2 ^ 32
  firstBad [(soc != 0 && outside 100 10000 soc, param offSoc), (soc != 0 && (d == 0 || decide (d > 60480000)), param offTick)]

/-- A reservation is set, replaced or cancelled (R223). -/
def resvSet (sl soc tick : Nat) : Prog := .seq
  (if soc = 0 then resvEnd sl
   else seqs [setR Reg.ALM_SLOT_A.RESV 1 sl, setR Reg.ALM_SLOT_A.RESV_SOC soc sl, setR Reg.ALM_SLOT_B.RESV_TICK tick sl])
  (updSlots sl fun x => { x with resvLow := 0, resvOk := 0 })

/-- What CHARGE_START and AUDIT check of the slot (R161, R187). -/
def chargeBad (s : State) (c : Ctl) (p : Profile) : Option (Nat × Nat) :=
  let sl := c.target
  (firstBad [
    (!s.owns c.fn sl, stRejPerm, 0), (s.startBarred, stRejMode, 0), (s.slSt sl != slIdle, stRejState, 0),
    (s.flag Reg.SLT_STATUS.WET sl, stRejWet, 0), (!s.cellAt sl (thRefuse (s.rd Reg.SLT_PACK_A.CHEM sl)), stRejOverdis, 0)]).or
  ((s.profileBad sl p).map param)

/-- CHARGE_START's checks (R161, R223). -/
def chargeStartBad (s : State) (c : Ctl) (p : Profile) (soc tick : Nat) : Option (Nat × Nat) :=
  (chargeBad s c p).or (resvBad s soc tick 32 36)

/-- CHARGE_START (R161): the profile is accepted and the slot charges, queued. -/
def chargeStartDo (c : Ctl) (p : Profile) (soc tick : Nat) : Prog := .read fun s => seqs [
  updSlots c.target fun x => { x with audStep := 0 },
  chargeBegin c.target (s.profileFill c.target p),
  setR Reg.ALM_SLOT_A.PRIO p.prio c.target, resvSet c.target soc tick,
  opDone c 0x12 State.token]

/-- CHARGE_TERMINATE's checks (R173, R185, R190): NOT_ACTIVE where nothing runs that it could end. -/
def terminateBad (s : State) (c : Ctl) : Option (Nat × Nat) :=
  let sl := c.target
  let st := s.slSt sl
  let runs := st == slCharging || st == slSuspended || (st == slDonor && (s.rd Reg.SLT_STATUS.ROLE sl == 1 || (s.slot sl).audStep != 0))
  firstBad [(c.fn != pfFn && !s.owns c.fn sl, stRejPerm, 0), (!runs, stNotActive, 0)]

/-- CHARGE_TERMINATE (R173, R185, R190): a charge, a TRANSFER or an AUDIT ends with reason HOST. -/
def terminateDo (c : Ctl) : Prog := .read fun s =>
  let sl := c.target
  .seq
    (if (s.slot sl).audStep ≠ 0 then seqs [receiptEnd sl 4, auditEnd sl 1 false, stopSlot sl slIdle none]
     else if s.slSt sl = slDonor then transferStop sl 4
     else endCharge sl 0 4)
    (opDone c 0x13 State.token)

/-- RESERVE's checks (R223). -/
def reserveBad (s : State) (c : Ctl) (soc tick : Nat) : Option (Nat × Nat) :=
  let st := s.slSt c.target
  (firstBad [(!s.owns c.fn c.target, stRejPerm, 0), (st != slCharging && st != slSuspended, stRejState, 0)]).or (resvBad s soc tick 18 20)

/-- RESERVE (R223). -/
def reserveDo (c : Ctl) (prio soc tick : Nat) : Prog := seqs [
  setR Reg.ALM_SLOT_A.PRIO prio c.target, resvSet c.target soc tick, opDone c 0x15 State.token]

/-! TRANSFER (R183, R385). -/

/-- The issuer may name a receiver (R183): a slot it owns, or a port it holds. -/
def State.mayReceive (s : State) (fn rx : Nat) : Bool :=
  if rx < 64 then s.owns fn rx else s.flag Reg.PDP_STATUS.HELD (rx - 128) && s.rd Reg.PDP_STATUS.HOLDER (rx - 128) == fn

/-- The receiver takes a TRANSFER (R183): a CHARGING slot, or a port with an explicit contract, without another donor. -/
def State.receives (s : State) (rx : Nat) : Bool :=
  (s.donorOf rx).isNone && (if rx < 64 then s.slSt rx == slCharging else s.explicit (rx - 128))

/-- The greatest IMAX and AUD_I of a donor slot, mA (R183, R187). -/
def State.donorMax (s : State) (sl : Nat) : Nat :=
  min (100 * s.rd Reg.SLT_PACK_A.IDIS_MAX sl) (10000 * s.nPhys (s.slotLead sl))

/-- The parameters with their defaults (R183). -/
def State.transferFill (s : State) (sl : Nat) (p : TransferPar) : TransferPar :=
  let vdis := s.rd Reg.SLT_PACK_B.VDIS_CELL sl
  { imax := if p.imax = 0 then s.donorMax sl else p.imax
    floorCell := if p.floorCell = 0 then max vdis (min (vdis + 200) (s.rd Reg.SLT_PACK_B.VCHG_CELL sl - 300)) else p.floorCell
    socFloor := p.socFloor
    emax := p.emax }

/-- TRANSFER's checks (R183, R385). -/
def transferBad (s : State) (c : Ctl) (p : TransferPar) : Option (Nat × Nat) :=
  let d := c.target
  let rx := c.target2
  let q := s.transferFill d p
  let own := s.effOwner d
  firstBad [
    (decide (64 ≤ rx) && outside 0x80 0x87 rx, param 10),
    (c.fn != pfFn && !(s.owns c.fn d && s.mayReceive c.fn rx), stRejPerm, 0),
    (s.startBarred, stRejMode, 0),
    (d == rx || s.slSt d != slIdle || !s.receives rx, stRejState, 0),
    -- an unclaimed slot never donates (R154)
    (own.isNone, stRejState, 0),
    (s.flag Reg.SLT_STATUS.WET d, stRejWet, 0),
    (match own with | some f => decide (f < 1024) && decide (s.xfersOwned f ≥ s.rd Reg.TEN_QUOTA_B.MAX_XFER f) | none => false, stRejQuota, 0),
    (s.rd Reg.SLT_PACK_A.IDIS_MAX d == 0 || outside 100 (s.donorMax d) q.imax, param 16),
    (outside (s.rd Reg.SLT_PACK_B.VDIS_CELL d) (s.rd Reg.SLT_PACK_B.VCHG_CELL d - 300) q.floorCell, param 18),
    (decide (9000 < q.socFloor), param 20), (decide (0x7FFFFFFF < q.emax), param 24)]

/-- TRANSFER (R183, R184): donor and receiver are paired; the plan starts the donor in REV_I. -/
def transferDo (c : Ctl) (p : TransferPar) : Prog := .read fun s =>
  let d := c.target
  let q := s.transferFill d p
  seqs [
    setR Reg.SLT_STATUS.STATE slDonor d, setR Reg.SLT_STATUS.ROLE 1 d, setR Reg.SLT_LINK.PEER c.target2 d,
    if c.target2 < 64 then .seq (setR Reg.SLT_STATUS.RECEIVER 1 c.target2) (setR Reg.SLT_LINK.PEER d c.target2) else .skip,
    updSlots d fun x => { x with imax := q.imax, floorCell := q.floorCell, socFloor := q.socFloor, emax := q.emax, eOut := 0, eFrac := 0 },
    useUpdate (s.ownerOrPf d), opDone c 0x16 State.token]

/-! AUDIT (R187). -/

/-- The parameters with their defaults (R187); `nominal` in 0.1 mAh. -/
def State.auditFill (s : State) (sl : Nat) (a : AuditPar) : AuditPar :=
  let nominal := (s.gauge sl).nominal
  { audI := if a.audI = 0 then min 5000 (s.donorMax sl) else a.audI
    audTaper := if a.audTaper = 0 then (if nominal = 0 then 500 else max 20 (min 5000 (nominal / 200))) else a.audTaper
    rest := if a.rest = 0 then 30 else a.rest
    recharge := a.recharge }

/-- AUDIT's checks (R187). -/
def auditBad (s : State) (c : Ctl) (p : Profile) (a : AuditPar) : Option (Nat × Nat) :=
  let q := s.auditFill c.target a
  (chargeBad s c p).or (firstBad [
    (decide (s.rd Reg.SLT_PACK_A.IDIS_MAX c.target < 10) || outside 1000 (s.donorMax c.target) q.audI, param 32),
    (outside 20 5000 q.audTaper, param 34), (decide (120 < q.rest), param 36)])

/-- AUDIT (R187, R188 step 1): the fill charges by the profile. -/
def auditDo (c : Ctl) (p : Profile) (a : AuditPar) : Prog := .read fun s =>
  let sl := c.target
  let q := s.auditFill sl a
  seqs [
    chargeBegin sl (s.profileFill sl p),
    setR Reg.ALM_SLOT_A.PRIO p.prio sl, resvEnd sl,
    updSlots sl fun x =>
      { x with
        audStep := 1, audI := q.audI, audTaper := q.audTaper, audRest := q.rest, audRecharge := q.recharge, pauseTotal := 0,
        audBad := false, audQ := 0, audE := 0, audEFrac := 0 },
    opDone c 0x17 State.token]

/-! SET_LIMITS (R353). -/

/-- The temperature window of a SET_LIMITS (R167): the offset of the first threshold outside. -/
def State.windowBad (s : State) (sl : Nat) (l : Limits) : Option (Nat × Nat) :=
  let d := tempDefault (s.rd Reg.SLT_PACK_A.CHEM sl)
  let tOt : Int := s.rd Reg.SLT_GCFG.T_OT
  firstBad [
    (!s.gaugeOn sl || decide (l.t1 < d.1), param 24), (decide (l.t2 < d.2.1) || decide (l.t2 ≤ l.t1), param 25),
    (decide (d.2.2.1 < l.t3) || decide (l.t3 ≤ l.t2), param 26),
    (decide (d.2.2.2 < l.t4) || decide (l.t4 ≤ l.t3) || decide (tOt - 3 < l.t4), param 27)]

/-- One warning level above 100 % (R320). -/
def warnBad (w : Nat) : Bool := (List.range 4).any fun k => decide (100 < w / 2 ^ (8 * k) % 128)

/-- SET_LIMITS' checks (R353, R167, R182, R320). -/
def limitsBad (s : State) (c : Ctl) (l : Limits) : Option (Nat × Nat) :=
  let sl := c.target
  let on := fun k => hasBit l.mask k
  (firstBad [
    (!s.owns c.fn sl, stRejPerm, 0), (decide (127 < l.mask), param 16)]).or <|
  ((if on 2 then s.windowBad sl l else none).or <| firstBad [
    (on 3 && warnBad l.warn, param 28),
    (on 4 && s.slSt sl != slIdle, stRejState, 0),
    (on 5 && s.slSt sl == slFaulted && s.causePersists sl, stRejState, 0),
    (on 6 && s.slSt sl != slIdentFail, stRejState, 0)])

/-- SET_LIMITS (R353): the masked fields apply together. -/
def limitsDo (c : Ctl) (l : Limits) : Prog := .read fun s =>
  let sl := c.target
  let on := fun k => hasBit l.mask k
  let may := fun k (p : Prog) => if on k then p else .skip
  seqs [
    may 0 (updSlots sl fun x => { x with icap := if l.icap = 0 then none else some l.icap }),
    may 1 (updSlots sl fun x => { x with donorGrant := l.donor }),
    may 2 (seqs [
      setR Reg.SLT_TEMP_WIN.T1 (toField 8 l.t1) sl, setR Reg.SLT_TEMP_WIN.T2 (toField 8 l.t2) sl,
      setR Reg.SLT_TEMP_WIN.T3 (toField 8 l.t3) sl, setR Reg.SLT_TEMP_WIN.T4 (toField 8 l.t4) sl, zoneUpdate sl]),
    may 3 (seqs [
      setR Reg.GAU_WARN.LVL0 (l.warn % 256) sl, setR Reg.GAU_WARN.LVL1 (l.warn / 2 ^ 8 % 256) sl,
      setR Reg.GAU_WARN.LVL2 (l.warn / 2 ^ 16 % 256) sl, setR Reg.GAU_WARN.LVL3 (l.warn / 2 ^ 24 % 256) sl,
      if s.gaugeOn sl then warnFresh sl else setR Reg.GAU_WARN_ST.FIRED 0 sl]),
    may 4 (.seq (updSlots sl fun x => { x with wetRunning := true }) (dacShow (sl / 16))),
    may 5 (if s.slSt sl = slFaulted then faultClear sl else .skip),
    may 6 (identBegin sl),
    opDone c 0x14 State.token]

end Sys2Proof.Machine
end

