-- ==== Sys2Proof/Machine/OpUnits.lean ====
section
/-! DEFINITION. What the opcodes of the gauge, of measurement, of the two-wire buses and of the PD ports check and do (R255, R263,
R281, R314, R315, R316, R404, R431, R445 to R447, R460 to R465). -/

namespace Sys2Proof.Machine

/-! The gauge (R314 to R316). -/

/-- A pack is seated at the slot, for GAUGE_RESTORE (R314). -/
def State.restorable (s : State) (sl : Nat) : Bool :=
  s.gaugeOn sl && (s.seated sl || (s.slSt sl == slFaulted && (s.slot sl).idClosed))

/-- GAUGE_RESTORE's checks (R314). -/
def restoreBad (s : State) (c : Ctl) (r : RestorePar) : Option (Nat × Nat) :=
  let sl := c.target
  let cutOnly := hasBit r.flags 2
  let nom := (s.gauge sl).nominal
  let serial := s.rd Reg.SLT_PACK_ID_HI.ID_HI sl * 2 ^ 32 + s.rd Reg.SLT_PACK_ID_LO.ID_LO sl
  firstBad [
    (!s.owns c.fn sl, stRejPerm, 0), (!s.restorable sl, stRejState, 0),
    ((s.slot sl).method == 1 && r.packId != serial, stRejPack, 0),
    (!cutOnly && (outside 1000 4000000 r.qFull || (nom != 0 && (decide (100 * r.qFull < 30 * nom) || decide (150 * nom < 100 * r.qFull)))), param 24),
    (!cutOnly && hasBit r.flags 1 && (decide (10 * r.qRem < -(r.qFull : Int)) || decide ((11 * r.qFull : Nat) < 10 * r.qRem)), param 28),
    (outside (s.rd Reg.SLT_PACK_B.VDIS_CELL sl) (s.rd Reg.SLT_PACK_B.VCHG_CELL sl - 300) r.vCut, param 32),
    (decide (512 ≤ r.flags), param 34)]

/-- A restore of the cut-off alone (R315). -/
def restoreCut (sl vCut : Nat) : Prog := .read fun s =>
  if s.rd Reg.GAU_STATUS.STATE sl = 2 then moveCut sl vCut
  else seqs [setR Reg.GAU_SOC.V_CUT_CELL vCut sl, setR Reg.GAU_STATUS.CUT_DEF 0 sl, unrestoredEstimate sl]

/-- A restore of the record (R315): without KEEP_REM the charge follows the voltage; with it the record's charge and what has been
counted since PACK_IN, with GAUGE_DOUBT where the voltage of a resting pack contradicts it. -/
def restoreRecord (sl : Nat) (r : RestorePar) : Prog := .read fun s =>
  let keepRem := hasBit r.flags 1
  let was := s.rd Reg.GAU_STATUS.STATE sl
  seqs [
    setR Reg.GAU_QFULL.Q_FULL r.qFull sl, setR Reg.GAU_SOC.V_CUT_CELL r.vCut sl, setR Reg.GAU_STATUS.CUT_DEF 0 sl,
    setR Reg.GAU_STATUS.LEARNED (r.flags % 2) sl, setR Reg.GAU_CNT.LEARN_CNT r.learnCnt sl,
    setR Reg.GAU_THRU_IN.THRU_IN r.thruIn sl, setR Reg.GAU_THRU_OUT.THRU_OUT r.thruOut sl,
    updGauges sl fun g => { g with inFrac := 0, outFrac := 0, learnFrom := none, capAtFull := false },
    updR Reg.GAU_QREM.Q_REM (fun t =>
      toField 32 (if keepRem then r.qRem + (t.gauge sl).counted else t.qFromV sl r.qFull)) sl,
    takeAnchor sl (if keepRem then r.flags / 2 ^ 6 % 4 else 1),
    setR Reg.GAU_STATUS.STATE 2 sl, gaugeDerive sl,
    .read fun t =>
      let a := t.rd Reg.GAU_SOC.SOC sl
      let v := t.socFromV sl
      if keepRem && decide (2000 < max a v - min a v) && decide (200 * (t.iAvg sl).natAbs < r.qFull) then
        raiseSlot evGaugeDoubt sl (dat 16 2 a + dat 18 2 v) else .skip,
    if was = 2 then warnCheck sl else warnFresh sl]

/-- GAUGE_RESTORE (R315). -/
def restoreDo (c : Ctl) (r : RestorePar) : Prog := .seq
  (if hasBit r.flags 2 then restoreCut c.target r.vCut else restoreRecord c.target r) (opDone c 0x20 fun _ => 0)

/-- GAUGE_SNAPSHOT's checks (R316): the owner or the PF, and a gauge. -/
def snapshotBad (s : State) (c : Ctl) : Option (Nat × Nat) := firstBad [
  (c.fn != pfFn && !s.owns c.fn c.target, stRejPerm, 0), (!s.gaugeOn c.target, stRejState, 0)]

/-- GAUGE_SNAPSHOT (R316): RESULT is the snapshot's SEQ. -/
def snapshotDo (c : Ctl) : Prog := .seq (snapshot c.target false)
  (.read fun s => opTold c 0x21 (s.rd Reg.GAU_SNAP.SEQ c.target))

/-! Measurement (R255, R256, R263, R264, R281, R282). -/

/-- The channels of an ICV that the owner of its slot `j` may name (R256). -/
def windowChan (j chan : Nat) : Bool := (decide (chan < 12) && chan / 3 == j) || chan == 12 + j || (decide (17 ≤ chan) && decide (chan ≤ 19))

/-- A VF's load stays in the window of a slot it owns (R256); an empty entry names no channel. -/
def State.windowMay (s : State) (fn icv i : Nat) (e : Entry) : Bool :=
  s.windows icv && !isBase i && s.owns fn (4 * icv + i / 8) && (e.rep == 0 || windowChan (i / 8) e.chan)

/-- The loads of a MEAS_TABLE_LOAD: entry, word A, word B. -/
def loadsOf (first : Nat) (words : List (Nat × Nat)) : List (Nat × Nat × Nat) := words.zipIdx.map fun e => (first + e.2, e.1)

/-- MEAS_TABLE_LOAD's checks (R255, R256, R353). -/
def tableLoadBad (s : State) (c : Ctl) (first : Nat) (words : List (Nat × Nat)) : Option (Nat × Nat) :=
  let n := c.target
  let l := loadsOf first words
  firstBad [
    (decide (31 < first), param 16), (outside 1 5 words.length || decide (32 < first + words.length), param 17),
    (c.fn != pfFn && !(l.all fun e => s.windowMay c.fn n e.1 (entryOf e.2.1 e.2.2)), stRejPerm, 0),
    (!tableOk (s.settle n) (s.windows n) (s.tableWith n l), stRejTable, 0)]

/-- MEAS_TABLE_LOAD (R255): the entries enter the pending copy. -/
def tableLoadDo (c : Ctl) (first : Nat) (words : List (Nat × Nat)) : Prog := .seq (pendAdd c.target (loadsOf first words)) (opDone c 0x30 fun _ => 0)

/-- A VF may name a channel of an ICV in a request (R263). -/
def State.urgentMay (s : State) (fn icv chan : Nat) : Bool := (List.range 4).any fun j => s.owns fn (4 * icv + j) && windowChan j chan

/-- MEAS_URGENT's checks (R263, R264, R271). -/
def urgentBad (s : State) (c : Ctl) (chan range cyc : Nat) : Option (Nat × Nat) :=
  let vf := c.fn != pfFn
  if 16 ≤ c.target then
    let p := c.target - 16
    firstBad [
      (vf, stRejPerm, 0), (decide (0x52 < chan), param 16),
      (decide (3 < range) || (decide (chan < 0x40) && range != 3 && !(permitted (chan % 16)).contains range), param 17),
      (outside 1 4 cyc, param 18), (s.rd Reg.MSR_FCV_STATUS.STATE p == 2, stRejState, 0), (decide (4 ≤ (s.fcv p).urg.length), stRejBusy, 0)]
  else firstBad [
    (decide (20 ≤ chan), param 16), (vf && !s.urgentMay c.fn c.target chan, stRejPerm, 0),
    (range != 3 && !(permitted chan).contains range, param 17), (outside 1 4 cyc, param 18),
    (decide (4 ≤ (s.icv c.target).queue.length), stRejBusy, 0)]

/-- MEAS_URGENT (R264): the request is queued; its completion follows its record. -/
def urgentDo (c : Ctl) (chan range cyc : Nat) : Prog := .seq (runOn c 0x31) <|
  if 16 ≤ c.target then updFcvs (c.target - 16) fun x => { x with urg := x.urg ++ [(c, chan, range, cyc)] }
  else .seq (updIcvs c.target fun x =>
      { x with
        queue := x.queue ++ [{ kind := 1, entry := 0xFF, chan, range, auto := range == 3, cyc, readyAt := 0, ctl := some c, fn := c.fn }] })
    (urgQ c.target)

/-- CAL_ZERO and CAL_FULL's checks (R281). -/
def calBad (s : State) (c : Ctl) (full : Bool) (input range : Nat) (fcv : Bool) (applied : Int) : Option (Nat × Nat) :=
  let fs : Int := fsOf range
  let busy := if fcv then (s.fcv (c.target / 16)).cal.isSome else (s.icv (c.target / 4)).cal.isSome
  firstBad [
    (s.slSt c.target != slOff, stRejState, 0), (decide (3 < input), param 16),
    (!(permitted (slotChan c.target input)).contains range, param 17),
    (if full then decide (100 * applied < 50 * fs) || decide (95 * fs < 100 * applied) else decide (fs < 100 * (applied.natAbs : Int)), param 20),
    (fcv && s.rd Reg.MSR_FCV_STATUS.STATE (c.target / 16) == 2, stRejState, 0), (busy, stRejBusy, 0)]

/-- CAL_ZERO and CAL_FULL (R282): sixteen conversions begin. -/
def calDo (c : Ctl) (full : Bool) (input range : Nat) (fcv : Bool) (applied : Int) : Prog :=
  let job : CalJob := { ctl := c, full, slot := c.target, input, range, applied }
  .seq (runOn c (if full then 0x33 else 0x32))
    (if fcv then updFcvs (c.target / 16) fun x => { x with cal := some job } else updIcvs (c.target / 4) fun x => { x with cal := some job })

/-! The two-wire buses (R403 to R405, R431). -/

/-- The WCOUNT and RCOUNT of a protocol (R405): least and greatest of each. -/
def twbRange (proto : Nat) : Nat × Nat × Nat × Nat :=
  match proto with
  | 2 | 4 => (0, 0, 1, 1)
  | 3 => (1, 1, 0, 0)
  | 5 => (2, 2, 0, 0)
  | 6 => (0, 0, 2, 2)
  | 7 | 10 => (1, 32, 0, 0)
  | 8 | 11 => (0, 0, 1, 255)
  | 9 => (1, 32, 1, 255)
  | _ => (0, 0, 0, 0)

/-- TWB_XFER's checks (R403, R404, R431). -/
def twbBad (s : State) (c : Ctl) (p : TwbPar) : Option (Nat × Nat) :=
  let b := c.target
  let pf := c.fn == pfFn
  let r := twbRange p.proto
  let seated := s.seated b || (s.slSt b == slFaulted && (s.slot b).idClosed)
  firstBad [
    (!pf && (decide (64 ≤ b) || !s.owns c.fn b), stRejPerm, 0),
    (decide (b < 64) && !seated, stRejState, 0),
    (decide (11 < p.proto), param 16),
    (decide (p.addr < 8) || decide (0x78 ≤ p.addr) || (decide (64 ≤ b) && p.addr == s.rd Reg.TWB_TGT.ADDR (b - 64)), param 17),
    (p.read && p.proto != 0, param 19),
    (outside r.1 r.2.1 p.wcount, param 20), (outside r.2.2.1 r.2.2.2 p.rcount, param 21),
    (p.rcount != 0 && p.rbuf == 0, param 24),
    (decide (4 ≤ (s.bus b).queue.length), stRejBusy, 0)]

/-- TWB_XFER (R403, R417, R421, R431): the transfer is queued; its TIMEOUT counts from here. -/
def twbDo (c : Ctl) (p : TwbPar) : Prog := .read fun s => seqs [
  runOn c 0x40,
  updTwb c.target fun x =>
    { x with
      queue := x.queue ++ [{ what := 0, par := p, ctl := some c, deadline := if p.timeout = 0 then none else some (s.time + 1000 * p.timeout) }],
      asleep := false },
  hostqUpdate c.target,
  -- on a dead bus it completes at once (R417)
  when (fun t => t.flag Reg.TWB_STATUS.BUS_DEAD c.target) (deadFlush c.target)]

/-! The PD ports (R445 to R447). -/

/-- The issuer holds the port (R444). -/
def State.holds (s : State) (fn k : Nat) : Bool := s.flag Reg.PDP_STATUS.HELD k && s.rd Reg.PDP_STATUS.HOLDER k == fn

/-- The ranges of the policy bytes (R445). -/
def policyBad (p : PdPolicy) : Option (Nat × Nat) := firstBad [
  (outside 75 2400 p.pmax, param 18), (outside 1500 5000 p.imax, param 20), (decide (63 < p.vmask), param 22),
  (outside 3300 21000 p.vmin || p.vmin % 100 != 0, param 24), (decide (21000 < p.vmax) || decide (p.vmax ≤ p.vmin) || p.vmax % 100 != 0, param 26)]

/-- HOLD's checks (R446): `PDP_CFG.ALLOW` names the issuer, or it is the PF; no other function holds the port. -/
def holdBad (s : State) (c : Ctl) (p : PdPolicy) : Option (Nat × Nat) :=
  let k := c.target
  (firstBad [
    (c.fn != pfFn && s.rd Reg.PDP_CFG.ALLOW k != c.fn, stRejPerm, 0),
    (s.flag Reg.PDP_STATUS.HELD k && s.rd Reg.PDP_STATUS.HOLDER k != c.fn, stPdHeldOther, 0)]).or (policyBad p)

/-- HOLD (R444, R446): the issuer holds the port under its policy. -/
def holdDo (c : Ctl) (p : PdPolicy) : Prog :=
  let k := c.target
  .seq (runOn c 0x41) (policyActs k 0 c (seqs [setR Reg.PDP_STATUS.HELD 1 k, setR Reg.PDP_STATUS.HOLDER c.fn k, policySet k p]))

/-- RELEASE's check (R446): the holder, or the PF. -/
def pdReleaseBad (s : State) (c : Ctl) : Option (Nat × Nat) := firstBad [(c.fn != pfFn && !s.holds c.fn c.target, stRejPerm, 0)]

/-- RELEASE (R444, R447, R465): the service mode ends, and the port serves under the default policy. -/
def pdReleaseDo (c : Ctl) : Prog :=
  let k := c.target
  seqs [runOn c 0x41, svcExit k,
    policyActs k 1 c (seqs [setR Reg.PDP_STATUS.HELD 0 k, setR Reg.PDP_STATUS.HOLDER 0 k, policyDefault k])]

/-- SET's checks (R445, R446). -/
def pdSetBad (s : State) (c : Ctl) (p : PdPolicy) : Option (Nat × Nat) :=
  (firstBad [(!s.holds c.fn c.target, stRejPerm, 0)]).or (policyBad p)

/-- SET (R447). -/
def pdSetDo (c : Ctl) (p : PdPolicy) : Prog := .seq (runOn c 0x41) (policyActs c.target 2 c (policySet c.target p))

/-- The checks of an action of the holder on its contract (R446): SOFT_RESET, ENTER_SERVICE, EXIT_SERVICE. -/
def pdActBad (s : State) (c : Ctl) : Option (Nat × Nat) := firstBad [
  (!s.holds c.fn c.target, stRejPerm, 0), (!s.explicit c.target, stPdNotAttached, 0)]

/-- SOFT_RESET (R461). -/
def softResetDo (c : Ctl) : Prog := .seq (runOn c 0x41) (actBegin c.target 3 c)

/-- HARD_RESET's checks (R446): an attached sink. -/
def hardResetBad (s : State) (c : Ctl) : Option (Nat × Nat) := firstBad [
  (!s.holds c.fn c.target, stRejPerm, 0), (!s.attached c.target, stPdNotAttached, 0)]

/-- HARD_RESET (R460). -/
def hardResetDo (c : Ctl) : Prog := .seq (runOn c 0x41) (actBegin c.target 4 c)

/-- ENTER_SERVICE's checks (R446, R463, R464): SVC_EN, and the diagnostic pair free. -/
def enterBad (s : State) (c : Ctl) : Option (Nat × Nat) :=
  let k := c.target
  let other := if k % 2 = 0 then k + 1 else k - 1
  (pdActBad s c).or (firstBad [
    (!s.flag Reg.PDP_POL_B.SVC_EN k, stPdNoSvc, 0), (s.flag Reg.PDP_STATUS.SVC other, stPdSvcBusy, 0)])

/-- ENTER_SERVICE (R463). -/
def enterDo (c : Ctl) : Prog := .seq (runOn c 0x41) (actBegin c.target 5 c)

/-- EXIT_SERVICE (R465). -/
def exitDo (c : Ctl) : Prog := .seq (runOn c 0x41) (actBegin c.target 6 c)

end Sys2Proof.Machine
end

