-- ==== Sys2Proof/Machine/OpDevice.lean ====
section
/-! DEFINITION. What the opcodes of the ring engine, the tenants, the microcode and the seal check and do (R356, R379, R388, R392,
R492 to R494, R622). -/

namespace Sys2Proof.Machine

/-! FENCE (R356). -/

/-- FENCE's checks (R353, R356): the token of WAIT 2 is a committed tick (R205). -/
def fenceBad (s : State) (scope wait token : Nat) : Option (Nat × Nat) := firstBad [
  (decide (1 < scope), param 16), (decide (2 < wait), param 17),
  (wait == 2 && !(s.rd Reg.ALM_TICK.TICK == token || laterTick (s.rd Reg.ALM_TICK.TICK) token), stRejToken, 0)]

/-- FENCE (R356): in force from here, numbered after every earlier descriptor. -/
def fenceDo (c : Ctl) (scope wait token timeout : Nat) : Prog := .read fun s => updHost fun h =>
  { h with fences := h.fences ++ [{ num := h.count, ctl := c, scope, wait, token, until? := if timeout = 0 then none else some (s.time + timeout) }] }

/-- A ring lies in the scope of a FENCE. -/
def FenceRec.covers (f : FenceRec) (fn ring : Nat) : Bool := f.ctl.fn == fn && (f.scope == 1 || f.ctl.ring == ring)

/-- Every earlier descriptor of a FENCE's scope has completed (R356): those that run on and earlier FENCEs. -/
def State.fenceClear (s : State) (f : FenceRec) : Bool :=
  (s.host.runs.all fun d => !(f.covers d.ctl.fn d.ctl.ring && decide (d.num < f.num))) &&
  (s.host.fences.all fun g => !(f.covers g.ctl.fn g.ctl.ring && decide (g.num < f.num)))

/-- The condition of a FENCE is met (R356), by the last committed tick. -/
def State.fenceMet (s : State) (f : FenceRec) : Bool :=
  let tick := s.rd Reg.ALM_TICK.TICK
  match f.wait with
  | 0 => s.fenceClear f
  | 1 => s.fenceClear f && (s.host.tokens.all fun t => !f.covers t.1.1 t.1.2 || t.2 == tick || laterTick tick t.2)
  | _ => laterTick tick f.token

/-- A FENCE ends and releases its scope (R356). -/
def fenceEnd (f : FenceRec) (status result : Nat) : Prog := .seq
  (updHost fun h => { h with fences := h.fences.erase f }) (complete f.ctl 0x51 status result)

/-- A descriptor of a ring waits behind a FENCE (R356); a FENCE of SCOPE 1 is not held by one on another ring. -/
def State.fenced (s : State) (fn ring : Nat) (wide : Bool) : Bool :=
  s.host.fences.any fun f => f.covers fn ring && !(wide && f.scope == 1 && f.ctl.ring != ring)

/-! Tenants (R379, R388, R392). -/

/-- WDG_ANSWER (R392): OK whatever the outcome. -/
def answerDo (c : Ctl) (token qseq : Nat) : Prog := .seq (wdgAnswer c.fn token qseq) (opTold c 0x50 0)

/-- QUOTA_SET's checks (R379): only masked fields count. -/
def quotaBad (c : Ctl) (p : QuotaPar) : Option (Nat × Nat) :=
  let on := fun k => hasBit p.mask k
  firstBad [
    (decide (63 < p.mask) || (c.target == pfFn && p.mask % 32 != 0), param 16),
    (on 0 && decide (1000000 < p.power), param 20), (on 1 && decide (64 < p.maxSlots), param 24),
    (on 2 && decide (16 < p.maxXfer), param 25), (on 3 && outside 1 4095 p.evtRate, param 26),
    (on 5 && outside 10 4095 p.wdgPeriod, param 28), (on 5 && decide (8 < p.wdgOpen), param 30)]

/-- QUOTA_SET (R380): the configuration goes to the keep. -/
def quotaDo (c : Ctl) (p : QuotaPar) : Prog := .seq (runOn c 0x60) (keepRequest { effect := .quota c.target p, ctl := some c })

/-- The key slot of a function's key of a KEY_ID as the descriptors so far leave it (R388): one in force, or one that waits for its
commit. -/
def State.keySlot (s : State) (fn keyId : Nat) : Option Nat :=
  let waits := s.keep.queue.filterMap fun q => match q.effect with
    | .packKey k f i _ e => if f = fn ∧ i = keyId then some (k, e) else none
    | _ => none
  match waits.getLast? with
  | some (k, erased) => if erased then none else some k
  | none => (List.range 64).find? fun k => (s.keyr k).used && (s.keyr k).fn == fn && (s.keyr k).keyId == keyId

/-- The lowest free key slot (R388), past those that waiting records take. -/
def State.freeKeySlot (s : State) : Option Nat := (List.range 64).find? fun k =>
  !(s.keyr k).used && s.keep.queue.all fun q => match q.effect with
    | .packKey k' _ _ _ _ => k' != k
    | _ => true

/-- The key an erasure names exists (R388). -/
def State.keyKnown (s : State) (c : Ctl) (p : KeyPar) : Bool :=
  if p.kind = 0 then (s.keySlot c.target p.keyId).isSome
  else match (s.keep.queue.filterMap fun q => match q.effect with | .master _ e => some e | _ => none).getLast? with
    | some erased => !erased
    | none => s.keep.master.isSome

/-- KEY_WRITE's checks (R388). -/
def keyBad (s : State) (c : Ctl) (p : KeyPar) : Option (Nat × Nat) := firstBad [
  (decide (1 < p.kind) || (p.kind == 1 && c.target != pfFn), param 16),
  (decide (3 < p.keyId) || (p.kind == 1 && p.keyId != 0), param 17),
  (p.erase && p.key.any (· != 0), param 24),
  (if p.erase then p.kcv.any (· != 0) else p.kcv != (sha256 p.key).take 4, param 56),
  (p.erase && !s.keyKnown c p, stNotActive, 0),
  (!p.erase && p.kind == 0 && (s.keySlot c.target p.keyId).isNone && s.freeKeySlot.isNone, stRejQuota, 0)]

/-- KEY_WRITE (R388): the key goes to the keep. -/
def keyDo (c : Ctl) (p : KeyPar) : Prog := .read fun s => .seq (runOn c 0x61) <|
  if p.kind = 1 then keepRequest { effect := .master p.key p.erase, ctl := some c }
  else
    let k := ((s.keySlot c.target p.keyId).or s.freeKeySlot).getD 0
    keepRequest { effect := .packKey k c.target p.keyId p.key p.erase, ctl := some c }

/-! Microcode (R492 to R494). -/

/-- MICROCODE_STAGE's checks (R492, R493). -/
def stageBad (s : State) (addr len : Nat) : Option (Nat × Nat) := firstBad [
  (s.rd Reg.ENG_UPG.STATE != 0, stRejState, 0), (addr % 64 != 0, param 16),
  (outside 4096 1048576 len || len % 64 != 0, param 24)]

/-- MICROCODE_STAGE (R493): the inactive bank is erased and the image is copied; MICROCODE_STAGE_COMPLETE follows. -/
def stageDo (c : Ctl) (len gen : Nat) : Prog := seqs [
  runOn c 0x62, setR Reg.ENG_UPG.STATE 1, setR Reg.ENG_STAGE.PROGRESS 0, setR Reg.ENG_STAGE.CAUSE 0,
  updEng fun e => { e with stage := some (c, len, gen) }]

/-- ROLL's checks (R494). -/
def rollBad (s : State) : Option (Nat × Nat) := firstBad [
  (s.rd Reg.ENG_UPG.STATE != 2 || decide (s.rd Reg.GLB_HEALTH.SPARE_PAIRS < 64) || s.rd Reg.GLB_HEALTH.BED_LOST != 0, stRejState, 0)]

/-- ROLL (R494, R495): the rollout begins with bed 15. -/
def rollDo (c : Ctl) (dwell : Nat) : Prog := .read fun s => seqs [
  runOn c 0x63, setR Reg.ENG_UPG.STATE 3,
  updEng fun e => { e with roll := some c, dwell := if dwell = 0 then s.rd Reg.ENG_UPG_CFG.DWELL else dwell, reloaded := [], toReturn := [] },
  rollBed 15]

/-- ABORT's check (R494). -/
def abortBad (s : State) : Option (Nat × Nat) := firstBad [(s.rd Reg.ENG_UPG.STATE != 3, stRejState, 0)]

/-- ABORT (R494, R498). -/
def abortDo (c : Ctl) : Prog := seqs [runOn c 0x63, updEng fun e => { e with abort := some c }, rollAbort 0]

/-- DISCARD's check (R494). -/
def discardBad (s : State) : Option (Nat × Nat) := firstBad [(s.rd Reg.ENG_UPG.STATE != 2, stRejState, 0)]

/-- DISCARD (R494): the staged bank is erased. -/
def discardDo (c : Ctl) : Prog := seqs [
  setR Reg.ENG_UPG.STATE 0, setR Reg.ENG_GEN.STAGED 0, setR Reg.ENG_SCHEMA_STG.STG_LO 0, setR Reg.ENG_SCHEMA_STG.STG_HI 0,
  updEng fun e => { e with staged := none }, opDone c 0x63 fun _ => 0]

/-! SEAL (R3, R621, R622). -/

/-- SEAL's checks (R351, R622). -/
def sealBad (s : State) : Option (Nat × Nat) := firstBad [
  (s.flag Reg.GLB_SEAL.SEALED, stRejState, 0), (!(s.running || s.mode == mSentinel), stRejMode, 0)]

/-- The frost-guard thresholds of a slot follow the present configuration (R513, R514, R621): an armed slot is armed afresh, with the
DONOR threshold while its lead runs in reverse. -/
def fgRefresh (sl : Nat) : Prog := .read fun s =>
  if s.oddGanged sl then .skip
  else if s.flag Reg.SAF_FG_A.ARMED sl then .seq (fgArm sl) (if s.slSt sl = slDonor ∧ ¬ s.outputParked (s.slotLead sl) then fgReverse sl true else .skip)
  else fgDisarm sl

/-- Every derived value that State holds apart from its source is recomputed (R621): the frost-guard thresholds. -/
def deriveAll : Prog := each (List.range 64) fgRefresh

/-- SEAL (R622): the derived values are recomputed, and the device is sealed. -/
def sealDo (c : Ctl) : Prog := seqs [
  deriveAll,
  setR Reg.GLB_SEAL.SEALED 1, opDone c 0x64 fun _ => 0]

end Sys2Proof.Machine
end

