-- ==== Sys2Proof/Machine/Operands.lean ====
section
/-! DEFINITION. The opcodes with their payloads (R351, R353, R379, R388, R431, R445, R492, R494), and the reading of a payload from
the bytes of a descriptor. -/

namespace Sys2Proof.Machine

/-- An opcode with its payload (R351). PD_POLICY and MICROCODE_ACTIVATE stand by their actions. -/
inductive Op where
  | nop
  | slotClaim
  | slotRelease
  | chargeStart (p : Profile) (soc tick : Nat)
  | chargeTerminate
  | setLimits (l : Limits)
  | reserve (prio soc tick : Nat)
  | transfer (p : TransferPar)
  | audit (p : Profile) (a : AuditPar)
  | gaugeRestore (r : RestorePar)
  | gaugeSnapshot
  | measTableLoad (first : Nat) (words : List (Nat × Nat))
  | measUrgent (chan range cyc : Nat)
  | calZero (input range : Nat) (fcv : Bool) (applied : Int)
  | calFull (input range : Nat) (fcv : Bool) (applied : Int)
  | twbXfer (p : TwbPar)
  | pdHold (p : PdPolicy)
  | pdRelease
  | pdSet (p : PdPolicy)
  | pdSoftReset
  | pdHardReset
  | pdEnterService
  | pdExitService
  | wdgAnswer (token qseq : Nat)
  | fence (scope wait token timeout : Nat)
  | quotaSet (p : QuotaPar)
  | keyWrite (p : KeyPar)
  | mcodeStage (addr len gen : Nat)
  | mcodeRoll (dwell : Nat)
  | mcodeAbort
  | mcodeDiscard
  | doSeal
  deriving DecidableEq, Repr

/-- The opcode's code (R351). -/
def opCode : Op → Nat
  | .nop => 0x00
  | .slotClaim => 0x10
  | .slotRelease => 0x11
  | .chargeStart _ _ _ => 0x12
  | .chargeTerminate => 0x13
  | .setLimits _ => 0x14
  | .reserve _ _ _ => 0x15
  | .transfer _ => 0x16
  | .audit _ _ => 0x17
  | .gaugeRestore _ => 0x20
  | .gaugeSnapshot => 0x21
  | .measTableLoad _ _ => 0x30
  | .measUrgent _ _ _ => 0x31
  | .calZero _ _ _ _ => 0x32
  | .calFull _ _ _ _ => 0x33
  | .twbXfer _ => 0x40
  | .pdHold _ | .pdRelease | .pdSet _ | .pdSoftReset | .pdHardReset | .pdEnterService | .pdExitService => 0x41
  | .wdgAnswer _ _ => 0x50
  | .fence _ _ _ _ => 0x51
  | .quotaSet _ => 0x60
  | .keyWrite _ => 0x61
  | .mcodeStage _ _ _ => 0x62
  | .mcodeRoll _ | .mcodeAbort | .mcodeDiscard => 0x63
  | .doSeal => 0x64

/-- The codes of the opcode table (R351). -/
def opKnown (code : Nat) : Bool :=
  [0x00, 0x10, 0x11, 0x12, 0x13, 0x14, 0x15, 0x16, 0x17, 0x20, 0x21, 0x30, 0x31, 0x32, 0x33, 0x40, 0x41, 0x50, 0x51,
   0x60, 0x61, 0x62, 0x63, 0x64].contains code

/-- Issuer PF (R351). -/
def opPfOnly (code : Nat) : Bool := [0x32, 0x33, 0x60, 0x61, 0x62, 0x63, 0x64].contains code

/-- Marked "yes" in the Chain column (R351). -/
def opChains (code : Nat) : Bool :=
  [0x00, 0x10, 0x11, 0x12, 0x13, 0x14, 0x15, 0x16, 0x17, 0x20, 0x21, 0x30, 0x60].contains code

/-- What a function that is not live may still issue (R396). -/
def opWhileDead (code : Nat) : Bool := [0x00, 0x11, 0x13, 0x21, 0x50, 0x51].contains code

/-- Opcodes whose TARGET is unused (R351). -/
def opNoTarget (code : Nat) : Bool := [0x00, 0x50, 0x51, 0x62, 0x63, 0x64].contains code

/-- TARGET lies in the opcode's range (R351). -/
def opTargetOk (code target : Nat) : Bool :=
  if opNoTarget code then true
  else if code = 0x30 then decide (target < 16)
  else if code = 0x31 then decide (target < 0x14)
  else if code = 0x40 then decide (target < 66)
  else if code = 0x41 then decide (target < 8)
  else if code = 0x60 ∨ code = 0x61 then decide (target < 1024) || target == pfFn
  else decide (target < 64)

/-! Payloads (R353). -/

/-- The first payload byte outside the listed fields, given as offset and length, that is not zero (R353). -/
def strayByte (b : List Nat) (used : List (Nat × Nat)) : Option Nat :=
  ((List.range 48).map (· + 16)).find? fun k => byteAt b k != 0 && !used.any fun u => decide (u.1 ≤ k) && decide (k < u.1 + u.2)

/-- A payload as read: the opcode, or the offset of the first field wider than its bits or of a reserved byte that is not zero
(R353, R357). -/
def payload (b : List Nat) (used : List (Nat × Nat)) (wide : List (Bool × Nat)) (o : Op) : Except Nat Op :=
  match wide.find? fun e => e.1 with
  | some e => .error e.2
  | none => match strayByte b used with
    | some k => .error k
    | none => .ok o

/-- The charge profile (R353). -/
def readProfile (b : List Nat) : Profile :=
  { cvCell := leAt b 16 2, icc := leAt b 18 2, ipre := leAt b 20 2, itrickle := leAt b 22 2, taper := leAt b 24 2, cvMax := leAt b 26 2,
    totalMax := byteAt b 28, trickleMax := byteAt b 29, preMax := byteAt b 30, prio := byteAt b 31 }

/-- SET_LIMITS (R353). -/
def readLimits (b : List Nat) : Limits :=
  let t := fun k => ofField 8 (byteAt b k)
  { mask := leAt b 16 2, icap := leAt b 20 2, donor := hasBit (byteAt b 22) 0, t1 := t 24, t2 := t 25, t3 := t 26, t4 := t 27, warn := leAt b 28 4 }

/-- GAUGE_RESTORE (R313). -/
def readRecord (b : List Nat) : RestorePar :=
  { packId := leAt b 16 8, qFull := leAt b 24 4, qRem := ofField 32 (leAt b 28 4), vCut := leAt b 32 2, flags := leAt b 34 2,
    learnCnt := leAt b 38 2, thruIn := leAt b 44 4, thruOut := leAt b 48 4 }

/-- MEAS_TABLE_LOAD's entries (R353): COUNT pairs of words. -/
def readEntries (b : List Nat) : List (Nat × Nat) := (List.range (byteAt b 17)).map fun k => (leAt b (24 + 8 * k) 4, leAt b (28 + 8 * k) 4)

/-- TWB_XFER (R431). -/
def readTwb (b : List Nat) : TwbPar :=
  { proto := byteAt b 16, addr := byteAt b 17, cmd := byteAt b 18, pec := hasBit (byteAt b 19) 0, read := hasBit (byteAt b 19) 1,
    wcount := byteAt b 20, rcount := byteAt b 21, timeout := leAt b 22 2, rbuf := leAt b 24 6, wdata := (b.drop 32).take (min (byteAt b 20) 32) }

/-- PD_POLICY's policy bytes (R445). -/
def readPolicy (b : List Nat) : PdPolicy :=
  let f := byteAt b 17
  { pps := hasBit f 0, epr := hasBit f 1, svc := hasBit f 2, vswap := hasBit f 3, pmax := leAt b 18 2, imax := leAt b 20 2,
    vmask := byteAt b 22, vmin := leAt b 24 2, vmax := leAt b 26 2 }

/-- PD_POLICY (R445): HOLD and SET take bytes 17 to 27, every other action ignores them. -/
def readPd (b : List Nat) : Except Nat Op :=
  let a := byteAt b 16
  let p := readPolicy b
  let full := payload b [(16, 7), (24, 4)] [(decide (15 < byteAt b 17), 17)]
  let bare := payload b [(16, 12)] []
  match a with
  | 0 => full (.pdHold p)
  | 1 => bare .pdRelease
  | 2 => full (.pdSet p)
  | 3 => bare .pdSoftReset
  | 4 => bare .pdHardReset
  | 5 => bare .pdEnterService
  | 6 => bare .pdExitService
  | _ => .error 16

/-- QUOTA_SET (R379). -/
def readQuota (b : List Nat) : QuotaPar :=
  { mask := leAt b 16 2, power := leAt b 20 4, maxSlots := byteAt b 24, maxXfer := byteAt b 25, evtRate := leAt b 26 2,
    wdgPeriod := leAt b 28 2, wdgOpen := byteAt b 30, slotMask := leAt b 32 8 }

/-- KEY_WRITE (R388). -/
def readKey (b : List Nat) : KeyPar :=
  { kind := byteAt b 16, keyId := byteAt b 17, erase := hasBit (byteAt b 18) 0, key := (b.drop 24).take 32, kcv := (b.drop 56).take 4 }

/-- MICROCODE_ACTIVATE (R494). -/
def readActivate (b : List Nat) : Except Nat Op :=
  let p := payload b [(16, 1), (18, 2)] []
  match byteAt b 16 with
  | 0 => p (.mcodeRoll (leAt b 18 2))
  | 1 => p .mcodeAbort
  | 2 => p .mcodeDiscard
  | _ => .error 16

/-- The payload of a descriptor's 64 bytes, by its opcode (R353). -/
def readPayload (b : List Nat) : Except Nat Op :=
  let soc := leAt b 32 2
  match byteAt b 0 with
  | 0x00 => payload b [] [] .nop
  | 0x10 => payload b [] [] .slotClaim
  | 0x11 => payload b [] [] .slotRelease
  | 0x12 => payload b [(16, 18), (36, 4)] [(decide (3 < byteAt b 31), 31), (decide (16383 < soc), 32)] (.chargeStart (readProfile b) soc (leAt b 36 4))
  | 0x13 => payload b [] [] .chargeTerminate
  | 0x14 => payload b [(16, 2), (20, 3), (24, 8)] [(decide (1 < byteAt b 22), 22)] (.setLimits (readLimits b))
  | 0x15 => payload b [(16, 1), (18, 6)] [(decide (3 < byteAt b 16), 16), (decide (16383 < leAt b 18 2), 18)]
      (.reserve (byteAt b 16) (leAt b 18 2) (leAt b 20 4))
  | 0x16 => payload b [(16, 6), (24, 4)] []
      (.transfer { imax := leAt b 16 2, floorCell := leAt b 18 2, socFloor := leAt b 20 2, emax := leAt b 24 4 })
  | 0x17 => payload b [(16, 22)] [(decide (3 < byteAt b 31), 31), (decide (1 < byteAt b 37), 37)]
      (.audit (readProfile b) { audI := leAt b 32 2, audTaper := leAt b 34 2, rest := byteAt b 36, recharge := hasBit (byteAt b 37) 0 })
  | 0x20 => payload b [(16, 48)] [] (.gaugeRestore (readRecord b))
  | 0x21 => payload b [] [] .gaugeSnapshot
  | 0x30 => payload b [(16, 2), (24, 8 * byteAt b 17)] [] (.measTableLoad (byteAt b 16) (readEntries b))
  | 0x31 => payload b [(16, 3)] [] (.measUrgent (byteAt b 16) (byteAt b 17) (byteAt b 18))
  | 0x32 => payload b [(16, 3), (20, 4)] [(decide (1 < byteAt b 18), 18)]
      (.calZero (byteAt b 16) (byteAt b 17) (hasBit (byteAt b 18) 0) (ofField 32 (leAt b 20 4)))
  | 0x33 => payload b [(16, 3), (20, 4)] [(decide (1 < byteAt b 18), 18)]
      (.calFull (byteAt b 16) (byteAt b 17) (hasBit (byteAt b 18) 0) (ofField 32 (leAt b 20 4)))
  | 0x40 => payload b [(16, 14), (32, 32)] [(decide (127 < byteAt b 17), 17), (decide (3 < byteAt b 19), 19)] (.twbXfer (readTwb b))
  | 0x41 => readPd b
  | 0x50 => payload b [(16, 6)] [] (.wdgAnswer (leAt b 16 4) (leAt b 20 2))
  | 0x51 => payload b [(16, 2), (20, 8)] [] (.fence (byteAt b 16) (byteAt b 17) (leAt b 20 4) (leAt b 24 4))
  | 0x60 => payload b [(16, 2), (20, 11), (32, 8)] [] (.quotaSet (readQuota b))
  | 0x61 => payload b [(16, 3), (24, 36)] [(decide (1 < byteAt b 18), 18)] (.keyWrite (readKey b))
  | 0x62 => payload b [(16, 6), (24, 6)] [] (.mcodeStage (leAt b 16 6) (leAt b 24 4) (leAt b 28 2))
  | 0x63 => readActivate b
  | _ => payload b [] [] .doSeal

end Sys2Proof.Machine
end

