-- ==== Sys2Proof/Machine/Opcodes.lean ====
section
/-! DEFINITION. The opcodes (R351): the checks that precede an opcode's own (R350, R352, R396), and one command for each opcode. A
descriptor of the function, ring and control part `c` has come to its execution. -/

namespace Sys2Proof.Machine

/-- The opcode's own checks (R350 step 7): status and DETAIL of the first that fails. -/
def Op.bad (o : Op) (c : Ctl) (s : State) : Option (Nat × Nat) :=
  match o with
  | .nop => none
  | .slotClaim => claimBad s c
  | .slotRelease => releaseBad s c
  | .chargeStart p soc tick => chargeStartBad s c p soc tick
  | .chargeTerminate => terminateBad s c
  | .setLimits l => limitsBad s c l
  | .reserve _ soc tick => reserveBad s c soc tick
  | .transfer p => transferBad s c p
  | .audit p a => auditBad s c p a
  | .gaugeRestore r => restoreBad s c r
  | .gaugeSnapshot => snapshotBad s c
  | .measTableLoad f w => tableLoadBad s c f w
  | .measUrgent ch r cy => urgentBad s c ch r cy
  | .calZero i r f a => calBad s c false i r f a
  | .calFull i r f a => calBad s c true i r f a
  | .twbXfer p => twbBad s c p
  | .pdHold p => holdBad s c p
  | .pdRelease => pdReleaseBad s c
  | .pdSet p => pdSetBad s c p
  | .pdSoftReset => pdActBad s c
  | .pdHardReset => hardResetBad s c
  | .pdEnterService => enterBad s c
  | .pdExitService => pdActBad s c
  | .wdgAnswer _ _ => none
  | .fence sc w t _ => fenceBad s sc w t
  | .quotaSet p => quotaBad c p
  | .keyWrite p => keyBad s c p
  | .mcodeStage a l _ => stageBad s a l
  | .mcodeRoll _ => rollBad s
  | .mcodeAbort => abortBad s
  | .mcodeDiscard => discardBad s
  | .doSeal => sealBad s

/-- What an accepted opcode does, its completion with it (R351). NOP's RESULT is the last committed tick. -/
def Op.act (o : Op) (c : Ctl) : Prog :=
  match o with
  | .nop => .read fun s => opTold c 0x00 (s.rd Reg.ALM_TICK.TICK)
  | .slotClaim => claimDo c
  | .slotRelease => releaseDo c
  | .chargeStart p soc tick => chargeStartDo c p soc tick
  | .chargeTerminate => terminateDo c
  | .setLimits l => limitsDo c l
  | .reserve prio soc tick => reserveDo c prio soc tick
  | .transfer p => transferDo c p
  | .audit p a => auditDo c p a
  | .gaugeRestore r => restoreDo c r
  | .gaugeSnapshot => snapshotDo c
  | .measTableLoad f w => tableLoadDo c f w
  | .measUrgent ch r cy => urgentDo c ch r cy
  | .calZero i r f a => calDo c false i r f a
  | .calFull i r f a => calDo c true i r f a
  | .twbXfer p => twbDo c p
  | .pdHold p => holdDo c p
  | .pdRelease => pdReleaseDo c
  | .pdSet p => pdSetDo c p
  | .pdSoftReset => softResetDo c
  | .pdHardReset => hardResetDo c
  | .pdEnterService => enterDo c
  | .pdExitService => exitDo c
  | .wdgAnswer t q => answerDo c t q
  | .fence sc w t tmo => fenceDo c sc w t tmo
  | .quotaSet p => quotaDo c p
  | .keyWrite p => keyDo c p
  | .mcodeStage _ l g => stageDo c l g
  | .mcodeRoll d => rollDo c d
  | .mcodeAbort => abortDo c
  | .mcodeDiscard => discardDo c
  | .doSeal => sealDo c

/-- The checks between OPCODE and the chain rules (R350 steps 4 and 5, R396): the issuer, its liveness, unused targets. -/
def issuerBad (s : State) (code : Nat) (c : Ctl) : Option (Nat × Nat) := firstBad [
  (opPfOnly code && c.fn != pfFn, stRejPerm, 0),
  (!s.flag Reg.FN_STATUS.LIVE c.fn && !opWhileDead code, stRejState, 0),
  ((c.target2 != 0 && code != 0x16) || (c.target != 0 && opNoTarget code), stErrRsvd, 0)]

/-- The tag history holds the descriptor (R352). -/
def State.doneBefore (s : State) (code : Nat) (c : Ctl) : Bool := (s.fnr c.fn).history.contains (code, c.target, c.tag)

/-- The checks from the tag history on (R350 step 7, R352): TARGET's range, the payload's, and the opcode's own. -/
def ownBad (s : State) (code : Nat) (o : Except Nat Op) (c : Ctl) : Option (Nat × Nat) :=
  if s.doneBefore code c then some (stDoneBefore, 0)
  else if !opTargetOk code c.target then some (param 8)
  else match o with
    | .error k => some (param k)
    | .ok o => o.bad c s

/-- A descriptor executes (R350, R355): it takes its number, and acts or completes with the status of the check that failed. A timer that
has expired comes before a CHARGE_TERMINATE at the same time (R193). -/
def descRun (code : Nat) (o : Except Nat Op) (c : Ctl) : Prog := .seq (updHost fun h => { h with count := h.count + 1 }) <|
  .seq (if code = 0x13 then timersFirst c.target else .skip) <|
  .read fun s => match (issuerBad s code c).or (ownBad s code o c) with
    | some (st, d) => complete c code st 0 d
    | none => match o with
      | .error k => complete c code stRejParam 0 k
      | .ok o => o.act c

/-- The ring engine takes descriptors of a function's ring (R355, R366, R368). -/
def State.takes (s : State) (fn ring : Nat) : Bool := s.hifOn && s.fnUp fn && !(s.fnr fn).d3hot && decide (ring < 16)

/-- A FENCE of SCOPE 1 (R356). -/
def wideFence : Op → Bool
  | .fence 1 _ _ _ => true
  | _ => false

/-- The outcome of an opcode's command: the descriptor executes where the ring engine runs and no FENCE holds its ring (R356). -/
def opEnds (o : Op) (c : Ctl) : State → Host.Outcome State Fault Refusal := ends <| .read fun s =>
  if s.takes c.fn c.ring && !s.fenced c.fn c.ring (wideFence o) then descRun (opCode o) (.ok o) c else .skip

/-- NOP (R351). -/
def execNop (c : Ctl) : State → Host.Outcome State Fault Refusal := opEnds .nop c

/-- SLOT_CLAIM (R155, R383). -/
def execSlotClaim (c : Ctl) : State → Host.Outcome State Fault Refusal := opEnds .slotClaim c

/-- SLOT_RELEASE (R155). -/
def execSlotRelease (c : Ctl) : State → Host.Outcome State Fault Refusal := opEnds .slotRelease c

/-- CHARGE_START (R161, R223). -/
def execChargeStart (c : Ctl) (p : Profile) (resvSoc resvTick : Nat) : State → Host.Outcome State Fault Refusal :=
  opEnds (.chargeStart p resvSoc resvTick) c

/-- CHARGE_TERMINATE (R173). -/
def execChargeTerminate (c : Ctl) : State → Host.Outcome State Fault Refusal := opEnds .chargeTerminate c

/-- SET_LIMITS (R353). -/
def execSetLimits (c : Ctl) (l : Limits) : State → Host.Outcome State Fault Refusal := opEnds (.setLimits l) c

/-- RESERVE (R223). -/
def execReserve (c : Ctl) (prio resvSoc resvTick : Nat) : State → Host.Outcome State Fault Refusal := opEnds (.reserve prio resvSoc resvTick) c

/-- TRANSFER (R183). -/
def execTransfer (c : Ctl) (p : TransferPar) : State → Host.Outcome State Fault Refusal := opEnds (.transfer p) c

/-- AUDIT (R187). -/
def execAudit (c : Ctl) (p : Profile) (a : AuditPar) : State → Host.Outcome State Fault Refusal := opEnds (.audit p a) c

/-- GAUGE_RESTORE (R314, R315). -/
def execGaugeRestore (c : Ctl) (r : RestorePar) : State → Host.Outcome State Fault Refusal := opEnds (.gaugeRestore r) c

/-- GAUGE_SNAPSHOT (R316). -/
def execGaugeSnapshot (c : Ctl) : State → Host.Outcome State Fault Refusal := opEnds .gaugeSnapshot c

/-- MEAS_TABLE_LOAD (R255, R256). -/
def execMeasTableLoad (c : Ctl) (first : Nat) (words : List (Nat × Nat)) : State → Host.Outcome State Fault Refusal :=
  opEnds (.measTableLoad first words) c

/-- MEAS_URGENT (R263, R264). -/
def execMeasUrgent (c : Ctl) (chan range cyc : Nat) : State → Host.Outcome State Fault Refusal := opEnds (.measUrgent chan range cyc) c

/-- CAL_ZERO (R281, R282). -/
def execCalZero (c : Ctl) (input range : Nat) (fcv : Bool) (applied : Int) : State → Host.Outcome State Fault Refusal :=
  opEnds (.calZero input range fcv applied) c

/-- CAL_FULL (R281 to R283). -/
def execCalFull (c : Ctl) (input range : Nat) (fcv : Bool) (applied : Int) : State → Host.Outcome State Fault Refusal :=
  opEnds (.calFull input range fcv applied) c

/-- TWB_XFER (R404, R431). -/
def execTwbXfer (c : Ctl) (p : TwbPar) : State → Host.Outcome State Fault Refusal := opEnds (.twbXfer p) c

/-- PD_POLICY HOLD (R446). -/
def execPdPolicyHold (c : Ctl) (p : PdPolicy) : State → Host.Outcome State Fault Refusal := opEnds (.pdHold p) c

/-- PD_POLICY RELEASE (R446, R447). -/
def execPdPolicyRelease (c : Ctl) : State → Host.Outcome State Fault Refusal := opEnds .pdRelease c

/-- PD_POLICY SET (R447). -/
def execPdPolicySet (c : Ctl) (p : PdPolicy) : State → Host.Outcome State Fault Refusal := opEnds (.pdSet p) c

/-- PD_POLICY SOFT_RESET (R461). -/
def execPdPolicySoftReset (c : Ctl) : State → Host.Outcome State Fault Refusal := opEnds .pdSoftReset c

/-- PD_POLICY HARD_RESET (R460). -/
def execPdPolicyHardReset (c : Ctl) : State → Host.Outcome State Fault Refusal := opEnds .pdHardReset c

/-- PD_POLICY ENTER_SERVICE (R463, R464). -/
def execEnterService (c : Ctl) : State → Host.Outcome State Fault Refusal := opEnds .pdEnterService c

/-- PD_POLICY EXIT_SERVICE (R465). -/
def execExitService (c : Ctl) : State → Host.Outcome State Fault Refusal := opEnds .pdExitService c

/-- WDG_ANSWER (R392). -/
def execWdgAnswer (c : Ctl) (token qseq : Nat) : State → Host.Outcome State Fault Refusal := opEnds (.wdgAnswer token qseq) c

/-- FENCE (R356). -/
def execFence (c : Ctl) (scope wait token timeout : Nat) : State → Host.Outcome State Fault Refusal := opEnds (.fence scope wait token timeout) c

/-- FENCE_RELEASE (R356): every FENCE whose condition is met completes, the oldest first. -/
def execFenceRelease : State → Host.Outcome State Fault Refusal := ends <| .read fun s =>
  each s.host.fences fun f => .read fun t =>
    if t.fenceMet f then fenceEnd f stOk (if f.wait = 0 then 0 else t.rd Reg.ALM_TICK.TICK) else .skip

/-- FENCE_TIMEOUT (R356): a FENCE whose TIMEOUT has passed completes with ERR_FENCE_TMO. -/
def execFenceTimeout : State → Host.Outcome State Fault Refusal := ends <| .read fun s =>
  each s.host.fences fun f => match f.until? with
    | some t => if t ≤ s.time then fenceEnd f stErrFenceTmo 0 else .skip
    | none => .skip

/-- QUOTA_SET (R379, R380). -/
def execQuotaSet (c : Ctl) (p : QuotaPar) : State → Host.Outcome State Fault Refusal := opEnds (.quotaSet p) c

/-- KEY_WRITE (R388). -/
def execKeyWrite (c : Ctl) (p : KeyPar) : State → Host.Outcome State Fault Refusal := opEnds (.keyWrite p) c

/-- MICROCODE_STAGE (R492, R493). -/
def execMicrocodeStage (c : Ctl) (addr len gen : Nat) : State → Host.Outcome State Fault Refusal := opEnds (.mcodeStage addr len gen) c

/-- MICROCODE_ACTIVATE ROLL (R494, R495). -/
def execMicrocodeRoll (c : Ctl) (dwell : Nat) : State → Host.Outcome State Fault Refusal := opEnds (.mcodeRoll dwell) c

/-- MICROCODE_ACTIVATE ABORT (R494, R498). -/
def execMicrocodeAbort (c : Ctl) : State → Host.Outcome State Fault Refusal := opEnds .mcodeAbort c

/-- MICROCODE_ACTIVATE DISCARD (R494). -/
def execMicrocodeDiscard (c : Ctl) : State → Host.Outcome State Fault Refusal := opEnds .mcodeDiscard c

/-- SEAL (R622). -/
def execSeal (c : Ctl) : State → Host.Outcome State Fault Refusal := opEnds .doSeal c

/-- UNKNOWN_OPCODE (R351): a descriptor with a code that the table does not list completes with ERR_OPCODE. -/
def execUnknownOpcode (c : Ctl) (code : Nat) : State → Host.Outcome State Fault Refusal := ends <| .read fun s =>
  if s.takes c.fn c.ring && !s.fenced c.fn c.ring false && !opKnown code then complete c code stErrOpcode else .skip

end Sys2Proof.Machine
end

