-- ==== Sys2Proof/Machine/Descriptors.lean ====
section
/-! DEFINITION. Fetching descriptors (R340, R341), the checks of their control bytes (R348 to R350), and chains (R354). -/

namespace Sys2Proof.Machine

/-- The control part of a descriptor's bytes (R348). -/
def readCtl (fn ring idx : Nat) (chained : Bool) (b : List Nat) : Ctl :=
  { fn, ring, idx, tag := leAt b 4 4, target := leAt b 8 2, target2 := leAt b 10 2, irq := hasBit (byteAt b 1) 1,
    quiet := hasBit (byteAt b 1) 2, chained }

/-- CHAIN of a descriptor (R348). -/
def chains (b : List Nat) : Bool := hasBit (byteAt b 1) 0

/-- The members that a fetch takes from the descriptors at a ring's consumer index (R354): up to the first without CHAIN, or the
sixteenth; none where the chain is not yet whole. -/
def membersOf : Nat → List (List Nat) → Option (List (List Nat))
  | _, [] => none
  | 0, _ => none
  | n + 1, b :: t => if chains b && n != 0 then (membersOf n t).map (b :: ·) else some [b]

/-- The first check of R350 steps 1 to 3 that a descriptor fails. -/
def headBad (b : List Nat) : Option Nat :=
  if crc16 (b.take 14) ≠ leAt b 14 2 then some stErrCrc
  else if byteAt b 2 ≠ 1 then some stErrVersion
  else if !opKnown (byteAt b 0) then some stErrOpcode
  else none

/-- Reserved control bytes are zero (R348, R350 step 5). -/
def ctlClean (b : List Nat) : Bool := byteAt b 1 / 8 == 0 && byteAt b 3 == 0 && byteAt b 12 == 0 && byteAt b 13 == 0

/-- The checks of R350 steps 1 to 6 on a descriptor as fetched; `inChain` for a member of a chain, `long` where the sixteenth member
has CHAIN set. -/
def fetchBad (s : State) (c : Ctl) (b : List Nat) (inChain long : Bool) : Option (Nat × Nat) :=
  let code := byteAt b 0
  match headBad b with
  | some st => some (st, 0)
  | none =>
    match issuerBad s code c with
    | some (st, d) => some (st, d)
    | none => firstBad [(!ctlClean b, stErrRsvd, 0), (inChain && (!opChains code || long), stErrChain, 0)]

/-- A descriptor that is no chain runs (R350). -/
def single (c : Ctl) (b : List Nat) : Prog := .read fun s =>
  match fetchBad s c b false false with
  | some (st, d) => .seq (if st = stErrCrc then incSat Reg.HIF_CNT.CRC_ERRS else .skip) (complete c (byteAt b 0) st 0 d)
  | none => descRun (byteAt b 0) (readPayload b) c

/-- The status of a member's own checks lets a chain go on (R354): none, DONE_BEFORE and NOT_ACTIVE are no failure. -/
def chainFails : Option (Nat × Nat) → Bool
  | none => false
  | some (st, _) => st != stDoneBefore && st != stNotActive

/-- The first member of a chain that fails, checked against the state that the members before it leave (R354). -/
def chainBad (s : State) : List (Ctl × List Nat) → Option (Ctl × Nat × Nat)
  | [] => none
  | (c, b) :: t =>
    let bad := ownBad s (byteAt b 0) (readPayload b) c
    if chainFails bad then bad.map fun e => (c, e)
    else chainBad ((descRun (byteAt b 0) (readPayload b) c).run s) t

/-- A chain that fails: the failing member completes with its own status, every other with ERR_CHAIN (R354). -/
def chainRefused (l : List (Ctl × List Nat)) (c : Ctl) (st d : Nat) : Prog := .seq
  (if st = stErrCrc then incSat Reg.HIF_CNT.CRC_ERRS else .skip)
  (each l fun m => if m.1 = c then complete c (byteAt m.2 0) st 0 d else complete m.1 (byteAt m.2 0) stErrChain)

/-- A chain runs (R354): all its members together, or none. -/
def chainRun (l : List (Ctl × List Nat)) : Prog := .read fun s =>
  let long := match l.getLast? with | some m => chains m.2 | none => false
  match l.findSome? (fun m => (fetchBad s m.1 m.2 true long).map fun e => (m.1, e)) with
  | some (c, st, d) => chainRefused l c st d
  | none => match chainBad s l with
    | some (c, st, d) => chainRefused l c st d
    | none => each l fun m => descRun (byteAt m.2 0) (readPayload m.2) m.1

/-- A CMD ring waits for completion entries, or does so no more (R340); the status line shows CPL_STALL (R345). -/
def stallSet (fn ring : Nat) (v : Bool) : Prog := .read fun s =>
  .seq (updRings (ringKey fn ring) fun x => { x with stalled := v })
    (.read fun t => if t.cplStall fn = s.cplStall fn then .skip else writeStatus fn)

/-- A ring has a descriptor or a whole chain ready, as far as the ring engine knows (R340, R354, R356, R378). -/
def State.ringReady (s : State) (fn ring : Nat) : Bool :=
  let x := s.ringr (ringKey fn ring)
  s.takes fn ring && s.ringIs 0 fn ring && s.descAvail fn ring != 0 && !x.stalled && !x.short && !s.fenced fn ring false
def State.fnReady (s : State) (fn : Nat) : Bool := (List.range 16).any (s.ringReady fn)

/-- Another function that has work ready has not been served in the present turn, while this one has (R378). -/
def State.awaitsTurn (s : State) (fn : Nat) : Bool :=
  s.host.served.contains fn && allFns.any fun f => !s.host.served.contains f && s.fnReady f

/-- A function has been served (R378): with all others served or idle, the next turn begins with it. -/
def turnTaken (fn : Nat) : Prog := updHost fun h => { h with served := if h.served.contains fn then [fn] else fn :: h.served }

/-- A FENCE of SCOPE 1 as fetched (R353, R356). -/
def wideBytes (b : List Nat) : Bool := byteAt b 0 == 0x51 && byteAt b 16 == 1

/-- A descriptor, or a whole chain, is taken from the ring's place `first` (R340, R354): nothing where it is not yet whole, where a
FENCE holds the ring, or where its completion entries cannot be reserved on the ring `cpl`. -/
def fetchMembers (fn ring first cpl : Nat) : Option (List (List Nat)) → Prog
  | none => updRings (ringKey fn ring) fun x => { x with short := true }
  | some l => .read fun s =>
    let inChain := decide (1 < l.length)
    let jobs := l.zipIdx.map fun e => (readCtl fn ring ((first + e.2) % 2 ^ 32) inChain e.1, e.1)
    if s.fenced fn ring (wideBytes (l.headD [])) then .skip
    else if s.cplFree fn cpl < l.length then stallSet fn ring true
    else seqs [
      stallSet fn ring false, turnTaken fn,
      setR Reg.RING_DEV_IDX.DEV_IDX ((first + l.length) % 2 ^ 32) fn ring,
      updRings (ringKey fn cpl) fun x => { x with reserved := x.reserved + l.length },
      emit (.hostWrite fn (s.dbPage fn + 64 + 4 * ring) (leBytes 4 ((first + l.length) % 2 ^ 32))),
      match jobs with
      | [(c, b)] => single c b
      | _ => chainRun jobs]

/-- DESCRIPTOR_FETCH (R340): `mem` are the 64-byte entries of host memory from the consumer index on. A descriptor, or a whole chain
below the producer index, is fetched once its completion entries can be reserved, no FENCE holds the ring, and it is the function's turn (R378). -/
def execDescriptorFetch (fn ring : Nat) (mem : List (List Nat)) : State → Host.Outcome State Fault Refusal := ends <| .read fun s =>
  let cpl := s.rd Reg.RING_CTRL.CPL_RING fn ring
  if !s.takes fn ring || !s.ringIs 0 fn ring || s.descAvail fn ring == 0 || s.awaitsTurn fn then .skip
  else if !s.ringIs 1 fn cpl then ringError fn ring 3
  else fetchMembers fn ring (s.rd Reg.RING_DEV_IDX.DEV_IDX fn ring) cpl (membersOf 16 (mem.take (s.descAvail fn ring)))

end Sys2Proof.Machine
end

