-- ==== Sys2Proof/Machine/Host.lean ====
section
/-! DEFINITION. The commands of the host interface that carry no descriptor (R332 to R373), and of the tenants' watchdogs and
event limits (R386, R391). -/

namespace Sys2Proof.Machine

/-! The link (R332, R365). -/

/-- LINK_UP (R332): the endpoint trains at the widest width and highest speed (1 Gen1 to 3 Gen3) that both ends support. In
SENTINEL a rising edge on PERST# powers D18 again (R555). -/
def execLinkUp (width speed : Nat) : State → Host.Outcome State Fault Refusal := ends <| .read fun s =>
  let w := if width ≥ 4 then 4 else if width ≥ 2 then 2 else 1
  if s.mode = mShip ∨ s.mode = mService ∨ s.rd Reg.HIF_LINK.SPEED ≠ 0 ∨ speed = 0 then .skip
  else seqs [
    updR Reg.PWR_DOM.ON fun t => if t.mode = mSentinel then setBit (t.rd Reg.PWR_DOM.ON) 18 else t.rd Reg.PWR_DOM.ON,
    updHost fun h => { h with maxWidth := w, maxSpeed := min speed 3 },
    setR Reg.HIF_LINK.WIDTH w, setR Reg.HIF_LINK.SPEED (min speed 3),
    healthSet Reg.GLB_HEALTH.PCIE_NARROW fun _ => bit (decide (w < 4) || decide (speed < 3))]

/-- The width on the lanes that are left (R332): ×2 on a working pair, else ×1; 0 without a lane. -/
def narrowed (width faulty : Nat) : Nat :=
  let ok := fun l => !hasBit faulty l
  if faulty = 0 then width
  else if (ok 0 && ok 1) || (ok 2 && ok 3) then min width 2
  else if (List.range 4).any ok then 1 else 0

/-- PCIE_LANE_FAULT (R332): lane `lane` is faulty; with none, equalization has failed twice in a row at the present speed. -/
def execPcieLaneFault (lane : Option Nat) : State → Host.Outcome State Fault Refusal := ends <| .read fun s =>
  let speed := s.rd Reg.HIF_LINK.SPEED
  if speed = 0 then .skip
  else
    let faulty := match lane with
      | some l => if l < 4 then setBit (s.rd Reg.HIF_LINK.LANE_FAULT) l else s.rd Reg.HIF_LINK.LANE_FAULT
      | none => s.rd Reg.HIF_LINK.LANE_FAULT
    let w := narrowed (s.rd Reg.HIF_LINK.WIDTH) faulty
    if w = 0 then perst
    else seqs [setR Reg.HIF_LINK.LANE_FAULT faulty, setR Reg.HIF_LINK.WIDTH w,
      setR Reg.HIF_LINK.SPEED (if lane.isNone then max (speed - 1) 1 else speed), incSat Reg.HIF_LINK.RETRAINS,
      healthSet Reg.GLB_HEALTH.PCIE_NARROW fun _ => 1, pollReport]

/-- PERST (R365): PERST#, a hot reset or a link down. -/
def execPerst : State → Host.Outcome State Fault Refusal := latching .perst perst

/-- FLR (R366): of a VF. -/
def execFlr (vf : Nat) : State → Host.Outcome State Fault Refusal := ends <| .read fun s =>
  if !s.fnUp vf || vf == pfFn then .skip
  else seqs [setR Reg.GLB_RESET_CAUSE.FLR 1, setR Reg.GLB_RESET_INFO.FLR_FN vf, hostReset [vf] 1 true, pollReport]

/-- Every VF loses its function (R367): held with cause 3, class F fields cleared. -/
def vfsOff : Prog := .seq (updHost fun h => { h with vfEnable := false }) (hostReset (List.range 1024) 3 true)

/-- PF_FLR (R367). -/
def execPfFlr : State → Host.Outcome State Fault Refusal := ends <| .read fun s =>
  if s.mode = mShip ∨ s.mode = mService then .skip
  else seqs [setR Reg.GLB_RESET_CAUSE.FLR 1, setR Reg.GLB_RESET_INFO.FLR_FN pfFn, hostReset [pfFn] 1 true, vfsOff]

/-- VF_ENABLE_WRITE (R367). -/
def execVfEnableWrite (en : Bool) : State → Host.Outcome State Fault Refusal := ends <| .read fun s =>
  if s.mode = mShip ∨ s.mode = mService then .skip
  else if en then updHost fun h => { h with vfEnable := true }
  else if s.host.vfEnable then vfsOff else .skip

/-- D3HOT_ENTRY (R368). -/
def execD3hotEntry (fn : Nat) : State → Host.Outcome State Fault Refusal := ends <| .read fun s =>
  if s.fnUp fn then updFns fn fun x => { x with d3hot := true } else .skip

/-- A completion that waited is written with the PHASE of its entry (R337, R357). -/
def cplRephase (b : List Nat) (phase : Nat) : List Nat :=
  let h := (b.take 14).set 1 (byteAt b 1 / 2 * 2 + phase)
  h ++ leBytes 2 (crc16 h)

/-- D3HOT_EXIT (R368): the function fetches and receives writes again; its completions follow. -/
def execD3hotExit (fn : Nat) : State → Host.Outcome State Fault Refusal := ends <| .read fun s =>
  if (s.fnr fn).d3hot then seqs [
    updFns fn fun x => { x with d3hot := false, waiting := [] },
    each (s.fnr fn).waiting fun w => ringPost fn w.1 (cplRephase w.2.2) w.2.1,
    writeStatus fn]
  else .skip

/-! Polling, rings and messages (R336 to R347). -/

/-- One word of line 0 as read (R335, R339). -/
def indexRead (fn r i : Nat) : Prog := .read fun s =>
  let dev := s.rd Reg.RING_DEV_IDX.DEV_IDX fn r
  let old := s.rd Reg.RING_HOST_IDX.HOST_IDX fn r
  let sub := fun a b => (a + 2 ^ 32 - b) % 2 ^ 32
  if ¬ s.flag Reg.RING_CTRL.EN fn r then .skip
  else if s.rd Reg.RING_CTRL.TYPE fn r = 0 then
    (if sub i dev > s.ringSize fn r then ringError fn r 1
     else if i = old then .skip
     else .seq (setR Reg.RING_HOST_IDX.HOST_IDX i fn r) (updRings (ringKey fn r) fun x => { x with short := false }))
  else if sub i old > sub dev old then ringError fn r 1
  else setR Reg.RING_HOST_IDX.HOST_IDX i fn r

/-- The sixteen indices in the 64 bytes of doorbell line 0 (R7, R344). -/
def lineWords (bytes : List Nat) : List Nat := (List.range 16).map fun i => leAt bytes (4 * i) 4

/-- The poll of a function is due (R346, R347): its interval has passed since the last. -/
def State.pollDue (s : State) (fn : Nat) : Bool :=
  match (s.fnr fn).pollAt with
  | some t => decide (t + s.pollInterval fn ≤ s.time)
  | none => true

/-- DOORBELL_POLL (R346): line 0 of a function as its 64 bytes are read. -/
def execDoorbellPoll (fn : Nat) (line : List Nat) : State → Host.Outcome State Fault Refusal := ends <| .read fun s =>
  let l := lineWords line
  if s.hifOn && s.fnUp fn && s.flag Reg.FN_DB_LO.EN fn && !(s.fnr fn).d3hot && s.pollDue fn then seqs [
    updFns fn fun x => { x with pollAt := some s.time, line0 := l, activeUntil := if x.line0 = l then x.activeUntil else s.time + 10000 },
    each ((List.range 16).zip l) fun e => indexRead fn e.1 e.2,
    pollReport]
  else .skip

/-- MSIX_MODERATION_TIMEOUT (R343): MOD_US after the first entry since the last message; MOD_US 0 sets no time. -/
def execMsixModerationTimeout (fn r : Nat) : State → Host.Outcome State Fault Refusal := ends <| .read fun s =>
  let x := s.ringr (ringKey fn r)
  let us := s.rd Reg.RING_MOD.MOD_US fn r
  if s.flag Reg.RING_CTRL.EN fn r && x.modCount != 0 && us != 0 && decide (x.modSince + us ≤ s.time) then ringMessage fn r else .skip

/-- STATUS_LINE_WRITE (R345). -/
def execStatusLineWrite (fn : Nat) : State → Host.Outcome State Fault Refusal := ends <| .read fun s =>
  if s.hifOn && s.fnUp fn then writeStatus fn else .skip

/-- TIME_ANCHOR (R364): at each whole second, to every live function. -/
def execTimeAnchor : State → Host.Outcome State Fault Refusal := ends <| .read fun s =>
  if s.time % 1000000 ≠ 0 ∨ s.mode = mHalt ∨ s.mode = mService then .skip
  else raise { typ := evTimeAnchor, src := srcDevice, data := dat 16 8 s.time + dat 24 4 (s.time / 10000 % 2 ^ 32) }
    (allFns.filter fun f => s.flag Reg.FN_STATUS.LIVE f)

/-- A poisoned descriptor has been fetched (R340, R371): it takes its completion entry and its place, and completes with ERR_CRC. -/
def poisonedTaken (fn r : Nat) : Prog := .read fun s =>
  let i := s.rd Reg.RING_DEV_IDX.DEV_IDX fn r
  let cpl := s.rd Reg.RING_CTRL.CPL_RING fn r
  if s.ringIs 0 fn r && s.ringIs 1 fn cpl && s.descAvail fn r != 0 && s.cplFree fn cpl != 0 then seqs [
    setR Reg.RING_DEV_IDX.DEV_IDX ((i + 1) % 2 ^ 32) fn r,
    updRings (ringKey fn cpl) fun x => { x with reserved := x.reserved + 1 },
    emit (.hostWrite fn (s.dbPage fn + 64 + 4 * r) (leBytes 4 ((i + 1) % 2 ^ 32))),
    incSat Reg.HIF_CNT.CRC_ERRS, complete { fn, ring := r, idx := i } 0 stErrCrc]
  else .skip

/-- HOST_READ_ERROR (R371): a read for a ring returned an error; a poisoned descriptor completes with ERR_CRC. -/
def execHostReadError (fn r : Nat) (poisoned : Bool) : State → Host.Outcome State Fault Refusal := ends <| .read fun s =>
  if s.hifOn && s.flag Reg.RING_CTRL.EN fn r then .seq (if poisoned then poisonedTaken fn r else .skip) (ringError fn r 2)
  else .skip

/-- DOORBELL_PAGE_WRITE (R373): a function writes DB_LO. -/
def execDoorbellPageWrite (fn value : Nat) : State → Host.Outcome State Fault Refusal := fnWrites fn (Reg.FN_DB_LO.ADDR_LO.addr 0 0 0)
  (fun s => s.dbLoCause fn value) (dbLoWrite fn value)

/-- RING_ENABLE_WRITE (R338): a function writes RING_CTRL. -/
def execRingEnableWrite (fn r value : Nat) : State → Host.Outcome State Fault Refusal := fnWrites fn (Reg.RING_CTRL.EN.addr 0 r 0)
  (fun s => s.ringCtrlCause fn r value) (ringCtrlWrite fn r value)

/-! Tenants (R386, R391). -/

/-- WDG_QUESTION (R391): the next question of an armed function is due; an unanswered one is a late miss. -/
def execWdgQuestion (fn : Nat) : State → Host.Outcome State Fault Refusal := ends <| .read fun s =>
  let x := s.fnr fn
  if x.armed && s.hifOn && decide (x.nextAt ≤ s.time) then
    .seq (if x.judged then .skip else wdgMiss fn 0) (wdgAsk fn x.nextAt)
  else .skip

/-- RATE_LIMIT (R386): class 2 events have been dropped; at most once per second. -/
def execRateLimit (fn : Nat) : State → Host.Outcome State Fault Refusal := ends <| .read fun s =>
  let x := s.fnr fn
  let due := match x.rateAt with | some t => decide (t + 1000000 ≤ s.time) | none => true
  if x.rateDrops != 0 && due then
    .seq (updFns fn fun x => { x with rateDrops := 0, rateAt := some s.time })
      (raise { typ := evRateLimit, src := srcFn fn, data := dat 16 4 x.rateDrops } [fn])
  else .skip

end Sys2Proof.Machine
end

