-- ==== Sys2Proof/Machine/House.lean ====
section
/-! DEFINITION. The house rail and the accessory boost (chapter 02, R59 to R64): the house-battery charger's states, its temperature,
its faults, and the boost's cut-off. -/

namespace Sys2Proof.Machine

/-- The charger's state by the battery's voltage (R59): 0 DEAD, 1 PRECHARGE, 2 CC. -/
def State.hbByV (s : State) (mv : Nat) : Nat := if mv < hbDead s.hbChem then 0 else if mv < hbPreTh s.hbChem then 1 else 2

/-- The charger enters a state; its timers start (R59, R61). The spec does not say whether a SUSPEND or a fall back restarts the 8 h and
the 2 h of R61: they start anew on re-entry (DESIGN CHOICE). -/
def hbEnter (st : Nat) : Prog := .read fun s => .seq (setR Reg.SRC_HB_STATUS.STATE st)
  (updHouse fun h =>
    { h with
      preAt := if st ≤ 1 then s.time else h.preAt
      chargeAt := if st = 2 && s.rd Reg.SRC_HB_STATUS.STATE != 3 then s.time else h.chargeAt
      cvAt := if st = 3 then s.time else h.cvAt
      endSince := none })

/-- The end-of-charge current, mA, and how long it must last, µs (R59). -/
def hbEndMa (c : Nat) : Nat := if c = 2 then 500 else 250
def hbEndTime (c : Nat) : Nat := if c = 2 then 1800000000 else 600000000

/-- The battery's temperature allows charging (R61): the last valid reading, at most 5 s old, lies in the window; before the first reading
the 5 s run from the rail step of START. -/
def State.hbTempOk (s : State) : Bool :=
  let raw := s.rd Reg.SRC_HB_STATUS.TEMP
  let t := ofField 12 raw
  let lo : Int := if s.hbChem = 2 then -200 else 0
  let hi : Int := if s.hbChem = 2 then 500 else 450
  decide (s.time < s.house.tempAt + 5000000) && (raw == 0x800 || (decide (lo ≤ t) && decide (t ≤ hi)))

/-- The steps of R62 from the dead threshold on, with the rail at `rail` mV: the rail is matched, then the switch closes. -/
def hbMatch (mv rail : Nat) : Prog := .read fun s =>
  if s.house.railStep = 3 then
    (if mv ≥ hbDead s.hbChem ∧ s.rd Reg.SRC_HB_STATUS.STATE = 0 then updHouse fun h => { h with railStep := 4 } else .skip)
  else if s.house.railStep = 4 ∧ max rail mv - min rail mv ≤ 200 then seqs [
    setR Reg.SRC_HB_STATUS.HRAIL 1, updHouse fun h => { h with railStep := 6, hbPre := false },
    -- a FAULT stays, and a SUSPEND until the temperature allows charging (R61)
    when (fun _ => s.rd Reg.SRC_HB_STATUS.STATE != 7 && (s.rd Reg.SRC_HB_STATUS.STATE != 6 || s.hbTempOk)) (hbEnter (s.hbByV mv))]
  else .skip

/-- The transitions of the closed switch (R59, R61): a battery that falls below a threshold of its chemistry falls back to PRECHARGE or
DEAD from any charging state. -/
def hbStep (mv : Nat) (ma : Int) : Prog := .read fun s =>
  let c := s.hbChem
  let low := hbEnter (s.hbByV mv)
  match s.rd Reg.SRC_HB_STATUS.STATE with
  | 0 => if s.hbByV mv ≠ 0 then low else .skip
  | 1 => if s.hbByV mv ≠ 1 then low else .skip
  | 2 => if mv ≥ hbCv c then hbEnter 3 else if s.hbByV mv ≠ 2 then low else .skip
  | 3 =>
    if s.hbByV mv ≠ 2 then low else
    let since := if ma < hbEndMa c then some (s.house.endSince.getD s.time) else none
    let long := match since with | some t => decide (s.time ≥ t + hbEndTime c) | none => false
    if long || (c == 2 && decide (s.time ≥ s.house.cvAt + 14400000000)) then hbEnter (if c = 2 then 5 else 4)
    else updHouse fun h => { h with endSince := since }
  | 4 => if mv < hbBack c then low else .skip
  | 5 => if s.hbByV mv ≠ 2 then low else .skip
  | 6 => if s.hbTempOk then low else .skip
  | _ => .skip

/-- HB_CHARGER_TRANSITION (R59 to R62, R78, R553): a reading of the battery, its current, the system current and the rail moves the
charger. -/
def execHbChargerTransition (mv : Nat) (ma : Int) (sys rail : Nat) : State → Host.Outcome State Fault Refusal :=
  ends (.read fun s =>
    if s.house.railStep < 3 ∨ s.flag Reg.SRC_HB_STATUS.ABSENT then .skip
    else seqs [
      setR Reg.SRC_HB_MEAS.VOLT (min mv 0xFFFF), setR Reg.SRC_HB_MEAS.CURR (toField 16 (clampS 16 ma)),
      updHouse fun h => { h with
        sysMa := sys
        lowSince := if s.mode = mIsland ∧ s.islandDonors.isEmpty ∧ mv < hbCut s.hbChem then some (h.lowSince.getD s.time) else none },
      hbMatch mv rail,
      when (fun t => t.house.railStep == 6) (hbStep mv ma),
      -- a suspended charger on the pre-charge path goes on as DEAD (R62 step 3)
      when (fun t => t.house.railStep == 3 && t.rd Reg.SRC_HB_STATUS.STATE == 6 && t.hbTempOk) (.seq (hbEnter 0) (updHouse fun h => { h with hbPre := true }))])

/-- HB_TEMP_READ (R61, R408): the once-a-second read of the sensor on TWB64. -/
def execHbTempRead : State → Host.Outcome State Fault Refusal :=
  ends (when (fun s => hasBit (s.rd Reg.PWR_DOM.ON) 19 && !s.flag Reg.SRC_HB_STATUS.ABSENT)
    (.read fun s => agentQueue 64 (sensorJob (s.rd Reg.SRC_HB_CFG.TSENS_ADDR) (s.flag Reg.TWB_CFG.PEC_SYS 64))))

/-- HB_TEMP_SUSPEND (R61, R77): the temperature has left its window, or no valid reading has come for 5 s; TEMP then shows that there is
none (DESIGN CHOICE: the spec gives no moment for it). -/
def execHbTempSuspend : State → Host.Outcome State Fault Refusal :=
  ends (.read fun s =>
    if s.house.railStep < 3 ∨ s.flag Reg.SRC_HB_STATUS.ABSENT ∨ s.hbTempOk then .skip
    else seqs [
      when (fun _ => decide (s.rd Reg.SRC_HB_STATUS.STATE < 6)) (.seq (hbEnter 6) (updHouse fun h => { h with hbPre := false })),
      when (fun _ => decide (s.time ≥ s.house.tempAt + 5000000)) (setR Reg.SRC_HB_STATUS.TEMP 0x800)])

/-- The condition of HB_FAULT cause `cause` holds (R61, R62 step 3). -/
def State.hbFaulty (s : State) (cause : Nat) : Bool :=
  let st := s.rd Reg.SRC_HB_STATUS.STATE
  match cause with
  | 0 => (st == 2 || st == 3) && decide (s.time > s.house.chargeAt + 28800000000)
  | 1 => decide (s.hbMv ≥ hbCv s.hbChem + 500)
  | 2 => decide (st ≤ 1) && decide (s.time ≥ s.house.preAt + 7200000000)
  | _ => false

/-- HB_FAULT (R61): the charge ran too long (0), the battery is over its CV voltage by 500 mV (1), or the pre-charge ran too long (2). -/
def execHbFault (cause : Nat) : State → Host.Outcome State Fault Refusal :=
  ends (.read fun s =>
    if s.house.railStep < 3 ∨ s.flag Reg.SRC_HB_STATUS.ABSENT ∨ s.rd Reg.SRC_HB_STATUS.STATE = 7 ∨ ¬ s.hbFaulty cause then .skip
    else seqs [
      raisePf evHbFault srcDevice (dat 16 1 (s.rd Reg.SRC_HB_STATUS.STATE) + dat 17 1 cause),
      hbEnter 7, updHouse fun h => { h with hbPre := false }])

/-- ACC_UVLO (R64): the battery is below the accessory cut-off; PHC137 stops. -/
def execAccUvlo : State → Host.Outcome State Fault Refusal :=
  ends (.read fun s =>
    if s.flag Reg.SRC_ACC_CTRL.RUNNING && !s.flag Reg.SRC_ACC_CTRL.UVLO && !s.flag Reg.SRC_HB_STATUS.ABSENT && decide (s.hbMv < hbCut s.hbChem) then seqs [
      setR Reg.SRC_ACC_CTRL.UVLO 1, softStop 137,
      raisePf evAccUvlo srcDevice (dat 16 2 s.hbMv)]
    else .skip)

/-- ACC_RESTART (R64): the battery exceeds the cut-off by 800 mV; the next commit starts PHC137 where its mode wants it. -/
def execAccRestart : State → Host.Outcome State Fault Refusal :=
  ends (.read fun s =>
    if s.flag Reg.SRC_ACC_CTRL.UVLO && decide (s.hbMv > hbCut s.hbChem + 800) then setR Reg.SRC_ACC_CTRL.UVLO 0 else .skip)

end Sys2Proof.Machine
end

