-- ==== Sys2Proof/Machine/PlanOps.lean ====
section
/-! DEFINITION. How the Almanac plans (chapter 05): what a rebuild takes from the snapshot (R211), the budget (R212), the
order of the goals of R213, the ramps of R214 and R215, quota cuts (R216, R220) and reservations (R224). Powers are
in microwatts unless a name says otherwise. -/

namespace Sys2Proof.Machine

/-- The bus power of a drawing channel, µW (R212): V_out × I × 100 / ETA_PCT. -/
def drawUw (v i eta : Nat) : Nat := v * i * 100 / eta

/-- The bus power of a feeding channel, µW (R212): V_out × |I| × ETA_PCT / 100. -/
def feedUw (v i eta : Nat) : Nat := v * i * eta / 100

/-- The largest current whose bus power as a drawing channel fits in `p` µW. -/
def drawMa (v p eta : Nat) : Nat := if v = 0 then 131071 else min 131071 (p * eta / (100 * v))

/-- The largest current whose bus power as a feeding channel fits in `p` µW. -/
def feedMa (v p eta : Nat) : Nat := if v = 0 then 0 else min 131071 (p * 100 / (eta * v))

/-- ETA_PCT (R238). -/
def State.eta (s : State) : Nat := s.rd Reg.ALM_CFG.ETA_PCT

/-- V_out of a lead (R212): the last measured output voltage while it switches. A lead that does not switch has none of its own; the plan then
prices it by the voltage it is to start at, `start` (DEDUCED). -/
def State.outV (s : State) (lead start : Nat) : Nat :=
  if s.switching lead then s.rd Reg.PHC_MEAS_V.MEAS_V lead else start

/-- V_out of a slot's lead (R212), the pack's voltage before it switches. -/
def State.slotV (s : State) (sl : Nat) : Nat := s.outV (s.slotLead sl) (s.rd Reg.SLT_VPACK.VPACK sl)

/-- A slot as a rebuild takes it (R211). `kind` is 1 for a charge, 2 for a TRANSFER, 3 for an AUDIT, 4 for an ISLAND donor. -/
structure PlanSlot where
  sl : Nat
  lead : Nat
  kind : Nat
  v : Nat
  /-- The largest magnitude that R213 goal 1, the hold and the mode allow, mA. -/
  cap : Nat
  /-- The ceiling that the share of R213 goal 6 is a fraction of, mA. -/
  ceil : Nat
  up : Nat
  dn : Nat
  inCv : Bool
  prio : Nat
  fn : Nat
  /-- The reservation: deadline in ticks from now and required current, mA (R224). -/
  resv : Option (Nat × Nat)
  /-- A TRANSFER donor's receiver, as `SLT_LINK.PEER`. -/
  peer : Nat
  /-- A quota cut's R_0 (R220). -/
  r0 : Option Nat
  deriving DecidableEq, Repr

/-- The present reference of R214 of a slot's lead, as a magnitude: the committed reference, × SCALE / 1024 in FORWARD. -/
def State.refNow (s : State) (lead : Nat) : Nat :=
  if s.dir lead = 0 then (scaleMa (s.refI lead) (s.rd Reg.SRC_GUARD.SCALE) 1024).natAbs else (s.refI lead).natAbs

/-- The required current of a reservation, mA (R224, R226), at the tick being planned. -/
def State.iReq (s : State) (sl : Nat) : Nat :=
  let left := (s.rd Reg.ALM_SLOT_B.RESV_TICK sl + 2 ^ 32 - s.time / 10000 % 2 ^ 32) % 2 ^ 32
  let g := s.rd Reg.GAU_QFULL.Q_FULL sl
  let q := if s.unrestored sl = 1 then (s.gauge sl).nominal else g
  if left = 0 then 0 else 11 * (s.rd Reg.ALM_SLOT_A.RESV_SOC sl - s.rd Reg.GAU_SOC.SOC sl) * q * 360000 / (1000000 * left)

/-- A reservation is in force (R225). -/
def State.reserved (s : State) (sl : Nat) : Bool := s.rd Reg.ALM_SLOT_A.RESV sl == 1 || s.rd Reg.ALM_SLOT_A.RESV sl == 2

/-- The slot's function is held (R227). -/
def State.slotHeld (s : State) (sl : Nat) : Bool := s.flag Reg.ALM_SLOT_A.HELD sl

/-- A bed's microcode cannot speak the negotiated schema version (R232). -/
def State.schemaMute (s : State) (b : Nat) : Bool :=
  decide ((if hasBit (s.rd Reg.ENG_UPG.BEDS_NEW) b then s.rd Reg.ENG_SCHEMA_STG.STG_HI else s.rd Reg.ENG_SCHEMA.ACT_HI) < s.rd Reg.ALM_STATUS.SCHEMA)

/-- A bed's shard is absent (R232, R233). -/
def State.bedAbsent (s : State) (b : Nat) : Bool := s.alm.absent.contains b || s.schemaMute b
def State.shardAbsent (s : State) (sl : Nat) : Bool := s.bedAbsent (sl / 4)

/-- The reference of an auxiliary lead as its bed's shard allows it (R18, R233): held at the last committed one where it is absent. -/
def State.auxHeld (s : State) (lead : Nat) (want : Int) : Int :=
  if s.bedAbsent (lead - 128) then sat (min 0 (s.refI lead)) (max 0 (s.refI lead)) want else want

/-- The hold ceiling of a charge (R227). -/
def State.holdCap (s : State) (sl : Nat) : Nat :=
  match (s.slot sl).holdRef with
  | some r => if s.slotHeld sl then min r (s.rd Reg.ALM_CFG.HOLD_PCT * (s.slot sl).icc / 100) else 131071
  | none => 131071

/-- The drawing channels are held at zero (R52, R54, R229, R562): an under-voltage, or no source and no ready donor; SENTINEL and dusk. -/
def State.drawStop (s : State) : Bool :=
  s.grid.uvHold || (s.flag Reg.SRC_GUARD.ALL_LOST && !s.grid.ready) || s.mode == mSentinel || s.inDusk || s.alm.firstZero

/-- A commit carries zero for every TRANSFER and AUDIT donor (R650): while the over-voltage condition of R52 holds, or with every source
lost and no donor that holds the bus ready. -/
def State.protectStop (s : State) : Bool := decide (s.grid.ovRun ≥ 2) || (s.flag Reg.SRC_GUARD.ALL_LOST && !s.grid.ready)

/-- The TRANSFER and AUDIT donors are held at zero (R650, R562). -/
def State.feedStop (s : State) : Bool := s.protectStop || s.mode == mSentinel || s.inDusk || s.alm.firstZero

/-- A charge may be planned (R213 goal 1, R221, R227, R229, R233): `ovr` where its tenant is over its quota. -/
def State.chargeCap (s : State) (sl : Nat) (ovr : Bool) : Nat :=
  let fresh := s.rd Reg.SLT_STATUS.PHASE sl == 0
  if s.drawStop then 0
  else if fresh && (ovr || s.mode == mCurtail || s.slotHeld sl || s.shardAbsent sl) then 0
  else if s.mode == mIsland && !s.flag Reg.SLT_STATUS.RECEIVER sl then 0
  else
    let c := min (s.slotCeiling sl) (s.holdCap sl)
    if s.shardAbsent sl || ovr then min c (s.refNow (s.slotLead sl)) else c

/-- The cap of a donor (R119, R170, R183, R187, R55, R58). -/
def State.donorCap (s : State) (sl kind : Nat) : Nat :=
  let x := s.slot sl
  let hard := min (100 * s.rd Reg.SLT_PACK_A.IDIS_MAX sl) (10000 * s.nPhys (s.slotLead sl))
  let c := if kind = 2 then s.zoneLimit sl (min x.imax hard) else if kind = 3 then s.zoneLimit sl (min x.audI hard) else s.donorLimit sl
  let held := match x.holdRef with
    | some r => if s.slotHeld sl then min c r else c
    | none => c
  if kind = 4 then (if s.mode == mIsland && s.srcsOn.isEmpty then held else 0)
  else if s.feedStop then 0 else if s.shardAbsent sl then min held (s.refNow (s.slotLead sl)) else held

/-- The direction a slot asks for. -/
def kindDir (kind : Nat) : Nat := if kind = 1 then 0 else if kind = 4 then 2 else 1

/-- A slot as the rebuild plans it, if it may carry current at all (R213 goal 1). `ovr` tells a tenant over its quota. -/
def State.planSlot (s : State) (ovr : Nat → Bool) (sl : Nat) : Option PlanSlot :=
  let lead := s.slotLead sl
  let x := s.slot sl
  let st := s.slSt sl
  let kind :=
    if st = slCharging ∧ x.curPhase ≠ 0 then 1
    else if st = slDonor then
      (match s.rd Reg.SLT_STATUS.ROLE sl with
       | 1 => 2
       | 2 => if x.audStep = 3 then 3 else 0
       | 3 => 4
       | _ => 0)
    else 0
  if kind = 0 ∨ s.rd Reg.PHC_STATUS.STAGE lead = 6 then none
  else
    let gang := if s.ganged (sl / 2) then 2 else 1
    let fn := s.ownerOrPf sl
    let cap := if kind = 1 then s.chargeCap sl (ovr fn) else s.donorCap sl kind
    -- a lead that still switches in another direction ramps to zero first (R118)
    let turn := s.rd Reg.PHC_STATUS.STAGE lead != 0 && (s.chan lead).dirNext != kindDir kind
    -- the hold plan lowers the ceiling itself (R227, R233)
    let held := min (s.slotCeiling sl) (s.holdCap sl)
    some { sl, lead, kind, v := s.slotV sl, cap := if turn then 0 else cap,
           ceil := if s.shardAbsent sl then min held (s.refNow lead) else held,
           up := gang * 100 * s.rd Reg.ALM_RAMP.UP, dn := gang * 100 * s.rd Reg.ALM_RAMP.DN,
           inCv := x.curPhase == 4, prio := s.rd Reg.ALM_SLOT_A.PRIO sl, fn,
           resv := if kind = 1 && s.reserved sl then
             some ((s.rd Reg.ALM_SLOT_B.RESV_TICK sl + 2 ^ 32 - s.time / 10000 % 2 ^ 32) % 2 ^ 32, s.iReq sl) else none
           peer := s.rd Reg.SLT_LINK.PEER sl, r0 := x.cutR0 }

/-- The present contract of a port as the plan counts it, mV and mA: the new one from the boundary at which it is planned (R455). -/
def State.portPlan (s : State) (k : Nat) : Nat × Nat :=
  let x := s.port k
  if x.readyOwed && x.planned then (x.nextV, x.nextI) else (s.rd Reg.PDP_CONTRACT.V k, s.rd Reg.PDP_CONTRACT.I k)

/-- A port is supplied (R213 goal 2, R457, R460). -/
def State.portFed (s : State) (k : Nat) : Bool :=
  s.attached k && decide ((s.port k).hardStep < 2) && !s.drawStop && s.rd Reg.PHC_STATUS.STAGE (portLead k) != 6

/-- A number moved toward another by at most `d`. -/
def moveTo (cur target d : Nat) : Nat := if cur ≤ target then min target (cur + d) else max target (cur - d)

/-- The planned reference of a port `n` ticks ahead (R455): the voltage moves 2,000 mV a tick, from 0 at once; the current is the
contract's and 500 mA, and falls only once the voltage has arrived. -/
def State.portRef (s : State) (n k : Nat) : PlanRef :=
  let lead := portLead k
  let x := s.port k
  if !s.portFed k then { lead, refI := 0, refV := s.rd Reg.PHC_REF_V.REF_V lead }
  else if x.hardStep = 1 then { lead, refI := s.refI lead, refV := s.rd Reg.PHC_REF_V.REF_V lead }
  else
    let t := s.portPlan k
    let cur := s.rd Reg.PHC_REF_V.REF_V lead
    let v := if s.refI lead = 0 then t.1 else moveTo cur t.1 (2000 * (n + 1))
    let i := max t.2 (s.rd Reg.PDP_CONTRACT.I k) + 500
    { lead, refI := s.auxHeld lead (i : Nat), refV := v }

/-- What `ALM_AUXn` asks of general-purpose channel PHC138 + `n`, mA (R241, R233). A feeding channel is held at zero where TRANSFER and AUDIT
donors are, a drawing one where the drawing channels are. -/
def State.auxWant (s : State) (n : Nat) : Int :=
  let want := ofField 18 (s.rd Reg.ALM_AUX_I.REF_I n)
  if s.flag Reg.ALM_AUX_I.EN n && !(if want < 0 then s.feedStop else s.drawStop) then s.auxHeld (138 + n) want else 0

/-- A signed reference `cur` one tick nearer to `want` (R214, R215): it rises by UP or falls by DN in magnitude, and a change of sign passes
through zero. -/
def State.auxStep (s : State) (cur want : Int) : Int :=
  let up : Nat := 100 * s.rd Reg.ALM_RAMP.UP
  let dn : Nat := 100 * s.rd Reg.ALM_RAMP.DN
  if cur = 0 then sat (-up) up want
  else if 0 < cur then sat (max 0 (cur - dn)) (cur + up) want
  else sat (cur - up) (min 0 (cur + dn)) want

/-- The planned reference of general-purpose channel PHC138 + `n` for a current `a`. -/
def State.auxRef (s : State) (n : Nat) (a : Int) : PlanRef :=
  { lead := 138 + n, refI := a, refV := s.rd Reg.ALM_AUX_V.REF_V n, dir := if a < 0 then 1 else 0 }

/-- The charger's current into the battery, mA, by its state and R60. -/
def State.hbCharge (s : State) : Nat :=
  let room := 10000 - s.house.sysMa
  match s.rd Reg.SRC_HB_STATUS.STATE with
  | 0 | 1 => min 500 room
  | 2 | 3 | 5 => min (100 * s.rd Reg.SRC_HB_CFG.ICHG) room
  | _ => 0

/-- The rail set point of PHC136, mV (R59, R62, R63). -/
def State.hbSet (s : State) : Nat :=
  let c := s.hbChem
  if s.flag Reg.SRC_HB_STATUS.ABSENT then 12000
  else if s.house.railStep = 3 then hbDead c + 1000
  else if s.house.railStep = 4 then s.hbMv
  else match s.rd Reg.SRC_HB_STATUS.STATE with
    | 0 => hbDead c + 1000
    | 1 | 2 | 3 => hbCv c
    | 5 => hbBack c
    | _ => s.hbMv

/-- Dusk toward SHIP has stopped the house rail's channels (R562 step 4). -/
def State.railOff (s : State) : Bool := s.inDusk && s.rd Reg.PWR_MODE.TARGET == mShip && decide (s.rd Reg.PWR_MODE.STEP ≥ 4)

/-- The planned reference of PHC136 (R60, R215): the lower of ICHG and the charger's limit; where the charger delivers none, or the
battery is absent, the rail load alone. From step 4 of dusk toward SHIP the rail is off (R562). -/
def State.hbRef (s : State) : PlanRef :=
  let stop := s.grid.uvHold || (s.flag Reg.SRC_GUARD.ALL_LOST && !s.grid.ready) || s.railOff
  let i := if s.flag Reg.SRC_HB_STATUS.ABSENT then 10000 else if s.hbCharge = 0 then min 10000 s.house.sysMa else s.hbCharge
  { lead := 136, refI := if stop then 0 else s.auxHeld 136 (i : Nat), refV := s.hbSet }

/-- The planned reference of PHC137 (R64). -/
def State.accRef (s : State) : PlanRef :=
  if s.accWanted && !s.railOff then
    { lead := 137, refI := s.auxHeld 137 (100 * s.rd Reg.SRC_ACC_CTRL.ILIM : Nat), refV := 100 * s.rd Reg.SRC_ACC_CTRL.VOUT }
  else { lead := 137, refI := 0, refV := 100 * s.rd Reg.SRC_ACC_CTRL.VOUT }

/-- The fixed demands of a port, µW (R211, R220). -/
def State.portUw (s : State) (k : Nat) : Nat := if s.portFed k then drawUw (s.portPlan k).1 (s.portPlan k).2 s.eta else 0

/-- V_out of a general-purpose channel (R212); its own voltage reference before it switches. -/
def State.auxV (s : State) (n : Nat) : Nat := s.outV (138 + n) (s.rd Reg.ALM_AUX_V.REF_V n)

/-- The fixed demands, µW (R211, R213 goal 2): PHC136, the PD contracts and the forward general-purpose channels, for given references of
these. -/
def State.fixedUw (s : State) (aux : List Int) : Nat :=
  drawUw (s.outV 136 s.hbMv) s.hbRef.refI.toNat s.eta + ((List.range 8).map s.portUw).sum +
  ((List.range 6).map fun n => drawUw (s.auxV n) (aux.getD n 0).toNat s.eta).sum

/-- What the reverse general-purpose channels feed, µW (R212, R241). -/
def State.auxFeed (s : State) (aux : List Int) : Nat :=
  ((List.range 6).map fun n => feedUw (s.auxV n) (-(aux.getD n 0)).toNat s.eta).sum

/-- The present references of the general-purpose channels. -/
def State.auxNow (s : State) : List Int := (List.range 6).map fun n => s.refI (138 + n)

/-- The budget of R212 in the present mode, µW, without the guard's row. -/
def State.modeBudget (s : State) : Nat :=
  if s.mode == mIsland then
    (s.islandDonors.map fun sl => s.rd Reg.SLT_VPACK.VPACK sl * s.donorLimit sl * s.eta / 100).sum
  else
    let run := ((List.range 4).map fun k =>
      if s.flag Reg.SRC_PORT_STATUS.ENABLED k && (s.src k).inBudget then
        s.rd Reg.SRC_PORT_STATUS.LIMIT_EFF k * s.busMv * s.rd Reg.ALM_CFG.BUDGET_PCT / 100 else 0).sum
    if s.mode == mCurtail then run * s.rd Reg.ALM_CFG.CURTAIL_PCT / 100 else run

/-- The bus guard is active (R70, R212). -/
def State.guardOn (s : State) : Bool := decide (s.rd Reg.SRC_GUARD.SCALE < 1024)

/-- What the drawing channels draw at the present SCALE, µW (R212). -/
def State.drawNow (s : State) : Nat :=
  let slots := ((List.range 64).map fun sl =>
    let l := s.slotLead sl
    if l = 2 * sl ∧ s.switching l ∧ s.dir l = 0 then drawUw (s.slotV sl) (s.refNow l) s.eta else 0).sum
  slots + s.rd Reg.SRC_GUARD.SCALE * s.fixedUw s.auxNow / 1024

/-- The budget for the ticks of a rebuild, µW (R212). -/
def State.budgetUw (s : State) : Nat := if s.guardOn then min s.modeBudget s.drawNow else s.modeBudget

/-! One planned tick. -/

/-- A charging slot within one tick: the bounds its reference may take, and the power that its own donor supplies. -/
structure Cand where
  p : PlanSlot
  lo : Nat
  hi : Nat
  cur : Nat
  credit : Nat
  deriving DecidableEq, Repr

/-- What a reference of a candidate costs the budget, µW (R213: a donor only supplies its receiver). -/
def Cand.cost (c : Cand) (eta i : Nat) : Nat := drawUw c.p.v i eta - c.credit

/-- The order of R216: slots not in CV first, then the lowest PRIO, then the highest slot number. -/
def cutBefore (a b : Cand) : Bool :=
  let ka := (bit a.p.inCv, a.p.prio)
  let kb := (bit b.p.inCv, b.p.prio)
  decide (ka.1 < kb.1) || (ka.1 == kb.1 && (decide (ka.2 < kb.2) || (ka.2 == kb.2 && decide (b.p.sl ≤ a.p.sl))))

/-- References are cut in the order of R216 until the cost fits (R216): each falls at most to its lower bound. -/
def cutFill (eta : Nat) : Nat → List (Cand × Nat) → List (Nat × Nat)
  | _, [] => []
  | excess, (c, i) :: l =>
    let need := drawMa c.p.v (drawUw c.p.v i eta - min excess (drawUw c.p.v i eta)) eta
    let i' := if excess = 0 then i else max c.lo (min i need)
    (c.p.sl, i') :: cutFill eta (excess - (c.cost eta i - c.cost eta i')) l

/-- The reference that a fraction `f` / 1,024 of the ceiling gives a candidate that already holds `i` (R213 goal 6). -/
def shareAt (f : Nat) (c : Cand) (i : Nat) : Nat := max i (min c.hi (f * c.p.ceil / 1024))

/-- The greatest fraction, by bits from `b` down, whose added cost fits in `r`. -/
def bestShare (eta : Nat) (l : List (Cand × Nat)) (r : Nat) : Nat → Nat → Nat
  | 0, f => f
  | b + 1, f =>
    let g := f + 2 ^ b
    let add := (l.map fun e => e.1.cost eta (shareAt g e.1 e.2) - e.1.cost eta e.2).sum
    if g ≤ 1024 ∧ add ≤ r then bestShare eta l r b g else bestShare eta l r b f

/-- Goal 6 of R213: the remaining budget goes to the candidates, higher PRIO first, by one fraction within a PRIO. -/
def shareFill (eta : Nat) (l : List (Cand × Nat)) (r : Nat) : List Nat → List (Cand × Nat)
  | [] => l
  | p :: ps =>
    let mine := l.filter fun e => e.1.p.prio == p
    let f := bestShare eta mine r 11 0
    let l' := l.map fun e => if e.1.p.prio = p then (e.1, shareAt f e.1 e.2) else e
    let used := (mine.map fun e => e.1.cost eta (shareAt f e.1 e.2) - e.1.cost eta e.2).sum
    shareFill eta l' (r - used) ps

/-- Goal 4 of R213: reserved slots receive the lower of I_req and their bound, earliest deadline first (R224). -/
def resvFill (eta : Nat) : Nat → List (Cand × Nat) → Nat × List (Nat × Nat)
  | r, [] => (r, [])
  | r, (c, i) :: l =>
    let want := max i (min c.hi ((c.p.resv.map (·.2)).getD 0))
    let top := drawMa c.p.v (drawUw c.p.v i eta + c.credit - min c.credit (drawUw c.p.v i eta) + r) eta
    let i' := max i (min want top)
    let rest := resvFill eta (r - (c.cost eta i' - c.cost eta i)) l
    (rest.1, (c.p.sl, i') :: rest.2)

/-- A reference looked up by slot. -/
def refOf (l : List (Nat × Nat)) (sl : Nat) : Option Nat := (l.find? fun e => e.1 == sl).map (·.2)

/-- The charging slots' references of one tick within a budget of `avail` µW (R213 goals 2, 4 and 6, R216). -/
def allocate (eta avail : Nat) (cs : List Cand) : List (Nat × Nat) :=
  let keep := cs.map fun c => (c, max c.lo (min c.cur c.hi))
  let cost := (keep.map fun e => e.1.cost eta e.2).sum
  if avail < cost then cutFill eta (cost - avail) (sortBy (fun a b => cutBefore a.1 b.1) keep)
  else
    let base := cs.map fun c => (c, c.lo)
    let r := avail - (base.map fun e => e.1.cost eta e.2).sum
    let byDead := sortBy (fun a b => decide ((a.1.p.resv.map (·.1)).getD 0 ≤ (b.1.p.resv.map (·.1)).getD 0))
      (base.filter fun e => e.1.p.resv.isSome)
    let q := resvFill eta r byDead
    let after := base.map fun e => (e.1, (refOf q.2 e.1.p.sl).getD e.2)
    (shareFill eta after q.1 [3, 2, 1, 0]).map fun e => (e.1.p.sl, e.2)

/-- The power a tenant's references amount to beside its slots, µW (R220): the ports it holds, less its TRANSFER donors' feed. -/
def State.tenantPorts (s : State) (fn : Nat) : Nat :=
  ((List.range 8).map fun k =>
    if s.flag Reg.PDP_STATUS.HELD k ∧ s.rd Reg.PDP_STATUS.HOLDER k = fn then s.portUw k else 0).sum

/-- A tenant's planned power for given references, µW (R220). -/
def State.tenantUw (s : State) (fn : Nat) (ps : List PlanSlot) (refs : List (Nat × Nat)) : Nat :=
  let mine := ps.filter fun p => p.fn == fn
  let draw := (mine.map fun p => if p.kind = 1 then drawUw p.v ((refOf refs p.sl).getD 0) s.eta else 0).sum
  let feed := (mine.map fun p => if p.kind = 2 then feedUw p.v ((refOf refs p.sl).getD 0) s.eta else 0).sum
  draw + s.tenantPorts fn - feed

/-- The excess of a quota cut assigned in the order of R216 (R220 step 1): the slots that give, with their targets, mA. -/
def cutTargets (eta : Nat) : Nat → List (PlanSlot × Nat) → List (Nat × Nat)
  | _, [] => []
  | excess, (p, i) :: l =>
    let w := drawUw p.v i eta
    if excess = 0 then []
    else if w = 0 then cutTargets eta excess l
    else (p.sl, if w ≤ excess then 0 else drawMa p.v (w - excess) eta) :: cutTargets eta (excess - min w excess) l

/-- The state that one planned tick hands to the next: its references, those before them, the R_0 of slots under a cut and the references of
PHC138 to PHC143; and what R218 says of the tick: the absorbable current of each AUDIT donor, mA, and the power that remains, µW. -/
structure TickState where
  refs : List (Nat × Nat)
  before : List (Nat × Nat)
  r0 : List (Nat × Nat)
  aux : List Int
  absorb : List (Nat × Nat) := []
  left : Nat := 0
  deriving DecidableEq, Repr

/-- A tenant's slots with a quota cut (R220): each assigned slot's target. None where the tenant is within its quota. -/
def State.quotaCut (s : State) (ps : List PlanSlot) (refs : List (Nat × Nat)) (fn : Nat) : Option (List (Nat × Nat)) :=
  let quota := 100000 * s.rd Reg.TEN_QUOTA_P.POWER fn
  let w := s.tenantUw fn ps refs
  if fn = pfFn ∨ w ≤ quota then none
  else
    let cs := (ps.filter fun p => p.fn == fn && p.kind == 1).map fun p =>
      ({ p, lo := 0, hi := 0, cur := (refOf refs p.sl).getD 0, credit := 0 } : Cand)
    some (cutTargets s.eta (w - quota) ((sortBy cutBefore cs).map fun c => (c.p, c.cur)))

/-- The step of a quota cut, mA (R214, R220). -/
def State.cutStep (s : State) (p : PlanSlot) (r0 : Nat) : Nat := min p.dn (max 1 (r0 * s.rd Reg.ALM_RAMP.QCUT_PCT / 100))

/-- The donor of a slot, with the feed it can reach in a tick, µW (R184). -/
def State.creditOf (s : State) (ps : List PlanSlot) (refs : List (Nat × Nat)) (sl : Nat) : Nat :=
  match ps.find? fun p => p.kind == 2 && p.peer == sl with
  | some d => feedUw d.v (min d.cap ((refOf refs d.sl).getD 0 + d.up)) s.eta * 98 / 100
  | none => 0

/-- The bounds of a charge in one tick (R213 goal 1, R214, R220, R221): `cut` holds the targets of its tenant's quota cut. -/
def State.candOf (s : State) (ps : List PlanSlot) (t : TickState) (cut : Option (List (Nat × Nat))) (p : PlanSlot) : Cand :=
  let cur := (refOf t.refs p.sl).getD 0
  let base := min p.cap (cur + p.up)
  let mk := fun lo hi => ({ p, lo, hi := max lo hi, cur, credit := s.creditOf ps t.refs p.sl } : Cand)
  match cut with
  | none => mk (cur - p.dn) base
  | some l =>
    match refOf l p.sl with
    | some target =>
      let step := s.cutStep p ((refOf t.r0 p.sl).getD cur)
      mk (cur - p.dn) (min (min base cur) (max target (cur - step)))
    | none => mk (cur - p.dn) (min base cur)

/-- A tenant within its quota does not rise above it (R213 goal 3): its slots' bounds after its own share of the quota. -/
def State.quotaBound (s : State) (ps : List PlanSlot) (t : TickState) (fn : Nat) (cs : List Cand) : List Cand :=
  let quota := 100000 * s.rd Reg.TEN_QUOTA_P.POWER fn
  let feed := ((ps.filter fun p => p.fn == fn && p.kind == 2).map fun p => feedUw p.v ((refOf t.refs p.sl).getD 0) s.eta).sum
  let avail := quota + feed - s.tenantPorts fn
  let free := cs.map fun c => { c with credit := 0 }
  let refs := allocate s.eta avail free
  cs.map fun c => { c with hi := max c.lo (min c.hi ((refOf refs c.p.sl).getD c.hi)) }

/-- A donor's reference in one tick (R213 goal 5, R214): toward `want` within its bounds; at once to zero where R650 asks for it. -/
def State.donorStep (s : State) (t : TickState) (p : PlanSlot) (want : Nat) : Nat :=
  let cur := (refOf t.refs p.sl).getD 0
  if p.kind ≠ 4 ∧ s.protectStop then 0 else max (cur - p.dn) (min (min want p.cap) (cur + p.up))

/-- The feed of a list of donors, µW. -/
def feedSum (eta : Nat) (l : List (PlanSlot × Nat)) : Nat := (l.map fun e => feedUw e.1.v e.2 eta).sum

/-- The donors of one tick (R184, R213 goal 5, R218), with `top` µW, 98 % of the planned draw less the general-purpose feed, to share: the
TRANSFER donors by their receivers, then the AUDIT donors, then the ISLAND donors alike. Donors of an ISLAND whose bus is not yet ready (R56)
build it up before anything draws, so they are planned at their limits. A donor never falls by more than DN (R214). The answer holds the
references, the absorbable current of each AUDIT donor, and the power left to a further one. -/
def State.planDonors (s : State) (ps : List PlanSlot) (t : TickState) (peerUw : Nat → Nat) (top : Nat) :
    List (Nat × Nat) × List (Nat × Nat) × Nat :=
  let eta := s.eta
  let want := (ps.filter fun p => p.kind == 2).map fun p => (p, min p.cap (feedMa p.v (peerUw p.peer) eta))
  let wantUw := feedSum eta want
  let xfer := want.map fun e => (e.1, s.donorStep t e.1 (if wantUw ≤ top then e.2 else e.2 * top / wantUw))
  let aud := (ps.filter fun p => p.kind == 3).foldl (fun (a : List (Nat × Nat) × List (Nat × Nat) × Nat) p =>
    let room := feedMa p.v a.2.2 eta
    let i := s.donorStep t p (min p.cap room)
    (a.1 ++ [(p.sl, i)], a.2.1 ++ [(p.sl, room)], a.2.2 - feedUw p.v i eta)) ([], [], top - feedSum eta xfer)
  let caps := (ps.filter fun p => p.kind == 4).map fun p => (p, p.cap)
  let capUw := feedSum eta caps
  let isl := caps.map fun e => (e.1.sl, s.donorStep t e.1 (if s.grid.ready && decide (aud.2.2 < capUw) then e.2 * aud.2.2 / capUw else e.2))
  ((xfer.map fun e => (e.1.sl, e.2)) ++ aud.1 ++ isl, aud.2)

/-- The references of one tick (R213): of the charges, then of the donors. -/
def State.planTick (s : State) (ps : List PlanSlot) (t : TickState) : TickState :=
  let eta := s.eta
  let aux := (List.range 6).map fun n => s.auxStep (t.aux.getD n 0) (s.auxWant n)
  let charges := ps.filter fun p => p.kind == 1
  let fns := (charges.map (·.fn)).eraseDups
  let cuts := fns.map fun f => (f, s.quotaCut ps t.before f)
  let cutFor := fun f => ((cuts.find? fun e => e.1 == f).map (·.2)).getD none
  let cands := fns.flatMap fun f =>
    let cs := (charges.filter fun p => p.fn == f).map fun p => s.candOf ps t (cutFor f) p
    if f = pfFn ∨ (cutFor f).isSome then cs else s.quotaBound ps t f cs
  let refs := allocate eta (s.budgetUw + s.auxFeed aux - s.fixedUw aux) cands
  let r0 := charges.filterMap fun p =>
    match cutFor p.fn with
    | some l => if (refOf l p.sl).isSome then some (p.sl, (refOf t.r0 p.sl).getD ((refOf t.refs p.sl).getD 0)) else
        (refOf t.r0 p.sl).map fun v => (p.sl, v)
    | none => none
  let draw := (charges.map fun p => drawUw p.v ((refOf refs p.sl).getD 0) eta).sum + s.fixedUw aux
  let peerUw := fun k => if k < 64 then
      ((charges.find? fun p => p.sl == k).map fun p => drawUw p.v ((refOf refs p.sl).getD 0) eta).getD 0
    else s.portUw (k - 0x80)
  let d := s.planDonors ps t peerUw (98 * draw / 100 - s.auxFeed aux)
  { refs := refs ++ d.1, before := t.refs, r0, aux, absorb := d.2.1, left := d.2.2 }

/-- The voltage reference of a slot's lead (R84, R169, R184, R188, R117). -/
def State.slotRefV (s : State) (p : PlanSlot) : Nat :=
  let cells := s.rd Reg.SLT_PACK_A.CELLS p.sl
  match p.kind with
  | 1 => cells * s.cvCell p.sl
  | 2 => cells * (s.slot p.sl).floorCell
  | 3 => cells * s.rd Reg.GAU_SOC.V_CUT_CELL p.sl
  | _ => cells * s.rd Reg.SLT_PACK_B.VDIS_CELL p.sl

/-- The records of one planned tick: slots, ports, PHC136, PHC137 and the general-purpose channels; zero references are left out
but for those that hold a voltage. -/
def State.tickRefs (s : State) (ps : List PlanSlot) (n : Nat) (t : TickState) : List PlanRef :=
  let slots := ps.filterMap fun p =>
    let i := (refOf t.refs p.sl).getD 0
    if i = 0 then none
    else some { lead := p.lead, refI := if p.kind = 1 then (i : Int) else -(i : Int), refV := s.slotRefV p, dir := kindDir p.kind,
                ilim := if p.kind = 4 then s.donorLimit p.sl else 0 }
  let rest := (List.range 8).map (s.portRef n) ++ [s.hbRef, s.accRef] ++ (List.range 6).map fun k => s.auxRef k (t.aux.getD k 0)
  slots ++ rest.filter fun r => r.refI != 0

/-- The planned ticks from `n` on, `k` of them. -/
def State.planTicks (s : State) (ps : List PlanSlot) : Nat → Nat → TickState → List (TickState × List PlanRef)
  | 0, _, _ => []
  | k + 1, n, t =>
    let t' := s.planTick ps t
    (t', s.tickRefs ps n t') :: s.planTicks ps k (n + 1) t'

/-- The references that a rebuild judges quotas by (R206 step 1, R222): those in force before the commit of its boundary. -/
def State.refsBefore (s : State) (ps : List PlanSlot) : List (Nat × Nat) := ps.map fun p => (p.sl, (refOf s.alm.before p.lead).getD 0)

/-- The slots of a rebuild (R211): `ovr` marks tenants over their quota. -/
def State.planSlots (s : State) : List PlanSlot :=
  let all := (List.range 64).filterMap (s.planSlot fun _ => false)
  let refs := s.refsBefore all
  let fns := (all.map (·.fn)).eraseDups
  let ovr := fns.filter fun f => (s.quotaCut all refs f).isSome
  (List.range 64).filterMap (s.planSlot fun f => ovr.contains f)

/-- Draw and feed of a planned tick, µW. -/
def State.tickDraw (s : State) (ps : List PlanSlot) (t : TickState) : Nat :=
  ((ps.filter fun p => p.kind == 1).map fun p => drawUw p.v ((refOf t.refs p.sl).getD 0) s.eta).sum + s.fixedUw t.aux
def State.tickFeed (s : State) (ps : List PlanSlot) (t : TickState) : Nat :=
  ((ps.filter fun p => p.kind != 1).map fun p => feedUw p.v ((refOf t.refs p.sl).getD 0) s.eta).sum + s.auxFeed t.aux

/-- The bus power of one committed reference, drawn and fed, µW (R212, R237). PHC137 draws from the house rail. -/
def State.refUw (s : State) (r : PlanRef) : Nat × Nat :=
  let v := if r.lead < 128 then s.slotV (r.lead / 2) else if r.lead = 136 then s.outV 136 s.hbMv else s.auxV (r.lead - 138)
  if r.lead = 137 then (0, 0)
  else if 128 ≤ r.lead ∧ r.lead < 136 then (if r.refI = 0 then 0 else s.portUw (r.lead - 128), 0)
  else if r.dir = 0 then (drawUw v r.refI.natAbs s.eta, 0)
  else (0, feedUw v r.refI.natAbs s.eta)

/-- Draw and feed of a record, µW (R237). -/
def State.recordUw (s : State) (l : List PlanRef) : Nat × Nat := ((l.map fun r => (s.refUw r).1).sum, (l.map fun r => (s.refUw r).2).sum)

end Sys2Proof.Machine
end

