-- ==== Sys2Proof/Machine/Planner.lean ====
section
/-! DEFINITION. The Almanac at its ticks (chapter 05): what happens at a boundary and at a freeze point (R206 to R210), quotas (R220,
R221), reservations (R225), a root handover (R231) and the view of the plan (R240). -/

namespace Sys2Proof.Machine

/-- The tick that device time lies in (R203). -/
def State.tickNow (s : State) : Nat := s.time / 10000 % 2 ^ 32

/-- The Almanac commits in this mode (R229), and its phase block is powered. -/
def State.almOn (s : State) : Bool := (s.running || s.mode == mSentinel) && hasBit (s.rd Reg.PWR_DOM.ON) 20

/-- The phase-block island that carries a lead: eight slot channels and an auxiliary channel each (R207). -/
def islandOf (lead : Nat) : Nat := if lead < 128 then lead / 8 else lead - 128

/-! Freezing and committing (R206, R209, R210). -/

/-- A slot lead may still carry the planned current: its slot still asks for it (R213 goal 1). -/
def State.stillAsks (s : State) (lead : Nat) : Bool :=
  decide (lead ≥ 128) || (s.planSlot (fun _ => false) (lead / 2)).isSome

/-- A planned reference at the freeze point (R206 step 3): lowered to the scale in force, and zero for a lead parked since the snapshot. -/
def State.freezeRef (s : State) (r : PlanRef) : PlanRef :=
  let parked := s.alm.live.contains r.lead && (s.rd Reg.PHC_STATUS.STAGE r.lead == 0 || s.rd Reg.PHC_STATUS.STAGE r.lead == 6)
  if parked || !s.stillAsks r.lead || (r.dir == 1 && s.protectStop) then { r with refI := 0 }
  else if r.dir = 0 ∧ r.lead ≠ 137 ∧ s.guardOn then { r with refI := min r.refI (s.refNow r.lead : Nat) }
  else r

/-- The record of the next tick (R206, R208): frozen from the plan, or from the one before where the rebuild is late. -/
def State.frozenRecord (s : State) (late : Bool) : List PlanRef :=
  ((if late then s.alm.prev.drop 1 else s.alm.plan).headD []).map s.freezeRef

/-- Budget, draw and feed of that record, 0.1 W (R237). -/
def State.frozenFigures (s : State) (late : Bool) : Nat × Nat × Nat :=
  let u := s.recordUw (s.frozenRecord late)
  (if late then s.alm.prevBudget else s.alm.budget, u.1 / 100000, u.2 / 100000)

/-- One lead takes its committed reference (R206 step 5); a falling PD voltage closes VBUS_DIS (R455). A donor that R650 keeps at zero takes
none. -/
def commitOne (rec : List PlanRef) (avgs : List (Nat × Nat)) (lead : Nat) : Prog := .read fun s =>
  let avg := (avgs.find? fun e => e.1 == lead).map (·.2)
  match rec.find? fun r => r.lead == lead with
  | some r => .seq
      (when (fun _ => decide (128 ≤ lead ∧ lead < 136 ∧ r.refV < s.rd Reg.PHC_REF_V.REF_V lead))
        (updPorts (lead - 128) fun x => { x with vbusDis := true }))
      (commitLead lead (if r.dir = 1 ∧ s.protectStop then 0 else r.refI) r.refV r.dir r.ilim avg)
  | none => commitLead lead 0 (s.rd Reg.PHC_REF_V.REF_V lead) (s.chan lead).dirNext (s.chan lead).ilim avg

/-- The tick is committed (R206, R210, R237): every lead whose island has its record takes it; a late island keeps its references. -/
def commitTick (late : List Nat) (avgs : List (Nat × Nat)) : Prog := .read fun s =>
  let rec_ := s.alm.frozen.getD (s.frozenRecord false)
  let fig := if s.alm.frozen.isSome then s.alm.figures else s.frozenFigures false
  seqs [
    setR Reg.ALM_TICK.TICK s.tickNow, setR Reg.ALM_STATUS.RUNNING 1,
    setR Reg.ALM_BUDGET.BUDGET (min 0x1FFFFF fig.1), setR Reg.ALM_DRAW.DRAW (min 0x1FFFFF fig.2.1),
    setR Reg.ALM_FEED.FEED (min 0x1FFFFF fig.2.2),
    each ((List.range 144).filter fun l => s.isLead l && !late.contains (islandOf l)) (commitOne rec_ avgs),
    each (late.filter (· < 16)) fun b => .seq (incSat Reg.ALM_CNT.LATE_ISLAND) (raisePf evCommitLate (0x0180 + b) 0),
    updAlm fun a => { a with frozen := none, firstZero := false },
    -- status lines show the tick (R345)
    each s.polled writeStatus]

/-- The guard's release (R50, R51): the first commit at least 1 ms after the last fall of SCALE. -/
def guardRelease : Prog := .read fun s =>
  if s.guardOn && decide (s.time ≥ s.grid.fallAt + 1000) then
    .seq (setScale 1024) (updGrid fun g => { g with tripped := [], trip := false })
  else .skip

/-- A slot's phase shows what is planned, and its timers run (R161, R166, R175, R199). -/
def slotTick (sl : Nat) : Prog := .read fun s =>
  let x := s.slot sl
  let clock := seqs [
    setR Reg.SLT_TIME.PH_TIME (min 0xFFFF ((s.time - x.phaseAt) / 1000000)) sl,
    setR Reg.SLT_TIME.CHG_TIME (min 0xFFFF ((s.time - x.chargeAt) / 60000000)) sl]
  if s.slSt sl = slSuspended then clock
  else if s.slSt sl = slCharging then
    let flows := s.refI (s.slotLead sl) != 0
    let idle := s.rd Reg.PHC_STATUS.STAGE (s.slotLead sl) == 0 || s.rd Reg.PHC_STATUS.STAGE (s.slotLead sl) == 5
    let ph := if x.curPhase = 0 then 0 else if flows then x.curPhase else if idle then 0 else s.rd Reg.SLT_STATUS.PHASE sl
    let runs := ph != 0
    seqs [
      setR Reg.SLT_STATUS.PHASE ph sl,
      updSlots sl fun x =>
        { x with
          tPhase := if runs then x.tPhase + 1 else x.tPhase
          tTotal := if runs then x.tTotal + 1 else x.tTotal
          tCv := if runs && x.curPhase == 4 then x.tCv + 1 else x.tCv
          tSun := if runs && x.sunOn then x.tSun + 1 else x.tSun
          -- the Sundial's own start of its CV_MAX timer (R175)
          sunOn := x.sunOn || (runs && s.cvFor sl 10000000) },
      clock]
  else .skip

/-- A port's measurements and energy (R469, R470). -/
def portTick (k : Nat) : Prog := .read fun s =>
  let v := if (s.port k).vbusEn then s.rd Reg.PHC_MEAS_V.MEAS_V (portLead k) else 0
  let i := if (s.port k).vbusEn then ofField 18 (s.rd Reg.PHC_MEAS_I.MEAS_I (portLead k)) else 0
  seqs [
    setR Reg.PDP_MEAS.VBUS (min v 0xFFFF) k, setR Reg.PDP_MEAS.IBUS (toField 16 (clampS 16 i)) k,
    when (fun _ => s.attached k) (updPorts k fun x =>
      { x with energy := x.energy + (x.eFrac + v * i.toNat) / 360000000, eFrac := (x.eFrac + v * i.toNat) % 360000000 })]

/-! Sources at a boundary (R46, R47, R649). -/

/-- A source enters the budget at its boundary. -/
def budgetEnter (k : Nat) : Prog := .read fun s =>
  match (s.src k).budgetIn with
  | 0 => .skip
  | n + 1 => updSrcs k fun x => { x with budgetIn := n, inBudget := x.inBudget || (n == 0 && s.flag Reg.SRC_PORT_STATUS.ENABLED k) }

/-- The power limit of a set of sources, 0.1 W (R46). -/
def State.limitDw (s : State) (ks : List Nat) : Nat := (ks.map fun k => s.rd Reg.SRC_PORT_STATUS.LIMIT_EFF k).sum * s.busMv / 100000

/-- The qualified, disabled DEMAND source to enable next (R47): the largest effective limit, the lower number first. -/
def State.demandNext (s : State) : Option Nat :=
  ((List.range 4).filter fun k =>
    (s.src k).qualified && !s.flag Reg.SRC_PORT_STATUS.ENABLED k && s.rd Reg.SRC_PORT_CFG.MODE k == 2).foldl
    (fun a k => match a with
      | none => some k
      | some b => if s.rd Reg.SRC_PORT_STATUS.LIMIT_EFF k > s.rd Reg.SRC_PORT_STATUS.LIMIT_EFF b then some k else some b) none

/-- DEMAND sources by the planned demand (R46, R47): one is enabled above 90 %; the time below 70 % of the others is kept. A source that
START left on the bus counts once it has qualified (R649). -/
def demandTick : Prog := .read fun s =>
  let d := s.alm.demand
  let on := s.srcsOn.filter fun k => (s.src k).qualified
  let waits := s.grid.demand.any fun k => !(s.src k).inBudget
  if s.mode = mIsland then .skip
  else if !waits && decide (10 * d > 9 * s.limitDw on) && s.demandNext.isSome then
    (match s.demandNext with
     | some k => .seq (srcEnable k 2) (updGrid fun g => { g with demand := k :: g.demand, demandLow := none })
     | none => .skip)
  else match s.grid.demand with
    | k :: _ =>
      let low := decide (10 * d < 7 * s.limitDw (on.filter (· != k)))
      updGrid fun g => { g with demandLow := if low then some (g.demandLow.getD s.time) else none }
    | [] => updGrid fun g => { g with demandLow := none }

/-! ISLAND at a boundary (R55, R58). -/

/-- The donors are chosen; once a source carries the bus and their references have come to zero they stop, and the device leaves ISLAND. -/
def islandTick : Prog := .read fun s =>
  if s.mode ≠ mIsland ∨ s.rd Reg.PWR_MODE.SEQ ≠ 0 then .skip
  else if s.srcsOn.isEmpty then .seq returnNext (if s.grid.chosen then .skip else donorsChoose)
  else .seq (each (s.islandDonors.filter fun sl => s.refI (s.slotLead sl) == 0) fun sl => stopSlot sl slIdle none)
    (when (fun t => (List.range 64).all fun sl => t.rd Reg.SLT_STATUS.ROLE sl != 3) (seqs [
      updGrid fun g => { g with ready := false, returning := none, chosen := false, handed := [] },
      .read fun t => enterMode (if t.curtailCause then mCurtail else mRun) 3 0]))

/-! Quotas (R220, R221). -/

/-- The tenants with slots or ports in the plan, or with a planned power to bring up to date. -/
def State.quotaFns (s : State) (ps : List PlanSlot) : List Nat :=
  let a := (ps.map (·.fn)) ++ ((List.range 8).filter fun k => s.flag Reg.PDP_STATUS.HELD k).map fun k => s.rd Reg.PDP_STATUS.HOLDER k
  let b := (List.range 1024).filter fun f => s.rd Reg.TEN_USE.PLAN f != 0 || (s.fnr f).overSince.isSome
  (a ++ b).eraseDups.filter fun f => decide (f < 1024)

/-- QUOTA_OVER (R221, R363), in 0.1 W: the quota, the planned power and the excess. -/
def quotaOver (fn uw : Nat) : Prog := .read fun s =>
  let q := s.rd Reg.TEN_QUOTA_P.POWER fn
  let p := uw / 100000
  .seq (updFns fn fun x => { x with overAt := s.time })
    (raise { typ := evQuotaOver, src := srcFn fn, data := dat 16 4 q + dat 20 4 p + dat 24 4 (p - q) } [fn, pfFn])

/-- A tenant's planned power against its quota at a rebuild (R220, R221, R400): the cut starts with QUOTA_OVER, ends with QUOTA_OK. -/
def quotaTick (ps : List PlanSlot) (fn : Nat) : Prog := .read fun s =>
  let uw := s.tenantUw fn ps (s.refsBefore ps)
  let x := s.fnr fn
  .seq (setR Reg.TEN_USE.PLAN (min 0xFFFFF (s.tenantUw fn ps (ps.map fun p => (p.sl, s.refNow p.lead)) / 100000)) fn)
    (if uw > 100000 * s.rd Reg.TEN_QUOTA_P.POWER fn then
      (if x.overSince.isSome then .skip
       else .seq (updFns fn fun x => { x with overSince := some s.time }) (quotaOver fn uw))
    else match x.overSince with
      | some t => .seq (updFns fn fun x => { x with overSince := none })
          (raise { typ := evQuotaOk, src := srcFn fn, data := dat 16 4 ((s.time - t) / 1000) } [fn])
      | none => .skip)

/-- The slots under a cut keep their R_0 (R220); QCUT shows them. -/
def cutsKeep (r0 : List (Nat × Nat)) (assigned : List Nat) : Prog := each (List.range 64) fun sl => .read fun s =>
  let v := refOf r0 sl
  .seq (if (s.slot sl).cutR0 = v then .skip else updSlots sl fun x => { x with cutR0 := v })
    (setR Reg.ALM_SLOT_A.QCUT (bit (assigned.contains sl)) sl)

/-! Reservations (R224, R225). -/

/-- The counts of R225 at a boundary; back on track after 100 ticks at or above the required current. -/
def resvTick (sl : Nat) : Prog := .read fun s =>
  if s.reserved sl then
    let need := s.iReq sl
    let low := decide (s.refNow (s.slotLead sl) < need ∨ s.slotCeiling sl < need)
    .seq (updSlots sl fun x => { x with resvLow := if low then x.resvLow + 1 else 0, resvOk := if low then 0 else x.resvOk + 1 })
      (when (fun t => !low && s.rd Reg.ALM_SLOT_A.RESV sl == 2 && decide ((t.slot sl).resvOk ≥ 100)) (setR Reg.ALM_SLOT_A.RESV 1 sl))
  else .skip

/-! The rebuild (R211 to R217). -/

/-- The plan is built afresh from the snapshot (R206 steps 1 and 2, R217). -/
def rebuild : Prog := .read fun s =>
  let ps := s.planSlots
  let fns := (ps.map (·.fn)).eraseDups
  let refs := ps.map fun p => (p.sl, s.refNow p.lead)
  let r0 := ps.filterMap fun p => p.r0.map fun v => (p.sl, v)
  let before := s.refsBefore ps
  let ticks := s.planTicks ps 32 0 { refs, before, r0, aux := s.auxNow }
  let plan := ticks.map (·.2)
  let old := s.alm.plan.drop 1
  let first := (ticks.head?.map (·.1)).getD { refs := [], before := [], r0 := [], aux := [] }
  let assigned := fns.flatMap fun f => ((s.quotaCut ps before f).getD []).map (·.1)
  let powers := ticks.map fun e => s.tickDraw ps e.1 - s.tickFeed ps e.1
  seqs [
    each ((List.range 64).filter fun sl => (s.slot sl).audStep != 0) fun sl => updSlots sl fun x =>
      { x with absorb := (refOf first.absorb sl).getD (feedMa (s.slotV sl) first.left s.eta) },
    each (s.quotaFns ps) (quotaTick ps),
    cutsKeep (first.r0.filter fun e => assigned.contains e.1) assigned,
    if (old.zip plan).any fun e => e.1 != e.2 then incWrap Reg.ALM_GEN.GEN else .skip,
    setR Reg.ALM_STATUS.GUARD (bit (s.guardOn && decide (s.drawNow < s.modeBudget))),
    updAlm fun a => { a with
      prev := a.plan, plan := plan, frozen := none,
      live := (List.range 144).filter fun l => s.isLead l && decide (1 ≤ s.rd Reg.PHC_STATUS.STAGE l ∧ s.rd Reg.PHC_STATUS.STAGE l ≤ 4),
      prevBudget := a.budget, budget := s.budgetUw / 100000,
      demand := powers.foldl max 0 / 100000 }]

/-- A PD contract that waits enters the plan (R455). -/
def contractsEnter : Prog := each (List.range 8) fun k =>
  when (fun s => (s.port k).readyOwed && !(s.port k).planned) (updPorts k fun x => { x with planned := true })

/-- What the boundary brings beside the plan: gauges (not in SENTINEL, R556), slots, ports, sources, reservations. -/
def boundaryCounts : Prog := .read fun s => seqs [
  if s.mode = mSentinel then .skip else each ((List.range 64).filter s.gaugeOn) gaugeTick,
  when (fun t => t.time % 1000000 == 0) (each (List.range 4) ageShow),
  each (List.range 64) slotTick, each (List.range 8) portTick, each (List.range 4) budgetEnter,
  each (List.range 64) resvTick]

/-- The root is lost (R231): the alternate takes over; a tick that the lost root had not frozen is `skipped`. -/
def rootTakes (skipped : Bool) : Prog := .read fun s =>
  .seq (updAlm fun a => { a with rootLost := false })
    (seqs [
      if skipped then .seq (incSat Reg.ALM_CNT.SKIPPED) (raise { typ := evTickSkipped, src := srcDevice, token := some s.tickNow } [pfFn]) else .skip,
      rootMoved (if s.flag Reg.ALM_STATUS.ROOT_ALT then 0 else 8) (bit skipped) ((s.tickNow + 1) % 2 ^ 32)])

/-- What happens at B(T) (R206, R229, R231, R234): every lead takes its committed reference, and the plan is rebuilt. -/
def boundary (late : List Nat) (avgs : List (Nat × Nat)) : Prog := .read fun s =>
  if s.time % 10000 ≠ 0 ∨ s.alm.boundaryAt = some s.time then .skip
  else .seq (updAlm fun a => { a with boundaryAt := some s.time })
    (if !s.almOn then sequenceStep
     else seqs [
      updAlm fun a => { a with before := (List.range 144).filterMap fun l => if s.refNow l = 0 then none else some (l, s.refNow l) },
      if s.alm.resume then updAlm fun a => { a with resume := false }
      else if s.alm.rootLost && s.alm.frozen.isNone then rootTakes true
      else seqs [commitTick late avgs, guardRelease,
        -- shedding and adding come last at a microsecond, with the new reference and SCALE (R126)
        each ((List.range 144).filter fun l => s.isLead l && !late.contains (islandOf l)) phasesByRef,
        when (fun t => t.alm.rootLost) (rootTakes false)],
      boundaryCounts, contractsEnter, islandTick, sequenceStep,
      when State.almOn (.seq rebuild demandTick)])

/-- TICK_BOUNDARY (R206): B(T). `late` names the islands whose record has not arrived; `avgs` holds pre-bias averages of leads. -/
def execTickBoundary (late : List Nat) (avgs : List (Nat × Nat)) : State → Host.Outcome State Fault Refusal := ends (boundary late avgs)

/-- TICK_FREEZE (R206, R208): B(T) − 1,000 µs. `late` where the rebuild has not finished. -/
def execTickFreeze (late : Bool) : State → Host.Outcome State Fault Refusal :=
  ends (.read fun s =>
    if s.time % 10000 ≠ 9000 ∨ !s.almOn ∨ s.alm.rootLost ∨ s.alm.frozen.isSome then .skip
    else .seq (if late then incSat Reg.ALM_CNT.LATE_PLAN else .skip)
      (updAlm fun a => { a with frozen := some (s.frozenRecord late), figures := s.frozenFigures late }))

/-- QUOTA_OVER_REPEAT (R221): every second while a tenant is over its quota. -/
def execQuotaOverRepeat (fn : Nat) : State → Host.Outcome State Fault Refusal :=
  ends (.read fun s =>
    if fn < 1024 ∧ (s.fnr fn).overSince.isSome ∧ s.time ≥ (s.fnr fn).overAt + 1000000 then
      quotaOver fn (s.tenantUw fn s.planSlots (s.planSlots.map fun p => (p.sl, s.refNow p.lead)))
    else .skip)

/-- RESV_AT_RISK (R225): 100 ticks in a row below the required current. The SOC that the root predicts is a free value: no rule says how it is
predicted. -/
def execResvAtRisk (sl : Nat) : State → Host.Outcome State Fault Refusal :=
  ends (.read fun s =>
    if s.rd Reg.ALM_SLOT_A.RESV sl = 1 ∧ (s.slot sl).resvLow ≥ 100 then
      .seq (setR Reg.ALM_SLOT_A.RESV 2 sl) (withFree fun v =>
        raise { typ := evResvAtRisk, src := sl, data := dat 16 2 (v % 10001) + dat 18 1 (s.unrestored sl) + dat 20 4 (s.rd Reg.ALM_SLOT_B.RESV_TICK sl) }
          [s.ownerOrPf sl])
    else .skip)

/-- RESV_DEADLINE (R225, R234): B(RESV_TICK) has come; the reservation ends as met or missed. -/
def execResvDeadline (sl : Nat) : State → Host.Outcome State Fault Refusal :=
  ends (.read fun s =>
    let t := s.rd Reg.ALM_SLOT_B.RESV_TICK sl
    if s.reserved sl ∧ ¬ laterTick t s.tickNow then
      .seq (setR Reg.ALM_SLOT_A.RESV 3 sl)
        (raise { typ := if s.rd Reg.GAU_SOC.SOC sl ≥ s.rd Reg.ALM_SLOT_A.RESV_SOC sl then evResvMet else evResvMissed, src := sl,
                 data := dat 16 2 (s.rd Reg.GAU_SOC.SOC sl) + dat 18 1 (s.unrestored sl) + dat 20 4 t } [s.ownerOrPf sl])
    else .skip)

/-- ROOT_HANDOVER (R32, R231): at the boundary after the loss of the bed that carries the root, the other root takes over; it is the boundary
of that tick, with what it brings. -/
def execRootHandover (late : List Nat) (avgs : List (Nat × Nat)) : State → Host.Outcome State Fault Refusal :=
  ends (when (fun s => s.alm.rootLost) (boundary late avgs))

/-- One entry of the view (R240). -/
def viewEntry (i : Nat) (ref : Option Int) (committed : Bool) : Prog := seqs [
  setR Reg.ALM_VIEW.VALID (bit ref.isSome) i, setR Reg.ALM_VIEW.COMMITTED (bit committed) i,
  setR Reg.ALM_VIEW.REF_I (toField 18 (ref.getD 0)) i]

/-- The view is taken of the channel that `ALM_VIEW_SEL` names (R240): the last commit, and 31 planned ticks. -/
def viewTake : Prog := .read fun s =>
  let lead := s.leadOf (s.rd Reg.ALM_VIEW_SEL.CHAN)
  let on := s.flag Reg.ALM_STATUS.RUNNING
  seqs [
    setR Reg.ALM_VIEW_BASE.TICK (s.rd Reg.ALM_TICK.TICK),
    viewEntry 0 (if on then some (s.refI lead) else none) on,
    each (List.range 31) fun i => viewEntry (i + 1)
      ((s.alm.plan[i]?).map fun l => ((l.find? fun r => r.lead == lead).map (·.refI)).getD 0) false]

/-- ALM_VIEW_SELECT (R240): a write of `ALM_VIEW_SEL`; a channel out of range is ignored. -/
def execAlmViewSelect (chan : Nat) : State → Host.Outcome State Fault Refusal :=
  pfWrites Reg.ALM_VIEW_SEL.CHAN 0 0 (fun _ => Reg.ALM_VIEW_SEL.CHAN.rangeCause chan) (.seq (setR Reg.ALM_VIEW_SEL.CHAN chan) viewTake)

end Sys2Proof.Machine
end

