-- ==== Sys2Proof/Machine/Sources.lean ====
section
/-! DEFINITION. The happenings on the 380 V bus and at its sources (chapter 02, R40 to R58): the samples and what the guard does on
them, sources that come, qualify and go, and the donors of ISLAND. -/

namespace Sys2Proof.Machine

/-! Samples (R40, R41). -/

/-- The valid readings of the two bus sensors. -/
def validBus (b : BusSample) : List Nat := b.busA.toList ++ b.busB.toList

/-- The reading for over-voltage checks and for donors, and the one for under-voltage checks (R41); none without a valid reading. -/
def State.busHigh (s : State) (b : BusSample) : Option Nat :=
  match (validBus b) with
  | [] => none
  | x :: l => some (if s.flag Reg.SRC_BUS.MISMATCH then l.foldl max x else (l.foldl (· + ·) x) / (l.length + 1))
def State.busLow (s : State) (b : BusSample) : Option Nat :=
  match (validBus b) with
  | [] => none
  | x :: l => some (if s.flag Reg.SRC_BUS.MISMATCH then l.foldl min x else (l.foldl (· + ·) x) / (l.length + 1))

/-- A run of samples with a condition, counted to two. -/
def runOf (c : Bool) (n : Nat) : Nat := if c then min 2 (n + 1) else 0

/-- A REV_BUS lead runs its bus loop on a new sample (R84, R117): V_set less DROOP × |I| against the bus. -/
def busLoop (vbus : Nat) (lead : Nat) : Prog := .read fun s =>
  if s.isLead lead && s.dir lead == 2 && s.switching lead then
    let c := s.chan lead
    let i := (ofField 18 (s.rd Reg.PHC_MEAS_I.MEAS_I lead)).natAbs
    let e := clampE (s.donorVset - s.rd Reg.SRC_ISLAND.DROOP * i / 10 - vbus)
    let u := loopEq (s.coefs lead) .bus e c.eB c.uB (s.clamps lead).1 (s.clamps lead).2
    updChans lead fun x => { x with eB := pushHist e x.eB, uB := pushHist u x.uB }
  else .skip

/-- A break of the voltage's stay in the window (R45): a period under way restarts, and a qualified source that is not enabled qualifies anew. -/
def qualBreak (k : Nat) : Prog := .read fun s =>
  let anew := (s.src k).qualified && !s.flag Reg.SRC_PORT_STATUS.ENABLED k
  .seq (updSrcs k fun x => { x with
      vGood := false, qualified := x.qualified && !anew,
      qualAt := if anew then some s.time else x.qualAt.map fun _ => s.time })
    (if anew then .seq (setR Reg.SRC_PORT_STATUS.QUALIFYING 1 k) (returnDrop k) else .skip)

/-- A source's sample (R40, R44, R45, R48, R75): its readings, its counts, and a break of its qualification. -/
def srcSample (k : Nat) (v : Nat) (i : Int) : Prog := .read fun s =>
  let on := s.flag Reg.SRC_PORT_STATUS.ENABLED k
  let above := on && decide (i > s.tripLevel k)
  let uv := decide (v < 1000 * s.rd Reg.SRC_BUS_CFG.UV_V)
  let good := decide (300000 ≤ v ∧ v ≤ 420000)
  seqs [
    setR Reg.SRC_PORT_MEAS.VOLT (min (v / 100) 8191) k, setR Reg.SRC_PORT_MEAS.CURR (toField 19 (clampS 19 i)) k,
    updSrcs k fun x => { x with
      stuck := false, tripRun := runOf above x.tripRun, revRun := runOf (decide (i < -1000)) x.revRun,
      uvSince := if uv then some (x.uvSince.getD s.time) else none,
      vGood := good,
      qualAt := if good && x.vGood then x.qualAt else x.qualAt.map fun _ => s.time },
    when (fun _ => !good) (qualBreak k)]

/-- The bus readings of a sample (R41, R52, R68): BUS_V, the flags and the counts. -/
def busReadings (b : BusSample) : Prog := .read fun s =>
  let differ := match b.busA, b.busB with
    | some x, some y => decide (50 * (max x y - min x y) > max x y)
    | _, _ => false
  seqs [
    updGrid fun g => { g with
      busA := b.busA.getD g.busA, busB := b.busB.getD g.busB, stuckA := g.stuckA && b.busA.isNone, stuckB := g.stuckB && b.busB.isNone,
      misSince := if differ then some (g.misSince.getD s.time) else none },
    match s.busHigh b, s.busLow b with
    | some hi, some lo =>
      let ov := decide (hi > 1000 * s.rd Reg.SRC_BUS_CFG.OV_V)
      let uv := decide (lo < 1000 * s.rd Reg.SRC_BUS_CFG.UV_V)
      let below := (List.range 64).filter fun sl => (s.slot sl).disc && !s.oddGanged sl && decide (lo < s.rd Reg.SLT_VPACK.VPACK sl + 20000)
      seqs [
        setR Reg.SRC_BUS.BUS_V (min 0x7FFFF (((validBus b).foldl (· + ·) 0) / (validBus b).length)),
        setR Reg.SRC_BUS.OV (bit ov), setR Reg.SRC_BUS.UV (bit uv),
        updGrid fun g => { g with
          ovRun := runOf ov g.ovRun, uvRun := runOf uv g.uvRun,
          restartSince := if decide (lo > 1000 * s.rd Reg.SRC_BUS_CFG.RESTART_V) then some (g.restartSince.getD s.time) else none,
          below1 := below, below2 := below.filter fun sl => g.below1.contains sl }]
    | _, _ => .skip]

/-- SCALE is recomputed while a tripped source stays above its trip level; it only falls (R49). -/
def guardRecompute : Prog := .read fun s =>
  let ks := s.grid.tripped.filter fun k => s.flag Reg.SRC_PORT_STATUS.ENABLED k && decide (s.srcCurr k > s.tripLevel k)
  if s.grid.tripped.isEmpty then .skip
  else .seq (setScale (s.scaleFor ks)) (updGrid fun g => { g with tripped := ks })

/-- The phase block, which holds the bus and source logic, is powered (R555). -/
def State.gridOn (s : State) : Bool := hasBit (s.rd Reg.PWR_DOM.ON) 20

/-- BUS_SAMPLE (R40, R41, R49, R84, R91): one sample of every modulator; `avgs` holds the pre-bias averages of leads that wait for a valid
bus reading. -/
def execBusSample (b : BusSample) (avgs : List (Nat × Nat)) : State → Host.Outcome State Fault Refusal :=
  ends (when State.gridOn (seqs [
    .read fun s => updGrid fun g => { g with scaleBefore := s.rd Reg.SRC_GUARD.SCALE },
    busReadings b,
    each (List.range 4) fun k => match (b.srcs.getD k none) with
      | some (v, i) => srcSample k v i
      | none => .skip,
    guardRecompute,
    .read fun s => match s.busHigh b with
      | some v => .seq (each (List.range 128) (busLoop v)) (each avgs fun e => preBias e.1 (some e.2))
      | none => .skip]))

/-- SENSOR (R41, R363). -/
def sensorEvent : Prog := .read fun s =>
  raisePf evSensor srcDevice (dat 16 1 (s.rd Reg.SRC_BUS.MISMATCH + 2 * bit s.grid.stuckA + 4 * bit s.grid.stuckB))

/-- MODULATOR_STUCK (R40, R41): no transition for 64 clocks of modulator `m`: 0 and 1 the bus sensors A and B, 2 + 2k and 3 + 2k voltage and
current of source k. A stuck bus sensor latches MISMATCH; a stuck source modulator is a loss of R44, and a stuck voltage modulator also
breaks the qualification (R45). -/
def execModulatorStuck (m clocks : Nat) : State → Host.Outcome State Fault Refusal :=
  ends (when (fun s => s.gridOn && decide (64 ≤ clocks)) (
    if m < 2 then seqs [
      updGrid fun g => if m = 0 then { g with stuckA := true } else { g with stuckB := true },
      .read fun s => if s.flag Reg.SRC_BUS.MISMATCH then .skip else .seq (setR Reg.SRC_BUS.MISMATCH 1) sensorEvent]
    else if m < 10 then .seq (updSrcs ((m - 2) / 2) fun x => { x with stuck := true })
      (if m % 2 = 0 then qualBreak ((m - 2) / 2) else .skip)
    else .skip))

/-- BUS_SENSOR_MISMATCH (R41): the readings have differed by more than 2 % for 1 ms. -/
def execBusSensorMismatch : State → Host.Outcome State Fault Refusal :=
  ends (.read fun s =>
    match s.grid.misSince with
    | some t => if s.time ≥ t + 1000 ∧ ¬ s.flag Reg.SRC_BUS.MISMATCH then .seq (setR Reg.SRC_BUS.MISMATCH 1) sensorEvent else .skip
    | none => .skip)

/-! The bus guard (R48 to R52). -/

/-- BUS_GUARD_TRIP (R48, R49): sources above their trip level for two samples; SCALE falls. A trip that meets a guard already tripped
counts no further trip. -/
def execBusGuardTrip : State → Host.Outcome State Fault Refusal :=
  ends (.read fun s =>
    let ks := s.srcsOn.filter fun k => decide ((s.src k).tripRun ≥ 2)
    let new := ks.filter fun k => !s.grid.tripped.contains k
    if new.isEmpty then .skip
    else seqs [
      setScale (s.scaleFor ks), updGrid fun g => { g with tripped := ks, trip := true },
      if s.grid.trip then .skip
      else .seq (incSat Reg.SRC_GUARD.TRIPS) (.read fun t =>
        raisePf evGuardTrip srcDevice (dat 16 2 (t.rd Reg.SRC_GUARD.SCALE) + dat 18 1 (t.rd Reg.SRC_GUARD.TRIPS) +
          dat 19 1 (ks.map (2 ^ ·)).sum))])

/-- BUS_OVERVOLTAGE (R52, R650): the bus has stood above OV_V for two samples; feeding channels park. -/
def execBusOvervoltage : State → Host.Outcome State Fault Refusal :=
  ends (when (fun s => decide (s.grid.ovRun ≥ 2)) parkFeeding)

/-- BUS_UNDERVOLTAGE (R52): below UV_V for two samples; SCALE becomes 0 and the drawing channels wait for the restart. -/
def execBusUndervoltage : State → Host.Outcome State Fault Refusal :=
  ends (when (fun s => decide (s.grid.uvRun ≥ 2)) (.seq (setScale 0) (updGrid fun g => { g with uvHold := true, restartSince := none })))

/-- BUS_BELOW_PACK (R52, R510 SF10): below the slot's pack voltage + 20 V for two samples; the slot opens DISC. -/
def execBusBelowPack (sl : Nat) : State → Host.Outcome State Fault Refusal :=
  ends (when (fun s => s.grid.below2.contains sl && (s.slot sl).disc) (slotSafe sl caReverse))

/-- BUS_UV_RESTART (R52): the bus has exceeded RESTART_V for 100 ms. -/
def execBusUvRestart : State → Host.Outcome State Fault Refusal :=
  ends (.read fun s =>
    match s.grid.restartSince with
    | some t => if s.grid.uvHold && decide (s.time ≥ t + 100000) then updGrid fun g => { g with uvHold := false } else .skip
    | none => .skip)

/-! Sources (R42 to R47). -/

/-- What a rise of SRC_PRES brings (R42, R45): the class by SRC_ID and the qualification period. -/
def presenceRise (k mv : Nat) : Prog := .read fun s =>
  if !s.gridOn || s.flag Reg.SRC_PORT_STATUS.PRESENT k then .skip
  else seqs [
    setR Reg.SRC_PORT_STATUS.PRESENT 1 k, setR Reg.SRC_PORT_STATUS.QUALIFYING 1 k,
    updSrcs k fun x => { x with idClass := classOf mv, qualAt := some s.time, qualified := false, vGood := false, stuck := false, revRun := 0, uvSince := none },
    srcLimit k false, srcChange k]

/-- SOURCE_PRESENCE_RISE (R42, R45, R594): SRC_PRES rises with `mv` on SRC_ID; during a freeze it is latched. -/
def execSourcePresenceRise (k mv : Nat) : State → Host.Outcome State Fault Refusal :=
  latching (.presence k true mv) (if k < 4 then presenceRise k mv else .skip)

/-- The condition of R44 for LOST_WHY `why` holds. -/
def State.lossHolds (s : State) (k why : Nat) : Bool :=
  let x := s.src k
  match why with
  | 1 => s.flag Reg.SRC_PORT_STATUS.PRESENT k
  | 2 => s.flag Reg.SRC_PORT_STATUS.ENABLED k && (match x.uvSince with | some t => decide (s.time ≥ t + 50) | none => false)
  | 3 => s.flag Reg.SRC_PORT_STATUS.ENABLED k && decide (x.revRun ≥ 2)
  | 4 => s.flag Reg.SRC_PORT_STATUS.ENABLED k && x.stuck
  | _ => false

/-- The loss of a source, where its condition holds. -/
def sourceGone (k why : Nat) : Prog := when (fun s => s.gridOn && decide (k < 4) && s.lossHolds k why) (sourceLost k why)

/-- SOURCE_LOST (R44, R54, R55, R594): the source is lost for `why` as in LOST_WHY; the last one starts ISLAND and its donors. A fall of
SRC_PRES during a freeze is latched; the samples stand still. -/
def execSourceLost (k why : Nat) : State → Host.Outcome State Fault Refusal :=
  if why = 1 then latching (.presence k false 0) (sourceGone k 1) else ends (sourceGone k why)

/-- What MODE lets a qualified source do (R46, R58): ALWAYS enables it, in ISLAND by R58. -/
def qualifiedActs (k : Nat) : Prog := .read fun s =>
  if s.flag Reg.SRC_PORT_STATUS.ENABLED k then .skip
  else if s.mode = mIsland then returnNext
  else if s.rd Reg.SRC_PORT_CFG.MODE k = 1 then srcEnable k 2
  else .skip

/-- SOURCE_QUALIFIED (R44, R45, R46, R551, R649): the qualification period has ended without a break, with the voltage seen in its window. -/
def execSourceQualified (k : Nat) : State → Host.Outcome State Fault Refusal :=
  ends (.read fun s =>
    match (s.src k).qualAt with
    | some t =>
      if s.gridOn && decide (k < 4) && s.flag Reg.SRC_PORT_STATUS.PRESENT k && (s.src k).vGood && decide (s.time ≥ t + 1000000 * s.rd Reg.SRC_PORT_CFG.QUAL_T k) then
        let on := s.flag Reg.SRC_PORT_STATUS.ENABLED k
        seqs [
          setR Reg.SRC_PORT_STATUS.QUALIFYING 0 k, updSrcs k fun x => { x with qualAt := none, qualified := true },
          if on then updSrcs k fun x => { x with budgetIn := 1 } else .skip,
          when (fun _ => on && s.rd Reg.SRC_PORT_CFG.MODE k == 2) (updGrid fun g => { g with demand := k :: g.demand }),
          qualifiedActs k,
          -- one SRC_CHANGE tells the end of the period and what it brought
          when (fun u => on || !u.flag Reg.SRC_PORT_STATUS.ENABLED k) (srcChange k),
          when (fun _ => s.flag Reg.PWR_CFG.SENT_AUTO && (s.mode == mSentinel || s.inDusk)) (requestBy mRun 3)]
      else .skip
    | none => .skip)

/-- DEMAND_SOURCE_DISABLE (R46, R47): the planned demand has stayed below 70 % of the remaining limit for 60 s. -/
def execDemandSourceDisable : State → Host.Outcome State Fault Refusal :=
  ends (.read fun s =>
    match s.grid.demandLow, s.grid.demand with
    | some t, k :: _ => if s.time ≥ t + 60000000 then .seq (srcDisable k) (updGrid fun g => { g with demandLow := none }) else .skip
    | _, _ => .skip)

/-- SRC_LIMIT_WRITE (R43, R44, R73): a write of OVERRIDE. -/
def execSrcLimitWrite (k override : Nat) : State → Host.Outcome State Fault Refusal :=
  pfWrites Reg.SRC_PORT_LIMIT.OVERRIDE k 0 (fun _ => Reg.SRC_PORT_LIMIT.OVERRIDE.rangeCause override)
    (.seq (setR Reg.SRC_PORT_LIMIT.OVERRIDE override k) (srcLimit k true))

/-- What a written MODE brings (R46): OFF is a loss with LOST_WHY 5; another mode enables or orders a qualified source. -/
def srcModeWritten (k : Nat) : Prog := .read fun s =>
  let on := s.flag Reg.SRC_PORT_STATUS.ENABLED k
  match s.rd Reg.SRC_PORT_CFG.MODE k with
  | 0 => if on then sourceLost k 5 else returnDrop k
  | 1 => .seq (updGrid fun g => { g with demand := g.demand.filter (· != k) }) (if (s.src k).qualified then qualifiedActs k else .skip)
  | 2 =>
    if on && (s.src k).qualified && !s.grid.demand.contains k then updGrid fun g => { g with demand := k :: g.demand }
    else if (s.src k).qualified then qualifiedActs k else .skip
  | _ => .skip

/-- SRC_MODE_WRITE (R46, R72): a write of MODE; the reserved value 3 is ignored whole. -/
def execSrcModeWrite (k mode : Nat) : State → Host.Outcome State Fault Refusal :=
  pfWrites Reg.SRC_PORT_CFG.MODE k 0 (fun _ => Reg.SRC_PORT_CFG.MODE.rangeCause mode) (.read fun s =>
    if mode = s.rd Reg.SRC_PORT_CFG.MODE k then .skip else .seq (setR Reg.SRC_PORT_CFG.MODE mode k) (srcModeWritten k))

/-! ISLAND (R55 to R58). -/

/-- ISLAND_BUS_READY (R56, R457): the donors hold the bus within 2 % of V_SET; the ports present Rp again. -/
def execIslandBusReady : State → Host.Outcome State Fault Refusal :=
  ends (.read fun s =>
    let v := 1000 * s.rd Reg.SRC_ISLAND.V_SET
    if s.mode = mIsland ∧ ¬ s.grid.ready ∧ (s.islandDonors.any fun sl => s.switching (s.slotLead sl)) ∧ 50 * (max v s.busMv - min v s.busMv) ≤ v then
      seqs [updGrid fun g => { g with ready := true }, each (List.range 8) portPresent, portsLimitChanged]
    else .skip)

/-- The next donor by rank (R57). -/
def nextDonor : Prog := .read fun s => match s.donorRank with
  | [] => .skip
  | sl :: _ => donorStart sl

/-- ISLAND_DONOR_FLOOR (R57): at FLOOR + 2 % the next donor starts, once; at FLOOR the donor soft-stops, and with none left SCALE is 0 and
ISLAND_NO_DONOR is raised. -/
def execIslandDonorFloor (sl : Nat) : State → Host.Outcome State Fault Refusal :=
  ends (.read fun s =>
    let soc := s.rd Reg.GAU_SOC.SOC sl
    let floor := 100 * s.rd Reg.SRC_ISLAND.FLOOR
    if s.mode ≠ mIsland ∨ ¬ s.islandDonors.contains sl ∨ soc > floor + 200 then .skip
    else seqs [
      if s.grid.handed.contains sl then .skip
      else .seq (when (fun t => !t.donorRank.isEmpty) (updGrid fun g => { g with handed := sl :: g.handed })) nextDonor,
      when (fun _ => decide (soc ≤ floor)) (.seq (stopSlot sl slIdle none)
        (when (fun t => t.islandDonors.isEmpty && t.donorRank.isEmpty) (seqs [
          donorsGone, raisePf evIslandNoDonor srcDevice 0])))])

/-- ISLAND_SOURCE_RETURN (R58): the donors' set point has ramped for 100 ms, or none runs; the source is enabled, a DEMAND source as the
latest of R47's order, and the next waiting source returns. -/
def execIslandSourceReturn (k : Nat) : State → Host.Outcome State Fault Refusal :=
  ends (.read fun s =>
    let ramped := match s.grid.returning with
      | some (j, t, _) => j == k && decide (s.time ≥ t + 100000)
      | none => false
    if s.mode = mIsland ∧ k < 4 ∧ s.waitsReturn k ∧ (ramped || s.islandDonors.isEmpty) then seqs [
      srcEnable k 2,
      when (fun _ => s.rd Reg.SRC_PORT_CFG.MODE k == 2) (updGrid fun g => { g with demand := k :: g.demand }),
      returnNext]
    else .skip)

end Sys2Proof.Machine
end

