-- ==== Sys2Proof/Machine/ServiceOps.lean ====
section
/-! DEFINITION. The shared operations of service access (chapter 15): freezing (R592), moving every deadline by a freeze's length
(R593), and releasing (R594 to R596). -/

namespace Sys2Proof.Machine

/-- Island 62, the service port and freeze controller, works: it has an oscillator, and the device is not in SHIP (R555, R588). -/
def State.servicePort (s : State) : Bool := s.modeReg != mShip && !s.isleGone 62

/-- A SERVICE request is allowed: in RUN, CURTAIL, ISLAND and SENTINEL, or again from debug run (R551, R596). -/
def State.mayFreeze (s : State) : Bool :=
  s.flag Reg.SVC_STATUS.DBG_RUN || ((s.running || s.mode == mSentinel) && s.rd Reg.PWR_MODE.SEQ == 0)

/-- The freeze sequence of R592. The slot states hold; a channel at its fault keeps its stage. -/
def freezeBegin : Prog := .read fun s => seqs [
  each ((List.range 144).filter fun n => s.isLead n && s.rd Reg.PHC_STATUS.STAGE n != 6) fun n => parkOutput n 0,
  updHouse fun h => { h with hbPre := false },
  if s.modeReg = mService then .skip else .seq (setR Reg.SVC_STATUS.FROM s.modeReg) (setR Reg.PWR_MODE.PREV s.modeReg),
  setR Reg.PWR_MODE.MODE mService, setR Reg.PWR_MODE.TARGET mService, setR Reg.PWR_STATUS.LAST_SRC 9,
  setR Reg.SVC_STATUS.FROZEN 1, setR Reg.SVC_STATUS.DBG_RUN 0,
  setR Reg.SVC_FREEZE_T.START_LO (s.time % 2 ^ 32), incSat Reg.SVC_CNT.FREEZES,
  setR Reg.WDG_STATUS.STATE 2, updSun fun x => { x with stopAt := some (x.stopAt.getD s.time) },
  updSvc fun v => { v with frozenAt := s.time, parkLines := true, latched := [], releaseOwed := none }]

/-- A request to freeze (R592, R602). -/
def freezeAsk : Prog := .read fun s =>
  if s.outranked 5 then updPower fun p => { p with deferred := p.deferred ++ [.freeze] }
  else if s.flag Reg.SVC_STATUS.FROZEN then .skip
  else if s.flag Reg.SVC_STATUS.LOCKED then refuse mService 5
  else if s.mayFreeze then freezeBegin
  else refuse mService 4

/-! Every deadline kept in device time moves by the length of the freeze (R593). -/

def shiftO (d : Nat) (t : Option Nat) : Option Nat := t.map (· + d)

def FnRec.shift (d : Nat) (x : FnRec) : FnRec :=
  { x with
    pollAt := none, activeUntil := x.activeUntil + d, askedAt := x.askedAt + d, nextAt := x.nextAt + d, bucketAt := x.bucketAt + d,
    statusAt := x.statusAt + d, overSince := shiftO d x.overSince, overAt := x.overAt + d, rateAt := shiftO d x.rateAt }

def ChanRec.shift (d : Nat) (x : ChanRec) : ChanRec :=
  { x with
    biasAt := x.biasAt + d, cvSince := shiftO d x.cvSince, ccSince := shiftO d x.ccSince, riseBy := x.riseBy + d,
    backoffUntil := x.backoffUntil + d, regSince := x.regSince + d, commitAt := x.commitAt + d, changeAt := x.changeAt + d,
    belowSince := x.belowSince + d, edgeAt := x.edgeAt + d, imbAt := x.imbAt + d, overSince := shiftO d x.overSince,
    wrongSince := shiftO d x.wrongSince, cutSince := shiftO d x.cutSince, parkedAt := shiftO d x.parkedAt }

def SlotRec.shift (d : Nat) (x : SlotRec) : SlotRec :=
  { x with
    closedAt := x.closedAt + d, retryAt := shiftO d x.retryAt, identAt := x.identAt + d, busRetryAt := shiftO d x.busRetryAt,
    ntcBothSince := shiftO d x.ntcBothSince, phaseAt := x.phaseAt + d, chargeAt := x.chargeAt + d, cvAt := x.cvAt + d,
    taperAt := x.taperAt + d, belowSince := shiftO d x.belowSince, audBelowSince := shiftO d x.audBelowSince,
    cvOrderAt := shiftO d x.cvOrderAt, pollAt := x.pollAt + d, restAt := x.restAt + d, pauseAt := x.pauseAt + d,
    masked := x.masked.map fun m => (m.1, m.2 + d), fgErrAt := shiftO d x.fgErrAt, parkAt := shiftO d x.parkAt }

def GaugeRec.shift (d : Nat) (x : GaugeRec) : GaugeRec :=
  { x with
    marks := x.marks.map fun m => (m.1, m.2.1, m.2.2.1, m.2.2.2 + d), anchorAt := x.anchorAt + d,
    zeroSince := shiftO d x.zeroSince, trimAt := shiftO d x.trimAt }

def TwbJob.shift (d : Nat) (x : TwbJob) : TwbJob := { x with deadline := shiftO d x.deadline }

def BusRec.shift (d : Nat) (x : BusRec) : BusRec :=
  { x with
    agent := x.agent.map (TwbJob.shift d), queue := x.queue.map (TwbJob.shift d), run := x.run.map (TwbJob.shift d),
    idleAt := x.idleAt + d, araAt := x.araAt + d }

def HouseRec.shift (d : Nat) (x : HouseRec) : HouseRec :=
  { x with
    tempAt := x.tempAt + d, preAt := x.preAt + d, chargeAt := x.chargeAt + d, cvAt := x.cvAt + d,
    endSince := shiftO d x.endSince, lowSince := shiftO d x.lowSince }

def GridRec.shift (d : Nat) (x : GridRec) : GridRec :=
  { x with
    guardSince := x.guardSince + d, fallAt := x.fallAt + d, restartSince := shiftO d x.restartSince, demandLow := shiftO d x.demandLow,
    returning := x.returning.map fun r => (r.1, r.2.1 + d, r.2.2), misSince := shiftO d x.misSince }

def SrcRec.shift (d : Nat) (x : SrcRec) : SrcRec := { x with uvSince := shiftO d x.uvSince, qualAt := shiftO d x.qualAt }

/-- An ICV restarts its interrupted entry from step 1 (R285, R595); an urgent or calibration conversion that ran begins again in the same pass. -/
def IcvRec.restart (d : Nat) (x : IcvRec) : IcvRec :=
  { x with
    passAt := x.passAt + d, delayUntil := x.delayUntil + d, cur := none, resume := false, done := 0, avgVals := [], avgFlags := 0, res := [],
    used := x.used && (match x.cur with | some c => c.kind == 0 | none => true),
    queue := (match x.cur with
      | some c => if c.kind = 1 ∧ ¬ c.discard then [{ c with startAt := none, flags := 0, range := if c.auto then 3 else c.range }] else []
      | none => []) ++ x.queue }

def FcvRec.shift (d : Nat) (x : FcvRec) : FcvRec := { x with
  ages := x.ages.map fun a => (a.1, a.2 + d), endAt := x.endAt + d, selfAt := x.selfAt + d, bootAt := x.bootAt + d }

def PairRec.shift (d : Nat) (x : PairRec) : PairRec := { x with strikes := x.strikes.map (· + d), quarAt := x.quarAt + d }

def TaskRec.shift (d : Nat) (x : TaskRec) : TaskRec := { x with
  faults := x.faults.map (· + d), readyAt := x.readyAt + d, waits := x.waits.map fun w => (w.1, w.2 + d), roundAt := shiftO d x.roundAt }

/-- The stamps that the frozen islands keep move by `d` µs (R593). -/
def timesShift (d : Nat) : Prog := seqs [
  .act (.fnsMap fun _ x => x.shift d), .act (.ringsMap fun _ x => { x with modSince := x.modSince + d }),
  updHost fun h => { h with fences := h.fences.map fun f => { f with until? := shiftO d f.until? } },
  .act (.chansMap fun _ x => x.shift d), .act (.slotsMap fun _ x => x.shift d), .act (.gaugesMap fun _ x => x.shift d),
  .act (.portsMap fun _ x => { x with
    rdAt := x.rdAt + d, recoverAt := x.recoverAt + d, hardAt := x.hardAt + d, holdAt := x.holdAt + d, eprAt := x.eprAt + d,
    attachedAt := x.attachedAt + d }),
  .act (.twbMap fun _ x => x.shift d), updHouse fun h => h.shift d, updGrid fun g => g.shift d, .act (.srcsMap fun _ x => x.shift d),
  .act (.icvsMap fun _ x => x.restart d), .act (.fcvsMap fun _ x => x.shift d),
  updMains fun m => { m with lastAt := m.lastAt + d }, updPendZ fun l => l.map fun z => { z with at_ := z.at_ + d },
  .act (.groupsMap fun _ x => { x with since := shiftO d x.since }),
  updPower fun p => { p with hotSince := shiftO d p.hotSince, coolSince := shiftO d p.coolSince, shutSince := shiftO d p.shutSince },
  .act (.pairsMap fun _ x => x.shift d), .act (.tasksMap fun _ x => x.shift d),
  updEng fun e => { e with
    dwellAt := e.dwellAt + d, recent := e.recent.map fun r => (r.1, r.2 + d), rounds := e.rounds.map fun r => (r.1, r.2 + d) },
  updSun fun x => { x with validAt := x.validAt + d }, updKeep fun k => { k with startAt := k.startAt + d },
  updSvc fun v => { v with lockAt := shiftO d v.lockAt }]

/-- The system watchdog runs again (R531, R593): the question's deadline moves by the stop, and by `more` µs. -/
def sysWdgResume (more : Nat) : Prog := .read fun s =>
  match s.sun.stopAt with
  | none => .skip
  | some t =>
    let d := s.time - t + more
    .seq (updSun fun x => { x with stopAt := none, askedAt := x.askedAt + d, nextAt := x.nextAt + d })
      (setR Reg.WDG_STATUS.STATE (bit s.sun.posed))

/-- A latched happening is taken (R594). -/
def latchedTake : Latched → Prog
  | .fgOv sl mv us => fgOvTrip sl mv us
  | .fgOc sl ma us => fgOcTrip sl ma us
  | .fgRv sl ma us => fgRvTrip sl ma us
  | .fgNtc sl input code ms => fgNtcTrip sl input code ms
  | .idLoss sl mv ns => idLossTrip sl mv ns
  | .idOpen sl pulses => packRemoval sl pulses
  | .idClosed sl => pinClose sl
  | .presence k level mv => if k < 4 then (if level then presenceRise k mv else sourceGone k 1) else .skip
  | .request m src => modeRequest m src
  | .halt cause detail => haltEnter cause detail
  | .perst => perst
  | .freeze => freezeAsk
  | .pllUnlock => pllUnlocked
  | .wdgClock clock => wdgClockSeen clock
  | .crystal slew => crystalStopped slew
  | .feed n => feedGone n

/-- Its place in the orders of R564 and R545. -/
def latchedRank : Latched → Nat
  | .perst => 0
  | .halt _ _ | .pllUnlock | .wdgClock _ | .crystal _ => 1
  | .fgOv _ _ _ | .fgOc _ _ _ | .fgRv _ _ _ | .fgNtc _ _ _ _ | .idLoss _ _ _ => 2
  | .presence _ _ _ | .feed _ => 3
  | .idOpen _ _ | .idClosed _ => 4
  | .freeze => 5
  | .request _ src => 6 + min src 2

/-- Everything latched is taken, in its order. -/
def latchedAll (l : List Latched) : Prog := each (List.range 9) fun r => each (l.filter fun x => latchedRank x == r) latchedTake

/-- The clocks restart (R595 steps 1 to 3): each unit resumes by its own rule, but for what needs the park lines released. -/
def clocksRestart : Prog := .read fun s =>
  let d := s.time - s.svc.frozenAt
  seqs [
    setR Reg.SVC_STATUS.FROZEN 0, setR Reg.SVC_FREEZE_LEN.LEN (min d 0xFFFFFFFF),
    timesShift d,
    updAlm fun a => { a with plan := [], prev := [], frozen := none, resume := true, boundaryAt := none },
    .act (.tinesMap fun _ _ => {}),
    -- effects that debug steps left in the store queues go out (R597)
    each ((List.range 416).filter fun t => (s.task t).queue.any (·.done)) storeDrain,
    updSvc fun v => { v with latched := [], releaseOwed := none }]

/-- Slots, ports and the house rail go on once their outputs have been parked by the freeze (R146, R467, R595). -/
def outputsResume : Prog := .read fun s => seqs [
  each (List.range 64) fun sl =>
    if s.slSt sl = slStopping ∧ ¬ s.switching (s.slotLead sl) then leadPark (s.slotLead sl) else .skip,
  each (List.range 8) fun k => if s.rd Reg.PDP_STATUS.TC_STATE k = 5 then .skip else .seq (portDisable k) (portPresent k)]

/-- THAW (R595): back to the mode left, with FREEZE_END; then what the freeze latched. From debug run the clocks run already. -/
def thaw : Prog := .read fun s =>
  let from_ := s.rd Reg.SVC_STATUS.FROM
  seqs [
    if s.flag Reg.SVC_STATUS.FROZEN then clocksRestart else .skip,
    setR Reg.SVC_STATUS.DBG_RUN 0, setR Reg.SVC_STATUS.HALTED_PAIRS 0, .act (.pairsMap fun _ x => { x with halted := false }),
    updSvc fun v => { v with parkLines := false, extest := false },
    sysWdgResume (if s.flag Reg.SVC_STATUS.FROZEN then 5000 else 0),
    setR Reg.PWR_MODE.PREV mService, setR Reg.PWR_MODE.MODE from_, setR Reg.PWR_MODE.TARGET from_,
    updHouse fun h => { h with hbPre := s.rd Reg.SRC_HB_STATUS.STATE == 0 && h.railStep == 3 && !s.flag Reg.SRC_HB_STATUS.ABSENT },
    outputsResume,
    .read fun t => raisePf evFreezeEnd srcDevice (dat 16 8 s.svc.frozenAt + dat 24 4 (t.rd Reg.SVC_FREEZE_LEN.LEN) + dat 28 1 from_),
    latchedAll s.svc.latched,
    when (fun t => t.flag Reg.SRC_GUARD.ALL_LOST && (t.modeReg == mRun || t.modeReg == mCurtail)) allSourcesLost,
    curtailUpdate 9]

/-- THAW_DBG (R596): debug run, with the park lines held. -/
def thawDbg : Prog := .read fun s => seqs [
  clocksRestart, setR Reg.SVC_STATUS.DBG_RUN 1, updSvc fun v => { v with extest := false },
  when (fun t => t.rd Reg.SVC_STATUS.HALTED_PAIRS == 0) (sysWdgResume 5000),
  outputsResume, latchedAll s.svc.latched]

/-- A release waits for the end of the snapshot stream (R595). -/
def release (dbg : Bool) : Prog := .read fun s =>
  if s.flag Reg.SVC_STATUS.SNAP_BUSY then updSvc fun v => { v with releaseOwed := some (v.releaseOwed.getD dbg) }
  else if dbg then thawDbg else thaw

/-! The snapshot stream (R598, R599). -/

/-- The sizes of the sections, KiB (R598). -/
def snapKiB : List Nat := [4, 32768, 256, 5120, 1024, 1024, 144, 256, 16, 64, 64, 256]

/-- The sections a mask names. -/
def snapSections (mask : Nat) : List Nat := (List.range 12).filter fun k => hasBit mask k

/-- The length of a stream, bytes: S + 12 · N_blk (R599). -/
def snapBytes (mask : Nat) : Nat :=
  ((snapSections mask).map fun k => snapKiB.getD k 0 * 1024 + 12 * ((snapKiB.getD k 0 * 1024 + 4095) / 4096)).sum

/-- The header of a block (R599): its section, whether it is the section's last and the stream's last, its number and length. -/
def snapHeader (section_ blk len : Nat) (last fin : Bool) : List Nat :=
  let h := [0xA5, 0x5A, section_, bit last + 2 * bit fin] ++ leBytes 4 blk ++ leBytes 2 len
  h ++ leBytes 2 (crc16 h)

/-- The headers of a section's blocks; `fin` where the section is the stream's last. -/
def snapHeaders (section_ : Nat) (fin : Bool) : List (List Nat) :=
  let n := snapKiB.getD section_ 0 / 4
  (List.range n).map fun b => snapHeader section_ b 4096 (b + 1 == n) (fin && b + 1 == n)

end Sys2Proof.Machine
end

