-- ==== Sys2Proof/Machine/Service.lean ====
section
/-! DEFINITION. Service access (chapter 15): the FREEZE pin, the TAP's instructions (R600, R601), tine debug (R597), the snapshot
stream (R598) and SERVICE_LOCK (R602). -/

namespace Sys2Proof.Machine

/-! The pin and the stream (R592, R595, R598). -/

/-- FREEZE_PIN (R592): FREEZE held low for `us`, at least 1 µs. -/
def execFreezePin (us : Nat) : State → Host.Outcome State Fault Refusal :=
  endsAlways (when (fun s => decide (us ≥ 1) && s.servicePort) freezeAsk)

/-- FREEZE_RELEASE_PIN (R595): FREEZE held high for `us`, at least 1 µs. -/
def execFreezeReleasePin (us : Nat) : State → Host.Outcome State Fault Refusal :=
  endsAlways (when (fun s => decide (us ≥ 1) && s.flag Reg.SVC_STATUS.FROZEN) (release false))

/-- SNAP_STREAM_END (R598): the stream's END block has gone out; a release that waited proceeds. -/
def execSnapStreamEnd : State → Host.Outcome State Fault Refusal := endsAlways <| .read fun s =>
  if s.flag Reg.SVC_STATUS.SNAP_BUSY ∧ s.time ≥ s.svc.snapEnd then
    .seq (.seq (setR Reg.SVC_STATUS.SNAP_BUSY 0) (updSvc fun v => { v with snapMask := 0 }))
      (match s.svc.releaseOwed with
       | some dbg => release dbg
       | none => .skip)
  else .skip

/-! The TAP (R600). -/

/-- An instruction is in force with what its data register answers. -/
def tap (ir tdo : Nat) : Prog := updSvc fun v => { v with ir, tdo }

/-- An instruction of the TAP: outside its Allowed condition it acts as BYPASS (R600). -/
def tapRow (allowed : State → Bool) (p : Prog) : State → Host.Outcome State Fault Refusal :=
  endsAlways (when State.servicePort (cond allowed p (tap 0xFF 0)))

/-- SERVICE_LOCK is intact (R602). -/
def State.unlocked (s : State) : Bool := !s.flag Reg.SVC_STATUS.LOCKED

/-- The device is frozen with its lock intact. -/
def State.frozenOpen (s : State) : Bool := s.unlocked && s.flag Reg.SVC_STATUS.FROZEN

/-- BYPASS: the 1-bit register. -/
def execBypass : State → Host.Outcome State Fault Refusal := tapRow (fun _ => true) (tap 0xFF 0)

/-- IDCODE. -/
def execIdcode : State → Host.Outcome State Fault Refusal := tapRow (fun _ => true) (tap 0x01 0x564109E7)

/-- SAMPLE_PRELOAD (R601): the boundary is sampled and `load` preloaded. The spec does not give the boundary's layout: the sample is a
free value. -/
def execSamplePreload (load : Nat) : State → Host.Outcome State Fault Refusal :=
  tapRow State.unlocked (withFree fun v => .seq (tap 0x02 v) (updSvc fun x => { x with preload := load }))

/-- EXTEST (R601): the preloaded boundary drives the balls; the cells of the power controls observe only, and hold the parked or frozen
levels that the freeze left. -/
def execExtest : State → Host.Outcome State Fault Refusal :=
  tapRow State.frozenOpen (withFree fun v => .seq (tap 0x00 v) (updSvc fun x => { x with extest := true }))

/-- FREEZE (R592, R600): at Update-IR. With the lock blown the TAP answers BYPASS, and the request is refused. -/
def execFreeze : State → Host.Outcome State Fault Refusal :=
  endsAlways (when State.servicePort (.seq (cond State.unlocked (tap 0x10 0) (tap 0xFF 0)) freezeAsk))

/-- THAW (R595). -/
def execThaw : State → Host.Outcome State Fault Refusal :=
  tapRow (fun s => s.unlocked && (s.flag Reg.SVC_STATUS.FROZEN || s.flag Reg.SVC_STATUS.DBG_RUN)) (.seq (tap 0x11 0) (release false))

/-- THAW_DBG (R596). -/
def execThawDbg : State → Host.Outcome State Fault Refusal := tapRow State.frozenOpen (.seq (tap 0x12 0) (release true))

/-- `SVC_STATUS` as it reads (R606). -/
def State.svcStatus (s : State) : Nat :=
  s.rd Reg.SVC_STATUS.LOCKED * 2 ^ 31 + s.rd Reg.SVC_STATUS.FROZEN * 2 ^ 30 + s.rd Reg.SVC_STATUS.DBG_RUN * 2 ^ 29 +
  s.rd Reg.SVC_STATUS.FROM * 2 ^ 26 + s.rd Reg.SVC_STATUS.SNAP_BUSY * 2 ^ 25 + s.rd Reg.SVC_STATUS.DBG_DIFF * 2 ^ 24 +
  s.rd Reg.SVC_STATUS.HALTED_PAIRS

/-- SVC_STATUS. -/
def execSvcStatus : State → Host.Outcome State Fault Refusal := tapRow State.unlocked (.read fun s => tap 0x13 s.svcStatus)

/-- SNAP_READ (R598, R599): streams the sections of the mask; while a stream runs no other begins. -/
def execSnapRead (mask : Nat) : State → Host.Outcome State Fault Refusal := tapRow State.frozenOpen <| .read fun s =>
  .seq (tap 0x14 (mask % 65536))
    (if s.flag Reg.SVC_STATUS.SNAP_BUSY ∨ snapSections mask = [] then .skip
     else seqs [setR Reg.SVC_STATUS.SNAP_BUSY 1, emit (.snap (mask % 4096)),
       updSvc fun v => { v with snapMask := mask % 4096, snapPos := 0, snapEnd := s.time + (snapBytes mask + 49) / 50 }])

/-! Tine debug (R597). -/

/-- TINE_DBG is accepted for a pair: while frozen, or in debug run for a pair halted at a breakpoint. -/
def State.dbgOk (s : State) (p : Nat) : Bool :=
  s.unlocked && decide (p < 512) && (s.flag Reg.SVC_STATUS.FROZEN || (s.flag Reg.SVC_STATUS.DBG_RUN && (s.pair p).halted))

/-- The outcome of a TINE_DBG command on a pair. -/
def tineDbg (p : Nat) (q : Prog) : State → Host.Outcome State Fault Refusal := tapRow (fun s => s.dbgOk p) (.seq (tap 0x15 0) q)

/-- A cell of a pair: kind 0 registers and, at 32, the PC; 1 data memory; 2 code memory. -/
def tineKey (p kind addr : Nat) : Nat := Nat.pair p (Nat.pair kind addr)

/-- A read (R597): the even tine's value, which the model leaves free at its first reading, goes out in the next shift. -/
def tineRead (p kind addr : Nat) (differs : Bool) : Prog := .read fun s =>
  let stored := if kind = 1 then (s.taskOn p).bind fun t => ((s.task t).mem.find? (·.1 == addr)).map (·.2) else none
  .seq (if differs then setR Reg.SVC_STATUS.DBG_DIFF 1 else .skip)
    (match stored.or (s.tine (tineKey p kind addr)).v with
     | some v => tap 0x15 v
     | none => withFree fun v => .seq (updTines (tineKey p kind addr) fun _ => { v := some (v % 2 ^ 32) }) (tap 0x15 (v % 2 ^ 32)))

/-- A write: both tines take the value; in the data memory it is the task's. -/
def tineWrite (p kind addr v : Nat) : Prog := .read fun s =>
  match (if kind = 1 then s.taskOn p else none) with
  | some t => updTasks t fun x => { x with mem := (addr, v % 2 ^ 32) :: x.mem.filter (·.1 != addr) }
  | none => updTines (tineKey p kind addr) fun _ => { v := some (v % 2 ^ 32) }

/-- TINE_DBG_READ_REG: register 0 to 31, or 32 for the PC; `differs` where the odd tine's value differs. -/
def execTineDbgReadReg (p r : Nat) (differs : Bool) : State → Host.Outcome State Fault Refusal :=
  tineDbg p (if r ≤ 32 then tineRead p 0 r differs else .skip)

/-- TINE_DBG_WRITE_REG. -/
def execTineDbgWriteReg (p r v : Nat) : State → Host.Outcome State Fault Refusal :=
  tineDbg p (if r ≤ 32 then tineWrite p 0 r v else .skip)

/-- TINE_DBG_READ_DATA. -/
def execTineDbgReadData (p addr : Nat) (differs : Bool) : State → Host.Outcome State Fault Refusal :=
  tineDbg p (tineRead p 1 (addr % 2 ^ 19) differs)

/-- TINE_DBG_WRITE_DATA. -/
def execTineDbgWriteData (p addr v : Nat) : State → Host.Outcome State Fault Refusal := tineDbg p (tineWrite p 1 (addr % 2 ^ 19) v)

/-- TINE_DBG_READ_CODE. -/
def execTineDbgReadCode (p addr : Nat) (differs : Bool) : State → Host.Outcome State Fault Refusal :=
  tineDbg p (tineRead p 2 (addr % 2 ^ 19) differs)

/-- The registers and data of a pair are no longer those that debug saw. -/
def tineForget (p : Nat) : Prog := .act (.tinesMap fun key c =>
  if (Nat.unpair key).1 = p ∧ (Nat.unpair (Nat.unpair key).2).1 ≠ 2 then {} else c)

/-- An act of a debug step while frozen (R597): what would leave the tine stays in the store queue, also once its instruction has committed. -/
def stepAct (t : Nat) : TineAct → Prog
  | .commit => updTasks t fun x => { x with queue := commitOldest x.queue }
  | .read addr => storeEnters t { kind := 4, target := addr, data := 0 }
  | .arrive _ | .trace _ _ => .skip
  | a => tineAct t a

/-- The acts of a debug step while frozen; the step ends early when the queue is full (R597). -/
def stepActs (t : Nat) : List TineAct → Prog
  | [] => .skip
  | a :: l => cond (fun s => decide ((s.task t).queue.length < storeDepth)) (.seq (stepAct t a) (stepActs t l)) .skip

/-- TINE_DBG_STEP: `n` instructions, 1 to 65,535, of the pair's program, of which `acts` are those that the store queue sees; what they leave in
registers and memory beside is free. -/
def execTineDbgStep (p n : Nat) (acts : List TineAct) : State → Host.Outcome State Fault Refusal :=
  tineDbg p (if 1 ≤ n ∧ n ≤ 65535 then .seq (tineForget p) (.read fun s =>
    match s.taskOn p with
    | some t => if s.flag Reg.SVC_STATUS.FROZEN then stepActs t (acts.take n) else each (acts.take n) (tineAct t)
    | none => .skip) else .skip)

/-- TINE_DBG_SET_BREAKPOINT: at most four per pair. -/
def execTineDbgSetBreakpoint (p addr : Nat) : State → Host.Outcome State Fault Refusal :=
  tineDbg p (updPairs p fun x => if x.bps.contains (addr % 2 ^ 19) ∨ x.bps.length ≥ 4 then x else { x with bps := addr % 2 ^ 19 :: x.bps })

/-- TINE_DBG_CLEAR_BREAKPOINT. -/
def execTineDbgClearBreakpoint (p addr : Nat) : State → Host.Outcome State Fault Refusal :=
  tineDbg p (updPairs p fun x => { x with bps := x.bps.filter (· != addr % 2 ^ 19) })

/-- TINE_DBG_RESUME: a pair halted in debug run runs on; the watchdog's timer goes on once none is halted (R531). -/
def execTineDbgResume (p : Nat) : State → Host.Outcome State Fault Refusal := tineDbg p <| .read fun s =>
  if s.flag Reg.SVC_STATUS.DBG_RUN && (s.pair p).halted then seqs [
    updPairs p fun x => { x with halted := false }, tineForget p,
    setR Reg.SVC_STATUS.HALTED_PAIRS (s.rd Reg.SVC_STATUS.HALTED_PAIRS - 1),
    if s.rd Reg.SVC_STATUS.HALTED_PAIRS ≤ 1 then sysWdgResume 0 else .skip]
  else .skip

/-! SERVICE_LOCK (R602, R603). -/

/-- The freeze in force began at the present microsecond: a lock sequence that completes meanwhile is taken after the freeze decision (R603). -/
def State.atFreeze (s : State) : Bool := s.flag Reg.SVC_STATUS.FROZEN && s.svc.frozenAt == s.time

/-- A write of `SVC_LOCK.KEY`: the two words within 1 ms, sealed and not in SERVICE, start the fuse; anything else breaks the sequence. -/
def lockWrite (v : Nat) : Prog := .read fun s =>
  let ok := s.flag Reg.GLB_SEAL.SEALED && (s.modeReg != mService || s.atFreeze)
  let broken := .seq (setR Reg.SVC_LOCK.BAD 1) (updSvc fun x => { x with lockAt := none })
  match s.svc.lockAt with
  | none => if v = 0x4C4B ∧ ok then updSvc fun x => { x with lockAt := some s.time } else broken
  | some t => if v = 0x5345 ∧ ok ∧ s.time ≤ t + 1000 then updSvc fun x => { x with lockAt := none, blowing := true } else broken

/-- SVC_LOCK_KEY_WRITE. -/
def execSvcLockKeyWrite (v : Nat) : State → Host.Outcome State Fault Refusal :=
  endsAlways (when (fun s => s.barOn || s.atFreeze) (lockWrite (v % 65536)))

/-- SERVICE_LOCK_FUSE_BLOWN: within 10 ms the fuse has blown; in SERVICE the blow waits until THAW (R603). -/
def execServiceLockFuseBlown : State → Host.Outcome State Fault Refusal := ends <| .read fun s =>
  if s.svc.blowing ∧ s.modeReg ≠ mService then seqs [
    updSvc fun x => { x with blowing := false, fuse := true }, setR Reg.SVC_STATUS.LOCKED 1,
    raisePf evHealth srcDevice (dat 16 4 0xFFFFFFFF + dat 20 4 s.healthFeWord)]
  else .skip

end Sys2Proof.Machine
end

