-- ==== Sys2Proof/Machine/RegOps.lean ====
section
/-! DEFINITION. The register write path (R614 to R621): which fields a word of either BAR0 covers, what a write may
change, why it is ignored, and what a written register brings about. -/

namespace Sys2Proof.Machine

/-- A field at its place: the field and its three indices. -/
abbrev Place := Fld × Nat × Nat × Nat

/-- One step of address decoding: the index of an instance of stride `s`, and the offset within it. -/
def strideAt (s off : Nat) : Nat × Nat := if s = 0 then (0, off) else (off / s, off % s)

/-- The instance of a field that an offset from its first instance names. -/
def Fld.instAt (f : Fld) (off : Nat) : Option (Nat × Nat × Nat) :=
  let a := if f.space = .fn then (0, off) else strideAt f.s1 off
  let b := strideAt f.s2 a.2
  let c := strideAt f.s3 b.2
  if c.2 = 0 ∧ a.1 < f.n1 ∧ b.1 < f.n2 ∧ c.1 < f.n3 then some (a.1, b.1, c.1) else none

/-- The fields of the register at an address of PF BAR0 (R608 to R612): of a register that every function has, the PF's. -/
def fieldsAt (a : Nat) : List Place := fieldTable.filterMap fun f =>
  if a < f.base then none
  else (f.instAt (a - f.base)).map fun x => (f, (if f.space = .fn then pfFn else x.1), x.2.1, x.2.2)

/-- The fields of the register at an offset of a VF's BAR0 (R613). -/
def fieldsAtVf (vf a : Nat) : List Place := fieldTable.filterMap fun f =>
  if f.space = .pf ∨ a < f.vf then none else (f.instAt (a - f.vf)).map fun x => (f, vf, x.2.1, x.2.2)

/-- Read-only registers of PF BAR0 that show what other registers hold: `HIF_PF_WDG_CFG`, `TEN_WDG`, the RNG window (R609, R612),
and the upper word of the pending bit array. -/
def viewAt (a : Nat) : Bool :=
  a == 0x8030 || a == 0xF004 || (decide (0xA0000 ≤ a ∧ a < 0xB0000) && a % 0x40 == 0x20) ||
    (decide (0xC0000 ≤ a ∧ a < 0x100000) && decide (a % 0x40 ≤ 0x18))

/-- What a written word carries for a field. -/
def Fld.ofWord (f : Fld) (v : Nat) : Nat := v / 2 ^ f.lo % 2 ^ f.w

/-- The present value of a placed field; `FN` shows each function its own number (R372). -/
def State.at (s : State) (x : Place) : Nat :=
  if x.1.id = Reg.FN_STATUS.FN.id then x.2.1 else s.rd x.1 x.2.1 x.2.2.1 x.2.2.2

/-- The registers that show what other registers hold, with the fields they show. -/
def State.viewPlaces (s : State) (a : Nat) : List Place :=
  if a = 0x8030 then fieldTable.filterMap fun f => if f.base = Reg.TEN_WDG_CFG.PERIOD.base then some (f, pfFn, 0, 0) else none
  else if 0xA0000 ≤ a ∧ a < 0xB0000 then fieldsAtVf ((a - 0xA0000) / 0x40) Reg.FN_WDG.STATE.vf
  else if 0xC0000 ≤ a then fieldsAtVf (256 * s.rd Reg.HIF_RNG_WIN.GROUP + (a - 0xC0000) / 0x400) (Reg.RING_CTRL.EN.vf + a % 0x400)
  else []

/-- The fields that a read of a function's BAR0 shows at an address (R2, R608 to R613). -/
def State.placesAt (s : State) (fn a : Nat) : List Place :=
  if fn ≠ pfFn then fieldsAtVf fn a else if viewAt a then s.viewPlaces a else fieldsAt a

/-- Bit `b` of the word that fields make up: that of the field which holds it; a bit that no field holds reads zero (R2). -/
def State.wordBit (s : State) (l : List Place) (b : Nat) : Bool :=
  l.any fun x => decide (x.1.lo ≤ b) && decide (b < x.1.lo + x.1.w) && hasBit (s.at x) (b - x.1.lo)

/-- What a read of PF BAR0 looks at (R617): the SLT registers of a slot in retention as its supervisor pair left them. -/
def State.seen (s : State) (fn a : Nat) : State :=
  let sl := (a - 0x30000) / 0x100
  if fn = pfFn ∧ 0x30000 ≤ a ∧ a < 0x34000 ∧ s.slotRests sl then
    match s.eng.sltSeen.find? (·.1 == sl) with
    | some c => { s with regs := c.2 }
    | none => s
  else s

/-- The word that a 32-bit read of a function's BAR0 returns (R2, R614, R617): reserved bits and reserved space read zero. -/
def State.barRead (s : State) (fn a : Nat) : Nat := ((List.range 32).map fun b => bit ((s.seen fn a).wordBit (s.placesAt fn a) b) * 2 ^ b).sum

/-- A field that a write may set: RW, RWS or PFO; a PFO field is read only in a VF's BAR0 (R3). -/
def Fld.settable (f : Fld) : Bool := f.acc == .rw || f.acc == .rws || f.acc == .pfo

/-- The fields that a write would change (R618): a field written with its present value counts as not written. -/
def State.changes (s : State) (fs : List Place) (v : Nat) : List Place :=
  fs.filter fun x => x.1.settable && s.at x != x.1.ofWord v

/-- Whether a register has a field. -/
def covers (f : Fld) (l : List Place) : Bool := l.any fun x => x.1.id == f.id

/-- The 1s written to W1C and W1S fields. -/
def ones (f : Fld) (fs : List Place) (v : Nat) : Bool := covers f fs && f.ofWord v != 0

/-- A written value is out of range, or inconsistent with another field (R618): the rules of R134, R136, R137, R139, R255, R257,
R280, R411, R445 and R551; `ch` are the fields changed. -/
def State.clash (s : State) (fs ch : List Place) (v : Nat) : Bool :=
  let i := (fs.head?.map (·.2.1)).getD 0
  let j := (fs.head?.map (·.2.2.1)).getD 0
  let has := fun f => covers f fs
  (ch.any fun x => x.1.rangeCause (x.1.ofWord v) != 0) ||
  (has Reg.PHC_DUTY_LIM.DUTY_MIN && decide (Reg.PHC_DUTY_LIM.DUTY_MAX.ofWord v ≤ Reg.PHC_DUTY_LIM.DUTY_MIN.ofWord v)) ||
  (has Reg.PHC_SHED.ADD_I && decide (Reg.PHC_SHED.ADD_I.ofWord v < Reg.PHC_SHED.SHED_I.ofWord v + 5)) ||
  (has Reg.PHC_START.RISE_V && decide (Reg.PHC_START.RISE_V.ofWord v < Reg.PHC_START.SHORT_V.ofWord v)) ||
  (has Reg.PHC_BURST.BURST_PK && decide (Reg.PHC_BURST.BURST_PK.ofWord v ≤ Reg.PHC_BURST.BURST_I.ofWord v)) ||
  (has Reg.TWB_CFG.FILT && decide ([31, 7, 3].getD (Reg.TWB_CFG.SPEED.ofWord v) 0 < Reg.TWB_CFG.FILT.ofWord v)) ||
  (has Reg.PDP_DEF_C.PPS_VMIN &&
    (let a := Reg.PDP_DEF_C.PPS_VMIN.ofWord v
     let b := Reg.PDP_DEF_C.PPS_VMAX.ofWord v
     decide (a < 3300) || decide (b ≤ a) || decide (21000 < b) || a % 100 != 0 || b % 100 != 0)) ||
  (covers Reg.PWR_CTRL.REQ ch && !([mShip, mSentinel, mRun] : List Nat).contains (Reg.PWR_CTRL.REQ.ofWord v)) ||
  (has Reg.MSR_DAC_CTRL.TARGET && decide (0x50 < Reg.MSR_DAC_CTRL.TARGET.ofWord v)) ||
  ((covers Reg.MSR_ICV_CTRL.SETTLE ch || covers Reg.MSR_ICV_CTRL.WINDOWS ch) &&
    !tableOk (Reg.MSR_ICV_CTRL.SETTLE.ofWord v) (Reg.MSR_ICV_CTRL.WINDOWS.ofWord v == 1) (s.tableWith i [])) ||
  (covers Reg.MSR_ICV_ENT_B.DELAY ch && !tableOk (s.settle i) (s.windows i) (s.tableWith i [(j, (s.pendWords i j).1, v)])) ||
  ((ch.any fun x => x.1.base == Reg.MSR_ICV_ENT_A.CHAN.base) &&
    !tableOk (s.settle i) (s.windows i) (s.tableWith i [(j, v, (s.pendWords i j).2)]))

/-- A gang bit changes only with both slots of the gang empty and all four channels parked (R105). -/
def State.gangFree (s : State) (g : Nat) : Bool :=
  s.slSt (2 * g) == slEmpty && (s.slSt (2 * g + 1) == slEmpty || s.slSt (2 * g + 1) == slOff || s.slSt (2 * g + 1) == slGanged) &&
    (List.range 4).all fun k => s.flag Reg.PHC_STATUS.PARKED (4 * g + k)

/-- The gang bits that a written word changes may change (R105). -/
def State.gangOk (s : State) (v : Nat) : Bool :=
  (List.range 32).all fun g => hasBit v g == s.ganged g || s.gangFree g

/-- Every channel of the output that a channel belongs to is parked (R98). -/
def State.timingFree (s : State) (n : Nat) : Bool := s.outputParked (s.leadOf n)

/-- A register of R98 would change: `PHC_TIMING`, `PHC_DT`, or SYNC or RATIO of `PHC_CTRL`. -/
def timingChange (ch : List Place) : Bool := ch.any fun x =>
  x.1.base == Reg.PHC_TIMING.PER.base || x.1.base == Reg.PHC_DT.DT_R.base || x.1.id == Reg.PHC_CTRL.SYNC.id || x.1.id == Reg.PHC_CTRL.RATIO.id

/-- A state rule forbids the change (R618): R98, R105, R280, R288, R373, R374 and R582. -/
def State.barred (s : State) (ch : List Place) (fn v : Nat) : Bool :=
  let i := (ch.head?.map (·.2.1)).getD 0
  let j := (ch.head?.map (·.2.2.1)).getD 0
  let has := fun f => covers f ch
  (timingChange ch && !s.timingFree i) ||
  (has Reg.PHC_GANG.GANG_EN && !s.gangOk v) ||
  ((has Reg.CLK_CFG.PLL_REF || has Reg.CLK_CFG.SYNC_DIV) && !(List.range 144).all fun n => s.flag Reg.PHC_STATUS.PARKED n) ||
  (has Reg.MSR_ICV_CTRL.RUN && Reg.MSR_ICV_CTRL.RUN.ofWord v == 0 &&
    (List.range 4).any fun k => s.slSt (4 * i + k) != slEmpty && s.slSt (4 * i + k) != slOff) ||
  ((ch.any fun x => x.1.base == Reg.MSR_DAC_CTRL.EN.base) && Reg.MSR_DAC_CTRL.EN.ofWord v == 1 &&
    !s.dacMay i (Reg.MSR_DAC_CTRL.TARGET.ofWord v)) ||
  ((ch.any fun x => x.1.base == Reg.RING_CTRL.EN.base) && s.ringCtrlCause fn j v == 6) ||
  ((has Reg.RING_BASE_LO.ADDR_LO || has Reg.RING_BASE_HI.ADDR_HI) && s.flag Reg.RING_CTRL.EN fn j) ||
  ((has Reg.FN_DB_LO.ADDR_LO || has Reg.FN_DB_HI.ADDR_HI) && s.dbAddrCause fn false != 0)

/-- The flags that an ignored write sets beside the record (R98, R280). -/
def barredFlags (ch : List Place) : Prog :=
  let i := (ch.head?.map (·.2.1)).getD 0
  if timingChange ch then setR Reg.PHC_STATUS.WR_REJ 1 i
  else if ch.any fun x => x.1.base == Reg.MSR_DAC_CTRL.EN.base then setR Reg.MSR_DAC_STATUS.REJ 1 i else .skip

/-- Fields that a write acts through and does not store: mode requests, the lock key, table entries (which enter the pending copy, R290),
and the registers whose own rows store them. -/
def acted : List Nat :=
  [Reg.PWR_CTRL.REQ.base, Reg.SVC_LOCK.KEY.base, Reg.MSR_ICV_ENT_A.CHAN.base, Reg.MSR_ICV_ENT_B.DELAY.base, Reg.FN_DB_LO.EN.base,
   Reg.RING_CTRL.EN.base]

/-- SYNC, RATIO or PER has been written (R92, R99): a lead's output runs at PER until SYNC_IN has shown a period; another channel runs at its
own PER, unless its lead is locked. -/
def syncWritten (n : Nat) : Prog := .read fun s =>
  if s.isLead n then seqs [setR Reg.PHC_STATUS.SYNC_LOCK 0 n, setR Reg.PHC_STATUS.SYNC_LOST 0 n, freeRun n]
  else if s.flag Reg.PHC_STATUS.SYNC_LOCK (s.leadOf n) then .skip
  else setR Reg.PHC_PER_EFF.PER_EFF (s.rd Reg.PHC_TIMING.PER n) n

/-- A vector has been unmasked (PCI Express MSI-X): its pending message goes out. -/
def vectorUnmasked (fn vec : Nat) : Prog := .read fun s =>
  let p := s.rd Reg.MSIX_PBA.PEND fn
  if hasBit p vec then .seq (setR Reg.MSIX_PBA.PEND (clrBit p vec) fn) (emit (.msix fn vec)) else .skip

/-- The default policy of a port has been written (R444): an unheld port serves under it from now. -/
def policyWritten (k : Nat) : Prog := when (fun s => !s.flag Reg.PDP_STATUS.HELD k) (.seq (policyDefault k) (offerChanged k))

/-- What a changed or written field brings about, beyond its new value, by chapter. `s` is the state before the write, `ch` the fields
changed; `env` is met by a WARM, `pulses` by a RECOVER. -/
def phcHooks (s : State) (fs ch : List Place) (v i : Nat) : Prog := seqs [
  if covers Reg.PHC_CTRL.SYNC ch || covers Reg.PHC_CTRL.RATIO ch || covers Reg.PHC_TIMING.PER ch then syncWritten i else .skip,
  if covers Reg.PHC_CTRL.ENABLE ch then enableWritten i else .skip,
  if covers Reg.PHC_SHED.SHED_EN ch then .read fun t => if t.isLead i then phasesByRef i else .skip else .skip,
  if covers Reg.PHC_GANG.GANG_EN ch then gangWritten (s.rd Reg.PHC_GANG.GANG_EN) else .skip,
  if ones Reg.PHC_LOOP.APPLY fs v then applyWritten i else .skip]

def slotHooks (fs ch : List Place) (v i : Nat) : Prog := seqs [
  if covers Reg.SLT_CFG.ENABLE ch then slotEnableWritten i else .skip,
  if ones Reg.SLT_FAULT.CLEAR fs v then faultClearWritten i else .skip,
  if ch.any fun x => x.1.base == Reg.SLT_BOARD.IMAX_BRD.base then fgRefresh i else .skip,
  if ch.any fun x => [Reg.SLT_GCFG.T_OT.base, Reg.MSR_NTC.B_K.base, Reg.SAF_FG_CFG.OV_CELL.base].contains x.1.base then deriveAll else .skip]

def msrHooks (s : State) (fs ch : List Place) (v i j : Nat) : Prog := seqs [
  if covers Reg.MSR_ICV_CTRL.TRIG_SRC ch then grpMembers else .skip,
  if covers Reg.MSR_ICV_CTRL.SETTLE ch || covers Reg.MSR_ICV_CTRL.WINDOWS ch then budgetUpdate i else .skip,
  if ch.any fun x => x.1.base == Reg.MSR_ICV_ENT_A.CHAN.base then pendAdd i [(j, v, (s.pendWords i j).2)] else .skip,
  if covers Reg.MSR_ICV_ENT_B.DELAY ch then pendAdd i [(j, (s.pendWords i j).1, v)] else .skip,
  if covers Reg.MSR_MAINS.SRC ch then mainsSrcWritten (s.rd Reg.MSR_MAINS.SRC) else .skip,
  if covers Reg.MSR_DAC_CTRL.EN fs then dacShow i else .skip]

def busHooks (fs ch : List Place) (v i : Nat) (pulses : Option Nat) : Prog := seqs [
  if ones Reg.TWB_CTRL.CANCEL fs v then busCancel i fun j => j.what == 0 else .skip,
  if ones Reg.TWB_CTRL.RECOVER fs v then .seq (setR Reg.TWB_STATUS.BUS_DEAD 0 i) (recoverSda i pulses) else .skip,
  if covers Reg.TWB_CFG.SLEEP_EN ch && Reg.TWB_CFG.SLEEP_EN.ofWord v == 0 then updTwb i fun x => { x with asleep := false } else .skip,
  if covers Reg.TWB_TGT.ALERT_REQ ch then alertShow (i + 64) else .skip,
  if covers Reg.PDP_CFG.EN ch then (if Reg.PDP_CFG.EN.ofWord v = 1 then portPresent i else portDisable i) else .skip,
  if ch.any fun x => [Reg.PDP_DEF_A.PMAX.base, Reg.PDP_DEF_B.VMASK.base, Reg.PDP_DEF_C.PPS_VMIN.base].contains x.1.base then policyWritten i else .skip,
  if covers Reg.PDP_GCFG.ISL_PMAX ch then portsLimitChanged else .skip,
  if ones Reg.PDP_CTRL.CLEAR fs v then portFaultClear i else .skip]

def gridHooks (ch : List Place) (i : Nat) : Prog := seqs [
  if covers Reg.SRC_PORT_CFG.CLASS_SEL ch || covers Reg.SRC_PORT_LIMIT.OVERRIDE ch then srcLimit i true else .skip,
  if covers Reg.SRC_PORT_CFG.MODE ch then srcModeWritten i else .skip,
  if covers Reg.SRC_ISLAND.ENABLE ch then islandWritten else .skip,
  if covers Reg.SRC_ACC_CTRL.MODE ch then accUpdate else .skip]

def engHooks (fs ch : List Place) : Prog := seqs [
  if covers Reg.ALM_VIEW_SEL.CHAN fs then viewTake else .skip,
  if covers Reg.ENG_PAIR_SEL.PAIR fs then .read fun t => pairShow (t.rd Reg.ENG_PAIR_SEL.PAIR) else .skip,
  if covers Reg.ENG_TRACE_PTR.RD ch then traceShow else .skip]

def hostHooks (fs ch : List Place) (fn v j : Nat) : Prog := seqs [
  if covers Reg.FN_DB_LO.EN fs then dbLoWrite fn v else .skip,
  if covers Reg.RING_CTRL.EN fs then ringCtrlWrite fn j v else .skip,
  if covers Reg.MSIX_CTRL.MASK ch && Reg.MSIX_CTRL.MASK.ofWord v == 0 then vectorUnmasked fn j else .skip,
  if ch.any fun x => x.1.base == Reg.HIF_CFG.POLL_CAP.base then pollReport else .skip]

def coreHooks (s : State) (fs ch : List Place) (v : Nat) (env : StartEnv) : Prog := seqs [
  if covers Reg.WDG_CFG.CLK_SEL ch then updR Reg.WDG_STATUS.CLK_USE fun t =>
    let k := t.rd Reg.WDG_CFG.CLK_SEL
    if (k = 0 ∧ t.flag Reg.WDG_STATUS.XTAL_FAIL) ∨ (k = 1 ∧ t.flag Reg.WDG_STATUS.LPO_FAIL) then 1 - k else k
  else .skip,
  if covers Reg.SAF_SSP.EN ch then updSun fun x => { x with validAt := s.time, silent := false } else .skip,
  if ones Reg.SAF_CTRL.LATENT_NOW fs v then latentNow else .skip,
  if ones Reg.SAF_CTRL.HALT fs v then haltEnter 0x06 0 else .skip,
  if covers Reg.SVC_LOCK.KEY ch then lockWrite (Reg.SVC_LOCK.KEY.ofWord v) else .skip,
  if covers Reg.PWR_CTRL.CURTAIL ch then hostCurtail (Reg.PWR_CTRL.CURTAIL.ofWord v) else .skip,
  if covers Reg.PWR_CTRL.REQ ch then requestBy (Reg.PWR_CTRL.REQ.ofWord v) 0 else .skip,
  if ones Reg.PWR_CTRL.WARM fs v then .seq warmReset (startBegin env) else .skip]

/-- A write that is taken: the changed fields take their values, the W1C bits written 1 clear, and what follows from it happens. -/
def writeTaken (s : State) (fs : List Place) (fn v : Nat) (env : StartEnv) (pulses : Option Nat) : Prog :=
  let ch := s.changes fs v
  let i := (fs.head?.map (·.2.1)).getD 0
  let j := (fs.head?.map (·.2.2.1)).getD 0
  seqs [
    each (ch.filter fun x => !acted.contains x.1.base) fun x => setR x.1 (x.1.ofWord v) x.2.1 x.2.2.1 x.2.2.2,
    each (fs.filter fun x => x.1.acc == .w1c) fun x =>
      setR x.1 (s.at x - (s.at x &&& x.1.ofWord v)) x.2.1 x.2.2.1 x.2.2.2,
    phcHooks s fs ch v i, slotHooks fs ch v i, msrHooks s fs ch v i j, busHooks fs ch v i pulses, gridHooks ch i, engHooks fs ch,
    hostHooks fs ch fn v j, coreHooks s fs ch v env]

/-- Why a 32-bit write is ignored, as `GLB_ACC_ERR.CAUSE` codes it (R618, R619); 0 where it is taken. Of several reasons the first of
R618's list is recorded. -/
def State.writeCause (s : State) (fs : List Place) (fn v : Nat) : Nat :=
  let ch := s.changes fs v
  if ch.any (fun x => x.1.acc == .rws) && s.flag Reg.GLB_SEAL.SEALED then 4
  else if s.clash fs ch v then 5
  else if s.barred ch fn v then 6 else 0

/-- An aligned 32-bit write to PF BAR0 (R618). -/
def pfWrite32 (a v : Nat) (env : StartEnv) (pulses : Option Nat) : Prog := .read fun s =>
  let fs := fieldsAt a
  if !s.barOn then .skip
  else if fs.isEmpty && !viewAt a then accErr a 1
  else if !s.blockOn a then accErr a 3
  else if s.sltWaits a then sltLater a v
  else
    let why := s.writeCause fs pfFn v
    if why = 0 then writeTaken s fs pfFn v env pulses
    else .seq (accErr a why) (if s.barred (s.changes fs v) pfFn v then barredFlags (s.changes fs v) else .skip)

/-- The SLT registers of a slot, as they stand. -/
def State.sltCells (s : State) (sl : Nat) : List (Nat × Nat) := s.regs.filter fun c =>
  (Nat.unpair (Nat.unpair c.1).2).1 == sl && match fldOf c.1 with
    | some f => decide (0x30000 ≤ f.base ∧ f.base < 0x30100)
    | none => false

/-- The SLT registers and SENTINEL's rounds (R617): a write that waited is taken once the slot's supervisor pair runs, and what a read shows is
refreshed as a round ends; the pairs enter retention with the mode. -/
def sltRounds : Prog := .read fun s => seqs [
  if s.eng.sltWrites.isEmpty ∨ ¬ (s.running ∨ s.mode = mSentinel) then .skip
  else
    let due := s.eng.sltWrites.filter fun w => !s.slotRests ((w.1 - 0x30000) / 0x100)
    .seq (updEng fun e => { e with sltWrites := e.sltWrites.filter fun w => s.slotRests ((w.1 - 0x30000) / 0x100) })
      (each due fun w => pfWrite32 w.1 w.2 {} none),
  if s.mode ≠ mSentinel then .skip
  else .read fun t => updEng fun e =>
    let run := (List.range 64).filter fun sl => !t.slotRests sl || e.sltSeen.all (·.1 != sl)
    { e with sltSeen := (run.map fun sl => (sl, t.sltCells sl)) ++ e.sltSeen.filter fun c => !run.contains c.1 }]

/-- A VF's registers can be written (R330, R368). -/
def State.vfBarOn (s : State) (vf : Nat) : Bool := !s.stopped && s.blockOn 0x8000 && s.fnUp vf && !(s.fnr vf).d3hot

/-- An aligned 32-bit write to a VF's BAR0 (R613): nothing is recorded (R618). -/
def vfWrite32 (vf a v : Nat) (env : StartEnv) : Prog := .read fun s =>
  let fs := fieldsAtVf vf a
  if !s.vfBarOn vf || s.writeCause fs vf v != 0 then .skip else writeTaken s fs vf v env none

/-- An aligned 32-bit write to the BAR0 of a function. -/
def write32 (fn a v : Nat) (env : StartEnv) (pulses : Option Nat) : Prog :=
  if fn = pfFn then pfWrite32 a v env pulses else vfWrite32 fn a v env

/-- How the register space takes a request by its place and size (R615): 0 taken, 1 ignored for its size, 2 completed with Completer
Abort. -/
def accessKind (a size : Nat) : Nat :=
  if (size = 4 ∧ a % 4 = 0) ∨ (size = 8 ∧ a % 8 = 0) then 0
  else if a % 4 + size ≤ 4 then 1 else 2

/-- A request that completes with Completer Abort (R615): reported through AER; a write of the PF is recorded with CAUSE 2. -/
def abortRequest (fn a : Nat) (write : Bool) : Prog :=
  when (fun s => if fn = pfFn then s.barOn else s.vfBarOn fn)
    (.seq (emit (.aer fn)) (if write && fn == pfFn then accErr a 2 else .skip))

end Sys2Proof.Machine
end

