-- ==== Sys2Proof/Machine/RegAccess.lean ====
section
/-! DEFINITION. The register rows that are left: REGISTER_WRITE and MISALIGNED_ACCESS (R615, R618), the writes of a
phase channel's APPLY, ENABLE and gang bits, the latching read of device time, and the target role of the system
buses (R429, R430). -/

namespace Sys2Proof.Machine

/-- APPLY (R87): the PF writes 1 to `PHC_LOOP.APPLY` of a channel. -/
def execApply (n : Nat) : State → Host.Outcome State Fault Refusal :=
  pfWrites Reg.PHC_LOOP.APPLY n 0 (fun _ => 0) (applyWritten n)

/-- PHC_ENABLE_WRITE (R130): the PF writes `PHC_CTRL.ENABLE` of a channel. -/
def execPhcEnableWrite (n : Nat) (v : Bool) : State → Host.Outcome State Fault Refusal :=
  pfWrites Reg.PHC_CTRL.ENABLE n 0 (fun _ => 0) (.read fun s =>
    if s.flag Reg.PHC_CTRL.ENABLE n = v then .skip else .seq (setR Reg.PHC_CTRL.ENABLE (bit v) n) (enableWritten n))

/-- GANG_WRITE (R105): the PF writes `PHC_GANG.GANG_EN`. A change under the seal, or of a gang that is not free, is ignored. -/
def execGangWrite (v : Nat) : State → Host.Outcome State Fault Refusal :=
  pfWrites Reg.PHC_GANG.GANG_EN 0 0
    (fun s => if v % 2 ^ 32 = s.rd Reg.PHC_GANG.GANG_EN then 0 else if s.flag Reg.GLB_SEAL.SEALED then 4 else if s.gangOk v then 0 else 6)
    (.read fun s => if v % 2 ^ 32 = s.rd Reg.PHC_GANG.GANG_EN then .skip
      else .seq (setR Reg.PHC_GANG.GANG_EN v) (gangWritten (s.rd Reg.PHC_GANG.GANG_EN)))

/-- GLB_TIME_READ (R578): a 32-bit read of `GLB_TIME_LO`, or of both words, latches the upper word. -/
def execGlbTimeRead : State → Host.Outcome State Fault Refusal := endsAlways (when State.barOn (.read fun s =>
  .seq (setR Reg.GLB_TIME_LO.TIME_LO (s.time % 2 ^ 32)) (setR Reg.GLB_TIME_HI.TIME_HI (s.time / 2 ^ 32))))

/-- MISALIGNED_ACCESS (R615): a request that spans registers, is longer than 8 bytes or crosses an 8-byte boundary. -/
def execMisalignedAccess (fn a size : Nat) (write : Bool) : State → Host.Outcome State Fault Refusal :=
  endsAlways (if accessKind a size = 2 then abortRequest fn a write else .skip)

/-- REGISTER_WRITE (R614 to R618): function `fn` writes `size` bytes at an offset of its BAR0. `env` is what a WARM meets, `pulses` what
a RECOVER meets. -/
def execRegisterWrite (fn a size v : Nat) (env : StartEnv) (pulses : Option Nat) : State → Host.Outcome State Fault Refusal :=
  endsAlways (match accessKind a size with
    | 0 => if size = 8 then .seq (write32 fn a (v % 2 ^ 32) env pulses) (write32 fn (a + 4) (v / 2 ^ 32 % 2 ^ 32) env pulses)
        else write32 fn a (v % 2 ^ 32) env pulses
    | 1 => if fn = pfFn then when State.barOn (accErr a 2) else .skip
    | _ => abortRequest fn a true)

/-! The target role (R414, R429, R430). -/

/-- The bytes of a mailbox. -/
def State.txBytes (s : State) (t n : Nat) : List Nat :=
  ((List.range 8).flatMap fun w => leBytes 4 (s.rd Reg.TWB_TGT_TX.TX t w)).take n

/-- The receive mailbox takes a block (R429), and TWB_TARGET_RX tells the PF. -/
def rxTake (b : Nat) (data : List Nat) (checked : Bool) : Prog := seqs [
  each (List.range 8) fun w => if 4 * w < data.length then setR Reg.TWB_TGT_RX.RX (leAt data (4 * w) 4) (b - 64) w else .skip,
  setR Reg.TWB_TGT.RX_LEN data.length (b - 64), setR Reg.TWB_TGT.RX_FULL 1 (b - 64),
  raisePf evTwbTargetRx (busSrc b) (dat 16 1 b + dat 17 1 data.length + dat 18 1 (bit checked))]

/-- The device's part of a transaction that names its own address (R429); an unknown command, a block of no legal length and a write
while RX_FULL is set are not acknowledged. -/
def targetServe (b : Nat) (p : TwbTgt) : Prog := .read fun s =>
  let t := b - 64
  let w := p.addr * 2
  if p.cmd = 1 ∧ ¬ p.read then
    (if s.flag Reg.TWB_TGT.RX_FULL t ∨ p.data.isEmpty ∨ p.data.length > 32 then .skip
     else match p.pec with
      | none => rxTake b p.data false
      | some c => if c = crc8 (w :: p.cmd :: p.data.length :: p.data) then rxTake b p.data true
          else .seq (setR Reg.TWB_STATUS.PEC_ERR 1 b) (incSat Reg.TWB_CNT.PEC_ERRS b))
  else if p.cmd = 2 ∧ p.read then
    (let n := s.rd Reg.TWB_TGT.TX_LEN t
     let body := n :: s.txBytes t n
     emit (.twb b (if p.pec.isSome then body ++ [crc8 (w :: p.cmd :: (w + 1) :: body)] else body)))
  else .skip

/-- A sleeping cell is woken by its own address (R414): a target wake, which `TWB_TGT.WAKE` passes to the mode logic in SENTINEL. -/
def targetWake (b : Nat) : Prog := .read fun s =>
  if (s.bus b).asleep then seqs [
    updTwb b fun x => { x with asleep := false },
    if s.mode = mSentinel ∧ s.flag Reg.TWB_TGT.WAKE (b - 64) then requestBy mRun 2 else .skip]
  else .skip

/-- TWB_TARGET_TRANSACTION (R429, R430): a transaction of a remote controller on a system bus, up to its STOP; for a block read, `pec`
tells whether the controller acknowledges the last byte. -/
def execTwbTargetTransaction (b : Nat) (p : TwbTgt) : State → Host.Outcome State Fault Refusal :=
  ends (.read fun s =>
    if b < 64 ∨ b > 65 ∨ (s.bus b).run.isSome ∨ ¬ hasBit (s.rd Reg.PWR_DOM.ON) (b - 42) then .skip
    else if s.flag Reg.TWB_TGT.EN (b - 64) ∧ p.addr = s.rd Reg.TWB_TGT.ADDR (b - 64) then seqs [targetWake b, targetServe b p, runOver b]
    else if (s.bus b).asleep then .skip
    else if p.addr = 0x0C ∧ p.read ∧ s.flag Reg.TWB_TGT.ALERT_REQ (b - 64) then seqs [
      emit (.twb b [s.rd Reg.TWB_TGT.ADDR (b - 64) * 2]), setR Reg.TWB_TGT.ALERT_REQ 0 (b - 64), alertShow b, runOver b]
    else runOver b)

end Sys2Proof.Machine
end

