-- ==== Sys2Proof/Machine/Dispatch.lean ====
section
/-! DEFINITION. The dispatch: every command's arm is one direct call of its meaning. -/

namespace Sys2Proof.Machine

def exec (i : Instr) (s : State) : Host.Outcome State Fault Refusal :=
  match i with
  | .runnerFlitReceive fabric link dir flit got parity => Sys2Proof.Machine.execRunnerFlitReceive fabric link dir flit got parity s
  | .laneFault fabric link dir ns => Sys2Proof.Machine.execLaneFault fabric link dir ns s
  | .busSample b avgs => Sys2Proof.Machine.execBusSample b avgs s
  | .modulatorStuck m clocks => Sys2Proof.Machine.execModulatorStuck m clocks s
  | .busBelowPack sl => Sys2Proof.Machine.execBusBelowPack sl s
  | .sourcePresenceRise k mv => Sys2Proof.Machine.execSourcePresenceRise k mv s
  | .sourceLost k why => Sys2Proof.Machine.execSourceLost k why s
  | .sourceQualified k => Sys2Proof.Machine.execSourceQualified k s
  | .srcLimitWrite k override => Sys2Proof.Machine.execSrcLimitWrite k override s
  | .srcModeWrite k mode => Sys2Proof.Machine.execSrcModeWrite k mode s
  | .islandDonorFloor sl => Sys2Proof.Machine.execIslandDonorFloor sl s
  | .islandSourceReturn k => Sys2Proof.Machine.execIslandSourceReturn k s
  | .hbChargerTransition mv ma sys rail => Sys2Proof.Machine.execHbChargerTransition mv ma sys rail s
  | .hbFault cause => Sys2Proof.Machine.execHbFault cause s
  | .shipWake cause battery => Sys2Proof.Machine.execShipWake cause battery s
  | .currentUpdate lead phases vout shadowDiffers => Sys2Proof.Machine.execCurrentUpdate lead phases vout shadowDiffers s
  | .apply n => Sys2Proof.Machine.execApply n s
  | .riseAbort lead => Sys2Proof.Machine.execRiseAbort lead s
  | .softLevelUpdate lead avg => Sys2Proof.Machine.execSoftLevelUpdate lead avg s
  | .startBackoffEnd lead avg => Sys2Proof.Machine.execStartBackoffEnd lead avg s
  | .retriesReset lead => Sys2Proof.Machine.execRetriesReset lead s
  | .peakLimitTruncate ch ma tick => Sys2Proof.Machine.execPeakLimitTruncate ch ma tick s
  | .phcEnableWrite n v => Sys2Proof.Machine.execPhcEnableWrite n v s
  | .syncInEdge ticks => Sys2Proof.Machine.execSyncInEdge ticks s
  | .syncLoss lead ticks => Sys2Proof.Machine.execSyncLoss lead ticks s
  | .syncRelock lead offset => Sys2Proof.Machine.execSyncRelock lead offset s
  | .phaseAddMeasured lead => Sys2Proof.Machine.execPhaseAddMeasured lead s
  | .phaseShed lead => Sys2Proof.Machine.execPhaseShed lead s
  | .phaseHandoverEnd lead => Sys2Proof.Machine.execPhaseHandoverEnd lead s
  | .gangWrite v => Sys2Proof.Machine.execGangWrite v s
  | .imbalanceCheck lead => Sys2Proof.Machine.execImbalanceCheck lead s
  | .drvFault lead lowNs => Sys2Proof.Machine.execDrvFault lead lowNs s
  | .runaway lead cond => Sys2Proof.Machine.execRunaway lead cond s
  | .commitStale lead => Sys2Proof.Machine.execCommitStale lead s
  | .idPinClose sl => Sys2Proof.Machine.execIdPinClose sl s
  | .debounceEnd sl => Sys2Proof.Machine.execDebounceEnd sl s
  | .wetTestComplete sl v1 v2 => Sys2Proof.Machine.execWetTestComplete sl v1 v2 s
  | .idDecode sl mv => Sys2Proof.Machine.execIdDecode sl mv s
  | .identificationComplete sl => Sys2Proof.Machine.execIdentificationComplete sl s
  | .identificationFail sl => Sys2Proof.Machine.execIdentificationFail sl s
  | .identRetry sl => Sys2Proof.Machine.execIdentRetry sl s
  | .identityLoss sl mv ns => Sys2Proof.Machine.execIdentityLoss sl mv ns s
  | .packRemoval sl pulses => Sys2Proof.Machine.execPackRemoval sl pulses s
  | .slotEnableWrite sl v => Sys2Proof.Machine.execSlotEnableWrite sl v s
  | .slotFaultClear sl => Sys2Proof.Machine.execSlotFaultClear sl s
  | .chargePhaseAdvance sl => Sys2Proof.Machine.execChargePhaseAdvance sl s
  | .cvEntry sl => Sys2Proof.Machine.execCvEntry sl s
  | .packSag sl => Sys2Proof.Machine.execPackSag sl s
  | .chargePhaseTimeout sl => Sys2Proof.Machine.execChargePhaseTimeout sl s
  | .cvMaxExpiry sl => Sys2Proof.Machine.execCvMaxExpiry sl s
  | .cvMaxParkFail sl => Sys2Proof.Machine.execCvMaxParkFail sl s
  | .slotSuspend sl => Sys2Proof.Machine.execSlotSuspend sl s
  | .ntcBothInvalid sl => Sys2Proof.Machine.execNtcBothInvalid sl s
  | .taperCheck sl => Sys2Proof.Machine.execTaperCheck sl s
  | .serialPoll sl => Sys2Proof.Machine.execSerialPoll sl s
  | .transferEnd sl => Sys2Proof.Machine.execTransferEnd sl s
  | .auditFillComplete sl => Sys2Proof.Machine.execAuditFillComplete sl s
  | .auditRestEnd sl => Sys2Proof.Machine.execAuditRestEnd sl s
  | .auditPause sl => Sys2Proof.Machine.execAuditPause sl s
  | .auditResume sl => Sys2Proof.Machine.execAuditResume sl s
  | .auditEmpty sl => Sys2Proof.Machine.execAuditEmpty sl s
  | .auditPauseLimit sl => Sys2Proof.Machine.execAuditPauseLimit sl s
  | .fgOvTrip sl mv us => Sys2Proof.Machine.execFgOvTrip sl mv us s
  | .fgOcTrip sl ma us => Sys2Proof.Machine.execFgOcTrip sl ma us s
  | .fgRvTrip sl ma us => Sys2Proof.Machine.execFgRvTrip sl ma us s
  | .fgNtcTrip sl input code ms => Sys2Proof.Machine.execFgNtcTrip sl input code ms s
  | .tickBoundary late avgs => Sys2Proof.Machine.execTickBoundary late avgs s
  | .tickFreeze late => Sys2Proof.Machine.execTickFreeze late s
  | .quotaOverRepeat fn => Sys2Proof.Machine.execQuotaOverRepeat fn s
  | .resvAtRisk sl => Sys2Proof.Machine.execResvAtRisk sl s
  | .resvDeadline sl => Sys2Proof.Machine.execResvDeadline sl s
  | .rootHandover late avgs => Sys2Proof.Machine.execRootHandover late avgs s
  | .almViewSelect chan => Sys2Proof.Machine.execAlmViewSelect chan s
  | .mainsCrossing period => Sys2Proof.Machine.execMainsCrossing period s
  | .icvConversionStart n => Sys2Proof.Machine.execIcvConversionStart n s
  | .icvIntegrationEnd n raw pin fast others => Sys2Proof.Machine.execIcvIntegrationEnd n raw pin fast others s
  | .icvConversionTimeout n => Sys2Proof.Machine.execIcvConversionTimeout n s
  | .icvPassStart n => Sys2Proof.Machine.execIcvPassStart n s
  | .icvTrigger n => Sys2Proof.Machine.execIcvTrigger n s
  | .groupTrigger g => Sys2Proof.Machine.execGroupTrigger g s
  | .groupStart g => Sys2Proof.Machine.execGroupStart g s
  | .urgentConversionStart n => Sys2Proof.Machine.execUrgentConversionStart n s
  | .fcvConversionEnd p raw fast => Sys2Proof.Machine.execFcvConversionEnd p raw fast s
  | .refereeFinding p icvR fcvR fast => Sys2Proof.Machine.execRefereeFinding p icvR fcvR fast s
  | .fcvSelfTest p zero ref => Sys2Proof.Machine.execFcvSelfTest p zero ref s
  | .fcvLostInjectionCheck n chan range readings => Sys2Proof.Machine.execFcvLostInjectionCheck n chan range readings s
  | .dacInjectWrite p en att target code => Sys2Proof.Machine.execDacInjectWrite p en att target code s
  | .calAverageDone unit => Sys2Proof.Machine.execCalAverageDone unit s
  | .coulombSample sl code => Sys2Proof.Machine.execCoulombSample sl code s
  | .gauAccRead sl => Sys2Proof.Machine.execGauAccRead sl s
  | .gaugeReportUpdate sl => Sys2Proof.Machine.execGaugeReportUpdate sl s
  | .autoZeroTrim sl => Sys2Proof.Machine.execAutoZeroTrim sl s
  | .fullAnchor sl => Sys2Proof.Machine.execFullAnchor sl s
  | .gaugeSnapshotTimed sl => Sys2Proof.Machine.execGaugeSnapshotTimed sl s
  | .currentXcheck sl => Sys2Proof.Machine.execCurrentXcheck sl s
  | .currentReferee sl raw => Sys2Proof.Machine.execCurrentReferee sl raw s
  | .outputVReferee sl raw => Sys2Proof.Machine.execOutputVReferee sl raw s
  | .pcieLaneFault lane => Sys2Proof.Machine.execPcieLaneFault lane s
  | .doorbellPoll fn line => Sys2Proof.Machine.execDoorbellPoll fn line s
  | .descriptorFetch fn ring mem => Sys2Proof.Machine.execDescriptorFetch fn ring mem s
  | .msixModerationTimeout fn r => Sys2Proof.Machine.execMsixModerationTimeout fn r s
  | .statusLineWrite fn => Sys2Proof.Machine.execStatusLineWrite fn s
  | .flr vf => Sys2Proof.Machine.execFlr vf s
  | .d3hotEntry fn => Sys2Proof.Machine.execD3hotEntry fn s
  | .hostReadError fn r poisoned => Sys2Proof.Machine.execHostReadError fn r poisoned s
  | .doorbellPageWrite fn value => Sys2Proof.Machine.execDoorbellPageWrite fn value s
  | .ringEnableWrite fn r value => Sys2Proof.Machine.execRingEnableWrite fn r value s
  | .nop c => Sys2Proof.Machine.execNop c s
  | .slotClaim c => Sys2Proof.Machine.execSlotClaim c s
  | .slotRelease c => Sys2Proof.Machine.execSlotRelease c s
  | .chargeStart c p resvSoc resvTick => Sys2Proof.Machine.execChargeStart c p resvSoc resvTick s
  | .chargeTerminate c => Sys2Proof.Machine.execChargeTerminate c s
  | .setLimits c l => Sys2Proof.Machine.execSetLimits c l s
  | .reserve c prio resvSoc resvTick => Sys2Proof.Machine.execReserve c prio resvSoc resvTick s
  | .transfer c p => Sys2Proof.Machine.execTransfer c p s
  | .audit c p a => Sys2Proof.Machine.execAudit c p a s
  | .gaugeRestore c r => Sys2Proof.Machine.execGaugeRestore c r s
  | .gaugeSnapshot c => Sys2Proof.Machine.execGaugeSnapshot c s
  | .measTableLoad c first words => Sys2Proof.Machine.execMeasTableLoad c first words s
  | .measUrgent c chan range cyc => Sys2Proof.Machine.execMeasUrgent c chan range cyc s
  | .calZero c input range fcv applied => Sys2Proof.Machine.execCalZero c input range fcv applied s
  | .calFull c input range fcv applied => Sys2Proof.Machine.execCalFull c input range fcv applied s
  | .twbXfer c p => Sys2Proof.Machine.execTwbXfer c p s
  | .pdPolicyHold c p => Sys2Proof.Machine.execPdPolicyHold c p s
  | .pdPolicyRelease c => Sys2Proof.Machine.execPdPolicyRelease c s
  | .pdPolicySet c p => Sys2Proof.Machine.execPdPolicySet c p s
  | .pdPolicySoftReset c => Sys2Proof.Machine.execPdPolicySoftReset c s
  | .pdPolicyHardReset c => Sys2Proof.Machine.execPdPolicyHardReset c s
  | .enterService c => Sys2Proof.Machine.execEnterService c s
  | .exitService c => Sys2Proof.Machine.execExitService c s
  | .wdgAnswer c token qseq => Sys2Proof.Machine.execWdgAnswer c token qseq s
  | .fence c scope wait token timeout => Sys2Proof.Machine.execFence c scope wait token timeout s
  | .quotaSet c p => Sys2Proof.Machine.execQuotaSet c p s
  | .keyWrite c p => Sys2Proof.Machine.execKeyWrite c p s
  | .microcodeStage c addr len gen => Sys2Proof.Machine.execMicrocodeStage c addr len gen s
  | .microcodeStageComplete img cause => Sys2Proof.Machine.execMicrocodeStageComplete img cause s
  | .microcodeRoll c dwell => Sys2Proof.Machine.execMicrocodeRoll c dwell s
  | .microcodeAbort c => Sys2Proof.Machine.execMicrocodeAbort c s
  | .microcodeDiscard c => Sys2Proof.Machine.execMicrocodeDiscard c s
  | .seal c => Sys2Proof.Machine.execSeal c s
  | .unknownOpcode c code => Sys2Proof.Machine.execUnknownOpcode c code s
  | .keepWrite ok => Sys2Proof.Machine.execKeepWrite ok s
  | .wdgQuestion fn => Sys2Proof.Machine.execWdgQuestion fn s
  | .rateLimit fn => Sys2Proof.Machine.execRateLimit fn s
  | .twbTransactionStart b => Sys2Proof.Machine.execTwbTransactionStart b s
  | .twbTransactionEnd b e => Sys2Proof.Machine.execTwbTransactionEnd b e s
  | .identBusRetry sl => Sys2Proof.Machine.execIdentBusRetry sl s
  | .twbSclTimeout b ms => Sys2Proof.Machine.execTwbSclTimeout b ms s
  | .twbSdaTimeout b ms pulses => Sys2Proof.Machine.execTwbSdaTimeout b ms pulses s
  | .twbArbLoss b own => Sys2Proof.Machine.execTwbArbLoss b own s
  | .twbTargetTransaction b p => Sys2Proof.Machine.execTwbTargetTransaction b p s
  | .twbSleep b => Sys2Proof.Machine.execTwbSleep b s
  | .twbAlertIn b low => Sys2Proof.Machine.execTwbAlertIn b low s
  | .twbAlertReread b => Sys2Proof.Machine.execTwbAlertReread b s
  | .alertReq b v => Sys2Proof.Machine.execAlertReq b v s
  | .cancel b => Sys2Proof.Machine.execCancel b s
  | .recover b pulses => Sys2Proof.Machine.execRecover b pulses s
  | .twbXferTimeout b => Sys2Proof.Machine.execTwbXferTimeout b s
  | .pdRdDetect k orient ra => Sys2Proof.Machine.execPdRdDetect k orient ra s
  | .pdAttach k => Sys2Proof.Machine.execPdAttach k s
  | .pdVbusReady k vbus => Sys2Proof.Machine.execPdVbusReady k vbus s
  | .pdCableIdentity k curCode vmax epr amid => Sys2Proof.Machine.execPdCableIdentity k curCode vmax epr amid s
  | .pdRequest k pos mv ma rev amid => Sys2Proof.Machine.execPdRequest k pos mv ma rev amid s
  | .pdPsRdy k vbus us => Sys2Proof.Machine.execPdPsRdy k vbus us s
  | .pdEprEnter k amid => Sys2Proof.Machine.execPdEprEnter k amid s
  | .pdEprKeepaliveTimeout k => Sys2Proof.Machine.execPdEprKeepaliveTimeout k s
  | .pdVconnSwap k amid => Sys2Proof.Machine.execPdVconnSwap k amid s
  | .pdVconnOvercurrent k ma us => Sys2Proof.Machine.execPdVconnOvercurrent k ma us s
  | .pdHardReset k received amid => Sys2Proof.Machine.execPdHardReset k received amid s
  | .pdHardResetPark k => Sys2Proof.Machine.execPdHardResetPark k s
  | .pdVsafe0vHoldEnd k since => Sys2Proof.Machine.execPdVsafe0vHoldEnd k since s
  | .pdSoftResetReceived k amid => Sys2Proof.Machine.execPdSoftResetReceived k amid s
  | .pdSoftResetTimeout k => Sys2Proof.Machine.execPdSoftResetTimeout k s
  | .pdUnsupportedMessage k vdm structured amid => Sys2Proof.Machine.execPdUnsupportedMessage k vdm structured amid s
  | .pdEnterModeAck k amid => Sys2Proof.Machine.execPdEnterModeAck k amid s
  | .pdDetach k => Sys2Proof.Machine.execPdDetach k s
  | .pdOvp k vbus => Sys2Proof.Machine.execPdOvp k vbus s
  | .pdOcp k => Sys2Proof.Machine.execPdOcp k s
  | .pdErrorRecoveryEnd k => Sys2Proof.Machine.execPdErrorRecoveryEnd k s
  | .pdFaultClear k => Sys2Proof.Machine.execPdFaultClear k s
  | .taskPeriod t cycles acts => Sys2Proof.Machine.execTaskPeriod t cycles acts s
  | .taskFault t overrun acts => Sys2Proof.Machine.execTaskFault t overrun acts s
  | .pairDisagree p point acts => Sys2Proof.Machine.execPairDisagree p point acts s
  | .pairSelfTestEnd p pass => Sys2Proof.Machine.execPairSelfTestEnd p pass s
  | .taskMigrationResume t => Sys2Proof.Machine.execTaskMigrationResume t s
  | .bedFault b => Sys2Proof.Machine.execBedFault b s
  | .barrierRelease k => Sys2Proof.Machine.execBarrierRelease k s
  | .barrierTimeout k t => Sys2Proof.Machine.execBarrierTimeout k t s
  | .rolloutBedStep bad => Sys2Proof.Machine.execRolloutBedStep bad s
  | .pairSnapshotSelect p => Sys2Proof.Machine.execPairSnapshotSelect p s
  | .tineBreakpointHit p addr => Sys2Proof.Machine.execTineBreakpointHit p addr s
  | .thresholdReadback bad => Sys2Proof.Machine.execThresholdReadback bad s
  | .sundialSilent us => Sys2Proof.Machine.execSundialSilent us s
  | .sysWdgQuestion answer => Sys2Proof.Machine.execSysWdgQuestion answer s
  | .autoWarm env => Sys2Proof.Machine.execAutoWarm env s
  | .wdgClockFail clock us => Sys2Proof.Machine.execWdgClockFail clock us s
  | .pllUnlock us => Sys2Proof.Machine.execPllUnlock us s
  | .latentTest b obj k us pass => Sys2Proof.Machine.execLatentTest b obj k us pass s
  | .sspNop seq => Sys2Proof.Machine.execSspNop seq s
  | .sspRead seq idx => Sys2Proof.Machine.execSspRead seq idx s
  | .sspHeartbeat seq data => Sys2Proof.Machine.execSspHeartbeat seq data s
  | .sspHaltReq seq data => Sys2Proof.Machine.execSspHaltReq seq data s
  | .buttonShipRequest ms => Sys2Proof.Machine.execButtonShipRequest ms s
  | .buttonRunRequest ms => Sys2Proof.Machine.execButtonRunRequest ms s
  | .hostCurtailWrite v => Sys2Proof.Machine.execHostCurtailWrite v s
  | .warm env => Sys2Proof.Machine.execWarm env s
  | .thermalSensorRead temps => Sys2Proof.Machine.execThermalSensorRead temps s
  | .thermalShutdown => Sys2Proof.Machine.execThermalShutdown s
  | .sentinelRound b wake => Sys2Proof.Machine.execSentinelRound b wake s
  | .brownout mv us => Sys2Proof.Machine.execBrownout mv us s
  | .brownoutEnd mv us env => Sys2Proof.Machine.execBrownoutEnd mv us env s
  | .pinReset us => Sys2Proof.Machine.execPinReset us s
  | .feedLost feed us => Sys2Proof.Machine.execFeedLost feed us s
  | .feedGood feed us => Sys2Proof.Machine.execFeedGood feed us s
  | .crystalFail us slew => Sys2Proof.Machine.execCrystalFail us slew s
  | .pllRefSwitch noEdge hz slew => Sys2Proof.Machine.execPllRefSwitch noEdge hz slew s
  | .pllRefReturn ref hz ms slew => Sys2Proof.Machine.execPllRefReturn ref hz ms slew s
  | .islandOscFail idx us silent => Sys2Proof.Machine.execIslandOscFail idx us silent s
  | .timeTreeUpdate corr => Sys2Proof.Machine.execTimeTreeUpdate corr s
  | .freezePin us => Sys2Proof.Machine.execFreezePin us s
  | .freezeReleasePin us => Sys2Proof.Machine.execFreezeReleasePin us s
  | .samplePreload load => Sys2Proof.Machine.execSamplePreload load s
  | .snapRead mask => Sys2Proof.Machine.execSnapRead mask s
  | .tineDbgReadReg p r differs => Sys2Proof.Machine.execTineDbgReadReg p r differs s
  | .tineDbgWriteReg p r v => Sys2Proof.Machine.execTineDbgWriteReg p r v s
  | .tineDbgReadData p addr differs => Sys2Proof.Machine.execTineDbgReadData p addr differs s
  | .tineDbgWriteData p addr v => Sys2Proof.Machine.execTineDbgWriteData p addr v s
  | .tineDbgReadCode p addr differs => Sys2Proof.Machine.execTineDbgReadCode p addr differs s
  | .tineDbgStep p n acts => Sys2Proof.Machine.execTineDbgStep p n acts s
  | .tineDbgSetBreakpoint p addr => Sys2Proof.Machine.execTineDbgSetBreakpoint p addr s
  | .tineDbgClearBreakpoint p addr => Sys2Proof.Machine.execTineDbgClearBreakpoint p addr s
  | .tineDbgResume p => Sys2Proof.Machine.execTineDbgResume p s
  | .svcLockKeyWrite v => Sys2Proof.Machine.execSvcLockKeyWrite v s
  | .misalignedAccess fn a size write => Sys2Proof.Machine.execMisalignedAccess fn a size write s
  | .registerWrite fn a size v env pulses => Sys2Proof.Machine.execRegisterWrite fn a size v env pulses s
  | .linkUp width speed => Sys2Proof.Machine.execLinkUp width speed s
  | .vfEnableWrite en => Sys2Proof.Machine.execVfEnableWrite en s
  | .d3hotExit fn => Sys2Proof.Machine.execD3hotExit fn s
  | .resetNRelease env => Sys2Proof.Machine.execResetNRelease env s
  | .systemRailInRange core pcie09 pcie18 io env => Sys2Proof.Machine.execSystemRailInRange core pcie09 pcie18 io env s
  | .startStepTimeout us => Sys2Proof.Machine.execStartStepTimeout us s
  | .twbStartSeen b stop => Sys2Proof.Machine.execTwbStartSeen b stop s
  | .pdSenderResponseTimeout k => Sys2Proof.Machine.execPdSenderResponseTimeout k s
  | .pdDiscoverResponse k listed amid => Sys2Proof.Machine.execPdDiscoverResponse k listed amid s
  | .busSensorMismatch => Sys2Proof.Machine.execBusSensorMismatch s
  | .busGuardTrip => Sys2Proof.Machine.execBusGuardTrip s
  | .busOvervoltage => Sys2Proof.Machine.execBusOvervoltage s
  | .busUndervoltage => Sys2Proof.Machine.execBusUndervoltage s
  | .busUvRestart => Sys2Proof.Machine.execBusUvRestart s
  | .demandSourceDisable => Sys2Proof.Machine.execDemandSourceDisable s
  | .islandBusReady => Sys2Proof.Machine.execIslandBusReady s
  | .hbTempRead => Sys2Proof.Machine.execHbTempRead s
  | .hbTempSuspend => Sys2Proof.Machine.execHbTempSuspend s
  | .accUvlo => Sys2Proof.Machine.execAccUvlo s
  | .accRestart => Sys2Proof.Machine.execAccRestart s
  | .mainsLockLoss => Sys2Proof.Machine.execMainsLockLoss s
  | .mainsFreeTrigger => Sys2Proof.Machine.execMainsFreeTrigger s
  | .calZeroExpiry => Sys2Proof.Machine.execCalZeroExpiry s
  | .timeAnchor => Sys2Proof.Machine.execTimeAnchor s
  | .perst => Sys2Proof.Machine.execPerst s
  | .pfFlr => Sys2Proof.Machine.execPfFlr s
  | .fenceRelease => Sys2Proof.Machine.execFenceRelease s
  | .fenceTimeout => Sys2Proof.Machine.execFenceTimeout s
  | .rolloutDwellEnd => Sys2Proof.Machine.execRolloutDwellEnd s
  | .traceWindowRead => Sys2Proof.Machine.execTraceWindowRead s
  | .sundialLockstepMismatch => Sys2Proof.Machine.execSundialLockstepMismatch s
  | .safCtrlHalt => Sys2Proof.Machine.execSafCtrlHalt s
  | .latentNow => Sys2Proof.Machine.execLatentNow s
  | .safeRecovered => Sys2Proof.Machine.execSafeRecovered s
  | .sspFrameError => Sys2Proof.Machine.execSspFrameError s
  | .sspSilent => Sys2Proof.Machine.execSspSilent s
  | .modeRequestShip => Sys2Proof.Machine.execModeRequestShip s
  | .modeRequestSentinel => Sys2Proof.Machine.execModeRequestSentinel s
  | .modeRequestRun => Sys2Proof.Machine.execModeRequestRun s
  | .thermalCurtailOn => Sys2Proof.Machine.execThermalCurtailOn s
  | .thermalCurtailOff => Sys2Proof.Machine.execThermalCurtailOff s
  | .thermalShutdownEnd => Sys2Proof.Machine.execThermalShutdownEnd s
  | .islandLowBattery => Sys2Proof.Machine.execIslandLowBattery s
  | .por => Sys2Proof.Machine.execPor s
  | .snapStreamEnd => Sys2Proof.Machine.execSnapStreamEnd s
  | .bypass => Sys2Proof.Machine.execBypass s
  | .idcode => Sys2Proof.Machine.execIdcode s
  | .extest => Sys2Proof.Machine.execExtest s
  | .freeze => Sys2Proof.Machine.execFreeze s
  | .thaw => Sys2Proof.Machine.execThaw s
  | .thawDbg => Sys2Proof.Machine.execThawDbg s
  | .svcStatus => Sys2Proof.Machine.execSvcStatus s
  | .glbTimeRead => Sys2Proof.Machine.execGlbTimeRead s
  | .serviceLockFuseBlown => Sys2Proof.Machine.execServiceLockFuseBlown s

end Sys2Proof.Machine
end

