-- ==== Sys2Proof/Machine/Idle.lean ====
section
/-! DEFINITION. What happens while no command waits: happenings deferred by R564, the snapshot stream (R598, R599), SYNC_OUT (R101), and the
microsecond of device time that passes. -/

namespace Sys2Proof.Machine

/-- SYNC_OUT (R101): a pulse of 100 ns where a frame of the channel that SYNC_OUT_SRC names starts within the present microsecond. -/
def syncOut : Prog := .read fun s =>
  if s.flag Reg.PHC_GCTL.SYNC_OUT_EN && hasBit (s.rd Reg.PWR_DOM.ON) 20 && s.frameStarts (s.rd Reg.PHC_GCTL.SYNC_OUT_SRC) s.time then
    emit (.syncOut (s.rd Reg.PHC_GCTL.SYNC_OUT_SRC) 100)
  else .skip

/-- A byte of a keep location as the snapshot shows it (R571, R598): the DATA of keys reads as zero. -/
def KeepLoc.snapByte (l : KeepLoc) (k : Nat) : Nat :=
  ((keepBytes l.typ l.ver l.id l.gen (if l.typ = 5 ∨ l.typ = 6 then leBytes 48 0 else keepPad l.data)) ++ leBytes 4 l.check ++ leBytes 4 l.marker).getD k 0

/-- A data byte of a section of the snapshot (R598): the PF's register image, the keep and the trace buffer; the layout of the other sections is not
in the spec, and their bytes are free. -/
def State.snapDatum (s : State) (sec off : Nat) : Nat :=
  if sec = 5 then byteAt (leBytes 4 (s.barRead pfFn (off / 4 * 4))) (off % 4)
  else if sec = 10 then (s.keepLoc (off / 64)).snapByte (off % 64)
  else if sec = 11 then (s.traceRec (off / 16)).bytes.getD (off % 16) 0
  else Config.snapByte s.svc.frozenAt sec off % 256

/-- Where a byte of the stream lies: its section, the block, the byte of header and data, and whether the section is the last. -/
def snapPlace : List Nat → Nat → Option (Nat × Nat × Nat × Bool)
  | [], _ => none
  | k :: l, pos =>
    let n := snapKiB.getD k 0 / 4
    if pos < n * 4108 then some (k, pos / 4108, pos % 4108, l.isEmpty) else snapPlace l (pos - n * 4108)

/-- A byte of the stream in force (R599). -/
def State.snapAt (s : State) (pos : Nat) : Option Nat := (snapPlace (snapSections s.svc.snapMask) pos).map fun p =>
  let n := snapKiB.getD p.1 0 / 4
  if p.2.2.1 < 12 then byteAt (snapHeader p.1 p.2.1 4096 (p.2.1 + 1 == n) (p.2.2.2 && p.2.1 + 1 == n)) p.2.2.1
  else s.snapDatum p.1 (4096 * p.2.1 + p.2.2.1 - 12)

/-- A microsecond of the stream: 50 bytes (R599). -/
def snapStream : Prog := .read fun s =>
  if s.flag Reg.SVC_STATUS.SNAP_BUSY then .seq
    (emit (.snapBytes ((List.range 50).filterMap fun i => s.snapAt (s.svc.snapPos + i)))) (updSvc fun v => { v with snapPos := v.snapPos + 50 })
  else .skip

/-- What waited for others of the same moment is taken, in the order of R564. -/
def deferredTake : Prog := .read fun s =>
  if s.power.deferred = [] then .skip else .seq (updPower fun p => { p with deferred := [] }) (latchedAll s.power.deferred)

/-- What happens while nothing is commanded: START goes on by a step where it has begun (R558); otherwise a microsecond of device time passes, also
through a freeze (R22, R593), and not in SHIP, where only D0 is powered (R555). SYNC_OUT follows its frames (R101), the ICVs their conversions
(R248), the PLL its holdover (R583), SENTINEL's slots their registers (R617); the trace FIFOs drain (R501). DESIGN CHOICE. -/
def idleTick : Prog := .seq deferredTake (.read fun s =>
  if s.mode = mStart ∧ s.power.env.isSome then startAdvance
  else if s.modeReg = mShip then .skip
  else seqs [
    sltRounds, updTime (· + 1), syncOut,
    when (fun t => t.flag Reg.CLK_STATUS.HOLDOVER && decide (t.clk.holdUntil ≤ t.time)) (setR Reg.CLK_STATUS.HOLDOVER 0),
    if s.flag Reg.SVC_STATUS.FROZEN then snapStream else .seq (each (List.range 16) icvClock) (traceDrain fun _ => true)])

end Sys2Proof.Machine
end

