-- ==== Sys2Proof/Machine/Step.lean ====
section
/-! DEFINITION. The step of the block: the command at the front of the queue is taken; on an empty queue a microsecond of
device time passes. -/

namespace Sys2Proof.Machine

/-- One step. DESIGN CHOICE: with nothing commanded, the device's own clock goes on by a tick of 1 µs (R22). -/
def step (s : State) : Host.Outcome State Fault Refusal :=
  match s.pending with
  | c :: rest => exec c { s with pending := rest }
  | [] => .next (idleTick.run s)

/-- The table gives its rows no bits: no word spells a command, and the state stays as it is. -/
def State.withFetchWord (s : State) (nbits w : Nat) : State :=
  match decodeTableWord nbits w with
  | some c => { s with pending := c :: s.pending }
  | none => s

end Sys2Proof.Machine
end

