-- ==== Sys2Proof/Safety.lean ====
section
/-! DEFINITION. The terms that statements about the block are made in: a command that completes, the canonical form of the
state, the register blocks of the map, and what of the state a command may leave as it was. -/

namespace Sys2Proof.Machine

/-- The command completes in a next state of which `P` holds. -/
def Does (c : Instr) (s : State) (P : State → Prop) : Prop := ∃ t, exec c s = .next t ∧ P t

/-- Every table of the state is in canonical form: strictly rising keys, and no entry that equals what an unlisted key reads as.
The cells of the register file have strictly rising keys and hold values of 32 bits. -/
def State.wf (s : State) : Bool :=
  decide (s.regs.Pairwise fun a b => a.1 < b.1) && s.regs.all (fun e => decide (e.2 < 2 ^ 32)) &&
  Tab.wf {} s.fns && Tab.wf {} s.rings && Tab.wf {} s.lanes && Tab.wf {} s.chans && Tab.wf {} s.slots && Tab.wf {} s.gauges &&
  Tab.wf {} s.keepLocs && Tab.wf {} s.keys && Tab.wf {} s.ports && Tab.wf {} s.twb && Tab.wf {} s.srcs && Tab.wf {} s.icvs &&
  Tab.wf {} s.fcvs && Tab.wf {} s.groups && Tab.wf {} s.pairs && Tab.wf {} s.tasks && Tab.wf {} s.trace && Tab.wf {} s.tines

/-- A descriptor of an opcode that comes to its execution now passes every check of R350: the units run, the ring engine takes the
ring (R355, R366, R368), no FENCE holds it (R356), and neither the issuer's checks nor the opcode's own fail. -/
def State.accepts (s : State) (o : Op) (c : Ctl) : Bool :=
  !s.stopped && s.takes c.fn c.ring && !s.fenced c.fn c.ring (wideFence o) && (issuerBad s (opCode o) c).isNone &&
  (ownBad s (opCode o) (.ok o) c).isNone

end Sys2Proof.Machine
end

