-- ==== Sys2Proof/Frames.lean ====
section
/-! DEFINITION. What of the state each command may change: the terms of the frame statements. The lists name registers and parts of the
hidden state; everything outside them is as before. -/

set_option Elab.async false

namespace Sys2Proof.Machine

/-! What each command may change. A command that resets classes of fields has no list (R5, R565 to R569). -/

/-- A completion writes its ring and its message (R351). -/
def completeWrites : List Fld :=
  [Reg.RING_DEV_IDX.DEV_IDX, Reg.MSIX_PBA.PEND]

/-- An event that is raised writes its ring, its message and its drop counts (R359 to R363). -/
def eventWrites : List Fld :=
  completeWrites ++ [Reg.RING_ERRST.DROPS, Reg.TEN_CNT.RATE_DROP]

/-- A bus job ends in a failure (R411). -/
def failWrites : List Fld :=
  eventWrites ++ [Reg.TWB_STATUS.LAST]

/-- An output parks (R120). -/
def parkWrites : List Fld :=
  [Reg.SRC_ACC_CTRL.RUNNING, Reg.PHC_STATUS.PARKED, Reg.PHC_STATUS.LOOP_MODE, Reg.PHC_STATUS.STAGE, Reg.PHC_STATUS.ACTIVE_PH, Reg.PHC_OUT.DUTY,
  Reg.SAF_FG_B.RV_TH]

/-- A lead parks, and what waited for it goes on (R111, R146). -/
def leadParkWrites : List Fld :=
  parkWrites ++ eventWrites ++ [Reg.PHC_STATUS.DIR, Reg.SLT_STATUS.STATE, Reg.SLT_STATUS.PHASE, Reg.SLT_STATUS.TYPE, Reg.SLT_STATUS.ID_LOW,
  Reg.SLT_STATUS.ROLE, Reg.SLT_PACK_ID_LO.ID_LO, Reg.SLT_PACK_ID_HI.ID_HI, Reg.SLT_PACK_A.CHEM, Reg.SLT_PACK_A.CELLS, Reg.SLT_PACK_A.ICHG_MAX,
  Reg.SLT_PACK_A.IDIS_MAX, Reg.SLT_PACK_B.VCHG_CELL, Reg.SLT_PACK_B.VDIS_CELL, Reg.ALM_SLOT_A.RESV, Reg.ALM_SLOT_A.RESV_SOC,
  Reg.ALM_SLOT_B.RESV_TICK, Reg.MSR_ICV_STATUS.STATE, Reg.MSR_DAC_STATUS.USER, Reg.MSR_DAC_STATUS.CONNECTED, Reg.GAU_STATUS.STATE,
  Reg.GAU_STATUS.LEARNED, Reg.GAU_STATUS.ANCHOR, Reg.GAU_STATUS.CUT_DEF, Reg.GAU_STATUS.AGE_H, Reg.GAU_SOC.SOC, Reg.GAU_SOC.V_CUT_CELL,
  Reg.GAU_QFULL.Q_FULL, Reg.GAU_QREM.Q_REM, Reg.GAU_EREM.E_REM, Reg.GAU_THRU_IN.THRU_IN, Reg.GAU_THRU_OUT.THRU_OUT, Reg.GAU_SNAP.SEQ,
  Reg.GAU_CNT.LEARN_CNT, Reg.GAU_CNT.SNAP_DROP, Reg.TEN_USE.SLOTS, Reg.TEN_USE.XFER, Reg.SAF_FG_A.ARMED, Reg.SAF_FG_A.OV_TH, Reg.SAF_FG_A.OC_TH,
  Reg.KEEP_CNT.QUEUED]

/-- A slot enters its safe state (R178, R512). -/
def safeWrites : List Fld :=
  leadParkWrites ++ [Reg.SLT_STATUS.RECEIVER, Reg.SLT_FAULT.FAULTED, Reg.SLT_FAULT.CAUSE, Reg.SLT_FAULT.COUNT, Reg.SLT_LINK.PEER,
  Reg.SLT_AUD_E.VALID, Reg.SAF_STATUS.FAULTED_CNT, Reg.SAF_FG_B.SUBCAUSE]

/-- Dusk begins (R562). -/
def duskWrites : List Fld :=
  leadParkWrites ++ [Reg.SLT_STATUS.RECEIVER, Reg.SLT_LINK.PEER, Reg.SLT_AUD_E.VALID, Reg.PDP_STATUS.TC_STATE, Reg.PDP_STATUS.VCONN,
  Reg.PDP_STATUS.CONTRACT, Reg.PDP_STATUS.SVC, Reg.PDP_STATUS.REV, Reg.PDP_CONTRACT.V, Reg.PDP_CONTRACT.I, Reg.PWR_MODE.SEQ, Reg.PWR_MODE.STEP,
  Reg.PWR_MODE.TARGET, Reg.PWR_CTRL.REQ, Reg.PWR_STATUS.LAST_SRC]

/-- A mode is entered (R550, R577). -/
def modeWrites : List Fld :=
  leadParkWrites ++ [Reg.SRC_GUARD.ALL_LOST, Reg.SRC_PORT_STATUS.ENABLED, Reg.ALM_STATUS.CURTAIL, Reg.ALM_STATUS.ISLAND, Reg.ALM_STATUS.HELD_FN,
  Reg.ALM_SLOT_A.HELD, Reg.FN_STATUS.LIVE, Reg.FN_STATUS.HELD, Reg.FN_WDG.STATE, Reg.FN_WDG.QSEQ, Reg.PDP_STATUS.TC_STATE, Reg.PWR_MODE.MODE,
  Reg.PWR_MODE.PREV, Reg.PWR_MODE.SEQ, Reg.PWR_MODE.STEP, Reg.PWR_MODE.TARGET, Reg.PWR_CTRL.REQ, Reg.PWR_STATUS.LAST_SRC]

/-- The last source is lost (R54). -/
def lostWrites : List Fld :=
  modeWrites ++ [Reg.SRC_GUARD.ACTIVE, Reg.SRC_GUARD.SCALE, Reg.SLT_STATUS.RECEIVER, Reg.SLT_LINK.PEER, Reg.PDP_STATUS.VCONN,
  Reg.PDP_STATUS.CONTRACT, Reg.PDP_STATUS.SVC, Reg.PDP_STATUS.REV, Reg.PDP_CONTRACT.V, Reg.PDP_CONTRACT.I]

/-- The register fields that a command may write: none of the others changes. `none` for the commands that can reset whole classes
of fields, by a reset, by HALT, or by a START that goes on. -/
def fieldsOf : Instr → Option (List Fld)
  | .runnerFlitReceive _ _ _ _ _ _ => none
  | .laneFault _ _ _ _ => none
  | .busSample _ _ => some (safeWrites ++ [Reg.SRC_BUS.OV, Reg.SRC_BUS.UV, Reg.SRC_BUS.BUS_V, Reg.SRC_GUARD.ACTIVE, Reg.SRC_GUARD.SCALE,
    Reg.SRC_PORT_STATUS.QUALIFYING, Reg.SRC_PORT_MEAS.VOLT, Reg.SRC_PORT_MEAS.CURR, Reg.PHC_STATUS.SHORT_AT_START, Reg.PHC_STATUS.RISE_ABORT,
    Reg.PHC_CNT.RETRIES, Reg.PDP_STATUS.TC_STATE, Reg.PDP_STATUS.CONTRACT, Reg.PDP_CONTRACT.V, Reg.PDP_CONTRACT.I])
  | .modulatorStuck _ _ => some (eventWrites ++ [Reg.SRC_BUS.MISMATCH, Reg.SRC_PORT_STATUS.QUALIFYING])
  | .busBelowPack _ => some (safeWrites)
  | .sourcePresenceRise _ _ => some (eventWrites ++ [Reg.SRC_PORT_STATUS.PRESENT, Reg.SRC_PORT_STATUS.QUALIFYING, Reg.SRC_PORT_STATUS.CLASS,
    Reg.SRC_PORT_STATUS.LIMIT_EFF])
  | .sourceLost _ _ => some (lostWrites ++ [Reg.SRC_PORT_STATUS.PRESENT, Reg.SRC_PORT_STATUS.QUALIFYING, Reg.SRC_PORT_STATUS.LOST_WHY])
  | .sourceQualified _ => some (duskWrites ++ [Reg.SRC_GUARD.ALL_LOST, Reg.SRC_PORT_STATUS.ENABLED, Reg.SRC_PORT_STATUS.QUALIFYING,
    Reg.PWR_STATUS.REFUSE])
  | .srcLimitWrite _ _ => some (eventWrites ++ [Reg.SRC_PORT_LIMIT.OVERRIDE, Reg.SRC_PORT_STATUS.CLASS, Reg.SRC_PORT_STATUS.LIMIT_EFF,
    Reg.GLB_ACC_ERR.VALID, Reg.GLB_ACC_ERR.CAUSE, Reg.GLB_ACC_ERR.COUNT, Reg.GLB_ACC_ERR.ADDR])
  | .srcModeWrite _ _ => some (lostWrites ++ [Reg.SRC_PORT_CFG.MODE, Reg.SRC_PORT_STATUS.PRESENT, Reg.SRC_PORT_STATUS.QUALIFYING,
    Reg.SRC_PORT_STATUS.LOST_WHY, Reg.GLB_ACC_ERR.VALID, Reg.GLB_ACC_ERR.CAUSE, Reg.GLB_ACC_ERR.COUNT, Reg.GLB_ACC_ERR.ADDR])
  | .islandDonorFloor _ => some (leadParkWrites ++ [Reg.SRC_GUARD.ACTIVE, Reg.SRC_GUARD.SCALE, Reg.SLT_STATUS.RECEIVER, Reg.SLT_LINK.PEER,
    Reg.PDP_STATUS.TC_STATE, Reg.PDP_STATUS.VCONN, Reg.PDP_STATUS.CONTRACT, Reg.PDP_STATUS.SVC, Reg.PDP_STATUS.REV, Reg.PDP_CONTRACT.V,
    Reg.PDP_CONTRACT.I])
  | .islandSourceReturn _ => some (eventWrites ++ [Reg.SRC_GUARD.ALL_LOST, Reg.SRC_PORT_STATUS.ENABLED])
  | .hbChargerTransition _ _ _ _ => some [Reg.SRC_HB_STATUS.STATE, Reg.SRC_HB_STATUS.HRAIL, Reg.SRC_HB_MEAS.VOLT, Reg.SRC_HB_MEAS.CURR]
  | .hbFault _ => some (eventWrites ++ [Reg.SRC_HB_STATUS.STATE])
  | .shipWake _ _ => none
  | .currentUpdate _ _ _ _ => some (safeWrites ++ [Reg.PHC_STATUS.RUNAWAY, Reg.PHC_STATUS.LOOP_UNSET, Reg.PHC_LOOP.APPLY, Reg.PHC_MEAS_I.MEAS_I,
    Reg.PHC_MEAS_V.MEAS_V, Reg.PDP_STATUS.TC_STATE, Reg.PDP_STATUS.CONTRACT, Reg.PDP_CONTRACT.V, Reg.PDP_CONTRACT.I, Reg.SAF_CNT.FG_TRIPS,
    Reg.SAF_FG_B.TRIP_OV, Reg.SAF_FG_B.TRIP_OC])
  | .apply _ => some [Reg.PHC_STATUS.LOOP_UNSET, Reg.PHC_LOOP.APPLY, Reg.GLB_ACC_ERR.VALID, Reg.GLB_ACC_ERR.CAUSE, Reg.GLB_ACC_ERR.COUNT,
    Reg.GLB_ACC_ERR.ADDR]
  | .riseAbort _ => some (safeWrites ++ [Reg.PHC_STATUS.SHORT_AT_START, Reg.PHC_STATUS.RISE_ABORT, Reg.PHC_CNT.RETRIES, Reg.PDP_STATUS.TC_STATE,
    Reg.PDP_STATUS.CONTRACT, Reg.PDP_CONTRACT.V, Reg.PDP_CONTRACT.I])
  | .softLevelUpdate _ _ => some (safeWrites ++ [Reg.PHC_STATUS.SHORT_AT_START, Reg.PHC_STATUS.RISE_ABORT, Reg.PHC_STATUS.LOOP_UNSET,
    Reg.PHC_CNT.RETRIES, Reg.PDP_STATUS.TC_STATE, Reg.PDP_STATUS.CONTRACT, Reg.PDP_CONTRACT.V, Reg.PDP_CONTRACT.I])
  | .startBackoffEnd _ _ => some (safeWrites ++ [Reg.PHC_STATUS.SHORT_AT_START, Reg.PHC_STATUS.RISE_ABORT, Reg.PHC_STATUS.LOOP_UNSET,
    Reg.PHC_CNT.RETRIES, Reg.PDP_STATUS.TC_STATE, Reg.PDP_STATUS.CONTRACT, Reg.PDP_CONTRACT.V, Reg.PDP_CONTRACT.I])
  | .retriesReset _ => some [Reg.PHC_CNT.RETRIES]
  | .peakLimitTruncate _ _ _ => some [Reg.PHC_CNT.CBC]
  | .phcEnableWrite _ _ => some (leadParkWrites ++ [Reg.PHC_CTRL.ENABLE, Reg.GLB_ACC_ERR.VALID, Reg.GLB_ACC_ERR.CAUSE, Reg.GLB_ACC_ERR.COUNT,
    Reg.GLB_ACC_ERR.ADDR])
  | .syncInEdge _ => some [Reg.PHC_STATUS.SYNC_LOCK, Reg.PHC_PER_EFF.PER_EFF]
  | .syncLoss _ _ => some (eventWrites ++ [Reg.PHC_STATUS.SYNC_LOCK, Reg.PHC_STATUS.SYNC_LOST, Reg.PHC_CNT.SYNC_LOSSES])
  | .syncRelock _ _ => some [Reg.PHC_STATUS.SYNC_LOCK, Reg.PHC_STATUS.SYNC_LOST, Reg.PHC_PER_EFF.PER_EFF]
  | .phaseAddMeasured _ => some [Reg.PHC_STATUS.PARKED, Reg.PHC_STATUS.ACTIVE_PH]
  | .phaseShed _ => some [Reg.PHC_STATUS.ACTIVE_PH]
  | .phaseHandoverEnd _ => some [Reg.PHC_STATUS.PARKED, Reg.PHC_OUT.DUTY]
  | .gangWrite _ => some [Reg.PHC_STATUS.LEAD, Reg.PHC_GANG.GANG_EN, Reg.SLT_STATUS.STATE, Reg.SLT_STATUS.PHASE, Reg.SLT_STATUS.ZONE,
    Reg.SLT_STATUS.TYPE, Reg.SLT_STATUS.ID_LOW, Reg.SLT_STATUS.WET, Reg.SLT_STATUS.ROLE, Reg.SLT_STATUS.RECEIVER, Reg.SLT_STATUS.NTC_A_BAD,
    Reg.SLT_STATUS.NTC_B_BAD, Reg.GLB_ACC_ERR.VALID, Reg.GLB_ACC_ERR.CAUSE, Reg.GLB_ACC_ERR.COUNT, Reg.GLB_ACC_ERR.ADDR]
  | .imbalanceCheck _ => some (eventWrites ++ [Reg.PHC_IMBAL.IMB_PCT])
  | .drvFault _ _ => some (safeWrites ++ [Reg.PHC_STATUS.DRV_FLT, Reg.PDP_STATUS.TC_STATE, Reg.PDP_STATUS.CONTRACT, Reg.PDP_CONTRACT.V,
    Reg.PDP_CONTRACT.I])
  | .runaway _ _ => some (safeWrites ++ [Reg.PHC_STATUS.RUNAWAY, Reg.PDP_STATUS.TC_STATE, Reg.PDP_STATUS.CONTRACT, Reg.PDP_CONTRACT.V,
    Reg.PDP_CONTRACT.I])
  | .commitStale _ => some (leadParkWrites)
  | .idPinClose _ => some (eventWrites ++ [Reg.SLT_STATUS.STATE])
  | .debounceEnd _ => some (eventWrites ++ [Reg.SLT_STATUS.STATE, Reg.SLT_STATUS.TYPE, Reg.SLT_STATUS.ID_LOW, Reg.MSR_DAC_STATUS.USER,
    Reg.MSR_DAC_STATUS.CONNECTED])
  | .wetTestComplete _ _ _ => some (eventWrites ++ [Reg.SLT_STATUS.WET, Reg.SLT_DIAG.LEAK_R, Reg.SLT_DIAG.LEAK_V, Reg.MSR_ICV_ENT_A.CHAN,
    Reg.MSR_ICV_ENT_A.RANGE, Reg.MSR_ICV_ENT_A.CYC, Reg.MSR_ICV_ENT_A.REPEAT, Reg.MSR_ICV_ENT_A.TRIG, Reg.MSR_ICV_ENT_A.RING, Reg.MSR_ICV_ENT_A.AVG,
    Reg.MSR_ICV_ENT_B.DELAY, Reg.MSR_FCV_XCHK.AGE_MAX, Reg.MSR_DAC_STATUS.USER, Reg.MSR_DAC_STATUS.CONNECTED])
  | .idDecode _ _ => some [Reg.SLT_STATUS.TYPE, Reg.SLT_STATUS.ID_LOW, Reg.SLT_DIAG.ID_MV]
  | .identificationComplete _ => some (eventWrites ++ [Reg.SLT_STATUS.STATE, Reg.SLT_PACK_ID_LO.ID_LO, Reg.SLT_PACK_ID_HI.ID_HI,
    Reg.SLT_PACK_A.CHEM, Reg.SLT_PACK_A.CELLS, Reg.SLT_PACK_A.ICHG_MAX, Reg.SLT_PACK_A.IDIS_MAX, Reg.SLT_PACK_B.VCHG_CELL, Reg.SLT_PACK_B.VDIS_CELL,
    Reg.SLT_TEMP_WIN.T1, Reg.SLT_TEMP_WIN.T2, Reg.SLT_TEMP_WIN.T3, Reg.SLT_TEMP_WIN.T4, Reg.GAU_STATUS.STATE, Reg.GAU_STATUS.CUT_DEF,
    Reg.GAU_SOC.SOC, Reg.GAU_SOC.V_CUT_CELL, Reg.GAU_QFULL.Q_FULL, Reg.GAU_QREM.Q_REM, Reg.GAU_EREM.E_REM, Reg.GAU_WARN_ST.FIRED, Reg.SAF_FG_A.ARMED,
    Reg.SAF_FG_A.OV_TH, Reg.SAF_FG_A.OC_TH, Reg.SAF_FG_B.RV_TH])
  | .identificationFail _ => some (failWrites ++ [Reg.SLT_STATUS.STATE, Reg.TWB_STATUS.HOSTQ])
  | .identRetry _ => some (eventWrites)
  | .identityLoss _ _ _ => some (safeWrites ++ [Reg.TWB_STATUS.HOSTQ, Reg.TWB_STATUS.LAST, Reg.SAF_CNT.FG_TRIPS, Reg.SAF_FG_B.TRIP_ID])
  | .packRemoval _ _ => some (leadParkWrites ++ [Reg.SLT_STATUS.RECEIVER, Reg.SLT_LINK.PEER, Reg.SLT_AUD_E.VALID, Reg.TWB_STATUS.BUS_DEAD,
    Reg.TWB_STATUS.HOSTQ, Reg.TWB_STATUS.LAST])
  | .slotEnableWrite _ _ => some (leadParkWrites ++ [Reg.SLT_CFG.ENABLE, Reg.SLT_STATUS.ZONE, Reg.SLT_STATUS.WET, Reg.SLT_STATUS.RECEIVER,
    Reg.SLT_STATUS.NTC_A_BAD, Reg.SLT_STATUS.NTC_B_BAD, Reg.SLT_LINK.PEER, Reg.SLT_AUD_E.VALID, Reg.TWB_STATUS.HOSTQ, Reg.TWB_STATUS.LAST,
    Reg.GLB_ACC_ERR.VALID, Reg.GLB_ACC_ERR.CAUSE, Reg.GLB_ACC_ERR.COUNT, Reg.GLB_ACC_ERR.ADDR])
  | .slotFaultClear _ => some (eventWrites ++ [Reg.PHC_STATUS.STAGE, Reg.PHC_STATUS.SHORT_AT_START, Reg.PHC_STATUS.RISE_ABORT,
    Reg.PHC_STATUS.RUNAWAY, Reg.PHC_STATUS.DRV_FLT, Reg.PHC_CNT.RETRIES, Reg.SLT_STATUS.STATE, Reg.SLT_STATUS.PHASE, Reg.SLT_STATUS.TYPE,
    Reg.SLT_STATUS.ID_LOW, Reg.SLT_STATUS.ROLE, Reg.SLT_FAULT.FAULTED, Reg.SLT_FAULT.CLEAR, Reg.SLT_PACK_ID_LO.ID_LO, Reg.SLT_PACK_ID_HI.ID_HI,
    Reg.SLT_PACK_A.CHEM, Reg.SLT_PACK_A.CELLS, Reg.SLT_PACK_A.ICHG_MAX, Reg.SLT_PACK_A.IDIS_MAX, Reg.SLT_PACK_B.VCHG_CELL, Reg.SLT_PACK_B.VDIS_CELL,
    Reg.MSR_ICV_STATUS.STATE, Reg.MSR_DAC_STATUS.USER, Reg.MSR_DAC_STATUS.CONNECTED, Reg.GAU_STATUS.STATE, Reg.GAU_STATUS.LEARNED,
    Reg.GAU_STATUS.ANCHOR, Reg.GAU_STATUS.CUT_DEF, Reg.GAU_STATUS.AGE_H, Reg.GAU_SOC.SOC, Reg.GAU_SOC.V_CUT_CELL, Reg.GAU_QFULL.Q_FULL,
    Reg.GAU_QREM.Q_REM, Reg.GAU_EREM.E_REM, Reg.GAU_THRU_IN.THRU_IN, Reg.GAU_THRU_OUT.THRU_OUT, Reg.GAU_SNAP.SEQ, Reg.GAU_CNT.LEARN_CNT,
    Reg.GAU_CNT.SNAP_DROP, Reg.ENG_TASK.STATE, Reg.SAF_STATUS.FAULTED_CNT, Reg.SAF_FG_B.TRIP_OV, Reg.SAF_FG_B.TRIP_OC, Reg.SAF_FG_B.TRIP_RV,
    Reg.SAF_FG_B.TRIP_NTC, Reg.SAF_FG_B.TRIP_ID, Reg.SAF_FG_B.TEST_FAIL, Reg.SAF_FG_B.SUBCAUSE, Reg.GLB_ACC_ERR.VALID, Reg.GLB_ACC_ERR.CAUSE,
    Reg.GLB_ACC_ERR.COUNT, Reg.GLB_ACC_ERR.ADDR])
  | .chargePhaseAdvance _ => some [Reg.SLT_STATUS.PHASE, Reg.SLT_TIME.PH_TIME]
  | .cvEntry _ => some [Reg.SLT_STATUS.PHASE, Reg.SLT_TIME.PH_TIME]
  | .packSag _ => some (eventWrites ++ [Reg.SLT_STATUS.PHASE, Reg.SLT_TIME.PH_TIME])
  | .chargePhaseTimeout _ => some (safeWrites)
  | .cvMaxExpiry _ => some (leadParkWrites ++ [Reg.SLT_STATUS.RECEIVER, Reg.SLT_LINK.PEER, Reg.SLT_AUD_E.VALID])
  | .cvMaxParkFail _ => some (safeWrites)
  | .slotSuspend _ => some [Reg.SLT_STATUS.STATE]
  | .ntcBothInvalid _ => some (safeWrites)
  | .taperCheck _ => some (eventWrites)
  | .serialPoll _ => some (eventWrites)
  | .transferEnd _ => some (leadParkWrites ++ [Reg.SLT_STATUS.RECEIVER, Reg.SLT_LINK.PEER])
  | .auditFillComplete _ => some (leadParkWrites ++ [Reg.SLT_LINK.PEER])
  | .auditRestEnd _ => some (leadParkWrites)
  | .auditPause _ => some (leadParkWrites)
  | .auditResume _ => some []
  | .auditEmpty _ => some (leadParkWrites ++ [Reg.SLT_TIME.PH_TIME, Reg.SLT_TIME.CHG_TIME, Reg.SLT_LINK.PEER, Reg.SLT_AUD_Q.Q,
    Reg.SLT_AUD_E.VALID, Reg.SLT_AUD_E.E, Reg.GAU_WARN_ST.FIRED])
  | .auditPauseLimit _ => some (leadParkWrites ++ [Reg.SLT_LINK.PEER, Reg.SLT_AUD_Q.Q, Reg.SLT_AUD_E.VALID, Reg.SLT_AUD_E.E])
  | .fgOvTrip _ _ _ => some (safeWrites ++ [Reg.SAF_CNT.FG_TRIPS, Reg.SAF_FG_B.TRIP_OV])
  | .fgOcTrip _ _ _ => some (safeWrites ++ [Reg.SAF_CNT.FG_TRIPS, Reg.SAF_FG_B.TRIP_OC])
  | .fgRvTrip _ _ _ => some (safeWrites ++ [Reg.SAF_CNT.FG_TRIPS, Reg.SAF_FG_B.TRIP_RV])
  | .fgNtcTrip _ _ _ _ => some (safeWrites ++ [Reg.SAF_CNT.FG_TRIPS, Reg.SAF_FG_B.TRIP_NTC])
  | .tickBoundary _ _ => none
  | .tickFreeze _ => some [Reg.ALM_CNT.LATE_PLAN]
  | .quotaOverRepeat _ => some (eventWrites)
  | .resvAtRisk _ => some (eventWrites ++ [Reg.ALM_SLOT_A.RESV])
  | .resvDeadline _ => some (eventWrites ++ [Reg.ALM_SLOT_A.RESV])
  | .rootHandover _ _ => none
  | .almViewSelect _ => some [Reg.ALM_VIEW_SEL.CHAN, Reg.ALM_VIEW_BASE.TICK, Reg.ALM_VIEW.VALID, Reg.ALM_VIEW.COMMITTED, Reg.ALM_VIEW.REF_I,
    Reg.GLB_ACC_ERR.VALID, Reg.GLB_ACC_ERR.CAUSE, Reg.GLB_ACC_ERR.COUNT, Reg.GLB_ACC_ERR.ADDR]
  | .mainsCrossing _ => some (eventWrites ++ [Reg.MSR_MAINS.LOCKED, Reg.MSR_MAINS.PERIOD])
  | .icvConversionStart _ => some [Reg.MSR_ICV_STATUS.STATE, Reg.MSR_ICV_STATUS.ENTRY, Reg.MSR_ICV_STATUS.REPEAT_DONE]
  | .icvIntegrationEnd _ _ _ _ _ => some (leadParkWrites ++ [Reg.SLT_STATUS.ZONE, Reg.SLT_STATUS.RECEIVER, Reg.SLT_STATUS.NTC_A_BAD,
    Reg.SLT_STATUS.NTC_B_BAD, Reg.SLT_TEMP_WIN.T1, Reg.SLT_TEMP_WIN.T2, Reg.SLT_TEMP_WIN.T3, Reg.SLT_TEMP_WIN.T4, Reg.SLT_TEMP.NTC_A,
    Reg.SLT_TEMP.NTC_B, Reg.SLT_VPACK.VPACK, Reg.SLT_LINK.PEER, Reg.MSR_ICV_STATUS.ENTRY, Reg.MSR_ICV_STATUS.REPEAT_DONE, Reg.MSR_ICV_CNT.OVR,
    Reg.MSR_ICV_RNG.RNG, Reg.MSR_ICV_LAST.VALUE, Reg.GAU_WARN_ST.FIRED])
  | .icvConversionTimeout _ => some (safeWrites ++ [Reg.GLB_HEALTH.COVERAGE_LOST, Reg.GLB_HEALTH_FE.ICV_SUBST, Reg.MSR_ICV_STATUS.FAILED,
    Reg.MSR_ICV_CNT.TIMEOUTS, Reg.MSR_FCV_STATUS.STATE, Reg.MSR_FCV_STATUS.SUBST_ICV, Reg.MSR_GRP.MEMBERS])
  | .icvPassStart _ => some [Reg.MSR_ICV_STATUS.ENTRY, Reg.MSR_ICV_STATUS.REPEAT_DONE, Reg.MSR_ICV_STATUS.WINDOW, Reg.MSR_ICV_PASS.PASS_LAST,
    Reg.MSR_ICV_ENT_A.CHAN, Reg.MSR_ICV_ENT_A.RANGE, Reg.MSR_ICV_ENT_A.CYC, Reg.MSR_ICV_ENT_A.REPEAT, Reg.MSR_ICV_ENT_A.TRIG, Reg.MSR_ICV_ENT_A.RING,
    Reg.MSR_ICV_ENT_A.AVG, Reg.MSR_ICV_ENT_B.DELAY]
  | .icvTrigger _ => some [Reg.MSR_ICV_STATUS.STATE, Reg.MSR_ICV_STATUS.TRIG_LATCHED, Reg.MSR_ICV_CNT.TRIG_OVR, Reg.MSR_ICV_CNT.ABORTS]
  | .groupTrigger _ => some [Reg.MSR_ICV_CNT.TRIG_OVR]
  | .groupStart _ => some [Reg.MSR_ICV_STATUS.STATE]
  | .urgentConversionStart _ => some [Reg.MSR_ICV_STATUS.STATE, Reg.MSR_ICV_STATUS.ENTRY, Reg.MSR_ICV_STATUS.URG_Q, Reg.MSR_ICV_CNT.ABORTS]
  | .fcvConversionEnd _ _ _ => some (leadParkWrites ++ [Reg.SLT_STATUS.ZONE, Reg.SLT_STATUS.RECEIVER, Reg.SLT_STATUS.NTC_A_BAD,
    Reg.SLT_STATUS.NTC_B_BAD, Reg.SLT_TEMP_WIN.T1, Reg.SLT_TEMP_WIN.T2, Reg.SLT_TEMP_WIN.T3, Reg.SLT_TEMP_WIN.T4, Reg.SLT_TEMP.NTC_A,
    Reg.SLT_TEMP.NTC_B, Reg.SLT_VPACK.VPACK, Reg.SLT_LINK.PEER, Reg.MSR_ICV_CNT.ABORTS, Reg.MSR_ICV_RNG.RNG, Reg.MSR_ICV_LAST.VALUE,
    Reg.MSR_ICV_ENT_A.CHAN, Reg.MSR_ICV_ENT_A.RANGE, Reg.MSR_ICV_ENT_A.CYC, Reg.MSR_ICV_ENT_A.REPEAT, Reg.MSR_ICV_ENT_A.TRIG, Reg.MSR_ICV_ENT_A.RING,
    Reg.MSR_ICV_ENT_A.AVG, Reg.MSR_ICV_ENT_B.DELAY, Reg.MSR_FCV_XCHK.AGE_MAX, Reg.MSR_FCV_XCHK.MISMATCH, Reg.MSR_FCV_XCHK.REFEREES,
    Reg.MSR_FCV_LAST.VALUE, Reg.GAU_WARN_ST.FIRED])
  | .refereeFinding _ _ _ _ => some (safeWrites ++ [Reg.GLB_HEALTH.COVERAGE_LOST, Reg.GLB_HEALTH_FE.ICV_SUBST, Reg.GLB_HEALTH_FE.FCV_LOST,
    Reg.MSR_ICV_STATUS.FAILED, Reg.MSR_ICV_SUBST.CHAN_SUBST, Reg.MSR_ICV_LAST.VALUE, Reg.MSR_ICV_ENT_A.CHAN, Reg.MSR_ICV_ENT_A.RANGE,
    Reg.MSR_ICV_ENT_A.CYC, Reg.MSR_ICV_ENT_A.REPEAT, Reg.MSR_ICV_ENT_A.TRIG, Reg.MSR_ICV_ENT_A.RING, Reg.MSR_ICV_ENT_A.AVG, Reg.MSR_ICV_ENT_B.DELAY,
    Reg.MSR_FCV_STATUS.STATE, Reg.MSR_FCV_STATUS.SUBST_ICV, Reg.MSR_FCV_STATUS.CHANS, Reg.MSR_FCV_LAST.VALUE, Reg.MSR_GRP.MEMBERS,
    Reg.SAF_CNT.XCHK_FAIL])
  | .fcvSelfTest _ _ _ => some (safeWrites ++ [Reg.GLB_HEALTH.COVERAGE_LOST, Reg.GLB_HEALTH_FE.ICV_SUBST, Reg.GLB_HEALTH_FE.FCV_LOST,
    Reg.MSR_ICV_ENT_A.CHAN, Reg.MSR_ICV_ENT_A.RANGE, Reg.MSR_ICV_ENT_A.CYC, Reg.MSR_ICV_ENT_A.REPEAT, Reg.MSR_ICV_ENT_A.TRIG, Reg.MSR_ICV_ENT_A.RING,
    Reg.MSR_ICV_ENT_A.AVG, Reg.MSR_ICV_ENT_B.DELAY, Reg.MSR_FCV_STATUS.STATE, Reg.MSR_FCV_XCHK.AGE_MAX, Reg.MSR_FCV_LAST.VALUE])
  | .fcvLostInjectionCheck _ _ _ _ => some (safeWrites ++ [Reg.GLB_HEALTH.COVERAGE_LOST, Reg.MSR_ICV_CNT.ABORTS, Reg.MSR_ICV_SUBST.CHAN_SUBST,
    Reg.MSR_ICV_LAST.VALUE, Reg.MSR_FCV_STATUS.CHANS])
  | .dacInjectWrite _ _ _ _ _ => some [Reg.MSR_DAC_CTRL.EN, Reg.MSR_DAC_CTRL.ATT, Reg.MSR_DAC_CTRL.TARGET, Reg.MSR_DAC_CTRL.CODE,
    Reg.MSR_DAC_STATUS.USER, Reg.MSR_DAC_STATUS.CONNECTED, Reg.MSR_DAC_STATUS.REJ, Reg.GLB_ACC_ERR.VALID, Reg.GLB_ACC_ERR.CAUSE,
    Reg.GLB_ACC_ERR.COUNT, Reg.GLB_ACC_ERR.ADDR]
  | .calAverageDone _ => some (completeWrites ++ [Reg.KEEP_CNT.QUEUED])
  | .coulombSample _ _ => some [Reg.GAU_STATUS.ACC_OVR, Reg.GAU_CNT.OVR_CNT]
  | .gauAccRead _ => some [Reg.GAU_ACC_LO.ACC_LO, Reg.GAU_ACC_HI.ACC_HI, Reg.GAU_NSAMP.NSAMP]
  | .gaugeReportUpdate _ => some (eventWrites ++ [Reg.GAU_STATUS.STATE, Reg.GAU_STATUS.LEARNED, Reg.GAU_STATUS.ANCHOR, Reg.GAU_STATUS.AGE_H,
    Reg.GAU_SOC.SOC, Reg.GAU_QFULL.Q_FULL, Reg.GAU_QREM.Q_REM, Reg.GAU_EREM.E_REM, Reg.GAU_CURR.I_AVG, Reg.GAU_CNT.LEARN_CNT, Reg.GAU_WARN_ST.FIRED])
  | .autoZeroTrim _ => some (eventWrites ++ [Reg.GAU_ZTRIM.ZTRIM])
  | .fullAnchor _ => some [Reg.GAU_STATUS.ANCHOR, Reg.GAU_STATUS.AGE_H, Reg.GAU_SOC.SOC, Reg.GAU_QREM.Q_REM, Reg.GAU_EREM.E_REM]
  | .gaugeSnapshotTimed _ => some (completeWrites ++ [Reg.GAU_SNAP.SEQ, Reg.GAU_CNT.SNAP_DROP])
  | .currentXcheck _ => some []
  | .currentReferee _ _ => some (safeWrites ++ [Reg.MSR_ICV_CNT.ABORTS, Reg.MSR_ICV_LAST.VALUE, Reg.GAU_STATUS.DEGRADED, Reg.SAF_CNT.XCHK_FAIL])
  | .outputVReferee _ _ => some (safeWrites ++ [Reg.MSR_ICV_CNT.ABORTS, Reg.MSR_FCV_XCHK.REFEREES, Reg.MSR_FCV_LAST.VALUE, Reg.SAF_CNT.XCHK_FAIL])
  | .pcieLaneFault _ => none
  | .doorbellPoll _ _ => some (eventWrites ++ [Reg.HIF_POLL.POLL_BW, Reg.HIF_POLL.ACTIVE_FN, Reg.HIF_POLL.INT_ACT, Reg.HIF_CNT.RING_ERRS,
    Reg.HIF_CNT.DMA_ERRS, Reg.RING_CTRL.EN, Reg.RING_HOST_IDX.HOST_IDX, Reg.RING_ERRST.ERR_CODE])
  | .descriptorFetch _ _ _ => some (safeWrites ++ [Reg.GLB_HEALTH.COVERAGE_LOST, Reg.PHC_STATUS.SHORT_AT_START, Reg.PHC_STATUS.RISE_ABORT,
    Reg.PHC_STATUS.RUNAWAY, Reg.PHC_STATUS.DRV_FLT, Reg.PHC_CNT.RETRIES, Reg.SLT_STATUS.ZONE, Reg.SLT_PROF_A.CV_CELL, Reg.SLT_PROF_A.ICC,
    Reg.SLT_PROF_B.IPRE, Reg.SLT_PROF_B.ITRICKLE, Reg.SLT_PROF_B.TAPER, Reg.SLT_TIMERS.CV_MAX, Reg.SLT_TIMERS.TOTAL_MAX, Reg.SLT_TIMERS.TRICKLE_MAX,
    Reg.SLT_TIMERS.PRE_MAX, Reg.SLT_TEMP_WIN.T1, Reg.SLT_TEMP_WIN.T2, Reg.SLT_TEMP_WIN.T3, Reg.SLT_TEMP_WIN.T4, Reg.SLT_TIME.PH_TIME,
    Reg.SLT_TIME.CHG_TIME, Reg.ALM_STATUS.HELD_FN, Reg.ALM_STATUS.SCHEMA, Reg.ALM_SLOT_A.PRIO, Reg.ALM_SLOT_A.HELD, Reg.MSR_ICV_STATUS.URG_Q,
    Reg.MSR_ICV_BUDGET.PASS_CHK, Reg.GAU_WARN.LVL0, Reg.GAU_WARN.LVL1, Reg.GAU_WARN.LVL2, Reg.GAU_WARN.LVL3, Reg.GAU_WARN_ST.FIRED,
    Reg.HIF_CNT.CRC_ERRS, Reg.HIF_CNT.RING_ERRS, Reg.HIF_CNT.DMA_ERRS, Reg.FN_STATUS.LIVE, Reg.FN_STATUS.HELD, Reg.RING_CTRL.EN,
    Reg.RING_ERRST.ERR_CODE, Reg.TEN_CNT.LOST_CNT, Reg.TEN_CNT.WRONG, Reg.FN_WDG.STATE, Reg.FN_WDG.MISSES, Reg.FN_WDG.GOOD, Reg.TWB_STATUS.HOSTQ,
    Reg.TWB_STATUS.LAST, Reg.PDP_STATUS.TC_STATE, Reg.PDP_STATUS.VCONN, Reg.PDP_STATUS.CONTRACT, Reg.PDP_STATUS.SVC, Reg.PDP_STATUS.HELD,
    Reg.PDP_STATUS.HOLDER, Reg.PDP_STATUS.REV, Reg.PDP_CONTRACT.V, Reg.PDP_CONTRACT.I, Reg.PDP_CNT.HARD_RESETS, Reg.PDP_CNT.SOFT_RESETS,
    Reg.ENG_GEN.STAGED, Reg.ENG_SCHEMA_STG.STG_LO, Reg.ENG_SCHEMA_STG.STG_HI, Reg.ENG_UPG.STATE, Reg.ENG_UPG.BED, Reg.ENG_UPG.STEP,
    Reg.ENG_UPG.BEDS_NEW, Reg.ENG_STAGE.CAUSE, Reg.ENG_STAGE.PROGRESS, Reg.ENG_TASK.HOST, Reg.ENG_TASK.STATE, Reg.SAF_FG_B.TRIP_OV,
    Reg.SAF_FG_B.TRIP_OC, Reg.SAF_FG_B.TRIP_RV, Reg.SAF_FG_B.TRIP_NTC, Reg.SAF_FG_B.TRIP_ID, Reg.SAF_FG_B.TEST_FAIL, Reg.GLB_SEAL.SEALED,
    Reg.GLB_RESET_CAUSE.FN_WDG, Reg.GLB_RESET_INFO.WDG_FN, Reg.PDP_POL_A.PMAX, Reg.PDP_POL_A.IMAX, Reg.PDP_POL_B.VMASK, Reg.PDP_POL_B.PPS_EN,
    Reg.PDP_POL_B.EPR_EN, Reg.PDP_POL_B.SVC_EN, Reg.PDP_POL_B.VSWAP, Reg.PDP_POL_C.PPS_VMIN, Reg.PDP_POL_C.PPS_VMAX])
  | .msixModerationTimeout _ _ => some [Reg.MSIX_PBA.PEND]
  | .statusLineWrite _ => some []
  | .flr _ => none
  | .d3hotEntry _ => some []
  | .hostReadError _ _ _ => some (eventWrites ++ [Reg.HIF_CNT.CRC_ERRS, Reg.HIF_CNT.RING_ERRS, Reg.HIF_CNT.DMA_ERRS, Reg.RING_CTRL.EN,
    Reg.RING_ERRST.ERR_CODE])
  | .doorbellPageWrite _ _ => some (eventWrites ++ [Reg.ALM_STATUS.HELD_FN, Reg.ALM_SLOT_A.HELD, Reg.HIF_POLL.POLL_BW, Reg.HIF_POLL.ACTIVE_FN,
    Reg.HIF_POLL.INT_ACT, Reg.FN_STATUS.LIVE, Reg.FN_STATUS.HELD, Reg.FN_DB_LO.ADDR_LO, Reg.FN_DB_LO.EN, Reg.FN_WDG.STATE, Reg.FN_WDG.QSEQ,
    Reg.GLB_ACC_ERR.VALID, Reg.GLB_ACC_ERR.CAUSE, Reg.GLB_ACC_ERR.COUNT, Reg.GLB_ACC_ERR.ADDR])
  | .ringEnableWrite _ _ _ => some (eventWrites ++ [Reg.RING_CTRL.EN, Reg.RING_CTRL.TYPE, Reg.RING_CTRL.LOG2, Reg.RING_CTRL.VEC,
    Reg.RING_CTRL.CPL_RING, Reg.RING_CTRL.CLASS_MASK, Reg.RING_HOST_IDX.HOST_IDX, Reg.GLB_ACC_ERR.VALID, Reg.GLB_ACC_ERR.CAUSE,
    Reg.GLB_ACC_ERR.COUNT, Reg.GLB_ACC_ERR.ADDR])
  | .nop _ => some (safeWrites)
  | .slotClaim _ => some (safeWrites)
  | .slotRelease _ => some (safeWrites)
  | .chargeStart _ _ _ _ => some (safeWrites ++ [Reg.SLT_PROF_A.CV_CELL, Reg.SLT_PROF_A.ICC, Reg.SLT_PROF_B.IPRE, Reg.SLT_PROF_B.ITRICKLE,
    Reg.SLT_PROF_B.TAPER, Reg.SLT_TIMERS.CV_MAX, Reg.SLT_TIMERS.TOTAL_MAX, Reg.SLT_TIMERS.TRICKLE_MAX, Reg.SLT_TIMERS.PRE_MAX, Reg.SLT_TIME.PH_TIME,
    Reg.SLT_TIME.CHG_TIME, Reg.ALM_SLOT_A.PRIO])
  | .chargeTerminate _ => some (safeWrites)
  | .setLimits _ _ => some (safeWrites ++ [Reg.PHC_STATUS.SHORT_AT_START, Reg.PHC_STATUS.RISE_ABORT, Reg.PHC_STATUS.RUNAWAY,
    Reg.PHC_STATUS.DRV_FLT, Reg.PHC_CNT.RETRIES, Reg.SLT_STATUS.ZONE, Reg.SLT_TEMP_WIN.T1, Reg.SLT_TEMP_WIN.T2, Reg.SLT_TEMP_WIN.T3,
    Reg.SLT_TEMP_WIN.T4, Reg.GAU_WARN.LVL0, Reg.GAU_WARN.LVL1, Reg.GAU_WARN.LVL2, Reg.GAU_WARN.LVL3, Reg.GAU_WARN_ST.FIRED, Reg.ENG_TASK.STATE,
    Reg.SAF_FG_B.TRIP_OV, Reg.SAF_FG_B.TRIP_OC, Reg.SAF_FG_B.TRIP_RV, Reg.SAF_FG_B.TRIP_NTC, Reg.SAF_FG_B.TRIP_ID, Reg.SAF_FG_B.TEST_FAIL])
  | .reserve _ _ _ _ => some (safeWrites ++ [Reg.ALM_SLOT_A.PRIO])
  | .transfer _ _ => some (safeWrites)
  | .audit _ _ _ => some (safeWrites ++ [Reg.SLT_PROF_A.CV_CELL, Reg.SLT_PROF_A.ICC, Reg.SLT_PROF_B.IPRE, Reg.SLT_PROF_B.ITRICKLE,
    Reg.SLT_PROF_B.TAPER, Reg.SLT_TIMERS.CV_MAX, Reg.SLT_TIMERS.TOTAL_MAX, Reg.SLT_TIMERS.TRICKLE_MAX, Reg.SLT_TIMERS.PRE_MAX, Reg.SLT_TIME.PH_TIME,
    Reg.SLT_TIME.CHG_TIME, Reg.ALM_SLOT_A.PRIO])
  | .gaugeRestore _ _ => some (safeWrites ++ [Reg.GAU_WARN_ST.FIRED])
  | .gaugeSnapshot _ => some (safeWrites)
  | .measTableLoad _ _ _ => some (safeWrites ++ [Reg.MSR_ICV_BUDGET.PASS_CHK])
  | .measUrgent _ _ _ _ => some (safeWrites ++ [Reg.MSR_ICV_STATUS.URG_Q])
  | .calZero _ _ _ _ _ => some (safeWrites)
  | .calFull _ _ _ _ _ => some (safeWrites)
  | .twbXfer _ _ => some (safeWrites ++ [Reg.TWB_STATUS.HOSTQ, Reg.TWB_STATUS.LAST])
  | .pdPolicyHold _ _ => some (safeWrites ++ [Reg.PDP_STATUS.HELD, Reg.PDP_STATUS.HOLDER, Reg.PDP_POL_A.PMAX, Reg.PDP_POL_A.IMAX,
    Reg.PDP_POL_B.VMASK, Reg.PDP_POL_B.PPS_EN, Reg.PDP_POL_B.EPR_EN, Reg.PDP_POL_B.SVC_EN, Reg.PDP_POL_B.VSWAP, Reg.PDP_POL_C.PPS_VMIN,
    Reg.PDP_POL_C.PPS_VMAX])
  | .pdPolicyRelease _ => some (safeWrites ++ [Reg.PDP_STATUS.SVC, Reg.PDP_STATUS.HELD, Reg.PDP_STATUS.HOLDER, Reg.PDP_POL_A.PMAX,
    Reg.PDP_POL_A.IMAX, Reg.PDP_POL_B.VMASK, Reg.PDP_POL_B.PPS_EN, Reg.PDP_POL_B.EPR_EN, Reg.PDP_POL_B.SVC_EN, Reg.PDP_POL_B.VSWAP,
    Reg.PDP_POL_C.PPS_VMIN, Reg.PDP_POL_C.PPS_VMAX])
  | .pdPolicySet _ _ => some (safeWrites ++ [Reg.PDP_POL_A.PMAX, Reg.PDP_POL_A.IMAX, Reg.PDP_POL_B.VMASK, Reg.PDP_POL_B.PPS_EN,
    Reg.PDP_POL_B.EPR_EN, Reg.PDP_POL_B.SVC_EN, Reg.PDP_POL_B.VSWAP, Reg.PDP_POL_C.PPS_VMIN, Reg.PDP_POL_C.PPS_VMAX])
  | .pdPolicySoftReset _ => some (safeWrites ++ [Reg.PDP_STATUS.VCONN, Reg.PDP_STATUS.CONTRACT, Reg.PDP_STATUS.SVC, Reg.PDP_STATUS.REV,
    Reg.PDP_CONTRACT.V, Reg.PDP_CONTRACT.I, Reg.PDP_CNT.HARD_RESETS, Reg.PDP_CNT.SOFT_RESETS])
  | .pdPolicyHardReset _ => some (safeWrites ++ [Reg.PDP_STATUS.VCONN, Reg.PDP_STATUS.CONTRACT, Reg.PDP_STATUS.SVC, Reg.PDP_STATUS.REV,
    Reg.PDP_CONTRACT.V, Reg.PDP_CONTRACT.I, Reg.PDP_CNT.HARD_RESETS, Reg.PDP_CNT.SOFT_RESETS])
  | .enterService _ => some (safeWrites ++ [Reg.PDP_STATUS.VCONN, Reg.PDP_STATUS.CONTRACT, Reg.PDP_STATUS.SVC, Reg.PDP_STATUS.REV,
    Reg.PDP_CONTRACT.V, Reg.PDP_CONTRACT.I, Reg.PDP_CNT.HARD_RESETS, Reg.PDP_CNT.SOFT_RESETS])
  | .exitService _ => some (safeWrites ++ [Reg.PDP_STATUS.VCONN, Reg.PDP_STATUS.CONTRACT, Reg.PDP_STATUS.SVC, Reg.PDP_STATUS.REV,
    Reg.PDP_CONTRACT.V, Reg.PDP_CONTRACT.I, Reg.PDP_CNT.HARD_RESETS, Reg.PDP_CNT.SOFT_RESETS])
  | .wdgAnswer _ _ _ => some (safeWrites ++ [Reg.ALM_STATUS.HELD_FN, Reg.ALM_SLOT_A.HELD, Reg.FN_STATUS.LIVE, Reg.FN_STATUS.HELD,
    Reg.TEN_CNT.LOST_CNT, Reg.TEN_CNT.WRONG, Reg.FN_WDG.STATE, Reg.FN_WDG.MISSES, Reg.FN_WDG.GOOD, Reg.PDP_STATUS.SVC, Reg.GLB_RESET_CAUSE.FN_WDG,
    Reg.GLB_RESET_INFO.WDG_FN])
  | .fence _ _ _ _ _ => some (safeWrites)
  | .quotaSet _ _ => some (safeWrites)
  | .keyWrite _ _ => some (safeWrites)
  | .microcodeStage _ _ _ _ => some (safeWrites ++ [Reg.ENG_UPG.STATE, Reg.ENG_STAGE.CAUSE, Reg.ENG_STAGE.PROGRESS])
  | .microcodeStageComplete _ _ => some (eventWrites ++ [Reg.HIF_CNT.RING_ERRS, Reg.HIF_CNT.DMA_ERRS, Reg.RING_CTRL.EN, Reg.RING_ERRST.ERR_CODE,
    Reg.ENG_GEN.STAGED, Reg.ENG_SCHEMA_STG.STG_LO, Reg.ENG_SCHEMA_STG.STG_HI, Reg.ENG_UPG.STATE, Reg.ENG_STAGE.CAUSE, Reg.ENG_STAGE.PROGRESS])
  | .microcodeRoll _ _ => some (safeWrites ++ [Reg.GLB_HEALTH.COVERAGE_LOST, Reg.ALM_STATUS.SCHEMA, Reg.PDP_STATUS.TC_STATE,
    Reg.PDP_STATUS.CONTRACT, Reg.PDP_CONTRACT.V, Reg.PDP_CONTRACT.I, Reg.ENG_UPG.STATE, Reg.ENG_UPG.BED, Reg.ENG_UPG.STEP, Reg.ENG_UPG.BEDS_NEW,
    Reg.ENG_TASK.HOST, Reg.ENG_TASK.STATE])
  | .microcodeAbort _ => some (safeWrites ++ [Reg.GLB_HEALTH.COVERAGE_LOST, Reg.ALM_STATUS.SCHEMA, Reg.PDP_STATUS.TC_STATE,
    Reg.PDP_STATUS.CONTRACT, Reg.PDP_CONTRACT.V, Reg.PDP_CONTRACT.I, Reg.ENG_UPG.STATE, Reg.ENG_UPG.BED, Reg.ENG_UPG.STEP, Reg.ENG_UPG.BEDS_NEW,
    Reg.ENG_TASK.HOST, Reg.ENG_TASK.STATE])
  | .microcodeDiscard _ => some (safeWrites ++ [Reg.ENG_GEN.STAGED, Reg.ENG_SCHEMA_STG.STG_LO, Reg.ENG_SCHEMA_STG.STG_HI, Reg.ENG_UPG.STATE])
  | .seal _ => some (safeWrites ++ [Reg.GLB_SEAL.SEALED])
  | .unknownOpcode _ _ => some (completeWrites)
  | .keepWrite _ => some (leadParkWrites ++ [Reg.GLB_HEALTH.COVERAGE_LOST, Reg.SLT_STATUS.RECEIVER, Reg.SLT_OWNER.CLAIMED, Reg.SLT_OWNER.OWNER,
    Reg.SLT_LINK.PEER, Reg.SLT_AUD_E.VALID, Reg.ALM_STATUS.HELD_FN, Reg.ALM_SLOT_A.HELD, Reg.MSR_ICV_OFF.OFFSET, Reg.MSR_ICV_GAIN.GAIN,
    Reg.GAU_STATUS.UNCAL, Reg.GAU_CAL_OFF.OFF, Reg.GAU_CAL_GAIN.GAIN, Reg.FN_STATUS.LIVE, Reg.FN_STATUS.HELD, Reg.TEN_QUOTA_P.POWER,
    Reg.TEN_QUOTA_B.MAX_SLOTS, Reg.TEN_QUOTA_B.MAX_XFER, Reg.TEN_QUOTA_B.EVT_RATE, Reg.TEN_SLOTMASK_LO.MASK_LO, Reg.TEN_SLOTMASK_HI.MASK_HI,
    Reg.TEN_WDG_CFG.PERIOD, Reg.TEN_WDG_CFG.OPEN, Reg.TEN_KEY.KEY0, Reg.TEN_KEY.KEY1, Reg.TEN_KEY.KEY2, Reg.TEN_KEY.KEY3, Reg.FN_WDG.STATE,
    Reg.FN_WDG.QSEQ, Reg.TWB_STATUS.HOSTQ, Reg.TWB_STATUS.LAST, Reg.ENG_GEN.ACTIVE, Reg.ENG_GEN.STAGED, Reg.ENG_SCHEMA.ACT_LO, Reg.ENG_SCHEMA.ACT_HI,
    Reg.ENG_SCHEMA_STG.STG_LO, Reg.ENG_SCHEMA_STG.STG_HI, Reg.ENG_UPG.STATE, Reg.ENG_UPG.BED, Reg.ENG_UPG.STEP, Reg.ENG_UPG.BEDS_NEW,
    Reg.ENG_BOOT.ACTIVE_BANK, Reg.ENG_TASK.GEN, Reg.KEEP_STATUS.VALID, Reg.KEEP_STATUS.FREE, Reg.KEEP_STATUS.BAD, Reg.KEEP_CNT.REFUSED,
    Reg.KEEP_WRITES.WRITES, Reg.MSR_FCV_OFF.OFFSET, Reg.MSR_FCV_GAIN.GAIN])
  | .wdgQuestion _ => some (eventWrites ++ [Reg.ALM_STATUS.HELD_FN, Reg.ALM_SLOT_A.HELD, Reg.FN_STATUS.LIVE, Reg.FN_STATUS.HELD,
    Reg.TEN_CNT.LOST_CNT, Reg.TEN_CNT.WRONG, Reg.FN_WDG.STATE, Reg.FN_WDG.MISSES, Reg.FN_WDG.GOOD, Reg.FN_WDG.QSEQ, Reg.PDP_STATUS.SVC,
    Reg.GLB_RESET_CAUSE.FN_WDG, Reg.GLB_RESET_INFO.WDG_FN])
  | .rateLimit _ => some (eventWrites)
  | .twbTransactionStart _ => some (failWrites ++ [Reg.TWB_STATUS.BUSY, Reg.TWB_STATUS.USER, Reg.TWB_STATUS.HOSTQ])
  | .twbTransactionEnd _ _ => some (safeWrites ++ [Reg.SRC_HB_STATUS.TEMP, Reg.TWB_STATUS.BUSY, Reg.TWB_STATUS.USER, Reg.TWB_STATUS.PEC_ERR,
    Reg.TWB_STATUS.HOSTQ, Reg.TWB_STATUS.LAST, Reg.TWB_CNT.NACKS, Reg.TWB_CNT.PEC_ERRS])
  | .identBusRetry _ => some (eventWrites)
  | .twbSclTimeout _ _ => some (failWrites ++ [Reg.TWB_STATUS.BUSY, Reg.TWB_STATUS.USER, Reg.TWB_STATUS.SCL_TMO, Reg.TWB_CNT.TIMEOUTS])
  | .twbSdaTimeout _ _ _ => some (failWrites ++ [Reg.TWB_STATUS.BUS_DEAD, Reg.TWB_STATUS.SDA_TMO, Reg.TWB_STATUS.HOSTQ, Reg.TWB_CNT.TIMEOUTS])
  | .twbArbLoss _ _ => some (failWrites ++ [Reg.TWB_STATUS.BUSY, Reg.TWB_STATUS.USER, Reg.TWB_STATUS.ARB_LOST, Reg.TWB_STATUS.HOSTQ,
    Reg.TWB_CNT.ARB_LOSSES])
  | .twbTargetTransaction _ _ => some (duskWrites ++ [Reg.TWB_STATUS.BUSY, Reg.TWB_STATUS.USER, Reg.TWB_STATUS.PEC_ERR, Reg.TWB_STATUS.ALERT,
    Reg.TWB_CNT.PEC_ERRS, Reg.TWB_TGT.ALERT_REQ, Reg.TWB_TGT.RX_FULL, Reg.TWB_TGT.RX_LEN, Reg.TWB_TGT_RX.RX, Reg.PWR_STATUS.REFUSE])
  | .twbSleep _ => some []
  | .twbAlertIn _ _ => some (eventWrites ++ [Reg.TWB_STATUS.ALERT])
  | .twbAlertReread _ => some (eventWrites)
  | .alertReq _ _ => some [Reg.TWB_STATUS.ALERT, Reg.TWB_TGT.ALERT_REQ, Reg.GLB_ACC_ERR.VALID, Reg.GLB_ACC_ERR.CAUSE, Reg.GLB_ACC_ERR.COUNT,
    Reg.GLB_ACC_ERR.ADDR]
  | .cancel _ => some (completeWrites ++ [Reg.TWB_STATUS.HOSTQ, Reg.TWB_STATUS.LAST, Reg.TWB_CTRL.CANCEL, Reg.GLB_ACC_ERR.VALID,
    Reg.GLB_ACC_ERR.CAUSE, Reg.GLB_ACC_ERR.COUNT, Reg.GLB_ACC_ERR.ADDR])
  | .recover _ _ => some (failWrites ++ [Reg.TWB_STATUS.BUS_DEAD, Reg.TWB_STATUS.HOSTQ, Reg.TWB_CTRL.RECOVER, Reg.GLB_ACC_ERR.VALID,
    Reg.GLB_ACC_ERR.CAUSE, Reg.GLB_ACC_ERR.COUNT, Reg.GLB_ACC_ERR.ADDR])
  | .twbXferTimeout _ => some (completeWrites ++ [Reg.TWB_STATUS.HOSTQ, Reg.TWB_STATUS.LAST])
  | .pdRdDetect _ _ _ => some [Reg.PDP_STATUS.TC_STATE, Reg.PDP_STATUS.ORIENT]
  | .pdAttach _ => some (eventWrites ++ [Reg.PDP_STATUS.TC_STATE, Reg.PDP_STATUS.VCONN, Reg.PDP_CONTRACT.V, Reg.PDP_CONTRACT.I])
  | .pdVbusReady _ _ => some [Reg.PDP_MEAS.VBUS]
  | .pdCableIdentity _ _ _ _ _ => some (leadParkWrites ++ [Reg.SLT_STATUS.RECEIVER, Reg.SLT_LINK.PEER, Reg.PDP_STATUS.VCONN,
    Reg.PDP_STATUS.CONTRACT, Reg.PDP_STATUS.SVC, Reg.PDP_STATUS.REV, Reg.PDP_CONTRACT.V, Reg.PDP_CONTRACT.I, Reg.PDP_CABLE.VALID,
    Reg.PDP_CABLE.EPR_CAP, Reg.PDP_CABLE.CABLE_I, Reg.PDP_CABLE.VMAX, Reg.PDP_CNT.HARD_RESETS, Reg.PDP_CNT.SOFT_RESETS, Reg.PDP_CNT.RX_ABORTS])
  | .pdRequest _ _ _ _ _ _ => some (leadParkWrites ++ [Reg.SLT_STATUS.RECEIVER, Reg.SLT_LINK.PEER, Reg.PDP_STATUS.VCONN, Reg.PDP_STATUS.CONTRACT,
    Reg.PDP_STATUS.SVC, Reg.PDP_STATUS.REV, Reg.PDP_CONTRACT.V, Reg.PDP_CONTRACT.I, Reg.PDP_CABLE.VALID, Reg.PDP_CABLE.EPR_CAP,
    Reg.PDP_CABLE.CABLE_I, Reg.PDP_CABLE.VMAX, Reg.PDP_CNT.HARD_RESETS, Reg.PDP_CNT.SOFT_RESETS, Reg.PDP_CNT.RX_ABORTS])
  | .pdPsRdy _ _ _ => some (leadParkWrites ++ [Reg.SLT_STATUS.RECEIVER, Reg.SLT_LINK.PEER, Reg.PDP_STATUS.VCONN, Reg.PDP_STATUS.CONTRACT,
    Reg.PDP_STATUS.SVC, Reg.PDP_STATUS.REV, Reg.PDP_CONTRACT.V, Reg.PDP_CONTRACT.I, Reg.PDP_MEAS.VBUS, Reg.PDP_CNT.HARD_RESETS,
    Reg.PDP_CNT.SOFT_RESETS])
  | .pdEprEnter _ _ => some (leadParkWrites ++ [Reg.SLT_STATUS.RECEIVER, Reg.SLT_LINK.PEER, Reg.PDP_STATUS.VCONN, Reg.PDP_STATUS.CONTRACT,
    Reg.PDP_STATUS.SVC, Reg.PDP_STATUS.REV, Reg.PDP_CONTRACT.V, Reg.PDP_CONTRACT.I, Reg.PDP_CABLE.VALID, Reg.PDP_CABLE.EPR_CAP,
    Reg.PDP_CABLE.CABLE_I, Reg.PDP_CABLE.VMAX, Reg.PDP_CNT.HARD_RESETS, Reg.PDP_CNT.SOFT_RESETS, Reg.PDP_CNT.RX_ABORTS])
  | .pdEprKeepaliveTimeout _ => some (leadParkWrites ++ [Reg.SLT_STATUS.RECEIVER, Reg.SLT_LINK.PEER, Reg.PDP_STATUS.VCONN,
    Reg.PDP_STATUS.CONTRACT, Reg.PDP_STATUS.SVC, Reg.PDP_STATUS.REV, Reg.PDP_CONTRACT.V, Reg.PDP_CONTRACT.I, Reg.PDP_CNT.HARD_RESETS])
  | .pdVconnSwap _ _ => some (leadParkWrites ++ [Reg.SLT_STATUS.RECEIVER, Reg.SLT_LINK.PEER, Reg.PDP_STATUS.VCONN, Reg.PDP_STATUS.CONTRACT,
    Reg.PDP_STATUS.SVC, Reg.PDP_STATUS.REV, Reg.PDP_CONTRACT.V, Reg.PDP_CONTRACT.I, Reg.PDP_CABLE.VALID, Reg.PDP_CABLE.EPR_CAP,
    Reg.PDP_CABLE.CABLE_I, Reg.PDP_CABLE.VMAX, Reg.PDP_CNT.HARD_RESETS, Reg.PDP_CNT.SOFT_RESETS, Reg.PDP_CNT.RX_ABORTS])
  | .pdVconnOvercurrent _ _ _ => some (eventWrites ++ [Reg.PDP_STATUS.VCONN, Reg.PDP_CABLE.VALID, Reg.PDP_CABLE.EPR_CAP, Reg.PDP_CABLE.CABLE_I,
    Reg.PDP_CABLE.VMAX, Reg.PDP_CNT.FAULTS])
  | .pdHardReset _ _ _ => some (leadParkWrites ++ [Reg.SLT_STATUS.RECEIVER, Reg.SLT_LINK.PEER, Reg.PDP_STATUS.VCONN, Reg.PDP_STATUS.CONTRACT,
    Reg.PDP_STATUS.SVC, Reg.PDP_STATUS.REV, Reg.PDP_CONTRACT.V, Reg.PDP_CONTRACT.I, Reg.PDP_CNT.HARD_RESETS, Reg.PDP_CNT.RX_ABORTS])
  | .pdHardResetPark _ => some (parkWrites)
  | .pdVsafe0vHoldEnd _ _ => some [Reg.PDP_STATUS.VCONN, Reg.PDP_CONTRACT.V, Reg.PDP_CONTRACT.I]
  | .pdSoftResetReceived _ _ => some (leadParkWrites ++ [Reg.SLT_STATUS.RECEIVER, Reg.SLT_LINK.PEER, Reg.PDP_STATUS.VCONN,
    Reg.PDP_STATUS.CONTRACT, Reg.PDP_STATUS.SVC, Reg.PDP_STATUS.REV, Reg.PDP_CONTRACT.V, Reg.PDP_CONTRACT.I, Reg.PDP_CABLE.VALID,
    Reg.PDP_CABLE.EPR_CAP, Reg.PDP_CABLE.CABLE_I, Reg.PDP_CABLE.VMAX, Reg.PDP_CNT.HARD_RESETS, Reg.PDP_CNT.SOFT_RESETS, Reg.PDP_CNT.RX_ABORTS])
  | .pdSoftResetTimeout _ => some (leadParkWrites ++ [Reg.SLT_STATUS.RECEIVER, Reg.SLT_LINK.PEER, Reg.PDP_STATUS.VCONN, Reg.PDP_STATUS.CONTRACT,
    Reg.PDP_STATUS.SVC, Reg.PDP_STATUS.REV, Reg.PDP_CONTRACT.V, Reg.PDP_CONTRACT.I, Reg.PDP_CNT.HARD_RESETS])
  | .pdUnsupportedMessage _ _ _ _ => some (leadParkWrites ++ [Reg.SLT_STATUS.RECEIVER, Reg.SLT_LINK.PEER, Reg.PDP_STATUS.VCONN,
    Reg.PDP_STATUS.CONTRACT, Reg.PDP_STATUS.SVC, Reg.PDP_STATUS.REV, Reg.PDP_CONTRACT.V, Reg.PDP_CONTRACT.I, Reg.PDP_CABLE.VALID,
    Reg.PDP_CABLE.EPR_CAP, Reg.PDP_CABLE.CABLE_I, Reg.PDP_CABLE.VMAX, Reg.PDP_CNT.HARD_RESETS, Reg.PDP_CNT.SOFT_RESETS, Reg.PDP_CNT.RX_ABORTS])
  | .pdEnterModeAck _ _ => some (leadParkWrites ++ [Reg.SLT_STATUS.RECEIVER, Reg.SLT_LINK.PEER, Reg.PDP_STATUS.VCONN, Reg.PDP_STATUS.CONTRACT,
    Reg.PDP_STATUS.SVC, Reg.PDP_STATUS.REV, Reg.PDP_CONTRACT.V, Reg.PDP_CONTRACT.I, Reg.PDP_CABLE.VALID, Reg.PDP_CABLE.EPR_CAP,
    Reg.PDP_CABLE.CABLE_I, Reg.PDP_CABLE.VMAX, Reg.PDP_CNT.HARD_RESETS, Reg.PDP_CNT.SOFT_RESETS, Reg.PDP_CNT.RX_ABORTS])
  | .pdDetach _ => some (leadParkWrites ++ [Reg.SLT_STATUS.RECEIVER, Reg.SLT_LINK.PEER, Reg.PDP_STATUS.TC_STATE, Reg.PDP_STATUS.VCONN,
    Reg.PDP_STATUS.CONTRACT, Reg.PDP_STATUS.SVC, Reg.PDP_STATUS.REV, Reg.PDP_CONTRACT.V, Reg.PDP_CONTRACT.I, Reg.PDP_CABLE.VALID,
    Reg.PDP_CABLE.EPR_CAP, Reg.PDP_CABLE.CABLE_I, Reg.PDP_CABLE.VMAX])
  | .pdOvp _ _ => some (leadParkWrites ++ [Reg.SLT_STATUS.RECEIVER, Reg.SLT_LINK.PEER, Reg.PDP_STATUS.VCONN, Reg.PDP_STATUS.CONTRACT,
    Reg.PDP_STATUS.SVC, Reg.PDP_STATUS.REV, Reg.PDP_CONTRACT.V, Reg.PDP_CONTRACT.I, Reg.PDP_CNT.HARD_RESETS, Reg.PDP_CNT.FAULTS])
  | .pdOcp _ => some (leadParkWrites ++ [Reg.SLT_STATUS.RECEIVER, Reg.SLT_LINK.PEER, Reg.PDP_STATUS.VCONN, Reg.PDP_STATUS.CONTRACT,
    Reg.PDP_STATUS.SVC, Reg.PDP_STATUS.REV, Reg.PDP_CONTRACT.V, Reg.PDP_CONTRACT.I, Reg.PDP_CNT.HARD_RESETS, Reg.PDP_CNT.FAULTS])
  | .pdErrorRecoveryEnd _ => some (leadParkWrites ++ [Reg.SLT_STATUS.RECEIVER, Reg.SLT_LINK.PEER, Reg.PDP_STATUS.TC_STATE, Reg.PDP_STATUS.VCONN,
    Reg.PDP_STATUS.CONTRACT, Reg.PDP_STATUS.REV, Reg.PDP_CONTRACT.V, Reg.PDP_CONTRACT.I, Reg.PDP_CNT.FAULTS])
  | .pdFaultClear _ => some [Reg.PHC_STATUS.STAGE, Reg.PHC_CNT.RETRIES, Reg.PDP_STATUS.TC_STATE, Reg.PDP_CTRL.CLEAR, Reg.ENG_TASK.STATE,
    Reg.GLB_ACC_ERR.VALID, Reg.GLB_ACC_ERR.CAUSE, Reg.GLB_ACC_ERR.COUNT, Reg.GLB_ACC_ERR.ADDR]
  | .taskPeriod _ _ _ => some [Reg.ENG_TRACE_CNT.LOST]
  | .taskFault _ _ _ => some (safeWrites ++ [Reg.GLB_HEALTH.SPARE_PAIRS, Reg.GLB_HEALTH.COVERAGE_LOST, Reg.ALM_STATUS.SCHEMA,
    Reg.PDP_STATUS.TC_STATE, Reg.PDP_STATUS.CONTRACT, Reg.PDP_CONTRACT.V, Reg.PDP_CONTRACT.I, Reg.ENG_UPG.STATE, Reg.ENG_UPG.BED, Reg.ENG_UPG.STEP,
    Reg.ENG_UPG.BEDS_NEW, Reg.ENG_TASK.HOST, Reg.ENG_TASK.STATE, Reg.ENG_TASK.FAULTS, Reg.ENG_TRACE_CNT.LOST, Reg.SAF_CNT.TASK_SAFE])
  | .pairDisagree _ _ _ => some (safeWrites ++ [Reg.GLB_HEALTH.BED_LOST, Reg.GLB_HEALTH.SPARE_PAIRS, Reg.GLB_HEALTH.COVERAGE_LOST,
    Reg.ALM_STATUS.SCHEMA, Reg.PDP_STATUS.TC_STATE, Reg.PDP_STATUS.CONTRACT, Reg.PDP_CONTRACT.V, Reg.PDP_CONTRACT.I, Reg.ENG_UPG.STATE,
    Reg.ENG_UPG.BED, Reg.ENG_UPG.STEP, Reg.ENG_UPG.BEDS_NEW, Reg.ENG_CNT.DISAGREE, Reg.ENG_TASK.HOST, Reg.ENG_TASK.STATE, Reg.ENG_TRACE_PTR.WR,
    Reg.ENG_TRACE_CNT.LOST, Reg.ENG_TRACE_WIN.REC, Reg.GLB_RESET_CAUSE.BED, Reg.GLB_RESET_INFO.BED, Reg.PWR_DOM.ON])
  | .pairSelfTestEnd _ _ => some (safeWrites ++ [Reg.GLB_HEALTH.SPARE_PAIRS, Reg.GLB_HEALTH.COVERAGE_LOST, Reg.ALM_STATUS.SCHEMA,
    Reg.PDP_STATUS.TC_STATE, Reg.PDP_STATUS.CONTRACT, Reg.PDP_CONTRACT.V, Reg.PDP_CONTRACT.I, Reg.ENG_UPG.STATE, Reg.ENG_UPG.BED, Reg.ENG_UPG.STEP,
    Reg.ENG_UPG.BEDS_NEW, Reg.ENG_CNT.RETIRED, Reg.ENG_TASK.HOST, Reg.ENG_TASK.STATE])
  | .taskMigrationResume _ => some (safeWrites ++ [Reg.GLB_HEALTH.SPARE_PAIRS, Reg.GLB_HEALTH.COVERAGE_LOST, Reg.SRC_HB_STATUS.TEMP,
    Reg.SLT_STATUS.ZONE, Reg.SLT_STATUS.NTC_A_BAD, Reg.SLT_STATUS.NTC_B_BAD, Reg.SLT_TEMP_WIN.T1, Reg.SLT_TEMP_WIN.T2, Reg.SLT_TEMP_WIN.T3,
    Reg.SLT_TEMP_WIN.T4, Reg.SLT_TEMP.NTC_A, Reg.SLT_TEMP.NTC_B, Reg.SLT_VPACK.VPACK, Reg.ALM_STATUS.SCHEMA, Reg.MSR_ICV_LAST.VALUE,
    Reg.GAU_WARN_ST.FIRED, Reg.TWB_STATUS.HOSTQ, Reg.TWB_STATUS.LAST, Reg.PDP_STATUS.TC_STATE, Reg.PDP_STATUS.VCONN, Reg.PDP_STATUS.CONTRACT,
    Reg.PDP_STATUS.SVC, Reg.PDP_STATUS.REV, Reg.PDP_CONTRACT.V, Reg.PDP_CONTRACT.I, Reg.PDP_CABLE.VALID, Reg.PDP_CABLE.EPR_CAP,
    Reg.PDP_CABLE.CABLE_I, Reg.PDP_CABLE.VMAX, Reg.PDP_CNT.HARD_RESETS, Reg.PDP_CNT.SOFT_RESETS, Reg.ENG_UPG.STATE, Reg.ENG_UPG.BED,
    Reg.ENG_UPG.STEP, Reg.ENG_UPG.BEDS_NEW, Reg.ENG_CNT.MIGRATIONS, Reg.ENG_TASK.HOST, Reg.ENG_TASK.GEN, Reg.ENG_TASK.STATE, Reg.ENG_TASK.FAULTS,
    Reg.ENG_TRACE_CNT.LOST, Reg.SAF_CNT.TASK_SAFE])
  | .bedFault _ => some (safeWrites ++ [Reg.GLB_HEALTH.BED_LOST, Reg.GLB_HEALTH.SPARE_PAIRS, Reg.GLB_HEALTH.COVERAGE_LOST, Reg.ALM_STATUS.SCHEMA,
    Reg.PDP_STATUS.TC_STATE, Reg.PDP_STATUS.CONTRACT, Reg.PDP_CONTRACT.V, Reg.PDP_CONTRACT.I, Reg.ENG_UPG.STATE, Reg.ENG_UPG.BED, Reg.ENG_UPG.STEP,
    Reg.ENG_UPG.BEDS_NEW, Reg.ENG_TASK.HOST, Reg.ENG_TASK.STATE, Reg.ENG_TRACE_PTR.WR, Reg.ENG_TRACE_CNT.LOST, Reg.ENG_TRACE_WIN.REC,
    Reg.GLB_RESET_CAUSE.BED, Reg.GLB_RESET_INFO.BED, Reg.PWR_DOM.ON])
  | .barrierRelease _ => some [Reg.ENG_TRACE_CNT.LOST]
  | .barrierTimeout _ _ => some (safeWrites ++ [Reg.GLB_HEALTH.SPARE_PAIRS, Reg.GLB_HEALTH.COVERAGE_LOST, Reg.ALM_STATUS.SCHEMA,
    Reg.PDP_STATUS.TC_STATE, Reg.PDP_STATUS.CONTRACT, Reg.PDP_CONTRACT.V, Reg.PDP_CONTRACT.I, Reg.ENG_UPG.STATE, Reg.ENG_UPG.BED, Reg.ENG_UPG.STEP,
    Reg.ENG_UPG.BEDS_NEW, Reg.ENG_TASK.HOST, Reg.ENG_TASK.STATE, Reg.ENG_TASK.FAULTS, Reg.ENG_TRACE_CNT.LOST, Reg.SAF_CNT.TASK_SAFE])
  | .rolloutBedStep _ => some (safeWrites ++ [Reg.GLB_HEALTH.BED_LOST, Reg.GLB_HEALTH.SPARE_PAIRS, Reg.GLB_HEALTH.ROOT_ALT,
    Reg.GLB_HEALTH.COVERAGE_LOST, Reg.ALM_STATUS.ROOT_ALT, Reg.ALM_STATUS.SCHEMA, Reg.ALM_CNT.HANDOVERS, Reg.PDP_STATUS.TC_STATE,
    Reg.PDP_STATUS.CONTRACT, Reg.PDP_CONTRACT.V, Reg.PDP_CONTRACT.I, Reg.ENG_UPG.STATE, Reg.ENG_UPG.BED, Reg.ENG_UPG.STEP, Reg.ENG_UPG.BEDS_NEW,
    Reg.ENG_TASK.HOST, Reg.ENG_TASK.STATE, Reg.ENG_TRACE_PTR.WR, Reg.ENG_TRACE_CNT.LOST, Reg.ENG_TRACE_WIN.REC, Reg.GLB_RESET_CAUSE.BED,
    Reg.GLB_RESET_INFO.BED, Reg.PWR_DOM.ON])
  | .pairSnapshotSelect _ => some [Reg.ENG_PAIR_SEL.PAIR, Reg.ENG_PAIR.STATE, Reg.ENG_PAIR.GEN, Reg.ENG_PAIR.TASK, Reg.ENG_PAIR.STRIKES,
    Reg.GLB_ACC_ERR.VALID, Reg.GLB_ACC_ERR.CAUSE, Reg.GLB_ACC_ERR.COUNT, Reg.GLB_ACC_ERR.ADDR]
  | .tineBreakpointHit _ _ => some [Reg.WDG_STATUS.STATE, Reg.SVC_STATUS.HALTED_PAIRS]
  | .thresholdReadback _ => some (safeWrites ++ [Reg.SAF_LATENT.FAIL, Reg.SAF_CNT.LATENT_FAIL])
  | .sundialSilent _ => none
  | .sysWdgQuestion _ => none
  | .autoWarm _ => none
  | .wdgClockFail _ _ => none
  | .pllUnlock _ => none
  | .latentTest _ _ _ _ _ => some (safeWrites ++ [Reg.GLB_HEALTH.SPARE_PAIRS, Reg.GLB_HEALTH.COVERAGE_LOST, Reg.GLB_HEALTH_FE.ICV_SUBST,
    Reg.GLB_HEALTH_FE.FCV_LOST, Reg.ALM_STATUS.SCHEMA, Reg.MSR_FCV_STATUS.STATE, Reg.PDP_STATUS.TC_STATE, Reg.PDP_STATUS.CONTRACT,
    Reg.PDP_CONTRACT.V, Reg.PDP_CONTRACT.I, Reg.ENG_UPG.STATE, Reg.ENG_UPG.BED, Reg.ENG_UPG.STEP, Reg.ENG_UPG.BEDS_NEW, Reg.ENG_CNT.RETIRED,
    Reg.ENG_TASK.HOST, Reg.ENG_TASK.STATE, Reg.SAF_LATENT.FAIL, Reg.SAF_CNT.FG_TRIPS, Reg.SAF_CNT.LATENT_FAIL, Reg.SAF_FG_B.TRIP_OV,
    Reg.SAF_FG_B.TRIP_OC, Reg.SAF_FG_B.TEST_FAIL])
  | .sspNop _ => none
  | .sspRead _ _ => none
  | .sspHeartbeat _ _ => none
  | .sspHaltReq _ _ => none
  | .buttonShipRequest _ => some (duskWrites ++ [Reg.PWR_STATUS.REFUSE])
  | .buttonRunRequest _ => some (duskWrites ++ [Reg.PWR_STATUS.REFUSE])
  | .hostCurtailWrite _ => some (modeWrites ++ [Reg.PWR_CTRL.CURTAIL])
  | .warm _ => none
  | .thermalSensorRead _ => some [Reg.PWR_TEMP.TEMP, Reg.PWR_TEMP.SRC]
  | .thermalShutdown => some (duskWrites ++ [Reg.PWR_TEMP.SHUT, Reg.PWR_CNT.THERM_SHUT, Reg.KEEP_STATUS.VALID, Reg.KEEP_STATUS.FREE,
    Reg.KEEP_STATUS.BAD, Reg.KEEP_WRITES.WRITES])
  | .sentinelRound _ _ => some (leadParkWrites ++ [Reg.SLT_STATUS.ZONE, Reg.SLT_STATUS.RECEIVER, Reg.SLT_STATUS.NTC_A_BAD,
    Reg.SLT_STATUS.NTC_B_BAD, Reg.SLT_TEMP_WIN.T1, Reg.SLT_TEMP_WIN.T2, Reg.SLT_TEMP_WIN.T3, Reg.SLT_TEMP_WIN.T4, Reg.SLT_TEMP.NTC_A,
    Reg.SLT_TEMP.NTC_B, Reg.SLT_VPACK.VPACK, Reg.SLT_LINK.PEER, Reg.MSR_ICV_LAST.VALUE, Reg.GAU_WARN_ST.FIRED])
  | .brownout _ _ => none
  | .brownoutEnd _ _ _ => none
  | .pinReset _ => none
  | .feedLost _ _ => some (safeWrites ++ [Reg.GLB_HEALTH.COVERAGE_LOST, Reg.GLB_HEALTH_FE.FEED_LOST, Reg.PDP_STATUS.TC_STATE,
    Reg.PDP_STATUS.CONTRACT, Reg.PDP_CONTRACT.V, Reg.PDP_CONTRACT.I])
  | .feedGood _ _ => some (eventWrites ++ [Reg.GLB_HEALTH_FE.FEED_LOST])
  | .crystalFail _ _ => none
  | .pllRefSwitch _ _ _ => some (eventWrites ++ [Reg.CLK_STATUS.PLL_REF, Reg.CLK_STATUS.HOLDOVER, Reg.CLK_CNT.REF_SWITCHES])
  | .pllRefReturn _ _ _ _ => some (eventWrites ++ [Reg.GLB_HEALTH.XTAL_LOST, Reg.CLK_STATUS.XTAL_OK, Reg.CLK_STATUS.PLL_REF,
    Reg.CLK_STATUS.HOLDOVER, Reg.CLK_STATUS.TIME_LPO, Reg.CLK_CNT.REF_SWITCHES])
  | .islandOscFail _ _ _ => none
  | .timeTreeUpdate _ => some [Reg.CLK_STATUS.HOLDOVER, Reg.CLK_TIME_ERR.MAX_CORR, Reg.CLK_CNT.TIME_RESYNC]
  | .freezePin _ => some (parkWrites ++ eventWrites ++ [Reg.WDG_STATUS.STATE, Reg.PWR_MODE.MODE, Reg.PWR_MODE.PREV, Reg.PWR_MODE.TARGET,
    Reg.PWR_STATUS.REFUSE, Reg.PWR_STATUS.LAST_SRC, Reg.SVC_STATUS.FROZEN, Reg.SVC_STATUS.DBG_RUN, Reg.SVC_STATUS.FROM, Reg.SVC_FREEZE_T.START_LO,
    Reg.SVC_CNT.FREEZES])
  | .freezeReleasePin _ => none
  | .samplePreload _ => some []
  | .snapRead _ => some [Reg.SVC_STATUS.SNAP_BUSY]
  | .tineDbgReadReg _ _ _ => some [Reg.SVC_STATUS.DBG_DIFF]
  | .tineDbgWriteReg _ _ _ => some []
  | .tineDbgReadData _ _ _ => some [Reg.SVC_STATUS.DBG_DIFF]
  | .tineDbgWriteData _ _ _ => some []
  | .tineDbgReadCode _ _ _ => some [Reg.SVC_STATUS.DBG_DIFF]
  | .tineDbgStep _ _ _ => some [Reg.ENG_TRACE_CNT.LOST]
  | .tineDbgSetBreakpoint _ _ => some []
  | .tineDbgClearBreakpoint _ _ => some []
  | .tineDbgResume _ => some [Reg.WDG_STATUS.STATE, Reg.SVC_STATUS.HALTED_PAIRS]
  | .svcLockKeyWrite _ => some [Reg.SVC_LOCK.BAD]
  | .misalignedAccess _ _ _ _ => some [Reg.GLB_ACC_ERR.VALID, Reg.GLB_ACC_ERR.CAUSE, Reg.GLB_ACC_ERR.COUNT, Reg.GLB_ACC_ERR.ADDR]
  | .registerWrite _ _ _ _ _ _ => none
  | .linkUp _ _ => some (eventWrites ++ [Reg.GLB_HEALTH.PCIE_NARROW, Reg.HIF_LINK.SPEED, Reg.HIF_LINK.WIDTH, Reg.PWR_DOM.ON])
  | .vfEnableWrite _ => none
  | .d3hotExit _ => some (completeWrites)
  | .resetNRelease _ => none
  | .systemRailInRange _ _ _ _ _ => none
  | .startStepTimeout _ => none
  | .twbStartSeen _ _ => some [Reg.TWB_STATUS.BUSY, Reg.TWB_STATUS.USER]
  | .pdSenderResponseTimeout _ => some (leadParkWrites ++ [Reg.SLT_STATUS.RECEIVER, Reg.SLT_LINK.PEER, Reg.PDP_STATUS.VCONN,
    Reg.PDP_STATUS.CONTRACT, Reg.PDP_STATUS.SVC, Reg.PDP_STATUS.REV, Reg.PDP_CONTRACT.V, Reg.PDP_CONTRACT.I, Reg.PDP_CABLE.VALID,
    Reg.PDP_CABLE.EPR_CAP, Reg.PDP_CABLE.CABLE_I, Reg.PDP_CABLE.VMAX, Reg.PDP_CNT.HARD_RESETS, Reg.PDP_CNT.SOFT_RESETS])
  | .pdDiscoverResponse _ _ _ => some (leadParkWrites ++ [Reg.SLT_STATUS.RECEIVER, Reg.SLT_LINK.PEER, Reg.PDP_STATUS.VCONN,
    Reg.PDP_STATUS.CONTRACT, Reg.PDP_STATUS.SVC, Reg.PDP_STATUS.REV, Reg.PDP_CONTRACT.V, Reg.PDP_CONTRACT.I, Reg.PDP_CABLE.VALID,
    Reg.PDP_CABLE.EPR_CAP, Reg.PDP_CABLE.CABLE_I, Reg.PDP_CABLE.VMAX, Reg.PDP_CNT.HARD_RESETS, Reg.PDP_CNT.SOFT_RESETS, Reg.PDP_CNT.RX_ABORTS])
  | .busSensorMismatch => some (eventWrites ++ [Reg.SRC_BUS.MISMATCH])
  | .busGuardTrip => some (eventWrites ++ [Reg.SRC_GUARD.ACTIVE, Reg.SRC_GUARD.TRIPS, Reg.SRC_GUARD.SCALE])
  | .busOvervoltage => some (parkWrites)
  | .busUndervoltage => some [Reg.SRC_GUARD.ACTIVE, Reg.SRC_GUARD.SCALE]
  | .busUvRestart => some []
  | .demandSourceDisable => some (eventWrites ++ [Reg.SRC_PORT_STATUS.ENABLED])
  | .islandBusReady => some [Reg.PDP_STATUS.TC_STATE]
  | .hbTempRead => some (eventWrites)
  | .hbTempSuspend => some [Reg.SRC_HB_STATUS.STATE, Reg.SRC_HB_STATUS.TEMP]
  | .accUvlo => some (leadParkWrites ++ [Reg.SRC_ACC_CTRL.UVLO])
  | .accRestart => some [Reg.SRC_ACC_CTRL.UVLO]
  | .mainsLockLoss => some (eventWrites ++ [Reg.MSR_MAINS.LOCKED, Reg.MSR_MAINS.PERIOD])
  | .mainsFreeTrigger => some [Reg.MSR_ICV_STATUS.STATE, Reg.MSR_ICV_STATUS.TRIG_LATCHED, Reg.MSR_ICV_CNT.TRIG_OVR, Reg.MSR_ICV_CNT.ABORTS]
  | .calZeroExpiry => some []
  | .timeAnchor => some (eventWrites)
  | .perst => none
  | .pfFlr => none
  | .fenceRelease => some (completeWrites)
  | .fenceTimeout => some (completeWrites)
  | .rolloutDwellEnd => some (safeWrites ++ [Reg.GLB_HEALTH.COVERAGE_LOST, Reg.ALM_STATUS.SCHEMA, Reg.PDP_STATUS.TC_STATE,
    Reg.PDP_STATUS.CONTRACT, Reg.PDP_CONTRACT.V, Reg.PDP_CONTRACT.I, Reg.ENG_UPG.STATE, Reg.ENG_UPG.BED, Reg.ENG_UPG.STEP, Reg.ENG_UPG.BEDS_NEW,
    Reg.ENG_TASK.HOST, Reg.ENG_TASK.STATE])
  | .traceWindowRead => some [Reg.ENG_TRACE_PTR.RD, Reg.ENG_TRACE_WIN.REC]
  | .sundialLockstepMismatch => none
  | .safCtrlHalt => none
  | .latentNow => some []
  | .safeRecovered => some (eventWrites)
  | .sspFrameError => some [Reg.SAF_SSP.SPI_ERR_CNT]
  | .sspSilent => some (eventWrites ++ [Reg.SAF_STATUS.SSP_LIVE])
  | .modeRequestShip => some (duskWrites ++ [Reg.PWR_STATUS.REFUSE])
  | .modeRequestSentinel => some (duskWrites ++ [Reg.PWR_STATUS.REFUSE])
  | .modeRequestRun => some (duskWrites ++ [Reg.PWR_STATUS.REFUSE])
  | .thermalCurtailOn => some (modeWrites ++ [Reg.PWR_TEMP.CURT_THERM])
  | .thermalCurtailOff => some (modeWrites ++ [Reg.PWR_TEMP.CURT_THERM])
  | .thermalShutdownEnd => some (eventWrites ++ [Reg.PWR_MODE.TARGET, Reg.PWR_CTRL.REQ, Reg.PWR_TEMP.SHUT, Reg.PWR_STATUS.REFUSE,
    Reg.PWR_STATUS.LAST_SRC])
  | .islandLowBattery => some (duskWrites)
  | .por => none
  | .snapStreamEnd => none
  | .bypass => some []
  | .idcode => some []
  | .extest => some []
  | .freeze => some (parkWrites ++ eventWrites ++ [Reg.WDG_STATUS.STATE, Reg.PWR_MODE.MODE, Reg.PWR_MODE.PREV, Reg.PWR_MODE.TARGET,
    Reg.PWR_STATUS.REFUSE, Reg.PWR_STATUS.LAST_SRC, Reg.SVC_STATUS.FROZEN, Reg.SVC_STATUS.DBG_RUN, Reg.SVC_STATUS.FROM, Reg.SVC_FREEZE_T.START_LO,
    Reg.SVC_CNT.FREEZES])
  | .thaw => none
  | .thawDbg => none
  | .svcStatus => some []
  | .glbTimeRead => some [Reg.GLB_TIME_LO.TIME_LO, Reg.GLB_TIME_HI.TIME_HI]
  | .serviceLockFuseBlown => some (eventWrites ++ [Reg.SVC_STATUS.LOCKED])

/-- The parts of the state beside the register file. -/
inductive Part where
  | clock | fns | rings | host | lanes | out | freeCtr | chans | slots | gauges | keepLocs | keep | keys | ports | twb | house |
  grid | srcs | icvs | fcvs | mains | pendZ | groups | alm | power | pairs | tasks | eng | trace | sun | clk | svc | tines | chals
  deriving DecidableEq, Repr

/-- A part is as it was. -/
def Part.same (s t : State) : Part → Prop
  | .clock => t.time = s.time
  | .fns => t.fns = s.fns
  | .rings => t.rings = s.rings
  | .host => t.host = s.host
  | .lanes => t.lanes = s.lanes
  | .out => t.out = s.out
  | .freeCtr => t.freeCtr = s.freeCtr
  | .chans => t.chans = s.chans
  | .slots => t.slots = s.slots
  | .gauges => t.gauges = s.gauges
  | .keepLocs => t.keepLocs = s.keepLocs
  | .keep => t.keep = s.keep
  | .keys => t.keys = s.keys
  | .ports => t.ports = s.ports
  | .twb => t.twb = s.twb
  | .house => t.house = s.house
  | .grid => t.grid = s.grid
  | .srcs => t.srcs = s.srcs
  | .icvs => t.icvs = s.icvs
  | .fcvs => t.fcvs = s.fcvs
  | .mains => t.mains = s.mains
  | .pendZ => t.pendZ = s.pendZ
  | .groups => t.groups = s.groups
  | .alm => t.alm = s.alm
  | .power => t.power = s.power
  | .pairs => t.pairs = s.pairs
  | .tasks => t.tasks = s.tasks
  | .eng => t.eng = s.eng
  | .trace => t.trace = s.trace
  | .sun => t.sun = s.sun
  | .clk => t.clk = s.clk
  | .svc => t.svc = s.svc
  | .tines => t.tines = s.tines
  | .chals => t.chals = s.chals

/-- What every event changes beside registers: its function's buckets, its ring and the messages that go out. -/
def eventParts : List Part := [.fns, .rings, .out]

/-- The parts of the state that a command may change. -/
def partsOf : Instr → List Part
  | .runnerFlitReceive _ _ _ _ _ _ => eventParts ++ [.host, .lanes, .chans, .slots, .gauges, .keep, .ports, .twb, .house, .grid, .icvs, .fcvs,
    .pendZ, .groups, .alm, .power, .pairs, .tasks, .eng, .trace, .clk, .svc]
  | .laneFault _ _ _ _ => eventParts ++ [.host, .lanes, .chans, .slots, .gauges, .keep, .ports, .twb, .house, .grid, .icvs, .fcvs, .pendZ,
    .groups, .alm, .power, .pairs, .tasks, .eng, .trace, .clk, .svc]
  | .busSample _ _ => eventParts ++ [.chans, .slots, .gauges, .keep, .ports, .twb, .grid, .srcs, .fcvs]
  | .modulatorStuck _ _ => eventParts ++ [.grid, .srcs]
  | .busBelowPack _ => eventParts ++ [.chans, .slots, .gauges, .keep, .ports, .twb, .fcvs]
  | .sourcePresenceRise _ _ => eventParts ++ [.srcs, .svc]
  | .sourceLost _ _ => eventParts ++ [.host, .freeCtr, .chans, .slots, .gauges, .keep, .ports, .twb, .house, .grid, .srcs, .fcvs, .svc]
  | .sourceQualified _ => eventParts ++ [.host, .chans, .slots, .gauges, .keep, .ports, .twb, .grid, .srcs, .fcvs, .power]
  | .srcLimitWrite _ _ => eventParts
  | .srcModeWrite _ _ => eventParts ++ [.host, .freeCtr, .chans, .slots, .gauges, .keep, .ports, .twb, .house, .grid, .srcs, .fcvs]
  | .islandDonorFloor _ => eventParts ++ [.host, .chans, .slots, .gauges, .keep, .ports, .twb, .grid, .fcvs]
  | .islandSourceReturn _ => eventParts ++ [.grid, .srcs]
  | .hbChargerTransition _ _ _ _ => [.house]
  | .hbFault _ => eventParts ++ [.house]
  | .shipWake _ _ => eventParts ++ [.clock, .host, .lanes, .chans, .slots, .gauges, .keep, .ports, .twb, .house, .grid, .srcs, .icvs, .fcvs,
    .mains, .pendZ, .groups, .alm, .power, .pairs, .tasks, .eng, .trace, .sun, .clk, .svc, .tines]
  | .currentUpdate _ _ _ _ => eventParts ++ [.chans, .slots, .gauges, .keep, .ports, .twb, .fcvs, .eng]
  | .apply _ => [.chans]
  | .riseAbort _ => eventParts ++ [.chans, .slots, .gauges, .keep, .ports, .twb, .fcvs]
  | .softLevelUpdate _ _ => eventParts ++ [.chans, .slots, .gauges, .keep, .ports, .twb, .fcvs]
  | .startBackoffEnd _ _ => eventParts ++ [.chans, .slots, .gauges, .keep, .ports, .twb, .fcvs]
  | .retriesReset _ => []
  | .peakLimitTruncate _ _ _ => [.chans]
  | .phcEnableWrite _ _ => eventParts ++ [.chans, .slots, .gauges, .keep, .ports, .twb, .fcvs]
  | .syncInEdge _ => [.chans]
  | .syncLoss _ _ => eventParts ++ [.chans]
  | .syncRelock _ _ => [.chans]
  | .phaseAddMeasured _ => [.chans]
  | .phaseShed _ => [.chans]
  | .phaseHandoverEnd _ => [.chans]
  | .gangWrite _ => [.slots]
  | .imbalanceCheck _ => eventParts ++ [.chans]
  | .drvFault _ _ => eventParts ++ [.chans, .slots, .gauges, .keep, .ports, .twb, .fcvs]
  | .runaway _ _ => eventParts ++ [.chans, .slots, .gauges, .keep, .ports, .twb, .fcvs]
  | .commitStale _ => eventParts ++ [.chans, .slots, .gauges, .keep, .ports, .twb, .fcvs]
  | .idPinClose _ => eventParts ++ [.slots, .eng, .svc]
  | .debounceEnd _ => eventParts ++ [.slots, .twb]
  | .wetTestComplete _ _ _ => eventParts ++ [.slots, .icvs, .fcvs]
  | .idDecode _ _ => [.slots]
  | .identificationComplete _ => eventParts ++ [.slots, .gauges]
  | .identificationFail _ => eventParts ++ [.host, .slots, .twb]
  | .identRetry _ => eventParts ++ [.slots, .twb]
  | .identityLoss _ _ _ => eventParts ++ [.host, .chans, .slots, .gauges, .keep, .ports, .twb, .fcvs, .eng, .svc]
  | .packRemoval _ _ => eventParts ++ [.host, .chans, .slots, .gauges, .keep, .ports, .twb, .fcvs, .eng, .svc]
  | .slotEnableWrite _ _ => eventParts ++ [.host, .chans, .slots, .gauges, .keep, .ports, .twb, .fcvs, .eng]
  | .slotFaultClear _ => eventParts ++ [.slots, .gauges, .twb, .fcvs, .tasks, .eng]
  | .chargePhaseAdvance _ => [.slots]
  | .cvEntry _ => [.slots]
  | .packSag _ => eventParts ++ [.slots]
  | .chargePhaseTimeout _ => eventParts ++ [.chans, .slots, .gauges, .keep, .ports, .twb, .fcvs]
  | .cvMaxExpiry _ => eventParts ++ [.freeCtr, .chans, .slots, .gauges, .keep, .ports, .twb, .fcvs]
  | .cvMaxParkFail _ => eventParts ++ [.chans, .slots, .gauges, .keep, .ports, .twb, .fcvs]
  | .slotSuspend _ => []
  | .ntcBothInvalid _ => eventParts ++ [.chans, .slots, .gauges, .keep, .ports, .twb, .fcvs]
  | .taperCheck _ => eventParts ++ [.slots]
  | .serialPoll _ => eventParts ++ [.slots, .twb]
  | .transferEnd _ => eventParts ++ [.chans, .slots, .gauges, .keep, .ports, .twb, .fcvs]
  | .auditFillComplete _ => eventParts ++ [.chans, .slots, .gauges, .keep, .ports, .twb, .fcvs]
  | .auditRestEnd _ => eventParts ++ [.chans, .slots, .gauges, .keep, .ports, .twb, .fcvs]
  | .auditPause _ => eventParts ++ [.chans, .slots, .gauges, .keep, .ports, .twb, .fcvs]
  | .auditResume _ => [.slots]
  | .auditEmpty _ => eventParts ++ [.chans, .slots, .gauges, .keep, .ports, .twb, .fcvs]
  | .auditPauseLimit _ => eventParts ++ [.chans, .slots, .gauges, .keep, .ports, .twb, .fcvs]
  | .fgOvTrip _ _ _ => eventParts ++ [.chans, .slots, .gauges, .keep, .ports, .twb, .fcvs, .eng, .svc]
  | .fgOcTrip _ _ _ => eventParts ++ [.chans, .slots, .gauges, .keep, .ports, .twb, .fcvs, .eng, .svc]
  | .fgRvTrip _ _ _ => eventParts ++ [.chans, .slots, .gauges, .keep, .ports, .twb, .fcvs, .eng, .svc]
  | .fgNtcTrip _ _ _ _ => eventParts ++ [.chans, .slots, .gauges, .keep, .ports, .twb, .fcvs, .eng, .svc]
  | .tickBoundary _ _ => eventParts ++ [.clock, .host, .lanes, .freeCtr, .chans, .slots, .gauges, .keep, .ports, .twb, .house, .grid, .srcs,
    .icvs, .fcvs, .mains, .pendZ, .groups, .alm, .power, .pairs, .tasks, .eng, .trace, .sun, .clk, .svc, .tines]
  | .tickFreeze _ => [.alm]
  | .quotaOverRepeat _ => eventParts
  | .resvAtRisk _ => eventParts ++ [.freeCtr]
  | .resvDeadline _ => eventParts
  | .rootHandover _ _ => eventParts ++ [.clock, .host, .lanes, .freeCtr, .chans, .slots, .gauges, .keep, .ports, .twb, .house, .grid, .srcs,
    .icvs, .fcvs, .mains, .pendZ, .groups, .alm, .power, .pairs, .tasks, .eng, .trace, .sun, .clk, .svc, .tines]
  | .almViewSelect _ => []
  | .mainsCrossing _ => eventParts ++ [.icvs, .mains]
  | .icvConversionStart _ => [.icvs, .fcvs]
  | .icvIntegrationEnd _ _ _ _ _ => eventParts ++ [.host, .chans, .slots, .gauges, .keep, .ports, .twb, .icvs, .fcvs]
  | .icvConversionTimeout _ => eventParts ++ [.chans, .slots, .gauges, .keep, .ports, .twb, .icvs, .fcvs]
  | .icvPassStart _ => [.icvs, .fcvs]
  | .icvTrigger _ => [.icvs]
  | .groupTrigger _ => [.groups]
  | .groupStart _ => [.icvs, .groups]
  | .urgentConversionStart _ => [.icvs]
  | .fcvConversionEnd _ _ _ => eventParts ++ [.host, .chans, .slots, .gauges, .keep, .ports, .twb, .icvs, .fcvs]
  | .refereeFinding _ _ _ _ => eventParts ++ [.chans, .slots, .gauges, .keep, .ports, .twb, .icvs, .fcvs]
  | .fcvSelfTest _ _ _ => eventParts ++ [.chans, .slots, .gauges, .keep, .ports, .twb, .icvs, .fcvs]
  | .fcvLostInjectionCheck _ _ _ _ => eventParts ++ [.chans, .slots, .gauges, .keep, .ports, .twb, .icvs, .fcvs]
  | .dacInjectWrite _ _ _ _ _ => []
  | .calAverageDone _ => eventParts ++ [.host, .keep, .icvs, .fcvs, .pendZ]
  | .coulombSample _ _ => [.gauges]
  | .gauAccRead _ => []
  | .gaugeReportUpdate _ => eventParts ++ [.slots, .gauges]
  | .autoZeroTrim _ => eventParts ++ [.gauges]
  | .fullAnchor _ => [.gauges]
  | .gaugeSnapshotTimed _ => [.rings, .out]
  | .currentXcheck _ => [.gauges]
  | .currentReferee _ _ => eventParts ++ [.chans, .slots, .gauges, .keep, .ports, .twb, .icvs, .fcvs]
  | .outputVReferee _ _ => eventParts ++ [.chans, .slots, .gauges, .keep, .ports, .twb, .icvs, .fcvs]
  | .pcieLaneFault _ => eventParts ++ [.host, .slots, .ports, .twb, .icvs, .fcvs, .pendZ, .eng]
  | .doorbellPoll _ _ => eventParts
  | .descriptorFetch _ _ _ => eventParts ++ [.host, .freeCtr, .chans, .slots, .gauges, .keep, .ports, .twb, .icvs, .fcvs, .alm, .tasks, .eng]
  | .msixModerationTimeout _ _ => [.rings, .out]
  | .statusLineWrite _ => [.fns, .out]
  | .flr _ => eventParts ++ [.host, .slots, .ports, .twb, .icvs, .fcvs, .pendZ, .eng]
  | .d3hotEntry _ => [.fns]
  | .hostReadError _ _ _ => eventParts
  | .doorbellPageWrite _ _ => eventParts ++ [.freeCtr, .slots]
  | .ringEnableWrite _ _ _ => eventParts ++ [.keep, .eng]
  | .nop _ => eventParts ++ [.host, .freeCtr, .chans, .slots, .gauges, .keep, .ports, .twb, .fcvs]
  | .slotClaim _ => eventParts ++ [.host, .freeCtr, .chans, .slots, .gauges, .keep, .ports, .twb, .fcvs]
  | .slotRelease _ => eventParts ++ [.host, .freeCtr, .chans, .slots, .gauges, .keep, .ports, .twb, .fcvs]
  | .chargeStart _ _ _ _ => eventParts ++ [.host, .freeCtr, .chans, .slots, .gauges, .keep, .ports, .twb, .fcvs]
  | .chargeTerminate _ => eventParts ++ [.host, .freeCtr, .chans, .slots, .gauges, .keep, .ports, .twb, .fcvs]
  | .setLimits _ _ => eventParts ++ [.host, .freeCtr, .chans, .slots, .gauges, .keep, .ports, .twb, .fcvs, .tasks]
  | .reserve _ _ _ _ => eventParts ++ [.host, .freeCtr, .chans, .slots, .gauges, .keep, .ports, .twb, .fcvs]
  | .transfer _ _ => eventParts ++ [.host, .freeCtr, .chans, .slots, .gauges, .keep, .ports, .twb, .fcvs]
  | .audit _ _ _ => eventParts ++ [.host, .freeCtr, .chans, .slots, .gauges, .keep, .ports, .twb, .fcvs]
  | .gaugeRestore _ _ => eventParts ++ [.host, .freeCtr, .chans, .slots, .gauges, .keep, .ports, .twb, .fcvs]
  | .gaugeSnapshot _ => eventParts ++ [.host, .freeCtr, .chans, .slots, .gauges, .keep, .ports, .twb, .fcvs]
  | .measTableLoad _ _ _ => eventParts ++ [.host, .freeCtr, .chans, .slots, .gauges, .keep, .ports, .twb, .icvs, .fcvs]
  | .measUrgent _ _ _ _ => eventParts ++ [.host, .freeCtr, .chans, .slots, .gauges, .keep, .ports, .twb, .icvs, .fcvs]
  | .calZero _ _ _ _ _ => eventParts ++ [.host, .freeCtr, .chans, .slots, .gauges, .keep, .ports, .twb, .icvs, .fcvs]
  | .calFull _ _ _ _ _ => eventParts ++ [.host, .freeCtr, .chans, .slots, .gauges, .keep, .ports, .twb, .icvs, .fcvs]
  | .twbXfer _ _ => eventParts ++ [.host, .freeCtr, .chans, .slots, .gauges, .keep, .ports, .twb, .fcvs]
  | .pdPolicyHold _ _ => eventParts ++ [.host, .freeCtr, .chans, .slots, .gauges, .keep, .ports, .twb, .fcvs]
  | .pdPolicyRelease _ => eventParts ++ [.host, .freeCtr, .chans, .slots, .gauges, .keep, .ports, .twb, .fcvs]
  | .pdPolicySet _ _ => eventParts ++ [.host, .freeCtr, .chans, .slots, .gauges, .keep, .ports, .twb, .fcvs]
  | .pdPolicySoftReset _ => eventParts ++ [.host, .freeCtr, .chans, .slots, .gauges, .keep, .ports, .twb, .fcvs]
  | .pdPolicyHardReset _ => eventParts ++ [.host, .freeCtr, .chans, .slots, .gauges, .keep, .ports, .twb, .fcvs]
  | .enterService _ => eventParts ++ [.host, .freeCtr, .chans, .slots, .gauges, .keep, .ports, .twb, .fcvs]
  | .exitService _ => eventParts ++ [.host, .freeCtr, .chans, .slots, .gauges, .keep, .ports, .twb, .fcvs]
  | .wdgAnswer _ _ _ => eventParts ++ [.host, .freeCtr, .chans, .slots, .gauges, .keep, .ports, .twb, .fcvs]
  | .fence _ _ _ _ _ => eventParts ++ [.host, .freeCtr, .chans, .slots, .gauges, .keep, .ports, .twb, .fcvs]
  | .quotaSet _ _ => eventParts ++ [.host, .freeCtr, .chans, .slots, .gauges, .keep, .ports, .twb, .fcvs]
  | .keyWrite _ _ => eventParts ++ [.host, .freeCtr, .chans, .slots, .gauges, .keep, .ports, .twb, .fcvs]
  | .microcodeStage _ _ _ _ => eventParts ++ [.host, .freeCtr, .chans, .slots, .gauges, .keep, .ports, .twb, .fcvs, .eng]
  | .microcodeStageComplete _ _ => eventParts ++ [.host, .eng]
  | .microcodeRoll _ _ => eventParts ++ [.host, .freeCtr, .chans, .slots, .gauges, .keep, .ports, .twb, .fcvs, .alm, .tasks, .eng]
  | .microcodeAbort _ => eventParts ++ [.host, .freeCtr, .chans, .slots, .gauges, .keep, .ports, .twb, .fcvs, .alm, .tasks, .eng]
  | .microcodeDiscard _ => eventParts ++ [.host, .freeCtr, .chans, .slots, .gauges, .keep, .ports, .twb, .fcvs, .eng]
  | .seal _ => eventParts ++ [.host, .freeCtr, .chans, .slots, .gauges, .keep, .ports, .twb, .fcvs]
  | .unknownOpcode _ _ => eventParts
  | .keepWrite _ => eventParts ++ [.host, .freeCtr, .chans, .slots, .gauges, .keepLocs, .keep, .keys, .ports, .twb, .fcvs, .eng]
  | .wdgQuestion _ => eventParts ++ [.freeCtr, .slots]
  | .rateLimit _ => eventParts
  | .twbTransactionStart _ => eventParts ++ [.host, .freeCtr, .slots, .twb, .chals]
  | .twbTransactionEnd _ _ => eventParts ++ [.host, .chans, .slots, .gauges, .keep, .ports, .twb, .house, .fcvs]
  | .identBusRetry _ => eventParts ++ [.slots, .twb]
  | .twbSclTimeout _ _ => eventParts ++ [.host, .slots, .twb]
  | .twbSdaTimeout _ _ _ => eventParts ++ [.host, .slots, .twb]
  | .twbArbLoss _ _ => eventParts ++ [.host, .slots, .twb]
  | .twbTargetTransaction _ _ => eventParts ++ [.host, .chans, .slots, .gauges, .keep, .ports, .twb, .fcvs, .power]
  | .twbSleep _ => [.twb]
  | .twbAlertIn _ _ => eventParts ++ [.slots, .twb]
  | .twbAlertReread _ => eventParts ++ [.slots, .twb]
  | .alertReq _ _ => []
  | .cancel _ => eventParts ++ [.host, .twb]
  | .recover _ _ => eventParts ++ [.host, .slots, .twb]
  | .twbXferTimeout _ => eventParts ++ [.host, .twb]
  | .pdRdDetect _ _ _ => [.ports]
  | .pdAttach _ => eventParts ++ [.ports]
  | .pdVbusReady _ _ => [.out, .ports]
  | .pdCableIdentity _ _ _ _ _ => eventParts ++ [.host, .chans, .slots, .gauges, .keep, .ports, .twb, .fcvs]
  | .pdRequest _ _ _ _ _ _ => eventParts ++ [.host, .chans, .slots, .gauges, .keep, .ports, .twb, .fcvs]
  | .pdPsRdy _ _ _ => eventParts ++ [.host, .chans, .slots, .gauges, .keep, .ports, .twb, .fcvs]
  | .pdEprEnter _ _ => eventParts ++ [.host, .chans, .slots, .gauges, .keep, .ports, .twb, .fcvs]
  | .pdEprKeepaliveTimeout _ => eventParts ++ [.host, .chans, .slots, .gauges, .keep, .ports, .twb, .fcvs]
  | .pdVconnSwap _ _ => eventParts ++ [.host, .chans, .slots, .gauges, .keep, .ports, .twb, .fcvs]
  | .pdVconnOvercurrent _ _ _ => eventParts ++ [.ports]
  | .pdHardReset _ _ _ => eventParts ++ [.host, .chans, .slots, .gauges, .keep, .ports, .twb, .fcvs]
  | .pdHardResetPark _ => [.chans, .slots, .ports]
  | .pdVsafe0vHoldEnd _ _ => [.ports]
  | .pdSoftResetReceived _ _ => eventParts ++ [.host, .chans, .slots, .gauges, .keep, .ports, .twb, .fcvs]
  | .pdSoftResetTimeout _ => eventParts ++ [.host, .chans, .slots, .gauges, .keep, .ports, .twb, .fcvs]
  | .pdUnsupportedMessage _ _ _ _ => eventParts ++ [.host, .chans, .slots, .gauges, .keep, .ports, .twb, .fcvs]
  | .pdEnterModeAck _ _ => eventParts ++ [.host, .chans, .slots, .gauges, .keep, .ports, .twb, .fcvs]
  | .pdDetach _ => eventParts ++ [.host, .chans, .slots, .gauges, .keep, .ports, .twb, .fcvs]
  | .pdOvp _ _ => eventParts ++ [.host, .chans, .slots, .gauges, .keep, .ports, .twb, .fcvs]
  | .pdOcp _ => eventParts ++ [.host, .chans, .slots, .gauges, .keep, .ports, .twb, .fcvs]
  | .pdErrorRecoveryEnd _ => eventParts ++ [.host, .chans, .slots, .gauges, .keep, .ports, .twb, .fcvs]
  | .pdFaultClear _ => [.ports, .tasks]
  | .taskPeriod _ _ _ => [.out, .tasks, .eng]
  | .taskFault _ _ _ => eventParts ++ [.host, .chans, .slots, .gauges, .keep, .ports, .twb, .fcvs, .alm, .tasks, .eng]
  | .pairDisagree _ _ _ => eventParts ++ [.host, .chans, .slots, .gauges, .keep, .ports, .twb, .fcvs, .alm, .pairs, .tasks, .eng, .trace]
  | .pairSelfTestEnd _ _ => eventParts ++ [.host, .chans, .slots, .gauges, .keep, .ports, .twb, .fcvs, .alm, .pairs, .tasks, .eng]
  | .taskMigrationResume _ => eventParts ++ [.host, .chans, .slots, .gauges, .keep, .ports, .twb, .house, .icvs, .fcvs, .alm, .tasks, .eng]
  | .bedFault _ => eventParts ++ [.host, .chans, .slots, .gauges, .keep, .ports, .twb, .fcvs, .alm, .pairs, .tasks, .eng, .trace]
  | .barrierRelease _ => [.out, .tasks, .eng]
  | .barrierTimeout _ _ => eventParts ++ [.host, .chans, .slots, .gauges, .keep, .ports, .twb, .fcvs, .alm, .tasks, .eng]
  | .rolloutBedStep _ => eventParts ++ [.host, .chans, .slots, .gauges, .keep, .ports, .twb, .fcvs, .alm, .pairs, .tasks, .eng, .trace]
  | .pairSnapshotSelect _ => []
  | .tineBreakpointHit _ _ => [.pairs, .sun]
  | .thresholdReadback _ => eventParts ++ [.chans, .slots, .gauges, .keep, .ports, .twb, .fcvs]
  | .sundialSilent _ => eventParts ++ [.host, .chans, .slots, .ports, .twb, .house, .grid, .icvs, .fcvs, .pendZ, .groups, .alm, .power, .pairs,
    .tasks, .eng, .trace, .svc]
  | .sysWdgQuestion _ => eventParts ++ [.host, .freeCtr, .chans, .slots, .ports, .twb, .house, .grid, .icvs, .fcvs, .pendZ, .groups, .alm,
    .power, .pairs, .tasks, .eng, .trace, .sun, .svc]
  | .autoWarm _ => eventParts ++ [.clock, .host, .lanes, .freeCtr, .chans, .slots, .gauges, .keepLocs, .keep, .keys, .ports, .twb, .house, .grid,
    .srcs, .icvs, .fcvs, .mains, .pendZ, .groups, .alm, .power, .pairs, .tasks, .eng, .trace, .sun, .clk, .svc, .tines]
  | .wdgClockFail _ _ => eventParts ++ [.host, .chans, .slots, .ports, .twb, .house, .grid, .icvs, .fcvs, .pendZ, .groups, .alm, .power, .pairs,
    .tasks, .eng, .trace, .svc]
  | .pllUnlock _ => eventParts ++ [.host, .chans, .slots, .ports, .twb, .house, .grid, .icvs, .fcvs, .pendZ, .groups, .alm, .power, .pairs,
    .tasks, .eng, .trace, .svc]
  | .latentTest _ _ _ _ _ => eventParts ++ [.host, .chans, .slots, .gauges, .keep, .ports, .twb, .fcvs, .alm, .pairs, .tasks, .eng, .sun]
  | .sspNop _ => eventParts ++ [.host, .chans, .slots, .ports, .twb, .house, .grid, .icvs, .fcvs, .pendZ, .groups, .alm, .power, .pairs, .tasks,
    .eng, .trace, .sun, .svc]
  | .sspRead _ _ => eventParts ++ [.host, .freeCtr, .chans, .slots, .ports, .twb, .house, .grid, .icvs, .fcvs, .pendZ, .groups, .alm, .power,
    .pairs, .tasks, .eng, .trace, .sun, .svc]
  | .sspHeartbeat _ _ => eventParts ++ [.host, .chans, .slots, .ports, .twb, .house, .grid, .icvs, .fcvs, .pendZ, .groups, .alm, .power, .pairs,
    .tasks, .eng, .trace, .sun, .svc]
  | .sspHaltReq _ _ => eventParts ++ [.host, .chans, .slots, .ports, .twb, .house, .grid, .icvs, .fcvs, .pendZ, .groups, .alm, .power, .pairs,
    .tasks, .eng, .trace, .sun, .svc]
  | .buttonShipRequest _ => eventParts ++ [.host, .chans, .slots, .gauges, .keep, .ports, .twb, .fcvs, .power, .svc]
  | .buttonRunRequest _ => eventParts ++ [.host, .chans, .slots, .gauges, .keep, .ports, .twb, .fcvs, .power, .svc]
  | .hostCurtailWrite _ => eventParts ++ [.freeCtr, .chans, .slots, .gauges, .keep, .ports, .twb, .house, .srcs, .fcvs]
  | .warm _ => eventParts ++ [.clock, .host, .lanes, .freeCtr, .chans, .slots, .gauges, .keepLocs, .keep, .keys, .ports, .twb, .house, .grid,
    .srcs, .icvs, .fcvs, .mains, .pendZ, .groups, .alm, .power, .pairs, .tasks, .eng, .trace, .sun, .clk, .svc, .tines]
  | .thermalSensorRead _ => [.keep, .power]
  | .thermalShutdown => eventParts ++ [.host, .chans, .slots, .gauges, .keepLocs, .keep, .ports, .twb, .fcvs, .power]
  | .sentinelRound _ _ => eventParts ++ [.chans, .slots, .gauges, .keep, .ports, .twb, .icvs, .fcvs, .eng]
  | .brownout _ _ => [.clock, .fns, .rings, .host, .lanes, .freeCtr, .chans, .slots, .gauges, .keepLocs, .keep, .ports, .twb, .house, .grid,
    .srcs, .icvs, .fcvs, .mains, .pendZ, .groups, .alm, .power, .pairs, .tasks, .eng, .trace, .sun, .clk, .svc, .tines]
  | .brownoutEnd _ _ _ => eventParts ++ [.clock, .host, .lanes, .freeCtr, .chans, .slots, .gauges, .keepLocs, .keep, .keys, .ports, .twb, .house,
    .grid, .srcs, .icvs, .fcvs, .pendZ, .groups, .alm, .power, .pairs, .tasks, .eng, .trace, .sun, .svc]
  | .pinReset _ => [.clock, .fns, .rings, .host, .lanes, .freeCtr, .chans, .slots, .gauges, .keepLocs, .keep, .ports, .twb, .house, .grid, .srcs,
    .icvs, .fcvs, .mains, .pendZ, .groups, .alm, .power, .pairs, .tasks, .eng, .trace, .sun, .clk, .svc, .tines]
  | .feedLost _ _ => eventParts ++ [.chans, .slots, .gauges, .keep, .ports, .twb, .fcvs, .svc]
  | .feedGood _ _ => eventParts
  | .crystalFail _ _ => eventParts ++ [.host, .chans, .slots, .ports, .twb, .house, .grid, .icvs, .fcvs, .pendZ, .groups, .alm, .power, .pairs,
    .tasks, .eng, .trace, .clk, .svc]
  | .pllRefSwitch _ _ _ => eventParts ++ [.clk]
  | .pllRefReturn _ _ _ _ => eventParts ++ [.clk]
  | .islandOscFail _ _ _ => eventParts ++ [.host, .chans, .slots, .gauges, .keep, .ports, .twb, .house, .grid, .icvs, .fcvs, .pendZ, .groups,
    .alm, .power, .pairs, .tasks, .eng, .trace, .clk, .svc]
  | .timeTreeUpdate _ => [.clk]
  | .freezePin _ => eventParts ++ [.chans, .slots, .ports, .house, .power, .sun, .svc]
  | .freezeReleasePin _ => eventParts ++ [.host, .freeCtr, .chans, .slots, .gauges, .keep, .ports, .twb, .house, .grid, .srcs, .icvs, .fcvs,
    .mains, .pendZ, .groups, .alm, .power, .pairs, .tasks, .eng, .trace, .sun, .clk, .svc, .tines]
  | .samplePreload _ => [.freeCtr, .svc]
  | .snapRead _ => [.out, .svc]
  | .tineDbgReadReg _ _ _ => [.freeCtr, .svc, .tines]
  | .tineDbgWriteReg _ _ _ => [.tasks, .svc, .tines]
  | .tineDbgReadData _ _ _ => [.freeCtr, .svc, .tines]
  | .tineDbgWriteData _ _ _ => [.tasks, .svc, .tines]
  | .tineDbgReadCode _ _ _ => [.freeCtr, .svc, .tines]
  | .tineDbgStep _ _ _ => [.out, .tasks, .eng, .svc, .tines]
  | .tineDbgSetBreakpoint _ _ => [.pairs, .svc]
  | .tineDbgClearBreakpoint _ _ => [.pairs, .svc]
  | .tineDbgResume _ => [.pairs, .sun, .svc, .tines]
  | .svcLockKeyWrite _ => [.svc]
  | .misalignedAccess _ _ _ _ => [.out]
  | .registerWrite _ _ _ _ _ _ => eventParts ++ [.clock, .host, .lanes, .freeCtr, .chans, .slots, .gauges, .keepLocs, .keep, .keys, .ports, .twb,
    .house, .grid, .srcs, .icvs, .fcvs, .mains, .pendZ, .groups, .alm, .power, .pairs, .tasks, .eng, .trace, .sun, .clk, .svc, .tines]
  | .linkUp _ _ => eventParts ++ [.host]
  | .vfEnableWrite _ => eventParts ++ [.host, .slots, .ports, .twb, .icvs, .fcvs, .pendZ, .eng]
  | .d3hotExit _ => eventParts
  | .resetNRelease _ => eventParts ++ [.clock, .host, .lanes, .freeCtr, .chans, .slots, .gauges, .keepLocs, .keep, .keys, .ports, .twb, .house,
    .grid, .srcs, .icvs, .fcvs, .pendZ, .groups, .alm, .power, .pairs, .tasks, .eng, .trace, .sun, .svc]
  | .systemRailInRange _ _ _ _ _ => eventParts ++ [.clock, .host, .lanes, .freeCtr, .chans, .slots, .gauges, .keepLocs, .keep, .keys, .ports,
    .twb, .house, .grid, .srcs, .icvs, .fcvs, .pendZ, .groups, .alm, .power, .pairs, .tasks, .eng, .trace, .sun, .svc]
  | .startStepTimeout _ => eventParts ++ [.host, .chans, .slots, .ports, .twb, .house, .grid, .icvs, .fcvs, .pendZ, .groups, .alm, .power,
    .pairs, .tasks, .eng, .trace, .svc]
  | .twbStartSeen _ _ => [.twb]
  | .pdSenderResponseTimeout _ => eventParts ++ [.host, .chans, .slots, .gauges, .keep, .ports, .twb, .fcvs]
  | .pdDiscoverResponse _ _ _ => eventParts ++ [.host, .chans, .slots, .gauges, .keep, .ports, .twb, .fcvs]
  | .busSensorMismatch => eventParts
  | .busGuardTrip => eventParts ++ [.chans, .grid]
  | .busOvervoltage => [.chans, .slots, .ports]
  | .busUndervoltage => [.chans, .grid]
  | .busUvRestart => [.grid]
  | .demandSourceDisable => eventParts ++ [.grid, .srcs]
  | .islandBusReady => [.out, .ports, .grid]
  | .hbTempRead => eventParts ++ [.slots, .twb]
  | .hbTempSuspend => [.house]
  | .accUvlo => eventParts ++ [.chans, .slots, .gauges, .keep, .ports, .twb, .fcvs]
  | .accRestart => []
  | .mainsLockLoss => eventParts ++ [.icvs, .mains]
  | .mainsFreeTrigger => [.icvs, .groups]
  | .calZeroExpiry => [.pendZ]
  | .timeAnchor => eventParts
  | .perst => eventParts ++ [.host, .slots, .ports, .twb, .icvs, .fcvs, .pendZ, .eng, .svc]
  | .pfFlr => eventParts ++ [.host, .slots, .ports, .twb, .icvs, .fcvs, .pendZ, .eng]
  | .fenceRelease => eventParts ++ [.host]
  | .fenceTimeout => eventParts ++ [.host]
  | .rolloutDwellEnd => eventParts ++ [.host, .chans, .slots, .gauges, .keep, .ports, .twb, .fcvs, .alm, .tasks, .eng]
  | .traceWindowRead => []
  | .sundialLockstepMismatch => eventParts ++ [.host, .chans, .slots, .ports, .twb, .house, .grid, .icvs, .fcvs, .pendZ, .groups, .alm, .power,
    .pairs, .tasks, .eng, .trace, .svc]
  | .safCtrlHalt => eventParts ++ [.host, .chans, .slots, .ports, .twb, .house, .grid, .icvs, .fcvs, .pendZ, .groups, .alm, .power, .pairs,
    .tasks, .eng, .trace, .svc]
  | .latentNow => [.sun]
  | .safeRecovered => eventParts ++ [.power]
  | .sspFrameError => [.out, .freeCtr, .sun]
  | .sspSilent => eventParts ++ [.sun]
  | .modeRequestShip => eventParts ++ [.host, .chans, .slots, .gauges, .keep, .ports, .twb, .fcvs, .power]
  | .modeRequestSentinel => eventParts ++ [.host, .chans, .slots, .gauges, .keep, .ports, .twb, .fcvs, .power]
  | .modeRequestRun => eventParts ++ [.host, .chans, .slots, .gauges, .keep, .ports, .twb, .fcvs, .power]
  | .thermalCurtailOn => eventParts ++ [.freeCtr, .chans, .slots, .gauges, .keep, .ports, .twb, .house, .srcs, .fcvs]
  | .thermalCurtailOff => eventParts ++ [.freeCtr, .chans, .slots, .gauges, .keep, .ports, .twb, .house, .srcs, .fcvs]
  | .thermalShutdownEnd => eventParts ++ [.power]
  | .islandLowBattery => eventParts ++ [.host, .chans, .slots, .gauges, .keep, .ports, .twb, .fcvs, .power]
  | .por => [.clock, .fns, .rings, .host, .lanes, .freeCtr, .chans, .slots, .gauges, .keepLocs, .keep, .ports, .twb, .house, .grid, .srcs, .icvs,
    .fcvs, .mains, .pendZ, .groups, .alm, .power, .pairs, .tasks, .eng, .trace, .sun, .clk, .svc, .tines]
  | .snapStreamEnd => eventParts ++ [.host, .freeCtr, .chans, .slots, .gauges, .keep, .ports, .twb, .house, .grid, .srcs, .icvs, .fcvs, .mains,
    .pendZ, .groups, .alm, .power, .pairs, .tasks, .eng, .trace, .sun, .clk, .svc, .tines]
  | .bypass => [.svc]
  | .idcode => [.svc]
  | .extest => [.freeCtr, .svc]
  | .freeze => eventParts ++ [.chans, .slots, .ports, .house, .power, .sun, .svc]
  | .thaw => eventParts ++ [.host, .freeCtr, .chans, .slots, .gauges, .keep, .ports, .twb, .house, .grid, .srcs, .icvs, .fcvs, .mains, .pendZ,
    .groups, .alm, .power, .pairs, .tasks, .eng, .trace, .sun, .clk, .svc, .tines]
  | .thawDbg => eventParts ++ [.host, .freeCtr, .chans, .slots, .gauges, .keep, .ports, .twb, .house, .grid, .srcs, .icvs, .fcvs, .mains, .pendZ,
    .groups, .alm, .power, .pairs, .tasks, .eng, .trace, .sun, .clk, .svc, .tines]
  | .svcStatus => [.svc]
  | .glbTimeRead => []
  | .serviceLockFuseBlown => eventParts ++ [.svc]

/-! Commands of one unit: a channel, slot, function, converter, bus or port. -/

/-- What is shared by every unit, and a command of one of them may write too: the rings and messages of events, and the record of an
ignored write. -/
def sharedFields : List Fld :=
  eventWrites ++ [Reg.GLB_ACC_ERR.VALID, Reg.GLB_ACC_ERR.CAUSE, Reg.GLB_ACC_ERR.COUNT, Reg.GLB_ACC_ERR.ADDR]

/-- The unit of the commands that change the registers of one unit alone: each is the first index of every register they write. -/
def unitOf : Instr → Option Nat
  | .retriesReset n => some n
  | .peakLimitTruncate n _ _ => some n
  | .syncLoss n _ => some n
  | .phaseShed n => some n
  | .imbalanceCheck n => some n
  | .idPinClose n => some n
  | .idDecode n _ => some n
  | .chargePhaseAdvance n => some n
  | .cvEntry n => some n
  | .packSag n => some n
  | .slotSuspend n => some n
  | .taperCheck n => some n
  | .auditResume n => some n
  | .icvPassStart n => some n
  | .resvDeadline n => some n
  | .coulombSample n _ => some n
  | .gauAccRead n => some n
  | .autoZeroTrim n => some n
  | .fullAnchor n => some n
  | .currentXcheck n => some n
  | .statusLineWrite n => some n
  | .d3hotEntry n => some n
  | .rateLimit n => some n
  | .twbSleep n => some n
  | .pdRdDetect n _ _ => some n
  | .pdAttach n => some n
  | .pdVbusReady n _ => some n
  | .pdCableIdentity n _ _ _ _ => some n
  | .pdEprEnter n _ => some n
  | .pdVconnSwap n _ => some n
  | .pdVconnOvercurrent n _ _ => some n
  | .pdVsafe0vHoldEnd n _ => some n
  | .pdSoftResetReceived n _ => some n
  | .pdUnsupportedMessage n _ _ _ => some n
  | .recover n _ => some n
  | .serialPoll n => some n
  | .identBusRetry n => some n
  | .icvConversionStart n => some n
  | .icvTrigger n => some n
  | .urgentConversionStart n => some n
  | .twbStartSeen n _ => some n
  | .twbAlertIn n _ => some n
  | _ => none

/-! The rows of the descriptors, and the rows that act while the units stand still. -/

/-- The opcode and the control fields of a descriptor's row. -/
def opcodeOf : Instr → Option (Op × Ctl)
  | .nop c => some (.nop, c)
  | .slotClaim c => some (.slotClaim, c)
  | .slotRelease c => some (.slotRelease, c)
  | .chargeStart c p resvSoc resvTick => some (.chargeStart p resvSoc resvTick, c)
  | .chargeTerminate c => some (.chargeTerminate, c)
  | .setLimits c l => some (.setLimits l, c)
  | .reserve c prio resvSoc resvTick => some (.reserve prio resvSoc resvTick, c)
  | .transfer c p => some (.transfer p, c)
  | .audit c p a => some (.audit p a, c)
  | .gaugeRestore c r => some (.gaugeRestore r, c)
  | .gaugeSnapshot c => some (.gaugeSnapshot, c)
  | .measUrgent c chan range cyc => some (.measUrgent chan range cyc, c)
  | .calZero c input range fcv applied => some (.calZero input range fcv applied, c)
  | .calFull c input range fcv applied => some (.calFull input range fcv applied, c)
  | .twbXfer c p => some (.twbXfer p, c)
  | .pdPolicyHold c p => some (.pdHold p, c)
  | .pdPolicyRelease c => some (.pdRelease, c)
  | .pdPolicySet c p => some (.pdSet p, c)
  | .pdPolicySoftReset c => some (.pdSoftReset, c)
  | .pdPolicyHardReset c => some (.pdHardReset, c)
  | .enterService c => some (.pdEnterService, c)
  | .exitService c => some (.pdExitService, c)
  | .wdgAnswer c token qseq => some (.wdgAnswer token qseq, c)
  | .fence c scope wait token timeout => some (.fence scope wait token timeout, c)
  | .quotaSet c p => some (.quotaSet p, c)
  | .keyWrite c p => some (.keyWrite p, c)
  | .microcodeStage c addr len gen => some (.mcodeStage addr len gen, c)
  | .microcodeRoll c dwell => some (.mcodeRoll dwell, c)
  | .microcodeAbort c => some (.mcodeAbort, c)
  | .microcodeDiscard c => some (.mcodeDiscard, c)
  | .seal c => some (.doSeal, c)
  | .measTableLoad c first words => some (.measTableLoad first words, c)
  | _ => none

/-- The rows that act while the device is frozen or in SHIP (R593, R594): those of D0 and the service port, and the pins whose happenings a
freeze latches. -/
def actsStopped : Instr → Bool
  | .por => true
  | .brownout _ _ => true
  | .brownoutEnd _ _ _ => true
  | .pinReset _ => true
  | .resetNRelease _ => true
  | .systemRailInRange _ _ _ _ _ => true
  | .startStepTimeout _ => true
  | .shipWake _ _ => true
  | .freezePin _ => true
  | .freezeReleasePin _ => true
  | .freeze => true
  | .thaw => true
  | .thawDbg => true
  | .snapStreamEnd => true
  | .snapRead _ => true
  | .samplePreload _ => true
  | .bypass => true
  | .idcode => true
  | .extest => true
  | .svcStatus => true
  | .tineDbgReadReg _ _ _ => true
  | .tineDbgWriteReg _ _ _ => true
  | .tineDbgReadData _ _ _ => true
  | .tineDbgWriteData _ _ _ => true
  | .tineDbgReadCode _ _ _ => true
  | .tineDbgStep _ _ _ => true
  | .tineDbgSetBreakpoint _ _ => true
  | .tineDbgClearBreakpoint _ _ => true
  | .tineDbgResume _ => true
  | .sourcePresenceRise _ _ => true
  | .sourceLost _ _ => true
  | .identityLoss _ _ _ => true
  | .fgOvTrip _ _ _ => true
  | .fgOcTrip _ _ _ => true
  | .fgRvTrip _ _ _ => true
  | .fgNtcTrip _ _ _ _ => true
  | .buttonShipRequest _ => true
  | .buttonRunRequest _ => true
  | .sundialLockstepMismatch => true
  | .perst => true
  | .idPinClose _ => true
  | .packRemoval _ _ => true
  | .pllUnlock _ => true
  | .crystalFail _ _ => true
  | .wdgClockFail _ _ => true
  | .feedLost _ _ => true
  | .svcLockKeyWrite _ => true
  | _ => false

end Sys2Proof.Machine
end

