-- ==== Sys2Proof/Certificates/Slice0/Obligations.lean ====
section
/-! DEFINITION. The statements for the provers. A clause `Does c s P` says that command `c`, from every state `s` that meets the
clause's hypotheses, answers a next state that meets `P`. -/

open Sys2Proof Sys2Proof.Machine

/-- A step takes the command at the front of the queue and is its outcome over the rest of the queue; on an empty queue the step goes on
by itself (the model's choice: log entry 1) and leaves the queue empty. -/
def Obligations.StepTakesFront : Prop :=  (∀ (c : Instr) (rest : List Instr) (s : State), s.pending = c :: rest → step s = exec c { s with pending := rest }) ∧
  (∀ s : State, s.pending = [] → ∃ t, step s = .next t ∧ t.pending = [])

/-- The state after reset: every field of the register map at its reset value, START at its first step, the queue empty, device time 0, and every
table in its canonical form.
Where the rules leave room the reading is the model's own choice: log entry 3. -/
def Obligations.ResetState : Prop :=  State.reset.wf = true ∧ State.reset.pending = [] ∧ State.reset.time = 0 ∧ State.reset.modeReg = mStart ∧ State.reset.stopped = false ∧
  State.reset.rd Reg.GLB_RESET_CAUSE.POR = 1 ∧ State.reset.rd Reg.PWR_MODE.SEQ = 1 ∧ State.reset.rd Reg.PWR_MODE.STEP = 1 ∧
  ∀ f ∈ fieldTable, ∀ i j k : Nat, State.reset.rd f i j k = f.resetAt i j

/-- The canonical form of every table of the state is kept by every step: by every command and by the idle step. -/
def Obligations.StepKeepsWf : Prop := ∀ s t : State, s.wf = true → step s = .next t → t.wf = true

/-- Every command answers a next state in every state, and leaves the queue alone.
Where the rules leave room the reading is the model's own choice: log entries 2, 7. -/
def Obligations.CommandsComplete : Prop := ∀ (c : Instr) (s : State), Does c s fun t => t.pending = s.pending

/-- The frame of every command: no register field outside its list and no part of the state outside its list changes. The commands without a list of
fields are those that can reset whole classes of fields. -/
def Obligations.CommandFrames : Prop := ∀ (c : Instr) (s t : State), exec c s = .next t →
  (∀ fs, fieldsOf c = some fs → ∀ f ∈ fieldTable, f.id ∉ fs.map Fld.id → ∀ i j k : Nat, t.rd f i j k = s.rd f i j k) ∧
  (∀ p : Part, p ∉ partsOf c → p.same s t)

/-- The commands of one unit leave every register of every other unit as it was, but for the rings of events and the record of ignored writes. -/
def Obligations.UnitFrames : Prop := ∀ (c : Instr) (n : Nat) (s t : State), unitOf c = some n → exec c s = .next t →
  ∀ f ∈ fieldTable, f.id ∉ sharedFields.map Fld.id → ∀ i j k : Nat, i ≠ n → t.rd f i j k = s.rd f i j k

/-- While the device is frozen or in SHIP, every command but those of D0, of the service port and of the latched pins leaves the whole state as it was
(R555, R593); a happening at a latched pin changes what the freeze has latched alone (R594).
Where the rules leave room the reading is the model's own choice: log entries 8, 65. -/
def Obligations.StandStill : Prop := ∀ (c : Instr) (s : State),
  (s.stopped = true → actsStopped c = false → exec c s = .next s) ∧
  (∀ k mv : Nat, s.flag Reg.SVC_STATUS.FROZEN = true →
    exec (.sourcePresenceRise k mv) s = .next { s with svc := { s.svc with latched := s.svc.latched ++ [.presence k true mv] } }) ∧
  (∀ sl mv us : Nat, s.flag Reg.SVC_STATUS.FROZEN = true →
    exec (.fgOvTrip sl mv us) s = .next { s with svc := { s.svc with latched := s.svc.latched ++ [.fgOv sl mv us] } }) ∧
  (∀ sl ma us : Nat, s.flag Reg.SVC_STATUS.FROZEN = true →
    exec (.fgOcTrip sl ma us) s = .next { s with svc := { s.svc with latched := s.svc.latched ++ [.fgOc sl ma us] } }) ∧
  (s.flag Reg.SVC_STATUS.FROZEN = true →
    exec .perst s = .next { s with svc := { s.svc with latched := s.svc.latched ++ [.perst] } })

/-- A descriptor that a check of R350 refuses, and any descriptor of a function that is not live but for the opcodes of R396, completes with none of
its effect: only its completion goes out.
Where the rules leave room the reading is the model's own choice: log entry 132. -/
def Obligations.RefusedDescriptors : Prop := ∀ (c : Instr) (o : Op) (d : Ctl) (s : State), opcodeOf c = some (o, d) →
  s.stopped = false → s.takes d.fn d.ring = true → s.fenced d.fn d.ring (wideFence o) = false →
  (s.accepts o d = false ∨ (s.flag Reg.FN_STATUS.LIVE d.fn = false ∧ opWhileDead (opCode o) = false)) →
  Does c s fun t =>
    (∀ f ∈ fieldTable, f.id ∉ completeWrites.map Fld.id → ∀ i j k : Nat, t.rd f i j k = s.rd f i j k) ∧
    (∀ p : Part, p ∉ [Part.fns, .rings, .out, .host] → p.same s t) ∧ t.host = { s.host with count := s.host.count + 1 }

/-- A write of PF BAR0 that would change a sealed field changes nothing but the record of it, with CAUSE 4 (R618, R619); one to a slot in retention
waits unjudged (R617).
Where the rules leave room the reading is the model's own choice: log entry 116. -/
def Obligations.SealHolds : Prop := ∀ (s : State) (a v : Nat) (env : StartEnv) (pulses : Option Nat),
  s.barOn = true → a % 4 = 0 → v < 2 ^ 32 → s.blockOn a = true → s.flag Reg.GLB_SEAL.SEALED = true →
  (∃ x ∈ fieldsAt a, x.1.acc = .rws ∧ s.at x ≠ x.1.ofWord v) →
  Does (.registerWrite pfFn a 4 v env pulses) s fun t =>
    (∀ f ∈ fieldTable, f.id ∉ sharedFields.map Fld.id → ∀ i j k : Nat, t.rd f i j k = s.rd f i j k) ∧
    (s.sltWaits a = false → (∀ p : Part, p.same s t) ∧ (s.flag Reg.GLB_ACC_ERR.VALID = false → t.rd Reg.GLB_ACC_ERR.CAUSE = 4))

/-- Class K fields (R5, R616): no register write changes one but that of `PWR_CTRL`, which can let START run, nor does any other command but the
keep's commit and the commands that let START run. -/
def Obligations.KeptFields : Prop := ∀ (c : Instr) (s t : State), exec c s = .next t →
  ((∃ fn a size v env pulses, c = .registerWrite fn a size v env pulses ∧ a ≠ Reg.PWR_CTRL.WARM.addr 0 0 0 ∧
      a + 4 ≠ Reg.PWR_CTRL.WARM.addr 0 0 0) ∨
    (∀ fn a size v env pulses, c ≠ .registerWrite fn a size v env pulses) ∧
    (∀ k, c ≠ .keepWrite k) ∧ (∀ e, c ≠ .autoWarm e) ∧ (∀ e, c ≠ .warm e) ∧ (∀ a b e, c ≠ .brownoutEnd a b e) ∧ (∀ e, c ≠ .resetNRelease e) ∧
      (∀ a b d g e, c ≠ .systemRailInRange a b d g e)) →
  ∀ f ∈ fieldTable, f.keep = .k → ∀ i j k : Nat, t.rd f i j k = s.rd f i j k

/-- The device refuses a request for SHIP, by the PF or by the button, unless every SRC_PRES is low, every slot's ID pin is open and the house battery
is present (of a gang the odd slot has no pin, and in START the battery is what its steps find): no sequence begins or turns, and the mode
stands. A request that R564 puts behind another waits.
Where the rules leave room the reading is the model's own choice: log entry 216. -/
def Obligations.ShipRefusal : Prop := ∀ s : State,
  ((∃ k, k < 4 ∧ s.flag Reg.SRC_PORT_STATUS.PRESENT k = true) ∨ (∃ sl, sl < 64 ∧ (s.slot sl).idClosed = true ∧ s.oddGanged sl = false) ∨
    s.flag Reg.SRC_HB_STATUS.ABSENT = true ∧ s.mode ≠ mStart ∨ s.shipBar ≠ 0) →
  (Does .modeRequestShip s fun t => t.modeReg = s.modeReg ∧ t.rd Reg.PWR_MODE.SEQ = s.rd Reg.PWR_MODE.SEQ ∧
    t.rd Reg.PWR_MODE.STEP = s.rd Reg.PWR_MODE.STEP ∧ t.rd Reg.PWR_MODE.TARGET = s.rd Reg.PWR_MODE.TARGET ∧
    (s.outranked 8 = false → t.power = s.power ∧ (s.barOn = true → t.rd Reg.PWR_STATUS.REFUSE ≠ 0))) ∧
  ∀ ms : Nat, Does (.buttonShipRequest ms) s fun t => t.modeReg = s.modeReg ∧ t.rd Reg.PWR_MODE.SEQ = s.rd Reg.PWR_MODE.SEQ ∧
    t.rd Reg.PWR_MODE.STEP = s.rd Reg.PWR_MODE.STEP ∧ t.rd Reg.PWR_MODE.TARGET = s.rd Reg.PWR_MODE.TARGET ∧ (s.outranked 9 = false → t.power = s.power)

/-- A change to a GANG_EN bit is taken only while both slots of the gang are empty (the odd one empty, off or ganged) and all four of its channels are parked, and not once the device
is sealed; it is ignored at any other time, as GANG_WRITE or as a write of the register. -/
def Obligations.GangChange : Prop := ∀ (s : State) (v : Nat), v < 2 ^ 32 →
  (s.barOn = true → s.blockOn (Reg.PHC_GANG.GANG_EN.addr 0 0 0) = true → s.flag Reg.GLB_SEAL.SEALED = false →
    (∀ g, g < 32 → hasBit v g ≠ s.ganged g → s.slSt (2 * g) = slEmpty ∧ s.slSt (2 * g + 1) ∈ [slEmpty, slOff, slGanged] ∧
      ∀ k, k < 4 → s.flag Reg.PHC_STATUS.PARKED (4 * g + k) = true) →
    Does (.gangWrite v) s fun t => t.rd Reg.PHC_GANG.GANG_EN = v) ∧
  ((s.flag Reg.GLB_SEAL.SEALED = true ∨
      ∃ g, g < 32 ∧ hasBit v g ≠ s.ganged g ∧ ¬ (s.slSt (2 * g) = slEmpty ∧ s.slSt (2 * g + 1) ∈ [slEmpty, slOff, slGanged] ∧
        ∀ k, k < 4 → s.flag Reg.PHC_STATUS.PARKED (4 * g + k) = true)) →
    Does (.gangWrite v) s (fun t => t.rd Reg.PHC_GANG.GANG_EN = s.rd Reg.PHC_GANG.GANG_EN) ∧
    ∀ (env : StartEnv) (pulses : Option Nat), Does (.registerWrite pfFn (Reg.PHC_GANG.GANG_EN.addr 0 0 0) 4 v env pulses) s fun t =>
      t.rd Reg.PHC_GANG.GANG_EN = s.rd Reg.PHC_GANG.GANG_EN)

/-- Three registers of the map as their tables give them: `SRC_PORTk_LIMIT`, `SRC_HB_MEAS` and `SLT_GCFG`, with their fields' places, widths, access,
reset values and classes. No other field stands at their offsets, and the reset value of OVERRIDE imposes no limit below any class default. -/
def Obligations.RegisterTables : Prop :=  (∀ k, k < 4 → fieldsAt (0x10000 + 0x0104 + 0x20 * k) = [(Reg.SRC_PORT_LIMIT.OVERRIDE, k, 0, 0)]) ∧
  Reg.SRC_PORT_LIMIT.OVERRIDE.lo = 0 ∧ Reg.SRC_PORT_LIMIT.OVERRIDE.w = 18 ∧ Reg.SRC_PORT_LIMIT.OVERRIDE.acc = .rw ∧
  Reg.SRC_PORT_LIMIT.OVERRIDE.keep = .w ∧ (∀ k, Reg.SRC_PORT_LIMIT.OVERRIDE.resetAt k 0 = 0x3FFFF) ∧
  (∀ c, min (classLimit c) 0x3FFFF = classLimit c) ∧
  fieldsAt (0x10000 + 0x0208) = [(Reg.SRC_HB_MEAS.VOLT, 0, 0, 0), (Reg.SRC_HB_MEAS.CURR, 0, 0, 0)] ∧
  Reg.SRC_HB_MEAS.VOLT.lo = 16 ∧ Reg.SRC_HB_MEAS.VOLT.w = 16 ∧ Reg.SRC_HB_MEAS.VOLT.acc = .ro ∧ Reg.SRC_HB_MEAS.VOLT.keep = .x ∧
  Reg.SRC_HB_MEAS.VOLT.resetAt 0 0 = 0 ∧
  Reg.SRC_HB_MEAS.CURR.lo = 0 ∧ Reg.SRC_HB_MEAS.CURR.w = 16 ∧ Reg.SRC_HB_MEAS.CURR.acc = .ro ∧ Reg.SRC_HB_MEAS.CURR.keep = .x ∧
  Reg.SRC_HB_MEAS.CURR.resetAt 0 0 = 0 ∧
  fieldsAt 0x3F000 = [(Reg.SLT_GCFG.T_OT, 0, 0, 0)] ∧ Reg.SLT_GCFG.T_OT.lo = 24 ∧ Reg.SLT_GCFG.T_OT.w = 8 ∧ Reg.SLT_GCFG.T_OT.acc = .rws ∧
  Reg.SLT_GCFG.T_OT.keep = .p ∧ Reg.SLT_GCFG.T_OT.resetAt 0 0 = 0x3C ∧
  (∀ v, Reg.SLT_GCFG.T_OT.rangeCause v = 0 ↔ 50 ≤ v ∧ v ≤ 75)

/-- The loops and starts of an output (R84, R111, R112, R113, R114, R115, R125), each where it takes effect.
Where the rules leave room the reading is the model's own choice: log entries 17, 18, 149, 152, 157. -/
def Obligations.ChannelRuns : Prop := ∀ (s : State) (lead : Nat), s.stopped = false →
  (∀ (phases : List Int) (vout : Nat) (shadow : Bool), s.isLead lead = true → s.switching lead = true → vout < 2 ^ 17 →
    Does (.currentUpdate lead phases vout shadow) s fun t => t.rd Reg.PHC_MEAS_V.MEAS_V lead = vout) ∧
  (s.rd Reg.PHC_STATUS.STAGE lead = 2 → (s.chan lead).risen = false → (s.chan lead).riseBy ≤ s.time →
    Does (.riseAbort lead) s fun t => t.rd Reg.PHC_STATUS.RISE_ABORT lead = 1) ∧
  (∀ avg : Option Nat, s.rd Reg.PHC_STATUS.STAGE lead = 2 →
    Does (.softLevelUpdate lead avg) s fun t => (t.chan lead).softTick = (s.chan lead).softTick + 1) ∧
  (s.rd Reg.PHC_STATUS.STAGE lead = 5 → (s.chan lead).backoffUntil ≤ s.time → s.refI lead ≠ 0 → s.svc.parkLines = false →
    ((s.outputOf lead).all fun c => s.flag Reg.PHC_CTRL.ENABLE c) = true → s.startUnset lead = false → (s.chan lead).biasOk = false →
    Does (.startBackoffEnd lead none) s fun t => t.rd Reg.PHC_STATUS.STAGE lead = 1) ∧
  (s.rd Reg.PHC_STATUS.STAGE lead = 3 → (s.chan lead).regSince + 10000000 ≤ s.time →
    Does (.retriesReset lead) s fun t => t.rd Reg.PHC_CNT.RETRIES lead = 0) ∧
  (∀ i k : Nat, s.flag Reg.PHC_STATUS.PARKED lead = false → 100 * s.rd Reg.PHC_CTRL.PEAK_LIM lead ≤ i →
    Does (.peakLimitTruncate lead i k) s fun t => t.rd Reg.PHC_CNT.CBC lead = min (s.rd Reg.PHC_CNT.CBC lead + 1) 65535 ∧
      (t.chan lead).edges = (s.chan lead).edges.map fun e => edgesCut e k) ∧
  (s.switching lead = true → (s.chan lead).commitAt + 250000 ≤ s.time →
    Does (.commitStale lead) s fun t => t.rd Reg.PHC_STATUS.STAGE lead = 4)

/-- Synchronisation of a lead (R99, R100): the lock, its loss, and the lock after a loss; and the faults of an output (R122, R124): a
driver fault held for 200 ns, and a runaway condition that has persisted.
Where the rules leave room the reading is the model's own choice: log entries 20, 126, 153, 155. -/
def Obligations.ChannelSyncAndFaults : Prop :=
  (∀ (s : State) (lead : Nat), lead < 144 → s.stopped = false → s.flag Reg.PHC_CTRL.SYNC lead = true →
    (∀ ticks : Nat, s.isLead lead = true → s.flag Reg.PHC_STATUS.SYNC_LOST lead = false → s.syncOk lead ticks = true →
      Does (.syncInEdge ticks) s fun t =>
        t.rd Reg.PHC_STATUS.SYNC_LOCK lead = 1 ∧ t.rd Reg.PHC_PER_EFF.PER_EFF lead = ticks / (s.rd Reg.PHC_CTRL.RATIO lead + 1)) ∧
    (∀ ticks : Nat, s.flag Reg.PHC_STATUS.SYNC_LOCK lead = true → s.rd Reg.PHC_GCTL.SYNC_LOSS_N * (s.chan lead).tSync < ticks →
      Does (.syncLoss lead ticks) s fun t => t.rd Reg.PHC_STATUS.SYNC_LOCK lead = 0 ∧ t.rd Reg.PHC_STATUS.SYNC_LOST lead = 1 ∧
        t.rd Reg.PHC_CNT.SYNC_LOSSES lead = min (s.rd Reg.PHC_CNT.SYNC_LOSSES lead + 1) 255) ∧
    (∀ off : Nat, s.flag Reg.PHC_STATUS.SYNC_LOST lead = true → 16 ≤ (s.chan lead).edgeRun → s.syncOk lead (s.chan lead).tSync = true →
      Does (.syncRelock lead off) s fun t => t.rd Reg.PHC_STATUS.SYNC_LOCK lead = 1 ∧ t.rd Reg.PHC_STATUS.SYNC_LOST lead = 0)) ∧
  (∀ (s : State) (lead : Nat), s.stopped = false →
    (∀ ns : Nat, 200 ≤ ns → Does (.drvFault lead ns) s fun t => t.rd Reg.PHC_STATUS.DRV_FLT lead = 1) ∧
    (∀ cond t0 : Nat, s.isLead lead = true → s.switching lead = true → s.runawaySince lead cond = some t0 → t0 + runawayPersist cond ≤ s.time →
      Does (.runaway lead cond) s fun t => t.rd Reg.PHC_STATUS.RUNAWAY lead = 1))

/-- Phases added and shed (R102, R103) and their balance (R108: of two phases whose averages over the second are x and y mA).
Where the rules leave room the reading is the model's own choice: log entries 21, 151. -/
def Obligations.ChannelPhases : Prop := ∀ (s : State) (lead : Nat), s.stopped = false →
  (s.flag Reg.PHC_SHED.SHED_EN lead = true → s.switching lead = true → 4 ≤ (s.chan lead).addRun → s.nAct lead < s.nPhys lead →
    Does (.phaseAddMeasured lead) s fun t => t.rd Reg.PHC_STATUS.ACTIVE_PH lead = s.nAct lead + 1) ∧
  (s.flag Reg.PHC_SHED.SHED_EN lead = true → s.switching lead = true → 1 < s.nAct lead → s.nAct lead ≤ 4 → (s.chan lead).isBelow = true →
    (s.chan lead).belowSince + 1000 * s.rd Reg.PHC_SHED.SHED_DWELL lead ≤ s.time →
    (s.chan lead).changeAt + 1000 * s.rd Reg.PHC_SHED.SHED_DWELL lead ≤ s.time →
    Does (.phaseShed lead) s fun t => t.rd Reg.PHC_STATUS.ACTIVE_PH lead = s.nAct lead - 1) ∧
  (∀ p : Nat, (s.chan lead).shedding = some p → 32 ≤ (s.chan p).lowRun →
    Does (.phaseHandoverEnd lead) s fun t => t.rd Reg.PHC_STATUS.PARKED p = 1 ∧ t.rd Reg.PHC_OUT.DUTY p = 0) ∧
  (∀ x y : Nat, 0 < x + y → s.phaseAvgs lead = [x, y] → (s.chan lead).shedding = none → (s.chan lead).adding = [] →
    (s.chan lead).imbChanged = false → Does (.imbalanceCheck lead) s fun t =>
      t.rd Reg.PHC_IMBAL.IMB_PCT lead = min ((max x y - min x y) * 200 / (x + y)) 255)

/-- The PF's writes to a channel (R87, R105, R130), where PF BAR0 answers and the channel's registers are powered.
Where the rules leave room the reading is the model's own choice: log entry 19. -/
def Obligations.ChannelWrites : Prop := ∀ (s : State) (n : Nat), n < 144 → s.barOn = true →
  (s.blockOn (Reg.PHC_LOOP.APPLY.addr n 0 0) = true → s.isLead n = true → s.switching n = true →
    Does (.apply n) s fun t => t.rd Reg.PHC_LOOP.APPLY n = 1) ∧
  (∀ v : Bool, s.blockOn (Reg.PHC_CTRL.ENABLE.addr n 0 0) = true → Does (.phcEnableWrite n v) s fun t => t.flag Reg.PHC_CTRL.ENABLE n = v) ∧
  (∀ v : Nat, v < 2 ^ 32 → s.blockOn (Reg.PHC_GANG.GANG_EN.addr 0 0 0) = true → s.flag Reg.GLB_SEAL.SEALED = false → s.gangOk v = true →
    Does (.gangWrite v) s fun t => t.rd Reg.PHC_GANG.GANG_EN = v)

/-- A charge's phases and its ends (R164, R165, R166, R169, R172, R175, R179), each where it takes effect.
Where the rules leave room the reading is the model's own choice: log entries 28, 139. -/
def Obligations.SlotCharging : Prop := ∀ (s : State) (sl : Nat), s.stopped = false →
  (∀ ph : Nat, ph = 1 ∨ ph = 2 → s.slSt sl = slCharging → (s.slot sl).curPhase = ph → 5 ≤ (s.slot sl).upRun →
    Does (.chargePhaseAdvance sl) s fun t => (t.slot sl).curPhase = ph + 1 ∧ t.rd Reg.SLT_TIME.PH_TIME sl = 0) ∧
  (s.slSt sl = slCharging → 1 ≤ (s.slot sl).curPhase → (s.slot sl).curPhase ≤ 3 → s.rd Reg.SLT_STATUS.PHASE sl ≠ 0 →
    s.cvFor sl 1000000 = true →
    Does (.cvEntry sl) s fun t => t.rd Reg.SLT_STATUS.PHASE sl = 4 ∧ (t.slot sl).curPhase = 4 ∧ (t.slot sl).sunOn = true) ∧
  (s.slSt sl = slCharging → (s.slot sl).curPhase = 3 → 5 ≤ (s.slot sl).sagRun →
    Does (.packSag sl) s fun t => (t.slot sl).curPhase = 2) ∧
  (s.slSt sl = slCharging → (s.slot sl).curPhase = 1 → 6000 * s.rd Reg.SLT_TIMERS.TRICKLE_MAX sl ≤ (s.slot sl).tPhase →
    s.oddGanged sl = false →
    Does (.chargePhaseTimeout sl) s fun t => t.slSt sl = slFaulted ∧ t.rd Reg.SLT_FAULT.CAUSE sl = caTimer) ∧
  (s.slSt sl = slCharging → (s.slot sl).curPhase = 4 → 6000 * s.rd Reg.SLT_TIMERS.CV_MAX sl ≤ (s.slot sl).tCv →
    (s.slot sl).audStep = 0 → s.flag Reg.SLT_STATUS.RECEIVER sl = false → s.switching (s.slotLead sl) = true →
    Does (.cvMaxExpiry sl) s fun t => t.slSt sl = slStopping ∧ (t.slot sl).endReason = some 1 ∧ (t.slot sl).cvOrderAt = some s.time) ∧
  (∀ t0 : Nat, (s.slot sl).cvOrderAt = some t0 → s.slSt sl = slStopping → s.outputParked (s.slotLead sl) = false → t0 + 1000000 ≤ s.time →
    s.oddGanged sl = false →
    Does (.cvMaxParkFail sl) s fun t => t.slSt sl = slFaulted ∧ t.rd Reg.SLT_FAULT.CAUSE sl = caTimer) ∧
  (∀ z : Nat, z = 0 ∨ z = 4 ∨ z = 7 → s.slSt sl = slCharging → s.rd Reg.SLT_STATUS.ZONE sl = z → s.refI (s.slotLead sl) = 0 →
    Does (.slotSuspend sl) s fun t => t.slSt sl = slSuspended) ∧
  (s.slSt sl = slCharging → (s.slot sl).curPhase = 4 → (s.slot sl).taperBits = 0 → 2 * (s.iAvg sl).natAbs < (s.slot sl).cvCurrent →
    (s.slot sl).cvCurrent ≤ 4 * (s.iAvg sl).natAbs → (s.slot sl).taper ≤ (s.iAvg sl).natAbs → s.rd Reg.SLT_STATUS.PHASE sl = 4 →
    Does (.taperCheck sl) s fun t => (t.slot sl).taperBits = 1 ∧ (t.slot sl).taperAt = s.time) ∧
  (s.flag Reg.SLT_CFG.SWAP_AUTH sl = true → (s.slot sl).method = 1 → s.seated sl = true → s.slotsLive = true →
    (s.slot sl).pollAt + 1000000 * s.rd Reg.SLT_CFG.AUTH_POLL sl ≤ s.time →
    Does (.serialPoll sl) s fun t => (t.slot sl).pollAt = s.time)

/-- The ends of a TRANSFER and the steps of an AUDIT (R185, R188, R189).
Where the rules leave room the reading is the model's own choice: log entries 25, 26, 34, 140, 161. -/
def Obligations.SlotTransfers : Prop := ∀ (s : State) (sl : Nat), s.stopped = false →
  (∀ r : Nat, s.slSt sl = slDonor → s.rd Reg.SLT_STATUS.ROLE sl = 1 → s.transferDue sl = some r →
    Does (.transferEnd sl) s fun t => t.rd Reg.SLT_STATUS.ROLE sl = 0 ∧ t.rd Reg.SLT_LINK.PEER sl = 0xFF) ∧
  (∀ t0 : Nat, (s.slot sl).audBelowSince = some t0 → s.slSt sl = slCharging → (s.slot sl).audStep = 1 → (s.slot sl).curPhase = 4 →
    t0 + 60000000 ≤ s.time →
    Does (.auditFillComplete sl) s fun t => t.slSt sl = slDonor ∧ t.rd Reg.SLT_STATUS.ROLE sl = 2 ∧ t.rd Reg.SLT_LINK.PEER sl = 0xFE ∧
      (t.slot sl).audStep = 2) ∧
  ((s.slot sl).audStep = 2 → s.outputParked (s.slotLead sl) = true → (s.slot sl).restAt + 60000000 * (s.slot sl).audRest ≤ s.time →
    Does (.auditRestEnd sl) s fun t => (t.slot sl).audStep = 3 ∧ (t.slot sl).audQ = 0 ∧ (t.slot sl).audE = 0) ∧
  ((s.slot sl).audStep = 3 → 4 * (s.slot sl).absorb < (s.slot sl).audI →
    Does (.auditPause sl) s fun t => (t.slot sl).audStep = 4 ∧ (t.slot sl).pauseAt = s.time) ∧
  ((s.slot sl).audStep = 4 → (s.slot sl).audI ≤ 2 * (s.slot sl).absorb → 1 ≤ s.rd Reg.SLT_STATUS.ZONE sl →
    s.rd Reg.SLT_STATUS.ZONE sl ≤ 3 →
    Does (.auditResume sl) s fun t => (t.slot sl).audStep = 3) ∧
  ((s.slot sl).audStep = 3 → s.rd Reg.PHC_STATUS.LOOP_MODE (s.slotLead sl) = 2 → 10 * (s.iAvg sl).natAbs < (s.slot sl).audI →
    (s.slot sl).audQ.toNat < 2 ^ 32 →
    Does (.auditEmpty sl) s fun t => t.rd Reg.SLT_AUD_Q.Q sl = (s.slot sl).audQ.toNat ∧ (t.slot sl).audStep = 0) ∧
  ((s.slot sl).audStep = 4 → 3600000000 < (s.slot sl).pauseTotal + (s.time - (s.slot sl).pauseAt) →
    Does (.auditPauseLimit sl) s fun t => t.rd Reg.SLT_AUD_E.VALID sl = 0 ∧ (t.slot sl).audStep = 0)

/-- A slot's pin, its wet test and its identification (R146, R149, R151, R153, R158, R177), outside SHIP and no freeze in force.
Where the rules leave room the reading is the model's own choice: log entries 16, 32. -/
def Obligations.SlotIdentification : Prop := ∀ (s : State) (sl : Nat), s.stopped = false → s.modeReg ≠ mShip →
  ((s.slot sl).idClosed = false →
    Does (.idPinClose sl) s fun t => (t.slot sl).idClosed = true ∧ (t.slot sl).closedAt = s.time) ∧
  (s.slSt sl = slDebounce → (s.slot sl).idClosed = true → (s.slot sl).closedAt + 1000 * s.rd Reg.SLT_CFG.DEBOUNCE sl ≤ s.time →
    Does (.debounceEnd sl) s fun t => t.slSt sl = slIdentifying) ∧
  (∀ (v1 v2 : Nat) (c : FcvSel), (s.fcv (sl / 16)).cur.or (s.fcvPick (sl / 16)) = some c → c.task = 5 → s.wetSlot (sl / 16) = some sl →
    (s.fcv (sl / 16)).endAt + 15000 ≤ s.time →
    Does (.wetTestComplete sl v1 v2) s fun t => (t.slot sl).wetRunning = false ∧ t.rd Reg.SLT_DIAG.LEAK_R sl = leakR v1 v2) ∧
  (∀ mv : Nat, s.slSt sl = slIdentifying → (s.slot sl).wetRunning = false → (s.slot sl).typed = false →
    Does (.idDecode sl mv) s fun t => t.rd Reg.SLT_STATUS.TYPE sl = idType mv ∧ t.rd Reg.SLT_DIAG.ID_MV sl = min mv 4095) ∧
  (∀ p : PackRec, s.identDone sl = true → s.running = true → s.identFailure sl = none → s.identPack sl = some p →
    Does (.identificationComplete sl) s fun t => t.slSt sl = slIdle) ∧
  (∀ r : Nat, s.identFailure sl = some r → s.running = true → r < 3 ∨ 5 < r →
    Does (.identificationFail sl) s fun t => t.slSt sl = slIdentFail) ∧
  (∀ t0 : Nat, (s.slot sl).retryAt = some t0 → s.slSt sl = slIdentifying → t0 ≤ s.time →
    Does (.identRetry sl) s fun t => (t.slot sl).retryAt = none ∧ (t.slot sl).identAt = s.time) ∧
  ((s.slot sl).idClosed = true → s.oddGanged sl = false → s.slotsLive = true → s.slSt sl = slIdle → s.rd Reg.SLT_STATUS.ROLE sl ≠ 1 →
    (s.slot sl).audStep = 0 → s.flag Reg.SLT_STATUS.RECEIVER sl = false → (s.slot sl).offWait = false →
    Does (.packRemoval sl none) s fun t => (t.slot sl).idClosed = false ∧ t.slSt sl = slEmpty ∧ t.rd Reg.SLT_STATUS.TYPE sl = 0xF)

/-- The frost guards and the sequencer's own checks take a seated slot to FAULTED with the cause of the trip (R171, R178, R513, R517),
outside SHIP and no freeze in force; and the PF's writes to a slot (R146, R182, R617), where PF BAR0 answers and the slot's registers are powered: a write to a slot
whose supervisor pair is in retention waits for the slot's next round.
Where the rules leave room the reading is the model's own choice: log entries 27, 33, 159, 163, 183, 211. -/
def Obligations.SlotFaultsAndWrites : Prop :=
  (∀ (s : State) (sl : Nat), s.stopped = false → s.modeReg ≠ mShip → s.oddGanged sl = false →
    s.seated sl = true → s.slotsLive = true →
    (∀ t0 : Nat, (s.slot sl).ntcBothSince = some t0 → t0 + 500000 ≤ s.time →
      Does (.ntcBothInvalid sl) s fun t => t.slSt sl = slFaulted ∧ t.rd Reg.SLT_FAULT.CAUSE sl = caNtc) ∧
    (∀ mv ns : Nat, s.fgMasked sl 5 = false → inWindow (s.rd Reg.SLT_STATUS.TYPE sl) mv = false → mv < 2900 → 2000 ≤ ns →
      Does (.identityLoss sl mv ns) s fun t => t.slSt sl = slFaulted ∧ t.rd Reg.SLT_FAULT.CAUSE sl = caIdentLoss ∧
        t.rd Reg.SAF_FG_B.TRIP_ID sl = 1) ∧
    (∀ mv us : Nat, s.fgMasked sl 0 = false → (s.slot sl).idClosed = true → 20 * s.rd Reg.SAF_FG_A.OV_TH sl < mv → 4 ≤ us →
      Does (.fgOvTrip sl mv us) s fun t => t.slSt sl = slFaulted ∧ t.rd Reg.SLT_FAULT.CAUSE sl = caOverVoltage ∧
        t.rd Reg.SAF_FG_B.TRIP_OV sl = 1) ∧
    (∀ ma us : Nat, s.fgMasked sl 1 = false → 100 * s.rd Reg.SAF_FG_A.OC_TH sl < ma → 8 ≤ us →
      Does (.fgOcTrip sl ma us) s fun t => t.slSt sl = slFaulted ∧ t.rd Reg.SLT_FAULT.CAUSE sl = caOverCurrent ∧
        t.rd Reg.SAF_FG_B.TRIP_OC sl = 1) ∧
    (∀ ma us : Nat, s.fgMasked sl 2 = false → 100 * s.rd Reg.SAF_FG_B.RV_TH sl < ma → 16 ≤ us →
      Does (.fgRvTrip sl ma us) s fun t => t.slSt sl = slFaulted ∧ t.rd Reg.SLT_FAULT.CAUSE sl = caReverse ∧
        t.rd Reg.SAF_FG_B.TRIP_RV sl = 1) ∧
    (∀ input code ms : Nat, s.fgMasked sl (3 + min input 1) = false → code < s.rd Reg.SAF_FG_B.NTC_CODE sl → 500 ≤ ms →
      Does (.fgNtcTrip sl input code ms) s fun t => t.slSt sl = slFaulted ∧ t.rd Reg.SLT_FAULT.CAUSE sl = caOverTemp ∧
        t.rd Reg.SAF_FG_B.TRIP_NTC sl = 1)) ∧
  (∀ (s : State) (sl : Nat), sl < 64 → s.barOn = true →
    (∀ v : Bool, s.blockOn (Reg.SLT_CFG.ENABLE.addr sl 0 0) = true → s.sltWaits (Reg.SLT_CFG.ENABLE.addr sl 0 0) = false →
      Does (.slotEnableWrite sl v) s fun t => t.flag Reg.SLT_CFG.ENABLE sl = v) ∧
    (s.blockOn (Reg.SLT_FAULT.CLEAR.addr sl 0 0) = true → s.sltWaits (Reg.SLT_FAULT.CLEAR.addr sl 0 0) = false → s.slSt sl = slFaulted →
      s.causePersists sl = false →
      Does (.slotFaultClear sl) s fun t => t.rd Reg.SLT_FAULT.FAULTED sl = 0 ∧ t.slSt sl ≠ slFaulted) ∧
    (s.blockOn (Reg.SLT_FAULT.CLEAR.addr sl 0 0) = true → s.sltWaits (Reg.SLT_FAULT.CLEAR.addr sl 0 0) = true →
      Does (.slotFaultClear sl) s fun t =>
        t.eng.sltWrites = s.eng.sltWrites ++ [(Reg.SLT_FAULT.CLEAR.addr sl 0 0, 2 ^ 30)] ∧ t.slSt sl = s.slSt sl))

/-- Mains lock and its loss, and the triggers (R246, R247, R260, R261, R262), each where it takes effect.
Where the rules leave room the reading is the model's own choice: log entries 46, 141. -/
def Obligations.MeasTriggers : Prop := ∀ s : State, s.stopped = false →
  (∀ (p : Nat) (l : List Nat), s.rd Reg.MSR_MAINS.SRC = 0 → s.flag Reg.MSR_MAINS.LOCKED = false → s.mains.run = 7 →
    s.mains.periods = p :: l → 153850 ≤ p → p ≤ 222220 →
    Does (.mainsCrossing p) s fun t => t.rd Reg.MSR_MAINS.LOCKED = 1 ∧ t.mains.lastAt = s.time) ∧
  (s.flag Reg.MSR_MAINS.LOCKED = true → 3 * s.perT ≤ 20 * (s.time - s.mains.lastAt) →
    Does .mainsLockLoss s fun t => t.rd Reg.MSR_MAINS.LOCKED = 0) ∧
  (∀ g : Nat, g < 4 → s.flag Reg.MSR_MAINS.LOCKED = false → s.time % max (s.perT / 10) 1 = 0 → s.rd Reg.MSR_GRP.SRC g = 1 →
    (s.group g).since = none → Does .mainsFreeTrigger s fun t => (t.group g).since = some s.time) ∧
  (∀ n : Nat, s.icvRuns n = true → s.rd Reg.MSR_ICV_CTRL.TRIG_SRC n = 3 → s.awaits n = true →
    Does (.icvTrigger n) s fun t => t.rd Reg.MSR_ICV_STATUS.STATE n = 2) ∧
  (∀ g : Nat, s.rd Reg.MSR_GRP.SRC g = 3 → (s.group g).since = none →
    Does (.groupTrigger g) s fun t => (t.group g).since = some s.time) ∧
  (∀ (g n t0 : Nat) (c : Conv), n < 16 → s.rd Reg.MSR_GRP.MEMBERS g = 2 ^ n → (s.group g).since = some t0 → (s.icv n).cur = some c →
    s.awaits n = true → max t0 c.readyAt + 50 ≤ s.time →
    Does (.groupStart g) s fun t => (t.group g).since = none ∧ t.rd Reg.MSR_ICV_STATUS.STATE n = 2)

/-- The conversions of an integrating converter (R244, R245, R248, R253, R254, R264, R266, R268, R269), each where it takes effect: a VPACK reading on ±2.5 V
whose pin passed 3,000 mV is clipped; while the slot's post-processing pair does not run the record is held.
Where the rules leave room the reading is the model's own choice: log entries 30, 31, 35, 170, 175, 177. -/
def Obligations.MeasConversions : Prop := ∀ (s : State) (n : Nat), s.stopped = false →
  (s.icvRuns n = true → (s.icv n).cur = none → (s.icv n).delayUntil ≤ s.time → (s.icv n).inPass = false → (s.icv n).pend = [] → s.refereeOn n = false →
    Does (.icvPassStart n) s fun t => (t.icv n).inPass = true ∧ (t.icv n).pos = 0 ∧ (t.icv n).passAt = s.time) ∧
  (s.icvRuns n = true → (s.icv n).cur = none → (s.icv n).delayUntil ≤ s.time → (s.icv n).inPass = true →
    s.nextEntry n (s.icv n).pos < 32 → s.refereeOn n = false → s.urgentDue n = false → Does (.icvConversionStart n) s fun t => (t.icv n).cur.isSome = true) ∧
  (∀ (c : Conv) (t0 pin fast : Nat) (raw : Int) (others : List Nat), (s.icv n).cur = some c → c.startAt = some t0 → t0 + c.len ≤ s.time →
    s.flag Reg.MSR_ICV_STATUS.FAILED n = false → c.kind = 0 → c.chan < 16 → (s.entry n c.entry).avg = false →
    s.rd Reg.ENG_TASK.STATE (postTask (chanSlot n c.chan)) < 2 → pin ≤ 3000 ∨ c.range ≠ 1 ∨ 12 ≤ c.chan ∨ c.chan % 3 ≠ 0 →
    Does (.icvIntegrationEnd n raw pin fast others) s fun t => (t.icv n).cur = none ∧
      t.rd Reg.MSR_ICV_LAST.VALUE n c.chan = toField 32 (calValue (sat (-8388608) 8388607 raw) c.off c.gain (fsOf c.range))) ∧
  (∀ (c : Conv) (t0 pin fast : Nat) (raw : Int) (others : List Nat), (s.icv n).cur = some c → c.startAt = some t0 → t0 + c.len ≤ s.time →
    s.flag Reg.MSR_ICV_STATUS.FAILED n = false → c.kind = 0 → (s.entry n c.entry).avg = false →
    s.rd Reg.ENG_TASK.STATE (postTask (chanSlot n c.chan)) < 2 → 3000 < pin → c.range = 1 → c.chan < 12 → c.chan % 3 = 0 →
    Does (.icvIntegrationEnd n raw pin fast others) s fun t =>
      t.rd Reg.MSR_ICV_LAST.VALUE n c.chan = toField 32 (calValue 8388607 c.off c.gain (fsOf 1)) ∧
      t.rd Reg.MSR_ICV_CNT.OVR n = min (s.rd Reg.MSR_ICV_CNT.OVR n + 1) 255) ∧
  (∀ (c : Conv) (t0 pin fast : Nat) (raw : Int) (others : List Nat), (s.icv n).cur = some c → c.startAt = some t0 → t0 + c.len ≤ s.time →
    s.flag Reg.MSR_ICV_STATUS.FAILED n = false → c.kind = 0 → n < 16 → c.chan < 16 → (s.entry n c.entry).avg = false →
    2 ≤ s.rd Reg.ENG_TASK.STATE (postTask (chanSlot n c.chan)) → s.postSleeps (chanSlot n c.chan) = false →
    Does (.icvIntegrationEnd n raw pin fast others) s fun t => (t.icv n).held.length = min ((s.icv n).held.length + 1) 4 ∧
      t.rd Reg.MSR_ICV_LAST.VALUE n c.chan = s.rd Reg.MSR_ICV_LAST.VALUE n c.chan) ∧
  (∀ (c : Conv) (t0 : Nat), (s.icv n).cur = some c → c.startAt = some t0 → t0 + c.len + c.per / 10 ≤ s.time →
    s.flag Reg.MSR_ICV_STATUS.FAILED n = false →
    Does (.icvConversionTimeout n) s fun t => t.rd Reg.MSR_ICV_STATUS.FAILED n = 1 ∧ t.rd Reg.MSR_ICV_STATUS.STATE n = 7) ∧
  (∀ (c : Conv) (rest : List Conv), (s.icv n).nextUrgent = some (c, rest) → s.urgentDue n = true →
    Does (.urgentConversionStart n) s fun t => (t.icv n).cur.isSome = true ∧ (t.icv n).queue = rest ∧ (t.icv n).used = true)

/-- The fine converter and the checks that it makes (R270, R274, R276), calibration and the test DAC (R280, R282), each where it takes
effect.
Where the rules leave room the reading is the model's own choice: log entries 36, 143, 171, 172, 173, 178. -/
def Obligations.MeasFineAndCalibration : Prop :=
  (∀ (s : State) (p : Nat), s.stopped = false →
    (∀ (c : FcvSel) (raw : Int) (fast : Nat), (s.fcv p).cur.or (s.fcvPick p) = some c → c.task < 4 → (s.fcv p).endAt + 100000 ≤ s.time →
      s.rd Reg.MSR_FCV_STATUS.STATE p ≠ 2 → s.mode ≠ mShip → s.mode ≠ mService →
      Does (.fcvConversionEnd p raw fast) s fun t => (t.fcv p).endAt = s.time ∧
        t.rd Reg.MSR_FCV_LAST.VALUE p = toField 32 (calValue (sat (-8388608) 8388607 raw) c.off c.gain (fsOf c.range))) ∧
    (∀ (n chan range fast : Nat) (a b : Int) (icvR fcvR : List Int), (s.fcv p).referee = some (n, chan, range, a, b) →
      (s.icv n).cur = none → (s.fcv p).cur = none →
      onDac range (s.fcv p).again icvR = false → onDac range (s.fcv p).again fcvR = true →
      Does (.refereeFinding p icvR fcvR fast) s fun t => (t.fcv p).referee = none ∧ t.rd Reg.MSR_ICV_STATUS.FAILED n = 1) ∧
    (∀ (c : FcvSel) (zero ref : Int), (s.fcv p).cur.or (s.fcvPick p) = some c → c.task = 4 → (s.fcv p).endAt + 200000 ≤ s.time →
      1250 < zero.natAbs ∨ 2500 < (ref - 1250000).natAbs →
      Does (.fcvSelfTest p zero ref) s fun t => t.rd Reg.MSR_FCV_STATUS.STATE p = 2) ∧
    (∀ (n chan range : Nat) (r : List Int), s.rd Reg.MSR_FCV_STATUS.STATE (n / 4) = 2 → chan < 16 → (12 ≤ chan ∨ chan % 3 ≠ 0) →
      onDac range false r = false → s.chanSubst n chan = false → s.icvLive n = true → (s.icv n).cur = none → s.oddGanged (chanSlot n chan) = false →
      s.slSt (chanSlot n chan) = slIdle →
      Does (.fcvLostInjectionCheck n chan range r) s fun t =>
        t.slSt (chanSlot n chan) = slFaulted ∧ t.rd Reg.SLT_FAULT.CAUSE (chanSlot n chan) = caFrontEnd)) ∧
  (∀ s : State,
    (∀ (p target code : Nat) (att : Bool), s.barOn = true → s.blockOn (Reg.MSR_DAC_CTRL.EN.addr p 0 0) = true → target ≤ 0x50 →
      code < 65536 → s.dacMay p target = true →
      Does (.dacInjectWrite p true att target code) s fun t => t.rd Reg.MSR_DAC_CTRL.EN p = 1 ∧ t.rd Reg.MSR_DAC_CTRL.TARGET p = target ∧
        t.rd Reg.MSR_DAC_CTRL.CODE p = code) ∧
    (∀ (u : Nat) (j : CalJob), s.stopped = false → u < 16 → (s.icv u).cal = some j → 16 ≤ j.codes.length →
      Does (.calAverageDone u) s fun t => (t.icv u).cal = none) ∧
    (s.stopped = false → Does .calZeroExpiry s fun t => t.pendZ = s.pendZ.filter fun z => decide (s.time < z.at_ + 600000000)))

/-- The gauges' readings (R298, R299, R308, R310, R316) and the cross-checks of current and output voltage (R518, R519, R520), each where
it takes effect.
Where the rules leave room the reading is the model's own choice: log entries 15, 144, 190. -/
def Obligations.GaugeReadingsAndChecks : Prop :=
  (∀ (s : State) (sl : Nat), s.stopped = false →
    (s.time % 100000 = 0 → s.mode ≠ mShip → s.mode ≠ mService → s.flag Reg.GAU_STATUS.DEGRADED sl = true →
      Does (.gaugeReportUpdate sl) s fun t => t.rd Reg.GAU_CURR.I_AVG sl = toField 18 (sat (-131072) 131071
        (phaseMean ((((s.gauge sl).acc, (s.gauge sl).nsamp, (s.gauge sl).phaseTot, s.time) :: (s.gauge sl).marks).take 11)))) ∧
    (∀ code : Int, s.mode ≠ mService → hasBit (s.rd Reg.PWR_DOM.ON) (26 + sl / 16) = true →
      Does (.coulombSample sl code) s fun t => (t.gauge sl).acc = toField 48 ((s.gauge sl).acc + sat (-524288) 524287 code) ∧
        (t.gauge sl).nsamp = ((s.gauge sl).nsamp + 1) % 2 ^ 32) ∧
    (s.barOn = true → Does (.gauAccRead sl) s fun t => t.rd Reg.GAU_ACC_LO.ACC_LO sl = (s.gauge sl).acc % 2 ^ 32 ∧
      t.rd Reg.GAU_NSAMP.NSAMP sl = (s.gauge sl).nsamp % 2 ^ 32) ∧
    (∀ (t0 a1 n1 t1 a0 n0 t2 : Nat) (p1 p0 : Int), s.flag Reg.GAU_CFG.AZERO sl = true → (s.gauge sl).zeroSince = some t0 →
      t0 + 3000000 ≤ s.time → (s.gauge sl).trimAt = none → (s.gauge sl).marks.head? = some (a1, n1, p1, t1) →
      (s.gauge sl).marks.getLast? = some (a0, n0, p0, t2) → (n1 + 2 ^ 32 - n0) % 2 ^ 32 ≠ 0 →
      Does (.autoZeroTrim sl) s fun t => (t.gauge sl).trimAt = some s.time) ∧
    (∀ t0 : Nat, s.inCv sl = true → s.gaugeOn sl = true → (s.gauge sl).capAtFull = false →
      max (s.rd Reg.SLT_PROF_A.CV_CELL sl) (s.rd Reg.SLT_PACK_B.VCHG_CELL sl) ≤
        min (s.rd Reg.SLT_PROF_A.CV_CELL sl) (s.rd Reg.SLT_PACK_B.VCHG_CELL sl) + 10 →
      (s.slot sl).belowSince = some t0 → t0 + 60000000 ≤ s.time →
      Does (.fullAnchor sl) s fun t => (t.gauge sl).capAtFull = true ∧ t.rd Reg.GAU_STATUS.ANCHOR sl = 2 ∧
        t.rd Reg.GAU_QREM.Q_REM sl = s.rd Reg.GAU_QFULL.Q_FULL sl % 2 ^ 32) ∧
    (s.time % 1000000 = 15625 * sl → s.gaugeOn sl = true → s.mode ≠ mHalt → s.mode ≠ mService →
      Does (.gaugeSnapshotTimed sl) s fun t => t.rd Reg.GAU_SNAP.SEQ sl = (s.rd Reg.GAU_SNAP.SEQ sl + 1) % 2 ^ 32)) ∧
  (∀ (s : State) (sl : Nat), s.stopped = false →
    (s.flag Reg.GAU_STATUS.DEGRADED sl = false → s.oddGanged sl = false → 11 ≤ (s.gauge sl).marks.length → s.slSt sl ≠ slFaulted →
      curAgree (s.coulMean sl (s.gauge sl).marks) (phaseMean (s.gauge sl).marks) = false → (s.gauge sl).curRef = none →
      Does (.currentXcheck sl) s fun t =>
        (t.gauge sl).curRef = some (s.coulMean sl (s.gauge sl).marks, phaseMean (s.gauge sl).marks, s.time)) ∧
    (∀ (c p raw : Int) (t0 : Nat), (s.gauge sl).curRef = some (c, p, t0) → t0 + s.rd Reg.MSR_ICV_CTRL.SETTLE (sl / 4) + s.perT / 10 ≤ s.time →
      s.icvLive (sl / 4) = true →
      Does (.currentReferee sl raw) s fun t => (t.gauge sl).curRef = none ∧
        t.rd Reg.SAF_CNT.XCHK_FAIL = min (s.rd Reg.SAF_CNT.XCHK_FAIL + 1) 255) ∧
    (∀ (range fast icv t0 : Nat) (raw : Int), (s.slot sl).outRef = some (fast, icv, range, t0) → t0 + 100000 ≤ s.time →
      Does (.outputVReferee sl raw) s fun t => (t.slot sl).outRef = none ∧ (t.slot sl).xchkRun = 0))

/-- The Almanac's commands between its boundaries (R206, R221, R225, R240), what each leaves where it takes effect; and a tick boundary, and
the one at which the other root takes over (R206, R231): the tick is committed, or skipped and told.
Where the rules leave room the reading is the model's own choice: log entries 74, 75, 77, 120, 165, 166, 167, 168. -/
def Obligations.PlannerAndTicks : Prop :=
  (∀ s : State, s.stopped = false →
    (∀ late : Bool, s.time % 10000 = 9000 → s.almOn = true → s.alm.rootLost = false → s.alm.frozen = none →
      Does (.tickFreeze late) s fun t => t.alm.frozen = some (s.frozenRecord late) ∧
        t.rd Reg.ALM_CNT.LATE_PLAN = if late then min (s.rd Reg.ALM_CNT.LATE_PLAN + 1) 255 else s.rd Reg.ALM_CNT.LATE_PLAN) ∧
    (∀ fn : Nat, fn < 1024 → (s.fnr fn).overSince.isSome = true → (s.fnr fn).overAt + 1000000 ≤ s.time →
      Does (.quotaOverRepeat fn) s fun t => (t.fnr fn).overAt = s.time) ∧
    (∀ sl : Nat, s.rd Reg.ALM_SLOT_A.RESV sl = 1 → 100 ≤ (s.slot sl).resvLow →
      Does (.resvAtRisk sl) s fun t => t.rd Reg.ALM_SLOT_A.RESV sl = 2) ∧
    (∀ sl : Nat, s.reserved sl = true → laterTick (s.rd Reg.ALM_SLOT_B.RESV_TICK sl) s.tickNow = false →
      Does (.resvDeadline sl) s fun t => t.rd Reg.ALM_SLOT_A.RESV sl = 3) ∧
    (∀ chan : Nat, s.barOn = true → s.blockOn (Reg.ALM_VIEW_SEL.CHAN.addr 0 0 0) = true → Reg.ALM_VIEW_SEL.CHAN.rangeCause chan = 0 →
      Does (.almViewSelect chan) s fun t => t.rd Reg.ALM_VIEW_SEL.CHAN = chan ∧ t.rd Reg.ALM_VIEW_BASE.TICK = s.rd Reg.ALM_TICK.TICK % 2 ^ 32)) ∧
  (∀ s : State, s.stopped = false →
    (∀ (late : List Nat) (avgs : List (Nat × Nat)), s.time % 10000 = 0 → s.alm.boundaryAt ≠ some s.time → s.almOn = true →
      s.alm.resume = false → s.alm.rootLost = false → s.modeReg = mRun → s.rd Reg.PWR_MODE.SEQ = 0 →
      Does (.tickBoundary late avgs) s fun t => t.rd Reg.ALM_TICK.TICK = s.tickNow ∧ t.flag Reg.ALM_STATUS.RUNNING = true) ∧
    (∀ (late : List Nat) (avgs : List (Nat × Nat)), s.alm.rootLost = true → s.time % 10000 = 0 → s.alm.boundaryAt ≠ some s.time →
      s.almOn = true → s.alm.resume = false → s.modeReg = mRun → s.rd Reg.PWR_MODE.SEQ = 0 → s.alm.frozen = none →
      Does (.rootHandover late avgs) s fun t => t.flag Reg.ALM_STATUS.ROOT_ALT = !s.flag Reg.ALM_STATUS.ROOT_ALT ∧
        t.rd Reg.ALM_CNT.SKIPPED = min (s.rd Reg.ALM_CNT.SKIPPED + 1) 255))

/-- The link, the resets of the host side and the power states of a function (R332, R365 to R368), each where it takes effect.
Where the rules leave room the reading is the model's own choice: log entries 13, 44, 169, 193. -/
def Obligations.HostLink : Prop := ∀ s : State, s.stopped = false →
  (∀ width speed : Nat, s.mode ≠ mShip → s.mode ≠ mService → s.rd Reg.HIF_LINK.SPEED = 0 → 1 ≤ speed →
    Does (.linkUp width speed) s fun t => t.rd Reg.HIF_LINK.SPEED = min speed 3 ∧
      t.rd Reg.HIF_LINK.WIDTH = if 4 ≤ width then 4 else if 2 ≤ width then 2 else 1) ∧
  (∀ l : Nat, l < 4 → s.rd Reg.HIF_LINK.SPEED ≠ 0 → s.rd Reg.HIF_LINK.LANE_FAULT < 16 →
    narrowed (s.rd Reg.HIF_LINK.WIDTH) (setBit (s.rd Reg.HIF_LINK.LANE_FAULT) l) ≠ 0 → s.rd Reg.HIF_LINK.WIDTH ≤ 4 →
    Does (.pcieLaneFault (some l)) s fun t => t.rd Reg.HIF_LINK.LANE_FAULT = setBit (s.rd Reg.HIF_LINK.LANE_FAULT) l ∧
      t.rd Reg.HIF_LINK.WIDTH = narrowed (s.rd Reg.HIF_LINK.WIDTH) (setBit (s.rd Reg.HIF_LINK.LANE_FAULT) l) ∧
      t.rd Reg.GLB_HEALTH.PCIE_NARROW = 1) ∧
  (s.rd Reg.HIF_LINK.SPEED ≠ 0 → s.rd Reg.HIF_LINK.SPEED ≤ 3 → narrowed (s.rd Reg.HIF_LINK.WIDTH) (s.rd Reg.HIF_LINK.LANE_FAULT) ≠ 0 →
    Does (.pcieLaneFault none) s fun t => t.rd Reg.HIF_LINK.SPEED = max (s.rd Reg.HIF_LINK.SPEED - 1) 1) ∧
  (s.flag Reg.SVC_STATUS.FROZEN = false → s.modeReg ≠ mShip →
    Does .perst s fun t => t.rd Reg.GLB_RESET_CAUSE.PERST = 1 ∧ t.rd Reg.HIF_LINK.SPEED = 0 ∧ t.host.vfEnable = false) ∧
  (∀ vf : Nat, s.fnUp vf = true → vf < 1024 →
    Does (.flr vf) s fun t => t.rd Reg.GLB_RESET_CAUSE.FLR = 1 ∧ t.rd Reg.GLB_RESET_INFO.FLR_FN = vf ∧
      t.flag Reg.FN_STATUS.HELD vf = true ∧ t.flag Reg.FN_STATUS.LIVE vf = false) ∧
  (s.mode ≠ mShip → s.mode ≠ mService →
    Does .pfFlr s fun t => t.rd Reg.GLB_RESET_CAUSE.FLR = 1 ∧ t.rd Reg.GLB_RESET_INFO.FLR_FN = pfFn ∧ t.host.vfEnable = false ∧
      t.flag Reg.FN_STATUS.HELD pfFn = true) ∧
  (∀ en : Bool, s.mode ≠ mShip → s.mode ≠ mService → Does (.vfEnableWrite en) s fun t => t.host.vfEnable = en) ∧
  (∀ fn : Nat, s.fnUp fn = true → Does (.d3hotEntry fn) s fun t => (t.fnr fn).d3hot = true) ∧
  (∀ fn : Nat, (s.fnr fn).d3hot = true → Does (.d3hotExit fn) s fun t => (t.fnr fn).d3hot = false)

/-- A doorbell poll that is due (R7, R339, R344, R346): an index of the line, little-endian in its four bytes, that stands within its ring is
taken. A descriptor that is a NOP is fetched (R340, R350, R378) where the turn is its function's: the ring's consumer index goes on by one, and so does its completion ring's producer index.
Where the rules leave room the reading is the model's own choice: log entries 102, 103, 192, 195, 196. -/
def Obligations.DoorbellsAndFetches : Prop :=
  (∀ s : State, s.stopped = false →
    (∀ (fn r : Nat) (line : List Nat), s.hifOn = true → s.fnUp fn = true → s.flag Reg.FN_DB_LO.EN fn = true → (s.fnr fn).d3hot = false →
      s.pollDue fn = true → line.length = 64 → (∀ b ∈ line, b < 256) → r < 16 → s.flag Reg.RING_CTRL.EN fn r = true → s.rd Reg.RING_CTRL.TYPE fn r = 0 →
      (∀ q ∈ List.range 16, q ≠ r → s.flag Reg.RING_CTRL.EN fn q = false) →
      ((lineWords line).getD r 0 + 2 ^ 32 - s.rd Reg.RING_DEV_IDX.DEV_IDX fn r) % 2 ^ 32 ≤ s.ringSize fn r →
      Does (.doorbellPoll fn line) s fun t => t.rd Reg.RING_HOST_IDX.HOST_IDX fn r = (lineWords line).getD r 0 ∧ (t.fnr fn).line0 = lineWords line ∧ (t.fnr fn).pollAt = some s.time) ∧
    (∀ (fn r : Nat) (line : List Nat), s.hifOn = true → s.fnUp fn = true → s.flag Reg.FN_DB_LO.EN fn = true → (s.fnr fn).d3hot = false →
      s.pollDue fn = true → line.length = 64 → (∀ b ∈ line, b < 256) → r < 16 → s.flag Reg.RING_CTRL.EN fn r = true → s.rd Reg.RING_CTRL.TYPE fn r ≠ 0 →
      (∀ q ∈ List.range 16, q ≠ r → s.flag Reg.RING_CTRL.EN fn q = false) →
      ((lineWords line).getD r 0 + 2 ^ 32 - s.rd Reg.RING_HOST_IDX.HOST_IDX fn r) % 2 ^ 32 ≤
        (s.rd Reg.RING_DEV_IDX.DEV_IDX fn r + 2 ^ 32 - s.rd Reg.RING_HOST_IDX.HOST_IDX fn r) % 2 ^ 32 →
      Does (.doorbellPoll fn line) s fun t => t.rd Reg.RING_HOST_IDX.HOST_IDX fn r = (lineWords line).getD r 0)) ∧
  (∀ s : State, s.stopped = false →
    ∀ (fn r : Nat) (b : List Nat) (mem : List (List Nat)), s.takes fn r = true → s.awaitsTurn fn = false → s.ringIs 0 fn r = true → s.descAvail fn r ≠ 0 →
      s.ringIs 1 fn (s.rd Reg.RING_CTRL.CPL_RING fn r) = true →
      membersOf 16 (mem.take (s.descAvail fn r)) = some [b] → s.fenced fn r (wideBytes b) = false →
      1 ≤ s.cplFree fn (s.rd Reg.RING_CTRL.CPL_RING fn r) → byteAt b 0 = 0 → strayByte b [] = none →
      fetchBad s (readCtl fn r (s.rd Reg.RING_DEV_IDX.DEV_IDX fn r % 2 ^ 32) false b) b false false = none →
      (readCtl fn r 0 false b).quiet = false →
      s.doneBefore 0 (readCtl fn r 0 false b) = false →
      Does (.descriptorFetch fn r mem) s fun t => t.rd Reg.RING_DEV_IDX.DEV_IDX fn r = (s.rd Reg.RING_DEV_IDX.DEV_IDX fn r + 1) % 2 ^ 32 ∧
        t.rd Reg.RING_DEV_IDX.DEV_IDX fn (s.rd Reg.RING_CTRL.CPL_RING fn r) =
          (s.rd Reg.RING_DEV_IDX.DEV_IDX fn (s.rd Reg.RING_CTRL.CPL_RING fn r) + 1) % 2 ^ 32)

/-- Rings, messages and status lines (R338, R343, R345, R364, R371, R373), each where it takes effect.
Where the rules leave room the reading is the model's own choice: log entries 22, 121, 134, 194. -/
def Obligations.HostRings : Prop := ∀ s : State, s.stopped = false →
  (∀ fn r : Nat, s.flag Reg.RING_CTRL.EN fn r = true → (s.ringr (ringKey fn r)).modCount ≠ 0 → s.rd Reg.RING_MOD.MOD_US fn r ≠ 0 →
    (s.ringr (ringKey fn r)).modSince + s.rd Reg.RING_MOD.MOD_US fn r ≤ s.time →
    Does (.msixModerationTimeout fn r) s fun t => (t.ringr (ringKey fn r)).modCount = 0) ∧
  (∀ fn : Nat, s.hifOn = true → s.fnUp fn = true → s.flag Reg.FN_DB_LO.EN fn = true → (s.fnr fn).d3hot = false →
    Does (.statusLineWrite fn) s fun t => (t.fnr fn).statusAt = s.time ∧ t.out = Out.hostWrite fn (s.dbPage fn + 128) (s.statusLine fn) :: s.out) ∧
  (∀ fn r : Nat, s.time % 1000000 = 0 → s.mode ≠ mHalt → s.mode ≠ mService → (allFns.filter fun f => s.flag Reg.FN_STATUS.LIVE f) = [fn] →
    s.evtRing fn (evClass evTimeAnchor) = some r → s.ringHeld fn r < s.ringSize fn r → (s.fnr fn).d3hot = false →
    s.rateEmpty fn (evClass evTimeAnchor) = false →
    Does .timeAnchor s fun t => (t.ringr (ringKey fn r)).seq = ((s.ringr (ringKey fn r)).seq + 1) % 65536) ∧
  (∀ (fn r : Nat) (poisoned : Bool), s.hifOn = true → s.flag Reg.RING_CTRL.EN fn r = true →
    Does (.hostReadError fn r poisoned) s fun t => t.flag Reg.RING_CTRL.EN fn r = false ∧ t.rd Reg.RING_ERRST.ERR_CODE fn r = 2) ∧
  (∀ value : Nat, s.barOn = true → s.blockOn (Reg.FN_DB_LO.ADDR_LO.addr 0 0 0) = true → s.dbLoCause pfFn value = 0 →
    Does (.doorbellPageWrite pfFn value) s fun t => t.rd Reg.FN_DB_LO.ADDR_LO pfFn = value / 2 ^ 12 % 2 ^ 20 ∧ t.rd Reg.FN_DB_LO.EN pfFn = value % 2) ∧
  (∀ fn value : Nat, fn ≠ pfFn → s.fnUp fn = true → (s.fnr fn).d3hot = false → s.blockOn 0x8000 = true → s.dbLoCause fn value = 0 →
    Does (.doorbellPageWrite fn value) s fun t => t.rd Reg.FN_DB_LO.ADDR_LO fn = value / 2 ^ 12 % 2 ^ 20 ∧ t.rd Reg.FN_DB_LO.EN fn = value % 2) ∧
  (∀ r value : Nat, s.barOn = true → s.blockOn (Reg.RING_CTRL.EN.addr 0 r 0) = true → s.ringCtrlCause pfFn r value = 0 →
    Does (.ringEnableWrite pfFn r value) s fun t => t.rd Reg.RING_CTRL.EN pfFn r = value / 2 ^ 31 % 2 ∧ t.rd Reg.RING_CTRL.TYPE pfFn r = value / 2 ^ 29 % 4) ∧
  (∀ fn r value : Nat, fn ≠ pfFn → s.fnUp fn = true → (s.fnr fn).d3hot = false → s.blockOn 0x8000 = true → s.ringCtrlCause fn r value = 0 →
    Does (.ringEnableWrite fn r value) s fun t => t.rd Reg.RING_CTRL.EN fn r = value / 2 ^ 31 % 2 ∧ t.rd Reg.RING_CTRL.LOG2 fn r = value / 2 ^ 24 % 32)

/-- The tenants' questions and event limits (R386, R391, R393), each where it takes effect.
Where the rules leave room the reading is the model's own choice: log entries 29, 43. -/
def Obligations.TenantTimers : Prop := ∀ s : State, s.stopped = false →
  (∀ fn : Nat, (s.fnr fn).armed = true → s.hifOn = true → (s.fnr fn).nextAt ≤ s.time → (s.fnr fn).judged = true →
    Does (.wdgQuestion fn) s fun t => (t.fnr fn).askedAt = (s.fnr fn).nextAt ∧ (t.fnr fn).judged = false ∧
      (t.fnr fn).nextAt = (s.fnr fn).nextAt + 10000 * s.rd Reg.TEN_WDG_CFG.PERIOD fn) ∧
  (∀ fn : Nat, (s.fnr fn).armed = true → s.hifOn = true → (s.fnr fn).nextAt ≤ s.time → (s.fnr fn).judged = false →
    Does (.wdgQuestion fn) s fun t => t.rd Reg.FN_WDG.MISSES fn = min (s.rd Reg.FN_WDG.MISSES fn + 1) 2) ∧
  (∀ fn : Nat, (s.fnr fn).rateDrops ≠ 0 → (s.fnr fn).rateAt = none →
    Does (.rateLimit fn) s fun t => (t.fnr fn).rateAt = some s.time) ∧
  (∀ fn t0 : Nat, (s.fnr fn).rateDrops ≠ 0 → (s.fnr fn).rateAt = some t0 → t0 + 1000000 ≤ s.time →
    Does (.rateLimit fn) s fun t => (t.fnr fn).rateAt = some s.time)

/-- The slot opcodes (R155, R161, R173, R183, R185, R187, R223, R353): an accepted descriptor has its effect.
Where the rules leave room the reading is the model's own choice: log entries 101, 104, 105, 106, 160. -/
def Obligations.SlotOpcodes : Prop :=
  (∀ (s : State) (c : Ctl),
    (s.accepts .slotClaim c = true → Does (.slotClaim c) s fun t => t.effOwner c.target = some c.fn) ∧
    (s.accepts .slotRelease c = true → s.slotBusy c.target = false → Does (.slotRelease c) s fun t => t.effOwner c.target = none) ∧
    (∀ (p : Profile) (soc tick : Nat), s.accepts (.chargeStart p soc tick) c = true → p.prio < 4 →
      Does (.chargeStart c p soc tick) s fun t => t.slSt c.target = slCharging ∧ t.rd Reg.ALM_SLOT_A.PRIO c.target = p.prio ∧
        (soc ≠ 0 → t.rd Reg.ALM_SLOT_A.RESV c.target = 1 ∧ t.rd Reg.ALM_SLOT_A.RESV_SOC c.target = soc)) ∧
    (∀ prio soc tick : Nat, s.accepts (.reserve prio soc tick) c = true → prio < 4 →
      Does (.reserve c prio soc tick) s fun t => t.rd Reg.ALM_SLOT_A.PRIO c.target = prio ∧
        (soc ≠ 0 → t.rd Reg.ALM_SLOT_A.RESV c.target = 1 ∧ t.rd Reg.ALM_SLOT_A.RESV_SOC c.target = soc)) ∧
    (∀ p : TransferPar, s.accepts (.transfer p) c = true →
      Does (.transfer c p) s fun t => t.slSt c.target = slDonor ∧ t.rd Reg.SLT_STATUS.ROLE c.target = 1 ∧
        t.rd Reg.SLT_LINK.PEER c.target = c.target2) ∧
    (∀ (p : Profile) (a : AuditPar), s.accepts (.audit p a) c = true →
      Does (.audit c p a) s fun t => t.slSt c.target = slCharging ∧ (t.slot c.target).audStep = 1 ∧
        (t.slot c.target).audI = (s.auditFill c.target a).audI)) ∧
  (∀ (s : State) (c : Ctl),
    (s.accepts .chargeTerminate c = true → s.slSt c.target = slCharging → (s.slot c.target).audStep = 0 →
      (s.slot c.target).curPhase = 0 → s.cvExpired c.target = false →
      s.flag Reg.SLT_STATUS.RECEIVER c.target = false → s.switching (s.slotLead c.target) = true →
      Does (.chargeTerminate c) s fun t => t.slSt c.target = slStopping ∧ (t.slot c.target).endReason = some 0) ∧
    (s.accepts .chargeTerminate c = true → s.slSt c.target = slDonor → (s.slot c.target).audStep = 0 →
      Does (.chargeTerminate c) s fun t => t.rd Reg.SLT_STATUS.ROLE c.target = 0) ∧
    (∀ l : Limits, s.accepts (.setLimits l) c = true → hasBit l.mask 5 = false → hasBit l.mask 6 = false →
      Does (.setLimits c l) s fun t => (hasBit l.mask 0 = true → hasBit l.mask 2 = false → (t.slot c.target).icap = if l.icap = 0 then none else some l.icap) ∧
        (hasBit l.mask 2 = true → t.rd Reg.SLT_TEMP_WIN.T1 c.target = toField 8 l.t1 ∧ t.rd Reg.SLT_TEMP_WIN.T4 c.target = toField 8 l.t4) ∧
        (hasBit l.mask 3 = true → t.rd Reg.GAU_WARN.LVL0 c.target = l.warn % 256)))

/-- The opcodes of the gauge, of measurement, of the two-wire buses (R255, R264, R282, R315, R316, R403): an accepted descriptor has its
effect.
Where the rules leave room the reading is the model's own choice: log entries 107, 112, 113. -/
def Obligations.UnitOpcodes : Prop := ∀ (s : State) (c : Ctl),
  (∀ r : RestorePar, s.accepts (.gaugeRestore r) c = true → hasBit r.flags 2 = false →
    Does (.gaugeRestore c r) s fun t => t.rd Reg.GAU_STATUS.STATE c.target = 2 ∧ t.rd Reg.GAU_QFULL.Q_FULL c.target = r.qFull ∧
      t.rd Reg.GAU_STATUS.LEARNED c.target = r.flags % 2) ∧
  (∀ r : RestorePar, s.accepts (.gaugeRestore r) c = true → hasBit r.flags 2 = true → s.rd Reg.GAU_STATUS.STATE c.target ≠ 2 →
    r.vCut < 2 ^ 16 → Does (.gaugeRestore c r) s fun t => t.rd Reg.GAU_SOC.V_CUT_CELL c.target = r.vCut) ∧
  (s.accepts .gaugeSnapshot c = true →
    Does (.gaugeSnapshot c) s fun t => t.rd Reg.GAU_SNAP.SEQ c.target = (s.rd Reg.GAU_SNAP.SEQ c.target + 1) % 2 ^ 32) ∧
  (∀ (first : Nat) (words : List (Nat × Nat)), s.accepts (.measTableLoad first words) c = true →
    Does (.measTableLoad c first words) s fun t => (loadsOf first words).all (fun l => (t.icv c.target).pend.contains l) = true) ∧
  (∀ chan range cyc : Nat, s.accepts (.measUrgent chan range cyc) c = true → 16 ≤ c.target →
    Does (.measUrgent c chan range cyc) s fun t => (t.fcv (c.target - 16)).urg = (s.fcv (c.target - 16)).urg ++ [(c, chan, range, cyc)]) ∧
  (∀ chan range cyc : Nat, s.accepts (.measUrgent chan range cyc) c = true → c.target < 16 →
    Does (.measUrgent c chan range cyc) s fun t => (t.icv c.target).queue.length = (s.icv c.target).queue.length + 1) ∧
  (∀ (input range : Nat) (fcv : Bool) (applied : Int), s.accepts (.calZero input range fcv applied) c = true →
    Does (.calZero c input range fcv applied) s fun t =>
      (if fcv then (t.fcv (c.target / 16)).cal else (t.icv (c.target / 4)).cal) =
        some { ctl := c, full := false, slot := c.target, input, range, applied }) ∧
  (∀ (input range : Nat) (fcv : Bool) (applied : Int), s.accepts (.calFull input range fcv applied) c = true →
    Does (.calFull c input range fcv applied) s fun t =>
      (if fcv then (t.fcv (c.target / 16)).cal else (t.icv (c.target / 4)).cal) =
        some { ctl := c, full := true, slot := c.target, input, range, applied }) ∧
  (∀ p : TwbPar, s.accepts (.twbXfer p) c = true →
    Does (.twbXfer c p) s fun t => (t.bus c.target).queue = (s.bus c.target).queue ++
      [{ what := 0, par := p, ctl := some c, deadline := if p.timeout = 0 then none else some (s.time + 1000 * p.timeout) }])

/-- The opcodes of the PD ports (R444 to R447, R460 to R466): an accepted descriptor has its effect, or waits behind the negotiation.
Where the rules leave room the reading is the model's own choice: log entries 108, 109, 202. -/
def Obligations.PortOpcodes : Prop := ∀ (s : State) (c : Ctl),
  (∀ p : PdPolicy, s.accepts (.pdHold p) c = true → c.fn < 2048 →
    Does (.pdPolicyHold c p) s fun t => t.flag Reg.PDP_STATUS.HELD c.target = true ∧ t.rd Reg.PDP_STATUS.HOLDER c.target = c.fn ∧
      t.rd Reg.PDP_POL_A.PMAX c.target = p.pmax ∧ t.rd Reg.PDP_POL_C.PPS_VMAX c.target = p.vmax) ∧
  (s.accepts .pdRelease c = true → Does (.pdPolicyRelease c) s fun t => t.flag Reg.PDP_STATUS.HELD c.target = false ∧
    t.rd Reg.PDP_STATUS.HOLDER c.target = 0) ∧
  (∀ p : PdPolicy, s.accepts (.pdSet p) c = true →
    Does (.pdPolicySet c p) s fun t => t.rd Reg.PDP_POL_A.PMAX c.target = p.pmax ∧ t.rd Reg.PDP_POL_A.IMAX c.target = p.imax ∧
      t.rd Reg.PDP_POL_C.PPS_VMIN c.target = p.vmin) ∧
  (s.accepts .pdSoftReset c = true → (s.port c.target).readyOwed = false → (s.port c.target).awaits = 0 →
    Does (.pdPolicySoftReset c) s fun t => (t.port c.target).awaits = 3 ∧
      t.rd Reg.PDP_CNT.SOFT_RESETS c.target = min (s.rd Reg.PDP_CNT.SOFT_RESETS c.target + 1) 255) ∧
  (s.accepts .pdSoftReset c = true → ((s.port c.target).readyOwed || (s.port c.target).awaits != 0) = true →
    Does (.pdPolicySoftReset c) s fun t => (t.port c.target).actions = (s.port c.target).actions ++ [(19, c)]) ∧
  (s.accepts .pdHardReset c = true → (s.port c.target).readyOwed = false → (s.port c.target).awaits = 0 →
    Does (.pdPolicyHardReset c) s fun t => (t.port c.target).hardStep = 1 ∧ (t.port c.target).hardAt = s.time) ∧
  (s.accepts .pdHardReset c = true → ((s.port c.target).readyOwed || (s.port c.target).awaits != 0) = true →
    Does (.pdPolicyHardReset c) s fun t => (t.port c.target).actions = (s.port c.target).actions ++ [(20, c)]) ∧
  (s.accepts .pdEnterService c = true → (s.port c.target).readyOwed = false → (s.port c.target).awaits = 0 →
    Does (.enterService c) s fun t => (t.port c.target).svcStep = 1 ∧ (t.port c.target).awaits = 5) ∧
  (s.accepts .pdEnterService c = true → ((s.port c.target).readyOwed || (s.port c.target).awaits != 0) = true →
    Does (.enterService c) s fun t => (t.port c.target).actions = (s.port c.target).actions ++ [(21, c)]) ∧
  (s.accepts .pdExitService c = true → (s.port c.target).readyOwed = false → (s.port c.target).awaits = 0 →
    Does (.exitService c) s fun t => t.flag Reg.PDP_STATUS.SVC c.target = false)

/-- NOP, FENCE and a code that the table does not list (R350, R351, R356): each completes, or holds its ring.
Where the rules leave room the reading is the model's own choice: log entries 101, 102. -/
def Obligations.RingOpcodes : Prop := ∀ (s : State) (c : Ctl),
  (s.accepts .nop c = true → c.quiet = false → s.ringIs 1 c.fn (s.rd Reg.RING_CTRL.CPL_RING c.fn c.ring) = true →
    Does (.nop c) s fun t => t.rd Reg.RING_DEV_IDX.DEV_IDX c.fn (s.rd Reg.RING_CTRL.CPL_RING c.fn c.ring) =
      (s.rd Reg.RING_DEV_IDX.DEV_IDX c.fn (s.rd Reg.RING_CTRL.CPL_RING c.fn c.ring) + 1) % 2 ^ 32) ∧
  (∀ scope wait token timeout : Nat, s.accepts (.fence scope wait token timeout) c = true →
    Does (.fence c scope wait token timeout) s fun t => t.host.fences.length = s.host.fences.length + 1) ∧
  (∀ (f : FenceRec) (l : List FenceRec), s.stopped = false → s.host.fences = f :: l → f ∉ l → s.fenceMet f = true →
    Does .fenceRelease s fun t => f ∉ t.host.fences) ∧
  (∀ (f : FenceRec) (l : List FenceRec) (t0 : Nat), s.stopped = false → s.host.fences = f :: l → f ∉ l → f.until? = some t0 → t0 ≤ s.time →
    Does .fenceTimeout s fun t => f ∉ t.host.fences) ∧
  (∀ code : Nat, s.stopped = false → s.takes c.fn c.ring = true → s.fenced c.fn c.ring false = false → opKnown code = false →
    c.quiet = false → s.ringIs 1 c.fn (s.rd Reg.RING_CTRL.CPL_RING c.fn c.ring) = true →
    Does (.unknownOpcode c code) s fun t => t.rd Reg.RING_DEV_IDX.DEV_IDX c.fn (s.rd Reg.RING_CTRL.CPL_RING c.fn c.ring) =
      (s.rd Reg.RING_DEV_IDX.DEV_IDX c.fn (s.rd Reg.RING_CTRL.CPL_RING c.fn c.ring) + 1) % 2 ^ 32)

/-- The opcodes of the tenants, the microcode and the seal (R380, R388, R392, R393, R493 to R495, R498, R622): an accepted descriptor has its effect.
Where the rules leave room the reading is the model's own choice: log entries 104, 115. -/
def Obligations.DeviceOpcodes : Prop := ∀ (s : State) (c : Ctl),
  (∀ token qseq : Nat, s.accepts (.wdgAnswer token qseq) c = true → (s.fnr c.fn).armed = true → (s.fnr c.fn).judged = false →
    s.time < (s.fnr c.fn).nextAt → qseq = s.rd Reg.FN_WDG.QSEQ c.fn →
    (s.fnr c.fn).askedAt + 10000 * (s.fnr c.fn).askPeriod * (s.fnr c.fn).askOpen / 16 ≤ s.time →
    token = wdgToken (s.fnr c.fn).askKey c.fn (s.fnr c.fn).question →
    Does (.wdgAnswer c token qseq) s fun t => t.rd Reg.FN_WDG.MISSES c.fn = 0 ∧ t.rd Reg.FN_WDG.GOOD c.fn = min (s.rd Reg.FN_WDG.GOOD c.fn + 1) 2) ∧
  (∀ p : QuotaPar, s.accepts (.quotaSet p) c = true →
    Does (.quotaSet c p) s fun t => t.keep.queue = s.keep.queue ++ [{ effect := .quota c.target p, ctl := some c }]) ∧
  (∀ p : KeyPar, s.accepts (.keyWrite p) c = true →
    Does (.keyWrite c p) s fun t => t.keep.queue.length = s.keep.queue.length + 1) ∧
  (∀ addr len gen : Nat, s.accepts (.mcodeStage addr len gen) c = true →
    Does (.microcodeStage c addr len gen) s fun t => t.rd Reg.ENG_UPG.STATE = 1 ∧ t.eng.stage = some (c, len, gen)) ∧
  (∀ dwell : Nat, s.accepts (.mcodeRoll dwell) c = true →
    Does (.microcodeRoll c dwell) s fun t => t.rd Reg.ENG_UPG.STATE = 3 ∧ t.rd Reg.ENG_UPG.BED = 15 ∧ t.eng.roll = some c) ∧
  (s.accepts .mcodeAbort c = true → s.keep.queue = [] → s.rd Reg.ENG_UPG.STEP < 2 → s.eng.reloaded = [] →
    Does (.microcodeAbort c) s fun t => t.rd Reg.ENG_UPG.STATE = 2 ∧ t.rd Reg.ENG_UPG.BED = 31 ∧ t.eng.roll = none ∧ t.eng.abort = none) ∧
  (s.accepts .mcodeAbort c = true → s.keep.queue = [] → (∀ b ∈ s.eng.reloaded, s.rd Reg.ENG_UPG.BED ≠ b) → 2 ≤ s.rd Reg.ENG_UPG.STEP →
    hasBit (s.rd Reg.GLB_HEALTH.BED_LOST) (s.rd Reg.ENG_UPG.BED) = false →
    Does (.microcodeAbort c) s fun t => t.rd Reg.ENG_UPG.STATE = 4 ∧ t.rd Reg.ENG_UPG.BED = s.rd Reg.ENG_UPG.BED ∧ t.eng.abort = some c) ∧
  (s.accepts .mcodeDiscard c = true → Does (.microcodeDiscard c) s fun t => t.rd Reg.ENG_UPG.STATE = 0 ∧ t.rd Reg.ENG_GEN.STAGED = 0) ∧
  (s.accepts .doSeal c = true → Does (.seal c) s fun t => t.flag Reg.GLB_SEAL.SEALED = true)

/-- The keep's writes (R572): a record is committed, or refused with its count.
Where the rules leave room the reading is the model's own choice: log entries 39, 181, 214. -/
def Obligations.KeepWrites : Prop := ∀ (s : State) (q : KeepReq) (l : List KeepReq), s.stopped = false → s.keep.queue = q :: l →
  (∀ k : Nat, s.keep.hot = false → s.keepFree = some k →
    Does (.keepWrite true) s fun t => t.rd Reg.KEEP_WRITES.WRITES = (s.rd Reg.KEEP_WRITES.WRITES + 1) % 2 ^ 32) ∧
  (∀ k : Nat, s.keep.hot = false → s.keepFree = some k → Does (.keepWrite false) s fun t => (t.keepLoc k).bad = true) ∧
  (∀ ok : Bool, s.keep.hot = true → Does (.keepWrite ok) s fun t => t.rd Reg.KEEP_CNT.REFUSED = min (s.rd Reg.KEEP_CNT.REFUSED + 1) 255) ∧
  (∀ ok : Bool, s.keep.hot = false → s.keepFree = none →
    Does (.keepWrite ok) s fun t => t.rd Reg.KEEP_CNT.REFUSED = min (s.rd Reg.KEEP_CNT.REFUSED + 1) 255)

/-- The two-wire buses: the device's own transactions (R403, R414 to R421, R427), each where it takes effect; while a slot's bus agent pair
does not run, its bus's results are held (R30, R434). -/
def Obligations.BusTransactions : Prop := ∀ (s : State) (b : Nat), s.stopped = false →
  (∀ (j : TwbJob) (l : List TwbJob), (s.bus b).run = none → s.flag Reg.TWB_STATUS.BUSY b = false → s.flag Reg.TWB_STATUS.BUS_DEAD b = false →
    (s.bus b).agent = [] → (s.bus b).queue = j :: l → s.busServes b j = true → j.what = 0 →
    Does (.twbTransactionStart b) s fun t => (t.bus b).run = some j ∧ (t.bus b).queue = l ∧ t.rd Reg.TWB_STATUS.BUSY b = 1 ∧
      t.rd Reg.TWB_STATUS.USER b = 2) ∧
  (∀ (j : TwbJob) (e : TwbEnd), (s.bus b).run = some j → (s.bus b).cancel = false → j.what = 0 → twbStatus j.par e = stOk →
    64 ≤ b ∨ s.rd Reg.ENG_TASK.STATE (agentTask b) < 2 →
    Does (.twbTransactionEnd b e) s fun t => t.rd Reg.TWB_STATUS.LAST b = stOk ∧ t.rd Reg.TWB_STATUS.BUSY b = 0) ∧
  (∀ (j : TwbJob) (e : TwbEnd), (s.bus b).run = some j → b < 64 → 2 ≤ s.rd Reg.ENG_TASK.STATE (agentTask b) → j.what ≠ 0x0C →
    Does (.twbTransactionEnd b e) s fun t => (t.bus b).held = (s.bus b).held ++ [(j, e, (s.bus b).cancel)] ∧
      t.rd Reg.TWB_STATUS.BUSY b = 0 ∧ t.rd Reg.TWB_STATUS.LAST b = s.rd Reg.TWB_STATUS.LAST b) ∧
  (∀ t0 : Nat, (s.slot b).busRetryAt = some t0 → s.slSt b = slIdentifying → (s.slot b).method = 1 → t0 ≤ s.time →
    s.flag Reg.TWB_STATUS.BUS_DEAD b = false →
    Does (.identBusRetry b) s fun t => (t.slot b).busRetryAt = none ∧ (t.bus b).agent.length = (s.bus b).agent.length + 1) ∧
  (∀ ms : Nat, s.rd Reg.TWB_CFG.TMO_SCL b < ms → (s.bus b).run = none →
    Does (.twbSclTimeout b ms) s fun t => t.rd Reg.TWB_STATUS.SCL_TMO b = 1 ∧
      t.rd Reg.TWB_CNT.TIMEOUTS b = min (s.rd Reg.TWB_CNT.TIMEOUTS b + 1) (2 ^ Reg.TWB_CNT.TIMEOUTS.w - 1)) ∧
  (∀ (ms : Nat) (j : TwbJob), s.rd Reg.TWB_CFG.TMO_SCL b < ms → (s.bus b).run = some j → j.what = 0 →
    Does (.twbSclTimeout b ms) s fun t => t.rd Reg.TWB_STATUS.SCL_TMO b = 1 ∧ t.rd Reg.TWB_STATUS.LAST b = stTwbSclTmo) ∧
  (∀ ms n : Nat, s.rd Reg.TWB_CFG.TMO_SDA b < ms → (s.bus b).run = none → s.rd Reg.TWB_STATUS.USER b ≠ 3 → (s.bus b).agent = [] →
    (s.bus b).queue = [] → n ≤ 9 →
    Does (.twbSdaTimeout b ms (some n)) s fun t => t.rd Reg.TWB_STATUS.SDA_TMO b = 1 ∧ (t.bus b).idleAt = s.time) ∧
  (∀ ms : Nat, s.rd Reg.TWB_CFG.TMO_SDA b < ms → (s.bus b).run = none → s.rd Reg.TWB_STATUS.USER b ≠ 3 →
    Does (.twbSdaTimeout b ms none) s fun t => t.rd Reg.TWB_STATUS.SDA_TMO b = 1 ∧ t.rd Reg.TWB_STATUS.BUS_DEAD b = 1) ∧
  (∀ (j : TwbJob) (own : Bool), (s.bus b).run = some j →
    Does (.twbArbLoss b own) s fun t => t.rd Reg.TWB_STATUS.ARB_LOST b = 1 ∧ (t.bus b).run = none)

/-- The two-wire buses: the alert line, cancelling, recovery and foreign traffic (R414, R416 to R418, R421, R429, R430).
Where the rules leave room the reading is the model's own choice: log entries 128, 129, 197, 198. -/
def Obligations.BusLines : Prop := ∀ (s : State) (b : Nat), s.stopped = false →
  (64 ≤ b → s.flag Reg.TWB_CFG.SLEEP_EN b = true → s.flag Reg.TWB_STATUS.BUSY b = false → (s.bus b).run = none → (s.bus b).agent = [] →
    (s.bus b).queue = [] → (s.bus b).idleAt + 1000 ≤ s.time → Does (.twbSleep b) s fun t => (t.bus b).asleep = true) ∧
  (∀ low : Bool, 64 ≤ b → s.flag Reg.TWB_TGT.ALERT_REQ (b - 64) = false →
    Does (.twbAlertIn b low) s fun t => (t.bus b).alertIn = low ∧ t.flag Reg.TWB_STATUS.ALERT b = low) ∧
  (64 ≤ b → (s.bus b).alertIn = true → s.flag Reg.TWB_CFG.ARA_AUTO b = true → (s.bus b).araAt + 100000 ≤ s.time → (s.bus b).agent = [] →
    s.flag Reg.TWB_STATUS.BUS_DEAD b = false →
    (s.bus b).run = none → Does (.twbAlertReread b) s fun t => (t.bus b).agent = [araJob] ∧ (t.bus b).araAt = s.time) ∧
  (∀ v : Bool, 64 ≤ b → s.barOn = true → s.blockOn (Reg.TWB_TGT.ALERT_REQ.addr (b - 64) 0 0) = true →
    Does (.alertReq b v) s fun t => t.flag Reg.TWB_TGT.ALERT_REQ (b - 64) = v ∧ t.flag Reg.TWB_STATUS.ALERT b = ((s.bus b).alertIn || v)) ∧
  (s.barOn = true → s.blockOn (Reg.TWB_CTRL.CANCEL.addr b 0 0) = true →
    Does (.cancel b) s fun t => (t.bus b).queue = (s.bus b).queue.filter fun j => j.what != 0) ∧
  (s.barOn = true → s.blockOn (Reg.TWB_CTRL.RECOVER.addr b 0 0) = true →
    Does (.recover b none) s fun t => t.rd Reg.TWB_STATUS.BUS_DEAD b = 1) ∧
  (∀ n : Nat, s.barOn = true → s.blockOn (Reg.TWB_CTRL.RECOVER.addr b 0 0) = true → n ≤ 9 →
    Does (.recover b (some n)) s fun t => t.rd Reg.TWB_STATUS.BUS_DEAD b = 0) ∧
  (∀ (j : TwbJob) (t0 : Nat), (s.bus b).queue = [j] → j.deadline = some t0 → t0 ≤ s.time →
    Does (.twbXferTimeout b) s fun t => (t.bus b).queue = []) ∧
  ((s.bus b).run = none → Does (.twbStartSeen b false) s fun t => t.rd Reg.TWB_STATUS.BUSY b = 1) ∧
  ((s.bus b).run = none → Does (.twbStartSeen b true) s fun t => t.rd Reg.TWB_STATUS.BUSY b = 0) ∧
  (∀ p : TwbTgt, 64 ≤ b → b ≤ 65 → (s.bus b).run = none → hasBit (s.rd Reg.PWR_DOM.ON) (b - 42) = true → (s.bus b).asleep = false →
    s.flag Reg.TWB_TGT.EN (b - 64) = true → p.addr = s.rd Reg.TWB_TGT.ADDR (b - 64) → p.cmd = 1 → p.read = false →
    s.flag Reg.TWB_TGT.RX_FULL (b - 64) = false → p.data ≠ [] → p.data.length ≤ 32 → p.pec = none →
    Does (.twbTargetTransaction b p) s fun t => t.flag Reg.TWB_TGT.RX_FULL (b - 64) = true ∧ t.rd Reg.TWB_TGT.RX_LEN (b - 64) = p.data.length) ∧
  (∀ p : TwbTgt, 64 ≤ b → b ≤ 65 → (s.bus b).run = none → hasBit (s.rd Reg.PWR_DOM.ON) (b - 42) = true → (s.bus b).asleep = true →
    s.flag Reg.TWB_TGT.EN (b - 64) = true → p.addr = s.rd Reg.TWB_TGT.ADDR (b - 64) →
    Does (.twbTargetTransaction b p) s fun t => (t.bus b).asleep = false)

/-- A PD port comes up (R448, R450, R451, R453, R455), each where it takes effect.
Where the rules leave room the reading is the model's own choice: log entries 40, 41, 42, 199. -/
def Obligations.PortAttach : Prop := ∀ (s : State) (k : Nat), s.stopped = false →
  (∀ (orient : Nat) (ra : Bool), s.rd Reg.PDP_STATUS.TC_STATE k = 1 → s.running = true → orient < 2 →
    Does (.pdRdDetect k orient ra) s fun t => t.rd Reg.PDP_STATUS.TC_STATE k = 2 ∧ t.rd Reg.PDP_STATUS.ORIENT k = orient ∧
      (t.port k).rdAt = s.time ∧ (t.port k).ra = ra) ∧
  (s.rd Reg.PDP_STATUS.TC_STATE k = 2 → (s.port k).rdAt + 150000 ≤ s.time →
    Does (.pdAttach k) s fun t => t.rd Reg.PDP_STATUS.TC_STATE k = 3 ∧ t.flag Reg.PDP_STATUS.VCONN k = (s.port k).ra ∧
      t.rd Reg.PDP_CONTRACT.V k = 5000 ∧ t.rd Reg.PDP_CONTRACT.I k = 1500) ∧
  (∀ vbus : Nat, s.attached k = true → (s.port k).hardStep = 0 → (s.port k).offer = [] → (s.port k).awaits = 0 → (s.port k).vbusEn = true →
    4750 ≤ vbus → vbus ≤ 5500 → s.flag Reg.PDP_STATUS.VCONN k = false → (s.port k).vconnSink = false →
    Does (.pdVbusReady k vbus) s fun t => t.rd Reg.PDP_MEAS.VBUS k = vbus ∧ (t.port k).awaits = 2 ∧ (t.port k).offer = s.fixedOffer k) ∧
  (∀ vbus : Nat, s.attached k = true → (s.port k).hardStep = 0 → (s.port k).offer = [] → (s.port k).awaits = 0 → (s.port k).vbusEn = true →
    4750 ≤ vbus → vbus ≤ 5500 → s.flag Reg.PDP_STATUS.VCONN k = true → (s.port k).unmarked = false → s.flag Reg.PDP_CABLE.VALID k = false →
    Does (.pdVbusReady k vbus) s fun t => (t.port k).awaits = 1 ∧ t.out = .pd k .discoverIdentityCable :: s.out) ∧
  (∀ vbus : Nat, s.attached k = true → (s.port k).hardStep = 0 → (s.port k).offer = [] → (s.port k).awaits = 0 → (s.port k).vbusEn = true →
    4750 ≤ vbus → vbus ≤ 5500 → s.flag Reg.PDP_STATUS.VCONN k = false → (s.port k).vconnSink = true → (s.port k).unmarked = false →
    s.flag Reg.PDP_CABLE.VALID k = false →
    Does (.pdVbusReady k vbus) s fun t => (t.port k).awaits = 4 ∧ t.out = .pd k .vconnSwap :: s.out) ∧
  (∀ (cur vmax : Nat) (epr : Bool), s.attached k = true → s.rd Reg.ENG_TASK.STATE (policyTask k) < 2 →
    (s.port k).awaits = 1 ∨ (s.port k).awaits = 4 → cur < 4 → vmax < 256 →
    Does (.pdCableIdentity k cur vmax epr none) s fun t => t.rd Reg.PDP_CABLE.VALID k = 1 ∧ t.rd Reg.PDP_CABLE.CABLE_I k = cur ∧
      t.rd Reg.PDP_CABLE.VMAX k = vmax ∧ t.flag Reg.PDP_CABLE.EPR_CAP k = epr) ∧
  (∀ pos mv ma rev nv ni kind : Nat, s.attached k = true → s.rd Reg.ENG_TASK.STATE (policyTask k) < 2 → (s.port k).hardStep = 0 →
    (s.port k).offer ≠ [] → (s.port k).awaits ≠ 3 → (s.port k).asked pos mv ma = some (nv, ni, kind) →
    Does (.pdRequest k pos mv ma rev none) s fun t => (t.port k).nextV = nv ∧ (t.port k).nextI = ni ∧ (t.port k).nextKind = kind ∧
      (t.port k).readyOwed = true ∧ (t.port k).awaits = 0) ∧
  (∀ pos mv ma rev nv ni kind : Nat, s.attached k = true → s.rd Reg.ENG_TASK.STATE (policyTask k) < 2 → (s.port k).hardStep = 0 →
    (s.port k).awaits = 3 → s.fixedOffer k ≠ [] →
    { (s.port k) with offer := s.fixedOffer k, pps := s.ppsOffer k }.asked pos mv ma = some (nv, ni, kind) →
    Does (.pdRequest k pos mv ma rev none) s fun t => (t.port k).nextV = nv ∧ (t.port k).nextI = ni ∧ (t.port k).offer = s.fixedOffer k ∧
      (t.port k).readyOwed = true ∧ (t.port k).awaits = 0) ∧
  (∀ vbus us : Nat, 1000 ≤ us → s.attached k = true → (s.port k).readyOwed = true → (s.port k).planned = true →
    s.rd Reg.PHC_REF_V.REF_V (portLead k) = (s.port k).nextV → (s.port k).nextKind = 1 ∨ (s.port k).nextKind = 3 →
    20 * (max vbus (s.port k).nextV - min vbus (s.port k).nextV) ≤ (s.port k).nextV → (s.port k).nextI < 8192 →
    (∀ a ∈ (s.port k).actions, a.1 ≠ 20) →
    Does (.pdPsRdy k vbus us) s fun t => t.rd Reg.PDP_CONTRACT.V k = (s.port k).nextV % 2 ^ 16 ∧ t.rd Reg.PDP_CONTRACT.I k = (s.port k).nextI ∧
      t.rd Reg.PDP_STATUS.CONTRACT k = (s.port k).nextKind) ∧
  (s.attached k = true → s.rd Reg.ENG_TASK.STATE (policyTask k) < 2 → s.eprMay k = true → s.rd Reg.PDP_STATUS.REV k = 2 → s.rd Reg.PDP_STATUS.CONTRACT k = 1 →
    Does (.pdEprEnter k none) s fun t => (t.port k).epr = true ∧ (t.port k).eprAt = s.time) ∧
  (s.attached k = true → s.rd Reg.ENG_TASK.STATE (policyTask k) < 2 → s.flag Reg.PDP_POL_B.VSWAP k = true →
    Does (.pdVconnSwap k none) s fun t => t.flag Reg.PDP_STATUS.VCONN k = decide (s.rd Reg.PDP_STATUS.VCONN k = 0)) ∧
  (s.attached k = true → s.rd Reg.ENG_TASK.STATE (policyTask k) < 2 → s.flag Reg.PDP_POL_B.VSWAP k = false →
    Does (.pdVconnSwap k none) s fun t => t.out = .pd k .reject :: .pd k .goodCrc :: s.out)

/-- A PD port's Hard and Soft Resets (R453, R460, R461), each where it takes effect. -/
def Obligations.PortResets : Prop := ∀ (s : State) (k : Nat), s.stopped = false →
  ((s.port k).epr = true → s.attached k = true → Does (.pdEprKeepaliveTimeout k) s fun t => (t.port k).hardStep = 1) ∧
  (∀ received : Bool, s.attached k = true →
    Does (.pdHardReset k received none) s fun t => (t.port k).hardStep = 1 ∧ (t.port k).hardAt = s.time ∧ t.rd Reg.PDP_STATUS.CONTRACT k = 0) ∧
  ((s.port k).hardStep = 1 → (s.port k).hardAt + 30000 ≤ s.time →
    Does (.pdHardResetPark k) s fun t => (t.port k).hardStep = 2 ∧ (t.port k).vbusDis = true) ∧
  (∀ since : Nat, (s.port k).hardStep = 2 → (s.port k).hardAt + 30000 ≤ since → since + 700000 ≤ s.time →
    Does (.pdVsafe0vHoldEnd k since) s fun t => (t.port k).hardStep = 0 ∧ (t.port k).vbusDis = false ∧ t.rd Reg.PDP_CONTRACT.V k = 5000) ∧
  (s.attached k = true → s.rd Reg.ENG_TASK.STATE (policyTask k) < 2 → (s.port k).hardStep = 0 →
    Does (.pdSoftResetReceived k none) s fun t => t.rd Reg.PDP_CNT.SOFT_RESETS k = min (s.rd Reg.PDP_CNT.SOFT_RESETS k + 1) 255 ∧ (t.port k).awaits = 2) ∧
  ((s.port k).awaits = 3 → s.attached k = true → Does (.pdSoftResetTimeout k) s fun t => (t.port k).hardStep = 1) ∧
  ((s.port k).awaits = 3 → s.attached k = true → Does (.pdSenderResponseTimeout k) s fun t => (t.port k).hardStep = 1)

/-- A PD port's messages, its service mode and its end (R441, R450, R462, R463, R465, R467), each where it takes effect: a message during another
is received after 20 bits of preamble and that one aborted, and a message waits while the policy engine's pair does not run. -/
def Obligations.PortMessages : Prop := ∀ (s : State) (k : Nat), s.stopped = false →
  (∀ ma us : Nat, 400 < ma → 1000 ≤ us → s.flag Reg.PDP_STATUS.VCONN k = true → Does (.pdVconnOvercurrent k ma us) s fun t => t.rd Reg.PDP_STATUS.VCONN k = 0 ∧ t.rd Reg.PDP_CABLE.VALID k = 0) ∧
  (s.attached k = true → s.rd Reg.ENG_TASK.STATE (policyTask k) < 2 →
    Does (.pdUnsupportedMessage k true true none) s fun t => t.out = .pd k .vdmNak :: .pd k .goodCrc :: s.out) ∧
  (∀ structured : Bool, s.attached k = true → s.rd Reg.ENG_TASK.STATE (policyTask k) < 2 →
    Does (.pdUnsupportedMessage k false structured none) s fun t => t.out = .pd k .notSupported :: .pd k .goodCrc :: s.out) ∧
  (∀ (vdm structured : Bool) (n : Nat), s.attached k = true → n < 20 →
    Does (.pdUnsupportedMessage k vdm structured (some n)) s fun t => t.out = s.out ∧ t.rd Reg.PDP_CNT.RX_ABORTS k = s.rd Reg.PDP_CNT.RX_ABORTS k) ∧
  (∀ (vdm structured : Bool) (n : Nat), s.attached k = true → 20 ≤ n →
    Does (.pdUnsupportedMessage k vdm structured (some n)) s fun t => .pd k .goodCrc ∈ t.out ∧
      t.rd Reg.PDP_CNT.RX_ABORTS k = min (s.rd Reg.PDP_CNT.RX_ABORTS k + 1) (2 ^ Reg.PDP_CNT.RX_ABORTS.w - 1)) ∧
  (∀ vdm structured : Bool, s.attached k = true → 2 ≤ s.rd Reg.ENG_TASK.STATE (policyTask k) →
    Does (.pdUnsupportedMessage k vdm structured none) s fun t => (t.port k).inbox = (s.port k).inbox ++ [.unsupported vdm structured] ∧
      t.out = .pd k .goodCrc :: s.out) ∧
  (∀ n : Nat, n = 1 ∨ n = 2 ∨ n = 3 → (s.port k).svcStep = n → s.explicit k = true → s.rd Reg.ENG_TASK.STATE (policyTask k) < 2 →
    Does (.pdDiscoverResponse k true none) s fun t => (t.port k).svcStep = n + 1) ∧
  ((s.port k).svcStep = 4 → s.explicit k = true → s.rd Reg.ENG_TASK.STATE (policyTask k) < 2 → s.flag Reg.PDP_STATUS.SVC (svcTwin k) = false →
    s.flag Reg.PDP_STATUS.HELD k = true → s.flag Reg.FN_STATUS.HELD (s.rd Reg.PDP_STATUS.HOLDER k) = false →
    Does (.pdEnterModeAck k none) s fun t => t.flag Reg.PDP_STATUS.SVC k = true ∨ ∃ a c, (a, c) ∈ (s.port k).actions ∧ 16 ≤ a) ∧
  (s.rd Reg.PDP_STATUS.TC_STATE k = 3 → Does (.pdDetach k) s fun t => t.rd Reg.PDP_STATUS.TC_STATE k = 1 ∧ t.rd Reg.PDP_STATUS.VCONN k = 0)

/-- A PD port's protections (R449, R459), each where it takes effect. -/
def Obligations.PortGuards : Prop := ∀ (s : State) (k : Nat), s.stopped = false →
  (∀ vbus v : Nat, s.attached k = true → (s.port k).vbusEn = true → v ≠ 0 → s.rd Reg.PDP_STATUS.CONTRACT k ≠ 2 →
    v = (if (s.port k).readyOwed then max (s.port k).nextV (s.rd Reg.PDP_CONTRACT.V k) else s.rd Reg.PDP_CONTRACT.V k) → 115 * v < 100 * vbus →
    Does (.pdOvp k vbus) s fun t => (t.port k).hardStep = 1 ∧ (t.port k).vbusDis = true) ∧
  (∀ vbus v : Nat, s.attached k = true → (s.port k).vbusEn = true → v ≠ 0 → s.rd Reg.PDP_STATUS.CONTRACT k = 2 →
    v = (if (s.port k).readyOwed then max (s.port k).nextV (s.rd Reg.PDP_CONTRACT.V k) else s.rd Reg.PDP_CONTRACT.V k) → v + 1000 < vbus →
    Does (.pdOvp k vbus) s fun t => (t.port k).hardStep = 1 ∧ (t.port k).vbusDis = true) ∧
  (∀ t0 : Nat, s.attached k = true → s.rd Reg.PDP_STATUS.CONTRACT k = 1 ∨ s.rd Reg.PDP_STATUS.CONTRACT k = 3 →
    s.flag Reg.SRC_GUARD.ACTIVE = false → (s.chan (portLead k)).ccSince = some t0 → t0 + 50000 ≤ s.time →
    Does (.pdOcp k) s fun t => (t.port k).hardStep = 1) ∧
  (s.rd Reg.PDP_STATUS.TC_STATE k = 4 → (s.port k).recoverAt ≤ s.time →
    s.rd Reg.PHC_CNT.RETRIES (portLead k) ≤ s.rd Reg.PHC_START.RETRY_MAX (portLead k) →
    Does (.pdErrorRecoveryEnd k) s fun t => t.rd Reg.PDP_STATUS.TC_STATE k = 1 ∧ (t.port k).vbusDis = false) ∧
  (s.rd Reg.PDP_STATUS.TC_STATE k = 4 → (s.port k).recoverAt ≤ s.time →
    s.rd Reg.PHC_START.RETRY_MAX (portLead k) < s.rd Reg.PHC_CNT.RETRIES (portLead k) →
    Does (.pdErrorRecoveryEnd k) s fun t => t.rd Reg.PDP_STATUS.TC_STATE k = 5) ∧
  (s.barOn = true → s.blockOn (Reg.PDP_CTRL.CLEAR.addr k 0 0) = true → s.rd Reg.PDP_STATUS.TC_STATE k = 5 →
    Does (.pdFaultClear k) s fun t => t.rd Reg.PDP_STATUS.TC_STATE k = 1 ∧ t.rd Reg.PHC_CNT.RETRIES (portLead k) = 0)

/-- Tasks, pairs and beds (R30, R474, R476 to R487, R507), each where it takes effect: an effect is delivered once, and nothing speculative
survives a fault.
Where the rules leave room the reading is the model's own choice: log entries 63, 188, 206. -/
def Obligations.EngineTasks : Prop := ∀ s : State, s.stopped = false →
  (∀ (t0 cycles p : Nat) (acts : List TineAct), t0 < 416 → s.runsOn t0 = some p → s.time % taskPeriod t0 = 0 → cycles ≤ 400 * taskPeriod t0 →
    (s.task t0).waits = none → hasBit (s.rd Reg.PWR_DOM.ON) (p / 32 + 1) = true → s.roundRuns t0 p = true → (splitArrive (fun _ => true) acts).2 = none →
    Does (.taskPeriod t0 cycles acts) s fun t => (t.task t0).period = ((s.task t0).period + 1) % 2 ^ 32 ∧ (t.task t0).queue = [] ∧
      (t.task t0).ckptSeq = (t.task t0).seq ∧ (t.task t0).ckptMem = (t.task t0).mem) ∧
  (∀ t0 cycles p target data : Nat, t0 < 416 → s.runsOn t0 = some p → s.time % taskPeriod t0 = 0 → cycles ≤ 400 * taskPeriod t0 →
    (s.task t0).waits = none → hasBit (s.rd Reg.PWR_DOM.ON) (p / 32 + 1) = true → s.roundRuns t0 p = true → (s.task t0).queue = [] →
    Does (.taskPeriod t0 cycles [.effect 1 target data]) s fun t => (t.task t0).seq = (s.task t0).seq + 1 ∧
      t.out = if (s.task t0).seq < (s.task t0).sent then s.out else .effect t0 (s.task t0).seq 1 target (data % 2 ^ 32) :: s.out) ∧
  (∀ (t0 p : Nat) (overrun : Bool) (acts : List TineAct), t0 < 416 → s.runsOn t0 = some p → s.planned t0 = false →
    (overrun = true → s.time % taskPeriod t0 = 0) →
    Does (.taskFault t0 overrun acts) s fun t => t.rd Reg.ENG_TASK.FAULTS t0 = min (s.rd Reg.ENG_TASK.FAULTS t0 + 1) 255 ∧
      (t.task t0).queue = [] ∧ (t.task t0).seq = (s.task t0).ckptSeq ∧ (t.task t0).mem = (s.task t0).ckptMem) ∧
  (∀ (p point t0 : Nat) (acts : List TineAct), s.taskOn p = some t0 → s.runsOn t0 = some p →
    Does (.pairDisagree p point acts) s fun t => t.rd Reg.ENG_CNT.DISAGREE = min (s.rd Reg.ENG_CNT.DISAGREE + 1) 255) ∧
  (∀ p : Nat, (s.pair p).st = 3 → (s.pair p).quarAt + 20000 ≤ s.time → (s.pair p).strikes = [] →
    Does (.pairSelfTestEnd p true) s fun t => (t.pair p).st = 0) ∧
  (∀ p : Nat, (s.pair p).st = 3 → (s.pair p).quarAt + 20000 ≤ s.time →
    Does (.pairSelfTestEnd p false) s fun t => (t.pair p).st = 4 ∧ t.rd Reg.ENG_CNT.RETIRED = min (s.rd Reg.ENG_CNT.RETIRED + 1) 255) ∧
  (∀ t0 : Nat, t0 < 416 → s.rd Reg.ENG_TASK.STATE t0 = 2 → (s.task t0).readyAt ≤ s.time → s.time % taskPeriod t0 = 0 →
    (s.planned t0 = true → s.moversTurn t0 = true) → (s.task t0).owed = none → taskSlot t0 = none → 8 ≤ t0 / 26 ∨ t0 % 26 ≠ 25 →
    Does (.taskMigrationResume t0) s fun t => t.rd Reg.ENG_TASK.STATE t0 = (if s.hostOf t0 = homePair t0 then 0 else 1) ∧ (t.task t0).from? = none) ∧
  (∀ b : Nat, b < 16 → hasBit (s.rd Reg.GLB_HEALTH.BED_LOST) b = false → s.rd Reg.GLB_HEALTH.BED_LOST < 2 ^ 16 →
    Does (.bedFault b) s fun t => t.rd Reg.GLB_HEALTH.BED_LOST = setBit (s.rd Reg.GLB_HEALTH.BED_LOST) b ∧ t.rd Reg.GLB_RESET_INFO.BED = b ∧
      t.rd Reg.GLB_RESET_CAUSE.BED = 1) ∧
  (∀ k t0 since : Nat, k < 16 → s.barrierMembers k = [t0] → (s.task t0).waits = some (k, since) → (splitArrive (fun _ => true) (s.task t0).rest).2 = none →
    Does (.barrierRelease k) s fun t => (t.task t0).waits = none ∧ (t.task t0).period = ((s.task t0).period + 1) % 2 ^ 32) ∧
  (∀ k t0 since p : Nat, t0 < 416 → (s.task t0).waits = some (k, since) → since + s.barrierTimeout t0 k ≤ s.time → s.runsOn t0 = some p →
    s.planned t0 = false →
    Does (.barrierTimeout k t0) s fun t => t.rd Reg.ENG_TASK.FAULTS t0 = min (s.rd Reg.ENG_TASK.FAULTS t0 + 1) 255) ∧
  (∀ p addr : Nat, s.flag Reg.SVC_STATUS.DBG_RUN = true → addr ∈ (s.pair p).bps → (s.pair p).halted = false →
    Does (.tineBreakpointHit p addr) s fun t => (t.pair p).halted = true ∧ t.rd Reg.WDG_STATUS.STATE = 2)

/-- The rollout of microcode and the views of the engines (R493, R495 to R499, R504, R507), each where it takes effect.
Where the rules leave room the reading is the model's own choice: log entries 62, 205, 207, 208, 210. -/
def Obligations.EngineRollout : Prop := ∀ s : State, s.stopped = false →
  (∀ (c : Ctl) (img : Image) (len cause : Nat), s.eng.stage = some (c, len, img.gen) → img.len = len → cause ≠ 7 → cause ≠ 8 → img.err = 0 → img.gen < 65536 →
    0 < (img.gen + 65536 - s.rd Reg.ENG_GEN.ACTIVE) % 65536 → (img.gen + 65536 - s.rd Reg.ENG_GEN.ACTIVE) % 65536 < 32768 →
    img.lo ≤ s.rd Reg.ENG_SCHEMA.ACT_HI →
    Does (.microcodeStageComplete img cause) s fun t => t.rd Reg.ENG_UPG.STATE = 2 ∧ t.rd Reg.ENG_GEN.STAGED = img.gen ∧ t.eng.stage = none) ∧
  (∀ (c : Ctl) (img : Image) (len gen cause : Nat), s.eng.stage = some (c, len, gen) → cause = 7 ∨ cause = 8 →
    Does (.microcodeStageComplete img cause) s fun t => t.rd Reg.ENG_UPG.STATE = 0 ∧ t.rd Reg.ENG_STAGE.CAUSE = cause ∧ t.eng.stage = none) ∧
  (∀ (b : Nat) (bad : List Nat), s.rd Reg.ENG_UPG.STATE = 3 → s.rd Reg.ENG_UPG.BED = b → b < 16 → s.rd Reg.ENG_UPG.STEP = 3 →
    s.rd Reg.ENG_UPG.BEDS_NEW < 2 ^ 16 →
    Does (.rolloutBedStep bad) s fun t => t.rd Reg.ENG_UPG.STEP = 4 ∧ t.rd Reg.ENG_UPG.BEDS_NEW = setBit (s.rd Reg.ENG_UPG.BEDS_NEW) b) ∧
  (∀ (b : Nat) (bad : List Nat), s.rd Reg.ENG_UPG.STATE = 3 → s.rd Reg.ENG_UPG.BED = b → b < 16 → s.rd Reg.ENG_UPG.STEP = 4 →
    (∀ p ∈ bad, p / 32 ≠ b) → Does (.rolloutBedStep bad) s fun t => t.rd Reg.ENG_UPG.STEP = 5) ∧
  (∀ b : Nat, s.rd Reg.ENG_UPG.STATE = 3 → s.rd Reg.ENG_UPG.STEP = 7 → s.eng.dwellAt + 1000000 * s.eng.dwell ≤ s.time →
    rollNext (s.rd Reg.ENG_UPG.BED) = some b → 64 ≤ s.rd Reg.GLB_HEALTH.SPARE_PAIRS →
    Does .rolloutDwellEnd s fun t => t.rd Reg.ENG_UPG.BED = b ∧ t.rd Reg.ENG_UPG.STEP = if b = 0 then 1 else 2) ∧
  (s.rd Reg.ENG_UPG.STATE = 3 → s.rd Reg.ENG_UPG.STEP = 7 → s.eng.dwellAt + 1000000 * s.eng.dwell ≤ s.time →
    rollNext (s.rd Reg.ENG_UPG.BED) = none → Does .rolloutDwellEnd s fun t => t.eng.roll = none ∧
      t.keep.queue = s.keep.queue ++ [{ effect := .boot (1 - s.rd Reg.ENG_BOOT.ACTIVE_BANK), ctl := s.eng.roll }]) ∧
  (Does .traceWindowRead s fun t => t.rd Reg.ENG_TRACE_PTR.RD = (s.rd Reg.ENG_TRACE_PTR.RD + 1) % 16384) ∧
  (∀ p : Nat, s.barOn = true → s.blockOn (Reg.ENG_PAIR_SEL.PAIR.addr 0 0 0) = true → Reg.ENG_PAIR_SEL.PAIR.rangeCause p = 0 →
    Does (.pairSnapshotSelect p) s fun t => t.rd Reg.ENG_PAIR_SEL.PAIR = p ∧ t.rd Reg.ENG_PAIR.TASK = (s.taskOn p).getD 0x1FF % 512)

/-- The house-battery charger and the accessory boost (R59, R61, R62, R64, R78, R408), each where it takes effect.
Where the rules leave room the reading is the model's own choice: log entries 71, 72, 73, 146, 148. -/
def Obligations.HouseRail : Prop := ∀ s : State, s.stopped = false →
  (∀ (mv sys rail : Nat) (ma : Int), s.house.railStep = 6 → s.flag Reg.SRC_HB_STATUS.ABSENT = false → s.rd Reg.SRC_HB_STATUS.STATE = 2 →
    hbCv s.hbChem ≤ mv → mv < 2 ^ 16 →
    Does (.hbChargerTransition mv ma sys rail) s fun t => t.rd Reg.SRC_HB_STATUS.STATE = 3 ∧ t.rd Reg.SRC_HB_MEAS.VOLT = mv ∧ t.house.cvAt = s.time) ∧
  (∀ (mv sys rail : Nat) (ma : Int), s.house.railStep = 4 → s.flag Reg.SRC_HB_STATUS.ABSENT = false → max rail mv - min rail mv ≤ 200 →
    mv < hbDead s.hbChem → s.rd Reg.SRC_HB_STATUS.STATE < 6 →
    Does (.hbChargerTransition mv ma sys rail) s fun t => t.rd Reg.SRC_HB_STATUS.HRAIL = 1 ∧ t.rd Reg.SRC_HB_STATUS.STATE = 0 ∧ t.house.railStep = 6) ∧
  (hasBit (s.rd Reg.PWR_DOM.ON) 19 = true → s.flag Reg.SRC_HB_STATUS.ABSENT = false → s.flag Reg.TWB_STATUS.BUS_DEAD 64 = false →
    Does .hbTempRead s fun t => (t.bus 64).agent.length = (s.bus 64).agent.length + 1) ∧
  (3 ≤ s.house.railStep → s.flag Reg.SRC_HB_STATUS.ABSENT = false → s.hbTempOk = false → s.rd Reg.SRC_HB_STATUS.STATE < 6 →
    Does .hbTempSuspend s fun t => t.rd Reg.SRC_HB_STATUS.STATE = 6 ∧ t.house.hbPre = false) ∧
  (∀ cause : Nat, 3 ≤ s.house.railStep → s.flag Reg.SRC_HB_STATUS.ABSENT = false → s.rd Reg.SRC_HB_STATUS.STATE ≠ 7 → s.hbFaulty cause = true →
    Does (.hbFault cause) s fun t => t.rd Reg.SRC_HB_STATUS.STATE = 7) ∧
  (s.flag Reg.SRC_ACC_CTRL.RUNNING = true → s.flag Reg.SRC_ACC_CTRL.UVLO = false → s.flag Reg.SRC_HB_STATUS.ABSENT = false →
    s.hbMv < hbCut s.hbChem → Does .accUvlo s fun t => t.flag Reg.SRC_ACC_CTRL.UVLO = true ∧ (t.rd Reg.PHC_STATUS.STAGE 137 = 4 ∨ t.flag Reg.PHC_STATUS.PARKED 137 = true)) ∧
  (s.flag Reg.SRC_ACC_CTRL.UVLO = true → hbCut s.hbChem + 800 < s.hbMv →
    Does .accRestart s fun t => t.flag Reg.SRC_ACC_CTRL.UVLO = false)

/-- The samples of the 380 V bus and its guard (R40, R41, R48, R49, R52, R650), each where it takes effect.
Where the rules leave room the reading is the model's own choice: log entries 66, 149, 152. -/
def Obligations.BusGuard : Prop := ∀ s : State, s.stopped = false →
  (∀ (b : BusSample) (avgs : List (Nat × Nat)), s.gridOn = true → validBus b ≠ [] →
    Does (.busSample b avgs) s fun t => t.rd Reg.SRC_BUS.BUS_V = min 0x7FFFF ((validBus b).foldl (· + ·) 0 / (validBus b).length)) ∧
  (∀ m clocks : Nat, s.gridOn = true → 64 ≤ clocks → m < 2 → Does (.modulatorStuck m clocks) s fun t => t.rd Reg.SRC_BUS.MISMATCH = 1) ∧
  (∀ m clocks : Nat, s.gridOn = true → 64 ≤ clocks → 2 ≤ m → m < 10 →
    Does (.modulatorStuck m clocks) s fun t => (t.src ((m - 2) / 2)).stuck = true) ∧
  (∀ t0 : Nat, s.grid.misSince = some t0 → t0 + 1000 ≤ s.time → s.flag Reg.SRC_BUS.MISMATCH = false →
    Does .busSensorMismatch s fun t => t.rd Reg.SRC_BUS.MISMATCH = 1) ∧
  (∀ ks : List Nat, ks = (s.srcsOn.filter fun k => decide (2 ≤ (s.src k).tripRun)) → (∃ k ∈ ks, k ∉ s.grid.tripped) → s.scaleFor ks < 2048 →
    Does .busGuardTrip s fun t => t.rd Reg.SRC_GUARD.SCALE = s.scaleFor ks ∧ t.grid.tripped = ks ∧
      (s.grid.trip = false → t.rd Reg.SRC_GUARD.TRIPS = min (s.rd Reg.SRC_GUARD.TRIPS + 1) 255)) ∧
  (∀ n : Nat, 2 ≤ s.grid.ovRun → n ∈ s.feeding → Does .busOvervoltage s fun t => t.rd Reg.PHC_STATUS.STAGE n = 0) ∧
  (2 ≤ s.grid.uvRun → Does .busUndervoltage s fun t => t.rd Reg.SRC_GUARD.SCALE = 0 ∧ t.grid.uvHold = true) ∧
  (∀ sl : Nat, s.grid.below2.contains sl = true → (s.slot sl).disc = true → s.oddGanged sl = false →
    s.slSt sl ∉ [slEmpty, slOff, slGanged, slFaulted] →
    Does (.busBelowPack sl) s fun t => t.slSt sl = slFaulted ∧ t.rd Reg.SLT_FAULT.CAUSE sl = caReverse) ∧
  (∀ t0 : Nat, s.grid.restartSince = some t0 → s.grid.uvHold = true → t0 + 100000 ≤ s.time →
    Does .busUvRestart s fun t => t.grid.uvHold = false)

/-- The sources of the bus (R42 to R47, R72, R73), each where it takes effect.
Where the rules leave room the reading is the model's own choice: log entries 67, 68, 69. -/
def Obligations.BusSources : Prop := ∀ (s : State) (k : Nat), s.stopped = false → k < 4 →
  (∀ mv : Nat, s.modeReg ≠ mShip → s.gridOn = true → s.flag Reg.SRC_PORT_STATUS.PRESENT k = false →
    Does (.sourcePresenceRise k mv) s fun t => t.rd Reg.SRC_PORT_STATUS.PRESENT k = 1 ∧ t.rd Reg.SRC_PORT_STATUS.QUALIFYING k = 1 ∧
      (t.src k).idClass = classOf mv) ∧
  (∀ why : Nat, s.modeReg ≠ mShip → s.gridOn = true → s.lossHolds k why = true →
    Does (.sourceLost k why) s fun t => t.rd Reg.SRC_PORT_STATUS.ENABLED k = 0 ∧ t.rd Reg.SRC_PORT_STATUS.LOST_WHY k = why ∧
      (t.src k).qualified = false) ∧
  (∀ t0 : Nat, (s.src k).qualAt = some t0 → s.gridOn = true → s.flag Reg.SRC_PORT_STATUS.PRESENT k = true →
    (s.src k).vGood = true → t0 + 1000000 * s.rd Reg.SRC_PORT_CFG.QUAL_T k ≤ s.time →
    Does (.sourceQualified k) s fun t => t.rd Reg.SRC_PORT_STATUS.QUALIFYING k = 0 ∧ (t.src k).qualified = true ∧
      (s.flag Reg.SRC_PORT_STATUS.ENABLED k = false → s.mode ≠ mIsland → s.rd Reg.SRC_PORT_CFG.MODE k = 1 →
        t.rd Reg.SRC_PORT_STATUS.ENABLED k = 1)) ∧
  (∀ v : Nat, s.barOn = true → s.blockOn (Reg.SRC_PORT_LIMIT.OVERRIDE.addr k 0 0) = true → Reg.SRC_PORT_LIMIT.OVERRIDE.rangeCause v = 0 →
    Does (.srcLimitWrite k v) s fun t => t.rd Reg.SRC_PORT_LIMIT.OVERRIDE k = v ∧
      t.rd Reg.SRC_PORT_STATUS.LIMIT_EFF k = min (classLimit (s.srcClass k)) v) ∧
  (∀ mode : Nat, s.barOn = true → s.blockOn (Reg.SRC_PORT_CFG.MODE.addr k 0 0) = true → Reg.SRC_PORT_CFG.MODE.rangeCause mode = 0 →
    mode ≠ s.rd Reg.SRC_PORT_CFG.MODE k →
    Does (.srcModeWrite k mode) s fun t => t.rd Reg.SRC_PORT_CFG.MODE k = mode ∧ (mode = 0 → t.flag Reg.SRC_PORT_STATUS.ENABLED k = false)) ∧
  (∀ (t0 : Nat) (l : List Nat), s.grid.demandLow = some t0 → s.grid.demand = k :: l → t0 + 60000000 ≤ s.time →
    Does .demandSourceDisable s fun t => t.rd Reg.SRC_PORT_STATUS.ENABLED k = 0 ∧ t.grid.demandLow = none)

/-- ISLAND's donors and its end (R46, R47, R55 to R58), each where it takes effect: a source that qualifies begins to return, and is enabled when
the set point has ramped.
Where the rules leave room the reading is the model's own choice: log entries 52, 53, 70. -/
def Obligations.IslandDonors : Prop := ∀ s : State, s.stopped = false → s.mode = mIsland →
  (s.grid.ready = false → (∃ sl ∈ s.islandDonors, s.switching (s.slotLead sl) = true) →
    50 * (max (1000 * s.rd Reg.SRC_ISLAND.V_SET) s.busMv - min (1000 * s.rd Reg.SRC_ISLAND.V_SET) s.busMv) ≤ 1000 * s.rd Reg.SRC_ISLAND.V_SET →
    Does .islandBusReady s fun t => t.grid.ready = true) ∧
  (∀ sl d : Nat, sl ∈ s.islandDonors → s.rd Reg.GAU_SOC.SOC sl ≤ 100 * s.rd Reg.SRC_ISLAND.FLOOR + 200 →
    100 * s.rd Reg.SRC_ISLAND.FLOOR < s.rd Reg.GAU_SOC.SOC sl → sl ∉ s.grid.handed → s.donorRank.head? = some d →
    Does (.islandDonorFloor sl) s fun t => t.slSt d = slDonor ∧ t.rd Reg.SLT_STATUS.ROLE d = 3) ∧
  (∀ k t0 : Nat, k < 4 → (s.src k).qualAt = some t0 → s.gridOn = true → s.flag Reg.SRC_PORT_STATUS.PRESENT k = true → (s.src k).vGood = true →
    t0 + 1000000 * s.rd Reg.SRC_PORT_CFG.QUAL_T k ≤ s.time → s.flag Reg.SRC_PORT_STATUS.ENABLED k = false → s.rd Reg.SRC_PORT_CFG.MODE k ≠ 0 →
    s.grid.returning = none → (∀ j < 4, j ≠ k → s.waitsReturn j = false) →
    Does (.sourceQualified k) s fun t => t.grid.returning = some (k, s.time, s.donorVset.toNat) ∧ t.rd Reg.SRC_PORT_STATUS.ENABLED k = 0) ∧
  (∀ k : Nat, k < 4 → s.waitsReturn k = true → s.islandDonors = [] →
    Does (.islandSourceReturn k) s fun t => t.rd Reg.SRC_PORT_STATUS.ENABLED k = 1 ∧ t.rd Reg.SRC_GUARD.ALL_LOST = 0) ∧
  (∀ k t0 v : Nat, k < 4 → s.waitsReturn k = true → s.grid.returning = some (k, t0, v) → t0 + 100000 ≤ s.time →
    Does (.islandSourceReturn k) s fun t => t.rd Reg.SRC_PORT_STATUS.ENABLED k = 1 ∧ t.rd Reg.SRC_GUARD.ALL_LOST = 0 ∧
      (s.rd Reg.SRC_PORT_CFG.MODE k = 2 → t.grid.demand = k :: s.grid.demand))

/-- Mode requests (R551, R553, R563, R564): dusk begins, a dusk is turned back, or the request is refused with its reason; a request waits where
something that R564 puts before it is pending.
Where the rules leave room the reading is the model's own choice: log entries 60, 122, 216. -/
def Obligations.ModeRequests : Prop := ∀ s : State,
  (s.barOn = true → s.outranked 8 = false → s.modeReg ≠ mService → s.rd Reg.PWR_MODE.SEQ = 0 → s.running = true → s.shipBar = 0 →
    Does .modeRequestShip s fun t => t.rd Reg.PWR_MODE.SEQ = 2 ∧ t.rd Reg.PWR_MODE.TARGET = mShip ∧ t.rd Reg.PWR_MODE.STEP = 2 ∧
      t.rd Reg.PWR_STATUS.LAST_SRC = 0) ∧
  (s.barOn = true → s.outranked 8 = false → s.modeReg ≠ mService → s.rd Reg.PWR_MODE.SEQ = 0 → s.running = true → s.shipBar ≠ 0 →
    Does .modeRequestShip s fun t => t.rd Reg.PWR_STATUS.REFUSE = s.shipBar) ∧
  (s.barOn = true → s.outranked 8 = false → s.modeReg ≠ mService → s.rd Reg.PWR_MODE.SEQ = 0 → s.running = true →
    Does .modeRequestSentinel s fun t => t.rd Reg.PWR_MODE.SEQ = 2 ∧ t.rd Reg.PWR_MODE.TARGET = mSentinel ∧ t.rd Reg.PWR_MODE.STEP = 2) ∧
  (s.barOn = true → s.outranked 8 = false → s.modeReg ≠ mService → s.rd Reg.PWR_MODE.SEQ = 2 → s.rd Reg.PWR_MODE.STEP < 6 → s.flag Reg.PWR_TEMP.SHUT = false →
    Does .modeRequestRun s fun t => t.power.reverse = true ∧ t.rd Reg.PWR_CTRL.REQ = mRun) ∧
  (∀ ms : Nat, s.flag Reg.SVC_STATUS.FROZEN = false → s.modeReg ≠ mShip → s.modeReg ≠ mService → s.outranked 9 = false → 5000 ≤ ms → s.flag Reg.PWR_CFG.BTN_SHIP = true →
    s.rd Reg.PWR_MODE.SEQ = 0 → s.running = true → s.shipBar = 0 →
    Does (.buttonShipRequest ms) s fun t => t.rd Reg.PWR_MODE.SEQ = 2 ∧ t.rd Reg.PWR_MODE.TARGET = mShip ∧ t.rd Reg.PWR_STATUS.LAST_SRC = 1) ∧
  (∀ ms : Nat, 100 ≤ ms → ms < 5000 → s.flag Reg.SVC_STATUS.FROZEN = false → s.modeReg ≠ mShip → s.modeReg ≠ mService →
    s.outranked 9 = false → s.rd Reg.PWR_MODE.SEQ = 2 → s.rd Reg.PWR_MODE.STEP < 6 → s.flag Reg.PWR_TEMP.SHUT = false →
    Does (.buttonRunRequest ms) s fun t => t.power.reverse = true ∧ t.rd Reg.PWR_STATUS.LAST_SRC = 1) ∧
  (s.barOn = true → s.outranked 8 = true → Does .modeRequestShip s fun t => t.power.deferred = s.power.deferred ++ [.request mShip 0] ∧
    t.modeReg = s.modeReg ∧ t.rd Reg.PWR_MODE.SEQ = s.rd Reg.PWR_MODE.SEQ) ∧
  (s.barOn = true → s.outranked 8 = true → Does .modeRequestSentinel s fun t => t.power.deferred = s.power.deferred ++ [.request mSentinel 0] ∧
    t.modeReg = s.modeReg) ∧
  (s.barOn = true → s.outranked 8 = true → Does .modeRequestRun s fun t => t.power.deferred = s.power.deferred ++ [.request mRun 0] ∧
    t.modeReg = s.modeReg) ∧
  (s.stopped = false → s.modeReg = mIsland → s.rd Reg.PWR_MODE.SEQ = 0 → s.islandDonors = [] → heldFor s.house.lowSince 10000000 s.time = true →
    Does .islandLowBattery s fun t => t.rd Reg.PWR_MODE.SEQ = 2 ∧ t.rd Reg.PWR_MODE.TARGET = mSentinel ∧ t.rd Reg.PWR_STATUS.LAST_SRC = 5)

/-- The curtail causes, the die sensors and thermal shutdown (R552, R556, R574, R575), each where it takes effect.
Where the rules leave room the reading is the model's own choice: log entries 80, 83. -/
def Obligations.ModeThermal : Prop := ∀ s : State, s.stopped = false →
  (∀ v : Bool, s.barOn = true → Does (.hostCurtailWrite v) s fun t => t.flag Reg.PWR_CTRL.CURTAIL = v ∧
    (v = true → s.rd Reg.PWR_MODE.SEQ = 0 → s.modeReg = mRun → t.modeReg = mCurtail)) ∧
  (∀ temps : List Int, temps ≠ [] → temps.length ≤ 20 → (∀ x ∈ temps, -2048 ≤ x ∧ x < 2048) →
    Does (.thermalSensorRead temps) s fun t => t.dieTemp ∈ temps ∧ ∀ x ∈ temps, x ≤ t.dieTemp) ∧
  (heldFor s.power.hotSince 1000000 s.time = true → s.flag Reg.PWR_TEMP.CURT_THERM = false →
    Does .thermalCurtailOn s fun t => t.rd Reg.PWR_TEMP.CURT_THERM = 1 ∧
      (s.rd Reg.PWR_MODE.SEQ = 0 → s.modeReg = mRun → t.modeReg = mCurtail)) ∧
  (heldFor s.power.coolSince 10000000 s.time = true → s.flag Reg.PWR_TEMP.CURT_THERM = true →
    Does .thermalCurtailOff s fun t => t.rd Reg.PWR_TEMP.CURT_THERM = 0 ∧
      (s.rd Reg.PWR_MODE.SEQ = 0 → s.modeReg = mCurtail → s.flag Reg.PWR_CTRL.CURTAIL = false → t.modeReg = mRun)) ∧
  (heldFor s.power.shutSince 1000 s.time = true → s.flag Reg.PWR_TEMP.SHUT = false → s.running = true → s.modeReg ≠ mService →
    s.keep.queue = [] ∨ heldFor s.power.shutSince 1100 s.time = true →
    Does .thermalShutdown s fun t => t.rd Reg.PWR_TEMP.SHUT = 1 ∧
      (s.rd Reg.PWR_MODE.SEQ = 0 → t.rd Reg.PWR_MODE.SEQ = 2 ∧ t.rd Reg.PWR_MODE.STEP = 3 ∧ t.rd Reg.PWR_MODE.TARGET = mSentinel)) ∧
  (heldFor s.power.coolSince 60000000 s.time = true → s.flag Reg.PWR_TEMP.SHUT = true →
    Does .thermalShutdownEnd s fun t => t.rd Reg.PWR_TEMP.SHUT = 0) ∧
  (∀ b : Nat, b < 16 → s.mode = mSentinel → hasBit (s.rd Reg.GLB_HEALTH.BED_LOST) b = false → s.time % 1000000 = 62500 * b →
    Does (.sentinelRound b false) s fun t => (b, s.time) ∈ t.eng.rounds ∧ b ∉ t.eng.wakes) ∧
  (∀ b : Nat, b < 16 → s.mode = mSentinel → hasBit (s.rd Reg.GLB_HEALTH.BED_LOST) b = false → b ∈ s.eng.wakes →
    Does (.sentinelRound b true) s fun t => (b, s.time) ∈ t.eng.rounds ∧ b ∉ t.eng.wakes)

/-- The whole-device resets (R560, R565 to R568): where they leave the device.
Where the rules leave room the reading is the model's own choice: log entries 58, 59, 79, 201, 214. -/
def Obligations.DeviceResets : Prop := ∀ s : State,
  (Does .por s fun t => t.modeReg = mStart ∧ t.time = 0 ∧ t.rd Reg.GLB_RESET_CAUSE.POR = 1 ∧ t.rd Reg.PWR_MODE.STEP = 1 ∧ t.rd Reg.PWR_MODE.SEQ = 1) ∧
  (∀ mv us : Nat, mv < 8000 → 20 ≤ us → s.modeReg ≠ mShip →
    Does (.brownout mv us) s fun t => t.modeReg = mStart ∧ t.time = 0 ∧ t.rd Reg.GLB_RESET_CAUSE.BROWNOUT = 1 ∧ t.rd Reg.PWR_MODE.STEP = 1) ∧
  (∀ us : Nat, 1 ≤ us → s.modeReg ≠ mShip →
    Does (.pinReset us) s fun t => t.modeReg = mStart ∧ t.time = s.time ∧ t.rd Reg.GLB_RESET_CAUSE.PIN = 1 ∧ t.rd Reg.PWR_MODE.STEP = 2) ∧
  (∀ env : StartEnv, s.barOn = true → env.durs.getD 1 0 ≤ 40000 →
    Does (.warm env) s fun t => t.modeReg = mStart ∧ t.rd Reg.GLB_RESET_CAUSE.WARM = 1 ∧ t.rd Reg.PWR_MODE.STEP = 3) ∧
  (∀ cause battery : Nat, s.modeReg = mShip → 1 ≤ cause → cause ≤ 3 → (cause = 1 → hbDead s.hbChem ≤ battery) →
    Does (.shipWake cause battery) s fun t => t.modeReg = mStart ∧ t.time = 0 ∧ t.rd Reg.SRC_HB_STATUS.WAKE = cause ∧
      t.flag Reg.SRC_HB_STATUS.HRAIL = decide (cause ≠ 2 ∧ hbDead s.hbChem ≤ battery) ∧
      t.rd Reg.GLB_RESET_CAUSE.SHIP_WAKE = 1)

/-- START begins, or ends in HALT when a step's trigger does not come (R558, R560, R565, R634).
Where the rules leave room the reading is the model's own choice: log entries 10, 98. -/
def Obligations.StartBegins : Prop := ∀ s : State, s.modeReg = mStart → s.power.env = none → s.rd Reg.PWR_MODE.SEQ = 1 → s.power.shipPending = false →
  (∀ (mv us : Nat) (env : StartEnv), 9000 < mv → 10000 ≤ us → s.flag Reg.GLB_RESET_CAUSE.BROWNOUT = true → s.rd Reg.PWR_MODE.STEP = 1 →
    env.durs.getD 0 0 ≤ 4000 →
    Does (.brownoutEnd mv us env) s fun t => t.rd Reg.PWR_DOM.ON = 0x200001 ∧ t.rd Reg.PWR_MODE.STEP = 2 ∧ t.time = s.time + env.durs.getD 0 0) ∧
  (∀ (core pcie09 pcie18 io : Nat) (env : StartEnv), 776 ≤ core → core ≤ 824 → 873 ≤ pcie09 → pcie09 ≤ 927 → 1710 ≤ pcie18 → pcie18 ≤ 1890 →
    1710 ≤ io → io ≤ 1890 → s.flag Reg.GLB_RESET_CAUSE.BROWNOUT = false → s.rd Reg.PWR_MODE.STEP = 1 → env.durs.getD 0 0 ≤ 4000 →
    Does (.systemRailInRange core pcie09 pcie18 io env) s fun t => t.rd Reg.PWR_DOM.ON = 0x200001 ∧ t.rd Reg.PWR_MODE.STEP = 2 ∧
      t.time = s.time + env.durs.getD 0 0) ∧
  (∀ env : StartEnv, s.rd Reg.PWR_MODE.STEP = 2 → env.durs.getD 1 0 ≤ 40000 →
    Does (.resetNRelease env) s fun t => t.rd Reg.PWR_MODE.STEP = 3 ∧ t.flag Reg.SVC_STATUS.LOCKED = s.svc.fuse) ∧
  (∀ us : Nat, 2 ≤ s.rd Reg.PWR_MODE.STEP → 2 * startBound (s.rd Reg.PWR_MODE.STEP - 1) < us →
    Does (.startStepTimeout us) s fun t => t.modeReg = mHalt ∧ t.rd Reg.SAF_HALT.CAUSE = 9)

/-- HALT by its causes (R24, R526, R527, R530, R532, R533, R537, R542, R588): the mode, the cause and its detail.
Where the rules leave room the reading is the model's own choice: log entry 61. -/
def Obligations.HaltCauses : Prop := ∀ s : State, s.stopped = false → s.modeReg ≠ mHalt → s.modeReg ≠ mShip →
  (Does .sundialLockstepMismatch s fun t => t.modeReg = mHalt ∧ t.rd Reg.SAF_HALT.CAUSE = 1) ∧
  (∀ us : Nat, 5000 ≤ us → hasBit (s.rd Reg.PWR_DOM.ON) 19 = true →
    Does (.sundialSilent us) s fun t => t.modeReg = mHalt ∧ t.rd Reg.SAF_HALT.CAUSE = 2) ∧
  (∀ us : Nat, 20 ≤ us → hasBit (s.rd Reg.PWR_DOM.ON) 19 = true → s.flag Reg.WDG_STATUS.LPO_FAIL = true →
    Does (.wdgClockFail 0 us) s fun t => t.modeReg = mHalt ∧ t.rd Reg.SAF_HALT.CAUSE = 4) ∧
  (∀ us : Nat, 20 ≤ us → hasBit (s.rd Reg.PWR_DOM.ON) 20 = true →
    Does (.pllUnlock us) s fun t => t.modeReg = mHalt ∧ t.rd Reg.SAF_HALT.CAUSE = 7) ∧
  (s.barOn = true → Does .safCtrlHalt s fun t => t.modeReg = mHalt ∧ t.rd Reg.SAF_HALT.CAUSE = 6) ∧
  (∀ seq : Nat, s.flag Reg.SAF_SSP.EN = true → s.sundialOn = true → s.flag Reg.SAF_SSP.HALT_ALLOW = true →
    Does (.sspHaltReq seq 0xA5C3) s fun t => t.modeReg = mHalt ∧ t.rd Reg.SAF_HALT.CAUSE = 5) ∧
  (∀ us : Nat, 10 ≤ us → hasBit (s.rd Reg.CLK_ISL_BACKUP.BACKUP 1) 0 = true → hasBit (s.rd Reg.CLK_ISL_DEAD.DEAD 1) 0 = false →
    s.isleGone 32 = false → Does (.islandOscFail 32 us false) s fun t => t.modeReg = mHalt ∧ t.rd Reg.SAF_HALT.CAUSE = 8 ∧ t.rd Reg.SAF_HALT.DETAIL = 32) ∧
  (∀ ns : Nat, 200 ≤ ns → s.isleGone 52 = true → s.isleGone 53 = false →
    Does (.laneFault true 53 0 ns) s fun t => t.modeReg = mHalt ∧ t.rd Reg.SAF_HALT.CAUSE = 8 ∧ t.rd Reg.SAF_HALT.DETAIL = 53)

/-- The system watchdog, the latent tests and the Sundial's other work (R523, R528 to R530, R536, R538, R547), each where it takes effect; and a
comparator under test (R539): it alone of its slot is masked, at most 20 µs, a trip of it has no effect, and for OV and OC the gate interface's stand-in
parks the slot. Both copies of an order go out, and the first valid one acts (R524).
Where the rules leave room the reading is the model's own choice: log entries 84, 85, 100, 186. -/
def Obligations.SundialWork : Prop :=
  (∀ s : State, s.stopped = false →
    (∀ sl : Nat, sl < 64 → s.sundialOn = true → (s.slot sl).fgErrAt = none → s.rd Reg.SAF_LATENT.FAIL < 2 ^ 13 →
      Does (.thresholdReadback [sl]) s fun t => (t.slot sl).fgErrAt = some s.time ∧ t.rd Reg.SAF_LATENT.FAIL = setBit (s.rd Reg.SAF_LATENT.FAIL) 8) ∧
    (∀ sl t0 : Nat, sl < 64 → s.sundialOn = true → (s.slot sl).fgErrAt = some t0 → s.time < t0 + 1000000 → s.oddGanged sl = false →
      s.slSt sl ∉ [slEmpty, slOff, slGanged] → Does (.thresholdReadback [sl]) s fun t => t.slSt sl = slFaulted ∧
        .order (sl / 16) 0 (16 * sl + 6) (wordParity (16 * sl + 6)) ∈ t.out ∧ .order (sl / 16) 1 (16 * sl + 6) (wordParity (16 * sl + 6)) ∈ t.out) ∧
    (s.running = true → s.sun.stopAt = none → s.rd Reg.WDG_STATUS.STATE ≠ 3 → s.sun.posed = false →
      Does (.sysWdgQuestion none) s fun t => t.sun.posed = true ∧ t.sun.askedAt = s.time ∧ t.rd Reg.WDG_STATUS.STATE = 1) ∧
    (s.running = true → s.sun.stopAt = none → s.rd Reg.WDG_STATUS.STATE ≠ 3 → s.sun.posed = true → s.sun.judged = false → s.time < s.sun.nextAt →
      s.sun.askedAt + 1000 * s.sun.askPeriod * s.sun.askOpen / 16 ≤ s.time →
      Does (.sysWdgQuestion (some (s.rd Reg.WDG_STATUS.QSEQ, sysToken s.sun.question))) s fun t => t.rd Reg.WDG_STATUS.MISSES = 0 ∧ t.sun.judged = true) ∧
    (∀ env : StartEnv, s.modeReg = mHalt → s.power.autoWarm = true → s.rd Reg.SAF_HALT.CAUSE = 3 ∨ s.rd Reg.SAF_HALT.CAUSE = 7 ∨ s.rd Reg.SAF_HALT.CAUSE = 8 →
      s.power.haltAt + 1000000 * s.power.restartS ≤ s.time → s.power.autoWarms = [] → env.durs.getD 1 0 ≤ 40000 →
      Does (.autoWarm env) s fun t => t.modeReg = mStart ∧ t.rd Reg.GLB_RESET_CAUSE.WARM = 1 ∧ t.rd Reg.PWR_MODE.STEP = 3) ∧
    (∀ us : Nat, 20 ≤ us → hasBit (s.rd Reg.PWR_DOM.ON) 19 = true → s.flag Reg.WDG_STATUS.LPO_FAIL = false → s.rd Reg.WDG_STATUS.CLK_USE = 0 →
      Does (.wdgClockFail 0 us) s fun t => t.rd Reg.WDG_STATUS.XTAL_FAIL = 1 ∧ t.rd Reg.WDG_STATUS.CLK_USE = 1) ∧
    (∀ us : Nat, 20 ≤ us → hasBit (s.rd Reg.PWR_DOM.ON) 19 = true → s.flag Reg.WDG_STATUS.XTAL_FAIL = false → s.rd Reg.WDG_STATUS.CLK_USE = 1 →
      Does (.wdgClockFail 1 us) s fun t => t.rd Reg.WDG_STATUS.LPO_FAIL = 1 ∧ t.rd Reg.WDG_STATUS.CLK_USE = 0) ∧
    (∀ b obj k us : Nat, s.sundialOn = true → 2 < b →
      Does (.latentTest b obj k us true) s fun t => t.sun.latentDue = s.sun.latentDue.filter (· != b)) ∧
    (∀ b obj k us : Nat, b = 7 ∨ b = 10 ∨ b = 11 → s.sundialOn = true → s.rd Reg.SAF_LATENT.FAIL < 2 ^ 13 →
      Does (.latentTest b obj k us false) s fun t => t.rd Reg.SAF_LATENT.FAIL = setBit (s.rd Reg.SAF_LATENT.FAIL) b ∧
        t.rd Reg.GLB_HEALTH.COVERAGE_LOST = 1) ∧
    (s.barOn = true → Does .latentNow s fun t => t.sun.latentDue = periodicTests) ∧
    (s.power.recovered = true → s.hifOn = true → (s.evtRing pfFn 4).isSome = true → Does .safeRecovered s fun t => t.power.recovered = false)) ∧
  (∀ (s : State) (sl : Nat), s.stopped = false → s.modeReg ≠ mShip → sl < 64 →
    (∀ b k us : Nat, s.sundialOn = true → b ≤ 2 → k ∈ comparatorsOf b → us ≤ 20 → s.inTest sl = false →
      20 * s.rd Reg.SAF_FG_A.OV_TH sl ≥ s.rd Reg.PHC_MEAS_V.MEAS_V (s.slotLead sl) →
      ofField 18 (s.rd Reg.PHC_MEAS_I.MEAS_I (s.slotLead sl)) ≤ (100 * s.rd Reg.SAF_FG_A.OC_TH sl : Nat) →
      Does (.latentTest b sl k us true) s fun t => t.sun.latentDue = s.sun.latentDue.filter (· != b) ∧
        (t.slot sl).masked = some (k, s.time + us) ∧ t.slSt sl = s.slSt sl) ∧
    (∀ (b k us : Nat) (pass : Bool), s.sundialOn = true → b ≤ 2 → s.inTest sl = true →
      Does (.latentTest b sl k us pass) s fun t => (t.slot sl).masked = (s.slot sl).masked ∧ t.sun.latentDue = s.sun.latentDue) ∧
    (∀ us : Nat, s.sundialOn = true → 1 ≤ us → us ≤ 20 → s.inTest sl = false → s.oddGanged sl = false → s.seated sl = true →
      20 * s.rd Reg.SAF_FG_A.OV_TH sl < s.rd Reg.PHC_MEAS_V.MEAS_V (s.slotLead sl) →
      Does (.latentTest 0 sl 0 us true) s fun t => t.slSt sl = slFaulted ∧ t.rd Reg.SLT_FAULT.CAUSE sl = caOverVoltage ∧
        t.rd Reg.SAF_FG_B.TRIP_OV sl = 1) ∧
    (∀ us : Nat, s.sundialOn = true → 1 ≤ us → us ≤ 20 → s.inTest sl = false → s.oddGanged sl = false → s.seated sl = true →
      (100 * s.rd Reg.SAF_FG_A.OC_TH sl : Nat) < ofField 18 (s.rd Reg.PHC_MEAS_I.MEAS_I (s.slotLead sl)) →
      Does (.latentTest 0 sl 1 us true) s fun t => t.slSt sl = slFaulted ∧ t.rd Reg.SLT_FAULT.CAUSE sl = caOverCurrent ∧
        t.rd Reg.SAF_FG_B.TRIP_OC sl = 1) ∧
    (∀ mv us : Nat, s.fgMasked sl 0 = true → Does (.fgOvTrip sl mv us) s fun t => t.slSt sl = s.slSt sl ∧
      t.rd Reg.SAF_FG_B.TRIP_OV sl = s.rd Reg.SAF_FG_B.TRIP_OV sl) ∧
    (∀ ma us : Nat, s.fgMasked sl 1 = true → Does (.fgOcTrip sl ma us) s fun t => t.slSt sl = s.slSt sl ∧
      t.rd Reg.SAF_FG_B.TRIP_OC sl = s.rd Reg.SAF_FG_B.TRIP_OC sl) ∧
    (∀ ma us : Nat, s.fgMasked sl 2 = true → Does (.fgRvTrip sl ma us) s fun t => t.slSt sl = s.slSt sl ∧
      t.rd Reg.SAF_FG_B.TRIP_RV sl = s.rd Reg.SAF_FG_B.TRIP_RV sl))

/-- The safety side port (R541 to R543): a valid frame keeps it alive and prepares its answer.
Where the rules leave room the reading is the model's own choice: log entries 86, 125, 130. -/
def Obligations.SafetySidePort : Prop := ∀ s : State, s.flag Reg.SAF_SSP.EN = true → s.sundialOn = true →
  (∀ seq : Nat, Does (.sspNop seq) s fun t => t.rd Reg.SAF_SSP.LAST_SEQ = seq % 16 ∧ t.sun.answer = (0, seq % 16, 0) ∧ t.sun.validAt = s.time ∧
    t.rd Reg.SAF_STATUS.SSP_LIVE = 1 ∧ t.out = .miso s.sspNext :: s.out) ∧
  (∀ seq i : Nat, i ≤ 5 → Does (.sspRead seq i) s fun t => t.rd Reg.SAF_SSP.LAST_SEQ = seq % 16 ∧ t.sun.answer = (1, seq % 16, s.sspWord i)) ∧
  (∀ seq data : Nat, data < 65536 → Does (.sspHeartbeat seq data) s fun t => t.sun.answer = (2, seq % 16, 65535 - data) ∧ t.sun.validAt = s.time) ∧
  (∀ seq data : Nat, data ≠ 0xA5C3 ∨ s.flag Reg.SAF_SSP.HALT_ALLOW = false →
    Does (.sspHaltReq seq data) s fun t => t.sun.answer = (3, seq % 16, 0) ∧ t.modeReg = s.modeReg) ∧
  (Does .sspFrameError s fun t => t.rd Reg.SAF_SSP.SPI_ERR_CNT = min (s.rd Reg.SAF_SSP.SPI_ERR_CNT + 1) 255 ∧ t.sun.answer.1 = 15) ∧
  (s.sun.validAt + 1000 * s.rd Reg.SAF_SSP.TMO ≤ s.time → Does .sspSilent s fun t => t.rd Reg.SAF_STATUS.SSP_LIVE = 0 ∧
    (s.sun.silent = false → t.sun.silent = true))

/-- The clocks, the lanes and the Planters' feeds (R23, R24, R30, R583, R587, R589, R633, R635), each where it takes effect: a flit whose parity
fails is sent again with those behind it, and the third failure in a row steers to the spare lane.
Where the rules leave room the reading is the model's own choice: log entries 45, 87, 88, 89, 90, 182, 184, 220. -/
def Obligations.ClocksAndLanes : Prop := ∀ s : State, s.stopped = false →
  (∀ us slew : Nat, 20 ≤ us → s.flag Reg.CLK_STATUS.XTAL_OK = true → s.flag Reg.WDG_STATUS.LPO_FAIL = false →
    Does (.crystalFail us slew) s fun t => t.rd Reg.CLK_STATUS.XTAL_OK = 0 ∧ t.rd Reg.CLK_STATUS.TIME_LPO = 1 ∧ t.rd Reg.GLB_HEALTH.XTAL_LOST = 1 ∧
      t.rd Reg.WDG_STATUS.XTAL_FAIL = 1) ∧
  (∀ noEdge hz slew : Nat, s.rd Reg.CLK_STATUS.PLL_REF = 1 → 4 ≤ noEdge ∨ s.syncUsable hz = false → s.flag Reg.CLK_STATUS.XTAL_OK = true →
    Does (.pllRefSwitch noEdge hz slew) s fun t => t.rd Reg.CLK_STATUS.PLL_REF = 0 ∧ t.rd Reg.CLK_STATUS.HOLDOVER = 1) ∧
  (∀ ref hz ms slew : Nat, 100 ≤ ms → ref ≤ 1 → hasBit (s.rd Reg.PWR_DOM.ON) 20 = true → (ref = 1 → s.syncUsable hz = true) →
    s.rd Reg.CLK_CFG.PLL_REF = ref → Does (.pllRefReturn ref hz ms slew) s fun t => t.rd Reg.CLK_STATUS.PLL_REF = ref) ∧
  (∀ (i us : Nat) (silent : Bool), i < 88 → 10 ≤ us → hasBit (s.rd Reg.CLK_ISL_DEAD.DEAD (i / 32)) (i % 32) = false →
    hasBit (s.rd Reg.CLK_ISL_BACKUP.BACKUP (i / 32)) (i % 32) = false → s.rd Reg.CLK_ISL_BACKUP.BACKUP (i / 32) < 2 ^ 32 →
    Does (.islandOscFail i us silent) s fun t => t.rd Reg.CLK_ISL_BACKUP.BACKUP (i / 32) = setBit (s.rd Reg.CLK_ISL_BACKUP.BACKUP (i / 32)) (i % 32) ∧
      t.rd Reg.CLK_CNT.ISL_SWITCHES = min (s.rd Reg.CLK_CNT.ISL_SWITCHES + 1) 255) ∧
  (∀ corr : Nat, Does (.timeTreeUpdate corr) s fun t => min 255 corr ≤ t.rd Reg.CLK_TIME_ERR.MAX_CORR ∧
    (4 < corr → t.rd Reg.CLK_CNT.TIME_RESYNC = min (s.rd Reg.CLK_CNT.TIME_RESYNC + 1) 255)) ∧
  (∀ (fabric : Bool) (link dir flit got parity : Nat), (if fabric then link < 64 else link < 4 ∧ dir < 2) →
    (s.lane (laneKey fabric link dir)).down = false → flitOk got parity = true → (s.lane (laneKey fabric link dir)).resent.head? ≠ some flit →
    Does (.runnerFlitReceive fabric link dir flit got parity) s fun t => (t.lane (laneKey fabric link dir)).fails = 0 ∧
      (t.lane (laneKey fabric link dir)).replay = (flit :: (s.lane (laneKey fabric link dir)).replay).take 8) ∧
  (∀ (fabric : Bool) (link dir flit got parity : Nat), (if fabric then link < 64 else link < 4 ∧ dir < 2) →
    (s.lane (laneKey fabric link dir)).down = false → flitOk got parity = true → (s.lane (laneKey fabric link dir)).resent.head? = some flit →
    Does (.runnerFlitReceive fabric link dir flit got parity) s fun t => (t.lane (laneKey fabric link dir)).fails = 0 ∧
      (t.lane (laneKey fabric link dir)).replay = (s.lane (laneKey fabric link dir)).replay ∧
      (t.lane (laneKey fabric link dir)).resent = (s.lane (laneKey fabric link dir)).resent.tail) ∧
  (∀ (fabric : Bool) (link dir flit got parity : Nat), (if fabric then link < 64 else link < 4 ∧ dir < 2) →
    (s.lane (laneKey fabric link dir)).down = false → flitOk got parity = false → (s.lane (laneKey fabric link dir)).fails < 2 →
    Does (.runnerFlitReceive fabric link dir flit got parity) s fun t =>
      (t.lane (laneKey fabric link dir)).fails = (s.lane (laneKey fabric link dir)).fails + 1 ∧
      (t.lane (laneKey fabric link dir)).resent = (t.lane (laneKey fabric link dir)).replay.reverse) ∧
  (∀ link dir flit got parity : Nat, link < 4 → dir < 2 → (s.lane (laneKey false link dir)).down = false → flitOk got parity = false →
    2 ≤ (s.lane (laneKey false link dir)).fails → (s.lane (laneKey false link dir)).spared = false →
    Does (.runnerFlitReceive false link dir flit got parity) s fun t => (t.lane (laneKey false link dir)).spared = true ∧
      (t.lane (laneKey false link dir)).fails = 0) ∧
  (∀ link dir ns : Nat, link < 4 → dir < 2 → 200 ≤ ns → (s.lane (laneKey false link dir)).spared = false →
    hasBit (s.rd Reg.GLB_HEALTH.LANE_SPARED) link = false → s.rd Reg.GLB_HEALTH.LANE_SPARED < 16 →
    Does (.laneFault false link dir ns) s fun t => (t.lane (laneKey false link dir)).spared = true ∧
      t.rd Reg.GLB_HEALTH.LANE_SPARED = setBit (s.rd Reg.GLB_HEALTH.LANE_SPARED) link ∧
      (t.lane (laneKey false link dir)).resent = (s.lane (laneKey false link dir)).replay.reverse) ∧
  (∀ feed us : Nat, feed < 8 → 10 ≤ us → hasBit (s.rd Reg.GLB_HEALTH_FE.FEED_LOST) feed = false → s.frontOn = true →
    s.rd Reg.GLB_HEALTH_FE.FEED_LOST < 256 →
    Does (.feedLost feed us) s fun t => t.rd Reg.GLB_HEALTH_FE.FEED_LOST = setBit (s.rd Reg.GLB_HEALTH_FE.FEED_LOST) feed ∧
      (hasBit (s.rd Reg.GLB_HEALTH_FE.FEED_LOST) (twinFeed feed) = true → s.feedReturns (twinFeed feed) = false →
        t.flag Reg.GLB_HEALTH.COVERAGE_LOST = true)) ∧
  (∀ feed us : Nat, feed < 8 → 10000 ≤ us → hasBit (s.rd Reg.GLB_HEALTH_FE.FEED_LOST) feed = true → s.frontOn = true →
    s.rd Reg.GLB_HEALTH_FE.FEED_LOST < 256 →
    Does (.feedGood feed us) s fun t => t.rd Reg.GLB_HEALTH_FE.FEED_LOST = clrBit (s.rd Reg.GLB_HEALTH_FE.FEED_LOST) feed)

/-- The freeze and its release (R564, R592, R593, R595, R596, R598), where the service port works; a request to freeze waits where something that
R564 puts before it is pending.
Where the rules leave room the reading is the model's own choice: log entries 91, 93, 94, 95, 96, 217. -/
def Obligations.FreezeSequence : Prop := ∀ s : State, s.servicePort = true →
  (∀ us : Nat, 1 ≤ us → s.flag Reg.SVC_STATUS.FROZEN = false → s.flag Reg.SVC_STATUS.LOCKED = false → s.mayFreeze = true →
    s.outranked 5 = false → Does (.freezePin us) s fun t => t.rd Reg.SVC_STATUS.FROZEN = 1 ∧ t.modeReg = mService ∧ t.svc.frozenAt = s.time ∧ t.svc.parkLines = true) ∧
  (∀ us : Nat, 1 ≤ us → s.outranked 5 = true → Does (.freezePin us) s fun t => t.power.deferred = s.power.deferred ++ [.freeze] ∧
    t.modeReg = s.modeReg ∧ t.rd Reg.SVC_STATUS.FROZEN = s.rd Reg.SVC_STATUS.FROZEN) ∧
  (s.flag Reg.SVC_STATUS.FROZEN = false → s.flag Reg.SVC_STATUS.LOCKED = false → s.mayFreeze = true → s.outranked 5 = false →
    Does .freeze s fun t => t.rd Reg.SVC_STATUS.FROZEN = 1 ∧ t.modeReg = mService ∧ t.svc.ir = 0x10) ∧
  (∀ us : Nat, 1 ≤ us → s.flag Reg.SVC_STATUS.FROZEN = true → s.flag Reg.SVC_STATUS.SNAP_BUSY = false → s.svc.latched = [] →
    Does (.freezeReleasePin us) s fun t => t.flag Reg.SVC_STATUS.FROZEN = false ∧
      t.rd Reg.SVC_FREEZE_LEN.LEN = min (s.time - s.svc.frozenAt) 0xFFFFFFFF ∧ t.svc.parkLines = false) ∧
  (s.frozenOpen = true → s.flag Reg.SVC_STATUS.SNAP_BUSY = false → s.svc.latched = [] →
    Does .thaw s fun t => t.flag Reg.SVC_STATUS.FROZEN = false ∧ t.flag Reg.SVC_STATUS.DBG_RUN = false ∧
      t.rd Reg.SVC_FREEZE_LEN.LEN = min (s.time - s.svc.frozenAt) 0xFFFFFFFF) ∧
  (s.frozenOpen = true → s.flag Reg.SVC_STATUS.SNAP_BUSY = false → s.svc.latched = [] →
    Does .thawDbg s fun t => t.flag Reg.SVC_STATUS.FROZEN = false ∧ t.flag Reg.SVC_STATUS.DBG_RUN = true) ∧
  (∀ mask : Nat, s.frozenOpen = true → s.flag Reg.SVC_STATUS.SNAP_BUSY = false → snapSections mask ≠ [] →
    Does (.snapRead mask) s fun t => t.rd Reg.SVC_STATUS.SNAP_BUSY = 1 ∧ t.svc.snapEnd = s.time + (snapBytes mask + 49) / 50) ∧
  (s.flag Reg.SVC_STATUS.SNAP_BUSY = true → s.svc.snapEnd ≤ s.time → s.svc.releaseOwed = none →
    Does .snapStreamEnd s fun t => t.rd Reg.SVC_STATUS.SNAP_BUSY = 0)

/-- The instructions of the TAP (R600, R601, R606) and the lock (R602, R603): what the data register answers.
Where the rules leave room the reading is the model's own choice: log entry 92. -/
def Obligations.TapInstructions : Prop := ∀ s : State,
  (s.servicePort = true → Does .bypass s fun t => t.svc.ir = 0xFF ∧ t.svc.tdo = 0) ∧
  (s.servicePort = true → Does .idcode s fun t => t.svc.ir = 1 ∧ t.svc.tdo = 0x564109E7) ∧
  (∀ load : Nat, s.servicePort = true → s.unlocked = true → Does (.samplePreload load) s fun t => t.svc.ir = 2 ∧ t.svc.preload = load) ∧
  (s.servicePort = true → s.frozenOpen = true → Does .extest s fun t => t.svc.ir = 0 ∧ t.svc.extest = true) ∧
  (s.servicePort = true → s.unlocked = true → Does .svcStatus s fun t => t.svc.ir = 0x13 ∧ t.svc.tdo = s.svcStatus) ∧
  (s.barOn = true → s.flag Reg.GLB_SEAL.SEALED = true → s.modeReg ≠ mService → s.svc.lockAt = none →
    Does (.svcLockKeyWrite 0x4C4B) s fun t => t.svc.lockAt = some s.time) ∧
  (∀ t0 : Nat, s.barOn = true → s.flag Reg.GLB_SEAL.SEALED = true → s.modeReg ≠ mService → s.svc.lockAt = some t0 → s.time ≤ t0 + 1000 →
    Does (.svcLockKeyWrite 0x5345) s fun t => t.svc.blowing = true ∧ t.svc.lockAt = none) ∧
  (∀ v : Nat, s.barOn = true → v < 65536 → v ≠ 0x4C4B → v ≠ 0x5345 →
    Does (.svcLockKeyWrite v) s fun t => t.rd Reg.SVC_LOCK.BAD = 1 ∧ t.svc.lockAt = none) ∧
  (s.stopped = false → s.svc.blowing = true → s.modeReg ≠ mService →
    Does .serviceLockFuseBlown s fun t => t.rd Reg.SVC_STATUS.LOCKED = 1 ∧ t.svc.fuse = true ∧ t.svc.blowing = false)

/-- Tine debug (R486, R597): where it is accepted for a pair; while frozen nothing of a step leaves the tine.
Where the rules leave room the reading is the model's own choice: log entry 64. -/
def Obligations.TineDebug : Prop := ∀ (s : State) (p : Nat), s.servicePort = true → s.dbgOk p = true →
  (∀ (r : Nat) (differs : Bool), r ≤ 32 →
    Does (.tineDbgReadReg p r differs) s fun t => (t.tine (tineKey p 0 r)).v = some t.svc.tdo ∧ (differs = true → t.rd Reg.SVC_STATUS.DBG_DIFF = 1)) ∧
  (∀ r v : Nat, r ≤ 32 → Does (.tineDbgWriteReg p r v) s fun t => (t.tine (tineKey p 0 r)).v = some (v % 2 ^ 32)) ∧
  (∀ (addr : Nat) (differs : Bool), s.taskOn p = none →
    Does (.tineDbgReadData p addr differs) s fun t => (t.tine (tineKey p 1 (addr % 2 ^ 19))).v = some t.svc.tdo) ∧
  (∀ (addr t0 v : Nat) (differs : Bool), s.taskOn p = some t0 → (s.task t0).mem.find? (·.1 == addr % 2 ^ 19) = some (addr % 2 ^ 19, v) →
    Does (.tineDbgReadData p addr differs) s fun t => t.svc.tdo = v) ∧
  (∀ addr v : Nat, s.taskOn p = none → Does (.tineDbgWriteData p addr v) s fun t => (t.tine (tineKey p 1 (addr % 2 ^ 19))).v = some (v % 2 ^ 32)) ∧
  (∀ addr v t0 : Nat, s.taskOn p = some t0 →
    Does (.tineDbgWriteData p addr v) s fun t => (t.task t0).mem.find? (·.1 == addr % 2 ^ 19) = some (addr % 2 ^ 19, v % 2 ^ 32)) ∧
  (∀ (addr : Nat) (differs : Bool), Does (.tineDbgReadCode p addr differs) s fun t => (t.tine (tineKey p 2 (addr % 2 ^ 19))).v = some t.svc.tdo) ∧
  (∀ (n r : Nat) (acts : List TineAct), 1 ≤ n → n ≤ 65535 → Does (.tineDbgStep p n acts) s fun t => (t.tine (tineKey p 0 r)).v = none ∧
    (t.tine (tineKey p 1 r)).v = none ∧ (s.flag Reg.SVC_STATUS.FROZEN = true → t.out = s.out)) ∧
  (∀ addr : Nat, (s.pair p).bps.contains (addr % 2 ^ 19) = false → (s.pair p).bps.length < 4 →
    Does (.tineDbgSetBreakpoint p addr) s fun t => (t.pair p).bps = addr % 2 ^ 19 :: (s.pair p).bps) ∧
  (∀ addr : Nat, Does (.tineDbgClearBreakpoint p addr) s fun t => (t.pair p).bps = (s.pair p).bps.filter (· != addr % 2 ^ 19)) ∧
  (s.flag Reg.SVC_STATUS.DBG_RUN = true → (s.pair p).halted = true →
    Does (.tineDbgResume p) s fun t => (t.pair p).halted = false ∧ t.rd Reg.SVC_STATUS.HALTED_PAIRS = (s.rd Reg.SVC_STATUS.HALTED_PAIRS - 1) % 1024)

/-- The register space (R429, R578, R615, R617 to R619): a word that is taken, and what an ignored write records; and what a 32-bit read of a
function's BAR0 returns (R2, R614): each bit is the bit of a field that holds it, and a reserved bit reads zero.
Where the rules leave room the reading is the model's own choice: log entries 116, 117, 219. -/
def Obligations.RegisterSpace : Prop :=
  (∀ s : State, s.barOn = true →
    (∀ (t0 w v : Nat) (env : StartEnv) (pulses : Option Nat), t0 < 2 → w < 8 → v < 2 ^ 32 → s.blockOn (Reg.TWB_TGT_TX.TX.addr t0 w 0) = true →
      Does (.registerWrite pfFn (Reg.TWB_TGT_TX.TX.addr t0 w 0) 4 v env pulses) s fun t => t.rd Reg.TWB_TGT_TX.TX t0 w = v) ∧
    (∀ (a v : Nat) (env : StartEnv) (pulses : Option Nat), a % 4 = 0 → fieldsAt a = [] → viewAt a = false → a < 2 ^ 20 →
      s.flag Reg.GLB_ACC_ERR.VALID = false →
      Does (.registerWrite pfFn a 4 v env pulses) s fun t => t.rd Reg.GLB_ACC_ERR.CAUSE = 1 ∧ t.rd Reg.GLB_ACC_ERR.ADDR = a ∧ t.rd Reg.GLB_ACC_ERR.VALID = 1) ∧
    (∀ (a v : Nat) (env : StartEnv) (pulses : Option Nat), a % 4 = 0 → fieldsAt a ≠ [] → s.blockOn a = false → a < 2 ^ 20 →
      s.flag Reg.GLB_ACC_ERR.VALID = false →
      Does (.registerWrite pfFn a 4 v env pulses) s fun t => t.rd Reg.GLB_ACC_ERR.CAUSE = 3 ∧ t.rd Reg.GLB_ACC_ERR.ADDR = a) ∧
    (∀ (a size : Nat) (fn : Nat), accessKind a size = 2 → fn = pfFn → s.flag Reg.GLB_ACC_ERR.VALID = false →
      Does (.misalignedAccess fn a size true) s fun t => t.rd Reg.GLB_ACC_ERR.CAUSE = 2 ∧ t.out = .aer fn :: s.out) ∧
    (∀ a size : Nat, accessKind a size = 2 → Does (.misalignedAccess pfFn a size false) s fun t => t.out = .aer pfFn :: s.out) ∧
    (s.time < 2 ^ 64 → Does .glbTimeRead s fun t => t.rd Reg.GLB_TIME_LO.TIME_LO + 2 ^ 32 * t.rd Reg.GLB_TIME_HI.TIME_HI = s.time)) ∧
  (∀ (s : State) (fn a : Nat),
    s.barRead fn a < 2 ^ 32 ∧
    (∀ b : Nat, b < 32 → (∀ x ∈ s.placesAt fn a, b < x.1.lo ∨ x.1.lo + x.1.w ≤ b) → hasBit (s.barRead fn a) b = false) ∧
    (∀ b : Nat, b < 32 → hasBit (s.barRead fn a) b = (s.seen fn a).wordBit (s.placesAt fn a) b) ∧
    (∀ vf : Nat, s.at (Reg.FN_STATUS.FN, vf, 0, 0) = vf))
end

