-- ==== Sys2Proof/Laws/Tab.lean ====
section
/-! SUPPORT. The laws of sparse tables: read after write, and that every operation keeps the canonical form. -/

set_option Elab.async false

namespace Sys2Proof.Machine

theorem Tab.get_ins_same {β : Type} (d : β) (k : Nat) (v : β) (t : List (Nat × β)) :
    Tab.get d (Tab.ins k v t) k = v := by
  induction t with
  | nil => simp [Tab.ins, Tab.get]
  | cons e t ih =>
    obtain ⟨k', v'⟩ := e
    unfold Tab.ins
    split
    · simp [Tab.get]
    · split
      · simp [Tab.get]
      · rename_i h1 h2
        simp [Tab.get, ih, show ¬ k' = k by omega]

theorem Tab.get_ins_ne {β : Type} (d : β) (v : β) {k k2 : Nat} (h : k ≠ k2) (t : List (Nat × β)) :
    Tab.get d (Tab.ins k v t) k2 = Tab.get d t k2 := by
  induction t with
  | nil => simp [Tab.ins, Tab.get, h]
  | cons e t ih =>
    obtain ⟨k', v'⟩ := e
    unfold Tab.ins
    split
    · simp [Tab.get, h]
    · split
      · rename_i h1 h2
        subst h2
        simp [Tab.get, h]
      · simp [Tab.get, ih]

theorem Tab.get_del_same {β : Type} (d : β) (k : Nat) (t : List (Nat × β)) : Tab.get d (Tab.del k t) k = d := by
  induction t with
  | nil => rfl
  | cons e t ih =>
    obtain ⟨k', v'⟩ := e
    by_cases h : k' = k <;> simp_all [Tab.del, Tab.get]

theorem Tab.get_del_ne {β : Type} (d : β) {k k2 : Nat} (h : k ≠ k2) (t : List (Nat × β)) :
    Tab.get d (Tab.del k t) k2 = Tab.get d t k2 := by
  induction t with
  | nil => rfl
  | cons e t ih =>
    obtain ⟨k', v'⟩ := e
    by_cases hk : k' = k
    · subst hk
      have : Tab.del k' ((k', v') :: t) = Tab.del k' t := by simp [Tab.del]
      rw [this, ih]; simp [Tab.get, h]
    · have : Tab.del k ((k', v') :: t) = (k', v') :: Tab.del k t := by simp [Tab.del, hk]
      rw [this]; simp [Tab.get, ih]

/-- A read after a write to the same key gives the value written. -/
theorem Tab.get_put_same {β : Type} [DecidableEq β] (d : β) (t : List (Nat × β)) (k : Nat) (v : β) :
    Tab.get d (Tab.put d t k v) k = v := by
  unfold Tab.put; split
  · rename_i h; rw [h, Tab.get_del_same]
  · exact Tab.get_ins_same ..

/-- A write leaves every other key alone. -/
theorem Tab.get_put_ne {β : Type} [DecidableEq β] (d d' : β) {k k2 : Nat} (v : β) (h : k ≠ k2) {t : List (Nat × β)} :
    Tab.get d (Tab.put d' t k v) k2 = Tab.get d t k2 := by
  unfold Tab.put; split
  · exact Tab.get_del_ne d h t
  · exact Tab.get_ins_ne d v h t

/-! The canonical form is kept by every operation over a table. -/

/-- A table in canonical form has strictly rising keys, and no record that equals the default. -/
theorem Tab.wf_iff {β : Type} [DecidableEq β] (d : β) (t : List (Nat × β)) :
    Tab.wf d t = true ↔ t.Pairwise (fun a b => a.1 < b.1) ∧ ∀ e ∈ t, e.2 ≠ d := by
  simp [Tab.wf]

/-- The keys after an insertion: the new one, and those before. -/
theorem Tab.mem_ins {β : Type} (k : Nat) (v : β) {e : Nat × β} {t : List (Nat × β)} (h : e ∈ Tab.ins k v t) : e = (k, v) ∨ e ∈ t := by
  induction t with
  | nil => simpa [Tab.ins] using h
  | cons a t ih =>
    obtain ⟨k', v'⟩ := a
    simp only [Tab.ins] at h
    split at h
    · simpa using h
    · split at h
      · simp only [List.mem_cons] at h ⊢; tauto
      · simp only [List.mem_cons] at h ⊢
        rcases h with h | h
        · exact Or.inr (Or.inl h)
        · rcases ih h with h | h
          · exact Or.inl h
          · exact Or.inr (Or.inr h)

/-- An insertion keeps the keys strictly rising. -/
theorem Tab.rising_ins {β : Type} (k : Nat) (v : β) {t : List (Nat × β)} (h : t.Pairwise fun a b => a.1 < b.1) :
    (Tab.ins k v t).Pairwise fun a b => a.1 < b.1 := by
  induction t with
  | nil => simp [Tab.ins]
  | cons a t ih =>
    obtain ⟨k', v'⟩ := a
    obtain ⟨h1, h2⟩ := List.pairwise_cons.1 h
    simp only [Tab.ins]
    split
    · rename_i hk
      refine List.pairwise_cons.2 ⟨fun e he => ?_, h⟩
      rcases List.mem_cons.1 he with rfl | he
      · exact hk
      · exact Nat.lt_trans hk (h1 e he)
    · split
      · rename_i hk
        subst hk
        exact List.pairwise_cons.2 ⟨h1, h2⟩
      · refine List.pairwise_cons.2 ⟨fun e he => ?_, ih h2⟩
        rcases Tab.mem_ins k v he with rfl | he
        · show k' < k
          omega
        · exact h1 e he

theorem Tab.wf_del {β : Type} [DecidableEq β] (d : β) (k : Nat) {t : List (Nat × β)} (h : Tab.wf d t = true) : Tab.wf d (Tab.del k t) = true := by
  rw [Tab.wf_iff] at h ⊢
  exact ⟨h.1.filter _, fun e he => h.2 e (List.mem_of_mem_filter he)⟩

theorem Tab.wf_ins {β : Type} [DecidableEq β] (d : β) (k : Nat) {v : β} (hv : v ≠ d) {t : List (Nat × β)} (h : Tab.wf d t = true) :
    Tab.wf d (Tab.ins k v t) = true := by
  rw [Tab.wf_iff] at h ⊢
  refine ⟨Tab.rising_ins k v h.1, fun e he => ?_⟩
  rcases Tab.mem_ins k v he with rfl | he
  · exact hv
  · exact h.2 e he

/-- Replacing a record keeps the canonical form. -/
theorem Tab.wf_put {β : Type} [DecidableEq β] (d : β) (k : Nat) (v : β) {t : List (Nat × β)} (h : Tab.wf d t = true) :
    Tab.wf d (Tab.put d t k v) = true := by
  unfold Tab.put; split
  · exact Tab.wf_del d k h
  · rename_i hv; exact Tab.wf_ins d k hv h

/-- Replacing every record by its image keeps the canonical form. -/
theorem Tab.wf_map {β : Type} [DecidableEq β] (d : β) (g : Nat → β → β) {t : List (Nat × β)} (h : Tab.wf d t = true) :
    Tab.wf d (Tab.map d g t) = true := by
  rw [Tab.wf_iff] at h ⊢
  have hp : (t.map fun e => (e.1, g e.1 e.2)).Pairwise fun a b => a.1 < b.1 := List.pairwise_map.2 h.1
  refine ⟨hp.filter _, fun e he => ?_⟩
  simpa using (List.mem_filter.1 he).2

/-- A table whose records are all one and the same gives that record for each of its keys. -/
theorem Tab.get_const {β : Type} (d v : β) {l : List Nat} {k : Nat} (h : k ∈ l) : Tab.get d (l.map fun x => (x, v)) k = v := by
  induction l with
  | nil => simp at h
  | cons a l ih =>
    simp only [List.map_cons, Tab.get]
    split
    · rfl
    · rename_i hk
      rcases List.mem_cons.1 h with rfl | h
      · exact absurd rfl hk
      · exact ih h

end Sys2Proof.Machine
end

