-- ==== Sys2Proof/Laws/State.lean ====
section
/-! SUPPORT. What each primitive update of the state changes and what it leaves. -/

set_option Elab.async false

namespace Sys2Proof.Machine

@[simp] theorem State.rd_hard (s : State) {f : Fld} (h : f.hard = true) (i j k : Nat) :
    s.rd f i j k = f.resetAt i j := by simp [State.rd, h]

@[simp] theorem State.wr_hard (s : State) {f : Fld} (h : f.hard = true) (i j k v : Nat) :
    s.wr f i j k v = s := by simp [State.wr, h]

theorem Fld.key_inj {f g : Fld} {i j k i' j' k' : Nat} :
    f.key i j k = g.key i' j' k' ↔ f.id = g.id ∧ i = i' ∧ j = j' ∧ k = k' := by
  simp [Fld.key]

theorem State.rd_wr_same (s : State) (f : Fld) (i j k v : Nat) (h : f.hard = false) :
    (s.wr f i j k v).rd f i j k = v % 2 ^ min f.w 32 := by
  simp [State.rd, State.wr, h, Tab.get_put_same]

theorem State.rd_wr_ne (s : State) (f g : Fld) (i j k i' j' k' v : Nat)
    (h : f.id ≠ g.id ∨ i ≠ i' ∨ j ≠ j' ∨ k ≠ k') :
    (s.wr g i' j' k' v).rd f i j k = s.rd f i j k := by
  have hk : g.key i' j' k' ≠ f.key i j k := by
    intro e; rw [Fld.key_inj] at e; obtain ⟨a, b, c, d⟩ := e
    rcases h with h | h | h | h
    · exact h a.symm
    · exact h b.symm
    · exact h c.symm
    · exact h d.symm
  unfold State.wr State.rd
  by_cases hg : g.hard <;> simp [hg, Tab.get_put_ne _ _ _ hk]

@[simp] theorem Act.apply_reg (f : Fld) (i j k v : Nat) (s : State) : (Act.reg f i j k v).apply s = s.wr f i j k v := rfl
@[simp] theorem Prog.run_skip (s : State) : Prog.skip.run s = s := rfl
@[simp] theorem Prog.run_act (a : Act) (s : State) : (Prog.act a).run s = a.apply s := rfl
@[simp] theorem Prog.run_seq (p q : Prog) (s : State) : (Prog.seq p q).run s = q.run (p.run s) := rfl
@[simp] theorem Prog.run_read (k : State → Prog) (s : State) : (Prog.read k).run s = (k s).run s := rfl
@[simp] theorem seqs_nil_run (s : State) : (seqs []).run s = s := rfl
@[simp] theorem seqs_cons_run (p : Prog) (ps : List Prog) (s : State) : (seqs (p :: ps)).run s = (seqs ps).run (p.run s) := rfl
@[simp] theorem setR_run (f : Fld) (v i j k : Nat) (s : State) : (setR f v i j k).run s = s.wr f i j k v := rfl
@[simp] theorem updR_run (f : Fld) (v : State → Nat) (i j k : Nat) (s : State) : (updR f v i j k).run s = s.wr f i j k (v s) := rfl
theorem when_run (c : State → Bool) (p : Prog) (s : State) : (when c p).run s = if c s then p.run s else s := by
  unfold when; simp only [Prog.run_read]; split <;> rfl
theorem cond_run (c : State → Bool) (p q : Prog) (s : State) : (cond c p q).run s = if c s then p.run s else q.run s := by
  unfold cond; simp only [Prog.run_read]; split <;> rfl

@[simp] theorem State.wr_time (s : State) (f : Fld) (i j k v : Nat) : (s.wr f i j k v).time = s.time := by
  unfold State.wr; split <;> rfl
@[simp] theorem State.wr_fns (s : State) (f : Fld) (i j k v : Nat) : (s.wr f i j k v).fns = s.fns := by
  unfold State.wr; split <;> rfl
@[simp] theorem State.wr_rings (s : State) (f : Fld) (i j k v : Nat) : (s.wr f i j k v).rings = s.rings := by
  unfold State.wr; split <;> rfl
@[simp] theorem State.wr_host (s : State) (f : Fld) (i j k v : Nat) : (s.wr f i j k v).host = s.host := by
  unfold State.wr; split <;> rfl
@[simp] theorem State.wr_lanes (s : State) (f : Fld) (i j k v : Nat) : (s.wr f i j k v).lanes = s.lanes := by
  unfold State.wr; split <;> rfl
@[simp] theorem State.wr_out (s : State) (f : Fld) (i j k v : Nat) : (s.wr f i j k v).out = s.out := by
  unfold State.wr; split <;> rfl
@[simp] theorem State.wr_freeCtr (s : State) (f : Fld) (i j k v : Nat) : (s.wr f i j k v).freeCtr = s.freeCtr := by
  unfold State.wr; split <;> rfl
@[simp] theorem State.wr_chans (s : State) (f : Fld) (i j k v : Nat) : (s.wr f i j k v).chans = s.chans := by
  unfold State.wr; split <;> rfl
@[simp] theorem State.wr_slots (s : State) (f : Fld) (i j k v : Nat) : (s.wr f i j k v).slots = s.slots := by
  unfold State.wr; split <;> rfl
@[simp] theorem State.wr_gauges (s : State) (f : Fld) (i j k v : Nat) : (s.wr f i j k v).gauges = s.gauges := by
  unfold State.wr; split <;> rfl
@[simp] theorem State.wr_keepLocs (s : State) (f : Fld) (i j k v : Nat) : (s.wr f i j k v).keepLocs = s.keepLocs := by
  unfold State.wr; split <;> rfl
@[simp] theorem State.wr_keep (s : State) (f : Fld) (i j k v : Nat) : (s.wr f i j k v).keep = s.keep := by
  unfold State.wr; split <;> rfl
@[simp] theorem State.wr_keys (s : State) (f : Fld) (i j k v : Nat) : (s.wr f i j k v).keys = s.keys := by
  unfold State.wr; split <;> rfl
@[simp] theorem State.wr_ports (s : State) (f : Fld) (i j k v : Nat) : (s.wr f i j k v).ports = s.ports := by
  unfold State.wr; split <;> rfl
@[simp] theorem State.wr_twb (s : State) (f : Fld) (i j k v : Nat) : (s.wr f i j k v).twb = s.twb := by
  unfold State.wr; split <;> rfl
@[simp] theorem State.wr_house (s : State) (f : Fld) (i j k v : Nat) : (s.wr f i j k v).house = s.house := by
  unfold State.wr; split <;> rfl
@[simp] theorem State.wr_grid (s : State) (f : Fld) (i j k v : Nat) : (s.wr f i j k v).grid = s.grid := by
  unfold State.wr; split <;> rfl
@[simp] theorem State.wr_srcs (s : State) (f : Fld) (i j k v : Nat) : (s.wr f i j k v).srcs = s.srcs := by
  unfold State.wr; split <;> rfl
@[simp] theorem State.wr_icvs (s : State) (f : Fld) (i j k v : Nat) : (s.wr f i j k v).icvs = s.icvs := by
  unfold State.wr; split <;> rfl
@[simp] theorem State.wr_fcvs (s : State) (f : Fld) (i j k v : Nat) : (s.wr f i j k v).fcvs = s.fcvs := by
  unfold State.wr; split <;> rfl
@[simp] theorem State.wr_mains (s : State) (f : Fld) (i j k v : Nat) : (s.wr f i j k v).mains = s.mains := by
  unfold State.wr; split <;> rfl
@[simp] theorem State.wr_pendZ (s : State) (f : Fld) (i j k v : Nat) : (s.wr f i j k v).pendZ = s.pendZ := by
  unfold State.wr; split <;> rfl
@[simp] theorem State.wr_groups (s : State) (f : Fld) (i j k v : Nat) : (s.wr f i j k v).groups = s.groups := by
  unfold State.wr; split <;> rfl
@[simp] theorem State.wr_alm (s : State) (f : Fld) (i j k v : Nat) : (s.wr f i j k v).alm = s.alm := by
  unfold State.wr; split <;> rfl
@[simp] theorem State.wr_power (s : State) (f : Fld) (i j k v : Nat) : (s.wr f i j k v).power = s.power := by
  unfold State.wr; split <;> rfl
@[simp] theorem State.wr_pairs (s : State) (f : Fld) (i j k v : Nat) : (s.wr f i j k v).pairs = s.pairs := by
  unfold State.wr; split <;> rfl
@[simp] theorem State.wr_tasks (s : State) (f : Fld) (i j k v : Nat) : (s.wr f i j k v).tasks = s.tasks := by
  unfold State.wr; split <;> rfl
@[simp] theorem State.wr_eng (s : State) (f : Fld) (i j k v : Nat) : (s.wr f i j k v).eng = s.eng := by
  unfold State.wr; split <;> rfl
@[simp] theorem State.wr_trace (s : State) (f : Fld) (i j k v : Nat) : (s.wr f i j k v).trace = s.trace := by
  unfold State.wr; split <;> rfl
@[simp] theorem State.wr_sun (s : State) (f : Fld) (i j k v : Nat) : (s.wr f i j k v).sun = s.sun := by
  unfold State.wr; split <;> rfl
@[simp] theorem State.wr_clk (s : State) (f : Fld) (i j k v : Nat) : (s.wr f i j k v).clk = s.clk := by
  unfold State.wr; split <;> rfl
@[simp] theorem State.wr_svc (s : State) (f : Fld) (i j k v : Nat) : (s.wr f i j k v).svc = s.svc := by
  unfold State.wr; split <;> rfl
@[simp] theorem State.wr_tines (s : State) (f : Fld) (i j k v : Nat) : (s.wr f i j k v).tines = s.tines := by
  unfold State.wr; split <;> rfl
@[simp] theorem State.wr_chals (s : State) (f : Fld) (i j k v : Nat) : (s.wr f i j k v).chals = s.chals := by
  unfold State.wr; split <;> rfl
@[simp] theorem State.wr_pending (s : State) (f : Fld) (i j k v : Nat) : (s.wr f i j k v).pending = s.pending := by
  unfold State.wr; split <;> rfl
@[simp] theorem State.wr_fnr (s : State) (f : Fld) (i j k v key : Nat) : (s.wr f i j k v).fnr key = s.fnr key := by
  unfold State.fnr; simp
@[simp] theorem State.wr_ringr (s : State) (f : Fld) (i j k v key : Nat) : (s.wr f i j k v).ringr key = s.ringr key := by
  unfold State.ringr; simp
@[simp] theorem State.wr_lane (s : State) (f : Fld) (i j k v key : Nat) : (s.wr f i j k v).lane key = s.lane key := by
  unfold State.lane; simp
@[simp] theorem State.wr_chan (s : State) (f : Fld) (i j k v key : Nat) : (s.wr f i j k v).chan key = s.chan key := by
  unfold State.chan; simp
@[simp] theorem State.wr_slot (s : State) (f : Fld) (i j k v key : Nat) : (s.wr f i j k v).slot key = s.slot key := by
  unfold State.slot; simp
@[simp] theorem State.wr_gauge (s : State) (f : Fld) (i j k v key : Nat) : (s.wr f i j k v).gauge key = s.gauge key := by
  unfold State.gauge; simp
@[simp] theorem State.wr_keepLoc (s : State) (f : Fld) (i j k v key : Nat) : (s.wr f i j k v).keepLoc key = s.keepLoc key := by
  unfold State.keepLoc; simp
@[simp] theorem State.wr_keyr (s : State) (f : Fld) (i j k v key : Nat) : (s.wr f i j k v).keyr key = s.keyr key := by
  unfold State.keyr; simp
@[simp] theorem State.wr_port (s : State) (f : Fld) (i j k v key : Nat) : (s.wr f i j k v).port key = s.port key := by
  unfold State.port; simp
@[simp] theorem State.wr_bus (s : State) (f : Fld) (i j k v key : Nat) : (s.wr f i j k v).bus key = s.bus key := by
  unfold State.bus; simp
@[simp] theorem State.wr_src (s : State) (f : Fld) (i j k v key : Nat) : (s.wr f i j k v).src key = s.src key := by
  unfold State.src; simp
@[simp] theorem State.wr_icv (s : State) (f : Fld) (i j k v key : Nat) : (s.wr f i j k v).icv key = s.icv key := by
  unfold State.icv; simp
@[simp] theorem State.wr_fcv (s : State) (f : Fld) (i j k v key : Nat) : (s.wr f i j k v).fcv key = s.fcv key := by
  unfold State.fcv; simp
@[simp] theorem State.wr_group (s : State) (f : Fld) (i j k v key : Nat) : (s.wr f i j k v).group key = s.group key := by
  unfold State.group; simp
@[simp] theorem State.wr_pair (s : State) (f : Fld) (i j k v key : Nat) : (s.wr f i j k v).pair key = s.pair key := by
  unfold State.pair; simp
@[simp] theorem State.wr_task (s : State) (f : Fld) (i j k v key : Nat) : (s.wr f i j k v).task key = s.task key := by
  unfold State.task; simp
@[simp] theorem State.wr_traceRec (s : State) (f : Fld) (i j k v key : Nat) : (s.wr f i j k v).traceRec key = s.traceRec key := by
  unfold State.traceRec; simp
@[simp] theorem State.wr_tine (s : State) (f : Fld) (i j k v key : Nat) : (s.wr f i j k v).tine key = s.tine key := by
  unfold State.tine; simp
@[simp] theorem Act.time_same (r : Nat) (s : State) : ((Act.time r).apply s).time = r := rfl
@[simp] theorem Act.time_regs (r : Nat) (s : State) : ((Act.time r).apply s).regs = s.regs := rfl
@[simp] theorem Act.time_fns (r : Nat) (s : State) : ((Act.time r).apply s).fns = s.fns := rfl
@[simp] theorem Act.time_rings (r : Nat) (s : State) : ((Act.time r).apply s).rings = s.rings := rfl
@[simp] theorem Act.time_host (r : Nat) (s : State) : ((Act.time r).apply s).host = s.host := rfl
@[simp] theorem Act.time_lanes (r : Nat) (s : State) : ((Act.time r).apply s).lanes = s.lanes := rfl
@[simp] theorem Act.time_out (r : Nat) (s : State) : ((Act.time r).apply s).out = s.out := rfl
@[simp] theorem Act.time_freeCtr (r : Nat) (s : State) : ((Act.time r).apply s).freeCtr = s.freeCtr := rfl
@[simp] theorem Act.time_chans (r : Nat) (s : State) : ((Act.time r).apply s).chans = s.chans := rfl
@[simp] theorem Act.time_slots (r : Nat) (s : State) : ((Act.time r).apply s).slots = s.slots := rfl
@[simp] theorem Act.time_gauges (r : Nat) (s : State) : ((Act.time r).apply s).gauges = s.gauges := rfl
@[simp] theorem Act.time_keepLocs (r : Nat) (s : State) : ((Act.time r).apply s).keepLocs = s.keepLocs := rfl
@[simp] theorem Act.time_keep (r : Nat) (s : State) : ((Act.time r).apply s).keep = s.keep := rfl
@[simp] theorem Act.time_keys (r : Nat) (s : State) : ((Act.time r).apply s).keys = s.keys := rfl
@[simp] theorem Act.time_ports (r : Nat) (s : State) : ((Act.time r).apply s).ports = s.ports := rfl
@[simp] theorem Act.time_twb (r : Nat) (s : State) : ((Act.time r).apply s).twb = s.twb := rfl
@[simp] theorem Act.time_house (r : Nat) (s : State) : ((Act.time r).apply s).house = s.house := rfl
@[simp] theorem Act.time_grid (r : Nat) (s : State) : ((Act.time r).apply s).grid = s.grid := rfl
@[simp] theorem Act.time_srcs (r : Nat) (s : State) : ((Act.time r).apply s).srcs = s.srcs := rfl
@[simp] theorem Act.time_icvs (r : Nat) (s : State) : ((Act.time r).apply s).icvs = s.icvs := rfl
@[simp] theorem Act.time_fcvs (r : Nat) (s : State) : ((Act.time r).apply s).fcvs = s.fcvs := rfl
@[simp] theorem Act.time_mains (r : Nat) (s : State) : ((Act.time r).apply s).mains = s.mains := rfl
@[simp] theorem Act.time_pendZ (r : Nat) (s : State) : ((Act.time r).apply s).pendZ = s.pendZ := rfl
@[simp] theorem Act.time_groups (r : Nat) (s : State) : ((Act.time r).apply s).groups = s.groups := rfl
@[simp] theorem Act.time_alm (r : Nat) (s : State) : ((Act.time r).apply s).alm = s.alm := rfl
@[simp] theorem Act.time_power (r : Nat) (s : State) : ((Act.time r).apply s).power = s.power := rfl
@[simp] theorem Act.time_pairs (r : Nat) (s : State) : ((Act.time r).apply s).pairs = s.pairs := rfl
@[simp] theorem Act.time_tasks (r : Nat) (s : State) : ((Act.time r).apply s).tasks = s.tasks := rfl
@[simp] theorem Act.time_eng (r : Nat) (s : State) : ((Act.time r).apply s).eng = s.eng := rfl
@[simp] theorem Act.time_trace (r : Nat) (s : State) : ((Act.time r).apply s).trace = s.trace := rfl
@[simp] theorem Act.time_sun (r : Nat) (s : State) : ((Act.time r).apply s).sun = s.sun := rfl
@[simp] theorem Act.time_clk (r : Nat) (s : State) : ((Act.time r).apply s).clk = s.clk := rfl
@[simp] theorem Act.time_svc (r : Nat) (s : State) : ((Act.time r).apply s).svc = s.svc := rfl
@[simp] theorem Act.time_tines (r : Nat) (s : State) : ((Act.time r).apply s).tines = s.tines := rfl
@[simp] theorem Act.time_chals (r : Nat) (s : State) : ((Act.time r).apply s).chals = s.chals := rfl
@[simp] theorem Act.time_pending (r : Nat) (s : State) : ((Act.time r).apply s).pending = s.pending := rfl
@[simp] theorem Act.time_rd (r : Nat) (s : State) (f : Fld) (i j l : Nat) : ((Act.time r).apply s).rd f i j l = s.rd f i j l := rfl
@[simp] theorem Act.time_fnr (r : Nat) (s : State) (l : Nat) : ((Act.time r).apply s).fnr l = s.fnr l := rfl
@[simp] theorem Act.time_ringr (r : Nat) (s : State) (l : Nat) : ((Act.time r).apply s).ringr l = s.ringr l := rfl
@[simp] theorem Act.time_lane (r : Nat) (s : State) (l : Nat) : ((Act.time r).apply s).lane l = s.lane l := rfl
@[simp] theorem Act.time_chan (r : Nat) (s : State) (l : Nat) : ((Act.time r).apply s).chan l = s.chan l := rfl
@[simp] theorem Act.time_slot (r : Nat) (s : State) (l : Nat) : ((Act.time r).apply s).slot l = s.slot l := rfl
@[simp] theorem Act.time_gauge (r : Nat) (s : State) (l : Nat) : ((Act.time r).apply s).gauge l = s.gauge l := rfl
@[simp] theorem Act.time_keepLoc (r : Nat) (s : State) (l : Nat) : ((Act.time r).apply s).keepLoc l = s.keepLoc l := rfl
@[simp] theorem Act.time_keyr (r : Nat) (s : State) (l : Nat) : ((Act.time r).apply s).keyr l = s.keyr l := rfl
@[simp] theorem Act.time_port (r : Nat) (s : State) (l : Nat) : ((Act.time r).apply s).port l = s.port l := rfl
@[simp] theorem Act.time_bus (r : Nat) (s : State) (l : Nat) : ((Act.time r).apply s).bus l = s.bus l := rfl
@[simp] theorem Act.time_src (r : Nat) (s : State) (l : Nat) : ((Act.time r).apply s).src l = s.src l := rfl
@[simp] theorem Act.time_icv (r : Nat) (s : State) (l : Nat) : ((Act.time r).apply s).icv l = s.icv l := rfl
@[simp] theorem Act.time_fcv (r : Nat) (s : State) (l : Nat) : ((Act.time r).apply s).fcv l = s.fcv l := rfl
@[simp] theorem Act.time_group (r : Nat) (s : State) (l : Nat) : ((Act.time r).apply s).group l = s.group l := rfl
@[simp] theorem Act.time_pair (r : Nat) (s : State) (l : Nat) : ((Act.time r).apply s).pair l = s.pair l := rfl
@[simp] theorem Act.time_task (r : Nat) (s : State) (l : Nat) : ((Act.time r).apply s).task l = s.task l := rfl
@[simp] theorem Act.time_traceRec (r : Nat) (s : State) (l : Nat) : ((Act.time r).apply s).traceRec l = s.traceRec l := rfl
@[simp] theorem Act.time_tine (r : Nat) (s : State) (l : Nat) : ((Act.time r).apply s).tine l = s.tine l := rfl
@[simp] theorem Act.fns_same (key : Nat) (r : FnRec) (s : State) : ((Act.fns key r).apply s).fnr key = r := by
  simp [Act.apply, State.fnr, Tab.get_put_same]
theorem Act.fns_ne (key key2 : Nat) (h : key ≠ key2) (r : FnRec) (s : State) : ((Act.fns key r).apply s).fnr key2 = s.fnr key2 := by
  simp [Act.apply, State.fnr, Tab.get_put_ne _ _ _ h]
@[simp] theorem Act.fns_regs (key : Nat) (r : FnRec) (s : State) : ((Act.fns key r).apply s).regs = s.regs := rfl
@[simp] theorem Act.fns_time (key : Nat) (r : FnRec) (s : State) : ((Act.fns key r).apply s).time = s.time := rfl
@[simp] theorem Act.fns_rings (key : Nat) (r : FnRec) (s : State) : ((Act.fns key r).apply s).rings = s.rings := rfl
@[simp] theorem Act.fns_host (key : Nat) (r : FnRec) (s : State) : ((Act.fns key r).apply s).host = s.host := rfl
@[simp] theorem Act.fns_lanes (key : Nat) (r : FnRec) (s : State) : ((Act.fns key r).apply s).lanes = s.lanes := rfl
@[simp] theorem Act.fns_out (key : Nat) (r : FnRec) (s : State) : ((Act.fns key r).apply s).out = s.out := rfl
@[simp] theorem Act.fns_freeCtr (key : Nat) (r : FnRec) (s : State) : ((Act.fns key r).apply s).freeCtr = s.freeCtr := rfl
@[simp] theorem Act.fns_chans (key : Nat) (r : FnRec) (s : State) : ((Act.fns key r).apply s).chans = s.chans := rfl
@[simp] theorem Act.fns_slots (key : Nat) (r : FnRec) (s : State) : ((Act.fns key r).apply s).slots = s.slots := rfl
@[simp] theorem Act.fns_gauges (key : Nat) (r : FnRec) (s : State) : ((Act.fns key r).apply s).gauges = s.gauges := rfl
@[simp] theorem Act.fns_keepLocs (key : Nat) (r : FnRec) (s : State) : ((Act.fns key r).apply s).keepLocs = s.keepLocs := rfl
@[simp] theorem Act.fns_keep (key : Nat) (r : FnRec) (s : State) : ((Act.fns key r).apply s).keep = s.keep := rfl
@[simp] theorem Act.fns_keys (key : Nat) (r : FnRec) (s : State) : ((Act.fns key r).apply s).keys = s.keys := rfl
@[simp] theorem Act.fns_ports (key : Nat) (r : FnRec) (s : State) : ((Act.fns key r).apply s).ports = s.ports := rfl
@[simp] theorem Act.fns_twb (key : Nat) (r : FnRec) (s : State) : ((Act.fns key r).apply s).twb = s.twb := rfl
@[simp] theorem Act.fns_house (key : Nat) (r : FnRec) (s : State) : ((Act.fns key r).apply s).house = s.house := rfl
@[simp] theorem Act.fns_grid (key : Nat) (r : FnRec) (s : State) : ((Act.fns key r).apply s).grid = s.grid := rfl
@[simp] theorem Act.fns_srcs (key : Nat) (r : FnRec) (s : State) : ((Act.fns key r).apply s).srcs = s.srcs := rfl
@[simp] theorem Act.fns_icvs (key : Nat) (r : FnRec) (s : State) : ((Act.fns key r).apply s).icvs = s.icvs := rfl
@[simp] theorem Act.fns_fcvs (key : Nat) (r : FnRec) (s : State) : ((Act.fns key r).apply s).fcvs = s.fcvs := rfl
@[simp] theorem Act.fns_mains (key : Nat) (r : FnRec) (s : State) : ((Act.fns key r).apply s).mains = s.mains := rfl
@[simp] theorem Act.fns_pendZ (key : Nat) (r : FnRec) (s : State) : ((Act.fns key r).apply s).pendZ = s.pendZ := rfl
@[simp] theorem Act.fns_groups (key : Nat) (r : FnRec) (s : State) : ((Act.fns key r).apply s).groups = s.groups := rfl
@[simp] theorem Act.fns_alm (key : Nat) (r : FnRec) (s : State) : ((Act.fns key r).apply s).alm = s.alm := rfl
@[simp] theorem Act.fns_power (key : Nat) (r : FnRec) (s : State) : ((Act.fns key r).apply s).power = s.power := rfl
@[simp] theorem Act.fns_pairs (key : Nat) (r : FnRec) (s : State) : ((Act.fns key r).apply s).pairs = s.pairs := rfl
@[simp] theorem Act.fns_tasks (key : Nat) (r : FnRec) (s : State) : ((Act.fns key r).apply s).tasks = s.tasks := rfl
@[simp] theorem Act.fns_eng (key : Nat) (r : FnRec) (s : State) : ((Act.fns key r).apply s).eng = s.eng := rfl
@[simp] theorem Act.fns_trace (key : Nat) (r : FnRec) (s : State) : ((Act.fns key r).apply s).trace = s.trace := rfl
@[simp] theorem Act.fns_sun (key : Nat) (r : FnRec) (s : State) : ((Act.fns key r).apply s).sun = s.sun := rfl
@[simp] theorem Act.fns_clk (key : Nat) (r : FnRec) (s : State) : ((Act.fns key r).apply s).clk = s.clk := rfl
@[simp] theorem Act.fns_svc (key : Nat) (r : FnRec) (s : State) : ((Act.fns key r).apply s).svc = s.svc := rfl
@[simp] theorem Act.fns_tines (key : Nat) (r : FnRec) (s : State) : ((Act.fns key r).apply s).tines = s.tines := rfl
@[simp] theorem Act.fns_chals (key : Nat) (r : FnRec) (s : State) : ((Act.fns key r).apply s).chals = s.chals := rfl
@[simp] theorem Act.fns_pending (key : Nat) (r : FnRec) (s : State) : ((Act.fns key r).apply s).pending = s.pending := rfl
@[simp] theorem Act.fns_rd (key : Nat) (r : FnRec) (s : State) (f : Fld) (i j l : Nat) : ((Act.fns key r).apply s).rd f i j l = s.rd f i j l := rfl
@[simp] theorem Act.fns_ringr (key : Nat) (r : FnRec) (s : State) (l : Nat) : ((Act.fns key r).apply s).ringr l = s.ringr l := rfl
@[simp] theorem Act.fns_lane (key : Nat) (r : FnRec) (s : State) (l : Nat) : ((Act.fns key r).apply s).lane l = s.lane l := rfl
@[simp] theorem Act.fns_chan (key : Nat) (r : FnRec) (s : State) (l : Nat) : ((Act.fns key r).apply s).chan l = s.chan l := rfl
@[simp] theorem Act.fns_slot (key : Nat) (r : FnRec) (s : State) (l : Nat) : ((Act.fns key r).apply s).slot l = s.slot l := rfl
@[simp] theorem Act.fns_gauge (key : Nat) (r : FnRec) (s : State) (l : Nat) : ((Act.fns key r).apply s).gauge l = s.gauge l := rfl
@[simp] theorem Act.fns_keepLoc (key : Nat) (r : FnRec) (s : State) (l : Nat) : ((Act.fns key r).apply s).keepLoc l = s.keepLoc l := rfl
@[simp] theorem Act.fns_keyr (key : Nat) (r : FnRec) (s : State) (l : Nat) : ((Act.fns key r).apply s).keyr l = s.keyr l := rfl
@[simp] theorem Act.fns_port (key : Nat) (r : FnRec) (s : State) (l : Nat) : ((Act.fns key r).apply s).port l = s.port l := rfl
@[simp] theorem Act.fns_bus (key : Nat) (r : FnRec) (s : State) (l : Nat) : ((Act.fns key r).apply s).bus l = s.bus l := rfl
@[simp] theorem Act.fns_src (key : Nat) (r : FnRec) (s : State) (l : Nat) : ((Act.fns key r).apply s).src l = s.src l := rfl
@[simp] theorem Act.fns_icv (key : Nat) (r : FnRec) (s : State) (l : Nat) : ((Act.fns key r).apply s).icv l = s.icv l := rfl
@[simp] theorem Act.fns_fcv (key : Nat) (r : FnRec) (s : State) (l : Nat) : ((Act.fns key r).apply s).fcv l = s.fcv l := rfl
@[simp] theorem Act.fns_group (key : Nat) (r : FnRec) (s : State) (l : Nat) : ((Act.fns key r).apply s).group l = s.group l := rfl
@[simp] theorem Act.fns_pair (key : Nat) (r : FnRec) (s : State) (l : Nat) : ((Act.fns key r).apply s).pair l = s.pair l := rfl
@[simp] theorem Act.fns_task (key : Nat) (r : FnRec) (s : State) (l : Nat) : ((Act.fns key r).apply s).task l = s.task l := rfl
@[simp] theorem Act.fns_traceRec (key : Nat) (r : FnRec) (s : State) (l : Nat) : ((Act.fns key r).apply s).traceRec l = s.traceRec l := rfl
@[simp] theorem Act.fns_tine (key : Nat) (r : FnRec) (s : State) (l : Nat) : ((Act.fns key r).apply s).tine l = s.tine l := rfl
@[simp] theorem Act.rings_same (key : Nat) (r : RingRec) (s : State) : ((Act.rings key r).apply s).ringr key = r := by
  simp [Act.apply, State.ringr, Tab.get_put_same]
theorem Act.rings_ne (key key2 : Nat) (h : key ≠ key2) (r : RingRec) (s : State) : ((Act.rings key r).apply s).ringr key2 = s.ringr key2 := by
  simp [Act.apply, State.ringr, Tab.get_put_ne _ _ _ h]
@[simp] theorem Act.rings_regs (key : Nat) (r : RingRec) (s : State) : ((Act.rings key r).apply s).regs = s.regs := rfl
@[simp] theorem Act.rings_time (key : Nat) (r : RingRec) (s : State) : ((Act.rings key r).apply s).time = s.time := rfl
@[simp] theorem Act.rings_fns (key : Nat) (r : RingRec) (s : State) : ((Act.rings key r).apply s).fns = s.fns := rfl
@[simp] theorem Act.rings_host (key : Nat) (r : RingRec) (s : State) : ((Act.rings key r).apply s).host = s.host := rfl
@[simp] theorem Act.rings_lanes (key : Nat) (r : RingRec) (s : State) : ((Act.rings key r).apply s).lanes = s.lanes := rfl
@[simp] theorem Act.rings_out (key : Nat) (r : RingRec) (s : State) : ((Act.rings key r).apply s).out = s.out := rfl
@[simp] theorem Act.rings_freeCtr (key : Nat) (r : RingRec) (s : State) : ((Act.rings key r).apply s).freeCtr = s.freeCtr := rfl
@[simp] theorem Act.rings_chans (key : Nat) (r : RingRec) (s : State) : ((Act.rings key r).apply s).chans = s.chans := rfl
@[simp] theorem Act.rings_slots (key : Nat) (r : RingRec) (s : State) : ((Act.rings key r).apply s).slots = s.slots := rfl
@[simp] theorem Act.rings_gauges (key : Nat) (r : RingRec) (s : State) : ((Act.rings key r).apply s).gauges = s.gauges := rfl
@[simp] theorem Act.rings_keepLocs (key : Nat) (r : RingRec) (s : State) : ((Act.rings key r).apply s).keepLocs = s.keepLocs := rfl
@[simp] theorem Act.rings_keep (key : Nat) (r : RingRec) (s : State) : ((Act.rings key r).apply s).keep = s.keep := rfl
@[simp] theorem Act.rings_keys (key : Nat) (r : RingRec) (s : State) : ((Act.rings key r).apply s).keys = s.keys := rfl
@[simp] theorem Act.rings_ports (key : Nat) (r : RingRec) (s : State) : ((Act.rings key r).apply s).ports = s.ports := rfl
@[simp] theorem Act.rings_twb (key : Nat) (r : RingRec) (s : State) : ((Act.rings key r).apply s).twb = s.twb := rfl
@[simp] theorem Act.rings_house (key : Nat) (r : RingRec) (s : State) : ((Act.rings key r).apply s).house = s.house := rfl
@[simp] theorem Act.rings_grid (key : Nat) (r : RingRec) (s : State) : ((Act.rings key r).apply s).grid = s.grid := rfl
@[simp] theorem Act.rings_srcs (key : Nat) (r : RingRec) (s : State) : ((Act.rings key r).apply s).srcs = s.srcs := rfl
@[simp] theorem Act.rings_icvs (key : Nat) (r : RingRec) (s : State) : ((Act.rings key r).apply s).icvs = s.icvs := rfl
@[simp] theorem Act.rings_fcvs (key : Nat) (r : RingRec) (s : State) : ((Act.rings key r).apply s).fcvs = s.fcvs := rfl
@[simp] theorem Act.rings_mains (key : Nat) (r : RingRec) (s : State) : ((Act.rings key r).apply s).mains = s.mains := rfl
@[simp] theorem Act.rings_pendZ (key : Nat) (r : RingRec) (s : State) : ((Act.rings key r).apply s).pendZ = s.pendZ := rfl
@[simp] theorem Act.rings_groups (key : Nat) (r : RingRec) (s : State) : ((Act.rings key r).apply s).groups = s.groups := rfl
@[simp] theorem Act.rings_alm (key : Nat) (r : RingRec) (s : State) : ((Act.rings key r).apply s).alm = s.alm := rfl
@[simp] theorem Act.rings_power (key : Nat) (r : RingRec) (s : State) : ((Act.rings key r).apply s).power = s.power := rfl
@[simp] theorem Act.rings_pairs (key : Nat) (r : RingRec) (s : State) : ((Act.rings key r).apply s).pairs = s.pairs := rfl
@[simp] theorem Act.rings_tasks (key : Nat) (r : RingRec) (s : State) : ((Act.rings key r).apply s).tasks = s.tasks := rfl
@[simp] theorem Act.rings_eng (key : Nat) (r : RingRec) (s : State) : ((Act.rings key r).apply s).eng = s.eng := rfl
@[simp] theorem Act.rings_trace (key : Nat) (r : RingRec) (s : State) : ((Act.rings key r).apply s).trace = s.trace := rfl
@[simp] theorem Act.rings_sun (key : Nat) (r : RingRec) (s : State) : ((Act.rings key r).apply s).sun = s.sun := rfl
@[simp] theorem Act.rings_clk (key : Nat) (r : RingRec) (s : State) : ((Act.rings key r).apply s).clk = s.clk := rfl
@[simp] theorem Act.rings_svc (key : Nat) (r : RingRec) (s : State) : ((Act.rings key r).apply s).svc = s.svc := rfl
@[simp] theorem Act.rings_tines (key : Nat) (r : RingRec) (s : State) : ((Act.rings key r).apply s).tines = s.tines := rfl
@[simp] theorem Act.rings_chals (key : Nat) (r : RingRec) (s : State) : ((Act.rings key r).apply s).chals = s.chals := rfl
@[simp] theorem Act.rings_pending (key : Nat) (r : RingRec) (s : State) : ((Act.rings key r).apply s).pending = s.pending := rfl
@[simp] theorem Act.rings_rd (key : Nat) (r : RingRec) (s : State) (f : Fld) (i j l : Nat) : ((Act.rings key r).apply s).rd f i j l = s.rd f i j l := rfl
@[simp] theorem Act.rings_fnr (key : Nat) (r : RingRec) (s : State) (l : Nat) : ((Act.rings key r).apply s).fnr l = s.fnr l := rfl
@[simp] theorem Act.rings_lane (key : Nat) (r : RingRec) (s : State) (l : Nat) : ((Act.rings key r).apply s).lane l = s.lane l := rfl
@[simp] theorem Act.rings_chan (key : Nat) (r : RingRec) (s : State) (l : Nat) : ((Act.rings key r).apply s).chan l = s.chan l := rfl
@[simp] theorem Act.rings_slot (key : Nat) (r : RingRec) (s : State) (l : Nat) : ((Act.rings key r).apply s).slot l = s.slot l := rfl
@[simp] theorem Act.rings_gauge (key : Nat) (r : RingRec) (s : State) (l : Nat) : ((Act.rings key r).apply s).gauge l = s.gauge l := rfl
@[simp] theorem Act.rings_keepLoc (key : Nat) (r : RingRec) (s : State) (l : Nat) : ((Act.rings key r).apply s).keepLoc l = s.keepLoc l := rfl
@[simp] theorem Act.rings_keyr (key : Nat) (r : RingRec) (s : State) (l : Nat) : ((Act.rings key r).apply s).keyr l = s.keyr l := rfl
@[simp] theorem Act.rings_port (key : Nat) (r : RingRec) (s : State) (l : Nat) : ((Act.rings key r).apply s).port l = s.port l := rfl
@[simp] theorem Act.rings_bus (key : Nat) (r : RingRec) (s : State) (l : Nat) : ((Act.rings key r).apply s).bus l = s.bus l := rfl
@[simp] theorem Act.rings_src (key : Nat) (r : RingRec) (s : State) (l : Nat) : ((Act.rings key r).apply s).src l = s.src l := rfl
@[simp] theorem Act.rings_icv (key : Nat) (r : RingRec) (s : State) (l : Nat) : ((Act.rings key r).apply s).icv l = s.icv l := rfl
@[simp] theorem Act.rings_fcv (key : Nat) (r : RingRec) (s : State) (l : Nat) : ((Act.rings key r).apply s).fcv l = s.fcv l := rfl
@[simp] theorem Act.rings_group (key : Nat) (r : RingRec) (s : State) (l : Nat) : ((Act.rings key r).apply s).group l = s.group l := rfl
@[simp] theorem Act.rings_pair (key : Nat) (r : RingRec) (s : State) (l : Nat) : ((Act.rings key r).apply s).pair l = s.pair l := rfl
@[simp] theorem Act.rings_task (key : Nat) (r : RingRec) (s : State) (l : Nat) : ((Act.rings key r).apply s).task l = s.task l := rfl
@[simp] theorem Act.rings_traceRec (key : Nat) (r : RingRec) (s : State) (l : Nat) : ((Act.rings key r).apply s).traceRec l = s.traceRec l := rfl
@[simp] theorem Act.rings_tine (key : Nat) (r : RingRec) (s : State) (l : Nat) : ((Act.rings key r).apply s).tine l = s.tine l := rfl
@[simp] theorem Act.host_same (r : HostRec) (s : State) : ((Act.host r).apply s).host = r := rfl
@[simp] theorem Act.host_regs (r : HostRec) (s : State) : ((Act.host r).apply s).regs = s.regs := rfl
@[simp] theorem Act.host_time (r : HostRec) (s : State) : ((Act.host r).apply s).time = s.time := rfl
@[simp] theorem Act.host_fns (r : HostRec) (s : State) : ((Act.host r).apply s).fns = s.fns := rfl
@[simp] theorem Act.host_rings (r : HostRec) (s : State) : ((Act.host r).apply s).rings = s.rings := rfl
@[simp] theorem Act.host_lanes (r : HostRec) (s : State) : ((Act.host r).apply s).lanes = s.lanes := rfl
@[simp] theorem Act.host_out (r : HostRec) (s : State) : ((Act.host r).apply s).out = s.out := rfl
@[simp] theorem Act.host_freeCtr (r : HostRec) (s : State) : ((Act.host r).apply s).freeCtr = s.freeCtr := rfl
@[simp] theorem Act.host_chans (r : HostRec) (s : State) : ((Act.host r).apply s).chans = s.chans := rfl
@[simp] theorem Act.host_slots (r : HostRec) (s : State) : ((Act.host r).apply s).slots = s.slots := rfl
@[simp] theorem Act.host_gauges (r : HostRec) (s : State) : ((Act.host r).apply s).gauges = s.gauges := rfl
@[simp] theorem Act.host_keepLocs (r : HostRec) (s : State) : ((Act.host r).apply s).keepLocs = s.keepLocs := rfl
@[simp] theorem Act.host_keep (r : HostRec) (s : State) : ((Act.host r).apply s).keep = s.keep := rfl
@[simp] theorem Act.host_keys (r : HostRec) (s : State) : ((Act.host r).apply s).keys = s.keys := rfl
@[simp] theorem Act.host_ports (r : HostRec) (s : State) : ((Act.host r).apply s).ports = s.ports := rfl
@[simp] theorem Act.host_twb (r : HostRec) (s : State) : ((Act.host r).apply s).twb = s.twb := rfl
@[simp] theorem Act.host_house (r : HostRec) (s : State) : ((Act.host r).apply s).house = s.house := rfl
@[simp] theorem Act.host_grid (r : HostRec) (s : State) : ((Act.host r).apply s).grid = s.grid := rfl
@[simp] theorem Act.host_srcs (r : HostRec) (s : State) : ((Act.host r).apply s).srcs = s.srcs := rfl
@[simp] theorem Act.host_icvs (r : HostRec) (s : State) : ((Act.host r).apply s).icvs = s.icvs := rfl
@[simp] theorem Act.host_fcvs (r : HostRec) (s : State) : ((Act.host r).apply s).fcvs = s.fcvs := rfl
@[simp] theorem Act.host_mains (r : HostRec) (s : State) : ((Act.host r).apply s).mains = s.mains := rfl
@[simp] theorem Act.host_pendZ (r : HostRec) (s : State) : ((Act.host r).apply s).pendZ = s.pendZ := rfl
@[simp] theorem Act.host_groups (r : HostRec) (s : State) : ((Act.host r).apply s).groups = s.groups := rfl
@[simp] theorem Act.host_alm (r : HostRec) (s : State) : ((Act.host r).apply s).alm = s.alm := rfl
@[simp] theorem Act.host_power (r : HostRec) (s : State) : ((Act.host r).apply s).power = s.power := rfl
@[simp] theorem Act.host_pairs (r : HostRec) (s : State) : ((Act.host r).apply s).pairs = s.pairs := rfl
@[simp] theorem Act.host_tasks (r : HostRec) (s : State) : ((Act.host r).apply s).tasks = s.tasks := rfl
@[simp] theorem Act.host_eng (r : HostRec) (s : State) : ((Act.host r).apply s).eng = s.eng := rfl
@[simp] theorem Act.host_trace (r : HostRec) (s : State) : ((Act.host r).apply s).trace = s.trace := rfl
@[simp] theorem Act.host_sun (r : HostRec) (s : State) : ((Act.host r).apply s).sun = s.sun := rfl
@[simp] theorem Act.host_clk (r : HostRec) (s : State) : ((Act.host r).apply s).clk = s.clk := rfl
@[simp] theorem Act.host_svc (r : HostRec) (s : State) : ((Act.host r).apply s).svc = s.svc := rfl
@[simp] theorem Act.host_tines (r : HostRec) (s : State) : ((Act.host r).apply s).tines = s.tines := rfl
@[simp] theorem Act.host_chals (r : HostRec) (s : State) : ((Act.host r).apply s).chals = s.chals := rfl
@[simp] theorem Act.host_pending (r : HostRec) (s : State) : ((Act.host r).apply s).pending = s.pending := rfl
@[simp] theorem Act.host_rd (r : HostRec) (s : State) (f : Fld) (i j l : Nat) : ((Act.host r).apply s).rd f i j l = s.rd f i j l := rfl
@[simp] theorem Act.host_fnr (r : HostRec) (s : State) (l : Nat) : ((Act.host r).apply s).fnr l = s.fnr l := rfl
@[simp] theorem Act.host_ringr (r : HostRec) (s : State) (l : Nat) : ((Act.host r).apply s).ringr l = s.ringr l := rfl
@[simp] theorem Act.host_lane (r : HostRec) (s : State) (l : Nat) : ((Act.host r).apply s).lane l = s.lane l := rfl
@[simp] theorem Act.host_chan (r : HostRec) (s : State) (l : Nat) : ((Act.host r).apply s).chan l = s.chan l := rfl
@[simp] theorem Act.host_slot (r : HostRec) (s : State) (l : Nat) : ((Act.host r).apply s).slot l = s.slot l := rfl
@[simp] theorem Act.host_gauge (r : HostRec) (s : State) (l : Nat) : ((Act.host r).apply s).gauge l = s.gauge l := rfl
@[simp] theorem Act.host_keepLoc (r : HostRec) (s : State) (l : Nat) : ((Act.host r).apply s).keepLoc l = s.keepLoc l := rfl
@[simp] theorem Act.host_keyr (r : HostRec) (s : State) (l : Nat) : ((Act.host r).apply s).keyr l = s.keyr l := rfl
@[simp] theorem Act.host_port (r : HostRec) (s : State) (l : Nat) : ((Act.host r).apply s).port l = s.port l := rfl
@[simp] theorem Act.host_bus (r : HostRec) (s : State) (l : Nat) : ((Act.host r).apply s).bus l = s.bus l := rfl
@[simp] theorem Act.host_src (r : HostRec) (s : State) (l : Nat) : ((Act.host r).apply s).src l = s.src l := rfl
@[simp] theorem Act.host_icv (r : HostRec) (s : State) (l : Nat) : ((Act.host r).apply s).icv l = s.icv l := rfl
@[simp] theorem Act.host_fcv (r : HostRec) (s : State) (l : Nat) : ((Act.host r).apply s).fcv l = s.fcv l := rfl
@[simp] theorem Act.host_group (r : HostRec) (s : State) (l : Nat) : ((Act.host r).apply s).group l = s.group l := rfl
@[simp] theorem Act.host_pair (r : HostRec) (s : State) (l : Nat) : ((Act.host r).apply s).pair l = s.pair l := rfl
@[simp] theorem Act.host_task (r : HostRec) (s : State) (l : Nat) : ((Act.host r).apply s).task l = s.task l := rfl
@[simp] theorem Act.host_traceRec (r : HostRec) (s : State) (l : Nat) : ((Act.host r).apply s).traceRec l = s.traceRec l := rfl
@[simp] theorem Act.host_tine (r : HostRec) (s : State) (l : Nat) : ((Act.host r).apply s).tine l = s.tine l := rfl
@[simp] theorem Act.lanes_same (key : Nat) (r : LaneRec) (s : State) : ((Act.lanes key r).apply s).lane key = r := by
  simp [Act.apply, State.lane, Tab.get_put_same]
theorem Act.lanes_ne (key key2 : Nat) (h : key ≠ key2) (r : LaneRec) (s : State) : ((Act.lanes key r).apply s).lane key2 = s.lane key2 := by
  simp [Act.apply, State.lane, Tab.get_put_ne _ _ _ h]
@[simp] theorem Act.lanes_regs (key : Nat) (r : LaneRec) (s : State) : ((Act.lanes key r).apply s).regs = s.regs := rfl
@[simp] theorem Act.lanes_time (key : Nat) (r : LaneRec) (s : State) : ((Act.lanes key r).apply s).time = s.time := rfl
@[simp] theorem Act.lanes_fns (key : Nat) (r : LaneRec) (s : State) : ((Act.lanes key r).apply s).fns = s.fns := rfl
@[simp] theorem Act.lanes_rings (key : Nat) (r : LaneRec) (s : State) : ((Act.lanes key r).apply s).rings = s.rings := rfl
@[simp] theorem Act.lanes_host (key : Nat) (r : LaneRec) (s : State) : ((Act.lanes key r).apply s).host = s.host := rfl
@[simp] theorem Act.lanes_out (key : Nat) (r : LaneRec) (s : State) : ((Act.lanes key r).apply s).out = s.out := rfl
@[simp] theorem Act.lanes_freeCtr (key : Nat) (r : LaneRec) (s : State) : ((Act.lanes key r).apply s).freeCtr = s.freeCtr := rfl
@[simp] theorem Act.lanes_chans (key : Nat) (r : LaneRec) (s : State) : ((Act.lanes key r).apply s).chans = s.chans := rfl
@[simp] theorem Act.lanes_slots (key : Nat) (r : LaneRec) (s : State) : ((Act.lanes key r).apply s).slots = s.slots := rfl
@[simp] theorem Act.lanes_gauges (key : Nat) (r : LaneRec) (s : State) : ((Act.lanes key r).apply s).gauges = s.gauges := rfl
@[simp] theorem Act.lanes_keepLocs (key : Nat) (r : LaneRec) (s : State) : ((Act.lanes key r).apply s).keepLocs = s.keepLocs := rfl
@[simp] theorem Act.lanes_keep (key : Nat) (r : LaneRec) (s : State) : ((Act.lanes key r).apply s).keep = s.keep := rfl
@[simp] theorem Act.lanes_keys (key : Nat) (r : LaneRec) (s : State) : ((Act.lanes key r).apply s).keys = s.keys := rfl
@[simp] theorem Act.lanes_ports (key : Nat) (r : LaneRec) (s : State) : ((Act.lanes key r).apply s).ports = s.ports := rfl
@[simp] theorem Act.lanes_twb (key : Nat) (r : LaneRec) (s : State) : ((Act.lanes key r).apply s).twb = s.twb := rfl
@[simp] theorem Act.lanes_house (key : Nat) (r : LaneRec) (s : State) : ((Act.lanes key r).apply s).house = s.house := rfl
@[simp] theorem Act.lanes_grid (key : Nat) (r : LaneRec) (s : State) : ((Act.lanes key r).apply s).grid = s.grid := rfl
@[simp] theorem Act.lanes_srcs (key : Nat) (r : LaneRec) (s : State) : ((Act.lanes key r).apply s).srcs = s.srcs := rfl
@[simp] theorem Act.lanes_icvs (key : Nat) (r : LaneRec) (s : State) : ((Act.lanes key r).apply s).icvs = s.icvs := rfl
@[simp] theorem Act.lanes_fcvs (key : Nat) (r : LaneRec) (s : State) : ((Act.lanes key r).apply s).fcvs = s.fcvs := rfl
@[simp] theorem Act.lanes_mains (key : Nat) (r : LaneRec) (s : State) : ((Act.lanes key r).apply s).mains = s.mains := rfl
@[simp] theorem Act.lanes_pendZ (key : Nat) (r : LaneRec) (s : State) : ((Act.lanes key r).apply s).pendZ = s.pendZ := rfl
@[simp] theorem Act.lanes_groups (key : Nat) (r : LaneRec) (s : State) : ((Act.lanes key r).apply s).groups = s.groups := rfl
@[simp] theorem Act.lanes_alm (key : Nat) (r : LaneRec) (s : State) : ((Act.lanes key r).apply s).alm = s.alm := rfl
@[simp] theorem Act.lanes_power (key : Nat) (r : LaneRec) (s : State) : ((Act.lanes key r).apply s).power = s.power := rfl
@[simp] theorem Act.lanes_pairs (key : Nat) (r : LaneRec) (s : State) : ((Act.lanes key r).apply s).pairs = s.pairs := rfl
@[simp] theorem Act.lanes_tasks (key : Nat) (r : LaneRec) (s : State) : ((Act.lanes key r).apply s).tasks = s.tasks := rfl
@[simp] theorem Act.lanes_eng (key : Nat) (r : LaneRec) (s : State) : ((Act.lanes key r).apply s).eng = s.eng := rfl
@[simp] theorem Act.lanes_trace (key : Nat) (r : LaneRec) (s : State) : ((Act.lanes key r).apply s).trace = s.trace := rfl
@[simp] theorem Act.lanes_sun (key : Nat) (r : LaneRec) (s : State) : ((Act.lanes key r).apply s).sun = s.sun := rfl
@[simp] theorem Act.lanes_clk (key : Nat) (r : LaneRec) (s : State) : ((Act.lanes key r).apply s).clk = s.clk := rfl
@[simp] theorem Act.lanes_svc (key : Nat) (r : LaneRec) (s : State) : ((Act.lanes key r).apply s).svc = s.svc := rfl
@[simp] theorem Act.lanes_tines (key : Nat) (r : LaneRec) (s : State) : ((Act.lanes key r).apply s).tines = s.tines := rfl
@[simp] theorem Act.lanes_chals (key : Nat) (r : LaneRec) (s : State) : ((Act.lanes key r).apply s).chals = s.chals := rfl
@[simp] theorem Act.lanes_pending (key : Nat) (r : LaneRec) (s : State) : ((Act.lanes key r).apply s).pending = s.pending := rfl
@[simp] theorem Act.lanes_rd (key : Nat) (r : LaneRec) (s : State) (f : Fld) (i j l : Nat) : ((Act.lanes key r).apply s).rd f i j l = s.rd f i j l := rfl
@[simp] theorem Act.lanes_fnr (key : Nat) (r : LaneRec) (s : State) (l : Nat) : ((Act.lanes key r).apply s).fnr l = s.fnr l := rfl
@[simp] theorem Act.lanes_ringr (key : Nat) (r : LaneRec) (s : State) (l : Nat) : ((Act.lanes key r).apply s).ringr l = s.ringr l := rfl
@[simp] theorem Act.lanes_chan (key : Nat) (r : LaneRec) (s : State) (l : Nat) : ((Act.lanes key r).apply s).chan l = s.chan l := rfl
@[simp] theorem Act.lanes_slot (key : Nat) (r : LaneRec) (s : State) (l : Nat) : ((Act.lanes key r).apply s).slot l = s.slot l := rfl
@[simp] theorem Act.lanes_gauge (key : Nat) (r : LaneRec) (s : State) (l : Nat) : ((Act.lanes key r).apply s).gauge l = s.gauge l := rfl
@[simp] theorem Act.lanes_keepLoc (key : Nat) (r : LaneRec) (s : State) (l : Nat) : ((Act.lanes key r).apply s).keepLoc l = s.keepLoc l := rfl
@[simp] theorem Act.lanes_keyr (key : Nat) (r : LaneRec) (s : State) (l : Nat) : ((Act.lanes key r).apply s).keyr l = s.keyr l := rfl
@[simp] theorem Act.lanes_port (key : Nat) (r : LaneRec) (s : State) (l : Nat) : ((Act.lanes key r).apply s).port l = s.port l := rfl
@[simp] theorem Act.lanes_bus (key : Nat) (r : LaneRec) (s : State) (l : Nat) : ((Act.lanes key r).apply s).bus l = s.bus l := rfl
@[simp] theorem Act.lanes_src (key : Nat) (r : LaneRec) (s : State) (l : Nat) : ((Act.lanes key r).apply s).src l = s.src l := rfl
@[simp] theorem Act.lanes_icv (key : Nat) (r : LaneRec) (s : State) (l : Nat) : ((Act.lanes key r).apply s).icv l = s.icv l := rfl
@[simp] theorem Act.lanes_fcv (key : Nat) (r : LaneRec) (s : State) (l : Nat) : ((Act.lanes key r).apply s).fcv l = s.fcv l := rfl
@[simp] theorem Act.lanes_group (key : Nat) (r : LaneRec) (s : State) (l : Nat) : ((Act.lanes key r).apply s).group l = s.group l := rfl
@[simp] theorem Act.lanes_pair (key : Nat) (r : LaneRec) (s : State) (l : Nat) : ((Act.lanes key r).apply s).pair l = s.pair l := rfl
@[simp] theorem Act.lanes_task (key : Nat) (r : LaneRec) (s : State) (l : Nat) : ((Act.lanes key r).apply s).task l = s.task l := rfl
@[simp] theorem Act.lanes_traceRec (key : Nat) (r : LaneRec) (s : State) (l : Nat) : ((Act.lanes key r).apply s).traceRec l = s.traceRec l := rfl
@[simp] theorem Act.lanes_tine (key : Nat) (r : LaneRec) (s : State) (l : Nat) : ((Act.lanes key r).apply s).tine l = s.tine l := rfl
@[simp] theorem Act.out_same (r : List Out) (s : State) : ((Act.out r).apply s).out = r := rfl
@[simp] theorem Act.out_regs (r : List Out) (s : State) : ((Act.out r).apply s).regs = s.regs := rfl
@[simp] theorem Act.out_time (r : List Out) (s : State) : ((Act.out r).apply s).time = s.time := rfl
@[simp] theorem Act.out_fns (r : List Out) (s : State) : ((Act.out r).apply s).fns = s.fns := rfl
@[simp] theorem Act.out_rings (r : List Out) (s : State) : ((Act.out r).apply s).rings = s.rings := rfl
@[simp] theorem Act.out_host (r : List Out) (s : State) : ((Act.out r).apply s).host = s.host := rfl
@[simp] theorem Act.out_lanes (r : List Out) (s : State) : ((Act.out r).apply s).lanes = s.lanes := rfl
@[simp] theorem Act.out_freeCtr (r : List Out) (s : State) : ((Act.out r).apply s).freeCtr = s.freeCtr := rfl
@[simp] theorem Act.out_chans (r : List Out) (s : State) : ((Act.out r).apply s).chans = s.chans := rfl
@[simp] theorem Act.out_slots (r : List Out) (s : State) : ((Act.out r).apply s).slots = s.slots := rfl
@[simp] theorem Act.out_gauges (r : List Out) (s : State) : ((Act.out r).apply s).gauges = s.gauges := rfl
@[simp] theorem Act.out_keepLocs (r : List Out) (s : State) : ((Act.out r).apply s).keepLocs = s.keepLocs := rfl
@[simp] theorem Act.out_keep (r : List Out) (s : State) : ((Act.out r).apply s).keep = s.keep := rfl
@[simp] theorem Act.out_keys (r : List Out) (s : State) : ((Act.out r).apply s).keys = s.keys := rfl
@[simp] theorem Act.out_ports (r : List Out) (s : State) : ((Act.out r).apply s).ports = s.ports := rfl
@[simp] theorem Act.out_twb (r : List Out) (s : State) : ((Act.out r).apply s).twb = s.twb := rfl
@[simp] theorem Act.out_house (r : List Out) (s : State) : ((Act.out r).apply s).house = s.house := rfl
@[simp] theorem Act.out_grid (r : List Out) (s : State) : ((Act.out r).apply s).grid = s.grid := rfl
@[simp] theorem Act.out_srcs (r : List Out) (s : State) : ((Act.out r).apply s).srcs = s.srcs := rfl
@[simp] theorem Act.out_icvs (r : List Out) (s : State) : ((Act.out r).apply s).icvs = s.icvs := rfl
@[simp] theorem Act.out_fcvs (r : List Out) (s : State) : ((Act.out r).apply s).fcvs = s.fcvs := rfl
@[simp] theorem Act.out_mains (r : List Out) (s : State) : ((Act.out r).apply s).mains = s.mains := rfl
@[simp] theorem Act.out_pendZ (r : List Out) (s : State) : ((Act.out r).apply s).pendZ = s.pendZ := rfl
@[simp] theorem Act.out_groups (r : List Out) (s : State) : ((Act.out r).apply s).groups = s.groups := rfl
@[simp] theorem Act.out_alm (r : List Out) (s : State) : ((Act.out r).apply s).alm = s.alm := rfl
@[simp] theorem Act.out_power (r : List Out) (s : State) : ((Act.out r).apply s).power = s.power := rfl
@[simp] theorem Act.out_pairs (r : List Out) (s : State) : ((Act.out r).apply s).pairs = s.pairs := rfl
@[simp] theorem Act.out_tasks (r : List Out) (s : State) : ((Act.out r).apply s).tasks = s.tasks := rfl
@[simp] theorem Act.out_eng (r : List Out) (s : State) : ((Act.out r).apply s).eng = s.eng := rfl
@[simp] theorem Act.out_trace (r : List Out) (s : State) : ((Act.out r).apply s).trace = s.trace := rfl
@[simp] theorem Act.out_sun (r : List Out) (s : State) : ((Act.out r).apply s).sun = s.sun := rfl
@[simp] theorem Act.out_clk (r : List Out) (s : State) : ((Act.out r).apply s).clk = s.clk := rfl
@[simp] theorem Act.out_svc (r : List Out) (s : State) : ((Act.out r).apply s).svc = s.svc := rfl
@[simp] theorem Act.out_tines (r : List Out) (s : State) : ((Act.out r).apply s).tines = s.tines := rfl
@[simp] theorem Act.out_chals (r : List Out) (s : State) : ((Act.out r).apply s).chals = s.chals := rfl
@[simp] theorem Act.out_pending (r : List Out) (s : State) : ((Act.out r).apply s).pending = s.pending := rfl
@[simp] theorem Act.out_rd (r : List Out) (s : State) (f : Fld) (i j l : Nat) : ((Act.out r).apply s).rd f i j l = s.rd f i j l := rfl
@[simp] theorem Act.out_fnr (r : List Out) (s : State) (l : Nat) : ((Act.out r).apply s).fnr l = s.fnr l := rfl
@[simp] theorem Act.out_ringr (r : List Out) (s : State) (l : Nat) : ((Act.out r).apply s).ringr l = s.ringr l := rfl
@[simp] theorem Act.out_lane (r : List Out) (s : State) (l : Nat) : ((Act.out r).apply s).lane l = s.lane l := rfl
@[simp] theorem Act.out_chan (r : List Out) (s : State) (l : Nat) : ((Act.out r).apply s).chan l = s.chan l := rfl
@[simp] theorem Act.out_slot (r : List Out) (s : State) (l : Nat) : ((Act.out r).apply s).slot l = s.slot l := rfl
@[simp] theorem Act.out_gauge (r : List Out) (s : State) (l : Nat) : ((Act.out r).apply s).gauge l = s.gauge l := rfl
@[simp] theorem Act.out_keepLoc (r : List Out) (s : State) (l : Nat) : ((Act.out r).apply s).keepLoc l = s.keepLoc l := rfl
@[simp] theorem Act.out_keyr (r : List Out) (s : State) (l : Nat) : ((Act.out r).apply s).keyr l = s.keyr l := rfl
@[simp] theorem Act.out_port (r : List Out) (s : State) (l : Nat) : ((Act.out r).apply s).port l = s.port l := rfl
@[simp] theorem Act.out_bus (r : List Out) (s : State) (l : Nat) : ((Act.out r).apply s).bus l = s.bus l := rfl
@[simp] theorem Act.out_src (r : List Out) (s : State) (l : Nat) : ((Act.out r).apply s).src l = s.src l := rfl
@[simp] theorem Act.out_icv (r : List Out) (s : State) (l : Nat) : ((Act.out r).apply s).icv l = s.icv l := rfl
@[simp] theorem Act.out_fcv (r : List Out) (s : State) (l : Nat) : ((Act.out r).apply s).fcv l = s.fcv l := rfl
@[simp] theorem Act.out_group (r : List Out) (s : State) (l : Nat) : ((Act.out r).apply s).group l = s.group l := rfl
@[simp] theorem Act.out_pair (r : List Out) (s : State) (l : Nat) : ((Act.out r).apply s).pair l = s.pair l := rfl
@[simp] theorem Act.out_task (r : List Out) (s : State) (l : Nat) : ((Act.out r).apply s).task l = s.task l := rfl
@[simp] theorem Act.out_traceRec (r : List Out) (s : State) (l : Nat) : ((Act.out r).apply s).traceRec l = s.traceRec l := rfl
@[simp] theorem Act.out_tine (r : List Out) (s : State) (l : Nat) : ((Act.out r).apply s).tine l = s.tine l := rfl
@[simp] theorem Act.freeCtr_same (r : Nat) (s : State) : ((Act.freeCtr r).apply s).freeCtr = r := rfl
@[simp] theorem Act.freeCtr_regs (r : Nat) (s : State) : ((Act.freeCtr r).apply s).regs = s.regs := rfl
@[simp] theorem Act.freeCtr_time (r : Nat) (s : State) : ((Act.freeCtr r).apply s).time = s.time := rfl
@[simp] theorem Act.freeCtr_fns (r : Nat) (s : State) : ((Act.freeCtr r).apply s).fns = s.fns := rfl
@[simp] theorem Act.freeCtr_rings (r : Nat) (s : State) : ((Act.freeCtr r).apply s).rings = s.rings := rfl
@[simp] theorem Act.freeCtr_host (r : Nat) (s : State) : ((Act.freeCtr r).apply s).host = s.host := rfl
@[simp] theorem Act.freeCtr_lanes (r : Nat) (s : State) : ((Act.freeCtr r).apply s).lanes = s.lanes := rfl
@[simp] theorem Act.freeCtr_out (r : Nat) (s : State) : ((Act.freeCtr r).apply s).out = s.out := rfl
@[simp] theorem Act.freeCtr_chans (r : Nat) (s : State) : ((Act.freeCtr r).apply s).chans = s.chans := rfl
@[simp] theorem Act.freeCtr_slots (r : Nat) (s : State) : ((Act.freeCtr r).apply s).slots = s.slots := rfl
@[simp] theorem Act.freeCtr_gauges (r : Nat) (s : State) : ((Act.freeCtr r).apply s).gauges = s.gauges := rfl
@[simp] theorem Act.freeCtr_keepLocs (r : Nat) (s : State) : ((Act.freeCtr r).apply s).keepLocs = s.keepLocs := rfl
@[simp] theorem Act.freeCtr_keep (r : Nat) (s : State) : ((Act.freeCtr r).apply s).keep = s.keep := rfl
@[simp] theorem Act.freeCtr_keys (r : Nat) (s : State) : ((Act.freeCtr r).apply s).keys = s.keys := rfl
@[simp] theorem Act.freeCtr_ports (r : Nat) (s : State) : ((Act.freeCtr r).apply s).ports = s.ports := rfl
@[simp] theorem Act.freeCtr_twb (r : Nat) (s : State) : ((Act.freeCtr r).apply s).twb = s.twb := rfl
@[simp] theorem Act.freeCtr_house (r : Nat) (s : State) : ((Act.freeCtr r).apply s).house = s.house := rfl
@[simp] theorem Act.freeCtr_grid (r : Nat) (s : State) : ((Act.freeCtr r).apply s).grid = s.grid := rfl
@[simp] theorem Act.freeCtr_srcs (r : Nat) (s : State) : ((Act.freeCtr r).apply s).srcs = s.srcs := rfl
@[simp] theorem Act.freeCtr_icvs (r : Nat) (s : State) : ((Act.freeCtr r).apply s).icvs = s.icvs := rfl
@[simp] theorem Act.freeCtr_fcvs (r : Nat) (s : State) : ((Act.freeCtr r).apply s).fcvs = s.fcvs := rfl
@[simp] theorem Act.freeCtr_mains (r : Nat) (s : State) : ((Act.freeCtr r).apply s).mains = s.mains := rfl
@[simp] theorem Act.freeCtr_pendZ (r : Nat) (s : State) : ((Act.freeCtr r).apply s).pendZ = s.pendZ := rfl
@[simp] theorem Act.freeCtr_groups (r : Nat) (s : State) : ((Act.freeCtr r).apply s).groups = s.groups := rfl
@[simp] theorem Act.freeCtr_alm (r : Nat) (s : State) : ((Act.freeCtr r).apply s).alm = s.alm := rfl
@[simp] theorem Act.freeCtr_power (r : Nat) (s : State) : ((Act.freeCtr r).apply s).power = s.power := rfl
@[simp] theorem Act.freeCtr_pairs (r : Nat) (s : State) : ((Act.freeCtr r).apply s).pairs = s.pairs := rfl
@[simp] theorem Act.freeCtr_tasks (r : Nat) (s : State) : ((Act.freeCtr r).apply s).tasks = s.tasks := rfl
@[simp] theorem Act.freeCtr_eng (r : Nat) (s : State) : ((Act.freeCtr r).apply s).eng = s.eng := rfl
@[simp] theorem Act.freeCtr_trace (r : Nat) (s : State) : ((Act.freeCtr r).apply s).trace = s.trace := rfl
@[simp] theorem Act.freeCtr_sun (r : Nat) (s : State) : ((Act.freeCtr r).apply s).sun = s.sun := rfl
@[simp] theorem Act.freeCtr_clk (r : Nat) (s : State) : ((Act.freeCtr r).apply s).clk = s.clk := rfl
@[simp] theorem Act.freeCtr_svc (r : Nat) (s : State) : ((Act.freeCtr r).apply s).svc = s.svc := rfl
@[simp] theorem Act.freeCtr_tines (r : Nat) (s : State) : ((Act.freeCtr r).apply s).tines = s.tines := rfl
@[simp] theorem Act.freeCtr_chals (r : Nat) (s : State) : ((Act.freeCtr r).apply s).chals = s.chals := rfl
@[simp] theorem Act.freeCtr_pending (r : Nat) (s : State) : ((Act.freeCtr r).apply s).pending = s.pending := rfl
@[simp] theorem Act.freeCtr_rd (r : Nat) (s : State) (f : Fld) (i j l : Nat) : ((Act.freeCtr r).apply s).rd f i j l = s.rd f i j l := rfl
@[simp] theorem Act.freeCtr_fnr (r : Nat) (s : State) (l : Nat) : ((Act.freeCtr r).apply s).fnr l = s.fnr l := rfl
@[simp] theorem Act.freeCtr_ringr (r : Nat) (s : State) (l : Nat) : ((Act.freeCtr r).apply s).ringr l = s.ringr l := rfl
@[simp] theorem Act.freeCtr_lane (r : Nat) (s : State) (l : Nat) : ((Act.freeCtr r).apply s).lane l = s.lane l := rfl
@[simp] theorem Act.freeCtr_chan (r : Nat) (s : State) (l : Nat) : ((Act.freeCtr r).apply s).chan l = s.chan l := rfl
@[simp] theorem Act.freeCtr_slot (r : Nat) (s : State) (l : Nat) : ((Act.freeCtr r).apply s).slot l = s.slot l := rfl
@[simp] theorem Act.freeCtr_gauge (r : Nat) (s : State) (l : Nat) : ((Act.freeCtr r).apply s).gauge l = s.gauge l := rfl
@[simp] theorem Act.freeCtr_keepLoc (r : Nat) (s : State) (l : Nat) : ((Act.freeCtr r).apply s).keepLoc l = s.keepLoc l := rfl
@[simp] theorem Act.freeCtr_keyr (r : Nat) (s : State) (l : Nat) : ((Act.freeCtr r).apply s).keyr l = s.keyr l := rfl
@[simp] theorem Act.freeCtr_port (r : Nat) (s : State) (l : Nat) : ((Act.freeCtr r).apply s).port l = s.port l := rfl
@[simp] theorem Act.freeCtr_bus (r : Nat) (s : State) (l : Nat) : ((Act.freeCtr r).apply s).bus l = s.bus l := rfl
@[simp] theorem Act.freeCtr_src (r : Nat) (s : State) (l : Nat) : ((Act.freeCtr r).apply s).src l = s.src l := rfl
@[simp] theorem Act.freeCtr_icv (r : Nat) (s : State) (l : Nat) : ((Act.freeCtr r).apply s).icv l = s.icv l := rfl
@[simp] theorem Act.freeCtr_fcv (r : Nat) (s : State) (l : Nat) : ((Act.freeCtr r).apply s).fcv l = s.fcv l := rfl
@[simp] theorem Act.freeCtr_group (r : Nat) (s : State) (l : Nat) : ((Act.freeCtr r).apply s).group l = s.group l := rfl
@[simp] theorem Act.freeCtr_pair (r : Nat) (s : State) (l : Nat) : ((Act.freeCtr r).apply s).pair l = s.pair l := rfl
@[simp] theorem Act.freeCtr_task (r : Nat) (s : State) (l : Nat) : ((Act.freeCtr r).apply s).task l = s.task l := rfl
@[simp] theorem Act.freeCtr_traceRec (r : Nat) (s : State) (l : Nat) : ((Act.freeCtr r).apply s).traceRec l = s.traceRec l := rfl
@[simp] theorem Act.freeCtr_tine (r : Nat) (s : State) (l : Nat) : ((Act.freeCtr r).apply s).tine l = s.tine l := rfl
@[simp] theorem Act.chans_same (key : Nat) (r : ChanRec) (s : State) : ((Act.chans key r).apply s).chan key = r := by
  simp [Act.apply, State.chan, Tab.get_put_same]
theorem Act.chans_ne (key key2 : Nat) (h : key ≠ key2) (r : ChanRec) (s : State) : ((Act.chans key r).apply s).chan key2 = s.chan key2 := by
  simp [Act.apply, State.chan, Tab.get_put_ne _ _ _ h]
@[simp] theorem Act.chans_regs (key : Nat) (r : ChanRec) (s : State) : ((Act.chans key r).apply s).regs = s.regs := rfl
@[simp] theorem Act.chans_time (key : Nat) (r : ChanRec) (s : State) : ((Act.chans key r).apply s).time = s.time := rfl
@[simp] theorem Act.chans_fns (key : Nat) (r : ChanRec) (s : State) : ((Act.chans key r).apply s).fns = s.fns := rfl
@[simp] theorem Act.chans_rings (key : Nat) (r : ChanRec) (s : State) : ((Act.chans key r).apply s).rings = s.rings := rfl
@[simp] theorem Act.chans_host (key : Nat) (r : ChanRec) (s : State) : ((Act.chans key r).apply s).host = s.host := rfl
@[simp] theorem Act.chans_lanes (key : Nat) (r : ChanRec) (s : State) : ((Act.chans key r).apply s).lanes = s.lanes := rfl
@[simp] theorem Act.chans_out (key : Nat) (r : ChanRec) (s : State) : ((Act.chans key r).apply s).out = s.out := rfl
@[simp] theorem Act.chans_freeCtr (key : Nat) (r : ChanRec) (s : State) : ((Act.chans key r).apply s).freeCtr = s.freeCtr := rfl
@[simp] theorem Act.chans_slots (key : Nat) (r : ChanRec) (s : State) : ((Act.chans key r).apply s).slots = s.slots := rfl
@[simp] theorem Act.chans_gauges (key : Nat) (r : ChanRec) (s : State) : ((Act.chans key r).apply s).gauges = s.gauges := rfl
@[simp] theorem Act.chans_keepLocs (key : Nat) (r : ChanRec) (s : State) : ((Act.chans key r).apply s).keepLocs = s.keepLocs := rfl
@[simp] theorem Act.chans_keep (key : Nat) (r : ChanRec) (s : State) : ((Act.chans key r).apply s).keep = s.keep := rfl
@[simp] theorem Act.chans_keys (key : Nat) (r : ChanRec) (s : State) : ((Act.chans key r).apply s).keys = s.keys := rfl
@[simp] theorem Act.chans_ports (key : Nat) (r : ChanRec) (s : State) : ((Act.chans key r).apply s).ports = s.ports := rfl
@[simp] theorem Act.chans_twb (key : Nat) (r : ChanRec) (s : State) : ((Act.chans key r).apply s).twb = s.twb := rfl
@[simp] theorem Act.chans_house (key : Nat) (r : ChanRec) (s : State) : ((Act.chans key r).apply s).house = s.house := rfl
@[simp] theorem Act.chans_grid (key : Nat) (r : ChanRec) (s : State) : ((Act.chans key r).apply s).grid = s.grid := rfl
@[simp] theorem Act.chans_srcs (key : Nat) (r : ChanRec) (s : State) : ((Act.chans key r).apply s).srcs = s.srcs := rfl
@[simp] theorem Act.chans_icvs (key : Nat) (r : ChanRec) (s : State) : ((Act.chans key r).apply s).icvs = s.icvs := rfl
@[simp] theorem Act.chans_fcvs (key : Nat) (r : ChanRec) (s : State) : ((Act.chans key r).apply s).fcvs = s.fcvs := rfl
@[simp] theorem Act.chans_mains (key : Nat) (r : ChanRec) (s : State) : ((Act.chans key r).apply s).mains = s.mains := rfl
@[simp] theorem Act.chans_pendZ (key : Nat) (r : ChanRec) (s : State) : ((Act.chans key r).apply s).pendZ = s.pendZ := rfl
@[simp] theorem Act.chans_groups (key : Nat) (r : ChanRec) (s : State) : ((Act.chans key r).apply s).groups = s.groups := rfl
@[simp] theorem Act.chans_alm (key : Nat) (r : ChanRec) (s : State) : ((Act.chans key r).apply s).alm = s.alm := rfl
@[simp] theorem Act.chans_power (key : Nat) (r : ChanRec) (s : State) : ((Act.chans key r).apply s).power = s.power := rfl
@[simp] theorem Act.chans_pairs (key : Nat) (r : ChanRec) (s : State) : ((Act.chans key r).apply s).pairs = s.pairs := rfl
@[simp] theorem Act.chans_tasks (key : Nat) (r : ChanRec) (s : State) : ((Act.chans key r).apply s).tasks = s.tasks := rfl
@[simp] theorem Act.chans_eng (key : Nat) (r : ChanRec) (s : State) : ((Act.chans key r).apply s).eng = s.eng := rfl
@[simp] theorem Act.chans_trace (key : Nat) (r : ChanRec) (s : State) : ((Act.chans key r).apply s).trace = s.trace := rfl
@[simp] theorem Act.chans_sun (key : Nat) (r : ChanRec) (s : State) : ((Act.chans key r).apply s).sun = s.sun := rfl
@[simp] theorem Act.chans_clk (key : Nat) (r : ChanRec) (s : State) : ((Act.chans key r).apply s).clk = s.clk := rfl
@[simp] theorem Act.chans_svc (key : Nat) (r : ChanRec) (s : State) : ((Act.chans key r).apply s).svc = s.svc := rfl
@[simp] theorem Act.chans_tines (key : Nat) (r : ChanRec) (s : State) : ((Act.chans key r).apply s).tines = s.tines := rfl
@[simp] theorem Act.chans_chals (key : Nat) (r : ChanRec) (s : State) : ((Act.chans key r).apply s).chals = s.chals := rfl
@[simp] theorem Act.chans_pending (key : Nat) (r : ChanRec) (s : State) : ((Act.chans key r).apply s).pending = s.pending := rfl
@[simp] theorem Act.chans_rd (key : Nat) (r : ChanRec) (s : State) (f : Fld) (i j l : Nat) : ((Act.chans key r).apply s).rd f i j l = s.rd f i j l := rfl
@[simp] theorem Act.chans_fnr (key : Nat) (r : ChanRec) (s : State) (l : Nat) : ((Act.chans key r).apply s).fnr l = s.fnr l := rfl
@[simp] theorem Act.chans_ringr (key : Nat) (r : ChanRec) (s : State) (l : Nat) : ((Act.chans key r).apply s).ringr l = s.ringr l := rfl
@[simp] theorem Act.chans_lane (key : Nat) (r : ChanRec) (s : State) (l : Nat) : ((Act.chans key r).apply s).lane l = s.lane l := rfl
@[simp] theorem Act.chans_slot (key : Nat) (r : ChanRec) (s : State) (l : Nat) : ((Act.chans key r).apply s).slot l = s.slot l := rfl
@[simp] theorem Act.chans_gauge (key : Nat) (r : ChanRec) (s : State) (l : Nat) : ((Act.chans key r).apply s).gauge l = s.gauge l := rfl
@[simp] theorem Act.chans_keepLoc (key : Nat) (r : ChanRec) (s : State) (l : Nat) : ((Act.chans key r).apply s).keepLoc l = s.keepLoc l := rfl
@[simp] theorem Act.chans_keyr (key : Nat) (r : ChanRec) (s : State) (l : Nat) : ((Act.chans key r).apply s).keyr l = s.keyr l := rfl
@[simp] theorem Act.chans_port (key : Nat) (r : ChanRec) (s : State) (l : Nat) : ((Act.chans key r).apply s).port l = s.port l := rfl
@[simp] theorem Act.chans_bus (key : Nat) (r : ChanRec) (s : State) (l : Nat) : ((Act.chans key r).apply s).bus l = s.bus l := rfl
@[simp] theorem Act.chans_src (key : Nat) (r : ChanRec) (s : State) (l : Nat) : ((Act.chans key r).apply s).src l = s.src l := rfl
@[simp] theorem Act.chans_icv (key : Nat) (r : ChanRec) (s : State) (l : Nat) : ((Act.chans key r).apply s).icv l = s.icv l := rfl
@[simp] theorem Act.chans_fcv (key : Nat) (r : ChanRec) (s : State) (l : Nat) : ((Act.chans key r).apply s).fcv l = s.fcv l := rfl
@[simp] theorem Act.chans_group (key : Nat) (r : ChanRec) (s : State) (l : Nat) : ((Act.chans key r).apply s).group l = s.group l := rfl
@[simp] theorem Act.chans_pair (key : Nat) (r : ChanRec) (s : State) (l : Nat) : ((Act.chans key r).apply s).pair l = s.pair l := rfl
@[simp] theorem Act.chans_task (key : Nat) (r : ChanRec) (s : State) (l : Nat) : ((Act.chans key r).apply s).task l = s.task l := rfl
@[simp] theorem Act.chans_traceRec (key : Nat) (r : ChanRec) (s : State) (l : Nat) : ((Act.chans key r).apply s).traceRec l = s.traceRec l := rfl
@[simp] theorem Act.chans_tine (key : Nat) (r : ChanRec) (s : State) (l : Nat) : ((Act.chans key r).apply s).tine l = s.tine l := rfl
@[simp] theorem Act.slots_same (key : Nat) (r : SlotRec) (s : State) : ((Act.slots key r).apply s).slot key = r := by
  simp [Act.apply, State.slot, Tab.get_put_same]
theorem Act.slots_ne (key key2 : Nat) (h : key ≠ key2) (r : SlotRec) (s : State) : ((Act.slots key r).apply s).slot key2 = s.slot key2 := by
  simp [Act.apply, State.slot, Tab.get_put_ne _ _ _ h]
@[simp] theorem Act.slots_regs (key : Nat) (r : SlotRec) (s : State) : ((Act.slots key r).apply s).regs = s.regs := rfl
@[simp] theorem Act.slots_time (key : Nat) (r : SlotRec) (s : State) : ((Act.slots key r).apply s).time = s.time := rfl
@[simp] theorem Act.slots_fns (key : Nat) (r : SlotRec) (s : State) : ((Act.slots key r).apply s).fns = s.fns := rfl
@[simp] theorem Act.slots_rings (key : Nat) (r : SlotRec) (s : State) : ((Act.slots key r).apply s).rings = s.rings := rfl
@[simp] theorem Act.slots_host (key : Nat) (r : SlotRec) (s : State) : ((Act.slots key r).apply s).host = s.host := rfl
@[simp] theorem Act.slots_lanes (key : Nat) (r : SlotRec) (s : State) : ((Act.slots key r).apply s).lanes = s.lanes := rfl
@[simp] theorem Act.slots_out (key : Nat) (r : SlotRec) (s : State) : ((Act.slots key r).apply s).out = s.out := rfl
@[simp] theorem Act.slots_freeCtr (key : Nat) (r : SlotRec) (s : State) : ((Act.slots key r).apply s).freeCtr = s.freeCtr := rfl
@[simp] theorem Act.slots_chans (key : Nat) (r : SlotRec) (s : State) : ((Act.slots key r).apply s).chans = s.chans := rfl
@[simp] theorem Act.slots_gauges (key : Nat) (r : SlotRec) (s : State) : ((Act.slots key r).apply s).gauges = s.gauges := rfl
@[simp] theorem Act.slots_keepLocs (key : Nat) (r : SlotRec) (s : State) : ((Act.slots key r).apply s).keepLocs = s.keepLocs := rfl
@[simp] theorem Act.slots_keep (key : Nat) (r : SlotRec) (s : State) : ((Act.slots key r).apply s).keep = s.keep := rfl
@[simp] theorem Act.slots_keys (key : Nat) (r : SlotRec) (s : State) : ((Act.slots key r).apply s).keys = s.keys := rfl
@[simp] theorem Act.slots_ports (key : Nat) (r : SlotRec) (s : State) : ((Act.slots key r).apply s).ports = s.ports := rfl
@[simp] theorem Act.slots_twb (key : Nat) (r : SlotRec) (s : State) : ((Act.slots key r).apply s).twb = s.twb := rfl
@[simp] theorem Act.slots_house (key : Nat) (r : SlotRec) (s : State) : ((Act.slots key r).apply s).house = s.house := rfl
@[simp] theorem Act.slots_grid (key : Nat) (r : SlotRec) (s : State) : ((Act.slots key r).apply s).grid = s.grid := rfl
@[simp] theorem Act.slots_srcs (key : Nat) (r : SlotRec) (s : State) : ((Act.slots key r).apply s).srcs = s.srcs := rfl
@[simp] theorem Act.slots_icvs (key : Nat) (r : SlotRec) (s : State) : ((Act.slots key r).apply s).icvs = s.icvs := rfl
@[simp] theorem Act.slots_fcvs (key : Nat) (r : SlotRec) (s : State) : ((Act.slots key r).apply s).fcvs = s.fcvs := rfl
@[simp] theorem Act.slots_mains (key : Nat) (r : SlotRec) (s : State) : ((Act.slots key r).apply s).mains = s.mains := rfl
@[simp] theorem Act.slots_pendZ (key : Nat) (r : SlotRec) (s : State) : ((Act.slots key r).apply s).pendZ = s.pendZ := rfl
@[simp] theorem Act.slots_groups (key : Nat) (r : SlotRec) (s : State) : ((Act.slots key r).apply s).groups = s.groups := rfl
@[simp] theorem Act.slots_alm (key : Nat) (r : SlotRec) (s : State) : ((Act.slots key r).apply s).alm = s.alm := rfl
@[simp] theorem Act.slots_power (key : Nat) (r : SlotRec) (s : State) : ((Act.slots key r).apply s).power = s.power := rfl
@[simp] theorem Act.slots_pairs (key : Nat) (r : SlotRec) (s : State) : ((Act.slots key r).apply s).pairs = s.pairs := rfl
@[simp] theorem Act.slots_tasks (key : Nat) (r : SlotRec) (s : State) : ((Act.slots key r).apply s).tasks = s.tasks := rfl
@[simp] theorem Act.slots_eng (key : Nat) (r : SlotRec) (s : State) : ((Act.slots key r).apply s).eng = s.eng := rfl
@[simp] theorem Act.slots_trace (key : Nat) (r : SlotRec) (s : State) : ((Act.slots key r).apply s).trace = s.trace := rfl
@[simp] theorem Act.slots_sun (key : Nat) (r : SlotRec) (s : State) : ((Act.slots key r).apply s).sun = s.sun := rfl
@[simp] theorem Act.slots_clk (key : Nat) (r : SlotRec) (s : State) : ((Act.slots key r).apply s).clk = s.clk := rfl
@[simp] theorem Act.slots_svc (key : Nat) (r : SlotRec) (s : State) : ((Act.slots key r).apply s).svc = s.svc := rfl
@[simp] theorem Act.slots_tines (key : Nat) (r : SlotRec) (s : State) : ((Act.slots key r).apply s).tines = s.tines := rfl
@[simp] theorem Act.slots_chals (key : Nat) (r : SlotRec) (s : State) : ((Act.slots key r).apply s).chals = s.chals := rfl
@[simp] theorem Act.slots_pending (key : Nat) (r : SlotRec) (s : State) : ((Act.slots key r).apply s).pending = s.pending := rfl
@[simp] theorem Act.slots_rd (key : Nat) (r : SlotRec) (s : State) (f : Fld) (i j l : Nat) : ((Act.slots key r).apply s).rd f i j l = s.rd f i j l := rfl
@[simp] theorem Act.slots_fnr (key : Nat) (r : SlotRec) (s : State) (l : Nat) : ((Act.slots key r).apply s).fnr l = s.fnr l := rfl
@[simp] theorem Act.slots_ringr (key : Nat) (r : SlotRec) (s : State) (l : Nat) : ((Act.slots key r).apply s).ringr l = s.ringr l := rfl
@[simp] theorem Act.slots_lane (key : Nat) (r : SlotRec) (s : State) (l : Nat) : ((Act.slots key r).apply s).lane l = s.lane l := rfl
@[simp] theorem Act.slots_chan (key : Nat) (r : SlotRec) (s : State) (l : Nat) : ((Act.slots key r).apply s).chan l = s.chan l := rfl
@[simp] theorem Act.slots_gauge (key : Nat) (r : SlotRec) (s : State) (l : Nat) : ((Act.slots key r).apply s).gauge l = s.gauge l := rfl
@[simp] theorem Act.slots_keepLoc (key : Nat) (r : SlotRec) (s : State) (l : Nat) : ((Act.slots key r).apply s).keepLoc l = s.keepLoc l := rfl
@[simp] theorem Act.slots_keyr (key : Nat) (r : SlotRec) (s : State) (l : Nat) : ((Act.slots key r).apply s).keyr l = s.keyr l := rfl
@[simp] theorem Act.slots_port (key : Nat) (r : SlotRec) (s : State) (l : Nat) : ((Act.slots key r).apply s).port l = s.port l := rfl
@[simp] theorem Act.slots_bus (key : Nat) (r : SlotRec) (s : State) (l : Nat) : ((Act.slots key r).apply s).bus l = s.bus l := rfl
@[simp] theorem Act.slots_src (key : Nat) (r : SlotRec) (s : State) (l : Nat) : ((Act.slots key r).apply s).src l = s.src l := rfl
@[simp] theorem Act.slots_icv (key : Nat) (r : SlotRec) (s : State) (l : Nat) : ((Act.slots key r).apply s).icv l = s.icv l := rfl
@[simp] theorem Act.slots_fcv (key : Nat) (r : SlotRec) (s : State) (l : Nat) : ((Act.slots key r).apply s).fcv l = s.fcv l := rfl
@[simp] theorem Act.slots_group (key : Nat) (r : SlotRec) (s : State) (l : Nat) : ((Act.slots key r).apply s).group l = s.group l := rfl
@[simp] theorem Act.slots_pair (key : Nat) (r : SlotRec) (s : State) (l : Nat) : ((Act.slots key r).apply s).pair l = s.pair l := rfl
@[simp] theorem Act.slots_task (key : Nat) (r : SlotRec) (s : State) (l : Nat) : ((Act.slots key r).apply s).task l = s.task l := rfl
@[simp] theorem Act.slots_traceRec (key : Nat) (r : SlotRec) (s : State) (l : Nat) : ((Act.slots key r).apply s).traceRec l = s.traceRec l := rfl
@[simp] theorem Act.slots_tine (key : Nat) (r : SlotRec) (s : State) (l : Nat) : ((Act.slots key r).apply s).tine l = s.tine l := rfl
@[simp] theorem Act.gauges_same (key : Nat) (r : GaugeRec) (s : State) : ((Act.gauges key r).apply s).gauge key = r := by
  simp [Act.apply, State.gauge, Tab.get_put_same]
theorem Act.gauges_ne (key key2 : Nat) (h : key ≠ key2) (r : GaugeRec) (s : State) : ((Act.gauges key r).apply s).gauge key2 = s.gauge key2 := by
  simp [Act.apply, State.gauge, Tab.get_put_ne _ _ _ h]
@[simp] theorem Act.gauges_regs (key : Nat) (r : GaugeRec) (s : State) : ((Act.gauges key r).apply s).regs = s.regs := rfl
@[simp] theorem Act.gauges_time (key : Nat) (r : GaugeRec) (s : State) : ((Act.gauges key r).apply s).time = s.time := rfl
@[simp] theorem Act.gauges_fns (key : Nat) (r : GaugeRec) (s : State) : ((Act.gauges key r).apply s).fns = s.fns := rfl
@[simp] theorem Act.gauges_rings (key : Nat) (r : GaugeRec) (s : State) : ((Act.gauges key r).apply s).rings = s.rings := rfl
@[simp] theorem Act.gauges_host (key : Nat) (r : GaugeRec) (s : State) : ((Act.gauges key r).apply s).host = s.host := rfl
@[simp] theorem Act.gauges_lanes (key : Nat) (r : GaugeRec) (s : State) : ((Act.gauges key r).apply s).lanes = s.lanes := rfl
@[simp] theorem Act.gauges_out (key : Nat) (r : GaugeRec) (s : State) : ((Act.gauges key r).apply s).out = s.out := rfl
@[simp] theorem Act.gauges_freeCtr (key : Nat) (r : GaugeRec) (s : State) : ((Act.gauges key r).apply s).freeCtr = s.freeCtr := rfl
@[simp] theorem Act.gauges_chans (key : Nat) (r : GaugeRec) (s : State) : ((Act.gauges key r).apply s).chans = s.chans := rfl
@[simp] theorem Act.gauges_slots (key : Nat) (r : GaugeRec) (s : State) : ((Act.gauges key r).apply s).slots = s.slots := rfl
@[simp] theorem Act.gauges_keepLocs (key : Nat) (r : GaugeRec) (s : State) : ((Act.gauges key r).apply s).keepLocs = s.keepLocs := rfl
@[simp] theorem Act.gauges_keep (key : Nat) (r : GaugeRec) (s : State) : ((Act.gauges key r).apply s).keep = s.keep := rfl
@[simp] theorem Act.gauges_keys (key : Nat) (r : GaugeRec) (s : State) : ((Act.gauges key r).apply s).keys = s.keys := rfl
@[simp] theorem Act.gauges_ports (key : Nat) (r : GaugeRec) (s : State) : ((Act.gauges key r).apply s).ports = s.ports := rfl
@[simp] theorem Act.gauges_twb (key : Nat) (r : GaugeRec) (s : State) : ((Act.gauges key r).apply s).twb = s.twb := rfl
@[simp] theorem Act.gauges_house (key : Nat) (r : GaugeRec) (s : State) : ((Act.gauges key r).apply s).house = s.house := rfl
@[simp] theorem Act.gauges_grid (key : Nat) (r : GaugeRec) (s : State) : ((Act.gauges key r).apply s).grid = s.grid := rfl
@[simp] theorem Act.gauges_srcs (key : Nat) (r : GaugeRec) (s : State) : ((Act.gauges key r).apply s).srcs = s.srcs := rfl
@[simp] theorem Act.gauges_icvs (key : Nat) (r : GaugeRec) (s : State) : ((Act.gauges key r).apply s).icvs = s.icvs := rfl
@[simp] theorem Act.gauges_fcvs (key : Nat) (r : GaugeRec) (s : State) : ((Act.gauges key r).apply s).fcvs = s.fcvs := rfl
@[simp] theorem Act.gauges_mains (key : Nat) (r : GaugeRec) (s : State) : ((Act.gauges key r).apply s).mains = s.mains := rfl
@[simp] theorem Act.gauges_pendZ (key : Nat) (r : GaugeRec) (s : State) : ((Act.gauges key r).apply s).pendZ = s.pendZ := rfl
@[simp] theorem Act.gauges_groups (key : Nat) (r : GaugeRec) (s : State) : ((Act.gauges key r).apply s).groups = s.groups := rfl
@[simp] theorem Act.gauges_alm (key : Nat) (r : GaugeRec) (s : State) : ((Act.gauges key r).apply s).alm = s.alm := rfl
@[simp] theorem Act.gauges_power (key : Nat) (r : GaugeRec) (s : State) : ((Act.gauges key r).apply s).power = s.power := rfl
@[simp] theorem Act.gauges_pairs (key : Nat) (r : GaugeRec) (s : State) : ((Act.gauges key r).apply s).pairs = s.pairs := rfl
@[simp] theorem Act.gauges_tasks (key : Nat) (r : GaugeRec) (s : State) : ((Act.gauges key r).apply s).tasks = s.tasks := rfl
@[simp] theorem Act.gauges_eng (key : Nat) (r : GaugeRec) (s : State) : ((Act.gauges key r).apply s).eng = s.eng := rfl
@[simp] theorem Act.gauges_trace (key : Nat) (r : GaugeRec) (s : State) : ((Act.gauges key r).apply s).trace = s.trace := rfl
@[simp] theorem Act.gauges_sun (key : Nat) (r : GaugeRec) (s : State) : ((Act.gauges key r).apply s).sun = s.sun := rfl
@[simp] theorem Act.gauges_clk (key : Nat) (r : GaugeRec) (s : State) : ((Act.gauges key r).apply s).clk = s.clk := rfl
@[simp] theorem Act.gauges_svc (key : Nat) (r : GaugeRec) (s : State) : ((Act.gauges key r).apply s).svc = s.svc := rfl
@[simp] theorem Act.gauges_tines (key : Nat) (r : GaugeRec) (s : State) : ((Act.gauges key r).apply s).tines = s.tines := rfl
@[simp] theorem Act.gauges_chals (key : Nat) (r : GaugeRec) (s : State) : ((Act.gauges key r).apply s).chals = s.chals := rfl
@[simp] theorem Act.gauges_pending (key : Nat) (r : GaugeRec) (s : State) : ((Act.gauges key r).apply s).pending = s.pending := rfl
@[simp] theorem Act.gauges_rd (key : Nat) (r : GaugeRec) (s : State) (f : Fld) (i j l : Nat) : ((Act.gauges key r).apply s).rd f i j l = s.rd f i j l := rfl
@[simp] theorem Act.gauges_fnr (key : Nat) (r : GaugeRec) (s : State) (l : Nat) : ((Act.gauges key r).apply s).fnr l = s.fnr l := rfl
@[simp] theorem Act.gauges_ringr (key : Nat) (r : GaugeRec) (s : State) (l : Nat) : ((Act.gauges key r).apply s).ringr l = s.ringr l := rfl
@[simp] theorem Act.gauges_lane (key : Nat) (r : GaugeRec) (s : State) (l : Nat) : ((Act.gauges key r).apply s).lane l = s.lane l := rfl
@[simp] theorem Act.gauges_chan (key : Nat) (r : GaugeRec) (s : State) (l : Nat) : ((Act.gauges key r).apply s).chan l = s.chan l := rfl
@[simp] theorem Act.gauges_slot (key : Nat) (r : GaugeRec) (s : State) (l : Nat) : ((Act.gauges key r).apply s).slot l = s.slot l := rfl
@[simp] theorem Act.gauges_keepLoc (key : Nat) (r : GaugeRec) (s : State) (l : Nat) : ((Act.gauges key r).apply s).keepLoc l = s.keepLoc l := rfl
@[simp] theorem Act.gauges_keyr (key : Nat) (r : GaugeRec) (s : State) (l : Nat) : ((Act.gauges key r).apply s).keyr l = s.keyr l := rfl
@[simp] theorem Act.gauges_port (key : Nat) (r : GaugeRec) (s : State) (l : Nat) : ((Act.gauges key r).apply s).port l = s.port l := rfl
@[simp] theorem Act.gauges_bus (key : Nat) (r : GaugeRec) (s : State) (l : Nat) : ((Act.gauges key r).apply s).bus l = s.bus l := rfl
@[simp] theorem Act.gauges_src (key : Nat) (r : GaugeRec) (s : State) (l : Nat) : ((Act.gauges key r).apply s).src l = s.src l := rfl
@[simp] theorem Act.gauges_icv (key : Nat) (r : GaugeRec) (s : State) (l : Nat) : ((Act.gauges key r).apply s).icv l = s.icv l := rfl
@[simp] theorem Act.gauges_fcv (key : Nat) (r : GaugeRec) (s : State) (l : Nat) : ((Act.gauges key r).apply s).fcv l = s.fcv l := rfl
@[simp] theorem Act.gauges_group (key : Nat) (r : GaugeRec) (s : State) (l : Nat) : ((Act.gauges key r).apply s).group l = s.group l := rfl
@[simp] theorem Act.gauges_pair (key : Nat) (r : GaugeRec) (s : State) (l : Nat) : ((Act.gauges key r).apply s).pair l = s.pair l := rfl
@[simp] theorem Act.gauges_task (key : Nat) (r : GaugeRec) (s : State) (l : Nat) : ((Act.gauges key r).apply s).task l = s.task l := rfl
@[simp] theorem Act.gauges_traceRec (key : Nat) (r : GaugeRec) (s : State) (l : Nat) : ((Act.gauges key r).apply s).traceRec l = s.traceRec l := rfl
@[simp] theorem Act.gauges_tine (key : Nat) (r : GaugeRec) (s : State) (l : Nat) : ((Act.gauges key r).apply s).tine l = s.tine l := rfl
@[simp] theorem Act.keepLocs_same (key : Nat) (r : KeepLoc) (s : State) : ((Act.keepLocs key r).apply s).keepLoc key = r := by
  simp [Act.apply, State.keepLoc, Tab.get_put_same]
theorem Act.keepLocs_ne (key key2 : Nat) (h : key ≠ key2) (r : KeepLoc) (s : State) : ((Act.keepLocs key r).apply s).keepLoc key2 = s.keepLoc key2 := by
  simp [Act.apply, State.keepLoc, Tab.get_put_ne _ _ _ h]
@[simp] theorem Act.keepLocs_regs (key : Nat) (r : KeepLoc) (s : State) : ((Act.keepLocs key r).apply s).regs = s.regs := rfl
@[simp] theorem Act.keepLocs_time (key : Nat) (r : KeepLoc) (s : State) : ((Act.keepLocs key r).apply s).time = s.time := rfl
@[simp] theorem Act.keepLocs_fns (key : Nat) (r : KeepLoc) (s : State) : ((Act.keepLocs key r).apply s).fns = s.fns := rfl
@[simp] theorem Act.keepLocs_rings (key : Nat) (r : KeepLoc) (s : State) : ((Act.keepLocs key r).apply s).rings = s.rings := rfl
@[simp] theorem Act.keepLocs_host (key : Nat) (r : KeepLoc) (s : State) : ((Act.keepLocs key r).apply s).host = s.host := rfl
@[simp] theorem Act.keepLocs_lanes (key : Nat) (r : KeepLoc) (s : State) : ((Act.keepLocs key r).apply s).lanes = s.lanes := rfl
@[simp] theorem Act.keepLocs_out (key : Nat) (r : KeepLoc) (s : State) : ((Act.keepLocs key r).apply s).out = s.out := rfl
@[simp] theorem Act.keepLocs_freeCtr (key : Nat) (r : KeepLoc) (s : State) : ((Act.keepLocs key r).apply s).freeCtr = s.freeCtr := rfl
@[simp] theorem Act.keepLocs_chans (key : Nat) (r : KeepLoc) (s : State) : ((Act.keepLocs key r).apply s).chans = s.chans := rfl
@[simp] theorem Act.keepLocs_slots (key : Nat) (r : KeepLoc) (s : State) : ((Act.keepLocs key r).apply s).slots = s.slots := rfl
@[simp] theorem Act.keepLocs_gauges (key : Nat) (r : KeepLoc) (s : State) : ((Act.keepLocs key r).apply s).gauges = s.gauges := rfl
@[simp] theorem Act.keepLocs_keep (key : Nat) (r : KeepLoc) (s : State) : ((Act.keepLocs key r).apply s).keep = s.keep := rfl
@[simp] theorem Act.keepLocs_keys (key : Nat) (r : KeepLoc) (s : State) : ((Act.keepLocs key r).apply s).keys = s.keys := rfl
@[simp] theorem Act.keepLocs_ports (key : Nat) (r : KeepLoc) (s : State) : ((Act.keepLocs key r).apply s).ports = s.ports := rfl
@[simp] theorem Act.keepLocs_twb (key : Nat) (r : KeepLoc) (s : State) : ((Act.keepLocs key r).apply s).twb = s.twb := rfl
@[simp] theorem Act.keepLocs_house (key : Nat) (r : KeepLoc) (s : State) : ((Act.keepLocs key r).apply s).house = s.house := rfl
@[simp] theorem Act.keepLocs_grid (key : Nat) (r : KeepLoc) (s : State) : ((Act.keepLocs key r).apply s).grid = s.grid := rfl
@[simp] theorem Act.keepLocs_srcs (key : Nat) (r : KeepLoc) (s : State) : ((Act.keepLocs key r).apply s).srcs = s.srcs := rfl
@[simp] theorem Act.keepLocs_icvs (key : Nat) (r : KeepLoc) (s : State) : ((Act.keepLocs key r).apply s).icvs = s.icvs := rfl
@[simp] theorem Act.keepLocs_fcvs (key : Nat) (r : KeepLoc) (s : State) : ((Act.keepLocs key r).apply s).fcvs = s.fcvs := rfl
@[simp] theorem Act.keepLocs_mains (key : Nat) (r : KeepLoc) (s : State) : ((Act.keepLocs key r).apply s).mains = s.mains := rfl
@[simp] theorem Act.keepLocs_pendZ (key : Nat) (r : KeepLoc) (s : State) : ((Act.keepLocs key r).apply s).pendZ = s.pendZ := rfl
@[simp] theorem Act.keepLocs_groups (key : Nat) (r : KeepLoc) (s : State) : ((Act.keepLocs key r).apply s).groups = s.groups := rfl
@[simp] theorem Act.keepLocs_alm (key : Nat) (r : KeepLoc) (s : State) : ((Act.keepLocs key r).apply s).alm = s.alm := rfl
@[simp] theorem Act.keepLocs_power (key : Nat) (r : KeepLoc) (s : State) : ((Act.keepLocs key r).apply s).power = s.power := rfl
@[simp] theorem Act.keepLocs_pairs (key : Nat) (r : KeepLoc) (s : State) : ((Act.keepLocs key r).apply s).pairs = s.pairs := rfl
@[simp] theorem Act.keepLocs_tasks (key : Nat) (r : KeepLoc) (s : State) : ((Act.keepLocs key r).apply s).tasks = s.tasks := rfl
@[simp] theorem Act.keepLocs_eng (key : Nat) (r : KeepLoc) (s : State) : ((Act.keepLocs key r).apply s).eng = s.eng := rfl
@[simp] theorem Act.keepLocs_trace (key : Nat) (r : KeepLoc) (s : State) : ((Act.keepLocs key r).apply s).trace = s.trace := rfl
@[simp] theorem Act.keepLocs_sun (key : Nat) (r : KeepLoc) (s : State) : ((Act.keepLocs key r).apply s).sun = s.sun := rfl
@[simp] theorem Act.keepLocs_clk (key : Nat) (r : KeepLoc) (s : State) : ((Act.keepLocs key r).apply s).clk = s.clk := rfl
@[simp] theorem Act.keepLocs_svc (key : Nat) (r : KeepLoc) (s : State) : ((Act.keepLocs key r).apply s).svc = s.svc := rfl
@[simp] theorem Act.keepLocs_tines (key : Nat) (r : KeepLoc) (s : State) : ((Act.keepLocs key r).apply s).tines = s.tines := rfl
@[simp] theorem Act.keepLocs_chals (key : Nat) (r : KeepLoc) (s : State) : ((Act.keepLocs key r).apply s).chals = s.chals := rfl
@[simp] theorem Act.keepLocs_pending (key : Nat) (r : KeepLoc) (s : State) : ((Act.keepLocs key r).apply s).pending = s.pending := rfl
@[simp] theorem Act.keepLocs_rd (key : Nat) (r : KeepLoc) (s : State) (f : Fld) (i j l : Nat) : ((Act.keepLocs key r).apply s).rd f i j l = s.rd f i j l := rfl
@[simp] theorem Act.keepLocs_fnr (key : Nat) (r : KeepLoc) (s : State) (l : Nat) : ((Act.keepLocs key r).apply s).fnr l = s.fnr l := rfl
@[simp] theorem Act.keepLocs_ringr (key : Nat) (r : KeepLoc) (s : State) (l : Nat) : ((Act.keepLocs key r).apply s).ringr l = s.ringr l := rfl
@[simp] theorem Act.keepLocs_lane (key : Nat) (r : KeepLoc) (s : State) (l : Nat) : ((Act.keepLocs key r).apply s).lane l = s.lane l := rfl
@[simp] theorem Act.keepLocs_chan (key : Nat) (r : KeepLoc) (s : State) (l : Nat) : ((Act.keepLocs key r).apply s).chan l = s.chan l := rfl
@[simp] theorem Act.keepLocs_slot (key : Nat) (r : KeepLoc) (s : State) (l : Nat) : ((Act.keepLocs key r).apply s).slot l = s.slot l := rfl
@[simp] theorem Act.keepLocs_gauge (key : Nat) (r : KeepLoc) (s : State) (l : Nat) : ((Act.keepLocs key r).apply s).gauge l = s.gauge l := rfl
@[simp] theorem Act.keepLocs_keyr (key : Nat) (r : KeepLoc) (s : State) (l : Nat) : ((Act.keepLocs key r).apply s).keyr l = s.keyr l := rfl
@[simp] theorem Act.keepLocs_port (key : Nat) (r : KeepLoc) (s : State) (l : Nat) : ((Act.keepLocs key r).apply s).port l = s.port l := rfl
@[simp] theorem Act.keepLocs_bus (key : Nat) (r : KeepLoc) (s : State) (l : Nat) : ((Act.keepLocs key r).apply s).bus l = s.bus l := rfl
@[simp] theorem Act.keepLocs_src (key : Nat) (r : KeepLoc) (s : State) (l : Nat) : ((Act.keepLocs key r).apply s).src l = s.src l := rfl
@[simp] theorem Act.keepLocs_icv (key : Nat) (r : KeepLoc) (s : State) (l : Nat) : ((Act.keepLocs key r).apply s).icv l = s.icv l := rfl
@[simp] theorem Act.keepLocs_fcv (key : Nat) (r : KeepLoc) (s : State) (l : Nat) : ((Act.keepLocs key r).apply s).fcv l = s.fcv l := rfl
@[simp] theorem Act.keepLocs_group (key : Nat) (r : KeepLoc) (s : State) (l : Nat) : ((Act.keepLocs key r).apply s).group l = s.group l := rfl
@[simp] theorem Act.keepLocs_pair (key : Nat) (r : KeepLoc) (s : State) (l : Nat) : ((Act.keepLocs key r).apply s).pair l = s.pair l := rfl
@[simp] theorem Act.keepLocs_task (key : Nat) (r : KeepLoc) (s : State) (l : Nat) : ((Act.keepLocs key r).apply s).task l = s.task l := rfl
@[simp] theorem Act.keepLocs_traceRec (key : Nat) (r : KeepLoc) (s : State) (l : Nat) : ((Act.keepLocs key r).apply s).traceRec l = s.traceRec l := rfl
@[simp] theorem Act.keepLocs_tine (key : Nat) (r : KeepLoc) (s : State) (l : Nat) : ((Act.keepLocs key r).apply s).tine l = s.tine l := rfl
@[simp] theorem Act.keep_same (r : KeepRec) (s : State) : ((Act.keep r).apply s).keep = r := rfl
@[simp] theorem Act.keep_regs (r : KeepRec) (s : State) : ((Act.keep r).apply s).regs = s.regs := rfl
@[simp] theorem Act.keep_time (r : KeepRec) (s : State) : ((Act.keep r).apply s).time = s.time := rfl
@[simp] theorem Act.keep_fns (r : KeepRec) (s : State) : ((Act.keep r).apply s).fns = s.fns := rfl
@[simp] theorem Act.keep_rings (r : KeepRec) (s : State) : ((Act.keep r).apply s).rings = s.rings := rfl
@[simp] theorem Act.keep_host (r : KeepRec) (s : State) : ((Act.keep r).apply s).host = s.host := rfl
@[simp] theorem Act.keep_lanes (r : KeepRec) (s : State) : ((Act.keep r).apply s).lanes = s.lanes := rfl
@[simp] theorem Act.keep_out (r : KeepRec) (s : State) : ((Act.keep r).apply s).out = s.out := rfl
@[simp] theorem Act.keep_freeCtr (r : KeepRec) (s : State) : ((Act.keep r).apply s).freeCtr = s.freeCtr := rfl
@[simp] theorem Act.keep_chans (r : KeepRec) (s : State) : ((Act.keep r).apply s).chans = s.chans := rfl
@[simp] theorem Act.keep_slots (r : KeepRec) (s : State) : ((Act.keep r).apply s).slots = s.slots := rfl
@[simp] theorem Act.keep_gauges (r : KeepRec) (s : State) : ((Act.keep r).apply s).gauges = s.gauges := rfl
@[simp] theorem Act.keep_keepLocs (r : KeepRec) (s : State) : ((Act.keep r).apply s).keepLocs = s.keepLocs := rfl
@[simp] theorem Act.keep_keys (r : KeepRec) (s : State) : ((Act.keep r).apply s).keys = s.keys := rfl
@[simp] theorem Act.keep_ports (r : KeepRec) (s : State) : ((Act.keep r).apply s).ports = s.ports := rfl
@[simp] theorem Act.keep_twb (r : KeepRec) (s : State) : ((Act.keep r).apply s).twb = s.twb := rfl
@[simp] theorem Act.keep_house (r : KeepRec) (s : State) : ((Act.keep r).apply s).house = s.house := rfl
@[simp] theorem Act.keep_grid (r : KeepRec) (s : State) : ((Act.keep r).apply s).grid = s.grid := rfl
@[simp] theorem Act.keep_srcs (r : KeepRec) (s : State) : ((Act.keep r).apply s).srcs = s.srcs := rfl
@[simp] theorem Act.keep_icvs (r : KeepRec) (s : State) : ((Act.keep r).apply s).icvs = s.icvs := rfl
@[simp] theorem Act.keep_fcvs (r : KeepRec) (s : State) : ((Act.keep r).apply s).fcvs = s.fcvs := rfl
@[simp] theorem Act.keep_mains (r : KeepRec) (s : State) : ((Act.keep r).apply s).mains = s.mains := rfl
@[simp] theorem Act.keep_pendZ (r : KeepRec) (s : State) : ((Act.keep r).apply s).pendZ = s.pendZ := rfl
@[simp] theorem Act.keep_groups (r : KeepRec) (s : State) : ((Act.keep r).apply s).groups = s.groups := rfl
@[simp] theorem Act.keep_alm (r : KeepRec) (s : State) : ((Act.keep r).apply s).alm = s.alm := rfl
@[simp] theorem Act.keep_power (r : KeepRec) (s : State) : ((Act.keep r).apply s).power = s.power := rfl
@[simp] theorem Act.keep_pairs (r : KeepRec) (s : State) : ((Act.keep r).apply s).pairs = s.pairs := rfl
@[simp] theorem Act.keep_tasks (r : KeepRec) (s : State) : ((Act.keep r).apply s).tasks = s.tasks := rfl
@[simp] theorem Act.keep_eng (r : KeepRec) (s : State) : ((Act.keep r).apply s).eng = s.eng := rfl
@[simp] theorem Act.keep_trace (r : KeepRec) (s : State) : ((Act.keep r).apply s).trace = s.trace := rfl
@[simp] theorem Act.keep_sun (r : KeepRec) (s : State) : ((Act.keep r).apply s).sun = s.sun := rfl
@[simp] theorem Act.keep_clk (r : KeepRec) (s : State) : ((Act.keep r).apply s).clk = s.clk := rfl
@[simp] theorem Act.keep_svc (r : KeepRec) (s : State) : ((Act.keep r).apply s).svc = s.svc := rfl
@[simp] theorem Act.keep_tines (r : KeepRec) (s : State) : ((Act.keep r).apply s).tines = s.tines := rfl
@[simp] theorem Act.keep_chals (r : KeepRec) (s : State) : ((Act.keep r).apply s).chals = s.chals := rfl
@[simp] theorem Act.keep_pending (r : KeepRec) (s : State) : ((Act.keep r).apply s).pending = s.pending := rfl
@[simp] theorem Act.keep_rd (r : KeepRec) (s : State) (f : Fld) (i j l : Nat) : ((Act.keep r).apply s).rd f i j l = s.rd f i j l := rfl
@[simp] theorem Act.keep_fnr (r : KeepRec) (s : State) (l : Nat) : ((Act.keep r).apply s).fnr l = s.fnr l := rfl
@[simp] theorem Act.keep_ringr (r : KeepRec) (s : State) (l : Nat) : ((Act.keep r).apply s).ringr l = s.ringr l := rfl
@[simp] theorem Act.keep_lane (r : KeepRec) (s : State) (l : Nat) : ((Act.keep r).apply s).lane l = s.lane l := rfl
@[simp] theorem Act.keep_chan (r : KeepRec) (s : State) (l : Nat) : ((Act.keep r).apply s).chan l = s.chan l := rfl
@[simp] theorem Act.keep_slot (r : KeepRec) (s : State) (l : Nat) : ((Act.keep r).apply s).slot l = s.slot l := rfl
@[simp] theorem Act.keep_gauge (r : KeepRec) (s : State) (l : Nat) : ((Act.keep r).apply s).gauge l = s.gauge l := rfl
@[simp] theorem Act.keep_keepLoc (r : KeepRec) (s : State) (l : Nat) : ((Act.keep r).apply s).keepLoc l = s.keepLoc l := rfl
@[simp] theorem Act.keep_keyr (r : KeepRec) (s : State) (l : Nat) : ((Act.keep r).apply s).keyr l = s.keyr l := rfl
@[simp] theorem Act.keep_port (r : KeepRec) (s : State) (l : Nat) : ((Act.keep r).apply s).port l = s.port l := rfl
@[simp] theorem Act.keep_bus (r : KeepRec) (s : State) (l : Nat) : ((Act.keep r).apply s).bus l = s.bus l := rfl
@[simp] theorem Act.keep_src (r : KeepRec) (s : State) (l : Nat) : ((Act.keep r).apply s).src l = s.src l := rfl
@[simp] theorem Act.keep_icv (r : KeepRec) (s : State) (l : Nat) : ((Act.keep r).apply s).icv l = s.icv l := rfl
@[simp] theorem Act.keep_fcv (r : KeepRec) (s : State) (l : Nat) : ((Act.keep r).apply s).fcv l = s.fcv l := rfl
@[simp] theorem Act.keep_group (r : KeepRec) (s : State) (l : Nat) : ((Act.keep r).apply s).group l = s.group l := rfl
@[simp] theorem Act.keep_pair (r : KeepRec) (s : State) (l : Nat) : ((Act.keep r).apply s).pair l = s.pair l := rfl
@[simp] theorem Act.keep_task (r : KeepRec) (s : State) (l : Nat) : ((Act.keep r).apply s).task l = s.task l := rfl
@[simp] theorem Act.keep_traceRec (r : KeepRec) (s : State) (l : Nat) : ((Act.keep r).apply s).traceRec l = s.traceRec l := rfl
@[simp] theorem Act.keep_tine (r : KeepRec) (s : State) (l : Nat) : ((Act.keep r).apply s).tine l = s.tine l := rfl
@[simp] theorem Act.keys_same (key : Nat) (r : KeyRec) (s : State) : ((Act.keys key r).apply s).keyr key = r := by
  simp [Act.apply, State.keyr, Tab.get_put_same]
theorem Act.keys_ne (key key2 : Nat) (h : key ≠ key2) (r : KeyRec) (s : State) : ((Act.keys key r).apply s).keyr key2 = s.keyr key2 := by
  simp [Act.apply, State.keyr, Tab.get_put_ne _ _ _ h]
@[simp] theorem Act.keys_regs (key : Nat) (r : KeyRec) (s : State) : ((Act.keys key r).apply s).regs = s.regs := rfl
@[simp] theorem Act.keys_time (key : Nat) (r : KeyRec) (s : State) : ((Act.keys key r).apply s).time = s.time := rfl
@[simp] theorem Act.keys_fns (key : Nat) (r : KeyRec) (s : State) : ((Act.keys key r).apply s).fns = s.fns := rfl
@[simp] theorem Act.keys_rings (key : Nat) (r : KeyRec) (s : State) : ((Act.keys key r).apply s).rings = s.rings := rfl
@[simp] theorem Act.keys_host (key : Nat) (r : KeyRec) (s : State) : ((Act.keys key r).apply s).host = s.host := rfl
@[simp] theorem Act.keys_lanes (key : Nat) (r : KeyRec) (s : State) : ((Act.keys key r).apply s).lanes = s.lanes := rfl
@[simp] theorem Act.keys_out (key : Nat) (r : KeyRec) (s : State) : ((Act.keys key r).apply s).out = s.out := rfl
@[simp] theorem Act.keys_freeCtr (key : Nat) (r : KeyRec) (s : State) : ((Act.keys key r).apply s).freeCtr = s.freeCtr := rfl
@[simp] theorem Act.keys_chans (key : Nat) (r : KeyRec) (s : State) : ((Act.keys key r).apply s).chans = s.chans := rfl
@[simp] theorem Act.keys_slots (key : Nat) (r : KeyRec) (s : State) : ((Act.keys key r).apply s).slots = s.slots := rfl
@[simp] theorem Act.keys_gauges (key : Nat) (r : KeyRec) (s : State) : ((Act.keys key r).apply s).gauges = s.gauges := rfl
@[simp] theorem Act.keys_keepLocs (key : Nat) (r : KeyRec) (s : State) : ((Act.keys key r).apply s).keepLocs = s.keepLocs := rfl
@[simp] theorem Act.keys_keep (key : Nat) (r : KeyRec) (s : State) : ((Act.keys key r).apply s).keep = s.keep := rfl
@[simp] theorem Act.keys_ports (key : Nat) (r : KeyRec) (s : State) : ((Act.keys key r).apply s).ports = s.ports := rfl
@[simp] theorem Act.keys_twb (key : Nat) (r : KeyRec) (s : State) : ((Act.keys key r).apply s).twb = s.twb := rfl
@[simp] theorem Act.keys_house (key : Nat) (r : KeyRec) (s : State) : ((Act.keys key r).apply s).house = s.house := rfl
@[simp] theorem Act.keys_grid (key : Nat) (r : KeyRec) (s : State) : ((Act.keys key r).apply s).grid = s.grid := rfl
@[simp] theorem Act.keys_srcs (key : Nat) (r : KeyRec) (s : State) : ((Act.keys key r).apply s).srcs = s.srcs := rfl
@[simp] theorem Act.keys_icvs (key : Nat) (r : KeyRec) (s : State) : ((Act.keys key r).apply s).icvs = s.icvs := rfl
@[simp] theorem Act.keys_fcvs (key : Nat) (r : KeyRec) (s : State) : ((Act.keys key r).apply s).fcvs = s.fcvs := rfl
@[simp] theorem Act.keys_mains (key : Nat) (r : KeyRec) (s : State) : ((Act.keys key r).apply s).mains = s.mains := rfl
@[simp] theorem Act.keys_pendZ (key : Nat) (r : KeyRec) (s : State) : ((Act.keys key r).apply s).pendZ = s.pendZ := rfl
@[simp] theorem Act.keys_groups (key : Nat) (r : KeyRec) (s : State) : ((Act.keys key r).apply s).groups = s.groups := rfl
@[simp] theorem Act.keys_alm (key : Nat) (r : KeyRec) (s : State) : ((Act.keys key r).apply s).alm = s.alm := rfl
@[simp] theorem Act.keys_power (key : Nat) (r : KeyRec) (s : State) : ((Act.keys key r).apply s).power = s.power := rfl
@[simp] theorem Act.keys_pairs (key : Nat) (r : KeyRec) (s : State) : ((Act.keys key r).apply s).pairs = s.pairs := rfl
@[simp] theorem Act.keys_tasks (key : Nat) (r : KeyRec) (s : State) : ((Act.keys key r).apply s).tasks = s.tasks := rfl
@[simp] theorem Act.keys_eng (key : Nat) (r : KeyRec) (s : State) : ((Act.keys key r).apply s).eng = s.eng := rfl
@[simp] theorem Act.keys_trace (key : Nat) (r : KeyRec) (s : State) : ((Act.keys key r).apply s).trace = s.trace := rfl
@[simp] theorem Act.keys_sun (key : Nat) (r : KeyRec) (s : State) : ((Act.keys key r).apply s).sun = s.sun := rfl
@[simp] theorem Act.keys_clk (key : Nat) (r : KeyRec) (s : State) : ((Act.keys key r).apply s).clk = s.clk := rfl
@[simp] theorem Act.keys_svc (key : Nat) (r : KeyRec) (s : State) : ((Act.keys key r).apply s).svc = s.svc := rfl
@[simp] theorem Act.keys_tines (key : Nat) (r : KeyRec) (s : State) : ((Act.keys key r).apply s).tines = s.tines := rfl
@[simp] theorem Act.keys_chals (key : Nat) (r : KeyRec) (s : State) : ((Act.keys key r).apply s).chals = s.chals := rfl
@[simp] theorem Act.keys_pending (key : Nat) (r : KeyRec) (s : State) : ((Act.keys key r).apply s).pending = s.pending := rfl
@[simp] theorem Act.keys_rd (key : Nat) (r : KeyRec) (s : State) (f : Fld) (i j l : Nat) : ((Act.keys key r).apply s).rd f i j l = s.rd f i j l := rfl
@[simp] theorem Act.keys_fnr (key : Nat) (r : KeyRec) (s : State) (l : Nat) : ((Act.keys key r).apply s).fnr l = s.fnr l := rfl
@[simp] theorem Act.keys_ringr (key : Nat) (r : KeyRec) (s : State) (l : Nat) : ((Act.keys key r).apply s).ringr l = s.ringr l := rfl
@[simp] theorem Act.keys_lane (key : Nat) (r : KeyRec) (s : State) (l : Nat) : ((Act.keys key r).apply s).lane l = s.lane l := rfl
@[simp] theorem Act.keys_chan (key : Nat) (r : KeyRec) (s : State) (l : Nat) : ((Act.keys key r).apply s).chan l = s.chan l := rfl
@[simp] theorem Act.keys_slot (key : Nat) (r : KeyRec) (s : State) (l : Nat) : ((Act.keys key r).apply s).slot l = s.slot l := rfl
@[simp] theorem Act.keys_gauge (key : Nat) (r : KeyRec) (s : State) (l : Nat) : ((Act.keys key r).apply s).gauge l = s.gauge l := rfl
@[simp] theorem Act.keys_keepLoc (key : Nat) (r : KeyRec) (s : State) (l : Nat) : ((Act.keys key r).apply s).keepLoc l = s.keepLoc l := rfl
@[simp] theorem Act.keys_port (key : Nat) (r : KeyRec) (s : State) (l : Nat) : ((Act.keys key r).apply s).port l = s.port l := rfl
@[simp] theorem Act.keys_bus (key : Nat) (r : KeyRec) (s : State) (l : Nat) : ((Act.keys key r).apply s).bus l = s.bus l := rfl
@[simp] theorem Act.keys_src (key : Nat) (r : KeyRec) (s : State) (l : Nat) : ((Act.keys key r).apply s).src l = s.src l := rfl
@[simp] theorem Act.keys_icv (key : Nat) (r : KeyRec) (s : State) (l : Nat) : ((Act.keys key r).apply s).icv l = s.icv l := rfl
@[simp] theorem Act.keys_fcv (key : Nat) (r : KeyRec) (s : State) (l : Nat) : ((Act.keys key r).apply s).fcv l = s.fcv l := rfl
@[simp] theorem Act.keys_group (key : Nat) (r : KeyRec) (s : State) (l : Nat) : ((Act.keys key r).apply s).group l = s.group l := rfl
@[simp] theorem Act.keys_pair (key : Nat) (r : KeyRec) (s : State) (l : Nat) : ((Act.keys key r).apply s).pair l = s.pair l := rfl
@[simp] theorem Act.keys_task (key : Nat) (r : KeyRec) (s : State) (l : Nat) : ((Act.keys key r).apply s).task l = s.task l := rfl
@[simp] theorem Act.keys_traceRec (key : Nat) (r : KeyRec) (s : State) (l : Nat) : ((Act.keys key r).apply s).traceRec l = s.traceRec l := rfl
@[simp] theorem Act.keys_tine (key : Nat) (r : KeyRec) (s : State) (l : Nat) : ((Act.keys key r).apply s).tine l = s.tine l := rfl
@[simp] theorem Act.ports_same (key : Nat) (r : PortRec) (s : State) : ((Act.ports key r).apply s).port key = r := by
  simp [Act.apply, State.port, Tab.get_put_same]
theorem Act.ports_ne (key key2 : Nat) (h : key ≠ key2) (r : PortRec) (s : State) : ((Act.ports key r).apply s).port key2 = s.port key2 := by
  simp [Act.apply, State.port, Tab.get_put_ne _ _ _ h]
@[simp] theorem Act.ports_regs (key : Nat) (r : PortRec) (s : State) : ((Act.ports key r).apply s).regs = s.regs := rfl
@[simp] theorem Act.ports_time (key : Nat) (r : PortRec) (s : State) : ((Act.ports key r).apply s).time = s.time := rfl
@[simp] theorem Act.ports_fns (key : Nat) (r : PortRec) (s : State) : ((Act.ports key r).apply s).fns = s.fns := rfl
@[simp] theorem Act.ports_rings (key : Nat) (r : PortRec) (s : State) : ((Act.ports key r).apply s).rings = s.rings := rfl
@[simp] theorem Act.ports_host (key : Nat) (r : PortRec) (s : State) : ((Act.ports key r).apply s).host = s.host := rfl
@[simp] theorem Act.ports_lanes (key : Nat) (r : PortRec) (s : State) : ((Act.ports key r).apply s).lanes = s.lanes := rfl
@[simp] theorem Act.ports_out (key : Nat) (r : PortRec) (s : State) : ((Act.ports key r).apply s).out = s.out := rfl
@[simp] theorem Act.ports_freeCtr (key : Nat) (r : PortRec) (s : State) : ((Act.ports key r).apply s).freeCtr = s.freeCtr := rfl
@[simp] theorem Act.ports_chans (key : Nat) (r : PortRec) (s : State) : ((Act.ports key r).apply s).chans = s.chans := rfl
@[simp] theorem Act.ports_slots (key : Nat) (r : PortRec) (s : State) : ((Act.ports key r).apply s).slots = s.slots := rfl
@[simp] theorem Act.ports_gauges (key : Nat) (r : PortRec) (s : State) : ((Act.ports key r).apply s).gauges = s.gauges := rfl
@[simp] theorem Act.ports_keepLocs (key : Nat) (r : PortRec) (s : State) : ((Act.ports key r).apply s).keepLocs = s.keepLocs := rfl
@[simp] theorem Act.ports_keep (key : Nat) (r : PortRec) (s : State) : ((Act.ports key r).apply s).keep = s.keep := rfl
@[simp] theorem Act.ports_keys (key : Nat) (r : PortRec) (s : State) : ((Act.ports key r).apply s).keys = s.keys := rfl
@[simp] theorem Act.ports_twb (key : Nat) (r : PortRec) (s : State) : ((Act.ports key r).apply s).twb = s.twb := rfl
@[simp] theorem Act.ports_house (key : Nat) (r : PortRec) (s : State) : ((Act.ports key r).apply s).house = s.house := rfl
@[simp] theorem Act.ports_grid (key : Nat) (r : PortRec) (s : State) : ((Act.ports key r).apply s).grid = s.grid := rfl
@[simp] theorem Act.ports_srcs (key : Nat) (r : PortRec) (s : State) : ((Act.ports key r).apply s).srcs = s.srcs := rfl
@[simp] theorem Act.ports_icvs (key : Nat) (r : PortRec) (s : State) : ((Act.ports key r).apply s).icvs = s.icvs := rfl
@[simp] theorem Act.ports_fcvs (key : Nat) (r : PortRec) (s : State) : ((Act.ports key r).apply s).fcvs = s.fcvs := rfl
@[simp] theorem Act.ports_mains (key : Nat) (r : PortRec) (s : State) : ((Act.ports key r).apply s).mains = s.mains := rfl
@[simp] theorem Act.ports_pendZ (key : Nat) (r : PortRec) (s : State) : ((Act.ports key r).apply s).pendZ = s.pendZ := rfl
@[simp] theorem Act.ports_groups (key : Nat) (r : PortRec) (s : State) : ((Act.ports key r).apply s).groups = s.groups := rfl
@[simp] theorem Act.ports_alm (key : Nat) (r : PortRec) (s : State) : ((Act.ports key r).apply s).alm = s.alm := rfl
@[simp] theorem Act.ports_power (key : Nat) (r : PortRec) (s : State) : ((Act.ports key r).apply s).power = s.power := rfl
@[simp] theorem Act.ports_pairs (key : Nat) (r : PortRec) (s : State) : ((Act.ports key r).apply s).pairs = s.pairs := rfl
@[simp] theorem Act.ports_tasks (key : Nat) (r : PortRec) (s : State) : ((Act.ports key r).apply s).tasks = s.tasks := rfl
@[simp] theorem Act.ports_eng (key : Nat) (r : PortRec) (s : State) : ((Act.ports key r).apply s).eng = s.eng := rfl
@[simp] theorem Act.ports_trace (key : Nat) (r : PortRec) (s : State) : ((Act.ports key r).apply s).trace = s.trace := rfl
@[simp] theorem Act.ports_sun (key : Nat) (r : PortRec) (s : State) : ((Act.ports key r).apply s).sun = s.sun := rfl
@[simp] theorem Act.ports_clk (key : Nat) (r : PortRec) (s : State) : ((Act.ports key r).apply s).clk = s.clk := rfl
@[simp] theorem Act.ports_svc (key : Nat) (r : PortRec) (s : State) : ((Act.ports key r).apply s).svc = s.svc := rfl
@[simp] theorem Act.ports_tines (key : Nat) (r : PortRec) (s : State) : ((Act.ports key r).apply s).tines = s.tines := rfl
@[simp] theorem Act.ports_chals (key : Nat) (r : PortRec) (s : State) : ((Act.ports key r).apply s).chals = s.chals := rfl
@[simp] theorem Act.ports_pending (key : Nat) (r : PortRec) (s : State) : ((Act.ports key r).apply s).pending = s.pending := rfl
@[simp] theorem Act.ports_rd (key : Nat) (r : PortRec) (s : State) (f : Fld) (i j l : Nat) : ((Act.ports key r).apply s).rd f i j l = s.rd f i j l := rfl
@[simp] theorem Act.ports_fnr (key : Nat) (r : PortRec) (s : State) (l : Nat) : ((Act.ports key r).apply s).fnr l = s.fnr l := rfl
@[simp] theorem Act.ports_ringr (key : Nat) (r : PortRec) (s : State) (l : Nat) : ((Act.ports key r).apply s).ringr l = s.ringr l := rfl
@[simp] theorem Act.ports_lane (key : Nat) (r : PortRec) (s : State) (l : Nat) : ((Act.ports key r).apply s).lane l = s.lane l := rfl
@[simp] theorem Act.ports_chan (key : Nat) (r : PortRec) (s : State) (l : Nat) : ((Act.ports key r).apply s).chan l = s.chan l := rfl
@[simp] theorem Act.ports_slot (key : Nat) (r : PortRec) (s : State) (l : Nat) : ((Act.ports key r).apply s).slot l = s.slot l := rfl
@[simp] theorem Act.ports_gauge (key : Nat) (r : PortRec) (s : State) (l : Nat) : ((Act.ports key r).apply s).gauge l = s.gauge l := rfl
@[simp] theorem Act.ports_keepLoc (key : Nat) (r : PortRec) (s : State) (l : Nat) : ((Act.ports key r).apply s).keepLoc l = s.keepLoc l := rfl
@[simp] theorem Act.ports_keyr (key : Nat) (r : PortRec) (s : State) (l : Nat) : ((Act.ports key r).apply s).keyr l = s.keyr l := rfl
@[simp] theorem Act.ports_bus (key : Nat) (r : PortRec) (s : State) (l : Nat) : ((Act.ports key r).apply s).bus l = s.bus l := rfl
@[simp] theorem Act.ports_src (key : Nat) (r : PortRec) (s : State) (l : Nat) : ((Act.ports key r).apply s).src l = s.src l := rfl
@[simp] theorem Act.ports_icv (key : Nat) (r : PortRec) (s : State) (l : Nat) : ((Act.ports key r).apply s).icv l = s.icv l := rfl
@[simp] theorem Act.ports_fcv (key : Nat) (r : PortRec) (s : State) (l : Nat) : ((Act.ports key r).apply s).fcv l = s.fcv l := rfl
@[simp] theorem Act.ports_group (key : Nat) (r : PortRec) (s : State) (l : Nat) : ((Act.ports key r).apply s).group l = s.group l := rfl
@[simp] theorem Act.ports_pair (key : Nat) (r : PortRec) (s : State) (l : Nat) : ((Act.ports key r).apply s).pair l = s.pair l := rfl
@[simp] theorem Act.ports_task (key : Nat) (r : PortRec) (s : State) (l : Nat) : ((Act.ports key r).apply s).task l = s.task l := rfl
@[simp] theorem Act.ports_traceRec (key : Nat) (r : PortRec) (s : State) (l : Nat) : ((Act.ports key r).apply s).traceRec l = s.traceRec l := rfl
@[simp] theorem Act.ports_tine (key : Nat) (r : PortRec) (s : State) (l : Nat) : ((Act.ports key r).apply s).tine l = s.tine l := rfl
@[simp] theorem Act.twb_same (key : Nat) (r : BusRec) (s : State) : ((Act.twb key r).apply s).bus key = r := by
  simp [Act.apply, State.bus, Tab.get_put_same]
theorem Act.twb_ne (key key2 : Nat) (h : key ≠ key2) (r : BusRec) (s : State) : ((Act.twb key r).apply s).bus key2 = s.bus key2 := by
  simp [Act.apply, State.bus, Tab.get_put_ne _ _ _ h]
@[simp] theorem Act.twb_regs (key : Nat) (r : BusRec) (s : State) : ((Act.twb key r).apply s).regs = s.regs := rfl
@[simp] theorem Act.twb_time (key : Nat) (r : BusRec) (s : State) : ((Act.twb key r).apply s).time = s.time := rfl
@[simp] theorem Act.twb_fns (key : Nat) (r : BusRec) (s : State) : ((Act.twb key r).apply s).fns = s.fns := rfl
@[simp] theorem Act.twb_rings (key : Nat) (r : BusRec) (s : State) : ((Act.twb key r).apply s).rings = s.rings := rfl
@[simp] theorem Act.twb_host (key : Nat) (r : BusRec) (s : State) : ((Act.twb key r).apply s).host = s.host := rfl
@[simp] theorem Act.twb_lanes (key : Nat) (r : BusRec) (s : State) : ((Act.twb key r).apply s).lanes = s.lanes := rfl
@[simp] theorem Act.twb_out (key : Nat) (r : BusRec) (s : State) : ((Act.twb key r).apply s).out = s.out := rfl
@[simp] theorem Act.twb_freeCtr (key : Nat) (r : BusRec) (s : State) : ((Act.twb key r).apply s).freeCtr = s.freeCtr := rfl
@[simp] theorem Act.twb_chans (key : Nat) (r : BusRec) (s : State) : ((Act.twb key r).apply s).chans = s.chans := rfl
@[simp] theorem Act.twb_slots (key : Nat) (r : BusRec) (s : State) : ((Act.twb key r).apply s).slots = s.slots := rfl
@[simp] theorem Act.twb_gauges (key : Nat) (r : BusRec) (s : State) : ((Act.twb key r).apply s).gauges = s.gauges := rfl
@[simp] theorem Act.twb_keepLocs (key : Nat) (r : BusRec) (s : State) : ((Act.twb key r).apply s).keepLocs = s.keepLocs := rfl
@[simp] theorem Act.twb_keep (key : Nat) (r : BusRec) (s : State) : ((Act.twb key r).apply s).keep = s.keep := rfl
@[simp] theorem Act.twb_keys (key : Nat) (r : BusRec) (s : State) : ((Act.twb key r).apply s).keys = s.keys := rfl
@[simp] theorem Act.twb_ports (key : Nat) (r : BusRec) (s : State) : ((Act.twb key r).apply s).ports = s.ports := rfl
@[simp] theorem Act.twb_house (key : Nat) (r : BusRec) (s : State) : ((Act.twb key r).apply s).house = s.house := rfl
@[simp] theorem Act.twb_grid (key : Nat) (r : BusRec) (s : State) : ((Act.twb key r).apply s).grid = s.grid := rfl
@[simp] theorem Act.twb_srcs (key : Nat) (r : BusRec) (s : State) : ((Act.twb key r).apply s).srcs = s.srcs := rfl
@[simp] theorem Act.twb_icvs (key : Nat) (r : BusRec) (s : State) : ((Act.twb key r).apply s).icvs = s.icvs := rfl
@[simp] theorem Act.twb_fcvs (key : Nat) (r : BusRec) (s : State) : ((Act.twb key r).apply s).fcvs = s.fcvs := rfl
@[simp] theorem Act.twb_mains (key : Nat) (r : BusRec) (s : State) : ((Act.twb key r).apply s).mains = s.mains := rfl
@[simp] theorem Act.twb_pendZ (key : Nat) (r : BusRec) (s : State) : ((Act.twb key r).apply s).pendZ = s.pendZ := rfl
@[simp] theorem Act.twb_groups (key : Nat) (r : BusRec) (s : State) : ((Act.twb key r).apply s).groups = s.groups := rfl
@[simp] theorem Act.twb_alm (key : Nat) (r : BusRec) (s : State) : ((Act.twb key r).apply s).alm = s.alm := rfl
@[simp] theorem Act.twb_power (key : Nat) (r : BusRec) (s : State) : ((Act.twb key r).apply s).power = s.power := rfl
@[simp] theorem Act.twb_pairs (key : Nat) (r : BusRec) (s : State) : ((Act.twb key r).apply s).pairs = s.pairs := rfl
@[simp] theorem Act.twb_tasks (key : Nat) (r : BusRec) (s : State) : ((Act.twb key r).apply s).tasks = s.tasks := rfl
@[simp] theorem Act.twb_eng (key : Nat) (r : BusRec) (s : State) : ((Act.twb key r).apply s).eng = s.eng := rfl
@[simp] theorem Act.twb_trace (key : Nat) (r : BusRec) (s : State) : ((Act.twb key r).apply s).trace = s.trace := rfl
@[simp] theorem Act.twb_sun (key : Nat) (r : BusRec) (s : State) : ((Act.twb key r).apply s).sun = s.sun := rfl
@[simp] theorem Act.twb_clk (key : Nat) (r : BusRec) (s : State) : ((Act.twb key r).apply s).clk = s.clk := rfl
@[simp] theorem Act.twb_svc (key : Nat) (r : BusRec) (s : State) : ((Act.twb key r).apply s).svc = s.svc := rfl
@[simp] theorem Act.twb_tines (key : Nat) (r : BusRec) (s : State) : ((Act.twb key r).apply s).tines = s.tines := rfl
@[simp] theorem Act.twb_chals (key : Nat) (r : BusRec) (s : State) : ((Act.twb key r).apply s).chals = s.chals := rfl
@[simp] theorem Act.twb_pending (key : Nat) (r : BusRec) (s : State) : ((Act.twb key r).apply s).pending = s.pending := rfl
@[simp] theorem Act.twb_rd (key : Nat) (r : BusRec) (s : State) (f : Fld) (i j l : Nat) : ((Act.twb key r).apply s).rd f i j l = s.rd f i j l := rfl
@[simp] theorem Act.twb_fnr (key : Nat) (r : BusRec) (s : State) (l : Nat) : ((Act.twb key r).apply s).fnr l = s.fnr l := rfl
@[simp] theorem Act.twb_ringr (key : Nat) (r : BusRec) (s : State) (l : Nat) : ((Act.twb key r).apply s).ringr l = s.ringr l := rfl
@[simp] theorem Act.twb_lane (key : Nat) (r : BusRec) (s : State) (l : Nat) : ((Act.twb key r).apply s).lane l = s.lane l := rfl
@[simp] theorem Act.twb_chan (key : Nat) (r : BusRec) (s : State) (l : Nat) : ((Act.twb key r).apply s).chan l = s.chan l := rfl
@[simp] theorem Act.twb_slot (key : Nat) (r : BusRec) (s : State) (l : Nat) : ((Act.twb key r).apply s).slot l = s.slot l := rfl
@[simp] theorem Act.twb_gauge (key : Nat) (r : BusRec) (s : State) (l : Nat) : ((Act.twb key r).apply s).gauge l = s.gauge l := rfl
@[simp] theorem Act.twb_keepLoc (key : Nat) (r : BusRec) (s : State) (l : Nat) : ((Act.twb key r).apply s).keepLoc l = s.keepLoc l := rfl
@[simp] theorem Act.twb_keyr (key : Nat) (r : BusRec) (s : State) (l : Nat) : ((Act.twb key r).apply s).keyr l = s.keyr l := rfl
@[simp] theorem Act.twb_port (key : Nat) (r : BusRec) (s : State) (l : Nat) : ((Act.twb key r).apply s).port l = s.port l := rfl
@[simp] theorem Act.twb_src (key : Nat) (r : BusRec) (s : State) (l : Nat) : ((Act.twb key r).apply s).src l = s.src l := rfl
@[simp] theorem Act.twb_icv (key : Nat) (r : BusRec) (s : State) (l : Nat) : ((Act.twb key r).apply s).icv l = s.icv l := rfl
@[simp] theorem Act.twb_fcv (key : Nat) (r : BusRec) (s : State) (l : Nat) : ((Act.twb key r).apply s).fcv l = s.fcv l := rfl
@[simp] theorem Act.twb_group (key : Nat) (r : BusRec) (s : State) (l : Nat) : ((Act.twb key r).apply s).group l = s.group l := rfl
@[simp] theorem Act.twb_pair (key : Nat) (r : BusRec) (s : State) (l : Nat) : ((Act.twb key r).apply s).pair l = s.pair l := rfl
@[simp] theorem Act.twb_task (key : Nat) (r : BusRec) (s : State) (l : Nat) : ((Act.twb key r).apply s).task l = s.task l := rfl
@[simp] theorem Act.twb_traceRec (key : Nat) (r : BusRec) (s : State) (l : Nat) : ((Act.twb key r).apply s).traceRec l = s.traceRec l := rfl
@[simp] theorem Act.twb_tine (key : Nat) (r : BusRec) (s : State) (l : Nat) : ((Act.twb key r).apply s).tine l = s.tine l := rfl
@[simp] theorem Act.house_same (r : HouseRec) (s : State) : ((Act.house r).apply s).house = r := rfl
@[simp] theorem Act.house_regs (r : HouseRec) (s : State) : ((Act.house r).apply s).regs = s.regs := rfl
@[simp] theorem Act.house_time (r : HouseRec) (s : State) : ((Act.house r).apply s).time = s.time := rfl
@[simp] theorem Act.house_fns (r : HouseRec) (s : State) : ((Act.house r).apply s).fns = s.fns := rfl
@[simp] theorem Act.house_rings (r : HouseRec) (s : State) : ((Act.house r).apply s).rings = s.rings := rfl
@[simp] theorem Act.house_host (r : HouseRec) (s : State) : ((Act.house r).apply s).host = s.host := rfl
@[simp] theorem Act.house_lanes (r : HouseRec) (s : State) : ((Act.house r).apply s).lanes = s.lanes := rfl
@[simp] theorem Act.house_out (r : HouseRec) (s : State) : ((Act.house r).apply s).out = s.out := rfl
@[simp] theorem Act.house_freeCtr (r : HouseRec) (s : State) : ((Act.house r).apply s).freeCtr = s.freeCtr := rfl
@[simp] theorem Act.house_chans (r : HouseRec) (s : State) : ((Act.house r).apply s).chans = s.chans := rfl
@[simp] theorem Act.house_slots (r : HouseRec) (s : State) : ((Act.house r).apply s).slots = s.slots := rfl
@[simp] theorem Act.house_gauges (r : HouseRec) (s : State) : ((Act.house r).apply s).gauges = s.gauges := rfl
@[simp] theorem Act.house_keepLocs (r : HouseRec) (s : State) : ((Act.house r).apply s).keepLocs = s.keepLocs := rfl
@[simp] theorem Act.house_keep (r : HouseRec) (s : State) : ((Act.house r).apply s).keep = s.keep := rfl
@[simp] theorem Act.house_keys (r : HouseRec) (s : State) : ((Act.house r).apply s).keys = s.keys := rfl
@[simp] theorem Act.house_ports (r : HouseRec) (s : State) : ((Act.house r).apply s).ports = s.ports := rfl
@[simp] theorem Act.house_twb (r : HouseRec) (s : State) : ((Act.house r).apply s).twb = s.twb := rfl
@[simp] theorem Act.house_grid (r : HouseRec) (s : State) : ((Act.house r).apply s).grid = s.grid := rfl
@[simp] theorem Act.house_srcs (r : HouseRec) (s : State) : ((Act.house r).apply s).srcs = s.srcs := rfl
@[simp] theorem Act.house_icvs (r : HouseRec) (s : State) : ((Act.house r).apply s).icvs = s.icvs := rfl
@[simp] theorem Act.house_fcvs (r : HouseRec) (s : State) : ((Act.house r).apply s).fcvs = s.fcvs := rfl
@[simp] theorem Act.house_mains (r : HouseRec) (s : State) : ((Act.house r).apply s).mains = s.mains := rfl
@[simp] theorem Act.house_pendZ (r : HouseRec) (s : State) : ((Act.house r).apply s).pendZ = s.pendZ := rfl
@[simp] theorem Act.house_groups (r : HouseRec) (s : State) : ((Act.house r).apply s).groups = s.groups := rfl
@[simp] theorem Act.house_alm (r : HouseRec) (s : State) : ((Act.house r).apply s).alm = s.alm := rfl
@[simp] theorem Act.house_power (r : HouseRec) (s : State) : ((Act.house r).apply s).power = s.power := rfl
@[simp] theorem Act.house_pairs (r : HouseRec) (s : State) : ((Act.house r).apply s).pairs = s.pairs := rfl
@[simp] theorem Act.house_tasks (r : HouseRec) (s : State) : ((Act.house r).apply s).tasks = s.tasks := rfl
@[simp] theorem Act.house_eng (r : HouseRec) (s : State) : ((Act.house r).apply s).eng = s.eng := rfl
@[simp] theorem Act.house_trace (r : HouseRec) (s : State) : ((Act.house r).apply s).trace = s.trace := rfl
@[simp] theorem Act.house_sun (r : HouseRec) (s : State) : ((Act.house r).apply s).sun = s.sun := rfl
@[simp] theorem Act.house_clk (r : HouseRec) (s : State) : ((Act.house r).apply s).clk = s.clk := rfl
@[simp] theorem Act.house_svc (r : HouseRec) (s : State) : ((Act.house r).apply s).svc = s.svc := rfl
@[simp] theorem Act.house_tines (r : HouseRec) (s : State) : ((Act.house r).apply s).tines = s.tines := rfl
@[simp] theorem Act.house_chals (r : HouseRec) (s : State) : ((Act.house r).apply s).chals = s.chals := rfl
@[simp] theorem Act.house_pending (r : HouseRec) (s : State) : ((Act.house r).apply s).pending = s.pending := rfl
@[simp] theorem Act.house_rd (r : HouseRec) (s : State) (f : Fld) (i j l : Nat) : ((Act.house r).apply s).rd f i j l = s.rd f i j l := rfl
@[simp] theorem Act.house_fnr (r : HouseRec) (s : State) (l : Nat) : ((Act.house r).apply s).fnr l = s.fnr l := rfl
@[simp] theorem Act.house_ringr (r : HouseRec) (s : State) (l : Nat) : ((Act.house r).apply s).ringr l = s.ringr l := rfl
@[simp] theorem Act.house_lane (r : HouseRec) (s : State) (l : Nat) : ((Act.house r).apply s).lane l = s.lane l := rfl
@[simp] theorem Act.house_chan (r : HouseRec) (s : State) (l : Nat) : ((Act.house r).apply s).chan l = s.chan l := rfl
@[simp] theorem Act.house_slot (r : HouseRec) (s : State) (l : Nat) : ((Act.house r).apply s).slot l = s.slot l := rfl
@[simp] theorem Act.house_gauge (r : HouseRec) (s : State) (l : Nat) : ((Act.house r).apply s).gauge l = s.gauge l := rfl
@[simp] theorem Act.house_keepLoc (r : HouseRec) (s : State) (l : Nat) : ((Act.house r).apply s).keepLoc l = s.keepLoc l := rfl
@[simp] theorem Act.house_keyr (r : HouseRec) (s : State) (l : Nat) : ((Act.house r).apply s).keyr l = s.keyr l := rfl
@[simp] theorem Act.house_port (r : HouseRec) (s : State) (l : Nat) : ((Act.house r).apply s).port l = s.port l := rfl
@[simp] theorem Act.house_bus (r : HouseRec) (s : State) (l : Nat) : ((Act.house r).apply s).bus l = s.bus l := rfl
@[simp] theorem Act.house_src (r : HouseRec) (s : State) (l : Nat) : ((Act.house r).apply s).src l = s.src l := rfl
@[simp] theorem Act.house_icv (r : HouseRec) (s : State) (l : Nat) : ((Act.house r).apply s).icv l = s.icv l := rfl
@[simp] theorem Act.house_fcv (r : HouseRec) (s : State) (l : Nat) : ((Act.house r).apply s).fcv l = s.fcv l := rfl
@[simp] theorem Act.house_group (r : HouseRec) (s : State) (l : Nat) : ((Act.house r).apply s).group l = s.group l := rfl
@[simp] theorem Act.house_pair (r : HouseRec) (s : State) (l : Nat) : ((Act.house r).apply s).pair l = s.pair l := rfl
@[simp] theorem Act.house_task (r : HouseRec) (s : State) (l : Nat) : ((Act.house r).apply s).task l = s.task l := rfl
@[simp] theorem Act.house_traceRec (r : HouseRec) (s : State) (l : Nat) : ((Act.house r).apply s).traceRec l = s.traceRec l := rfl
@[simp] theorem Act.house_tine (r : HouseRec) (s : State) (l : Nat) : ((Act.house r).apply s).tine l = s.tine l := rfl
@[simp] theorem Act.grid_same (r : GridRec) (s : State) : ((Act.grid r).apply s).grid = r := rfl
@[simp] theorem Act.grid_regs (r : GridRec) (s : State) : ((Act.grid r).apply s).regs = s.regs := rfl
@[simp] theorem Act.grid_time (r : GridRec) (s : State) : ((Act.grid r).apply s).time = s.time := rfl
@[simp] theorem Act.grid_fns (r : GridRec) (s : State) : ((Act.grid r).apply s).fns = s.fns := rfl
@[simp] theorem Act.grid_rings (r : GridRec) (s : State) : ((Act.grid r).apply s).rings = s.rings := rfl
@[simp] theorem Act.grid_host (r : GridRec) (s : State) : ((Act.grid r).apply s).host = s.host := rfl
@[simp] theorem Act.grid_lanes (r : GridRec) (s : State) : ((Act.grid r).apply s).lanes = s.lanes := rfl
@[simp] theorem Act.grid_out (r : GridRec) (s : State) : ((Act.grid r).apply s).out = s.out := rfl
@[simp] theorem Act.grid_freeCtr (r : GridRec) (s : State) : ((Act.grid r).apply s).freeCtr = s.freeCtr := rfl
@[simp] theorem Act.grid_chans (r : GridRec) (s : State) : ((Act.grid r).apply s).chans = s.chans := rfl
@[simp] theorem Act.grid_slots (r : GridRec) (s : State) : ((Act.grid r).apply s).slots = s.slots := rfl
@[simp] theorem Act.grid_gauges (r : GridRec) (s : State) : ((Act.grid r).apply s).gauges = s.gauges := rfl
@[simp] theorem Act.grid_keepLocs (r : GridRec) (s : State) : ((Act.grid r).apply s).keepLocs = s.keepLocs := rfl
@[simp] theorem Act.grid_keep (r : GridRec) (s : State) : ((Act.grid r).apply s).keep = s.keep := rfl
@[simp] theorem Act.grid_keys (r : GridRec) (s : State) : ((Act.grid r).apply s).keys = s.keys := rfl
@[simp] theorem Act.grid_ports (r : GridRec) (s : State) : ((Act.grid r).apply s).ports = s.ports := rfl
@[simp] theorem Act.grid_twb (r : GridRec) (s : State) : ((Act.grid r).apply s).twb = s.twb := rfl
@[simp] theorem Act.grid_house (r : GridRec) (s : State) : ((Act.grid r).apply s).house = s.house := rfl
@[simp] theorem Act.grid_srcs (r : GridRec) (s : State) : ((Act.grid r).apply s).srcs = s.srcs := rfl
@[simp] theorem Act.grid_icvs (r : GridRec) (s : State) : ((Act.grid r).apply s).icvs = s.icvs := rfl
@[simp] theorem Act.grid_fcvs (r : GridRec) (s : State) : ((Act.grid r).apply s).fcvs = s.fcvs := rfl
@[simp] theorem Act.grid_mains (r : GridRec) (s : State) : ((Act.grid r).apply s).mains = s.mains := rfl
@[simp] theorem Act.grid_pendZ (r : GridRec) (s : State) : ((Act.grid r).apply s).pendZ = s.pendZ := rfl
@[simp] theorem Act.grid_groups (r : GridRec) (s : State) : ((Act.grid r).apply s).groups = s.groups := rfl
@[simp] theorem Act.grid_alm (r : GridRec) (s : State) : ((Act.grid r).apply s).alm = s.alm := rfl
@[simp] theorem Act.grid_power (r : GridRec) (s : State) : ((Act.grid r).apply s).power = s.power := rfl
@[simp] theorem Act.grid_pairs (r : GridRec) (s : State) : ((Act.grid r).apply s).pairs = s.pairs := rfl
@[simp] theorem Act.grid_tasks (r : GridRec) (s : State) : ((Act.grid r).apply s).tasks = s.tasks := rfl
@[simp] theorem Act.grid_eng (r : GridRec) (s : State) : ((Act.grid r).apply s).eng = s.eng := rfl
@[simp] theorem Act.grid_trace (r : GridRec) (s : State) : ((Act.grid r).apply s).trace = s.trace := rfl
@[simp] theorem Act.grid_sun (r : GridRec) (s : State) : ((Act.grid r).apply s).sun = s.sun := rfl
@[simp] theorem Act.grid_clk (r : GridRec) (s : State) : ((Act.grid r).apply s).clk = s.clk := rfl
@[simp] theorem Act.grid_svc (r : GridRec) (s : State) : ((Act.grid r).apply s).svc = s.svc := rfl
@[simp] theorem Act.grid_tines (r : GridRec) (s : State) : ((Act.grid r).apply s).tines = s.tines := rfl
@[simp] theorem Act.grid_chals (r : GridRec) (s : State) : ((Act.grid r).apply s).chals = s.chals := rfl
@[simp] theorem Act.grid_pending (r : GridRec) (s : State) : ((Act.grid r).apply s).pending = s.pending := rfl
@[simp] theorem Act.grid_rd (r : GridRec) (s : State) (f : Fld) (i j l : Nat) : ((Act.grid r).apply s).rd f i j l = s.rd f i j l := rfl
@[simp] theorem Act.grid_fnr (r : GridRec) (s : State) (l : Nat) : ((Act.grid r).apply s).fnr l = s.fnr l := rfl
@[simp] theorem Act.grid_ringr (r : GridRec) (s : State) (l : Nat) : ((Act.grid r).apply s).ringr l = s.ringr l := rfl
@[simp] theorem Act.grid_lane (r : GridRec) (s : State) (l : Nat) : ((Act.grid r).apply s).lane l = s.lane l := rfl
@[simp] theorem Act.grid_chan (r : GridRec) (s : State) (l : Nat) : ((Act.grid r).apply s).chan l = s.chan l := rfl
@[simp] theorem Act.grid_slot (r : GridRec) (s : State) (l : Nat) : ((Act.grid r).apply s).slot l = s.slot l := rfl
@[simp] theorem Act.grid_gauge (r : GridRec) (s : State) (l : Nat) : ((Act.grid r).apply s).gauge l = s.gauge l := rfl
@[simp] theorem Act.grid_keepLoc (r : GridRec) (s : State) (l : Nat) : ((Act.grid r).apply s).keepLoc l = s.keepLoc l := rfl
@[simp] theorem Act.grid_keyr (r : GridRec) (s : State) (l : Nat) : ((Act.grid r).apply s).keyr l = s.keyr l := rfl
@[simp] theorem Act.grid_port (r : GridRec) (s : State) (l : Nat) : ((Act.grid r).apply s).port l = s.port l := rfl
@[simp] theorem Act.grid_bus (r : GridRec) (s : State) (l : Nat) : ((Act.grid r).apply s).bus l = s.bus l := rfl
@[simp] theorem Act.grid_src (r : GridRec) (s : State) (l : Nat) : ((Act.grid r).apply s).src l = s.src l := rfl
@[simp] theorem Act.grid_icv (r : GridRec) (s : State) (l : Nat) : ((Act.grid r).apply s).icv l = s.icv l := rfl
@[simp] theorem Act.grid_fcv (r : GridRec) (s : State) (l : Nat) : ((Act.grid r).apply s).fcv l = s.fcv l := rfl
@[simp] theorem Act.grid_group (r : GridRec) (s : State) (l : Nat) : ((Act.grid r).apply s).group l = s.group l := rfl
@[simp] theorem Act.grid_pair (r : GridRec) (s : State) (l : Nat) : ((Act.grid r).apply s).pair l = s.pair l := rfl
@[simp] theorem Act.grid_task (r : GridRec) (s : State) (l : Nat) : ((Act.grid r).apply s).task l = s.task l := rfl
@[simp] theorem Act.grid_traceRec (r : GridRec) (s : State) (l : Nat) : ((Act.grid r).apply s).traceRec l = s.traceRec l := rfl
@[simp] theorem Act.grid_tine (r : GridRec) (s : State) (l : Nat) : ((Act.grid r).apply s).tine l = s.tine l := rfl
@[simp] theorem Act.srcs_same (key : Nat) (r : SrcRec) (s : State) : ((Act.srcs key r).apply s).src key = r := by
  simp [Act.apply, State.src, Tab.get_put_same]
theorem Act.srcs_ne (key key2 : Nat) (h : key ≠ key2) (r : SrcRec) (s : State) : ((Act.srcs key r).apply s).src key2 = s.src key2 := by
  simp [Act.apply, State.src, Tab.get_put_ne _ _ _ h]
@[simp] theorem Act.srcs_regs (key : Nat) (r : SrcRec) (s : State) : ((Act.srcs key r).apply s).regs = s.regs := rfl
@[simp] theorem Act.srcs_time (key : Nat) (r : SrcRec) (s : State) : ((Act.srcs key r).apply s).time = s.time := rfl
@[simp] theorem Act.srcs_fns (key : Nat) (r : SrcRec) (s : State) : ((Act.srcs key r).apply s).fns = s.fns := rfl
@[simp] theorem Act.srcs_rings (key : Nat) (r : SrcRec) (s : State) : ((Act.srcs key r).apply s).rings = s.rings := rfl
@[simp] theorem Act.srcs_host (key : Nat) (r : SrcRec) (s : State) : ((Act.srcs key r).apply s).host = s.host := rfl
@[simp] theorem Act.srcs_lanes (key : Nat) (r : SrcRec) (s : State) : ((Act.srcs key r).apply s).lanes = s.lanes := rfl
@[simp] theorem Act.srcs_out (key : Nat) (r : SrcRec) (s : State) : ((Act.srcs key r).apply s).out = s.out := rfl
@[simp] theorem Act.srcs_freeCtr (key : Nat) (r : SrcRec) (s : State) : ((Act.srcs key r).apply s).freeCtr = s.freeCtr := rfl
@[simp] theorem Act.srcs_chans (key : Nat) (r : SrcRec) (s : State) : ((Act.srcs key r).apply s).chans = s.chans := rfl
@[simp] theorem Act.srcs_slots (key : Nat) (r : SrcRec) (s : State) : ((Act.srcs key r).apply s).slots = s.slots := rfl
@[simp] theorem Act.srcs_gauges (key : Nat) (r : SrcRec) (s : State) : ((Act.srcs key r).apply s).gauges = s.gauges := rfl
@[simp] theorem Act.srcs_keepLocs (key : Nat) (r : SrcRec) (s : State) : ((Act.srcs key r).apply s).keepLocs = s.keepLocs := rfl
@[simp] theorem Act.srcs_keep (key : Nat) (r : SrcRec) (s : State) : ((Act.srcs key r).apply s).keep = s.keep := rfl
@[simp] theorem Act.srcs_keys (key : Nat) (r : SrcRec) (s : State) : ((Act.srcs key r).apply s).keys = s.keys := rfl
@[simp] theorem Act.srcs_ports (key : Nat) (r : SrcRec) (s : State) : ((Act.srcs key r).apply s).ports = s.ports := rfl
@[simp] theorem Act.srcs_twb (key : Nat) (r : SrcRec) (s : State) : ((Act.srcs key r).apply s).twb = s.twb := rfl
@[simp] theorem Act.srcs_house (key : Nat) (r : SrcRec) (s : State) : ((Act.srcs key r).apply s).house = s.house := rfl
@[simp] theorem Act.srcs_grid (key : Nat) (r : SrcRec) (s : State) : ((Act.srcs key r).apply s).grid = s.grid := rfl
@[simp] theorem Act.srcs_icvs (key : Nat) (r : SrcRec) (s : State) : ((Act.srcs key r).apply s).icvs = s.icvs := rfl
@[simp] theorem Act.srcs_fcvs (key : Nat) (r : SrcRec) (s : State) : ((Act.srcs key r).apply s).fcvs = s.fcvs := rfl
@[simp] theorem Act.srcs_mains (key : Nat) (r : SrcRec) (s : State) : ((Act.srcs key r).apply s).mains = s.mains := rfl
@[simp] theorem Act.srcs_pendZ (key : Nat) (r : SrcRec) (s : State) : ((Act.srcs key r).apply s).pendZ = s.pendZ := rfl
@[simp] theorem Act.srcs_groups (key : Nat) (r : SrcRec) (s : State) : ((Act.srcs key r).apply s).groups = s.groups := rfl
@[simp] theorem Act.srcs_alm (key : Nat) (r : SrcRec) (s : State) : ((Act.srcs key r).apply s).alm = s.alm := rfl
@[simp] theorem Act.srcs_power (key : Nat) (r : SrcRec) (s : State) : ((Act.srcs key r).apply s).power = s.power := rfl
@[simp] theorem Act.srcs_pairs (key : Nat) (r : SrcRec) (s : State) : ((Act.srcs key r).apply s).pairs = s.pairs := rfl
@[simp] theorem Act.srcs_tasks (key : Nat) (r : SrcRec) (s : State) : ((Act.srcs key r).apply s).tasks = s.tasks := rfl
@[simp] theorem Act.srcs_eng (key : Nat) (r : SrcRec) (s : State) : ((Act.srcs key r).apply s).eng = s.eng := rfl
@[simp] theorem Act.srcs_trace (key : Nat) (r : SrcRec) (s : State) : ((Act.srcs key r).apply s).trace = s.trace := rfl
@[simp] theorem Act.srcs_sun (key : Nat) (r : SrcRec) (s : State) : ((Act.srcs key r).apply s).sun = s.sun := rfl
@[simp] theorem Act.srcs_clk (key : Nat) (r : SrcRec) (s : State) : ((Act.srcs key r).apply s).clk = s.clk := rfl
@[simp] theorem Act.srcs_svc (key : Nat) (r : SrcRec) (s : State) : ((Act.srcs key r).apply s).svc = s.svc := rfl
@[simp] theorem Act.srcs_tines (key : Nat) (r : SrcRec) (s : State) : ((Act.srcs key r).apply s).tines = s.tines := rfl
@[simp] theorem Act.srcs_chals (key : Nat) (r : SrcRec) (s : State) : ((Act.srcs key r).apply s).chals = s.chals := rfl
@[simp] theorem Act.srcs_pending (key : Nat) (r : SrcRec) (s : State) : ((Act.srcs key r).apply s).pending = s.pending := rfl
@[simp] theorem Act.srcs_rd (key : Nat) (r : SrcRec) (s : State) (f : Fld) (i j l : Nat) : ((Act.srcs key r).apply s).rd f i j l = s.rd f i j l := rfl
@[simp] theorem Act.srcs_fnr (key : Nat) (r : SrcRec) (s : State) (l : Nat) : ((Act.srcs key r).apply s).fnr l = s.fnr l := rfl
@[simp] theorem Act.srcs_ringr (key : Nat) (r : SrcRec) (s : State) (l : Nat) : ((Act.srcs key r).apply s).ringr l = s.ringr l := rfl
@[simp] theorem Act.srcs_lane (key : Nat) (r : SrcRec) (s : State) (l : Nat) : ((Act.srcs key r).apply s).lane l = s.lane l := rfl
@[simp] theorem Act.srcs_chan (key : Nat) (r : SrcRec) (s : State) (l : Nat) : ((Act.srcs key r).apply s).chan l = s.chan l := rfl
@[simp] theorem Act.srcs_slot (key : Nat) (r : SrcRec) (s : State) (l : Nat) : ((Act.srcs key r).apply s).slot l = s.slot l := rfl
@[simp] theorem Act.srcs_gauge (key : Nat) (r : SrcRec) (s : State) (l : Nat) : ((Act.srcs key r).apply s).gauge l = s.gauge l := rfl
@[simp] theorem Act.srcs_keepLoc (key : Nat) (r : SrcRec) (s : State) (l : Nat) : ((Act.srcs key r).apply s).keepLoc l = s.keepLoc l := rfl
@[simp] theorem Act.srcs_keyr (key : Nat) (r : SrcRec) (s : State) (l : Nat) : ((Act.srcs key r).apply s).keyr l = s.keyr l := rfl
@[simp] theorem Act.srcs_port (key : Nat) (r : SrcRec) (s : State) (l : Nat) : ((Act.srcs key r).apply s).port l = s.port l := rfl
@[simp] theorem Act.srcs_bus (key : Nat) (r : SrcRec) (s : State) (l : Nat) : ((Act.srcs key r).apply s).bus l = s.bus l := rfl
@[simp] theorem Act.srcs_icv (key : Nat) (r : SrcRec) (s : State) (l : Nat) : ((Act.srcs key r).apply s).icv l = s.icv l := rfl
@[simp] theorem Act.srcs_fcv (key : Nat) (r : SrcRec) (s : State) (l : Nat) : ((Act.srcs key r).apply s).fcv l = s.fcv l := rfl
@[simp] theorem Act.srcs_group (key : Nat) (r : SrcRec) (s : State) (l : Nat) : ((Act.srcs key r).apply s).group l = s.group l := rfl
@[simp] theorem Act.srcs_pair (key : Nat) (r : SrcRec) (s : State) (l : Nat) : ((Act.srcs key r).apply s).pair l = s.pair l := rfl
@[simp] theorem Act.srcs_task (key : Nat) (r : SrcRec) (s : State) (l : Nat) : ((Act.srcs key r).apply s).task l = s.task l := rfl
@[simp] theorem Act.srcs_traceRec (key : Nat) (r : SrcRec) (s : State) (l : Nat) : ((Act.srcs key r).apply s).traceRec l = s.traceRec l := rfl
@[simp] theorem Act.srcs_tine (key : Nat) (r : SrcRec) (s : State) (l : Nat) : ((Act.srcs key r).apply s).tine l = s.tine l := rfl
@[simp] theorem Act.icvs_same (key : Nat) (r : IcvRec) (s : State) : ((Act.icvs key r).apply s).icv key = r := by
  simp [Act.apply, State.icv, Tab.get_put_same]
theorem Act.icvs_ne (key key2 : Nat) (h : key ≠ key2) (r : IcvRec) (s : State) : ((Act.icvs key r).apply s).icv key2 = s.icv key2 := by
  simp [Act.apply, State.icv, Tab.get_put_ne _ _ _ h]
@[simp] theorem Act.icvs_regs (key : Nat) (r : IcvRec) (s : State) : ((Act.icvs key r).apply s).regs = s.regs := rfl
@[simp] theorem Act.icvs_time (key : Nat) (r : IcvRec) (s : State) : ((Act.icvs key r).apply s).time = s.time := rfl
@[simp] theorem Act.icvs_fns (key : Nat) (r : IcvRec) (s : State) : ((Act.icvs key r).apply s).fns = s.fns := rfl
@[simp] theorem Act.icvs_rings (key : Nat) (r : IcvRec) (s : State) : ((Act.icvs key r).apply s).rings = s.rings := rfl
@[simp] theorem Act.icvs_host (key : Nat) (r : IcvRec) (s : State) : ((Act.icvs key r).apply s).host = s.host := rfl
@[simp] theorem Act.icvs_lanes (key : Nat) (r : IcvRec) (s : State) : ((Act.icvs key r).apply s).lanes = s.lanes := rfl
@[simp] theorem Act.icvs_out (key : Nat) (r : IcvRec) (s : State) : ((Act.icvs key r).apply s).out = s.out := rfl
@[simp] theorem Act.icvs_freeCtr (key : Nat) (r : IcvRec) (s : State) : ((Act.icvs key r).apply s).freeCtr = s.freeCtr := rfl
@[simp] theorem Act.icvs_chans (key : Nat) (r : IcvRec) (s : State) : ((Act.icvs key r).apply s).chans = s.chans := rfl
@[simp] theorem Act.icvs_slots (key : Nat) (r : IcvRec) (s : State) : ((Act.icvs key r).apply s).slots = s.slots := rfl
@[simp] theorem Act.icvs_gauges (key : Nat) (r : IcvRec) (s : State) : ((Act.icvs key r).apply s).gauges = s.gauges := rfl
@[simp] theorem Act.icvs_keepLocs (key : Nat) (r : IcvRec) (s : State) : ((Act.icvs key r).apply s).keepLocs = s.keepLocs := rfl
@[simp] theorem Act.icvs_keep (key : Nat) (r : IcvRec) (s : State) : ((Act.icvs key r).apply s).keep = s.keep := rfl
@[simp] theorem Act.icvs_keys (key : Nat) (r : IcvRec) (s : State) : ((Act.icvs key r).apply s).keys = s.keys := rfl
@[simp] theorem Act.icvs_ports (key : Nat) (r : IcvRec) (s : State) : ((Act.icvs key r).apply s).ports = s.ports := rfl
@[simp] theorem Act.icvs_twb (key : Nat) (r : IcvRec) (s : State) : ((Act.icvs key r).apply s).twb = s.twb := rfl
@[simp] theorem Act.icvs_house (key : Nat) (r : IcvRec) (s : State) : ((Act.icvs key r).apply s).house = s.house := rfl
@[simp] theorem Act.icvs_grid (key : Nat) (r : IcvRec) (s : State) : ((Act.icvs key r).apply s).grid = s.grid := rfl
@[simp] theorem Act.icvs_srcs (key : Nat) (r : IcvRec) (s : State) : ((Act.icvs key r).apply s).srcs = s.srcs := rfl
@[simp] theorem Act.icvs_fcvs (key : Nat) (r : IcvRec) (s : State) : ((Act.icvs key r).apply s).fcvs = s.fcvs := rfl
@[simp] theorem Act.icvs_mains (key : Nat) (r : IcvRec) (s : State) : ((Act.icvs key r).apply s).mains = s.mains := rfl
@[simp] theorem Act.icvs_pendZ (key : Nat) (r : IcvRec) (s : State) : ((Act.icvs key r).apply s).pendZ = s.pendZ := rfl
@[simp] theorem Act.icvs_groups (key : Nat) (r : IcvRec) (s : State) : ((Act.icvs key r).apply s).groups = s.groups := rfl
@[simp] theorem Act.icvs_alm (key : Nat) (r : IcvRec) (s : State) : ((Act.icvs key r).apply s).alm = s.alm := rfl
@[simp] theorem Act.icvs_power (key : Nat) (r : IcvRec) (s : State) : ((Act.icvs key r).apply s).power = s.power := rfl
@[simp] theorem Act.icvs_pairs (key : Nat) (r : IcvRec) (s : State) : ((Act.icvs key r).apply s).pairs = s.pairs := rfl
@[simp] theorem Act.icvs_tasks (key : Nat) (r : IcvRec) (s : State) : ((Act.icvs key r).apply s).tasks = s.tasks := rfl
@[simp] theorem Act.icvs_eng (key : Nat) (r : IcvRec) (s : State) : ((Act.icvs key r).apply s).eng = s.eng := rfl
@[simp] theorem Act.icvs_trace (key : Nat) (r : IcvRec) (s : State) : ((Act.icvs key r).apply s).trace = s.trace := rfl
@[simp] theorem Act.icvs_sun (key : Nat) (r : IcvRec) (s : State) : ((Act.icvs key r).apply s).sun = s.sun := rfl
@[simp] theorem Act.icvs_clk (key : Nat) (r : IcvRec) (s : State) : ((Act.icvs key r).apply s).clk = s.clk := rfl
@[simp] theorem Act.icvs_svc (key : Nat) (r : IcvRec) (s : State) : ((Act.icvs key r).apply s).svc = s.svc := rfl
@[simp] theorem Act.icvs_tines (key : Nat) (r : IcvRec) (s : State) : ((Act.icvs key r).apply s).tines = s.tines := rfl
@[simp] theorem Act.icvs_chals (key : Nat) (r : IcvRec) (s : State) : ((Act.icvs key r).apply s).chals = s.chals := rfl
@[simp] theorem Act.icvs_pending (key : Nat) (r : IcvRec) (s : State) : ((Act.icvs key r).apply s).pending = s.pending := rfl
@[simp] theorem Act.icvs_rd (key : Nat) (r : IcvRec) (s : State) (f : Fld) (i j l : Nat) : ((Act.icvs key r).apply s).rd f i j l = s.rd f i j l := rfl
@[simp] theorem Act.icvs_fnr (key : Nat) (r : IcvRec) (s : State) (l : Nat) : ((Act.icvs key r).apply s).fnr l = s.fnr l := rfl
@[simp] theorem Act.icvs_ringr (key : Nat) (r : IcvRec) (s : State) (l : Nat) : ((Act.icvs key r).apply s).ringr l = s.ringr l := rfl
@[simp] theorem Act.icvs_lane (key : Nat) (r : IcvRec) (s : State) (l : Nat) : ((Act.icvs key r).apply s).lane l = s.lane l := rfl
@[simp] theorem Act.icvs_chan (key : Nat) (r : IcvRec) (s : State) (l : Nat) : ((Act.icvs key r).apply s).chan l = s.chan l := rfl
@[simp] theorem Act.icvs_slot (key : Nat) (r : IcvRec) (s : State) (l : Nat) : ((Act.icvs key r).apply s).slot l = s.slot l := rfl
@[simp] theorem Act.icvs_gauge (key : Nat) (r : IcvRec) (s : State) (l : Nat) : ((Act.icvs key r).apply s).gauge l = s.gauge l := rfl
@[simp] theorem Act.icvs_keepLoc (key : Nat) (r : IcvRec) (s : State) (l : Nat) : ((Act.icvs key r).apply s).keepLoc l = s.keepLoc l := rfl
@[simp] theorem Act.icvs_keyr (key : Nat) (r : IcvRec) (s : State) (l : Nat) : ((Act.icvs key r).apply s).keyr l = s.keyr l := rfl
@[simp] theorem Act.icvs_port (key : Nat) (r : IcvRec) (s : State) (l : Nat) : ((Act.icvs key r).apply s).port l = s.port l := rfl
@[simp] theorem Act.icvs_bus (key : Nat) (r : IcvRec) (s : State) (l : Nat) : ((Act.icvs key r).apply s).bus l = s.bus l := rfl
@[simp] theorem Act.icvs_src (key : Nat) (r : IcvRec) (s : State) (l : Nat) : ((Act.icvs key r).apply s).src l = s.src l := rfl
@[simp] theorem Act.icvs_fcv (key : Nat) (r : IcvRec) (s : State) (l : Nat) : ((Act.icvs key r).apply s).fcv l = s.fcv l := rfl
@[simp] theorem Act.icvs_group (key : Nat) (r : IcvRec) (s : State) (l : Nat) : ((Act.icvs key r).apply s).group l = s.group l := rfl
@[simp] theorem Act.icvs_pair (key : Nat) (r : IcvRec) (s : State) (l : Nat) : ((Act.icvs key r).apply s).pair l = s.pair l := rfl
@[simp] theorem Act.icvs_task (key : Nat) (r : IcvRec) (s : State) (l : Nat) : ((Act.icvs key r).apply s).task l = s.task l := rfl
@[simp] theorem Act.icvs_traceRec (key : Nat) (r : IcvRec) (s : State) (l : Nat) : ((Act.icvs key r).apply s).traceRec l = s.traceRec l := rfl
@[simp] theorem Act.icvs_tine (key : Nat) (r : IcvRec) (s : State) (l : Nat) : ((Act.icvs key r).apply s).tine l = s.tine l := rfl
@[simp] theorem Act.fcvs_same (key : Nat) (r : FcvRec) (s : State) : ((Act.fcvs key r).apply s).fcv key = r := by
  simp [Act.apply, State.fcv, Tab.get_put_same]
theorem Act.fcvs_ne (key key2 : Nat) (h : key ≠ key2) (r : FcvRec) (s : State) : ((Act.fcvs key r).apply s).fcv key2 = s.fcv key2 := by
  simp [Act.apply, State.fcv, Tab.get_put_ne _ _ _ h]
@[simp] theorem Act.fcvs_regs (key : Nat) (r : FcvRec) (s : State) : ((Act.fcvs key r).apply s).regs = s.regs := rfl
@[simp] theorem Act.fcvs_time (key : Nat) (r : FcvRec) (s : State) : ((Act.fcvs key r).apply s).time = s.time := rfl
@[simp] theorem Act.fcvs_fns (key : Nat) (r : FcvRec) (s : State) : ((Act.fcvs key r).apply s).fns = s.fns := rfl
@[simp] theorem Act.fcvs_rings (key : Nat) (r : FcvRec) (s : State) : ((Act.fcvs key r).apply s).rings = s.rings := rfl
@[simp] theorem Act.fcvs_host (key : Nat) (r : FcvRec) (s : State) : ((Act.fcvs key r).apply s).host = s.host := rfl
@[simp] theorem Act.fcvs_lanes (key : Nat) (r : FcvRec) (s : State) : ((Act.fcvs key r).apply s).lanes = s.lanes := rfl
@[simp] theorem Act.fcvs_out (key : Nat) (r : FcvRec) (s : State) : ((Act.fcvs key r).apply s).out = s.out := rfl
@[simp] theorem Act.fcvs_freeCtr (key : Nat) (r : FcvRec) (s : State) : ((Act.fcvs key r).apply s).freeCtr = s.freeCtr := rfl
@[simp] theorem Act.fcvs_chans (key : Nat) (r : FcvRec) (s : State) : ((Act.fcvs key r).apply s).chans = s.chans := rfl
@[simp] theorem Act.fcvs_slots (key : Nat) (r : FcvRec) (s : State) : ((Act.fcvs key r).apply s).slots = s.slots := rfl
@[simp] theorem Act.fcvs_gauges (key : Nat) (r : FcvRec) (s : State) : ((Act.fcvs key r).apply s).gauges = s.gauges := rfl
@[simp] theorem Act.fcvs_keepLocs (key : Nat) (r : FcvRec) (s : State) : ((Act.fcvs key r).apply s).keepLocs = s.keepLocs := rfl
@[simp] theorem Act.fcvs_keep (key : Nat) (r : FcvRec) (s : State) : ((Act.fcvs key r).apply s).keep = s.keep := rfl
@[simp] theorem Act.fcvs_keys (key : Nat) (r : FcvRec) (s : State) : ((Act.fcvs key r).apply s).keys = s.keys := rfl
@[simp] theorem Act.fcvs_ports (key : Nat) (r : FcvRec) (s : State) : ((Act.fcvs key r).apply s).ports = s.ports := rfl
@[simp] theorem Act.fcvs_twb (key : Nat) (r : FcvRec) (s : State) : ((Act.fcvs key r).apply s).twb = s.twb := rfl
@[simp] theorem Act.fcvs_house (key : Nat) (r : FcvRec) (s : State) : ((Act.fcvs key r).apply s).house = s.house := rfl
@[simp] theorem Act.fcvs_grid (key : Nat) (r : FcvRec) (s : State) : ((Act.fcvs key r).apply s).grid = s.grid := rfl
@[simp] theorem Act.fcvs_srcs (key : Nat) (r : FcvRec) (s : State) : ((Act.fcvs key r).apply s).srcs = s.srcs := rfl
@[simp] theorem Act.fcvs_icvs (key : Nat) (r : FcvRec) (s : State) : ((Act.fcvs key r).apply s).icvs = s.icvs := rfl
@[simp] theorem Act.fcvs_mains (key : Nat) (r : FcvRec) (s : State) : ((Act.fcvs key r).apply s).mains = s.mains := rfl
@[simp] theorem Act.fcvs_pendZ (key : Nat) (r : FcvRec) (s : State) : ((Act.fcvs key r).apply s).pendZ = s.pendZ := rfl
@[simp] theorem Act.fcvs_groups (key : Nat) (r : FcvRec) (s : State) : ((Act.fcvs key r).apply s).groups = s.groups := rfl
@[simp] theorem Act.fcvs_alm (key : Nat) (r : FcvRec) (s : State) : ((Act.fcvs key r).apply s).alm = s.alm := rfl
@[simp] theorem Act.fcvs_power (key : Nat) (r : FcvRec) (s : State) : ((Act.fcvs key r).apply s).power = s.power := rfl
@[simp] theorem Act.fcvs_pairs (key : Nat) (r : FcvRec) (s : State) : ((Act.fcvs key r).apply s).pairs = s.pairs := rfl
@[simp] theorem Act.fcvs_tasks (key : Nat) (r : FcvRec) (s : State) : ((Act.fcvs key r).apply s).tasks = s.tasks := rfl
@[simp] theorem Act.fcvs_eng (key : Nat) (r : FcvRec) (s : State) : ((Act.fcvs key r).apply s).eng = s.eng := rfl
@[simp] theorem Act.fcvs_trace (key : Nat) (r : FcvRec) (s : State) : ((Act.fcvs key r).apply s).trace = s.trace := rfl
@[simp] theorem Act.fcvs_sun (key : Nat) (r : FcvRec) (s : State) : ((Act.fcvs key r).apply s).sun = s.sun := rfl
@[simp] theorem Act.fcvs_clk (key : Nat) (r : FcvRec) (s : State) : ((Act.fcvs key r).apply s).clk = s.clk := rfl
@[simp] theorem Act.fcvs_svc (key : Nat) (r : FcvRec) (s : State) : ((Act.fcvs key r).apply s).svc = s.svc := rfl
@[simp] theorem Act.fcvs_tines (key : Nat) (r : FcvRec) (s : State) : ((Act.fcvs key r).apply s).tines = s.tines := rfl
@[simp] theorem Act.fcvs_chals (key : Nat) (r : FcvRec) (s : State) : ((Act.fcvs key r).apply s).chals = s.chals := rfl
@[simp] theorem Act.fcvs_pending (key : Nat) (r : FcvRec) (s : State) : ((Act.fcvs key r).apply s).pending = s.pending := rfl
@[simp] theorem Act.fcvs_rd (key : Nat) (r : FcvRec) (s : State) (f : Fld) (i j l : Nat) : ((Act.fcvs key r).apply s).rd f i j l = s.rd f i j l := rfl
@[simp] theorem Act.fcvs_fnr (key : Nat) (r : FcvRec) (s : State) (l : Nat) : ((Act.fcvs key r).apply s).fnr l = s.fnr l := rfl
@[simp] theorem Act.fcvs_ringr (key : Nat) (r : FcvRec) (s : State) (l : Nat) : ((Act.fcvs key r).apply s).ringr l = s.ringr l := rfl
@[simp] theorem Act.fcvs_lane (key : Nat) (r : FcvRec) (s : State) (l : Nat) : ((Act.fcvs key r).apply s).lane l = s.lane l := rfl
@[simp] theorem Act.fcvs_chan (key : Nat) (r : FcvRec) (s : State) (l : Nat) : ((Act.fcvs key r).apply s).chan l = s.chan l := rfl
@[simp] theorem Act.fcvs_slot (key : Nat) (r : FcvRec) (s : State) (l : Nat) : ((Act.fcvs key r).apply s).slot l = s.slot l := rfl
@[simp] theorem Act.fcvs_gauge (key : Nat) (r : FcvRec) (s : State) (l : Nat) : ((Act.fcvs key r).apply s).gauge l = s.gauge l := rfl
@[simp] theorem Act.fcvs_keepLoc (key : Nat) (r : FcvRec) (s : State) (l : Nat) : ((Act.fcvs key r).apply s).keepLoc l = s.keepLoc l := rfl
@[simp] theorem Act.fcvs_keyr (key : Nat) (r : FcvRec) (s : State) (l : Nat) : ((Act.fcvs key r).apply s).keyr l = s.keyr l := rfl
@[simp] theorem Act.fcvs_port (key : Nat) (r : FcvRec) (s : State) (l : Nat) : ((Act.fcvs key r).apply s).port l = s.port l := rfl
@[simp] theorem Act.fcvs_bus (key : Nat) (r : FcvRec) (s : State) (l : Nat) : ((Act.fcvs key r).apply s).bus l = s.bus l := rfl
@[simp] theorem Act.fcvs_src (key : Nat) (r : FcvRec) (s : State) (l : Nat) : ((Act.fcvs key r).apply s).src l = s.src l := rfl
@[simp] theorem Act.fcvs_icv (key : Nat) (r : FcvRec) (s : State) (l : Nat) : ((Act.fcvs key r).apply s).icv l = s.icv l := rfl
@[simp] theorem Act.fcvs_group (key : Nat) (r : FcvRec) (s : State) (l : Nat) : ((Act.fcvs key r).apply s).group l = s.group l := rfl
@[simp] theorem Act.fcvs_pair (key : Nat) (r : FcvRec) (s : State) (l : Nat) : ((Act.fcvs key r).apply s).pair l = s.pair l := rfl
@[simp] theorem Act.fcvs_task (key : Nat) (r : FcvRec) (s : State) (l : Nat) : ((Act.fcvs key r).apply s).task l = s.task l := rfl
@[simp] theorem Act.fcvs_traceRec (key : Nat) (r : FcvRec) (s : State) (l : Nat) : ((Act.fcvs key r).apply s).traceRec l = s.traceRec l := rfl
@[simp] theorem Act.fcvs_tine (key : Nat) (r : FcvRec) (s : State) (l : Nat) : ((Act.fcvs key r).apply s).tine l = s.tine l := rfl
@[simp] theorem Act.mains_same (r : MainsRec) (s : State) : ((Act.mains r).apply s).mains = r := rfl
@[simp] theorem Act.mains_regs (r : MainsRec) (s : State) : ((Act.mains r).apply s).regs = s.regs := rfl
@[simp] theorem Act.mains_time (r : MainsRec) (s : State) : ((Act.mains r).apply s).time = s.time := rfl
@[simp] theorem Act.mains_fns (r : MainsRec) (s : State) : ((Act.mains r).apply s).fns = s.fns := rfl
@[simp] theorem Act.mains_rings (r : MainsRec) (s : State) : ((Act.mains r).apply s).rings = s.rings := rfl
@[simp] theorem Act.mains_host (r : MainsRec) (s : State) : ((Act.mains r).apply s).host = s.host := rfl
@[simp] theorem Act.mains_lanes (r : MainsRec) (s : State) : ((Act.mains r).apply s).lanes = s.lanes := rfl
@[simp] theorem Act.mains_out (r : MainsRec) (s : State) : ((Act.mains r).apply s).out = s.out := rfl
@[simp] theorem Act.mains_freeCtr (r : MainsRec) (s : State) : ((Act.mains r).apply s).freeCtr = s.freeCtr := rfl
@[simp] theorem Act.mains_chans (r : MainsRec) (s : State) : ((Act.mains r).apply s).chans = s.chans := rfl
@[simp] theorem Act.mains_slots (r : MainsRec) (s : State) : ((Act.mains r).apply s).slots = s.slots := rfl
@[simp] theorem Act.mains_gauges (r : MainsRec) (s : State) : ((Act.mains r).apply s).gauges = s.gauges := rfl
@[simp] theorem Act.mains_keepLocs (r : MainsRec) (s : State) : ((Act.mains r).apply s).keepLocs = s.keepLocs := rfl
@[simp] theorem Act.mains_keep (r : MainsRec) (s : State) : ((Act.mains r).apply s).keep = s.keep := rfl
@[simp] theorem Act.mains_keys (r : MainsRec) (s : State) : ((Act.mains r).apply s).keys = s.keys := rfl
@[simp] theorem Act.mains_ports (r : MainsRec) (s : State) : ((Act.mains r).apply s).ports = s.ports := rfl
@[simp] theorem Act.mains_twb (r : MainsRec) (s : State) : ((Act.mains r).apply s).twb = s.twb := rfl
@[simp] theorem Act.mains_house (r : MainsRec) (s : State) : ((Act.mains r).apply s).house = s.house := rfl
@[simp] theorem Act.mains_grid (r : MainsRec) (s : State) : ((Act.mains r).apply s).grid = s.grid := rfl
@[simp] theorem Act.mains_srcs (r : MainsRec) (s : State) : ((Act.mains r).apply s).srcs = s.srcs := rfl
@[simp] theorem Act.mains_icvs (r : MainsRec) (s : State) : ((Act.mains r).apply s).icvs = s.icvs := rfl
@[simp] theorem Act.mains_fcvs (r : MainsRec) (s : State) : ((Act.mains r).apply s).fcvs = s.fcvs := rfl
@[simp] theorem Act.mains_pendZ (r : MainsRec) (s : State) : ((Act.mains r).apply s).pendZ = s.pendZ := rfl
@[simp] theorem Act.mains_groups (r : MainsRec) (s : State) : ((Act.mains r).apply s).groups = s.groups := rfl
@[simp] theorem Act.mains_alm (r : MainsRec) (s : State) : ((Act.mains r).apply s).alm = s.alm := rfl
@[simp] theorem Act.mains_power (r : MainsRec) (s : State) : ((Act.mains r).apply s).power = s.power := rfl
@[simp] theorem Act.mains_pairs (r : MainsRec) (s : State) : ((Act.mains r).apply s).pairs = s.pairs := rfl
@[simp] theorem Act.mains_tasks (r : MainsRec) (s : State) : ((Act.mains r).apply s).tasks = s.tasks := rfl
@[simp] theorem Act.mains_eng (r : MainsRec) (s : State) : ((Act.mains r).apply s).eng = s.eng := rfl
@[simp] theorem Act.mains_trace (r : MainsRec) (s : State) : ((Act.mains r).apply s).trace = s.trace := rfl
@[simp] theorem Act.mains_sun (r : MainsRec) (s : State) : ((Act.mains r).apply s).sun = s.sun := rfl
@[simp] theorem Act.mains_clk (r : MainsRec) (s : State) : ((Act.mains r).apply s).clk = s.clk := rfl
@[simp] theorem Act.mains_svc (r : MainsRec) (s : State) : ((Act.mains r).apply s).svc = s.svc := rfl
@[simp] theorem Act.mains_tines (r : MainsRec) (s : State) : ((Act.mains r).apply s).tines = s.tines := rfl
@[simp] theorem Act.mains_chals (r : MainsRec) (s : State) : ((Act.mains r).apply s).chals = s.chals := rfl
@[simp] theorem Act.mains_pending (r : MainsRec) (s : State) : ((Act.mains r).apply s).pending = s.pending := rfl
@[simp] theorem Act.mains_rd (r : MainsRec) (s : State) (f : Fld) (i j l : Nat) : ((Act.mains r).apply s).rd f i j l = s.rd f i j l := rfl
@[simp] theorem Act.mains_fnr (r : MainsRec) (s : State) (l : Nat) : ((Act.mains r).apply s).fnr l = s.fnr l := rfl
@[simp] theorem Act.mains_ringr (r : MainsRec) (s : State) (l : Nat) : ((Act.mains r).apply s).ringr l = s.ringr l := rfl
@[simp] theorem Act.mains_lane (r : MainsRec) (s : State) (l : Nat) : ((Act.mains r).apply s).lane l = s.lane l := rfl
@[simp] theorem Act.mains_chan (r : MainsRec) (s : State) (l : Nat) : ((Act.mains r).apply s).chan l = s.chan l := rfl
@[simp] theorem Act.mains_slot (r : MainsRec) (s : State) (l : Nat) : ((Act.mains r).apply s).slot l = s.slot l := rfl
@[simp] theorem Act.mains_gauge (r : MainsRec) (s : State) (l : Nat) : ((Act.mains r).apply s).gauge l = s.gauge l := rfl
@[simp] theorem Act.mains_keepLoc (r : MainsRec) (s : State) (l : Nat) : ((Act.mains r).apply s).keepLoc l = s.keepLoc l := rfl
@[simp] theorem Act.mains_keyr (r : MainsRec) (s : State) (l : Nat) : ((Act.mains r).apply s).keyr l = s.keyr l := rfl
@[simp] theorem Act.mains_port (r : MainsRec) (s : State) (l : Nat) : ((Act.mains r).apply s).port l = s.port l := rfl
@[simp] theorem Act.mains_bus (r : MainsRec) (s : State) (l : Nat) : ((Act.mains r).apply s).bus l = s.bus l := rfl
@[simp] theorem Act.mains_src (r : MainsRec) (s : State) (l : Nat) : ((Act.mains r).apply s).src l = s.src l := rfl
@[simp] theorem Act.mains_icv (r : MainsRec) (s : State) (l : Nat) : ((Act.mains r).apply s).icv l = s.icv l := rfl
@[simp] theorem Act.mains_fcv (r : MainsRec) (s : State) (l : Nat) : ((Act.mains r).apply s).fcv l = s.fcv l := rfl
@[simp] theorem Act.mains_group (r : MainsRec) (s : State) (l : Nat) : ((Act.mains r).apply s).group l = s.group l := rfl
@[simp] theorem Act.mains_pair (r : MainsRec) (s : State) (l : Nat) : ((Act.mains r).apply s).pair l = s.pair l := rfl
@[simp] theorem Act.mains_task (r : MainsRec) (s : State) (l : Nat) : ((Act.mains r).apply s).task l = s.task l := rfl
@[simp] theorem Act.mains_traceRec (r : MainsRec) (s : State) (l : Nat) : ((Act.mains r).apply s).traceRec l = s.traceRec l := rfl
@[simp] theorem Act.mains_tine (r : MainsRec) (s : State) (l : Nat) : ((Act.mains r).apply s).tine l = s.tine l := rfl
@[simp] theorem Act.pendZ_same (r : List PendZ) (s : State) : ((Act.pendZ r).apply s).pendZ = r := rfl
@[simp] theorem Act.pendZ_regs (r : List PendZ) (s : State) : ((Act.pendZ r).apply s).regs = s.regs := rfl
@[simp] theorem Act.pendZ_time (r : List PendZ) (s : State) : ((Act.pendZ r).apply s).time = s.time := rfl
@[simp] theorem Act.pendZ_fns (r : List PendZ) (s : State) : ((Act.pendZ r).apply s).fns = s.fns := rfl
@[simp] theorem Act.pendZ_rings (r : List PendZ) (s : State) : ((Act.pendZ r).apply s).rings = s.rings := rfl
@[simp] theorem Act.pendZ_host (r : List PendZ) (s : State) : ((Act.pendZ r).apply s).host = s.host := rfl
@[simp] theorem Act.pendZ_lanes (r : List PendZ) (s : State) : ((Act.pendZ r).apply s).lanes = s.lanes := rfl
@[simp] theorem Act.pendZ_out (r : List PendZ) (s : State) : ((Act.pendZ r).apply s).out = s.out := rfl
@[simp] theorem Act.pendZ_freeCtr (r : List PendZ) (s : State) : ((Act.pendZ r).apply s).freeCtr = s.freeCtr := rfl
@[simp] theorem Act.pendZ_chans (r : List PendZ) (s : State) : ((Act.pendZ r).apply s).chans = s.chans := rfl
@[simp] theorem Act.pendZ_slots (r : List PendZ) (s : State) : ((Act.pendZ r).apply s).slots = s.slots := rfl
@[simp] theorem Act.pendZ_gauges (r : List PendZ) (s : State) : ((Act.pendZ r).apply s).gauges = s.gauges := rfl
@[simp] theorem Act.pendZ_keepLocs (r : List PendZ) (s : State) : ((Act.pendZ r).apply s).keepLocs = s.keepLocs := rfl
@[simp] theorem Act.pendZ_keep (r : List PendZ) (s : State) : ((Act.pendZ r).apply s).keep = s.keep := rfl
@[simp] theorem Act.pendZ_keys (r : List PendZ) (s : State) : ((Act.pendZ r).apply s).keys = s.keys := rfl
@[simp] theorem Act.pendZ_ports (r : List PendZ) (s : State) : ((Act.pendZ r).apply s).ports = s.ports := rfl
@[simp] theorem Act.pendZ_twb (r : List PendZ) (s : State) : ((Act.pendZ r).apply s).twb = s.twb := rfl
@[simp] theorem Act.pendZ_house (r : List PendZ) (s : State) : ((Act.pendZ r).apply s).house = s.house := rfl
@[simp] theorem Act.pendZ_grid (r : List PendZ) (s : State) : ((Act.pendZ r).apply s).grid = s.grid := rfl
@[simp] theorem Act.pendZ_srcs (r : List PendZ) (s : State) : ((Act.pendZ r).apply s).srcs = s.srcs := rfl
@[simp] theorem Act.pendZ_icvs (r : List PendZ) (s : State) : ((Act.pendZ r).apply s).icvs = s.icvs := rfl
@[simp] theorem Act.pendZ_fcvs (r : List PendZ) (s : State) : ((Act.pendZ r).apply s).fcvs = s.fcvs := rfl
@[simp] theorem Act.pendZ_mains (r : List PendZ) (s : State) : ((Act.pendZ r).apply s).mains = s.mains := rfl
@[simp] theorem Act.pendZ_groups (r : List PendZ) (s : State) : ((Act.pendZ r).apply s).groups = s.groups := rfl
@[simp] theorem Act.pendZ_alm (r : List PendZ) (s : State) : ((Act.pendZ r).apply s).alm = s.alm := rfl
@[simp] theorem Act.pendZ_power (r : List PendZ) (s : State) : ((Act.pendZ r).apply s).power = s.power := rfl
@[simp] theorem Act.pendZ_pairs (r : List PendZ) (s : State) : ((Act.pendZ r).apply s).pairs = s.pairs := rfl
@[simp] theorem Act.pendZ_tasks (r : List PendZ) (s : State) : ((Act.pendZ r).apply s).tasks = s.tasks := rfl
@[simp] theorem Act.pendZ_eng (r : List PendZ) (s : State) : ((Act.pendZ r).apply s).eng = s.eng := rfl
@[simp] theorem Act.pendZ_trace (r : List PendZ) (s : State) : ((Act.pendZ r).apply s).trace = s.trace := rfl
@[simp] theorem Act.pendZ_sun (r : List PendZ) (s : State) : ((Act.pendZ r).apply s).sun = s.sun := rfl
@[simp] theorem Act.pendZ_clk (r : List PendZ) (s : State) : ((Act.pendZ r).apply s).clk = s.clk := rfl
@[simp] theorem Act.pendZ_svc (r : List PendZ) (s : State) : ((Act.pendZ r).apply s).svc = s.svc := rfl
@[simp] theorem Act.pendZ_tines (r : List PendZ) (s : State) : ((Act.pendZ r).apply s).tines = s.tines := rfl
@[simp] theorem Act.pendZ_chals (r : List PendZ) (s : State) : ((Act.pendZ r).apply s).chals = s.chals := rfl
@[simp] theorem Act.pendZ_pending (r : List PendZ) (s : State) : ((Act.pendZ r).apply s).pending = s.pending := rfl
@[simp] theorem Act.pendZ_rd (r : List PendZ) (s : State) (f : Fld) (i j l : Nat) : ((Act.pendZ r).apply s).rd f i j l = s.rd f i j l := rfl
@[simp] theorem Act.pendZ_fnr (r : List PendZ) (s : State) (l : Nat) : ((Act.pendZ r).apply s).fnr l = s.fnr l := rfl
@[simp] theorem Act.pendZ_ringr (r : List PendZ) (s : State) (l : Nat) : ((Act.pendZ r).apply s).ringr l = s.ringr l := rfl
@[simp] theorem Act.pendZ_lane (r : List PendZ) (s : State) (l : Nat) : ((Act.pendZ r).apply s).lane l = s.lane l := rfl
@[simp] theorem Act.pendZ_chan (r : List PendZ) (s : State) (l : Nat) : ((Act.pendZ r).apply s).chan l = s.chan l := rfl
@[simp] theorem Act.pendZ_slot (r : List PendZ) (s : State) (l : Nat) : ((Act.pendZ r).apply s).slot l = s.slot l := rfl
@[simp] theorem Act.pendZ_gauge (r : List PendZ) (s : State) (l : Nat) : ((Act.pendZ r).apply s).gauge l = s.gauge l := rfl
@[simp] theorem Act.pendZ_keepLoc (r : List PendZ) (s : State) (l : Nat) : ((Act.pendZ r).apply s).keepLoc l = s.keepLoc l := rfl
@[simp] theorem Act.pendZ_keyr (r : List PendZ) (s : State) (l : Nat) : ((Act.pendZ r).apply s).keyr l = s.keyr l := rfl
@[simp] theorem Act.pendZ_port (r : List PendZ) (s : State) (l : Nat) : ((Act.pendZ r).apply s).port l = s.port l := rfl
@[simp] theorem Act.pendZ_bus (r : List PendZ) (s : State) (l : Nat) : ((Act.pendZ r).apply s).bus l = s.bus l := rfl
@[simp] theorem Act.pendZ_src (r : List PendZ) (s : State) (l : Nat) : ((Act.pendZ r).apply s).src l = s.src l := rfl
@[simp] theorem Act.pendZ_icv (r : List PendZ) (s : State) (l : Nat) : ((Act.pendZ r).apply s).icv l = s.icv l := rfl
@[simp] theorem Act.pendZ_fcv (r : List PendZ) (s : State) (l : Nat) : ((Act.pendZ r).apply s).fcv l = s.fcv l := rfl
@[simp] theorem Act.pendZ_group (r : List PendZ) (s : State) (l : Nat) : ((Act.pendZ r).apply s).group l = s.group l := rfl
@[simp] theorem Act.pendZ_pair (r : List PendZ) (s : State) (l : Nat) : ((Act.pendZ r).apply s).pair l = s.pair l := rfl
@[simp] theorem Act.pendZ_task (r : List PendZ) (s : State) (l : Nat) : ((Act.pendZ r).apply s).task l = s.task l := rfl
@[simp] theorem Act.pendZ_traceRec (r : List PendZ) (s : State) (l : Nat) : ((Act.pendZ r).apply s).traceRec l = s.traceRec l := rfl
@[simp] theorem Act.pendZ_tine (r : List PendZ) (s : State) (l : Nat) : ((Act.pendZ r).apply s).tine l = s.tine l := rfl
@[simp] theorem Act.groups_same (key : Nat) (r : GrpRec) (s : State) : ((Act.groups key r).apply s).group key = r := by
  simp [Act.apply, State.group, Tab.get_put_same]
theorem Act.groups_ne (key key2 : Nat) (h : key ≠ key2) (r : GrpRec) (s : State) : ((Act.groups key r).apply s).group key2 = s.group key2 := by
  simp [Act.apply, State.group, Tab.get_put_ne _ _ _ h]
@[simp] theorem Act.groups_regs (key : Nat) (r : GrpRec) (s : State) : ((Act.groups key r).apply s).regs = s.regs := rfl
@[simp] theorem Act.groups_time (key : Nat) (r : GrpRec) (s : State) : ((Act.groups key r).apply s).time = s.time := rfl
@[simp] theorem Act.groups_fns (key : Nat) (r : GrpRec) (s : State) : ((Act.groups key r).apply s).fns = s.fns := rfl
@[simp] theorem Act.groups_rings (key : Nat) (r : GrpRec) (s : State) : ((Act.groups key r).apply s).rings = s.rings := rfl
@[simp] theorem Act.groups_host (key : Nat) (r : GrpRec) (s : State) : ((Act.groups key r).apply s).host = s.host := rfl
@[simp] theorem Act.groups_lanes (key : Nat) (r : GrpRec) (s : State) : ((Act.groups key r).apply s).lanes = s.lanes := rfl
@[simp] theorem Act.groups_out (key : Nat) (r : GrpRec) (s : State) : ((Act.groups key r).apply s).out = s.out := rfl
@[simp] theorem Act.groups_freeCtr (key : Nat) (r : GrpRec) (s : State) : ((Act.groups key r).apply s).freeCtr = s.freeCtr := rfl
@[simp] theorem Act.groups_chans (key : Nat) (r : GrpRec) (s : State) : ((Act.groups key r).apply s).chans = s.chans := rfl
@[simp] theorem Act.groups_slots (key : Nat) (r : GrpRec) (s : State) : ((Act.groups key r).apply s).slots = s.slots := rfl
@[simp] theorem Act.groups_gauges (key : Nat) (r : GrpRec) (s : State) : ((Act.groups key r).apply s).gauges = s.gauges := rfl
@[simp] theorem Act.groups_keepLocs (key : Nat) (r : GrpRec) (s : State) : ((Act.groups key r).apply s).keepLocs = s.keepLocs := rfl
@[simp] theorem Act.groups_keep (key : Nat) (r : GrpRec) (s : State) : ((Act.groups key r).apply s).keep = s.keep := rfl
@[simp] theorem Act.groups_keys (key : Nat) (r : GrpRec) (s : State) : ((Act.groups key r).apply s).keys = s.keys := rfl
@[simp] theorem Act.groups_ports (key : Nat) (r : GrpRec) (s : State) : ((Act.groups key r).apply s).ports = s.ports := rfl
@[simp] theorem Act.groups_twb (key : Nat) (r : GrpRec) (s : State) : ((Act.groups key r).apply s).twb = s.twb := rfl
@[simp] theorem Act.groups_house (key : Nat) (r : GrpRec) (s : State) : ((Act.groups key r).apply s).house = s.house := rfl
@[simp] theorem Act.groups_grid (key : Nat) (r : GrpRec) (s : State) : ((Act.groups key r).apply s).grid = s.grid := rfl
@[simp] theorem Act.groups_srcs (key : Nat) (r : GrpRec) (s : State) : ((Act.groups key r).apply s).srcs = s.srcs := rfl
@[simp] theorem Act.groups_icvs (key : Nat) (r : GrpRec) (s : State) : ((Act.groups key r).apply s).icvs = s.icvs := rfl
@[simp] theorem Act.groups_fcvs (key : Nat) (r : GrpRec) (s : State) : ((Act.groups key r).apply s).fcvs = s.fcvs := rfl
@[simp] theorem Act.groups_mains (key : Nat) (r : GrpRec) (s : State) : ((Act.groups key r).apply s).mains = s.mains := rfl
@[simp] theorem Act.groups_pendZ (key : Nat) (r : GrpRec) (s : State) : ((Act.groups key r).apply s).pendZ = s.pendZ := rfl
@[simp] theorem Act.groups_alm (key : Nat) (r : GrpRec) (s : State) : ((Act.groups key r).apply s).alm = s.alm := rfl
@[simp] theorem Act.groups_power (key : Nat) (r : GrpRec) (s : State) : ((Act.groups key r).apply s).power = s.power := rfl
@[simp] theorem Act.groups_pairs (key : Nat) (r : GrpRec) (s : State) : ((Act.groups key r).apply s).pairs = s.pairs := rfl
@[simp] theorem Act.groups_tasks (key : Nat) (r : GrpRec) (s : State) : ((Act.groups key r).apply s).tasks = s.tasks := rfl
@[simp] theorem Act.groups_eng (key : Nat) (r : GrpRec) (s : State) : ((Act.groups key r).apply s).eng = s.eng := rfl
@[simp] theorem Act.groups_trace (key : Nat) (r : GrpRec) (s : State) : ((Act.groups key r).apply s).trace = s.trace := rfl
@[simp] theorem Act.groups_sun (key : Nat) (r : GrpRec) (s : State) : ((Act.groups key r).apply s).sun = s.sun := rfl
@[simp] theorem Act.groups_clk (key : Nat) (r : GrpRec) (s : State) : ((Act.groups key r).apply s).clk = s.clk := rfl
@[simp] theorem Act.groups_svc (key : Nat) (r : GrpRec) (s : State) : ((Act.groups key r).apply s).svc = s.svc := rfl
@[simp] theorem Act.groups_tines (key : Nat) (r : GrpRec) (s : State) : ((Act.groups key r).apply s).tines = s.tines := rfl
@[simp] theorem Act.groups_chals (key : Nat) (r : GrpRec) (s : State) : ((Act.groups key r).apply s).chals = s.chals := rfl
@[simp] theorem Act.groups_pending (key : Nat) (r : GrpRec) (s : State) : ((Act.groups key r).apply s).pending = s.pending := rfl
@[simp] theorem Act.groups_rd (key : Nat) (r : GrpRec) (s : State) (f : Fld) (i j l : Nat) : ((Act.groups key r).apply s).rd f i j l = s.rd f i j l := rfl
@[simp] theorem Act.groups_fnr (key : Nat) (r : GrpRec) (s : State) (l : Nat) : ((Act.groups key r).apply s).fnr l = s.fnr l := rfl
@[simp] theorem Act.groups_ringr (key : Nat) (r : GrpRec) (s : State) (l : Nat) : ((Act.groups key r).apply s).ringr l = s.ringr l := rfl
@[simp] theorem Act.groups_lane (key : Nat) (r : GrpRec) (s : State) (l : Nat) : ((Act.groups key r).apply s).lane l = s.lane l := rfl
@[simp] theorem Act.groups_chan (key : Nat) (r : GrpRec) (s : State) (l : Nat) : ((Act.groups key r).apply s).chan l = s.chan l := rfl
@[simp] theorem Act.groups_slot (key : Nat) (r : GrpRec) (s : State) (l : Nat) : ((Act.groups key r).apply s).slot l = s.slot l := rfl
@[simp] theorem Act.groups_gauge (key : Nat) (r : GrpRec) (s : State) (l : Nat) : ((Act.groups key r).apply s).gauge l = s.gauge l := rfl
@[simp] theorem Act.groups_keepLoc (key : Nat) (r : GrpRec) (s : State) (l : Nat) : ((Act.groups key r).apply s).keepLoc l = s.keepLoc l := rfl
@[simp] theorem Act.groups_keyr (key : Nat) (r : GrpRec) (s : State) (l : Nat) : ((Act.groups key r).apply s).keyr l = s.keyr l := rfl
@[simp] theorem Act.groups_port (key : Nat) (r : GrpRec) (s : State) (l : Nat) : ((Act.groups key r).apply s).port l = s.port l := rfl
@[simp] theorem Act.groups_bus (key : Nat) (r : GrpRec) (s : State) (l : Nat) : ((Act.groups key r).apply s).bus l = s.bus l := rfl
@[simp] theorem Act.groups_src (key : Nat) (r : GrpRec) (s : State) (l : Nat) : ((Act.groups key r).apply s).src l = s.src l := rfl
@[simp] theorem Act.groups_icv (key : Nat) (r : GrpRec) (s : State) (l : Nat) : ((Act.groups key r).apply s).icv l = s.icv l := rfl
@[simp] theorem Act.groups_fcv (key : Nat) (r : GrpRec) (s : State) (l : Nat) : ((Act.groups key r).apply s).fcv l = s.fcv l := rfl
@[simp] theorem Act.groups_pair (key : Nat) (r : GrpRec) (s : State) (l : Nat) : ((Act.groups key r).apply s).pair l = s.pair l := rfl
@[simp] theorem Act.groups_task (key : Nat) (r : GrpRec) (s : State) (l : Nat) : ((Act.groups key r).apply s).task l = s.task l := rfl
@[simp] theorem Act.groups_traceRec (key : Nat) (r : GrpRec) (s : State) (l : Nat) : ((Act.groups key r).apply s).traceRec l = s.traceRec l := rfl
@[simp] theorem Act.groups_tine (key : Nat) (r : GrpRec) (s : State) (l : Nat) : ((Act.groups key r).apply s).tine l = s.tine l := rfl
@[simp] theorem Act.alm_same (r : AlmRec) (s : State) : ((Act.alm r).apply s).alm = r := rfl
@[simp] theorem Act.alm_regs (r : AlmRec) (s : State) : ((Act.alm r).apply s).regs = s.regs := rfl
@[simp] theorem Act.alm_time (r : AlmRec) (s : State) : ((Act.alm r).apply s).time = s.time := rfl
@[simp] theorem Act.alm_fns (r : AlmRec) (s : State) : ((Act.alm r).apply s).fns = s.fns := rfl
@[simp] theorem Act.alm_rings (r : AlmRec) (s : State) : ((Act.alm r).apply s).rings = s.rings := rfl
@[simp] theorem Act.alm_host (r : AlmRec) (s : State) : ((Act.alm r).apply s).host = s.host := rfl
@[simp] theorem Act.alm_lanes (r : AlmRec) (s : State) : ((Act.alm r).apply s).lanes = s.lanes := rfl
@[simp] theorem Act.alm_out (r : AlmRec) (s : State) : ((Act.alm r).apply s).out = s.out := rfl
@[simp] theorem Act.alm_freeCtr (r : AlmRec) (s : State) : ((Act.alm r).apply s).freeCtr = s.freeCtr := rfl
@[simp] theorem Act.alm_chans (r : AlmRec) (s : State) : ((Act.alm r).apply s).chans = s.chans := rfl
@[simp] theorem Act.alm_slots (r : AlmRec) (s : State) : ((Act.alm r).apply s).slots = s.slots := rfl
@[simp] theorem Act.alm_gauges (r : AlmRec) (s : State) : ((Act.alm r).apply s).gauges = s.gauges := rfl
@[simp] theorem Act.alm_keepLocs (r : AlmRec) (s : State) : ((Act.alm r).apply s).keepLocs = s.keepLocs := rfl
@[simp] theorem Act.alm_keep (r : AlmRec) (s : State) : ((Act.alm r).apply s).keep = s.keep := rfl
@[simp] theorem Act.alm_keys (r : AlmRec) (s : State) : ((Act.alm r).apply s).keys = s.keys := rfl
@[simp] theorem Act.alm_ports (r : AlmRec) (s : State) : ((Act.alm r).apply s).ports = s.ports := rfl
@[simp] theorem Act.alm_twb (r : AlmRec) (s : State) : ((Act.alm r).apply s).twb = s.twb := rfl
@[simp] theorem Act.alm_house (r : AlmRec) (s : State) : ((Act.alm r).apply s).house = s.house := rfl
@[simp] theorem Act.alm_grid (r : AlmRec) (s : State) : ((Act.alm r).apply s).grid = s.grid := rfl
@[simp] theorem Act.alm_srcs (r : AlmRec) (s : State) : ((Act.alm r).apply s).srcs = s.srcs := rfl
@[simp] theorem Act.alm_icvs (r : AlmRec) (s : State) : ((Act.alm r).apply s).icvs = s.icvs := rfl
@[simp] theorem Act.alm_fcvs (r : AlmRec) (s : State) : ((Act.alm r).apply s).fcvs = s.fcvs := rfl
@[simp] theorem Act.alm_mains (r : AlmRec) (s : State) : ((Act.alm r).apply s).mains = s.mains := rfl
@[simp] theorem Act.alm_pendZ (r : AlmRec) (s : State) : ((Act.alm r).apply s).pendZ = s.pendZ := rfl
@[simp] theorem Act.alm_groups (r : AlmRec) (s : State) : ((Act.alm r).apply s).groups = s.groups := rfl
@[simp] theorem Act.alm_power (r : AlmRec) (s : State) : ((Act.alm r).apply s).power = s.power := rfl
@[simp] theorem Act.alm_pairs (r : AlmRec) (s : State) : ((Act.alm r).apply s).pairs = s.pairs := rfl
@[simp] theorem Act.alm_tasks (r : AlmRec) (s : State) : ((Act.alm r).apply s).tasks = s.tasks := rfl
@[simp] theorem Act.alm_eng (r : AlmRec) (s : State) : ((Act.alm r).apply s).eng = s.eng := rfl
@[simp] theorem Act.alm_trace (r : AlmRec) (s : State) : ((Act.alm r).apply s).trace = s.trace := rfl
@[simp] theorem Act.alm_sun (r : AlmRec) (s : State) : ((Act.alm r).apply s).sun = s.sun := rfl
@[simp] theorem Act.alm_clk (r : AlmRec) (s : State) : ((Act.alm r).apply s).clk = s.clk := rfl
@[simp] theorem Act.alm_svc (r : AlmRec) (s : State) : ((Act.alm r).apply s).svc = s.svc := rfl
@[simp] theorem Act.alm_tines (r : AlmRec) (s : State) : ((Act.alm r).apply s).tines = s.tines := rfl
@[simp] theorem Act.alm_chals (r : AlmRec) (s : State) : ((Act.alm r).apply s).chals = s.chals := rfl
@[simp] theorem Act.alm_pending (r : AlmRec) (s : State) : ((Act.alm r).apply s).pending = s.pending := rfl
@[simp] theorem Act.alm_rd (r : AlmRec) (s : State) (f : Fld) (i j l : Nat) : ((Act.alm r).apply s).rd f i j l = s.rd f i j l := rfl
@[simp] theorem Act.alm_fnr (r : AlmRec) (s : State) (l : Nat) : ((Act.alm r).apply s).fnr l = s.fnr l := rfl
@[simp] theorem Act.alm_ringr (r : AlmRec) (s : State) (l : Nat) : ((Act.alm r).apply s).ringr l = s.ringr l := rfl
@[simp] theorem Act.alm_lane (r : AlmRec) (s : State) (l : Nat) : ((Act.alm r).apply s).lane l = s.lane l := rfl
@[simp] theorem Act.alm_chan (r : AlmRec) (s : State) (l : Nat) : ((Act.alm r).apply s).chan l = s.chan l := rfl
@[simp] theorem Act.alm_slot (r : AlmRec) (s : State) (l : Nat) : ((Act.alm r).apply s).slot l = s.slot l := rfl
@[simp] theorem Act.alm_gauge (r : AlmRec) (s : State) (l : Nat) : ((Act.alm r).apply s).gauge l = s.gauge l := rfl
@[simp] theorem Act.alm_keepLoc (r : AlmRec) (s : State) (l : Nat) : ((Act.alm r).apply s).keepLoc l = s.keepLoc l := rfl
@[simp] theorem Act.alm_keyr (r : AlmRec) (s : State) (l : Nat) : ((Act.alm r).apply s).keyr l = s.keyr l := rfl
@[simp] theorem Act.alm_port (r : AlmRec) (s : State) (l : Nat) : ((Act.alm r).apply s).port l = s.port l := rfl
@[simp] theorem Act.alm_bus (r : AlmRec) (s : State) (l : Nat) : ((Act.alm r).apply s).bus l = s.bus l := rfl
@[simp] theorem Act.alm_src (r : AlmRec) (s : State) (l : Nat) : ((Act.alm r).apply s).src l = s.src l := rfl
@[simp] theorem Act.alm_icv (r : AlmRec) (s : State) (l : Nat) : ((Act.alm r).apply s).icv l = s.icv l := rfl
@[simp] theorem Act.alm_fcv (r : AlmRec) (s : State) (l : Nat) : ((Act.alm r).apply s).fcv l = s.fcv l := rfl
@[simp] theorem Act.alm_group (r : AlmRec) (s : State) (l : Nat) : ((Act.alm r).apply s).group l = s.group l := rfl
@[simp] theorem Act.alm_pair (r : AlmRec) (s : State) (l : Nat) : ((Act.alm r).apply s).pair l = s.pair l := rfl
@[simp] theorem Act.alm_task (r : AlmRec) (s : State) (l : Nat) : ((Act.alm r).apply s).task l = s.task l := rfl
@[simp] theorem Act.alm_traceRec (r : AlmRec) (s : State) (l : Nat) : ((Act.alm r).apply s).traceRec l = s.traceRec l := rfl
@[simp] theorem Act.alm_tine (r : AlmRec) (s : State) (l : Nat) : ((Act.alm r).apply s).tine l = s.tine l := rfl
@[simp] theorem Act.power_same (r : PowerRec) (s : State) : ((Act.power r).apply s).power = r := rfl
@[simp] theorem Act.power_regs (r : PowerRec) (s : State) : ((Act.power r).apply s).regs = s.regs := rfl
@[simp] theorem Act.power_time (r : PowerRec) (s : State) : ((Act.power r).apply s).time = s.time := rfl
@[simp] theorem Act.power_fns (r : PowerRec) (s : State) : ((Act.power r).apply s).fns = s.fns := rfl
@[simp] theorem Act.power_rings (r : PowerRec) (s : State) : ((Act.power r).apply s).rings = s.rings := rfl
@[simp] theorem Act.power_host (r : PowerRec) (s : State) : ((Act.power r).apply s).host = s.host := rfl
@[simp] theorem Act.power_lanes (r : PowerRec) (s : State) : ((Act.power r).apply s).lanes = s.lanes := rfl
@[simp] theorem Act.power_out (r : PowerRec) (s : State) : ((Act.power r).apply s).out = s.out := rfl
@[simp] theorem Act.power_freeCtr (r : PowerRec) (s : State) : ((Act.power r).apply s).freeCtr = s.freeCtr := rfl
@[simp] theorem Act.power_chans (r : PowerRec) (s : State) : ((Act.power r).apply s).chans = s.chans := rfl
@[simp] theorem Act.power_slots (r : PowerRec) (s : State) : ((Act.power r).apply s).slots = s.slots := rfl
@[simp] theorem Act.power_gauges (r : PowerRec) (s : State) : ((Act.power r).apply s).gauges = s.gauges := rfl
@[simp] theorem Act.power_keepLocs (r : PowerRec) (s : State) : ((Act.power r).apply s).keepLocs = s.keepLocs := rfl
@[simp] theorem Act.power_keep (r : PowerRec) (s : State) : ((Act.power r).apply s).keep = s.keep := rfl
@[simp] theorem Act.power_keys (r : PowerRec) (s : State) : ((Act.power r).apply s).keys = s.keys := rfl
@[simp] theorem Act.power_ports (r : PowerRec) (s : State) : ((Act.power r).apply s).ports = s.ports := rfl
@[simp] theorem Act.power_twb (r : PowerRec) (s : State) : ((Act.power r).apply s).twb = s.twb := rfl
@[simp] theorem Act.power_house (r : PowerRec) (s : State) : ((Act.power r).apply s).house = s.house := rfl
@[simp] theorem Act.power_grid (r : PowerRec) (s : State) : ((Act.power r).apply s).grid = s.grid := rfl
@[simp] theorem Act.power_srcs (r : PowerRec) (s : State) : ((Act.power r).apply s).srcs = s.srcs := rfl
@[simp] theorem Act.power_icvs (r : PowerRec) (s : State) : ((Act.power r).apply s).icvs = s.icvs := rfl
@[simp] theorem Act.power_fcvs (r : PowerRec) (s : State) : ((Act.power r).apply s).fcvs = s.fcvs := rfl
@[simp] theorem Act.power_mains (r : PowerRec) (s : State) : ((Act.power r).apply s).mains = s.mains := rfl
@[simp] theorem Act.power_pendZ (r : PowerRec) (s : State) : ((Act.power r).apply s).pendZ = s.pendZ := rfl
@[simp] theorem Act.power_groups (r : PowerRec) (s : State) : ((Act.power r).apply s).groups = s.groups := rfl
@[simp] theorem Act.power_alm (r : PowerRec) (s : State) : ((Act.power r).apply s).alm = s.alm := rfl
@[simp] theorem Act.power_pairs (r : PowerRec) (s : State) : ((Act.power r).apply s).pairs = s.pairs := rfl
@[simp] theorem Act.power_tasks (r : PowerRec) (s : State) : ((Act.power r).apply s).tasks = s.tasks := rfl
@[simp] theorem Act.power_eng (r : PowerRec) (s : State) : ((Act.power r).apply s).eng = s.eng := rfl
@[simp] theorem Act.power_trace (r : PowerRec) (s : State) : ((Act.power r).apply s).trace = s.trace := rfl
@[simp] theorem Act.power_sun (r : PowerRec) (s : State) : ((Act.power r).apply s).sun = s.sun := rfl
@[simp] theorem Act.power_clk (r : PowerRec) (s : State) : ((Act.power r).apply s).clk = s.clk := rfl
@[simp] theorem Act.power_svc (r : PowerRec) (s : State) : ((Act.power r).apply s).svc = s.svc := rfl
@[simp] theorem Act.power_tines (r : PowerRec) (s : State) : ((Act.power r).apply s).tines = s.tines := rfl
@[simp] theorem Act.power_chals (r : PowerRec) (s : State) : ((Act.power r).apply s).chals = s.chals := rfl
@[simp] theorem Act.power_pending (r : PowerRec) (s : State) : ((Act.power r).apply s).pending = s.pending := rfl
@[simp] theorem Act.power_rd (r : PowerRec) (s : State) (f : Fld) (i j l : Nat) : ((Act.power r).apply s).rd f i j l = s.rd f i j l := rfl
@[simp] theorem Act.power_fnr (r : PowerRec) (s : State) (l : Nat) : ((Act.power r).apply s).fnr l = s.fnr l := rfl
@[simp] theorem Act.power_ringr (r : PowerRec) (s : State) (l : Nat) : ((Act.power r).apply s).ringr l = s.ringr l := rfl
@[simp] theorem Act.power_lane (r : PowerRec) (s : State) (l : Nat) : ((Act.power r).apply s).lane l = s.lane l := rfl
@[simp] theorem Act.power_chan (r : PowerRec) (s : State) (l : Nat) : ((Act.power r).apply s).chan l = s.chan l := rfl
@[simp] theorem Act.power_slot (r : PowerRec) (s : State) (l : Nat) : ((Act.power r).apply s).slot l = s.slot l := rfl
@[simp] theorem Act.power_gauge (r : PowerRec) (s : State) (l : Nat) : ((Act.power r).apply s).gauge l = s.gauge l := rfl
@[simp] theorem Act.power_keepLoc (r : PowerRec) (s : State) (l : Nat) : ((Act.power r).apply s).keepLoc l = s.keepLoc l := rfl
@[simp] theorem Act.power_keyr (r : PowerRec) (s : State) (l : Nat) : ((Act.power r).apply s).keyr l = s.keyr l := rfl
@[simp] theorem Act.power_port (r : PowerRec) (s : State) (l : Nat) : ((Act.power r).apply s).port l = s.port l := rfl
@[simp] theorem Act.power_bus (r : PowerRec) (s : State) (l : Nat) : ((Act.power r).apply s).bus l = s.bus l := rfl
@[simp] theorem Act.power_src (r : PowerRec) (s : State) (l : Nat) : ((Act.power r).apply s).src l = s.src l := rfl
@[simp] theorem Act.power_icv (r : PowerRec) (s : State) (l : Nat) : ((Act.power r).apply s).icv l = s.icv l := rfl
@[simp] theorem Act.power_fcv (r : PowerRec) (s : State) (l : Nat) : ((Act.power r).apply s).fcv l = s.fcv l := rfl
@[simp] theorem Act.power_group (r : PowerRec) (s : State) (l : Nat) : ((Act.power r).apply s).group l = s.group l := rfl
@[simp] theorem Act.power_pair (r : PowerRec) (s : State) (l : Nat) : ((Act.power r).apply s).pair l = s.pair l := rfl
@[simp] theorem Act.power_task (r : PowerRec) (s : State) (l : Nat) : ((Act.power r).apply s).task l = s.task l := rfl
@[simp] theorem Act.power_traceRec (r : PowerRec) (s : State) (l : Nat) : ((Act.power r).apply s).traceRec l = s.traceRec l := rfl
@[simp] theorem Act.power_tine (r : PowerRec) (s : State) (l : Nat) : ((Act.power r).apply s).tine l = s.tine l := rfl
@[simp] theorem Act.pairs_same (key : Nat) (r : PairRec) (s : State) : ((Act.pairs key r).apply s).pair key = r := by
  simp [Act.apply, State.pair, Tab.get_put_same]
theorem Act.pairs_ne (key key2 : Nat) (h : key ≠ key2) (r : PairRec) (s : State) : ((Act.pairs key r).apply s).pair key2 = s.pair key2 := by
  simp [Act.apply, State.pair, Tab.get_put_ne _ _ _ h]
@[simp] theorem Act.pairs_regs (key : Nat) (r : PairRec) (s : State) : ((Act.pairs key r).apply s).regs = s.regs := rfl
@[simp] theorem Act.pairs_time (key : Nat) (r : PairRec) (s : State) : ((Act.pairs key r).apply s).time = s.time := rfl
@[simp] theorem Act.pairs_fns (key : Nat) (r : PairRec) (s : State) : ((Act.pairs key r).apply s).fns = s.fns := rfl
@[simp] theorem Act.pairs_rings (key : Nat) (r : PairRec) (s : State) : ((Act.pairs key r).apply s).rings = s.rings := rfl
@[simp] theorem Act.pairs_host (key : Nat) (r : PairRec) (s : State) : ((Act.pairs key r).apply s).host = s.host := rfl
@[simp] theorem Act.pairs_lanes (key : Nat) (r : PairRec) (s : State) : ((Act.pairs key r).apply s).lanes = s.lanes := rfl
@[simp] theorem Act.pairs_out (key : Nat) (r : PairRec) (s : State) : ((Act.pairs key r).apply s).out = s.out := rfl
@[simp] theorem Act.pairs_freeCtr (key : Nat) (r : PairRec) (s : State) : ((Act.pairs key r).apply s).freeCtr = s.freeCtr := rfl
@[simp] theorem Act.pairs_chans (key : Nat) (r : PairRec) (s : State) : ((Act.pairs key r).apply s).chans = s.chans := rfl
@[simp] theorem Act.pairs_slots (key : Nat) (r : PairRec) (s : State) : ((Act.pairs key r).apply s).slots = s.slots := rfl
@[simp] theorem Act.pairs_gauges (key : Nat) (r : PairRec) (s : State) : ((Act.pairs key r).apply s).gauges = s.gauges := rfl
@[simp] theorem Act.pairs_keepLocs (key : Nat) (r : PairRec) (s : State) : ((Act.pairs key r).apply s).keepLocs = s.keepLocs := rfl
@[simp] theorem Act.pairs_keep (key : Nat) (r : PairRec) (s : State) : ((Act.pairs key r).apply s).keep = s.keep := rfl
@[simp] theorem Act.pairs_keys (key : Nat) (r : PairRec) (s : State) : ((Act.pairs key r).apply s).keys = s.keys := rfl
@[simp] theorem Act.pairs_ports (key : Nat) (r : PairRec) (s : State) : ((Act.pairs key r).apply s).ports = s.ports := rfl
@[simp] theorem Act.pairs_twb (key : Nat) (r : PairRec) (s : State) : ((Act.pairs key r).apply s).twb = s.twb := rfl
@[simp] theorem Act.pairs_house (key : Nat) (r : PairRec) (s : State) : ((Act.pairs key r).apply s).house = s.house := rfl
@[simp] theorem Act.pairs_grid (key : Nat) (r : PairRec) (s : State) : ((Act.pairs key r).apply s).grid = s.grid := rfl
@[simp] theorem Act.pairs_srcs (key : Nat) (r : PairRec) (s : State) : ((Act.pairs key r).apply s).srcs = s.srcs := rfl
@[simp] theorem Act.pairs_icvs (key : Nat) (r : PairRec) (s : State) : ((Act.pairs key r).apply s).icvs = s.icvs := rfl
@[simp] theorem Act.pairs_fcvs (key : Nat) (r : PairRec) (s : State) : ((Act.pairs key r).apply s).fcvs = s.fcvs := rfl
@[simp] theorem Act.pairs_mains (key : Nat) (r : PairRec) (s : State) : ((Act.pairs key r).apply s).mains = s.mains := rfl
@[simp] theorem Act.pairs_pendZ (key : Nat) (r : PairRec) (s : State) : ((Act.pairs key r).apply s).pendZ = s.pendZ := rfl
@[simp] theorem Act.pairs_groups (key : Nat) (r : PairRec) (s : State) : ((Act.pairs key r).apply s).groups = s.groups := rfl
@[simp] theorem Act.pairs_alm (key : Nat) (r : PairRec) (s : State) : ((Act.pairs key r).apply s).alm = s.alm := rfl
@[simp] theorem Act.pairs_power (key : Nat) (r : PairRec) (s : State) : ((Act.pairs key r).apply s).power = s.power := rfl
@[simp] theorem Act.pairs_tasks (key : Nat) (r : PairRec) (s : State) : ((Act.pairs key r).apply s).tasks = s.tasks := rfl
@[simp] theorem Act.pairs_eng (key : Nat) (r : PairRec) (s : State) : ((Act.pairs key r).apply s).eng = s.eng := rfl
@[simp] theorem Act.pairs_trace (key : Nat) (r : PairRec) (s : State) : ((Act.pairs key r).apply s).trace = s.trace := rfl
@[simp] theorem Act.pairs_sun (key : Nat) (r : PairRec) (s : State) : ((Act.pairs key r).apply s).sun = s.sun := rfl
@[simp] theorem Act.pairs_clk (key : Nat) (r : PairRec) (s : State) : ((Act.pairs key r).apply s).clk = s.clk := rfl
@[simp] theorem Act.pairs_svc (key : Nat) (r : PairRec) (s : State) : ((Act.pairs key r).apply s).svc = s.svc := rfl
@[simp] theorem Act.pairs_tines (key : Nat) (r : PairRec) (s : State) : ((Act.pairs key r).apply s).tines = s.tines := rfl
@[simp] theorem Act.pairs_chals (key : Nat) (r : PairRec) (s : State) : ((Act.pairs key r).apply s).chals = s.chals := rfl
@[simp] theorem Act.pairs_pending (key : Nat) (r : PairRec) (s : State) : ((Act.pairs key r).apply s).pending = s.pending := rfl
@[simp] theorem Act.pairs_rd (key : Nat) (r : PairRec) (s : State) (f : Fld) (i j l : Nat) : ((Act.pairs key r).apply s).rd f i j l = s.rd f i j l := rfl
@[simp] theorem Act.pairs_fnr (key : Nat) (r : PairRec) (s : State) (l : Nat) : ((Act.pairs key r).apply s).fnr l = s.fnr l := rfl
@[simp] theorem Act.pairs_ringr (key : Nat) (r : PairRec) (s : State) (l : Nat) : ((Act.pairs key r).apply s).ringr l = s.ringr l := rfl
@[simp] theorem Act.pairs_lane (key : Nat) (r : PairRec) (s : State) (l : Nat) : ((Act.pairs key r).apply s).lane l = s.lane l := rfl
@[simp] theorem Act.pairs_chan (key : Nat) (r : PairRec) (s : State) (l : Nat) : ((Act.pairs key r).apply s).chan l = s.chan l := rfl
@[simp] theorem Act.pairs_slot (key : Nat) (r : PairRec) (s : State) (l : Nat) : ((Act.pairs key r).apply s).slot l = s.slot l := rfl
@[simp] theorem Act.pairs_gauge (key : Nat) (r : PairRec) (s : State) (l : Nat) : ((Act.pairs key r).apply s).gauge l = s.gauge l := rfl
@[simp] theorem Act.pairs_keepLoc (key : Nat) (r : PairRec) (s : State) (l : Nat) : ((Act.pairs key r).apply s).keepLoc l = s.keepLoc l := rfl
@[simp] theorem Act.pairs_keyr (key : Nat) (r : PairRec) (s : State) (l : Nat) : ((Act.pairs key r).apply s).keyr l = s.keyr l := rfl
@[simp] theorem Act.pairs_port (key : Nat) (r : PairRec) (s : State) (l : Nat) : ((Act.pairs key r).apply s).port l = s.port l := rfl
@[simp] theorem Act.pairs_bus (key : Nat) (r : PairRec) (s : State) (l : Nat) : ((Act.pairs key r).apply s).bus l = s.bus l := rfl
@[simp] theorem Act.pairs_src (key : Nat) (r : PairRec) (s : State) (l : Nat) : ((Act.pairs key r).apply s).src l = s.src l := rfl
@[simp] theorem Act.pairs_icv (key : Nat) (r : PairRec) (s : State) (l : Nat) : ((Act.pairs key r).apply s).icv l = s.icv l := rfl
@[simp] theorem Act.pairs_fcv (key : Nat) (r : PairRec) (s : State) (l : Nat) : ((Act.pairs key r).apply s).fcv l = s.fcv l := rfl
@[simp] theorem Act.pairs_group (key : Nat) (r : PairRec) (s : State) (l : Nat) : ((Act.pairs key r).apply s).group l = s.group l := rfl
@[simp] theorem Act.pairs_task (key : Nat) (r : PairRec) (s : State) (l : Nat) : ((Act.pairs key r).apply s).task l = s.task l := rfl
@[simp] theorem Act.pairs_traceRec (key : Nat) (r : PairRec) (s : State) (l : Nat) : ((Act.pairs key r).apply s).traceRec l = s.traceRec l := rfl
@[simp] theorem Act.pairs_tine (key : Nat) (r : PairRec) (s : State) (l : Nat) : ((Act.pairs key r).apply s).tine l = s.tine l := rfl
@[simp] theorem Act.tasks_same (key : Nat) (r : TaskRec) (s : State) : ((Act.tasks key r).apply s).task key = r := by
  simp [Act.apply, State.task, Tab.get_put_same]
theorem Act.tasks_ne (key key2 : Nat) (h : key ≠ key2) (r : TaskRec) (s : State) : ((Act.tasks key r).apply s).task key2 = s.task key2 := by
  simp [Act.apply, State.task, Tab.get_put_ne _ _ _ h]
@[simp] theorem Act.tasks_regs (key : Nat) (r : TaskRec) (s : State) : ((Act.tasks key r).apply s).regs = s.regs := rfl
@[simp] theorem Act.tasks_time (key : Nat) (r : TaskRec) (s : State) : ((Act.tasks key r).apply s).time = s.time := rfl
@[simp] theorem Act.tasks_fns (key : Nat) (r : TaskRec) (s : State) : ((Act.tasks key r).apply s).fns = s.fns := rfl
@[simp] theorem Act.tasks_rings (key : Nat) (r : TaskRec) (s : State) : ((Act.tasks key r).apply s).rings = s.rings := rfl
@[simp] theorem Act.tasks_host (key : Nat) (r : TaskRec) (s : State) : ((Act.tasks key r).apply s).host = s.host := rfl
@[simp] theorem Act.tasks_lanes (key : Nat) (r : TaskRec) (s : State) : ((Act.tasks key r).apply s).lanes = s.lanes := rfl
@[simp] theorem Act.tasks_out (key : Nat) (r : TaskRec) (s : State) : ((Act.tasks key r).apply s).out = s.out := rfl
@[simp] theorem Act.tasks_freeCtr (key : Nat) (r : TaskRec) (s : State) : ((Act.tasks key r).apply s).freeCtr = s.freeCtr := rfl
@[simp] theorem Act.tasks_chans (key : Nat) (r : TaskRec) (s : State) : ((Act.tasks key r).apply s).chans = s.chans := rfl
@[simp] theorem Act.tasks_slots (key : Nat) (r : TaskRec) (s : State) : ((Act.tasks key r).apply s).slots = s.slots := rfl
@[simp] theorem Act.tasks_gauges (key : Nat) (r : TaskRec) (s : State) : ((Act.tasks key r).apply s).gauges = s.gauges := rfl
@[simp] theorem Act.tasks_keepLocs (key : Nat) (r : TaskRec) (s : State) : ((Act.tasks key r).apply s).keepLocs = s.keepLocs := rfl
@[simp] theorem Act.tasks_keep (key : Nat) (r : TaskRec) (s : State) : ((Act.tasks key r).apply s).keep = s.keep := rfl
@[simp] theorem Act.tasks_keys (key : Nat) (r : TaskRec) (s : State) : ((Act.tasks key r).apply s).keys = s.keys := rfl
@[simp] theorem Act.tasks_ports (key : Nat) (r : TaskRec) (s : State) : ((Act.tasks key r).apply s).ports = s.ports := rfl
@[simp] theorem Act.tasks_twb (key : Nat) (r : TaskRec) (s : State) : ((Act.tasks key r).apply s).twb = s.twb := rfl
@[simp] theorem Act.tasks_house (key : Nat) (r : TaskRec) (s : State) : ((Act.tasks key r).apply s).house = s.house := rfl
@[simp] theorem Act.tasks_grid (key : Nat) (r : TaskRec) (s : State) : ((Act.tasks key r).apply s).grid = s.grid := rfl
@[simp] theorem Act.tasks_srcs (key : Nat) (r : TaskRec) (s : State) : ((Act.tasks key r).apply s).srcs = s.srcs := rfl
@[simp] theorem Act.tasks_icvs (key : Nat) (r : TaskRec) (s : State) : ((Act.tasks key r).apply s).icvs = s.icvs := rfl
@[simp] theorem Act.tasks_fcvs (key : Nat) (r : TaskRec) (s : State) : ((Act.tasks key r).apply s).fcvs = s.fcvs := rfl
@[simp] theorem Act.tasks_mains (key : Nat) (r : TaskRec) (s : State) : ((Act.tasks key r).apply s).mains = s.mains := rfl
@[simp] theorem Act.tasks_pendZ (key : Nat) (r : TaskRec) (s : State) : ((Act.tasks key r).apply s).pendZ = s.pendZ := rfl
@[simp] theorem Act.tasks_groups (key : Nat) (r : TaskRec) (s : State) : ((Act.tasks key r).apply s).groups = s.groups := rfl
@[simp] theorem Act.tasks_alm (key : Nat) (r : TaskRec) (s : State) : ((Act.tasks key r).apply s).alm = s.alm := rfl
@[simp] theorem Act.tasks_power (key : Nat) (r : TaskRec) (s : State) : ((Act.tasks key r).apply s).power = s.power := rfl
@[simp] theorem Act.tasks_pairs (key : Nat) (r : TaskRec) (s : State) : ((Act.tasks key r).apply s).pairs = s.pairs := rfl
@[simp] theorem Act.tasks_eng (key : Nat) (r : TaskRec) (s : State) : ((Act.tasks key r).apply s).eng = s.eng := rfl
@[simp] theorem Act.tasks_trace (key : Nat) (r : TaskRec) (s : State) : ((Act.tasks key r).apply s).trace = s.trace := rfl
@[simp] theorem Act.tasks_sun (key : Nat) (r : TaskRec) (s : State) : ((Act.tasks key r).apply s).sun = s.sun := rfl
@[simp] theorem Act.tasks_clk (key : Nat) (r : TaskRec) (s : State) : ((Act.tasks key r).apply s).clk = s.clk := rfl
@[simp] theorem Act.tasks_svc (key : Nat) (r : TaskRec) (s : State) : ((Act.tasks key r).apply s).svc = s.svc := rfl
@[simp] theorem Act.tasks_tines (key : Nat) (r : TaskRec) (s : State) : ((Act.tasks key r).apply s).tines = s.tines := rfl
@[simp] theorem Act.tasks_chals (key : Nat) (r : TaskRec) (s : State) : ((Act.tasks key r).apply s).chals = s.chals := rfl
@[simp] theorem Act.tasks_pending (key : Nat) (r : TaskRec) (s : State) : ((Act.tasks key r).apply s).pending = s.pending := rfl
@[simp] theorem Act.tasks_rd (key : Nat) (r : TaskRec) (s : State) (f : Fld) (i j l : Nat) : ((Act.tasks key r).apply s).rd f i j l = s.rd f i j l := rfl
@[simp] theorem Act.tasks_fnr (key : Nat) (r : TaskRec) (s : State) (l : Nat) : ((Act.tasks key r).apply s).fnr l = s.fnr l := rfl
@[simp] theorem Act.tasks_ringr (key : Nat) (r : TaskRec) (s : State) (l : Nat) : ((Act.tasks key r).apply s).ringr l = s.ringr l := rfl
@[simp] theorem Act.tasks_lane (key : Nat) (r : TaskRec) (s : State) (l : Nat) : ((Act.tasks key r).apply s).lane l = s.lane l := rfl
@[simp] theorem Act.tasks_chan (key : Nat) (r : TaskRec) (s : State) (l : Nat) : ((Act.tasks key r).apply s).chan l = s.chan l := rfl
@[simp] theorem Act.tasks_slot (key : Nat) (r : TaskRec) (s : State) (l : Nat) : ((Act.tasks key r).apply s).slot l = s.slot l := rfl
@[simp] theorem Act.tasks_gauge (key : Nat) (r : TaskRec) (s : State) (l : Nat) : ((Act.tasks key r).apply s).gauge l = s.gauge l := rfl
@[simp] theorem Act.tasks_keepLoc (key : Nat) (r : TaskRec) (s : State) (l : Nat) : ((Act.tasks key r).apply s).keepLoc l = s.keepLoc l := rfl
@[simp] theorem Act.tasks_keyr (key : Nat) (r : TaskRec) (s : State) (l : Nat) : ((Act.tasks key r).apply s).keyr l = s.keyr l := rfl
@[simp] theorem Act.tasks_port (key : Nat) (r : TaskRec) (s : State) (l : Nat) : ((Act.tasks key r).apply s).port l = s.port l := rfl
@[simp] theorem Act.tasks_bus (key : Nat) (r : TaskRec) (s : State) (l : Nat) : ((Act.tasks key r).apply s).bus l = s.bus l := rfl
@[simp] theorem Act.tasks_src (key : Nat) (r : TaskRec) (s : State) (l : Nat) : ((Act.tasks key r).apply s).src l = s.src l := rfl
@[simp] theorem Act.tasks_icv (key : Nat) (r : TaskRec) (s : State) (l : Nat) : ((Act.tasks key r).apply s).icv l = s.icv l := rfl
@[simp] theorem Act.tasks_fcv (key : Nat) (r : TaskRec) (s : State) (l : Nat) : ((Act.tasks key r).apply s).fcv l = s.fcv l := rfl
@[simp] theorem Act.tasks_group (key : Nat) (r : TaskRec) (s : State) (l : Nat) : ((Act.tasks key r).apply s).group l = s.group l := rfl
@[simp] theorem Act.tasks_pair (key : Nat) (r : TaskRec) (s : State) (l : Nat) : ((Act.tasks key r).apply s).pair l = s.pair l := rfl
@[simp] theorem Act.tasks_traceRec (key : Nat) (r : TaskRec) (s : State) (l : Nat) : ((Act.tasks key r).apply s).traceRec l = s.traceRec l := rfl
@[simp] theorem Act.tasks_tine (key : Nat) (r : TaskRec) (s : State) (l : Nat) : ((Act.tasks key r).apply s).tine l = s.tine l := rfl
@[simp] theorem Act.eng_same (r : EngRec) (s : State) : ((Act.eng r).apply s).eng = r := rfl
@[simp] theorem Act.eng_regs (r : EngRec) (s : State) : ((Act.eng r).apply s).regs = s.regs := rfl
@[simp] theorem Act.eng_time (r : EngRec) (s : State) : ((Act.eng r).apply s).time = s.time := rfl
@[simp] theorem Act.eng_fns (r : EngRec) (s : State) : ((Act.eng r).apply s).fns = s.fns := rfl
@[simp] theorem Act.eng_rings (r : EngRec) (s : State) : ((Act.eng r).apply s).rings = s.rings := rfl
@[simp] theorem Act.eng_host (r : EngRec) (s : State) : ((Act.eng r).apply s).host = s.host := rfl
@[simp] theorem Act.eng_lanes (r : EngRec) (s : State) : ((Act.eng r).apply s).lanes = s.lanes := rfl
@[simp] theorem Act.eng_out (r : EngRec) (s : State) : ((Act.eng r).apply s).out = s.out := rfl
@[simp] theorem Act.eng_freeCtr (r : EngRec) (s : State) : ((Act.eng r).apply s).freeCtr = s.freeCtr := rfl
@[simp] theorem Act.eng_chans (r : EngRec) (s : State) : ((Act.eng r).apply s).chans = s.chans := rfl
@[simp] theorem Act.eng_slots (r : EngRec) (s : State) : ((Act.eng r).apply s).slots = s.slots := rfl
@[simp] theorem Act.eng_gauges (r : EngRec) (s : State) : ((Act.eng r).apply s).gauges = s.gauges := rfl
@[simp] theorem Act.eng_keepLocs (r : EngRec) (s : State) : ((Act.eng r).apply s).keepLocs = s.keepLocs := rfl
@[simp] theorem Act.eng_keep (r : EngRec) (s : State) : ((Act.eng r).apply s).keep = s.keep := rfl
@[simp] theorem Act.eng_keys (r : EngRec) (s : State) : ((Act.eng r).apply s).keys = s.keys := rfl
@[simp] theorem Act.eng_ports (r : EngRec) (s : State) : ((Act.eng r).apply s).ports = s.ports := rfl
@[simp] theorem Act.eng_twb (r : EngRec) (s : State) : ((Act.eng r).apply s).twb = s.twb := rfl
@[simp] theorem Act.eng_house (r : EngRec) (s : State) : ((Act.eng r).apply s).house = s.house := rfl
@[simp] theorem Act.eng_grid (r : EngRec) (s : State) : ((Act.eng r).apply s).grid = s.grid := rfl
@[simp] theorem Act.eng_srcs (r : EngRec) (s : State) : ((Act.eng r).apply s).srcs = s.srcs := rfl
@[simp] theorem Act.eng_icvs (r : EngRec) (s : State) : ((Act.eng r).apply s).icvs = s.icvs := rfl
@[simp] theorem Act.eng_fcvs (r : EngRec) (s : State) : ((Act.eng r).apply s).fcvs = s.fcvs := rfl
@[simp] theorem Act.eng_mains (r : EngRec) (s : State) : ((Act.eng r).apply s).mains = s.mains := rfl
@[simp] theorem Act.eng_pendZ (r : EngRec) (s : State) : ((Act.eng r).apply s).pendZ = s.pendZ := rfl
@[simp] theorem Act.eng_groups (r : EngRec) (s : State) : ((Act.eng r).apply s).groups = s.groups := rfl
@[simp] theorem Act.eng_alm (r : EngRec) (s : State) : ((Act.eng r).apply s).alm = s.alm := rfl
@[simp] theorem Act.eng_power (r : EngRec) (s : State) : ((Act.eng r).apply s).power = s.power := rfl
@[simp] theorem Act.eng_pairs (r : EngRec) (s : State) : ((Act.eng r).apply s).pairs = s.pairs := rfl
@[simp] theorem Act.eng_tasks (r : EngRec) (s : State) : ((Act.eng r).apply s).tasks = s.tasks := rfl
@[simp] theorem Act.eng_trace (r : EngRec) (s : State) : ((Act.eng r).apply s).trace = s.trace := rfl
@[simp] theorem Act.eng_sun (r : EngRec) (s : State) : ((Act.eng r).apply s).sun = s.sun := rfl
@[simp] theorem Act.eng_clk (r : EngRec) (s : State) : ((Act.eng r).apply s).clk = s.clk := rfl
@[simp] theorem Act.eng_svc (r : EngRec) (s : State) : ((Act.eng r).apply s).svc = s.svc := rfl
@[simp] theorem Act.eng_tines (r : EngRec) (s : State) : ((Act.eng r).apply s).tines = s.tines := rfl
@[simp] theorem Act.eng_chals (r : EngRec) (s : State) : ((Act.eng r).apply s).chals = s.chals := rfl
@[simp] theorem Act.eng_pending (r : EngRec) (s : State) : ((Act.eng r).apply s).pending = s.pending := rfl
@[simp] theorem Act.eng_rd (r : EngRec) (s : State) (f : Fld) (i j l : Nat) : ((Act.eng r).apply s).rd f i j l = s.rd f i j l := rfl
@[simp] theorem Act.eng_fnr (r : EngRec) (s : State) (l : Nat) : ((Act.eng r).apply s).fnr l = s.fnr l := rfl
@[simp] theorem Act.eng_ringr (r : EngRec) (s : State) (l : Nat) : ((Act.eng r).apply s).ringr l = s.ringr l := rfl
@[simp] theorem Act.eng_lane (r : EngRec) (s : State) (l : Nat) : ((Act.eng r).apply s).lane l = s.lane l := rfl
@[simp] theorem Act.eng_chan (r : EngRec) (s : State) (l : Nat) : ((Act.eng r).apply s).chan l = s.chan l := rfl
@[simp] theorem Act.eng_slot (r : EngRec) (s : State) (l : Nat) : ((Act.eng r).apply s).slot l = s.slot l := rfl
@[simp] theorem Act.eng_gauge (r : EngRec) (s : State) (l : Nat) : ((Act.eng r).apply s).gauge l = s.gauge l := rfl
@[simp] theorem Act.eng_keepLoc (r : EngRec) (s : State) (l : Nat) : ((Act.eng r).apply s).keepLoc l = s.keepLoc l := rfl
@[simp] theorem Act.eng_keyr (r : EngRec) (s : State) (l : Nat) : ((Act.eng r).apply s).keyr l = s.keyr l := rfl
@[simp] theorem Act.eng_port (r : EngRec) (s : State) (l : Nat) : ((Act.eng r).apply s).port l = s.port l := rfl
@[simp] theorem Act.eng_bus (r : EngRec) (s : State) (l : Nat) : ((Act.eng r).apply s).bus l = s.bus l := rfl
@[simp] theorem Act.eng_src (r : EngRec) (s : State) (l : Nat) : ((Act.eng r).apply s).src l = s.src l := rfl
@[simp] theorem Act.eng_icv (r : EngRec) (s : State) (l : Nat) : ((Act.eng r).apply s).icv l = s.icv l := rfl
@[simp] theorem Act.eng_fcv (r : EngRec) (s : State) (l : Nat) : ((Act.eng r).apply s).fcv l = s.fcv l := rfl
@[simp] theorem Act.eng_group (r : EngRec) (s : State) (l : Nat) : ((Act.eng r).apply s).group l = s.group l := rfl
@[simp] theorem Act.eng_pair (r : EngRec) (s : State) (l : Nat) : ((Act.eng r).apply s).pair l = s.pair l := rfl
@[simp] theorem Act.eng_task (r : EngRec) (s : State) (l : Nat) : ((Act.eng r).apply s).task l = s.task l := rfl
@[simp] theorem Act.eng_traceRec (r : EngRec) (s : State) (l : Nat) : ((Act.eng r).apply s).traceRec l = s.traceRec l := rfl
@[simp] theorem Act.eng_tine (r : EngRec) (s : State) (l : Nat) : ((Act.eng r).apply s).tine l = s.tine l := rfl
@[simp] theorem Act.trace_same (key : Nat) (r : TraceRec) (s : State) : ((Act.trace key r).apply s).traceRec key = r := by
  simp [Act.apply, State.traceRec, Tab.get_put_same]
theorem Act.trace_ne (key key2 : Nat) (h : key ≠ key2) (r : TraceRec) (s : State) : ((Act.trace key r).apply s).traceRec key2 = s.traceRec key2 := by
  simp [Act.apply, State.traceRec, Tab.get_put_ne _ _ _ h]
@[simp] theorem Act.trace_regs (key : Nat) (r : TraceRec) (s : State) : ((Act.trace key r).apply s).regs = s.regs := rfl
@[simp] theorem Act.trace_time (key : Nat) (r : TraceRec) (s : State) : ((Act.trace key r).apply s).time = s.time := rfl
@[simp] theorem Act.trace_fns (key : Nat) (r : TraceRec) (s : State) : ((Act.trace key r).apply s).fns = s.fns := rfl
@[simp] theorem Act.trace_rings (key : Nat) (r : TraceRec) (s : State) : ((Act.trace key r).apply s).rings = s.rings := rfl
@[simp] theorem Act.trace_host (key : Nat) (r : TraceRec) (s : State) : ((Act.trace key r).apply s).host = s.host := rfl
@[simp] theorem Act.trace_lanes (key : Nat) (r : TraceRec) (s : State) : ((Act.trace key r).apply s).lanes = s.lanes := rfl
@[simp] theorem Act.trace_out (key : Nat) (r : TraceRec) (s : State) : ((Act.trace key r).apply s).out = s.out := rfl
@[simp] theorem Act.trace_freeCtr (key : Nat) (r : TraceRec) (s : State) : ((Act.trace key r).apply s).freeCtr = s.freeCtr := rfl
@[simp] theorem Act.trace_chans (key : Nat) (r : TraceRec) (s : State) : ((Act.trace key r).apply s).chans = s.chans := rfl
@[simp] theorem Act.trace_slots (key : Nat) (r : TraceRec) (s : State) : ((Act.trace key r).apply s).slots = s.slots := rfl
@[simp] theorem Act.trace_gauges (key : Nat) (r : TraceRec) (s : State) : ((Act.trace key r).apply s).gauges = s.gauges := rfl
@[simp] theorem Act.trace_keepLocs (key : Nat) (r : TraceRec) (s : State) : ((Act.trace key r).apply s).keepLocs = s.keepLocs := rfl
@[simp] theorem Act.trace_keep (key : Nat) (r : TraceRec) (s : State) : ((Act.trace key r).apply s).keep = s.keep := rfl
@[simp] theorem Act.trace_keys (key : Nat) (r : TraceRec) (s : State) : ((Act.trace key r).apply s).keys = s.keys := rfl
@[simp] theorem Act.trace_ports (key : Nat) (r : TraceRec) (s : State) : ((Act.trace key r).apply s).ports = s.ports := rfl
@[simp] theorem Act.trace_twb (key : Nat) (r : TraceRec) (s : State) : ((Act.trace key r).apply s).twb = s.twb := rfl
@[simp] theorem Act.trace_house (key : Nat) (r : TraceRec) (s : State) : ((Act.trace key r).apply s).house = s.house := rfl
@[simp] theorem Act.trace_grid (key : Nat) (r : TraceRec) (s : State) : ((Act.trace key r).apply s).grid = s.grid := rfl
@[simp] theorem Act.trace_srcs (key : Nat) (r : TraceRec) (s : State) : ((Act.trace key r).apply s).srcs = s.srcs := rfl
@[simp] theorem Act.trace_icvs (key : Nat) (r : TraceRec) (s : State) : ((Act.trace key r).apply s).icvs = s.icvs := rfl
@[simp] theorem Act.trace_fcvs (key : Nat) (r : TraceRec) (s : State) : ((Act.trace key r).apply s).fcvs = s.fcvs := rfl
@[simp] theorem Act.trace_mains (key : Nat) (r : TraceRec) (s : State) : ((Act.trace key r).apply s).mains = s.mains := rfl
@[simp] theorem Act.trace_pendZ (key : Nat) (r : TraceRec) (s : State) : ((Act.trace key r).apply s).pendZ = s.pendZ := rfl
@[simp] theorem Act.trace_groups (key : Nat) (r : TraceRec) (s : State) : ((Act.trace key r).apply s).groups = s.groups := rfl
@[simp] theorem Act.trace_alm (key : Nat) (r : TraceRec) (s : State) : ((Act.trace key r).apply s).alm = s.alm := rfl
@[simp] theorem Act.trace_power (key : Nat) (r : TraceRec) (s : State) : ((Act.trace key r).apply s).power = s.power := rfl
@[simp] theorem Act.trace_pairs (key : Nat) (r : TraceRec) (s : State) : ((Act.trace key r).apply s).pairs = s.pairs := rfl
@[simp] theorem Act.trace_tasks (key : Nat) (r : TraceRec) (s : State) : ((Act.trace key r).apply s).tasks = s.tasks := rfl
@[simp] theorem Act.trace_eng (key : Nat) (r : TraceRec) (s : State) : ((Act.trace key r).apply s).eng = s.eng := rfl
@[simp] theorem Act.trace_sun (key : Nat) (r : TraceRec) (s : State) : ((Act.trace key r).apply s).sun = s.sun := rfl
@[simp] theorem Act.trace_clk (key : Nat) (r : TraceRec) (s : State) : ((Act.trace key r).apply s).clk = s.clk := rfl
@[simp] theorem Act.trace_svc (key : Nat) (r : TraceRec) (s : State) : ((Act.trace key r).apply s).svc = s.svc := rfl
@[simp] theorem Act.trace_tines (key : Nat) (r : TraceRec) (s : State) : ((Act.trace key r).apply s).tines = s.tines := rfl
@[simp] theorem Act.trace_chals (key : Nat) (r : TraceRec) (s : State) : ((Act.trace key r).apply s).chals = s.chals := rfl
@[simp] theorem Act.trace_pending (key : Nat) (r : TraceRec) (s : State) : ((Act.trace key r).apply s).pending = s.pending := rfl
@[simp] theorem Act.trace_rd (key : Nat) (r : TraceRec) (s : State) (f : Fld) (i j l : Nat) : ((Act.trace key r).apply s).rd f i j l = s.rd f i j l := rfl
@[simp] theorem Act.trace_fnr (key : Nat) (r : TraceRec) (s : State) (l : Nat) : ((Act.trace key r).apply s).fnr l = s.fnr l := rfl
@[simp] theorem Act.trace_ringr (key : Nat) (r : TraceRec) (s : State) (l : Nat) : ((Act.trace key r).apply s).ringr l = s.ringr l := rfl
@[simp] theorem Act.trace_lane (key : Nat) (r : TraceRec) (s : State) (l : Nat) : ((Act.trace key r).apply s).lane l = s.lane l := rfl
@[simp] theorem Act.trace_chan (key : Nat) (r : TraceRec) (s : State) (l : Nat) : ((Act.trace key r).apply s).chan l = s.chan l := rfl
@[simp] theorem Act.trace_slot (key : Nat) (r : TraceRec) (s : State) (l : Nat) : ((Act.trace key r).apply s).slot l = s.slot l := rfl
@[simp] theorem Act.trace_gauge (key : Nat) (r : TraceRec) (s : State) (l : Nat) : ((Act.trace key r).apply s).gauge l = s.gauge l := rfl
@[simp] theorem Act.trace_keepLoc (key : Nat) (r : TraceRec) (s : State) (l : Nat) : ((Act.trace key r).apply s).keepLoc l = s.keepLoc l := rfl
@[simp] theorem Act.trace_keyr (key : Nat) (r : TraceRec) (s : State) (l : Nat) : ((Act.trace key r).apply s).keyr l = s.keyr l := rfl
@[simp] theorem Act.trace_port (key : Nat) (r : TraceRec) (s : State) (l : Nat) : ((Act.trace key r).apply s).port l = s.port l := rfl
@[simp] theorem Act.trace_bus (key : Nat) (r : TraceRec) (s : State) (l : Nat) : ((Act.trace key r).apply s).bus l = s.bus l := rfl
@[simp] theorem Act.trace_src (key : Nat) (r : TraceRec) (s : State) (l : Nat) : ((Act.trace key r).apply s).src l = s.src l := rfl
@[simp] theorem Act.trace_icv (key : Nat) (r : TraceRec) (s : State) (l : Nat) : ((Act.trace key r).apply s).icv l = s.icv l := rfl
@[simp] theorem Act.trace_fcv (key : Nat) (r : TraceRec) (s : State) (l : Nat) : ((Act.trace key r).apply s).fcv l = s.fcv l := rfl
@[simp] theorem Act.trace_group (key : Nat) (r : TraceRec) (s : State) (l : Nat) : ((Act.trace key r).apply s).group l = s.group l := rfl
@[simp] theorem Act.trace_pair (key : Nat) (r : TraceRec) (s : State) (l : Nat) : ((Act.trace key r).apply s).pair l = s.pair l := rfl
@[simp] theorem Act.trace_task (key : Nat) (r : TraceRec) (s : State) (l : Nat) : ((Act.trace key r).apply s).task l = s.task l := rfl
@[simp] theorem Act.trace_tine (key : Nat) (r : TraceRec) (s : State) (l : Nat) : ((Act.trace key r).apply s).tine l = s.tine l := rfl
@[simp] theorem Act.sun_same (r : SunRec) (s : State) : ((Act.sun r).apply s).sun = r := rfl
@[simp] theorem Act.sun_regs (r : SunRec) (s : State) : ((Act.sun r).apply s).regs = s.regs := rfl
@[simp] theorem Act.sun_time (r : SunRec) (s : State) : ((Act.sun r).apply s).time = s.time := rfl
@[simp] theorem Act.sun_fns (r : SunRec) (s : State) : ((Act.sun r).apply s).fns = s.fns := rfl
@[simp] theorem Act.sun_rings (r : SunRec) (s : State) : ((Act.sun r).apply s).rings = s.rings := rfl
@[simp] theorem Act.sun_host (r : SunRec) (s : State) : ((Act.sun r).apply s).host = s.host := rfl
@[simp] theorem Act.sun_lanes (r : SunRec) (s : State) : ((Act.sun r).apply s).lanes = s.lanes := rfl
@[simp] theorem Act.sun_out (r : SunRec) (s : State) : ((Act.sun r).apply s).out = s.out := rfl
@[simp] theorem Act.sun_freeCtr (r : SunRec) (s : State) : ((Act.sun r).apply s).freeCtr = s.freeCtr := rfl
@[simp] theorem Act.sun_chans (r : SunRec) (s : State) : ((Act.sun r).apply s).chans = s.chans := rfl
@[simp] theorem Act.sun_slots (r : SunRec) (s : State) : ((Act.sun r).apply s).slots = s.slots := rfl
@[simp] theorem Act.sun_gauges (r : SunRec) (s : State) : ((Act.sun r).apply s).gauges = s.gauges := rfl
@[simp] theorem Act.sun_keepLocs (r : SunRec) (s : State) : ((Act.sun r).apply s).keepLocs = s.keepLocs := rfl
@[simp] theorem Act.sun_keep (r : SunRec) (s : State) : ((Act.sun r).apply s).keep = s.keep := rfl
@[simp] theorem Act.sun_keys (r : SunRec) (s : State) : ((Act.sun r).apply s).keys = s.keys := rfl
@[simp] theorem Act.sun_ports (r : SunRec) (s : State) : ((Act.sun r).apply s).ports = s.ports := rfl
@[simp] theorem Act.sun_twb (r : SunRec) (s : State) : ((Act.sun r).apply s).twb = s.twb := rfl
@[simp] theorem Act.sun_house (r : SunRec) (s : State) : ((Act.sun r).apply s).house = s.house := rfl
@[simp] theorem Act.sun_grid (r : SunRec) (s : State) : ((Act.sun r).apply s).grid = s.grid := rfl
@[simp] theorem Act.sun_srcs (r : SunRec) (s : State) : ((Act.sun r).apply s).srcs = s.srcs := rfl
@[simp] theorem Act.sun_icvs (r : SunRec) (s : State) : ((Act.sun r).apply s).icvs = s.icvs := rfl
@[simp] theorem Act.sun_fcvs (r : SunRec) (s : State) : ((Act.sun r).apply s).fcvs = s.fcvs := rfl
@[simp] theorem Act.sun_mains (r : SunRec) (s : State) : ((Act.sun r).apply s).mains = s.mains := rfl
@[simp] theorem Act.sun_pendZ (r : SunRec) (s : State) : ((Act.sun r).apply s).pendZ = s.pendZ := rfl
@[simp] theorem Act.sun_groups (r : SunRec) (s : State) : ((Act.sun r).apply s).groups = s.groups := rfl
@[simp] theorem Act.sun_alm (r : SunRec) (s : State) : ((Act.sun r).apply s).alm = s.alm := rfl
@[simp] theorem Act.sun_power (r : SunRec) (s : State) : ((Act.sun r).apply s).power = s.power := rfl
@[simp] theorem Act.sun_pairs (r : SunRec) (s : State) : ((Act.sun r).apply s).pairs = s.pairs := rfl
@[simp] theorem Act.sun_tasks (r : SunRec) (s : State) : ((Act.sun r).apply s).tasks = s.tasks := rfl
@[simp] theorem Act.sun_eng (r : SunRec) (s : State) : ((Act.sun r).apply s).eng = s.eng := rfl
@[simp] theorem Act.sun_trace (r : SunRec) (s : State) : ((Act.sun r).apply s).trace = s.trace := rfl
@[simp] theorem Act.sun_clk (r : SunRec) (s : State) : ((Act.sun r).apply s).clk = s.clk := rfl
@[simp] theorem Act.sun_svc (r : SunRec) (s : State) : ((Act.sun r).apply s).svc = s.svc := rfl
@[simp] theorem Act.sun_tines (r : SunRec) (s : State) : ((Act.sun r).apply s).tines = s.tines := rfl
@[simp] theorem Act.sun_chals (r : SunRec) (s : State) : ((Act.sun r).apply s).chals = s.chals := rfl
@[simp] theorem Act.sun_pending (r : SunRec) (s : State) : ((Act.sun r).apply s).pending = s.pending := rfl
@[simp] theorem Act.sun_rd (r : SunRec) (s : State) (f : Fld) (i j l : Nat) : ((Act.sun r).apply s).rd f i j l = s.rd f i j l := rfl
@[simp] theorem Act.sun_fnr (r : SunRec) (s : State) (l : Nat) : ((Act.sun r).apply s).fnr l = s.fnr l := rfl
@[simp] theorem Act.sun_ringr (r : SunRec) (s : State) (l : Nat) : ((Act.sun r).apply s).ringr l = s.ringr l := rfl
@[simp] theorem Act.sun_lane (r : SunRec) (s : State) (l : Nat) : ((Act.sun r).apply s).lane l = s.lane l := rfl
@[simp] theorem Act.sun_chan (r : SunRec) (s : State) (l : Nat) : ((Act.sun r).apply s).chan l = s.chan l := rfl
@[simp] theorem Act.sun_slot (r : SunRec) (s : State) (l : Nat) : ((Act.sun r).apply s).slot l = s.slot l := rfl
@[simp] theorem Act.sun_gauge (r : SunRec) (s : State) (l : Nat) : ((Act.sun r).apply s).gauge l = s.gauge l := rfl
@[simp] theorem Act.sun_keepLoc (r : SunRec) (s : State) (l : Nat) : ((Act.sun r).apply s).keepLoc l = s.keepLoc l := rfl
@[simp] theorem Act.sun_keyr (r : SunRec) (s : State) (l : Nat) : ((Act.sun r).apply s).keyr l = s.keyr l := rfl
@[simp] theorem Act.sun_port (r : SunRec) (s : State) (l : Nat) : ((Act.sun r).apply s).port l = s.port l := rfl
@[simp] theorem Act.sun_bus (r : SunRec) (s : State) (l : Nat) : ((Act.sun r).apply s).bus l = s.bus l := rfl
@[simp] theorem Act.sun_src (r : SunRec) (s : State) (l : Nat) : ((Act.sun r).apply s).src l = s.src l := rfl
@[simp] theorem Act.sun_icv (r : SunRec) (s : State) (l : Nat) : ((Act.sun r).apply s).icv l = s.icv l := rfl
@[simp] theorem Act.sun_fcv (r : SunRec) (s : State) (l : Nat) : ((Act.sun r).apply s).fcv l = s.fcv l := rfl
@[simp] theorem Act.sun_group (r : SunRec) (s : State) (l : Nat) : ((Act.sun r).apply s).group l = s.group l := rfl
@[simp] theorem Act.sun_pair (r : SunRec) (s : State) (l : Nat) : ((Act.sun r).apply s).pair l = s.pair l := rfl
@[simp] theorem Act.sun_task (r : SunRec) (s : State) (l : Nat) : ((Act.sun r).apply s).task l = s.task l := rfl
@[simp] theorem Act.sun_traceRec (r : SunRec) (s : State) (l : Nat) : ((Act.sun r).apply s).traceRec l = s.traceRec l := rfl
@[simp] theorem Act.sun_tine (r : SunRec) (s : State) (l : Nat) : ((Act.sun r).apply s).tine l = s.tine l := rfl
@[simp] theorem Act.clk_same (r : ClkRec) (s : State) : ((Act.clk r).apply s).clk = r := rfl
@[simp] theorem Act.clk_regs (r : ClkRec) (s : State) : ((Act.clk r).apply s).regs = s.regs := rfl
@[simp] theorem Act.clk_time (r : ClkRec) (s : State) : ((Act.clk r).apply s).time = s.time := rfl
@[simp] theorem Act.clk_fns (r : ClkRec) (s : State) : ((Act.clk r).apply s).fns = s.fns := rfl
@[simp] theorem Act.clk_rings (r : ClkRec) (s : State) : ((Act.clk r).apply s).rings = s.rings := rfl
@[simp] theorem Act.clk_host (r : ClkRec) (s : State) : ((Act.clk r).apply s).host = s.host := rfl
@[simp] theorem Act.clk_lanes (r : ClkRec) (s : State) : ((Act.clk r).apply s).lanes = s.lanes := rfl
@[simp] theorem Act.clk_out (r : ClkRec) (s : State) : ((Act.clk r).apply s).out = s.out := rfl
@[simp] theorem Act.clk_freeCtr (r : ClkRec) (s : State) : ((Act.clk r).apply s).freeCtr = s.freeCtr := rfl
@[simp] theorem Act.clk_chans (r : ClkRec) (s : State) : ((Act.clk r).apply s).chans = s.chans := rfl
@[simp] theorem Act.clk_slots (r : ClkRec) (s : State) : ((Act.clk r).apply s).slots = s.slots := rfl
@[simp] theorem Act.clk_gauges (r : ClkRec) (s : State) : ((Act.clk r).apply s).gauges = s.gauges := rfl
@[simp] theorem Act.clk_keepLocs (r : ClkRec) (s : State) : ((Act.clk r).apply s).keepLocs = s.keepLocs := rfl
@[simp] theorem Act.clk_keep (r : ClkRec) (s : State) : ((Act.clk r).apply s).keep = s.keep := rfl
@[simp] theorem Act.clk_keys (r : ClkRec) (s : State) : ((Act.clk r).apply s).keys = s.keys := rfl
@[simp] theorem Act.clk_ports (r : ClkRec) (s : State) : ((Act.clk r).apply s).ports = s.ports := rfl
@[simp] theorem Act.clk_twb (r : ClkRec) (s : State) : ((Act.clk r).apply s).twb = s.twb := rfl
@[simp] theorem Act.clk_house (r : ClkRec) (s : State) : ((Act.clk r).apply s).house = s.house := rfl
@[simp] theorem Act.clk_grid (r : ClkRec) (s : State) : ((Act.clk r).apply s).grid = s.grid := rfl
@[simp] theorem Act.clk_srcs (r : ClkRec) (s : State) : ((Act.clk r).apply s).srcs = s.srcs := rfl
@[simp] theorem Act.clk_icvs (r : ClkRec) (s : State) : ((Act.clk r).apply s).icvs = s.icvs := rfl
@[simp] theorem Act.clk_fcvs (r : ClkRec) (s : State) : ((Act.clk r).apply s).fcvs = s.fcvs := rfl
@[simp] theorem Act.clk_mains (r : ClkRec) (s : State) : ((Act.clk r).apply s).mains = s.mains := rfl
@[simp] theorem Act.clk_pendZ (r : ClkRec) (s : State) : ((Act.clk r).apply s).pendZ = s.pendZ := rfl
@[simp] theorem Act.clk_groups (r : ClkRec) (s : State) : ((Act.clk r).apply s).groups = s.groups := rfl
@[simp] theorem Act.clk_alm (r : ClkRec) (s : State) : ((Act.clk r).apply s).alm = s.alm := rfl
@[simp] theorem Act.clk_power (r : ClkRec) (s : State) : ((Act.clk r).apply s).power = s.power := rfl
@[simp] theorem Act.clk_pairs (r : ClkRec) (s : State) : ((Act.clk r).apply s).pairs = s.pairs := rfl
@[simp] theorem Act.clk_tasks (r : ClkRec) (s : State) : ((Act.clk r).apply s).tasks = s.tasks := rfl
@[simp] theorem Act.clk_eng (r : ClkRec) (s : State) : ((Act.clk r).apply s).eng = s.eng := rfl
@[simp] theorem Act.clk_trace (r : ClkRec) (s : State) : ((Act.clk r).apply s).trace = s.trace := rfl
@[simp] theorem Act.clk_sun (r : ClkRec) (s : State) : ((Act.clk r).apply s).sun = s.sun := rfl
@[simp] theorem Act.clk_svc (r : ClkRec) (s : State) : ((Act.clk r).apply s).svc = s.svc := rfl
@[simp] theorem Act.clk_tines (r : ClkRec) (s : State) : ((Act.clk r).apply s).tines = s.tines := rfl
@[simp] theorem Act.clk_chals (r : ClkRec) (s : State) : ((Act.clk r).apply s).chals = s.chals := rfl
@[simp] theorem Act.clk_pending (r : ClkRec) (s : State) : ((Act.clk r).apply s).pending = s.pending := rfl
@[simp] theorem Act.clk_rd (r : ClkRec) (s : State) (f : Fld) (i j l : Nat) : ((Act.clk r).apply s).rd f i j l = s.rd f i j l := rfl
@[simp] theorem Act.clk_fnr (r : ClkRec) (s : State) (l : Nat) : ((Act.clk r).apply s).fnr l = s.fnr l := rfl
@[simp] theorem Act.clk_ringr (r : ClkRec) (s : State) (l : Nat) : ((Act.clk r).apply s).ringr l = s.ringr l := rfl
@[simp] theorem Act.clk_lane (r : ClkRec) (s : State) (l : Nat) : ((Act.clk r).apply s).lane l = s.lane l := rfl
@[simp] theorem Act.clk_chan (r : ClkRec) (s : State) (l : Nat) : ((Act.clk r).apply s).chan l = s.chan l := rfl
@[simp] theorem Act.clk_slot (r : ClkRec) (s : State) (l : Nat) : ((Act.clk r).apply s).slot l = s.slot l := rfl
@[simp] theorem Act.clk_gauge (r : ClkRec) (s : State) (l : Nat) : ((Act.clk r).apply s).gauge l = s.gauge l := rfl
@[simp] theorem Act.clk_keepLoc (r : ClkRec) (s : State) (l : Nat) : ((Act.clk r).apply s).keepLoc l = s.keepLoc l := rfl
@[simp] theorem Act.clk_keyr (r : ClkRec) (s : State) (l : Nat) : ((Act.clk r).apply s).keyr l = s.keyr l := rfl
@[simp] theorem Act.clk_port (r : ClkRec) (s : State) (l : Nat) : ((Act.clk r).apply s).port l = s.port l := rfl
@[simp] theorem Act.clk_bus (r : ClkRec) (s : State) (l : Nat) : ((Act.clk r).apply s).bus l = s.bus l := rfl
@[simp] theorem Act.clk_src (r : ClkRec) (s : State) (l : Nat) : ((Act.clk r).apply s).src l = s.src l := rfl
@[simp] theorem Act.clk_icv (r : ClkRec) (s : State) (l : Nat) : ((Act.clk r).apply s).icv l = s.icv l := rfl
@[simp] theorem Act.clk_fcv (r : ClkRec) (s : State) (l : Nat) : ((Act.clk r).apply s).fcv l = s.fcv l := rfl
@[simp] theorem Act.clk_group (r : ClkRec) (s : State) (l : Nat) : ((Act.clk r).apply s).group l = s.group l := rfl
@[simp] theorem Act.clk_pair (r : ClkRec) (s : State) (l : Nat) : ((Act.clk r).apply s).pair l = s.pair l := rfl
@[simp] theorem Act.clk_task (r : ClkRec) (s : State) (l : Nat) : ((Act.clk r).apply s).task l = s.task l := rfl
@[simp] theorem Act.clk_traceRec (r : ClkRec) (s : State) (l : Nat) : ((Act.clk r).apply s).traceRec l = s.traceRec l := rfl
@[simp] theorem Act.clk_tine (r : ClkRec) (s : State) (l : Nat) : ((Act.clk r).apply s).tine l = s.tine l := rfl
@[simp] theorem Act.svc_same (r : SvcRec) (s : State) : ((Act.svc r).apply s).svc = r := rfl
@[simp] theorem Act.svc_regs (r : SvcRec) (s : State) : ((Act.svc r).apply s).regs = s.regs := rfl
@[simp] theorem Act.svc_time (r : SvcRec) (s : State) : ((Act.svc r).apply s).time = s.time := rfl
@[simp] theorem Act.svc_fns (r : SvcRec) (s : State) : ((Act.svc r).apply s).fns = s.fns := rfl
@[simp] theorem Act.svc_rings (r : SvcRec) (s : State) : ((Act.svc r).apply s).rings = s.rings := rfl
@[simp] theorem Act.svc_host (r : SvcRec) (s : State) : ((Act.svc r).apply s).host = s.host := rfl
@[simp] theorem Act.svc_lanes (r : SvcRec) (s : State) : ((Act.svc r).apply s).lanes = s.lanes := rfl
@[simp] theorem Act.svc_out (r : SvcRec) (s : State) : ((Act.svc r).apply s).out = s.out := rfl
@[simp] theorem Act.svc_freeCtr (r : SvcRec) (s : State) : ((Act.svc r).apply s).freeCtr = s.freeCtr := rfl
@[simp] theorem Act.svc_chans (r : SvcRec) (s : State) : ((Act.svc r).apply s).chans = s.chans := rfl
@[simp] theorem Act.svc_slots (r : SvcRec) (s : State) : ((Act.svc r).apply s).slots = s.slots := rfl
@[simp] theorem Act.svc_gauges (r : SvcRec) (s : State) : ((Act.svc r).apply s).gauges = s.gauges := rfl
@[simp] theorem Act.svc_keepLocs (r : SvcRec) (s : State) : ((Act.svc r).apply s).keepLocs = s.keepLocs := rfl
@[simp] theorem Act.svc_keep (r : SvcRec) (s : State) : ((Act.svc r).apply s).keep = s.keep := rfl
@[simp] theorem Act.svc_keys (r : SvcRec) (s : State) : ((Act.svc r).apply s).keys = s.keys := rfl
@[simp] theorem Act.svc_ports (r : SvcRec) (s : State) : ((Act.svc r).apply s).ports = s.ports := rfl
@[simp] theorem Act.svc_twb (r : SvcRec) (s : State) : ((Act.svc r).apply s).twb = s.twb := rfl
@[simp] theorem Act.svc_house (r : SvcRec) (s : State) : ((Act.svc r).apply s).house = s.house := rfl
@[simp] theorem Act.svc_grid (r : SvcRec) (s : State) : ((Act.svc r).apply s).grid = s.grid := rfl
@[simp] theorem Act.svc_srcs (r : SvcRec) (s : State) : ((Act.svc r).apply s).srcs = s.srcs := rfl
@[simp] theorem Act.svc_icvs (r : SvcRec) (s : State) : ((Act.svc r).apply s).icvs = s.icvs := rfl
@[simp] theorem Act.svc_fcvs (r : SvcRec) (s : State) : ((Act.svc r).apply s).fcvs = s.fcvs := rfl
@[simp] theorem Act.svc_mains (r : SvcRec) (s : State) : ((Act.svc r).apply s).mains = s.mains := rfl
@[simp] theorem Act.svc_pendZ (r : SvcRec) (s : State) : ((Act.svc r).apply s).pendZ = s.pendZ := rfl
@[simp] theorem Act.svc_groups (r : SvcRec) (s : State) : ((Act.svc r).apply s).groups = s.groups := rfl
@[simp] theorem Act.svc_alm (r : SvcRec) (s : State) : ((Act.svc r).apply s).alm = s.alm := rfl
@[simp] theorem Act.svc_power (r : SvcRec) (s : State) : ((Act.svc r).apply s).power = s.power := rfl
@[simp] theorem Act.svc_pairs (r : SvcRec) (s : State) : ((Act.svc r).apply s).pairs = s.pairs := rfl
@[simp] theorem Act.svc_tasks (r : SvcRec) (s : State) : ((Act.svc r).apply s).tasks = s.tasks := rfl
@[simp] theorem Act.svc_eng (r : SvcRec) (s : State) : ((Act.svc r).apply s).eng = s.eng := rfl
@[simp] theorem Act.svc_trace (r : SvcRec) (s : State) : ((Act.svc r).apply s).trace = s.trace := rfl
@[simp] theorem Act.svc_sun (r : SvcRec) (s : State) : ((Act.svc r).apply s).sun = s.sun := rfl
@[simp] theorem Act.svc_clk (r : SvcRec) (s : State) : ((Act.svc r).apply s).clk = s.clk := rfl
@[simp] theorem Act.svc_tines (r : SvcRec) (s : State) : ((Act.svc r).apply s).tines = s.tines := rfl
@[simp] theorem Act.svc_chals (r : SvcRec) (s : State) : ((Act.svc r).apply s).chals = s.chals := rfl
@[simp] theorem Act.svc_pending (r : SvcRec) (s : State) : ((Act.svc r).apply s).pending = s.pending := rfl
@[simp] theorem Act.svc_rd (r : SvcRec) (s : State) (f : Fld) (i j l : Nat) : ((Act.svc r).apply s).rd f i j l = s.rd f i j l := rfl
@[simp] theorem Act.svc_fnr (r : SvcRec) (s : State) (l : Nat) : ((Act.svc r).apply s).fnr l = s.fnr l := rfl
@[simp] theorem Act.svc_ringr (r : SvcRec) (s : State) (l : Nat) : ((Act.svc r).apply s).ringr l = s.ringr l := rfl
@[simp] theorem Act.svc_lane (r : SvcRec) (s : State) (l : Nat) : ((Act.svc r).apply s).lane l = s.lane l := rfl
@[simp] theorem Act.svc_chan (r : SvcRec) (s : State) (l : Nat) : ((Act.svc r).apply s).chan l = s.chan l := rfl
@[simp] theorem Act.svc_slot (r : SvcRec) (s : State) (l : Nat) : ((Act.svc r).apply s).slot l = s.slot l := rfl
@[simp] theorem Act.svc_gauge (r : SvcRec) (s : State) (l : Nat) : ((Act.svc r).apply s).gauge l = s.gauge l := rfl
@[simp] theorem Act.svc_keepLoc (r : SvcRec) (s : State) (l : Nat) : ((Act.svc r).apply s).keepLoc l = s.keepLoc l := rfl
@[simp] theorem Act.svc_keyr (r : SvcRec) (s : State) (l : Nat) : ((Act.svc r).apply s).keyr l = s.keyr l := rfl
@[simp] theorem Act.svc_port (r : SvcRec) (s : State) (l : Nat) : ((Act.svc r).apply s).port l = s.port l := rfl
@[simp] theorem Act.svc_bus (r : SvcRec) (s : State) (l : Nat) : ((Act.svc r).apply s).bus l = s.bus l := rfl
@[simp] theorem Act.svc_src (r : SvcRec) (s : State) (l : Nat) : ((Act.svc r).apply s).src l = s.src l := rfl
@[simp] theorem Act.svc_icv (r : SvcRec) (s : State) (l : Nat) : ((Act.svc r).apply s).icv l = s.icv l := rfl
@[simp] theorem Act.svc_fcv (r : SvcRec) (s : State) (l : Nat) : ((Act.svc r).apply s).fcv l = s.fcv l := rfl
@[simp] theorem Act.svc_group (r : SvcRec) (s : State) (l : Nat) : ((Act.svc r).apply s).group l = s.group l := rfl
@[simp] theorem Act.svc_pair (r : SvcRec) (s : State) (l : Nat) : ((Act.svc r).apply s).pair l = s.pair l := rfl
@[simp] theorem Act.svc_task (r : SvcRec) (s : State) (l : Nat) : ((Act.svc r).apply s).task l = s.task l := rfl
@[simp] theorem Act.svc_traceRec (r : SvcRec) (s : State) (l : Nat) : ((Act.svc r).apply s).traceRec l = s.traceRec l := rfl
@[simp] theorem Act.svc_tine (r : SvcRec) (s : State) (l : Nat) : ((Act.svc r).apply s).tine l = s.tine l := rfl
@[simp] theorem Act.tines_same (key : Nat) (r : TineCell) (s : State) : ((Act.tines key r).apply s).tine key = r := by
  simp [Act.apply, State.tine, Tab.get_put_same]
theorem Act.tines_ne (key key2 : Nat) (h : key ≠ key2) (r : TineCell) (s : State) : ((Act.tines key r).apply s).tine key2 = s.tine key2 := by
  simp [Act.apply, State.tine, Tab.get_put_ne _ _ _ h]
@[simp] theorem Act.tines_regs (key : Nat) (r : TineCell) (s : State) : ((Act.tines key r).apply s).regs = s.regs := rfl
@[simp] theorem Act.tines_time (key : Nat) (r : TineCell) (s : State) : ((Act.tines key r).apply s).time = s.time := rfl
@[simp] theorem Act.tines_fns (key : Nat) (r : TineCell) (s : State) : ((Act.tines key r).apply s).fns = s.fns := rfl
@[simp] theorem Act.tines_rings (key : Nat) (r : TineCell) (s : State) : ((Act.tines key r).apply s).rings = s.rings := rfl
@[simp] theorem Act.tines_host (key : Nat) (r : TineCell) (s : State) : ((Act.tines key r).apply s).host = s.host := rfl
@[simp] theorem Act.tines_lanes (key : Nat) (r : TineCell) (s : State) : ((Act.tines key r).apply s).lanes = s.lanes := rfl
@[simp] theorem Act.tines_out (key : Nat) (r : TineCell) (s : State) : ((Act.tines key r).apply s).out = s.out := rfl
@[simp] theorem Act.tines_freeCtr (key : Nat) (r : TineCell) (s : State) : ((Act.tines key r).apply s).freeCtr = s.freeCtr := rfl
@[simp] theorem Act.tines_chans (key : Nat) (r : TineCell) (s : State) : ((Act.tines key r).apply s).chans = s.chans := rfl
@[simp] theorem Act.tines_slots (key : Nat) (r : TineCell) (s : State) : ((Act.tines key r).apply s).slots = s.slots := rfl
@[simp] theorem Act.tines_gauges (key : Nat) (r : TineCell) (s : State) : ((Act.tines key r).apply s).gauges = s.gauges := rfl
@[simp] theorem Act.tines_keepLocs (key : Nat) (r : TineCell) (s : State) : ((Act.tines key r).apply s).keepLocs = s.keepLocs := rfl
@[simp] theorem Act.tines_keep (key : Nat) (r : TineCell) (s : State) : ((Act.tines key r).apply s).keep = s.keep := rfl
@[simp] theorem Act.tines_keys (key : Nat) (r : TineCell) (s : State) : ((Act.tines key r).apply s).keys = s.keys := rfl
@[simp] theorem Act.tines_ports (key : Nat) (r : TineCell) (s : State) : ((Act.tines key r).apply s).ports = s.ports := rfl
@[simp] theorem Act.tines_twb (key : Nat) (r : TineCell) (s : State) : ((Act.tines key r).apply s).twb = s.twb := rfl
@[simp] theorem Act.tines_house (key : Nat) (r : TineCell) (s : State) : ((Act.tines key r).apply s).house = s.house := rfl
@[simp] theorem Act.tines_grid (key : Nat) (r : TineCell) (s : State) : ((Act.tines key r).apply s).grid = s.grid := rfl
@[simp] theorem Act.tines_srcs (key : Nat) (r : TineCell) (s : State) : ((Act.tines key r).apply s).srcs = s.srcs := rfl
@[simp] theorem Act.tines_icvs (key : Nat) (r : TineCell) (s : State) : ((Act.tines key r).apply s).icvs = s.icvs := rfl
@[simp] theorem Act.tines_fcvs (key : Nat) (r : TineCell) (s : State) : ((Act.tines key r).apply s).fcvs = s.fcvs := rfl
@[simp] theorem Act.tines_mains (key : Nat) (r : TineCell) (s : State) : ((Act.tines key r).apply s).mains = s.mains := rfl
@[simp] theorem Act.tines_pendZ (key : Nat) (r : TineCell) (s : State) : ((Act.tines key r).apply s).pendZ = s.pendZ := rfl
@[simp] theorem Act.tines_groups (key : Nat) (r : TineCell) (s : State) : ((Act.tines key r).apply s).groups = s.groups := rfl
@[simp] theorem Act.tines_alm (key : Nat) (r : TineCell) (s : State) : ((Act.tines key r).apply s).alm = s.alm := rfl
@[simp] theorem Act.tines_power (key : Nat) (r : TineCell) (s : State) : ((Act.tines key r).apply s).power = s.power := rfl
@[simp] theorem Act.tines_pairs (key : Nat) (r : TineCell) (s : State) : ((Act.tines key r).apply s).pairs = s.pairs := rfl
@[simp] theorem Act.tines_tasks (key : Nat) (r : TineCell) (s : State) : ((Act.tines key r).apply s).tasks = s.tasks := rfl
@[simp] theorem Act.tines_eng (key : Nat) (r : TineCell) (s : State) : ((Act.tines key r).apply s).eng = s.eng := rfl
@[simp] theorem Act.tines_trace (key : Nat) (r : TineCell) (s : State) : ((Act.tines key r).apply s).trace = s.trace := rfl
@[simp] theorem Act.tines_sun (key : Nat) (r : TineCell) (s : State) : ((Act.tines key r).apply s).sun = s.sun := rfl
@[simp] theorem Act.tines_clk (key : Nat) (r : TineCell) (s : State) : ((Act.tines key r).apply s).clk = s.clk := rfl
@[simp] theorem Act.tines_svc (key : Nat) (r : TineCell) (s : State) : ((Act.tines key r).apply s).svc = s.svc := rfl
@[simp] theorem Act.tines_chals (key : Nat) (r : TineCell) (s : State) : ((Act.tines key r).apply s).chals = s.chals := rfl
@[simp] theorem Act.tines_pending (key : Nat) (r : TineCell) (s : State) : ((Act.tines key r).apply s).pending = s.pending := rfl
@[simp] theorem Act.tines_rd (key : Nat) (r : TineCell) (s : State) (f : Fld) (i j l : Nat) : ((Act.tines key r).apply s).rd f i j l = s.rd f i j l := rfl
@[simp] theorem Act.tines_fnr (key : Nat) (r : TineCell) (s : State) (l : Nat) : ((Act.tines key r).apply s).fnr l = s.fnr l := rfl
@[simp] theorem Act.tines_ringr (key : Nat) (r : TineCell) (s : State) (l : Nat) : ((Act.tines key r).apply s).ringr l = s.ringr l := rfl
@[simp] theorem Act.tines_lane (key : Nat) (r : TineCell) (s : State) (l : Nat) : ((Act.tines key r).apply s).lane l = s.lane l := rfl
@[simp] theorem Act.tines_chan (key : Nat) (r : TineCell) (s : State) (l : Nat) : ((Act.tines key r).apply s).chan l = s.chan l := rfl
@[simp] theorem Act.tines_slot (key : Nat) (r : TineCell) (s : State) (l : Nat) : ((Act.tines key r).apply s).slot l = s.slot l := rfl
@[simp] theorem Act.tines_gauge (key : Nat) (r : TineCell) (s : State) (l : Nat) : ((Act.tines key r).apply s).gauge l = s.gauge l := rfl
@[simp] theorem Act.tines_keepLoc (key : Nat) (r : TineCell) (s : State) (l : Nat) : ((Act.tines key r).apply s).keepLoc l = s.keepLoc l := rfl
@[simp] theorem Act.tines_keyr (key : Nat) (r : TineCell) (s : State) (l : Nat) : ((Act.tines key r).apply s).keyr l = s.keyr l := rfl
@[simp] theorem Act.tines_port (key : Nat) (r : TineCell) (s : State) (l : Nat) : ((Act.tines key r).apply s).port l = s.port l := rfl
@[simp] theorem Act.tines_bus (key : Nat) (r : TineCell) (s : State) (l : Nat) : ((Act.tines key r).apply s).bus l = s.bus l := rfl
@[simp] theorem Act.tines_src (key : Nat) (r : TineCell) (s : State) (l : Nat) : ((Act.tines key r).apply s).src l = s.src l := rfl
@[simp] theorem Act.tines_icv (key : Nat) (r : TineCell) (s : State) (l : Nat) : ((Act.tines key r).apply s).icv l = s.icv l := rfl
@[simp] theorem Act.tines_fcv (key : Nat) (r : TineCell) (s : State) (l : Nat) : ((Act.tines key r).apply s).fcv l = s.fcv l := rfl
@[simp] theorem Act.tines_group (key : Nat) (r : TineCell) (s : State) (l : Nat) : ((Act.tines key r).apply s).group l = s.group l := rfl
@[simp] theorem Act.tines_pair (key : Nat) (r : TineCell) (s : State) (l : Nat) : ((Act.tines key r).apply s).pair l = s.pair l := rfl
@[simp] theorem Act.tines_task (key : Nat) (r : TineCell) (s : State) (l : Nat) : ((Act.tines key r).apply s).task l = s.task l := rfl
@[simp] theorem Act.tines_traceRec (key : Nat) (r : TineCell) (s : State) (l : Nat) : ((Act.tines key r).apply s).traceRec l = s.traceRec l := rfl
@[simp] theorem Act.chals_same (r : List Nat) (s : State) : ((Act.chals r).apply s).chals = r := rfl
@[simp] theorem Act.chals_regs (r : List Nat) (s : State) : ((Act.chals r).apply s).regs = s.regs := rfl
@[simp] theorem Act.chals_time (r : List Nat) (s : State) : ((Act.chals r).apply s).time = s.time := rfl
@[simp] theorem Act.chals_fns (r : List Nat) (s : State) : ((Act.chals r).apply s).fns = s.fns := rfl
@[simp] theorem Act.chals_rings (r : List Nat) (s : State) : ((Act.chals r).apply s).rings = s.rings := rfl
@[simp] theorem Act.chals_host (r : List Nat) (s : State) : ((Act.chals r).apply s).host = s.host := rfl
@[simp] theorem Act.chals_lanes (r : List Nat) (s : State) : ((Act.chals r).apply s).lanes = s.lanes := rfl
@[simp] theorem Act.chals_out (r : List Nat) (s : State) : ((Act.chals r).apply s).out = s.out := rfl
@[simp] theorem Act.chals_freeCtr (r : List Nat) (s : State) : ((Act.chals r).apply s).freeCtr = s.freeCtr := rfl
@[simp] theorem Act.chals_chans (r : List Nat) (s : State) : ((Act.chals r).apply s).chans = s.chans := rfl
@[simp] theorem Act.chals_slots (r : List Nat) (s : State) : ((Act.chals r).apply s).slots = s.slots := rfl
@[simp] theorem Act.chals_gauges (r : List Nat) (s : State) : ((Act.chals r).apply s).gauges = s.gauges := rfl
@[simp] theorem Act.chals_keepLocs (r : List Nat) (s : State) : ((Act.chals r).apply s).keepLocs = s.keepLocs := rfl
@[simp] theorem Act.chals_keep (r : List Nat) (s : State) : ((Act.chals r).apply s).keep = s.keep := rfl
@[simp] theorem Act.chals_keys (r : List Nat) (s : State) : ((Act.chals r).apply s).keys = s.keys := rfl
@[simp] theorem Act.chals_ports (r : List Nat) (s : State) : ((Act.chals r).apply s).ports = s.ports := rfl
@[simp] theorem Act.chals_twb (r : List Nat) (s : State) : ((Act.chals r).apply s).twb = s.twb := rfl
@[simp] theorem Act.chals_house (r : List Nat) (s : State) : ((Act.chals r).apply s).house = s.house := rfl
@[simp] theorem Act.chals_grid (r : List Nat) (s : State) : ((Act.chals r).apply s).grid = s.grid := rfl
@[simp] theorem Act.chals_srcs (r : List Nat) (s : State) : ((Act.chals r).apply s).srcs = s.srcs := rfl
@[simp] theorem Act.chals_icvs (r : List Nat) (s : State) : ((Act.chals r).apply s).icvs = s.icvs := rfl
@[simp] theorem Act.chals_fcvs (r : List Nat) (s : State) : ((Act.chals r).apply s).fcvs = s.fcvs := rfl
@[simp] theorem Act.chals_mains (r : List Nat) (s : State) : ((Act.chals r).apply s).mains = s.mains := rfl
@[simp] theorem Act.chals_pendZ (r : List Nat) (s : State) : ((Act.chals r).apply s).pendZ = s.pendZ := rfl
@[simp] theorem Act.chals_groups (r : List Nat) (s : State) : ((Act.chals r).apply s).groups = s.groups := rfl
@[simp] theorem Act.chals_alm (r : List Nat) (s : State) : ((Act.chals r).apply s).alm = s.alm := rfl
@[simp] theorem Act.chals_power (r : List Nat) (s : State) : ((Act.chals r).apply s).power = s.power := rfl
@[simp] theorem Act.chals_pairs (r : List Nat) (s : State) : ((Act.chals r).apply s).pairs = s.pairs := rfl
@[simp] theorem Act.chals_tasks (r : List Nat) (s : State) : ((Act.chals r).apply s).tasks = s.tasks := rfl
@[simp] theorem Act.chals_eng (r : List Nat) (s : State) : ((Act.chals r).apply s).eng = s.eng := rfl
@[simp] theorem Act.chals_trace (r : List Nat) (s : State) : ((Act.chals r).apply s).trace = s.trace := rfl
@[simp] theorem Act.chals_sun (r : List Nat) (s : State) : ((Act.chals r).apply s).sun = s.sun := rfl
@[simp] theorem Act.chals_clk (r : List Nat) (s : State) : ((Act.chals r).apply s).clk = s.clk := rfl
@[simp] theorem Act.chals_svc (r : List Nat) (s : State) : ((Act.chals r).apply s).svc = s.svc := rfl
@[simp] theorem Act.chals_tines (r : List Nat) (s : State) : ((Act.chals r).apply s).tines = s.tines := rfl
@[simp] theorem Act.chals_pending (r : List Nat) (s : State) : ((Act.chals r).apply s).pending = s.pending := rfl
@[simp] theorem Act.chals_rd (r : List Nat) (s : State) (f : Fld) (i j l : Nat) : ((Act.chals r).apply s).rd f i j l = s.rd f i j l := rfl
@[simp] theorem Act.chals_fnr (r : List Nat) (s : State) (l : Nat) : ((Act.chals r).apply s).fnr l = s.fnr l := rfl
@[simp] theorem Act.chals_ringr (r : List Nat) (s : State) (l : Nat) : ((Act.chals r).apply s).ringr l = s.ringr l := rfl
@[simp] theorem Act.chals_lane (r : List Nat) (s : State) (l : Nat) : ((Act.chals r).apply s).lane l = s.lane l := rfl
@[simp] theorem Act.chals_chan (r : List Nat) (s : State) (l : Nat) : ((Act.chals r).apply s).chan l = s.chan l := rfl
@[simp] theorem Act.chals_slot (r : List Nat) (s : State) (l : Nat) : ((Act.chals r).apply s).slot l = s.slot l := rfl
@[simp] theorem Act.chals_gauge (r : List Nat) (s : State) (l : Nat) : ((Act.chals r).apply s).gauge l = s.gauge l := rfl
@[simp] theorem Act.chals_keepLoc (r : List Nat) (s : State) (l : Nat) : ((Act.chals r).apply s).keepLoc l = s.keepLoc l := rfl
@[simp] theorem Act.chals_keyr (r : List Nat) (s : State) (l : Nat) : ((Act.chals r).apply s).keyr l = s.keyr l := rfl
@[simp] theorem Act.chals_port (r : List Nat) (s : State) (l : Nat) : ((Act.chals r).apply s).port l = s.port l := rfl
@[simp] theorem Act.chals_bus (r : List Nat) (s : State) (l : Nat) : ((Act.chals r).apply s).bus l = s.bus l := rfl
@[simp] theorem Act.chals_src (r : List Nat) (s : State) (l : Nat) : ((Act.chals r).apply s).src l = s.src l := rfl
@[simp] theorem Act.chals_icv (r : List Nat) (s : State) (l : Nat) : ((Act.chals r).apply s).icv l = s.icv l := rfl
@[simp] theorem Act.chals_fcv (r : List Nat) (s : State) (l : Nat) : ((Act.chals r).apply s).fcv l = s.fcv l := rfl
@[simp] theorem Act.chals_group (r : List Nat) (s : State) (l : Nat) : ((Act.chals r).apply s).group l = s.group l := rfl
@[simp] theorem Act.chals_pair (r : List Nat) (s : State) (l : Nat) : ((Act.chals r).apply s).pair l = s.pair l := rfl
@[simp] theorem Act.chals_task (r : List Nat) (s : State) (l : Nat) : ((Act.chals r).apply s).task l = s.task l := rfl
@[simp] theorem Act.chals_traceRec (r : List Nat) (s : State) (l : Nat) : ((Act.chals r).apply s).traceRec l = s.traceRec l := rfl
@[simp] theorem Act.chals_tine (r : List Nat) (s : State) (l : Nat) : ((Act.chals r).apply s).tine l = s.tine l := rfl
end Sys2Proof.Machine
end

