-- ==== Sys2Proof/Laws/Outcome.lean ====
section
/-! SUPPORT. What a command's outcome is, by the shape of its meaning: for each of the shared outcomes, the state it answers
where the command takes effect. -/

set_option Elab.async false

namespace Sys2Proof.Machine

variable {i : Instr} {s : State} {P : State → Prop} {p : Prog}

/-- A meaning by `ends`, where the units run. -/
theorem does_of_ends (hs : s.stopped = false) (he : exec i s = ends p s) (hp : P (p.run s)) : Does i s P :=
  ⟨p.run s, by rw [he]; simp [ends, hs], hp⟩

/-- A meaning by `ends`, where they stand still: nothing happens. -/
theorem does_of_ends_stopped (hs : s.stopped = true) (he : exec i s = ends p s) (hp : P s) : Does i s P :=
  ⟨s, by rw [he]; simp [ends, hs], hp⟩

/-- A meaning by `endsAlways`. -/
theorem does_of_always (he : exec i s = endsAlways p s) (hp : P (p.run s)) : Does i s P := ⟨p.run s, he, hp⟩

/-- A happening at the pins, where no freeze latches it. -/
theorem does_of_latching {l : Latched} (hf : s.flag Reg.SVC_STATUS.FROZEN = false) (hm : s.modeReg ≠ mShip)
    (he : exec i s = latching l p s) (hp : P (p.run s)) : Does i s P :=
  ⟨p.run s, by rw [he]; simp [latching, endsAlways, hf, hm], hp⟩

/-- A write of the PF to a register that takes it. -/
theorem does_of_pfWrites {f : Fld} {a b : Nat} {bad : State → Nat} (hb : s.barOn = true) (ho : s.blockOn (f.addr a b 0) = true)
    (h0 : bad s = 0) (he : exec i s = pfWrites f a b bad p s) (hp : P (p.run s)) : Does i s P :=
  ⟨p.run s, by rw [he]; simp [pfWrites, endsAlways, when, hb, ho, h0], hp⟩

/-- The state in which an accepted opcode acts: the descriptor has its number. -/
def State.counted (s : State) : State := { s with host := { s.host with count := s.host.count + 1 } }

@[simp] theorem counted_rd (f : Fld) (i j k : Nat) : s.counted.rd f i j k = s.rd f i j k := rfl
@[simp] theorem counted_fnr (k : Nat) : s.counted.fnr k = s.fnr k := rfl
@[simp] theorem counted_ringr (k : Nat) : s.counted.ringr k = s.ringr k := rfl
@[simp] theorem counted_lane (k : Nat) : s.counted.lane k = s.lane k := rfl
@[simp] theorem counted_chan (k : Nat) : s.counted.chan k = s.chan k := rfl
@[simp] theorem counted_slot (k : Nat) : s.counted.slot k = s.slot k := rfl
@[simp] theorem counted_gauge (k : Nat) : s.counted.gauge k = s.gauge k := rfl
@[simp] theorem counted_keepLoc (k : Nat) : s.counted.keepLoc k = s.keepLoc k := rfl
@[simp] theorem counted_keyr (k : Nat) : s.counted.keyr k = s.keyr k := rfl
@[simp] theorem counted_port (k : Nat) : s.counted.port k = s.port k := rfl
@[simp] theorem counted_bus (k : Nat) : s.counted.bus k = s.bus k := rfl
@[simp] theorem counted_src (k : Nat) : s.counted.src k = s.src k := rfl
@[simp] theorem counted_icv (k : Nat) : s.counted.icv k = s.icv k := rfl
@[simp] theorem counted_fcv (k : Nat) : s.counted.fcv k = s.fcv k := rfl
@[simp] theorem counted_group (k : Nat) : s.counted.group k = s.group k := rfl
@[simp] theorem counted_pair (k : Nat) : s.counted.pair k = s.pair k := rfl
@[simp] theorem counted_task (k : Nat) : s.counted.task k = s.task k := rfl
@[simp] theorem counted_traceRec (k : Nat) : s.counted.traceRec k = s.traceRec k := rfl
@[simp] theorem counted_tine (k : Nat) : s.counted.tine k = s.tine k := rfl
@[simp] theorem counted_time : s.counted.time = s.time := rfl
@[simp] theorem counted_out : s.counted.out = s.out := rfl
@[simp] theorem counted_freeCtr : s.counted.freeCtr = s.freeCtr := rfl
@[simp] theorem counted_keep : s.counted.keep = s.keep := rfl
@[simp] theorem counted_house : s.counted.house = s.house := rfl
@[simp] theorem counted_grid : s.counted.grid = s.grid := rfl
@[simp] theorem counted_mains : s.counted.mains = s.mains := rfl
@[simp] theorem counted_pendZ : s.counted.pendZ = s.pendZ := rfl
@[simp] theorem counted_alm : s.counted.alm = s.alm := rfl
@[simp] theorem counted_power : s.counted.power = s.power := rfl
@[simp] theorem counted_eng : s.counted.eng = s.eng := rfl
@[simp] theorem counted_sun : s.counted.sun = s.sun := rfl
@[simp] theorem counted_clk : s.counted.clk = s.clk := rfl
@[simp] theorem counted_svc : s.counted.svc = s.svc := rfl
@[simp] theorem counted_pending : s.counted.pending = s.pending := rfl
@[simp] theorem counted_regs : s.counted.regs = s.regs := rfl
@[simp] theorem counted_keepLocs : s.counted.keepLocs = s.keepLocs := rfl
@[simp] theorem counted_keys : s.counted.keys = s.keys := rfl
@[simp] theorem counted_fences : s.counted.host.fences = s.host.fences := rfl
@[simp] theorem counted_runs : s.counted.host.runs = s.host.runs := rfl

/-- A descriptor that passes every check acts; before a CHARGE_TERMINATE the expired timers of its slot do (R193). -/
theorem does_of_accepted {o : Op} {c : Ctl} (hq : (opCode o == 0x13) = false) (h : s.accepts o c = true) (he : exec i s = opEnds o c s)
    (hp : P ((o.act c).run s.counted)) : Does i s P := by
  simp only [State.accepts, Bool.and_eq_true, Bool.not_eq_true', Option.isNone_iff_eq_none] at h
  obtain ⟨⟨⟨⟨h1, h2⟩, h3⟩, h4⟩, h5⟩ := h
  have h4' : issuerBad s.counted (opCode o) c = none := h4
  have h5' : ownBad s.counted (opCode o) (.ok o) c = none := h5
  refine ⟨(o.act c).run s.counted, ?_, hp⟩
  have hc : (s.takes c.fn c.ring && !s.fenced c.fn c.ring (wideFence o)) = true := by simp [h2, h3]
  have hr : (descRun (opCode o) (.ok o) c).run s = (o.act c).run s.counted := by
    rw [descRun, if_neg (by simpa using hq)]
    show Prog.run (match (issuerBad s.counted (opCode o) c).or (ownBad s.counted (opCode o) (.ok o) c) with
      | some (st, d) => complete c (opCode o) st 0 d
      | none => o.act c) s.counted = _
    rw [h4', h5']
    rfl
  rw [he, opEnds, ends, if_neg (by simp [h1])]
  show Host.Outcome.next ((if _ then descRun (opCode o) (.ok o) c else Prog.skip).run s) = _
  rw [if_pos hc, hr]

end Sys2Proof.Machine
end

