-- ==== Sys2Proof/Laws/Touch.lean ====
section
/-! SUPPORT. What a program can change, said once: every primitive update has a number (a register field's is its
place in the field table, the hidden tables follow from 700 on), a program TOUCHES the set of a mask `M` when each of its updates has
its number in `M`, and what has no number in `M` is as before. The files beside this one give the mask of every operation and of every
command's meaning. -/

set_option Elab.async false

namespace Sys2Proof.Machine

/-- The number of what a primitive update changes. -/
def Act.cell : Act → Nat
  | .reg f _ _ _ _ => f.id
  | .clear _ _ => 700
  | .time _ => 701
  | .fns _ _ => 702
  | .fnsMap _ => 702
  | .rings _ _ => 703
  | .ringsMap _ => 703
  | .host _ => 704
  | .lanes _ _ => 705
  | .lanesMap _ => 705
  | .out _ => 706
  | .freeCtr _ => 707
  | .chans _ _ => 708
  | .chansMap _ => 708
  | .slots _ _ => 709
  | .slotsMap _ => 709
  | .gauges _ _ => 710
  | .gaugesMap _ => 710
  | .keepLocs _ _ => 711
  | .keepLocsMap _ => 711
  | .keep _ => 712
  | .keys _ _ => 713
  | .keysMap _ => 713
  | .ports _ _ => 714
  | .portsMap _ => 714
  | .twb _ _ => 715
  | .twbMap _ => 715
  | .house _ => 716
  | .grid _ => 717
  | .srcs _ _ => 718
  | .srcsMap _ => 718
  | .icvs _ _ => 719
  | .icvsMap _ => 719
  | .fcvs _ _ => 720
  | .fcvsMap _ => 720
  | .mains _ => 721
  | .pendZ _ => 722
  | .groups _ _ => 723
  | .groupsMap _ => 723
  | .alm _ => 724
  | .power _ => 725
  | .pairs _ _ => 726
  | .pairsMap _ => 726
  | .tasks _ _ => 727
  | .tasksMap _ => 727
  | .eng _ => 728
  | .trace _ _ => 729
  | .traceMap _ => 729
  | .sun _ => 730
  | .clk _ => 731
  | .svc _ => 732
  | .tines _ _ => 733
  | .tinesMap _ => 733
  | .chals _ => 734

/-- Every update of a program has its number in the mask. -/
def Prog.Touches (M : Nat) : Prog → Prop
  | .skip => True
  | .act a => M.testBit a.cell = true
  | .seq p q => p.Touches M ∧ q.Touches M
  | .read k => ∀ s, (k s).Touches M

/-- A meaning always answers the next state of some program that touches the mask. -/
def RunsWithin (M : Nat) (e : State → Host.Outcome State Fault Refusal) : Prop :=
  ∀ s, ∃ p : Prog, p.Touches M ∧ e s = .next (p.run s)

theorem Prog.Touches.mono {p : Prog} {m M : Nat} (h : p.Touches m) (hm : m &&& M = m) : p.Touches M := by
  have hb : ∀ n, m.testBit n = true → M.testBit n = true := by
    intro n hn
    rw [← hm, Nat.testBit_and] at hn
    simp only [Bool.and_eq_true] at hn
    exact hn.2
  induction p with
  | skip => trivial
  | act a => exact hb _ h
  | seq p q ihp ihq => exact ⟨ihp h.1, ihq h.2⟩
  | read k ih => exact fun s => ih s (h s)

theorem RunsWithin.mono {e : State → Host.Outcome State Fault Refusal} {m M : Nat} (h : RunsWithin m e) (hm : m &&& M = m) :
    RunsWithin M e := fun s => (h s).imp fun _ hp => ⟨hp.1.mono hm, hp.2⟩

/-- What every update of a program keeps, the program keeps. -/
theorem Prog.Touches.keeps {M : Nat} {R : State → State → Prop} (refl : ∀ s, R s s)
    (trans : ∀ a b c, R a b → R b c → R a c) (one : ∀ (a : Act) (s : State), M.testBit a.cell = true → R s (a.apply s))
    {p : Prog} (h : p.Touches M) (s : State) : R s (p.run s) := by
  induction p generalizing s with
  | skip => exact refl s
  | act a => exact one a s h
  | seq p q ihp ihq => exact trans _ _ _ (ihp h.1 s) (ihq h.2 _)
  | read k ih => exact ih s (h s) s

/-- A register field outside the mask reads as before. -/
theorem Prog.Touches.rd {p : Prog} {M : Nat} (h : p.Touches M) (s : State) (f : Fld) (hf : M.testBit f.id = false)
    (hc : M.testBit 700 = false) (i j k : Nat) : (p.run s).rd f i j k = s.rd f i j k := by
  refine h.keeps (R := fun a b => b.rd f i j k = a.rd f i j k) (fun _ => rfl) (fun _ _ _ h1 h2 => h2.trans h1) ?_ s
  intro a s ha
  cases a <;> try rfl
  · rename_i g i' j' k' v
    refine State.rd_wr_ne _ _ _ _ _ _ _ _ _ _ (Or.inl ?_)
    rintro e
    simp only [Act.cell] at ha
    rw [← e, hf] at ha
    exact Bool.noConfusion ha
  · simp only [Act.cell] at ha
    rw [hc] at ha
    exact Bool.noConfusion ha

/-- The queue of waiting commands is no update's business. -/
@[simp] theorem Prog.run_pending (p : Prog) (s : State) : (p.run s).pending = s.pending := by
  induction p generalizing s with
  | skip => rfl
  | act a => cases a <;> first | rfl | exact State.wr_pending _ _ _ _ _ _
  | seq p q ihp ihq => exact (ihq _).trans (ihp _)
  | read k ih => exact ih s s

theorem Prog.Touches.time {p : Prog} {M : Nat} (h : p.Touches M) (s : State) (hf : M.testBit 701 = false) :
    (p.run s).time = s.time := by
  refine h.keeps (R := fun a b => b.time = a.time) (fun _ => rfl) (fun _ _ _ h1 h2 => h2.trans h1) ?_ s
  intro a s ha
  cases a <;> first | rfl | exact State.wr_time _ _ _ _ _ _ | (simp only [Act.cell] at ha; rw [hf] at ha; exact Bool.noConfusion ha)

theorem Prog.Touches.fns {p : Prog} {M : Nat} (h : p.Touches M) (s : State) (hf : M.testBit 702 = false) :
    (p.run s).fns = s.fns := by
  refine h.keeps (R := fun a b => b.fns = a.fns) (fun _ => rfl) (fun _ _ _ h1 h2 => h2.trans h1) ?_ s
  intro a s ha
  cases a <;> first | rfl | exact State.wr_fns _ _ _ _ _ _ | (simp only [Act.cell] at ha; rw [hf] at ha; exact Bool.noConfusion ha)

theorem Prog.Touches.rings {p : Prog} {M : Nat} (h : p.Touches M) (s : State) (hf : M.testBit 703 = false) :
    (p.run s).rings = s.rings := by
  refine h.keeps (R := fun a b => b.rings = a.rings) (fun _ => rfl) (fun _ _ _ h1 h2 => h2.trans h1) ?_ s
  intro a s ha
  cases a <;> first | rfl | exact State.wr_rings _ _ _ _ _ _ | (simp only [Act.cell] at ha; rw [hf] at ha; exact Bool.noConfusion ha)

theorem Prog.Touches.host {p : Prog} {M : Nat} (h : p.Touches M) (s : State) (hf : M.testBit 704 = false) :
    (p.run s).host = s.host := by
  refine h.keeps (R := fun a b => b.host = a.host) (fun _ => rfl) (fun _ _ _ h1 h2 => h2.trans h1) ?_ s
  intro a s ha
  cases a <;> first | rfl | exact State.wr_host _ _ _ _ _ _ | (simp only [Act.cell] at ha; rw [hf] at ha; exact Bool.noConfusion ha)

theorem Prog.Touches.lanes {p : Prog} {M : Nat} (h : p.Touches M) (s : State) (hf : M.testBit 705 = false) :
    (p.run s).lanes = s.lanes := by
  refine h.keeps (R := fun a b => b.lanes = a.lanes) (fun _ => rfl) (fun _ _ _ h1 h2 => h2.trans h1) ?_ s
  intro a s ha
  cases a <;> first | rfl | exact State.wr_lanes _ _ _ _ _ _ | (simp only [Act.cell] at ha; rw [hf] at ha; exact Bool.noConfusion ha)

theorem Prog.Touches.out {p : Prog} {M : Nat} (h : p.Touches M) (s : State) (hf : M.testBit 706 = false) :
    (p.run s).out = s.out := by
  refine h.keeps (R := fun a b => b.out = a.out) (fun _ => rfl) (fun _ _ _ h1 h2 => h2.trans h1) ?_ s
  intro a s ha
  cases a <;> first | rfl | exact State.wr_out _ _ _ _ _ _ | (simp only [Act.cell] at ha; rw [hf] at ha; exact Bool.noConfusion ha)

theorem Prog.Touches.freeCtr {p : Prog} {M : Nat} (h : p.Touches M) (s : State) (hf : M.testBit 707 = false) :
    (p.run s).freeCtr = s.freeCtr := by
  refine h.keeps (R := fun a b => b.freeCtr = a.freeCtr) (fun _ => rfl) (fun _ _ _ h1 h2 => h2.trans h1) ?_ s
  intro a s ha
  cases a <;> first | rfl | exact State.wr_freeCtr _ _ _ _ _ _ | (simp only [Act.cell] at ha; rw [hf] at ha; exact Bool.noConfusion ha)

theorem Prog.Touches.chans {p : Prog} {M : Nat} (h : p.Touches M) (s : State) (hf : M.testBit 708 = false) :
    (p.run s).chans = s.chans := by
  refine h.keeps (R := fun a b => b.chans = a.chans) (fun _ => rfl) (fun _ _ _ h1 h2 => h2.trans h1) ?_ s
  intro a s ha
  cases a <;> first | rfl | exact State.wr_chans _ _ _ _ _ _ | (simp only [Act.cell] at ha; rw [hf] at ha; exact Bool.noConfusion ha)

theorem Prog.Touches.slots {p : Prog} {M : Nat} (h : p.Touches M) (s : State) (hf : M.testBit 709 = false) :
    (p.run s).slots = s.slots := by
  refine h.keeps (R := fun a b => b.slots = a.slots) (fun _ => rfl) (fun _ _ _ h1 h2 => h2.trans h1) ?_ s
  intro a s ha
  cases a <;> first | rfl | exact State.wr_slots _ _ _ _ _ _ | (simp only [Act.cell] at ha; rw [hf] at ha; exact Bool.noConfusion ha)

theorem Prog.Touches.gauges {p : Prog} {M : Nat} (h : p.Touches M) (s : State) (hf : M.testBit 710 = false) :
    (p.run s).gauges = s.gauges := by
  refine h.keeps (R := fun a b => b.gauges = a.gauges) (fun _ => rfl) (fun _ _ _ h1 h2 => h2.trans h1) ?_ s
  intro a s ha
  cases a <;> first | rfl | exact State.wr_gauges _ _ _ _ _ _ | (simp only [Act.cell] at ha; rw [hf] at ha; exact Bool.noConfusion ha)

theorem Prog.Touches.keepLocs {p : Prog} {M : Nat} (h : p.Touches M) (s : State) (hf : M.testBit 711 = false) :
    (p.run s).keepLocs = s.keepLocs := by
  refine h.keeps (R := fun a b => b.keepLocs = a.keepLocs) (fun _ => rfl) (fun _ _ _ h1 h2 => h2.trans h1) ?_ s
  intro a s ha
  cases a <;> first | rfl | exact State.wr_keepLocs _ _ _ _ _ _ | (simp only [Act.cell] at ha; rw [hf] at ha; exact Bool.noConfusion ha)

theorem Prog.Touches.keep {p : Prog} {M : Nat} (h : p.Touches M) (s : State) (hf : M.testBit 712 = false) :
    (p.run s).keep = s.keep := by
  refine h.keeps (R := fun a b => b.keep = a.keep) (fun _ => rfl) (fun _ _ _ h1 h2 => h2.trans h1) ?_ s
  intro a s ha
  cases a <;> first | rfl | exact State.wr_keep _ _ _ _ _ _ | (simp only [Act.cell] at ha; rw [hf] at ha; exact Bool.noConfusion ha)

theorem Prog.Touches.keys {p : Prog} {M : Nat} (h : p.Touches M) (s : State) (hf : M.testBit 713 = false) :
    (p.run s).keys = s.keys := by
  refine h.keeps (R := fun a b => b.keys = a.keys) (fun _ => rfl) (fun _ _ _ h1 h2 => h2.trans h1) ?_ s
  intro a s ha
  cases a <;> first | rfl | exact State.wr_keys _ _ _ _ _ _ | (simp only [Act.cell] at ha; rw [hf] at ha; exact Bool.noConfusion ha)

theorem Prog.Touches.ports {p : Prog} {M : Nat} (h : p.Touches M) (s : State) (hf : M.testBit 714 = false) :
    (p.run s).ports = s.ports := by
  refine h.keeps (R := fun a b => b.ports = a.ports) (fun _ => rfl) (fun _ _ _ h1 h2 => h2.trans h1) ?_ s
  intro a s ha
  cases a <;> first | rfl | exact State.wr_ports _ _ _ _ _ _ | (simp only [Act.cell] at ha; rw [hf] at ha; exact Bool.noConfusion ha)

theorem Prog.Touches.twb {p : Prog} {M : Nat} (h : p.Touches M) (s : State) (hf : M.testBit 715 = false) :
    (p.run s).twb = s.twb := by
  refine h.keeps (R := fun a b => b.twb = a.twb) (fun _ => rfl) (fun _ _ _ h1 h2 => h2.trans h1) ?_ s
  intro a s ha
  cases a <;> first | rfl | exact State.wr_twb _ _ _ _ _ _ | (simp only [Act.cell] at ha; rw [hf] at ha; exact Bool.noConfusion ha)

theorem Prog.Touches.house {p : Prog} {M : Nat} (h : p.Touches M) (s : State) (hf : M.testBit 716 = false) :
    (p.run s).house = s.house := by
  refine h.keeps (R := fun a b => b.house = a.house) (fun _ => rfl) (fun _ _ _ h1 h2 => h2.trans h1) ?_ s
  intro a s ha
  cases a <;> first | rfl | exact State.wr_house _ _ _ _ _ _ | (simp only [Act.cell] at ha; rw [hf] at ha; exact Bool.noConfusion ha)

theorem Prog.Touches.grid {p : Prog} {M : Nat} (h : p.Touches M) (s : State) (hf : M.testBit 717 = false) :
    (p.run s).grid = s.grid := by
  refine h.keeps (R := fun a b => b.grid = a.grid) (fun _ => rfl) (fun _ _ _ h1 h2 => h2.trans h1) ?_ s
  intro a s ha
  cases a <;> first | rfl | exact State.wr_grid _ _ _ _ _ _ | (simp only [Act.cell] at ha; rw [hf] at ha; exact Bool.noConfusion ha)

theorem Prog.Touches.srcs {p : Prog} {M : Nat} (h : p.Touches M) (s : State) (hf : M.testBit 718 = false) :
    (p.run s).srcs = s.srcs := by
  refine h.keeps (R := fun a b => b.srcs = a.srcs) (fun _ => rfl) (fun _ _ _ h1 h2 => h2.trans h1) ?_ s
  intro a s ha
  cases a <;> first | rfl | exact State.wr_srcs _ _ _ _ _ _ | (simp only [Act.cell] at ha; rw [hf] at ha; exact Bool.noConfusion ha)

theorem Prog.Touches.icvs {p : Prog} {M : Nat} (h : p.Touches M) (s : State) (hf : M.testBit 719 = false) :
    (p.run s).icvs = s.icvs := by
  refine h.keeps (R := fun a b => b.icvs = a.icvs) (fun _ => rfl) (fun _ _ _ h1 h2 => h2.trans h1) ?_ s
  intro a s ha
  cases a <;> first | rfl | exact State.wr_icvs _ _ _ _ _ _ | (simp only [Act.cell] at ha; rw [hf] at ha; exact Bool.noConfusion ha)

theorem Prog.Touches.fcvs {p : Prog} {M : Nat} (h : p.Touches M) (s : State) (hf : M.testBit 720 = false) :
    (p.run s).fcvs = s.fcvs := by
  refine h.keeps (R := fun a b => b.fcvs = a.fcvs) (fun _ => rfl) (fun _ _ _ h1 h2 => h2.trans h1) ?_ s
  intro a s ha
  cases a <;> first | rfl | exact State.wr_fcvs _ _ _ _ _ _ | (simp only [Act.cell] at ha; rw [hf] at ha; exact Bool.noConfusion ha)

theorem Prog.Touches.mains {p : Prog} {M : Nat} (h : p.Touches M) (s : State) (hf : M.testBit 721 = false) :
    (p.run s).mains = s.mains := by
  refine h.keeps (R := fun a b => b.mains = a.mains) (fun _ => rfl) (fun _ _ _ h1 h2 => h2.trans h1) ?_ s
  intro a s ha
  cases a <;> first | rfl | exact State.wr_mains _ _ _ _ _ _ | (simp only [Act.cell] at ha; rw [hf] at ha; exact Bool.noConfusion ha)

theorem Prog.Touches.pendZ {p : Prog} {M : Nat} (h : p.Touches M) (s : State) (hf : M.testBit 722 = false) :
    (p.run s).pendZ = s.pendZ := by
  refine h.keeps (R := fun a b => b.pendZ = a.pendZ) (fun _ => rfl) (fun _ _ _ h1 h2 => h2.trans h1) ?_ s
  intro a s ha
  cases a <;> first | rfl | exact State.wr_pendZ _ _ _ _ _ _ | (simp only [Act.cell] at ha; rw [hf] at ha; exact Bool.noConfusion ha)

theorem Prog.Touches.groups {p : Prog} {M : Nat} (h : p.Touches M) (s : State) (hf : M.testBit 723 = false) :
    (p.run s).groups = s.groups := by
  refine h.keeps (R := fun a b => b.groups = a.groups) (fun _ => rfl) (fun _ _ _ h1 h2 => h2.trans h1) ?_ s
  intro a s ha
  cases a <;> first | rfl | exact State.wr_groups _ _ _ _ _ _ | (simp only [Act.cell] at ha; rw [hf] at ha; exact Bool.noConfusion ha)

theorem Prog.Touches.alm {p : Prog} {M : Nat} (h : p.Touches M) (s : State) (hf : M.testBit 724 = false) :
    (p.run s).alm = s.alm := by
  refine h.keeps (R := fun a b => b.alm = a.alm) (fun _ => rfl) (fun _ _ _ h1 h2 => h2.trans h1) ?_ s
  intro a s ha
  cases a <;> first | rfl | exact State.wr_alm _ _ _ _ _ _ | (simp only [Act.cell] at ha; rw [hf] at ha; exact Bool.noConfusion ha)

theorem Prog.Touches.power {p : Prog} {M : Nat} (h : p.Touches M) (s : State) (hf : M.testBit 725 = false) :
    (p.run s).power = s.power := by
  refine h.keeps (R := fun a b => b.power = a.power) (fun _ => rfl) (fun _ _ _ h1 h2 => h2.trans h1) ?_ s
  intro a s ha
  cases a <;> first | rfl | exact State.wr_power _ _ _ _ _ _ | (simp only [Act.cell] at ha; rw [hf] at ha; exact Bool.noConfusion ha)

theorem Prog.Touches.pairs {p : Prog} {M : Nat} (h : p.Touches M) (s : State) (hf : M.testBit 726 = false) :
    (p.run s).pairs = s.pairs := by
  refine h.keeps (R := fun a b => b.pairs = a.pairs) (fun _ => rfl) (fun _ _ _ h1 h2 => h2.trans h1) ?_ s
  intro a s ha
  cases a <;> first | rfl | exact State.wr_pairs _ _ _ _ _ _ | (simp only [Act.cell] at ha; rw [hf] at ha; exact Bool.noConfusion ha)

theorem Prog.Touches.tasks {p : Prog} {M : Nat} (h : p.Touches M) (s : State) (hf : M.testBit 727 = false) :
    (p.run s).tasks = s.tasks := by
  refine h.keeps (R := fun a b => b.tasks = a.tasks) (fun _ => rfl) (fun _ _ _ h1 h2 => h2.trans h1) ?_ s
  intro a s ha
  cases a <;> first | rfl | exact State.wr_tasks _ _ _ _ _ _ | (simp only [Act.cell] at ha; rw [hf] at ha; exact Bool.noConfusion ha)

theorem Prog.Touches.eng {p : Prog} {M : Nat} (h : p.Touches M) (s : State) (hf : M.testBit 728 = false) :
    (p.run s).eng = s.eng := by
  refine h.keeps (R := fun a b => b.eng = a.eng) (fun _ => rfl) (fun _ _ _ h1 h2 => h2.trans h1) ?_ s
  intro a s ha
  cases a <;> first | rfl | exact State.wr_eng _ _ _ _ _ _ | (simp only [Act.cell] at ha; rw [hf] at ha; exact Bool.noConfusion ha)

theorem Prog.Touches.trace {p : Prog} {M : Nat} (h : p.Touches M) (s : State) (hf : M.testBit 729 = false) :
    (p.run s).trace = s.trace := by
  refine h.keeps (R := fun a b => b.trace = a.trace) (fun _ => rfl) (fun _ _ _ h1 h2 => h2.trans h1) ?_ s
  intro a s ha
  cases a <;> first | rfl | exact State.wr_trace _ _ _ _ _ _ | (simp only [Act.cell] at ha; rw [hf] at ha; exact Bool.noConfusion ha)

theorem Prog.Touches.sun {p : Prog} {M : Nat} (h : p.Touches M) (s : State) (hf : M.testBit 730 = false) :
    (p.run s).sun = s.sun := by
  refine h.keeps (R := fun a b => b.sun = a.sun) (fun _ => rfl) (fun _ _ _ h1 h2 => h2.trans h1) ?_ s
  intro a s ha
  cases a <;> first | rfl | exact State.wr_sun _ _ _ _ _ _ | (simp only [Act.cell] at ha; rw [hf] at ha; exact Bool.noConfusion ha)

theorem Prog.Touches.clk {p : Prog} {M : Nat} (h : p.Touches M) (s : State) (hf : M.testBit 731 = false) :
    (p.run s).clk = s.clk := by
  refine h.keeps (R := fun a b => b.clk = a.clk) (fun _ => rfl) (fun _ _ _ h1 h2 => h2.trans h1) ?_ s
  intro a s ha
  cases a <;> first | rfl | exact State.wr_clk _ _ _ _ _ _ | (simp only [Act.cell] at ha; rw [hf] at ha; exact Bool.noConfusion ha)

theorem Prog.Touches.svc {p : Prog} {M : Nat} (h : p.Touches M) (s : State) (hf : M.testBit 732 = false) :
    (p.run s).svc = s.svc := by
  refine h.keeps (R := fun a b => b.svc = a.svc) (fun _ => rfl) (fun _ _ _ h1 h2 => h2.trans h1) ?_ s
  intro a s ha
  cases a <;> first | rfl | exact State.wr_svc _ _ _ _ _ _ | (simp only [Act.cell] at ha; rw [hf] at ha; exact Bool.noConfusion ha)

theorem Prog.Touches.tines {p : Prog} {M : Nat} (h : p.Touches M) (s : State) (hf : M.testBit 733 = false) :
    (p.run s).tines = s.tines := by
  refine h.keeps (R := fun a b => b.tines = a.tines) (fun _ => rfl) (fun _ _ _ h1 h2 => h2.trans h1) ?_ s
  intro a s ha
  cases a <;> first | rfl | exact State.wr_tines _ _ _ _ _ _ | (simp only [Act.cell] at ha; rw [hf] at ha; exact Bool.noConfusion ha)

theorem Prog.Touches.chals {p : Prog} {M : Nat} (h : p.Touches M) (s : State) (hf : M.testBit 734 = false) :
    (p.run s).chals = s.chals := by
  refine h.keeps (R := fun a b => b.chals = a.chals) (fun _ => rfl) (fun _ _ _ h1 h2 => h2.trans h1) ?_ s
  intro a s ha
  cases a <;> first | rfl | exact State.wr_chals _ _ _ _ _ _ | (simp only [Act.cell] at ha; rw [hf] at ha; exact Bool.noConfusion ha)

theorem touch_seqs_nil {M : Nat} : (seqs []).Touches M := trivial
theorem touch_seqs_cons {M : Nat} {p : Prog} {l : List Prog} (h : p.Touches M) (t : (seqs l).Touches M) : (seqs (p :: l)).Touches M := ⟨h, t⟩
theorem touch_seqs {M : Nat} {l : List Prog} (h : ∀ p ∈ l, p.Touches M) : (seqs l).Touches M := by
  induction l with
  | nil => trivial
  | cons p l ih => exact ⟨h p (by simp), ih fun q hq => h q (by simp [hq])⟩
theorem touch_each {M : Nat} {α : Type} {l : List α} {f : α → Prog} (h : ∀ x, (f x).Touches M) : (each l f).Touches M :=
  touch_seqs fun p hp => by obtain ⟨x, -, rfl⟩ := List.mem_map.1 hp; exact h x
theorem touch_when {M : Nat} {c : State → Bool} {p : Prog} (h : p.Touches M) : (when c p).Touches M := by
  intro s; simp only []; split
  · exact h
  · trivial
theorem touch_cond {M : Nat} {c : State → Bool} {p q : Prog} (h : p.Touches M) (h' : q.Touches M) : (cond c p q).Touches M := by
  intro s; simp only []; split
  · exact h
  · exact h'
theorem touch_read {M : Nat} {k : State → Prog} (h : ∀ s, (k s).Touches M) : (Prog.read k).Touches M := h
theorem touch_seq {M : Nat} {p q : Prog} (h : p.Touches M) (h' : q.Touches M) : (Prog.seq p q).Touches M := ⟨h, h'⟩
theorem touch_skip {M : Nat} : Prog.skip.Touches M := trivial
theorem touch_act {M : Nat} {a : Act} (h : M.testBit a.cell = true) : (Prog.act a).Touches M := h
theorem touch_setR {M : Nat} {f : Fld} {v i j k : Nat} (h : M.testBit f.id = true) : (setR f v i j k).Touches M := h
theorem touch_updR {M : Nat} {f : Fld} {v : State → Nat} {i j k : Nat} (h : M.testBit f.id = true) : (updR f v i j k).Touches M := fun _ => h
theorem touch_incSat {M : Nat} {f : Fld} {i j k : Nat} (h : M.testBit f.id = true) : (incSat f i j k).Touches M := fun _ => h
theorem touch_incWrap {M : Nat} {f : Fld} {i j k : Nat} (h : M.testBit f.id = true) : (incWrap f i j k).Touches M := fun _ => h
theorem touch_updTime {M : Nat} {f : Nat → Nat} (h : M.testBit 701 = true) : (updTime f).Touches M := fun _ => h
theorem touch_updFns {M : Nat} {k : Nat} {f : FnRec → FnRec} (h : M.testBit 702 = true) : (updFns k f).Touches M := fun _ => h
theorem touch_updRings {M : Nat} {k : Nat} {f : RingRec → RingRec} (h : M.testBit 703 = true) : (updRings k f).Touches M := fun _ => h
theorem touch_updHost {M : Nat} {f : HostRec → HostRec} (h : M.testBit 704 = true) : (updHost f).Touches M := fun _ => h
theorem touch_updLanes {M : Nat} {k : Nat} {f : LaneRec → LaneRec} (h : M.testBit 705 = true) : (updLanes k f).Touches M := fun _ => h
theorem touch_updOut {M : Nat} {f : List Out → List Out} (h : M.testBit 706 = true) : (updOut f).Touches M := fun _ => h
theorem touch_updFreeCtr {M : Nat} {f : Nat → Nat} (h : M.testBit 707 = true) : (updFreeCtr f).Touches M := fun _ => h
theorem touch_updChans {M : Nat} {k : Nat} {f : ChanRec → ChanRec} (h : M.testBit 708 = true) : (updChans k f).Touches M := fun _ => h
theorem touch_updSlots {M : Nat} {k : Nat} {f : SlotRec → SlotRec} (h : M.testBit 709 = true) : (updSlots k f).Touches M := fun _ => h
theorem touch_updGauges {M : Nat} {k : Nat} {f : GaugeRec → GaugeRec} (h : M.testBit 710 = true) : (updGauges k f).Touches M := fun _ => h
theorem touch_updKeepLocs {M : Nat} {k : Nat} {f : KeepLoc → KeepLoc} (h : M.testBit 711 = true) : (updKeepLocs k f).Touches M := fun _ => h
theorem touch_updKeep {M : Nat} {f : KeepRec → KeepRec} (h : M.testBit 712 = true) : (updKeep f).Touches M := fun _ => h
theorem touch_updKeys {M : Nat} {k : Nat} {f : KeyRec → KeyRec} (h : M.testBit 713 = true) : (updKeys k f).Touches M := fun _ => h
theorem touch_updPorts {M : Nat} {k : Nat} {f : PortRec → PortRec} (h : M.testBit 714 = true) : (updPorts k f).Touches M := fun _ => h
theorem touch_updTwb {M : Nat} {k : Nat} {f : BusRec → BusRec} (h : M.testBit 715 = true) : (updTwb k f).Touches M := fun _ => h
theorem touch_updHouse {M : Nat} {f : HouseRec → HouseRec} (h : M.testBit 716 = true) : (updHouse f).Touches M := fun _ => h
theorem touch_updGrid {M : Nat} {f : GridRec → GridRec} (h : M.testBit 717 = true) : (updGrid f).Touches M := fun _ => h
theorem touch_updSrcs {M : Nat} {k : Nat} {f : SrcRec → SrcRec} (h : M.testBit 718 = true) : (updSrcs k f).Touches M := fun _ => h
theorem touch_updIcvs {M : Nat} {k : Nat} {f : IcvRec → IcvRec} (h : M.testBit 719 = true) : (updIcvs k f).Touches M := fun _ => h
theorem touch_updFcvs {M : Nat} {k : Nat} {f : FcvRec → FcvRec} (h : M.testBit 720 = true) : (updFcvs k f).Touches M := fun _ => h
theorem touch_updMains {M : Nat} {f : MainsRec → MainsRec} (h : M.testBit 721 = true) : (updMains f).Touches M := fun _ => h
theorem touch_updPendZ {M : Nat} {f : List PendZ → List PendZ} (h : M.testBit 722 = true) : (updPendZ f).Touches M := fun _ => h
theorem touch_updGroups {M : Nat} {k : Nat} {f : GrpRec → GrpRec} (h : M.testBit 723 = true) : (updGroups k f).Touches M := fun _ => h
theorem touch_updAlm {M : Nat} {f : AlmRec → AlmRec} (h : M.testBit 724 = true) : (updAlm f).Touches M := fun _ => h
theorem touch_updPower {M : Nat} {f : PowerRec → PowerRec} (h : M.testBit 725 = true) : (updPower f).Touches M := fun _ => h
theorem touch_updPairs {M : Nat} {k : Nat} {f : PairRec → PairRec} (h : M.testBit 726 = true) : (updPairs k f).Touches M := fun _ => h
theorem touch_updTasks {M : Nat} {k : Nat} {f : TaskRec → TaskRec} (h : M.testBit 727 = true) : (updTasks k f).Touches M := fun _ => h
theorem touch_updEng {M : Nat} {f : EngRec → EngRec} (h : M.testBit 728 = true) : (updEng f).Touches M := fun _ => h
theorem touch_updTrace {M : Nat} {k : Nat} {f : TraceRec → TraceRec} (h : M.testBit 729 = true) : (updTrace k f).Touches M := fun _ => h
theorem touch_updSun {M : Nat} {f : SunRec → SunRec} (h : M.testBit 730 = true) : (updSun f).Touches M := fun _ => h
theorem touch_updClk {M : Nat} {f : ClkRec → ClkRec} (h : M.testBit 731 = true) : (updClk f).Touches M := fun _ => h
theorem touch_updSvc {M : Nat} {f : SvcRec → SvcRec} (h : M.testBit 732 = true) : (updSvc f).Touches M := fun _ => h
theorem touch_updTines {M : Nat} {k : Nat} {f : TineCell → TineCell} (h : M.testBit 733 = true) : (updTines k f).Touches M := fun _ => h
theorem touch_updChals {M : Nat} {f : List Nat → List Nat} (h : M.testBit 734 = true) : (updChals f).Touches M := fun _ => h
theorem touch_fnsMap {M : Nat} {g : _ → _ → _} (h : M.testBit 702 = true) : (Prog.act (.fnsMap g)).Touches M := h
theorem touch_ringsMap {M : Nat} {g : _ → _ → _} (h : M.testBit 703 = true) : (Prog.act (.ringsMap g)).Touches M := h
theorem touch_lanesMap {M : Nat} {g : _ → _ → _} (h : M.testBit 705 = true) : (Prog.act (.lanesMap g)).Touches M := h
theorem touch_chansMap {M : Nat} {g : _ → _ → _} (h : M.testBit 708 = true) : (Prog.act (.chansMap g)).Touches M := h
theorem touch_slotsMap {M : Nat} {g : _ → _ → _} (h : M.testBit 709 = true) : (Prog.act (.slotsMap g)).Touches M := h
theorem touch_gaugesMap {M : Nat} {g : _ → _ → _} (h : M.testBit 710 = true) : (Prog.act (.gaugesMap g)).Touches M := h
theorem touch_keepLocsMap {M : Nat} {g : _ → _ → _} (h : M.testBit 711 = true) : (Prog.act (.keepLocsMap g)).Touches M := h
theorem touch_keysMap {M : Nat} {g : _ → _ → _} (h : M.testBit 713 = true) : (Prog.act (.keysMap g)).Touches M := h
theorem touch_portsMap {M : Nat} {g : _ → _ → _} (h : M.testBit 714 = true) : (Prog.act (.portsMap g)).Touches M := h
theorem touch_twbMap {M : Nat} {g : _ → _ → _} (h : M.testBit 715 = true) : (Prog.act (.twbMap g)).Touches M := h
theorem touch_srcsMap {M : Nat} {g : _ → _ → _} (h : M.testBit 718 = true) : (Prog.act (.srcsMap g)).Touches M := h
theorem touch_icvsMap {M : Nat} {g : _ → _ → _} (h : M.testBit 719 = true) : (Prog.act (.icvsMap g)).Touches M := h
theorem touch_fcvsMap {M : Nat} {g : _ → _ → _} (h : M.testBit 720 = true) : (Prog.act (.fcvsMap g)).Touches M := h
theorem touch_groupsMap {M : Nat} {g : _ → _ → _} (h : M.testBit 723 = true) : (Prog.act (.groupsMap g)).Touches M := h
theorem touch_pairsMap {M : Nat} {g : _ → _ → _} (h : M.testBit 726 = true) : (Prog.act (.pairsMap g)).Touches M := h
theorem touch_tasksMap {M : Nat} {g : _ → _ → _} (h : M.testBit 727 = true) : (Prog.act (.tasksMap g)).Touches M := h
theorem touch_traceMap {M : Nat} {g : _ → _ → _} (h : M.testBit 729 = true) : (Prog.act (.traceMap g)).Touches M := h
theorem touch_tinesMap {M : Nat} {g : _ → _ → _} (h : M.testBit 733 = true) : (Prog.act (.tinesMap g)).Touches M := h
theorem touch_act_time {M : Nat} {r : _} (h : M.testBit 701 = true) : (Prog.act (.time r)).Touches M := h
theorem touch_act_fns {M : Nat} {k : Nat} {r : _} (h : M.testBit 702 = true) : (Prog.act (.fns k r)).Touches M := h
theorem touch_act_rings {M : Nat} {k : Nat} {r : _} (h : M.testBit 703 = true) : (Prog.act (.rings k r)).Touches M := h
theorem touch_act_host {M : Nat} {r : _} (h : M.testBit 704 = true) : (Prog.act (.host r)).Touches M := h
theorem touch_act_lanes {M : Nat} {k : Nat} {r : _} (h : M.testBit 705 = true) : (Prog.act (.lanes k r)).Touches M := h
theorem touch_act_out {M : Nat} {r : _} (h : M.testBit 706 = true) : (Prog.act (.out r)).Touches M := h
theorem touch_act_freeCtr {M : Nat} {r : _} (h : M.testBit 707 = true) : (Prog.act (.freeCtr r)).Touches M := h
theorem touch_act_chans {M : Nat} {k : Nat} {r : _} (h : M.testBit 708 = true) : (Prog.act (.chans k r)).Touches M := h
theorem touch_act_slots {M : Nat} {k : Nat} {r : _} (h : M.testBit 709 = true) : (Prog.act (.slots k r)).Touches M := h
theorem touch_act_gauges {M : Nat} {k : Nat} {r : _} (h : M.testBit 710 = true) : (Prog.act (.gauges k r)).Touches M := h
theorem touch_act_keepLocs {M : Nat} {k : Nat} {r : _} (h : M.testBit 711 = true) : (Prog.act (.keepLocs k r)).Touches M := h
theorem touch_act_keep {M : Nat} {r : _} (h : M.testBit 712 = true) : (Prog.act (.keep r)).Touches M := h
theorem touch_act_keys {M : Nat} {k : Nat} {r : _} (h : M.testBit 713 = true) : (Prog.act (.keys k r)).Touches M := h
theorem touch_act_ports {M : Nat} {k : Nat} {r : _} (h : M.testBit 714 = true) : (Prog.act (.ports k r)).Touches M := h
theorem touch_act_twb {M : Nat} {k : Nat} {r : _} (h : M.testBit 715 = true) : (Prog.act (.twb k r)).Touches M := h
theorem touch_act_house {M : Nat} {r : _} (h : M.testBit 716 = true) : (Prog.act (.house r)).Touches M := h
theorem touch_act_grid {M : Nat} {r : _} (h : M.testBit 717 = true) : (Prog.act (.grid r)).Touches M := h
theorem touch_act_srcs {M : Nat} {k : Nat} {r : _} (h : M.testBit 718 = true) : (Prog.act (.srcs k r)).Touches M := h
theorem touch_act_icvs {M : Nat} {k : Nat} {r : _} (h : M.testBit 719 = true) : (Prog.act (.icvs k r)).Touches M := h
theorem touch_act_fcvs {M : Nat} {k : Nat} {r : _} (h : M.testBit 720 = true) : (Prog.act (.fcvs k r)).Touches M := h
theorem touch_act_mains {M : Nat} {r : _} (h : M.testBit 721 = true) : (Prog.act (.mains r)).Touches M := h
theorem touch_act_pendZ {M : Nat} {r : _} (h : M.testBit 722 = true) : (Prog.act (.pendZ r)).Touches M := h
theorem touch_act_groups {M : Nat} {k : Nat} {r : _} (h : M.testBit 723 = true) : (Prog.act (.groups k r)).Touches M := h
theorem touch_act_alm {M : Nat} {r : _} (h : M.testBit 724 = true) : (Prog.act (.alm r)).Touches M := h
theorem touch_act_power {M : Nat} {r : _} (h : M.testBit 725 = true) : (Prog.act (.power r)).Touches M := h
theorem touch_act_pairs {M : Nat} {k : Nat} {r : _} (h : M.testBit 726 = true) : (Prog.act (.pairs k r)).Touches M := h
theorem touch_act_tasks {M : Nat} {k : Nat} {r : _} (h : M.testBit 727 = true) : (Prog.act (.tasks k r)).Touches M := h
theorem touch_act_eng {M : Nat} {r : _} (h : M.testBit 728 = true) : (Prog.act (.eng r)).Touches M := h
theorem touch_act_trace {M : Nat} {k : Nat} {r : _} (h : M.testBit 729 = true) : (Prog.act (.trace k r)).Touches M := h
theorem touch_act_sun {M : Nat} {r : _} (h : M.testBit 730 = true) : (Prog.act (.sun r)).Touches M := h
theorem touch_act_clk {M : Nat} {r : _} (h : M.testBit 731 = true) : (Prog.act (.clk r)).Touches M := h
theorem touch_act_svc {M : Nat} {r : _} (h : M.testBit 732 = true) : (Prog.act (.svc r)).Touches M := h
theorem touch_act_tines {M : Nat} {k : Nat} {r : _} (h : M.testBit 733 = true) : (Prog.act (.tines k r)).Touches M := h
theorem touch_act_chals {M : Nat} {r : _} (h : M.testBit 734 = true) : (Prog.act (.chals r)).Touches M := h
theorem touch_clear {M : Nat} {c : List Keep} {kp : Nat → Bool} (h : M.testBit 700 = true) : (Prog.act (.clear c kp)).Touches M := h
theorem touch_withFree {M : Nat} {k : Nat → Prog} (h : M.testBit 707 = true) (hk : ∀ v, (k v).Touches M) : (withFree k).Touches M :=
  fun _ => ⟨fun _ => h, hk _⟩

theorem ends_within {M : Nat} {p : Prog} (h : p.Touches M) : RunsWithin M (ends p) := by
  intro s
  by_cases hs : s.stopped = true
  · exact ⟨.skip, trivial, by simp [ends, hs]⟩
  · exact ⟨p, h, by simp [ends, hs]⟩

theorem endsAlways_within {M : Nat} {p : Prog} (h : p.Touches M) : RunsWithin M (endsAlways p) := fun _ => ⟨p, h, rfl⟩

theorem latching_within {M : Nat} {l : Latched} {p : Prog} (h : p.Touches M) (hl : M.testBit 732 = true) : RunsWithin M (latching l p) :=
  endsAlways_within fun s => by
    beta_reduce
    split
    · exact touch_updSvc hl
    · split
      · trivial
      · exact h

end Sys2Proof.Machine
end

