-- ==== Sys2Proof/Laws/WithinOps.lean ====
section
/-! SUPPORT. The mask of every operation and meaning of Machine/Ops.lean (see Laws/Touch.lean): what it can change at all. -/

set_option Elab.async false

set_option maxRecDepth 8192
set_option linter.unreachableTactic false
set_option linter.unusedTactic false

namespace Sys2Proof.Machine

theorem emit_touch {o : Out} : (emit o).Touches 0x400000000000000000000000000000000000000000000000000000000000000000000000000000000000000000000000000000000000000000000000000000000000000000000000000000000000000000000000000000000 := by
  unfold emit
  repeat' first | with_reducible apply touch_seqs_cons | with_reducible apply touch_seqs_nil | with_reducible apply touch_updOut | with_reducible apply touch_seq | with_reducible apply touch_skip | with_reducible apply touch_read | with_reducible intro _ | split | dsimp only | exact rfl

theorem msixRaise_touch {fn vec : Nat} : (msixRaise fn vec).Touches 0x400000000000000008000000000000000000000000000000000000000000000000000000000000000000000000000000000000000000000000000000000000000000000000000000000000000000000000000000000000000 := by
  unfold msixRaise
  repeat' first | with_reducible apply touch_seqs_cons | with_reducible apply touch_seqs_nil | with_reducible apply touch_setR | with_reducible apply touch_seq | with_reducible apply touch_skip | with_reducible apply touch_read | with_reducible (refine emit_touch.mono ?_) | with_reducible intro _ | split | dsimp only | exact rfl

theorem ringMessage_touch {fn r : Nat} : (ringMessage fn r).Touches 0x480000000000000008000000000000000000000000000000000000000000000000000000000000000000000000000000000000000000000000000000000000000000000000000000000000000000000000000000000000000 := by
  unfold ringMessage
  repeat' first | with_reducible apply touch_seqs_cons | with_reducible apply touch_seqs_nil | with_reducible apply touch_updRings | with_reducible apply touch_seq | with_reducible apply touch_skip | with_reducible apply touch_read | with_reducible (refine msixRaise_touch.mono ?_) | with_reducible intro _ | split | dsimp only | exact rfl

theorem ringModerate_touch {fn r : Nat} {now : Bool} : (ringModerate fn r now).Touches 0x480000000000000008000000000000000000000000000000000000000000000000000000000000000000000000000000000000000000000000000000000000000000000000000000000000000000000000000000000000000 := by
  unfold ringModerate
  repeat' first | with_reducible apply touch_seqs_cons | with_reducible apply touch_seqs_nil | with_reducible apply touch_updRings | with_reducible apply touch_seq | with_reducible apply touch_skip | with_reducible apply touch_read | with_reducible (refine ringMessage_touch.mono ?_) | with_reducible intro _ | split | dsimp only | exact rfl

theorem ringPost_touch {fn r : Nat} {entry : Nat → List Nat} {now : Bool} : (ringPost fn r entry now).Touches 0x480000000000000008000000000000000000000000000000000000000000000000000000000000000000000000200000000000000000000000000000000000000000000000000000000000000000000000000000000000000 := by
  unfold ringPost
  repeat' first | with_reducible apply touch_seqs_cons | with_reducible apply touch_seqs_nil | with_reducible apply touch_setR | with_reducible apply touch_seq | with_reducible apply touch_skip | with_reducible apply touch_read | with_reducible (refine emit_touch.mono ?_) | with_reducible (refine ringModerate_touch.mono ?_) | with_reducible intro _ | split | dsimp only | exact rfl

theorem takeToken_touch {fn cls : Nat} : (takeToken fn cls).Touches 0x40000000000000000000000000000000000000000000000000000000000000000000000000000000000000000000000000000000000000000000000000000000000000000000000000000000000000000000000000000000 := by
  unfold takeToken
  repeat' first | with_reducible apply touch_seqs_cons | with_reducible apply touch_seqs_nil | with_reducible apply touch_updFns | with_reducible apply touch_seq | with_reducible apply touch_skip | with_reducible apply touch_read | with_reducible intro _ | split | dsimp only | exact rfl

theorem writeStatus_touch {fn : Nat} : (writeStatus fn).Touches 0x440000000000000000000000000000000000000000000000000000000000000000000000000000000000000000000000000000000000000000000000000000000000000000000000000000000000000000000000000000000 := by
  unfold writeStatus
  repeat' first | with_reducible apply touch_seqs_cons | with_reducible apply touch_seqs_nil | with_reducible apply touch_updFns | with_reducible apply touch_seq | with_reducible apply touch_skip | with_reducible apply touch_read | with_reducible (refine emit_touch.mono ?_) | with_reducible intro _ | split | dsimp only | exact rfl

theorem deliver_touch {e : Ev} {fn : Nat} : (deliver e fn).Touches 0x4c0000000000000008000000000000000000000000000000000000000000000000000000000000000000010001200000000000000000000000000000000000000000000000000000000000000000000000000000000000000 := by
  unfold deliver
  repeat' first | with_reducible apply touch_seqs_cons | with_reducible apply touch_seqs_nil | with_reducible apply touch_incSat | with_reducible apply touch_updFns | with_reducible apply touch_updRings | with_reducible apply touch_seq | with_reducible apply touch_skip | with_reducible apply touch_read | with_reducible (refine ringPost_touch.mono ?_) | with_reducible (refine takeToken_touch.mono ?_) | with_reducible (refine writeStatus_touch.mono ?_) | with_reducible intro _ | split | dsimp only | exact rfl

theorem raise_touch {e : Ev} {fns : List Nat} : (raise e fns).Touches 0x4c0000000000000008000000000000000000000000000000000000000000000000000000000000000000010001200000000000000000000000000000000000000000000000000000000000000000000000000000000000000 := by
  unfold raise
  repeat' first | with_reducible apply touch_seqs_cons | with_reducible apply touch_seqs_nil | with_reducible apply touch_each | with_reducible apply touch_seq | with_reducible apply touch_skip | with_reducible apply touch_read | with_reducible (refine deliver_touch.mono ?_) | with_reducible intro _ | split | dsimp only | exact rfl

theorem raisePf_touch {typ src data : Nat} : (raisePf typ src data).Touches 0x4c0000000000000008000000000000000000000000000000000000000000000000000000000000000000010001200000000000000000000000000000000000000000000000000000000000000000000000000000000000000 := by
  unfold raisePf
  repeat' first | with_reducible apply touch_seqs_cons | with_reducible apply touch_seqs_nil | with_reducible apply touch_seq | with_reducible apply touch_skip | with_reducible apply touch_read | with_reducible (refine raise_touch.mono ?_) | with_reducible intro _ | split | dsimp only | exact rfl

theorem raiseSlot_touch {typ sl data : Nat} : (raiseSlot typ sl data).Touches 0x4c0000000000000008000000000000000000000000000000000000000000000000000000000000000000010001200000000000000000000000000000000000000000000000000000000000000000000000000000000000000 := by
  unfold raiseSlot
  repeat' first | with_reducible apply touch_seqs_cons | with_reducible apply touch_seqs_nil | with_reducible apply touch_seq | with_reducible apply touch_skip | with_reducible apply touch_read | with_reducible (refine raise_touch.mono ?_) | with_reducible intro _ | split | dsimp only | exact rfl

theorem complete_touch {c : Ctl} {opcode status : Nat} {result : Nat} {detail : Nat} : (complete c opcode status result detail).Touches 0x4c0000000000000008000000000000000000000000000000000000000000000000000000000000000000000000200000000000000000000000000000000000000000000000000000000000000000000000000000000000000 := by
  unfold complete
  repeat' first | with_reducible apply touch_seqs_cons | with_reducible apply touch_seqs_nil | with_reducible apply touch_updFns | with_reducible apply touch_updRings | with_reducible apply touch_seq | with_reducible apply touch_skip | with_reducible apply touch_read | with_reducible (refine ringPost_touch.mono ?_) | with_reducible intro _ | split | dsimp only | exact rfl

theorem runOn_touch {c : Ctl} {opcode : Nat} : (runOn c opcode).Touches 0x100000000000000000000000000000000000000000000000000000000000000000000000000000000000000000000000000000000000000000000000000000000000000000000000000000000000000000000000000000000 := by
  unfold runOn
  repeat' first | with_reducible apply touch_seqs_cons | with_reducible apply touch_seqs_nil | with_reducible apply touch_updHost | with_reducible apply touch_seq | with_reducible apply touch_skip | with_reducible apply touch_read | with_reducible intro _ | split | dsimp only | exact rfl

theorem histAdd_touch {c : Ctl} {opcode : Nat} : (histAdd c opcode).Touches 0x40000000000000000000000000000000000000000000000000000000000000000000000000000000000000000000000000000000000000000000000000000000000000000000000000000000000000000000000000000000 := by
  unfold histAdd
  repeat' first | with_reducible apply touch_seqs_cons | with_reducible apply touch_seqs_nil | with_reducible apply touch_updFns | with_reducible apply touch_seq | with_reducible apply touch_skip | with_reducible apply touch_read | with_reducible intro _ | split | dsimp only | exact rfl

theorem tokenNote_touch {c : Ctl} : (tokenNote c).Touches 0x100000000000000000000000000000000000000000000000000000000000000000000000000000000000000000000000000000000000000000000000000000000000000000000000000000000000000000000000000000000 := by
  unfold tokenNote
  repeat' first | with_reducible apply touch_seqs_cons | with_reducible apply touch_seqs_nil | with_reducible apply touch_updHost | with_reducible apply touch_seq | with_reducible apply touch_skip | with_reducible apply touch_read | with_reducible intro _ | split | dsimp only | exact rfl

theorem finishRun_touch {c : Ctl} {status : Nat} {result : Nat} {detail : Nat} : (finishRun c status result detail).Touches 0x5c0000000000000008000000000000000000000000000000000000000000000000000000000000000000000000200000000000000000000000000000000000000000000000000000000000000000000000000000000000000 := by
  unfold finishRun
  repeat' first | with_reducible apply touch_seqs_cons | with_reducible apply touch_seqs_nil | with_reducible apply touch_updHost | with_reducible apply touch_seq | with_reducible apply touch_skip | with_reducible apply touch_read | with_reducible (refine complete_touch.mono ?_) | with_reducible (refine histAdd_touch.mono ?_) | with_reducible (refine tokenNote_touch.mono ?_) | with_reducible intro _ | split | dsimp only | exact rfl

theorem raiseHealth_touch : (raiseHealth).Touches 0x4c0000000000000008000000000000000000000000000000000000000000000000000000000000000000010001200000000000000000000000000000000000000000000000000000000000000000000000000000000000000 := by
  unfold raiseHealth
  repeat' first | with_reducible apply touch_seqs_cons | with_reducible apply touch_seqs_nil | with_reducible apply touch_seq | with_reducible apply touch_skip | with_reducible apply touch_read | with_reducible (refine raisePf_touch.mono ?_) | with_reducible intro _ | split | dsimp only | exact rfl

theorem healthSet_touch {f : Fld} {v : State → Nat} {M : Nat} (hf : M.testBit f.id = true) (hm : 0x4c0000000000000008000000000000000000000000000000000000000000000000000000000000000000010001200000000000000000000000000000000000000000000000000000000000000000000000000000000000000 &&& M = 0x4c0000000000000008000000000000000000000000000000000000000000000000000000000000000000010001200000000000000000000000000000000000000000000000000000000000000000000000000000000000000) :
    (healthSet f v).Touches M := fun _ => by
  beta_reduce
  split
  · trivial
  · exact ⟨hf, raiseHealth_touch.mono hm⟩

end Sys2Proof.Machine
end

