-- ==== Sys2Proof/Laws/WithinAccess.lean ====
section
/-! SUPPORT. The mask of every operation and meaning of Machine/Access.lean (see Laws/Touch.lean): what it can change at all. -/

set_option Elab.async false

set_option maxRecDepth 8192
set_option linter.unreachableTactic false
set_option linter.unusedTactic false

namespace Sys2Proof.Machine

theorem accErr_touch {a cause : Nat} : (accErr a cause).Touches 0x1e00000000000000000000000000000000000000000000000000000000000000000000000000000000000000000000000000000000000000000000000000000000000000000000000000000 := by
  unfold accErr
  repeat' first | with_reducible apply touch_seqs_cons | with_reducible apply touch_seqs_nil | with_reducible apply touch_setR | with_reducible apply touch_incSat | with_reducible apply touch_seq | with_reducible apply touch_skip | with_reducible apply touch_read | with_reducible intro _ | split | dsimp only | exact rfl

theorem pfWrites_within {f : Fld} {i j : Nat} {bad : State → Nat} {p : Prog} {M : Nat} (h : p.Touches M)
    (hm : 0x1e00000000000000000000000000000000000000000000000000000000000000000000000000000000000000000000000000000000000000000000000000000000000000000000000000000 &&& M = 0x1e00000000000000000000000000000000000000000000000000000000000000000000000000000000000000000000000000000000000000000000000000000000000000000000000000000) : RunsWithin M (pfWrites f i j bad p) := by
  refine endsAlways_within (touch_when fun s => ?_)
  dsimp only
  split
  · exact accErr_touch.mono hm
  · split
    · exact h
    · exact accErr_touch.mono hm

end Sys2Proof.Machine
end

