-- ==== Sys2Proof/Laws/WithinGaugeOps.lean ====
section
/-! SUPPORT. The mask of every operation and meaning of Machine/GaugeOps.lean (see Laws/Touch.lean): what it can change at all. -/

set_option Elab.async false

set_option maxRecDepth 8192
set_option linter.unreachableTactic false
set_option linter.unusedTactic false

namespace Sys2Proof.Machine

theorem snapshot_touch {sl : Nat} {final : Bool} : (snapshot sl final).Touches 0x480000000000000008000000000000000000000000000000000000000000000000000000000000000000000000200000000050000000000000000000000000000000000000000000000000000000000000000000000000000 := by
  unfold snapshot
  repeat' first | with_reducible apply touch_seqs_cons | with_reducible apply touch_seqs_nil | with_reducible apply touch_setR | with_reducible apply touch_incSat | with_reducible apply touch_seq | with_reducible apply touch_skip | with_reducible apply touch_read | with_reducible (refine ringPost_touch.mono ?_) | with_reducible intro _ | split | dsimp only | exact rfl

theorem gaugeClear_touch {sl : Nat} : (gaugeClear sl).Touches 0x40000000000000000000000000000000000000000000000000000000000000000000000000000000000000000000000000000261f6d00000000000000000000000000000000000000000000000000000000000000000000000 := by
  unfold gaugeClear
  repeat' first | with_reducible apply touch_seqs_cons | with_reducible apply touch_seqs_nil | with_reducible apply touch_setR | with_reducible apply touch_updGauges | with_reducible apply touch_seq | with_reducible apply touch_skip | with_reducible apply touch_read | with_reducible intro _ | split | dsimp only | exact rfl

theorem finalSnapshot_touch {sl : Nat} : (finalSnapshot sl).Touches 0x44800000000000000080000000000000000000000000000000000000000000000000000000000000000000000002000000000761f6d00000000000000000000000000000000000000000000000000000000000000000000000 := by
  unfold finalSnapshot
  repeat' first | with_reducible apply touch_seqs_cons | with_reducible apply touch_seqs_nil | with_reducible apply touch_seq | with_reducible apply touch_skip | with_reducible apply touch_read | with_reducible (refine gaugeClear_touch.mono ?_) | with_reducible (refine snapshot_touch.mono ?_) | with_reducible intro _ | split | dsimp only | exact rfl

theorem warnLevel_touch {sl k lvl : Nat} : (warnLevel sl k lvl).Touches 0x4c0000000000000008000000000000000000000000000000000000000000000000000000000000000000010001200000001000000000000000000000000000000000000000000000000000000000000000000000000000000 := by
  unfold warnLevel
  repeat' first | with_reducible apply touch_seqs_cons | with_reducible apply touch_seqs_nil | with_reducible apply touch_updR | with_reducible apply touch_seq | with_reducible apply touch_skip | with_reducible apply touch_read | with_reducible (refine raiseSlot_touch.mono ?_) | with_reducible intro _ | split | dsimp only | exact rfl

theorem warnCheck_touch {sl : Nat} : (warnCheck sl).Touches 0x4c0000000000000008000000000000000000000000000000000000000000000000000000000000000000010001200000001000000000000000000000000000000000000000000000000000000000000000000000000000000 := by
  unfold warnCheck
  repeat' first | with_reducible apply touch_seqs_cons | with_reducible apply touch_seqs_nil | with_reducible apply touch_seq | with_reducible apply touch_skip | with_reducible apply touch_read | with_reducible (refine warnLevel_touch.mono ?_) | with_reducible intro _ | split | dsimp only | exact rfl

theorem warnFresh_touch {sl : Nat} : (warnFresh sl).Touches 0x4c0000000000000008000000000000000000000000000000000000000000000000000000000000000000010001200000001000000000000000000000000000000000000000000000000000000000000000000000000000000 := by
  unfold warnFresh
  repeat' first | with_reducible apply touch_seqs_cons | with_reducible apply touch_seqs_nil | with_reducible apply touch_setR | with_reducible apply touch_seq | with_reducible apply touch_skip | with_reducible apply touch_read | with_reducible (refine warnCheck_touch.mono ?_) | with_reducible intro _ | split | dsimp only | exact rfl

theorem gaugeDerive_touch {sl : Nat} : (gaugeDerive sl).Touches 0x110000000000000000000000000000000000000000000000000000000000000000000000000 := by
  unfold gaugeDerive
  repeat' first | with_reducible apply touch_seqs_cons | with_reducible apply touch_seqs_nil | with_reducible apply touch_setR | with_reducible apply touch_updR | with_reducible apply touch_seq | with_reducible apply touch_skip | with_reducible apply touch_read | with_reducible intro _ | split | dsimp only | exact rfl

theorem unrestoredEstimate_touch {sl : Nat} : (unrestoredEstimate sl).Touches 0x4c00000000000000080000000000000000000000000000000000000000000000000000000000000000000100012000000010001d0000000000000000000000000000000000000000000000000000000000000000000000000 := by
  unfold unrestoredEstimate
  repeat' first | with_reducible apply touch_seqs_cons | with_reducible apply touch_seqs_nil | with_reducible apply touch_setR | with_reducible apply touch_updR | with_reducible apply touch_seq | with_reducible apply touch_skip | with_reducible apply touch_read | with_reducible (refine warnCheck_touch.mono ?_) | with_reducible intro _ | split | dsimp only | exact rfl

theorem gaugeStart_touch {sl nominal : Nat} : (gaugeStart sl nominal).Touches 0x44c00000000000000080000000000000000000000000000000000000000000000000000000000000000000100012000000010001f2100000000000000000000000000000000000000000000000000000000000000000000000 := by
  unfold gaugeStart
  repeat' first | with_reducible apply touch_seqs_cons | with_reducible apply touch_seqs_nil | with_reducible apply touch_setR | with_reducible apply touch_updGauges | with_reducible apply touch_seq | with_reducible apply touch_skip | with_reducible apply touch_read | with_reducible (refine unrestoredEstimate_touch.mono ?_) | with_reducible (refine warnFresh_touch.mono ?_) | with_reducible intro _ | split | dsimp only | exact rfl

theorem moveCut_touch {sl vCut : Nat} : (moveCut sl vCut).Touches 0x40000000000000000000000000000000000000000000000000000000000000000000000000000000000000000000000000000001f2000000000000000000000000000000000000000000000000000000000000000000000000 := by
  unfold moveCut
  repeat' first | with_reducible apply touch_seqs_cons | with_reducible apply touch_seqs_nil | with_reducible apply touch_setR | with_reducible apply touch_updGauges | with_reducible apply touch_seq | with_reducible apply touch_skip | with_reducible apply touch_read | with_reducible (refine gaugeDerive_touch.mono ?_) | with_reducible intro _ | split | dsimp only | exact rfl

theorem takeAnchor_touch {sl code : Nat} : (takeAnchor sl code).Touches 0x4000000000000000000000000000000000000000000000000000000000000000000000000000000000000000000000000000000004800000000000000000000000000000000000000000000000000000000000000000000000 := by
  unfold takeAnchor
  repeat' first | with_reducible apply touch_seqs_cons | with_reducible apply touch_seqs_nil | with_reducible apply touch_setR | with_reducible apply touch_updGauges | with_reducible apply touch_seq | with_reducible apply touch_skip | with_reducible apply touch_read | with_reducible intro _ | split | dsimp only | exact rfl

theorem fullAnchor_touch {sl : Nat} : (fullAnchor sl).Touches 0x4000000000000000000000000000000000000000000000000000000000000000000000000000000000000000000000000000000194800000000000000000000000000000000000000000000000000000000000000000000000 := by
  unfold fullAnchor
  repeat' first | with_reducible apply touch_seqs_cons | with_reducible apply touch_seqs_nil | with_reducible apply touch_updR | with_reducible apply touch_updGauges | with_reducible apply touch_seq | with_reducible apply touch_skip | with_reducible apply touch_read | with_reducible (refine gaugeDerive_touch.mono ?_) | with_reducible (refine takeAnchor_touch.mono ?_) | with_reducible intro _ | split | dsimp only | exact rfl

theorem learn_touch {sl ql : Nat} : (learn sl ql).Touches 0x4c00000000000000080000000000000000000000000000000000000000000000000000000000000000000100012000000010201d0500000000000000000000000000000000000000000000000000000000000000000000000 := by
  unfold learn
  repeat' first | with_reducible apply touch_seqs_cons | with_reducible apply touch_seqs_nil | with_reducible apply touch_setR | with_reducible apply touch_incWrap | with_reducible apply touch_when | with_reducible apply touch_seq | with_reducible apply touch_skip | with_reducible apply touch_read | with_reducible (refine gaugeDerive_touch.mono ?_) | with_reducible (refine raiseSlot_touch.mono ?_) | with_reducible (refine warnFresh_touch.mono ?_) | with_reducible intro _ | split | dsimp only | exact rfl

theorem emptyAnchor_touch {sl : Nat} {valid : Bool} {ql : Option Nat} : (emptyAnchor sl valid ql).Touches 0x44c00000000000000080000000000000000000000000000000000000000000000000000000000000000000100012000000010201d4d00000000000000000000000000000000000000000000000000000000000000000000000 := by
  unfold emptyAnchor
  repeat' first | with_reducible apply touch_seqs_cons | with_reducible apply touch_seqs_nil | with_reducible apply touch_setR | with_reducible apply touch_updGauges | with_reducible apply touch_seq | with_reducible apply touch_skip | with_reducible apply touch_read | with_reducible (refine gaugeDerive_touch.mono ?_) | with_reducible (refine learn_touch.mono ?_) | with_reducible (refine takeAnchor_touch.mono ?_) | with_reducible intro _ | split | dsimp only | exact rfl

end Sys2Proof.Machine
end

