-- ==== Sys2Proof/Laws/WithinTwbOps.lean ====
section
/-! SUPPORT. The mask of every operation and meaning of Machine/TwbOps.lean (see Laws/Touch.lean): what it can change at all. -/

set_option Elab.async false

set_option maxRecDepth 8192
set_option linter.unreachableTactic false
set_option linter.unusedTactic false

namespace Sys2Proof.Machine

theorem hostqUpdate_touch {b : Nat} : (hostqUpdate b).Touches 0x8000000000000000000000000000000000000000000000000000000000000000000000000000000000000000000000000 := by
  unfold hostqUpdate
  repeat' first | with_reducible apply touch_seqs_cons | with_reducible apply touch_seqs_nil | with_reducible apply touch_updR | with_reducible apply touch_seq | with_reducible apply touch_skip | with_reducible apply touch_read | with_reducible intro _ | split | dsimp only | exact rfl

theorem hostDone_touch {b : Nat} {j : TwbJob} {status : Nat} {result : Nat} {detail : Nat} : (hostDone b j status result detail).Touches 0x5c0000000000000008000000000000000000000000000000000000000000000000000000000000010000000000200000000000000000000000000000000000000000000000000000000000000000000000000000000000000 := by
  unfold hostDone
  repeat' first | with_reducible apply touch_seqs_cons | with_reducible apply touch_seqs_nil | with_reducible apply touch_setR | with_reducible apply touch_seq | with_reducible apply touch_skip | with_reducible apply touch_read | with_reducible (refine finishRun_touch.mono ?_) | with_reducible intro _ | split | dsimp only | exact rfl

theorem identRetryLater_touch {sl : Nat} : (identRetryLater sl).Touches 0x2000000000000000000000000000000000000000000000000000000000000000000000000000000000000000000000000000000000000000000000000000000000000000000000000000000000000000000000000000000000 := by
  unfold identRetryLater
  repeat' first | with_reducible apply touch_seqs_cons | with_reducible apply touch_seqs_nil | with_reducible apply touch_updSlots | with_reducible apply touch_seq | with_reducible apply touch_skip | with_reducible apply touch_read | with_reducible intro _ | split | dsimp only | exact rfl

theorem pollMissed_touch {sl : Nat} : (pollMissed sl).Touches 0x24c0000000000000008000000000000000000000000000000000000000000000000000000000000000000010001200000000000000000000000000000000000000000000000000000000000000000000000000000000000000 := by
  unfold pollMissed
  repeat' first | with_reducible apply touch_seqs_cons | with_reducible apply touch_seqs_nil | with_reducible apply touch_updSlots | with_reducible apply touch_when | with_reducible apply touch_seq | with_reducible apply touch_skip | with_reducible apply touch_read | with_reducible (refine raiseSlot_touch.mono ?_) | with_reducible intro _ | split | dsimp only | exact rfl

theorem agentFailed_touch {b : Nat} {j : TwbJob} : (agentFailed b j).Touches 0x24c0000000000000008000000000000000000000000000000000000000000000000000000000000000000010001200000000000000000000000000000000000000000000000000000000000000000000000000000000000000 := by
  unfold agentFailed
  repeat' first | with_reducible apply touch_seqs_cons | with_reducible apply touch_seqs_nil | with_reducible apply touch_seq | with_reducible apply touch_skip | with_reducible apply touch_read | with_reducible (refine identRetryLater_touch.mono ?_) | with_reducible (refine pollMissed_touch.mono ?_) | with_reducible (refine raisePf_touch.mono ?_) | with_reducible intro _ | split | dsimp only | exact rfl

theorem jobFails_touch {b : Nat} {j : TwbJob} {status : Nat} {detail : Nat} : (jobFails b j status detail).Touches 0x25c0000000000000008000000000000000000000000000000000000000000000000000000000000010000010001200000000000000000000000000000000000000000000000000000000000000000000000000000000000000 := by
  unfold jobFails
  repeat' first | with_reducible apply touch_seqs_cons | with_reducible apply touch_seqs_nil | with_reducible apply touch_seq | with_reducible apply touch_skip | with_reducible apply touch_read | with_reducible (refine agentFailed_touch.mono ?_) | with_reducible (refine hostDone_touch.mono ?_) | with_reducible intro _ | split | dsimp only | exact rfl

theorem agentQueue_touch {b : Nat} {j : TwbJob} : (agentQueue b j).Touches 0x824c0000000000000008000000000000000000000000000000000000000000000000000000000000000000010001200000000000000000000000000000000000000000000000000000000000000000000000000000000000000 := by
  unfold agentQueue
  repeat' first | with_reducible apply touch_seqs_cons | with_reducible apply touch_seqs_nil | with_reducible apply touch_updTwb | with_reducible apply touch_seq | with_reducible apply touch_skip | with_reducible apply touch_read | with_reducible (refine agentFailed_touch.mono ?_) | with_reducible intro _ | split | dsimp only | exact rfl

theorem deadFlush_touch {b : Nat} : (deadFlush b).Touches 0x825c0000000000000008000000000000000000000000000000000000000000000000000000000000018000010001200000000000000000000000000000000000000000000000000000000000000000000000000000000000000 := by
  unfold deadFlush
  repeat' first | with_reducible apply touch_seqs_cons | with_reducible apply touch_seqs_nil | with_reducible apply touch_updTwb | with_reducible apply touch_each | with_reducible apply touch_seq | with_reducible apply touch_skip | with_reducible apply touch_read | with_reducible (refine hostqUpdate_touch.mono ?_) | with_reducible (refine jobFails_touch.mono ?_) | with_reducible intro _ | split | dsimp only | exact rfl

theorem runOver_touch {b : Nat} : (runOver b).Touches 0x80000000000000000000000000000000000000000000000000000000000000000000000000000000000180000000000000000000000000000000000000000000000000000000000000000000000000000000000000000000000 := by
  unfold runOver
  repeat' first | with_reducible apply touch_seqs_cons | with_reducible apply touch_seqs_nil | with_reducible apply touch_setR | with_reducible apply touch_updTwb | with_reducible apply touch_seq | with_reducible apply touch_skip | with_reducible apply touch_read | with_reducible intro _ | split | dsimp only | exact rfl

theorem dropWaiting_touch {b : Nat} {j : TwbJob} : (dropWaiting b j).Touches 0x5c0000000000000008000000000000000000000000000000000000000000000000000000000000010000000000200000000000000000000000000000000000000000000000000000000000000000000000000000000000000 := by
  unfold dropWaiting
  repeat' first | with_reducible apply touch_seqs_cons | with_reducible apply touch_seqs_nil | with_reducible apply touch_seq | with_reducible apply touch_skip | with_reducible apply touch_read | with_reducible (refine hostDone_touch.mono ?_) | with_reducible intro _ | split | dsimp only | exact rfl

theorem busCancel_touch {b : Nat} {p : TwbJob → Bool} : (busCancel b p).Touches 0x805c0000000000000008000000000000000000000000000000000000000000000000000000000000018000000000200000000000000000000000000000000000000000000000000000000000000000000000000000000000000 := by
  unfold busCancel
  repeat' first | with_reducible apply touch_seqs_cons | with_reducible apply touch_seqs_nil | with_reducible apply touch_updTwb | with_reducible apply touch_each | with_reducible apply touch_seq | with_reducible apply touch_skip | with_reducible apply touch_read | with_reducible (refine dropWaiting_touch.mono ?_) | with_reducible (refine hostqUpdate_touch.mono ?_) | with_reducible intro _ | split | dsimp only | exact rfl

theorem recoverSda_touch {b : Nat} {pulses : Option Nat} : (recoverSda b pulses).Touches 0x825c0000000000000008000000000000000000000000000000000000000000000000000000000000018200010001200000000000000000000000000000000000000000000000000000000000000000000000000000000000000 := by
  unfold recoverSda
  repeat' first | with_reducible apply touch_seqs_cons | with_reducible apply touch_seqs_nil | with_reducible apply touch_setR | with_reducible apply touch_updTwb | with_reducible apply touch_seq | with_reducible apply touch_skip | with_reducible apply touch_read | with_reducible (refine deadFlush_touch.mono ?_) | with_reducible (refine raise_touch.mono ?_) | with_reducible intro _ | split | dsimp only | exact rfl

end Sys2Proof.Machine
end

