-- ==== Sys2Proof/Laws/WithinOutputs.lean ====
section
/-! SUPPORT. The mask of every operation and meaning of Machine/Outputs.lean (see Laws/Touch.lean): what it can change at all. -/

set_option Elab.async false

set_option maxRecDepth 8192
set_option linter.unreachableTactic false
set_option linter.unusedTactic false

namespace Sys2Proof.Machine

theorem keepRequest_touch {q : KeepReq} : (keepRequest q).Touches 0x10000000000000000000000000000000000004000000000000000000000000000000000000000000000000000000000000000000000000000000000000000000000000000000000000000000000000000000000000000000000 := by
  unfold keepRequest
  repeat' first | with_reducible apply touch_seqs_cons | with_reducible apply touch_seqs_nil | with_reducible apply touch_updR | with_reducible apply touch_updKeep | with_reducible apply touch_seq | with_reducible apply touch_skip | with_reducible apply touch_read | with_reducible intro _ | split | dsimp only | exact rfl

theorem setDisc_touch {lead : Nat} {closed : Bool} : (setDisc lead closed).Touches 0x42000000000000000000000000000000000000000000000000000000000000000000000000000000000000000000000000000000000000000000000000000000000000000000000000000000000000000000000000000000000 := by
  unfold setDisc
  repeat' first | with_reducible apply touch_seqs_cons | with_reducible apply touch_seqs_nil | with_reducible apply touch_updPorts | with_reducible apply touch_updSlots | with_reducible apply touch_each | with_reducible apply touch_seq | with_reducible apply touch_skip | with_reducible apply touch_read | with_reducible intro _ | split | dsimp only | exact rfl

theorem parkOutput_touch {lead stage : Nat} : (parkOutput lead stage).Touches 0x43000000000000000000000000000000000000000000000000008000000000000000000000000000000000000000000000000000000000000000000000000000000000000000000000000080000000003504000000000000000 := by
  unfold parkOutput
  repeat' first | with_reducible apply touch_seqs_cons | with_reducible apply touch_seqs_nil | with_reducible apply touch_setR | with_reducible apply touch_updChans | with_reducible apply touch_each | with_reducible apply touch_seq | with_reducible apply touch_skip | with_reducible apply touch_read | with_reducible (refine setDisc_touch.mono ?_) | with_reducible intro _ | split | dsimp only | exact rfl

theorem softStopBegin_touch {lead : Nat} : (softStopBegin lead).Touches 0x1000000000000000000000000000000000000000000000000000000000000000000000000000000000000000000000000000000000000000000000000000000000000000000000000000000000000001000000000000000000 := by
  unfold softStopBegin
  repeat' first | with_reducible apply touch_seqs_cons | with_reducible apply touch_seqs_nil | with_reducible apply touch_setR | with_reducible apply touch_updChans | with_reducible apply touch_seq | with_reducible apply touch_skip | with_reducible apply touch_read | with_reducible intro _ | split | dsimp only | exact rfl

theorem fgArm_touch {sl : Nat} : (fgArm sl).Touches 0x8070000000000000000000000000000000000000000000000000000000000000000000000000000000000000000000000000000000000000000000000000000 := by
  unfold fgArm
  repeat' first | with_reducible apply touch_seqs_cons | with_reducible apply touch_seqs_nil | with_reducible apply touch_setR | with_reducible apply touch_each | with_reducible apply touch_seq | with_reducible apply touch_skip | with_reducible apply touch_read | with_reducible intro _ | split | dsimp only | exact rfl

theorem fgDisarm_touch {sl : Nat} : (fgDisarm sl).Touches 0x8070000000000000000000000000000000000000000000000000000000000000000000000000000000000000000000000000000000000000000000000000000 := by
  unfold fgDisarm
  repeat' first | with_reducible apply touch_seqs_cons | with_reducible apply touch_seqs_nil | with_reducible apply touch_setR | with_reducible apply touch_each | with_reducible apply touch_seq | with_reducible apply touch_skip | with_reducible apply touch_read | with_reducible intro _ | split | dsimp only | exact rfl

theorem fgReverse_touch {sl : Nat} {donor : Bool} : (fgReverse sl donor).Touches 0x8000000000000000000000000000000000000000000000000000000000000000000000000000000000000000000000000000000000000000000000000000000 := by
  unfold fgReverse
  repeat' first | with_reducible apply touch_seqs_cons | with_reducible apply touch_seqs_nil | with_reducible apply touch_setR | with_reducible apply touch_each | with_reducible apply touch_seq | with_reducible apply touch_skip | with_reducible apply touch_read | with_reducible intro _ | split | dsimp only | exact rfl

theorem resvEnd_touch {sl : Nat} : (resvEnd sl).Touches 0x640000000000000000000000000000000000000000000000000000000 := by
  unfold resvEnd
  repeat' first | with_reducible apply touch_seqs_cons | with_reducible apply touch_seqs_nil | with_reducible apply touch_setR | with_reducible apply touch_seq | with_reducible apply touch_skip | with_reducible apply touch_read | with_reducible intro _ | split | dsimp only | exact rfl

theorem useUpdate_touch {fn : Nat} : (useUpdate fn).Touches 0x6000000000000000000000000000000000000000000000000000000000000000000000000000000000000000000 := by
  unfold useUpdate
  repeat' first | with_reducible apply touch_seqs_cons | with_reducible apply touch_seqs_nil | with_reducible apply touch_updR | with_reducible apply touch_seq | with_reducible apply touch_skip | with_reducible apply touch_read | with_reducible intro _ | split | dsimp only | exact rfl

theorem identAttempt_touch {sl : Nat} : (identAttempt sl).Touches 0x824c0000000000000008000000000000000000000000000000000000000000000000000000000000000000010001200000000000000000000000000000000000000000000000000000000000000000000000000000000000000 := by
  unfold identAttempt
  repeat' first | with_reducible apply touch_seqs_cons | with_reducible apply touch_seqs_nil | with_reducible apply touch_updSlots | with_reducible apply touch_seq | with_reducible apply touch_skip | with_reducible apply touch_read | with_reducible (refine agentQueue_touch.mono ?_) | with_reducible intro _ | split | dsimp only | exact rfl

theorem dacShow_touch {p : Nat} : (dacShow p).Touches 0x180000000000000000000000000000000000000000000000000000000000000000000 := by
  unfold dacShow
  repeat' first | with_reducible apply touch_seqs_cons | with_reducible apply touch_seqs_nil | with_reducible apply touch_setR | with_reducible apply touch_seq | with_reducible apply touch_skip | with_reducible apply touch_read | with_reducible intro _ | split | dsimp only | exact rfl

theorem refereeEnds_touch {p : Nat} : (refereeEnds p).Touches 0x1000000000000000000000000000000000000000000000000000000000000000000000000000000000000000000000000000000000000000180000000040000000000000000000000000000000000000000000000000000000000 := by
  unfold refereeEnds
  repeat' first | with_reducible apply touch_seqs_cons | with_reducible apply touch_seqs_nil | with_reducible apply touch_setR | with_reducible apply touch_updFcvs | with_reducible apply touch_when | with_reducible apply touch_seq | with_reducible apply touch_skip | with_reducible apply touch_read | with_reducible (refine dacShow_touch.mono ?_) | with_reducible intro _ | split | dsimp only | exact rfl

theorem escalationsDrop_touch {sl : Nat} : (escalationsDrop sl).Touches 0x1006000000000000000000000000000000000000000000000000000000000000000000000000000000000000000000000000000000000000180000000040000000000000000000000000000000000000000000000000000000000 := by
  unfold escalationsDrop
  repeat' first | with_reducible apply touch_seqs_cons | with_reducible apply touch_seqs_nil | with_reducible apply touch_updGauges | with_reducible apply touch_updSlots | with_reducible apply touch_seq | with_reducible apply touch_skip | with_reducible apply touch_read | with_reducible (refine refereeEnds_touch.mono ?_) | with_reducible intro _ | split | dsimp only | exact rfl

theorem identBegin_touch {sl : Nat} : (identBegin sl).Touches 0x824c000000000000000800000000000000000000000000000000000000000000000000000000000000000001000120000000000000000018000000000000000000000000000000000c800000000000000000000000000000000 := by
  unfold identBegin
  repeat' first | with_reducible apply touch_seqs_cons | with_reducible apply touch_seqs_nil | with_reducible apply touch_setR | with_reducible apply touch_updSlots | with_reducible apply touch_seq | with_reducible apply touch_skip | with_reducible apply touch_read | with_reducible (refine dacShow_touch.mono ?_) | with_reducible (refine identAttempt_touch.mono ?_) | with_reducible intro _ | split | dsimp only | exact rfl

theorem packForget_touch {sl : Nat} : (packForget sl).Touches 0x10060000000000000000000000000000000000000000000000000000000000000000000000000000000000000000000000000000000000001800000000400000000000000000007f802d000000000000000000000000000000000 := by
  unfold packForget
  repeat' first | with_reducible apply touch_seqs_cons | with_reducible apply touch_seqs_nil | with_reducible apply touch_setR | with_reducible apply touch_updSlots | with_reducible apply touch_seq | with_reducible apply touch_skip | with_reducible apply touch_read | with_reducible (refine dacShow_touch.mono ?_) | with_reducible (refine escalationsDrop_touch.mono ?_) | with_reducible intro _ | split | dsimp only | exact rfl

theorem reidentify_touch {sl : Nat} : (reidentify sl).Touches 0x10864c00000000000000080000000000000000000000000000000080700000000000000000000000000000000100012000000000000000001800000000400000000000000000007f802d800000000000000000000000000000000 := by
  unfold reidentify
  repeat' first | with_reducible apply touch_seqs_cons | with_reducible apply touch_seqs_nil | with_reducible apply touch_seq | with_reducible apply touch_skip | with_reducible apply touch_read | with_reducible (refine fgDisarm_touch.mono ?_) | with_reducible (refine identBegin_touch.mono ?_) | with_reducible (refine packForget_touch.mono ?_) | with_reducible intro _ | split | dsimp only | exact rfl

theorem scanPresence_touch {sl : Nat} : (scanPresence sl).Touches 0x2000000000000000000000000000000000000000000000000000000000000000000000000000000000000000000000000000000000000000000000000000000000000000000000000800000000000000000000000000000000 := by
  unfold scanPresence
  repeat' first | with_reducible apply touch_seqs_cons | with_reducible apply touch_seqs_nil | with_reducible apply touch_setR | with_reducible apply touch_updSlots | with_reducible apply touch_seq | with_reducible apply touch_skip | with_reducible apply touch_read | with_reducible intro _ | split | dsimp only | exact rfl

theorem gangShow_touch {sl : Nat} : (gangShow sl).Touches 0x1ff800000000000000000000000000000000 := by
  unfold gangShow
  repeat' first | with_reducible apply touch_seqs_cons | with_reducible apply touch_seqs_nil | with_reducible apply touch_setR | with_reducible apply touch_seq | with_reducible apply touch_skip | with_reducible apply touch_read | with_reducible intro _ | split | dsimp only | exact rfl

theorem gangLeave_touch {sl : Nat} : (gangLeave sl).Touches 0x6000000000000000000000000000000000 := by
  unfold gangLeave
  repeat' first | with_reducible apply touch_seqs_cons | with_reducible apply touch_seqs_nil | with_reducible apply touch_setR | with_reducible apply touch_seq | with_reducible apply touch_skip | with_reducible apply touch_read | with_reducible intro _ | split | dsimp only | exact rfl

theorem chargeEnd_touch {sl reason : Nat} : (chargeEnd sl reason).Touches 0x4c0000000000000008000000000000000000000000000000000000000000000000000000000000000000010001200000000000000000000000000000640000000000000000000000000000000000000000000000000000000 := by
  unfold chargeEnd
  repeat' first | with_reducible apply touch_seqs_cons | with_reducible apply touch_seqs_nil | with_reducible apply touch_seq | with_reducible apply touch_skip | with_reducible apply touch_read | with_reducible (refine raiseSlot_touch.mono ?_) | with_reducible (refine resvEnd_touch.mono ?_) | with_reducible intro _ | split | dsimp only | exact rfl

theorem slotStopped_touch {sl : Nat} : (slotStopped sl).Touches 0x10964c00000000000000080000000000000000040000000000000080700000000000000000000000000000000160012000000000761f6d001800000000406400000000000000007f802d800000000000000000000000000000000 := by
  unfold slotStopped
  repeat' first | with_reducible apply touch_seqs_cons | with_reducible apply touch_seqs_nil | with_reducible apply touch_setR | with_reducible apply touch_updSlots | with_reducible apply touch_when | with_reducible apply touch_seq | with_reducible apply touch_skip | with_reducible apply touch_read | with_reducible (refine chargeEnd_touch.mono ?_) | with_reducible (refine fgDisarm_touch.mono ?_) | with_reducible (refine finalSnapshot_touch.mono ?_) | with_reducible (refine keepRequest_touch.mono ?_) | with_reducible (refine reidentify_touch.mono ?_) | with_reducible (refine useUpdate_touch.mono ?_) | with_reducible intro _ | split | dsimp only | exact rfl

theorem leadPark_touch {lead : Nat} : (leadPark lead).Touches 0x10d74c00000000000000080000000000000000040000000000000080700000000000000000000000000000000160012000000000761f6d001800000000406400000000000000007f802d800080000000003d04000000000000000 := by
  unfold leadPark
  repeat' first | with_reducible apply touch_seqs_cons | with_reducible apply touch_seqs_nil | with_reducible apply touch_setR | with_reducible apply touch_seq | with_reducible apply touch_skip | with_reducible apply touch_read | with_reducible (refine fgReverse_touch.mono ?_) | with_reducible (refine parkOutput_touch.mono ?_) | with_reducible (refine slotStopped_touch.mono ?_) | with_reducible intro _ | split | dsimp only | exact rfl

theorem softStop_touch {lead : Nat} : (softStop lead).Touches 0x10d74c00000000000000080000000000000000040000000000000080700000000000000000000000000000000160012000000000761f6d001800000000406400000000000000007f802d800080000000003d04000000000000000 := by
  unfold softStop
  repeat' first | with_reducible apply touch_seqs_cons | with_reducible apply touch_seqs_nil | with_reducible apply touch_seq | with_reducible apply touch_skip | with_reducible apply touch_read | with_reducible (refine leadPark_touch.mono ?_) | with_reducible (refine softStopBegin_touch.mono ?_) | with_reducible intro _ | split | dsimp only | exact rfl

theorem stopSlot_touch {sl after : Nat} {reason : Option Nat} : (stopSlot sl after reason).Touches 0x10d74c00000000000000080000000000000000040000000000000080700000000000000000000000000000000160012000000000761f6d001800000000406400000000000000007f802d800080000000003d04000000000000000 := by
  unfold stopSlot
  repeat' first | with_reducible apply touch_seqs_cons | with_reducible apply touch_seqs_nil | with_reducible apply touch_setR | with_reducible apply touch_updSlots | with_reducible apply touch_seq | with_reducible apply touch_skip | with_reducible apply touch_read | with_reducible (refine leadPark_touch.mono ?_) | with_reducible (refine softStop_touch.mono ?_) | with_reducible intro _ | split | dsimp only | exact rfl

theorem freeReceiver_touch {peer : Nat} : (freeReceiver peer).Touches 0x20000000040000000000000000000000000000000000 := by
  unfold freeReceiver
  repeat' first | with_reducible apply touch_seqs_cons | with_reducible apply touch_seqs_nil | with_reducible apply touch_setR | with_reducible apply touch_seq | with_reducible apply touch_skip | with_reducible apply touch_read | with_reducible intro _ | split | dsimp only | exact rfl

theorem transferEnd_touch {donor reason : Nat} : (transferEnd donor reason).Touches 0x4c0000000000000008000000000000000000000000000000000000000000000000000000000000000000016001200000000000000000000000000000000000000000020000000060000000000000000000000000000000000 := by
  unfold transferEnd
  repeat' first | with_reducible apply touch_seqs_cons | with_reducible apply touch_seqs_nil | with_reducible apply touch_setR | with_reducible apply touch_seq | with_reducible apply touch_skip | with_reducible apply touch_read | with_reducible (refine freeReceiver_touch.mono ?_) | with_reducible (refine raiseSlot_touch.mono ?_) | with_reducible (refine useUpdate_touch.mono ?_) | with_reducible intro _ | split | dsimp only | exact rfl

theorem parkCounted_touch {sl : Nat} : (parkCounted sl).Touches 0x2000000000000000000000000000000000000000000000000000000000000000000000000000000000000000000000000000000000000000000000000000000000000000000000000000000000000000000000000000000000 := by
  unfold parkCounted
  repeat' first | with_reducible apply touch_seqs_cons | with_reducible apply touch_seqs_nil | with_reducible apply touch_updSlots | with_reducible apply touch_seq | with_reducible apply touch_skip | with_reducible apply touch_read | with_reducible intro _ | split | dsimp only | exact rfl

theorem auditEnd_touch {sl fin : Nat} {valid : Bool} : (auditEnd sl fin valid).Touches 0x24c0000000000000008000000000000000000000000000000000000000000000000000000000000000000010001200000000000000000000000000000000000000000420000000020000000000000000000000000000000000 := by
  unfold auditEnd
  repeat' first | with_reducible apply touch_seqs_cons | with_reducible apply touch_seqs_nil | with_reducible apply touch_setR | with_reducible apply touch_updSlots | with_reducible apply touch_seq | with_reducible apply touch_skip | with_reducible apply touch_read | with_reducible (refine raiseSlot_touch.mono ?_) | with_reducible intro _ | split | dsimp only | exact rfl

theorem transferStop_touch {donor reason : Nat} : (transferStop donor reason).Touches 0x10d74c00000000000000080000000000000000040000000000000080700000000000000000000000000000000160012000000000761f6d001800000000406400000000000200007f806d800080000000003d04000000000000000 := by
  unfold transferStop
  repeat' first | with_reducible apply touch_seqs_cons | with_reducible apply touch_seqs_nil | with_reducible apply touch_seq | with_reducible apply touch_skip | with_reducible apply touch_read | with_reducible (refine stopSlot_touch.mono ?_) | with_reducible (refine transferEnd_touch.mono ?_) | with_reducible intro _ | split | dsimp only | exact rfl

theorem endParts_touch {sl reason auditFin : Nat} : (endParts sl reason auditFin).Touches 0x10d74c00000000000000080000000000000000040000000000000080700000000000000000000000000000000160012000000000761f6d001800000000406400000000004200007f806d800080000000003d04000000000000000 := by
  unfold endParts
  repeat' first | with_reducible apply touch_seqs_cons | with_reducible apply touch_seqs_nil | with_reducible apply touch_when | with_reducible apply touch_seq | with_reducible apply touch_skip | with_reducible apply touch_read | with_reducible (refine auditEnd_touch.mono ?_) | with_reducible (refine transferEnd_touch.mono ?_) | with_reducible (refine transferStop_touch.mono ?_) | with_reducible intro _ | split | dsimp only | exact rfl

theorem releaseGoesOn_touch {sl : Nat} : (releaseGoesOn sl).Touches 0x12000000000000000000000000000000000004000000000000000000000000000000000000000000000000000000000000000000000000000000000000000000000000000000000000000000000000000000000000000000000 := by
  unfold releaseGoesOn
  repeat' first | with_reducible apply touch_seqs_cons | with_reducible apply touch_seqs_nil | with_reducible apply touch_updSlots | with_reducible apply touch_seq | with_reducible apply touch_skip | with_reducible apply touch_read | with_reducible (refine keepRequest_touch.mono ?_) | with_reducible intro _ | split | dsimp only | exact rfl

theorem slotSafe_touch {sl0 cause : Nat} : (slotSafe sl0 cause).Touches 0x10d74c000000000000000800000000000000000400000000000000c0700001000000000000000000000000000160012000000000761f6d001800000000406400000000004200007fe86d800080000000003d04000000000000000 := by
  unfold slotSafe
  repeat' first | with_reducible apply touch_seqs_cons | with_reducible apply touch_seqs_nil | with_reducible apply touch_setR | with_reducible apply touch_updR | with_reducible apply touch_incSat | with_reducible apply touch_updSlots | with_reducible apply touch_seq | with_reducible apply touch_skip | with_reducible apply touch_read | with_reducible (refine endParts_touch.mono ?_) | with_reducible (refine escalationsDrop_touch.mono ?_) | with_reducible (refine fgDisarm_touch.mono ?_) | with_reducible (refine parkOutput_touch.mono ?_) | with_reducible (refine raiseSlot_touch.mono ?_) | with_reducible (refine releaseGoesOn_touch.mono ?_) | with_reducible (refine resvEnd_touch.mono ?_) | with_reducible intro _ | split | dsimp only | exact rfl

theorem isolate_touch {sl : Nat} : (isolate sl).Touches 0x2000000000000000000000000000000000000000000000000000000000000000000000000000000000000000000000000000000000000000000000000000000000000000000000000000000000000000000000000000000000 := by
  unfold isolate
  repeat' first | with_reducible apply touch_seqs_cons | with_reducible apply touch_seqs_nil | with_reducible apply touch_updSlots | with_reducible apply touch_each | with_reducible apply touch_seq | with_reducible apply touch_skip | with_reducible apply touch_read | with_reducible intro _ | split | dsimp only | exact rfl

theorem bedWake_touch {sl : Nat} : (bedWake sl).Touches 0x100000000000000000000000000000000000000000000000000000000000000000000000000000000000000000000000000000000000000000000000000000000000000000000000000000000000000000000000000000000000000 := by
  unfold bedWake
  repeat' first | with_reducible apply touch_seqs_cons | with_reducible apply touch_seqs_nil | with_reducible apply touch_updEng | with_reducible apply touch_when | with_reducible apply touch_seq | with_reducible apply touch_skip | with_reducible apply touch_read | with_reducible intro _ | split | dsimp only | exact rfl

theorem fgReport_touch {sl k th : Nat} {f : Fld} {M : Nat} (hf : M.testBit f.id = true) (hm : 0x1000024c0000000000000008000000000000000000000000000000000000080000000000000000000000000000010001200000000000000000000000000000000000000000000000000000000000000000000000000000000000000 &&& M = 0x1000024c0000000000000008000000000000000000000000000000000000080000000000000000000000000000010001200000000000000000000000000000000000000000000000000000000000000000000000000000000000000) :
    (fgReport sl k th f).Touches M := by
  have h : (seqs [incSat Reg.SAF_CNT.FG_TRIPS, isolate sl, bedWake sl, raisePf evFgTrip sl (dat 16 1 k + dat 20 4 th)]).Touches 0x1000024c0000000000000008000000000000000000000000000000000000080000000000000000000000000000010001200000000000000000000000000000000000000000000000000000000000000000000000000000000000000 :=
    ⟨touch_incSat rfl, isolate_touch.mono rfl, bedWake_touch.mono rfl, raisePf_touch.mono rfl, trivial⟩
  exact ⟨hf, h.mono hm⟩

theorem maskStandIn_touch {sl : Nat} : (maskStandIn sl).Touches 0x1010d74c000000000000000800000000000000000400000000000000c3700801000000000000000000000000000160012000000000761f6d001800000000406400000000004200007fe86d800080000000003d04000000000000000 := by
  unfold maskStandIn
  repeat' first | with_reducible apply touch_seqs_cons | with_reducible apply touch_seqs_nil | with_reducible apply touch_seq | with_reducible apply touch_skip | with_reducible apply touch_read | with_reducible (refine fgReport_touch ?_ ?_) | with_reducible (refine slotSafe_touch.mono ?_) | with_reducible intro _ | split | dsimp only | exact rfl

theorem orderTo_touch {p w : Nat} {act : Prog} {M : Nat} (ha : act.Touches M) (hm : 0x400000000000000000000000000000000000000000000000000000000000000000000000000000000000000000000000000000000000000000000000000000000000000000000000000000000000000000000000000000000 &&& M = 0x400000000000000000000000000000000000000000000000000000000000000000000000000000000000000000000000000000000000000000000000000000000000000000000000000000000000000000000000000000000) :
    (orderTo p w act).Touches M := by
  refine touch_read fun s => touch_seqs_cons (emit_touch.mono ?_) (touch_seqs_cons (emit_touch.mono ?_) (touch_seqs_cons ?_ touch_seqs_nil))
  · exact hm
  · exact hm
  · split
    · exact ha
    · exact touch_skip

theorem slotSafeSub_touch {sl sub : Nat} : (slotSafeSub sl sub).Touches 0x10d74c000000000000000800000000000000000400000000000000c0700001000000000000000000000000000160012000000000761f6d001800000000406400000000004200007fe86d800080000000003d04000000000000000 := by
  unfold slotSafeSub
  repeat' first | with_reducible apply touch_seqs_cons | with_reducible apply touch_seqs_nil | with_reducible apply touch_setR | with_reducible apply touch_when | with_reducible apply touch_seq | with_reducible apply touch_skip | with_reducible apply touch_read | with_reducible (refine isolate_touch.mono ?_) | with_reducible (refine orderTo_touch ?_ ?_) | with_reducible (refine slotSafe_touch.mono ?_) | with_reducible intro _ | split | dsimp only | exact rfl

theorem contractGone_touch {k : Nat} : (contractGone k).Touches 0x10d74c00000000000000080000000000000000040000000000000080700000000000000000184000000000000160012000000000761f6d001800000000406400000000000200007f806d800080000000003d04000000000000000 := by
  unfold contractGone
  repeat' first | with_reducible apply touch_seqs_cons | with_reducible apply touch_seqs_nil | with_reducible apply touch_setR | with_reducible apply touch_updPorts | with_reducible apply touch_seq | with_reducible apply touch_skip | with_reducible apply touch_read | with_reducible (refine transferStop_touch.mono ?_) | with_reducible intro _ | split | dsimp only | exact rfl

theorem auxSafe_touch {n : Nat} : (auxSafe n).Touches 0x10d74c00000000000000080000000000000000040000000000000080700000000000000000184800000000000160012000000000761f6d001800000000406400000000000200007f806d800080000000003d04000000000000000 := by
  unfold auxSafe
  repeat' first | with_reducible apply touch_seqs_cons | with_reducible apply touch_seqs_nil | with_reducible apply touch_setR | with_reducible apply touch_updPorts | with_reducible apply touch_seq | with_reducible apply touch_skip | with_reducible apply touch_read | with_reducible (refine contractGone_touch.mono ?_) | with_reducible (refine parkOutput_touch.mono ?_) | with_reducible (refine transferStop_touch.mono ?_) | with_reducible intro _ | split | dsimp only | exact rfl

theorem auxFault_touch {n : Nat} : (auxFault n).Touches 0x10d74c00000000000000080000000000000000040000000000000080700000000000000000184800000000000160012000000000761f6d001800000000406400000000000200007f806d800080000000003d04000000000000000 := by
  unfold auxFault
  repeat' first | with_reducible apply touch_seqs_cons | with_reducible apply touch_seqs_nil | with_reducible apply touch_seq | with_reducible apply touch_skip | with_reducible apply touch_read | with_reducible (refine auxSafe_touch.mono ?_) | with_reducible (refine raisePf_touch.mono ?_) | with_reducible intro _ | split | dsimp only | exact rfl

theorem outputSafe_touch {lead cause : Nat} : (outputSafe lead cause).Touches 0x10d74c000000000000000800000000000000000400000000000000c0700001000000000000184800000000000160012000000000761f6d001800000000406400000000004200007fe86d800080000000003d04000000000000000 := by
  unfold outputSafe
  repeat' first | with_reducible apply touch_seqs_cons | with_reducible apply touch_seqs_nil | with_reducible apply touch_seq | with_reducible apply touch_skip | with_reducible apply touch_read | with_reducible (refine auxSafe_touch.mono ?_) | with_reducible (refine slotSafe_touch.mono ?_) | with_reducible intro _ | split | dsimp only | exact rfl

theorem raiseOutput_touch {typ lead data : Nat} : (raiseOutput typ lead data).Touches 0x4c0000000000000008000000000000000000000000000000000000000000000000000000000000000000010001200000000000000000000000000000000000000000000000000000000000000000000000000000000000000 := by
  unfold raiseOutput
  repeat' first | with_reducible apply touch_seqs_cons | with_reducible apply touch_seqs_nil | with_reducible apply touch_seq | with_reducible apply touch_skip | with_reducible apply touch_read | with_reducible (refine raise_touch.mono ?_) | with_reducible (refine raisePf_touch.mono ?_) | with_reducible intro _ | split | dsimp only | exact rfl

end Sys2Proof.Machine
end

