-- ==== Sys2Proof/Laws/WithinChannels.lean ====
section
/-! SUPPORT. The mask of every operation and meaning of Machine/Channels.lean (see Laws/Touch.lean): what it can change at all. -/

set_option Elab.async false

set_option maxRecDepth 8192
set_option linter.unreachableTactic false
set_option linter.unusedTactic false

namespace Sys2Proof.Machine

theorem leadFlags_touch : (leadFlags).Touches 0x200000000000000000 := by
  unfold leadFlags
  repeat' first | with_reducible apply touch_seqs_cons | with_reducible apply touch_seqs_nil | with_reducible apply touch_updR | with_reducible apply touch_each | with_reducible apply touch_seq | with_reducible apply touch_skip | with_reducible apply touch_read | with_reducible intro _ | split | dsimp only | exact rfl

theorem takeCoefs_touch {n : Nat} : (takeCoefs n).Touches 0x1000000000000000000000000000000000000000000000000000000000000000000000000000000000000000000000000000000000000000000000000000000000000000000000000000000400000100000000000000000000 := by
  unfold takeCoefs
  repeat' first | with_reducible apply touch_seqs_cons | with_reducible apply touch_seqs_nil | with_reducible apply touch_setR | with_reducible apply touch_updChans | with_reducible apply touch_seq | with_reducible apply touch_skip | with_reducible apply touch_read | with_reducible intro _ | split | dsimp only | exact rfl

theorem applyWritten_touch {n : Nat} : (applyWritten n).Touches 0x1000000000000000000000000000000000000000000000000000000000000000000000000000000000000000000000000000000000000000000000000000000000000000000000000000000400000100000000000000000000 := by
  unfold applyWritten
  repeat' first | with_reducible apply touch_seqs_cons | with_reducible apply touch_seqs_nil | with_reducible apply touch_setR | with_reducible apply touch_seq | with_reducible apply touch_skip | with_reducible apply touch_read | with_reducible (refine takeCoefs_touch.mono ?_) | with_reducible intro _ | split | dsimp only | exact rfl

theorem attemptFailed_touch {lead : Nat} {short : Bool} : (attemptFailed lead short).Touches 0x10d74c000000000000000800000000000000000400000000000000c0700001000000000000184800000000000160012000000000761f6d001800000000406400000000004200007fe86d800880000000033d04000000000000000 := by
  unfold attemptFailed
  repeat' first | with_reducible apply touch_seqs_cons | with_reducible apply touch_seqs_nil | with_reducible apply touch_setR | with_reducible apply touch_incSat | with_reducible apply touch_updChans | with_reducible apply touch_updPorts | with_reducible apply touch_when | with_reducible apply touch_seq | with_reducible apply touch_skip | with_reducible apply touch_read | with_reducible (refine outputSafe_touch.mono ?_) | with_reducible (refine parkOutput_touch.mono ?_) | with_reducible (refine raiseOutput_touch.mono ?_) | with_reducible intro _ | split | dsimp only | exact rfl

theorem moveOffsets_touch {lead n : Nat} : (moveOffsets lead n).Touches 0x1000000000000000000000000000000000000000000000000000000000000000000000000000000000000000000000000000000000000000000000000000000000000000000000000000000000000000000000000000000000 := by
  unfold moveOffsets
  repeat' first | with_reducible apply touch_seqs_cons | with_reducible apply touch_seqs_nil | with_reducible apply touch_updChans | with_reducible apply touch_each | with_reducible apply touch_seq | with_reducible apply touch_skip | with_reducible apply touch_read | with_reducible intro _ | split | dsimp only | exact rfl

theorem startOutput_touch {lead : Nat} : (startOutput lead).Touches 0x43000000000000000000000000000000000000000000000000000000000000000000000000000000000000000000000000000000000000000000000000000000000000000000000000000000000000003104000000000000000 := by
  unfold startOutput
  repeat' first | with_reducible apply touch_seqs_cons | with_reducible apply touch_seqs_nil | with_reducible apply touch_setR | with_reducible apply touch_updChans | with_reducible apply touch_each | with_reducible apply touch_seq | with_reducible apply touch_skip | with_reducible apply touch_read | with_reducible (refine moveOffsets_touch.mono ?_) | with_reducible (refine setDisc_touch.mono ?_) | with_reducible intro _ | split | dsimp only | exact rfl

theorem preBias_touch {lead : Nat} {avg : Option Nat} : (preBias lead avg).Touches 0x10d74c000000000000000800000000000000000400000000000000c0700001000000000000184800000000000160012000000000761f6d001800000000406400000000004200007fe86d800880000000033d04000000000000000 := by
  unfold preBias
  repeat' first | with_reducible apply touch_seqs_cons | with_reducible apply touch_seqs_nil | with_reducible apply touch_updChans | with_reducible apply touch_seq | with_reducible apply touch_skip | with_reducible apply touch_read | with_reducible (refine attemptFailed_touch.mono ?_) | with_reducible (refine startOutput_touch.mono ?_) | with_reducible intro _ | split | dsimp only | exact rfl

theorem leadStart_touch {lead : Nat} {avg : Option Nat} : (leadStart lead avg).Touches 0x10d74c000000000000000800000000000000000400000000000000c0700001000000000000184800000000000160012000000000761f6d001800000000406400000000004200007fe86d800880000000133d04000000000000000 := by
  unfold leadStart
  repeat' first | with_reducible apply touch_seqs_cons | with_reducible apply touch_seqs_nil | with_reducible apply touch_setR | with_reducible apply touch_updChans | with_reducible apply touch_when | with_reducible apply touch_seq | with_reducible apply touch_skip | with_reducible apply touch_read | with_reducible (refine fgReverse_touch.mono ?_) | with_reducible (refine parkCounted_touch.mono ?_) | with_reducible (refine preBias_touch.mono ?_) | with_reducible (refine raisePf_touch.mono ?_) | with_reducible intro _ | split | dsimp only | exact rfl

theorem addPhases_touch {lead m : Nat} : (addPhases lead m).Touches 0x1000000000000000000000000000000000000000000000000000000000000000000000000000000000000000000000000000000000000000000000000000000000000000000000000000000000000002100000000000000000 := by
  unfold addPhases
  repeat' first | with_reducible apply touch_seqs_cons | with_reducible apply touch_seqs_nil | with_reducible apply touch_setR | with_reducible apply touch_updChans | with_reducible apply touch_each | with_reducible apply touch_seq | with_reducible apply touch_skip | with_reducible apply touch_read | with_reducible (refine moveOffsets_touch.mono ?_) | with_reducible intro _ | split | dsimp only | exact rfl

theorem phasesByRef_touch {lead : Nat} : (phasesByRef lead).Touches 0x1000000000000000000000000000000000000000000000000000000000000000000000000000000000000000000000000000000000000000000000000000000000000000000000000000000000000002100000000000000000 := by
  unfold phasesByRef
  repeat' first | with_reducible apply touch_seqs_cons | with_reducible apply touch_seqs_nil | with_reducible apply touch_seq | with_reducible apply touch_skip | with_reducible apply touch_read | with_reducible (refine addPhases_touch.mono ?_) | with_reducible intro _ | split | dsimp only | exact rfl

theorem commitLead_touch {lead : Nat} {refI : Int} {refV dir ilim : Nat} {avg : Option Nat} : (commitLead lead refI refV dir ilim avg).Touches 0x10d74c000000000000000800000000000000000400000000000000c0700001000000000000184800000000000160012000000000761f6d001800000000406400000000004200007fe86d800898000000133d04000000000000000 := by
  unfold commitLead
  repeat' first | with_reducible apply touch_seqs_cons | with_reducible apply touch_seqs_nil | with_reducible apply touch_setR | with_reducible apply touch_updChans | with_reducible apply touch_seq | with_reducible apply touch_skip | with_reducible apply touch_read | with_reducible (refine leadPark_touch.mono ?_) | with_reducible (refine leadStart_touch.mono ?_) | with_reducible (refine preBias_touch.mono ?_) | with_reducible (refine softStop_touch.mono ?_) | with_reducible intro _ | split | dsimp only | exact rfl

theorem runaway_touch {lead cond : Nat} : (runaway lead cond).Touches 0x10d74c000000000000000800000000000000000400000000000000c0700001000000000000184800000000000160012000000000761f6d001800000000406400000000004200007fe86d800080000000043d04000000000000000 := by
  unfold runaway
  repeat' first | with_reducible apply touch_seqs_cons | with_reducible apply touch_seqs_nil | with_reducible apply touch_setR | with_reducible apply touch_cond | with_reducible apply touch_seq | with_reducible apply touch_skip | with_reducible apply touch_read | with_reducible (refine outputSafe_touch.mono ?_) | with_reducible (refine raiseOutput_touch.mono ?_) | with_reducible intro _ | split | dsimp only | exact rfl

theorem voltageUpdate_touch {lead : Nat} {vout : Nat} : (voltageUpdate lead vout).Touches 0x1000000000000000000000000000000000000000000000000000000000000000000000000000000000000000000000000000000000000000000000000000000000000000000000000000000000000000000000000000000000 := by
  unfold voltageUpdate
  repeat' first | with_reducible apply touch_seqs_cons | with_reducible apply touch_seqs_nil | with_reducible apply touch_updChans | with_reducible apply touch_seq | with_reducible apply touch_skip | with_reducible apply touch_read | with_reducible intro _ | split | dsimp only | exact rfl

theorem burstUpdate_touch {lead : Nat} {cmd : Int} : (burstUpdate lead cmd).Touches 0x1000000000000000000000000000000000000000000000000000000000000000000000000000000000000000000000000000000000000000000000000000000000000000000000000000000000000000000000000000000000 := by
  unfold burstUpdate
  repeat' first | with_reducible apply touch_seqs_cons | with_reducible apply touch_seqs_nil | with_reducible apply touch_updChans | with_reducible apply touch_seq | with_reducible apply touch_skip | with_reducible apply touch_read | with_reducible intro _ | split | dsimp only | exact rfl

theorem modeUpdate_touch {lead : Nat} {cmd : Int} : (modeUpdate lead cmd).Touches 0x1000000000000000000000000000000000000000000000000000000000000000000000000000000000000000000000000000000000000000000000000000000000000000000000000000000000000000400000000000000000 := by
  unfold modeUpdate
  repeat' first | with_reducible apply touch_seqs_cons | with_reducible apply touch_seqs_nil | with_reducible apply touch_setR | with_reducible apply touch_updChans | with_reducible apply touch_seq | with_reducible apply touch_skip | with_reducible apply touch_read | with_reducible intro _ | split | dsimp only | exact rfl

theorem phaseDuty_touch {lead g c : Nat} : (phaseDuty lead g c).Touches 0x1000000000000000000000000000000000000000000000000000000000000000000000000000000000000000000000000000000000000000000000000000000000000000000000000000080000000000000000000000000000 := by
  unfold phaseDuty
  repeat' first | with_reducible apply touch_seqs_cons | with_reducible apply touch_seqs_nil | with_reducible apply touch_setR | with_reducible apply touch_updChans | with_reducible apply touch_seq | with_reducible apply touch_skip | with_reducible apply touch_read | with_reducible intro _ | split | dsimp only | exact rfl

theorem dutyOut_touch {lead : Nat} {duty : Int} : (dutyOut lead duty).Touches 0x1000000000000000000000000000000000000000000000000000000000000000000000000000000000000000000000000000000000000000000000000000000000000000000000000000080000000000000000000000000000 := by
  unfold dutyOut
  repeat' first | with_reducible apply touch_seqs_cons | with_reducible apply touch_seqs_nil | with_reducible apply touch_updChans | with_reducible apply touch_each | with_reducible apply touch_seq | with_reducible apply touch_skip | with_reducible apply touch_read | with_reducible (refine phaseDuty_touch.mono ?_) | with_reducible intro _ | split | dsimp only | exact rfl

theorem burstIdle_touch {lead : Nat} {cmd : Int} : (burstIdle lead cmd).Touches 0x1000000000000000000000000000000000000000000000000000000000000000000000000000000000000000000000000000000000000000000000000000000000000000000000000000080000000000000000000000000000 := by
  unfold burstIdle
  repeat' first | with_reducible apply touch_seqs_cons | with_reducible apply touch_seqs_nil | with_reducible apply touch_setR | with_reducible apply touch_updChans | with_reducible apply touch_seq | with_reducible apply touch_skip | with_reducible apply touch_read | with_reducible intro _ | split | dsimp only | exact rfl

theorem currentLoop_touch {lead : Nat} {cmd meas : Int} : (currentLoop lead cmd meas).Touches 0x1000000000000000000000000000000000000000000000000000000000000000000000000000000000000000000000000000000000000000000000000000000000000000000000000000080000000000000000000000000000 := by
  unfold currentLoop
  repeat' first | with_reducible apply touch_seqs_cons | with_reducible apply touch_seqs_nil | with_reducible apply touch_updChans | with_reducible apply touch_seq | with_reducible apply touch_skip | with_reducible apply touch_read | with_reducible (refine dutyOut_touch.mono ?_) | with_reducible intro _ | split | dsimp only | exact rfl

theorem shedCounts_touch {lead : Nat} {meas : Int} : (shedCounts lead meas).Touches 0x1000000000000000000000000000000000000000000000000000000000000000000000000000000000000000000000000000000000000000000000000000000000000000000000000000000000000000000000000000000000 := by
  unfold shedCounts
  repeat' first | with_reducible apply touch_seqs_cons | with_reducible apply touch_seqs_nil | with_reducible apply touch_updChans | with_reducible apply touch_seq | with_reducible apply touch_skip | with_reducible apply touch_read | with_reducible intro _ | split | dsimp only | exact rfl

theorem phaseCount_touch {lead : Nat} {meas : Int} : (phaseCount lead meas).Touches 0x4000000000000000000000000000000000000000000000000000000000000000000000000000000000000000000000000000000000000000000000000000000000000000000000000000000000000000000000000000000000 := by
  unfold phaseCount
  repeat' first | with_reducible apply touch_seqs_cons | with_reducible apply touch_seqs_nil | with_reducible apply touch_updGauges | with_reducible apply touch_seq | with_reducible apply touch_skip | with_reducible apply touch_read | with_reducible intro _ | split | dsimp only | exact rfl

theorem imbalanceCount_touch {lead : Nat} {ma : List (Nat × Int)} : (imbalanceCount lead ma).Touches 0x1000000000000000000000000000000000000000000000000000000000000000000000000000000000000000000000000000000000000000000000000000000000000000000000000000000000000000000000000000000000 := by
  unfold imbalanceCount
  repeat' first | with_reducible apply touch_seqs_cons | with_reducible apply touch_seqs_nil | with_reducible apply touch_updChans | with_reducible apply touch_each | with_reducible apply touch_seq | with_reducible apply touch_skip | with_reducible apply touch_read | with_reducible intro _ | split | dsimp only | exact rfl

theorem runawayCount_touch {lead : Nat} {meas : Int} : (runawayCount lead meas).Touches 0x1000000000000000000000000000000000000000000000000000000000000000000000000000000000000000000000000000000000000000000000000000000000000000000000000000000000000000000000000000000000 := by
  unfold runawayCount
  repeat' first | with_reducible apply touch_seqs_cons | with_reducible apply touch_seqs_nil | with_reducible apply touch_updChans | with_reducible apply touch_seq | with_reducible apply touch_skip | with_reducible apply touch_read | with_reducible intro _ | split | dsimp only | exact rfl

theorem execCurrentUpdate_within {lead : Nat} {phases : List Int} {vout : Nat} {shadowDiffers : Bool} : RunsWithin 0x1010d74c000000000000000800000000000000000400000000000000c3700801000000000000184800000000000160012000000000761f6d001800000000406400000000004200007fe86d8000e0400000143d04000000000000000 (execCurrentUpdate lead phases vout shadowDiffers) := by
  unfold execCurrentUpdate
  repeat' first | with_reducible apply ends_within | with_reducible apply touch_seqs_cons | with_reducible apply touch_seqs_nil | with_reducible apply touch_setR | with_reducible apply touch_updChans | with_reducible apply touch_each | with_reducible apply touch_when | with_reducible apply touch_seq | with_reducible apply touch_skip | with_reducible apply touch_read | with_reducible (refine burstIdle_touch.mono ?_) | with_reducible (refine burstUpdate_touch.mono ?_) | with_reducible (refine currentLoop_touch.mono ?_) | with_reducible (refine imbalanceCount_touch.mono ?_) | with_reducible (refine maskStandIn_touch.mono ?_) | with_reducible (refine modeUpdate_touch.mono ?_) | with_reducible (refine phaseCount_touch.mono ?_) | with_reducible (refine runaway_touch.mono ?_) | with_reducible (refine runawayCount_touch.mono ?_) | with_reducible (refine shedCounts_touch.mono ?_) | with_reducible (refine takeCoefs_touch.mono ?_) | with_reducible (refine voltageUpdate_touch.mono ?_) | with_reducible intro _ | split | dsimp only | exact rfl

theorem execRiseAbort_within {lead : Nat} : RunsWithin 0x10d74c000000000000000800000000000000000400000000000000c0700001000000000000184800000000000160012000000000761f6d001800000000406400000000004200007fe86d800880000000033d04000000000000000 (execRiseAbort lead) := by
  unfold execRiseAbort
  repeat' first | with_reducible apply ends_within | with_reducible apply touch_seqs_cons | with_reducible apply touch_seqs_nil | with_reducible apply touch_seq | with_reducible apply touch_skip | with_reducible apply touch_read | with_reducible (refine attemptFailed_touch.mono ?_) | with_reducible intro _ | split | dsimp only | exact rfl

theorem execSoftLevelUpdate_within {lead : Nat} {avg : Option Nat} : RunsWithin 0x10d74c000000000000000800000000000000000400000000000000c0700001000000000000184800000000000160012000000000761f6d001800000000406400000000004200007fe86d800880000000133d04000000000000000 (execSoftLevelUpdate lead avg) := by
  unfold execSoftLevelUpdate
  repeat' first | with_reducible apply ends_within | with_reducible apply touch_seqs_cons | with_reducible apply touch_seqs_nil | with_reducible apply touch_setR | with_reducible apply touch_updChans | with_reducible apply touch_seq | with_reducible apply touch_skip | with_reducible apply touch_read | with_reducible (refine leadPark_touch.mono ?_) | with_reducible (refine leadStart_touch.mono ?_) | with_reducible intro _ | split | dsimp only | exact rfl

theorem execStartBackoffEnd_within {lead : Nat} {avg : Option Nat} : RunsWithin 0x10d74c000000000000000800000000000000000400000000000000c0700001000000000000184800000000000160012000000000761f6d001800000000406400000000004200007fe86d800880000000133d04000000000000000 (execStartBackoffEnd lead avg) := by
  unfold execStartBackoffEnd
  repeat' first | with_reducible apply ends_within | with_reducible apply touch_seqs_cons | with_reducible apply touch_seqs_nil | with_reducible apply touch_setR | with_reducible apply touch_seq | with_reducible apply touch_skip | with_reducible apply touch_read | with_reducible (refine leadStart_touch.mono ?_) | with_reducible intro _ | split | dsimp only | exact rfl

theorem execRetriesReset_within {lead : Nat} : RunsWithin 0x800000000000000000000000000000 (execRetriesReset lead) := by
  unfold execRetriesReset
  repeat' first | with_reducible apply ends_within | with_reducible apply touch_seqs_cons | with_reducible apply touch_seqs_nil | with_reducible apply touch_setR | with_reducible apply touch_seq | with_reducible apply touch_skip | with_reducible apply touch_read | with_reducible intro _ | split | dsimp only | exact rfl

theorem execPeakLimitTruncate_within {ch : Nat} {i : Nat} {at_ : Nat} : RunsWithin 0x1000000000000000000000000000000000000000000000000000000000000000000000000000000000000000000000000000000000000000000000000000000000000000000000000000400000000000000000000000000000 (execPeakLimitTruncate ch i at_) := by
  unfold execPeakLimitTruncate
  repeat' first | with_reducible apply ends_within | with_reducible apply touch_seqs_cons | with_reducible apply touch_seqs_nil | with_reducible apply touch_incSat | with_reducible apply touch_updChans | with_reducible apply touch_seq | with_reducible apply touch_skip | with_reducible apply touch_read | with_reducible intro _ | split | dsimp only | exact rfl

theorem enableWritten_touch {ch : Nat} : (enableWritten ch).Touches 0x10d74c00000000000000080000000000000000040000000000000080700000000000000000000000000000000160012000000000761f6d001800000000406400000000000000007f802d800080000000003d04000000000000000 := by
  unfold enableWritten
  repeat' first | with_reducible apply touch_seqs_cons | with_reducible apply touch_seqs_nil | with_reducible apply touch_updChans | with_reducible apply touch_seq | with_reducible apply touch_skip | with_reducible apply touch_read | with_reducible (refine leadPark_touch.mono ?_) | with_reducible (refine softStop_touch.mono ?_) | with_reducible intro _ | split | dsimp only | exact rfl

theorem freeRun_touch {lead : Nat} : (freeRun lead).Touches 0x100000000000000000000000000000 := by
  unfold freeRun
  repeat' first | with_reducible apply touch_seqs_cons | with_reducible apply touch_seqs_nil | with_reducible apply touch_setR | with_reducible apply touch_each | with_reducible apply touch_seq | with_reducible apply touch_skip | with_reducible apply touch_read | with_reducible intro _ | split | dsimp only | exact rfl

theorem perEff_touch {lead per : Nat} : (perEff lead per).Touches 0x100000000000000000000000000000 := by
  unfold perEff
  repeat' first | with_reducible apply touch_seqs_cons | with_reducible apply touch_seqs_nil | with_reducible apply touch_setR | with_reducible apply touch_each | with_reducible apply touch_seq | with_reducible apply touch_skip | with_reducible apply touch_read | with_reducible intro _ | split | dsimp only | exact rfl

theorem execSyncInEdge_within {ticks : Nat} : RunsWithin 0x1000000000000000000000000000000000000000000000000000000000000000000000000000000000000000000000000000000000000000000000000000000000000000000000000000100000000004000000000000000000 (execSyncInEdge ticks) := by
  unfold execSyncInEdge
  repeat' first | with_reducible apply ends_within | with_reducible apply touch_seqs_cons | with_reducible apply touch_seqs_nil | with_reducible apply touch_setR | with_reducible apply touch_updChans | with_reducible apply touch_each | with_reducible apply touch_seq | with_reducible apply touch_skip | with_reducible apply touch_read | with_reducible (refine freeRun_touch.mono ?_) | with_reducible (refine perEff_touch.mono ?_) | with_reducible intro _ | split | dsimp only | exact rfl

theorem execSyncLoss_within {lead : Nat} {ticks : Nat} : RunsWithin 0x14c000000000000000800000000000000000000000000000000000000000000000000000000000000000001000120000000000000000000000000000000000000000000000000000000100000000000c000000000000000000 (execSyncLoss lead ticks) := by
  unfold execSyncLoss
  repeat' first | with_reducible apply ends_within | with_reducible apply touch_seqs_cons | with_reducible apply touch_seqs_nil | with_reducible apply touch_setR | with_reducible apply touch_incSat | with_reducible apply touch_updChans | with_reducible apply touch_seq | with_reducible apply touch_skip | with_reducible apply touch_read | with_reducible (refine raisePf_touch.mono ?_) | with_reducible intro _ | split | dsimp only | exact rfl

theorem execSyncRelock_within {lead : Nat} {offset : Nat} : RunsWithin 0x100000000000000000000000000000000000000000000000000000000000000000000000000000000000000000000000000000000000000000000000000000000000000000000000000010000000000c000000000000000000 (execSyncRelock lead offset) := by
  unfold execSyncRelock
  repeat' first | with_reducible apply ends_within | with_reducible apply touch_seqs_cons | with_reducible apply touch_seqs_nil | with_reducible apply touch_setR | with_reducible apply touch_updChans | with_reducible apply touch_seq | with_reducible apply touch_skip | with_reducible apply touch_read | with_reducible (refine perEff_touch.mono ?_) | with_reducible intro _ | split | dsimp only | exact rfl

theorem execPhaseAddMeasured_within {lead : Nat} : RunsWithin 0x1000000000000000000000000000000000000000000000000000000000000000000000000000000000000000000000000000000000000000000000000000000000000000000000000000000000000002100000000000000000 (execPhaseAddMeasured lead) := by
  unfold execPhaseAddMeasured
  repeat' first | with_reducible apply ends_within | with_reducible apply touch_seqs_cons | with_reducible apply touch_seqs_nil | with_reducible apply touch_seq | with_reducible apply touch_skip | with_reducible apply touch_read | with_reducible (refine addPhases_touch.mono ?_) | with_reducible intro _ | split | dsimp only | exact rfl

theorem execPhaseShed_within {lead : Nat} : RunsWithin 0x1000000000000000000000000000000000000000000000000000000000000000000000000000000000000000000000000000000000000000000000000000000000000000000000000000000000000002000000000000000000 (execPhaseShed lead) := by
  unfold execPhaseShed
  repeat' first | with_reducible apply ends_within | with_reducible apply touch_seqs_cons | with_reducible apply touch_seqs_nil | with_reducible apply touch_setR | with_reducible apply touch_updChans | with_reducible apply touch_each | with_reducible apply touch_seq | with_reducible apply touch_skip | with_reducible apply touch_read | with_reducible (refine moveOffsets_touch.mono ?_) | with_reducible intro _ | split | dsimp only | exact rfl

theorem execPhaseHandoverEnd_within {lead : Nat} : RunsWithin 0x1000000000000000000000000000000000000000000000000000000000000000000000000000000000000000000000000000000000000000000000000000000000000000000000000000080000000000100000000000000000 (execPhaseHandoverEnd lead) := by
  unfold execPhaseHandoverEnd
  repeat' first | with_reducible apply ends_within | with_reducible apply touch_seqs_cons | with_reducible apply touch_seqs_nil | with_reducible apply touch_setR | with_reducible apply touch_updChans | with_reducible apply touch_each | with_reducible apply touch_seq | with_reducible apply touch_skip | with_reducible apply touch_read | with_reducible intro _ | split | dsimp only | exact rfl

theorem gangWritten_touch {old : Nat} : (gangWritten old).Touches 0x20000000000000000000000000000000000000000000000000000000000000000000000000000000000000000000000000000000000000000000000000000000000000000000001ff800000000000000200000000000000000 := by
  unfold gangWritten
  repeat' first | with_reducible apply touch_seqs_cons | with_reducible apply touch_seqs_nil | with_reducible apply touch_setR | with_reducible apply touch_each | with_reducible apply touch_when | with_reducible apply touch_seq | with_reducible apply touch_skip | with_reducible apply touch_read | with_reducible (refine gangLeave_touch.mono ?_) | with_reducible (refine gangShow_touch.mono ?_) | with_reducible (refine leadFlags_touch.mono ?_) | with_reducible (refine scanPresence_touch.mono ?_) | with_reducible intro _ | split | dsimp only | exact rfl

theorem imbalanceNext_touch {lead : Nat} : (imbalanceNext lead).Touches 0x1000000000000000000000000000000000000000000000000000000000000000000000000000000000000000000000000000000000000000000000000000000000000000000000000000000000000000000000000000000000 := by
  unfold imbalanceNext
  repeat' first | with_reducible apply touch_seqs_cons | with_reducible apply touch_seqs_nil | with_reducible apply touch_updChans | with_reducible apply touch_each | with_reducible apply touch_seq | with_reducible apply touch_skip | with_reducible apply touch_read | with_reducible intro _ | split | dsimp only | exact rfl

theorem execImbalanceCheck_within {lead : Nat} : RunsWithin 0x14c0000000000000008000000000000000000000000000000000000000000000000000000000000000000010001200000000000000000000000000000000000000000000000000000000200000000000000000000000000000 (execImbalanceCheck lead) := by
  unfold execImbalanceCheck
  repeat' first | with_reducible apply ends_within | with_reducible apply touch_seqs_cons | with_reducible apply touch_seqs_nil | with_reducible apply touch_setR | with_reducible apply touch_updChans | with_reducible apply touch_seq | with_reducible apply touch_skip | with_reducible apply touch_read | with_reducible (refine imbalanceNext_touch.mono ?_) | with_reducible (refine raiseOutput_touch.mono ?_) | with_reducible intro _ | split | dsimp only | exact rfl

theorem execDrvFault_within {lead : Nat} {lowNs : Nat} : RunsWithin 0x10d74c000000000000000800000000000000000400000000000000c0700001000000000000184800000000000160012000000000761f6d001800000000406400000000004200007fe86d800080000000083d04000000000000000 (execDrvFault lead lowNs) := by
  unfold execDrvFault
  repeat' first | with_reducible apply ends_within | with_reducible apply touch_seqs_cons | with_reducible apply touch_seqs_nil | with_reducible apply touch_setR | with_reducible apply touch_updChans | with_reducible apply touch_seq | with_reducible apply touch_skip | with_reducible apply touch_read | with_reducible (refine outputSafe_touch.mono ?_) | with_reducible (refine raiseOutput_touch.mono ?_) | with_reducible intro _ | split | dsimp only | exact rfl

theorem execRunaway_within {lead cond : Nat} : RunsWithin 0x10d74c000000000000000800000000000000000400000000000000c0700001000000000000184800000000000160012000000000761f6d001800000000406400000000004200007fe86d800080000000043d04000000000000000 (execRunaway lead cond) := by
  unfold execRunaway
  repeat' first | with_reducible apply ends_within | with_reducible apply touch_seqs_cons | with_reducible apply touch_seqs_nil | with_reducible apply touch_cond | with_reducible apply touch_seq | with_reducible apply touch_skip | with_reducible apply touch_read | with_reducible (refine runaway_touch.mono ?_) | with_reducible intro _ | split | dsimp only | exact rfl

theorem execCommitStale_within {lead : Nat} : RunsWithin 0x10d74c00000000000000080000000000000000040000000000000080700000000000000000000000000000000160012000000000761f6d001800000000406400000000000000007f802d800080000000003d04000000000000000 (execCommitStale lead) := by
  unfold execCommitStale
  repeat' first | with_reducible apply ends_within | with_reducible apply touch_seqs_cons | with_reducible apply touch_seqs_nil | with_reducible apply touch_seq | with_reducible apply touch_skip | with_reducible apply touch_read | with_reducible (refine raisePf_touch.mono ?_) | with_reducible (refine softStop_touch.mono ?_) | with_reducible intro _ | split | dsimp only | exact rfl

end Sys2Proof.Machine
end

