-- ==== Sys2Proof/Laws/WithinSlotOps.lean ====
section
/-! SUPPORT. The mask of every operation and meaning of Machine/SlotOps.lean (see Laws/Touch.lean): what it can change at all. -/

set_option Elab.async false

set_option maxRecDepth 8192
set_option linter.unreachableTactic false
set_option linter.unusedTactic false

namespace Sys2Proof.Machine

theorem identified_touch {sl : Nat} {p : PackRec} : (identified sl p).Touches 0x64c00000000000000080000000000000000000000000000000080700000000000000000000000000000000100012000000010001f2100000000000000000000000000000f007f8000800000000000000000000000000000000 := by
  unfold identified
  repeat' first | with_reducible apply touch_seqs_cons | with_reducible apply touch_seqs_nil | with_reducible apply touch_setR | with_reducible apply touch_updSlots | with_reducible apply touch_seq | with_reducible apply touch_skip | with_reducible apply touch_read | with_reducible (refine fgArm_touch.mono ?_) | with_reducible (refine gaugeStart_touch.mono ?_) | with_reducible (refine raiseSlot_touch.mono ?_) | with_reducible intro _ | split | dsimp only | exact rfl

theorem toPhase_touch {sl ph : Nat} : (toPhase sl ph).Touches 0x2000000000000000000000000000000000000000000000000000000000000000000000000000000000000000000000000000000000000000000000000000000000000008000000001000000000000000000000000000000000 := by
  unfold toPhase
  repeat' first | with_reducible apply touch_seqs_cons | with_reducible apply touch_seqs_nil | with_reducible apply touch_setR | with_reducible apply touch_updSlots | with_reducible apply touch_when | with_reducible apply touch_seq | with_reducible apply touch_skip | with_reducible apply touch_read | with_reducible intro _ | split | dsimp only | exact rfl

theorem chargeRestart_touch {sl : Nat} : (chargeRestart sl).Touches 0x2000000000000000000000000000000000000000000000000000000000000000000000000000000000000000000000000000000000000000000000000000000000000018000000001800000000000000000000000000000000 := by
  unfold chargeRestart
  repeat' first | with_reducible apply touch_seqs_cons | with_reducible apply touch_seqs_nil | with_reducible apply touch_setR | with_reducible apply touch_updSlots | with_reducible apply touch_seq | with_reducible apply touch_skip | with_reducible apply touch_read | with_reducible intro _ | split | dsimp only | exact rfl

theorem chargeBegin_touch {sl : Nat} {p : Profile} : (chargeBegin sl p).Touches 0x20000000000000000000000000000000000000000000000000000000000000000000000000000000000000000000000000000000000000000000000000000000000000180ff800001800000000000000000000000000000000 := by
  unfold chargeBegin
  repeat' first | with_reducible apply touch_seqs_cons | with_reducible apply touch_seqs_nil | with_reducible apply touch_setR | with_reducible apply touch_updSlots | with_reducible apply touch_seq | with_reducible apply touch_skip | with_reducible apply touch_read | with_reducible (refine chargeRestart_touch.mono ?_) | with_reducible intro _ | split | dsimp only | exact rfl

theorem chargeResume_touch {sl : Nat} : (chargeResume sl).Touches 0x1800000000000000000000000000000000 := by
  unfold chargeResume
  repeat' first | with_reducible apply touch_seqs_cons | with_reducible apply touch_seqs_nil | with_reducible apply touch_setR | with_reducible apply touch_seq | with_reducible apply touch_skip | with_reducible apply touch_read | with_reducible intro _ | split | dsimp only | exact rfl

theorem auditPause_touch {sl : Nat} : (auditPause sl).Touches 0x10d74c00000000000000080000000000000000040000000000000080700000000000000000000000000000000160012000000000761f6d001800000000406400000000000000007f802d800080000000003d04000000000000000 := by
  unfold auditPause
  repeat' first | with_reducible apply touch_seqs_cons | with_reducible apply touch_seqs_nil | with_reducible apply touch_updSlots | with_reducible apply touch_seq | with_reducible apply touch_skip | with_reducible apply touch_read | with_reducible (refine parkCounted_touch.mono ?_) | with_reducible (refine softStop_touch.mono ?_) | with_reducible intro _ | split | dsimp only | exact rfl

theorem zoneAct_touch {sl new : Nat} : (zoneAct sl new).Touches 0x10d74c00000000000000080000000000000000040000000000000080700000000000000000000000000000000160012000000000761f6d001800000000406400000000000200007f806d800080000000003d04000000000000000 := by
  unfold zoneAct
  repeat' first | with_reducible apply touch_seqs_cons | with_reducible apply touch_seqs_nil | with_reducible apply touch_updSlots | with_reducible apply touch_seq | with_reducible apply touch_skip | with_reducible apply touch_read | with_reducible (refine auditPause_touch.mono ?_) | with_reducible (refine chargeResume_touch.mono ?_) | with_reducible (refine stopSlot_touch.mono ?_) | with_reducible (refine transferStop_touch.mono ?_) | with_reducible intro _ | split | dsimp only | exact rfl

theorem zoneUpdate_touch {sl : Nat} : (zoneUpdate sl).Touches 0x10d74c00000000000000080000000000000000040000000000000080700000000000000000000000000000000160012000000000761f6d00180000000040640000000000020f007f806f800080000000003d04000000000000000 := by
  unfold zoneUpdate
  repeat' first | with_reducible apply touch_seqs_cons | with_reducible apply touch_seqs_nil | with_reducible apply touch_setR | with_reducible apply touch_seq | with_reducible apply touch_skip | with_reducible apply touch_read | with_reducible (refine raiseSlot_touch.mono ?_) | with_reducible (refine zoneAct_touch.mono ?_) | with_reducible intro _ | split | dsimp only | exact rfl

theorem ntcResult_touch {sl input : Nat} {temp : Option Int} {since : Bool} : (ntcResult sl input temp since).Touches 0x10d74c00000000000000080000000000000000040000000000000080700000000000000000000000000000000160012000000000761f6d00180000000040640000000000023f007f81ef800080000000003d04000000000000000 := by
  unfold ntcResult
  repeat' first | with_reducible apply touch_seqs_cons | with_reducible apply touch_seqs_nil | with_reducible apply touch_setR | with_reducible apply touch_updSlots | with_reducible apply touch_when | with_reducible apply touch_seq | with_reducible apply touch_skip | with_reducible apply touch_read | with_reducible (refine raiseSlot_touch.mono ?_) | with_reducible (refine zoneUpdate_touch.mono ?_) | with_reducible intro _ | split | dsimp only | exact rfl

theorem vpackResult_touch {sl mv : Nat} : (vpackResult sl mv).Touches 0x2000000000000000000000000000000000000000000000000000000000000000000000000000000000000000000000000000000000000000000000000000000000000004000000000000000000000000000000000000000000 := by
  unfold vpackResult
  repeat' first | with_reducible apply touch_seqs_cons | with_reducible apply touch_seqs_nil | with_reducible apply touch_setR | with_reducible apply touch_updSlots | with_reducible apply touch_seq | with_reducible apply touch_skip | with_reducible apply touch_read | with_reducible intro _ | split | dsimp only | exact rfl

theorem receiptEnd_touch {sl xfer : Nat} : (receiptEnd sl xfer).Touches 0x10d74c00000000000000080000000000000000040000000000000080700000000000000000000000000000000160012000000000761f6d001800000000406400000000000200007f806d800080000000003d04000000000000000 := by
  unfold receiptEnd
  repeat' first | with_reducible apply touch_seqs_cons | with_reducible apply touch_seqs_nil | with_reducible apply touch_seq | with_reducible apply touch_skip | with_reducible apply touch_read | with_reducible (refine transferStop_touch.mono ?_) | with_reducible intro _ | split | dsimp only | exact rfl

theorem endCharge_touch {sl reason xfer : Nat} : (endCharge sl reason xfer).Touches 0x10d74c00000000000000080000000000000000040000000000000080700000000000000000000000000000000160012000000000761f6d001800000000406400000000000200007f806d800080000000003d04000000000000000 := by
  unfold endCharge
  repeat' first | with_reducible apply touch_seqs_cons | with_reducible apply touch_seqs_nil | with_reducible apply touch_seq | with_reducible apply touch_skip | with_reducible apply touch_read | with_reducible (refine receiptEnd_touch.mono ?_) | with_reducible (refine stopSlot_touch.mono ?_) | with_reducible intro _ | split | dsimp only | exact rfl

theorem phaseTimeout_touch {sl : Nat} : (phaseTimeout sl).Touches 0x10d74c000000000000000800000000000000000400000000000000c0700001000000000000000000000000000160012000000000761f6d001800000000406400000000004200007fe86d800080000000003d04000000000000000 := by
  unfold phaseTimeout
  repeat' first | with_reducible apply touch_seqs_cons | with_reducible apply touch_seqs_nil | with_reducible apply touch_seq | with_reducible apply touch_skip | with_reducible apply touch_read | with_reducible (refine slotSafe_touch.mono ?_) | with_reducible intro _ | split | dsimp only | exact rfl

theorem cvTimeout_touch {sl : Nat} : (cvTimeout sl).Touches 0x10d7cc00000000000000080000000000000000040000000000000080700000000000000000000000000000000160012000000000761f6d001800000000406400000000004200007f806d800080000000003d04000000000000000 := by
  unfold cvTimeout
  repeat' first | with_reducible apply touch_seqs_cons | with_reducible apply touch_seqs_nil | with_reducible apply touch_updSlots | with_reducible apply touch_when | with_reducible apply touch_withFree | with_reducible apply touch_seq | with_reducible apply touch_skip | with_reducible apply touch_read | with_reducible (refine auditEnd_touch.mono ?_) | with_reducible (refine endCharge_touch.mono ?_) | with_reducible intro _ | split | dsimp only | exact rfl

theorem timersFirst_touch {sl : Nat} : (timersFirst sl).Touches 0x10d7cc000000000000000800000000000000000400000000000000c0700001000000000000000000000000000160012000000000761f6d001800000000406400000000004200007fe86d800080000000003d04000000000000000 := by
  unfold timersFirst
  repeat' first | with_reducible apply touch_seqs_cons | with_reducible apply touch_seqs_nil | with_reducible apply touch_seq | with_reducible apply touch_skip | with_reducible apply touch_read | with_reducible (refine cvTimeout_touch.mono ?_) | with_reducible (refine phaseTimeout_touch.mono ?_) | with_reducible intro _ | split | dsimp only | exact rfl

theorem endAll_touch {sl reason after : Nat} : (endAll sl reason after).Touches 0x10d74c00000000000000080000000000000000040000000000000080700000000000000000000000000000000160012000000000761f6d001800000000406400000000004200007f806d800080000000003d04000000000000000 := by
  unfold endAll
  repeat' first | with_reducible apply touch_seqs_cons | with_reducible apply touch_seqs_nil | with_reducible apply touch_updSlots | with_reducible apply touch_when | with_reducible apply touch_seq | with_reducible apply touch_skip | with_reducible apply touch_read | with_reducible (refine auditEnd_touch.mono ?_) | with_reducible (refine endCharge_touch.mono ?_) | with_reducible (refine stopSlot_touch.mono ?_) | with_reducible (refine transferEnd_touch.mono ?_) | with_reducible intro _ | split | dsimp only | exact rfl

theorem outputClear_touch {lead : Nat} : (outputClear lead).Touches 0x8000000000f1000000000000000000 := by
  unfold outputClear
  repeat' first | with_reducible apply touch_seqs_cons | with_reducible apply touch_seqs_nil | with_reducible apply touch_setR | with_reducible apply touch_seq | with_reducible apply touch_skip | with_reducible apply touch_read | with_reducible intro _ | split | dsimp only | exact rfl

theorem sltLater_touch {a v : Nat} : (sltLater a v).Touches 0x100000000000000000000000000000000000000000000000000000000000000000000000000000000000000000000000000000000000000000000000000000000000000000000000000000000000000000000000000000000000000 := by
  unfold sltLater
  repeat' first | with_reducible apply touch_seqs_cons | with_reducible apply touch_seqs_nil | with_reducible apply touch_updEng | with_reducible apply touch_seq | with_reducible apply touch_skip | with_reducible apply touch_read | with_reducible intro _ | split | dsimp only | exact rfl

theorem taskAgain_touch {t : Nat} : (taskAgain t).Touches 0x80000000000000000000000000000000000000000000000000000000000000000100000000000000000000000000000000000000000000000000000000000000000000000000000000000000000000000000000000000000000000 := by
  unfold taskAgain
  repeat' first | with_reducible apply touch_seqs_cons | with_reducible apply touch_seqs_nil | with_reducible apply touch_setR | with_reducible apply touch_updTasks | with_reducible apply touch_when | with_reducible apply touch_seq | with_reducible apply touch_skip | with_reducible apply touch_read | with_reducible intro _ | split | dsimp only | exact rfl

theorem tasksResume_touch {sl : Nat} : (tasksResume sl).Touches 0x80000000000000000000000000000000000000000000000000000000000000000100000000000000000000000000000000000000000000000000000000000000000000000000000000000000000000000000000000000000000000 := by
  unfold tasksResume
  repeat' first | with_reducible apply touch_seqs_cons | with_reducible apply touch_seqs_nil | with_reducible apply touch_each | with_reducible apply touch_seq | with_reducible apply touch_skip | with_reducible apply touch_read | with_reducible (refine taskAgain_touch.mono ?_) | with_reducible intro _ | split | dsimp only | exact rfl

theorem faultClear_touch {sl : Nat} : (faultClear sl).Touches 0x810864c0000000000000008000000000000000000000000000000007f000001001000000000000000000000000100012000000000761f6d001800000000400000000000000000007f882d8008000000000f1000000000000000000 := by
  unfold faultClear
  repeat' first | with_reducible apply touch_seqs_cons | with_reducible apply touch_seqs_nil | with_reducible apply touch_setR | with_reducible apply touch_updR | with_reducible apply touch_updSlots | with_reducible apply touch_each | with_reducible apply touch_seq | with_reducible apply touch_skip | with_reducible apply touch_read | with_reducible (refine finalSnapshot_touch.mono ?_) | with_reducible (refine identBegin_touch.mono ?_) | with_reducible (refine outputClear_touch.mono ?_) | with_reducible (refine packForget_touch.mono ?_) | with_reducible (refine tasksResume_touch.mono ?_) | with_reducible intro _ | split | dsimp only | exact rfl

theorem ownerCommit_touch {sl : Nat} {fn : Option Nat} : (ownerCommit sl fn).Touches 0x10d75c00000000000000080000000000000000040000000000000080700000000000000000000000000180000160012000000000761f6d001800000000406400000000004200007f866d800080000000003d04000000000000000 := by
  unfold ownerCommit
  repeat' first | with_reducible apply touch_seqs_cons | with_reducible apply touch_seqs_nil | with_reducible apply touch_setR | with_reducible apply touch_updSlots | with_reducible apply touch_when | with_reducible apply touch_seq | with_reducible apply touch_skip | with_reducible apply touch_read | with_reducible (refine busCancel_touch.mono ?_) | with_reducible (refine endAll_touch.mono ?_) | with_reducible (refine finalSnapshot_touch.mono ?_) | with_reducible (refine reidentify_touch.mono ?_) | with_reducible (refine useUpdate_touch.mono ?_) | with_reducible intro _ | split | dsimp only | exact rfl

end Sys2Proof.Machine
end

