-- ==== Sys2Proof/Laws/WithinCharging.lean ====
section
/-! SUPPORT. The mask of every operation and meaning of Machine/Charging.lean (see Laws/Touch.lean): what it can change at all. -/

set_option Elab.async false

set_option maxRecDepth 8192
set_option linter.unreachableTactic false
set_option linter.unusedTactic false

namespace Sys2Proof.Machine

theorem execChargePhaseAdvance_within {sl : Nat} : RunsWithin 0x2000000000000000000000000000000000000000000000000000000000000000000000000000000000000000000000000000000000000000000000000000000000000008000000001000000000000000000000000000000000 (execChargePhaseAdvance sl) := by
  unfold execChargePhaseAdvance
  repeat' first | with_reducible apply ends_within | with_reducible apply touch_seqs_cons | with_reducible apply touch_seqs_nil | with_reducible apply touch_seq | with_reducible apply touch_skip | with_reducible apply touch_read | with_reducible (refine toPhase_touch.mono ?_) | with_reducible intro _ | split | dsimp only | exact rfl

theorem execCvEntry_within {sl : Nat} : RunsWithin 0x2000000000000000000000000000000000000000000000000000000000000000000000000000000000000000000000000000000000000000000000000000000000000008000000001000000000000000000000000000000000 (execCvEntry sl) := by
  unfold execCvEntry
  repeat' first | with_reducible apply ends_within | with_reducible apply touch_seqs_cons | with_reducible apply touch_seqs_nil | with_reducible apply touch_updSlots | with_reducible apply touch_seq | with_reducible apply touch_skip | with_reducible apply touch_read | with_reducible (refine toPhase_touch.mono ?_) | with_reducible intro _ | split | dsimp only | exact rfl

theorem execPackSag_within {sl : Nat} : RunsWithin 0x24c0000000000000008000000000000000000000000000000000000000000000000000000000000000000010001200000000000000000000000000000000000000000008000000001000000000000000000000000000000000 (execPackSag sl) := by
  unfold execPackSag
  repeat' first | with_reducible apply ends_within | with_reducible apply touch_seqs_cons | with_reducible apply touch_seqs_nil | with_reducible apply touch_seq | with_reducible apply touch_skip | with_reducible apply touch_read | with_reducible (refine raiseSlot_touch.mono ?_) | with_reducible (refine toPhase_touch.mono ?_) | with_reducible intro _ | split | dsimp only | exact rfl

theorem execChargePhaseTimeout_within {sl : Nat} : RunsWithin 0x10d74c000000000000000800000000000000000400000000000000c0700001000000000000000000000000000160012000000000761f6d001800000000406400000000004200007fe86d800080000000003d04000000000000000 (execChargePhaseTimeout sl) := by
  unfold execChargePhaseTimeout
  repeat' first | with_reducible apply ends_within | with_reducible apply touch_seqs_cons | with_reducible apply touch_seqs_nil | with_reducible apply touch_seq | with_reducible apply touch_skip | with_reducible apply touch_read | with_reducible (refine phaseTimeout_touch.mono ?_) | with_reducible intro _ | split | dsimp only | exact rfl

theorem execCvMaxExpiry_within {sl : Nat} : RunsWithin 0x10d7cc00000000000000080000000000000000040000000000000080700000000000000000000000000000000160012000000000761f6d001800000000406400000000004200007f806d800080000000003d04000000000000000 (execCvMaxExpiry sl) := by
  unfold execCvMaxExpiry
  repeat' first | with_reducible apply ends_within | with_reducible apply touch_seqs_cons | with_reducible apply touch_seqs_nil | with_reducible apply touch_seq | with_reducible apply touch_skip | with_reducible apply touch_read | with_reducible (refine cvTimeout_touch.mono ?_) | with_reducible intro _ | split | dsimp only | exact rfl

theorem execCvMaxParkFail_within {sl : Nat} : RunsWithin 0x10d74c000000000000000800000000000000000400000000000000c0700001000000000000000000000000000160012000000000761f6d001800000000406400000000004200007fe86d800080000000003d04000000000000000 (execCvMaxParkFail sl) := by
  unfold execCvMaxParkFail
  repeat' first | with_reducible apply ends_within | with_reducible apply touch_seqs_cons | with_reducible apply touch_seqs_nil | with_reducible apply touch_seq | with_reducible apply touch_skip | with_reducible apply touch_read | with_reducible (refine slotSafe_touch.mono ?_) | with_reducible intro _ | split | dsimp only | exact rfl

theorem execSlotSuspend_within {sl : Nat} : RunsWithin 0x800000000000000000000000000000000 (execSlotSuspend sl) := by
  unfold execSlotSuspend
  repeat' first | with_reducible apply ends_within | with_reducible apply touch_seqs_cons | with_reducible apply touch_seqs_nil | with_reducible apply touch_setR | with_reducible apply touch_seq | with_reducible apply touch_skip | with_reducible apply touch_read | with_reducible intro _ | split | dsimp only | exact rfl

theorem taperEvent_touch {sl step : Nat} {i : Int} : (taperEvent sl step i).Touches 0x4c0000000000000008000000000000000000000000000000000000000000000000000000000000000000010001200000000000000000000000000000000000000000000000000000000000000000000000000000000000000 := by
  unfold taperEvent
  repeat' first | with_reducible apply touch_seqs_cons | with_reducible apply touch_seqs_nil | with_reducible apply touch_seq | with_reducible apply touch_skip | with_reducible apply touch_read | with_reducible (refine raiseSlot_touch.mono ?_) | with_reducible intro _ | split | dsimp only | exact rfl

theorem execTaperCheck_within {sl : Nat} : RunsWithin 0x24c0000000000000008000000000000000000000000000000000000000000000000000000000000000000010001200000000000000000000000000000000000000000000000000000000000000000000000000000000000000 (execTaperCheck sl) := by
  unfold execTaperCheck
  repeat' first | with_reducible apply ends_within | with_reducible apply touch_seqs_cons | with_reducible apply touch_seqs_nil | with_reducible apply touch_updSlots | with_reducible apply touch_each | with_reducible apply touch_seq | with_reducible apply touch_skip | with_reducible apply touch_read | with_reducible (refine taperEvent_touch.mono ?_) | with_reducible intro _ | split | dsimp only | exact rfl

theorem execTransferEnd_within {sl : Nat} : RunsWithin 0x10d74c00000000000000080000000000000000040000000000000080700000000000000000000000000000000160012000000000761f6d001800000000406400000000000200007f806d800080000000003d04000000000000000 (execTransferEnd sl) := by
  unfold execTransferEnd
  repeat' first | with_reducible apply ends_within | with_reducible apply touch_seqs_cons | with_reducible apply touch_seqs_nil | with_reducible apply touch_seq | with_reducible apply touch_skip | with_reducible apply touch_read | with_reducible (refine transferStop_touch.mono ?_) | with_reducible intro _ | split | dsimp only | exact rfl

theorem execAuditFillComplete_within {sl : Nat} : RunsWithin 0x10d74c00000000000000080000000000000000040000000000000080700000000000000000000000000000000160012000000000761f6d001800000000406400000000000200007f802d800080000000003d04000000000000000 (execAuditFillComplete sl) := by
  unfold execAuditFillComplete
  repeat' first | with_reducible apply ends_within | with_reducible apply touch_seqs_cons | with_reducible apply touch_seqs_nil | with_reducible apply touch_setR | with_reducible apply touch_updSlots | with_reducible apply touch_seq | with_reducible apply touch_skip | with_reducible apply touch_read | with_reducible (refine softStop_touch.mono ?_) | with_reducible intro _ | split | dsimp only | exact rfl

theorem execAuditRestEnd_within {sl : Nat} : RunsWithin 0x10d74c00000000000000080000000000000000040000000000000080700000000000000000000000000000000160012000000000761f6d001800000000406400000000000000007f802d800080000000003d04000000000000000 (execAuditRestEnd sl) := by
  unfold execAuditRestEnd
  repeat' first | with_reducible apply ends_within | with_reducible apply touch_seqs_cons | with_reducible apply touch_seqs_nil | with_reducible apply touch_updSlots | with_reducible apply touch_when | with_reducible apply touch_seq | with_reducible apply touch_skip | with_reducible apply touch_read | with_reducible (refine auditPause_touch.mono ?_) | with_reducible intro _ | split | dsimp only | exact rfl

theorem execAuditPause_within {sl : Nat} : RunsWithin 0x10d74c00000000000000080000000000000000040000000000000080700000000000000000000000000000000160012000000000761f6d001800000000406400000000000000007f802d800080000000003d04000000000000000 (execAuditPause sl) := by
  unfold execAuditPause
  repeat' first | with_reducible apply ends_within | with_reducible apply touch_seqs_cons | with_reducible apply touch_seqs_nil | with_reducible apply touch_seq | with_reducible apply touch_skip | with_reducible apply touch_read | with_reducible (refine auditPause_touch.mono ?_) | with_reducible intro _ | split | dsimp only | exact rfl

theorem execAuditResume_within {sl : Nat} : RunsWithin 0x2000000000000000000000000000000000000000000000000000000000000000000000000000000000000000000000000000000000000000000000000000000000000000000000000000000000000000000000000000000000 (execAuditResume sl) := by
  unfold execAuditResume
  repeat' first | with_reducible apply ends_within | with_reducible apply touch_seqs_cons | with_reducible apply touch_seqs_nil | with_reducible apply touch_updSlots | with_reducible apply touch_seq | with_reducible apply touch_skip | with_reducible apply touch_read | with_reducible intro _ | split | dsimp only | exact rfl

theorem execAuditEmpty_within {sl : Nat} : RunsWithin 0x10d74c00000000000000080000000000000000040000000000000080700000000000000000000000000000000160012000000010761f6d00180000000040640000000000e380007f802d800080000000003d04000000000000000 (execAuditEmpty sl) := by
  unfold execAuditEmpty
  repeat' first | with_reducible apply ends_within | with_reducible apply touch_seqs_cons | with_reducible apply touch_seqs_nil | with_reducible apply touch_setR | with_reducible apply touch_seq | with_reducible apply touch_skip | with_reducible apply touch_read | with_reducible (refine auditEnd_touch.mono ?_) | with_reducible (refine chargeRestart_touch.mono ?_) | with_reducible (refine emptyAnchor_touch.mono ?_) | with_reducible (refine softStop_touch.mono ?_) | with_reducible (refine stopSlot_touch.mono ?_) | with_reducible intro _ | split | dsimp only | exact rfl

theorem execAuditPauseLimit_within {sl : Nat} : RunsWithin 0x10d74c00000000000000080000000000000000040000000000000080700000000000000000000000000000000160012000000000761f6d00180000000040640000000000e200007f802d800080000000003d04000000000000000 (execAuditPauseLimit sl) := by
  unfold execAuditPauseLimit
  repeat' first | with_reducible apply ends_within | with_reducible apply touch_seqs_cons | with_reducible apply touch_seqs_nil | with_reducible apply touch_setR | with_reducible apply touch_seq | with_reducible apply touch_skip | with_reducible apply touch_read | with_reducible (refine auditEnd_touch.mono ?_) | with_reducible (refine stopSlot_touch.mono ?_) | with_reducible intro _ | split | dsimp only | exact rfl

end Sys2Proof.Machine
end

