-- ==== Sys2Proof/Laws/WithinMeasOps.lean ====
section
/-! SUPPORT. The mask of every operation and meaning of Machine/MeasOps.lean (see Laws/Touch.lean): what it can change at all. -/

set_option Elab.async false

set_option maxRecDepth 8192
set_option linter.unreachableTactic false
set_option linter.unusedTactic false

namespace Sys2Proof.Machine

theorem setAutoRange_touch {icv chan r : Nat} : (setAutoRange icv chan r).Touches 0x800000000000000000000000000000000000000000000000000000000000000000000000000000000000000000000000000000000000000000000100000000000000000000000000000000000000000000000000000000000000 := by
  unfold setAutoRange
  repeat' first | with_reducible apply touch_seqs_cons | with_reducible apply touch_seqs_nil | with_reducible apply touch_updR | with_reducible apply touch_updIcvs | with_reducible apply touch_seq | with_reducible apply touch_skip | with_reducible apply touch_read | with_reducible intro _ | split | dsimp only | exact rfl

theorem mainsApply_touch : (mainsApply).Touches 0x800000000000000000000000000000000000000000000000000000000000000000000000000000000000000000000000000000000000000000000000000000000000000000000000000000000000000000000000000000000000 := by
  unfold mainsApply
  repeat' first | with_reducible apply touch_seqs_cons | with_reducible apply touch_seqs_nil | with_reducible apply touch_icvsMap | with_reducible apply touch_seq | with_reducible apply touch_skip | with_reducible apply touch_read | with_reducible intro _ | split | dsimp only | exact rfl

theorem budgetUpdate_touch {icv : Nat} : (budgetUpdate icv).Touches 0x40000000000000000000000000000000000000000000000000000000000000 := by
  unfold budgetUpdate
  repeat' first | with_reducible apply touch_seqs_cons | with_reducible apply touch_seqs_nil | with_reducible apply touch_updR | with_reducible apply touch_seq | with_reducible apply touch_skip | with_reducible apply touch_read | with_reducible intro _ | split | dsimp only | exact rfl

theorem pendAdd_touch {icv : Nat} {loads : List (Nat × Nat × Nat)} : (pendAdd icv loads).Touches 0x800000000000000000000000000000000000000000000000000000000000000000000000000000000000000000000000000000000000000000000040000000000000000000000000000000000000000000000000000000000000 := by
  unfold pendAdd
  repeat' first | with_reducible apply touch_seqs_cons | with_reducible apply touch_seqs_nil | with_reducible apply touch_updIcvs | with_reducible apply touch_seq | with_reducible apply touch_skip | with_reducible apply touch_read | with_reducible (refine budgetUpdate_touch.mono ?_) | with_reducible intro _ | split | dsimp only | exact rfl

theorem turnsPass_touch {icv a b : Nat} : (turnsPass icv a b).Touches 0x1800000000000000000000000000000000000000000000000000000000000000000000000000000000000000000000000000000000000000000000000000000000000000000000000000000000000000000000000000000000000 := by
  unfold turnsPass
  repeat' first | with_reducible apply touch_seqs_cons | with_reducible apply touch_seqs_nil | with_reducible apply touch_updFcvs | with_reducible apply touch_updIcvs | with_reducible apply touch_each | with_reducible apply touch_seq | with_reducible apply touch_skip | with_reducible apply touch_read | with_reducible intro _ | split | dsimp only | exact rfl

theorem pendTake_touch {n : Nat} : (pendTake n).Touches 0x80000000000000000000000000000000000000000000000000000000000000000000000000000000000000000000000000000000000000000003fc00000000000000000000000000000000000000000000000000000000000000 := by
  unfold pendTake
  repeat' first | with_reducible apply touch_seqs_cons | with_reducible apply touch_seqs_nil | with_reducible apply touch_setR | with_reducible apply touch_updIcvs | with_reducible apply touch_each | with_reducible apply touch_seq | with_reducible apply touch_skip | with_reducible apply touch_read | with_reducible intro _ | split | dsimp only | exact rfl

theorem convBegin_touch {icv : Nat} {c : Conv} : (convBegin icv c).Touches 0x800000000000000000000000000000000000000000000000000000000000000000000000000000000000000000000000000000000000000000000000240000000000000000000000000000000000000000000000000000000000 := by
  unfold convBegin
  repeat' first | with_reducible apply touch_seqs_cons | with_reducible apply touch_seqs_nil | with_reducible apply touch_setR | with_reducible apply touch_updR | with_reducible apply touch_updIcvs | with_reducible apply touch_seq | with_reducible apply touch_skip | with_reducible apply touch_read | with_reducible intro _ | split | dsimp only | exact rfl

theorem abortRunning_touch {n : Nat} : (abortRunning n).Touches 0x800000000000000000000000000000000000000000000000000000000000000000000000000000000000000000000000000000000000000000000004000000000000000000000000000000000000000000000000000000000000 := by
  unfold abortRunning
  repeat' first | with_reducible apply touch_seqs_cons | with_reducible apply touch_seqs_nil | with_reducible apply touch_incSat | with_reducible apply touch_updIcvs | with_reducible apply touch_seq | with_reducible apply touch_skip | with_reducible apply touch_read | with_reducible intro _ | split | dsimp only | exact rfl

theorem refereeBegin_touch {n chan range : Nat} {a b : Int} : (refereeBegin n chan range a b).Touches 0x1800000000000000000000000000000000000000000000000000000000000000000000000000000000000000000000000000000000000000182000004040000000000000000000000000000000000000000000000000000000000 := by
  unfold refereeBegin
  repeat' first | with_reducible apply touch_seqs_cons | with_reducible apply touch_seqs_nil | with_reducible apply touch_setR | with_reducible apply touch_incSat | with_reducible apply touch_updFcvs | with_reducible apply touch_when | with_reducible apply touch_seq | with_reducible apply touch_skip | with_reducible apply touch_read | with_reducible (refine abortRunning_touch.mono ?_) | with_reducible (refine dacShow_touch.mono ?_) | with_reducible intro _ | split | dsimp only | exact rfl

theorem measEvent_touch {src fn : Nat} {bytes : List Nat} : (measEvent src fn bytes).Touches 0x4c0000000000000008000000000000000000000000000000000000000000000000000000000000000000010001200000000000000000000000000000000000000000000000000000000000000000000000000000000000000 := by
  unfold measEvent
  repeat' first | with_reducible apply touch_seqs_cons | with_reducible apply touch_seqs_nil | with_reducible apply touch_seq | with_reducible apply touch_skip | with_reducible apply touch_read | with_reducible (refine raise_touch.mono ?_) | with_reducible intro _ | split | dsimp only | exact rfl

theorem outCheck_touch {sl k fast icv range : Nat} : (outCheck sl k fast icv range).Touches 0x2000000000000000000000000000000000000000000000000000000000000000000000000000000000000000000000000000000000000000000000000000000000000000000000000000000000000000000000000000000000 := by
  unfold outCheck
  repeat' first | with_reducible apply touch_seqs_cons | with_reducible apply touch_seqs_nil | with_reducible apply touch_updSlots | with_reducible apply touch_seq | with_reducible apply touch_skip | with_reducible apply touch_read | with_reducible intro _ | split | dsimp only | exact rfl

theorem deliverValue_touch {icv chan : Nat} {value : Int} {ovr : Bool} {derived : Option Int} {stamp : Nat} : (deliverValue icv chan value ovr derived stamp).Touches 0x10d74c00000000000000080000000000000000040000000000000080700000000000000000000000000000000160012000000010761f6d00180000200040640000000000027f007f81ef800080000000003d04000000000000000 := by
  unfold deliverValue
  repeat' first | with_reducible apply touch_seqs_cons | with_reducible apply touch_seqs_nil | with_reducible apply touch_setR | with_reducible apply touch_seq | with_reducible apply touch_skip | with_reducible apply touch_read | with_reducible (refine ntcResult_touch.mono ?_) | with_reducible (refine unrestoredEstimate_touch.mono ?_) | with_reducible (refine vpackResult_touch.mono ?_) | with_reducible intro _ | split | dsimp only | exact rfl

theorem recDeliver_touch {n : Nat} {r : MeasRec} : (recDeliver n r).Touches 0x10d74c00000000000000080000000000000000040000000000000080700000000000000000000000000000000160012000000010761f6d00180000200040640000000000027f007f81ef800080000000003d04000000000000000 := by
  unfold recDeliver
  repeat' first | with_reducible apply touch_seqs_cons | with_reducible apply touch_seqs_nil | with_reducible apply touch_seq | with_reducible apply touch_skip | with_reducible apply touch_read | with_reducible (refine deliverValue_touch.mono ?_) | with_reducible (refine measEvent_touch.mono ?_) | with_reducible intro _ | split | dsimp only | exact rfl

theorem recIssue_touch {n : Nat} {r : MeasRec} : (recIssue n r).Touches 0x18d74c00000000000000080000000000000000040000000000000080700000000000000000000000000000000160012000000010761f6d00180000200040640000000000027f007f81ef800080000000003d04000000000000000 := by
  unfold recIssue
  repeat' first | with_reducible apply touch_seqs_cons | with_reducible apply touch_seqs_nil | with_reducible apply touch_setR | with_reducible apply touch_updIcvs | with_reducible apply touch_seq | with_reducible apply touch_skip | with_reducible apply touch_read | with_reducible (refine recDeliver_touch.mono ?_) | with_reducible intro _ | split | dsimp only | exact rfl

theorem heldDeliver_touch {sl : Nat} : (heldDeliver sl).Touches 0x18d74c00000000000000080000000000000000040000000000000080700000000000000000000000000000000160012000000010761f6d00180000200040640000000000027f007f81ef800080000000003d04000000000000000 := by
  unfold heldDeliver
  repeat' first | with_reducible apply touch_seqs_cons | with_reducible apply touch_seqs_nil | with_reducible apply touch_updIcvs | with_reducible apply touch_each | with_reducible apply touch_seq | with_reducible apply touch_skip | with_reducible apply touch_read | with_reducible (refine recDeliver_touch.mono ?_) | with_reducible intro _ | split | dsimp only | exact rfl

theorem resKeep_touch {n : Nat} {r : MeasRec} : (resKeep n r).Touches 0x800000000000000000000000000000000000000000000000000000000000000000000000000000000000000000000000000000000000000000000000000000000000000000000000000000000000000000000000000000000000 := by
  unfold resKeep
  repeat' first | with_reducible apply touch_seqs_cons | with_reducible apply touch_seqs_nil | with_reducible apply touch_updIcvs | with_reducible apply touch_seq | with_reducible apply touch_skip | with_reducible apply touch_read | with_reducible intro _ | split | dsimp only | exact rfl

theorem rangeFollows_touch {n chan r : Nat} {value : Int} {ovr : Bool} : (rangeFollows n chan r value ovr).Touches 0x800000000000000000000000000000000000000000000000000000000000000000000000000000000000000000000000000000000000000000000100000000000000000000000000000000000000000000000000000000000000 := by
  unfold rangeFollows
  repeat' first | with_reducible apply touch_seqs_cons | with_reducible apply touch_seqs_nil | with_reducible apply touch_updIcvs | with_reducible apply touch_seq | with_reducible apply touch_skip | with_reducible apply touch_read | with_reducible (refine setAutoRange_touch.mono ?_) | with_reducible intro _ | split | dsimp only | exact rfl

theorem measLost_touch {sls : List Nat} : (measLost sls).Touches 0x10d74c000000000000000800000000000000000400000000000000c0700001000000000000000000000000000160012000000000761f6d001800000000406400000000004200007fe86d800080000000003d04000000000008000 := by
  unfold measLost
  repeat' first | with_reducible apply touch_seqs_cons | with_reducible apply touch_seqs_nil | with_reducible apply touch_each | with_reducible apply touch_seq | with_reducible apply touch_skip | with_reducible apply touch_read | with_reducible (refine healthSet_touch ?_ ?_) | with_reducible (refine slotSafeSub_touch.mono ?_) | with_reducible intro _ | split | dsimp only | exact rfl

theorem grpMembers_touch : (grpMembers).Touches 0x8000000000000000000000000000000000000000000000000000000000000000000000 := by
  unfold grpMembers
  repeat' first | with_reducible apply touch_seqs_cons | with_reducible apply touch_seqs_nil | with_reducible apply touch_updR | with_reducible apply touch_each | with_reducible apply touch_seq | with_reducible apply touch_skip | with_reducible apply touch_read | with_reducible intro _ | split | dsimp only | exact rfl

theorem icvFail_touch {icv cause : Nat} : (icvFail icv cause).Touches 0x18d74c000000000000000800000000000000000400000000000000c0700001000000000000000000000000000160012000000000761f6d081803000000c06400000000004200007fe86d800080000000003d04000000000018000 := by
  unfold icvFail
  repeat' first | with_reducible apply touch_seqs_cons | with_reducible apply touch_seqs_nil | with_reducible apply touch_setR | with_reducible apply touch_updR | with_reducible apply touch_updFcvs | with_reducible apply touch_updIcvs | with_reducible apply touch_when | with_reducible apply touch_seq | with_reducible apply touch_skip | with_reducible apply touch_read | with_reducible (refine grpMembers_touch.mono ?_) | with_reducible (refine measLost_touch.mono ?_) | with_reducible (refine raise_touch.mono ?_) | with_reducible (refine raiseHealth_touch.mono ?_) | with_reducible (refine refereeEnds_touch.mono ?_) | with_reducible intro _ | split | dsimp only | exact rfl

theorem chanFail_touch {icv chan : Nat} : (chanFail icv chan).Touches 0x18d74c000000000000000800000000000000000400000000000000c0700001000000000000000000000000000160012000000000761f6d001804000800406400000000004200007fe86d800080000000003d04000000000008000 := by
  unfold chanFail
  repeat' first | with_reducible apply touch_seqs_cons | with_reducible apply touch_seqs_nil | with_reducible apply touch_setR | with_reducible apply touch_updR | with_reducible apply touch_updIcvs | with_reducible apply touch_seq | with_reducible apply touch_skip | with_reducible apply touch_read | with_reducible (refine measLost_touch.mono ?_) | with_reducible (refine raise_touch.mono ?_) | with_reducible intro _ | split | dsimp only | exact rfl

theorem fcvOut_touch {p cause : Nat} : (fcvOut p cause).Touches 0x10d74c000000000000000800000000000000000400000000000000c0700001000000000000000000000000000160012000000000761f6d001801000000406400000000004200007fe86d800080000000003d04000000000038000 := by
  unfold fcvOut
  repeat' first | with_reducible apply touch_seqs_cons | with_reducible apply touch_seqs_nil | with_reducible apply touch_setR | with_reducible apply touch_updR | with_reducible apply touch_updFcvs | with_reducible apply touch_when | with_reducible apply touch_seq | with_reducible apply touch_skip | with_reducible apply touch_read | with_reducible (refine measLost_touch.mono ?_) | with_reducible (refine raiseHealth_touch.mono ?_) | with_reducible (refine raisePf_touch.mono ?_) | with_reducible (refine refereeEnds_touch.mono ?_) | with_reducible intro _ | split | dsimp only | exact rfl

theorem measDiscard_touch {p : Nat → Bool} : (measDiscard p).Touches 0x5800000000000000000000000000000000000000000000000000000000000000000000000000000000000000000000000000000000000000000000001000000000000000000000000000000000000000000000000000000000000 := by
  unfold measDiscard
  repeat' first | with_reducible apply touch_seqs_cons | with_reducible apply touch_seqs_nil | with_reducible apply touch_updR | with_reducible apply touch_updPendZ | with_reducible apply touch_each | with_reducible apply touch_when | with_reducible apply touch_fcvsMap | with_reducible apply touch_icvsMap | with_reducible apply touch_seq | with_reducible apply touch_skip | with_reducible apply touch_read | with_reducible intro _ | split | dsimp only | exact rfl

end Sys2Proof.Machine
end

