-- ==== Sys2Proof/Laws/WithinMeasurement.lean ====
section
/-! SUPPORT. The mask of every operation and meaning of Machine/Measurement.lean (see Laws/Touch.lean): what it can change at all. -/

set_option Elab.async false

set_option maxRecDepth 8192
set_option linter.unreachableTactic false
set_option linter.unusedTactic false

namespace Sys2Proof.Machine

theorem mainsLoss_touch : (mainsLoss).Touches 0x28004c0000000000000008000000000000000000000000000000000000000000000000000000000000000000010001200000000000000001800000000000000000000000000000000000000000000000000000000000000000000 := by
  unfold mainsLoss
  repeat' first | with_reducible apply touch_seqs_cons | with_reducible apply touch_seqs_nil | with_reducible apply touch_setR | with_reducible apply touch_updMains | with_reducible apply touch_seq | with_reducible apply touch_skip | with_reducible apply touch_read | with_reducible (refine mainsApply_touch.mono ?_) | with_reducible (refine raisePf_touch.mono ?_) | with_reducible intro _ | split | dsimp only | exact rfl

theorem mainsSrcWritten_touch {old : Nat} : (mainsSrcWritten old).Touches 0x2800000000000000000000000000000000000000000000000000000000000000000000000000000000000000000000000000000000000001800000000000000000000000000000000000000000000000000000000000000000000 := by
  unfold mainsSrcWritten
  repeat' first | with_reducible apply touch_seqs_cons | with_reducible apply touch_seqs_nil | with_reducible apply touch_setR | with_reducible apply touch_updMains | with_reducible apply touch_seq | with_reducible apply touch_skip | with_reducible apply touch_read | with_reducible (refine mainsApply_touch.mono ?_) | with_reducible intro _ | split | dsimp only | exact rfl

theorem execMainsCrossing_within {period : Nat} : RunsWithin 0x28004c0000000000000008000000000000000000000000000000000000000000000000000000000000000000010001200000000000000001800000000000000000000000000000000000000000000000000000000000000000000 (execMainsCrossing period) := by
  unfold execMainsCrossing
  repeat' first | with_reducible apply ends_within | with_reducible apply touch_seqs_cons | with_reducible apply touch_seqs_nil | with_reducible apply touch_setR | with_reducible apply touch_updMains | with_reducible apply touch_seq | with_reducible apply touch_skip | with_reducible apply touch_read | with_reducible (refine mainsApply_touch.mono ?_) | with_reducible (refine mainsLoss_touch.mono ?_) | with_reducible (refine raisePf_touch.mono ?_) | with_reducible intro _ | split | dsimp only | exact rfl

theorem execMainsLockLoss_within : RunsWithin 0x28004c0000000000000008000000000000000000000000000000000000000000000000000000000000000000010001200000000000000001800000000000000000000000000000000000000000000000000000000000000000000 (execMainsLockLoss) := by
  unfold execMainsLockLoss
  repeat' first | with_reducible apply ends_within | with_reducible apply touch_seqs_cons | with_reducible apply touch_seqs_nil | with_reducible apply touch_seq | with_reducible apply touch_skip | with_reducible apply touch_read | with_reducible (refine mainsLoss_touch.mono ?_) | with_reducible intro _ | split | dsimp only | exact rfl

theorem integrate_touch {n t flag : Nat} : (integrate n t flag).Touches 0x800000000000000000000000000000000000000000000000000000000000000000000000000000000000000000000000000000000000000000000000040000000000000000000000000000000000000000000000000000000000 := by
  unfold integrate
  repeat' first | with_reducible apply touch_seqs_cons | with_reducible apply touch_seqs_nil | with_reducible apply touch_setR | with_reducible apply touch_updIcvs | with_reducible apply touch_seq | with_reducible apply touch_skip | with_reducible apply touch_read | with_reducible intro _ | split | dsimp only | exact rfl

theorem trigLatch_touch {n : Nat} : (trigLatch n).Touches 0x800000000000000000000000000000000000000000000000000000000000000000000000000000000000000000000000000000000000000000000002100000000000000000000000000000000000000000000000000000000000 := by
  unfold trigLatch
  repeat' first | with_reducible apply touch_seqs_cons | with_reducible apply touch_seqs_nil | with_reducible apply touch_setR | with_reducible apply touch_incSat | with_reducible apply touch_updIcvs | with_reducible apply touch_seq | with_reducible apply touch_skip | with_reducible apply touch_read | with_reducible intro _ | split | dsimp only | exact rfl

theorem icvClock_touch {n : Nat} : (icvClock n).Touches 0x800000000000000000000000000000000000000000000000000000000000000000000000000000000000000000000000000000000000000000000000140000000000000000000000000000000000000000000000000000000000 := by
  unfold icvClock
  repeat' first | with_reducible apply touch_seqs_cons | with_reducible apply touch_seqs_nil | with_reducible apply touch_setR | with_reducible apply touch_updIcvs | with_reducible apply touch_seq | with_reducible apply touch_skip | with_reducible apply touch_read | with_reducible (refine integrate_touch.mono ?_) | with_reducible intro _ | split | dsimp only | exact rfl

theorem trigArrives_touch {n : Nat} : (trigArrives n).Touches 0x800000000000000000000000000000000000000000000000000000000000000000000000000000000000000000000000000000000000000000000006140000000000000000000000000000000000000000000000000000000000 := by
  unfold trigArrives
  repeat' first | with_reducible apply touch_seqs_cons | with_reducible apply touch_seqs_nil | with_reducible apply touch_incSat | with_reducible apply touch_seq | with_reducible apply touch_skip | with_reducible apply touch_read | with_reducible (refine integrate_touch.mono ?_) | with_reducible (refine trigLatch_touch.mono ?_) | with_reducible intro _ | split | dsimp only | exact rfl

theorem groupArrives_touch {g : Nat} : (groupArrives g).Touches 0x8000000000000000000000000000000000000000000000000000000000000000000000000000000000000000000000000000000000000000000000002000000000000000000000000000000000000000000000000000000000000 := by
  unfold groupArrives
  repeat' first | with_reducible apply touch_seqs_cons | with_reducible apply touch_seqs_nil | with_reducible apply touch_incSat | with_reducible apply touch_updGroups | with_reducible apply touch_each | with_reducible apply touch_seq | with_reducible apply touch_skip | with_reducible apply touch_read | with_reducible intro _ | split | dsimp only | exact rfl

theorem execIcvTrigger_within {n : Nat} : RunsWithin 0x800000000000000000000000000000000000000000000000000000000000000000000000000000000000000000000000000000000000000000000006140000000000000000000000000000000000000000000000000000000000 (execIcvTrigger n) := by
  unfold execIcvTrigger
  repeat' first | with_reducible apply ends_within | with_reducible apply touch_seqs_cons | with_reducible apply touch_seqs_nil | with_reducible apply touch_seq | with_reducible apply touch_skip | with_reducible apply touch_read | with_reducible (refine trigArrives_touch.mono ?_) | with_reducible intro _ | split | dsimp only | exact rfl

theorem execMainsFreeTrigger_within : RunsWithin 0x8800000000000000000000000000000000000000000000000000000000000000000000000000000000000000000000000000000000000000000000006140000000000000000000000000000000000000000000000000000000000 (execMainsFreeTrigger) := by
  unfold execMainsFreeTrigger
  repeat' first | with_reducible apply ends_within | with_reducible apply touch_seqs_cons | with_reducible apply touch_seqs_nil | with_reducible apply touch_each | with_reducible apply touch_seq | with_reducible apply touch_skip | with_reducible apply touch_read | with_reducible (refine groupArrives_touch.mono ?_) | with_reducible (refine trigArrives_touch.mono ?_) | with_reducible intro _ | split | dsimp only | exact rfl

theorem execGroupTrigger_within {g : Nat} : RunsWithin 0x8000000000000000000000000000000000000000000000000000000000000000000000000000000000000000000000000000000000000000000000002000000000000000000000000000000000000000000000000000000000000 (execGroupTrigger g) := by
  unfold execGroupTrigger
  repeat' first | with_reducible apply ends_within | with_reducible apply touch_seqs_cons | with_reducible apply touch_seqs_nil | with_reducible apply touch_seq | with_reducible apply touch_skip | with_reducible apply touch_read | with_reducible (refine groupArrives_touch.mono ?_) | with_reducible intro _ | split | dsimp only | exact rfl

theorem execGroupStart_within {g : Nat} : RunsWithin 0x8800000000000000000000000000000000000000000000000000000000000000000000000000000000000000000000000000000000000000000000000040000000000000000000000000000000000000000000000000000000000 (execGroupStart g) := by
  unfold execGroupStart
  repeat' first | with_reducible apply ends_within | with_reducible apply touch_seqs_cons | with_reducible apply touch_seqs_nil | with_reducible apply touch_updGroups | with_reducible apply touch_updIcvs | with_reducible apply touch_each | with_reducible apply touch_seq | with_reducible apply touch_skip | with_reducible apply touch_read | with_reducible (refine integrate_touch.mono ?_) | with_reducible intro _ | split | dsimp only | exact rfl

theorem execIcvPassStart_within {n : Nat} : RunsWithin 0x180000000000000000000000000000000000000000000000000000000000000000000000000000000000000000000000000000000000000000003fc20e00000000000000000000000000000000000000000000000000000000000 (execIcvPassStart n) := by
  unfold execIcvPassStart
  repeat' first | with_reducible apply ends_within | with_reducible apply touch_seqs_cons | with_reducible apply touch_seqs_nil | with_reducible apply touch_setR | with_reducible apply touch_updIcvs | with_reducible apply touch_when | with_reducible apply touch_seq | with_reducible apply touch_skip | with_reducible apply touch_read | with_reducible (refine pendTake_touch.mono ?_) | with_reducible (refine turnsPass_touch.mono ?_) | with_reducible intro _ | split | dsimp only | exact rfl

theorem execIcvConversionStart_within {n : Nat} : RunsWithin 0x1800000000000000000000000000000000000000000000000000000000000000000000000000000000000000000000000000000000000000000000000640000000000000000000000000000000000000000000000000000000000 (execIcvConversionStart n) := by
  unfold execIcvConversionStart
  repeat' first | with_reducible apply ends_within | with_reducible apply touch_seqs_cons | with_reducible apply touch_seqs_nil | with_reducible apply touch_updR | with_reducible apply touch_updIcvs | with_reducible apply touch_when | with_reducible apply touch_seq | with_reducible apply touch_skip | with_reducible apply touch_read | with_reducible (refine convBegin_touch.mono ?_) | with_reducible (refine turnsPass_touch.mono ?_) | with_reducible intro _ | split | dsimp only | exact rfl

theorem urgQ_touch {n : Nat} : (urgQ n).Touches 0x1000000000000000000000000000000000000000000000000000000000000 := by
  unfold urgQ
  repeat' first | with_reducible apply touch_seqs_cons | with_reducible apply touch_seqs_nil | with_reducible apply touch_updR | with_reducible apply touch_seq | with_reducible apply touch_skip | with_reducible apply touch_read | with_reducible intro _ | split | dsimp only | exact rfl

theorem execUrgentConversionStart_within {n : Nat} : RunsWithin 0x800000000000000000000000000000000000000000000000000000000000000000000000000000000000000000000000000000000000000000000005240000000000000000000000000000000000000000000000000000000000 (execUrgentConversionStart n) := by
  unfold execUrgentConversionStart
  repeat' first | with_reducible apply ends_within | with_reducible apply touch_seqs_cons | with_reducible apply touch_seqs_nil | with_reducible apply touch_updIcvs | with_reducible apply touch_seq | with_reducible apply touch_skip | with_reducible apply touch_read | with_reducible (refine abortRunning_touch.mono ?_) | with_reducible (refine convBegin_touch.mono ?_) | with_reducible (refine urgQ_touch.mono ?_) | with_reducible intro _ | split | dsimp only | exact rfl

theorem tableResult_touch {n : Nat} {c : Conv} {stamp flags : Nat} {value raw : Int} : (tableResult n c stamp flags value raw).Touches 0x18d74c00000000000000080000000000000000040000000000000080700000000000000000000000000000000160012000000010761f6d00180000200640640000000000027f007f81ef800080000000003d04000000000000000 := by
  unfold tableResult
  repeat' first | with_reducible apply touch_seqs_cons | with_reducible apply touch_seqs_nil | with_reducible apply touch_setR | with_reducible apply touch_updR | with_reducible apply touch_updIcvs | with_reducible apply touch_seq | with_reducible apply touch_skip | with_reducible apply touch_read | with_reducible (refine recIssue_touch.mono ?_) | with_reducible intro _ | split | dsimp only | exact rfl

theorem urgentResult_touch {n : Nat} {c : Conv} {stamp flags : Nat} {value raw : Int} : (urgentResult n c stamp flags value raw).Touches 0x18d75c00000000000000080000000000000000040000000000000080700000000000000000000000000000000160012000000010761f6d00180000200040640000000000027f007f81ef800080000000003d04000000000000000 := by
  unfold urgentResult
  repeat' first | with_reducible apply touch_seqs_cons | with_reducible apply touch_seqs_nil | with_reducible apply touch_setR | with_reducible apply touch_updIcvs | with_reducible apply touch_seq | with_reducible apply touch_skip | with_reducible apply touch_read | with_reducible (refine finishRun_touch.mono ?_) | with_reducible (refine recIssue_touch.mono ?_) | with_reducible intro _ | split | dsimp only | exact rfl

theorem execIcvIntegrationEnd_within {n : Nat} {raw : Int} {pin fast : Nat} {others : List Nat} : RunsWithin 0x18d75c00000000000000080000000000000000040000000000000080700000000000000000000000000000000160012000000010761f6d00180000308640640000000000027f007f81ef800080000000003d04000000000000000 (execIcvIntegrationEnd n raw pin fast others) := by
  unfold execIcvIntegrationEnd
  repeat' first | with_reducible apply ends_within | with_reducible apply touch_seqs_cons | with_reducible apply touch_seqs_nil | with_reducible apply touch_incSat | with_reducible apply touch_updIcvs | with_reducible apply touch_each | with_reducible apply touch_when | with_reducible apply touch_seq | with_reducible apply touch_skip | with_reducible apply touch_read | with_reducible (refine outCheck_touch.mono ?_) | with_reducible (refine rangeFollows_touch.mono ?_) | with_reducible (refine resKeep_touch.mono ?_) | with_reducible (refine tableResult_touch.mono ?_) | with_reducible (refine urgentResult_touch.mono ?_) | with_reducible intro _ | split | dsimp only | exact rfl

theorem execIcvConversionTimeout_within {n : Nat} : RunsWithin 0x18d74c000000000000000800000000000000000400000000000000c0700001000000000000000000000000000160012000000000761f6d081803000100c06400000000004200007fe86d800080000000003d04000000000018000 (execIcvConversionTimeout n) := by
  unfold execIcvConversionTimeout
  repeat' first | with_reducible apply ends_within | with_reducible apply touch_seqs_cons | with_reducible apply touch_seqs_nil | with_reducible apply touch_incSat | with_reducible apply touch_seq | with_reducible apply touch_skip | with_reducible apply touch_read | with_reducible (refine icvFail_touch.mono ?_) | with_reducible intro _ | split | dsimp only | exact rfl

theorem ageShow_touch {p : Nat} : (ageShow p).Touches 0x800000000000000000000000000000000000000000000000000000000000000000 := by
  unfold ageShow
  repeat' first | with_reducible apply touch_seqs_cons | with_reducible apply touch_seqs_nil | with_reducible apply touch_updR | with_reducible apply touch_seq | with_reducible apply touch_skip | with_reducible apply touch_read | with_reducible intro _ | split | dsimp only | exact rfl

theorem fcvNext_touch {p : Nat} : (fcvNext p).Touches 0x180000000000000000000000000000000000000000000000000000000000000000000000000000000000000000000000000000000000000000003fc00000000000000000000000000000000000000000000000000000000000000 := by
  unfold fcvNext
  repeat' first | with_reducible apply touch_seqs_cons | with_reducible apply touch_seqs_nil | with_reducible apply touch_updFcvs | with_reducible apply touch_seq | with_reducible apply touch_skip | with_reducible apply touch_read | with_reducible (refine pendTake_touch.mono ?_) | with_reducible intro _ | split | dsimp only | exact rfl

theorem fcvDone_touch {p : Nat} {c : FcvSel} : (fcvDone p c).Touches 0x180000000000000000000000000000000000000000000000000000000000000000000000000000000000000000000000000000000000000000083fc00000000000000000000000000000000000000000000000000000000000000 := by
  unfold fcvDone
  repeat' first | with_reducible apply touch_seqs_cons | with_reducible apply touch_seqs_nil | with_reducible apply touch_updFcvs | with_reducible apply touch_seq | with_reducible apply touch_skip | with_reducible apply touch_read | with_reducible (refine ageShow_touch.mono ?_) | with_reducible (refine fcvNext_touch.mono ?_) | with_reducible intro _ | split | dsimp only | exact rfl

theorem xchkFail_touch {sl check sub a b : Nat} : (xchkFail sl check sub a b).Touches 0x4c0000000000000008000000000000000000000000000000000000100000000000000000000000000000010001200000000000000000000000000000000000000000000000000000000000000000000000000000000000000 := by
  unfold xchkFail
  repeat' first | with_reducible apply touch_seqs_cons | with_reducible apply touch_seqs_nil | with_reducible apply touch_incSat | with_reducible apply touch_seq | with_reducible apply touch_skip | with_reducible apply touch_read | with_reducible (refine raisePf_touch.mono ?_) | with_reducible intro _ | split | dsimp only | exact rfl

theorem crossCheck_touch {p : Nat} {c : FcvSel} {v : Int} {ovr : Bool} : (crossCheck p c v ovr).Touches 0x1800000000000000000000000000000000000000000000000000000000000000000000000000000000000000000000000000000000000000183000004040000000000000000000000000000000000000000000000000000000000 := by
  unfold crossCheck
  repeat' first | with_reducible apply touch_seqs_cons | with_reducible apply touch_seqs_nil | with_reducible apply touch_incSat | with_reducible apply touch_updFcvs | with_reducible apply touch_seq | with_reducible apply touch_skip | with_reducible apply touch_read | with_reducible (refine refereeBegin_touch.mono ?_) | with_reducible intro _ | split | dsimp only | exact rfl

theorem substResult_touch {p : Nat} {c : FcvSel} {v raw : Int} {ovr : Bool} {fast : Nat} : (substResult p c v raw ovr fast).Touches 0x18d74c00000000000000080000000000000000040000000000000080700000000000000000000000000000000160012000000010761f6d00180000300040640000000000027f007f81ef800080000000003d04000000000000000 := by
  unfold substResult
  repeat' first | with_reducible apply touch_seqs_cons | with_reducible apply touch_seqs_nil | with_reducible apply touch_when | with_reducible apply touch_seq | with_reducible apply touch_skip | with_reducible apply touch_read | with_reducible (refine outCheck_touch.mono ?_) | with_reducible (refine rangeFollows_touch.mono ?_) | with_reducible (refine recIssue_touch.mono ?_) | with_reducible intro _ | split | dsimp only | exact rfl

theorem fcvUrgent_touch {p : Nat} {c : FcvSel} {v raw : Int} {ovr : Bool} : (fcvUrgent p c v raw ovr).Touches 0x18d75c00000000000000080000000000000000040000000000000080700000000000000000000000000000000160012000000010761f6d00180000300040640000000000027f007f81ef800080000000003d04000000000000000 := by
  unfold fcvUrgent
  repeat' first | with_reducible apply touch_seqs_cons | with_reducible apply touch_seqs_nil | with_reducible apply touch_updFcvs | with_reducible apply touch_seq | with_reducible apply touch_skip | with_reducible apply touch_read | with_reducible (refine finishRun_touch.mono ?_) | with_reducible (refine rangeFollows_touch.mono ?_) | with_reducible (refine recIssue_touch.mono ?_) | with_reducible intro _ | split | dsimp only | exact rfl

theorem execFcvConversionEnd_within {p : Nat} {raw : Int} {fast : Nat} : RunsWithin 0x18d75c00000000000000080000000000000000040000000000000080700000000000000000000000000000000160012000000010761f6d0018783ff04040640000000000027f007f81ef800080000000003d04000000000000000 (execFcvConversionEnd p raw fast) := by
  unfold execFcvConversionEnd
  repeat' first | with_reducible apply ends_within | with_reducible apply touch_seqs_cons | with_reducible apply touch_seqs_nil | with_reducible apply touch_setR | with_reducible apply touch_updFcvs | with_reducible apply touch_seq | with_reducible apply touch_skip | with_reducible apply touch_read | with_reducible (refine crossCheck_touch.mono ?_) | with_reducible (refine fcvDone_touch.mono ?_) | with_reducible (refine fcvUrgent_touch.mono ?_) | with_reducible (refine substResult_touch.mono ?_) | with_reducible intro _ | split | dsimp only | exact rfl

theorem execRefereeFinding_within {p : Nat} {icvR fcvR : List Int} {fast : Nat} : RunsWithin 0x18d74c000000000000000800000000000000000400000000000000c0701001000000000000000000000000000160012000000000761f6d0818473fe800c06400000000004200007fe86d800080000000003d04000000000038000 (execRefereeFinding p icvR fcvR fast) := by
  unfold execRefereeFinding
  repeat' first | with_reducible apply ends_within | with_reducible apply touch_seqs_cons | with_reducible apply touch_seqs_nil | with_reducible apply touch_setR | with_reducible apply touch_updFcvs | with_reducible apply touch_seq | with_reducible apply touch_skip | with_reducible apply touch_read | with_reducible (refine chanFail_touch.mono ?_) | with_reducible (refine fcvNext_touch.mono ?_) | with_reducible (refine fcvOut_touch.mono ?_) | with_reducible (refine icvFail_touch.mono ?_) | with_reducible (refine refereeEnds_touch.mono ?_) | with_reducible (refine xchkFail_touch.mono ?_) | with_reducible intro _ | split | dsimp only | exact rfl

theorem execFcvSelfTest_within {p : Nat} {zero ref : Int} : RunsWithin 0x18d74c000000000000000800000000000000000400000000000000c0700001000000000000000000000000000160012000000000761f6d0018493fc000406400000000004200007fe86d800080000000003d04000000000038000 (execFcvSelfTest p zero ref) := by
  unfold execFcvSelfTest
  repeat' first | with_reducible apply ends_within | with_reducible apply touch_seqs_cons | with_reducible apply touch_seqs_nil | with_reducible apply touch_setR | with_reducible apply touch_updFcvs | with_reducible apply touch_seq | with_reducible apply touch_skip | with_reducible apply touch_read | with_reducible (refine fcvDone_touch.mono ?_) | with_reducible (refine fcvOut_touch.mono ?_) | with_reducible intro _ | split | dsimp only | exact rfl

theorem execFcvLostInjectionCheck_within {n chan range : Nat} {readings : List Int} : RunsWithin 0x18d74c000000000000000800000000000000000400000000000000c0700001000000000000000000000000000160012000000000761f6d001804002840406400000000004200007fe86d800080000000003d04000000000008000 (execFcvLostInjectionCheck n chan range readings) := by
  unfold execFcvLostInjectionCheck
  repeat' first | with_reducible apply ends_within | with_reducible apply touch_seqs_cons | with_reducible apply touch_seqs_nil | with_reducible apply touch_setR | with_reducible apply touch_updFcvs | with_reducible apply touch_seq | with_reducible apply touch_skip | with_reducible apply touch_read | with_reducible (refine abortRunning_touch.mono ?_) | with_reducible (refine chanFail_touch.mono ?_) | with_reducible intro _ | split | dsimp only | exact rfl

theorem execDacInjectWrite_within {p : Nat} {en att : Bool} {target code : Nat} : RunsWithin 0x1e000000000000000000000000000000000000000000000000000000000000000000000000000000003f8000000000000000000000000000000000000000000000000000000000000000000 (execDacInjectWrite p en att target code) := by
  unfold execDacInjectWrite
  repeat' first | with_reducible apply pfWrites_within | with_reducible apply touch_seqs_cons | with_reducible apply touch_seqs_nil | with_reducible apply touch_setR | with_reducible apply touch_seq | with_reducible apply touch_skip | with_reducible apply touch_read | with_reducible (refine accErr_touch.mono ?_) | with_reducible (refine dacShow_touch.mono ?_) | with_reducible intro _ | split | dsimp only | exact rfl

theorem calFull_touch {j : CalJob} {fcv : Bool} {f : Int} {coul : Option Int} : (calFull j fcv f coul).Touches 0x40105c0000000000000008000000000000000004000000000000000000000000000000000000000000000000000000200000000000000000000000000000000000000000000000000000000000000000000000000000000000000 := by
  unfold calFull
  repeat' first | with_reducible apply touch_seqs_cons | with_reducible apply touch_seqs_nil | with_reducible apply touch_updPendZ | with_reducible apply touch_seq | with_reducible apply touch_skip | with_reducible apply touch_read | with_reducible (refine finishRun_touch.mono ?_) | with_reducible (refine keepRequest_touch.mono ?_) | with_reducible intro _ | split | dsimp only | exact rfl

theorem calEnd_touch {j : CalJob} {fcv : Bool} : (calEnd j fcv).Touches 0x40105c0000000000000008000000000000000004000000000000000000000000000000000000000000000000000000200000000000000000000000000000000000000000000000000000000000000000000000000000000000000 := by
  unfold calEnd
  repeat' first | with_reducible apply touch_seqs_cons | with_reducible apply touch_seqs_nil | with_reducible apply touch_updPendZ | with_reducible apply touch_seq | with_reducible apply touch_skip | with_reducible apply touch_read | with_reducible (refine calFull_touch.mono ?_) | with_reducible (refine finishRun_touch.mono ?_) | with_reducible intro _ | split | dsimp only | exact rfl

theorem execCalAverageDone_within {unit : Nat} : RunsWithin 0x58105c0000000000000008000000000000000004000000000000000000000000000000000000000000000000000000200000000000000000000000000000000000000000000000000000000000000000000000000000000000000 (execCalAverageDone unit) := by
  unfold execCalAverageDone
  repeat' first | with_reducible apply ends_within | with_reducible apply touch_seqs_cons | with_reducible apply touch_seqs_nil | with_reducible apply touch_updFcvs | with_reducible apply touch_updIcvs | with_reducible apply touch_seq | with_reducible apply touch_skip | with_reducible apply touch_read | with_reducible (refine calEnd_touch.mono ?_) | with_reducible intro _ | split | dsimp only | exact rfl

theorem execCalZeroExpiry_within : RunsWithin 0x4000000000000000000000000000000000000000000000000000000000000000000000000000000000000000000000000000000000000000000000000000000000000000000000000000000000000000000000000000000000000 (execCalZeroExpiry) := by
  unfold execCalZeroExpiry
  repeat' first | with_reducible apply ends_within | with_reducible apply touch_seqs_cons | with_reducible apply touch_seqs_nil | with_reducible apply touch_updPendZ | with_reducible apply touch_seq | with_reducible apply touch_skip | with_reducible apply touch_read | with_reducible intro _ | split | dsimp only | exact rfl

end Sys2Proof.Machine
end

