-- ==== Sys2Proof/Laws/WithinGauge.lean ====
section
/-! SUPPORT. The mask of every operation and meaning of Machine/Gauge.lean (see Laws/Touch.lean): what it can change at all. -/

set_option Elab.async false

set_option maxRecDepth 8192
set_option linter.unreachableTactic false
set_option linter.unusedTactic false

namespace Sys2Proof.Machine

theorem chargeAdd_touch {sl : Nat} {q : Int} : (chargeAdd sl q).Touches 0x6000000000000000000000000000000000000000000000000000000000000000000000000000000000000000000000000000006080000000000000000000000000000000000000000000000000000000000000000000000000 := by
  unfold chargeAdd
  repeat' first | with_reducible apply touch_seqs_cons | with_reducible apply touch_seqs_nil | with_reducible apply touch_setR | with_reducible apply touch_updGauges | with_reducible apply touch_updSlots | with_reducible apply touch_seq | with_reducible apply touch_skip | with_reducible apply touch_read | with_reducible intro _ | split | dsimp only | exact rfl

theorem gaugeTick_touch {sl : Nat} : (gaugeTick sl).Touches 0x6000000000000000000000000000000000000000000000000000000000000000000000000000000000000000000000000000006080000000000000000000000000000000000000000000000000000000000000000000000000 := by
  unfold gaugeTick
  repeat' first | with_reducible apply touch_seqs_cons | with_reducible apply touch_seqs_nil | with_reducible apply touch_updGauges | with_reducible apply touch_seq | with_reducible apply touch_skip | with_reducible apply touch_read | with_reducible (refine chargeAdd_touch.mono ?_) | with_reducible intro _ | split | dsimp only | exact rfl

theorem execGaugeReportUpdate_within {sl : Nat} : RunsWithin 0x64c00000000000000080000000000000000000000000000000000000000000000000000000000000000000100012000000010211d4d00000000000000000000000000000000000000000000000000000000000000000000000 (execGaugeReportUpdate sl) := by
  unfold execGaugeReportUpdate
  repeat' first | with_reducible apply ends_within | with_reducible apply touch_seqs_cons | with_reducible apply touch_seqs_nil | with_reducible apply touch_setR | with_reducible apply touch_updR | with_reducible apply touch_updGauges | with_reducible apply touch_updSlots | with_reducible apply touch_when | with_reducible apply touch_seq | with_reducible apply touch_skip | with_reducible apply touch_read | with_reducible (refine emptyAnchor_touch.mono ?_) | with_reducible (refine gaugeDerive_touch.mono ?_) | with_reducible (refine warnCheck_touch.mono ?_) | with_reducible intro _ | split | dsimp only | exact rfl

theorem execCoulombSample_within {sl : Nat} {code : Int} : RunsWithin 0x4000000000000000000000000000000000000000000000000000000000000000000000000000000000000000000000000000080001000000000000000000000000000000000000000000000000000000000000000000000000 (execCoulombSample sl code) := by
  unfold execCoulombSample
  repeat' first | with_reducible apply ends_within | with_reducible apply touch_seqs_cons | with_reducible apply touch_seqs_nil | with_reducible apply touch_setR | with_reducible apply touch_incSat | with_reducible apply touch_updGauges | with_reducible apply touch_when | with_reducible apply touch_seq | with_reducible apply touch_skip | with_reducible apply touch_read | with_reducible intro _ | split | dsimp only | exact rfl

theorem execGauAccRead_within {sl : Nat} : RunsWithin 0xe00000000000000000000000000000000000000000000000000000000000000000000000000 (execGauAccRead sl) := by
  unfold execGauAccRead
  repeat' first | with_reducible apply endsAlways_within | with_reducible apply touch_seqs_cons | with_reducible apply touch_seqs_nil | with_reducible apply touch_updR | with_reducible apply touch_when | with_reducible apply touch_seq | with_reducible apply touch_skip | with_reducible apply touch_read | with_reducible intro _ | split | dsimp only | exact rfl

theorem raiseDegraded_touch {sl cause : Nat} : (raiseDegraded sl cause).Touches 0x4c0000000000000008000000000000000000000000000000000000000000000000000000000000000000010001200000000000000000000000000000000000000000000000000000000000000000000000000000000000000 := by
  unfold raiseDegraded
  repeat' first | with_reducible apply touch_seqs_cons | with_reducible apply touch_seqs_nil | with_reducible apply touch_seq | with_reducible apply touch_skip | with_reducible apply touch_read | with_reducible (refine raise_touch.mono ?_) | with_reducible intro _ | split | dsimp only | exact rfl

theorem execAutoZeroTrim_within {sl : Nat} : RunsWithin 0x44c0000000000000008000000000000000000000000000000000000000000000000000000000000000000010001200000000008000000000000000000000000000000000000000000000000000000000000000000000000000 (execAutoZeroTrim sl) := by
  unfold execAutoZeroTrim
  repeat' first | with_reducible apply ends_within | with_reducible apply touch_seqs_cons | with_reducible apply touch_seqs_nil | with_reducible apply touch_setR | with_reducible apply touch_updGauges | with_reducible apply touch_when | with_reducible apply touch_seq | with_reducible apply touch_skip | with_reducible apply touch_read | with_reducible (refine raiseDegraded_touch.mono ?_) | with_reducible intro _ | split | dsimp only | exact rfl

theorem execFullAnchor_within {sl : Nat} : RunsWithin 0x4000000000000000000000000000000000000000000000000000000000000000000000000000000000000000000000000000000194800000000000000000000000000000000000000000000000000000000000000000000000 (execFullAnchor sl) := by
  unfold execFullAnchor
  repeat' first | with_reducible apply ends_within | with_reducible apply touch_seqs_cons | with_reducible apply touch_seqs_nil | with_reducible apply touch_seq | with_reducible apply touch_skip | with_reducible apply touch_read | with_reducible (refine fullAnchor_touch.mono ?_) | with_reducible intro _ | split | dsimp only | exact rfl

theorem execGaugeSnapshotTimed_within {sl : Nat} : RunsWithin 0x480000000000000008000000000000000000000000000000000000000000000000000000000000000000000000200000000050000000000000000000000000000000000000000000000000000000000000000000000000000 (execGaugeSnapshotTimed sl) := by
  unfold execGaugeSnapshotTimed
  repeat' first | with_reducible apply ends_within | with_reducible apply touch_seqs_cons | with_reducible apply touch_seqs_nil | with_reducible apply touch_seq | with_reducible apply touch_skip | with_reducible apply touch_read | with_reducible (refine snapshot_touch.mono ?_) | with_reducible intro _ | split | dsimp only | exact rfl

theorem execCurrentXcheck_within {sl : Nat} : RunsWithin 0x4000000000000000000000000000000000000000000000000000000000000000000000000000000000000000000000000000000000000000000000000000000000000000000000000000000000000000000000000000000000 (execCurrentXcheck sl) := by
  unfold execCurrentXcheck
  repeat' first | with_reducible apply ends_within | with_reducible apply touch_seqs_cons | with_reducible apply touch_seqs_nil | with_reducible apply touch_updGauges | with_reducible apply touch_seq | with_reducible apply touch_skip | with_reducible apply touch_read | with_reducible intro _ | split | dsimp only | exact rfl

theorem coulombLost_touch {sl : Nat} : (coulombLost sl).Touches 0x64c0000000000000008000000000000000000000000000000000000000000000000000000000000000000010001200000000000000200000000000000000000000000000000000000000000000000000000000000000000000 := by
  unfold coulombLost
  repeat' first | with_reducible apply touch_seqs_cons | with_reducible apply touch_seqs_nil | with_reducible apply touch_setR | with_reducible apply touch_updGauges | with_reducible apply touch_updSlots | with_reducible apply touch_seq | with_reducible apply touch_skip | with_reducible apply touch_read | with_reducible (refine raiseDegraded_touch.mono ?_) | with_reducible intro _ | split | dsimp only | exact rfl

theorem execCurrentReferee_within {sl : Nat} {raw : Int} : RunsWithin 0x18d74c000000000000000800000000000000000400000000000000c0701001000000000000000000000000000160012000000000761f6f001800002040406400000000004200007fe86d800080000000003d04000000000000000 (execCurrentReferee sl raw) := by
  unfold execCurrentReferee
  repeat' first | with_reducible apply ends_within | with_reducible apply touch_seqs_cons | with_reducible apply touch_seqs_nil | with_reducible apply touch_setR | with_reducible apply touch_updGauges | with_reducible apply touch_seq | with_reducible apply touch_skip | with_reducible apply touch_read | with_reducible (refine abortRunning_touch.mono ?_) | with_reducible (refine coulombLost_touch.mono ?_) | with_reducible (refine slotSafeSub_touch.mono ?_) | with_reducible (refine xchkFail_touch.mono ?_) | with_reducible intro _ | split | dsimp only | exact rfl

theorem execOutputVReferee_within {sl : Nat} {raw : Int} : RunsWithin 0x18d74c000000000000000800000000000000000400000000000000c0701001000000000000000000000000000160012000000000761f6d001860000040406400000000004200007fe86d800080000000003d04000000000000000 (execOutputVReferee sl raw) := by
  unfold execOutputVReferee
  repeat' first | with_reducible apply ends_within | with_reducible apply touch_seqs_cons | with_reducible apply touch_seqs_nil | with_reducible apply touch_setR | with_reducible apply touch_updSlots | with_reducible apply touch_seq | with_reducible apply touch_skip | with_reducible apply touch_read | with_reducible (refine refereeBegin_touch.mono ?_) | with_reducible (refine slotSafeSub_touch.mono ?_) | with_reducible (refine xchkFail_touch.mono ?_) | with_reducible intro _ | split | dsimp only | exact rfl

end Sys2Proof.Machine
end

