-- ==== Sys2Proof/Laws/WithinKeepOps.lean ====
section
/-! SUPPORT. The mask of every operation and meaning of Machine/KeepOps.lean (see Laws/Touch.lean): what it can change at all. -/

set_option Elab.async false

set_option maxRecDepth 8192
set_option linter.unreachableTactic false
set_option linter.unusedTactic false

namespace Sys2Proof.Machine

theorem keepShow_touch : (keepShow).Touches 0xe00000000000000000000000000000000000000000000000000000000000000000000000000000000000000000000000000000000000000000000000000000000000000000000 := by
  unfold keepShow
  repeat' first | with_reducible apply touch_seqs_cons | with_reducible apply touch_seqs_nil | with_reducible apply touch_setR | with_reducible apply touch_seq | with_reducible apply touch_skip | with_reducible apply touch_read | with_reducible intro _ | split | dsimp only | exact rfl

theorem keepRetire_touch {k : Nat} {bad : Bool} : (keepRetire k bad).Touches 0x18000000000000000000000000000000000000000000000000000000000000000000000000000000000000000000000000000000000000000000000000000000000000000000000000000000000000000000000000000000000 := by
  unfold keepRetire
  repeat' first | with_reducible apply touch_seqs_cons | with_reducible apply touch_seqs_nil | with_reducible apply touch_updKeep | with_reducible apply touch_updKeepLocs | with_reducible apply touch_seq | with_reducible apply touch_skip | with_reducible apply touch_read | with_reducible intro _ | split | dsimp only | exact rfl

theorem keepStore_touch {r : Nat × Nat × List Nat} {k : Nat} {marked : Bool} : (keepStore r k marked).Touches 0x18000000000000000000000000000000000008e00000000000000000000000000000000000000000000000000000000000000000000000000000000000000000000000000000000000000000000000000000000000000000000 := by
  unfold keepStore
  repeat' first | with_reducible apply touch_seqs_cons | with_reducible apply touch_seqs_nil | with_reducible apply touch_incWrap | with_reducible apply touch_updKeepLocs | with_reducible apply touch_seq | with_reducible apply touch_skip | with_reducible apply touch_read | with_reducible (refine keepRetire_touch.mono ?_) | with_reducible (refine keepShow_touch.mono ?_) | with_reducible intro _ | split | dsimp only | exact rfl

theorem keepCut_touch {whole : Bool} : (keepCut whole).Touches 0x18000000000000000000000000000000000008e00000000000000000000000000000000000000000000000000000000000000000000000000000000000000000000000000000000000000000000000000000000000000000000 := by
  unfold keepCut
  repeat' first | with_reducible apply touch_seqs_cons | with_reducible apply touch_seqs_nil | with_reducible apply touch_seq | with_reducible apply touch_skip | with_reducible apply touch_read | with_reducible (refine keepStore_touch.mono ?_) | with_reducible intro _ | split | dsimp only | exact rfl

theorem applyTenant_touch {fn : Nat} {d : List Nat} : (applyTenant fn d).Touches 0x400000000000000000000000000000000000000000000000000000000000000000000000000000000000001fe000000000000000000000000000000000000000000000000000000000000000000000000000000000000000 := by
  unfold applyTenant
  repeat' first | with_reducible apply touch_seqs_cons | with_reducible apply touch_seqs_nil | with_reducible apply touch_setR | with_reducible apply touch_updFns | with_reducible apply touch_seq | with_reducible apply touch_skip | with_reducible apply touch_read | with_reducible intro _ | split | dsimp only | exact rfl

theorem setKeyByte_touch {fn keyId v : Nat} : (setKeyByte fn keyId v).Touches 0x1e00000000000000000000000000000000000000000000000000000000000000000000000000000000000000000 := by
  unfold setKeyByte
  repeat' first | with_reducible apply touch_seqs_cons | with_reducible apply touch_seqs_nil | with_reducible apply touch_setR | with_reducible apply touch_seq | with_reducible apply touch_skip | with_reducible apply touch_read | with_reducible intro _ | split | dsimp only | exact rfl

theorem applyRecord_touch {typ id : Nat} {d : List Nat} : (applyRecord typ id d).Touches 0x30040000000000000000600000000000000000000000000000000000000000000020000000000000000000001ffe0000000060000080000000c0000000000000000000000000000600000000000000000000000000000000000 := by
  unfold applyRecord
  repeat' first | with_reducible apply touch_seqs_cons | with_reducible apply touch_seqs_nil | with_reducible apply touch_setR | with_reducible apply touch_updKeep | with_reducible apply touch_updKeys | with_reducible apply touch_each | with_reducible apply touch_seq | with_reducible apply touch_skip | with_reducible apply touch_read | with_reducible (refine applyTenant_touch.mono ?_) | with_reducible (refine setKeyByte_touch.mono ?_) | with_reducible intro _ | split | dsimp only | exact rfl

theorem keepScan_touch {decayed : List Nat} : (keepScan decayed).Touches 0x18000000000000000000000000000000000005e00000000000000000000000000000000000000000000000000000000000000000000000000000000000000000000000000000000000000000000000000000000000000000000 := by
  unfold keepScan
  repeat' first | with_reducible apply touch_seqs_cons | with_reducible apply touch_seqs_nil | with_reducible apply touch_setR | with_reducible apply touch_updKeep | with_reducible apply touch_each | with_reducible apply touch_seq | with_reducible apply touch_skip | with_reducible apply touch_read | with_reducible (refine keepRetire_touch.mono ?_) | with_reducible (refine keepShow_touch.mono ?_) | with_reducible intro _ | split | dsimp only | exact rfl

theorem keepApply_touch : (keepApply).Touches 0x30040000000000000000600000000000000000000000000000000000000000000020000000000000000000001ffe0000000060000080000000c0000000000000000000000000000600000000000000000000000000000000000 := by
  unfold keepApply
  repeat' first | with_reducible apply touch_seqs_cons | with_reducible apply touch_seqs_nil | with_reducible apply touch_each | with_reducible apply touch_seq | with_reducible apply touch_skip | with_reducible apply touch_read | with_reducible (refine applyRecord_touch.mono ?_) | with_reducible intro _ | split | dsimp only | exact rfl

end Sys2Proof.Machine
end

