-- ==== Sys2Proof/Laws/WithinPdOps.lean ====
section
/-! SUPPORT. The mask of every operation and meaning of Machine/PdOps.lean (see Laws/Touch.lean): what it can change at all. -/

set_option Elab.async false

set_option maxRecDepth 8192
set_option linter.unreachableTactic false
set_option linter.unusedTactic false

namespace Sys2Proof.Machine

theorem raisePort_touch {typ k data : Nat} : (raisePort typ k data).Touches 0x4c0000000000000008000000000000000000000000000000000000000000000000000000000000000000010001200000000000000000000000000000000000000000000000000000000000000000000000000000000000000 := by
  unfold raisePort
  repeat' first | with_reducible apply touch_seqs_cons | with_reducible apply touch_seqs_nil | with_reducible apply touch_seq | with_reducible apply touch_skip | with_reducible apply touch_read | with_reducible (refine raise_touch.mono ?_) | with_reducible intro _ | split | dsimp only | exact rfl

theorem pdSend_touch {k : Nat} {m : PdMsg} : (pdSend k m).Touches 0x400000000000000000000000000000000000000000000000000000000000000000000000000000000000000000000000000000000000000000000000000000000000000000000000000000000000000000000000000000000 := by
  unfold pdSend
  repeat' first | with_reducible apply touch_seqs_cons | with_reducible apply touch_seqs_nil | with_reducible apply touch_seq | with_reducible apply touch_skip | with_reducible apply touch_read | with_reducible (refine emit_touch.mono ?_) | with_reducible intro _ | split | dsimp only | exact rfl

theorem pdReceive_touch {k : Nat} {amid : Option Nat} {acked : Bool} {p : Prog} {M : Nat} (hp : p.Touches M)
    (hm : 0x400000000000000000000000000000000000000000000000000000000000000000002000000000000000000000000000000000000000000000000000000000000000000000000000000000000000000000000000000000000 &&& M = 0x400000000000000000000000000000000000000000000000000000000000000000002000000000000000000000000000000000000000000000000000000000000000000000000000000000000000000000000000000000000) : (pdReceive k amid acked p).Touches M := by
  have hi : (incSat Reg.PDP_CNT.RX_ABORTS k).Touches M := (touch_incSat rfl : Prog.Touches 0x400000000000000000000000000000000000000000000000000000000000000000002000000000000000000000000000000000000000000000000000000000000000000000000000000000000000000000000000000000000 _).mono hm
  have ht : (Prog.seq (if acked then pdSend k .goodCrc else .skip) p).Touches M := by
    refine touch_seq ?_ hp
    split
    · exact (pdSend_touch.mono rfl : Prog.Touches 0x400000000000000000000000000000000000000000000000000000000000000000002000000000000000000000000000000000000000000000000000000000000000000000000000000000000000000000000000000000000 _).mono hm
    · exact touch_skip
  refine touch_read fun s => ?_
  dsimp only
  split
  · exact touch_skip
  · split
    · exact ht
    · split
      · exact touch_skip
      · exact touch_seq hi ht

theorem pdFault_touch {k cause : Nat} : (pdFault k cause).Touches 0x4c0000000000000008000000000000000000000000000000000000000000000000004000000000000000010001200000000000000000000000000000000000000000000000000000000000000000000000000000000000000 := by
  unfold pdFault
  repeat' first | with_reducible apply touch_seqs_cons | with_reducible apply touch_seqs_nil | with_reducible apply touch_incSat | with_reducible apply touch_seq | with_reducible apply touch_skip | with_reducible apply touch_read | with_reducible (refine raisePort_touch.mono ?_) | with_reducible intro _ | split | dsimp only | exact rfl

theorem sendCaps_touch {k : Nat} : (sendCaps k).Touches 0x40400000000000000000000000000000000000000000000000000000000000000000000000000000000000000000000000000000000000000000000000000000000000000000000000000000000000000000000000000000000 := by
  unfold sendCaps
  repeat' first | with_reducible apply touch_seqs_cons | with_reducible apply touch_seqs_nil | with_reducible apply touch_updPorts | with_reducible apply touch_seq | with_reducible apply touch_skip | with_reducible apply touch_read | with_reducible (refine pdSend_touch.mono ?_) | with_reducible intro _ | split | dsimp only | exact rfl

theorem offerChanged_touch {k : Nat} : (offerChanged k).Touches 0x40400000000000000000000000000000000000000000000000000000000000000000000000000000000000000000000000000000000000000000000000000000000000000000000000000000000000000000000000000000000 := by
  unfold offerChanged
  repeat' first | with_reducible apply touch_seqs_cons | with_reducible apply touch_seqs_nil | with_reducible apply touch_updPorts | with_reducible apply touch_seq | with_reducible apply touch_skip | with_reducible apply touch_read | with_reducible (refine sendCaps_touch.mono ?_) | with_reducible intro _ | split | dsimp only | exact rfl

theorem actionsDone_touch {k : Nat} {p : Nat → Bool} {status : Nat} : (actionsDone k p status).Touches 0x405c0000000000000008000000000000000000000000000000000000000000000000000000000000000000000000200000000000000000000000000000000000000000000000000000000000000000000000000000000000000 := by
  unfold actionsDone
  repeat' first | with_reducible apply touch_seqs_cons | with_reducible apply touch_seqs_nil | with_reducible apply touch_updPorts | with_reducible apply touch_each | with_reducible apply touch_seq | with_reducible apply touch_skip | with_reducible apply touch_read | with_reducible (refine finishRun_touch.mono ?_) | with_reducible intro _ | split | dsimp only | exact rfl

theorem svcOpen_touch {k : Nat} : (svcOpen k).Touches 0x4c0000000000000008000000000000000000000000000000000000000000000000000000800000000000010001200000000000000000000000000000000000000000000000000000000000000000000000000000000000000 := by
  unfold svcOpen
  repeat' first | with_reducible apply touch_seqs_cons | with_reducible apply touch_seqs_nil | with_reducible apply touch_setR | with_reducible apply touch_seq | with_reducible apply touch_skip | with_reducible apply touch_read | with_reducible (refine raisePort_touch.mono ?_) | with_reducible intro _ | split | dsimp only | exact rfl

theorem svcExit_touch {k : Nat} : (svcExit k).Touches 0x4c0000000000000008000000000000000000000000000000000000000000000000000000800000000000010001200000000000000000000000000000000000000000000000000000000000000000000000000000000000000 := by
  unfold svcExit
  repeat' first | with_reducible apply touch_seqs_cons | with_reducible apply touch_seqs_nil | with_reducible apply touch_seq | with_reducible apply touch_skip | with_reducible apply touch_read | with_reducible (refine pdSend_touch.mono ?_) | with_reducible (refine svcOpen_touch.mono ?_) | with_reducible intro _ | split | dsimp only | exact rfl

theorem holderHeld_touch {fn : Nat} : (holderHeld fn).Touches 0x4c0000000000000008000000000000000000000000000000000000000000000000000000800000000000010001200000000000000000000000000000000000000000000000000000000000000000000000000000000000000 := by
  unfold holderHeld
  repeat' first | with_reducible apply touch_seqs_cons | with_reducible apply touch_seqs_nil | with_reducible apply touch_each | with_reducible apply touch_seq | with_reducible apply touch_skip | with_reducible apply touch_read | with_reducible (refine svcExit_touch.mono ?_) | with_reducible intro _ | split | dsimp only | exact rfl

theorem vbusOff_touch {k : Nat} : (vbusOff k).Touches 0x43000000000000000000000000000000000000000000000000008000000000000000000000000000000000000000000000000000000000000000000000000000000000000000000000000080000000003504000000000000000 := by
  unfold vbusOff
  repeat' first | with_reducible apply touch_seqs_cons | with_reducible apply touch_seqs_nil | with_reducible apply touch_updPorts | with_reducible apply touch_seq | with_reducible apply touch_skip | with_reducible apply touch_read | with_reducible (refine parkOutput_touch.mono ?_) | with_reducible intro _ | split | dsimp only | exact rfl

theorem portWithdraw_touch {k cause : Nat} : (portWithdraw k cause).Touches 0x10d75c000000000000000800000000000000000400000000000000807000000000000000001ce800000000000160012000000000761f6d001800000000406400000000000200007f806d800080000000003d04000000000000000 := by
  unfold portWithdraw
  repeat' first | with_reducible apply touch_seqs_cons | with_reducible apply touch_seqs_nil | with_reducible apply touch_setR | with_reducible apply touch_updPorts | with_reducible apply touch_seq | with_reducible apply touch_skip | with_reducible apply touch_read | with_reducible (refine actionsDone_touch.mono ?_) | with_reducible (refine contractGone_touch.mono ?_) | with_reducible (refine raisePort_touch.mono ?_) | with_reducible (refine svcOpen_touch.mono ?_) | with_reducible (refine vbusOff_touch.mono ?_) | with_reducible intro _ | split | dsimp only | exact rfl

theorem portPresent_touch {k : Nat} : (portPresent k).Touches 0x40000000000000000000000000000000000000000000000000000000000000000000000000080000000000000000000000000000000000000000000000000000000000000000000000000000000000000000000000000000000 := by
  unfold portPresent
  repeat' first | with_reducible apply touch_seqs_cons | with_reducible apply touch_seqs_nil | with_reducible apply touch_setR | with_reducible apply touch_updPorts | with_reducible apply touch_seq | with_reducible apply touch_skip | with_reducible apply touch_read | with_reducible intro _ | split | dsimp only | exact rfl

theorem hardReset_touch {k kind cause : Nat} : (hardReset k kind cause).Touches 0x10d75c000000000000000800000000000000000400000000000000807000000000000000081ce000000000000160012000000000761f6d001800000000406400000000000200007f806d800080000000003d04000000000000000 := by
  unfold hardReset
  repeat' first | with_reducible apply touch_seqs_cons | with_reducible apply touch_seqs_nil | with_reducible apply touch_setR | with_reducible apply touch_incSat | with_reducible apply touch_updPorts | with_reducible apply touch_seq | with_reducible apply touch_skip | with_reducible apply touch_read | with_reducible (refine actionsDone_touch.mono ?_) | with_reducible (refine contractGone_touch.mono ?_) | with_reducible (refine pdSend_touch.mono ?_) | with_reducible (refine raisePort_touch.mono ?_) | with_reducible (refine svcOpen_touch.mono ?_) | with_reducible intro _ | split | dsimp only | exact rfl

theorem portStart_touch {k : Nat} : (portStart k).Touches 0x18000000000000000000000000000000000000000000000000000000000000000000000000000000000000000000000000000000000 := by
  unfold portStart
  repeat' first | with_reducible apply touch_seqs_cons | with_reducible apply touch_seqs_nil | with_reducible apply touch_setR | with_reducible apply touch_seq | with_reducible apply touch_skip | with_reducible apply touch_read | with_reducible intro _ | split | dsimp only | exact rfl

theorem portDetach_touch {k : Nat} : (portDetach k).Touches 0x10d75c00000000000000080000000000000000040000000000000080700000000000000001fce800000000000160012000000000761f6d001800000000406400000000000200007f806d800080000000003d04000000000000000 := by
  unfold portDetach
  repeat' first | with_reducible apply touch_seqs_cons | with_reducible apply touch_seqs_nil | with_reducible apply touch_setR | with_reducible apply touch_updPorts | with_reducible apply touch_seq | with_reducible apply touch_skip | with_reducible apply touch_read | with_reducible (refine actionsDone_touch.mono ?_) | with_reducible (refine contractGone_touch.mono ?_) | with_reducible (refine raisePort_touch.mono ?_) | with_reducible (refine svcOpen_touch.mono ?_) | with_reducible (refine vbusOff_touch.mono ?_) | with_reducible intro _ | split | dsimp only | exact rfl

theorem portDisable_touch {k : Nat} : (portDisable k).Touches 0x10d75c00000000000000080000000000000000040000000000000080700000000000000001fce800000000000160012000000000761f6d001800000000406400000000000200007f806d800080000000003d04000000000000000 := by
  unfold portDisable
  repeat' first | with_reducible apply touch_seqs_cons | with_reducible apply touch_seqs_nil | with_reducible apply touch_setR | with_reducible apply touch_seq | with_reducible apply touch_skip | with_reducible apply touch_read | with_reducible (refine portDetach_touch.mono ?_) | with_reducible (refine vbusOff_touch.mono ?_) | with_reducible intro _ | split | dsimp only | exact rfl

theorem policyDefault_touch {k : Nat} : (policyDefault k).Touches 0x1ff000000000000000000000000000000000000000000000000000000000000000000000000000000000000000000000000000000000000000000000000000000000000000000000000000000000000 := by
  unfold policyDefault
  repeat' first | with_reducible apply touch_seqs_cons | with_reducible apply touch_seqs_nil | with_reducible apply touch_setR | with_reducible apply touch_seq | with_reducible apply touch_skip | with_reducible apply touch_read | with_reducible intro _ | split | dsimp only | exact rfl

theorem policySet_touch {k : Nat} {p : PdPolicy} : (policySet k p).Touches 0x1ff000000000000000000000000000000000000000000000000000000000000000000000000000000000000000000000000000000000000000000000000000000000000000000000000000000000000 := by
  unfold policySet
  repeat' first | with_reducible apply touch_seqs_cons | with_reducible apply touch_seqs_nil | with_reducible apply touch_setR | with_reducible apply touch_seq | with_reducible apply touch_skip | with_reducible apply touch_read | with_reducible intro _ | split | dsimp only | exact rfl

theorem policyActs_touch {k action : Nat} {c : Ctl} {change : Prog} {M : Nat} (h : change.Touches M)
    (hm : 0x405c0000000000000008000000000000000000000000000000000000000000000000000000000000000000000000200000000000000000000000000000000000000000000000000000000000000000000000000000000000000 &&& M = 0x405c0000000000000008000000000000000000000000000000000000000000000000000000000000000000000000200000000000000000000000000000000000000000000000000000000000000000000000000000000000000) : (policyActs k action c change).Touches M := by
  refine fun _ => ⟨h, ?_⟩
  refine Prog.Touches.mono (m := 0x405c0000000000000008000000000000000000000000000000000000000000000000000000000000000000000000200000000000000000000000000000000000000000000000000000000000000000000000000000000000000) ?_ hm
  intro t
  beta_reduce
  split
  · exact ⟨touch_updPorts rfl, offerChanged_touch.mono rfl⟩
  · exact finishRun_touch.mono rfl

theorem actStart_touch {k action : Nat} {c : Ctl} : (actStart k action c).Touches 0x10d75c000000000000000800000000000000000400000000000000807000000000000000181ce000000000000160012000000000761f6d001800000000406400000000000200007f806d800080000000003d04000000000000000 := by
  unfold actStart
  repeat' first | with_reducible apply touch_seqs_cons | with_reducible apply touch_seqs_nil | with_reducible apply touch_incSat | with_reducible apply touch_updPorts | with_reducible apply touch_seq | with_reducible apply touch_skip | with_reducible apply touch_read | with_reducible (refine finishRun_touch.mono ?_) | with_reducible (refine hardReset_touch.mono ?_) | with_reducible (refine pdSend_touch.mono ?_) | with_reducible (refine raisePort_touch.mono ?_) | with_reducible (refine svcExit_touch.mono ?_) | with_reducible intro _ | split | dsimp only | exact rfl

theorem actBegin_touch {k action : Nat} {c : Ctl} : (actBegin k action c).Touches 0x10d75c000000000000000800000000000000000400000000000000807000000000000000181ce000000000000160012000000000761f6d001800000000406400000000000200007f806d800080000000003d04000000000000000 := by
  unfold actBegin
  repeat' first | with_reducible apply touch_seqs_cons | with_reducible apply touch_seqs_nil | with_reducible apply touch_updPorts | with_reducible apply touch_seq | with_reducible apply touch_skip | with_reducible apply touch_read | with_reducible (refine actStart_touch.mono ?_) | with_reducible intro _ | split | dsimp only | exact rfl

theorem offerPaid_touch {k : Nat} : (offerPaid k).Touches 0x10d75c000000000000000800000000000000000400000000000000807000000000000000181ce000000000000160012000000000761f6d001800000000406400000000000200007f806d800080000000003d04000000000000000 := by
  unfold offerPaid
  repeat' first | with_reducible apply touch_seqs_cons | with_reducible apply touch_seqs_nil | with_reducible apply touch_updPorts | with_reducible apply touch_seq | with_reducible apply touch_skip | with_reducible apply touch_read | with_reducible (refine actStart_touch.mono ?_) | with_reducible (refine sendCaps_touch.mono ?_) | with_reducible intro _ | split | dsimp only | exact rfl

theorem portsLimitChanged_touch : (portsLimitChanged).Touches 0x40400000000000000000000000000000000000000000000000000000000000000000000000000000000000000000000000000000000000000000000000000000000000000000000000000000000000000000000000000000000 := by
  unfold portsLimitChanged
  repeat' first | with_reducible apply touch_seqs_cons | with_reducible apply touch_seqs_nil | with_reducible apply touch_each | with_reducible apply touch_seq | with_reducible apply touch_skip | with_reducible apply touch_read | with_reducible (refine offerChanged_touch.mono ?_) | with_reducible intro _ | split | dsimp only | exact rfl

end Sys2Proof.Machine
end

