-- ==== Sys2Proof/Laws/WithinGridOps.lean ====
section
/-! SUPPORT. The mask of every operation and meaning of Machine/GridOps.lean (see Laws/Touch.lean): what it can change at all. -/

set_option Elab.async false

set_option maxRecDepth 8192
set_option linter.unreachableTactic false
set_option linter.unusedTactic false

namespace Sys2Proof.Machine

theorem srcChange_touch {k : Nat} : (srcChange k).Touches 0x4c0000000000000008000000000000000000000000000000000000000000000000000000000000000000010001200000000000000000000000000000000000000000000000000000000000000000000000000000000000000 := by
  unfold srcChange
  repeat' first | with_reducible apply touch_seqs_cons | with_reducible apply touch_seqs_nil | with_reducible apply touch_seq | with_reducible apply touch_skip | with_reducible apply touch_read | with_reducible (refine raisePf_touch.mono ?_) | with_reducible intro _ | split | dsimp only | exact rfl

theorem srcLimit_touch {k : Nat} {tell : Bool} : (srcLimit k tell).Touches 0x4c0000000000000008000000000000000000000000000000000000000000000000000000000000000000010001200000000000000000000000000000000000000000000000000000000000000000000000000280000000000 := by
  unfold srcLimit
  repeat' first | with_reducible apply touch_seqs_cons | with_reducible apply touch_seqs_nil | with_reducible apply touch_setR | with_reducible apply touch_seq | with_reducible apply touch_skip | with_reducible apply touch_read | with_reducible (refine srcChange_touch.mono ?_) | with_reducible intro _ | split | dsimp only | exact rfl

theorem srcEnable_touch {k boundaries : Nat} : (srcEnable k boundaries).Touches 0x4004c0000000000000008000000000000000000000000000000000000000000000000000000000000000000010001200000000000000000000000000000000000000000000000000000000000000000000000000020008000000 := by
  unfold srcEnable
  repeat' first | with_reducible apply touch_seqs_cons | with_reducible apply touch_seqs_nil | with_reducible apply touch_setR | with_reducible apply touch_updSrcs | with_reducible apply touch_seq | with_reducible apply touch_skip | with_reducible apply touch_read | with_reducible (refine srcChange_touch.mono ?_) | with_reducible intro _ | split | dsimp only | exact rfl

theorem srcDisable_touch {k : Nat} : (srcDisable k).Touches 0x6004c0000000000000008000000000000000000000000000000000000000000000000000000000000000000010001200000000000000000000000000000000000000000000000000000000000000000000000000020000000000 := by
  unfold srcDisable
  repeat' first | with_reducible apply touch_seqs_cons | with_reducible apply touch_seqs_nil | with_reducible apply touch_setR | with_reducible apply touch_updGrid | with_reducible apply touch_updSrcs | with_reducible apply touch_seq | with_reducible apply touch_skip | with_reducible apply touch_read | with_reducible (refine srcChange_touch.mono ?_) | with_reducible intro _ | split | dsimp only | exact rfl

theorem parkFeeding_touch : (parkFeeding).Touches 0x43000000000000000000000000000000000000000000000000008000000000000000000000000000000000000000000000000000000000000000000000000000000000000000000000000080000000003504000000000000000 := by
  unfold parkFeeding
  repeat' first | with_reducible apply touch_seqs_cons | with_reducible apply touch_seqs_nil | with_reducible apply touch_updSlots | with_reducible apply touch_each | with_reducible apply touch_when | with_reducible apply touch_seq | with_reducible apply touch_skip | with_reducible apply touch_read | with_reducible (refine parkOutput_touch.mono ?_) | with_reducible intro _ | split | dsimp only | exact rfl

theorem ocpSkip_touch {k since : Nat} : (ocpSkip k since).Touches 0x1000000000000000000000000000000000000000000000000000000000000000000000000000000000000000000000000000000000000000000000000000000000000000000000000000000000000000000000000000000000 := by
  unfold ocpSkip
  repeat' first | with_reducible apply touch_seqs_cons | with_reducible apply touch_seqs_nil | with_reducible apply touch_updChans | with_reducible apply touch_seq | with_reducible apply touch_skip | with_reducible apply touch_read | with_reducible intro _ | split | dsimp only | exact rfl

theorem setScale_touch {v : Nat} : (setScale v).Touches 0x201000000000000000000000000000000000000000000000000000000000000000000000000000000000000000000000000000000000000000000000000000000000000000000000000000000000000000000000000044000000 := by
  unfold setScale
  repeat' first | with_reducible apply touch_seqs_cons | with_reducible apply touch_seqs_nil | with_reducible apply touch_setR | with_reducible apply touch_updGrid | with_reducible apply touch_each | with_reducible apply touch_seq | with_reducible apply touch_skip | with_reducible apply touch_read | with_reducible (refine ocpSkip_touch.mono ?_) | with_reducible intro _ | split | dsimp only | exact rfl

theorem donorStart_touch {sl : Nat} : (donorStart sl).Touches 0x20800000000000000000000000000000000 := by
  unfold donorStart
  repeat' first | with_reducible apply touch_seqs_cons | with_reducible apply touch_seqs_nil | with_reducible apply touch_setR | with_reducible apply touch_seq | with_reducible apply touch_skip | with_reducible apply touch_read | with_reducible intro _ | split | dsimp only | exact rfl

theorem donorsChoose_touch : (donorsChoose).Touches 0x200000000000000000000000000000000000000000000000000000000000000000000000000000000000000000000000000000000000000000000000000000000000000000000000020800000000000000000000000000000000 := by
  unfold donorsChoose
  repeat' first | with_reducible apply touch_seqs_cons | with_reducible apply touch_seqs_nil | with_reducible apply touch_updGrid | with_reducible apply touch_each | with_reducible apply touch_seq | with_reducible apply touch_skip | with_reducible apply touch_read | with_reducible (refine donorStart_touch.mono ?_) | with_reducible intro _ | split | dsimp only | exact rfl

theorem portsWithdraw_touch {cause : Nat} : (portsWithdraw cause).Touches 0x10d75c000000000000000800000000000000000400000000000000807000000000000000001ce800000000000160012000000000761f6d001800000000406400000000000200007f806d800080000000003d04000000000000000 := by
  unfold portsWithdraw
  repeat' first | with_reducible apply touch_seqs_cons | with_reducible apply touch_seqs_nil | with_reducible apply touch_each | with_reducible apply touch_seq | with_reducible apply touch_skip | with_reducible apply touch_read | with_reducible (refine portWithdraw_touch.mono ?_) | with_reducible intro _ | split | dsimp only | exact rfl

theorem accUpdate_touch : (accUpdate).Touches 0x10d74c00000000000000080000000000000000040000000000000080700000000000000000000000000000000160012000000000761f6d001800000000406400000000000000007f802d800080000000003d04000000000000000 := by
  unfold accUpdate
  repeat' first | with_reducible apply touch_seqs_cons | with_reducible apply touch_seqs_nil | with_reducible apply touch_when | with_reducible apply touch_seq | with_reducible apply touch_skip | with_reducible apply touch_read | with_reducible (refine softStop_touch.mono ?_) | with_reducible intro _ | split | dsimp only | exact rfl

theorem returnNext_touch : (returnNext).Touches 0x200000000000000000000000000000000000000000000000000000000000000000000000000000000000000000000000000000000000000000000000000000000000000000000000000000000000000000000000000000000000 := by
  unfold returnNext
  repeat' first | with_reducible apply touch_seqs_cons | with_reducible apply touch_seqs_nil | with_reducible apply touch_updGrid | with_reducible apply touch_seq | with_reducible apply touch_skip | with_reducible apply touch_read | with_reducible intro _ | split | dsimp only | exact rfl

theorem returnDrop_touch {k : Nat} : (returnDrop k).Touches 0x200000000000000000000000000000000000000000000000000000000000000000000000000000000000000000000000000000000000000000000000000000000000000000000000000000000000000000000000000000000000 := by
  unfold returnDrop
  repeat' first | with_reducible apply touch_seqs_cons | with_reducible apply touch_seqs_nil | with_reducible apply touch_updGrid | with_reducible apply touch_seq | with_reducible apply touch_skip | with_reducible apply touch_read | with_reducible (refine returnNext_touch.mono ?_) | with_reducible intro _ | split | dsimp only | exact rfl

theorem alwaysEnable_touch : (alwaysEnable).Touches 0x4004c0000000000000008000000000000000000000000000000000000000000000000000000000000000000010001200000000000000000000000000000000000000000000000000000000000000000000000000020008000000 := by
  unfold alwaysEnable
  repeat' first | with_reducible apply touch_seqs_cons | with_reducible apply touch_seqs_nil | with_reducible apply touch_each | with_reducible apply touch_when | with_reducible apply touch_seq | with_reducible apply touch_skip | with_reducible apply touch_read | with_reducible (refine srcEnable_touch.mono ?_) | with_reducible intro _ | split | dsimp only | exact rfl

theorem donorsGone_touch : (donorsGone).Touches 0x12d75c000000000000000800000000000000000400000000000000807000000000000000001ce800000000000160012000000000761f6d001800000000406400000000000200007f806d800080000000003d04000000044000000 := by
  unfold donorsGone
  repeat' first | with_reducible apply touch_seqs_cons | with_reducible apply touch_seqs_nil | with_reducible apply touch_updGrid | with_reducible apply touch_seq | with_reducible apply touch_skip | with_reducible apply touch_read | with_reducible (refine portsWithdraw_touch.mono ?_) | with_reducible (refine setScale_touch.mono ?_) | with_reducible intro _ | split | dsimp only | exact rfl

theorem islandWritten_touch : (islandWritten).Touches 0x12d75c000000000000000800000000000000000400000000000000807000000000000000001ce800000000000160012000000000761f6d001800000000406400000000000200007f806d800080000000003d04000000044000000 := by
  unfold islandWritten
  repeat' first | with_reducible apply touch_seqs_cons | with_reducible apply touch_seqs_nil | with_reducible apply touch_updGrid | with_reducible apply touch_each | with_reducible apply touch_seq | with_reducible apply touch_skip | with_reducible apply touch_read | with_reducible (refine donorsChoose_touch.mono ?_) | with_reducible (refine donorsGone_touch.mono ?_) | with_reducible (refine stopSlot_touch.mono ?_) | with_reducible intro _ | split | dsimp only | exact rfl

end Sys2Proof.Machine
end

