-- ==== Sys2Proof/Laws/WithinEngOps.lean ====
section
/-! SUPPORT. The mask of every operation and meaning of Machine/EngOps.lean (see Laws/Touch.lean): what it can change at all. -/

set_option Elab.async false

set_option maxRecDepth 8192
set_option linter.unreachableTactic false
set_option linter.unusedTactic false

namespace Sys2Proof.Machine

theorem storeLeaves_touch {t : Nat} {e : StoreEntry} : (storeLeaves t e).Touches 0x80000400000000000000000000000000000000000000000000000000000000000000000000000000000000000000000000000000000000000000000000000000000000000000000000000000000000000000000000000000000000 := by
  unfold storeLeaves
  repeat' first | with_reducible apply touch_seqs_cons | with_reducible apply touch_seqs_nil | with_reducible apply touch_updTasks | with_reducible apply touch_seq | with_reducible apply touch_skip | with_reducible apply touch_read | with_reducible (refine emit_touch.mono ?_) | with_reducible intro _ | split | dsimp only | exact rfl

theorem storeDrain_touch {t : Nat} : (storeDrain t).Touches 0x80000400000000000000000000000000000000000000000000000000000000000000000000000000000000000000000000000000000000000000000000000000000000000000000000000000000000000000000000000000000000 := by
  unfold storeDrain
  repeat' first | with_reducible apply touch_seqs_cons | with_reducible apply touch_seqs_nil | with_reducible apply touch_updTasks | with_reducible apply touch_each | with_reducible apply touch_seq | with_reducible apply touch_skip | with_reducible apply touch_read | with_reducible (refine storeLeaves_touch.mono ?_) | with_reducible intro _ | split | dsimp only | exact rfl

theorem storeEnters_touch {t : Nat} {e : StoreEntry} : (storeEnters t e).Touches 0x80000400000000000000000000000000000000000000000000000000000000000000000000000000000000000000000000000000000000000000000000000000000000000000000000000000000000000000000000000000000000 := by
  unfold storeEnters
  repeat' first | with_reducible apply touch_seqs_cons | with_reducible apply touch_seqs_nil | with_reducible apply touch_updTasks | with_reducible apply touch_when | with_reducible apply touch_seq | with_reducible apply touch_skip | with_reducible apply touch_read | with_reducible (refine storeDrain_touch.mono ?_) | with_reducible intro _ | split | dsimp only | exact rfl

theorem checkpoint_touch {t : Nat} : (checkpoint t).Touches 0x80000000000000000000000000000000000000000000000000000000000000000000000000000000000000000000000000000000000000000000000000000000000000000000000000000000000000000000000000000000000000 := by
  unfold checkpoint
  repeat' first | with_reducible apply touch_seqs_cons | with_reducible apply touch_seqs_nil | with_reducible apply touch_updTasks | with_reducible apply touch_seq | with_reducible apply touch_skip | with_reducible apply touch_read | with_reducible intro _ | split | dsimp only | exact rfl

theorem toCheckpoint_touch {t : Nat} : (toCheckpoint t).Touches 0x80000000000000000000000000000000000000000000000000000000000000000000000000000000000000000000000000000000000000000000000000000000000000000000000000000000000000000000000000000000000000 := by
  unfold toCheckpoint
  repeat' first | with_reducible apply touch_seqs_cons | with_reducible apply touch_seqs_nil | with_reducible apply touch_updTasks | with_reducible apply touch_seq | with_reducible apply touch_skip | with_reducible apply touch_read | with_reducible intro _ | split | dsimp only | exact rfl

theorem traceShow_touch : (traceShow).Touches 0x20000000000000000000000000000000000000000000000000000000000000000000000000000000000000000000000000000000000000000000000 := by
  unfold traceShow
  repeat' first | with_reducible apply touch_seqs_cons | with_reducible apply touch_seqs_nil | with_reducible apply touch_setR | with_reducible apply touch_each | with_reducible apply touch_seq | with_reducible apply touch_skip | with_reducible apply touch_read | with_reducible intro _ | split | dsimp only | exact rfl

theorem traceWrite_touch {tine kind bed data : Nat} : (traceWrite tine kind bed data).Touches 0x100000000000000000000000000000000000000000000000000000000000000010000000000000000000000000000000000000000000000000000000000000000000000000000000000000000000000000000000000000000000000 := by
  unfold traceWrite
  repeat' first | with_reducible apply touch_seqs_cons | with_reducible apply touch_seqs_nil | with_reducible apply touch_incSat | with_reducible apply touch_updEng | with_reducible apply touch_seq | with_reducible apply touch_skip | with_reducible apply touch_read | with_reducible intro _ | split | dsimp only | exact rfl

theorem traceStore_touch {r : TraceRec} : (traceStore r).Touches 0x300000000000000000000000000000000000000000000000000000000000000034000000000000000000000000000000000000000000000000000000000000000000000000000000000000000000000000000000000000000000000 := by
  unfold traceStore
  repeat' first | with_reducible apply touch_seqs_cons | with_reducible apply touch_seqs_nil | with_reducible apply touch_setR | with_reducible apply touch_incSat | with_reducible apply touch_updEng | with_reducible apply touch_act_trace | with_reducible apply touch_seq | with_reducible apply touch_skip | with_reducible apply touch_read | with_reducible (refine traceShow_touch.mono ?_) | with_reducible intro _ | split | dsimp only | exact rfl

theorem traceDrain_touch {p : Nat → Bool} : (traceDrain p).Touches 0x300000000000000000000000000000000000000000000000000000000000000034000000000000000000000000000000000000000000000000000000000000000000000000000000000000000000000000000000000000000000000 := by
  unfold traceDrain
  repeat' first | with_reducible apply touch_seqs_cons | with_reducible apply touch_seqs_nil | with_reducible apply touch_updEng | with_reducible apply touch_each | with_reducible apply touch_seq | with_reducible apply touch_skip | with_reducible apply touch_read | with_reducible (refine traceStore_touch.mono ?_) | with_reducible intro _ | split | dsimp only | exact rfl

theorem tracePair_touch {p kind data : Nat} : (tracePair p kind data).Touches 0x100000000000000000000000000000000000000000000000000000000000000010000000000000000000000000000000000000000000000000000000000000000000000000000000000000000000000000000000000000000000000 := by
  unfold tracePair
  repeat' first | with_reducible apply touch_seqs_cons | with_reducible apply touch_seqs_nil | with_reducible apply touch_seq | with_reducible apply touch_skip | with_reducible apply touch_read | with_reducible (refine traceWrite_touch.mono ?_) | with_reducible intro _ | split | dsimp only | exact rfl

theorem tineAct_touch {t : Nat} {x : TineAct} : (tineAct t x).Touches 0x180000400000000000000000000000000000000000000000000000000000000010000000000000000000000000000000000000000000000000000000000000000000000000000000000000000000000000000000000000000000000 := by
  cases x <;> unfold tineAct
  all_goals
    repeat' first | with_reducible apply touch_seqs_cons | with_reducible apply touch_seqs_nil | with_reducible apply touch_updTasks | with_reducible apply touch_seq | with_reducible apply touch_skip | with_reducible apply touch_read | with_reducible (refine emit_touch.mono ?_) | with_reducible (refine storeDrain_touch.mono ?_) | with_reducible (refine storeEnters_touch.mono ?_) | with_reducible (refine tracePair_touch.mono ?_) | with_reducible intro _ | split | dsimp only | exact rfl

theorem cutActs_touch {t : Nat} {acts : List TineAct} : (cutActs t acts).Touches 0x180000400000000000000000000000000000000000000000000000000000000010000000000000000000000000000000000000000000000000000000000000000000000000000000000000000000000000000000000000000000000 := by
  unfold cutActs
  repeat' first | with_reducible apply touch_seqs_cons | with_reducible apply touch_seqs_nil | with_reducible apply touch_each | with_reducible apply touch_seq | with_reducible apply touch_skip | with_reducible apply touch_read | with_reducible (refine tineAct_touch.mono ?_) | with_reducible intro _ | split | dsimp only | exact rfl

theorem runPeriod_touch {t cycles : Nat} {acts : List TineAct} : (runPeriod t cycles acts).Touches 0x180000400000000000000000000000000000000000000000000000000000000010000000000000000000000000000000000000000000000000000000000000000000000000000000000000000000000000000000000000000000000 := by
  unfold runPeriod
  repeat' first | with_reducible apply touch_seqs_cons | with_reducible apply touch_seqs_nil | with_reducible apply touch_updTasks | with_reducible apply touch_each | with_reducible apply touch_seq | with_reducible apply touch_skip | with_reducible apply touch_read | with_reducible (refine checkpoint_touch.mono ?_) | with_reducible (refine storeDrain_touch.mono ?_) | with_reducible (refine tineAct_touch.mono ?_) | with_reducible (refine tracePair_touch.mono ?_) | with_reducible intro _ | split | dsimp only | exact rfl

theorem bedOff_touch {b : Nat} : (bedOff b).Touches 0x300000000000000000000000000000000000000000000000000000000000000034000000000000000000000000000000000000000000000000000000000000000000000000000000000000000000000000000000000000000000000 := by
  unfold bedOff
  repeat' first | with_reducible apply touch_seqs_cons | with_reducible apply touch_seqs_nil | with_reducible apply touch_updEng | with_reducible apply touch_seq | with_reducible apply touch_skip | with_reducible apply touch_read | with_reducible (refine traceDrain_touch.mono ?_) | with_reducible (refine traceWrite_touch.mono ?_) | with_reducible intro _ | split | dsimp only | exact rfl

theorem bedOn_touch {b : Nat} : (bedOn b).Touches 0x100000000000000000000000000000000000000000000000000000000000000010000000000000000000000000000000000000000000000000000000000000000000000000000000000000000000000000000000000000000000000 := by
  unfold bedOn
  repeat' first | with_reducible apply touch_seqs_cons | with_reducible apply touch_seqs_nil | with_reducible apply touch_updEng | with_reducible apply touch_seq | with_reducible apply touch_skip | with_reducible apply touch_read | with_reducible (refine traceWrite_touch.mono ?_) | with_reducible intro _ | split | dsimp only | exact rfl

theorem rootMoved_touch {bed skipped tick : Nat} : (rootMoved bed skipped tick).Touches 0x4c0000000000000008000000000000000000000000000000000000000000000000000000000000000000010001200000000000000000000000000000000002000800000000000000000000000000000000000000000000800 := by
  unfold rootMoved
  repeat' first | with_reducible apply touch_seqs_cons | with_reducible apply touch_seqs_nil | with_reducible apply touch_setR | with_reducible apply touch_incSat | with_reducible apply touch_seq | with_reducible apply touch_skip | with_reducible apply touch_read | with_reducible (refine healthSet_touch ?_ ?_) | with_reducible (refine raisePf_touch.mono ?_) | with_reducible intro _ | split | dsimp only | exact rfl

theorem rootPlanned_touch {bed : Nat} : (rootPlanned bed).Touches 0x4c0000000000000008000000000000000000000000000000000000000000000000000000000000000000010001200000000000000000000000000000000002000800000000000000000000000000000000000000000000800 := by
  unfold rootPlanned
  repeat' first | with_reducible apply touch_seqs_cons | with_reducible apply touch_seqs_nil | with_reducible apply touch_seq | with_reducible apply touch_skip | with_reducible apply touch_read | with_reducible (refine rootMoved_touch.mono ?_) | with_reducible intro _ | split | dsimp only | exact rfl

theorem shardGone_touch {b : Nat} : (shardGone b).Touches 0x10000000000000000000000000000000000000000000000000000000000000000000000000000000000000000000000000000000000000000000000000000000000000000000000000000000000000000000000000000000000000 := by
  unfold shardGone
  repeat' first | with_reducible apply touch_seqs_cons | with_reducible apply touch_seqs_nil | with_reducible apply touch_updAlm | with_reducible apply touch_seq | with_reducible apply touch_skip | with_reducible apply touch_read | with_reducible intro _ | split | dsimp only | exact rfl

theorem taskStops_touch {t sub : Nat} : (taskStops t sub).Touches 0x110d74c000000000000000800000000000000000400000000000000c0700001001000000000184800000000000160012000000000761f6d001800000000406400000000004200007fe86d800080000000003d04000000000000000 := by
  unfold taskStops
  repeat' first | with_reducible apply touch_seqs_cons | with_reducible apply touch_seqs_nil | with_reducible apply touch_setR | with_reducible apply touch_seq | with_reducible apply touch_skip | with_reducible apply touch_read | with_reducible (refine auxFault_touch.mono ?_) | with_reducible (refine shardGone_touch.mono ?_) | with_reducible (refine slotSafeSub_touch.mono ?_) | with_reducible intro _ | split | dsimp only | exact rfl

theorem planMove_touch {t q : Nat} : (planMove t q).Touches 0x80000000000000000000000000000000000000000000000000000000000000000140000000000000000000000000000000000000000000000000000000000000000000000000000000000000000000000000000000000000000000 := by
  unfold planMove
  repeat' first | with_reducible apply touch_seqs_cons | with_reducible apply touch_seqs_nil | with_reducible apply touch_setR | with_reducible apply touch_updTasks | with_reducible apply touch_seq | with_reducible apply touch_skip | with_reducible apply touch_read | with_reducible intro _ | split | dsimp only | exact rfl

theorem planBack_touch {t p : Nat} : (planBack t p).Touches 0x80000000000000000000000000000000000000000000000000000000000000000140000000000000000000000000000000000000000000000000000000000000000000000000000000000000000000000000000000000000000000 := by
  unfold planBack
  repeat' first | with_reducible apply touch_seqs_cons | with_reducible apply touch_seqs_nil | with_reducible apply touch_setR | with_reducible apply touch_updTasks | with_reducible apply touch_seq | with_reducible apply touch_skip | with_reducible apply touch_read | with_reducible intro _ | split | dsimp only | exact rfl

theorem migrate_touch {t cause : Nat} {out : List Nat} : (migrate t cause out).Touches 0x910d74c000000000000000800000000000000000400000000000000c0700001001400000000184800000000000160012000000000761f6d001800000000406400000000004200007fe86d800080000000003d04000000000008000 := by
  unfold migrate
  repeat' first | with_reducible apply touch_seqs_cons | with_reducible apply touch_seqs_nil | with_reducible apply touch_setR | with_reducible apply touch_updTasks | with_reducible apply touch_seq | with_reducible apply touch_skip | with_reducible apply touch_read | with_reducible (refine healthSet_touch ?_ ?_) | with_reducible (refine planBack_touch.mono ?_) | with_reducible (refine planMove_touch.mono ?_) | with_reducible (refine shardGone_touch.mono ?_) | with_reducible (refine taskStops_touch.mono ?_) | with_reducible (refine toCheckpoint_touch.mono ?_) | with_reducible intro _ | split | dsimp only | exact rfl

theorem migrated_touch {t : Nat} : (migrated t).Touches 0x1900004c0000000000000008000000000000000000000000000000000000000010180800000000000000000000010001200000000000000000000000000000000000000000000000000000000000000000000000000000000000000 := by
  unfold migrated
  repeat' first | with_reducible apply touch_seqs_cons | with_reducible apply touch_seqs_nil | with_reducible apply touch_setR | with_reducible apply touch_incSat | with_reducible apply touch_updAlm | with_reducible apply touch_updTasks | with_reducible apply touch_seq | with_reducible apply touch_skip | with_reducible apply touch_read | with_reducible (refine raisePf_touch.mono ?_) | with_reducible (refine toCheckpoint_touch.mono ?_) | with_reducible (refine tracePair_touch.mono ?_) | with_reducible intro _ | split | dsimp only | exact rfl

theorem stoppedLeave_touch {b : Nat} : (stoppedLeave b).Touches 0x80000000000000000000000000000000000000000000000000000000000000000040000000000000000000000000000000000000000000000000000000000000000000000000000000000000000000000000000000000000000000 := by
  unfold stoppedLeave
  repeat' first | with_reducible apply touch_seqs_cons | with_reducible apply touch_seqs_nil | with_reducible apply touch_setR | with_reducible apply touch_updTasks | with_reducible apply touch_each | with_reducible apply touch_when | with_reducible apply touch_seq | with_reducible apply touch_skip | with_reducible apply touch_read | with_reducible intro _ | split | dsimp only | exact rfl

theorem schemaUpdate_touch : (schemaUpdate).Touches 0x10000000000000000000000000000000000000000000000000 := by
  unfold schemaUpdate
  repeat' first | with_reducible apply touch_seqs_cons | with_reducible apply touch_seqs_nil | with_reducible apply touch_setR | with_reducible apply touch_seq | with_reducible apply touch_skip | with_reducible apply touch_read | with_reducible intro _ | split | dsimp only | exact rfl

theorem bedEmpties_touch {b : Nat} : (bedEmpties b).Touches 0x910d74c000000000000000800000000000000000400000000000000c0700001001400020000184800000000000160012000000000761f6d001800000000406400000000004200007fe86d800080000000003d04000000000008000 := by
  unfold bedEmpties
  repeat' first | with_reducible apply touch_seqs_cons | with_reducible apply touch_seqs_nil | with_reducible apply touch_setR | with_reducible apply touch_each | with_reducible apply touch_seq | with_reducible apply touch_skip | with_reducible apply touch_read | with_reducible (refine migrate_touch.mono ?_) | with_reducible (refine stoppedLeave_touch.mono ?_) | with_reducible intro _ | split | dsimp only | exact rfl

theorem bedBegins_touch {b : Nat} : (bedBegins b).Touches 0x910d74c000000000000000800000000000000000400000000000000c0700001001400030000184800000000000160012000000000761f6d001800000000406400000000004200007fe86d800080000000003d04000000000008000 := by
  unfold bedBegins
  repeat' first | with_reducible apply touch_seqs_cons | with_reducible apply touch_seqs_nil | with_reducible apply touch_setR | with_reducible apply touch_seq | with_reducible apply touch_skip | with_reducible apply touch_read | with_reducible (refine bedEmpties_touch.mono ?_) | with_reducible intro _ | split | dsimp only | exact rfl

theorem abortDone_touch : (abortDone).Touches 0x1000005c0000000000000008000000000000000000000000000000000000000000000007800000000000000000010001200000000000000000000000000000000000010000000000000000000000000000000000000000000000000 := by
  unfold abortDone
  repeat' first | with_reducible apply touch_seqs_cons | with_reducible apply touch_seqs_nil | with_reducible apply touch_setR | with_reducible apply touch_updEng | with_reducible apply touch_seq | with_reducible apply touch_skip | with_reducible apply touch_read | with_reducible (refine finishRun_touch.mono ?_) | with_reducible (refine raisePf_touch.mono ?_) | with_reducible (refine schemaUpdate_touch.mono ?_) | with_reducible intro _ | split | dsimp only | exact rfl

theorem bedReturns_touch : (bedReturns).Touches 0x1910d75c000000000000000800000000000000000400000000000000c0700001001400078000184800000000000160012000000000761f6d001800000000406400000100004200007fe86d800080000000003d04000000000008000 := by
  unfold bedReturns
  repeat' first | with_reducible apply touch_seqs_cons | with_reducible apply touch_seqs_nil | with_reducible apply touch_seq | with_reducible apply touch_skip | with_reducible apply touch_read | with_reducible (refine abortDone_touch.mono ?_) | with_reducible (refine bedBegins_touch.mono ?_) | with_reducible intro _ | split | dsimp only | exact rfl

theorem bootBack_touch : (bootBack).Touches 0x100010000000000000000000000000000000000004000000000000000000000000000000000000000000000000000000000000000000000000000000000000000000000000000000000000000000000000000000000000000000000 := by
  unfold bootBack
  repeat' first | with_reducible apply touch_seqs_cons | with_reducible apply touch_seqs_nil | with_reducible apply touch_updR | with_reducible apply touch_updEng | with_reducible apply touch_updKeep | with_reducible apply touch_seq | with_reducible apply touch_skip | with_reducible apply touch_read | with_reducible intro _ | split | dsimp only | exact rfl

theorem rollAbort_touch {cause : Nat} : (rollAbort cause).Touches 0x1910d75c000000000000000800000000000000000400000000000000c0700001001400078000184800000000000160012000000000761f6d001800000000406400000100004200007fe86d800080000000003d04000000000008000 := by
  unfold rollAbort
  repeat' first | with_reducible apply touch_seqs_cons | with_reducible apply touch_seqs_nil | with_reducible apply touch_setR | with_reducible apply touch_updEng | with_reducible apply touch_seq | with_reducible apply touch_skip | with_reducible apply touch_read | with_reducible (refine bedReturns_touch.mono ?_) | with_reducible (refine bootBack_touch.mono ?_) | with_reducible intro _ | split | dsimp only | exact rfl

theorem rollSpares_touch : (rollSpares).Touches 0x1910d75c000000000000000800000000000000000400000000000000c0700001001400078000184800000000000160012000000000761f6d001800000000406400000100004200007fe86d800080000000003d04000000000008000 := by
  unfold rollSpares
  repeat' first | with_reducible apply touch_seqs_cons | with_reducible apply touch_seqs_nil | with_reducible apply touch_seq | with_reducible apply touch_skip | with_reducible apply touch_read | with_reducible (refine rollAbort_touch.mono ?_) | with_reducible intro _ | split | dsimp only | exact rfl

theorem sparesUpdate_touch : (sparesUpdate).Touches 0x1910d75c000000000000000800000000000000000400000000000000c0700001001400078000184800000000000160012000000000761f6d001800000000406400000100004200007fe86d800080000000003d04000000000008400 := by
  unfold sparesUpdate
  repeat' first | with_reducible apply touch_seqs_cons | with_reducible apply touch_seqs_nil | with_reducible apply touch_seq | with_reducible apply touch_skip | with_reducible apply touch_read | with_reducible (refine healthSet_touch ?_ ?_) | with_reducible (refine rollSpares_touch.mono ?_) | with_reducible intro _ | split | dsimp only | exact rfl

theorem bedFault_touch {b : Nat} : (bedFault b).Touches 0x3d10d75c000000000000000800000000000000000400020002100000c0700001341400078000184800000000000160012000000000761f6d001800000000406400000100004200007fe86d800080000000003d04000000000008600 := by
  unfold bedFault
  repeat' first | with_reducible apply touch_seqs_cons | with_reducible apply touch_seqs_nil | with_reducible apply touch_setR | with_reducible apply touch_updR | with_reducible apply touch_updAlm | with_reducible apply touch_updEng | with_reducible apply touch_updPairs | with_reducible apply touch_each | with_reducible apply touch_seq | with_reducible apply touch_skip | with_reducible apply touch_read | with_reducible (refine bedOff_touch.mono ?_) | with_reducible (refine bedReturns_touch.mono ?_) | with_reducible (refine migrate_touch.mono ?_) | with_reducible (refine raiseHealth_touch.mono ?_) | with_reducible (refine rollAbort_touch.mono ?_) | with_reducible (refine rollSpares_touch.mono ?_) | with_reducible (refine stoppedLeave_touch.mono ?_) | with_reducible intro _ | split | dsimp only | exact rfl

theorem taskFault_touch {t kind : Nat} : (taskFault t kind).Touches 0x1910d75c000000000000000800000000000000000400000000000000c0704001003400078000184800000000000160012000000000761f6d001800000000406400000100004200007fe86d800080000000003d04000000000008400 := by
  unfold taskFault
  repeat' first | with_reducible apply touch_seqs_cons | with_reducible apply touch_seqs_nil | with_reducible apply touch_setR | with_reducible apply touch_incSat | with_reducible apply touch_updTasks | with_reducible apply touch_seq | with_reducible apply touch_skip | with_reducible apply touch_read | with_reducible (refine raiseHealth_touch.mono ?_) | with_reducible (refine raisePf_touch.mono ?_) | with_reducible (refine rollAbort_touch.mono ?_) | with_reducible (refine shardGone_touch.mono ?_) | with_reducible (refine sparesUpdate_touch.mono ?_) | with_reducible (refine taskStops_touch.mono ?_) | with_reducible (refine toCheckpoint_touch.mono ?_) | with_reducible intro _ | split | dsimp only | exact rfl

theorem imageStaged_touch {img : Image} : (imageStaged img).Touches 0x100000000000000000000000000000000000000000000000000000000000000000000000e40000000000000000000000000000000000000000000000000000000000000000000000000000000000000000000000000000000000000 := by
  unfold imageStaged
  repeat' first | with_reducible apply touch_seqs_cons | with_reducible apply touch_seqs_nil | with_reducible apply touch_setR | with_reducible apply touch_updEng | with_reducible apply touch_seq | with_reducible apply touch_skip | with_reducible apply touch_read | with_reducible intro _ | split | dsimp only | exact rfl

theorem rollBed_touch {b : Nat} : (rollBed b).Touches 0x1910d75c000000000000000800000000000000000400000000000000c0700001001400078000184800000000000160012000000000761f6d001800000000406400000100004200007fe86d800080000000003d04000000000008000 := by
  unfold rollBed
  repeat' first | with_reducible apply touch_seqs_cons | with_reducible apply touch_seqs_nil | with_reducible apply touch_setR | with_reducible apply touch_seq | with_reducible apply touch_skip | with_reducible apply touch_read | with_reducible (refine bedBegins_touch.mono ?_) | with_reducible (refine rollAbort_touch.mono ?_) | with_reducible intro _ | split | dsimp only | exact rfl

end Sys2Proof.Machine
end

