-- ==== Sys2Proof/Laws/WithinSlots.lean ====
section
/-! SUPPORT. The mask of every operation and meaning of Machine/Slots.lean (see Laws/Touch.lean): what it can change at all. -/

set_option Elab.async false

set_option maxRecDepth 8192
set_option linter.unreachableTactic false
set_option linter.unusedTactic false

namespace Sys2Proof.Machine

theorem pinSeen_within {sl : Nat} {closed : Bool} {l : Latched} {p : Prog} {M : Nat} (h : p.Touches M)
    (h1 : M.testBit 732 = true) (h2 : M.testBit 709 = true) : RunsWithin M (pinSeen sl closed l p) := by
  refine endsAlways_within fun s => ?_
  beta_reduce
  repeat' first | with_reducible exact h | with_reducible exact touch_updSvc h1 | with_reducible exact touch_updSlots h2 | split

theorem pinClose_touch {sl : Nat} : (pinClose sl).Touches 0x1000024c0000000000000008000000000000000000000000000000000000000000000000000000000000000000010001200000000000000000000000000000000000000000000000000000800000000000000000000000000000000 := by
  unfold pinClose
  repeat' first | with_reducible apply touch_seqs_cons | with_reducible apply touch_seqs_nil | with_reducible apply touch_updSlots | with_reducible apply touch_seq | with_reducible apply touch_skip | with_reducible apply touch_read | with_reducible (refine bedWake_touch.mono ?_) | with_reducible (refine raiseSlot_touch.mono ?_) | with_reducible (refine scanPresence_touch.mono ?_) | with_reducible intro _ | split | dsimp only | exact rfl

theorem execIdPinClose_within {sl : Nat} : RunsWithin 0x11000024c0000000000000008000000000000000000000000000000000000000000000000000000000000000000010001200000000000000000000000000000000000000000000000000000800000000000000000000000000000000 (execIdPinClose sl) := by
  unfold execIdPinClose
  repeat' first | with_reducible apply pinSeen_within | with_reducible apply touch_seqs_cons | with_reducible apply touch_seqs_nil | with_reducible apply touch_seq | with_reducible apply touch_skip | with_reducible apply touch_read | with_reducible (refine pinClose_touch.mono ?_) | with_reducible intro _ | split | dsimp only | exact rfl

theorem execDebounceEnd_within {sl : Nat} : RunsWithin 0x824c000000000000000800000000000000000000000000000000000000000000000000000000000000000001000120000000000000000018000000000000000000000000000000000c800000000000000000000000000000000 (execDebounceEnd sl) := by
  unfold execDebounceEnd
  repeat' first | with_reducible apply ends_within | with_reducible apply touch_seqs_cons | with_reducible apply touch_seqs_nil | with_reducible apply touch_seq | with_reducible apply touch_skip | with_reducible apply touch_read | with_reducible (refine identBegin_touch.mono ?_) | with_reducible intro _ | split | dsimp only | exact rfl

theorem execWetTestComplete_within {sl v1 v2 : Nat} : RunsWithin 0x18024c000000000000000800000000000000000000000000000000000000000000000000000000000000000001000120000000000000000018083fc00000000000000000180000000010000000000000000000000000000000000 (execWetTestComplete sl v1 v2) := by
  unfold execWetTestComplete
  repeat' first | with_reducible apply ends_within | with_reducible apply touch_seqs_cons | with_reducible apply touch_seqs_nil | with_reducible apply touch_setR | with_reducible apply touch_updSlots | with_reducible apply touch_seq | with_reducible apply touch_skip | with_reducible apply touch_read | with_reducible (refine dacShow_touch.mono ?_) | with_reducible (refine fcvDone_touch.mono ?_) | with_reducible (refine raiseSlot_touch.mono ?_) | with_reducible intro _ | split | dsimp only | exact rfl

theorem execIdDecode_within {sl mv : Nat} : RunsWithin 0x200000000000000000000000000000000000000000000000000000000000000000000000000000000000000000000000000000000000000000000000000000000000004000000000c000000000000000000000000000000000 (execIdDecode sl mv) := by
  unfold execIdDecode
  repeat' first | with_reducible apply ends_within | with_reducible apply touch_seqs_cons | with_reducible apply touch_seqs_nil | with_reducible apply touch_setR | with_reducible apply touch_updSlots | with_reducible apply touch_seq | with_reducible apply touch_skip | with_reducible apply touch_read | with_reducible intro _ | split | dsimp only | exact rfl

theorem execIdentificationComplete_within {sl : Nat} : RunsWithin 0x64c00000000000000080000000000000000000000000000000080700000000000000000000000000000000100012000000010001f2100000000000000000000000000000f007f8000800000000000000000000000000000000 (execIdentificationComplete sl) := by
  unfold execIdentificationComplete
  repeat' first | with_reducible apply ends_within | with_reducible apply touch_seqs_cons | with_reducible apply touch_seqs_nil | with_reducible apply touch_seq | with_reducible apply touch_skip | with_reducible apply touch_read | with_reducible (refine identified_touch.mono ?_) | with_reducible intro _ | split | dsimp only | exact rfl

theorem execIdentificationFail_within {sl : Nat} : RunsWithin 0x825c0000000000000008000000000000000000000000000000000000000000000000000000000000018000010001200000000000000000000000000000000000000000000000000000800000000000000000000000000000000 (execIdentificationFail sl) := by
  unfold execIdentificationFail
  repeat' first | with_reducible apply ends_within | with_reducible apply touch_seqs_cons | with_reducible apply touch_seqs_nil | with_reducible apply touch_setR | with_reducible apply touch_updSlots | with_reducible apply touch_seq | with_reducible apply touch_skip | with_reducible apply touch_read | with_reducible (refine busCancel_touch.mono ?_) | with_reducible (refine raiseSlot_touch.mono ?_) | with_reducible intro _ | split | dsimp only | exact rfl

theorem execIdentRetry_within {sl : Nat} : RunsWithin 0x824c0000000000000008000000000000000000000000000000000000000000000000000000000000000000010001200000000000000000000000000000000000000000000000000000000000000000000000000000000000000 (execIdentRetry sl) := by
  unfold execIdentRetry
  repeat' first | with_reducible apply ends_within | with_reducible apply touch_seqs_cons | with_reducible apply touch_seqs_nil | with_reducible apply touch_seq | with_reducible apply touch_skip | with_reducible apply touch_read | with_reducible (refine identAttempt_touch.mono ?_) | with_reducible intro _ | split | dsimp only | exact rfl

theorem identityLoss_touch {sl : Nat} : (identityLoss sl).Touches 0x10d75c000000000000000800000000000000000400000000000000c0700001000000000000000000000180000160012000000000761f6d001800000000406400000000004200007fe86d800080000000003d04000000000000000 := by
  unfold identityLoss
  repeat' first | with_reducible apply touch_seqs_cons | with_reducible apply touch_seqs_nil | with_reducible apply touch_seq | with_reducible apply touch_skip | with_reducible apply touch_read | with_reducible (refine busCancel_touch.mono ?_) | with_reducible (refine slotSafe_touch.mono ?_) | with_reducible intro _ | split | dsimp only | exact rfl

theorem idLossTrip_touch {sl mv ns : Nat} : (idLossTrip sl mv ns).Touches 0x1010d75c000000000000000800000000000000000400000000000000d0700801000000000000000000000180000160012000000000761f6d001800000000406400000000004200007fe86d800080000000003d04000000000000000 := by
  unfold idLossTrip
  repeat' first | with_reducible apply touch_seqs_cons | with_reducible apply touch_seqs_nil | with_reducible apply touch_seq | with_reducible apply touch_skip | with_reducible apply touch_read | with_reducible (refine fgReport_touch ?_ ?_) | with_reducible (refine identityLoss_touch.mono ?_) | with_reducible intro _ | split | dsimp only | exact rfl

theorem execIdentityLoss_within {sl mv ns : Nat} : RunsWithin 0x11010d75c000000000000000800000000000000000400000000000000d0700801000000000000000000000180000160012000000000761f6d001800000000406400000000004200007fe86d800080000000003d04000000000000000 (execIdentityLoss sl mv ns) := by
  unfold execIdentityLoss
  repeat' first | with_reducible apply latching_within | with_reducible apply touch_seqs_cons | with_reducible apply touch_seqs_nil | with_reducible apply touch_seq | with_reducible apply touch_skip | with_reducible apply touch_read | with_reducible (refine idLossTrip_touch.mono ?_) | with_reducible intro _ | split | dsimp only | exact rfl

theorem packRemoval_touch {sl : Nat} {pulses : Option Nat} : (packRemoval sl pulses).Touches 0x1010d75c00000000000000080000000000000000040000000000000080700000000000000000000000000182000160012000000000761f6d001800000000406400000000004200007f806d800080000000003d04000000000000000 := by
  unfold packRemoval
  repeat' first | with_reducible apply touch_seqs_cons | with_reducible apply touch_seqs_nil | with_reducible apply touch_setR | with_reducible apply touch_updSlots | with_reducible apply touch_when | with_reducible apply touch_seq | with_reducible apply touch_skip | with_reducible apply touch_read | with_reducible (refine bedWake_touch.mono ?_) | with_reducible (refine busCancel_touch.mono ?_) | with_reducible (refine endParts_touch.mono ?_) | with_reducible (refine fgDisarm_touch.mono ?_) | with_reducible (refine finalSnapshot_touch.mono ?_) | with_reducible (refine packForget_touch.mono ?_) | with_reducible (refine parkOutput_touch.mono ?_) | with_reducible (refine raiseSlot_touch.mono ?_) | with_reducible (refine recoverSda_touch.mono ?_) | with_reducible (refine releaseGoesOn_touch.mono ?_) | with_reducible (refine resvEnd_touch.mono ?_) | with_reducible (refine useUpdate_touch.mono ?_) | with_reducible intro _ | split | dsimp only | exact rfl

theorem execPackRemoval_within {sl : Nat} {pulses : Option Nat} : RunsWithin 0x11010d75c00000000000000080000000000000000040000000000000080700000000000000000000000000182000160012000000000761f6d001800000000406400000000004200007f806d800080000000003d04000000000000000 (execPackRemoval sl pulses) := by
  unfold execPackRemoval
  repeat' first | with_reducible apply pinSeen_within | with_reducible apply touch_seqs_cons | with_reducible apply touch_seqs_nil | with_reducible apply touch_seq | with_reducible apply touch_skip | with_reducible apply touch_read | with_reducible (refine packRemoval_touch.mono ?_) | with_reducible intro _ | split | dsimp only | exact rfl

theorem slotOff_touch {sl : Nat} : (slotOff sl).Touches 0x10d75c00000000000000080000000000000000040000000000000080700000000000000000000000000180000160012000000000761f6d001800000000406400000000004200007f806f800080000000003d04000000000000000 := by
  unfold slotOff
  repeat' first | with_reducible apply touch_seqs_cons | with_reducible apply touch_seqs_nil | with_reducible apply touch_setR | with_reducible apply touch_updSlots | with_reducible apply touch_seq | with_reducible apply touch_skip | with_reducible apply touch_read | with_reducible (refine busCancel_touch.mono ?_) | with_reducible (refine endAll_touch.mono ?_) | with_reducible (refine fgDisarm_touch.mono ?_) | with_reducible (refine finalSnapshot_touch.mono ?_) | with_reducible (refine gangLeave_touch.mono ?_) | with_reducible (refine packForget_touch.mono ?_) | with_reducible intro _ | split | dsimp only | exact rfl

theorem slotEnableWritten_touch {sl : Nat} : (slotEnableWritten sl).Touches 0x10d75c00000000000000080000000000000000040000000000000080700000000000000000000000000180000160012000000000761f6d001800000000406400000000004200007f81ff800080000000003d04000000000000000 := by
  unfold slotEnableWritten
  repeat' first | with_reducible apply touch_seqs_cons | with_reducible apply touch_seqs_nil | with_reducible apply touch_setR | with_reducible apply touch_updSlots | with_reducible apply touch_seq | with_reducible apply touch_skip | with_reducible apply touch_read | with_reducible (refine gangShow_touch.mono ?_) | with_reducible (refine scanPresence_touch.mono ?_) | with_reducible (refine slotOff_touch.mono ?_) | with_reducible intro _ | split | dsimp only | exact rfl

theorem execSlotEnableWrite_within {sl : Nat} {v : Bool} : RunsWithin 0x1010d75c0000000000000008000000001e000000040000000000000080700000000000000000000000000180000160012000000000761f6d001800000000406400000000004200007f81ff820080000000003d04000000000000000 (execSlotEnableWrite sl v) := by
  unfold execSlotEnableWrite
  repeat' first | with_reducible apply pfWrites_within | with_reducible apply touch_seqs_cons | with_reducible apply touch_seqs_nil | with_reducible apply touch_setR | with_reducible apply touch_seq | with_reducible apply touch_skip | with_reducible apply touch_read | with_reducible (refine slotEnableWritten_touch.mono ?_) | with_reducible (refine sltLater_touch.mono ?_) | with_reducible intro _ | split | dsimp only | exact rfl

theorem faultClearWritten_touch {sl : Nat} : (faultClearWritten sl).Touches 0x810864c0000000000000008000000000000000000000000000000007f000001001000000000000000000000000100012000000000761f6d001800000000400000000000000000007f882d8008000000000f1000000000000000000 := by
  unfold faultClearWritten
  repeat' first | with_reducible apply touch_seqs_cons | with_reducible apply touch_seqs_nil | with_reducible apply touch_seq | with_reducible apply touch_skip | with_reducible apply touch_read | with_reducible (refine faultClear_touch.mono ?_) | with_reducible intro _ | split | dsimp only | exact rfl

theorem execSlotFaultClear_within {sl : Nat} : RunsWithin 0x1810864c0000000000000008000000001e00000000000000000000007f000001001000000000000000000000000100012000000000761f6d001800000000400000000000000000007f982d8008000000000f1000000000000000000 (execSlotFaultClear sl) := by
  unfold execSlotFaultClear
  repeat' first | with_reducible apply pfWrites_within | with_reducible apply touch_seqs_cons | with_reducible apply touch_seqs_nil | with_reducible apply touch_seq | with_reducible apply touch_skip | with_reducible apply touch_read | with_reducible (refine faultClearWritten_touch.mono ?_) | with_reducible (refine sltLater_touch.mono ?_) | with_reducible intro _ | split | dsimp only | exact rfl

theorem execNtcBothInvalid_within {sl : Nat} : RunsWithin 0x10d74c000000000000000800000000000000000400000000000000c0700001000000000000000000000000000160012000000000761f6d001800000000406400000000004200007fe86d800080000000003d04000000000000000 (execNtcBothInvalid sl) := by
  unfold execNtcBothInvalid
  repeat' first | with_reducible apply ends_within | with_reducible apply touch_seqs_cons | with_reducible apply touch_seqs_nil | with_reducible apply touch_seq | with_reducible apply touch_skip | with_reducible apply touch_read | with_reducible (refine slotSafe_touch.mono ?_) | with_reducible intro _ | split | dsimp only | exact rfl

theorem execSerialPoll_within {sl : Nat} : RunsWithin 0x824c0000000000000008000000000000000000000000000000000000000000000000000000000000000000010001200000000000000000000000000000000000000000000000000000000000000000000000000000000000000 (execSerialPoll sl) := by
  unfold execSerialPoll
  repeat' first | with_reducible apply ends_within | with_reducible apply touch_seqs_cons | with_reducible apply touch_seqs_nil | with_reducible apply touch_updSlots | with_reducible apply touch_seq | with_reducible apply touch_skip | with_reducible apply touch_read | with_reducible (refine agentQueue_touch.mono ?_) | with_reducible intro _ | split | dsimp only | exact rfl

theorem fgOvTrip_touch {sl mv us : Nat} : (fgOvTrip sl mv us).Touches 0x1010d74c000000000000000800000000000000000400000000000000c1700801000000000000000000000000000160012000000000761f6d001800000000406400000000004200007fe86d800080000000003d04000000000000000 := by
  unfold fgOvTrip
  repeat' first | with_reducible apply touch_seqs_cons | with_reducible apply touch_seqs_nil | with_reducible apply touch_seq | with_reducible apply touch_skip | with_reducible apply touch_read | with_reducible (refine fgReport_touch ?_ ?_) | with_reducible (refine slotSafe_touch.mono ?_) | with_reducible intro _ | split | dsimp only | exact rfl

theorem execFgOvTrip_within {sl mv us : Nat} : RunsWithin 0x11010d74c000000000000000800000000000000000400000000000000c1700801000000000000000000000000000160012000000000761f6d001800000000406400000000004200007fe86d800080000000003d04000000000000000 (execFgOvTrip sl mv us) := by
  unfold execFgOvTrip
  repeat' first | with_reducible apply latching_within | with_reducible apply touch_seqs_cons | with_reducible apply touch_seqs_nil | with_reducible apply touch_seq | with_reducible apply touch_skip | with_reducible apply touch_read | with_reducible (refine fgOvTrip_touch.mono ?_) | with_reducible intro _ | split | dsimp only | exact rfl

theorem fgOcTrip_touch {sl ma us : Nat} : (fgOcTrip sl ma us).Touches 0x1010d74c000000000000000800000000000000000400000000000000c2700801000000000000000000000000000160012000000000761f6d001800000000406400000000004200007fe86d800080000000003d04000000000000000 := by
  unfold fgOcTrip
  repeat' first | with_reducible apply touch_seqs_cons | with_reducible apply touch_seqs_nil | with_reducible apply touch_seq | with_reducible apply touch_skip | with_reducible apply touch_read | with_reducible (refine fgReport_touch ?_ ?_) | with_reducible (refine slotSafe_touch.mono ?_) | with_reducible intro _ | split | dsimp only | exact rfl

theorem execFgOcTrip_within {sl ma us : Nat} : RunsWithin 0x11010d74c000000000000000800000000000000000400000000000000c2700801000000000000000000000000000160012000000000761f6d001800000000406400000000004200007fe86d800080000000003d04000000000000000 (execFgOcTrip sl ma us) := by
  unfold execFgOcTrip
  repeat' first | with_reducible apply latching_within | with_reducible apply touch_seqs_cons | with_reducible apply touch_seqs_nil | with_reducible apply touch_seq | with_reducible apply touch_skip | with_reducible apply touch_read | with_reducible (refine fgOcTrip_touch.mono ?_) | with_reducible intro _ | split | dsimp only | exact rfl

theorem fgRvTrip_touch {sl ma us : Nat} : (fgRvTrip sl ma us).Touches 0x1010d74c000000000000000800000000000000000400000000000000c4700801000000000000000000000000000160012000000000761f6d001800000000406400000000004200007fe86d800080000000003d04000000000000000 := by
  unfold fgRvTrip
  repeat' first | with_reducible apply touch_seqs_cons | with_reducible apply touch_seqs_nil | with_reducible apply touch_seq | with_reducible apply touch_skip | with_reducible apply touch_read | with_reducible (refine fgReport_touch ?_ ?_) | with_reducible (refine slotSafe_touch.mono ?_) | with_reducible intro _ | split | dsimp only | exact rfl

theorem execFgRvTrip_within {sl ma us : Nat} : RunsWithin 0x11010d74c000000000000000800000000000000000400000000000000c4700801000000000000000000000000000160012000000000761f6d001800000000406400000000004200007fe86d800080000000003d04000000000000000 (execFgRvTrip sl ma us) := by
  unfold execFgRvTrip
  repeat' first | with_reducible apply latching_within | with_reducible apply touch_seqs_cons | with_reducible apply touch_seqs_nil | with_reducible apply touch_seq | with_reducible apply touch_skip | with_reducible apply touch_read | with_reducible (refine fgRvTrip_touch.mono ?_) | with_reducible intro _ | split | dsimp only | exact rfl

theorem fgNtcTrip_touch {sl input code ms : Nat} : (fgNtcTrip sl input code ms).Touches 0x1010d74c000000000000000800000000000000000400000000000000c8700801000000000000000000000000000160012000000000761f6d001800000000406400000000004200007fe86d800080000000003d04000000000000000 := by
  unfold fgNtcTrip
  repeat' first | with_reducible apply touch_seqs_cons | with_reducible apply touch_seqs_nil | with_reducible apply touch_seq | with_reducible apply touch_skip | with_reducible apply touch_read | with_reducible (refine fgReport_touch ?_ ?_) | with_reducible (refine slotSafe_touch.mono ?_) | with_reducible intro _ | split | dsimp only | exact rfl

theorem execFgNtcTrip_within {sl input code ms : Nat} : RunsWithin 0x11010d74c000000000000000800000000000000000400000000000000c8700801000000000000000000000000000160012000000000761f6d001800000000406400000000004200007fe86d800080000000003d04000000000000000 (execFgNtcTrip sl input code ms) := by
  unfold execFgNtcTrip
  repeat' first | with_reducible apply latching_within | with_reducible apply touch_seqs_cons | with_reducible apply touch_seqs_nil | with_reducible apply touch_seq | with_reducible apply touch_skip | with_reducible apply touch_read | with_reducible (refine fgNtcTrip_touch.mono ?_) | with_reducible intro _ | split | dsimp only | exact rfl

end Sys2Proof.Machine
end

