-- ==== Sys2Proof/Laws/WithinTwb.lean ====
section
/-! SUPPORT. The mask of every operation and meaning of Machine/Twb.lean (see Laws/Touch.lean): what it can change at all. -/

set_option Elab.async false

set_option maxRecDepth 8192
set_option linter.unreachableTactic false
set_option linter.unusedTactic false

namespace Sys2Proof.Machine

theorem freshChal_touch {k : List Nat → Prog} {M : Nat} (h : M.testBit 707 = true) (h2 : M.testBit 734 = true) (hk : ∀ l, (k l).Touches M) :
    (freshChal k).Touches M := touch_withFree h fun _ => touch_read fun _ => touch_seq (touch_updChals h2) (hk _)

theorem jobRuns_touch {b : Nat} {j : TwbJob} : (jobRuns b j).Touches 0x80000000000000000000000000000000000000000000000000000000000000000000000000000000000180000000000000000000000000000000000000000000000000000000000000000000000000000000000000000000000 := by
  unfold jobRuns
  repeat' first | with_reducible apply touch_seqs_cons | with_reducible apply touch_seqs_nil | with_reducible apply touch_setR | with_reducible apply touch_updTwb | with_reducible apply touch_seq | with_reducible apply touch_skip | with_reducible apply touch_read | with_reducible intro _ | split | dsimp only | exact rfl

theorem execTwbTransactionStart_within {b : Nat} : RunsWithin 0x4000082dc0000000000000008000000000000000000000000000000000000000000000000000000000000018180010001200000000000000000000000000000000000000000000000000000000000000000000000000000000000000 (execTwbTransactionStart b) := by
  unfold execTwbTransactionStart
  repeat' first | with_reducible apply ends_within | with_reducible apply touch_seqs_cons | with_reducible apply touch_seqs_nil | with_reducible apply touch_updSlots | with_reducible apply touch_updTwb | with_reducible apply freshChal_touch | with_reducible apply touch_seq | with_reducible apply touch_skip | with_reducible apply touch_read | with_reducible (refine freshChal_touch.mono ?_) | with_reducible (refine hostqUpdate_touch.mono ?_) | with_reducible (refine jobFails_touch.mono ?_) | with_reducible (refine jobRuns_touch.mono ?_) | with_reducible intro _ | split | dsimp only | exact rfl

theorem pecCounted_touch {b : Nat} : (pecCounted b).Touches 0x402000000000000000000000000000000000000000000000000000000000000000000000000000000000000000000000000 := by
  unfold pecCounted
  repeat' first | with_reducible apply touch_seqs_cons | with_reducible apply touch_seqs_nil | with_reducible apply touch_setR | with_reducible apply touch_incSat | with_reducible apply touch_seq | with_reducible apply touch_skip | with_reducible apply touch_read | with_reducible intro _ | split | dsimp only | exact rfl

theorem countNack_touch {b status : Nat} : (countNack b status).Touches 0x482000000000000000000000000000000000000000000000000000000000000000000000000000000000000000000000000 := by
  unfold countNack
  repeat' first | with_reducible apply touch_seqs_cons | with_reducible apply touch_seqs_nil | with_reducible apply touch_incSat | with_reducible apply touch_seq | with_reducible apply touch_skip | with_reducible apply touch_read | with_reducible (refine pecCounted_touch.mono ?_) | with_reducible intro _ | split | dsimp only | exact rfl

theorem recordRead_touch {sl : Nat} {r : List Nat} : (recordRead sl r).Touches 0x824c0000000000000008000000000000000000000000000000000000000000000000000000000000000000010001200000000000000000000000000000000000000000000000000000000000000000000000000000000000000 := by
  unfold recordRead
  repeat' first | with_reducible apply touch_seqs_cons | with_reducible apply touch_seqs_nil | with_reducible apply touch_updSlots | with_reducible apply touch_seq | with_reducible apply touch_skip | with_reducible apply touch_read | with_reducible (refine agentQueue_touch.mono ?_) | with_reducible intro _ | split | dsimp only | exact rfl

theorem authRead_touch {sl : Nat} {resp : List Nat} : (authRead sl resp).Touches 0x2000000000000000000000000000000000000000000000000000000000000000000000000000000000000000000000000000000000000000000000000000000000000000000000000000000000000000000000000000000000 := by
  unfold authRead
  repeat' first | with_reducible apply touch_seqs_cons | with_reducible apply touch_seqs_nil | with_reducible apply touch_updSlots | with_reducible apply touch_seq | with_reducible apply touch_skip | with_reducible apply touch_read | with_reducible intro _ | split | dsimp only | exact rfl

theorem serialRead_touch {sl : Nat} {r : List Nat} : (serialRead sl r).Touches 0x10d75c000000000000000800000000000000000400000000000000c0700001000000000000000000000180000160012000000000761f6d001800000000406400000000004200007fe86d800080000000003d04000000000000000 := by
  unfold serialRead
  repeat' first | with_reducible apply touch_seqs_cons | with_reducible apply touch_seqs_nil | with_reducible apply touch_updSlots | with_reducible apply touch_seq | with_reducible apply touch_skip | with_reducible apply touch_read | with_reducible (refine identityLoss_touch.mono ?_) | with_reducible intro _ | split | dsimp only | exact rfl

theorem sensorRead_touch {w : Nat} : (sensorRead w).Touches 0x100000000000000000000000000000000000000000000000000000000000000000000000000000000000000000000000000000000000000000000000000000000000000000000000000000000000000000000080000000000000 := by
  unfold sensorRead
  repeat' first | with_reducible apply touch_seqs_cons | with_reducible apply touch_seqs_nil | with_reducible apply touch_setR | with_reducible apply touch_updHouse | with_reducible apply touch_seq | with_reducible apply touch_skip | with_reducible apply touch_read | with_reducible intro _ | split | dsimp only | exact rfl

theorem agentRead_touch {b : Nat} {j : TwbJob} {d : List Nat} : (agentRead b j d).Touches 0x11d75c000000000000000800000000000000000400000000000000c0700001000000000000000000000180000160012000000000761f6d001800000000406400000000004200007fe86d800080000000003d04080000000000000 := by
  unfold agentRead
  repeat' first | with_reducible apply touch_seqs_cons | with_reducible apply touch_seqs_nil | with_reducible apply touch_seq | with_reducible apply touch_skip | with_reducible apply touch_read | with_reducible (refine agentFailed_touch.mono ?_) | with_reducible (refine authRead_touch.mono ?_) | with_reducible (refine raisePf_touch.mono ?_) | with_reducible (refine recordRead_touch.mono ?_) | with_reducible (refine sensorRead_touch.mono ?_) | with_reducible (refine serialRead_touch.mono ?_) | with_reducible intro _ | split | dsimp only | exact rfl

theorem jobResult_touch {b : Nat} {j : TwbJob} {e : TwbEnd} {cancelled : Bool} : (jobResult b j e cancelled).Touches 0x11d75c000000000000000800000000000000000400000000000000c0700001000000000000000000000180000160012000000000761f6d001800000000406400000000004200007fe86d800080000000003d04080000000000000 := by
  unfold jobResult
  repeat' first | with_reducible apply touch_seqs_cons | with_reducible apply touch_seqs_nil | with_reducible apply touch_seq | with_reducible apply touch_skip | with_reducible apply touch_read | with_reducible (refine agentRead_touch.mono ?_) | with_reducible (refine dropWaiting_touch.mono ?_) | with_reducible (refine emit_touch.mono ?_) | with_reducible (refine hostDone_touch.mono ?_) | with_reducible (refine jobFails_touch.mono ?_) | with_reducible intro _ | split | dsimp only | exact rfl

theorem execTwbTransactionEnd_within {b : Nat} {e : TwbEnd} : RunsWithin 0x11d75c000000000000000800000000000000000400000000000000c07000010000000000000000000049a1800160012000000000761f6d001800000000406400000000004200007fe86d800080000000003d04080000000000000 (execTwbTransactionEnd b e) := by
  unfold execTwbTransactionEnd
  repeat' first | with_reducible apply ends_within | with_reducible apply touch_seqs_cons | with_reducible apply touch_seqs_nil | with_reducible apply touch_updTwb | with_reducible apply touch_seq | with_reducible apply touch_skip | with_reducible apply touch_read | with_reducible (refine countNack_touch.mono ?_) | with_reducible (refine emit_touch.mono ?_) | with_reducible (refine jobResult_touch.mono ?_) | with_reducible (refine pecCounted_touch.mono ?_) | with_reducible (refine runOver_touch.mono ?_) | with_reducible intro _ | split | dsimp only | exact rfl

theorem busHeldTake_touch {b : Nat} : (busHeldTake b).Touches 0x11d75c000000000000000800000000000000000400000000000000c0700001000000000000000000000180000160012000000000761f6d001800000000406400000000004200007fe86d800080000000003d04080000000000000 := by
  unfold busHeldTake
  repeat' first | with_reducible apply touch_seqs_cons | with_reducible apply touch_seqs_nil | with_reducible apply touch_updTwb | with_reducible apply touch_each | with_reducible apply touch_seq | with_reducible apply touch_skip | with_reducible apply touch_read | with_reducible (refine jobResult_touch.mono ?_) | with_reducible intro _ | split | dsimp only | exact rfl

theorem execIdentBusRetry_within {sl : Nat} : RunsWithin 0x824c0000000000000008000000000000000000000000000000000000000000000000000000000000000000010001200000000000000000000000000000000000000000000000000000000000000000000000000000000000000 (execIdentBusRetry sl) := by
  unfold execIdentBusRetry
  repeat' first | with_reducible apply ends_within | with_reducible apply touch_seqs_cons | with_reducible apply touch_seqs_nil | with_reducible apply touch_updSlots | with_reducible apply touch_seq | with_reducible apply touch_skip | with_reducible apply touch_read | with_reducible (refine agentQueue_touch.mono ?_) | with_reducible intro _ | split | dsimp only | exact rfl

theorem execTwbSclTimeout_within {b ms : Nat} : RunsWithin 0x825c0000000000000008000000000000000000000000000000000000000000000000000000000000110580010001200000000000000000000000000000000000000000000000000000000000000000000000000000000000000 (execTwbSclTimeout b ms) := by
  unfold execTwbSclTimeout
  repeat' first | with_reducible apply ends_within | with_reducible apply touch_seqs_cons | with_reducible apply touch_seqs_nil | with_reducible apply touch_setR | with_reducible apply touch_incSat | with_reducible apply touch_when | with_reducible apply touch_seq | with_reducible apply touch_skip | with_reducible apply touch_read | with_reducible (refine jobFails_touch.mono ?_) | with_reducible (refine raise_touch.mono ?_) | with_reducible (refine runOver_touch.mono ?_) | with_reducible intro _ | split | dsimp only | exact rfl

theorem execTwbSdaTimeout_within {b ms : Nat} {pulses : Option Nat} : RunsWithin 0x825c0000000000000008000000000000000000000000000000000000000000000000000000000000118a00010001200000000000000000000000000000000000000000000000000000000000000000000000000000000000000 (execTwbSdaTimeout b ms pulses) := by
  unfold execTwbSdaTimeout
  repeat' first | with_reducible apply ends_within | with_reducible apply touch_seqs_cons | with_reducible apply touch_seqs_nil | with_reducible apply touch_setR | with_reducible apply touch_incSat | with_reducible apply touch_updTwb | with_reducible apply touch_seq | with_reducible apply touch_skip | with_reducible apply touch_read | with_reducible (refine hostqUpdate_touch.mono ?_) | with_reducible (refine jobFails_touch.mono ?_) | with_reducible (refine recoverSda_touch.mono ?_) | with_reducible intro _ | split | dsimp only | exact rfl

theorem execTwbArbLoss_within {b : Nat} {own : Bool} : RunsWithin 0x825c0000000000000008000000000000000000000000000000000000000000000000000000000000219180010001200000000000000000000000000000000000000000000000000000000000000000000000000000000000000 (execTwbArbLoss b own) := by
  unfold execTwbArbLoss
  repeat' first | with_reducible apply ends_within | with_reducible apply touch_seqs_cons | with_reducible apply touch_seqs_nil | with_reducible apply touch_setR | with_reducible apply touch_incSat | with_reducible apply touch_updTwb | with_reducible apply touch_seq | with_reducible apply touch_skip | with_reducible apply touch_read | with_reducible (refine dropWaiting_touch.mono ?_) | with_reducible (refine hostqUpdate_touch.mono ?_) | with_reducible (refine jobFails_touch.mono ?_) | with_reducible intro _ | split | dsimp only | exact rfl

theorem execTwbSleep_within {b : Nat} : RunsWithin 0x80000000000000000000000000000000000000000000000000000000000000000000000000000000000000000000000000000000000000000000000000000000000000000000000000000000000000000000000000000000000 (execTwbSleep b) := by
  unfold execTwbSleep
  repeat' first | with_reducible apply ends_within | with_reducible apply touch_seqs_cons | with_reducible apply touch_seqs_nil | with_reducible apply touch_updTwb | with_reducible apply touch_seq | with_reducible apply touch_skip | with_reducible apply touch_read | with_reducible intro _ | split | dsimp only | exact rfl

theorem alertShow_touch {b : Nat} : (alertShow b).Touches 0x4000000000000000000000000000000000000000000000000000000000000000000000000000000000000000000000000 := by
  unfold alertShow
  repeat' first | with_reducible apply touch_seqs_cons | with_reducible apply touch_seqs_nil | with_reducible apply touch_updR | with_reducible apply touch_seq | with_reducible apply touch_skip | with_reducible apply touch_read | with_reducible intro _ | split | dsimp only | exact rfl

theorem execTwbAlertIn_within {b : Nat} {low : Bool} : RunsWithin 0x824c0000000000000008000000000000000000000000000000000000000000000000000000000000004000010001200000000000000000000000000000000000000000000000000000000000000000000000000000000000000 (execTwbAlertIn b low) := by
  unfold execTwbAlertIn
  repeat' first | with_reducible apply ends_within | with_reducible apply touch_seqs_cons | with_reducible apply touch_seqs_nil | with_reducible apply touch_updTwb | with_reducible apply touch_seq | with_reducible apply touch_skip | with_reducible apply touch_read | with_reducible (refine agentQueue_touch.mono ?_) | with_reducible (refine alertShow_touch.mono ?_) | with_reducible intro _ | split | dsimp only | exact rfl

theorem execTwbAlertReread_within {b : Nat} : RunsWithin 0x824c0000000000000008000000000000000000000000000000000000000000000000000000000000000000010001200000000000000000000000000000000000000000000000000000000000000000000000000000000000000 (execTwbAlertReread b) := by
  unfold execTwbAlertReread
  repeat' first | with_reducible apply ends_within | with_reducible apply touch_seqs_cons | with_reducible apply touch_seqs_nil | with_reducible apply touch_updTwb | with_reducible apply touch_seq | with_reducible apply touch_skip | with_reducible apply touch_read | with_reducible (refine agentQueue_touch.mono ?_) | with_reducible intro _ | split | dsimp only | exact rfl

theorem execAlertReq_within {b : Nat} {v : Bool} : RunsWithin 0x1e00000000000000000000000000000000000000000000000004004000000000000000000000000000000000000000000000000000000000000000000000000000000000000000000000000 (execAlertReq b v) := by
  unfold execAlertReq
  repeat' first | with_reducible apply endsAlways_within | with_reducible apply pfWrites_within | with_reducible apply touch_seqs_cons | with_reducible apply touch_seqs_nil | with_reducible apply touch_setR | with_reducible apply touch_seq | with_reducible apply touch_skip | with_reducible apply touch_read | with_reducible (refine alertShow_touch.mono ?_) | with_reducible intro _ | split | dsimp only | exact rfl

theorem execCancel_within {b : Nat} : RunsWithin 0x805c0000000000000008000000001e00000000000000000000000000000000000000000000000000038000000000200000000000000000000000000000000000000000000000000000000000000000000000000000000000000 (execCancel b) := by
  unfold execCancel
  repeat' first | with_reducible apply pfWrites_within | with_reducible apply touch_seqs_cons | with_reducible apply touch_seqs_nil | with_reducible apply touch_seq | with_reducible apply touch_skip | with_reducible apply touch_read | with_reducible (refine busCancel_touch.mono ?_) | with_reducible intro _ | split | dsimp only | exact rfl

theorem execRecover_within {b : Nat} {pulses : Option Nat} : RunsWithin 0x825c0000000000000008000000001e00000000000000000000000000000000000000000000000000058200010001200000000000000000000000000000000000000000000000000000000000000000000000000000000000000 (execRecover b pulses) := by
  unfold execRecover
  repeat' first | with_reducible apply pfWrites_within | with_reducible apply touch_seqs_cons | with_reducible apply touch_seqs_nil | with_reducible apply touch_setR | with_reducible apply touch_seq | with_reducible apply touch_skip | with_reducible apply touch_read | with_reducible (refine recoverSda_touch.mono ?_) | with_reducible intro _ | split | dsimp only | exact rfl

theorem execTwbXferTimeout_within {b : Nat} : RunsWithin 0x805c0000000000000008000000000000000000000000000000000000000000000000000000000000018000000000200000000000000000000000000000000000000000000000000000000000000000000000000000000000000 (execTwbXferTimeout b) := by
  unfold execTwbXferTimeout
  repeat' first | with_reducible apply ends_within | with_reducible apply touch_seqs_cons | with_reducible apply touch_seqs_nil | with_reducible apply touch_seq | with_reducible apply touch_skip | with_reducible apply touch_read | with_reducible (refine busCancel_touch.mono ?_) | with_reducible intro _ | split | dsimp only | exact rfl

theorem execTwbStartSeen_within {b : Nat} {stop : Bool} : RunsWithin 0x80000000000000000000000000000000000000000000000000000000000000000000000000000000000180000000000000000000000000000000000000000000000000000000000000000000000000000000000000000000000 (execTwbStartSeen b stop) := by
  unfold execTwbStartSeen
  repeat' first | with_reducible apply ends_within | with_reducible apply touch_seqs_cons | with_reducible apply touch_seqs_nil | with_reducible apply touch_setR | with_reducible apply touch_seq | with_reducible apply touch_skip | with_reducible apply touch_read | with_reducible (refine runOver_touch.mono ?_) | with_reducible intro _ | split | dsimp only | exact rfl

end Sys2Proof.Machine
end

