-- ==== Sys2Proof/Laws/WithinHostOps.lean ====
section
/-! SUPPORT. The mask of every operation and meaning of Machine/HostOps.lean (see Laws/Touch.lean): what it can change at all. -/

set_option Elab.async false

set_option maxRecDepth 8192
set_option linter.unreachableTactic false
set_option linter.unusedTactic false

namespace Sys2Proof.Machine

theorem unacceptedDrop_touch {fn : Nat} : (unacceptedDrop fn).Touches 0x200000000000000000000000000000000000000000000000000000000000000000000000000000000000000 := by
  unfold unacceptedDrop
  repeat' first | with_reducible apply touch_seqs_cons | with_reducible apply touch_seqs_nil | with_reducible apply touch_setR | with_reducible apply touch_each | with_reducible apply touch_seq | with_reducible apply touch_skip | with_reducible apply touch_read | with_reducible intro _ | split | dsimp only | exact rfl

theorem holdFn_touch {tell : Bool} {fn cause : Nat} : (holdFn tell fn cause).Touches 0x24c0000000000000008000000000000000000000000000000000000000000000000000000800000000000010001200030000000000000000000000000080000008000000000000000000000000000000000000000000000000 := by
  unfold holdFn
  repeat' first | with_reducible apply touch_seqs_cons | with_reducible apply touch_seqs_nil | with_reducible apply touch_setR | with_reducible apply touch_updFns | with_reducible apply touch_updSlots | with_reducible apply touch_each | with_reducible apply touch_seq | with_reducible apply touch_skip | with_reducible apply touch_read | with_reducible (refine holderHeld_touch.mono ?_) | with_reducible (refine raisePf_touch.mono ?_) | with_reducible (refine unacceptedDrop_touch.mono ?_) | with_reducible intro _ | split | dsimp only | exact rfl

theorem holdEnd_touch {fn : Nat} : (holdEnd fn).Touches 0x24c0000000000000008000000000000000000000000000000000000000000000000000000000000000000010001200020000000000000000000000000080000008000000000000000000000000000000000000000000000000 := by
  unfold holdEnd
  repeat' first | with_reducible apply touch_seqs_cons | with_reducible apply touch_seqs_nil | with_reducible apply touch_setR | with_reducible apply touch_updSlots | with_reducible apply touch_each | with_reducible apply touch_seq | with_reducible apply touch_skip | with_reducible apply touch_read | with_reducible (refine raise_touch.mono ?_) | with_reducible intro _ | split | dsimp only | exact rfl

theorem wdgAsk_touch {fn t : Nat} : (wdgAsk fn t).Touches 0xc40000000000000000000000000000000000000000000000000000000000000000000000000000000000480000000000000000000000000000000000000000000000000000000000000000000000000000000000000000000 := by
  unfold wdgAsk
  repeat' first | with_reducible apply touch_seqs_cons | with_reducible apply touch_seqs_nil | with_reducible apply touch_setR | with_reducible apply touch_updFns | with_reducible apply touch_when | with_reducible apply touch_withFree | with_reducible apply touch_seq | with_reducible apply touch_skip | with_reducible apply touch_read | with_reducible (refine writeStatus_touch.mono ?_) | with_reducible intro _ | split | dsimp only | exact rfl

theorem armUpdate_touch {fn : Nat} : (armUpdate fn).Touches 0xc40000000000000000000000000000000000000000000000000000000000000000000000000000000000480000000000000000000000000000000000000000000000000000000000000000000000000000000000000000000 := by
  unfold armUpdate
  repeat' first | with_reducible apply touch_seqs_cons | with_reducible apply touch_seqs_nil | with_reducible apply touch_setR | with_reducible apply touch_updFns | with_reducible apply touch_seq | with_reducible apply touch_skip | with_reducible apply touch_read | with_reducible (refine wdgAsk_touch.mono ?_) | with_reducible intro _ | split | dsimp only | exact rfl

theorem goLive_touch {fn : Nat} {tell : Bool} : (goLive fn tell).Touches 0x24c0000000000000008000000000000000000000000000000000000000000000000000000000000000000090001200030000000000000000000000000080000008000000000000000000000000000000000000000000000000 := by
  unfold goLive
  repeat' first | with_reducible apply touch_seqs_cons | with_reducible apply touch_seqs_nil | with_reducible apply touch_setR | with_reducible apply touch_when | with_reducible apply touch_seq | with_reducible apply touch_skip | with_reducible apply touch_read | with_reducible (refine holdEnd_touch.mono ?_) | with_reducible (refine raise_touch.mono ?_) | with_reducible (refine writeStatus_touch.mono ?_) | with_reducible intro _ | split | dsimp only | exact rfl

theorem pfCounts_touch : (pfCounts).Touches 0x24c0000000000000008000000000000000000000000000000000000000000000000000000000000000000090001200030000000000000000000000000080000008000000000000000000000000000000000000000000000000 := by
  unfold pfCounts
  repeat' first | with_reducible apply touch_seqs_cons | with_reducible apply touch_seqs_nil | with_reducible apply touch_seq | with_reducible apply touch_skip | with_reducible apply touch_read | with_reducible (refine goLive_touch.mono ?_) | with_reducible intro _ | split | dsimp only | exact rfl

theorem hostFollow_touch : (hostFollow).Touches 0x2cc0000000000000008000000000000000000000000000000000000000000000000000000000000000000490001200030000000000000000000000000080000008000000000000000000000000000000000000000000000000 := by
  unfold hostFollow
  repeat' first | with_reducible apply touch_seqs_cons | with_reducible apply touch_seqs_nil | with_reducible apply touch_each | with_reducible apply touch_seq | with_reducible apply touch_skip | with_reducible apply touch_read | with_reducible (refine armUpdate_touch.mono ?_) | with_reducible (refine pfCounts_touch.mono ?_) | with_reducible (refine writeStatus_touch.mono ?_) | with_reducible intro _ | split | dsimp only | exact rfl

theorem wdgGood_touch {fn : Nat} : (wdgGood fn).Touches 0x24c0000000000000008000000000000000000000000000000000000000000000000000000000000000000390001200030000000000000000000000000080000008000000000000000000000000000000000000000000000000 := by
  unfold wdgGood
  repeat' first | with_reducible apply touch_seqs_cons | with_reducible apply touch_seqs_nil | with_reducible apply touch_setR | with_reducible apply touch_updFns | with_reducible apply touch_seq | with_reducible apply touch_skip | with_reducible apply touch_read | with_reducible (refine goLive_touch.mono ?_) | with_reducible (refine writeStatus_touch.mono ?_) | with_reducible intro _ | split | dsimp only | exact rfl

theorem fnLost_touch {fn : Nat} : (fnLost fn).Touches 0x24c00000000000000080000000000000000000000000880000000000000000000000000008000000000000b0001200030000000000000000000000000080000008000000000000000000000000000000000000000000000000 := by
  unfold fnLost
  repeat' first | with_reducible apply touch_seqs_cons | with_reducible apply touch_seqs_nil | with_reducible apply touch_setR | with_reducible apply touch_incSat | with_reducible apply touch_seq | with_reducible apply touch_skip | with_reducible apply touch_read | with_reducible (refine holdFn_touch.mono ?_) | with_reducible (refine raisePf_touch.mono ?_) | with_reducible intro _ | split | dsimp only | exact rfl

theorem wdgMiss_touch {fn cause : Nat} : (wdgMiss fn cause).Touches 0x24c00000000000000080000000000000000000000000880000000000000000000000000008000000000003f0001200030000000000000000000000000080000008000000000000000000000000000000000000000000000000 := by
  unfold wdgMiss
  repeat' first | with_reducible apply touch_seqs_cons | with_reducible apply touch_seqs_nil | with_reducible apply touch_setR | with_reducible apply touch_incSat | with_reducible apply touch_updFns | with_reducible apply touch_seq | with_reducible apply touch_skip | with_reducible apply touch_read | with_reducible (refine fnLost_touch.mono ?_) | with_reducible (refine raise_touch.mono ?_) | with_reducible (refine writeStatus_touch.mono ?_) | with_reducible intro _ | split | dsimp only | exact rfl

theorem wdgAnswer_touch {fn token qseq : Nat} : (wdgAnswer fn token qseq).Touches 0x24c00000000000000080000000000000000000000000880000000000000000000000000008000000000003f0001200030000000000000000000000000080000008000000000000000000000000000000000000000000000000 := by
  unfold wdgAnswer
  repeat' first | with_reducible apply touch_seqs_cons | with_reducible apply touch_seqs_nil | with_reducible apply touch_seq | with_reducible apply touch_skip | with_reducible apply touch_read | with_reducible (refine wdgGood_touch.mono ?_) | with_reducible (refine wdgMiss_touch.mono ?_) | with_reducible intro _ | split | dsimp only | exact rfl

theorem discardWork_touch {p : Nat → Bool} : (discardWork p).Touches 0x1058c05c0000000000000008000000000000000000000000000000000000000000000200800000000000018000000000200000000000000000000000001000000000000000000000000000000000000000000000000000000000000 := by
  unfold discardWork
  repeat' first | with_reducible apply touch_seqs_cons | with_reducible apply touch_seqs_nil | with_reducible apply touch_setR | with_reducible apply touch_updEng | with_reducible apply touch_updHost | with_reducible apply touch_each | with_reducible apply touch_portsMap | with_reducible apply touch_seq | with_reducible apply touch_skip | with_reducible apply touch_read | with_reducible (refine busCancel_touch.mono ?_) | with_reducible (refine measDiscard_touch.mono ?_) | with_reducible intro _ | split | dsimp only | exact rfl

theorem clearFns_touch {p : Nat → Bool} : (clearFns p).Touches 0xd0000000000000000000000000000000000000000000000000000000000000000000000000000000000000000000000000000000000000000000000000000000000000000000000000000000000000000000000000000000 := by
  unfold clearFns
  repeat' first | with_reducible apply touch_seqs_cons | with_reducible apply touch_seqs_nil | with_reducible apply touch_fnsMap | with_reducible apply touch_ringsMap | with_reducible apply touch_clear | with_reducible apply touch_seq | with_reducible apply touch_skip | with_reducible apply touch_read | with_reducible intro _ | split | dsimp only | exact rfl

theorem hostReset_touch {fns : List Nat} {cause : Nat} {tell : Bool} : (hostReset fns cause tell).Touches 0x1058c25d0000000000000008000000000000000000000000000000000000000000000200800000800000018000010001200030000000000000000000001000080000008000000000000000000000000000000000000000000000000 := by
  unfold hostReset
  repeat' first | with_reducible apply touch_seqs_cons | with_reducible apply touch_seqs_nil | with_reducible apply touch_each | with_reducible apply touch_seq | with_reducible apply touch_skip | with_reducible apply touch_read | with_reducible (refine clearFns_touch.mono ?_) | with_reducible (refine discardWork_touch.mono ?_) | with_reducible (refine holdFn_touch.mono ?_) | with_reducible intro _ | split | dsimp only | exact rfl

theorem perst_touch : (perst).Touches 0x1058c25d0000000000000008000000000000000000000000000400000000000000000200800000800000018000010001200030000000000000000000001000080000008000000000000000000000000000000000000000000000000 := by
  unfold perst
  repeat' first | with_reducible apply touch_seqs_cons | with_reducible apply touch_seqs_nil | with_reducible apply touch_setR | with_reducible apply touch_updEng | with_reducible apply touch_updHost | with_reducible apply touch_clear | with_reducible apply touch_seq | with_reducible apply touch_skip | with_reducible apply touch_read | with_reducible (refine hostReset_touch.mono ?_) | with_reducible intro _ | split | dsimp only | exact rfl

theorem pollReport_touch : (pollReport).Touches 0xe00000000000000000000000000000000000000000000000000000000000000000000000000000000 := by
  unfold pollReport
  repeat' first | with_reducible apply touch_seqs_cons | with_reducible apply touch_seqs_nil | with_reducible apply touch_setR | with_reducible apply touch_seq | with_reducible apply touch_skip | with_reducible apply touch_read | with_reducible intro _ | split | dsimp only | exact rfl

theorem ringError_touch {fn r code : Nat} : (ringError fn r code).Touches 0x4c0000000000000008000000000000000000000000000000000000000000000000000000000000000000010001a00806000000000000000000000000000000000000000000000000000000000000000000000000000000000 := by
  unfold ringError
  repeat' first | with_reducible apply touch_seqs_cons | with_reducible apply touch_seqs_nil | with_reducible apply touch_setR | with_reducible apply touch_incSat | with_reducible apply touch_seq | with_reducible apply touch_skip | with_reducible apply touch_read | with_reducible (refine raise_touch.mono ?_) | with_reducible intro _ | split | dsimp only | exact rfl

theorem pfOwed_touch : (pfOwed).Touches 0x1000104c0000000000000008000000000000000000000000000000000000000000000000000000000000000000010001200000000000000000000000000000000000000000000000000000000000000000000000000000000000000 := by
  unfold pfOwed
  repeat' first | with_reducible apply touch_seqs_cons | with_reducible apply touch_seqs_nil | with_reducible apply touch_updEng | with_reducible apply touch_updKeep | with_reducible apply touch_each | with_reducible apply touch_seq | with_reducible apply touch_skip | with_reducible apply touch_read | with_reducible (refine raisePf_touch.mono ?_) | with_reducible intro _ | split | dsimp only | exact rfl

theorem fnWrites_within {fn a : Nat} {bad : State → Nat} {p : Prog} {M : Nat} (h : p.Touches M)
    (hm : 0x1e00000000000000000000000000000000000000000000000000000000000000000000000000000000000000000000000000000000000000000000000000000000000000000000000000000 &&& M = 0x1e00000000000000000000000000000000000000000000000000000000000000000000000000000000000000000000000000000000000000000000000000000000000000000000000000000) : RunsWithin M (fnWrites fn a bad p) := by
  refine endsAlways_within fun s => ?_
  beta_reduce
  repeat' first | with_reducible exact h | with_reducible exact accErr_touch.mono hm | with_reducible exact touch_skip | split

theorem ringCtrlWrite_touch {fn r v : Nat} : (ringCtrlWrite fn r v).Touches 0x1000104c000000000000000800000000000000000000000000000000000000000000000000000000000000000001000161f800000000000000000000000000000000000000000000000000000000000000000000000000000000000 := by
  unfold ringCtrlWrite
  repeat' first | with_reducible apply touch_seqs_cons | with_reducible apply touch_seqs_nil | with_reducible apply touch_setR | with_reducible apply touch_updRings | with_reducible apply touch_seq | with_reducible apply touch_skip | with_reducible apply touch_read | with_reducible (refine pfOwed_touch.mono ?_) | with_reducible intro _ | split | dsimp only | exact rfl

theorem dbLoWrite_touch {fn v : Nat} : (dbLoWrite fn v).Touches 0x2cc0000000000000008000000000000000000000000000000000000000000000000000000000000000000490001200330e00000000000000000000000080000008000000000000000000000000000000000000000000000000 := by
  unfold dbLoWrite
  repeat' first | with_reducible apply touch_seqs_cons | with_reducible apply touch_seqs_nil | with_reducible apply touch_setR | with_reducible apply touch_seq | with_reducible apply touch_skip | with_reducible apply touch_read | with_reducible (refine armUpdate_touch.mono ?_) | with_reducible (refine pfCounts_touch.mono ?_) | with_reducible (refine pollReport_touch.mono ?_) | with_reducible (refine writeStatus_touch.mono ?_) | with_reducible intro _ | split | dsimp only | exact rfl

end Sys2Proof.Machine
end

