-- ==== Sys2Proof/Laws/WithinKeep.lean ====
section
/-! SUPPORT. The mask of every operation and meaning of Machine/Keep.lean (see Laws/Touch.lean): what it can change at all. -/

set_option Elab.async false

set_option maxRecDepth 8192
set_option linter.unreachableTactic false
set_option linter.unusedTactic false

namespace Sys2Proof.Machine

theorem keepDone_touch {q : KeepReq} {status result : Nat} : (keepDone q status result).Touches 0x5c0000000000000008000000000000000000000000000000000000000000000000000000000000000000000000200000000000000000000000000000000000000000000000000000000000000000000000000000000000000 := by
  unfold keepDone
  repeat' first | with_reducible apply touch_seqs_cons | with_reducible apply touch_seqs_nil | with_reducible apply touch_seq | with_reducible apply touch_skip | with_reducible apply touch_read | with_reducible (refine finishRun_touch.mono ?_) | with_reducible (refine histAdd_touch.mono ?_) | with_reducible intro _ | split | dsimp only | exact rfl

theorem keepUndo_touch  {x : KeepEffect} : (keepUndo  x).Touches 0x2000000000000000000000000000000000000000000000000000000000000000000000000000000000000000000000000000000000000000000000000000000000000000000000000000000000000000000000000000000000 := by
  cases x <;> unfold keepUndo
  all_goals
    repeat' first | with_reducible apply touch_seqs_cons | with_reducible apply touch_seqs_nil | with_reducible apply touch_updSlots | with_reducible apply touch_seq | with_reducible apply touch_skip | with_reducible apply touch_read | with_reducible intro _ | split | dsimp only | exact rfl

theorem quotaTold_touch {fn : Nat} {p : QuotaPar} : (quotaTold fn p).Touches 0x4c0000000000000008000000000000000000000000000000000000000000000000000000000000000000010001200000000000000000000000000000000000000000000000000000000000000000000000000000000000000 := by
  unfold quotaTold
  repeat' first | with_reducible apply touch_seqs_cons | with_reducible apply touch_seqs_nil | with_reducible apply touch_seq | with_reducible apply touch_skip | with_reducible apply touch_read | with_reducible (refine raise_touch.mono ?_) | with_reducible intro _ | split | dsimp only | exact rfl

theorem keyTold_touch {fn kind keyId : Nat} {erased : Bool} : (keyTold fn kind keyId erased).Touches 0x4c0000000000000008000000000000000000000000000000000000000000000000000000000000000000010001200000000000000000000000000000000000000000000000000000000000000000000000000000000000000 := by
  unfold keyTold
  repeat' first | with_reducible apply touch_seqs_cons | with_reducible apply touch_seqs_nil | with_reducible apply touch_seq | with_reducible apply touch_skip | with_reducible apply touch_read | with_reducible (refine raise_touch.mono ?_) | with_reducible intro _ | split | dsimp only | exact rfl

theorem keepEffect_touch {q : KeepReq} {typ id : Nat} {data : List Nat} {loc : Nat} : (keepEffect q typ id data loc).Touches 0x1010f7dc0000000000000008600000000000000004000000000000008070000000080027fe0000000000018000497fff2000300060761fed001800c00000406c00000080004200007f866d800080000000003d04000000000000000 := by
  unfold keepEffect
  repeat' first | with_reducible apply touch_seqs_cons | with_reducible apply touch_seqs_nil | with_reducible apply touch_setR | with_reducible apply touch_updEng | with_reducible apply touch_updKeys | with_reducible apply touch_each | with_reducible apply touch_seq | with_reducible apply touch_skip | with_reducible apply touch_read | with_reducible (refine applyRecord_touch.mono ?_) | with_reducible (refine armUpdate_touch.mono ?_) | with_reducible (refine keepDone_touch.mono ?_) | with_reducible (refine keyTold_touch.mono ?_) | with_reducible (refine ownerCommit_touch.mono ?_) | with_reducible (refine pfCounts_touch.mono ?_) | with_reducible (refine quotaTold_touch.mono ?_) | with_reducible (refine raisePf_touch.mono ?_) | with_reducible (refine setKeyByte_touch.mono ?_) | with_reducible intro _ | split | dsimp only | exact rfl

theorem keepRefuse_touch {q : KeepReq} {kind : Nat} : (keepRefuse q kind).Touches 0x25c0000000000000008000000000000000002000000000000000000000000000000000000000000000000010001200000000000000000000000000000000000000000000000000000000000000000000000000000000008000 := by
  unfold keepRefuse
  repeat' first | with_reducible apply touch_seqs_cons | with_reducible apply touch_seqs_nil | with_reducible apply touch_incSat | with_reducible apply touch_seq | with_reducible apply touch_skip | with_reducible apply touch_read | with_reducible (refine healthSet_touch ?_ ?_) | with_reducible (refine keepDone_touch.mono ?_) | with_reducible (refine keepUndo_touch.mono ?_) | with_reducible (refine raisePf_touch.mono ?_) | with_reducible intro _ | split | dsimp only | exact rfl

theorem keepPop_touch : (keepPop).Touches 0x10000000000000000000000000000000000004000000000000000000000000000000000000000000000000000000000000000000000000000000000000000000000000000000000000000000000000000000000000000000000 := by
  unfold keepPop
  repeat' first | with_reducible apply touch_seqs_cons | with_reducible apply touch_seqs_nil | with_reducible apply touch_updR | with_reducible apply touch_updKeep | with_reducible apply touch_seq | with_reducible apply touch_skip | with_reducible apply touch_read | with_reducible intro _ | split | dsimp only | exact rfl

theorem execKeepWrite_within {ok : Bool} : RunsWithin 0x1010ffdc000000000000000860000000000000000ee00000000000008070000000080027fe0000000000018000497fff2000300060761fed001800c00000406c00000080004200007f866d800080000000003d04000000000008000 (execKeepWrite ok) := by
  unfold execKeepWrite
  repeat' first | with_reducible apply ends_within | with_reducible apply touch_seqs_cons | with_reducible apply touch_seqs_nil | with_reducible apply touch_updKeep | with_reducible apply touch_seq | with_reducible apply touch_skip | with_reducible apply touch_read | with_reducible (refine keepEffect_touch.mono ?_) | with_reducible (refine keepPop_touch.mono ?_) | with_reducible (refine keepRefuse_touch.mono ?_) | with_reducible (refine keepRetire_touch.mono ?_) | with_reducible (refine keepShow_touch.mono ?_) | with_reducible (refine keepStore_touch.mono ?_) | with_reducible (refine raisePf_touch.mono ?_) | with_reducible intro _ | split | dsimp only | exact rfl

end Sys2Proof.Machine
end

