-- ==== Sys2Proof/Laws/WithinModeOps.lean ====
section
/-! SUPPORT. The mask of every operation and meaning of Machine/ModeOps.lean (see Laws/Touch.lean): what it can change at all. -/

set_option Elab.async false

set_option maxRecDepth 8192
set_option linter.unreachableTactic false
set_option linter.unusedTactic false

namespace Sys2Proof.Machine

theorem modeEvent_touch {old new seq src : Nat} : (modeEvent old new seq src).Touches 0x4c0000000000000008000000000000000000000000000000000000000000000000000000000000000000010001200000000000000000000000000000000000000000000000000000000000000000000000000000000000000 := by
  unfold modeEvent
  repeat' first | with_reducible apply touch_seqs_cons | with_reducible apply touch_seqs_nil | with_reducible apply touch_seq | with_reducible apply touch_skip | with_reducible apply touch_read | with_reducible (refine raisePf_touch.mono ?_) | with_reducible intro _ | split | dsimp only | exact rfl

theorem modeEntered_touch : (modeEntered).Touches 0x14d7cc00000000000000080000000000000000040000000000000080700000000000000000000800000000004960012000300000761f6d001800000000406c000000b0000000007f802d800080000000003d04000020008000000 := by
  unfold modeEntered
  repeat' first | with_reducible apply touch_seqs_cons | with_reducible apply touch_seqs_nil | with_reducible apply touch_setR | with_reducible apply touch_each | with_reducible apply touch_seq | with_reducible apply touch_skip | with_reducible apply touch_read | with_reducible (refine accUpdate_touch.mono ?_) | with_reducible (refine alwaysEnable_touch.mono ?_) | with_reducible (refine hostFollow_touch.mono ?_) | with_reducible (refine portPresent_touch.mono ?_) | with_reducible (refine portsLimitChanged_touch.mono ?_) | with_reducible (refine scanPresence_touch.mono ?_) | with_reducible intro _ | split | dsimp only | exact rfl

theorem enterMode_touch {m src seq : Nat} : (enterMode m src seq).Touches 0x15d7cc000000000000000800000000000000000402000fc000000080700000000000000000000800000000004960012000300000761f6d001800000000406c000000b0000000007f802d800080000000003d04000020008000000 := by
  unfold enterMode
  repeat' first | with_reducible apply touch_seqs_cons | with_reducible apply touch_seqs_nil | with_reducible apply touch_setR | with_reducible apply touch_updHouse | with_reducible apply touch_seq | with_reducible apply touch_skip | with_reducible apply touch_read | with_reducible (refine modeEntered_touch.mono ?_) | with_reducible (refine modeEvent_touch.mono ?_) | with_reducible intro _ | split | dsimp only | exact rfl

theorem refuse_touch {m why : Nat} : (refuse m why).Touches 0x4c0000000000000008000000000000000000010000000000000000000000000000000000000000000000010001200000000000000000000000000000000000000000000000000000000000000000000000000000000000000 := by
  unfold refuse
  repeat' first | with_reducible apply touch_seqs_cons | with_reducible apply touch_seqs_nil | with_reducible apply touch_setR | with_reducible apply touch_seq | with_reducible apply touch_skip | with_reducible apply touch_read | with_reducible (refine raisePf_touch.mono ?_) | with_reducible intro _ | split | dsimp only | exact rfl

theorem rolesEnd_touch : (rolesEnd).Touches 0x10d74c00000000000000080000000000000000040000000000000080700000000000000000000000000000000160012000000000761f6d001800000000406400000000004200007f806d800080000000003d04000000000000000 := by
  unfold rolesEnd
  repeat' first | with_reducible apply touch_seqs_cons | with_reducible apply touch_seqs_nil | with_reducible apply touch_each | with_reducible apply touch_seq | with_reducible apply touch_skip | with_reducible apply touch_read | with_reducible (refine auditEnd_touch.mono ?_) | with_reducible (refine stopSlot_touch.mono ?_) | with_reducible (refine transferStop_touch.mono ?_) | with_reducible intro _ | split | dsimp only | exact rfl

theorem duskStart_touch {target src : Nat} : (duskStart target src).Touches 0x210d75c000000000000000800000000000000000402000f00000000807000000000000000001ce800000000000160012000000000761f6d001800000000406400000000004200007f806d800080000000003d04000000000000000 := by
  unfold duskStart
  repeat' first | with_reducible apply touch_seqs_cons | with_reducible apply touch_seqs_nil | with_reducible apply touch_setR | with_reducible apply touch_updPower | with_reducible apply touch_seq | with_reducible apply touch_skip | with_reducible apply touch_read | with_reducible (refine modeEvent_touch.mono ?_) | with_reducible (refine portsWithdraw_touch.mono ?_) | with_reducible (refine rolesEnd_touch.mono ?_) | with_reducible intro _ | split | dsimp only | exact rfl

theorem requestShip_touch {src : Nat} : (requestShip src).Touches 0x210d75c000000000000000800000000000000000403000f00000000807000000000000000001ce800000000000160012000000000761f6d001800000000406400000000004200007f806d800080000000003d04000000000000000 := by
  unfold requestShip
  repeat' first | with_reducible apply touch_seqs_cons | with_reducible apply touch_seqs_nil | with_reducible apply touch_setR | with_reducible apply touch_updPower | with_reducible apply touch_seq | with_reducible apply touch_skip | with_reducible apply touch_read | with_reducible (refine duskStart_touch.mono ?_) | with_reducible (refine refuse_touch.mono ?_) | with_reducible intro _ | split | dsimp only | exact rfl

theorem requestSentinel_touch {src : Nat} : (requestSentinel src).Touches 0x210d75c000000000000000800000000000000000403000f00000000807000000000000000001ce800000000000160012000000000761f6d001800000000406400000000004200007f806d800080000000003d04000000000000000 := by
  unfold requestSentinel
  repeat' first | with_reducible apply touch_seqs_cons | with_reducible apply touch_seqs_nil | with_reducible apply touch_setR | with_reducible apply touch_seq | with_reducible apply touch_skip | with_reducible apply touch_read | with_reducible (refine duskStart_touch.mono ?_) | with_reducible (refine refuse_touch.mono ?_) | with_reducible intro _ | split | dsimp only | exact rfl

theorem requestRun_touch {src : Nat} {any : Bool} : (requestRun src any).Touches 0x200004c000000000000000800000000000000000003000c000000000000000000000000000000000000000000010001200000000000000000000000000000000000000000000000000000000000000000000000000000000000000 := by
  unfold requestRun
  repeat' first | with_reducible apply touch_seqs_cons | with_reducible apply touch_seqs_nil | with_reducible apply touch_setR | with_reducible apply touch_updPower | with_reducible apply touch_seq | with_reducible apply touch_skip | with_reducible apply touch_read | with_reducible (refine refuse_touch.mono ?_) | with_reducible intro _ | split | dsimp only | exact rfl

theorem modeRequest_touch {m src : Nat} : (modeRequest m src).Touches 0x210d75c000000000000000800000000000000000403000f00000000807000000000000000001ce800000000000160012000000000761f6d001800000000406400000000004200007f806d800080000000003d04000000000000000 := by
  unfold modeRequest
  repeat' first | with_reducible apply touch_seqs_cons | with_reducible apply touch_seqs_nil | with_reducible apply touch_seq | with_reducible apply touch_skip | with_reducible apply touch_read | with_reducible (refine requestRun_touch.mono ?_) | with_reducible (refine requestSentinel_touch.mono ?_) | with_reducible (refine requestShip_touch.mono ?_) | with_reducible intro _ | split | dsimp only | exact rfl

theorem requestBy_touch {m src : Nat} : (requestBy m src).Touches 0x210d75c000000000000000800000000000000000403000f00000000807000000000000000001ce800000000000160012000000000761f6d001800000000406400000000004200007f806d800080000000003d04000000000000000 := by
  unfold requestBy
  repeat' first | with_reducible apply touch_seqs_cons | with_reducible apply touch_seqs_nil | with_reducible apply touch_updPower | with_reducible apply touch_seq | with_reducible apply touch_skip | with_reducible apply touch_read | with_reducible (refine modeRequest_touch.mono ?_) | with_reducible intro _ | split | dsimp only | exact rfl

theorem sentinelIn_touch : (sentinelIn).Touches 0x3058c25d0000000000000008000000000000000000000200000400000000000034000200800000800000018000010001200030000000000000000000001000080002008800000000000001000000000000000000000000000000800 := by
  unfold sentinelIn
  repeat' first | with_reducible apply touch_seqs_cons | with_reducible apply touch_seqs_nil | with_reducible apply touch_setR | with_reducible apply touch_each | with_reducible apply touch_when | with_reducible apply touch_seq | with_reducible apply touch_skip | with_reducible apply touch_read | with_reducible (refine bedOff_touch.mono ?_) | with_reducible (refine perst_touch.mono ?_) | with_reducible (refine rootPlanned_touch.mono ?_) | with_reducible intro _ | split | dsimp only | exact rfl

theorem sentinelOut_touch : (sentinelOut).Touches 0x1018d74c00000000000000080000000000000000040002000000000080700000100000000000000000000000000160012000000010761f6d00180000200040640002000800027f007f81ef800080000000003d04000000000000800 := by
  unfold sentinelOut
  repeat' first | with_reducible apply touch_seqs_cons | with_reducible apply touch_seqs_nil | with_reducible apply touch_setR | with_reducible apply touch_updEng | with_reducible apply touch_each | with_reducible apply touch_seq | with_reducible apply touch_skip | with_reducible apply touch_read | with_reducible (refine bedOn_touch.mono ?_) | with_reducible (refine heldDeliver_touch.mono ?_) | with_reducible (refine rootPlanned_touch.mono ?_) | with_reducible intro _ | split | dsimp only | exact rfl

theorem shipIn_touch : (shipIn).Touches 0x15d7cc000000000000000800000000000000000402020fc000000080700000000000000000000800000000004960012000300000761f6d001800000000406c000000b0000000007f802d800080000000003d04020020008000000 := by
  unfold shipIn
  repeat' first | with_reducible apply touch_seqs_cons | with_reducible apply touch_seqs_nil | with_reducible apply touch_setR | with_reducible apply touch_seq | with_reducible apply touch_skip | with_reducible apply touch_read | with_reducible (refine enterMode_touch.mono ?_) | with_reducible intro _ | split | dsimp only | exact rfl

theorem hiddenReset_touch {warm powerOn : Bool} : (hiddenReset warm powerOn).Touches 0x3ffffd73c0000000000000000000000000000000000000000000000000000000000000000000000000000000000000000000000000000000000000000000000000000000000000000000000000000000000000000000000000000000 := by
  unfold hiddenReset
  repeat' first | with_reducible apply touch_seqs_cons | with_reducible apply touch_seqs_nil | with_reducible apply touch_updAlm | with_reducible apply touch_updClk | with_reducible apply touch_updEng | with_reducible apply touch_updGrid | with_reducible apply touch_updHost | with_reducible apply touch_updHouse | with_reducible apply touch_updKeep | with_reducible apply touch_updMains | with_reducible apply touch_updPendZ | with_reducible apply touch_updPower | with_reducible apply touch_updSun | with_reducible apply touch_updSvc | with_reducible apply touch_chansMap | with_reducible apply touch_fcvsMap | with_reducible apply touch_fnsMap | with_reducible apply touch_gaugesMap | with_reducible apply touch_groupsMap | with_reducible apply touch_icvsMap | with_reducible apply touch_lanesMap | with_reducible apply touch_pairsMap | with_reducible apply touch_portsMap | with_reducible apply touch_ringsMap | with_reducible apply touch_slotsMap | with_reducible apply touch_srcsMap | with_reducible apply touch_tasksMap | with_reducible apply touch_tinesMap | with_reducible apply touch_traceMap | with_reducible apply touch_twbMap | with_reducible apply touch_seq | with_reducible apply touch_skip | with_reducible apply touch_read | with_reducible intro _ | split | dsimp only | exact rfl

theorem startPending_touch {step : Nat} : (startPending step).Touches 0x100207c00000000000000000000000000000000000000000000000000000000000000000000000000000000000000000000000000000000000000000000000000000000000000 := by
  unfold startPending
  repeat' first | with_reducible apply touch_seqs_cons | with_reducible apply touch_seqs_nil | with_reducible apply touch_setR | with_reducible apply touch_incSat | with_reducible apply touch_seq | with_reducible apply touch_skip | with_reducible apply touch_read | with_reducible intro _ | split | dsimp only | exact rfl

theorem deviceReset_touch {kind : Nat} : (deviceReset kind).Touches 0x3ffffdfbf0000000000000000000000000000000008f00207c00380000000000000000000000000000000000000000000000000000000000000000000000000000000000000000000000000000000000000000000000000000000000 := by
  unfold deviceReset
  repeat' first | with_reducible apply touch_seqs_cons | with_reducible apply touch_seqs_nil | with_reducible apply touch_setR | with_reducible apply touch_updTime | with_reducible apply touch_withFree | with_reducible apply touch_clear | with_reducible apply touch_seq | with_reducible apply touch_skip | with_reducible apply touch_read | with_reducible (refine hiddenReset_touch.mono ?_) | with_reducible (refine keepCut_touch.mono ?_) | with_reducible (refine startPending_touch.mono ?_) | with_reducible intro _ | split | dsimp only | exact rfl

theorem shipWake_touch {cause : Nat} {rail : Bool} : (shipWake cause rail).Touches 0x3ffffd73f0000000000000000000000000000000000100207c10040000000000000000000000000000000000000000000000000000000000000000000000000000000000000000000000000000000000000000000060000000000000 := by
  unfold shipWake
  repeat' first | with_reducible apply touch_seqs_cons | with_reducible apply touch_seqs_nil | with_reducible apply touch_setR | with_reducible apply touch_updSvc | with_reducible apply touch_updTime | with_reducible apply touch_clear | with_reducible apply touch_seq | with_reducible apply touch_skip | with_reducible apply touch_read | with_reducible (refine hiddenReset_touch.mono ?_) | with_reducible (refine startPending_touch.mono ?_) | with_reducible intro _ | split | dsimp only | exact rfl

theorem haltEnter_touch {cause detail : Nat} : (haltEnter cause detail).Touches 0x13fdbc35d000000000000000800000000000080000000020fc04000008000001e00000200800000000000018000000000200000000000000000000000001000000000000000000000000000000080000000003504000000000000000 := by
  unfold haltEnter
  repeat' first | with_reducible apply touch_seqs_cons | with_reducible apply touch_seqs_nil | with_reducible apply touch_setR | with_reducible apply touch_incSat | with_reducible apply touch_updAlm | with_reducible apply touch_updEng | with_reducible apply touch_updGrid | with_reducible apply touch_updHouse | with_reducible apply touch_updPendZ | with_reducible apply touch_updPower | with_reducible apply touch_updSvc | with_reducible apply touch_each | with_reducible apply touch_chansMap | with_reducible apply touch_fcvsMap | with_reducible apply touch_fnsMap | with_reducible apply touch_groupsMap | with_reducible apply touch_icvsMap | with_reducible apply touch_pairsMap | with_reducible apply touch_portsMap | with_reducible apply touch_ringsMap | with_reducible apply touch_slotsMap | with_reducible apply touch_tasksMap | with_reducible apply touch_traceMap | with_reducible apply touch_twbMap | with_reducible apply touch_clear | with_reducible apply touch_seq | with_reducible apply touch_skip | with_reducible apply touch_read | with_reducible (refine discardWork_touch.mono ?_) | with_reducible (refine orderTo_touch ?_ ?_) | with_reducible (refine parkOutput_touch.mono ?_) | with_reducible intro _ | split | dsimp only | exact rfl

theorem allSourcesLost_touch : (allSourcesLost).Touches 0x17d7dc000000000000000800000000000000000402000fc0000000807000000000000000001ce800000000004960012000300000761f6d001800000000406c000000b0000200007f806d800080000000003d0400002004c000000 := by
  unfold allSourcesLost
  repeat' first | with_reducible apply touch_seqs_cons | with_reducible apply touch_seqs_nil | with_reducible apply touch_setR | with_reducible apply touch_updGrid | with_reducible apply touch_seq | with_reducible apply touch_skip | with_reducible apply touch_read | with_reducible (refine donorsChoose_touch.mono ?_) | with_reducible (refine enterMode_touch.mono ?_) | with_reducible (refine parkFeeding_touch.mono ?_) | with_reducible (refine portsWithdraw_touch.mono ?_) | with_reducible (refine setScale_touch.mono ?_) | with_reducible intro _ | split | dsimp only | exact rfl

theorem sourceLost_touch {k why : Nat} : (sourceLost k why).Touches 0x17d7dc000000000000000800000000000000000402000fc0000000807000000000000000001ce800000000004960012000300000761f6d001800000000406c000000b0000200007f806d800080000000003d0400017004c000000 := by
  unfold sourceLost
  repeat' first | with_reducible apply touch_seqs_cons | with_reducible apply touch_seqs_nil | with_reducible apply touch_setR | with_reducible apply touch_updGrid | with_reducible apply touch_updSrcs | with_reducible apply touch_when | with_reducible apply touch_seq | with_reducible apply touch_skip | with_reducible apply touch_read | with_reducible (refine allSourcesLost_touch.mono ?_) | with_reducible (refine returnDrop_touch.mono ?_) | with_reducible (refine srcChange_touch.mono ?_) | with_reducible intro _ | split | dsimp only | exact rfl

theorem sequenceStep_touch : (sequenceStep).Touches 0x3ffffd7ff00000000000000080000000000000000041a020fc104400080700000340002008000008800000180004960012000300010761f6d001800002010406c000200b800027f007f81ef800080000000003d04060020008000800 := by
  unfold sequenceStep
  repeat' first | with_reducible apply touch_seqs_cons | with_reducible apply touch_seqs_nil | with_reducible apply touch_setR | with_reducible apply touch_incSat | with_reducible apply touch_updAlm | with_reducible apply touch_updPower | with_reducible apply touch_each | with_reducible apply touch_seq | with_reducible apply touch_skip | with_reducible apply touch_read | with_reducible (refine bedOn_touch.mono ?_) | with_reducible (refine enterMode_touch.mono ?_) | with_reducible (refine modeEvent_touch.mono ?_) | with_reducible (refine perst_touch.mono ?_) | with_reducible (refine sentinelIn_touch.mono ?_) | with_reducible (refine sentinelOut_touch.mono ?_) | with_reducible (refine shipIn_touch.mono ?_) | with_reducible (refine shipWake_touch.mono ?_) | with_reducible (refine softStop_touch.mono ?_) | with_reducible intro _ | split | dsimp only | exact rfl

theorem latentFail_touch {b obj : Nat} : (latentFail b obj).Touches 0x4c0000000000000008000000000000000000000000000000000000240000000000000000000000000000010001200000000000000000000000000000000000000000000000000000000000000000000000000000000000000 := by
  unfold latentFail
  repeat' first | with_reducible apply touch_seqs_cons | with_reducible apply touch_seqs_nil | with_reducible apply touch_setR | with_reducible apply touch_incSat | with_reducible apply touch_seq | with_reducible apply touch_skip | with_reducible apply touch_read | with_reducible (refine raisePf_touch.mono ?_) | with_reducible intro _ | split | dsimp only | exact rfl

theorem start3_touch {e : StartEnv} : (start3 e).Touches 0x13fdbc35d00000000000000080000000000008002b000020fc04000c08000241e0000020080000000000001800001000120000000000000000000000000100000000000000000000000000000008000000000350400000000000a000 := by
  unfold start3
  repeat' first | with_reducible apply touch_seqs_cons | with_reducible apply touch_seqs_nil | with_reducible apply touch_setR | with_reducible apply touch_updR | with_reducible apply touch_seq | with_reducible apply touch_skip | with_reducible apply touch_read | with_reducible (refine haltEnter_touch.mono ?_) | with_reducible (refine latentFail_touch.mono ?_) | with_reducible intro _ | split | dsimp only | exact rfl

theorem laneSteer_touch {link dir : Nat} : (laneSteer link dir).Touches 0x6c0000000000000008000000000000000000000000000000000000000000000000000000000000000000010001200000000000000000000000000000000000000000000000000000000000000000000000000000000009000 := by
  unfold laneSteer
  repeat' first | with_reducible apply touch_seqs_cons | with_reducible apply touch_seqs_nil | with_reducible apply touch_updLanes | with_reducible apply touch_seq | with_reducible apply touch_skip | with_reducible apply touch_read | with_reducible (refine healthSet_touch ?_ ?_) | with_reducible intro _ | split | dsimp only | exact rfl

theorem start4_touch {e : StartEnv} : (start4 e).Touches 0x218d77c000000000000000800000000000000000400000000000000c0702401000000000000000000000182000160012000000000761f6f081807000c00c06400000000004200007fe86d800080000000003d04000000000079000 := by
  unfold start4
  repeat' first | with_reducible apply touch_seqs_cons | with_reducible apply touch_seqs_nil | with_reducible apply touch_setR | with_reducible apply touch_updFcvs | with_reducible apply touch_updPower | with_reducible apply touch_each | with_reducible apply touch_seq | with_reducible apply touch_skip | with_reducible apply touch_read | with_reducible (refine budgetUpdate_touch.mono ?_) | with_reducible (refine chanFail_touch.mono ?_) | with_reducible (refine coulombLost_touch.mono ?_) | with_reducible (refine fcvOut_touch.mono ?_) | with_reducible (refine grpMembers_touch.mono ?_) | with_reducible (refine icvFail_touch.mono ?_) | with_reducible (refine laneSteer_touch.mono ?_) | with_reducible (refine latentFail_touch.mono ?_) | with_reducible (refine recoverSda_touch.mono ?_) | with_reducible intro _ | split | dsimp only | exact rfl

theorem start6_touch {e : StartEnv} : (start6 e).Touches 0x40000000000000000000000000000000000000000000200000000000000000000001000000000000000000000000000000000000000000000000000000000000000000800000000000000000000000000000000000000000000e00 := by
  unfold start6
  repeat' first | with_reducible apply touch_seqs_cons | with_reducible apply touch_seqs_nil | with_reducible apply touch_setR | with_reducible apply touch_updR | with_reducible apply touch_incSat | with_reducible apply touch_updPairs | with_reducible apply touch_each | with_reducible apply touch_when | with_reducible apply touch_seq | with_reducible apply touch_skip | with_reducible apply touch_read | with_reducible intro _ | split | dsimp only | exact rfl

theorem stagedFound_touch {img : Image} : (stagedFound img).Touches 0x100000000000000000000000000000000000000000000000000000000000000000000000e40000000000000000000000000000000000000000000000000000000000000000000000000000000000000000000000000000000000000 := by
  unfold stagedFound
  repeat' first | with_reducible apply touch_seqs_cons | with_reducible apply touch_seqs_nil | with_reducible apply touch_seq | with_reducible apply touch_skip | with_reducible apply touch_read | with_reducible (refine imageStaged_touch.mono ?_) | with_reducible intro _ | split | dsimp only | exact rfl

theorem taskPlaced_touch {t : Nat} : (taskPlaced t).Touches 0x110d74c000000000000000800000000000000000400000000000000c0700001001400000000184800000000000160012000000000761f6d001800000000406400000000004200007fe86d800080000000003d04000000000008000 := by
  unfold taskPlaced
  repeat' first | with_reducible apply touch_seqs_cons | with_reducible apply touch_seqs_nil | with_reducible apply touch_setR | with_reducible apply touch_seq | with_reducible apply touch_skip | with_reducible apply touch_read | with_reducible (refine healthSet_touch ?_ ?_) | with_reducible (refine taskStops_touch.mono ?_) | with_reducible intro _ | split | dsimp only | exact rfl

theorem start7_touch {e : StartEnv} : (start7 e).Touches 0x13fdbd75d000000000000000800000000000080000400020fc0400000c070001f001402c0fe00184800000180000160012000000000761f6d001800000010406400000100004200007fe86d800080000000003d04000000000008400 := by
  unfold start7
  repeat' first | with_reducible apply touch_seqs_cons | with_reducible apply touch_seqs_nil | with_reducible apply touch_setR | with_reducible apply touch_updR | with_reducible apply touch_updEng | with_reducible apply touch_each | with_reducible apply touch_when | with_reducible apply touch_seq | with_reducible apply touch_skip | with_reducible apply touch_read | with_reducible (refine haltEnter_touch.mono ?_) | with_reducible (refine schemaUpdate_touch.mono ?_) | with_reducible (refine stagedFound_touch.mono ?_) | with_reducible (refine taskPlaced_touch.mono ?_) | with_reducible intro _ | split | dsimp only | exact rfl

theorem start8_touch {e : StartEnv} : (start8 e).Touches 0x14d74c000000000000000800000000000000000400000000000000c0700001000000000000184800000000000160012000000000761f6d001800000000406400000204004200007fe86d800898000000133f040002f0000000000 := by
  unfold start8
  repeat' first | with_reducible apply touch_seqs_cons | with_reducible apply touch_seqs_nil | with_reducible apply touch_setR | with_reducible apply touch_updSrcs | with_reducible apply touch_each | with_reducible apply touch_when | with_reducible apply touch_seq | with_reducible apply touch_skip | with_reducible apply touch_read | with_reducible (refine commitLead_touch.mono ?_) | with_reducible (refine leadFlags_touch.mono ?_) | with_reducible (refine srcChange_touch.mono ?_) | with_reducible (refine srcLimit_touch.mono ?_) | with_reducible intro _ | split | dsimp only | exact rfl

theorem railStart_touch {mv : Nat} : (railStart mv).Touches 0x100000000000000000000000000000000000000000000000000000000000000000000000000000000000000000000000000000000000000000000000000000000000000000000000000000000000000000000138000000000000 := by
  unfold railStart
  repeat' first | with_reducible apply touch_seqs_cons | with_reducible apply touch_seqs_nil | with_reducible apply touch_setR | with_reducible apply touch_updHouse | with_reducible apply touch_seq | with_reducible apply touch_skip | with_reducible apply touch_read | with_reducible intro _ | split | dsimp only | exact rfl

theorem start9_touch {e : StartEnv} : (start9 e).Touches 0x100000000000000000000000000000000000000000000000000000080000000000000000000000000000000000000000000000000000000000000000000000000000000000000000000000000000000000000138000000000000 := by
  unfold start9
  repeat' first | with_reducible apply touch_seqs_cons | with_reducible apply touch_seqs_nil | with_reducible apply touch_updR | with_reducible apply touch_each | with_reducible apply touch_seq | with_reducible apply touch_skip | with_reducible apply touch_read | with_reducible (refine railStart_touch.mono ?_) | with_reducible intro _ | split | dsimp only | exact rfl

theorem planterDead_touch {p : Nat} : (planterDead p).Touches 0x10d74c000000000000000800000000000000000400000000000000c0700001000000000000184800000000000160012000000000761f6d001800000000406400000000004200007fe86d800080000000003d04000000000008000 := by
  unfold planterDead
  repeat' first | with_reducible apply touch_seqs_cons | with_reducible apply touch_seqs_nil | with_reducible apply touch_each | with_reducible apply touch_seq | with_reducible apply touch_skip | with_reducible apply touch_read | with_reducible (refine auxFault_touch.mono ?_) | with_reducible (refine healthSet_touch ?_ ?_) | with_reducible (refine slotSafeSub_touch.mono ?_) | with_reducible intro _ | split | dsimp only | exact rfl

theorem slotsAfterStart_touch {e : StartEnv} : (slotsAfterStart e).Touches 0x10d74c000000000000000800000000000000000400000000000000e0702401000000000000184800000000000160012000000000761f6d001800000000406400000000004200007fe9ff800080000000003d04000000000008000 := by
  unfold slotsAfterStart
  repeat' first | with_reducible apply touch_seqs_cons | with_reducible apply touch_seqs_nil | with_reducible apply touch_setR | with_reducible apply touch_updR | with_reducible apply touch_each | with_reducible apply touch_seq | with_reducible apply touch_skip | with_reducible apply touch_read | with_reducible (refine auxFault_touch.mono ?_) | with_reducible (refine gangShow_touch.mono ?_) | with_reducible (refine latentFail_touch.mono ?_) | with_reducible (refine planterDead_touch.mono ?_) | with_reducible (refine slotSafeSub_touch.mono ?_) | with_reducible intro _ | split | dsimp only | exact rfl

theorem start10_touch {e : StartEnv} : (start10 e).Touches 0x725df7dd00000000000000087ff00000000000000403020fc0040000e070240174000220800018c80000018000497fff2000300060761fed001800c00010406c000200b8004200007fefff800080000000003d04000020008008800 := by
  unfold start10
  repeat' first | with_reducible apply touch_seqs_cons | with_reducible apply touch_seqs_nil | with_reducible apply touch_setR | with_reducible apply touch_updKeep | with_reducible apply touch_updPower | with_reducible apply touch_updSun | with_reducible apply touch_each | with_reducible apply touch_keysMap | with_reducible apply touch_clear | with_reducible apply touch_seq | with_reducible apply touch_skip | with_reducible apply touch_read | with_reducible (refine enterMode_touch.mono ?_) | with_reducible (refine keepApply_touch.mono ?_) | with_reducible (refine pfCounts_touch.mono ?_) | with_reducible (refine policyDefault_touch.mono ?_) | with_reducible (refine refuse_touch.mono ?_) | with_reducible (refine sentinelIn_touch.mono ?_) | with_reducible (refine slotsAfterStart_touch.mono ?_) | with_reducible (refine useUpdate_touch.mono ?_) | with_reducible intro _ | split | dsimp only | exact rfl

theorem startWork_touch {e : StartEnv} {x : Nat} : (startWork e x).Touches 0x17fdffffd00000000000000087ff000006000a002f5e3020fc04400c0e0f0241f741412e0fe0018c80000018200497fff2000300060761fef081807c00c10c06c000203bc004200007fefff800898000000133f041382f000807be00 := by
  cases x <;> unfold startWork
  all_goals
    repeat' first | with_reducible apply touch_seqs_cons | with_reducible apply touch_seqs_nil | with_reducible apply touch_setR | with_reducible apply touch_updR | with_reducible apply touch_seq | with_reducible apply touch_skip | with_reducible apply touch_read | with_reducible (refine keepScan_touch.mono ?_) | with_reducible (refine start10_touch.mono ?_) | with_reducible (refine start3_touch.mono ?_) | with_reducible (refine start4_touch.mono ?_) | with_reducible (refine start6_touch.mono ?_) | with_reducible (refine start7_touch.mono ?_) | with_reducible (refine start8_touch.mono ?_) | with_reducible (refine start9_touch.mono ?_) | with_reducible intro _ | split | dsimp only | exact rfl

theorem startAdvance_touch : (startAdvance).Touches 0x17fdfffff00000000000000087ff000006000a002f5eb020fc04400c0e0f0241f741412e0fe0018c80000018200497fff2000300060761fef081807c00c10c06c000203bc004200007fefff800898000000133f041382f000807be00 := by
  unfold startAdvance
  repeat' first | with_reducible apply touch_seqs_cons | with_reducible apply touch_seqs_nil | with_reducible apply touch_setR | with_reducible apply touch_incSat | with_reducible apply touch_updPower | with_reducible apply touch_updTime | with_reducible apply touch_when | with_reducible apply touch_seq | with_reducible apply touch_skip | with_reducible apply touch_read | with_reducible (refine haltEnter_touch.mono ?_) | with_reducible (refine modeEvent_touch.mono ?_) | with_reducible (refine shipIn_touch.mono ?_) | with_reducible (refine startWork_touch.mono ?_) | with_reducible intro _ | split | dsimp only | exact rfl

theorem startResume_touch {src : Nat} : (startResume src).Touches 0x200004c00000000000000080000000000000000000a000d000000000000000000000000000000000000000000010001200000000000000000000000000000000000000000000000000000000000000000000000000000000000000 := by
  unfold startResume
  repeat' first | with_reducible apply touch_seqs_cons | with_reducible apply touch_seqs_nil | with_reducible apply touch_setR | with_reducible apply touch_incSat | with_reducible apply touch_updPower | with_reducible apply touch_seq | with_reducible apply touch_skip | with_reducible apply touch_read | with_reducible (refine modeEvent_touch.mono ?_) | with_reducible intro _ | split | dsimp only | exact rfl

theorem startBegin_touch {e : StartEnv} : (startBegin e).Touches 0x17fdfffff00000000000000087ff000006000a002f5eb020fc04400c0e0f0241f741412e0fe0018c80000018200497fff2000300060761fef081807c00c10c06c000203bc004200007fefff800898000000133f041382f000807be00 := by
  unfold startBegin
  repeat' first | with_reducible apply touch_seqs_cons | with_reducible apply touch_seqs_nil | with_reducible apply touch_updPower | with_reducible apply touch_seq | with_reducible apply touch_skip | with_reducible apply touch_read | with_reducible (refine startAdvance_touch.mono ?_) | with_reducible intro _ | split | dsimp only | exact rfl

theorem warmReset_touch : (warmReset).Touches 0x3ffffdf3d0000000000000000000000000000000008f00207c02000000000000000000000000003000000000000000000000000000000000000000000000000000000000000000000000000000100000000000000000000000000000 := by
  unfold warmReset
  repeat' first | with_reducible apply touch_seqs_cons | with_reducible apply touch_seqs_nil | with_reducible apply touch_setR | with_reducible apply touch_updR | with_reducible apply touch_updPower | with_reducible apply touch_each | with_reducible apply touch_clear | with_reducible apply touch_seq | with_reducible apply touch_skip | with_reducible apply touch_read | with_reducible (refine hiddenReset_touch.mono ?_) | with_reducible (refine keepCut_touch.mono ?_) | with_reducible (refine startPending_touch.mono ?_) | with_reducible intro _ | split | dsimp only | exact rfl

end Sys2Proof.Machine
end

