-- ==== Sys2Proof/Laws/WithinModes.lean ====
section
/-! SUPPORT. The mask of every operation and meaning of Machine/Modes.lean (see Laws/Touch.lean): what it can change at all. -/

set_option Elab.async false

set_option maxRecDepth 8192
set_option linter.unreachableTactic false
set_option linter.unusedTactic false

namespace Sys2Proof.Machine

theorem pfWrite_within {p : Prog} {M : Nat} (h : p.Touches M) : RunsWithin M (pfWrite p) := endsAlways_within (touch_when h)

theorem execModeRequestShip_within : RunsWithin 0x210d75c000000000000000800000000000000000403000f00000000807000000000000000001ce800000000000160012000000000761f6d001800000000406400000000004200007f806d800080000000003d04000000000000000 (execModeRequestShip) := by
  unfold execModeRequestShip
  repeat' first | with_reducible apply pfWrite_within | with_reducible apply touch_seqs_cons | with_reducible apply touch_seqs_nil | with_reducible apply touch_seq | with_reducible apply touch_skip | with_reducible apply touch_read | with_reducible (refine requestBy_touch.mono ?_) | with_reducible intro _ | split | dsimp only | exact rfl

theorem execModeRequestSentinel_within : RunsWithin 0x210d75c000000000000000800000000000000000403000f00000000807000000000000000001ce800000000000160012000000000761f6d001800000000406400000000004200007f806d800080000000003d04000000000000000 (execModeRequestSentinel) := by
  unfold execModeRequestSentinel
  repeat' first | with_reducible apply pfWrite_within | with_reducible apply touch_seqs_cons | with_reducible apply touch_seqs_nil | with_reducible apply touch_seq | with_reducible apply touch_skip | with_reducible apply touch_read | with_reducible (refine requestBy_touch.mono ?_) | with_reducible intro _ | split | dsimp only | exact rfl

theorem execModeRequestRun_within : RunsWithin 0x210d75c000000000000000800000000000000000403000f00000000807000000000000000001ce800000000000160012000000000761f6d001800000000406400000000004200007f806d800080000000003d04000000000000000 (execModeRequestRun) := by
  unfold execModeRequestRun
  repeat' first | with_reducible apply pfWrite_within | with_reducible apply touch_seqs_cons | with_reducible apply touch_seqs_nil | with_reducible apply touch_seq | with_reducible apply touch_skip | with_reducible apply touch_read | with_reducible (refine requestBy_touch.mono ?_) | with_reducible intro _ | split | dsimp only | exact rfl

theorem execButtonShipRequest_within {ms : Nat} : RunsWithin 0x10210d75c000000000000000800000000000000000403000f00000000807000000000000000001ce800000000000160012000000000761f6d001800000000406400000000004200007f806d800080000000003d04000000000000000 (execButtonShipRequest ms) := by
  unfold execButtonShipRequest
  repeat' first | with_reducible apply latching_within | with_reducible apply touch_seqs_cons | with_reducible apply touch_seqs_nil | with_reducible apply touch_when | with_reducible apply touch_seq | with_reducible apply touch_skip | with_reducible apply touch_read | with_reducible (refine requestBy_touch.mono ?_) | with_reducible intro _ | split | dsimp only | exact rfl

theorem execButtonRunRequest_within {ms : Nat} : RunsWithin 0x10210d75c000000000000000800000000000000000403000f00000000807000000000000000001ce800000000000160012000000000761f6d001800000000406400000000004200007f806d800080000000003d04000000000000000 (execButtonRunRequest ms) := by
  unfold execButtonRunRequest
  repeat' first | with_reducible apply endsAlways_within | with_reducible apply latching_within | with_reducible apply touch_seqs_cons | with_reducible apply touch_seqs_nil | with_reducible apply touch_seq | with_reducible apply touch_skip | with_reducible apply touch_read | with_reducible (refine requestBy_touch.mono ?_) | with_reducible intro _ | split | dsimp only | exact rfl

theorem curtailUpdate_touch {src : Nat} : (curtailUpdate src).Touches 0x15d7cc000000000000000800000000000000000402000fc000000080700000000000000000000800000000004960012000300000761f6d001800000000406c000000b0000000007f802d800080000000003d04000020008000000 := by
  unfold curtailUpdate
  repeat' first | with_reducible apply touch_seqs_cons | with_reducible apply touch_seqs_nil | with_reducible apply touch_seq | with_reducible apply touch_skip | with_reducible apply touch_read | with_reducible (refine enterMode_touch.mono ?_) | with_reducible intro _ | split | dsimp only | exact rfl

theorem hostCurtail_touch {v : Nat} : (hostCurtail v).Touches 0x15d7cc000000000000000800000000000000000402001fc000000080700000000000000000000800000000004960012000300000761f6d001800000000406c000000b0000000007f802d800080000000003d04000020008000000 := by
  unfold hostCurtail
  repeat' first | with_reducible apply touch_seqs_cons | with_reducible apply touch_seqs_nil | with_reducible apply touch_setR | with_reducible apply touch_seq | with_reducible apply touch_skip | with_reducible apply touch_read | with_reducible (refine curtailUpdate_touch.mono ?_) | with_reducible intro _ | split | dsimp only | exact rfl

theorem execHostCurtailWrite_within {v : Bool} : RunsWithin 0x15d7cc000000000000000800000000000000000402001fc000000080700000000000000000000800000000004960012000300000761f6d001800000000406c000000b0000000007f802d800080000000003d04000020008000000 (execHostCurtailWrite v) := by
  unfold execHostCurtailWrite
  repeat' first | with_reducible apply pfWrite_within | with_reducible apply touch_seqs_cons | with_reducible apply touch_seqs_nil | with_reducible apply touch_seq | with_reducible apply touch_skip | with_reducible apply touch_read | with_reducible (refine hostCurtail_touch.mono ?_) | with_reducible intro _ | split | dsimp only | exact rfl

theorem thermalEvent_touch {kind : Nat} : (thermalEvent kind).Touches 0x4c0000000000000008000000000000000000000000000000000000000000000000000000000000000000010001200000000000000000000000000000000000000000000000000000000000000000000000000000000000000 := by
  unfold thermalEvent
  repeat' first | with_reducible apply touch_seqs_cons | with_reducible apply touch_seqs_nil | with_reducible apply touch_seq | with_reducible apply touch_skip | with_reducible apply touch_read | with_reducible (refine raisePf_touch.mono ?_) | with_reducible intro _ | split | dsimp only | exact rfl

theorem thermalTimes_touch {temp : Int} : (thermalTimes temp).Touches 0x20010000000000000000000000000000000000000000000000000000000000000000000000000000000000000000000000000000000000000000000000000000000000000000000000000000000000000000000000000000000000 := by
  unfold thermalTimes
  repeat' first | with_reducible apply touch_seqs_cons | with_reducible apply touch_seqs_nil | with_reducible apply touch_updKeep | with_reducible apply touch_updPower | with_reducible apply touch_seq | with_reducible apply touch_skip | with_reducible apply touch_read | with_reducible intro _ | split | dsimp only | exact rfl

theorem execThermalSensorRead_within {temps : List Int} : RunsWithin 0x20010000000000000000000000000000000000000003000000000000000000000000000000000000000000000000000000000000000000000000000000000000000000000000000000000000000000000000000000000000000000 (execThermalSensorRead temps) := by
  unfold execThermalSensorRead
  repeat' first | with_reducible apply ends_within | with_reducible apply touch_seqs_cons | with_reducible apply touch_seqs_nil | with_reducible apply touch_setR | with_reducible apply touch_seq | with_reducible apply touch_skip | with_reducible apply touch_read | with_reducible (refine thermalTimes_touch.mono ?_) | with_reducible intro _ | split | dsimp only | exact rfl

theorem execThermalCurtailOn_within : RunsWithin 0x15d7cc000000000000000800000000000000000402400fc000000080700000000000000000000800000000004960012000300000761f6d001800000000406c000000b0000000007f802d800080000000003d04000020008000000 (execThermalCurtailOn) := by
  unfold execThermalCurtailOn
  repeat' first | with_reducible apply ends_within | with_reducible apply touch_seqs_cons | with_reducible apply touch_seqs_nil | with_reducible apply touch_setR | with_reducible apply touch_seq | with_reducible apply touch_skip | with_reducible apply touch_read | with_reducible (refine curtailUpdate_touch.mono ?_) | with_reducible (refine thermalEvent_touch.mono ?_) | with_reducible intro _ | split | dsimp only | exact rfl

theorem execThermalCurtailOff_within : RunsWithin 0x15d7cc000000000000000800000000000000000402400fc000000080700000000000000000000800000000004960012000300000761f6d001800000000406c000000b0000000007f802d800080000000003d04000020008000000 (execThermalCurtailOff) := by
  unfold execThermalCurtailOff
  repeat' first | with_reducible apply ends_within | with_reducible apply touch_seqs_cons | with_reducible apply touch_seqs_nil | with_reducible apply touch_setR | with_reducible apply touch_seq | with_reducible apply touch_skip | with_reducible apply touch_read | with_reducible (refine curtailUpdate_touch.mono ?_) | with_reducible (refine thermalEvent_touch.mono ?_) | with_reducible intro _ | split | dsimp only | exact rfl

theorem thermalShutdown_touch : (thermalShutdown).Touches 0x210df5c000000000000000800000000000000000ce6800f00000000807000000000000000001ce800000000000160012000000000761f6d001800000000406400000000004200007f806d800080000000003d04000000000000000 := by
  unfold thermalShutdown
  repeat' first | with_reducible apply touch_seqs_cons | with_reducible apply touch_seqs_nil | with_reducible apply touch_setR | with_reducible apply touch_incSat | with_reducible apply touch_updKeep | with_reducible apply touch_updPower | with_reducible apply touch_each | with_reducible apply touch_seq | with_reducible apply touch_skip | with_reducible apply touch_read | with_reducible (refine keepCut_touch.mono ?_) | with_reducible (refine leadPark_touch.mono ?_) | with_reducible (refine modeEvent_touch.mono ?_) | with_reducible (refine parkOutput_touch.mono ?_) | with_reducible (refine portsWithdraw_touch.mono ?_) | with_reducible (refine rolesEnd_touch.mono ?_) | with_reducible (refine thermalEvent_touch.mono ?_) | with_reducible intro _ | split | dsimp only | exact rfl

theorem execThermalShutdown_within : RunsWithin 0x210df5c000000000000000800000000000000000ce6800f00000000807000000000000000001ce800000000000160012000000000761f6d001800000000406400000000004200007f806d800080000000003d04000000000000000 (execThermalShutdown) := by
  unfold execThermalShutdown
  repeat' first | with_reducible apply ends_within | with_reducible apply touch_seqs_cons | with_reducible apply touch_seqs_nil | with_reducible apply touch_seq | with_reducible apply touch_skip | with_reducible apply touch_read | with_reducible (refine thermalShutdown_touch.mono ?_) | with_reducible intro _ | split | dsimp only | exact rfl

theorem execThermalShutdownEnd_within : RunsWithin 0x200004c000000000000000800000000000000000003800c000000000000000000000000000000000000000000010001200000000000000000000000000000000000000000000000000000000000000000000000000000000000000 (execThermalShutdownEnd) := by
  unfold execThermalShutdownEnd
  repeat' first | with_reducible apply ends_within | with_reducible apply touch_seqs_cons | with_reducible apply touch_seqs_nil | with_reducible apply touch_setR | with_reducible apply touch_seq | with_reducible apply touch_skip | with_reducible apply touch_read | with_reducible (refine requestRun_touch.mono ?_) | with_reducible (refine thermalEvent_touch.mono ?_) | with_reducible intro _ | split | dsimp only | exact rfl

theorem execIslandLowBattery_within : RunsWithin 0x210d75c000000000000000800000000000000000402000f00000000807000000000000000001ce800000000000160012000000000761f6d001800000000406400000000004200007f806d800080000000003d04000000000000000 (execIslandLowBattery) := by
  unfold execIslandLowBattery
  repeat' first | with_reducible apply ends_within | with_reducible apply touch_seqs_cons | with_reducible apply touch_seqs_nil | with_reducible apply touch_seq | with_reducible apply touch_skip | with_reducible apply touch_read | with_reducible (refine duskStart_touch.mono ?_) | with_reducible intro _ | split | dsimp only | exact rfl

theorem sentinelRound_touch {b : Nat} : (sentinelRound b).Touches 0x1018d74c00000000000000080000000000000000040000000000000080700000000000000000000000000000000160012000000010761f6d00180000200040640000000000027f007f81ef800080000000003d04000000000000000 := by
  unfold sentinelRound
  repeat' first | with_reducible apply touch_seqs_cons | with_reducible apply touch_seqs_nil | with_reducible apply touch_updEng | with_reducible apply touch_each | with_reducible apply touch_seq | with_reducible apply touch_skip | with_reducible apply touch_read | with_reducible (refine gaugeTick_touch.mono ?_) | with_reducible (refine heldDeliver_touch.mono ?_) | with_reducible intro _ | split | dsimp only | exact rfl

theorem execSentinelRound_within {b : Nat} {wake : Bool} : RunsWithin 0x1018d74c00000000000000080000000000000000040000000000000080700000000000000000000000000000000160012000000010761f6d00180000200040640000000000027f007f81ef800080000000003d04000000000000000 (execSentinelRound b wake) := by
  unfold execSentinelRound
  repeat' first | with_reducible apply ends_within | with_reducible apply touch_seqs_cons | with_reducible apply touch_seqs_nil | with_reducible apply touch_seq | with_reducible apply touch_skip | with_reducible apply touch_read | with_reducible (refine sentinelRound_touch.mono ?_) | with_reducible intro _ | split | dsimp only | exact rfl

theorem execPor_within : RunsWithin 0x3ffffdfbf0000000000000000000000000000000008f00207c00380000000000000000000000000000000000000000000000000000000000000000000000000000000000000000000000000000000000000000000000000000000000 (execPor) := by
  unfold execPor
  repeat' first | with_reducible apply endsAlways_within | with_reducible apply touch_seqs_cons | with_reducible apply touch_seqs_nil | with_reducible apply touch_seq | with_reducible apply touch_skip | with_reducible apply touch_read | with_reducible (refine deviceReset_touch.mono ?_) | with_reducible intro _ | split | dsimp only | exact rfl

theorem execBrownout_within {mv us : Nat} : RunsWithin 0x3ffffdfbf0000000000000000000000000000000008f00207c00380000000000000000000000000000000000000000000000000000000000000000000000000000000000000000000000000000000000000000000000000000000000 (execBrownout mv us) := by
  unfold execBrownout
  repeat' first | with_reducible apply endsAlways_within | with_reducible apply touch_seqs_cons | with_reducible apply touch_seqs_nil | with_reducible apply touch_when | with_reducible apply touch_seq | with_reducible apply touch_skip | with_reducible apply touch_read | with_reducible (refine deviceReset_touch.mono ?_) | with_reducible intro _ | split | dsimp only | exact rfl

theorem execBrownoutEnd_within {mv us : Nat} {env : StartEnv} : RunsWithin 0x17fdfffff00000000000000087ff000006000a002f5eb020fc04400c0e0f0241f741412e0fe0018c80000018200497fff2000300060761fef081807c00c10c06c000203bc004200007fefff800898000000133f041382f000807be00 (execBrownoutEnd mv us env) := by
  unfold execBrownoutEnd
  repeat' first | with_reducible apply endsAlways_within | with_reducible apply touch_seqs_cons | with_reducible apply touch_seqs_nil | with_reducible apply touch_when | with_reducible apply touch_seq | with_reducible apply touch_skip | with_reducible apply touch_read | with_reducible (refine startBegin_touch.mono ?_) | with_reducible intro _ | split | dsimp only | exact rfl

theorem execPinReset_within {us : Nat} : RunsWithin 0x3ffffdfbf0000000000000000000000000000000008f00207c00380000000000000000000000000000000000000000000000000000000000000000000000000000000000000000000000000000000000000000000000000000000000 (execPinReset us) := by
  unfold execPinReset
  repeat' first | with_reducible apply endsAlways_within | with_reducible apply touch_seqs_cons | with_reducible apply touch_seqs_nil | with_reducible apply touch_when | with_reducible apply touch_seq | with_reducible apply touch_skip | with_reducible apply touch_read | with_reducible (refine deviceReset_touch.mono ?_) | with_reducible intro _ | split | dsimp only | exact rfl

theorem execResetNRelease_within {env : StartEnv} : RunsWithin 0x17fdfffff00000000000000087ff000006000a002f5eb020fc04400c0e0f0241f741412e0fe0018c80000018200497fff2000300060761fef081807c00c10c06c000203bc004200007fefff800898000000133f041382f000807be00 (execResetNRelease env) := by
  unfold execResetNRelease
  repeat' first | with_reducible apply endsAlways_within | with_reducible apply touch_seqs_cons | with_reducible apply touch_seqs_nil | with_reducible apply touch_when | with_reducible apply touch_seq | with_reducible apply touch_skip | with_reducible apply touch_read | with_reducible (refine startBegin_touch.mono ?_) | with_reducible intro _ | split | dsimp only | exact rfl

theorem execSystemRailInRange_within {core pcie09 pcie18 io : Nat} {env : StartEnv} : RunsWithin 0x17fdfffff00000000000000087ff000006000a002f5eb020fc04400c0e0f0241f741412e0fe0018c80000018200497fff2000300060761fef081807c00c10c06c000203bc004200007fefff800898000000133f041382f000807be00 (execSystemRailInRange core pcie09 pcie18 io env) := by
  unfold execSystemRailInRange
  repeat' first | with_reducible apply endsAlways_within | with_reducible apply touch_seqs_cons | with_reducible apply touch_seqs_nil | with_reducible apply touch_when | with_reducible apply touch_seq | with_reducible apply touch_skip | with_reducible apply touch_read | with_reducible (refine startBegin_touch.mono ?_) | with_reducible intro _ | split | dsimp only | exact rfl

theorem execWarm_within {env : StartEnv} : RunsWithin 0x3ffffffff00000000000000087ff000006000a002fdfb020fc06400c0e0f0241f741412e0fe001bc80000018200497fff2000300060761fef081807c00c10c06c000203bc004200007fefff800998000000133f041382f000807be00 (execWarm env) := by
  unfold execWarm
  repeat' first | with_reducible apply endsAlways_within | with_reducible apply touch_seqs_cons | with_reducible apply touch_seqs_nil | with_reducible apply touch_when | with_reducible apply touch_seq | with_reducible apply touch_skip | with_reducible apply touch_read | with_reducible (refine startBegin_touch.mono ?_) | with_reducible (refine warmReset_touch.mono ?_) | with_reducible intro _ | split | dsimp only | exact rfl

theorem execShipWake_within {cause battery : Nat} : RunsWithin 0x3ffffd77f00000000000000080000000000000000001b020fc10040000000000000000000000000000000000000010001200000000000000000000000000000000000000000000000000000000000000000000000060000000000000 (execShipWake cause battery) := by
  unfold execShipWake
  repeat' first | with_reducible apply endsAlways_within | with_reducible apply touch_seqs_cons | with_reducible apply touch_seqs_nil | with_reducible apply touch_updPower | with_reducible apply touch_seq | with_reducible apply touch_skip | with_reducible apply touch_read | with_reducible (refine requestRun_touch.mono ?_) | with_reducible (refine shipWake_touch.mono ?_) | with_reducible (refine startResume_touch.mono ?_) | with_reducible intro _ | split | dsimp only | exact rfl

theorem execStartStepTimeout_within {us : Nat} : RunsWithin 0x13fdbc35d000000000000000800000000000080000000020fc04000008000001e00000200800000000000018000000000200000000000000000000000001000000000000000000000000000000080000000003504000000000000000 (execStartStepTimeout us) := by
  unfold execStartStepTimeout
  repeat' first | with_reducible apply endsAlways_within | with_reducible apply touch_seqs_cons | with_reducible apply touch_seqs_nil | with_reducible apply touch_seq | with_reducible apply touch_skip | with_reducible apply touch_read | with_reducible (refine haltEnter_touch.mono ?_) | with_reducible intro _ | split | dsimp only | exact rfl

end Sys2Proof.Machine
end

