-- ==== Sys2Proof/Laws/WithinSundial.lean ====
section
/-! SUPPORT. The mask of every operation and meaning of Machine/Sundial.lean (see Laws/Touch.lean): what it can change at all. -/

set_option Elab.async false

set_option maxRecDepth 8192
set_option linter.unreachableTactic false
set_option linter.unusedTactic false

namespace Sys2Proof.Machine

theorem haltCause_within {cause detail : Nat} : RunsWithin 0x13fdbc35d000000000000000800000000000080000000020fc04000008000001e00000200800000000000018000000000200000000000000000000000001000000000000000000000000000000080000000003504000000000000000 (haltCause cause detail) := by
  unfold haltCause
  repeat' first | with_reducible apply latching_within | with_reducible apply touch_seqs_cons | with_reducible apply touch_seqs_nil | with_reducible apply touch_seq | with_reducible apply touch_skip | with_reducible apply touch_read | with_reducible (refine haltEnter_touch.mono ?_) | with_reducible intro _ | split | dsimp only | exact rfl

theorem readbackError_touch {sl : Nat} : (readbackError sl).Touches 0x10d74c000000000000000800000000000000000400000000000000c0702401000000000000000000000000000160012000000000761f6d001800000000406400000000004200007fe86d800080000000003d04000000000000000 := by
  unfold readbackError
  repeat' first | with_reducible apply touch_seqs_cons | with_reducible apply touch_seqs_nil | with_reducible apply touch_updSlots | with_reducible apply touch_seq | with_reducible apply touch_skip | with_reducible apply touch_read | with_reducible (refine latentFail_touch.mono ?_) | with_reducible (refine slotSafeSub_touch.mono ?_) | with_reducible intro _ | split | dsimp only | exact rfl

theorem execThresholdReadback_within {bad : List Nat} : RunsWithin 0x10d74c000000000000000800000000000000000400000000000000c0702401000000000000000000000000000160012000000000761f6d001800000000406400000000004200007fe86d800080000000003d04000000000000000 (execThresholdReadback bad) := by
  unfold execThresholdReadback
  repeat' first | with_reducible apply ends_within | with_reducible apply touch_seqs_cons | with_reducible apply touch_seqs_nil | with_reducible apply touch_each | with_reducible apply touch_when | with_reducible apply touch_seq | with_reducible apply touch_skip | with_reducible apply touch_read | with_reducible (refine readbackError_touch.mono ?_) | with_reducible intro _ | split | dsimp only | exact rfl

theorem execSundialLockstepMismatch_within : RunsWithin 0x13fdbc35d000000000000000800000000000080000000020fc04000008000001e00000200800000000000018000000000200000000000000000000000001000000000000000000000000000000080000000003504000000000000000 (execSundialLockstepMismatch) := by
  unfold execSundialLockstepMismatch
  repeat' first | with_reducible refine haltCause_within.mono ?_ | with_reducible apply touch_seqs_cons | with_reducible apply touch_seqs_nil | with_reducible apply touch_seq | with_reducible apply touch_skip | with_reducible apply touch_read | with_reducible intro _ | split | dsimp only | exact rfl

theorem execSundialSilent_within {us : Nat} : RunsWithin 0x13fdbc35d000000000000000800000000000080000000020fc04000008000001e00000200800000000000018000000000200000000000000000000000001000000000000000000000000000000080000000003504000000000000000 (execSundialSilent us) := by
  unfold execSundialSilent
  repeat' first | with_reducible apply ends_within | with_reducible apply endsAlways_within | with_reducible apply touch_seqs_cons | with_reducible apply touch_seqs_nil | with_reducible apply touch_when | with_reducible apply touch_seq | with_reducible apply touch_skip | with_reducible apply touch_read | with_reducible (refine haltEnter_touch.mono ?_) | with_reducible intro _ | split | dsimp only | exact rfl

theorem sysAsk_touch {t : Nat} : (sysAsk t).Touches 0x400000800000000000000000000000000000000000000000000024200000000000000000000000000000000000000000000000000000000000000000000000000000000000000000000000000000000000000000000000000000000 := by
  unfold sysAsk
  repeat' first | with_reducible apply touch_seqs_cons | with_reducible apply touch_seqs_nil | with_reducible apply touch_setR | with_reducible apply touch_updSun | with_reducible apply touch_withFree | with_reducible apply touch_seq | with_reducible apply touch_skip | with_reducible apply touch_read | with_reducible intro _ | split | dsimp only | exact rfl

theorem sysMiss_touch : (sysMiss).Touches 0x17fdbc35d000000000000000800000000000080000000020fc0400a208000001e00000200800000000000018000010001200000000000000000000000001000000000000000000000000000000080000000003504000000000000000 := by
  unfold sysMiss
  repeat' first | with_reducible apply touch_seqs_cons | with_reducible apply touch_seqs_nil | with_reducible apply touch_setR | with_reducible apply touch_incSat | with_reducible apply touch_updSun | with_reducible apply touch_seq | with_reducible apply touch_skip | with_reducible apply touch_read | with_reducible (refine haltEnter_touch.mono ?_) | with_reducible (refine raisePf_touch.mono ?_) | with_reducible intro _ | split | dsimp only | exact rfl

theorem sysAnswer_touch {qseq token : Nat} : (sysAnswer qseq token).Touches 0x17fdbc35d000000000000000800000000000080000000020fc0400a208000001e00000200800000000000018000010001200000000000000000000000001000000000000000000000000000000080000000003504000000000000000 := by
  unfold sysAnswer
  repeat' first | with_reducible apply touch_seqs_cons | with_reducible apply touch_seqs_nil | with_reducible apply touch_setR | with_reducible apply touch_updSun | with_reducible apply touch_seq | with_reducible apply touch_skip | with_reducible apply touch_read | with_reducible (refine sysMiss_touch.mono ?_) | with_reducible intro _ | split | dsimp only | exact rfl

theorem execSysWdgQuestion_within {answer : Option (Nat × Nat)} : RunsWithin 0x17fdbc3dd000000000000000800000000000080000000020fc0402e208000001e00000200800000000000018000010001200000000000000000000000001000000000000000000000000000000080000000003504000000000000000 (execSysWdgQuestion answer) := by
  unfold execSysWdgQuestion
  repeat' first | with_reducible apply ends_within | with_reducible apply touch_seqs_cons | with_reducible apply touch_seqs_nil | with_reducible apply touch_when | with_reducible apply touch_seq | with_reducible apply touch_skip | with_reducible apply touch_read | with_reducible (refine sysAnswer_touch.mono ?_) | with_reducible (refine sysAsk_touch.mono ?_) | with_reducible (refine sysMiss_touch.mono ?_) | with_reducible intro _ | split | dsimp only | exact rfl

theorem execAutoWarm_within {env : StartEnv} : RunsWithin 0x3ffffffff00000000000000087ff000006000a002fdfb020fc06420c0e0f0241f741412e0fe001bc80000018200497fff2000300060761fef081807c00c10c06c000203bc004200007fefff800998000000133f041382f000807be00 (execAutoWarm env) := by
  unfold execAutoWarm
  repeat' first | with_reducible apply ends_within | with_reducible apply touch_seqs_cons | with_reducible apply touch_seqs_nil | with_reducible apply touch_setR | with_reducible apply touch_updPower | with_reducible apply touch_seq | with_reducible apply touch_skip | with_reducible apply touch_read | with_reducible (refine startBegin_touch.mono ?_) | with_reducible (refine warmReset_touch.mono ?_) | with_reducible intro _ | split | dsimp only | exact rfl

theorem clkFail_touch {kind obj : Nat} : (clkFail kind obj).Touches 0x4c0000000000000008000000000000000000000000000000000000000000000000000000000000000000010001200000000000000000000000000000000000000000000000000000000000000000000000000000000000000 := by
  unfold clkFail
  repeat' first | with_reducible apply touch_seqs_cons | with_reducible apply touch_seqs_nil | with_reducible apply touch_seq | with_reducible apply touch_skip | with_reducible apply touch_read | with_reducible (refine raisePf_touch.mono ?_) | with_reducible intro _ | split | dsimp only | exact rfl

theorem wdgClockStopped_touch {clock : Nat} : (wdgClockStopped clock).Touches 0x13fdbc35d000000000000000800000000000080002000020fc04011c08000001e00000200800000000000018000010001200000000000000000000000001000000000000000000000000000000080000000003504000000000000000 := by
  unfold wdgClockStopped
  repeat' first | with_reducible apply touch_seqs_cons | with_reducible apply touch_seqs_nil | with_reducible apply touch_setR | with_reducible apply touch_incSat | with_reducible apply touch_seq | with_reducible apply touch_skip | with_reducible apply touch_read | with_reducible (refine clkFail_touch.mono ?_) | with_reducible (refine haltEnter_touch.mono ?_) | with_reducible (refine raisePf_touch.mono ?_) | with_reducible intro _ | split | dsimp only | exact rfl

theorem wdgClockSeen_touch {clock : Nat} : (wdgClockSeen clock).Touches 0x13fdbc35d000000000000000800000000000080002000020fc04011c08000001e00000200800000000000018000010001200000000000000000000000001000000000000000000000000000000080000000003504000000000000000 := by
  unfold wdgClockSeen
  repeat' first | with_reducible apply touch_seqs_cons | with_reducible apply touch_seqs_nil | with_reducible apply touch_when | with_reducible apply touch_seq | with_reducible apply touch_skip | with_reducible apply touch_read | with_reducible (refine wdgClockStopped_touch.mono ?_) | with_reducible intro _ | split | dsimp only | exact rfl

theorem execWdgClockFail_within {clock us : Nat} : RunsWithin 0x13fdbc35d000000000000000800000000000080002000020fc04011c08000001e00000200800000000000018000010001200000000000000000000000001000000000000000000000000000000080000000003504000000000000000 (execWdgClockFail clock us) := by
  unfold execWdgClockFail
  repeat' first | with_reducible apply endsAlways_within | with_reducible apply latching_within | with_reducible apply touch_seqs_cons | with_reducible apply touch_seqs_nil | with_reducible apply touch_seq | with_reducible apply touch_skip | with_reducible apply touch_read | with_reducible (refine wdgClockSeen_touch.mono ?_) | with_reducible intro _ | split | dsimp only | exact rfl

theorem pllUnlocked_touch : (pllUnlocked).Touches 0x13fdbc35d000000000000000800000000000088004000020fc04000008000001e00000200800000000000018000000000200000000000000000000000001000000000000000000000000000000080000000003504000000000000000 := by
  unfold pllUnlocked
  repeat' first | with_reducible apply touch_seqs_cons | with_reducible apply touch_seqs_nil | with_reducible apply touch_setR | with_reducible apply touch_incSat | with_reducible apply touch_when | with_reducible apply touch_seq | with_reducible apply touch_skip | with_reducible apply touch_read | with_reducible (refine haltEnter_touch.mono ?_) | with_reducible intro _ | split | dsimp only | exact rfl

theorem execPllUnlock_within {us : Nat} : RunsWithin 0x13fdbc35d000000000000000800000000000088004000020fc04000008000001e00000200800000000000018000000000200000000000000000000000001000000000000000000000000000000080000000003504000000000000000 (execPllUnlock us) := by
  unfold execPllUnlock
  repeat' first | with_reducible apply endsAlways_within | with_reducible apply latching_within | with_reducible apply touch_seqs_cons | with_reducible apply touch_seqs_nil | with_reducible apply touch_seq | with_reducible apply touch_skip | with_reducible apply touch_read | with_reducible (refine pllUnlocked_touch.mono ?_) | with_reducible intro _ | split | dsimp only | exact rfl

theorem execSafCtrlHalt_within : RunsWithin 0x13fdbc35d000000000000000800000000000080000000020fc04000008000001e00000200800000000000018000000000200000000000000000000000001000000000000000000000000000000080000000003504000000000000000 (execSafCtrlHalt) := by
  unfold execSafCtrlHalt
  repeat' first | with_reducible apply pfWrite_within | with_reducible apply touch_seqs_cons | with_reducible apply touch_seqs_nil | with_reducible apply touch_seq | with_reducible apply touch_skip | with_reducible apply touch_read | with_reducible (refine haltEnter_touch.mono ?_) | with_reducible intro _ | split | dsimp only | exact rfl

theorem latentNow_touch : (latentNow).Touches 0x400000000000000000000000000000000000000000000000000000000000000000000000000000000000000000000000000000000000000000000000000000000000000000000000000000000000000000000000000000000000000 := by
  unfold latentNow
  repeat' first | with_reducible apply touch_seqs_cons | with_reducible apply touch_seqs_nil | with_reducible apply touch_updSun | with_reducible apply touch_seq | with_reducible apply touch_skip | with_reducible apply touch_read | with_reducible intro _ | split | dsimp only | exact rfl

theorem execLatentNow_within : RunsWithin 0x400000000000000000000000000000000000000000000000000000000000000000000000000000000000000000000000000000000000000000000000000000000000000000000000000000000000000000000000000000000000000 (execLatentNow) := by
  unfold execLatentNow
  repeat' first | with_reducible apply pfWrite_within | with_reducible apply touch_seqs_cons | with_reducible apply touch_seqs_nil | with_reducible apply touch_seq | with_reducible apply touch_skip | with_reducible apply touch_read | with_reducible (refine latentNow_touch.mono ?_) | with_reducible intro _ | split | dsimp only | exact rfl

theorem latentAction_touch {b obj : Nat} : (latentAction b obj).Touches 0x1d10d75c000000000000000800000000000000000400000000000000e0702401001410078000184800000000000160012000000000761f6d001801000000406400000100004200007fe86d800080000000003d04000000000038400 := by
  unfold latentAction
  repeat' first | with_reducible apply touch_seqs_cons | with_reducible apply touch_seqs_nil | with_reducible apply touch_setR | with_reducible apply touch_incSat | with_reducible apply touch_updPairs | with_reducible apply touch_when | with_reducible apply touch_seq | with_reducible apply touch_skip | with_reducible apply touch_read | with_reducible (refine auxFault_touch.mono ?_) | with_reducible (refine fcvOut_touch.mono ?_) | with_reducible (refine healthSet_touch ?_ ?_) | with_reducible (refine latentFail_touch.mono ?_) | with_reducible (refine readbackError_touch.mono ?_) | with_reducible (refine slotSafeSub_touch.mono ?_) | with_reducible (refine sparesUpdate_touch.mono ?_) | with_reducible intro _ | split | dsimp only | exact rfl

theorem execLatentTest_within {b obj k us : Nat} {pass : Bool} : RunsWithin 0x5d10d75c000000000000000800000000000000000400000000000000e3702c01001410078000184800000000000160012000000000761f6d001801000000406400000100004200007fe86d800080000000003d04000000000038400 (execLatentTest b obj k us pass) := by
  unfold execLatentTest
  repeat' first | with_reducible apply ends_within | with_reducible apply touch_seqs_cons | with_reducible apply touch_seqs_nil | with_reducible apply touch_updSlots | with_reducible apply touch_updSun | with_reducible apply touch_when | with_reducible apply touch_seq | with_reducible apply touch_skip | with_reducible apply touch_read | with_reducible (refine latentAction_touch.mono ?_) | with_reducible (refine maskStandIn_touch.mono ?_) | with_reducible intro _ | split | dsimp only | exact rfl

theorem execSafeRecovered_within : RunsWithin 0x200004c0000000000000008000000000000000000000000000000000000000000000000000000000000000000010001200000000000000000000000000000000000000000000000000000000000000000000000000000000000000 (execSafeRecovered) := by
  unfold execSafeRecovered
  repeat' first | with_reducible apply ends_within | with_reducible apply touch_seqs_cons | with_reducible apply touch_seqs_nil | with_reducible apply touch_updPower | with_reducible apply touch_seq | with_reducible apply touch_skip | with_reducible apply touch_read | with_reducible (refine raisePf_touch.mono ?_) | with_reducible intro _ | split | dsimp only | exact rfl

theorem ssp_within {p : Prog} {M : Nat} (h : p.Touches M) (hm : 0x400000000000000000000000000000000000000000000000000000000000000000000000000000000000000000000000000000000000000000000000000000000000000000000000000000000000000000000000000000000 &&& M = 0x400000000000000000000000000000000000000000000000000000000000000000000000000000000000000000000000000000000000000000000000000000000000000000000000000000000000000000000000000000000) : RunsWithin M (ssp p) :=
  ends_within (touch_when (touch_read fun _ => touch_seq (emit_touch.mono hm) h))

theorem sspTake_touch {cmd seq data answer : Nat} : (sspTake cmd seq data answer).Touches 0x17fdbc35d000000000000000800000000000080000000020fc04000008008001e80000200800000000000018000000000200000000000000000000000001000000000000000000000000000000080000000003504000000000000000 := by
  unfold sspTake
  repeat' first | with_reducible apply touch_seqs_cons | with_reducible apply touch_seqs_nil | with_reducible apply touch_setR | with_reducible apply touch_updSun | with_reducible apply touch_seq | with_reducible apply touch_skip | with_reducible apply touch_read | with_reducible (refine haltEnter_touch.mono ?_) | with_reducible intro _ | split | dsimp only | exact rfl

theorem sspRead_touch {seq i : Nat} : (sspRead seq i).Touches 0x17fdbc3dd000000000000000800000000000080000000020fc04000008008001e80000200800000000000018000000000200000000000000000000000001000000000000000000000000000000080000000003504000000000000000 := by
  unfold sspRead
  repeat' first | with_reducible apply touch_seqs_cons | with_reducible apply touch_seqs_nil | with_reducible apply touch_withFree | with_reducible apply touch_seq | with_reducible apply touch_skip | with_reducible apply touch_read | with_reducible (refine sspTake_touch.mono ?_) | with_reducible intro _ | split | dsimp only | exact rfl

theorem execSspNop_within {seq : Nat} : RunsWithin 0x17fdbc35d000000000000000800000000000080000000020fc04000008008001e80000200800000000000018000000000200000000000000000000000001000000000000000000000000000000080000000003504000000000000000 (execSspNop seq) := by
  unfold execSspNop
  repeat' first | with_reducible apply ssp_within | with_reducible apply touch_seqs_cons | with_reducible apply touch_seqs_nil | with_reducible apply touch_seq | with_reducible apply touch_skip | with_reducible apply touch_read | with_reducible (refine sspTake_touch.mono ?_) | with_reducible intro _ | split | dsimp only | exact rfl

theorem execSspRead_within {seq i : Nat} : RunsWithin 0x17fdbc3dd000000000000000800000000000080000000020fc04000008008001e80000200800000000000018000000000200000000000000000000000001000000000000000000000000000000080000000003504000000000000000 (execSspRead seq i) := by
  unfold execSspRead
  repeat' first | with_reducible apply ssp_within | with_reducible apply touch_seqs_cons | with_reducible apply touch_seqs_nil | with_reducible apply touch_seq | with_reducible apply touch_skip | with_reducible apply touch_read | with_reducible (refine sspRead_touch.mono ?_) | with_reducible intro _ | split | dsimp only | exact rfl

theorem execSspHeartbeat_within {seq data : Nat} : RunsWithin 0x17fdbc35d000000000000000800000000000080000000020fc04000008008001e80000200800000000000018000000000200000000000000000000000001000000000000000000000000000000080000000003504000000000000000 (execSspHeartbeat seq data) := by
  unfold execSspHeartbeat
  repeat' first | with_reducible apply ssp_within | with_reducible apply touch_seqs_cons | with_reducible apply touch_seqs_nil | with_reducible apply touch_seq | with_reducible apply touch_skip | with_reducible apply touch_read | with_reducible (refine sspTake_touch.mono ?_) | with_reducible intro _ | split | dsimp only | exact rfl

theorem execSspHaltReq_within {seq data : Nat} : RunsWithin 0x17fdbc35d000000000000000800000000000080000000020fc04000008008001e80000200800000000000018000000000200000000000000000000000001000000000000000000000000000000080000000003504000000000000000 (execSspHaltReq seq data) := by
  unfold execSspHaltReq
  repeat' first | with_reducible apply ssp_within | with_reducible apply touch_seqs_cons | with_reducible apply touch_seqs_nil | with_reducible apply touch_seq | with_reducible apply touch_skip | with_reducible apply touch_read | with_reducible (refine sspTake_touch.mono ?_) | with_reducible intro _ | split | dsimp only | exact rfl

theorem execSspFrameError_within : RunsWithin 0x400000c00000000000000000000000000000000000000000000000000004000000000000000000000000000000000000000000000000000000000000000000000000000000000000000000000000000000000000000000000000000 (execSspFrameError) := by
  unfold execSspFrameError
  repeat' first | with_reducible apply ssp_within | with_reducible apply touch_seqs_cons | with_reducible apply touch_seqs_nil | with_reducible apply touch_incSat | with_reducible apply touch_updSun | with_reducible apply touch_withFree | with_reducible apply touch_seq | with_reducible apply touch_skip | with_reducible apply touch_read | with_reducible intro _ | split | dsimp only | exact rfl

theorem execSspSilent_within : RunsWithin 0x4000004c0000000000000008000000000000000000000000000000000000000080000000000000000000000000010001200000000000000000000000000000000000000000000000000000000000000000000000000000000000000 (execSspSilent) := by
  unfold execSspSilent
  repeat' first | with_reducible apply ends_within | with_reducible apply touch_seqs_cons | with_reducible apply touch_seqs_nil | with_reducible apply touch_setR | with_reducible apply touch_updSun | with_reducible apply touch_when | with_reducible apply touch_seq | with_reducible apply touch_skip | with_reducible apply touch_read | with_reducible (refine raisePf_touch.mono ?_) | with_reducible intro _ | split | dsimp only | exact rfl

end Sys2Proof.Machine
end

