-- ==== Sys2Proof/Laws/WithinClocks.lean ====
section
/-! SUPPORT. The mask of every operation and meaning of Machine/Clocks.lean (see Laws/Touch.lean): what it can change at all. -/

set_option Elab.async false

set_option maxRecDepth 8192
set_option linter.unreachableTactic false
set_option linter.unusedTactic false

namespace Sys2Proof.Machine

theorem pllTo_touch {ref slew : Nat} : (pllTo ref slew).Touches 0x8000004c0000000000000008000000000000040180000000000000000000000000000000000000000000000000010001200000000000000000000000000000000000000000000000000000000000000000000000000000000000000 := by
  unfold pllTo
  repeat' first | with_reducible apply touch_seqs_cons | with_reducible apply touch_seqs_nil | with_reducible apply touch_setR | with_reducible apply touch_incSat | with_reducible apply touch_updClk | with_reducible apply touch_seq | with_reducible apply touch_skip | with_reducible apply touch_read | with_reducible (refine clkFail_touch.mono ?_) | with_reducible intro _ | split | dsimp only | exact rfl

theorem crystalStopped_touch {slew : Nat} : (crystalStopped slew).Touches 0x1bfdbc35d00000000000000080000000000008403b000020fc04011c08000001e00000200800000000000018000010001200000000000000000000000001000000000000000000000000000000080000000003504000000000002000 := by
  unfold crystalStopped
  repeat' first | with_reducible apply touch_seqs_cons | with_reducible apply touch_seqs_nil | with_reducible apply touch_setR | with_reducible apply touch_when | with_reducible apply touch_seq | with_reducible apply touch_skip | with_reducible apply touch_read | with_reducible (refine clkFail_touch.mono ?_) | with_reducible (refine healthSet_touch ?_ ?_) | with_reducible (refine pllTo_touch.mono ?_) | with_reducible (refine wdgClockStopped_touch.mono ?_) | with_reducible intro _ | split | dsimp only | exact rfl

theorem execCrystalFail_within {us slew : Nat} : RunsWithin 0x1bfdbc35d00000000000000080000000000008403b000020fc04011c08000001e00000200800000000000018000010001200000000000000000000000001000000000000000000000000000000080000000003504000000000002000 (execCrystalFail us slew) := by
  unfold execCrystalFail
  repeat' first | with_reducible apply endsAlways_within | with_reducible apply latching_within | with_reducible apply touch_seqs_cons | with_reducible apply touch_seqs_nil | with_reducible apply touch_seq | with_reducible apply touch_skip | with_reducible apply touch_read | with_reducible (refine crystalStopped_touch.mono ?_) | with_reducible intro _ | split | dsimp only | exact rfl

theorem execPllRefSwitch_within {noEdge hz slew : Nat} : RunsWithin 0x8000004c0000000000000008000000000000040180000000000000000000000000000000000000000000000000010001200000000000000000000000000000000000000000000000000000000000000000000000000000000000000 (execPllRefSwitch noEdge hz slew) := by
  unfold execPllRefSwitch
  repeat' first | with_reducible apply ends_within | with_reducible apply touch_seqs_cons | with_reducible apply touch_seqs_nil | with_reducible apply touch_seq | with_reducible apply touch_skip | with_reducible apply touch_read | with_reducible (refine pllTo_touch.mono ?_) | with_reducible intro _ | split | dsimp only | exact rfl

theorem crystalBack_touch : (crystalBack).Touches 0x4c0000000000000008000000000000000210000000000000000000000000000000000000000000000000010001200000000000000000000000000000000000000000000000000000000000000000000000000000000002000 := by
  unfold crystalBack
  repeat' first | with_reducible apply touch_seqs_cons | with_reducible apply touch_seqs_nil | with_reducible apply touch_setR | with_reducible apply touch_seq | with_reducible apply touch_skip | with_reducible apply touch_read | with_reducible (refine healthSet_touch ?_ ?_) | with_reducible intro _ | split | dsimp only | exact rfl

theorem execPllRefReturn_within {ref hz ms slew : Nat} : RunsWithin 0x8000004c0000000000000008000000000000040390000000000000000000000000000000000000000000000000010001200000000000000000000000000000000000000000000000000000000000000000000000000000000002000 (execPllRefReturn ref hz ms slew) := by
  unfold execPllRefReturn
  repeat' first | with_reducible apply ends_within | with_reducible apply touch_seqs_cons | with_reducible apply touch_seqs_nil | with_reducible apply touch_seq | with_reducible apply touch_skip | with_reducible apply touch_read | with_reducible (refine crystalBack_touch.mono ?_) | with_reducible (refine pllTo_touch.mono ?_) | with_reducible intro _ | split | dsimp only | exact rfl

theorem hostGone_touch : (hostGone).Touches 0x1058c25c0000000000000008000000000000000000000000000000000000000000000200800000800000018000010001200030000000000000000000001000080000008000000000000000000000000000000000000000000000000 := by
  unfold hostGone
  repeat' first | with_reducible apply touch_seqs_cons | with_reducible apply touch_seqs_nil | with_reducible apply touch_each | with_reducible apply touch_seq | with_reducible apply touch_skip | with_reducible apply touch_read | with_reducible (refine discardWork_touch.mono ?_) | with_reducible (refine holdFn_touch.mono ?_) | with_reducible intro _ | split | dsimp only | exact rfl

theorem islandActs_touch {i : Nat} : (islandActs i).Touches 0x13fdbd75d000000000000000800000000000080000400020fc2500000c070001f34140207800018c800000182000160012000300000761f6d081803000010c06c00000180004200007fe86d800080000000003d04000000000018600 := by
  unfold islandActs
  repeat' first | with_reducible apply touch_seqs_cons | with_reducible apply touch_seqs_nil | with_reducible apply touch_setR | with_reducible apply touch_each | with_reducible apply touch_when | with_reducible apply touch_seq | with_reducible apply touch_skip | with_reducible apply touch_read | with_reducible (refine auxFault_touch.mono ?_) | with_reducible (refine bedFault_touch.mono ?_) | with_reducible (refine haltEnter_touch.mono ?_) | with_reducible (refine healthSet_touch ?_ ?_) | with_reducible (refine hostGone_touch.mono ?_) | with_reducible (refine icvFail_touch.mono ?_) | with_reducible (refine planterDead_touch.mono ?_) | with_reducible (refine slotSafeSub_touch.mono ?_) | with_reducible intro _ | split | dsimp only | exact rfl

theorem islandLost_touch {i : Nat} : (islandLost i).Touches 0x1bfdbd75d000000000000000800000000000080000400020fc2500000c070001f34140207800018c800000182000160012000300000761f6d081803000010c06c00000180004200007fe86d800080000000003d04000000000018600 := by
  unfold islandLost
  repeat' first | with_reducible apply touch_seqs_cons | with_reducible apply touch_seqs_nil | with_reducible apply touch_updClk | with_reducible apply touch_seq | with_reducible apply touch_skip | with_reducible apply touch_read | with_reducible (refine islandActs_touch.mono ?_) | with_reducible intro _ | split | dsimp only | exact rfl

theorem oscFail_touch {i : Nat} : (oscFail i).Touches 0x1bfdbd75d000000000000000800000000000082cc0400020fc2500000c070001f34140207800018c800000182000160012000300000761f6d081803000010c06c00000180004200007fe86d800080000000003d04000000000018600 := by
  unfold oscFail
  repeat' first | with_reducible apply touch_seqs_cons | with_reducible apply touch_seqs_nil | with_reducible apply touch_setR | with_reducible apply touch_updR | with_reducible apply touch_incSat | with_reducible apply touch_seq | with_reducible apply touch_skip | with_reducible apply touch_read | with_reducible (refine bedFault_touch.mono ?_) | with_reducible (refine clkFail_touch.mono ?_) | with_reducible (refine islandLost_touch.mono ?_) | with_reducible intro _ | split | dsimp only | exact rfl

theorem execIslandOscFail_within {i us : Nat} {silent : Bool} : RunsWithin 0x1bfdbd75d000000000000000800000000000082cc0400020fc2500000c070001f34140207800018c800000182000160012000300000761f6d081803000010c06c00000180004200007fe86d800080000000003d04000000000018600 (execIslandOscFail i us silent) := by
  unfold execIslandOscFail
  repeat' first | with_reducible apply ends_within | with_reducible apply touch_seqs_cons | with_reducible apply touch_seqs_nil | with_reducible apply touch_seq | with_reducible apply touch_skip | with_reducible apply touch_read | with_reducible (refine oscFail_touch.mono ?_) | with_reducible intro _ | split | dsimp only | exact rfl

theorem execTimeTreeUpdate_within {corr : Nat} : RunsWithin 0x800000000000000000000000000000000000110100000000000000000000000000000000000000000000000000000000000000000000000000000000000000000000000000000000000000000000000000000000000000000000000 (execTimeTreeUpdate corr) := by
  unfold execTimeTreeUpdate
  repeat' first | with_reducible apply ends_within | with_reducible apply touch_seqs_cons | with_reducible apply touch_seqs_nil | with_reducible apply touch_setR | with_reducible apply touch_incSat | with_reducible apply touch_updClk | with_reducible apply touch_seq | with_reducible apply touch_skip | with_reducible apply touch_read | with_reducible intro _ | split | dsimp only | exact rfl

theorem laneFault_touch {fabric : Bool} {link dir : Nat} : (laneFault fabric link dir).Touches 0x1bfdbd77d000000000000000800000000000080000400020fc2500000c070001f34140207800018c800000182000160012000300000761f6d081803000010c06c00000180004200007fe86d800080000000003d04000000000019600 := by
  unfold laneFault
  repeat' first | with_reducible apply touch_seqs_cons | with_reducible apply touch_seqs_nil | with_reducible apply touch_updLanes | with_reducible apply touch_seq | with_reducible apply touch_skip | with_reducible apply touch_read | with_reducible (refine islandLost_touch.mono ?_) | with_reducible (refine laneSteer_touch.mono ?_) | with_reducible intro _ | split | dsimp only | exact rfl

theorem execRunnerFlitReceive_within {fabric : Bool} {link dir flit got parity : Nat} : RunsWithin 0x1bfdbd77d000000000000000800000000000080000400020fc2500000c070001f34140207800018c800000182000160012000300000761f6d081803000010c06c00000180004200007fe86d800080000000003d04000000000019600 (execRunnerFlitReceive fabric link dir flit got parity) := by
  unfold execRunnerFlitReceive
  repeat' first | with_reducible apply ends_within | with_reducible apply touch_seqs_cons | with_reducible apply touch_seqs_nil | with_reducible apply touch_updLanes | with_reducible apply touch_seq | with_reducible apply touch_skip | with_reducible apply touch_read | with_reducible (refine laneFault_touch.mono ?_) | with_reducible intro _ | split | dsimp only | exact rfl

theorem execLaneFault_within {fabric : Bool} {link dir ns : Nat} : RunsWithin 0x1bfdbd77d000000000000000800000000000080000400020fc2500000c070001f34140207800018c800000182000160012000300000761f6d081803000010c06c00000180004200007fe86d800080000000003d04000000000019600 (execLaneFault fabric link dir ns) := by
  unfold execLaneFault
  repeat' first | with_reducible apply ends_within | with_reducible apply touch_seqs_cons | with_reducible apply touch_seqs_nil | with_reducible apply touch_seq | with_reducible apply touch_skip | with_reducible apply touch_read | with_reducible (refine laneFault_touch.mono ?_) | with_reducible intro _ | split | dsimp only | exact rfl

theorem feedGone_touch {feed : Nat} : (feedGone feed).Touches 0x10d74c000000000000000800000000000000000400000000000000c0700001000000000000184800000000000160012000000000761f6d001800000000406400000000004200007fe86d800080000000003d04000000000048000 := by
  unfold feedGone
  repeat' first | with_reducible apply touch_seqs_cons | with_reducible apply touch_seqs_nil | with_reducible apply touch_setR | with_reducible apply touch_seq | with_reducible apply touch_skip | with_reducible apply touch_read | with_reducible (refine planterDead_touch.mono ?_) | with_reducible (refine raiseHealth_touch.mono ?_) | with_reducible intro _ | split | dsimp only | exact rfl

theorem execFeedLost_within {feed us : Nat} : RunsWithin 0x10010d74c000000000000000800000000000000000400000000000000c0700001000000000000184800000000000160012000000000761f6d001800000000406400000000004200007fe86d800080000000003d04000000000048000 (execFeedLost feed us) := by
  unfold execFeedLost
  repeat' first | with_reducible apply endsAlways_within | with_reducible apply latching_within | with_reducible apply touch_seqs_cons | with_reducible apply touch_seqs_nil | with_reducible apply touch_seq | with_reducible apply touch_skip | with_reducible apply touch_read | with_reducible (refine feedGone_touch.mono ?_) | with_reducible intro _ | split | dsimp only | exact rfl

theorem execFeedGood_within {feed us : Nat} : RunsWithin 0x4c0000000000000008000000000000000000000000000000000000000000000000000000000000000000010001200000000000000000000000000000000000000000000000000000000000000000000000000000000040000 (execFeedGood feed us) := by
  unfold execFeedGood
  repeat' first | with_reducible apply ends_within | with_reducible apply touch_seqs_cons | with_reducible apply touch_seqs_nil | with_reducible apply touch_setR | with_reducible apply touch_seq | with_reducible apply touch_skip | with_reducible apply touch_read | with_reducible (refine raiseHealth_touch.mono ?_) | with_reducible intro _ | split | dsimp only | exact rfl

end Sys2Proof.Machine
end

