-- ==== Sys2Proof/Laws/WithinPd.lean ====
section
/-! SUPPORT. The mask of every operation and meaning of Machine/Pd.lean (see Laws/Touch.lean): what it can change at all. -/

set_option Elab.async false

set_option maxRecDepth 8192
set_option linter.unreachableTactic false
set_option linter.unusedTactic false

namespace Sys2Proof.Machine

theorem execPdRdDetect_within {k orient : Nat} {ra : Bool} : RunsWithin 0x40000000000000000000000000000000000000000000000000000000000000000000000000180000000000000000000000000000000000000000000000000000000000000000000000000000000000000000000000000000000 (execPdRdDetect k orient ra) := by
  unfold execPdRdDetect
  repeat' first | with_reducible apply ends_within | with_reducible apply touch_seqs_cons | with_reducible apply touch_seqs_nil | with_reducible apply touch_setR | with_reducible apply touch_updPorts | with_reducible apply touch_seq | with_reducible apply touch_skip | with_reducible apply touch_read | with_reducible intro _ | split | dsimp only | exact rfl

theorem execPdAttach_within {k : Nat} : RunsWithin 0x404c0000000000000008000000000000000000000000000000000000000000000000000018280000000000010001200000000000000000000000000000000000000000000000000000000000000000000000000000000000000 (execPdAttach k) := by
  unfold execPdAttach
  repeat' first | with_reducible apply ends_within | with_reducible apply touch_seqs_cons | with_reducible apply touch_seqs_nil | with_reducible apply touch_setR | with_reducible apply touch_updPorts | with_reducible apply touch_seq | with_reducible apply touch_skip | with_reducible apply touch_read | with_reducible (refine portStart_touch.mono ?_) | with_reducible (refine raisePort_touch.mono ?_) | with_reducible intro _ | split | dsimp only | exact rfl

theorem cableUnmarked_touch {k : Nat} : (cableUnmarked k).Touches 0x400000000000000000000000000000000000000000000000000000000000000000000001e0000000000000000000000000000000000000000000000000000000000000000000000000000000000000000000000000000000000 := by
  unfold cableUnmarked
  repeat' first | with_reducible apply touch_seqs_cons | with_reducible apply touch_seqs_nil | with_reducible apply touch_setR | with_reducible apply touch_updPorts | with_reducible apply touch_seq | with_reducible apply touch_skip | with_reducible apply touch_read | with_reducible intro _ | split | dsimp only | exact rfl

theorem cableAsk_touch {k : Nat} : (cableAsk k).Touches 0x40400000000000000000000000000000000000000000000000000000000000000000000000000000000000000000000000000000000000000000000000000000000000000000000000000000000000000000000000000000000 := by
  unfold cableAsk
  repeat' first | with_reducible apply touch_seqs_cons | with_reducible apply touch_seqs_nil | with_reducible apply touch_updPorts | with_reducible apply touch_seq | with_reducible apply touch_skip | with_reducible apply touch_read | with_reducible (refine pdSend_touch.mono ?_) | with_reducible (refine sendCaps_touch.mono ?_) | with_reducible intro _ | split | dsimp only | exact rfl

theorem execPdVbusReady_within {k vbus : Nat} : RunsWithin 0x40400000000000000000000000000000000000000000000000000000000000000000000200000000000000000000000000000000000000000000000000000000000000000000000000000000000000000000000000000000000 (execPdVbusReady k vbus) := by
  unfold execPdVbusReady
  repeat' first | with_reducible apply ends_within | with_reducible apply touch_seqs_cons | with_reducible apply touch_seqs_nil | with_reducible apply touch_setR | with_reducible apply touch_seq | with_reducible apply touch_skip | with_reducible apply touch_read | with_reducible (refine cableAsk_touch.mono ?_) | with_reducible intro _ | split | dsimp only | exact rfl

theorem cableTook_touch {k curCode vmax : Nat} {epr : Bool} : (cableTook k curCode vmax epr).Touches 0x404c00000000000000080000000000000000000000000000000000000000000000000001e0200000000000010001200000000000000000000000000000000000000000000000000000000000000000000000000000000000000 := by
  unfold cableTook
  repeat' first | with_reducible apply touch_seqs_cons | with_reducible apply touch_seqs_nil | with_reducible apply touch_setR | with_reducible apply touch_updPorts | with_reducible apply touch_seq | with_reducible apply touch_skip | with_reducible apply touch_read | with_reducible (refine pdSend_touch.mono ?_) | with_reducible (refine raisePort_touch.mono ?_) | with_reducible (refine sendCaps_touch.mono ?_) | with_reducible intro _ | split | dsimp only | exact rfl

theorem requestAnswered_touch {k : Nat} : (requestAnswered k).Touches 0x405c0000000000000008000000000000000000000000000000000000000000000000000000000000000000000000200000000000000000000000000000000000000000000000000000000000000000000000000000000000000 := by
  unfold requestAnswered
  repeat' first | with_reducible apply touch_seqs_cons | with_reducible apply touch_seqs_nil | with_reducible apply touch_seq | with_reducible apply touch_skip | with_reducible apply touch_read | with_reducible (refine actionsDone_touch.mono ?_) | with_reducible intro _ | split | dsimp only | exact rfl

theorem requestJudged_touch {k pos mv ma rev : Nat} : (requestJudged k pos mv ma rev).Touches 0x10d75c000000000000000800000000000000000400000000000000807000000000000000181ce000000000000160012000000000761f6d001800000000406400000000000200007f806d800080000000003d04000000000000000 := by
  unfold requestJudged
  repeat' first | with_reducible apply touch_seqs_cons | with_reducible apply touch_seqs_nil | with_reducible apply touch_setR | with_reducible apply touch_updPorts | with_reducible apply touch_when | with_reducible apply touch_seq | with_reducible apply touch_skip | with_reducible apply touch_read | with_reducible (refine hardReset_touch.mono ?_) | with_reducible (refine offerPaid_touch.mono ?_) | with_reducible (refine pdSend_touch.mono ?_) | with_reducible (refine requestAnswered_touch.mono ?_) | with_reducible intro _ | split | dsimp only | exact rfl

theorem requestTook_touch {k pos mv ma rev : Nat} : (requestTook k pos mv ma rev).Touches 0x10d75c000000000000000800000000000000000400000000000000807000000000000000181ce000000000000160012000000000761f6d001800000000406400000000000200007f806d800080000000003d04000000000000000 := by
  unfold requestTook
  repeat' first | with_reducible apply touch_seqs_cons | with_reducible apply touch_seqs_nil | with_reducible apply touch_when | with_reducible apply touch_seq | with_reducible apply touch_skip | with_reducible apply touch_read | with_reducible (refine requestJudged_touch.mono ?_) | with_reducible (refine sendCaps_touch.mono ?_) | with_reducible intro _ | split | dsimp only | exact rfl

theorem execPdPsRdy_within {k vbus us : Nat} : RunsWithin 0x10d75c0000000000000008000000000000000004000000000000008070000000000000001a1ce000000000000160012000000000761f6d001800000000406400000000000200007f806d800080000000003d04000000000000000 (execPdPsRdy k vbus us) := by
  unfold execPdPsRdy
  repeat' first | with_reducible apply ends_within | with_reducible apply touch_seqs_cons | with_reducible apply touch_seqs_nil | with_reducible apply touch_setR | with_reducible apply touch_updPorts | with_reducible apply touch_seq | with_reducible apply touch_skip | with_reducible apply touch_read | with_reducible (refine offerPaid_touch.mono ?_) | with_reducible (refine pdSend_touch.mono ?_) | with_reducible (refine raisePort_touch.mono ?_) | with_reducible intro _ | split | dsimp only | exact rfl

theorem eprTook_touch {k : Nat} : (eprTook k).Touches 0x40400000000000000000000000000000000000000000000000000000000000000000000000000000000000000000000000000000000000000000000000000000000000000000000000000000000000000000000000000000000 := by
  unfold eprTook
  repeat' first | with_reducible apply touch_seqs_cons | with_reducible apply touch_seqs_nil | with_reducible apply touch_updPorts | with_reducible apply touch_seq | with_reducible apply touch_skip | with_reducible apply touch_read | with_reducible (refine pdSend_touch.mono ?_) | with_reducible (refine sendCaps_touch.mono ?_) | with_reducible intro _ | split | dsimp only | exact rfl

theorem execPdEprKeepaliveTimeout_within {k : Nat} : RunsWithin 0x10d75c000000000000000800000000000000000400000000000000807000000000000000081ce000000000000160012000000000761f6d001800000000406400000000000200007f806d800080000000003d04000000000000000 (execPdEprKeepaliveTimeout k) := by
  unfold execPdEprKeepaliveTimeout
  repeat' first | with_reducible apply ends_within | with_reducible apply touch_seqs_cons | with_reducible apply touch_seqs_nil | with_reducible apply touch_seq | with_reducible apply touch_skip | with_reducible apply touch_read | with_reducible (refine hardReset_touch.mono ?_) | with_reducible intro _ | split | dsimp only | exact rfl

theorem swapTook_touch {k : Nat} : (swapTook k).Touches 0x40400000000000000000000000000000000000000000000000000000000000000000000000200000000000000000000000000000000000000000000000000000000000000000000000000000000000000000000000000000000 := by
  unfold swapTook
  repeat' first | with_reducible apply touch_seqs_cons | with_reducible apply touch_seqs_nil | with_reducible apply touch_setR | with_reducible apply touch_updPorts | with_reducible apply touch_seq | with_reducible apply touch_skip | with_reducible apply touch_read | with_reducible (refine pdSend_touch.mono ?_) | with_reducible intro _ | split | dsimp only | exact rfl

theorem execPdVconnOvercurrent_within {k ma us : Nat} : RunsWithin 0x404c00000000000000080000000000000000000000000000000000000000000000000041e0200000000000010001200000000000000000000000000000000000000000000000000000000000000000000000000000000000000 (execPdVconnOvercurrent k ma us) := by
  unfold execPdVconnOvercurrent
  repeat' first | with_reducible apply ends_within | with_reducible apply touch_seqs_cons | with_reducible apply touch_seqs_nil | with_reducible apply touch_setR | with_reducible apply touch_seq | with_reducible apply touch_skip | with_reducible apply touch_read | with_reducible (refine cableUnmarked_touch.mono ?_) | with_reducible (refine offerChanged_touch.mono ?_) | with_reducible (refine pdFault_touch.mono ?_) | with_reducible (refine sendCaps_touch.mono ?_) | with_reducible intro _ | split | dsimp only | exact rfl

theorem execPdHardReset_within {k : Nat} {received : Bool} {amid : Option Nat} : RunsWithin 0x10d75c000000000000000800000000000000000400000000000000807000000000000000281ce000000000000160012000000000761f6d001800000000406400000000000200007f806d800080000000003d04000000000000000 (execPdHardReset k received amid) := by
  unfold execPdHardReset
  repeat' first | with_reducible apply ends_within | with_reducible apply touch_seqs_cons | with_reducible apply touch_seqs_nil | with_reducible apply touch_seq | with_reducible apply touch_skip | with_reducible apply touch_read | with_reducible (refine hardReset_touch.mono ?_) | with_reducible (refine pdReceive_touch ?_ ?_) | with_reducible intro _ | split | dsimp only | exact rfl

theorem execPdHardResetPark_within {k : Nat} : RunsWithin 0x43000000000000000000000000000000000000000000000000008000000000000000000000000000000000000000000000000000000000000000000000000000000000000000000000000080000000003504000000000000000 (execPdHardResetPark k) := by
  unfold execPdHardResetPark
  repeat' first | with_reducible apply ends_within | with_reducible apply touch_seqs_cons | with_reducible apply touch_seqs_nil | with_reducible apply touch_updPorts | with_reducible apply touch_seq | with_reducible apply touch_skip | with_reducible apply touch_read | with_reducible (refine vbusOff_touch.mono ?_) | with_reducible intro _ | split | dsimp only | exact rfl

theorem execPdVsafe0vHoldEnd_within {k since : Nat} : RunsWithin 0x40000000000000000000000000000000000000000000000000000000000000000000000018200000000000000000000000000000000000000000000000000000000000000000000000000000000000000000000000000000000 (execPdVsafe0vHoldEnd k since) := by
  unfold execPdVsafe0vHoldEnd
  repeat' first | with_reducible apply ends_within | with_reducible apply touch_seqs_cons | with_reducible apply touch_seqs_nil | with_reducible apply touch_setR | with_reducible apply touch_updPorts | with_reducible apply touch_seq | with_reducible apply touch_skip | with_reducible apply touch_read | with_reducible (refine portStart_touch.mono ?_) | with_reducible intro _ | split | dsimp only | exact rfl

theorem softTook_touch {k : Nat} : (softTook k).Touches 0x404c0000000000000008000000000000000000000000000000000000000000000000001000000000000000010001200000000000000000000000000000000000000000000000000000000000000000000000000000000000000 := by
  unfold softTook
  repeat' first | with_reducible apply touch_seqs_cons | with_reducible apply touch_seqs_nil | with_reducible apply touch_incSat | with_reducible apply touch_seq | with_reducible apply touch_skip | with_reducible apply touch_read | with_reducible (refine pdSend_touch.mono ?_) | with_reducible (refine raisePort_touch.mono ?_) | with_reducible (refine sendCaps_touch.mono ?_) | with_reducible intro _ | split | dsimp only | exact rfl

theorem execPdSoftResetTimeout_within {k : Nat} : RunsWithin 0x10d75c000000000000000800000000000000000400000000000000807000000000000000081ce000000000000160012000000000761f6d001800000000406400000000000200007f806d800080000000003d04000000000000000 (execPdSoftResetTimeout k) := by
  unfold execPdSoftResetTimeout
  repeat' first | with_reducible apply ends_within | with_reducible apply touch_seqs_cons | with_reducible apply touch_seqs_nil | with_reducible apply touch_seq | with_reducible apply touch_skip | with_reducible apply touch_read | with_reducible (refine hardReset_touch.mono ?_) | with_reducible intro _ | split | dsimp only | exact rfl

theorem unusedTook_touch {k : Nat} {vdm structured : Bool} : (unusedTook k vdm structured).Touches 0x400000000000000000000000000000000000000000000000000000000000000000000000000000000000000000000000000000000000000000000000000000000000000000000000000000000000000000000000000000000 := by
  unfold unusedTook
  repeat' first | with_reducible apply touch_seqs_cons | with_reducible apply touch_seqs_nil | with_reducible apply touch_seq | with_reducible apply touch_skip | with_reducible apply touch_read | with_reducible (refine pdSend_touch.mono ?_) | with_reducible intro _ | split | dsimp only | exact rfl

theorem svcFails_touch {k status : Nat} : (svcFails k status).Touches 0x10d75c000000000000000800000000000000000400000000000000807000000000000000181ce000000000000160012000000000761f6d001800000000406400000000000200007f806d800080000000003d04000000000000000 := by
  unfold svcFails
  repeat' first | with_reducible apply touch_seqs_cons | with_reducible apply touch_seqs_nil | with_reducible apply touch_updPorts | with_reducible apply touch_seq | with_reducible apply touch_skip | with_reducible apply touch_read | with_reducible (refine actionsDone_touch.mono ?_) | with_reducible (refine offerPaid_touch.mono ?_) | with_reducible (refine raisePort_touch.mono ?_) | with_reducible intro _ | split | dsimp only | exact rfl

theorem discoverTook_touch {k : Nat} {listed : Bool} : (discoverTook k listed).Touches 0x10d75c000000000000000800000000000000000400000000000000807000000000000000181ce000000000000160012000000000761f6d001800000000406400000000000200007f806d800080000000003d04000000000000000 := by
  unfold discoverTook
  repeat' first | with_reducible apply touch_seqs_cons | with_reducible apply touch_seqs_nil | with_reducible apply touch_updPorts | with_reducible apply touch_seq | with_reducible apply touch_skip | with_reducible apply touch_read | with_reducible (refine pdSend_touch.mono ?_) | with_reducible (refine svcFails_touch.mono ?_) | with_reducible intro _ | split | dsimp only | exact rfl

theorem modeTook_touch {k : Nat} : (modeTook k).Touches 0x10d75c000000000000000800000000000000000400000000000000807000000000000000181ce000000000000160012000000000761f6d001800000000406400000000000200007f806d800080000000003d04000000000000000 := by
  unfold modeTook
  repeat' first | with_reducible apply touch_seqs_cons | with_reducible apply touch_seqs_nil | with_reducible apply touch_setR | with_reducible apply touch_updPorts | with_reducible apply touch_seq | with_reducible apply touch_skip | with_reducible apply touch_read | with_reducible (refine actionsDone_touch.mono ?_) | with_reducible (refine offerPaid_touch.mono ?_) | with_reducible (refine pdSend_touch.mono ?_) | with_reducible (refine raisePort_touch.mono ?_) | with_reducible (refine svcFails_touch.mono ?_) | with_reducible intro _ | split | dsimp only | exact rfl

theorem pdTake_touch {k : Nat} {x : PdIn} : (pdTake k x).Touches 0x10d75c00000000000000080000000000000000040000000000000080700000000000000019fce000000000000160012000000000761f6d001800000000406400000000000200007f806d800080000000003d04000000000000000 := by
  cases x <;> unfold pdTake
  all_goals
    repeat' first | with_reducible apply touch_seqs_cons | with_reducible apply touch_seqs_nil | with_reducible apply touch_seq | with_reducible apply touch_skip | with_reducible apply touch_read | with_reducible (refine cableTook_touch.mono ?_) | with_reducible (refine discoverTook_touch.mono ?_) | with_reducible (refine eprTook_touch.mono ?_) | with_reducible (refine modeTook_touch.mono ?_) | with_reducible (refine requestTook_touch.mono ?_) | with_reducible (refine softTook_touch.mono ?_) | with_reducible (refine swapTook_touch.mono ?_) | with_reducible (refine unusedTook_touch.mono ?_) | with_reducible intro _ | split | dsimp only | exact rfl

theorem pdMessage_touch {k : Nat} {amid : Option Nat} {m : PdIn} : (pdMessage k amid m).Touches 0x10d75c00000000000000080000000000000000040000000000000080700000000000000039fce000000000000160012000000000761f6d001800000000406400000000000200007f806d800080000000003d04000000000000000 := by
  unfold pdMessage
  repeat' first | with_reducible apply touch_seqs_cons | with_reducible apply touch_seqs_nil | with_reducible apply touch_updPorts | with_reducible apply touch_seq | with_reducible apply touch_skip | with_reducible apply touch_read | with_reducible (refine pdReceive_touch ?_ ?_) | with_reducible (refine pdTake_touch.mono ?_) | with_reducible intro _ | split | dsimp only | exact rfl

theorem inboxTake_touch {k : Nat} : (inboxTake k).Touches 0x10d75c00000000000000080000000000000000040000000000000080700000000000000019fce000000000000160012000000000761f6d001800000000406400000000000200007f806d800080000000003d04000000000000000 := by
  unfold inboxTake
  repeat' first | with_reducible apply touch_seqs_cons | with_reducible apply touch_seqs_nil | with_reducible apply touch_updPorts | with_reducible apply touch_each | with_reducible apply touch_seq | with_reducible apply touch_skip | with_reducible apply touch_read | with_reducible (refine pdTake_touch.mono ?_) | with_reducible intro _ | split | dsimp only | exact rfl

theorem execPdCableIdentity_within {k curCode vmax : Nat} {epr : Bool} {amid : Option Nat} : RunsWithin 0x10d75c00000000000000080000000000000000040000000000000080700000000000000039fce000000000000160012000000000761f6d001800000000406400000000000200007f806d800080000000003d04000000000000000 (execPdCableIdentity k curCode vmax epr amid) := by
  unfold execPdCableIdentity
  repeat' first | with_reducible apply ends_within | with_reducible apply touch_seqs_cons | with_reducible apply touch_seqs_nil | with_reducible apply touch_seq | with_reducible apply touch_skip | with_reducible apply touch_read | with_reducible (refine pdMessage_touch.mono ?_) | with_reducible intro _ | split | dsimp only | exact rfl

theorem execPdRequest_within {k pos mv ma rev : Nat} {amid : Option Nat} : RunsWithin 0x10d75c00000000000000080000000000000000040000000000000080700000000000000039fce000000000000160012000000000761f6d001800000000406400000000000200007f806d800080000000003d04000000000000000 (execPdRequest k pos mv ma rev amid) := by
  unfold execPdRequest
  repeat' first | with_reducible apply ends_within | with_reducible apply touch_seqs_cons | with_reducible apply touch_seqs_nil | with_reducible apply touch_seq | with_reducible apply touch_skip | with_reducible apply touch_read | with_reducible (refine pdMessage_touch.mono ?_) | with_reducible intro _ | split | dsimp only | exact rfl

theorem execPdEprEnter_within {k : Nat} {amid : Option Nat} : RunsWithin 0x10d75c00000000000000080000000000000000040000000000000080700000000000000039fce000000000000160012000000000761f6d001800000000406400000000000200007f806d800080000000003d04000000000000000 (execPdEprEnter k amid) := by
  unfold execPdEprEnter
  repeat' first | with_reducible apply ends_within | with_reducible apply touch_seqs_cons | with_reducible apply touch_seqs_nil | with_reducible apply touch_seq | with_reducible apply touch_skip | with_reducible apply touch_read | with_reducible (refine pdMessage_touch.mono ?_) | with_reducible intro _ | split | dsimp only | exact rfl

theorem execPdVconnSwap_within {k : Nat} {amid : Option Nat} : RunsWithin 0x10d75c00000000000000080000000000000000040000000000000080700000000000000039fce000000000000160012000000000761f6d001800000000406400000000000200007f806d800080000000003d04000000000000000 (execPdVconnSwap k amid) := by
  unfold execPdVconnSwap
  repeat' first | with_reducible apply ends_within | with_reducible apply touch_seqs_cons | with_reducible apply touch_seqs_nil | with_reducible apply touch_seq | with_reducible apply touch_skip | with_reducible apply touch_read | with_reducible (refine pdMessage_touch.mono ?_) | with_reducible intro _ | split | dsimp only | exact rfl

theorem execPdSoftResetReceived_within {k : Nat} {amid : Option Nat} : RunsWithin 0x10d75c00000000000000080000000000000000040000000000000080700000000000000039fce000000000000160012000000000761f6d001800000000406400000000000200007f806d800080000000003d04000000000000000 (execPdSoftResetReceived k amid) := by
  unfold execPdSoftResetReceived
  repeat' first | with_reducible apply ends_within | with_reducible apply touch_seqs_cons | with_reducible apply touch_seqs_nil | with_reducible apply touch_seq | with_reducible apply touch_skip | with_reducible apply touch_read | with_reducible (refine pdMessage_touch.mono ?_) | with_reducible intro _ | split | dsimp only | exact rfl

theorem execPdUnsupportedMessage_within {k : Nat} {vdm structured : Bool} {amid : Option Nat} : RunsWithin 0x10d75c00000000000000080000000000000000040000000000000080700000000000000039fce000000000000160012000000000761f6d001800000000406400000000000200007f806d800080000000003d04000000000000000 (execPdUnsupportedMessage k vdm structured amid) := by
  unfold execPdUnsupportedMessage
  repeat' first | with_reducible apply ends_within | with_reducible apply touch_seqs_cons | with_reducible apply touch_seqs_nil | with_reducible apply touch_seq | with_reducible apply touch_skip | with_reducible apply touch_read | with_reducible (refine pdMessage_touch.mono ?_) | with_reducible intro _ | split | dsimp only | exact rfl

theorem execPdDiscoverResponse_within {k : Nat} {listed : Bool} {amid : Option Nat} : RunsWithin 0x10d75c00000000000000080000000000000000040000000000000080700000000000000039fce000000000000160012000000000761f6d001800000000406400000000000200007f806d800080000000003d04000000000000000 (execPdDiscoverResponse k listed amid) := by
  unfold execPdDiscoverResponse
  repeat' first | with_reducible apply ends_within | with_reducible apply touch_seqs_cons | with_reducible apply touch_seqs_nil | with_reducible apply touch_seq | with_reducible apply touch_skip | with_reducible apply touch_read | with_reducible (refine pdMessage_touch.mono ?_) | with_reducible intro _ | split | dsimp only | exact rfl

theorem execPdEnterModeAck_within {k : Nat} {amid : Option Nat} : RunsWithin 0x10d75c00000000000000080000000000000000040000000000000080700000000000000039fce000000000000160012000000000761f6d001800000000406400000000000200007f806d800080000000003d04000000000000000 (execPdEnterModeAck k amid) := by
  unfold execPdEnterModeAck
  repeat' first | with_reducible apply ends_within | with_reducible apply touch_seqs_cons | with_reducible apply touch_seqs_nil | with_reducible apply touch_seq | with_reducible apply touch_skip | with_reducible apply touch_read | with_reducible (refine pdMessage_touch.mono ?_) | with_reducible intro _ | split | dsimp only | exact rfl

theorem execPdSenderResponseTimeout_within {k : Nat} : RunsWithin 0x10d75c00000000000000080000000000000000040000000000000080700000000000000019fce000000000000160012000000000761f6d001800000000406400000000000200007f806d800080000000003d04000000000000000 (execPdSenderResponseTimeout k) := by
  unfold execPdSenderResponseTimeout
  repeat' first | with_reducible apply ends_within | with_reducible apply touch_seqs_cons | with_reducible apply touch_seqs_nil | with_reducible apply touch_updPorts | with_reducible apply touch_seq | with_reducible apply touch_skip | with_reducible apply touch_read | with_reducible (refine actionsDone_touch.mono ?_) | with_reducible (refine cableAsk_touch.mono ?_) | with_reducible (refine cableUnmarked_touch.mono ?_) | with_reducible (refine hardReset_touch.mono ?_) | with_reducible (refine offerPaid_touch.mono ?_) | with_reducible (refine sendCaps_touch.mono ?_) | with_reducible (refine svcFails_touch.mono ?_) | with_reducible intro _ | split | dsimp only | exact rfl

theorem execPdDetach_within {k : Nat} : RunsWithin 0x10d75c00000000000000080000000000000000040000000000000080700000000000000001fce800000000000160012000000000761f6d001800000000406400000000000200007f806d800080000000003d04000000000000000 (execPdDetach k) := by
  unfold execPdDetach
  repeat' first | with_reducible apply ends_within | with_reducible apply touch_seqs_cons | with_reducible apply touch_seqs_nil | with_reducible apply touch_setR | with_reducible apply touch_seq | with_reducible apply touch_skip | with_reducible apply touch_read | with_reducible (refine portDetach_touch.mono ?_) | with_reducible intro _ | split | dsimp only | exact rfl

theorem execPdOvp_within {k vbus : Nat} : RunsWithin 0x10d75c000000000000000800000000000000000400000000000000807000000000000000481ce000000000000160012000000000761f6d001800000000406400000000000200007f806d800080000000003d04000000000000000 (execPdOvp k vbus) := by
  unfold execPdOvp
  repeat' first | with_reducible apply ends_within | with_reducible apply touch_seqs_cons | with_reducible apply touch_seqs_nil | with_reducible apply touch_seq | with_reducible apply touch_skip | with_reducible apply touch_read | with_reducible (refine hardReset_touch.mono ?_) | with_reducible (refine pdFault_touch.mono ?_) | with_reducible (refine vbusOff_touch.mono ?_) | with_reducible intro _ | split | dsimp only | exact rfl

theorem execPdOcp_within {k : Nat} : RunsWithin 0x10d75c000000000000000800000000000000000400000000000000807000000000000000481ce000000000000160012000000000761f6d001800000000406400000000000200007f806d800080000000003d04000000000000000 (execPdOcp k) := by
  unfold execPdOcp
  repeat' first | with_reducible apply ends_within | with_reducible apply touch_seqs_cons | with_reducible apply touch_seqs_nil | with_reducible apply touch_seq | with_reducible apply touch_skip | with_reducible apply touch_read | with_reducible (refine hardReset_touch.mono ?_) | with_reducible (refine pdFault_touch.mono ?_) | with_reducible intro _ | split | dsimp only | exact rfl

theorem execPdErrorRecoveryEnd_within {k : Nat} : RunsWithin 0x10d75c000000000000000800000000000000000400000000000000807000000000000000401c6800000000000160012000000000761f6d001800000000406400000000000200007f806d800080000000003d04000000000000000 (execPdErrorRecoveryEnd k) := by
  unfold execPdErrorRecoveryEnd
  repeat' first | with_reducible apply ends_within | with_reducible apply touch_seqs_cons | with_reducible apply touch_seqs_nil | with_reducible apply touch_setR | with_reducible apply touch_updPorts | with_reducible apply touch_seq | with_reducible apply touch_skip | with_reducible apply touch_read | with_reducible (refine actionsDone_touch.mono ?_) | with_reducible (refine contractGone_touch.mono ?_) | with_reducible (refine pdFault_touch.mono ?_) | with_reducible intro _ | split | dsimp only | exact rfl

theorem portFaultClear_touch {k : Nat} : (portFaultClear k).Touches 0x80040000000000000000000000000000000000000000000000000000000000000100000000000080000000000000000000000000000000000000000000000000000000000000000000000000800000000001000000000000000000 := by
  unfold portFaultClear
  repeat' first | with_reducible apply touch_seqs_cons | with_reducible apply touch_seqs_nil | with_reducible apply touch_setR | with_reducible apply touch_updPorts | with_reducible apply touch_seq | with_reducible apply touch_skip | with_reducible apply touch_read | with_reducible (refine taskAgain_touch.mono ?_) | with_reducible intro _ | split | dsimp only | exact rfl

theorem execPdFaultClear_within {k : Nat} : RunsWithin 0x80040000000000000000000000000001e00000000000000000000000000000000100000008000080000000000000000000000000000000000000000000000000000000000000000000000000800000000001000000000000000000 (execPdFaultClear k) := by
  unfold execPdFaultClear
  repeat' first | with_reducible apply pfWrites_within | with_reducible apply touch_seqs_cons | with_reducible apply touch_seqs_nil | with_reducible apply touch_seq | with_reducible apply touch_skip | with_reducible apply touch_read | with_reducible (refine portFaultClear_touch.mono ?_) | with_reducible intro _ | split | dsimp only | exact rfl

end Sys2Proof.Machine
end

