-- ==== Sys2Proof/Laws/WithinEngines.lean ====
section
/-! SUPPORT. The mask of every operation and meaning of Machine/Engines.lean (see Laws/Touch.lean): what it can change at all. -/

set_option Elab.async false

set_option maxRecDepth 8192
set_option linter.unreachableTactic false
set_option linter.unusedTactic false

namespace Sys2Proof.Machine

theorem execTaskPeriod_within {t cycles : Nat} {acts : List TineAct} : RunsWithin 0x180000400000000000000000000000000000000000000000000000000000000010000000000000000000000000000000000000000000000000000000000000000000000000000000000000000000000000000000000000000000000 (execTaskPeriod t cycles acts) := by
  unfold execTaskPeriod
  repeat' first | with_reducible apply ends_within | with_reducible apply touch_seqs_cons | with_reducible apply touch_seqs_nil | with_reducible apply touch_updTasks | with_reducible apply touch_seq | with_reducible apply touch_skip | with_reducible apply touch_read | with_reducible (refine runPeriod_touch.mono ?_) | with_reducible (refine tracePair_touch.mono ?_) | with_reducible intro _ | split | dsimp only | exact rfl

theorem taskFaultDue_touch {t kind : Nat} {acts : List TineAct} : (taskFaultDue t kind acts).Touches 0x1910d75c000000000000000800000000000000000400000000000000c0704001103400078000184800000000000160012000000000761f6d001800000000406400000100004200007fe86d800080000000003d04000000000008400 := by
  unfold taskFaultDue
  repeat' first | with_reducible apply touch_seqs_cons | with_reducible apply touch_seqs_nil | with_reducible apply touch_updTasks | with_reducible apply touch_seq | with_reducible apply touch_skip | with_reducible apply touch_read | with_reducible (refine cutActs_touch.mono ?_) | with_reducible (refine taskFault_touch.mono ?_) | with_reducible intro _ | split | dsimp only | exact rfl

theorem execTaskFault_within {t : Nat} {overrun : Bool} {acts : List TineAct} : RunsWithin 0x1910d75c000000000000000800000000000000000400000000000000c0704001103400078000184800000000000160012000000000761f6d001800000000406400000100004200007fe86d800080000000003d04000000000008400 (execTaskFault t overrun acts) := by
  unfold execTaskFault
  repeat' first | with_reducible apply ends_within | with_reducible apply touch_seqs_cons | with_reducible apply touch_seqs_nil | with_reducible apply touch_seq | with_reducible apply touch_skip | with_reducible apply touch_read | with_reducible (refine taskFaultDue_touch.mono ?_) | with_reducible intro _ | split | dsimp only | exact rfl

theorem execPairDisagree_within {p point : Nat} {acts : List TineAct} : RunsWithin 0x3d10d75c000000000000000800000000000000000400020002100000c0700001341404078000184800000000000160012000000000761f6d001800000000406400000100004200007fe86d800080000000003d04000000000008600 (execPairDisagree p point acts) := by
  unfold execPairDisagree
  repeat' first | with_reducible apply ends_within | with_reducible apply touch_seqs_cons | with_reducible apply touch_seqs_nil | with_reducible apply touch_incSat | with_reducible apply touch_updEng | with_reducible apply touch_updPairs | with_reducible apply touch_seq | with_reducible apply touch_skip | with_reducible apply touch_read | with_reducible (refine bedFault_touch.mono ?_) | with_reducible (refine cutActs_touch.mono ?_) | with_reducible (refine migrate_touch.mono ?_) | with_reducible (refine raisePf_touch.mono ?_) | with_reducible (refine sparesUpdate_touch.mono ?_) | with_reducible (refine toCheckpoint_touch.mono ?_) | with_reducible (refine tracePair_touch.mono ?_) | with_reducible intro _ | split | dsimp only | exact rfl

theorem execPairSelfTestEnd_within {p : Nat} {pass : Bool} : RunsWithin 0x1d10d75c000000000000000800000000000000000400000000000000c0700001001410078000184800000000000160012000000000761f6d001800000000406400000100004200007fe86d800080000000003d04000000000008400 (execPairSelfTestEnd p pass) := by
  unfold execPairSelfTestEnd
  repeat' first | with_reducible apply ends_within | with_reducible apply touch_seqs_cons | with_reducible apply touch_seqs_nil | with_reducible apply touch_incSat | with_reducible apply touch_updPairs | with_reducible apply touch_seq | with_reducible apply touch_skip | with_reducible apply touch_read | with_reducible (refine sparesUpdate_touch.mono ?_) | with_reducible intro _ | split | dsimp only | exact rfl

theorem taskResumes_touch {t : Nat} : (taskResumes t).Touches 0x1919d75c000000000000000800000000000000000400000000000000c0704001103c08078019fce800000180000160012000000010761f6d00180000200040640000010000427f007fe9ef800080000000003d04080000000008400 := by
  unfold taskResumes
  repeat' first | with_reducible apply touch_seqs_cons | with_reducible apply touch_seqs_nil | with_reducible apply touch_updTasks | with_reducible apply touch_seq | with_reducible apply touch_skip | with_reducible apply touch_read | with_reducible (refine busHeldTake_touch.mono ?_) | with_reducible (refine heldDeliver_touch.mono ?_) | with_reducible (refine inboxTake_touch.mono ?_) | with_reducible (refine migrated_touch.mono ?_) | with_reducible (refine taskFault_touch.mono ?_) | with_reducible intro _ | split | dsimp only | exact rfl

theorem execTaskMigrationResume_within {t : Nat} : RunsWithin 0x1919d75c000000000000000800000000000000000400000000000000c0704001103c08078019fce800000180000160012000000010761f6d00180000200040640000010000427f007fe9ef800080000000003d04080000000008400 (execTaskMigrationResume t) := by
  unfold execTaskMigrationResume
  repeat' first | with_reducible apply ends_within | with_reducible apply touch_seqs_cons | with_reducible apply touch_seqs_nil | with_reducible apply touch_seq | with_reducible apply touch_skip | with_reducible apply touch_read | with_reducible (refine taskResumes_touch.mono ?_) | with_reducible intro _ | split | dsimp only | exact rfl

theorem execBedFault_within {b : Nat} : RunsWithin 0x3d10d75c000000000000000800000000000000000400020002100000c0700001341400078000184800000000000160012000000000761f6d001800000000406400000100004200007fe86d800080000000003d04000000000008600 (execBedFault b) := by
  unfold execBedFault
  repeat' first | with_reducible apply ends_within | with_reducible apply touch_seqs_cons | with_reducible apply touch_seqs_nil | with_reducible apply touch_seq | with_reducible apply touch_skip | with_reducible apply touch_read | with_reducible (refine bedFault_touch.mono ?_) | with_reducible intro _ | split | dsimp only | exact rfl

theorem execBarrierRelease_within {k : Nat} : RunsWithin 0x180000400000000000000000000000000000000000000000000000000000000010000000000000000000000000000000000000000000000000000000000000000000000000000000000000000000000000000000000000000000000 (execBarrierRelease k) := by
  unfold execBarrierRelease
  repeat' first | with_reducible apply ends_within | with_reducible apply touch_seqs_cons | with_reducible apply touch_seqs_nil | with_reducible apply touch_updTasks | with_reducible apply touch_each | with_reducible apply touch_seq | with_reducible apply touch_skip | with_reducible apply touch_read | with_reducible (refine runPeriod_touch.mono ?_) | with_reducible (refine tracePair_touch.mono ?_) | with_reducible intro _ | split | dsimp only | exact rfl

theorem execBarrierTimeout_within {k t : Nat} : RunsWithin 0x1910d75c000000000000000800000000000000000400000000000000c0704001103400078000184800000000000160012000000000761f6d001800000000406400000100004200007fe86d800080000000003d04000000000008400 (execBarrierTimeout k t) := by
  unfold execBarrierTimeout
  repeat' first | with_reducible apply ends_within | with_reducible apply touch_seqs_cons | with_reducible apply touch_seqs_nil | with_reducible apply touch_seq | with_reducible apply touch_skip | with_reducible apply touch_read | with_reducible (refine taskFaultDue_touch.mono ?_) | with_reducible (refine tracePair_touch.mono ?_) | with_reducible intro _ | split | dsimp only | exact rfl

theorem tasksHome_touch {b : Nat} : (tasksHome b).Touches 0x80000000000000000000000000000000000000000000000000000000000000000140002000000000000000000000000000000000000000000000000000000000000000000000000000000000000000000000000000000000000000 := by
  unfold tasksHome
  repeat' first | with_reducible apply touch_seqs_cons | with_reducible apply touch_seqs_nil | with_reducible apply touch_setR | with_reducible apply touch_each | with_reducible apply touch_seq | with_reducible apply touch_skip | with_reducible apply touch_read | with_reducible (refine planMove_touch.mono ?_) | with_reducible intro _ | split | dsimp only | exact rfl

theorem pairsBack_touch {b : Nat} : (pairsBack b).Touches 0x40000000000000000000000000000000000000000000000000000000000000000000000000000000000000000000000000000000000000000000000000000000000000000000000000000000000000000000000000000000000000 := by
  unfold pairsBack
  repeat' first | with_reducible apply touch_seqs_cons | with_reducible apply touch_seqs_nil | with_reducible apply touch_updPairs | with_reducible apply touch_each | with_reducible apply touch_seq | with_reducible apply touch_skip | with_reducible apply touch_read | with_reducible intro _ | split | dsimp only | exact rfl

theorem execRolloutBedStep_within {bad : List Nat} : RunsWithin 0x3d10d75c000000000000000800000000000000000400020002100000c0700001341400078000184800000000000160012000000000761f6d001800000000406400020108004200007fe86d800080000000003d04000000000008e00 (execRolloutBedStep bad) := by
  unfold execRolloutBedStep
  repeat' first | with_reducible apply ends_within | with_reducible apply touch_seqs_cons | with_reducible apply touch_seqs_nil | with_reducible apply touch_setR | with_reducible apply touch_updEng | with_reducible apply touch_updPairs | with_reducible apply touch_each | with_reducible apply touch_seq | with_reducible apply touch_skip | with_reducible apply touch_read | with_reducible (refine bedEmpties_touch.mono ?_) | with_reducible (refine bedFault_touch.mono ?_) | with_reducible (refine bedReturns_touch.mono ?_) | with_reducible (refine pairsBack_touch.mono ?_) | with_reducible (refine raisePf_touch.mono ?_) | with_reducible (refine rollAbort_touch.mono ?_) | with_reducible (refine rootPlanned_touch.mono ?_) | with_reducible (refine schemaUpdate_touch.mono ?_) | with_reducible (refine sparesUpdate_touch.mono ?_) | with_reducible (refine tasksHome_touch.mono ?_) | with_reducible (refine traceWrite_touch.mono ?_) | with_reducible intro _ | split | dsimp only | exact rfl

theorem execRolloutDwellEnd_within : RunsWithin 0x1910d75c000000000000000800000000000000000400000000000000c0700001001400078000184800000000000160012000000000761f6d001800000000406400000100004200007fe86d800080000000003d04000000000008000 (execRolloutDwellEnd) := by
  unfold execRolloutDwellEnd
  repeat' first | with_reducible apply ends_within | with_reducible apply touch_seqs_cons | with_reducible apply touch_seqs_nil | with_reducible apply touch_updEng | with_reducible apply touch_seq | with_reducible apply touch_skip | with_reducible apply touch_read | with_reducible (refine keepRequest_touch.mono ?_) | with_reducible (refine rollBed_touch.mono ?_) | with_reducible intro _ | split | dsimp only | exact rfl

theorem execMicrocodeStageComplete_within {img : Image} {cause : Nat} : RunsWithin 0x1000005c0000000000000008000000000000000000000000000000000000000000000300e40000000000000000010001a00806000000000000000000000000000000000000000000000000000000000000000000000000000000000 (execMicrocodeStageComplete img cause) := by
  unfold execMicrocodeStageComplete
  repeat' first | with_reducible apply ends_within | with_reducible apply touch_seqs_cons | with_reducible apply touch_seqs_nil | with_reducible apply touch_setR | with_reducible apply touch_updEng | with_reducible apply touch_seq | with_reducible apply touch_skip | with_reducible apply touch_read | with_reducible (refine finishRun_touch.mono ?_) | with_reducible (refine imageStaged_touch.mono ?_) | with_reducible (refine raisePf_touch.mono ?_) | with_reducible (refine ringError_touch.mono ?_) | with_reducible intro _ | split | dsimp only | exact rfl

theorem execTraceWindowRead_within : RunsWithin 0x28000000000000000000000000000000000000000000000000000000000000000000000000000000000000000000000000000000000000000000000 (execTraceWindowRead) := by
  unfold execTraceWindowRead
  repeat' first | with_reducible apply ends_within | with_reducible apply touch_seqs_cons | with_reducible apply touch_seqs_nil | with_reducible apply touch_updR | with_reducible apply touch_seq | with_reducible apply touch_skip | with_reducible apply touch_read | with_reducible (refine traceShow_touch.mono ?_) | with_reducible intro _ | split | dsimp only | exact rfl

theorem pairShow_touch {p : Nat} : (pairShow p).Touches 0x3c000000000000000000000000000000000000000000000000000000000000000000000000000000000000000000000000000000000000000000 := by
  unfold pairShow
  repeat' first | with_reducible apply touch_seqs_cons | with_reducible apply touch_seqs_nil | with_reducible apply touch_setR | with_reducible apply touch_seq | with_reducible apply touch_skip | with_reducible apply touch_read | with_reducible intro _ | split | dsimp only | exact rfl

theorem execPairSnapshotSelect_within {p : Nat} : RunsWithin 0x1e0000000000000000000000000000000003e000000000000000000000000000000000000000000000000000000000000000000000000000000000000000000000000000000000000000000 (execPairSnapshotSelect p) := by
  unfold execPairSnapshotSelect
  repeat' first | with_reducible apply pfWrites_within | with_reducible apply touch_seqs_cons | with_reducible apply touch_seqs_nil | with_reducible apply touch_setR | with_reducible apply touch_seq | with_reducible apply touch_skip | with_reducible apply touch_read | with_reducible (refine pairShow_touch.mono ?_) | with_reducible intro _ | split | dsimp only | exact rfl

theorem execTineBreakpointHit_within {p addr : Nat} : RunsWithin 0x440000000000000000000000000000000008000000000000000000200000000000000000000000000000000000000000000000000000000000000000000000000000000000000000000000000000000000000000000000000000000 (execTineBreakpointHit p addr) := by
  unfold execTineBreakpointHit
  repeat' first | with_reducible apply ends_within | with_reducible apply touch_seqs_cons | with_reducible apply touch_seqs_nil | with_reducible apply touch_setR | with_reducible apply touch_updPairs | with_reducible apply touch_updSun | with_reducible apply touch_seq | with_reducible apply touch_skip | with_reducible apply touch_read | with_reducible intro _ | split | dsimp only | exact rfl

end Sys2Proof.Machine
end

