-- ==== Sys2Proof/Laws/WithinOpSlots.lean ====
section
/-! SUPPORT. The mask of every operation and meaning of Machine/OpSlots.lean (see Laws/Touch.lean): what it can change at all. -/

set_option Elab.async false

set_option maxRecDepth 8192
set_option linter.unreachableTactic false
set_option linter.unusedTactic false

namespace Sys2Proof.Machine

theorem opDone_touch {c : Ctl} {code : Nat} {result : State → Nat} : (opDone c code result).Touches 0x5c0000000000000008000000000000000000000000000000000000000000000000000000000000000000000000200000000000000000000000000000000000000000000000000000000000000000000000000000000000000 := by
  unfold opDone
  repeat' first | with_reducible apply touch_seqs_cons | with_reducible apply touch_seqs_nil | with_reducible apply touch_seq | with_reducible apply touch_skip | with_reducible apply touch_read | with_reducible (refine complete_touch.mono ?_) | with_reducible (refine histAdd_touch.mono ?_) | with_reducible (refine tokenNote_touch.mono ?_) | with_reducible intro _ | split | dsimp only | exact rfl

theorem opTold_touch {c : Ctl} {code result : Nat} : (opTold c code result).Touches 0x5c0000000000000008000000000000000000000000000000000000000000000000000000000000000000000000200000000000000000000000000000000000000000000000000000000000000000000000000000000000000 := by
  unfold opTold
  repeat' first | with_reducible apply touch_seqs_cons | with_reducible apply touch_seqs_nil | with_reducible apply touch_seq | with_reducible apply touch_skip | with_reducible apply touch_read | with_reducible (refine complete_touch.mono ?_) | with_reducible (refine tokenNote_touch.mono ?_) | with_reducible intro _ | split | dsimp only | exact rfl

theorem claimDo_touch {c : Ctl} : (claimDo c).Touches 0x125c0000000000000008000000000000000004000000000000000000000000000000000000000000000000000000200000000000000000000000000000000000000000000000000000000000000000000000000000000000000 := by
  unfold claimDo
  repeat' first | with_reducible apply touch_seqs_cons | with_reducible apply touch_seqs_nil | with_reducible apply touch_updSlots | with_reducible apply touch_seq | with_reducible apply touch_skip | with_reducible apply touch_read | with_reducible (refine keepRequest_touch.mono ?_) | with_reducible (refine opTold_touch.mono ?_) | with_reducible (refine runOn_touch.mono ?_) | with_reducible intro _ | split | dsimp only | exact rfl

theorem releaseDo_touch {c : Ctl} : (releaseDo c).Touches 0x10d75c00000000000000080000000000000000040000000000000080700000000000000000000000000000000160012000000000761f6d001800000000406400000000004200007f806d800080000000003d04000000000000000 := by
  unfold releaseDo
  repeat' first | with_reducible apply touch_seqs_cons | with_reducible apply touch_seqs_nil | with_reducible apply touch_updSlots | with_reducible apply touch_seq | with_reducible apply touch_skip | with_reducible apply touch_read | with_reducible (refine endAll_touch.mono ?_) | with_reducible (refine keepRequest_touch.mono ?_) | with_reducible (refine runOn_touch.mono ?_) | with_reducible intro _ | split | dsimp only | exact rfl

theorem resvSet_touch {sl soc tick : Nat} : (resvSet sl soc tick).Touches 0x2000000000000000000000000000000000000000000000000000000000000000000000000000000000000000000000000000000000000000000000000640000000000000000000000000000000000000000000000000000000 := by
  unfold resvSet
  repeat' first | with_reducible apply touch_seqs_cons | with_reducible apply touch_seqs_nil | with_reducible apply touch_setR | with_reducible apply touch_updSlots | with_reducible apply touch_seq | with_reducible apply touch_skip | with_reducible apply touch_read | with_reducible (refine resvEnd_touch.mono ?_) | with_reducible intro _ | split | dsimp only | exact rfl

theorem chargeStartDo_touch {c : Ctl} {p : Profile} {soc tick : Nat} : (chargeStartDo c p soc tick).Touches 0x25c00000000000000080000000000000000000000000000000000000000000000000000000000000000000000002000000000000000000000000000006600000000000180ff800001800000000000000000000000000000000 := by
  unfold chargeStartDo
  repeat' first | with_reducible apply touch_seqs_cons | with_reducible apply touch_seqs_nil | with_reducible apply touch_setR | with_reducible apply touch_updSlots | with_reducible apply touch_seq | with_reducible apply touch_skip | with_reducible apply touch_read | with_reducible (refine chargeBegin_touch.mono ?_) | with_reducible (refine opDone_touch.mono ?_) | with_reducible (refine resvSet_touch.mono ?_) | with_reducible intro _ | split | dsimp only | exact rfl

theorem terminateDo_touch {c : Ctl} : (terminateDo c).Touches 0x10d75c00000000000000080000000000000000040000000000000080700000000000000000000000000000000160012000000000761f6d001800000000406400000000004200007f806d800080000000003d04000000000000000 := by
  unfold terminateDo
  repeat' first | with_reducible apply touch_seqs_cons | with_reducible apply touch_seqs_nil | with_reducible apply touch_seq | with_reducible apply touch_skip | with_reducible apply touch_read | with_reducible (refine auditEnd_touch.mono ?_) | with_reducible (refine endCharge_touch.mono ?_) | with_reducible (refine opDone_touch.mono ?_) | with_reducible (refine receiptEnd_touch.mono ?_) | with_reducible (refine stopSlot_touch.mono ?_) | with_reducible (refine transferStop_touch.mono ?_) | with_reducible intro _ | split | dsimp only | exact rfl

theorem reserveDo_touch {c : Ctl} {prio soc tick : Nat} : (reserveDo c prio soc tick).Touches 0x25c0000000000000008000000000000000000000000000000000000000000000000000000000000000000000000200000000000000000000000000000660000000000000000000000000000000000000000000000000000000 := by
  unfold reserveDo
  repeat' first | with_reducible apply touch_seqs_cons | with_reducible apply touch_seqs_nil | with_reducible apply touch_setR | with_reducible apply touch_seq | with_reducible apply touch_skip | with_reducible apply touch_read | with_reducible (refine opDone_touch.mono ?_) | with_reducible (refine resvSet_touch.mono ?_) | with_reducible intro _ | split | dsimp only | exact rfl

theorem transferDo_touch {c : Ctl} {p : TransferPar} : (transferDo c p).Touches 0x25c0000000000000008000000000000000000000000000000000000000000000000000000000000000000006000200000000000000000000000000000000000000000020000000060800000000000000000000000000000000 := by
  unfold transferDo
  repeat' first | with_reducible apply touch_seqs_cons | with_reducible apply touch_seqs_nil | with_reducible apply touch_setR | with_reducible apply touch_updSlots | with_reducible apply touch_seq | with_reducible apply touch_skip | with_reducible apply touch_read | with_reducible (refine opDone_touch.mono ?_) | with_reducible (refine useUpdate_touch.mono ?_) | with_reducible intro _ | split | dsimp only | exact rfl

theorem auditDo_touch {c : Ctl} {p : Profile} {a : AuditPar} : (auditDo c p a).Touches 0x25c00000000000000080000000000000000000000000000000000000000000000000000000000000000000000002000000000000000000000000000006600000000000180ff800001800000000000000000000000000000000 := by
  unfold auditDo
  repeat' first | with_reducible apply touch_seqs_cons | with_reducible apply touch_seqs_nil | with_reducible apply touch_setR | with_reducible apply touch_updSlots | with_reducible apply touch_seq | with_reducible apply touch_skip | with_reducible apply touch_read | with_reducible (refine chargeBegin_touch.mono ?_) | with_reducible (refine opDone_touch.mono ?_) | with_reducible (refine resvEnd_touch.mono ?_) | with_reducible intro _ | split | dsimp only | exact rfl

theorem limitsDo_touch {c : Ctl} {l : Limits} : (limitsDo c l).Touches 0x810d75c000000000000000800000000000000000400000000000000ff70000100100000000000000000000000016001200000001f761f6d00180000000040640000000000020f007f886f8008800000000f3d04000000000000000 := by
  unfold limitsDo
  repeat' first | with_reducible apply touch_seqs_cons | with_reducible apply touch_seqs_nil | with_reducible apply touch_setR | with_reducible apply touch_updSlots | with_reducible apply touch_seq | with_reducible apply touch_skip | with_reducible apply touch_read | with_reducible (refine dacShow_touch.mono ?_) | with_reducible (refine faultClear_touch.mono ?_) | with_reducible (refine identBegin_touch.mono ?_) | with_reducible (refine opDone_touch.mono ?_) | with_reducible (refine warnFresh_touch.mono ?_) | with_reducible (refine zoneUpdate_touch.mono ?_) | with_reducible intro _ | split | dsimp only | exact rfl

end Sys2Proof.Machine
end

