-- ==== Sys2Proof/Laws/WithinOpUnits.lean ====
section
/-! SUPPORT. The mask of every operation and meaning of Machine/OpUnits.lean (see Laws/Touch.lean): what it can change at all. -/

set_option Elab.async false

set_option maxRecDepth 8192
set_option linter.unreachableTactic false
set_option linter.unusedTactic false

namespace Sys2Proof.Machine

theorem restoreCut_touch {sl vCut : Nat} : (restoreCut sl vCut).Touches 0x44c00000000000000080000000000000000000000000000000000000000000000000000000000000000000100012000000010001f2000000000000000000000000000000000000000000000000000000000000000000000000 := by
  unfold restoreCut
  repeat' first | with_reducible apply touch_seqs_cons | with_reducible apply touch_seqs_nil | with_reducible apply touch_setR | with_reducible apply touch_seq | with_reducible apply touch_skip | with_reducible apply touch_read | with_reducible (refine moveCut_touch.mono ?_) | with_reducible (refine unrestoredEstimate_touch.mono ?_) | with_reducible intro _ | split | dsimp only | exact rfl

theorem restoreRecord_touch {sl : Nat} {r : RestorePar} : (restoreRecord sl r).Touches 0x44c00000000000000080000000000000000000000000000000000000000000000000000000000000000000100012000000010261f6d00000000000000000000000000000000000000000000000000000000000000000000000 := by
  unfold restoreRecord
  repeat' first | with_reducible apply touch_seqs_cons | with_reducible apply touch_seqs_nil | with_reducible apply touch_setR | with_reducible apply touch_updR | with_reducible apply touch_updGauges | with_reducible apply touch_seq | with_reducible apply touch_skip | with_reducible apply touch_read | with_reducible (refine gaugeDerive_touch.mono ?_) | with_reducible (refine raiseSlot_touch.mono ?_) | with_reducible (refine takeAnchor_touch.mono ?_) | with_reducible (refine warnCheck_touch.mono ?_) | with_reducible (refine warnFresh_touch.mono ?_) | with_reducible intro _ | split | dsimp only | exact rfl

theorem restoreDo_touch {c : Ctl} {r : RestorePar} : (restoreDo c r).Touches 0x45c00000000000000080000000000000000000000000000000000000000000000000000000000000000000100012000000010261f6d00000000000000000000000000000000000000000000000000000000000000000000000 := by
  unfold restoreDo
  repeat' first | with_reducible apply touch_seqs_cons | with_reducible apply touch_seqs_nil | with_reducible apply touch_seq | with_reducible apply touch_skip | with_reducible apply touch_read | with_reducible (refine opDone_touch.mono ?_) | with_reducible (refine restoreCut_touch.mono ?_) | with_reducible (refine restoreRecord_touch.mono ?_) | with_reducible intro _ | split | dsimp only | exact rfl

theorem snapshotDo_touch {c : Ctl} : (snapshotDo c).Touches 0x5c0000000000000008000000000000000000000000000000000000000000000000000000000000000000000000200000000050000000000000000000000000000000000000000000000000000000000000000000000000000 := by
  unfold snapshotDo
  repeat' first | with_reducible apply touch_seqs_cons | with_reducible apply touch_seqs_nil | with_reducible apply touch_seq | with_reducible apply touch_skip | with_reducible apply touch_read | with_reducible (refine opTold_touch.mono ?_) | with_reducible (refine snapshot_touch.mono ?_) | with_reducible intro _ | split | dsimp only | exact rfl

theorem tableLoadDo_touch {c : Ctl} {first : Nat} {words : List (Nat × Nat)} : (tableLoadDo c first words).Touches 0x8005c0000000000000008000000000000000000000000000000000000000000000000000000000000000000000000200000000000000000000000040000000000000000000000000000000000000000000000000000000000000 := by
  unfold tableLoadDo
  repeat' first | with_reducible apply touch_seqs_cons | with_reducible apply touch_seqs_nil | with_reducible apply touch_seq | with_reducible apply touch_skip | with_reducible apply touch_read | with_reducible (refine opDone_touch.mono ?_) | with_reducible (refine pendAdd_touch.mono ?_) | with_reducible intro _ | split | dsimp only | exact rfl

theorem urgentDo_touch {c : Ctl} {chan range cyc : Nat} : (urgentDo c chan range cyc).Touches 0x1800100000000000000000000000000000000000000000000000000000000000000000000000000000000000000000000000000000000000000000001000000000000000000000000000000000000000000000000000000000000 := by
  unfold urgentDo
  repeat' first | with_reducible apply touch_seqs_cons | with_reducible apply touch_seqs_nil | with_reducible apply touch_updFcvs | with_reducible apply touch_updIcvs | with_reducible apply touch_seq | with_reducible apply touch_skip | with_reducible apply touch_read | with_reducible (refine runOn_touch.mono ?_) | with_reducible (refine urgQ_touch.mono ?_) | with_reducible intro _ | split | dsimp only | exact rfl

theorem calDo_touch {c : Ctl} {full : Bool} {input range : Nat} {fcv : Bool} {applied : Int} : (calDo c full input range fcv applied).Touches 0x1800100000000000000000000000000000000000000000000000000000000000000000000000000000000000000000000000000000000000000000000000000000000000000000000000000000000000000000000000000000000 := by
  unfold calDo
  repeat' first | with_reducible apply touch_seqs_cons | with_reducible apply touch_seqs_nil | with_reducible apply touch_updFcvs | with_reducible apply touch_updIcvs | with_reducible apply touch_seq | with_reducible apply touch_skip | with_reducible apply touch_read | with_reducible (refine runOn_touch.mono ?_) | with_reducible intro _ | split | dsimp only | exact rfl

theorem twbDo_touch {c : Ctl} {p : TwbPar} : (twbDo c p).Touches 0x825c0000000000000008000000000000000000000000000000000000000000000000000000000000018000010001200000000000000000000000000000000000000000000000000000000000000000000000000000000000000 := by
  unfold twbDo
  repeat' first | with_reducible apply touch_seqs_cons | with_reducible apply touch_seqs_nil | with_reducible apply touch_updTwb | with_reducible apply touch_when | with_reducible apply touch_seq | with_reducible apply touch_skip | with_reducible apply touch_read | with_reducible (refine deadFlush_touch.mono ?_) | with_reducible (refine hostqUpdate_touch.mono ?_) | with_reducible (refine runOn_touch.mono ?_) | with_reducible intro _ | split | dsimp only | exact rfl

theorem holdDo_touch {c : Ctl} {p : PdPolicy} : (holdDo c p).Touches 0x405c00000000000000081ff000000000000000000000000000000000000000000000000003000000000000000000200000000000000000000000000000000000000000000000000000000000000000000000000000000000000 := by
  unfold holdDo
  repeat' first | with_reducible apply touch_seqs_cons | with_reducible apply touch_seqs_nil | with_reducible apply touch_setR | with_reducible apply policyActs_touch | with_reducible apply touch_seq | with_reducible apply touch_skip | with_reducible apply touch_read | with_reducible (refine policyActs_touch.mono ?_) | with_reducible (refine policySet_touch.mono ?_) | with_reducible (refine runOn_touch.mono ?_) | with_reducible intro _ | split | dsimp only | exact rfl

theorem pdReleaseDo_touch {c : Ctl} : (pdReleaseDo c).Touches 0x405c00000000000000081ff000000000000000000000000000000000000000000000000003800000000000010001200000000000000000000000000000000000000000000000000000000000000000000000000000000000000 := by
  unfold pdReleaseDo
  repeat' first | with_reducible apply touch_seqs_cons | with_reducible apply touch_seqs_nil | with_reducible apply touch_setR | with_reducible apply policyActs_touch | with_reducible apply touch_seq | with_reducible apply touch_skip | with_reducible apply touch_read | with_reducible (refine policyActs_touch.mono ?_) | with_reducible (refine policyDefault_touch.mono ?_) | with_reducible (refine runOn_touch.mono ?_) | with_reducible (refine svcExit_touch.mono ?_) | with_reducible intro _ | split | dsimp only | exact rfl

theorem pdSetDo_touch {c : Ctl} {p : PdPolicy} : (pdSetDo c p).Touches 0x405c00000000000000081ff000000000000000000000000000000000000000000000000000000000000000000000200000000000000000000000000000000000000000000000000000000000000000000000000000000000000 := by
  unfold pdSetDo
  repeat' first | with_reducible apply touch_seqs_cons | with_reducible apply touch_seqs_nil | with_reducible apply policyActs_touch | with_reducible apply touch_seq | with_reducible apply touch_skip | with_reducible apply touch_read | with_reducible (refine policyActs_touch.mono ?_) | with_reducible (refine policySet_touch.mono ?_) | with_reducible (refine runOn_touch.mono ?_) | with_reducible intro _ | split | dsimp only | exact rfl

theorem softResetDo_touch {c : Ctl} : (softResetDo c).Touches 0x10d75c000000000000000800000000000000000400000000000000807000000000000000181ce000000000000160012000000000761f6d001800000000406400000000000200007f806d800080000000003d04000000000000000 := by
  unfold softResetDo
  repeat' first | with_reducible apply touch_seqs_cons | with_reducible apply touch_seqs_nil | with_reducible apply touch_seq | with_reducible apply touch_skip | with_reducible apply touch_read | with_reducible (refine actBegin_touch.mono ?_) | with_reducible (refine runOn_touch.mono ?_) | with_reducible intro _ | split | dsimp only | exact rfl

theorem hardResetDo_touch {c : Ctl} : (hardResetDo c).Touches 0x10d75c000000000000000800000000000000000400000000000000807000000000000000181ce000000000000160012000000000761f6d001800000000406400000000000200007f806d800080000000003d04000000000000000 := by
  unfold hardResetDo
  repeat' first | with_reducible apply touch_seqs_cons | with_reducible apply touch_seqs_nil | with_reducible apply touch_seq | with_reducible apply touch_skip | with_reducible apply touch_read | with_reducible (refine actBegin_touch.mono ?_) | with_reducible (refine runOn_touch.mono ?_) | with_reducible intro _ | split | dsimp only | exact rfl

theorem enterDo_touch {c : Ctl} : (enterDo c).Touches 0x10d75c000000000000000800000000000000000400000000000000807000000000000000181ce000000000000160012000000000761f6d001800000000406400000000000200007f806d800080000000003d04000000000000000 := by
  unfold enterDo
  repeat' first | with_reducible apply touch_seqs_cons | with_reducible apply touch_seqs_nil | with_reducible apply touch_seq | with_reducible apply touch_skip | with_reducible apply touch_read | with_reducible (refine actBegin_touch.mono ?_) | with_reducible (refine runOn_touch.mono ?_) | with_reducible intro _ | split | dsimp only | exact rfl

theorem exitDo_touch {c : Ctl} : (exitDo c).Touches 0x10d75c000000000000000800000000000000000400000000000000807000000000000000181ce000000000000160012000000000761f6d001800000000406400000000000200007f806d800080000000003d04000000000000000 := by
  unfold exitDo
  repeat' first | with_reducible apply touch_seqs_cons | with_reducible apply touch_seqs_nil | with_reducible apply touch_seq | with_reducible apply touch_skip | with_reducible apply touch_read | with_reducible (refine actBegin_touch.mono ?_) | with_reducible (refine runOn_touch.mono ?_) | with_reducible intro _ | split | dsimp only | exact rfl

end Sys2Proof.Machine
end

