-- ==== Sys2Proof/Laws/WithinOpDevice.lean ====
section
/-! SUPPORT. The mask of every operation and meaning of Machine/OpDevice.lean (see Laws/Touch.lean): what it can change at all. -/

set_option Elab.async false

set_option maxRecDepth 8192
set_option linter.unreachableTactic false
set_option linter.unusedTactic false

namespace Sys2Proof.Machine

theorem fenceDo_touch {c : Ctl} {scope wait token timeout : Nat} : (fenceDo c scope wait token timeout).Touches 0x100000000000000000000000000000000000000000000000000000000000000000000000000000000000000000000000000000000000000000000000000000000000000000000000000000000000000000000000000000000 := by
  unfold fenceDo
  repeat' first | with_reducible apply touch_seqs_cons | with_reducible apply touch_seqs_nil | with_reducible apply touch_updHost | with_reducible apply touch_seq | with_reducible apply touch_skip | with_reducible apply touch_read | with_reducible intro _ | split | dsimp only | exact rfl

theorem fenceEnd_touch {f : FenceRec} {status result : Nat} : (fenceEnd f status result).Touches 0x5c0000000000000008000000000000000000000000000000000000000000000000000000000000000000000000200000000000000000000000000000000000000000000000000000000000000000000000000000000000000 := by
  unfold fenceEnd
  repeat' first | with_reducible apply touch_seqs_cons | with_reducible apply touch_seqs_nil | with_reducible apply touch_updHost | with_reducible apply touch_seq | with_reducible apply touch_skip | with_reducible apply touch_read | with_reducible (refine complete_touch.mono ?_) | with_reducible intro _ | split | dsimp only | exact rfl

theorem answerDo_touch {c : Ctl} {token qseq : Nat} : (answerDo c token qseq).Touches 0x25c00000000000000080000000000000000000000000880000000000000000000000000008000000000003f0001200030000000000000000000000000080000008000000000000000000000000000000000000000000000000 := by
  unfold answerDo
  repeat' first | with_reducible apply touch_seqs_cons | with_reducible apply touch_seqs_nil | with_reducible apply touch_seq | with_reducible apply touch_skip | with_reducible apply touch_read | with_reducible (refine opTold_touch.mono ?_) | with_reducible (refine wdgAnswer_touch.mono ?_) | with_reducible intro _ | split | dsimp only | exact rfl

theorem quotaDo_touch {c : Ctl} {p : QuotaPar} : (quotaDo c p).Touches 0x10100000000000000000000000000000000004000000000000000000000000000000000000000000000000000000000000000000000000000000000000000000000000000000000000000000000000000000000000000000000 := by
  unfold quotaDo
  repeat' first | with_reducible apply touch_seqs_cons | with_reducible apply touch_seqs_nil | with_reducible apply touch_seq | with_reducible apply touch_skip | with_reducible apply touch_read | with_reducible (refine keepRequest_touch.mono ?_) | with_reducible (refine runOn_touch.mono ?_) | with_reducible intro _ | split | dsimp only | exact rfl

theorem keyDo_touch {c : Ctl} {p : KeyPar} : (keyDo c p).Touches 0x10100000000000000000000000000000000004000000000000000000000000000000000000000000000000000000000000000000000000000000000000000000000000000000000000000000000000000000000000000000000 := by
  unfold keyDo
  repeat' first | with_reducible apply touch_seqs_cons | with_reducible apply touch_seqs_nil | with_reducible apply touch_seq | with_reducible apply touch_skip | with_reducible apply touch_read | with_reducible (refine keepRequest_touch.mono ?_) | with_reducible (refine runOn_touch.mono ?_) | with_reducible intro _ | split | dsimp only | exact rfl

theorem stageDo_touch {c : Ctl} {len gen : Nat} : (stageDo c len gen).Touches 0x100000100000000000000000000000000000000000000000000000000000000000000300800000000000000000000000000000000000000000000000000000000000000000000000000000000000000000000000000000000000000 := by
  unfold stageDo
  repeat' first | with_reducible apply touch_seqs_cons | with_reducible apply touch_seqs_nil | with_reducible apply touch_setR | with_reducible apply touch_updEng | with_reducible apply touch_seq | with_reducible apply touch_skip | with_reducible apply touch_read | with_reducible (refine runOn_touch.mono ?_) | with_reducible intro _ | split | dsimp only | exact rfl

theorem rollDo_touch {c : Ctl} {dwell : Nat} : (rollDo c dwell).Touches 0x1910d75c000000000000000800000000000000000400000000000000c0700001001400078000184800000000000160012000000000761f6d001800000000406400000100004200007fe86d800080000000003d04000000000008000 := by
  unfold rollDo
  repeat' first | with_reducible apply touch_seqs_cons | with_reducible apply touch_seqs_nil | with_reducible apply touch_setR | with_reducible apply touch_updEng | with_reducible apply touch_seq | with_reducible apply touch_skip | with_reducible apply touch_read | with_reducible (refine rollBed_touch.mono ?_) | with_reducible (refine runOn_touch.mono ?_) | with_reducible intro _ | split | dsimp only | exact rfl

theorem abortDo_touch {c : Ctl} : (abortDo c).Touches 0x1910d75c000000000000000800000000000000000400000000000000c0700001001400078000184800000000000160012000000000761f6d001800000000406400000100004200007fe86d800080000000003d04000000000008000 := by
  unfold abortDo
  repeat' first | with_reducible apply touch_seqs_cons | with_reducible apply touch_seqs_nil | with_reducible apply touch_updEng | with_reducible apply touch_seq | with_reducible apply touch_skip | with_reducible apply touch_read | with_reducible (refine rollAbort_touch.mono ?_) | with_reducible (refine runOn_touch.mono ?_) | with_reducible intro _ | split | dsimp only | exact rfl

theorem discardDo_touch {c : Ctl} : (discardDo c).Touches 0x1000005c0000000000000008000000000000000000000000000000000000000000000000e40000000000000000000000200000000000000000000000000000000000000000000000000000000000000000000000000000000000000 := by
  unfold discardDo
  repeat' first | with_reducible apply touch_seqs_cons | with_reducible apply touch_seqs_nil | with_reducible apply touch_setR | with_reducible apply touch_updEng | with_reducible apply touch_seq | with_reducible apply touch_skip | with_reducible apply touch_read | with_reducible (refine opDone_touch.mono ?_) | with_reducible intro _ | split | dsimp only | exact rfl

theorem fgRefresh_touch {sl : Nat} : (fgRefresh sl).Touches 0x8070000000000000000000000000000000000000000000000000000000000000000000000000000000000000000000000000000000000000000000000000000 := by
  unfold fgRefresh
  repeat' first | with_reducible apply touch_seqs_cons | with_reducible apply touch_seqs_nil | with_reducible apply touch_seq | with_reducible apply touch_skip | with_reducible apply touch_read | with_reducible (refine fgArm_touch.mono ?_) | with_reducible (refine fgDisarm_touch.mono ?_) | with_reducible (refine fgReverse_touch.mono ?_) | with_reducible intro _ | split | dsimp only | exact rfl

theorem deriveAll_touch : (deriveAll).Touches 0x8070000000000000000000000000000000000000000000000000000000000000000000000000000000000000000000000000000000000000000000000000000 := by
  unfold deriveAll
  repeat' first | with_reducible apply touch_seqs_cons | with_reducible apply touch_seqs_nil | with_reducible apply touch_each | with_reducible apply touch_seq | with_reducible apply touch_skip | with_reducible apply touch_read | with_reducible (refine fgRefresh_touch.mono ?_) | with_reducible intro _ | split | dsimp only | exact rfl

theorem sealDo_touch {c : Ctl} : (sealDo c).Touches 0x5c0000000000000008000000000000000000000000000040008070000000000000000000000000000000000000200000000000000000000000000000000000000000000000000000000000000000000000000000000000000 := by
  unfold sealDo
  repeat' first | with_reducible apply touch_seqs_cons | with_reducible apply touch_seqs_nil | with_reducible apply touch_setR | with_reducible apply touch_seq | with_reducible apply touch_skip | with_reducible apply touch_read | with_reducible (refine deriveAll_touch.mono ?_) | with_reducible (refine opDone_touch.mono ?_) | with_reducible intro _ | split | dsimp only | exact rfl

end Sys2Proof.Machine
end

