-- ==== Sys2Proof/Laws/WithinOpcodes.lean ====
section
/-! SUPPORT. The mask of every operation and meaning of Machine/Opcodes.lean (see Laws/Touch.lean): what it can change at all. -/

set_option Elab.async false

set_option maxRecDepth 8192
set_option linter.unreachableTactic false
set_option linter.unusedTactic false

namespace Sys2Proof.Machine

theorem Op.act_touch {o : Op} {c : Ctl} : (Op.act o c).Touches 0x1918d75c00000000000000081ff00000000000000400000008804000ff70000100140307e4181fe800000180003f6001200030001f761f6d001800000410406e0000018000438fffffe86f8008800000000f3d04000000000008000 := by
  unfold Op.act
  repeat' first | with_reducible apply touch_seqs_cons | with_reducible apply touch_seqs_nil | with_reducible apply touch_seq | with_reducible apply touch_skip | with_reducible apply touch_read | with_reducible (refine abortDo_touch.mono ?_) | with_reducible (refine answerDo_touch.mono ?_) | with_reducible (refine auditDo_touch.mono ?_) | with_reducible (refine calDo_touch.mono ?_) | with_reducible (refine chargeStartDo_touch.mono ?_) | with_reducible (refine claimDo_touch.mono ?_) | with_reducible (refine discardDo_touch.mono ?_) | with_reducible (refine enterDo_touch.mono ?_) | with_reducible (refine exitDo_touch.mono ?_) | with_reducible (refine fenceDo_touch.mono ?_) | with_reducible (refine hardResetDo_touch.mono ?_) | with_reducible (refine holdDo_touch.mono ?_) | with_reducible (refine keyDo_touch.mono ?_) | with_reducible (refine limitsDo_touch.mono ?_) | with_reducible (refine opTold_touch.mono ?_) | with_reducible (refine pdReleaseDo_touch.mono ?_) | with_reducible (refine pdSetDo_touch.mono ?_) | with_reducible (refine quotaDo_touch.mono ?_) | with_reducible (refine releaseDo_touch.mono ?_) | with_reducible (refine reserveDo_touch.mono ?_) | with_reducible (refine restoreDo_touch.mono ?_) | with_reducible (refine rollDo_touch.mono ?_) | with_reducible (refine sealDo_touch.mono ?_) | with_reducible (refine snapshotDo_touch.mono ?_) | with_reducible (refine softResetDo_touch.mono ?_) | with_reducible (refine stageDo_touch.mono ?_) | with_reducible (refine tableLoadDo_touch.mono ?_) | with_reducible (refine terminateDo_touch.mono ?_) | with_reducible (refine transferDo_touch.mono ?_) | with_reducible (refine twbDo_touch.mono ?_) | with_reducible (refine urgentDo_touch.mono ?_) | with_reducible intro _ | split | dsimp only | exact rfl

theorem descRun_touch {code : Nat} {o : Except Nat Op} {c : Ctl} : (descRun code o c).Touches 0x1918d7dc00000000000000081ff00000000000000400000008804000ff70000100140307e4181fe800000180003f6001200030001f761f6d001800000410406e0000018000438fffffe86f8008800000000f3d04000000000008000 := by
  unfold descRun
  repeat' first | with_reducible apply touch_seqs_cons | with_reducible apply touch_seqs_nil | with_reducible apply touch_updHost | with_reducible apply touch_seq | with_reducible apply touch_skip | with_reducible apply touch_read | with_reducible (refine Op.act_touch.mono ?_) | with_reducible (refine complete_touch.mono ?_) | with_reducible (refine timersFirst_touch.mono ?_) | with_reducible intro _ | split | dsimp only | exact rfl

theorem opEnds_within {o : Op} {c : Ctl} {M : Nat} (h : (o.act c).Touches M) (hm : 0x10d7dc000000000000000800000000000000000400000000000000c0700001000000000000000000000000000160012000000000761f6d001800000000406400000000004200007fe86d800080000000003d04000000000000000 &&& M = 0x10d7dc000000000000000800000000000000000400000000000000c0700001000000000000000000000000000160012000000000761f6d001800000000406400000000004200007fe86d800080000000003d04000000000000000) :
    RunsWithin M (opEnds o c) := by
  refine ends_within fun s => ?_
  beta_reduce
  split
  · refine ⟨(touch_updHost rfl : Prog.Touches 0x10d7dc000000000000000800000000000000000400000000000000c0700001000000000000000000000000000160012000000000761f6d001800000000406400000000004200007fe86d800080000000003d04000000000000000 _).mono hm, ?_⟩
    dsimp only
    refine ⟨?_, fun t => ?_⟩
    · split
      · exact (timersFirst_touch.mono rfl : Prog.Touches 0x10d7dc000000000000000800000000000000000400000000000000c0700001000000000000000000000000000160012000000000761f6d001800000000406400000000004200007fe86d800080000000003d04000000000000000 _).mono hm
      · exact touch_skip
    · dsimp only
      split
      · exact (complete_touch.mono rfl : Prog.Touches 0x10d7dc000000000000000800000000000000000400000000000000c0700001000000000000000000000000000160012000000000761f6d001800000000406400000000004200007fe86d800080000000003d04000000000000000 _).mono hm
      · exact h
  · exact touch_skip

theorem execNop_within {c : Ctl} : RunsWithin 0x10d7dc000000000000000800000000000000000400000000000000c0700001000000000000000000000000000160012000000000761f6d001800000000406400000000004200007fe86d800080000000003d04000000000000000 (execNop c) := by
  unfold execNop
  repeat' first | with_reducible apply opEnds_within | with_reducible apply touch_seqs_cons | with_reducible apply touch_seqs_nil | with_reducible apply touch_seq | with_reducible apply touch_skip | with_reducible apply touch_read | with_reducible (refine opTold_touch.mono ?_) | with_reducible intro _ | split | dsimp only [Op.act] | dsimp only | exact rfl

theorem execSlotClaim_within {c : Ctl} : RunsWithin 0x10d7dc000000000000000800000000000000000400000000000000c0700001000000000000000000000000000160012000000000761f6d001800000000406400000000004200007fe86d800080000000003d04000000000000000 (execSlotClaim c) := by
  unfold execSlotClaim
  repeat' first | with_reducible apply opEnds_within | with_reducible apply touch_seqs_cons | with_reducible apply touch_seqs_nil | with_reducible apply touch_seq | with_reducible apply touch_skip | with_reducible apply touch_read | with_reducible (refine claimDo_touch.mono ?_) | with_reducible intro _ | split | dsimp only [Op.act] | dsimp only | exact rfl

theorem execSlotRelease_within {c : Ctl} : RunsWithin 0x10d7dc000000000000000800000000000000000400000000000000c0700001000000000000000000000000000160012000000000761f6d001800000000406400000000004200007fe86d800080000000003d04000000000000000 (execSlotRelease c) := by
  unfold execSlotRelease
  repeat' first | with_reducible apply opEnds_within | with_reducible apply touch_seqs_cons | with_reducible apply touch_seqs_nil | with_reducible apply touch_seq | with_reducible apply touch_skip | with_reducible apply touch_read | with_reducible (refine releaseDo_touch.mono ?_) | with_reducible intro _ | split | dsimp only [Op.act] | dsimp only | exact rfl

theorem execChargeStart_within {c : Ctl} {p : Profile} {resvSoc resvTick : Nat} : RunsWithin 0x10d7dc000000000000000800000000000000000400000000000000c0700001000000000000000000000000000160012000000000761f6d001800000000406600000000004380ffffe86d800080000000003d04000000000000000 (execChargeStart c p resvSoc resvTick) := by
  unfold execChargeStart
  repeat' first | with_reducible apply opEnds_within | with_reducible apply touch_seqs_cons | with_reducible apply touch_seqs_nil | with_reducible apply touch_seq | with_reducible apply touch_skip | with_reducible apply touch_read | with_reducible (refine chargeStartDo_touch.mono ?_) | with_reducible intro _ | split | dsimp only [Op.act] | dsimp only | exact rfl

theorem execChargeTerminate_within {c : Ctl} : RunsWithin 0x10d7dc000000000000000800000000000000000400000000000000c0700001000000000000000000000000000160012000000000761f6d001800000000406400000000004200007fe86d800080000000003d04000000000000000 (execChargeTerminate c) := by
  unfold execChargeTerminate
  repeat' first | with_reducible apply opEnds_within | with_reducible apply touch_seqs_cons | with_reducible apply touch_seqs_nil | with_reducible apply touch_seq | with_reducible apply touch_skip | with_reducible apply touch_read | with_reducible (refine terminateDo_touch.mono ?_) | with_reducible intro _ | split | dsimp only [Op.act] | dsimp only | exact rfl

theorem execSetLimits_within {c : Ctl} {l : Limits} : RunsWithin 0x810d7dc000000000000000800000000000000000400000000000000ff70000100100000000000000000000000016001200000001f761f6d00180000000040640000000000420f007fe86f8008800000000f3d04000000000000000 (execSetLimits c l) := by
  unfold execSetLimits
  repeat' first | with_reducible apply opEnds_within | with_reducible apply touch_seqs_cons | with_reducible apply touch_seqs_nil | with_reducible apply touch_seq | with_reducible apply touch_skip | with_reducible apply touch_read | with_reducible (refine limitsDo_touch.mono ?_) | with_reducible intro _ | split | dsimp only [Op.act] | dsimp only | exact rfl

theorem execReserve_within {c : Ctl} {prio resvSoc resvTick : Nat} : RunsWithin 0x10d7dc000000000000000800000000000000000400000000000000c0700001000000000000000000000000000160012000000000761f6d001800000000406600000000004200007fe86d800080000000003d04000000000000000 (execReserve c prio resvSoc resvTick) := by
  unfold execReserve
  repeat' first | with_reducible apply opEnds_within | with_reducible apply touch_seqs_cons | with_reducible apply touch_seqs_nil | with_reducible apply touch_seq | with_reducible apply touch_skip | with_reducible apply touch_read | with_reducible (refine reserveDo_touch.mono ?_) | with_reducible intro _ | split | dsimp only [Op.act] | dsimp only | exact rfl

theorem execTransfer_within {c : Ctl} {p : TransferPar} : RunsWithin 0x10d7dc000000000000000800000000000000000400000000000000c0700001000000000000000000000000000160012000000000761f6d001800000000406400000000004200007fe86d800080000000003d04000000000000000 (execTransfer c p) := by
  unfold execTransfer
  repeat' first | with_reducible apply opEnds_within | with_reducible apply touch_seqs_cons | with_reducible apply touch_seqs_nil | with_reducible apply touch_seq | with_reducible apply touch_skip | with_reducible apply touch_read | with_reducible (refine transferDo_touch.mono ?_) | with_reducible intro _ | split | dsimp only [Op.act] | dsimp only | exact rfl

theorem execAudit_within {c : Ctl} {p : Profile} {a : AuditPar} : RunsWithin 0x10d7dc000000000000000800000000000000000400000000000000c0700001000000000000000000000000000160012000000000761f6d001800000000406600000000004380ffffe86d800080000000003d04000000000000000 (execAudit c p a) := by
  unfold execAudit
  repeat' first | with_reducible apply opEnds_within | with_reducible apply touch_seqs_cons | with_reducible apply touch_seqs_nil | with_reducible apply touch_seq | with_reducible apply touch_skip | with_reducible apply touch_read | with_reducible (refine auditDo_touch.mono ?_) | with_reducible intro _ | split | dsimp only [Op.act] | dsimp only | exact rfl

theorem execGaugeRestore_within {c : Ctl} {r : RestorePar} : RunsWithin 0x10d7dc000000000000000800000000000000000400000000000000c0700001000000000000000000000000000160012000000010761f6d001800000000406400000000004200007fe86d800080000000003d04000000000000000 (execGaugeRestore c r) := by
  unfold execGaugeRestore
  repeat' first | with_reducible apply opEnds_within | with_reducible apply touch_seqs_cons | with_reducible apply touch_seqs_nil | with_reducible apply touch_seq | with_reducible apply touch_skip | with_reducible apply touch_read | with_reducible (refine restoreDo_touch.mono ?_) | with_reducible intro _ | split | dsimp only [Op.act] | dsimp only | exact rfl

theorem execGaugeSnapshot_within {c : Ctl} : RunsWithin 0x10d7dc000000000000000800000000000000000400000000000000c0700001000000000000000000000000000160012000000000761f6d001800000000406400000000004200007fe86d800080000000003d04000000000000000 (execGaugeSnapshot c) := by
  unfold execGaugeSnapshot
  repeat' first | with_reducible apply opEnds_within | with_reducible apply touch_seqs_cons | with_reducible apply touch_seqs_nil | with_reducible apply touch_seq | with_reducible apply touch_skip | with_reducible apply touch_read | with_reducible (refine snapshotDo_touch.mono ?_) | with_reducible intro _ | split | dsimp only [Op.act] | dsimp only | exact rfl

theorem execMeasTableLoad_within {c : Ctl} {first : Nat} {words : List (Nat × Nat)} : RunsWithin 0x18d7dc000000000000000800000000000000000400000000000000c0700001000000000000000000000000000160012000000000761f6d001800000400406400000000004200007fe86d800080000000003d04000000000000000 (execMeasTableLoad c first words) := by
  unfold execMeasTableLoad
  repeat' first | with_reducible apply opEnds_within | with_reducible apply touch_seqs_cons | with_reducible apply touch_seqs_nil | with_reducible apply touch_seq | with_reducible apply touch_skip | with_reducible apply touch_read | with_reducible (refine tableLoadDo_touch.mono ?_) | with_reducible intro _ | split | dsimp only [Op.act] | dsimp only | exact rfl

theorem execMeasUrgent_within {c : Ctl} {chan range cyc : Nat} : RunsWithin 0x18d7dc000000000000000800000000000000000400000000000000c0700001000000000000000000000000000160012000000000761f6d001800000010406400000000004200007fe86d800080000000003d04000000000000000 (execMeasUrgent c chan range cyc) := by
  unfold execMeasUrgent
  repeat' first | with_reducible apply opEnds_within | with_reducible apply touch_seqs_cons | with_reducible apply touch_seqs_nil | with_reducible apply touch_seq | with_reducible apply touch_skip | with_reducible apply touch_read | with_reducible (refine urgentDo_touch.mono ?_) | with_reducible intro _ | split | dsimp only [Op.act] | dsimp only | exact rfl

theorem execCalZero_within {c : Ctl} {input range : Nat} {fcv : Bool} {applied : Int} : RunsWithin 0x18d7dc000000000000000800000000000000000400000000000000c0700001000000000000000000000000000160012000000000761f6d001800000000406400000000004200007fe86d800080000000003d04000000000000000 (execCalZero c input range fcv applied) := by
  unfold execCalZero
  repeat' first | with_reducible apply opEnds_within | with_reducible apply touch_seqs_cons | with_reducible apply touch_seqs_nil | with_reducible apply touch_seq | with_reducible apply touch_skip | with_reducible apply touch_read | with_reducible (refine calDo_touch.mono ?_) | with_reducible intro _ | split | dsimp only [Op.act] | dsimp only | exact rfl

theorem execCalFull_within {c : Ctl} {input range : Nat} {fcv : Bool} {applied : Int} : RunsWithin 0x18d7dc000000000000000800000000000000000400000000000000c0700001000000000000000000000000000160012000000000761f6d001800000000406400000000004200007fe86d800080000000003d04000000000000000 (execCalFull c input range fcv applied) := by
  unfold execCalFull
  repeat' first | with_reducible apply opEnds_within | with_reducible apply touch_seqs_cons | with_reducible apply touch_seqs_nil | with_reducible apply touch_seq | with_reducible apply touch_skip | with_reducible apply touch_read | with_reducible (refine calDo_touch.mono ?_) | with_reducible intro _ | split | dsimp only [Op.act] | dsimp only | exact rfl

theorem execTwbXfer_within {c : Ctl} {p : TwbPar} : RunsWithin 0x10d7dc000000000000000800000000000000000400000000000000c0700001000000000000000000000180000160012000000000761f6d001800000000406400000000004200007fe86d800080000000003d04000000000000000 (execTwbXfer c p) := by
  unfold execTwbXfer
  repeat' first | with_reducible apply opEnds_within | with_reducible apply touch_seqs_cons | with_reducible apply touch_seqs_nil | with_reducible apply touch_seq | with_reducible apply touch_skip | with_reducible apply touch_read | with_reducible (refine twbDo_touch.mono ?_) | with_reducible intro _ | split | dsimp only [Op.act] | dsimp only | exact rfl

theorem execPdPolicyHold_within {c : Ctl} {p : PdPolicy} : RunsWithin 0x10d7dc00000000000000081ff00000000000000400000000000000c0700001000000000000030000000000000160012000000000761f6d001800000000406400000000004200007fe86d800080000000003d04000000000000000 (execPdPolicyHold c p) := by
  unfold execPdPolicyHold
  repeat' first | with_reducible apply opEnds_within | with_reducible apply touch_seqs_cons | with_reducible apply touch_seqs_nil | with_reducible apply touch_seq | with_reducible apply touch_skip | with_reducible apply touch_read | with_reducible (refine holdDo_touch.mono ?_) | with_reducible intro _ | split | dsimp only [Op.act] | dsimp only | exact rfl

theorem execPdPolicyRelease_within {c : Ctl} : RunsWithin 0x10d7dc00000000000000081ff00000000000000400000000000000c0700001000000000000038000000000000160012000000000761f6d001800000000406400000000004200007fe86d800080000000003d04000000000000000 (execPdPolicyRelease c) := by
  unfold execPdPolicyRelease
  repeat' first | with_reducible apply opEnds_within | with_reducible apply touch_seqs_cons | with_reducible apply touch_seqs_nil | with_reducible apply touch_seq | with_reducible apply touch_skip | with_reducible apply touch_read | with_reducible (refine pdReleaseDo_touch.mono ?_) | with_reducible intro _ | split | dsimp only [Op.act] | dsimp only | exact rfl

theorem execPdPolicySet_within {c : Ctl} {p : PdPolicy} : RunsWithin 0x10d7dc00000000000000081ff00000000000000400000000000000c0700001000000000000000000000000000160012000000000761f6d001800000000406400000000004200007fe86d800080000000003d04000000000000000 (execPdPolicySet c p) := by
  unfold execPdPolicySet
  repeat' first | with_reducible apply opEnds_within | with_reducible apply touch_seqs_cons | with_reducible apply touch_seqs_nil | with_reducible apply touch_seq | with_reducible apply touch_skip | with_reducible apply touch_read | with_reducible (refine pdSetDo_touch.mono ?_) | with_reducible intro _ | split | dsimp only [Op.act] | dsimp only | exact rfl

theorem execPdPolicySoftReset_within {c : Ctl} : RunsWithin 0x10d7dc000000000000000800000000000000000400000000000000c07000010000000000181ce000000000000160012000000000761f6d001800000000406400000000004200007fe86d800080000000003d04000000000000000 (execPdPolicySoftReset c) := by
  unfold execPdPolicySoftReset
  repeat' first | with_reducible apply opEnds_within | with_reducible apply touch_seqs_cons | with_reducible apply touch_seqs_nil | with_reducible apply touch_seq | with_reducible apply touch_skip | with_reducible apply touch_read | with_reducible (refine softResetDo_touch.mono ?_) | with_reducible intro _ | split | dsimp only [Op.act] | dsimp only | exact rfl

theorem execPdPolicyHardReset_within {c : Ctl} : RunsWithin 0x10d7dc000000000000000800000000000000000400000000000000c07000010000000000181ce000000000000160012000000000761f6d001800000000406400000000004200007fe86d800080000000003d04000000000000000 (execPdPolicyHardReset c) := by
  unfold execPdPolicyHardReset
  repeat' first | with_reducible apply opEnds_within | with_reducible apply touch_seqs_cons | with_reducible apply touch_seqs_nil | with_reducible apply touch_seq | with_reducible apply touch_skip | with_reducible apply touch_read | with_reducible (refine hardResetDo_touch.mono ?_) | with_reducible intro _ | split | dsimp only [Op.act] | dsimp only | exact rfl

theorem execEnterService_within {c : Ctl} : RunsWithin 0x10d7dc000000000000000800000000000000000400000000000000c07000010000000000181ce000000000000160012000000000761f6d001800000000406400000000004200007fe86d800080000000003d04000000000000000 (execEnterService c) := by
  unfold execEnterService
  repeat' first | with_reducible apply opEnds_within | with_reducible apply touch_seqs_cons | with_reducible apply touch_seqs_nil | with_reducible apply touch_seq | with_reducible apply touch_skip | with_reducible apply touch_read | with_reducible (refine enterDo_touch.mono ?_) | with_reducible intro _ | split | dsimp only [Op.act] | dsimp only | exact rfl

theorem execExitService_within {c : Ctl} : RunsWithin 0x10d7dc000000000000000800000000000000000400000000000000c07000010000000000181ce000000000000160012000000000761f6d001800000000406400000000004200007fe86d800080000000003d04000000000000000 (execExitService c) := by
  unfold execExitService
  repeat' first | with_reducible apply opEnds_within | with_reducible apply touch_seqs_cons | with_reducible apply touch_seqs_nil | with_reducible apply touch_seq | with_reducible apply touch_skip | with_reducible apply touch_read | with_reducible (refine exitDo_touch.mono ?_) | with_reducible intro _ | split | dsimp only [Op.act] | dsimp only | exact rfl

theorem execWdgAnswer_within {c : Ctl} {token qseq : Nat} : RunsWithin 0x10d7dc000000000000000800000000000000000400000008800000c0700001000000000000008000000000003f60012000300000761f6d001800000000406c00000080004200007fe86d800080000000003d04000000000000000 (execWdgAnswer c token qseq) := by
  unfold execWdgAnswer
  repeat' first | with_reducible apply opEnds_within | with_reducible apply touch_seqs_cons | with_reducible apply touch_seqs_nil | with_reducible apply touch_seq | with_reducible apply touch_skip | with_reducible apply touch_read | with_reducible (refine answerDo_touch.mono ?_) | with_reducible intro _ | split | dsimp only [Op.act] | dsimp only | exact rfl

theorem execFence_within {c : Ctl} {scope wait token timeout : Nat} : RunsWithin 0x10d7dc000000000000000800000000000000000400000000000000c0700001000000000000000000000000000160012000000000761f6d001800000000406400000000004200007fe86d800080000000003d04000000000000000 (execFence c scope wait token timeout) := by
  unfold execFence
  repeat' first | with_reducible apply opEnds_within | with_reducible apply touch_seqs_cons | with_reducible apply touch_seqs_nil | with_reducible apply touch_seq | with_reducible apply touch_skip | with_reducible apply touch_read | with_reducible (refine fenceDo_touch.mono ?_) | with_reducible intro _ | split | dsimp only [Op.act] | dsimp only | exact rfl

theorem execFenceRelease_within : RunsWithin 0x5c0000000000000008000000000000000000000000000000000000000000000000000000000000000000000000200000000000000000000000000000000000000000000000000000000000000000000000000000000000000 (execFenceRelease) := by
  unfold execFenceRelease
  repeat' first | with_reducible apply ends_within | with_reducible apply touch_seqs_cons | with_reducible apply touch_seqs_nil | with_reducible apply touch_each | with_reducible apply touch_seq | with_reducible apply touch_skip | with_reducible apply touch_read | with_reducible (refine fenceEnd_touch.mono ?_) | with_reducible intro _ | split | dsimp only | exact rfl

theorem execFenceTimeout_within : RunsWithin 0x5c0000000000000008000000000000000000000000000000000000000000000000000000000000000000000000200000000000000000000000000000000000000000000000000000000000000000000000000000000000000 (execFenceTimeout) := by
  unfold execFenceTimeout
  repeat' first | with_reducible apply ends_within | with_reducible apply touch_seqs_cons | with_reducible apply touch_seqs_nil | with_reducible apply touch_each | with_reducible apply touch_seq | with_reducible apply touch_skip | with_reducible apply touch_read | with_reducible (refine fenceEnd_touch.mono ?_) | with_reducible intro _ | split | dsimp only | exact rfl

theorem execQuotaSet_within {c : Ctl} {p : QuotaPar} : RunsWithin 0x10d7dc000000000000000800000000000000000400000000000000c0700001000000000000000000000000000160012000000000761f6d001800000000406400000000004200007fe86d800080000000003d04000000000000000 (execQuotaSet c p) := by
  unfold execQuotaSet
  repeat' first | with_reducible apply opEnds_within | with_reducible apply touch_seqs_cons | with_reducible apply touch_seqs_nil | with_reducible apply touch_seq | with_reducible apply touch_skip | with_reducible apply touch_read | with_reducible (refine quotaDo_touch.mono ?_) | with_reducible intro _ | split | dsimp only [Op.act] | dsimp only | exact rfl

theorem execKeyWrite_within {c : Ctl} {p : KeyPar} : RunsWithin 0x10d7dc000000000000000800000000000000000400000000000000c0700001000000000000000000000000000160012000000000761f6d001800000000406400000000004200007fe86d800080000000003d04000000000000000 (execKeyWrite c p) := by
  unfold execKeyWrite
  repeat' first | with_reducible apply opEnds_within | with_reducible apply touch_seqs_cons | with_reducible apply touch_seqs_nil | with_reducible apply touch_seq | with_reducible apply touch_skip | with_reducible apply touch_read | with_reducible (refine keyDo_touch.mono ?_) | with_reducible intro _ | split | dsimp only [Op.act] | dsimp only | exact rfl

theorem execMicrocodeStage_within {c : Ctl} {addr len gen : Nat} : RunsWithin 0x1010d7dc000000000000000800000000000000000400000000000000c0700001000003008000000000000000000160012000000000761f6d001800000000406400000000004200007fe86d800080000000003d04000000000000000 (execMicrocodeStage c addr len gen) := by
  unfold execMicrocodeStage
  repeat' first | with_reducible apply opEnds_within | with_reducible apply touch_seqs_cons | with_reducible apply touch_seqs_nil | with_reducible apply touch_seq | with_reducible apply touch_skip | with_reducible apply touch_read | with_reducible (refine stageDo_touch.mono ?_) | with_reducible intro _ | split | dsimp only [Op.act] | dsimp only | exact rfl

theorem execMicrocodeRoll_within {c : Ctl} {dwell : Nat} : RunsWithin 0x1910d7dc000000000000000800000000000000000400000000000000c0700001001400078000184800000000000160012000000000761f6d001800000000406400000100004200007fe86d800080000000003d04000000000008000 (execMicrocodeRoll c dwell) := by
  unfold execMicrocodeRoll
  repeat' first | with_reducible apply opEnds_within | with_reducible apply touch_seqs_cons | with_reducible apply touch_seqs_nil | with_reducible apply touch_seq | with_reducible apply touch_skip | with_reducible apply touch_read | with_reducible (refine rollDo_touch.mono ?_) | with_reducible intro _ | split | dsimp only [Op.act] | dsimp only | exact rfl

theorem execMicrocodeAbort_within {c : Ctl} : RunsWithin 0x1910d7dc000000000000000800000000000000000400000000000000c0700001001400078000184800000000000160012000000000761f6d001800000000406400000100004200007fe86d800080000000003d04000000000008000 (execMicrocodeAbort c) := by
  unfold execMicrocodeAbort
  repeat' first | with_reducible apply opEnds_within | with_reducible apply touch_seqs_cons | with_reducible apply touch_seqs_nil | with_reducible apply touch_seq | with_reducible apply touch_skip | with_reducible apply touch_read | with_reducible (refine abortDo_touch.mono ?_) | with_reducible intro _ | split | dsimp only [Op.act] | dsimp only | exact rfl

theorem execMicrocodeDiscard_within {c : Ctl} : RunsWithin 0x1010d7dc000000000000000800000000000000000400000000000000c070000100000000e400000000000000000160012000000000761f6d001800000000406400000000004200007fe86d800080000000003d04000000000000000 (execMicrocodeDiscard c) := by
  unfold execMicrocodeDiscard
  repeat' first | with_reducible apply opEnds_within | with_reducible apply touch_seqs_cons | with_reducible apply touch_seqs_nil | with_reducible apply touch_seq | with_reducible apply touch_skip | with_reducible apply touch_read | with_reducible (refine discardDo_touch.mono ?_) | with_reducible intro _ | split | dsimp only [Op.act] | dsimp only | exact rfl

theorem execSeal_within {c : Ctl} : RunsWithin 0x10d7dc000000000000000800000000000000000400000000004000c0700001000000000000000000000000000160012000000000761f6d001800000000406400000000004200007fe86d800080000000003d04000000000000000 (execSeal c) := by
  unfold execSeal
  repeat' first | with_reducible apply opEnds_within | with_reducible apply touch_seqs_cons | with_reducible apply touch_seqs_nil | with_reducible apply touch_seq | with_reducible apply touch_skip | with_reducible apply touch_read | with_reducible (refine sealDo_touch.mono ?_) | with_reducible intro _ | split | dsimp only [Op.act] | dsimp only | exact rfl

theorem execUnknownOpcode_within {c : Ctl} {code : Nat} : RunsWithin 0x4c0000000000000008000000000000000000000000000000000000000000000000000000000000000000000000200000000000000000000000000000000000000000000000000000000000000000000000000000000000000 (execUnknownOpcode c code) := by
  unfold execUnknownOpcode
  repeat' first | with_reducible apply ends_within | with_reducible apply touch_seqs_cons | with_reducible apply touch_seqs_nil | with_reducible apply touch_seq | with_reducible apply touch_skip | with_reducible apply touch_read | with_reducible (refine complete_touch.mono ?_) | with_reducible intro _ | split | dsimp only | exact rfl

end Sys2Proof.Machine
end

