-- ==== Sys2Proof/Laws/WithinDescriptors.lean ====
section
/-! SUPPORT. The mask of every operation and meaning of Machine/Descriptors.lean (see Laws/Touch.lean): what it can change at all. -/

set_option Elab.async false

set_option maxRecDepth 8192
set_option linter.unreachableTactic false
set_option linter.unusedTactic false

namespace Sys2Proof.Machine

theorem single_touch {c : Ctl} {b : List Nat} : (single c b).Touches 0x1918d7dc00000000000000081ff00000000000000400000008804000ff70000100140307e4181fe800000180003f6001200031001f761f6d001800000410406e0000018000438fffffe86f8008800000000f3d04000000000008000 := by
  unfold single
  repeat' first | with_reducible apply touch_seqs_cons | with_reducible apply touch_seqs_nil | with_reducible apply touch_incSat | with_reducible apply touch_seq | with_reducible apply touch_skip | with_reducible apply touch_read | with_reducible (refine complete_touch.mono ?_) | with_reducible (refine descRun_touch.mono ?_) | with_reducible intro _ | split | dsimp only | exact rfl

theorem chainRefused_touch {l : List (Ctl × List Nat)} {c : Ctl} {st d : Nat} : (chainRefused l c st d).Touches 0x4c0000000000000008000000000000000000000000000000000000000000000000000000000000000000000000200001000000000000000000000000000000000000000000000000000000000000000000000000000000000 := by
  unfold chainRefused
  repeat' first | with_reducible apply touch_seqs_cons | with_reducible apply touch_seqs_nil | with_reducible apply touch_incSat | with_reducible apply touch_each | with_reducible apply touch_seq | with_reducible apply touch_skip | with_reducible apply touch_read | with_reducible (refine complete_touch.mono ?_) | with_reducible intro _ | split | dsimp only | exact rfl

theorem chainRun_touch {l : List (Ctl × List Nat)} : (chainRun l).Touches 0x1918d7dc00000000000000081ff00000000000000400000008804000ff70000100140307e4181fe800000180003f6001200031001f761f6d001800000410406e0000018000438fffffe86f8008800000000f3d04000000000008000 := by
  unfold chainRun
  repeat' first | with_reducible apply touch_seqs_cons | with_reducible apply touch_seqs_nil | with_reducible apply touch_each | with_reducible apply touch_seq | with_reducible apply touch_skip | with_reducible apply touch_read | with_reducible (refine chainRefused_touch.mono ?_) | with_reducible (refine descRun_touch.mono ?_) | with_reducible intro _ | split | dsimp only | exact rfl

theorem stallSet_touch {fn ring : Nat} {v : Bool} : (stallSet fn ring v).Touches 0x4c0000000000000000000000000000000000000000000000000000000000000000000000000000000000000000000000000000000000000000000000000000000000000000000000000000000000000000000000000000000 := by
  unfold stallSet
  repeat' first | with_reducible apply touch_seqs_cons | with_reducible apply touch_seqs_nil | with_reducible apply touch_updRings | with_reducible apply touch_seq | with_reducible apply touch_skip | with_reducible apply touch_read | with_reducible (refine writeStatus_touch.mono ?_) | with_reducible intro _ | split | dsimp only | exact rfl

theorem turnTaken_touch {fn : Nat} : (turnTaken fn).Touches 0x100000000000000000000000000000000000000000000000000000000000000000000000000000000000000000000000000000000000000000000000000000000000000000000000000000000000000000000000000000000 := by
  unfold turnTaken
  repeat' first | with_reducible apply touch_seqs_cons | with_reducible apply touch_seqs_nil | with_reducible apply touch_updHost | with_reducible apply touch_seq | with_reducible apply touch_skip | with_reducible apply touch_read | with_reducible intro _ | split | dsimp only | exact rfl

theorem fetchMembers_touch {fn ring first cpl : Nat} {x : Option (List (List Nat))} : (fetchMembers fn ring first cpl x).Touches 0x1918d7dc00000000000000081ff00000000000000400000008804000ff70000100140307e4181fe800000180003f6001200031001f761f6d001800000410406e0000018000438fffffe86f8008800000000f3d04000000000008000 := by
  cases x <;> unfold fetchMembers
  all_goals
    repeat' first | with_reducible apply touch_seqs_cons | with_reducible apply touch_seqs_nil | with_reducible apply touch_setR | with_reducible apply touch_updRings | with_reducible apply touch_seq | with_reducible apply touch_skip | with_reducible apply touch_read | with_reducible (refine chainRun_touch.mono ?_) | with_reducible (refine emit_touch.mono ?_) | with_reducible (refine single_touch.mono ?_) | with_reducible (refine stallSet_touch.mono ?_) | with_reducible (refine turnTaken_touch.mono ?_) | with_reducible intro _ | split | dsimp only | exact rfl

theorem execDescriptorFetch_within {fn ring : Nat} {mem : List (List Nat)} : RunsWithin 0x1918d7dc00000000000000081ff00000000000000400000008804000ff70000100140307e4181fe800000180003f6001a00837001f761f6d001800000410406e0000018000438fffffe86f8008800000000f3d04000000000008000 (execDescriptorFetch fn ring mem) := by
  unfold execDescriptorFetch
  repeat' first | with_reducible apply ends_within | with_reducible apply touch_seqs_cons | with_reducible apply touch_seqs_nil | with_reducible apply touch_seq | with_reducible apply touch_skip | with_reducible apply touch_read | with_reducible (refine fetchMembers_touch.mono ?_) | with_reducible (refine ringError_touch.mono ?_) | with_reducible intro _ | split | dsimp only | exact rfl

end Sys2Proof.Machine
end

