-- ==== Sys2Proof/Laws/WithinHost.lean ====
section
/-! SUPPORT. The mask of every operation and meaning of Machine/Host.lean (see Laws/Touch.lean): what it can change at all. -/

set_option Elab.async false

set_option maxRecDepth 8192
set_option linter.unreachableTactic false
set_option linter.unusedTactic false

namespace Sys2Proof.Machine

theorem execLinkUp_within {width speed : Nat} : RunsWithin 0x5c0000000000000008000000000000000000000200000000000000000000000000000000000000000000010001200000018000000000000000000000000000000000000000000000000000000000000000000000000004000 (execLinkUp width speed) := by
  unfold execLinkUp
  repeat' first | with_reducible apply ends_within | with_reducible apply touch_seqs_cons | with_reducible apply touch_seqs_nil | with_reducible apply touch_setR | with_reducible apply touch_updR | with_reducible apply touch_updHost | with_reducible apply touch_seq | with_reducible apply touch_skip | with_reducible apply touch_read | with_reducible (refine healthSet_touch ?_ ?_) | with_reducible intro _ | split | dsimp only | exact rfl

theorem execPcieLaneFault_within {lane : Option Nat} : RunsWithin 0x1058c25d0000000000000008000000000000000000000000000400000000000000000200800000800000018000010001200030e78000000000000000001000080000008000000000000000000000000000000000000000000004000 (execPcieLaneFault lane) := by
  unfold execPcieLaneFault
  repeat' first | with_reducible apply ends_within | with_reducible apply touch_seqs_cons | with_reducible apply touch_seqs_nil | with_reducible apply touch_setR | with_reducible apply touch_incSat | with_reducible apply touch_seq | with_reducible apply touch_skip | with_reducible apply touch_read | with_reducible (refine healthSet_touch ?_ ?_) | with_reducible (refine perst_touch.mono ?_) | with_reducible (refine pollReport_touch.mono ?_) | with_reducible intro _ | split | dsimp only | exact rfl

theorem execPerst_within : RunsWithin 0x11058c25d0000000000000008000000000000000000000000000400000000000000000200800000800000018000010001200030000000000000000000001000080000008000000000000000000000000000000000000000000000000 (execPerst) := by
  unfold execPerst
  repeat' first | with_reducible apply latching_within | with_reducible apply touch_seqs_cons | with_reducible apply touch_seqs_nil | with_reducible apply touch_seq | with_reducible apply touch_skip | with_reducible apply touch_read | with_reducible (refine perst_touch.mono ?_) | with_reducible intro _ | split | dsimp only | exact rfl

theorem execFlr_within {vf : Nat} : RunsWithin 0x1058c25d0000000000000008000000000000000000000000040800000000000000000200800000800000018000010001200030e00000000000000000001000080000008000000000000000000000000000000000000000000000000 (execFlr vf) := by
  unfold execFlr
  repeat' first | with_reducible apply ends_within | with_reducible apply touch_seqs_cons | with_reducible apply touch_seqs_nil | with_reducible apply touch_setR | with_reducible apply touch_seq | with_reducible apply touch_skip | with_reducible apply touch_read | with_reducible (refine hostReset_touch.mono ?_) | with_reducible (refine pollReport_touch.mono ?_) | with_reducible intro _ | split | dsimp only | exact rfl

theorem vfsOff_touch : (vfsOff).Touches 0x1058c25d0000000000000008000000000000000000000000000000000000000000000200800000800000018000010001200030000000000000000000001000080000008000000000000000000000000000000000000000000000000 := by
  unfold vfsOff
  repeat' first | with_reducible apply touch_seqs_cons | with_reducible apply touch_seqs_nil | with_reducible apply touch_updHost | with_reducible apply touch_seq | with_reducible apply touch_skip | with_reducible apply touch_read | with_reducible (refine hostReset_touch.mono ?_) | with_reducible intro _ | split | dsimp only | exact rfl

theorem execPfFlr_within : RunsWithin 0x1058c25d0000000000000008000000000000000000000000040800000000000000000200800000800000018000010001200030000000000000000000001000080000008000000000000000000000000000000000000000000000000 (execPfFlr) := by
  unfold execPfFlr
  repeat' first | with_reducible apply ends_within | with_reducible apply touch_seqs_cons | with_reducible apply touch_seqs_nil | with_reducible apply touch_setR | with_reducible apply touch_seq | with_reducible apply touch_skip | with_reducible apply touch_read | with_reducible (refine hostReset_touch.mono ?_) | with_reducible (refine vfsOff_touch.mono ?_) | with_reducible intro _ | split | dsimp only | exact rfl

theorem execVfEnableWrite_within {en : Bool} : RunsWithin 0x1058c25d0000000000000008000000000000000000000000000000000000000000000200800000800000018000010001200030000000000000000000001000080000008000000000000000000000000000000000000000000000000 (execVfEnableWrite en) := by
  unfold execVfEnableWrite
  repeat' first | with_reducible apply ends_within | with_reducible apply touch_seqs_cons | with_reducible apply touch_seqs_nil | with_reducible apply touch_updHost | with_reducible apply touch_seq | with_reducible apply touch_skip | with_reducible apply touch_read | with_reducible (refine vfsOff_touch.mono ?_) | with_reducible intro _ | split | dsimp only | exact rfl

theorem execD3hotEntry_within {fn : Nat} : RunsWithin 0x40000000000000000000000000000000000000000000000000000000000000000000000000000000000000000000000000000000000000000000000000000000000000000000000000000000000000000000000000000000 (execD3hotEntry fn) := by
  unfold execD3hotEntry
  repeat' first | with_reducible apply ends_within | with_reducible apply touch_seqs_cons | with_reducible apply touch_seqs_nil | with_reducible apply touch_updFns | with_reducible apply touch_seq | with_reducible apply touch_skip | with_reducible apply touch_read | with_reducible intro _ | split | dsimp only | exact rfl

theorem execD3hotExit_within {fn : Nat} : RunsWithin 0x4c0000000000000008000000000000000000000000000000000000000000000000000000000000000000000000200000000000000000000000000000000000000000000000000000000000000000000000000000000000000 (execD3hotExit fn) := by
  unfold execD3hotExit
  repeat' first | with_reducible apply ends_within | with_reducible apply touch_seqs_cons | with_reducible apply touch_seqs_nil | with_reducible apply touch_updFns | with_reducible apply touch_each | with_reducible apply touch_seq | with_reducible apply touch_skip | with_reducible apply touch_read | with_reducible (refine ringPost_touch.mono ?_) | with_reducible (refine writeStatus_touch.mono ?_) | with_reducible intro _ | split | dsimp only | exact rfl

theorem indexRead_touch {fn r i : Nat} : (indexRead fn r i).Touches 0x4c0000000000000008000000000000000000000000000000000000000000000000000000000000000000010001e00806000000000000000000000000000000000000000000000000000000000000000000000000000000000 := by
  unfold indexRead
  repeat' first | with_reducible apply touch_seqs_cons | with_reducible apply touch_seqs_nil | with_reducible apply touch_setR | with_reducible apply touch_updRings | with_reducible apply touch_seq | with_reducible apply touch_skip | with_reducible apply touch_read | with_reducible (refine ringError_touch.mono ?_) | with_reducible intro _ | split | dsimp only | exact rfl

theorem execDoorbellPoll_within {fn : Nat} {line : List Nat} : RunsWithin 0x4c0000000000000008000000000000000000000000000000000000000000000000000000000000000000010001e00806e00000000000000000000000000000000000000000000000000000000000000000000000000000000 (execDoorbellPoll fn line) := by
  unfold execDoorbellPoll
  repeat' first | with_reducible apply ends_within | with_reducible apply touch_seqs_cons | with_reducible apply touch_seqs_nil | with_reducible apply touch_updFns | with_reducible apply touch_each | with_reducible apply touch_seq | with_reducible apply touch_skip | with_reducible apply touch_read | with_reducible (refine indexRead_touch.mono ?_) | with_reducible (refine pollReport_touch.mono ?_) | with_reducible intro _ | split | dsimp only | exact rfl

theorem execMsixModerationTimeout_within {fn r : Nat} : RunsWithin 0x480000000000000008000000000000000000000000000000000000000000000000000000000000000000000000000000000000000000000000000000000000000000000000000000000000000000000000000000000000000 (execMsixModerationTimeout fn r) := by
  unfold execMsixModerationTimeout
  repeat' first | with_reducible apply ends_within | with_reducible apply touch_seqs_cons | with_reducible apply touch_seqs_nil | with_reducible apply touch_seq | with_reducible apply touch_skip | with_reducible apply touch_read | with_reducible (refine ringMessage_touch.mono ?_) | with_reducible intro _ | split | dsimp only | exact rfl

theorem execStatusLineWrite_within {fn : Nat} : RunsWithin 0x440000000000000000000000000000000000000000000000000000000000000000000000000000000000000000000000000000000000000000000000000000000000000000000000000000000000000000000000000000000 (execStatusLineWrite fn) := by
  unfold execStatusLineWrite
  repeat' first | with_reducible apply ends_within | with_reducible apply touch_seqs_cons | with_reducible apply touch_seqs_nil | with_reducible apply touch_seq | with_reducible apply touch_skip | with_reducible apply touch_read | with_reducible (refine writeStatus_touch.mono ?_) | with_reducible intro _ | split | dsimp only | exact rfl

theorem execTimeAnchor_within : RunsWithin 0x4c0000000000000008000000000000000000000000000000000000000000000000000000000000000000010001200000000000000000000000000000000000000000000000000000000000000000000000000000000000000 (execTimeAnchor) := by
  unfold execTimeAnchor
  repeat' first | with_reducible apply ends_within | with_reducible apply touch_seqs_cons | with_reducible apply touch_seqs_nil | with_reducible apply touch_seq | with_reducible apply touch_skip | with_reducible apply touch_read | with_reducible (refine raise_touch.mono ?_) | with_reducible intro _ | split | dsimp only | exact rfl

theorem poisonedTaken_touch {fn r : Nat} : (poisonedTaken fn r).Touches 0x4c0000000000000008000000000000000000000000000000000000000000000000000000000000000000000000200001000000000000000000000000000000000000000000000000000000000000000000000000000000000 := by
  unfold poisonedTaken
  repeat' first | with_reducible apply touch_seqs_cons | with_reducible apply touch_seqs_nil | with_reducible apply touch_setR | with_reducible apply touch_incSat | with_reducible apply touch_updRings | with_reducible apply touch_seq | with_reducible apply touch_skip | with_reducible apply touch_read | with_reducible (refine complete_touch.mono ?_) | with_reducible (refine emit_touch.mono ?_) | with_reducible intro _ | split | dsimp only | exact rfl

theorem execHostReadError_within {fn r : Nat} {poisoned : Bool} : RunsWithin 0x4c0000000000000008000000000000000000000000000000000000000000000000000000000000000000010001a00807000000000000000000000000000000000000000000000000000000000000000000000000000000000 (execHostReadError fn r poisoned) := by
  unfold execHostReadError
  repeat' first | with_reducible apply ends_within | with_reducible apply touch_seqs_cons | with_reducible apply touch_seqs_nil | with_reducible apply touch_seq | with_reducible apply touch_skip | with_reducible apply touch_read | with_reducible (refine poisonedTaken_touch.mono ?_) | with_reducible (refine ringError_touch.mono ?_) | with_reducible intro _ | split | dsimp only | exact rfl

theorem execDoorbellPageWrite_within {fn value : Nat} : RunsWithin 0x2cc0000000000000008000000001e00000000000000000000000000000000000000000000000000000000490001200330e00000000000000000000000080000008000000000000000000000000000000000000000000000000 (execDoorbellPageWrite fn value) := by
  unfold execDoorbellPageWrite
  repeat' first | with_reducible apply fnWrites_within | with_reducible apply touch_seqs_cons | with_reducible apply touch_seqs_nil | with_reducible apply touch_seq | with_reducible apply touch_skip | with_reducible apply touch_read | with_reducible (refine dbLoWrite_touch.mono ?_) | with_reducible intro _ | split | dsimp only | exact rfl

theorem execRingEnableWrite_within {fn r value : Nat} : RunsWithin 0x1000104c0000000000000008000000001e0000000000000000000000000000000000000000000000000000000001000161f800000000000000000000000000000000000000000000000000000000000000000000000000000000000 (execRingEnableWrite fn r value) := by
  unfold execRingEnableWrite
  repeat' first | with_reducible apply fnWrites_within | with_reducible apply touch_seqs_cons | with_reducible apply touch_seqs_nil | with_reducible apply touch_seq | with_reducible apply touch_skip | with_reducible apply touch_read | with_reducible (refine ringCtrlWrite_touch.mono ?_) | with_reducible intro _ | split | dsimp only | exact rfl

theorem execWdgQuestion_within {fn : Nat} : RunsWithin 0x2cc00000000000000080000000000000000000000000880000000000000000000000000008000000000007f0001200030000000000000000000000000080000008000000000000000000000000000000000000000000000000 (execWdgQuestion fn) := by
  unfold execWdgQuestion
  repeat' first | with_reducible apply ends_within | with_reducible apply touch_seqs_cons | with_reducible apply touch_seqs_nil | with_reducible apply touch_seq | with_reducible apply touch_skip | with_reducible apply touch_read | with_reducible (refine wdgAsk_touch.mono ?_) | with_reducible (refine wdgMiss_touch.mono ?_) | with_reducible intro _ | split | dsimp only | exact rfl

theorem execRateLimit_within {fn : Nat} : RunsWithin 0x4c0000000000000008000000000000000000000000000000000000000000000000000000000000000000010001200000000000000000000000000000000000000000000000000000000000000000000000000000000000000 (execRateLimit fn) := by
  unfold execRateLimit
  repeat' first | with_reducible apply ends_within | with_reducible apply touch_seqs_cons | with_reducible apply touch_seqs_nil | with_reducible apply touch_updFns | with_reducible apply touch_seq | with_reducible apply touch_skip | with_reducible apply touch_read | with_reducible (refine raise_touch.mono ?_) | with_reducible intro _ | split | dsimp only | exact rfl

end Sys2Proof.Machine
end

