-- ==== Sys2Proof/Laws/WithinHouse.lean ====
section
/-! SUPPORT. The mask of every operation and meaning of Machine/House.lean (see Laws/Touch.lean): what it can change at all. -/

set_option Elab.async false

set_option maxRecDepth 8192
set_option linter.unreachableTactic false
set_option linter.unusedTactic false

namespace Sys2Proof.Machine

theorem hbEnter_touch {st : Nat} : (hbEnter st).Touches 0x100000000000000000000000000000000000000000000000000000000000000000000000000000000000000000000000000000000000000000000000000000000000000000000000000000000000000000000008000000000000 := by
  unfold hbEnter
  repeat' first | with_reducible apply touch_seqs_cons | with_reducible apply touch_seqs_nil | with_reducible apply touch_setR | with_reducible apply touch_updHouse | with_reducible apply touch_seq | with_reducible apply touch_skip | with_reducible apply touch_read | with_reducible intro _ | split | dsimp only | exact rfl

theorem hbMatch_touch {mv rail : Nat} : (hbMatch mv rail).Touches 0x100000000000000000000000000000000000000000000000000000000000000000000000000000000000000000000000000000000000000000000000000000000000000000000000000000000000000000000028000000000000 := by
  unfold hbMatch
  repeat' first | with_reducible apply touch_seqs_cons | with_reducible apply touch_seqs_nil | with_reducible apply touch_setR | with_reducible apply touch_updHouse | with_reducible apply touch_when | with_reducible apply touch_seq | with_reducible apply touch_skip | with_reducible apply touch_read | with_reducible (refine hbEnter_touch.mono ?_) | with_reducible intro _ | split | dsimp only | exact rfl

theorem hbStep_touch {mv : Nat} {ma : Int} : (hbStep mv ma).Touches 0x100000000000000000000000000000000000000000000000000000000000000000000000000000000000000000000000000000000000000000000000000000000000000000000000000000000000000000000008000000000000 := by
  unfold hbStep
  repeat' first | with_reducible apply touch_seqs_cons | with_reducible apply touch_seqs_nil | with_reducible apply touch_updHouse | with_reducible apply touch_seq | with_reducible apply touch_skip | with_reducible apply touch_read | with_reducible (refine hbEnter_touch.mono ?_) | with_reducible intro _ | split | dsimp only | exact rfl

theorem execHbChargerTransition_within {mv : Nat} {ma : Int} {sys rail : Nat} : RunsWithin 0x100000000000000000000000000000000000000000000000000000000000000000000000000000000000000000000000000000000000000000000000000000000000000000000000000000000000000000000328000000000000 (execHbChargerTransition mv ma sys rail) := by
  unfold execHbChargerTransition
  repeat' first | with_reducible apply ends_within | with_reducible apply touch_seqs_cons | with_reducible apply touch_seqs_nil | with_reducible apply touch_setR | with_reducible apply touch_updHouse | with_reducible apply touch_when | with_reducible apply touch_seq | with_reducible apply touch_skip | with_reducible apply touch_read | with_reducible (refine hbEnter_touch.mono ?_) | with_reducible (refine hbMatch_touch.mono ?_) | with_reducible (refine hbStep_touch.mono ?_) | with_reducible intro _ | split | dsimp only | exact rfl

theorem execHbTempRead_within : RunsWithin 0x824c0000000000000008000000000000000000000000000000000000000000000000000000000000000000010001200000000000000000000000000000000000000000000000000000000000000000000000000000000000000 (execHbTempRead) := by
  unfold execHbTempRead
  repeat' first | with_reducible apply ends_within | with_reducible apply touch_seqs_cons | with_reducible apply touch_seqs_nil | with_reducible apply touch_when | with_reducible apply touch_seq | with_reducible apply touch_skip | with_reducible apply touch_read | with_reducible (refine agentQueue_touch.mono ?_) | with_reducible intro _ | split | dsimp only | exact rfl

theorem execHbTempSuspend_within : RunsWithin 0x100000000000000000000000000000000000000000000000000000000000000000000000000000000000000000000000000000000000000000000000000000000000000000000000000000000000000000000088000000000000 (execHbTempSuspend) := by
  unfold execHbTempSuspend
  repeat' first | with_reducible apply ends_within | with_reducible apply touch_seqs_cons | with_reducible apply touch_seqs_nil | with_reducible apply touch_setR | with_reducible apply touch_updHouse | with_reducible apply touch_when | with_reducible apply touch_seq | with_reducible apply touch_skip | with_reducible apply touch_read | with_reducible (refine hbEnter_touch.mono ?_) | with_reducible intro _ | split | dsimp only | exact rfl

theorem execHbFault_within {cause : Nat} : RunsWithin 0x1004c0000000000000008000000000000000000000000000000000000000000000000000000000000000000010001200000000000000000000000000000000000000000000000000000000000000000000000008000000000000 (execHbFault cause) := by
  unfold execHbFault
  repeat' first | with_reducible apply ends_within | with_reducible apply touch_seqs_cons | with_reducible apply touch_seqs_nil | with_reducible apply touch_updHouse | with_reducible apply touch_seq | with_reducible apply touch_skip | with_reducible apply touch_read | with_reducible (refine hbEnter_touch.mono ?_) | with_reducible (refine raisePf_touch.mono ?_) | with_reducible intro _ | split | dsimp only | exact rfl

theorem execAccUvlo_within : RunsWithin 0x10d74c00000000000000080000000000000000040000000000000080700000000000000000000000000000000160012000000000761f6d001800000000406400000000000000007f802d800080000000003d06000000000000000 (execAccUvlo) := by
  unfold execAccUvlo
  repeat' first | with_reducible apply ends_within | with_reducible apply touch_seqs_cons | with_reducible apply touch_seqs_nil | with_reducible apply touch_setR | with_reducible apply touch_seq | with_reducible apply touch_skip | with_reducible apply touch_read | with_reducible (refine raisePf_touch.mono ?_) | with_reducible (refine softStop_touch.mono ?_) | with_reducible intro _ | split | dsimp only | exact rfl

theorem execAccRestart_within : RunsWithin 0x2000000000000000 (execAccRestart) := by
  unfold execAccRestart
  repeat' first | with_reducible apply ends_within | with_reducible apply touch_seqs_cons | with_reducible apply touch_seqs_nil | with_reducible apply touch_setR | with_reducible apply touch_seq | with_reducible apply touch_skip | with_reducible apply touch_read | with_reducible intro _ | split | dsimp only | exact rfl

end Sys2Proof.Machine
end

