-- ==== Sys2Proof/Laws/WithinPlanner.lean ====
section
/-! SUPPORT. The mask of every operation and meaning of Machine/Planner.lean (see Laws/Touch.lean): what it can change at all. -/

set_option Elab.async false

set_option maxRecDepth 8192
set_option linter.unreachableTactic false
set_option linter.unusedTactic false

namespace Sys2Proof.Machine

theorem commitOne_touch {rec : List PlanRef} {avgs : List (Nat × Nat)} {lead : Nat} : (commitOne rec avgs lead).Touches 0x10d74c000000000000000800000000000000000400000000000000c0700001000000000000184800000000000160012000000000761f6d001800000000406400000000004200007fe86d800898000000133d04000000000000000 := by
  unfold commitOne
  repeat' first | with_reducible apply touch_seqs_cons | with_reducible apply touch_seqs_nil | with_reducible apply touch_updPorts | with_reducible apply touch_when | with_reducible apply touch_seq | with_reducible apply touch_skip | with_reducible apply touch_read | with_reducible (refine commitLead_touch.mono ?_) | with_reducible intro _ | split | dsimp only | exact rfl

theorem commitTick_touch {late : List Nat} {avgs : List (Nat × Nat)} : (commitTick late avgs).Touches 0x110d74c000000000000000800000000000000000400000000000000c0700001000000000000184800000000000160012000000000761f6d001800000000406400013a04004200007fe86d800898000000133d04000000000000000 := by
  unfold commitTick
  repeat' first | with_reducible apply touch_seqs_cons | with_reducible apply touch_seqs_nil | with_reducible apply touch_setR | with_reducible apply touch_incSat | with_reducible apply touch_updAlm | with_reducible apply touch_each | with_reducible apply touch_seq | with_reducible apply touch_skip | with_reducible apply touch_read | with_reducible (refine commitOne_touch.mono ?_) | with_reducible (refine raisePf_touch.mono ?_) | with_reducible (refine writeStatus_touch.mono ?_) | with_reducible intro _ | split | dsimp only | exact rfl

theorem guardRelease_touch : (guardRelease).Touches 0x201000000000000000000000000000000000000000000000000000000000000000000000000000000000000000000000000000000000000000000000000000000000000000000000000000000000000000000000000044000000 := by
  unfold guardRelease
  repeat' first | with_reducible apply touch_seqs_cons | with_reducible apply touch_seqs_nil | with_reducible apply touch_updGrid | with_reducible apply touch_seq | with_reducible apply touch_skip | with_reducible apply touch_read | with_reducible (refine setScale_touch.mono ?_) | with_reducible intro _ | split | dsimp only | exact rfl

theorem slotTick_touch {sl : Nat} : (slotTick sl).Touches 0x2000000000000000000000000000000000000000000000000000000000000000000000000000000000000000000000000000000000000000000000000000000000000018000000001000000000000000000000000000000000 := by
  unfold slotTick
  repeat' first | with_reducible apply touch_seqs_cons | with_reducible apply touch_seqs_nil | with_reducible apply touch_setR | with_reducible apply touch_updSlots | with_reducible apply touch_seq | with_reducible apply touch_skip | with_reducible apply touch_read | with_reducible intro _ | split | dsimp only | exact rfl

theorem portTick_touch {k : Nat} : (portTick k).Touches 0x40000000000000000000000000000000000000000000000000000000000000000000000600000000000000000000000000000000000000000000000000000000000000000000000000000000000000000000000000000000000 := by
  unfold portTick
  repeat' first | with_reducible apply touch_seqs_cons | with_reducible apply touch_seqs_nil | with_reducible apply touch_setR | with_reducible apply touch_updPorts | with_reducible apply touch_when | with_reducible apply touch_seq | with_reducible apply touch_skip | with_reducible apply touch_read | with_reducible intro _ | split | dsimp only | exact rfl

theorem budgetEnter_touch {k : Nat} : (budgetEnter k).Touches 0x400000000000000000000000000000000000000000000000000000000000000000000000000000000000000000000000000000000000000000000000000000000000000000000000000000000000000000000000000000000000 := by
  unfold budgetEnter
  repeat' first | with_reducible apply touch_seqs_cons | with_reducible apply touch_seqs_nil | with_reducible apply touch_updSrcs | with_reducible apply touch_seq | with_reducible apply touch_skip | with_reducible apply touch_read | with_reducible intro _ | split | dsimp only | exact rfl

theorem demandTick_touch : (demandTick).Touches 0x6004c0000000000000008000000000000000000000000000000000000000000000000000000000000000000010001200000000000000000000000000000000000000000000000000000000000000000000000000020008000000 := by
  unfold demandTick
  repeat' first | with_reducible apply touch_seqs_cons | with_reducible apply touch_seqs_nil | with_reducible apply touch_updGrid | with_reducible apply touch_seq | with_reducible apply touch_skip | with_reducible apply touch_read | with_reducible (refine srcEnable_touch.mono ?_) | with_reducible intro _ | split | dsimp only | exact rfl

theorem islandTick_touch : (islandTick).Touches 0x17d7cc000000000000000800000000000000000402000fc000000080700000000000000000000800000000004960012000300000761f6d001800000000406c000000b0000000007f802d800080000000003d04000020008000000 := by
  unfold islandTick
  repeat' first | with_reducible apply touch_seqs_cons | with_reducible apply touch_seqs_nil | with_reducible apply touch_updGrid | with_reducible apply touch_each | with_reducible apply touch_when | with_reducible apply touch_seq | with_reducible apply touch_skip | with_reducible apply touch_read | with_reducible (refine donorsChoose_touch.mono ?_) | with_reducible (refine enterMode_touch.mono ?_) | with_reducible (refine returnNext_touch.mono ?_) | with_reducible (refine stopSlot_touch.mono ?_) | with_reducible intro _ | split | dsimp only | exact rfl

theorem quotaOver_touch {fn uw : Nat} : (quotaOver fn uw).Touches 0x4c0000000000000008000000000000000000000000000000000000000000000000000000000000000000010001200000000000000000000000000000000000000000000000000000000000000000000000000000000000000 := by
  unfold quotaOver
  repeat' first | with_reducible apply touch_seqs_cons | with_reducible apply touch_seqs_nil | with_reducible apply touch_updFns | with_reducible apply touch_seq | with_reducible apply touch_skip | with_reducible apply touch_read | with_reducible (refine raise_touch.mono ?_) | with_reducible intro _ | split | dsimp only | exact rfl

theorem quotaTick_touch {ps : List PlanSlot} {fn : Nat} : (quotaTick ps fn).Touches 0x4c0000000000000008000000000000000000000000000000000000000000000000000000000000000000018001200000000000000000000000000000000000000000000000000000000000000000000000000000000000000 := by
  unfold quotaTick
  repeat' first | with_reducible apply touch_seqs_cons | with_reducible apply touch_seqs_nil | with_reducible apply touch_setR | with_reducible apply touch_updFns | with_reducible apply touch_seq | with_reducible apply touch_skip | with_reducible apply touch_read | with_reducible (refine quotaOver_touch.mono ?_) | with_reducible (refine raise_touch.mono ?_) | with_reducible intro _ | split | dsimp only | exact rfl

theorem cutsKeep_touch {r0 : List (Nat × Nat)} {assigned : List Nat} : (cutsKeep r0 assigned).Touches 0x2000000000000000000000000000000000000000000000000000000000000000000000000000000000000000000000000000000000000000000000000100000000000000000000000000000000000000000000000000000000 := by
  unfold cutsKeep
  repeat' first | with_reducible apply touch_seqs_cons | with_reducible apply touch_seqs_nil | with_reducible apply touch_setR | with_reducible apply touch_updSlots | with_reducible apply touch_each | with_reducible apply touch_seq | with_reducible apply touch_skip | with_reducible apply touch_read | with_reducible intro _ | split | dsimp only | exact rfl

theorem resvTick_touch {sl : Nat} : (resvTick sl).Touches 0x2000000000000000000000000000000000000000000000000000000000000000000000000000000000000000000000000000000000000000000000000040000000000000000000000000000000000000000000000000000000 := by
  unfold resvTick
  repeat' first | with_reducible apply touch_seqs_cons | with_reducible apply touch_seqs_nil | with_reducible apply touch_setR | with_reducible apply touch_updSlots | with_reducible apply touch_when | with_reducible apply touch_seq | with_reducible apply touch_skip | with_reducible apply touch_read | with_reducible intro _ | split | dsimp only | exact rfl

theorem rebuild_touch : (rebuild).Touches 0x100024c0000000000000008000000000000000000000000000000000000000000000000000000000000000000018001200000000000000000000000000000100000044000000000000000000000000000000000000000000000000 := by
  unfold rebuild
  repeat' first | with_reducible apply touch_seqs_cons | with_reducible apply touch_seqs_nil | with_reducible apply touch_setR | with_reducible apply touch_incWrap | with_reducible apply touch_updAlm | with_reducible apply touch_updSlots | with_reducible apply touch_each | with_reducible apply touch_seq | with_reducible apply touch_skip | with_reducible apply touch_read | with_reducible (refine cutsKeep_touch.mono ?_) | with_reducible (refine quotaTick_touch.mono ?_) | with_reducible intro _ | split | dsimp only | exact rfl

theorem contractsEnter_touch : (contractsEnter).Touches 0x40000000000000000000000000000000000000000000000000000000000000000000000000000000000000000000000000000000000000000000000000000000000000000000000000000000000000000000000000000000000 := by
  unfold contractsEnter
  repeat' first | with_reducible apply touch_seqs_cons | with_reducible apply touch_seqs_nil | with_reducible apply touch_updPorts | with_reducible apply touch_each | with_reducible apply touch_when | with_reducible apply touch_seq | with_reducible apply touch_skip | with_reducible apply touch_read | with_reducible intro _ | split | dsimp only | exact rfl

theorem boundaryCounts_touch : (boundaryCounts).Touches 0x446000000000000000000000000000000000000000000000000000000000000000000000600000000000000000000000000000006080000000800000000040000000000018000000001000000000000000000000000000000000 := by
  unfold boundaryCounts
  repeat' first | with_reducible apply touch_seqs_cons | with_reducible apply touch_seqs_nil | with_reducible apply touch_each | with_reducible apply touch_when | with_reducible apply touch_seq | with_reducible apply touch_skip | with_reducible apply touch_read | with_reducible (refine ageShow_touch.mono ?_) | with_reducible (refine budgetEnter_touch.mono ?_) | with_reducible (refine gaugeTick_touch.mono ?_) | with_reducible (refine portTick_touch.mono ?_) | with_reducible (refine resvTick_touch.mono ?_) | with_reducible (refine slotTick_touch.mono ?_) | with_reducible intro _ | split | dsimp only | exact rfl

theorem rootTakes_touch {skipped : Bool} : (rootTakes skipped).Touches 0x100004c0000000000000008000000000000000000000000000000000000000000000000000000000000000000010001200000000000000000000000000000000002400800000000000000000000000000000000000000000000800 := by
  unfold rootTakes
  repeat' first | with_reducible apply touch_seqs_cons | with_reducible apply touch_seqs_nil | with_reducible apply touch_incSat | with_reducible apply touch_updAlm | with_reducible apply touch_seq | with_reducible apply touch_skip | with_reducible apply touch_read | with_reducible (refine raise_touch.mono ?_) | with_reducible (refine rootMoved_touch.mono ?_) | with_reducible intro _ | split | dsimp only | exact rfl

theorem boundary_touch {late : List Nat} {avgs : List (Nat × Nat)} : (boundary late avgs).Touches 0x3ffffd7ff00000000000000080000000000000000041a020fc1044000c070000134000200800618c8000001800049e0012000300010761f6d001808002010407c00037efc0043ff007fe9ef800898000000133d0406002004c000800 := by
  unfold boundary
  repeat' first | with_reducible apply touch_seqs_cons | with_reducible apply touch_seqs_nil | with_reducible apply touch_updAlm | with_reducible apply touch_each | with_reducible apply touch_when | with_reducible apply touch_seq | with_reducible apply touch_skip | with_reducible apply touch_read | with_reducible (refine boundaryCounts_touch.mono ?_) | with_reducible (refine commitTick_touch.mono ?_) | with_reducible (refine contractsEnter_touch.mono ?_) | with_reducible (refine demandTick_touch.mono ?_) | with_reducible (refine guardRelease_touch.mono ?_) | with_reducible (refine islandTick_touch.mono ?_) | with_reducible (refine phasesByRef_touch.mono ?_) | with_reducible (refine rebuild_touch.mono ?_) | with_reducible (refine rootTakes_touch.mono ?_) | with_reducible (refine sequenceStep_touch.mono ?_) | with_reducible intro _ | split | dsimp only | exact rfl

theorem execTickBoundary_within {late : List Nat} {avgs : List (Nat × Nat)} : RunsWithin 0x3ffffd7ff00000000000000080000000000000000041a020fc1044000c070000134000200800618c8000001800049e0012000300010761f6d001808002010407c00037efc0043ff007fe9ef800898000000133d0406002004c000800 (execTickBoundary late avgs) := by
  unfold execTickBoundary
  repeat' first | with_reducible apply ends_within | with_reducible apply touch_seqs_cons | with_reducible apply touch_seqs_nil | with_reducible apply touch_seq | with_reducible apply touch_skip | with_reducible apply touch_read | with_reducible (refine boundary_touch.mono ?_) | with_reducible intro _ | split | dsimp only | exact rfl

theorem execTickFreeze_within {late : Bool} : RunsWithin 0x10000000000000000000000000000000000000000000000000000000000000000000000000000000000000000000000000000000000000000000000000000000000800000000000000000000000000000000000000000000000000 (execTickFreeze late) := by
  unfold execTickFreeze
  repeat' first | with_reducible apply ends_within | with_reducible apply touch_seqs_cons | with_reducible apply touch_seqs_nil | with_reducible apply touch_incSat | with_reducible apply touch_updAlm | with_reducible apply touch_seq | with_reducible apply touch_skip | with_reducible apply touch_read | with_reducible intro _ | split | dsimp only | exact rfl

theorem execQuotaOverRepeat_within {fn : Nat} : RunsWithin 0x4c0000000000000008000000000000000000000000000000000000000000000000000000000000000000010001200000000000000000000000000000000000000000000000000000000000000000000000000000000000000 (execQuotaOverRepeat fn) := by
  unfold execQuotaOverRepeat
  repeat' first | with_reducible apply ends_within | with_reducible apply touch_seqs_cons | with_reducible apply touch_seqs_nil | with_reducible apply touch_seq | with_reducible apply touch_skip | with_reducible apply touch_read | with_reducible (refine quotaOver_touch.mono ?_) | with_reducible intro _ | split | dsimp only | exact rfl

theorem execResvAtRisk_within {sl : Nat} : RunsWithin 0xcc0000000000000008000000000000000000000000000000000000000000000000000000000000000000010001200000000000000000000000000000040000000000000000000000000000000000000000000000000000000 (execResvAtRisk sl) := by
  unfold execResvAtRisk
  repeat' first | with_reducible apply ends_within | with_reducible apply touch_seqs_cons | with_reducible apply touch_seqs_nil | with_reducible apply touch_setR | with_reducible apply touch_withFree | with_reducible apply touch_seq | with_reducible apply touch_skip | with_reducible apply touch_read | with_reducible (refine raise_touch.mono ?_) | with_reducible intro _ | split | dsimp only | exact rfl

theorem execResvDeadline_within {sl : Nat} : RunsWithin 0x4c0000000000000008000000000000000000000000000000000000000000000000000000000000000000010001200000000000000000000000000000040000000000000000000000000000000000000000000000000000000 (execResvDeadline sl) := by
  unfold execResvDeadline
  repeat' first | with_reducible apply ends_within | with_reducible apply touch_seqs_cons | with_reducible apply touch_seqs_nil | with_reducible apply touch_setR | with_reducible apply touch_seq | with_reducible apply touch_skip | with_reducible apply touch_read | with_reducible (refine raise_touch.mono ?_) | with_reducible intro _ | split | dsimp only | exact rfl

theorem execRootHandover_within {late : List Nat} {avgs : List (Nat × Nat)} : RunsWithin 0x3ffffd7ff00000000000000080000000000000000041a020fc1044000c070000134000200800618c8000001800049e0012000300010761f6d001808002010407c00037efc0043ff007fe9ef800898000000133d0406002004c000800 (execRootHandover late avgs) := by
  unfold execRootHandover
  repeat' first | with_reducible apply ends_within | with_reducible apply touch_seqs_cons | with_reducible apply touch_seqs_nil | with_reducible apply touch_when | with_reducible apply touch_seq | with_reducible apply touch_skip | with_reducible apply touch_read | with_reducible (refine boundary_touch.mono ?_) | with_reducible intro _ | split | dsimp only | exact rfl

theorem viewEntry_touch {i : Nat} {ref : Option Int} {committed : Bool} : (viewEntry i ref committed).Touches 0x3800000000000000000000000000000000000000000000000000000 := by
  unfold viewEntry
  repeat' first | with_reducible apply touch_seqs_cons | with_reducible apply touch_seqs_nil | with_reducible apply touch_setR | with_reducible apply touch_seq | with_reducible apply touch_skip | with_reducible apply touch_read | with_reducible intro _ | split | dsimp only | exact rfl

theorem viewTake_touch : (viewTake).Touches 0x3c00000000000000000000000000000000000000000000000000000 := by
  unfold viewTake
  repeat' first | with_reducible apply touch_seqs_cons | with_reducible apply touch_seqs_nil | with_reducible apply touch_setR | with_reducible apply touch_each | with_reducible apply touch_seq | with_reducible apply touch_skip | with_reducible apply touch_read | with_reducible (refine viewEntry_touch.mono ?_) | with_reducible intro _ | split | dsimp only | exact rfl

theorem execAlmViewSelect_within {chan : Nat} : RunsWithin 0x1e00000000000000000000000000000000000000000000000000000000000000000000000000000000000000000000003e00000000000000000000000000000000000000000000000000000 (execAlmViewSelect chan) := by
  unfold execAlmViewSelect
  repeat' first | with_reducible apply pfWrites_within | with_reducible apply touch_seqs_cons | with_reducible apply touch_seqs_nil | with_reducible apply touch_setR | with_reducible apply touch_seq | with_reducible apply touch_skip | with_reducible apply touch_read | with_reducible (refine viewTake_touch.mono ?_) | with_reducible intro _ | split | dsimp only | exact rfl

end Sys2Proof.Machine
end

