-- ==== Sys2Proof/Laws/WithinSources.lean ====
section
/-! SUPPORT. The mask of every operation and meaning of Machine/Sources.lean (see Laws/Touch.lean): what it can change at all. -/

set_option Elab.async false

set_option maxRecDepth 8192
set_option linter.unreachableTactic false
set_option linter.unusedTactic false

namespace Sys2Proof.Machine

theorem busLoop_touch {vbus : Nat} {lead : Nat} : (busLoop vbus lead).Touches 0x1000000000000000000000000000000000000000000000000000000000000000000000000000000000000000000000000000000000000000000000000000000000000000000000000000000000000000000000000000000000 := by
  unfold busLoop
  repeat' first | with_reducible apply touch_seqs_cons | with_reducible apply touch_seqs_nil | with_reducible apply touch_updChans | with_reducible apply touch_seq | with_reducible apply touch_skip | with_reducible apply touch_read | with_reducible intro _ | split | dsimp only | exact rfl

theorem qualBreak_touch {k : Nat} : (qualBreak k).Touches 0x600000000000000000000000000000000000000000000000000000000000000000000000000000000000000000000000000000000000000000000000000000000000000000000000000000000000000000000000040000000000 := by
  unfold qualBreak
  repeat' first | with_reducible apply touch_seqs_cons | with_reducible apply touch_seqs_nil | with_reducible apply touch_setR | with_reducible apply touch_updSrcs | with_reducible apply touch_seq | with_reducible apply touch_skip | with_reducible apply touch_read | with_reducible (refine returnDrop_touch.mono ?_) | with_reducible intro _ | split | dsimp only | exact rfl

theorem srcSample_touch {k : Nat} {v : Nat} {i : Int} : (srcSample k v i).Touches 0x600000000000000000000000000000000000000000000000000000000000000000000000000000000000000000000000000000000000000000000000000000000000000000000000000000000000000000000000c40000000000 := by
  unfold srcSample
  repeat' first | with_reducible apply touch_seqs_cons | with_reducible apply touch_seqs_nil | with_reducible apply touch_setR | with_reducible apply touch_updSrcs | with_reducible apply touch_when | with_reducible apply touch_seq | with_reducible apply touch_skip | with_reducible apply touch_read | with_reducible (refine qualBreak_touch.mono ?_) | with_reducible intro _ | split | dsimp only | exact rfl

theorem busReadings_touch {b : BusSample} : (busReadings b).Touches 0x200000000000000000000000000000000000000000000000000000000000000000000000000000000000000000000000000000000000000000000000000000000000000000000000000000000000000000000000000000700000 := by
  unfold busReadings
  repeat' first | with_reducible apply touch_seqs_cons | with_reducible apply touch_seqs_nil | with_reducible apply touch_setR | with_reducible apply touch_updGrid | with_reducible apply touch_seq | with_reducible apply touch_skip | with_reducible apply touch_read | with_reducible intro _ | split | dsimp only | exact rfl

theorem guardRecompute_touch : (guardRecompute).Touches 0x201000000000000000000000000000000000000000000000000000000000000000000000000000000000000000000000000000000000000000000000000000000000000000000000000000000000000000000000000044000000 := by
  unfold guardRecompute
  repeat' first | with_reducible apply touch_seqs_cons | with_reducible apply touch_seqs_nil | with_reducible apply touch_updGrid | with_reducible apply touch_seq | with_reducible apply touch_skip | with_reducible apply touch_read | with_reducible (refine setScale_touch.mono ?_) | with_reducible intro _ | split | dsimp only | exact rfl

theorem execBusSample_within {b : BusSample} {avgs : List (Nat × Nat)} : RunsWithin 0x16d74c000000000000000800000000000000000400000000000000c0700001000000000000184800000000000160012000000000761f6d001800000000406400000000004200007fe86d800880000000033d04000c40044700000 (execBusSample b avgs) := by
  unfold execBusSample
  repeat' first | with_reducible apply ends_within | with_reducible apply touch_seqs_cons | with_reducible apply touch_seqs_nil | with_reducible apply touch_updGrid | with_reducible apply touch_each | with_reducible apply touch_when | with_reducible apply touch_seq | with_reducible apply touch_skip | with_reducible apply touch_read | with_reducible (refine busLoop_touch.mono ?_) | with_reducible (refine busReadings_touch.mono ?_) | with_reducible (refine guardRecompute_touch.mono ?_) | with_reducible (refine preBias_touch.mono ?_) | with_reducible (refine srcSample_touch.mono ?_) | with_reducible intro _ | split | dsimp only | exact rfl

theorem sensorEvent_touch : (sensorEvent).Touches 0x4c0000000000000008000000000000000000000000000000000000000000000000000000000000000000010001200000000000000000000000000000000000000000000000000000000000000000000000000000000000000 := by
  unfold sensorEvent
  repeat' first | with_reducible apply touch_seqs_cons | with_reducible apply touch_seqs_nil | with_reducible apply touch_seq | with_reducible apply touch_skip | with_reducible apply touch_read | with_reducible (refine raisePf_touch.mono ?_) | with_reducible intro _ | split | dsimp only | exact rfl

theorem execModulatorStuck_within {m clocks : Nat} : RunsWithin 0x6004c0000000000000008000000000000000000000000000000000000000000000000000000000000000000010001200000000000000000000000000000000000000000000000000000000000000000000000000040000080000 (execModulatorStuck m clocks) := by
  unfold execModulatorStuck
  repeat' first | with_reducible apply ends_within | with_reducible apply touch_seqs_cons | with_reducible apply touch_seqs_nil | with_reducible apply touch_setR | with_reducible apply touch_updGrid | with_reducible apply touch_updSrcs | with_reducible apply touch_when | with_reducible apply touch_seq | with_reducible apply touch_skip | with_reducible apply touch_read | with_reducible (refine qualBreak_touch.mono ?_) | with_reducible (refine sensorEvent_touch.mono ?_) | with_reducible intro _ | split | dsimp only | exact rfl

theorem execBusSensorMismatch_within : RunsWithin 0x4c0000000000000008000000000000000000000000000000000000000000000000000000000000000000010001200000000000000000000000000000000000000000000000000000000000000000000000000000000080000 (execBusSensorMismatch) := by
  unfold execBusSensorMismatch
  repeat' first | with_reducible apply ends_within | with_reducible apply touch_seqs_cons | with_reducible apply touch_seqs_nil | with_reducible apply touch_setR | with_reducible apply touch_seq | with_reducible apply touch_skip | with_reducible apply touch_read | with_reducible (refine sensorEvent_touch.mono ?_) | with_reducible intro _ | split | dsimp only | exact rfl

theorem execBusGuardTrip_within : RunsWithin 0x2014c0000000000000008000000000000000000000000000000000000000000000000000000000000000000010001200000000000000000000000000000000000000000000000000000000000000000000000000000064000000 (execBusGuardTrip) := by
  unfold execBusGuardTrip
  repeat' first | with_reducible apply ends_within | with_reducible apply touch_seqs_cons | with_reducible apply touch_seqs_nil | with_reducible apply touch_incSat | with_reducible apply touch_updGrid | with_reducible apply touch_seq | with_reducible apply touch_skip | with_reducible apply touch_read | with_reducible (refine raisePf_touch.mono ?_) | with_reducible (refine setScale_touch.mono ?_) | with_reducible intro _ | split | dsimp only | exact rfl

theorem execBusOvervoltage_within : RunsWithin 0x43000000000000000000000000000000000000000000000000008000000000000000000000000000000000000000000000000000000000000000000000000000000000000000000000000080000000003504000000000000000 (execBusOvervoltage) := by
  unfold execBusOvervoltage
  repeat' first | with_reducible apply ends_within | with_reducible apply touch_seqs_cons | with_reducible apply touch_seqs_nil | with_reducible apply touch_when | with_reducible apply touch_seq | with_reducible apply touch_skip | with_reducible apply touch_read | with_reducible (refine parkFeeding_touch.mono ?_) | with_reducible intro _ | split | dsimp only | exact rfl

theorem execBusUndervoltage_within : RunsWithin 0x201000000000000000000000000000000000000000000000000000000000000000000000000000000000000000000000000000000000000000000000000000000000000000000000000000000000000000000000000044000000 (execBusUndervoltage) := by
  unfold execBusUndervoltage
  repeat' first | with_reducible apply ends_within | with_reducible apply touch_seqs_cons | with_reducible apply touch_seqs_nil | with_reducible apply touch_updGrid | with_reducible apply touch_when | with_reducible apply touch_seq | with_reducible apply touch_skip | with_reducible apply touch_read | with_reducible (refine setScale_touch.mono ?_) | with_reducible intro _ | split | dsimp only | exact rfl

theorem execBusBelowPack_within {sl : Nat} : RunsWithin 0x10d74c000000000000000800000000000000000400000000000000c0700001000000000000000000000000000160012000000000761f6d001800000000406400000000004200007fe86d800080000000003d04000000000000000 (execBusBelowPack sl) := by
  unfold execBusBelowPack
  repeat' first | with_reducible apply ends_within | with_reducible apply touch_seqs_cons | with_reducible apply touch_seqs_nil | with_reducible apply touch_when | with_reducible apply touch_seq | with_reducible apply touch_skip | with_reducible apply touch_read | with_reducible (refine slotSafe_touch.mono ?_) | with_reducible intro _ | split | dsimp only | exact rfl

theorem execBusUvRestart_within : RunsWithin 0x200000000000000000000000000000000000000000000000000000000000000000000000000000000000000000000000000000000000000000000000000000000000000000000000000000000000000000000000000000000000 (execBusUvRestart) := by
  unfold execBusUvRestart
  repeat' first | with_reducible apply ends_within | with_reducible apply touch_seqs_cons | with_reducible apply touch_seqs_nil | with_reducible apply touch_updGrid | with_reducible apply touch_seq | with_reducible apply touch_skip | with_reducible apply touch_read | with_reducible intro _ | split | dsimp only | exact rfl

theorem presenceRise_touch {k mv : Nat} : (presenceRise k mv).Touches 0x4004c00000000000000080000000000000000000000000000000000000000000000000000000000000000000100012000000000000000000000000000000000000000000000000000000000000000000000000002d0000000000 := by
  unfold presenceRise
  repeat' first | with_reducible apply touch_seqs_cons | with_reducible apply touch_seqs_nil | with_reducible apply touch_setR | with_reducible apply touch_updSrcs | with_reducible apply touch_seq | with_reducible apply touch_skip | with_reducible apply touch_read | with_reducible (refine srcChange_touch.mono ?_) | with_reducible (refine srcLimit_touch.mono ?_) | with_reducible intro _ | split | dsimp only | exact rfl

theorem execSourcePresenceRise_within {k mv : Nat} : RunsWithin 0x10004004c00000000000000080000000000000000000000000000000000000000000000000000000000000000000100012000000000000000000000000000000000000000000000000000000000000000000000000002d0000000000 (execSourcePresenceRise k mv) := by
  unfold execSourcePresenceRise
  repeat' first | with_reducible apply latching_within | with_reducible apply touch_seqs_cons | with_reducible apply touch_seqs_nil | with_reducible apply touch_seq | with_reducible apply touch_skip | with_reducible apply touch_read | with_reducible (refine presenceRise_touch.mono ?_) | with_reducible intro _ | split | dsimp only | exact rfl

theorem sourceGone_touch {k why : Nat} : (sourceGone k why).Touches 0x17d7dc000000000000000800000000000000000402000fc0000000807000000000000000001ce800000000004960012000300000761f6d001800000000406c000000b0000200007f806d800080000000003d0400017004c000000 := by
  unfold sourceGone
  repeat' first | with_reducible apply touch_seqs_cons | with_reducible apply touch_seqs_nil | with_reducible apply touch_when | with_reducible apply touch_seq | with_reducible apply touch_skip | with_reducible apply touch_read | with_reducible (refine sourceLost_touch.mono ?_) | with_reducible intro _ | split | dsimp only | exact rfl

theorem execSourceLost_within {k why : Nat} : RunsWithin 0x10017d7dc000000000000000800000000000000000402000fc0000000807000000000000000001ce800000000004960012000300000761f6d001800000000406c000000b0000200007f806d800080000000003d0400017004c000000 (execSourceLost k why) := by
  unfold execSourceLost
  repeat' first | with_reducible apply ends_within | with_reducible apply latching_within | with_reducible apply touch_seqs_cons | with_reducible apply touch_seqs_nil | with_reducible apply touch_seq | with_reducible apply touch_skip | with_reducible apply touch_read | with_reducible (refine sourceGone_touch.mono ?_) | with_reducible intro _ | split | dsimp only | exact rfl

theorem qualifiedActs_touch {k : Nat} : (qualifiedActs k).Touches 0x6004c0000000000000008000000000000000000000000000000000000000000000000000000000000000000010001200000000000000000000000000000000000000000000000000000000000000000000000000020008000000 := by
  unfold qualifiedActs
  repeat' first | with_reducible apply touch_seqs_cons | with_reducible apply touch_seqs_nil | with_reducible apply touch_seq | with_reducible apply touch_skip | with_reducible apply touch_read | with_reducible (refine returnNext_touch.mono ?_) | with_reducible (refine srcEnable_touch.mono ?_) | with_reducible intro _ | split | dsimp only | exact rfl

theorem execSourceQualified_within {k : Nat} : RunsWithin 0x216d75c000000000000000800000000000000000403000f00000000807000000000000000001ce800000000000160012000000000761f6d001800000000406400000000004200007f806d800080000000003d04000060008000000 (execSourceQualified k) := by
  unfold execSourceQualified
  repeat' first | with_reducible apply ends_within | with_reducible apply touch_seqs_cons | with_reducible apply touch_seqs_nil | with_reducible apply touch_setR | with_reducible apply touch_updGrid | with_reducible apply touch_updSrcs | with_reducible apply touch_when | with_reducible apply touch_seq | with_reducible apply touch_skip | with_reducible apply touch_read | with_reducible (refine qualifiedActs_touch.mono ?_) | with_reducible (refine requestBy_touch.mono ?_) | with_reducible (refine srcChange_touch.mono ?_) | with_reducible intro _ | split | dsimp only | exact rfl

theorem execDemandSourceDisable_within : RunsWithin 0x6004c0000000000000008000000000000000000000000000000000000000000000000000000000000000000010001200000000000000000000000000000000000000000000000000000000000000000000000000020000000000 (execDemandSourceDisable) := by
  unfold execDemandSourceDisable
  repeat' first | with_reducible apply ends_within | with_reducible apply touch_seqs_cons | with_reducible apply touch_seqs_nil | with_reducible apply touch_updGrid | with_reducible apply touch_seq | with_reducible apply touch_skip | with_reducible apply touch_read | with_reducible (refine srcDisable_touch.mono ?_) | with_reducible intro _ | split | dsimp only | exact rfl

theorem execSrcLimitWrite_within {k override : Nat} : RunsWithin 0x4c0000000000000008000000001e00000000000000000000000000000000000000000000000000000000010001200000000000000000000000000000000000000000000000000000000000000000000000000288000000000 (execSrcLimitWrite k override) := by
  unfold execSrcLimitWrite
  repeat' first | with_reducible apply pfWrites_within | with_reducible apply touch_seqs_cons | with_reducible apply touch_seqs_nil | with_reducible apply touch_setR | with_reducible apply touch_seq | with_reducible apply touch_skip | with_reducible apply touch_read | with_reducible (refine srcLimit_touch.mono ?_) | with_reducible intro _ | split | dsimp only | exact rfl

theorem srcModeWritten_touch {k : Nat} : (srcModeWritten k).Touches 0x17d7dc000000000000000800000000000000000402000fc0000000807000000000000000001ce800000000004960012000300000761f6d001800000000406c000000b0000200007f806d800080000000003d0400017004c000000 := by
  unfold srcModeWritten
  repeat' first | with_reducible apply touch_seqs_cons | with_reducible apply touch_seqs_nil | with_reducible apply touch_updGrid | with_reducible apply touch_seq | with_reducible apply touch_skip | with_reducible apply touch_read | with_reducible (refine qualifiedActs_touch.mono ?_) | with_reducible (refine returnDrop_touch.mono ?_) | with_reducible (refine sourceLost_touch.mono ?_) | with_reducible intro _ | split | dsimp only | exact rfl

theorem execSrcModeWrite_within {k mode : Nat} : RunsWithin 0x17d7dc0000000000000008000000001e0000000402000fc0000000807000000000000000001ce800000000004960012000300000761f6d001800000000406c000000b0000200007f806d800080000000003d0400017204c000000 (execSrcModeWrite k mode) := by
  unfold execSrcModeWrite
  repeat' first | with_reducible apply pfWrites_within | with_reducible apply touch_seqs_cons | with_reducible apply touch_seqs_nil | with_reducible apply touch_setR | with_reducible apply touch_seq | with_reducible apply touch_skip | with_reducible apply touch_read | with_reducible (refine srcModeWritten_touch.mono ?_) | with_reducible intro _ | split | dsimp only | exact rfl

theorem execIslandBusReady_within : RunsWithin 0x240400000000000000000000000000000000000000000000000000000000000000000000000080000000000000000000000000000000000000000000000000000000000000000000000000000000000000000000000000000000 (execIslandBusReady) := by
  unfold execIslandBusReady
  repeat' first | with_reducible apply ends_within | with_reducible apply touch_seqs_cons | with_reducible apply touch_seqs_nil | with_reducible apply touch_updGrid | with_reducible apply touch_each | with_reducible apply touch_seq | with_reducible apply touch_skip | with_reducible apply touch_read | with_reducible (refine portPresent_touch.mono ?_) | with_reducible (refine portsLimitChanged_touch.mono ?_) | with_reducible intro _ | split | dsimp only | exact rfl

theorem nextDonor_touch : (nextDonor).Touches 0x20800000000000000000000000000000000 := by
  unfold nextDonor
  repeat' first | with_reducible apply touch_seqs_cons | with_reducible apply touch_seqs_nil | with_reducible apply touch_seq | with_reducible apply touch_skip | with_reducible apply touch_read | with_reducible (refine donorStart_touch.mono ?_) | with_reducible intro _ | split | dsimp only | exact rfl

theorem execIslandDonorFloor_within {sl : Nat} : RunsWithin 0x12d75c000000000000000800000000000000000400000000000000807000000000000000001ce800000000000160012000000000761f6d001800000000406400000000000200007f806d800080000000003d04000000044000000 (execIslandDonorFloor sl) := by
  unfold execIslandDonorFloor
  repeat' first | with_reducible apply ends_within | with_reducible apply touch_seqs_cons | with_reducible apply touch_seqs_nil | with_reducible apply touch_updGrid | with_reducible apply touch_when | with_reducible apply touch_seq | with_reducible apply touch_skip | with_reducible apply touch_read | with_reducible (refine donorsGone_touch.mono ?_) | with_reducible (refine nextDonor_touch.mono ?_) | with_reducible (refine raisePf_touch.mono ?_) | with_reducible (refine stopSlot_touch.mono ?_) | with_reducible intro _ | split | dsimp only | exact rfl

theorem execIslandSourceReturn_within {k : Nat} : RunsWithin 0x6004c0000000000000008000000000000000000000000000000000000000000000000000000000000000000010001200000000000000000000000000000000000000000000000000000000000000000000000000020008000000 (execIslandSourceReturn k) := by
  unfold execIslandSourceReturn
  repeat' first | with_reducible apply ends_within | with_reducible apply touch_seqs_cons | with_reducible apply touch_seqs_nil | with_reducible apply touch_updGrid | with_reducible apply touch_when | with_reducible apply touch_seq | with_reducible apply touch_skip | with_reducible apply touch_read | with_reducible (refine returnNext_touch.mono ?_) | with_reducible (refine srcEnable_touch.mono ?_) | with_reducible intro _ | split | dsimp only | exact rfl

end Sys2Proof.Machine
end

