-- ==== Sys2Proof/Laws/WithinServiceOps.lean ====
section
/-! SUPPORT. The mask of every operation and meaning of Machine/ServiceOps.lean (see Laws/Touch.lean): what it can change at all. -/

set_option Elab.async false

set_option maxRecDepth 8192
set_option linter.unreachableTactic false
set_option linter.unusedTactic false

namespace Sys2Proof.Machine

theorem freezeBegin_touch : (freezeBegin).Touches 0x1400143000000000000000000000000000141c00000020004c00000208000000000000000000000000000000000000000000000000000000000000000000000000000000000000000000000000080000000003504000000000000000 := by
  unfold freezeBegin
  repeat' first | with_reducible apply touch_seqs_cons | with_reducible apply touch_seqs_nil | with_reducible apply touch_setR | with_reducible apply touch_incSat | with_reducible apply touch_updHouse | with_reducible apply touch_updSun | with_reducible apply touch_updSvc | with_reducible apply touch_each | with_reducible apply touch_seq | with_reducible apply touch_skip | with_reducible apply touch_read | with_reducible (refine parkOutput_touch.mono ?_) | with_reducible intro _ | split | dsimp only | exact rfl

theorem freezeAsk_touch : (freezeAsk).Touches 0x14201434c0000000000000008000000000141c00000030004c00000208000000000000000000000000000000000010001200000000000000000000000000000000000000000000000000000000080000000003504000000000000000 := by
  unfold freezeAsk
  repeat' first | with_reducible apply touch_seqs_cons | with_reducible apply touch_seqs_nil | with_reducible apply touch_updPower | with_reducible apply touch_seq | with_reducible apply touch_skip | with_reducible apply touch_read | with_reducible (refine freezeBegin_touch.mono ?_) | with_reducible (refine refuse_touch.mono ?_) | with_reducible intro _ | split | dsimp only | exact rfl

theorem timesShift_touch {d : Nat} : (timesShift d).Touches 0x15effd71c0000000000000000000000000000000000000000000000000000000000000000000000000000000000000000000000000000000000000000000000000000000000000000000000000000000000000000000000000000000 := by
  unfold timesShift
  repeat' first | with_reducible apply touch_seqs_cons | with_reducible apply touch_seqs_nil | with_reducible apply touch_updEng | with_reducible apply touch_updGrid | with_reducible apply touch_updHost | with_reducible apply touch_updHouse | with_reducible apply touch_updKeep | with_reducible apply touch_updMains | with_reducible apply touch_updPendZ | with_reducible apply touch_updPower | with_reducible apply touch_updSun | with_reducible apply touch_updSvc | with_reducible apply touch_chansMap | with_reducible apply touch_fcvsMap | with_reducible apply touch_fnsMap | with_reducible apply touch_gaugesMap | with_reducible apply touch_groupsMap | with_reducible apply touch_icvsMap | with_reducible apply touch_pairsMap | with_reducible apply touch_portsMap | with_reducible apply touch_ringsMap | with_reducible apply touch_slotsMap | with_reducible apply touch_srcsMap | with_reducible apply touch_tasksMap | with_reducible apply touch_twbMap | with_reducible apply touch_seq | with_reducible apply touch_skip | with_reducible apply touch_read | with_reducible intro _ | split | dsimp only | exact rfl

theorem sysWdgResume_touch {more : Nat} : (sysWdgResume more).Touches 0x400000000000000000000000000000000000000000000000000000200000000000000000000000000000000000000000000000000000000000000000000000000000000000000000000000000000000000000000000000000000000 := by
  unfold sysWdgResume
  repeat' first | with_reducible apply touch_seqs_cons | with_reducible apply touch_seqs_nil | with_reducible apply touch_setR | with_reducible apply touch_updSun | with_reducible apply touch_seq | with_reducible apply touch_skip | with_reducible apply touch_read | with_reducible intro _ | split | dsimp only | exact rfl

theorem latchedTake_touch  {x : Latched} : (latchedTake  x).Touches 0x1ffdfd7dd0000000000000008000000000141cc03f403020fc04411e0df70081f0000020080001ce800000182004960012000300000761f6d001800000010406c000000b0004200007fe86d800080000000003d040003f004c04a000 := by
  cases x <;> unfold latchedTake
  all_goals
    repeat' first | with_reducible apply touch_seqs_cons | with_reducible apply touch_seqs_nil | with_reducible apply touch_seq | with_reducible apply touch_skip | with_reducible apply touch_read | with_reducible (refine crystalStopped_touch.mono ?_) | with_reducible (refine feedGone_touch.mono ?_) | with_reducible (refine fgNtcTrip_touch.mono ?_) | with_reducible (refine fgOcTrip_touch.mono ?_) | with_reducible (refine fgOvTrip_touch.mono ?_) | with_reducible (refine fgRvTrip_touch.mono ?_) | with_reducible (refine freezeAsk_touch.mono ?_) | with_reducible (refine haltEnter_touch.mono ?_) | with_reducible (refine idLossTrip_touch.mono ?_) | with_reducible (refine modeRequest_touch.mono ?_) | with_reducible (refine packRemoval_touch.mono ?_) | with_reducible (refine perst_touch.mono ?_) | with_reducible (refine pinClose_touch.mono ?_) | with_reducible (refine pllUnlocked_touch.mono ?_) | with_reducible (refine presenceRise_touch.mono ?_) | with_reducible (refine sourceGone_touch.mono ?_) | with_reducible (refine wdgClockSeen_touch.mono ?_) | with_reducible intro _ | split | dsimp only | exact rfl

theorem latchedAll_touch {l : List Latched} : (latchedAll l).Touches 0x1ffdfd7dd0000000000000008000000000141cc03f403020fc04411e0df70081f0000020080001ce800000182004960012000300000761f6d001800000010406c000000b0004200007fe86d800080000000003d040003f004c04a000 := by
  unfold latchedAll
  repeat' first | with_reducible apply touch_seqs_cons | with_reducible apply touch_seqs_nil | with_reducible apply touch_each | with_reducible apply touch_seq | with_reducible apply touch_skip | with_reducible apply touch_read | with_reducible (refine latchedTake_touch.mono ?_) | with_reducible intro _ | split | dsimp only | exact rfl

theorem clocksRestart_touch : (clocksRestart).Touches 0x35fffd75c0000000000000000000000000080400000000000000000000000000000000000000000000000000000000000000000000000000000000000000000000000000000000000000000000000000000000000000000000000000 := by
  unfold clocksRestart
  repeat' first | with_reducible apply touch_seqs_cons | with_reducible apply touch_seqs_nil | with_reducible apply touch_setR | with_reducible apply touch_updAlm | with_reducible apply touch_updSvc | with_reducible apply touch_each | with_reducible apply touch_tinesMap | with_reducible apply touch_seq | with_reducible apply touch_skip | with_reducible apply touch_read | with_reducible (refine storeDrain_touch.mono ?_) | with_reducible (refine timesShift_touch.mono ?_) | with_reducible intro _ | split | dsimp only | exact rfl

theorem outputsResume_touch : (outputsResume).Touches 0x10d75c00000000000000080000000000000000040000000000000080700000000000000001fce800000000000160012000000000761f6d001800000000406400000000000200007f806d800080000000003d04000000000000000 := by
  unfold outputsResume
  repeat' first | with_reducible apply touch_seqs_cons | with_reducible apply touch_seqs_nil | with_reducible apply touch_each | with_reducible apply touch_seq | with_reducible apply touch_skip | with_reducible apply touch_read | with_reducible (refine leadPark_touch.mono ?_) | with_reducible (refine portDisable_touch.mono ?_) | with_reducible (refine portPresent_touch.mono ?_) | with_reducible intro _ | split | dsimp only | exact rfl

theorem thaw_touch : (thaw).Touches 0x3ffffd7dd00000000000000080000000001c9cc03f403020fc04411e0df70081f000002008001fce800000182004960012000300000761f6d001800000010406c000000b0004200007fe86d800080000000003d040003f004c04a000 := by
  unfold thaw
  repeat' first | with_reducible apply touch_seqs_cons | with_reducible apply touch_seqs_nil | with_reducible apply touch_setR | with_reducible apply touch_updHouse | with_reducible apply touch_updSvc | with_reducible apply touch_when | with_reducible apply touch_pairsMap | with_reducible apply touch_seq | with_reducible apply touch_skip | with_reducible apply touch_read | with_reducible (refine allSourcesLost_touch.mono ?_) | with_reducible (refine clocksRestart_touch.mono ?_) | with_reducible (refine curtailUpdate_touch.mono ?_) | with_reducible (refine latchedAll_touch.mono ?_) | with_reducible (refine outputsResume_touch.mono ?_) | with_reducible (refine raisePf_touch.mono ?_) | with_reducible (refine sysWdgResume_touch.mono ?_) | with_reducible intro _ | split | dsimp only | exact rfl

theorem thawDbg_touch : (thawDbg).Touches 0x3ffffd7dd00000000000000080000000001c1cc03f403020fc04411e0df70081f000002008001fce800000182004960012000300000761f6d001800000010406c000000b0004200007fe86d800080000000003d040003f004c04a000 := by
  unfold thawDbg
  repeat' first | with_reducible apply touch_seqs_cons | with_reducible apply touch_seqs_nil | with_reducible apply touch_setR | with_reducible apply touch_updSvc | with_reducible apply touch_when | with_reducible apply touch_seq | with_reducible apply touch_skip | with_reducible apply touch_read | with_reducible (refine clocksRestart_touch.mono ?_) | with_reducible (refine latchedAll_touch.mono ?_) | with_reducible (refine outputsResume_touch.mono ?_) | with_reducible (refine sysWdgResume_touch.mono ?_) | with_reducible intro _ | split | dsimp only | exact rfl

theorem release_touch {dbg : Bool} : (release dbg).Touches 0x3ffffd7dd00000000000000080000000001c9cc03f403020fc04411e0df70081f000002008001fce800000182004960012000300000761f6d001800000010406c000000b0004200007fe86d800080000000003d040003f004c04a000 := by
  unfold release
  repeat' first | with_reducible apply touch_seqs_cons | with_reducible apply touch_seqs_nil | with_reducible apply touch_updSvc | with_reducible apply touch_seq | with_reducible apply touch_skip | with_reducible apply touch_read | with_reducible (refine thaw_touch.mono ?_) | with_reducible (refine thawDbg_touch.mono ?_) | with_reducible intro _ | split | dsimp only | exact rfl

end Sys2Proof.Machine
end

