-- ==== Sys2Proof/Laws/WithinService.lean ====
section
/-! SUPPORT. The mask of every operation and meaning of Machine/Service.lean (see Laws/Touch.lean): what it can change at all. -/

set_option Elab.async false

set_option maxRecDepth 8192
set_option linter.unreachableTactic false
set_option linter.unusedTactic false

namespace Sys2Proof.Machine

theorem execFreezePin_within {us : Nat} : RunsWithin 0x14201434c0000000000000008000000000141c00000030004c00000208000000000000000000000000000000000010001200000000000000000000000000000000000000000000000000000000080000000003504000000000000000 (execFreezePin us) := by
  unfold execFreezePin
  repeat' first | with_reducible apply endsAlways_within | with_reducible apply touch_seqs_cons | with_reducible apply touch_seqs_nil | with_reducible apply touch_when | with_reducible apply touch_seq | with_reducible apply touch_skip | with_reducible apply touch_read | with_reducible (refine freezeAsk_touch.mono ?_) | with_reducible intro _ | split | dsimp only | exact rfl

theorem execFreezeReleasePin_within {us : Nat} : RunsWithin 0x3ffffd7dd00000000000000080000000001c9cc03f403020fc04411e0df70081f000002008001fce800000182004960012000300000761f6d001800000010406c000000b0004200007fe86d800080000000003d040003f004c04a000 (execFreezeReleasePin us) := by
  unfold execFreezeReleasePin
  repeat' first | with_reducible apply endsAlways_within | with_reducible apply touch_seqs_cons | with_reducible apply touch_seqs_nil | with_reducible apply touch_when | with_reducible apply touch_seq | with_reducible apply touch_skip | with_reducible apply touch_read | with_reducible (refine release_touch.mono ?_) | with_reducible intro _ | split | dsimp only | exact rfl

theorem execSnapStreamEnd_within : RunsWithin 0x3ffffd7dd00000000000000080000000001cbcc03f403020fc04411e0df70081f000002008001fce800000182004960012000300000761f6d001800000010406c000000b0004200007fe86d800080000000003d040003f004c04a000 (execSnapStreamEnd) := by
  unfold execSnapStreamEnd
  repeat' first | with_reducible apply endsAlways_within | with_reducible apply touch_seqs_cons | with_reducible apply touch_seqs_nil | with_reducible apply touch_setR | with_reducible apply touch_updSvc | with_reducible apply touch_seq | with_reducible apply touch_skip | with_reducible apply touch_read | with_reducible (refine release_touch.mono ?_) | with_reducible intro _ | split | dsimp only | exact rfl

theorem tap_touch {ir tdo : Nat} : (tap ir tdo).Touches 0x1000000000000000000000000000000000000000000000000000000000000000000000000000000000000000000000000000000000000000000000000000000000000000000000000000000000000000000000000000000000000000 := by
  unfold tap
  repeat' first | with_reducible apply touch_seqs_cons | with_reducible apply touch_seqs_nil | with_reducible apply touch_updSvc | with_reducible apply touch_seq | with_reducible apply touch_skip | with_reducible apply touch_read | with_reducible intro _ | split | dsimp only | exact rfl

theorem tapRow_within {allowed : State → Bool} {p : Prog} {M : Nat} (h : p.Touches M) (hm : 0x1000000000000000000000000000000000000000000000000000000000000000000000000000000000000000000000000000000000000000000000000000000000000000000000000000000000000000000000000000000000000000 &&& M = 0x1000000000000000000000000000000000000000000000000000000000000000000000000000000000000000000000000000000000000000000000000000000000000000000000000000000000000000000000000000000000000000) :
    RunsWithin M (tapRow allowed p) := endsAlways_within (touch_when (touch_cond h (tap_touch.mono hm)))

theorem execBypass_within : RunsWithin 0x1000000000000000000000000000000000000000000000000000000000000000000000000000000000000000000000000000000000000000000000000000000000000000000000000000000000000000000000000000000000000000 (execBypass) := by
  unfold execBypass
  repeat' first | with_reducible apply tapRow_within | with_reducible apply touch_seqs_cons | with_reducible apply touch_seqs_nil | with_reducible apply touch_seq | with_reducible apply touch_skip | with_reducible apply touch_read | with_reducible (refine tap_touch.mono ?_) | with_reducible intro _ | split | dsimp only | exact rfl

theorem execIdcode_within : RunsWithin 0x1000000000000000000000000000000000000000000000000000000000000000000000000000000000000000000000000000000000000000000000000000000000000000000000000000000000000000000000000000000000000000 (execIdcode) := by
  unfold execIdcode
  repeat' first | with_reducible apply tapRow_within | with_reducible apply touch_seqs_cons | with_reducible apply touch_seqs_nil | with_reducible apply touch_seq | with_reducible apply touch_skip | with_reducible apply touch_read | with_reducible (refine tap_touch.mono ?_) | with_reducible intro _ | split | dsimp only | exact rfl

theorem execSamplePreload_within {load : Nat} : RunsWithin 0x1000000800000000000000000000000000000000000000000000000000000000000000000000000000000000000000000000000000000000000000000000000000000000000000000000000000000000000000000000000000000000 (execSamplePreload load) := by
  unfold execSamplePreload
  repeat' first | with_reducible apply tapRow_within | with_reducible apply touch_seqs_cons | with_reducible apply touch_seqs_nil | with_reducible apply touch_updSvc | with_reducible apply touch_withFree | with_reducible apply touch_seq | with_reducible apply touch_skip | with_reducible apply touch_read | with_reducible (refine tap_touch.mono ?_) | with_reducible intro _ | split | dsimp only | exact rfl

theorem execExtest_within : RunsWithin 0x1000000800000000000000000000000000000000000000000000000000000000000000000000000000000000000000000000000000000000000000000000000000000000000000000000000000000000000000000000000000000000 (execExtest) := by
  unfold execExtest
  repeat' first | with_reducible apply tapRow_within | with_reducible apply touch_seqs_cons | with_reducible apply touch_seqs_nil | with_reducible apply touch_updSvc | with_reducible apply touch_withFree | with_reducible apply touch_seq | with_reducible apply touch_skip | with_reducible apply touch_read | with_reducible (refine tap_touch.mono ?_) | with_reducible intro _ | split | dsimp only | exact rfl

theorem execFreeze_within : RunsWithin 0x14201434c0000000000000008000000000141c00000030004c00000208000000000000000000000000000000000010001200000000000000000000000000000000000000000000000000000000080000000003504000000000000000 (execFreeze) := by
  unfold execFreeze
  repeat' first | with_reducible apply endsAlways_within | with_reducible apply touch_seqs_cons | with_reducible apply touch_seqs_nil | with_reducible apply touch_when | with_reducible apply touch_cond | with_reducible apply touch_seq | with_reducible apply touch_skip | with_reducible apply touch_read | with_reducible (refine freezeAsk_touch.mono ?_) | with_reducible (refine tap_touch.mono ?_) | with_reducible intro _ | split | dsimp only | exact rfl

theorem execThaw_within : RunsWithin 0x3ffffd7dd00000000000000080000000001c9cc03f403020fc04411e0df70081f000002008001fce800000182004960012000300000761f6d001800000010406c000000b0004200007fe86d800080000000003d040003f004c04a000 (execThaw) := by
  unfold execThaw
  repeat' first | with_reducible apply tapRow_within | with_reducible apply touch_seqs_cons | with_reducible apply touch_seqs_nil | with_reducible apply touch_seq | with_reducible apply touch_skip | with_reducible apply touch_read | with_reducible (refine release_touch.mono ?_) | with_reducible (refine tap_touch.mono ?_) | with_reducible intro _ | split | dsimp only | exact rfl

theorem execThawDbg_within : RunsWithin 0x3ffffd7dd00000000000000080000000001c9cc03f403020fc04411e0df70081f000002008001fce800000182004960012000300000761f6d001800000010406c000000b0004200007fe86d800080000000003d040003f004c04a000 (execThawDbg) := by
  unfold execThawDbg
  repeat' first | with_reducible apply tapRow_within | with_reducible apply touch_seqs_cons | with_reducible apply touch_seqs_nil | with_reducible apply touch_seq | with_reducible apply touch_skip | with_reducible apply touch_read | with_reducible (refine release_touch.mono ?_) | with_reducible (refine tap_touch.mono ?_) | with_reducible intro _ | split | dsimp only | exact rfl

theorem execSvcStatus_within : RunsWithin 0x1000000000000000000000000000000000000000000000000000000000000000000000000000000000000000000000000000000000000000000000000000000000000000000000000000000000000000000000000000000000000000 (execSvcStatus) := by
  unfold execSvcStatus
  repeat' first | with_reducible apply tapRow_within | with_reducible apply touch_seqs_cons | with_reducible apply touch_seqs_nil | with_reducible apply touch_seq | with_reducible apply touch_skip | with_reducible apply touch_read | with_reducible (refine tap_touch.mono ?_) | with_reducible intro _ | split | dsimp only | exact rfl

theorem execSnapRead_within {mask : Nat} : RunsWithin 0x1000000400000000000000000000000000002000000000000000000000000000000000000000000000000000000000000000000000000000000000000000000000000000000000000000000000000000000000000000000000000000 (execSnapRead mask) := by
  unfold execSnapRead
  repeat' first | with_reducible apply tapRow_within | with_reducible apply touch_seqs_cons | with_reducible apply touch_seqs_nil | with_reducible apply touch_setR | with_reducible apply touch_updSvc | with_reducible apply touch_seq | with_reducible apply touch_skip | with_reducible apply touch_read | with_reducible (refine emit_touch.mono ?_) | with_reducible (refine tap_touch.mono ?_) | with_reducible intro _ | split | dsimp only | exact rfl

theorem tineDbg_within {p : Nat} {q : Prog} {M : Nat} (h : q.Touches M) (hm : 0x1000000000000000000000000000000000000000000000000000000000000000000000000000000000000000000000000000000000000000000000000000000000000000000000000000000000000000000000000000000000000000 &&& M = 0x1000000000000000000000000000000000000000000000000000000000000000000000000000000000000000000000000000000000000000000000000000000000000000000000000000000000000000000000000000000000000000) :
    RunsWithin M (tineDbg p q) := tapRow_within ⟨tap_touch.mono hm, h⟩ hm

theorem tineRead_touch {p kind addr : Nat} {differs : Bool} : (tineRead p kind addr differs).Touches 0x3000000800000000000000000000000000004000000000000000000000000000000000000000000000000000000000000000000000000000000000000000000000000000000000000000000000000000000000000000000000000000 := by
  unfold tineRead
  repeat' first | with_reducible apply touch_seqs_cons | with_reducible apply touch_seqs_nil | with_reducible apply touch_setR | with_reducible apply touch_updTines | with_reducible apply touch_withFree | with_reducible apply touch_seq | with_reducible apply touch_skip | with_reducible apply touch_read | with_reducible (refine tap_touch.mono ?_) | with_reducible intro _ | split | dsimp only | exact rfl

theorem tineWrite_touch {p kind addr v : Nat} : (tineWrite p kind addr v).Touches 0x2080000000000000000000000000000000000000000000000000000000000000000000000000000000000000000000000000000000000000000000000000000000000000000000000000000000000000000000000000000000000000 := by
  unfold tineWrite
  repeat' first | with_reducible apply touch_seqs_cons | with_reducible apply touch_seqs_nil | with_reducible apply touch_updTasks | with_reducible apply touch_updTines | with_reducible apply touch_seq | with_reducible apply touch_skip | with_reducible apply touch_read | with_reducible intro _ | split | dsimp only | exact rfl

theorem execTineDbgReadReg_within {p r : Nat} {differs : Bool} : RunsWithin 0x3000000800000000000000000000000000004000000000000000000000000000000000000000000000000000000000000000000000000000000000000000000000000000000000000000000000000000000000000000000000000000 (execTineDbgReadReg p r differs) := by
  unfold execTineDbgReadReg
  repeat' first | with_reducible apply tineDbg_within | with_reducible apply touch_seqs_cons | with_reducible apply touch_seqs_nil | with_reducible apply touch_seq | with_reducible apply touch_skip | with_reducible apply touch_read | with_reducible (refine tineRead_touch.mono ?_) | with_reducible intro _ | split | dsimp only | exact rfl

theorem execTineDbgWriteReg_within {p r v : Nat} : RunsWithin 0x3080000000000000000000000000000000000000000000000000000000000000000000000000000000000000000000000000000000000000000000000000000000000000000000000000000000000000000000000000000000000000 (execTineDbgWriteReg p r v) := by
  unfold execTineDbgWriteReg
  repeat' first | with_reducible apply tineDbg_within | with_reducible apply touch_seqs_cons | with_reducible apply touch_seqs_nil | with_reducible apply touch_seq | with_reducible apply touch_skip | with_reducible apply touch_read | with_reducible (refine tineWrite_touch.mono ?_) | with_reducible intro _ | split | dsimp only | exact rfl

theorem execTineDbgReadData_within {p addr : Nat} {differs : Bool} : RunsWithin 0x3000000800000000000000000000000000004000000000000000000000000000000000000000000000000000000000000000000000000000000000000000000000000000000000000000000000000000000000000000000000000000 (execTineDbgReadData p addr differs) := by
  unfold execTineDbgReadData
  repeat' first | with_reducible apply tineDbg_within | with_reducible apply touch_seqs_cons | with_reducible apply touch_seqs_nil | with_reducible apply touch_seq | with_reducible apply touch_skip | with_reducible apply touch_read | with_reducible (refine tineRead_touch.mono ?_) | with_reducible intro _ | split | dsimp only | exact rfl

theorem execTineDbgWriteData_within {p addr v : Nat} : RunsWithin 0x3080000000000000000000000000000000000000000000000000000000000000000000000000000000000000000000000000000000000000000000000000000000000000000000000000000000000000000000000000000000000000 (execTineDbgWriteData p addr v) := by
  unfold execTineDbgWriteData
  repeat' first | with_reducible apply tineDbg_within | with_reducible apply touch_seqs_cons | with_reducible apply touch_seqs_nil | with_reducible apply touch_seq | with_reducible apply touch_skip | with_reducible apply touch_read | with_reducible (refine tineWrite_touch.mono ?_) | with_reducible intro _ | split | dsimp only | exact rfl

theorem execTineDbgReadCode_within {p addr : Nat} {differs : Bool} : RunsWithin 0x3000000800000000000000000000000000004000000000000000000000000000000000000000000000000000000000000000000000000000000000000000000000000000000000000000000000000000000000000000000000000000 (execTineDbgReadCode p addr differs) := by
  unfold execTineDbgReadCode
  repeat' first | with_reducible apply tineDbg_within | with_reducible apply touch_seqs_cons | with_reducible apply touch_seqs_nil | with_reducible apply touch_seq | with_reducible apply touch_skip | with_reducible apply touch_read | with_reducible (refine tineRead_touch.mono ?_) | with_reducible intro _ | split | dsimp only | exact rfl

theorem tineForget_touch {p : Nat} : (tineForget p).Touches 0x2000000000000000000000000000000000000000000000000000000000000000000000000000000000000000000000000000000000000000000000000000000000000000000000000000000000000000000000000000000000000000 := by
  unfold tineForget
  repeat' first | with_reducible apply touch_seqs_cons | with_reducible apply touch_seqs_nil | with_reducible apply touch_tinesMap | with_reducible apply touch_seq | with_reducible apply touch_skip | with_reducible apply touch_read | with_reducible intro _ | split | dsimp only | exact rfl

theorem stepAct_touch {t : Nat} {x : TineAct} : (stepAct t x).Touches 0x180000400000000000000000000000000000000000000000000000000000000010000000000000000000000000000000000000000000000000000000000000000000000000000000000000000000000000000000000000000000000 := by
  cases x <;> unfold stepAct
  all_goals
    repeat' first | with_reducible apply touch_seqs_cons | with_reducible apply touch_seqs_nil | with_reducible apply touch_updTasks | with_reducible apply touch_seq | with_reducible apply touch_skip | with_reducible apply touch_read | with_reducible (refine storeEnters_touch.mono ?_) | with_reducible (refine tineAct_touch.mono ?_) | with_reducible intro _ | split | dsimp only | exact rfl

theorem stepActs_touch {t : Nat} {l : List TineAct} : (stepActs t l).Touches 0x180000400000000000000000000000000000000000000000000000000000000010000000000000000000000000000000000000000000000000000000000000000000000000000000000000000000000000000000000000000000000 := by
  induction l with
  | nil => exact touch_skip
  | cons a l ih => exact touch_cond (touch_seq (stepAct_touch.mono rfl) ih) touch_skip

theorem execTineDbgStep_within {p n : Nat} {acts : List TineAct} : RunsWithin 0x3180000400000000000000000000000000000000000000000000000000000000010000000000000000000000000000000000000000000000000000000000000000000000000000000000000000000000000000000000000000000000 (execTineDbgStep p n acts) := by
  unfold execTineDbgStep
  repeat' first | with_reducible apply tineDbg_within | with_reducible apply touch_seqs_cons | with_reducible apply touch_seqs_nil | with_reducible apply touch_each | with_reducible apply touch_seq | with_reducible apply touch_skip | with_reducible apply touch_read | with_reducible (refine stepActs_touch.mono ?_) | with_reducible (refine tineAct_touch.mono ?_) | with_reducible (refine tineForget_touch.mono ?_) | with_reducible intro _ | split | dsimp only | exact rfl

theorem execTineDbgSetBreakpoint_within {p addr : Nat} : RunsWithin 0x1040000000000000000000000000000000000000000000000000000000000000000000000000000000000000000000000000000000000000000000000000000000000000000000000000000000000000000000000000000000000000 (execTineDbgSetBreakpoint p addr) := by
  unfold execTineDbgSetBreakpoint
  repeat' first | with_reducible apply tineDbg_within | with_reducible apply touch_seqs_cons | with_reducible apply touch_seqs_nil | with_reducible apply touch_updPairs | with_reducible apply touch_seq | with_reducible apply touch_skip | with_reducible apply touch_read | with_reducible intro _ | split | dsimp only | exact rfl

theorem execTineDbgClearBreakpoint_within {p addr : Nat} : RunsWithin 0x1040000000000000000000000000000000000000000000000000000000000000000000000000000000000000000000000000000000000000000000000000000000000000000000000000000000000000000000000000000000000000 (execTineDbgClearBreakpoint p addr) := by
  unfold execTineDbgClearBreakpoint
  repeat' first | with_reducible apply tineDbg_within | with_reducible apply touch_seqs_cons | with_reducible apply touch_seqs_nil | with_reducible apply touch_updPairs | with_reducible apply touch_seq | with_reducible apply touch_skip | with_reducible apply touch_read | with_reducible intro _ | split | dsimp only | exact rfl

theorem execTineDbgResume_within {p : Nat} : RunsWithin 0x3440000000000000000000000000000000008000000000000000000200000000000000000000000000000000000000000000000000000000000000000000000000000000000000000000000000000000000000000000000000000000 (execTineDbgResume p) := by
  unfold execTineDbgResume
  repeat' first | with_reducible apply tineDbg_within | with_reducible apply touch_seqs_cons | with_reducible apply touch_seqs_nil | with_reducible apply touch_setR | with_reducible apply touch_updPairs | with_reducible apply touch_seq | with_reducible apply touch_skip | with_reducible apply touch_read | with_reducible (refine sysWdgResume_touch.mono ?_) | with_reducible (refine tineForget_touch.mono ?_) | with_reducible intro _ | split | dsimp only | exact rfl

theorem lockWrite_touch {v : Nat} : (lockWrite v).Touches 0x1000000000000000000000000000000000010000000000000000000000000000000000000000000000000000000000000000000000000000000000000000000000000000000000000000000000000000000000000000000000000000 := by
  unfold lockWrite
  repeat' first | with_reducible apply touch_seqs_cons | with_reducible apply touch_seqs_nil | with_reducible apply touch_setR | with_reducible apply touch_updSvc | with_reducible apply touch_seq | with_reducible apply touch_skip | with_reducible apply touch_read | with_reducible intro _ | split | dsimp only | exact rfl

theorem execSvcLockKeyWrite_within {v : Nat} : RunsWithin 0x1000000000000000000000000000000000010000000000000000000000000000000000000000000000000000000000000000000000000000000000000000000000000000000000000000000000000000000000000000000000000000 (execSvcLockKeyWrite v) := by
  unfold execSvcLockKeyWrite
  repeat' first | with_reducible apply endsAlways_within | with_reducible apply touch_seqs_cons | with_reducible apply touch_seqs_nil | with_reducible apply touch_when | with_reducible apply touch_seq | with_reducible apply touch_skip | with_reducible apply touch_read | with_reducible (refine lockWrite_touch.mono ?_) | with_reducible intro _ | split | dsimp only | exact rfl

theorem execServiceLockFuseBlown_within : RunsWithin 0x10000004c0000000000000008000000000000200000000000000000000000000000000000000000000000000000010001200000000000000000000000000000000000000000000000000000000000000000000000000000000000000 (execServiceLockFuseBlown) := by
  unfold execServiceLockFuseBlown
  repeat' first | with_reducible apply ends_within | with_reducible apply touch_seqs_cons | with_reducible apply touch_seqs_nil | with_reducible apply touch_setR | with_reducible apply touch_updSvc | with_reducible apply touch_seq | with_reducible apply touch_skip | with_reducible apply touch_read | with_reducible (refine raisePf_touch.mono ?_) | with_reducible intro _ | split | dsimp only | exact rfl

end Sys2Proof.Machine
end

