-- ==== Sys2Proof/Laws/WithinRegOps.lean ====
section
/-! SUPPORT. The mask of every operation and meaning of Machine/RegOps.lean (see Laws/Touch.lean): what it can change at all. -/

set_option Elab.async false

set_option maxRecDepth 8192
set_option linter.unreachableTactic false
set_option linter.unusedTactic false

namespace Sys2Proof.Machine

theorem barredFlags_touch {ch : List Place} : (barredFlags ch).Touches 0x208000000000000000000000000000000000000000000000200000000000000000000 := by
  unfold barredFlags
  repeat' first | with_reducible apply touch_seqs_cons | with_reducible apply touch_seqs_nil | with_reducible apply touch_setR | with_reducible apply touch_seq | with_reducible apply touch_skip | with_reducible apply touch_read | with_reducible intro _ | split | dsimp only | exact rfl

theorem syncWritten_touch {n : Nat} : (syncWritten n).Touches 0x10000000000c000000000000000000 := by
  unfold syncWritten
  repeat' first | with_reducible apply touch_seqs_cons | with_reducible apply touch_seqs_nil | with_reducible apply touch_setR | with_reducible apply touch_seq | with_reducible apply touch_skip | with_reducible apply touch_read | with_reducible (refine freeRun_touch.mono ?_) | with_reducible intro _ | split | dsimp only | exact rfl

theorem vectorUnmasked_touch {fn vec : Nat} : (vectorUnmasked fn vec).Touches 0x400000000000000008000000000000000000000000000000000000000000000000000000000000000000000000000000000000000000000000000000000000000000000000000000000000000000000000000000000000000 := by
  unfold vectorUnmasked
  repeat' first | with_reducible apply touch_seqs_cons | with_reducible apply touch_seqs_nil | with_reducible apply touch_setR | with_reducible apply touch_seq | with_reducible apply touch_skip | with_reducible apply touch_read | with_reducible (refine emit_touch.mono ?_) | with_reducible intro _ | split | dsimp only | exact rfl

theorem policyWritten_touch {k : Nat} : (policyWritten k).Touches 0x404000000000000000001ff000000000000000000000000000000000000000000000000000000000000000000000000000000000000000000000000000000000000000000000000000000000000000000000000000000000000 := by
  unfold policyWritten
  repeat' first | with_reducible apply touch_seqs_cons | with_reducible apply touch_seqs_nil | with_reducible apply touch_when | with_reducible apply touch_seq | with_reducible apply touch_skip | with_reducible apply touch_read | with_reducible (refine offerChanged_touch.mono ?_) | with_reducible (refine policyDefault_touch.mono ?_) | with_reducible intro _ | split | dsimp only | exact rfl

theorem phcHooks_touch {s : State} {fs ch : List Place} {v i : Nat} : (phcHooks s fs ch v i).Touches 0x10d74c00000000000000080000000000000000040000000000000080700000000000000000000000000000000160012000000000761f6d001800000000406400000000000000007f81ff81018040020050ff6c000000000000000 := by
  unfold phcHooks
  repeat' first | with_reducible apply touch_seqs_cons | with_reducible apply touch_seqs_nil | with_reducible apply touch_seq | with_reducible apply touch_skip | with_reducible apply touch_read | with_reducible (refine applyWritten_touch.mono ?_) | with_reducible (refine enableWritten_touch.mono ?_) | with_reducible (refine gangWritten_touch.mono ?_) | with_reducible (refine phasesByRef_touch.mono ?_) | with_reducible (refine syncWritten_touch.mono ?_) | with_reducible intro _ | split | dsimp only | exact rfl

theorem slotHooks_touch {fs ch : List Place} {v i : Nat} : (slotHooks fs ch v i).Touches 0x810d75c000000000000000800000000000000000400000000000000ff700081001000000000000000000180000160012000000000761f6d101800000000406400000000054200007f99ff8208800000000f3d04000000000000000 := by
  unfold slotHooks
  repeat' first | with_reducible apply touch_seqs_cons | with_reducible apply touch_seqs_nil | with_reducible apply touch_seq | with_reducible apply touch_skip | with_reducible apply touch_read | with_reducible (refine deriveAll_touch.mono ?_) | with_reducible (refine faultClearWritten_touch.mono ?_) | with_reducible (refine fgRefresh_touch.mono ?_) | with_reducible (refine slotEnableWritten_touch.mono ?_) | with_reducible intro _ | split | dsimp only | exact rfl

theorem msrHooks_touch {s : State} {fs ch : List Place} {v i j : Nat} : (msrHooks s fs ch v i j).Touches 0x2800000000000000000000000000000000000000000000000000000000000000000000000000000000000000000000000000000000000009d88020440026000000000000000000000000000000000000000000000000000000000 := by
  unfold msrHooks
  repeat' first | with_reducible apply touch_seqs_cons | with_reducible apply touch_seqs_nil | with_reducible apply touch_seq | with_reducible apply touch_skip | with_reducible apply touch_read | with_reducible (refine budgetUpdate_touch.mono ?_) | with_reducible (refine dacShow_touch.mono ?_) | with_reducible (refine grpMembers_touch.mono ?_) | with_reducible (refine mainsSrcWritten_touch.mono ?_) | with_reducible (refine pendAdd_touch.mono ?_) | with_reducible intro _ | split | dsimp only | exact rfl

theorem busHooks_touch {fs ch : List Place} {v i : Nat} {pulses : Option Nat} : (busHooks fs ch v i pulses).Touches 0x810d75c00000000000000081ff0000000000000040000000000000080700000001000000181fcea150407c2200160012000000000761f6d001800000000406400000000000200007f806d800880000000003d04000000000000000 := by
  unfold busHooks
  repeat' first | with_reducible apply touch_seqs_cons | with_reducible apply touch_seqs_nil | with_reducible apply touch_setR | with_reducible apply touch_updTwb | with_reducible apply touch_seq | with_reducible apply touch_skip | with_reducible apply touch_read | with_reducible (refine alertShow_touch.mono ?_) | with_reducible (refine busCancel_touch.mono ?_) | with_reducible (refine policyWritten_touch.mono ?_) | with_reducible (refine portDisable_touch.mono ?_) | with_reducible (refine portFaultClear_touch.mono ?_) | with_reducible (refine portPresent_touch.mono ?_) | with_reducible (refine portsLimitChanged_touch.mono ?_) | with_reducible (refine recoverSda_touch.mono ?_) | with_reducible intro _ | split | dsimp only | exact rfl

theorem gridHooks_touch {ch : List Place} {i : Nat} : (gridHooks ch i).Touches 0x17d7dc000000000000000800000000000000000402000fc0000000807000000000000000001ce800000000004960012000300000761f6d001800000000406c000000b0000200007f806d800080000000003d044003fe84c000000 := by
  unfold gridHooks
  repeat' first | with_reducible apply touch_seqs_cons | with_reducible apply touch_seqs_nil | with_reducible apply touch_seq | with_reducible apply touch_skip | with_reducible apply touch_read | with_reducible (refine accUpdate_touch.mono ?_) | with_reducible (refine islandWritten_touch.mono ?_) | with_reducible (refine srcLimit_touch.mono ?_) | with_reducible (refine srcModeWritten_touch.mono ?_) | with_reducible intro _ | split | dsimp only | exact rfl

theorem engHooks_touch {fs ch : List Place} : (engHooks fs ch).Touches 0x2803e000000000000000000000000000000000000000000000000000000000003e00000000000000000000000000000000000000000000000000000 := by
  unfold engHooks
  repeat' first | with_reducible apply touch_seqs_cons | with_reducible apply touch_seqs_nil | with_reducible apply touch_seq | with_reducible apply touch_skip | with_reducible apply touch_read | with_reducible (refine pairShow_touch.mono ?_) | with_reducible (refine traceShow_touch.mono ?_) | with_reducible (refine viewTake_touch.mono ?_) | with_reducible intro _ | split | dsimp only | exact rfl

theorem hostHooks_touch {fs ch : List Place} {fn v j : Nat} : (hostHooks fs ch fn v j).Touches 0x100012cc000000000000000c00000000000000000000000000000000000000000000000000000000000000000049000161fb30e80000000000000000000000080000008000000000000000000000000000000000000000000000000 := by
  unfold hostHooks
  repeat' first | with_reducible apply touch_seqs_cons | with_reducible apply touch_seqs_nil | with_reducible apply touch_seq | with_reducible apply touch_skip | with_reducible apply touch_read | with_reducible (refine dbLoWrite_touch.mono ?_) | with_reducible (refine pollReport_touch.mono ?_) | with_reducible (refine ringCtrlWrite_touch.mono ?_) | with_reducible (refine vectorUnmasked_touch.mono ?_) | with_reducible intro _ | split | dsimp only | exact rfl

theorem coreHooks_touch {s : State} {fs ch : List Place} {v : Nat} {env : StartEnv} : (coreHooks s fs ch v env).Touches 0x3ffffffff00000000000000087ff000006030a002fdfb023fc06400c1e0f0a47f741412e0fe001fe80000018200497fff2000300060761fef081807c00c10c06c000203bc004200007fefff800998000000133f041382f000807be00 := by
  unfold coreHooks
  repeat' first | with_reducible apply touch_seqs_cons | with_reducible apply touch_seqs_nil | with_reducible apply touch_updR | with_reducible apply touch_updSun | with_reducible apply touch_seq | with_reducible apply touch_skip | with_reducible apply touch_read | with_reducible (refine haltEnter_touch.mono ?_) | with_reducible (refine hostCurtail_touch.mono ?_) | with_reducible (refine latentNow_touch.mono ?_) | with_reducible (refine lockWrite_touch.mono ?_) | with_reducible (refine requestBy_touch.mono ?_) | with_reducible (refine startBegin_touch.mono ?_) | with_reducible (refine warmReset_touch.mono ?_) | with_reducible intro _ | split | dsimp only | exact rfl

theorem abortRequest_touch {fn a : Nat} {write : Bool} : (abortRequest fn a write).Touches 0x400000000000000000000000001e00000000000000000000000000000000000000000000000000000000000000000000000000000000000000000000000000000000000000000000000000000000000000000000000000000 := by
  unfold abortRequest
  repeat' first | with_reducible apply touch_seqs_cons | with_reducible apply touch_seqs_nil | with_reducible apply touch_when | with_reducible apply touch_seq | with_reducible apply touch_skip | with_reducible apply touch_read | with_reducible (refine accErr_touch.mono ?_) | with_reducible (refine emit_touch.mono ?_) | with_reducible intro _ | split | dsimp only | exact rfl

end Sys2Proof.Machine
end

