-- ==== Sys2Proof/Laws/WithinRegAccess.lean ====
section
/-! SUPPORT. The mask of every operation and meaning of Machine/RegAccess.lean (see Laws/Touch.lean): what it can change at all. -/

set_option Elab.async false

set_option maxRecDepth 8192
set_option linter.unreachableTactic false
set_option linter.unusedTactic false

namespace Sys2Proof.Machine

theorem execApply_within {n : Nat} : RunsWithin 0x1000000000000000000000000001e00000000000000000000000000000000000000000000000000000000000000000000000000000000000000000000000000000000000000000000000000400000100000000000000000000 (execApply n) := by
  unfold execApply
  repeat' first | with_reducible apply pfWrites_within | with_reducible apply touch_seqs_cons | with_reducible apply touch_seqs_nil | with_reducible apply touch_seq | with_reducible apply touch_skip | with_reducible apply touch_read | with_reducible (refine applyWritten_touch.mono ?_) | with_reducible intro _ | split | dsimp only | exact rfl

theorem execPhcEnableWrite_within {n : Nat} {v : Bool} : RunsWithin 0x10d74c0000000000000008000000001e000000040000000000000080700000000000000000000000000000000160012000000000761f6d001800000000406400000000000000007f802d800080000000003d0c000000000000000 (execPhcEnableWrite n v) := by
  unfold execPhcEnableWrite
  repeat' first | with_reducible apply pfWrites_within | with_reducible apply touch_seqs_cons | with_reducible apply touch_seqs_nil | with_reducible apply touch_setR | with_reducible apply touch_seq | with_reducible apply touch_skip | with_reducible apply touch_read | with_reducible (refine enableWritten_touch.mono ?_) | with_reducible intro _ | split | dsimp only | exact rfl

theorem execGangWrite_within {v : Nat} : RunsWithin 0x2000000000000000000000000001e000000000000000000000000000000000000000000000000000000000000000000000000000000000000000000000000000000000000000001ff810000000000000200000000000000000 (execGangWrite v) := by
  unfold execGangWrite
  repeat' first | with_reducible apply pfWrites_within | with_reducible apply touch_seqs_cons | with_reducible apply touch_seqs_nil | with_reducible apply touch_setR | with_reducible apply touch_seq | with_reducible apply touch_skip | with_reducible apply touch_read | with_reducible (refine gangWritten_touch.mono ?_) | with_reducible intro _ | split | dsimp only | exact rfl

theorem execGlbTimeRead_within : RunsWithin 0x300000000000000000000000000000000000000000000000000000000000000000000000000000000000000000000000000000000000000000000000000000000000000 (execGlbTimeRead) := by
  unfold execGlbTimeRead
  repeat' first | with_reducible apply endsAlways_within | with_reducible apply touch_seqs_cons | with_reducible apply touch_seqs_nil | with_reducible apply touch_setR | with_reducible apply touch_when | with_reducible apply touch_seq | with_reducible apply touch_skip | with_reducible apply touch_read | with_reducible intro _ | split | dsimp only | exact rfl

theorem execMisalignedAccess_within {fn a size : Nat} {write : Bool} : RunsWithin 0x400000000000000000000000001e00000000000000000000000000000000000000000000000000000000000000000000000000000000000000000000000000000000000000000000000000000000000000000000000000000 (execMisalignedAccess fn a size write) := by
  unfold execMisalignedAccess
  repeat' first | with_reducible apply endsAlways_within | with_reducible apply touch_seqs_cons | with_reducible apply touch_seqs_nil | with_reducible apply touch_seq | with_reducible apply touch_skip | with_reducible apply touch_read | with_reducible (refine abortRequest_touch.mono ?_) | with_reducible intro _ | split | dsimp only | exact rfl

theorem rxTake_touch {b : Nat} {data : List Nat} {checked : Bool} : (rxTake b data checked).Touches 0x4c00000000000000080000000000000000000000000000000000000000000000000000000000a8000000010001200000000000000000000000000000000000000000000000000000000000000000000000000000000000000 := by
  unfold rxTake
  repeat' first | with_reducible apply touch_seqs_cons | with_reducible apply touch_seqs_nil | with_reducible apply touch_setR | with_reducible apply touch_each | with_reducible apply touch_seq | with_reducible apply touch_skip | with_reducible apply touch_read | with_reducible (refine raisePf_touch.mono ?_) | with_reducible intro _ | split | dsimp only | exact rfl

theorem targetServe_touch {b : Nat} {p : TwbTgt} : (targetServe b p).Touches 0x4c00000000000000080000000000000000000000000000000000000000000000000000000000a8402000010001200000000000000000000000000000000000000000000000000000000000000000000000000000000000000 := by
  unfold targetServe
  repeat' first | with_reducible apply touch_seqs_cons | with_reducible apply touch_seqs_nil | with_reducible apply touch_setR | with_reducible apply touch_incSat | with_reducible apply touch_seq | with_reducible apply touch_skip | with_reducible apply touch_read | with_reducible (refine emit_touch.mono ?_) | with_reducible (refine rxTake_touch.mono ?_) | with_reducible intro _ | split | dsimp only | exact rfl

theorem targetWake_touch {b : Nat} : (targetWake b).Touches 0x210d75c000000000000000800000000000000000403000f00000000807000000000000000001ce800000000000160012000000000761f6d001800000000406400000000004200007f806d800080000000003d04000000000000000 := by
  unfold targetWake
  repeat' first | with_reducible apply touch_seqs_cons | with_reducible apply touch_seqs_nil | with_reducible apply touch_updTwb | with_reducible apply touch_seq | with_reducible apply touch_skip | with_reducible apply touch_read | with_reducible (refine requestBy_touch.mono ?_) | with_reducible intro _ | split | dsimp only | exact rfl

theorem execTwbTargetTransaction_within {b : Nat} {p : TwbTgt} : RunsWithin 0x210d75c000000000000000800000000000000000403000f00000000807000000000000000001ce800ac4061800160012000000000761f6d001800000000406400000000004200007f806d800080000000003d04000000000000000 (execTwbTargetTransaction b p) := by
  unfold execTwbTargetTransaction
  repeat' first | with_reducible apply ends_within | with_reducible apply touch_seqs_cons | with_reducible apply touch_seqs_nil | with_reducible apply touch_setR | with_reducible apply touch_seq | with_reducible apply touch_skip | with_reducible apply touch_read | with_reducible (refine alertShow_touch.mono ?_) | with_reducible (refine emit_touch.mono ?_) | with_reducible (refine runOver_touch.mono ?_) | with_reducible (refine targetServe_touch.mono ?_) | with_reducible (refine targetWake_touch.mono ?_) | with_reducible intro _ | split | dsimp only | exact rfl

end Sys2Proof.Machine
end

