-- ==== Sys2Proof/WellFormed.lean ====
section
/-! DEFINITION. Which commands are well formed: every index lies in the range of the units it numbers, and every written value fits
its register or field. The meanings are total: a command that is not well formed has a next state too (DESIGN CHOICE, log entry 2). -/

namespace Sys2Proof

/-- The units of the device, each counted from 0 as the register tables count them (R609 to R613): slots, phase channels, integrating
converters, fine converters, ports, sources, two-wire buses, beds, pairs and tasks. -/
def slotOk (n : Nat) : Bool := decide (n < 64)
def channelOk (n : Nat) : Bool := decide (n < 144)
def icvOk (n : Nat) : Bool := decide (n < 16)
def plateOk (n : Nat) : Bool := decide (n < 4)
def portOk (n : Nat) : Bool := decide (n < 8)
def sourceOk (n : Nat) : Bool := decide (n < 4)
def busOk (n : Nat) : Bool := decide (n < 66)
def bedOk (n : Nat) : Bool := decide (n < 16)
def pairOk (n : Nat) : Bool := decide (n < 512)
def taskOk (n : Nat) : Bool := decide (n < 416)

/-- A function: VF 0 to 1023, or 0x400 for the PF (R330). -/
def fnOk (n : Nat) : Bool := decide (n ≤ 0x400)

/-- A ring of a function (R336). -/
def ringOk (n : Nat) : Bool := decide (n < 16)

/-- A 32-bit value. -/
def wordOk (v : Nat) : Bool := decide (v < 2 ^ 32)

/-- The size of an access, bytes (R615). -/
def sizeOk (n : Nat) : Bool := n == 1 || n == 2 || n == 4 || n == 8

/-- A doorbell line: 64 bytes, 16 little-endian indices of 32 bits (R7, R346). -/
def lineOk (l : List Nat) : Bool := l.length == 64 && l.all fun b => decide (b < 256)

/-- A direction of a runner link, or a fabric link (R23, R24). -/
def linkOk (fabric : Bool) (link dir : Nat) : Bool := if fabric then decide (link < 64) else decide (link < 4) && decide (dir < 2)

/-- The control part of a descriptor lies in its fields (R348). -/
def Ctl.inRange (c : Ctl) : Bool :=
  fnOk c.fn && ringOk c.ring && decide (c.tag < 2 ^ 32) && decide (c.target < 65536) && decide (c.target2 < 65536)

/-- A command is well formed. -/
def Instr.wellFormed : Instr → Bool
  | .runnerFlitReceive fabric link dir flit got parity => linkOk fabric link dir && decide (flit < 2 ^ 64) && decide (got < 2 ^ 64) && decide (parity < 2)
  | .laneFault fabric link dir _ => linkOk fabric link dir
  | .busSample _ _ => true
  | .modulatorStuck m _ => decide (m < 10)
  | .busSensorMismatch => true
  | .busGuardTrip => true
  | .busOvervoltage => true
  | .busUndervoltage => true
  | .busBelowPack sl => slotOk sl
  | .busUvRestart => true
  | .sourcePresenceRise k _ => sourceOk k
  | .sourceLost k _ => sourceOk k
  | .sourceQualified k => sourceOk k
  | .demandSourceDisable => true
  | .srcLimitWrite k override => sourceOk k && decide (override < 2 ^ 18)
  | .srcModeWrite k mode => sourceOk k && decide (mode < 4)
  | .islandBusReady => true
  | .islandDonorFloor sl => slotOk sl
  | .islandSourceReturn k => sourceOk k
  | .hbChargerTransition _ _ _ _ => true
  | .hbTempRead => true
  | .hbTempSuspend => true
  | .hbFault _ => true
  | .accUvlo => true
  | .accRestart => true
  | .shipWake _ _ => true
  | .currentUpdate lead _ _ _ => channelOk lead
  | .apply n => channelOk n
  | .riseAbort lead => channelOk lead
  | .softLevelUpdate lead _ => channelOk lead
  | .startBackoffEnd lead _ => channelOk lead
  | .retriesReset lead => channelOk lead
  | .peakLimitTruncate ch _ _ => channelOk ch
  | .phcEnableWrite n _ => channelOk n
  | .syncInEdge _ => true
  | .syncLoss lead _ => channelOk lead
  | .syncRelock lead _ => channelOk lead
  | .phaseAddMeasured lead => channelOk lead
  | .phaseShed lead => channelOk lead
  | .phaseHandoverEnd lead => channelOk lead
  | .gangWrite v => wordOk v
  | .imbalanceCheck lead => channelOk lead
  | .drvFault lead _ => channelOk lead
  | .runaway lead _ => channelOk lead
  | .commitStale lead => channelOk lead
  | .idPinClose sl => slotOk sl
  | .debounceEnd sl => slotOk sl
  | .wetTestComplete sl _ _ => slotOk sl
  | .idDecode sl _ => slotOk sl
  | .identificationComplete sl => slotOk sl
  | .identificationFail sl => slotOk sl
  | .identRetry sl => slotOk sl
  | .identityLoss sl _ _ => slotOk sl
  | .packRemoval sl _ => slotOk sl
  | .slotEnableWrite sl _ => slotOk sl
  | .slotFaultClear sl => slotOk sl
  | .chargePhaseAdvance sl => slotOk sl
  | .cvEntry sl => slotOk sl
  | .packSag sl => slotOk sl
  | .chargePhaseTimeout sl => slotOk sl
  | .cvMaxExpiry sl => slotOk sl
  | .cvMaxParkFail sl => slotOk sl
  | .slotSuspend sl => slotOk sl
  | .ntcBothInvalid sl => slotOk sl
  | .taperCheck sl => slotOk sl
  | .serialPoll sl => slotOk sl
  | .transferEnd sl => slotOk sl
  | .auditFillComplete sl => slotOk sl
  | .auditRestEnd sl => slotOk sl
  | .auditPause sl => slotOk sl
  | .auditResume sl => slotOk sl
  | .auditEmpty sl => slotOk sl
  | .auditPauseLimit sl => slotOk sl
  | .fgOvTrip sl _ _ => slotOk sl
  | .fgOcTrip sl _ _ => slotOk sl
  | .fgRvTrip sl _ _ => slotOk sl
  | .fgNtcTrip sl _ _ _ => slotOk sl
  | .tickBoundary late _ => (late.all channelOk)
  | .tickFreeze _ => true
  | .quotaOverRepeat fn => fnOk fn
  | .resvAtRisk sl => slotOk sl
  | .resvDeadline sl => slotOk sl
  | .rootHandover late _ => (late.all channelOk)
  | .almViewSelect chan => decide (chan < 256)
  | .mainsCrossing _ => true
  | .mainsLockLoss => true
  | .mainsFreeTrigger => true
  | .icvConversionStart n => icvOk n
  | .icvIntegrationEnd n _ _ _ _ => icvOk n
  | .icvConversionTimeout n => icvOk n
  | .icvPassStart n => icvOk n
  | .icvTrigger n => icvOk n
  | .groupTrigger g => decide (g < 4)
  | .groupStart g => decide (g < 4)
  | .urgentConversionStart n => icvOk n
  | .fcvConversionEnd p _ _ => plateOk p
  | .refereeFinding p _ _ _ => plateOk p
  | .fcvSelfTest p _ _ => plateOk p
  | .fcvLostInjectionCheck n _ _ _ => icvOk n
  | .dacInjectWrite p _ _ _ code => plateOk p && decide (code < 65536)
  | .calAverageDone unit => decide (unit < 20)
  | .calZeroExpiry => true
  | .coulombSample sl _ => slotOk sl
  | .gauAccRead sl => slotOk sl
  | .gaugeReportUpdate sl => slotOk sl
  | .autoZeroTrim sl => slotOk sl
  | .fullAnchor sl => slotOk sl
  | .gaugeSnapshotTimed sl => slotOk sl
  | .currentXcheck sl => slotOk sl
  | .currentReferee sl _ => slotOk sl
  | .outputVReferee sl _ => slotOk sl
  | .pcieLaneFault lane => (match lane with | some l => decide (l < 4) | none => true)
  | .doorbellPoll fn line => fnOk fn && lineOk line
  | .descriptorFetch fn ring _ => fnOk fn && ringOk ring
  | .msixModerationTimeout fn r => fnOk fn && ringOk r
  | .statusLineWrite fn => fnOk fn
  | .timeAnchor => true
  | .perst => true
  | .flr vf => decide (vf < 1024)
  | .pfFlr => true
  | .d3hotEntry fn => fnOk fn
  | .hostReadError fn r _ => fnOk fn && ringOk r
  | .doorbellPageWrite fn value => fnOk fn && wordOk value
  | .ringEnableWrite fn r value => fnOk fn && ringOk r && wordOk value
  | .nop c => c.inRange
  | .slotClaim c => c.inRange
  | .slotRelease c => c.inRange
  | .chargeStart c _ _ _ => c.inRange
  | .chargeTerminate c => c.inRange
  | .setLimits c _ => c.inRange
  | .reserve c _ _ _ => c.inRange
  | .transfer c _ => c.inRange
  | .audit c _ _ => c.inRange
  | .gaugeRestore c _ => c.inRange
  | .gaugeSnapshot c => c.inRange
  | .measTableLoad c _ _ => c.inRange
  | .measUrgent c _ _ _ => c.inRange
  | .calZero c _ _ _ _ => c.inRange
  | .calFull c _ _ _ _ => c.inRange
  | .twbXfer c _ => c.inRange
  | .pdPolicyHold c _ => c.inRange
  | .pdPolicyRelease c => c.inRange
  | .pdPolicySet c _ => c.inRange
  | .pdPolicySoftReset c => c.inRange
  | .pdPolicyHardReset c => c.inRange
  | .enterService c => c.inRange
  | .exitService c => c.inRange
  | .wdgAnswer c _ _ => c.inRange
  | .fence c _ _ _ _ => c.inRange
  | .fenceRelease => true
  | .fenceTimeout => true
  | .quotaSet c _ => c.inRange
  | .keyWrite c _ => c.inRange
  | .microcodeStage c _ _ _ => c.inRange
  | .microcodeStageComplete _ _ => true
  | .microcodeRoll c _ => c.inRange
  | .microcodeAbort c => c.inRange
  | .microcodeDiscard c => c.inRange
  | .seal c => c.inRange
  | .unknownOpcode c code => c.inRange && decide (code < 256)
  | .keepWrite _ => true
  | .wdgQuestion fn => fnOk fn
  | .rateLimit fn => fnOk fn
  | .twbTransactionStart b => busOk b
  | .twbTransactionEnd b _ => busOk b
  | .identBusRetry sl => slotOk sl
  | .twbSclTimeout b _ => busOk b
  | .twbSdaTimeout b _ _ => busOk b
  | .twbArbLoss b _ => busOk b
  | .twbTargetTransaction b _ => busOk b
  | .twbSleep b => busOk b
  | .twbAlertIn b _ => busOk b
  | .twbAlertReread b => busOk b
  | .alertReq b _ => busOk b
  | .cancel b => busOk b
  | .recover b _ => busOk b
  | .twbXferTimeout b => busOk b
  | .pdRdDetect k _ _ => portOk k
  | .pdAttach k => portOk k
  | .pdVbusReady k _ => portOk k
  | .pdCableIdentity k _ _ _ _ => portOk k
  | .pdRequest k _ _ _ _ _ => portOk k
  | .pdPsRdy k _ _ => portOk k
  | .pdEprEnter k _ => portOk k
  | .pdEprKeepaliveTimeout k => portOk k
  | .pdVconnSwap k _ => portOk k
  | .pdVconnOvercurrent k _ _ => portOk k
  | .pdHardReset k _ _ => portOk k
  | .pdHardResetPark k => portOk k
  | .pdVsafe0vHoldEnd k _ => portOk k
  | .pdSoftResetReceived k _ => portOk k
  | .pdSoftResetTimeout k => portOk k
  | .pdUnsupportedMessage k _ _ _ => portOk k
  | .pdEnterModeAck k _ => portOk k
  | .pdDetach k => portOk k
  | .pdOvp k _ => portOk k
  | .pdOcp k => portOk k
  | .pdErrorRecoveryEnd k => portOk k
  | .pdFaultClear k => portOk k
  | .taskPeriod t _ _ => taskOk t
  | .taskFault t _ _ => taskOk t
  | .pairDisagree p _ _ => pairOk p
  | .pairSelfTestEnd p _ => pairOk p
  | .taskMigrationResume t => taskOk t
  | .bedFault b => bedOk b
  | .barrierRelease k => decide (k < 16)
  | .barrierTimeout k t => decide (k < 16) && taskOk t
  | .rolloutBedStep bad => (bad.all pairOk)
  | .rolloutDwellEnd => true
  | .traceWindowRead => true
  | .pairSnapshotSelect p => pairOk p
  | .tineBreakpointHit p _ => pairOk p
  | .thresholdReadback bad => (bad.all slotOk)
  | .sundialLockstepMismatch => true
  | .sundialSilent _ => true
  | .sysWdgQuestion _ => true
  | .autoWarm _ => true
  | .wdgClockFail _ _ => true
  | .pllUnlock _ => true
  | .safCtrlHalt => true
  | .latentNow => true
  | .latentTest b _ k _ _ => decide (b < 13) && sourceOk k
  | .safeRecovered => true
  | .sspNop seq => decide (seq < 256)
  | .sspRead seq _ => decide (seq < 256)
  | .sspHeartbeat seq data => decide (seq < 256) && decide (data < 65536)
  | .sspHaltReq seq data => decide (seq < 256) && decide (data < 65536)
  | .sspFrameError => true
  | .sspSilent => true
  | .modeRequestShip => true
  | .modeRequestSentinel => true
  | .modeRequestRun => true
  | .buttonShipRequest _ => true
  | .buttonRunRequest _ => true
  | .hostCurtailWrite _ => true
  | .warm _ => true
  | .thermalSensorRead _ => true
  | .thermalCurtailOn => true
  | .thermalCurtailOff => true
  | .thermalShutdown => true
  | .thermalShutdownEnd => true
  | .islandLowBattery => true
  | .sentinelRound b _ => bedOk b
  | .por => true
  | .brownout _ _ => true
  | .brownoutEnd _ _ _ => true
  | .pinReset _ => true
  | .feedLost feed _ => decide (feed < 8)
  | .feedGood feed _ => decide (feed < 8)
  | .crystalFail _ _ => true
  | .pllRefSwitch _ _ _ => true
  | .pllRefReturn _ _ _ _ => true
  | .islandOscFail i _ _ => decide (i < 88)
  | .timeTreeUpdate _ => true
  | .freezePin _ => true
  | .freezeReleasePin _ => true
  | .snapStreamEnd => true
  | .bypass => true
  | .idcode => true
  | .samplePreload _ => true
  | .extest => true
  | .freeze => true
  | .thaw => true
  | .thawDbg => true
  | .svcStatus => true
  | .snapRead mask => decide (mask < 2 ^ 12)
  | .tineDbgReadReg p r _ => pairOk p && decide (r ≤ 32)
  | .tineDbgWriteReg p r v => pairOk p && decide (r ≤ 32) && wordOk v
  | .tineDbgReadData p _ _ => pairOk p
  | .tineDbgWriteData p _ v => pairOk p && wordOk v
  | .tineDbgReadCode p _ _ => pairOk p
  | .tineDbgStep p n _ => pairOk p && decide (n < 65536)
  | .tineDbgSetBreakpoint p _ => pairOk p
  | .tineDbgClearBreakpoint p _ => pairOk p
  | .tineDbgResume p => pairOk p
  | .svcLockKeyWrite v => decide (v < 65536)
  | .glbTimeRead => true
  | .misalignedAccess fn a size _ => fnOk fn && decide (a < 2 ^ 20) && sizeOk size
  | .registerWrite fn a size v _ _ => fnOk fn && decide (a < 2 ^ 20) && sizeOk size && wordOk v
  | .linkUp _ _ => true
  | .vfEnableWrite _ => true
  | .d3hotExit fn => fnOk fn
  | .resetNRelease _ => true
  | .systemRailInRange _ _ _ _ _ => true
  | .startStepTimeout _ => true
  | .twbStartSeen b _ => busOk b
  | .pdSenderResponseTimeout k => portOk k
  | .pdDiscoverResponse k _ _ => portOk k
  | .serviceLockFuseBlown => true

end Sys2Proof
end

