-- ==== Sys2Proof/Tests/Slice0.lean ====
section
/-! SUPPORT. Tests: for each statement with hypotheses, concrete states and operands that meet them, clause by clause. -/

set_option maxRecDepth 20000
set_option Elab.async false

namespace Sys2Proof.Tests

open Sys2Proof Sys2Proof.Machine

/-- RUN, with every domain on and the PF live, 100,000 s after the start. -/
def base : State := (seqs [setR Reg.PWR_MODE.MODE 3, setR Reg.PWR_MODE.SEQ 0, setR Reg.PWR_MODE.STEP 0, setR Reg.PWR_MODE.TARGET 3,
  setR Reg.PWR_DOM.ON 0x3FFFFFFF, setR Reg.FN_STATUS.LIVE 1 pfFn, updTime fun _ => 100000000000]).run State.reset

/-- The base state after some writes of its parts. -/
def on (l : List Prog) : State := (seqs l).run base

/-- A state after some writes of its parts. -/
def onAt (s : State) (l : List Prog) : State := (seqs l).run s

/-- A state meets a property. -/
abbrev meets (s : State) (P : State → Prop) : Prop := P s

/-- A NOP descriptor. -/
def hd0 : List Nat := [0,0,1,0,0,0,0,0,0,0,0,0,0,0]
def nopDesc : List Nat := hd0 ++ leBytes 2 (crc16 hd0) ++ List.replicate 48 0
/-- A descriptor of the PF, and one for slot 5. -/
def c5 : Ctl := { fn := 0x400, ring := 0, target := 5 }
def c0 : Ctl := { fn := 0x400, ring := 0 }
/-- A 10S pack of the PF at a slot, in state `st`. -/
def seatIt (sl st : Nat) : Prog := seqs [
  setR Reg.SLT_STATUS.STATE st sl, setR Reg.SLT_PACK_A.CHEM 0 sl, setR Reg.SLT_PACK_A.CELLS 10 sl, setR Reg.SLT_PACK_A.ICHG_MAX 50 sl,
  setR Reg.SLT_PACK_A.IDIS_MAX 50 sl, setR Reg.SLT_PACK_B.VCHG_CELL 4200 sl, setR Reg.SLT_PACK_B.VDIS_CELL 3000 sl, setR Reg.SLT_VPACK.VPACK 36000 sl,
  setR Reg.SLT_STATUS.TYPE 3 sl, setR Reg.GAU_STATUS.STATE 1 sl, setR Reg.SLT_BOARD.IMAX_BRD 100 sl,
  updSlots sl fun x => { x with idClosed := true, pendingOwner := some (some pfFn) }]

theorem witness_ChannelRuns :
    meets (on [setR Reg.PHC_STATUS.STAGE 3 6, setR Reg.PHC_STATUS.PARKED 0 6, setR Reg.PHC_STATUS.DIR 0 6, setR Reg.PHC_STATUS.ACTIVE_PH 1 6]) (fun s => s.stopped = false ∧ s.isLead 6 = true ∧ s.switching 6 = true ∧ 131071 < 2 ^ 17) ∧
    meets (on [setR Reg.PHC_STATUS.STAGE 3 6, setR Reg.PHC_STATUS.PARKED 0 6, setR Reg.PHC_STATUS.DIR 0 6, setR Reg.PHC_STATUS.ACTIVE_PH 1 6, setR Reg.PHC_STATUS.STAGE 2 6]) (fun s => s.stopped = false ∧ s.rd Reg.PHC_STATUS.STAGE 6 = 2 ∧ (s.chan 6).risen = false ∧ (s.chan 6).riseBy ≤ s.time) ∧
    meets (on [setR Reg.PHC_STATUS.STAGE 3 6, setR Reg.PHC_STATUS.PARKED 0 6, setR Reg.PHC_STATUS.DIR 0 6, setR Reg.PHC_STATUS.ACTIVE_PH 1 6, setR Reg.PHC_STATUS.STAGE 2 6]) (fun s => s.stopped = false ∧ s.rd Reg.PHC_STATUS.STAGE 6 = 2) ∧
    meets (on [setR Reg.PHC_STATUS.STAGE 3 6, setR Reg.PHC_STATUS.PARKED 0 6, setR Reg.PHC_STATUS.DIR 0 6, setR Reg.PHC_STATUS.ACTIVE_PH 1 6, setR Reg.PHC_STATUS.STAGE 5 6, setR Reg.PHC_CTRL.ENABLE 1 7, setR Reg.PHC_REF_I.REF_I 2000 6, setR Reg.PHC_CTRL.ENABLE 1 6, updChans 6 fun x => { x with inUse := List.replicate 40 1 }]) (fun s => s.stopped = false ∧ s.rd Reg.PHC_STATUS.STAGE 6 = 5 ∧ (s.chan 6).backoffUntil ≤ s.time ∧ s.refI 6 ≠ 0 ∧ s.svc.parkLines = false ∧ ((s.outputOf 6).all fun c => s.flag Reg.PHC_CTRL.ENABLE c) = true ∧ s.startUnset 6 = false ∧ (s.chan 6).biasOk = false) ∧
    meets (on [setR Reg.PHC_STATUS.STAGE 3 6, setR Reg.PHC_STATUS.PARKED 0 6, setR Reg.PHC_STATUS.DIR 0 6, setR Reg.PHC_STATUS.ACTIVE_PH 1 6]) (fun s => s.stopped = false ∧ s.rd Reg.PHC_STATUS.STAGE 6 = 3 ∧ (s.chan 6).regSince + 10000000 ≤ s.time) ∧
    meets (on [setR Reg.PHC_STATUS.STAGE 3 6, setR Reg.PHC_STATUS.PARKED 0 6, setR Reg.PHC_STATUS.DIR 0 6, setR Reg.PHC_STATUS.ACTIVE_PH 1 6]) (fun s => s.stopped = false ∧ s.flag Reg.PHC_STATUS.PARKED 6 = false ∧ 100 * s.rd Reg.PHC_CTRL.PEAK_LIM 6 ≤ 30000) ∧
    meets (on [setR Reg.PHC_STATUS.STAGE 3 6, setR Reg.PHC_STATUS.PARKED 0 6, setR Reg.PHC_STATUS.DIR 0 6, setR Reg.PHC_STATUS.ACTIVE_PH 1 6]) (fun s => s.stopped = false ∧ s.switching 6 = true ∧ (s.chan 6).commitAt + 250000 ≤ s.time) := by
  and_intros <;> decide +kernel

theorem witness_ChannelSyncAndFaults :
    meets (on [setR Reg.PHC_CTRL.SYNC 1 142]) (fun s => 142 < 144 ∧ s.stopped = false ∧ s.flag Reg.PHC_CTRL.SYNC 142 = true ∧ s.isLead 142 = true ∧ s.flag Reg.PHC_STATUS.SYNC_LOST 142 = false ∧ s.syncOk 142 80000 = true) ∧
    meets (on [setR Reg.PHC_CTRL.SYNC 1 142, setR Reg.PHC_STATUS.SYNC_LOCK 1 142, updChans 142 fun x => { x with tSync := 80000 }]) (fun s => 142 < 144 ∧ s.stopped = false ∧ s.flag Reg.PHC_CTRL.SYNC 142 = true ∧ s.flag Reg.PHC_STATUS.SYNC_LOCK 142 = true ∧ s.rd Reg.PHC_GCTL.SYNC_LOSS_N * (s.chan 142).tSync < 10000000) ∧
    meets (on [setR Reg.PHC_CTRL.SYNC 1 142, setR Reg.PHC_STATUS.SYNC_LOST 1 142, updChans 142 fun x => { x with edgeRun := 16, tSync := 80000 }]) (fun s => 142 < 144 ∧ s.stopped = false ∧ s.flag Reg.PHC_CTRL.SYNC 142 = true ∧ s.flag Reg.PHC_STATUS.SYNC_LOST 142 = true ∧ 16 ≤ (s.chan 142).edgeRun ∧ s.syncOk 142 (s.chan 142).tSync = true) ∧
    meets base (fun s => s.stopped = false ∧ 200 ≤ 200) ∧
    meets (on [setR Reg.PHC_STATUS.STAGE 3 6, setR Reg.PHC_STATUS.PARKED 0 6, updChans 6 fun x => { x with wrongSince := some 5 }]) (fun s => s.stopped = false ∧ s.isLead 6 = true ∧ s.switching 6 = true ∧ s.runawaySince 6 2 = some 5 ∧ 5 + runawayPersist 2 ≤ s.time) := by
  and_intros <;> decide +kernel

theorem witness_ChannelPhases :
    meets (on [setR Reg.PHC_STATUS.STAGE 3 6, setR Reg.PHC_STATUS.PARKED 0 6, setR Reg.PHC_SHED.SHED_EN 1 6, setR Reg.PHC_STATUS.ACTIVE_PH 1 6, updChans 6 fun x => { x with addRun := 4 }]) (fun s => s.stopped = false ∧ s.flag Reg.PHC_SHED.SHED_EN 6 = true ∧ s.switching 6 = true ∧ 4 ≤ (s.chan 6).addRun ∧ s.nAct 6 < s.nPhys 6) ∧
    meets (on [setR Reg.PHC_STATUS.STAGE 3 6, setR Reg.PHC_STATUS.PARKED 0 6, setR Reg.PHC_SHED.SHED_EN 1 6, setR Reg.PHC_STATUS.ACTIVE_PH 2 6, updChans 6 fun x => { x with isBelow := true }]) (fun s => s.stopped = false ∧ s.flag Reg.PHC_SHED.SHED_EN 6 = true ∧ s.switching 6 = true ∧ 1 < s.nAct 6 ∧ s.nAct 6 ≤ 4 ∧ (s.chan 6).isBelow = true ∧ (s.chan 6).belowSince + 1000 * s.rd Reg.PHC_SHED.SHED_DWELL 6 ≤ s.time ∧ (s.chan 6).changeAt + 1000 * s.rd Reg.PHC_SHED.SHED_DWELL 6 ≤ s.time) ∧
    meets (on [setR Reg.PHC_STATUS.STAGE 3 6, setR Reg.PHC_STATUS.PARKED 0 6, setR Reg.PHC_SHED.SHED_EN 1 6, updChans 6 fun x => { x with shedding := some 7 }, updChans 7 fun x => { x with lowRun := 32 }]) (fun s => s.stopped = false ∧ (s.chan 6).shedding = some 7 ∧ 32 ≤ (s.chan 7).lowRun) ∧
    meets (on [setR Reg.PHC_STATUS.STAGE 3 6, setR Reg.PHC_STATUS.PARKED 0 6, setR Reg.PHC_SHED.SHED_EN 1 6, setR Reg.PHC_STATUS.ACTIVE_PH 2 6, updChans 6 fun x => { x with imbN := 2 }, updChans 7 fun x => { x with imbSum := 3 }]) (fun s => s.stopped = false ∧ 0 < 0 + 1 ∧ s.phaseAvgs 6 = [0, 1] ∧ (s.chan 6).shedding = none ∧ (s.chan 6).adding = [] ∧ (s.chan 6).imbChanged = false) := by
  and_intros <;> decide +kernel

theorem witness_ChannelWrites :
    meets (on [setR Reg.PHC_STATUS.STAGE 3 136, setR Reg.PHC_STATUS.PARKED 0 136]) (fun s => 136 < 144 ∧ s.barOn = true ∧ s.blockOn (Reg.PHC_LOOP.APPLY.addr 136 0 0) = true ∧ s.isLead 136 = true ∧ s.switching 136 = true) ∧
    meets base (fun s => 143 < 144 ∧ s.barOn = true ∧ s.blockOn (Reg.PHC_CTRL.ENABLE.addr 143 0 0) = true) ∧
    meets base (fun s => 0 < 144 ∧ s.barOn = true ∧ 0x80000001 < 2 ^ 32 ∧ s.blockOn (Reg.PHC_GANG.GANG_EN.addr 0 0 0) = true ∧ s.flag Reg.GLB_SEAL.SEALED = false ∧ s.gangOk 0x80000001 = true) := by
  and_intros <;> decide +kernel

theorem witness_SlotCharging :
    meets (on [setR Reg.SLT_STATUS.STATE 4 63, updSlots 63 fun x => { x with idClosed := true }, updSlots 63 fun x => { x with curPhase := 2, upRun := 5 }]) (fun s => s.stopped = false ∧ (2 = 1 ∨ 2 = 2) ∧ s.slSt 63 = slCharging ∧ (s.slot 63).curPhase = 2 ∧ 5 ≤ (s.slot 63).upRun) ∧
    meets (on [setR Reg.SLT_STATUS.STATE 4 63, updSlots 63 fun x => { x with idClosed := true }, setR Reg.SLT_STATUS.PHASE 3 63, updSlots 63 fun x => { x with curPhase := 3 }, setR Reg.PHC_STATUS.STAGE 3 126, setR Reg.PHC_STATUS.LOOP_MODE 2 126, updChans 126 fun x => { x with cvSince := some 1 }]) (fun s => s.stopped = false ∧ s.slSt 63 = slCharging ∧ 1 ≤ (s.slot 63).curPhase ∧ (s.slot 63).curPhase ≤ 3 ∧ s.rd Reg.SLT_STATUS.PHASE 63 ≠ 0 ∧ s.cvFor 63 1000000 = true) ∧
    meets (on [setR Reg.SLT_STATUS.STATE 4 63, updSlots 63 fun x => { x with idClosed := true }, updSlots 63 fun x => { x with curPhase := 3, sagRun := 5 }]) (fun s => s.stopped = false ∧ s.slSt 63 = slCharging ∧ (s.slot 63).curPhase = 3 ∧ 5 ≤ (s.slot 63).sagRun) ∧
    meets (on [setR Reg.SLT_STATUS.STATE 4 63, updSlots 63 fun x => { x with idClosed := true }, updSlots 63 fun x => { x with curPhase := 1, tPhase := 100000000 }]) (fun s => s.stopped = false ∧ s.slSt 63 = slCharging ∧ (s.slot 63).curPhase = 1 ∧ 6000 * s.rd Reg.SLT_TIMERS.TRICKLE_MAX 63 ≤ (s.slot 63).tPhase ∧ s.oddGanged 63 = false) ∧
    meets (on [setR Reg.SLT_STATUS.STATE 4 63, updSlots 63 fun x => { x with idClosed := true }, updSlots 63 fun x => { x with curPhase := 4, tCv := 100000000 }, setR Reg.PHC_STATUS.STAGE 3 126, setR Reg.PHC_STATUS.PARKED 0 126]) (fun s => s.stopped = false ∧ s.slSt 63 = slCharging ∧ (s.slot 63).curPhase = 4 ∧ 6000 * s.rd Reg.SLT_TIMERS.CV_MAX 63 ≤ (s.slot 63).tCv ∧ (s.slot 63).audStep = 0 ∧ s.flag Reg.SLT_STATUS.RECEIVER 63 = false ∧ s.switching (s.slotLead 63) = true) ∧
    meets (on [setR Reg.SLT_STATUS.STATE 4 63, updSlots 63 fun x => { x with idClosed := true }, updSlots 63 fun x => { x with cvOrderAt := some 1 }, setR Reg.SLT_STATUS.STATE 7 63, setR Reg.PHC_STATUS.PARKED 0 126]) (fun s => s.stopped = false ∧ (s.slot 63).cvOrderAt = some 1 ∧ s.slSt 63 = slStopping ∧ s.outputParked (s.slotLead 63) = false ∧ 1 + 1000000 ≤ s.time ∧ s.oddGanged 63 = false) ∧
    meets (on [setR Reg.SLT_STATUS.STATE 4 63, updSlots 63 fun x => { x with idClosed := true }, setR Reg.SLT_STATUS.ZONE 4 63]) (fun s => s.stopped = false ∧ (4 = 0 ∨ 4 = 4 ∨ 4 = 7) ∧ s.slSt 63 = slCharging ∧ s.rd Reg.SLT_STATUS.ZONE 63 = 4 ∧ s.refI (s.slotLead 63) = 0) ∧
    meets (on [setR Reg.SLT_STATUS.STATE 4 63, updSlots 63 fun x => { x with idClosed := true }, updSlots 63 fun x => { x with curPhase := 4, cvCurrent := 5000, taper := 100 }, setR Reg.SLT_STATUS.PHASE 4 63, setR Reg.GAU_CURR.I_AVG 2000 63]) (fun s => s.stopped = false ∧ s.slSt 63 = slCharging ∧ (s.slot 63).curPhase = 4 ∧ (s.slot 63).taperBits = 0 ∧ 2 * (s.iAvg 63).natAbs < (s.slot 63).cvCurrent ∧ (s.slot 63).cvCurrent ≤ 4 * (s.iAvg 63).natAbs ∧ (s.slot 63).taper ≤ (s.iAvg 63).natAbs ∧ s.rd Reg.SLT_STATUS.PHASE 63 = 4) ∧
    meets (on [setR Reg.SLT_STATUS.STATE 4 63, updSlots 63 fun x => { x with idClosed := true }, setR Reg.SLT_CFG.SWAP_AUTH 1 63, updSlots 63 fun x => { x with method := 1, pollAt := 0 }, setR Reg.SLT_STATUS.STATE 3 63]) (fun s => s.stopped = false ∧ s.flag Reg.SLT_CFG.SWAP_AUTH 63 = true ∧ (s.slot 63).method = 1 ∧ s.seated 63 = true ∧ s.slotsLive = true ∧ (s.slot 63).pollAt + 1000000 * s.rd Reg.SLT_CFG.AUTH_POLL 63 ≤ s.time) := by
  and_intros <;> decide +kernel

theorem witness_SlotTransfers :
    meets (on [updSlots 5 fun x => { x with idClosed := true }, setR Reg.SLT_STATUS.STATE 6 5, setR Reg.SLT_STATUS.ROLE 1 5, updSlots 5 fun x => { x with socFloor := 1 }]) (fun s => s.stopped = false ∧ s.slSt 5 = slDonor ∧ s.rd Reg.SLT_STATUS.ROLE 5 = 1 ∧ s.transferDue 5 = some 1) ∧
    meets (on [updSlots 5 fun x => { x with idClosed := true }, setR Reg.SLT_STATUS.STATE 4 5, updSlots 5 fun x => { x with audBelowSince := some 1, audStep := 1, curPhase := 4 }]) (fun s => s.stopped = false ∧ (s.slot 5).audBelowSince = some 1 ∧ s.slSt 5 = slCharging ∧ (s.slot 5).audStep = 1 ∧ (s.slot 5).curPhase = 4 ∧ 1 + 60000000 ≤ s.time) ∧
    meets (on [updSlots 5 fun x => { x with idClosed := true }, updSlots 5 fun x => { x with audStep := 2 }]) (fun s => s.stopped = false ∧ (s.slot 5).audStep = 2 ∧ s.outputParked (s.slotLead 5) = true ∧ (s.slot 5).restAt + 60000000 * (s.slot 5).audRest ≤ s.time) ∧
    meets (on [updSlots 5 fun x => { x with idClosed := true }, updSlots 5 fun x => { x with audStep := 3, audI := 2000, absorb := 499 }]) (fun s => s.stopped = false ∧ (s.slot 5).audStep = 3 ∧ 4 * (s.slot 5).absorb < (s.slot 5).audI) ∧
    meets (on [updSlots 5 fun x => { x with idClosed := true }, updSlots 5 fun x => { x with audStep := 4, audI := 2000, absorb := 1000 }, setR Reg.SLT_STATUS.ZONE 3 5]) (fun s => s.stopped = false ∧ (s.slot 5).audStep = 4 ∧ (s.slot 5).audI ≤ 2 * (s.slot 5).absorb ∧ 1 ≤ s.rd Reg.SLT_STATUS.ZONE 5 ∧ s.rd Reg.SLT_STATUS.ZONE 5 ≤ 3) ∧
    meets (on [updSlots 5 fun x => { x with idClosed := true }, updSlots 5 fun x => { x with audStep := 3, audI := 2000, audQ := 123456 }, setR Reg.PHC_STATUS.LOOP_MODE 2 10]) (fun s => s.stopped = false ∧ (s.slot 5).audStep = 3 ∧ s.rd Reg.PHC_STATUS.LOOP_MODE (s.slotLead 5) = 2 ∧ 10 * (s.iAvg 5).natAbs < (s.slot 5).audI ∧ (s.slot 5).audQ.toNat < 2 ^ 32) ∧
    meets (on [updSlots 5 fun x => { x with idClosed := true }, updSlots 5 fun x => { x with audStep := 4, pauseAt := 0, pauseTotal := 0 }]) (fun s => s.stopped = false ∧ (s.slot 5).audStep = 4 ∧ 3600000000 < (s.slot 5).pauseTotal + (s.time - (s.slot 5).pauseAt)) := by
  and_intros <;> decide +kernel

theorem witness_SlotIdentification :
    meets base (fun s => s.stopped = false ∧ s.modeReg ≠ mShip ∧ (s.slot 63).idClosed = false) ∧
    meets (on [setR Reg.SLT_STATUS.STATE 1 63, updSlots 63 fun x => { x with idClosed := true }]) (fun s => s.stopped = false ∧ s.modeReg ≠ mShip ∧ s.slSt 63 = slDebounce ∧ (s.slot 63).idClosed = true ∧ (s.slot 63).closedAt + 1000 * s.rd Reg.SLT_CFG.DEBOUNCE 63 ≤ s.time) ∧
    meets (on [updSlots 63 fun x => { x with wetRunning := true }, updFcvs 3 fun x => { x with cur := some ⟨5, 0x50, 1, 0, 0, 0, false⟩ }]) (fun s => s.stopped = false ∧ s.modeReg ≠ mShip ∧ (s.fcv (63 / 16)).cur.or (s.fcvPick (63 / 16)) = some ((⟨5, 0x50, 1, 0, 0, 0, false⟩) : FcvSel) ∧ ((⟨5, 0x50, 1, 0, 0, 0, false⟩) : FcvSel).task = 5 ∧ s.wetSlot (63 / 16) = some 63 ∧ (s.fcv (63 / 16)).endAt + 15000 ≤ s.time) ∧
    meets (on [setR Reg.SLT_STATUS.STATE 2 63]) (fun s => s.stopped = false ∧ s.modeReg ≠ mShip ∧ s.slSt 63 = slIdentifying ∧ (s.slot 63).wetRunning = false ∧ (s.slot 63).typed = false) ∧
    meets (on [setR Reg.SLT_STATUS.STATE 2 63, setR Reg.SLT_STATUS.TYPE 3 63, updSlots 63 fun x => { x with idClosed := true, typed := true, method := 1, ntcValid := 1, pack := some ⟨0, 4, 20, 20, 4200, 3000, 0, 0⟩ }]) (fun s => s.stopped = false ∧ s.modeReg ≠ mShip ∧ s.identDone 63 = true ∧ s.running = true ∧ s.identFailure 63 = none ∧ s.identPack 63 = some ((⟨0, 4, 20, 20, 4200, 3000, 0, 0⟩) : PackRec)) ∧
    meets (on [setR Reg.SLT_STATUS.STATE 2 63, setR Reg.SLT_STATUS.TYPE 9 63, updSlots 63 fun x => { x with typed := true }]) (fun s => s.stopped = false ∧ s.modeReg ≠ mShip ∧ s.identFailure 63 = some 0 ∧ s.running = true ∧ (0 < 3 ∨ 5 < 0)) ∧
    meets (on [setR Reg.SLT_STATUS.STATE 2 63, updSlots 63 fun x => { x with retryAt := some 1 }]) (fun s => s.stopped = false ∧ s.modeReg ≠ mShip ∧ (s.slot 63).retryAt = some 1 ∧ s.slSt 63 = slIdentifying ∧ 1 ≤ s.time) ∧
    meets (on [setR Reg.SLT_STATUS.STATE 3 63, updSlots 63 fun x => { x with idClosed := true }]) (fun s => s.stopped = false ∧ s.modeReg ≠ mShip ∧ (s.slot 63).idClosed = true ∧ s.oddGanged 63 = false ∧ s.slotsLive = true ∧ s.slSt 63 = slIdle ∧ s.rd Reg.SLT_STATUS.ROLE 63 ≠ 1 ∧ (s.slot 63).audStep = 0 ∧ s.flag Reg.SLT_STATUS.RECEIVER 63 = false ∧ (s.slot 63).offWait = false) := by
  and_intros <;> decide +kernel

theorem witness_SlotFaultsAndWrites :
    meets (on [setR Reg.SLT_STATUS.STATE 3 63, updSlots 63 fun x => { x with idClosed := true }, updSlots 63 fun x => { x with ntcBothSince := some 1 }]) (fun s => s.stopped = false ∧ s.modeReg ≠ mShip ∧ s.oddGanged 63 = false ∧ s.seated 63 = true ∧ s.slotsLive = true ∧ (s.slot 63).ntcBothSince = some 1 ∧ 1 + 500000 ≤ s.time) ∧
    meets (on [setR Reg.SLT_STATUS.STATE 3 63, updSlots 63 fun x => { x with idClosed := true }, setR Reg.SLT_STATUS.TYPE 1 63]) (fun s => s.stopped = false ∧ s.modeReg ≠ mShip ∧ s.oddGanged 63 = false ∧ s.seated 63 = true ∧ s.slotsLive = true ∧ s.fgMasked 63 5 = false ∧ inWindow (s.rd Reg.SLT_STATUS.TYPE 63) 2899 = false ∧ 2899 < 2900 ∧ 2000 ≤ 2000) ∧
    meets (on [setR Reg.SLT_STATUS.STATE 3 63, updSlots 63 fun x => { x with idClosed := true }]) (fun s => s.stopped = false ∧ s.modeReg ≠ mShip ∧ s.oddGanged 63 = false ∧ s.seated 63 = true ∧ s.slotsLive = true ∧ s.fgMasked 63 0 = false ∧ (s.slot 63).idClosed = true ∧ 20 * s.rd Reg.SAF_FG_A.OV_TH 63 < 100000 ∧ 4 ≤ 4) ∧
    meets (on [setR Reg.SLT_STATUS.STATE 3 63, updSlots 63 fun x => { x with idClosed := true }]) (fun s => s.stopped = false ∧ s.modeReg ≠ mShip ∧ s.oddGanged 63 = false ∧ s.seated 63 = true ∧ s.slotsLive = true ∧ s.fgMasked 63 1 = false ∧ 100 * s.rd Reg.SAF_FG_A.OC_TH 63 < 60000 ∧ 8 ≤ 8) ∧
    meets (on [setR Reg.SLT_STATUS.STATE 3 63, updSlots 63 fun x => { x with idClosed := true }]) (fun s => s.stopped = false ∧ s.modeReg ≠ mShip ∧ s.oddGanged 63 = false ∧ s.seated 63 = true ∧ s.slotsLive = true ∧ s.fgMasked 63 2 = false ∧ 100 * s.rd Reg.SAF_FG_B.RV_TH 63 < 60000 ∧ 16 ≤ 16) ∧
    meets (on [setR Reg.SLT_STATUS.STATE 3 63, updSlots 63 fun x => { x with idClosed := true }, setR Reg.SAF_FG_B.NTC_CODE 100 63]) (fun s => s.stopped = false ∧ s.modeReg ≠ mShip ∧ s.oddGanged 63 = false ∧ s.seated 63 = true ∧ s.slotsLive = true ∧ s.fgMasked 63 (3 + min 1 1) = false ∧ 99 < s.rd Reg.SAF_FG_B.NTC_CODE 63 ∧ 500 ≤ 500) ∧
    meets base (fun s => 63 < 64 ∧ s.barOn = true ∧ s.blockOn (Reg.SLT_CFG.ENABLE.addr 63 0 0) = true ∧ s.sltWaits (Reg.SLT_CFG.ENABLE.addr 63 0 0) = false) ∧
    meets (on [setR Reg.SLT_STATUS.STATE 8 63, setR Reg.SLT_FAULT.FAULTED 1 63, setR Reg.SLT_FAULT.CAUSE 2 63]) (fun s => 63 < 64 ∧ s.barOn = true ∧ s.blockOn (Reg.SLT_FAULT.CLEAR.addr 63 0 0) = true ∧ s.sltWaits (Reg.SLT_FAULT.CLEAR.addr 63 0 0) = false ∧ s.slSt 63 = slFaulted ∧ s.causePersists 63 = false) ∧
    meets (on [setR Reg.PWR_MODE.MODE 1]) (fun s => 63 < 64 ∧ s.barOn = true ∧ s.blockOn (Reg.SLT_FAULT.CLEAR.addr 63 0 0) = true ∧ s.sltWaits (Reg.SLT_FAULT.CLEAR.addr 63 0 0) = true) := by
  and_intros <;> decide +kernel

theorem witness_MeasConversions :
    meets (on [setR Reg.MSR_ICV_CTRL.RUN 1 15]) (fun s => s.stopped = false ∧ s.icvRuns 15 = true ∧ (s.icv 15).cur = none ∧ (s.icv 15).delayUntil ≤ s.time ∧ (s.icv 15).inPass = false ∧ (s.icv 15).pend = [] ∧ s.refereeOn 15 = false) ∧
    meets (on [setR Reg.MSR_ICV_CTRL.RUN 1 15, updIcvs 15 fun x => { x with inPass := true, pass := 3, pos := 31 }, setR Reg.MSR_ICV_ENT_A.REPEAT 1 15 31]) (fun s => s.stopped = false ∧ s.icvRuns 15 = true ∧ (s.icv 15).cur = none ∧ (s.icv 15).delayUntil ≤ s.time ∧ (s.icv 15).inPass = true ∧ s.nextEntry 15 (s.icv 15).pos < 32 ∧ s.refereeOn 15 = false ∧ s.urgentDue 15 = false) ∧
    meets (on [setR Reg.MSR_ICV_CTRL.RUN 1 15, updIcvs 15 fun x => { x with cur := some {kind := 0, entry := 31, chan := 15, range := 1, auto := false, cyc := 1, readyAt := 0, startAt := some 1, per := 200000, gain := 4194304} }]) (fun s => s.stopped = false ∧ (s.icv 15).cur = some (({kind := 0, entry := 31, chan := 15, range := 1, auto := false, cyc := 1, readyAt := 0, startAt := some 1, per := 200000, gain := 4194304}) : Conv) ∧ (({kind := 0, entry := 31, chan := 15, range := 1, auto := false, cyc := 1, readyAt := 0, startAt := some 1, per := 200000, gain := 4194304}) : Conv).startAt = some 1 ∧ 1 + (({kind := 0, entry := 31, chan := 15, range := 1, auto := false, cyc := 1, readyAt := 0, startAt := some 1, per := 200000, gain := 4194304}) : Conv).len ≤ s.time ∧ s.flag Reg.MSR_ICV_STATUS.FAILED 15 = false ∧ (({kind := 0, entry := 31, chan := 15, range := 1, auto := false, cyc := 1, readyAt := 0, startAt := some 1, per := 200000, gain := 4194304}) : Conv).kind = 0 ∧ (({kind := 0, entry := 31, chan := 15, range := 1, auto := false, cyc := 1, readyAt := 0, startAt := some 1, per := 200000, gain := 4194304}) : Conv).chan < 16 ∧ (s.entry 15 (({kind := 0, entry := 31, chan := 15, range := 1, auto := false, cyc := 1, readyAt := 0, startAt := some 1, per := 200000, gain := 4194304}) : Conv).entry).avg = false ∧ s.rd Reg.ENG_TASK.STATE (postTask (chanSlot 15 (({kind := 0, entry := 31, chan := 15, range := 1, auto := false, cyc := 1, readyAt := 0, startAt := some 1, per := 200000, gain := 4194304}) : Conv).chan)) < 2 ∧ (3000 ≤ 3000 ∨ (({kind := 0, entry := 31, chan := 15, range := 1, auto := false, cyc := 1, readyAt := 0, startAt := some 1, per := 200000, gain := 4194304}) : Conv).range ≠ 1 ∨ 12 ≤ (({kind := 0, entry := 31, chan := 15, range := 1, auto := false, cyc := 1, readyAt := 0, startAt := some 1, per := 200000, gain := 4194304}) : Conv).chan ∨ (({kind := 0, entry := 31, chan := 15, range := 1, auto := false, cyc := 1, readyAt := 0, startAt := some 1, per := 200000, gain := 4194304}) : Conv).chan % 3 ≠ 0)) ∧
    meets (on [setR Reg.MSR_ICV_CTRL.RUN 1 15, updIcvs 15 fun x => { x with cur := some {kind := 0, entry := 31, chan := 9, range := 1, auto := false, cyc := 1, readyAt := 0, startAt := some 1, per := 200000, gain := 4194304} }]) (fun s => s.stopped = false ∧ (s.icv 15).cur = some (({kind := 0, entry := 31, chan := 9, range := 1, auto := false, cyc := 1, readyAt := 0, startAt := some 1, per := 200000, gain := 4194304}) : Conv) ∧ (({kind := 0, entry := 31, chan := 9, range := 1, auto := false, cyc := 1, readyAt := 0, startAt := some 1, per := 200000, gain := 4194304}) : Conv).startAt = some 1 ∧ 1 + (({kind := 0, entry := 31, chan := 9, range := 1, auto := false, cyc := 1, readyAt := 0, startAt := some 1, per := 200000, gain := 4194304}) : Conv).len ≤ s.time ∧ s.flag Reg.MSR_ICV_STATUS.FAILED 15 = false ∧ (({kind := 0, entry := 31, chan := 9, range := 1, auto := false, cyc := 1, readyAt := 0, startAt := some 1, per := 200000, gain := 4194304}) : Conv).kind = 0 ∧ (s.entry 15 (({kind := 0, entry := 31, chan := 9, range := 1, auto := false, cyc := 1, readyAt := 0, startAt := some 1, per := 200000, gain := 4194304}) : Conv).entry).avg = false ∧ s.rd Reg.ENG_TASK.STATE (postTask (chanSlot 15 (({kind := 0, entry := 31, chan := 9, range := 1, auto := false, cyc := 1, readyAt := 0, startAt := some 1, per := 200000, gain := 4194304}) : Conv).chan)) < 2 ∧ 3000 < 3001 ∧ (({kind := 0, entry := 31, chan := 9, range := 1, auto := false, cyc := 1, readyAt := 0, startAt := some 1, per := 200000, gain := 4194304}) : Conv).range = 1 ∧ (({kind := 0, entry := 31, chan := 9, range := 1, auto := false, cyc := 1, readyAt := 0, startAt := some 1, per := 200000, gain := 4194304}) : Conv).chan < 12 ∧ (({kind := 0, entry := 31, chan := 9, range := 1, auto := false, cyc := 1, readyAt := 0, startAt := some 1, per := 200000, gain := 4194304}) : Conv).chan % 3 = 0) ∧
    meets (on [setR Reg.MSR_ICV_CTRL.RUN 1 15, updIcvs 15 fun x => { x with cur := some {kind := 0, entry := 31, chan := 9, range := 1, auto := false, cyc := 1, readyAt := 0, startAt := some 1, per := 200000, gain := 4194304} }, setR Reg.ENG_TASK.STATE 2 (postTask (chanSlot 15 9))]) (fun s => s.stopped = false ∧ (s.icv 15).cur = some (({kind := 0, entry := 31, chan := 9, range := 1, auto := false, cyc := 1, readyAt := 0, startAt := some 1, per := 200000, gain := 4194304}) : Conv) ∧ (({kind := 0, entry := 31, chan := 9, range := 1, auto := false, cyc := 1, readyAt := 0, startAt := some 1, per := 200000, gain := 4194304}) : Conv).startAt = some 1 ∧ 1 + (({kind := 0, entry := 31, chan := 9, range := 1, auto := false, cyc := 1, readyAt := 0, startAt := some 1, per := 200000, gain := 4194304}) : Conv).len ≤ s.time ∧ s.flag Reg.MSR_ICV_STATUS.FAILED 15 = false ∧ (({kind := 0, entry := 31, chan := 9, range := 1, auto := false, cyc := 1, readyAt := 0, startAt := some 1, per := 200000, gain := 4194304}) : Conv).kind = 0 ∧ 15 < 16 ∧ (({kind := 0, entry := 31, chan := 9, range := 1, auto := false, cyc := 1, readyAt := 0, startAt := some 1, per := 200000, gain := 4194304}) : Conv).chan < 16 ∧ (s.entry 15 (({kind := 0, entry := 31, chan := 9, range := 1, auto := false, cyc := 1, readyAt := 0, startAt := some 1, per := 200000, gain := 4194304}) : Conv).entry).avg = false ∧ 2 ≤ s.rd Reg.ENG_TASK.STATE (postTask (chanSlot 15 (({kind := 0, entry := 31, chan := 9, range := 1, auto := false, cyc := 1, readyAt := 0, startAt := some 1, per := 200000, gain := 4194304}) : Conv).chan)) ∧ s.postSleeps (chanSlot 15 (({kind := 0, entry := 31, chan := 9, range := 1, auto := false, cyc := 1, readyAt := 0, startAt := some 1, per := 200000, gain := 4194304}) : Conv).chan) = false) ∧
    meets (on [setR Reg.MSR_ICV_CTRL.RUN 1 15, updIcvs 15 fun x => { x with cur := some {kind := 0, entry := 31, chan := 15, range := 1, auto := false, cyc := 1, readyAt := 0, startAt := some 1, per := 200000} }]) (fun s => s.stopped = false ∧ (s.icv 15).cur = some (({ kind := 0, entry := 31, chan := 15, range := 1, auto := false, cyc := 1, readyAt := 0, startAt := some 1, per := 200000 }) : Conv) ∧ (({ kind := 0, entry := 31, chan := 15, range := 1, auto := false, cyc := 1, readyAt := 0, startAt := some 1, per := 200000 }) : Conv).startAt = some 1 ∧ 1 + (({ kind := 0, entry := 31, chan := 15, range := 1, auto := false, cyc := 1, readyAt := 0, startAt := some 1, per := 200000 }) : Conv).len + (({ kind := 0, entry := 31, chan := 15, range := 1, auto := false, cyc := 1, readyAt := 0, startAt := some 1, per := 200000 }) : Conv).per / 10 ≤ s.time ∧ s.flag Reg.MSR_ICV_STATUS.FAILED 15 = false) ∧
    meets (on [setR Reg.MSR_ICV_CTRL.RUN 1 15, updIcvs 15 fun x => { x with queue := [{kind := 1, entry := 0xFF, chan := 3, range := 2, auto := false, cyc := 1, readyAt := 0}] }]) (fun s => s.stopped = false ∧ (s.icv 15).nextUrgent = some ((({ kind := 1, entry := 0xFF, chan := 3, range := 2, auto := false, cyc := 1, readyAt := 0 }) : Conv), ([] : List Conv)) ∧ s.urgentDue 15 = true) := by
  and_intros <;> decide +kernel

theorem witness_MeasTriggers :
    meets (on [setR Reg.MSR_MAINS.SRC 0, updMains fun x => { x with run := 7, periods := [200000, 200000, 200000, 200000, 200000, 200000, 200000] }]) (fun s => s.stopped = false ∧ s.rd Reg.MSR_MAINS.SRC = 0 ∧ s.flag Reg.MSR_MAINS.LOCKED = false ∧ s.mains.run = 7 ∧ s.mains.periods = 200000 :: (([200000, 200000, 200000, 200000, 200000, 200000]) : List Nat) ∧ 153850 ≤ 200000 ∧ 200000 ≤ 222220) ∧
    meets (on [setR Reg.MSR_MAINS.SRC 0, setR Reg.MSR_MAINS.LOCKED 1, updMains fun x => { x with lastAt := 99999970000 }]) (fun s => s.stopped = false ∧ s.flag Reg.MSR_MAINS.LOCKED = true ∧ 3 * s.perT ≤ 20 * (s.time - s.mains.lastAt)) ∧
    meets (on [setR Reg.MSR_GRP.SRC 1 3, setR Reg.MSR_MAINS.PERIOD 200000]) (fun s => s.stopped = false ∧ 3 < 4 ∧ s.flag Reg.MSR_MAINS.LOCKED = false ∧ s.time % max (s.perT / 10) 1 = 0 ∧ s.rd Reg.MSR_GRP.SRC 3 = 1 ∧ (s.group 3).since = none) ∧
    meets (on [setR Reg.MSR_ICV_CTRL.RUN 1 15, setR Reg.MSR_ICV_CTRL.TRIG_SRC 3 15, updIcvs 15 fun x => { x with cur := some {kind := 0, entry := 0, chan := 0, range := 1, auto := false, cyc := 1, readyAt := 0, trig := true} }]) (fun s => s.stopped = false ∧ s.icvRuns 15 = true ∧ s.rd Reg.MSR_ICV_CTRL.TRIG_SRC 15 = 3 ∧ s.awaits 15 = true) ∧
    meets (on [setR Reg.MSR_GRP.SRC 3 3]) (fun s => s.stopped = false ∧ s.rd Reg.MSR_GRP.SRC 3 = 3 ∧ (s.group 3).since = none) ∧
    meets (on [setR Reg.MSR_GRP.MEMBERS 0x8000 3, updGroups 3 fun x => { x with since := some 1 }, updIcvs 15 fun x => { x with cur := some {kind := 0, entry := 0, chan := 0, range := 1, auto := false, cyc := 1, readyAt := 99999999950, trig := true} }]) (fun s => s.stopped = false ∧ 15 < 16 ∧ s.rd Reg.MSR_GRP.MEMBERS 3 = 2 ^ 15 ∧ (s.group 3).since = some 1 ∧ (s.icv 15).cur = some (({ kind := 0, entry := 0, chan := 0, range := 1, auto := false, cyc := 1, readyAt := 99999999950, trig := true }) : Conv) ∧ s.awaits 15 = true ∧ max 1 (({ kind := 0, entry := 0, chan := 0, range := 1, auto := false, cyc := 1, readyAt := 99999999950, trig := true }) : Conv).readyAt + 50 ≤ s.time) := by
  and_intros <;> decide +kernel

theorem witness_MeasFineAndCalibration :
    meets (on [updFcvs 3 fun x => { x with cur := some ⟨0, 12, 2, 3, 0, 4194304, false⟩ }]) (fun s => s.stopped = false ∧ (s.fcv 3).cur.or (s.fcvPick 3) = some ((⟨0, 12, 2, 3, 0, 4194304, false⟩) : FcvSel) ∧ ((⟨0, 12, 2, 3, 0, 4194304, false⟩) : FcvSel).task < 4 ∧ (s.fcv 3).endAt + 100000 ≤ s.time ∧ s.rd Reg.MSR_FCV_STATUS.STATE 3 ≠ 2 ∧ s.mode ≠ mShip ∧ s.mode ≠ mService) ∧
    meets (on [updFcvs 3 fun x => { x with referee := some (12, 0, 1, 5, 7) }, setR Reg.MSR_FCV_STATUS.STATE 0 3]) (fun s => s.stopped = false ∧ (s.fcv 3).referee = some (12, 0, 1, (5 : Int), (7 : Int)) ∧ (s.icv 12).cur = none ∧ (s.fcv 3).cur = none ∧ onDac 1 (s.fcv 3).again (([0, 0]) : List Int) = false ∧ onDac 1 (s.fcv 3).again (([(fsOf 1 / 4 : Nat), (fsOf 1 / 4 * 3 : Nat)]) : List Int) = true) ∧
    meets (on [updFcvs 3 fun x => { x with cur := some ⟨4, 0x51, 1, 0, 0, 4194304, false⟩ }]) (fun s => s.stopped = false ∧ (s.fcv 3).cur.or (s.fcvPick 3) = some ((⟨4, 0x51, 1, 0, 0, 4194304, false⟩) : FcvSel) ∧ ((⟨4, 0x51, 1, 0, 0, 4194304, false⟩) : FcvSel).task = 4 ∧ (s.fcv 3).endAt + 200000 ≤ s.time ∧ (1250 < ((-1251) : Int).natAbs ∨ 2500 < ((1250000 : Int) - 1250000).natAbs)) ∧
    meets (on [setR Reg.MSR_FCV_STATUS.STATE 2 3, setR Reg.SLT_STATUS.STATE 3 63]) (fun s => s.stopped = false ∧ s.rd Reg.MSR_FCV_STATUS.STATE (15 / 4) = 2 ∧ 15 < 16 ∧ ((12 ≤ 15 ∨ 15 % 3 ≠ 0)) ∧ onDac 0 false ([] : List Int) = false ∧ s.chanSubst 15 15 = false ∧ s.icvLive 15 = true ∧ (s.icv 15).cur = none ∧ s.oddGanged (chanSlot 15 15) = false ∧ s.slSt (chanSlot 15 15) = slIdle) ∧
    meets base (fun s => s.barOn = true ∧ s.blockOn (Reg.MSR_DAC_CTRL.EN.addr 3 0 0) = true ∧ 0x40 ≤ 0x50 ∧ 65535 < 65536 ∧ s.dacMay 3 0x40 = true) ∧
    meets (on [updIcvs 15 fun x => { x with cal := some ⟨{ fn := 0, ring := 0 }, true, 63, 0, 0, 5, List.replicate 16 3, 0, 0, 0, 0⟩ }]) (fun s => s.stopped = false ∧ 15 < 16 ∧ (s.icv 15).cal = some ((⟨{ fn := 0, ring := 0 }, true, 63, 0, 0, 5, List.replicate 16 3, 0, 0, 0, 0⟩) : CalJob) ∧ 16 ≤ ((⟨{ fn := 0, ring := 0 }, true, 63, 0, 0, 5, List.replicate 16 3, 0, 0, 0, 0⟩) : CalJob).codes.length) ∧
    meets (on [updPendZ fun _ => [⟨5, 0, 0, false, 1, 2, none, 0⟩]]) (fun s => s.stopped = false) := by
  and_intros <;> decide +kernel

theorem witness_GaugeReadingsAndChecks :
    meets (on [setR Reg.GAU_STATUS.DEGRADED 1 63]) (fun s => s.stopped = false ∧ s.time % 100000 = 0 ∧ s.mode ≠ mShip ∧ s.mode ≠ mService ∧ s.flag Reg.GAU_STATUS.DEGRADED 63 = true) ∧
    meets base (fun s => s.stopped = false ∧ s.mode ≠ mService ∧ hasBit (s.rd Reg.PWR_DOM.ON) (26 + 63 / 16) = true) ∧
    meets base (fun s => s.stopped = false ∧ s.barOn = true) ∧
    meets (on [setR Reg.GAU_CFG.AZERO 1 63, updGauges 63 fun x => { x with zeroSince := some 1, marks := [(9, 20, 5, 7), (1, 10, 2, 3)] }]) (fun s => s.stopped = false ∧ s.flag Reg.GAU_CFG.AZERO 63 = true ∧ (s.gauge 63).zeroSince = some 1 ∧ 1 + 3000000 ≤ s.time ∧ (s.gauge 63).trimAt = none ∧ (s.gauge 63).marks.head? = some (9, 20, (5 : Int), 7) ∧ (s.gauge 63).marks.getLast? = some (1, 10, (2 : Int), 3) ∧ (20 + 2 ^ 32 - 10) % 2 ^ 32 ≠ 0) ∧
    meets (on [setR Reg.SLT_STATUS.STATE 4 63, setR Reg.SLT_STATUS.PHASE 4 63, setR Reg.GAU_STATUS.STATE 2 63, setR Reg.SLT_PROF_A.CV_CELL 4200 63, setR Reg.SLT_PACK_B.VCHG_CELL 4190 63, updSlots 63 fun x => { x with curPhase := 4, belowSince := some 1 }]) (fun s => s.stopped = false ∧ s.inCv 63 = true ∧ s.gaugeOn 63 = true ∧ (s.gauge 63).capAtFull = false ∧ max (s.rd Reg.SLT_PROF_A.CV_CELL 63) (s.rd Reg.SLT_PACK_B.VCHG_CELL 63) ≤ min (s.rd Reg.SLT_PROF_A.CV_CELL 63) (s.rd Reg.SLT_PACK_B.VCHG_CELL 63) + 10 ∧ (s.slot 63).belowSince = some 1 ∧ 1 + 60000000 ≤ s.time) ∧
    meets (on [setR Reg.GAU_STATUS.STATE 2 63, updTime fun _ => 100000984375]) (fun s => s.stopped = false ∧ s.time % 1000000 = 15625 * 63 ∧ s.gaugeOn 63 = true ∧ s.mode ≠ mHalt ∧ s.mode ≠ mService) ∧
    meets (on [updGauges 63 fun x => { x with marks := [(0x7FFFFFFF, 1000, 0, 1000000), (0,1,0,2), (0,1,0,2), (0,1,0,2), (0,1,0,2), (0,1,0,2), (0,1,0,2), (0,1,0,2), (0,1,0,2), (0,1,0,2), (0, 0, 0, 0)] }]) (fun s => s.stopped = false ∧ s.flag Reg.GAU_STATUS.DEGRADED 63 = false ∧ s.oddGanged 63 = false ∧ 11 ≤ (s.gauge 63).marks.length ∧ s.slSt 63 ≠ slFaulted ∧ curAgree (s.coulMean 63 (s.gauge 63).marks) (phaseMean (s.gauge 63).marks) = false ∧ (s.gauge 63).curRef = none) ∧
    meets (on [updGauges 63 fun x => { x with curRef := some (5, 600, 7) }]) (fun s => s.stopped = false ∧ (s.gauge 63).curRef = some ((5 : Int), (600 : Int), 7) ∧ 7 + s.rd Reg.MSR_ICV_CTRL.SETTLE (63 / 4) + s.perT / 10 ≤ s.time ∧ s.icvLive (63 / 4) = true) ∧
    meets (on [updSlots 63 fun x => { x with outRef := some (4000, 15, 2, 9) }]) (fun s => s.stopped = false ∧ (s.slot 63).outRef = some (4000, 15, 2, 9) ∧ 9 + 100000 ≤ s.time) := by
  and_intros <;> decide +kernel

theorem witness_PlannerAndTicks :
    meets (on [updTime fun _ => 100000009000]) (fun s => s.stopped = false ∧ s.time % 10000 = 9000 ∧ s.almOn = true ∧ s.alm.rootLost = false ∧ s.alm.frozen = none) ∧
    meets (on [updFns 1023 fun x => { x with overSince := some 1, overAt := 99999000000 }]) (fun s => s.stopped = false ∧ 1023 < 1024 ∧ (s.fnr 1023).overSince.isSome = true ∧ (s.fnr 1023).overAt + 1000000 ≤ s.time) ∧
    meets (on [setR Reg.ALM_SLOT_A.RESV 1 63, updSlots 63 fun x => { x with resvLow := 100 }]) (fun s => s.stopped = false ∧ s.rd Reg.ALM_SLOT_A.RESV 63 = 1 ∧ 100 ≤ (s.slot 63).resvLow) ∧
    meets (on [setR Reg.ALM_SLOT_A.RESV 2 63, setR Reg.ALM_SLOT_B.RESV_TICK 10000000 63]) (fun s => s.stopped = false ∧ s.reserved 63 = true ∧ laterTick (s.rd Reg.ALM_SLOT_B.RESV_TICK 63) s.tickNow = false) ∧
    meets base (fun s => s.stopped = false ∧ s.barOn = true ∧ s.blockOn (Reg.ALM_VIEW_SEL.CHAN.addr 0 0 0) = true ∧ Reg.ALM_VIEW_SEL.CHAN.rangeCause 143 = 0) ∧
    meets base (fun s => s.stopped = false ∧ s.time % 10000 = 0 ∧ s.alm.boundaryAt ≠ some s.time ∧ s.almOn = true ∧ s.alm.resume = false ∧ s.alm.rootLost = false ∧ s.modeReg = mRun ∧ s.rd Reg.PWR_MODE.SEQ = 0) ∧
    meets (on [updAlm fun x => { x with rootLost := true }]) (fun s => s.stopped = false ∧ s.alm.rootLost = true ∧ s.time % 10000 = 0 ∧ s.alm.boundaryAt ≠ some s.time ∧ s.almOn = true ∧ s.alm.resume = false ∧ s.modeReg = mRun ∧ s.rd Reg.PWR_MODE.SEQ = 0 ∧ s.alm.frozen = none) := by
  and_intros <;> decide +kernel

theorem witness_HostLink :
    meets base (fun s => s.stopped = false ∧ s.mode ≠ mShip ∧ s.mode ≠ mService ∧ s.rd Reg.HIF_LINK.SPEED = 0 ∧ 1 ≤ 1) ∧
    meets (on [setR Reg.HIF_LINK.SPEED 3, setR Reg.HIF_LINK.WIDTH 4]) (fun s => s.stopped = false ∧ 3 < 4 ∧ s.rd Reg.HIF_LINK.SPEED ≠ 0 ∧ s.rd Reg.HIF_LINK.LANE_FAULT < 16 ∧ narrowed (s.rd Reg.HIF_LINK.WIDTH) (setBit (s.rd Reg.HIF_LINK.LANE_FAULT) 3) ≠ 0 ∧ s.rd Reg.HIF_LINK.WIDTH ≤ 4) ∧
    meets (on [setR Reg.HIF_LINK.SPEED 3, setR Reg.HIF_LINK.WIDTH 4]) (fun s => s.stopped = false ∧ s.rd Reg.HIF_LINK.SPEED ≠ 0 ∧ s.rd Reg.HIF_LINK.SPEED ≤ 3 ∧ narrowed (s.rd Reg.HIF_LINK.WIDTH) (s.rd Reg.HIF_LINK.LANE_FAULT) ≠ 0) ∧
    meets base (fun s => s.stopped = false ∧ s.flag Reg.SVC_STATUS.FROZEN = false ∧ s.modeReg ≠ mShip) ∧
    meets (on [updHost fun x => { x with vfEnable := true }]) (fun s => s.stopped = false ∧ s.fnUp 1023 = true ∧ 1023 < 1024) ∧
    meets base (fun s => s.stopped = false ∧ s.mode ≠ mShip ∧ s.mode ≠ mService) ∧
    meets base (fun s => s.stopped = false ∧ s.mode ≠ mShip ∧ s.mode ≠ mService) ∧
    meets base (fun s => s.stopped = false ∧ s.fnUp 0x400 = true) ∧
    meets (on [updFns 1023 fun x => { x with d3hot := true }]) (fun s => s.stopped = false ∧ (s.fnr 1023).d3hot = true) := by
  and_intros <;> decide +kernel

theorem witness_DoorbellsAndFetches :
    meets (on [setR Reg.FN_DB_LO.EN 1 0x400, setR Reg.RING_CTRL.EN 1 0x400 15, setR Reg.RING_CTRL.LOG2 4 0x400 15, setR Reg.RING_CTRL.TYPE 0 0x400 15]) (fun s => s.stopped = false ∧ s.hifOn = true ∧ s.fnUp 0x400 = true ∧ s.flag Reg.FN_DB_LO.EN 0x400 = true ∧ (s.fnr 0x400).d3hot = false ∧ s.pollDue 0x400 = true ∧ ((List.replicate 60 0 ++ [9, 0, 0, 0]) : List Nat).length = 64 ∧ (∀ b ∈ ((List.replicate 60 0 ++ [9, 0, 0, 0]) : List Nat), b < 256) ∧ 15 < 16 ∧ s.flag Reg.RING_CTRL.EN 0x400 15 = true ∧ s.rd Reg.RING_CTRL.TYPE 0x400 15 = 0 ∧ (∀ q ∈ List.range 16, q ≠ 15 → s.flag Reg.RING_CTRL.EN 0x400 q = false) ∧ ((lineWords ((List.replicate 60 0 ++ [9, 0, 0, 0]) : List Nat)).getD 15 0 + 2 ^ 32 - s.rd Reg.RING_DEV_IDX.DEV_IDX 0x400 15) % 2 ^ 32 ≤ s.ringSize 0x400 15) ∧
    meets (on [setR Reg.FN_DB_LO.EN 1 0x400, setR Reg.RING_CTRL.EN 1 0x400 15, setR Reg.RING_CTRL.LOG2 4 0x400 15, setR Reg.RING_CTRL.TYPE 1 0x400 15, setR Reg.RING_DEV_IDX.DEV_IDX 9 0x400 15]) (fun s => s.stopped = false ∧ s.hifOn = true ∧ s.fnUp 0x400 = true ∧ s.flag Reg.FN_DB_LO.EN 0x400 = true ∧ (s.fnr 0x400).d3hot = false ∧ s.pollDue 0x400 = true ∧ ((List.replicate 60 0 ++ [9, 0, 0, 0]) : List Nat).length = 64 ∧ (∀ b ∈ ((List.replicate 60 0 ++ [9, 0, 0, 0]) : List Nat), b < 256) ∧ 15 < 16 ∧ s.flag Reg.RING_CTRL.EN 0x400 15 = true ∧ s.rd Reg.RING_CTRL.TYPE 0x400 15 ≠ 0 ∧ (∀ q ∈ List.range 16, q ≠ 15 → s.flag Reg.RING_CTRL.EN 0x400 q = false) ∧ ((lineWords ((List.replicate 60 0 ++ [9, 0, 0, 0]) : List Nat)).getD 15 0 + 2 ^ 32 - s.rd Reg.RING_HOST_IDX.HOST_IDX 0x400 15) % 2 ^ 32 ≤ (s.rd Reg.RING_DEV_IDX.DEV_IDX 0x400 15 + 2 ^ 32 - s.rd Reg.RING_HOST_IDX.HOST_IDX 0x400 15) % 2 ^ 32) ∧
    meets (on [setR Reg.RING_CTRL.EN 1 0x400 0, setR Reg.RING_CTRL.LOG2 4 0x400 0, setR Reg.RING_CTRL.TYPE 0 0x400 0, setR Reg.RING_CTRL.CPL_RING 1 0x400 0, setR Reg.RING_CTRL.EN 1 0x400 1, setR Reg.RING_CTRL.LOG2 4 0x400 1, setR Reg.RING_CTRL.TYPE 1 0x400 1, setR Reg.RING_HOST_IDX.HOST_IDX 1 0x400 0]) (fun s => s.stopped = false ∧ s.takes 0x400 0 = true ∧ s.awaitsTurn 0x400 = false ∧ s.ringIs 0 0x400 0 = true ∧ s.descAvail 0x400 0 ≠ 0 ∧ s.ringIs 1 0x400 (s.rd Reg.RING_CTRL.CPL_RING 0x400 0) = true ∧ membersOf 16 (([nopDesc] : List (List Nat)).take (s.descAvail 0x400 0)) = some [(nopDesc : List Nat)] ∧ s.fenced 0x400 0 (wideBytes (nopDesc : List Nat)) = false ∧ 1 ≤ s.cplFree 0x400 (s.rd Reg.RING_CTRL.CPL_RING 0x400 0) ∧ byteAt (nopDesc : List Nat) 0 = 0 ∧ strayByte (nopDesc : List Nat) [] = none ∧ fetchBad s (readCtl 0x400 0 (s.rd Reg.RING_DEV_IDX.DEV_IDX 0x400 0 % 2 ^ 32) false (nopDesc : List Nat)) (nopDesc : List Nat) false false = none ∧ (readCtl 0x400 0 0 false (nopDesc : List Nat)).quiet = false ∧ s.doneBefore 0 (readCtl 0x400 0 0 false (nopDesc : List Nat)) = false) := by
  and_intros <;> decide +kernel

theorem witness_HostRings :
    meets (on [setR Reg.FN_DB_LO.EN 1 0x400, setR Reg.RING_CTRL.EN 1 0x400 15, setR Reg.RING_CTRL.LOG2 4 0x400 15, updRings (ringKey 0x400 15) fun x => { x with modCount := 1 }, setR Reg.RING_MOD.MOD_US 20 0x400 15]) (fun s => s.stopped = false ∧ s.flag Reg.RING_CTRL.EN 0x400 15 = true ∧ (s.ringr (ringKey 0x400 15)).modCount ≠ 0 ∧ s.rd Reg.RING_MOD.MOD_US 0x400 15 ≠ 0 ∧ (s.ringr (ringKey 0x400 15)).modSince + s.rd Reg.RING_MOD.MOD_US 0x400 15 ≤ s.time) ∧
    meets (on [setR Reg.FN_DB_LO.EN 1 0x400, setR Reg.RING_CTRL.EN 1 0x400 15, setR Reg.RING_CTRL.LOG2 4 0x400 15]) (fun s => s.stopped = false ∧ s.hifOn = true ∧ s.fnUp 0x400 = true ∧ s.flag Reg.FN_DB_LO.EN 0x400 = true ∧ (s.fnr 0x400).d3hot = false) ∧
    meets (on [setR Reg.FN_DB_LO.EN 1 0x400, setR Reg.RING_CTRL.EN 1 0x400 15, setR Reg.RING_CTRL.LOG2 4 0x400 15, setR Reg.RING_CTRL.TYPE 2 0x400 15, setR Reg.RING_CTRL.CLASS_MASK 0xFF 0x400 15]) (fun s => s.stopped = false ∧ s.time % 1000000 = 0 ∧ s.mode ≠ mHalt ∧ s.mode ≠ mService ∧ (allFns.filter fun f => s.flag Reg.FN_STATUS.LIVE f) = [0x400] ∧ s.evtRing 0x400 (evClass evTimeAnchor) = some 15 ∧ s.ringHeld 0x400 15 < s.ringSize 0x400 15 ∧ (s.fnr 0x400).d3hot = false ∧ s.rateEmpty 0x400 (evClass evTimeAnchor) = false) ∧
    meets (on [setR Reg.FN_DB_LO.EN 1 0x400, setR Reg.RING_CTRL.EN 1 0x400 15, setR Reg.RING_CTRL.LOG2 4 0x400 15]) (fun s => s.stopped = false ∧ s.hifOn = true ∧ s.flag Reg.RING_CTRL.EN 0x400 15 = true) ∧
    meets (on [setR Reg.FN_DB_LO.EN 1 0x400, setR Reg.RING_CTRL.EN 1 0x400 15, setR Reg.RING_CTRL.LOG2 4 0x400 15]) (fun s => s.stopped = false ∧ s.barOn = true ∧ s.blockOn (Reg.FN_DB_LO.ADDR_LO.addr 0 0 0) = true ∧ s.dbLoCause pfFn 1 = 0) ∧
    meets (on [setR Reg.FN_DB_LO.EN 1 1023, setR Reg.RING_CTRL.EN 1 1023 15, setR Reg.RING_CTRL.LOG2 4 1023 15, updHost fun x => { x with vfEnable := true }]) (fun s => s.stopped = false ∧ 1023 ≠ pfFn ∧ s.fnUp 1023 = true ∧ (s.fnr 1023).d3hot = false ∧ s.blockOn 0x8000 = true ∧ s.dbLoCause 1023 0 = 0) ∧
    meets base (fun s => s.stopped = false ∧ s.barOn = true ∧ s.blockOn (Reg.RING_CTRL.EN.addr 0 15 0) = true ∧ s.ringCtrlCause pfFn 15 0x84000000 = 0) ∧
    meets (on [setR Reg.FN_DB_LO.EN 1 1023, setR Reg.RING_CTRL.EN 1 1023 15, setR Reg.RING_CTRL.LOG2 4 1023 15, updHost fun x => { x with vfEnable := true }]) (fun s => s.stopped = false ∧ 1023 ≠ pfFn ∧ s.fnUp 1023 = true ∧ (s.fnr 1023).d3hot = false ∧ s.blockOn 0x8000 = true ∧ s.ringCtrlCause 1023 15 0x84000000 = 0) := by
  and_intros <;> decide +kernel

theorem witness_TenantTimers :
    meets (on [updFns 1023 fun x => { x with armed := true, judged := true }]) (fun s => s.stopped = false ∧ (s.fnr 1023).armed = true ∧ s.hifOn = true ∧ (s.fnr 1023).nextAt ≤ s.time ∧ (s.fnr 1023).judged = true) ∧
    meets (on [updFns 1023 fun x => { x with armed := true, judged := false }]) (fun s => s.stopped = false ∧ (s.fnr 1023).armed = true ∧ s.hifOn = true ∧ (s.fnr 1023).nextAt ≤ s.time ∧ (s.fnr 1023).judged = false) ∧
    meets (on [updFns 1023 fun x => { x with rateDrops := 1 }]) (fun s => s.stopped = false ∧ (s.fnr 1023).rateDrops ≠ 0 ∧ (s.fnr 1023).rateAt = none) ∧
    meets (on [updFns 1023 fun x => { x with rateDrops := 1, rateAt := some 5 }]) (fun s => s.stopped = false ∧ (s.fnr 1023).rateDrops ≠ 0 ∧ (s.fnr 1023).rateAt = some 5 ∧ 5 + 1000000 ≤ s.time) := by
  and_intros <;> decide +kernel

theorem witness_KeepWrites :
    meets (on [updKeep fun x => { x with queue := [(({ effect := .owner 63 none }) : KeepReq)] }]) (fun s => s.stopped = false ∧ s.keep.queue = (({ effect := .owner 63 none }) : KeepReq) :: ([] : List KeepReq) ∧ s.keep.hot = false ∧ s.keepFree = some 0) ∧
    meets (on [updKeep fun x => { x with queue := [(({ effect := .owner 63 none }) : KeepReq)] }]) (fun s => s.stopped = false ∧ s.keep.queue = (({ effect := .owner 63 none }) : KeepReq) :: ([] : List KeepReq) ∧ s.keep.hot = false ∧ s.keepFree = some 0) ∧
    meets (on [updKeep fun x => { x with queue := [(({ effect := .owner 63 none }) : KeepReq)] }, updKeep fun x => { x with hot := true }]) (fun s => s.stopped = false ∧ s.keep.queue = (({ effect := .owner 63 none }) : KeepReq) :: ([] : List KeepReq) ∧ s.keep.hot = true) := by
  and_intros <;> decide +kernel

theorem witness_SlotOpcodes :
    meets (on [seatIt 5 3, updSlots 5 fun x => { x with pendingOwner := some none }]) (fun s => s.accepts .slotClaim (c5 : Ctl) = true) ∧
    meets (on [seatIt 5 3]) (fun s => s.accepts .slotRelease (c5 : Ctl) = true ∧ s.slotBusy (c5 : Ctl).target = false) ∧
    meets (on [seatIt 5 3]) (fun s => s.accepts (.chargeStart ((⟨0, 0, 0, 0, 0, 0, 0, 0, 0, 3⟩) : Profile) 10000 10000400) (c5 : Ctl) = true ∧ ((⟨0, 0, 0, 0, 0, 0, 0, 0, 0, 3⟩) : Profile).prio < 4) ∧
    meets (on [seatIt 5 3, setR Reg.SLT_STATUS.STATE 4 5]) (fun s => s.accepts (.reserve 3 0 0) (c5 : Ctl) = true ∧ 3 < 4) ∧
    meets (on [seatIt 5 3, seatIt 6 4]) (fun s => s.accepts (.transfer ((⟨0, 0, 0, 0⟩) : TransferPar)) (({ c5 with target2 := 6 }) : Ctl) = true) ∧
    meets (on [seatIt 5 3]) (fun s => s.accepts (.audit ((⟨0, 0, 0, 0, 0, 0, 0, 0, 0, 3⟩) : Profile) ((⟨0, 0, 0, false⟩) : AuditPar)) (c5 : Ctl) = true) ∧
    meets (on [seatIt 5 4, setR Reg.PHC_STATUS.STAGE 3 10, setR Reg.PHC_STATUS.PARKED 0 10]) (fun s => s.accepts .chargeTerminate (c5 : Ctl) = true ∧ s.slSt (c5 : Ctl).target = slCharging ∧ (s.slot (c5 : Ctl).target).audStep = 0 ∧ (s.slot (c5 : Ctl).target).curPhase = 0 ∧ s.cvExpired (c5 : Ctl).target = false ∧ s.flag Reg.SLT_STATUS.RECEIVER (c5 : Ctl).target = false ∧ s.switching (s.slotLead (c5 : Ctl).target) = true) ∧
    meets (on [seatIt 5 4, setR Reg.SLT_STATUS.STATE 6 5, setR Reg.SLT_STATUS.ROLE 1 5]) (fun s => s.accepts .chargeTerminate (c5 : Ctl) = true ∧ s.slSt (c5 : Ctl).target = slDonor ∧ (s.slot (c5 : Ctl).target).audStep = 0) ∧
    meets (on [seatIt 5 4]) (fun s => s.accepts (.setLimits (({ mask := 1, icap := 5 }) : Limits)) (c5 : Ctl) = true ∧ hasBit (({ mask := 1, icap := 5 }) : Limits).mask 5 = false ∧ hasBit (({ mask := 1, icap := 5 }) : Limits).mask 6 = false) := by
  and_intros <;> decide +kernel

theorem witness_UnitOpcodes :
    meets (on [seatIt 5 3]) (fun s => s.accepts (.gaugeRestore (({ vCut := 3000, qFull := 30000 }) : RestorePar)) (c5 : Ctl) = true ∧ hasBit (({ vCut := 3000, qFull := 30000 }) : RestorePar).flags 2 = false) ∧
    meets (on [seatIt 5 3]) (fun s => s.accepts (.gaugeRestore (({ vCut := 3000, flags := 4 }) : RestorePar)) (c5 : Ctl) = true ∧ hasBit (({ vCut := 3000, flags := 4 }) : RestorePar).flags 2 = true ∧ s.rd Reg.GAU_STATUS.STATE (c5 : Ctl).target ≠ 2 ∧ (({ vCut := 3000, flags := 4 }) : RestorePar).vCut < 2 ^ 16) ∧
    meets (on [seatIt 5 3]) (fun s => s.accepts .gaugeSnapshot (c5 : Ctl) = true) ∧
    meets (on [seatIt 5 3]) (fun s => s.accepts (.measTableLoad 31 (([(0, 0)]) : List (Nat × Nat))) (c5 : Ctl) = true) ∧
    meets (on [seatIt 5 3]) (fun s => s.accepts (.measUrgent 0x52 3 4) (({ c0 with target := 19 }) : Ctl) = true ∧ 16 ≤ (({ c0 with target := 19 }) : Ctl).target) ∧
    meets (on [seatIt 5 3]) (fun s => s.accepts (.measUrgent 19 3 1) (({ c0 with target := 15 }) : Ctl) = true ∧ (({ c0 with target := 15 }) : Ctl).target < 16) ∧
    meets (on [seatIt 5 3, setR Reg.SLT_STATUS.STATE slOff 5]) (fun s => s.accepts (.calZero 3 0 false (0 : Int)) (c5 : Ctl) = true) ∧
    meets (on [seatIt 5 3, setR Reg.SLT_STATUS.STATE slOff 5]) (fun s => s.accepts (.calFull 0 2 true (((fsOf 2 / 2 : Nat)) : Int)) (c5 : Ctl) = true) ∧
    meets (on [seatIt 5 3]) (fun s => s.accepts (.twbXfer (({ proto := 0, addr := 0x77 }) : TwbPar)) (c5 : Ctl) = true) := by
  and_intros <;> decide +kernel

theorem witness_PortOpcodes :
    meets (on [setR Reg.PDP_STATUS.HELD 1 5, setR Reg.PDP_STATUS.HOLDER 0x400 5, setR Reg.PDP_STATUS.TC_STATE 3 5, setR Reg.PDP_STATUS.CONTRACT 1 5]) (fun s => s.accepts (.pdHold ({} : PdPolicy)) (c5 : Ctl) = true ∧ (c5 : Ctl).fn < 2048) ∧
    meets (on [setR Reg.PDP_STATUS.HELD 1 5, setR Reg.PDP_STATUS.HOLDER 0x400 5, setR Reg.PDP_STATUS.TC_STATE 3 5, setR Reg.PDP_STATUS.CONTRACT 1 5]) (fun s => s.accepts .pdRelease (c5 : Ctl) = true) ∧
    meets (on [setR Reg.PDP_STATUS.HELD 1 5, setR Reg.PDP_STATUS.HOLDER 0x400 5, setR Reg.PDP_STATUS.TC_STATE 3 5, setR Reg.PDP_STATUS.CONTRACT 1 5]) (fun s => s.accepts (.pdSet ({} : PdPolicy)) (c5 : Ctl) = true) ∧
    meets (on [setR Reg.PDP_STATUS.HELD 1 5, setR Reg.PDP_STATUS.HOLDER 0x400 5, setR Reg.PDP_STATUS.TC_STATE 3 5, setR Reg.PDP_STATUS.CONTRACT 1 5]) (fun s => s.accepts .pdSoftReset (c5 : Ctl) = true ∧ (s.port (c5 : Ctl).target).readyOwed = false ∧ (s.port (c5 : Ctl).target).awaits = 0) ∧
    meets (on [setR Reg.PDP_STATUS.HELD 1 5, setR Reg.PDP_STATUS.HOLDER 0x400 5, setR Reg.PDP_STATUS.TC_STATE 3 5, setR Reg.PDP_STATUS.CONTRACT 1 5, updPorts 5 fun x => { x with readyOwed := true }]) (fun s => s.accepts .pdSoftReset (c5 : Ctl) = true ∧ ((s.port (c5 : Ctl).target).readyOwed || (s.port (c5 : Ctl).target).awaits != 0) = true) ∧
    meets (on [setR Reg.PDP_STATUS.HELD 1 5, setR Reg.PDP_STATUS.HOLDER 0x400 5, setR Reg.PDP_STATUS.TC_STATE 3 5, setR Reg.PDP_STATUS.CONTRACT 1 5]) (fun s => s.accepts .pdHardReset (c5 : Ctl) = true ∧ (s.port (c5 : Ctl).target).readyOwed = false ∧ (s.port (c5 : Ctl).target).awaits = 0) ∧
    meets (on [setR Reg.PDP_STATUS.HELD 1 5, setR Reg.PDP_STATUS.HOLDER 0x400 5, setR Reg.PDP_STATUS.TC_STATE 3 5, setR Reg.PDP_STATUS.CONTRACT 1 5, updPorts 5 fun x => { x with readyOwed := true }]) (fun s => s.accepts .pdHardReset (c5 : Ctl) = true ∧ ((s.port (c5 : Ctl).target).readyOwed || (s.port (c5 : Ctl).target).awaits != 0) = true) ∧
    meets (on [setR Reg.PDP_STATUS.HELD 1 5, setR Reg.PDP_STATUS.HOLDER 0x400 5, setR Reg.PDP_STATUS.TC_STATE 3 5, setR Reg.PDP_STATUS.CONTRACT 1 5, setR Reg.PDP_POL_B.SVC_EN 1 5]) (fun s => s.accepts .pdEnterService (c5 : Ctl) = true ∧ (s.port (c5 : Ctl).target).readyOwed = false ∧ (s.port (c5 : Ctl).target).awaits = 0) ∧
    meets (on [setR Reg.PDP_STATUS.HELD 1 5, setR Reg.PDP_STATUS.HOLDER 0x400 5, setR Reg.PDP_STATUS.TC_STATE 3 5, setR Reg.PDP_STATUS.CONTRACT 1 5, setR Reg.PDP_POL_B.SVC_EN 1 5, updPorts 5 fun x => { x with awaits := 1 }]) (fun s => s.accepts .pdEnterService (c5 : Ctl) = true ∧ ((s.port (c5 : Ctl).target).readyOwed || (s.port (c5 : Ctl).target).awaits != 0) = true) ∧
    meets (on [setR Reg.PDP_STATUS.HELD 1 5, setR Reg.PDP_STATUS.HOLDER 0x400 5, setR Reg.PDP_STATUS.TC_STATE 3 5, setR Reg.PDP_STATUS.CONTRACT 1 5]) (fun s => s.accepts .pdExitService (c5 : Ctl) = true ∧ (s.port (c5 : Ctl).target).readyOwed = false ∧ (s.port (c5 : Ctl).target).awaits = 0) := by
  and_intros <;> decide +kernel

theorem witness_DeviceOpcodes :
    meets (on [updFns 0x400 fun x => { x with armed := true, judged := false, nextAt := 100000000001 }]) (fun s => s.accepts (.wdgAnswer (wdgToken [] 0x400 0) 0) (c0 : Ctl) = true ∧ (s.fnr (c0 : Ctl).fn).armed = true ∧ (s.fnr (c0 : Ctl).fn).judged = false ∧ s.time < (s.fnr (c0 : Ctl).fn).nextAt ∧ 0 = s.rd Reg.FN_WDG.QSEQ (c0 : Ctl).fn ∧ (s.fnr (c0 : Ctl).fn).askedAt + 10000 * (s.fnr (c0 : Ctl).fn).askPeriod * (s.fnr (c0 : Ctl).fn).askOpen / 16 ≤ s.time ∧ (wdgToken [] 0x400 0) = wdgToken (s.fnr (c0 : Ctl).fn).askKey (c0 : Ctl).fn (s.fnr (c0 : Ctl).fn).question) ∧
    meets base (fun s => s.accepts (.quotaSet (({ mask := 63 }) : QuotaPar)) (({ c0 with target := 1023 }) : Ctl) = true) ∧
    meets base (fun s => s.accepts (.keyWrite (({ kind := 0, kcv := (sha256 []).take 4 }) : KeyPar)) (({ c0 with target := 1023 }) : Ctl) = true) ∧
    meets base (fun s => s.accepts (.mcodeStage 64 4096 1) (c0 : Ctl) = true) ∧
    meets (on [setR Reg.ENG_UPG.STATE 2, setR Reg.GLB_HEALTH.SPARE_PAIRS 64]) (fun s => s.accepts (.mcodeRoll 0) (c0 : Ctl) = true) ∧
    meets (on [setR Reg.ENG_UPG.STATE 3]) (fun s => s.accepts .mcodeAbort (c0 : Ctl) = true ∧ s.keep.queue = [] ∧ s.rd Reg.ENG_UPG.STEP < 2 ∧ s.eng.reloaded = []) ∧
    meets (on [setR Reg.ENG_UPG.STATE 3, setR Reg.ENG_UPG.STEP 2, setR Reg.ENG_UPG.BED 15]) (fun s => s.accepts .mcodeAbort (c0 : Ctl) = true ∧ s.keep.queue = [] ∧ (∀ b ∈ s.eng.reloaded, s.rd Reg.ENG_UPG.BED ≠ b) ∧ 2 ≤ s.rd Reg.ENG_UPG.STEP ∧ hasBit (s.rd Reg.GLB_HEALTH.BED_LOST) (s.rd Reg.ENG_UPG.BED) = false) ∧
    meets (on [setR Reg.ENG_UPG.STATE 2]) (fun s => s.accepts .mcodeDiscard (c0 : Ctl) = true) ∧
    meets base (fun s => s.accepts .doSeal (c0 : Ctl) = true) := by
  and_intros <;> decide +kernel

theorem witness_RingOpcodes :
    meets (on [setR Reg.RING_CTRL.EN 1 0x400 0, setR Reg.RING_CTRL.LOG2 4 0x400 0, setR Reg.RING_CTRL.TYPE 1 0x400 0]) (fun s => s.accepts .nop (c0 : Ctl) = true ∧ (c0 : Ctl).quiet = false ∧ s.ringIs 1 (c0 : Ctl).fn (s.rd Reg.RING_CTRL.CPL_RING (c0 : Ctl).fn (c0 : Ctl).ring) = true) ∧
    meets (on [setR Reg.RING_CTRL.EN 1 0x400 0, setR Reg.RING_CTRL.LOG2 4 0x400 0, setR Reg.RING_CTRL.TYPE 1 0x400 0]) (fun s => s.accepts (.fence 1 0 0 0) (c0 : Ctl) = true) ∧
    meets (on [setR Reg.RING_CTRL.EN 1 0x400 0, setR Reg.RING_CTRL.LOG2 4 0x400 0, setR Reg.RING_CTRL.TYPE 1 0x400 0, updHost fun x => { x with fences := [⟨0, c0, 0, 0, 0, none⟩] }]) (fun s => s.stopped = false ∧ s.host.fences = ((⟨0, c0, 0, 0, 0, none⟩) : FenceRec) :: ([] : List FenceRec) ∧ ((⟨0, c0, 0, 0, 0, none⟩) : FenceRec) ∉ ([] : List FenceRec) ∧ s.fenceMet ((⟨0, c0, 0, 0, 0, none⟩) : FenceRec) = true) ∧
    meets (on [setR Reg.RING_CTRL.EN 1 0x400 0, setR Reg.RING_CTRL.LOG2 4 0x400 0, setR Reg.RING_CTRL.TYPE 1 0x400 0, updHost fun x => { x with fences := [⟨0, c0, 0, 0, 0, some 1⟩] }]) (fun s => s.stopped = false ∧ s.host.fences = ((⟨0, c0, 0, 0, 0, some 1⟩) : FenceRec) :: ([] : List FenceRec) ∧ ((⟨0, c0, 0, 0, 0, some 1⟩) : FenceRec) ∉ ([] : List FenceRec) ∧ ((⟨0, c0, 0, 0, 0, some 1⟩) : FenceRec).until? = some 1 ∧ 1 ≤ s.time) ∧
    meets (on [setR Reg.RING_CTRL.EN 1 0x400 0, setR Reg.RING_CTRL.LOG2 4 0x400 0, setR Reg.RING_CTRL.TYPE 1 0x400 0]) (fun s => s.stopped = false ∧ s.takes (c0 : Ctl).fn (c0 : Ctl).ring = true ∧ s.fenced (c0 : Ctl).fn (c0 : Ctl).ring false = false ∧ opKnown 0xFF = false ∧ (c0 : Ctl).quiet = false ∧ s.ringIs 1 (c0 : Ctl).fn (s.rd Reg.RING_CTRL.CPL_RING (c0 : Ctl).fn (c0 : Ctl).ring) = true) := by
  and_intros <;> decide +kernel

theorem witness_BusTransactions :
    meets (on [updTwb 63 fun x => { x with queue := [(({ what := 0, par := { proto := 1, addr := 8 } }) : TwbJob)] }]) (fun s => s.stopped = false ∧ (s.bus 63).run = none ∧ s.flag Reg.TWB_STATUS.BUSY 63 = false ∧ s.flag Reg.TWB_STATUS.BUS_DEAD 63 = false ∧ (s.bus 63).agent = [] ∧ (s.bus 63).queue = (({ what := 0, par := { proto := 1, addr := 8 } }) : TwbJob) :: ([] : List TwbJob) ∧ s.busServes 63 (({ what := 0, par := { proto := 1, addr := 8 } }) : TwbJob) = true ∧ (({ what := 0, par := { proto := 1, addr := 8 } }) : TwbJob).what = 0) ∧
    meets (on [updTwb 63 fun x => { x with run := some (({ what := 0, par := { proto := 1, addr := 8 } }) : TwbJob) }]) (fun s => s.stopped = false ∧ (s.bus 63).run = some (({ what := 0, par := { proto := 1, addr := 8 } }) : TwbJob) ∧ (s.bus 63).cancel = false ∧ (({ what := 0, par := { proto := 1, addr := 8 } }) : TwbJob).what = 0 ∧ twbStatus (({ what := 0, par := { proto := 1, addr := 8 } }) : TwbJob).par (({ acked := true }) : TwbEnd) = stOk ∧ (64 ≤ 63 ∨ s.rd Reg.ENG_TASK.STATE (agentTask 63) < 2)) ∧
    meets (on [setR Reg.ENG_TASK.STATE 2 (agentTask 63), updTwb 63 fun x => { x with run := some (({ what := 0, par := { proto := 1, addr := 8 } }) : TwbJob) }]) (fun s => s.stopped = false ∧ (s.bus 63).run = some (({ what := 0, par := { proto := 1, addr := 8 } }) : TwbJob) ∧ 63 < 64 ∧ 2 ≤ s.rd Reg.ENG_TASK.STATE (agentTask 63) ∧ (({ what := 0, par := { proto := 1, addr := 8 } }) : TwbJob).what ≠ 0x0C) ∧
    meets (on [setR Reg.SLT_STATUS.STATE 2 63, updSlots 63 fun x => { x with busRetryAt := some 1, method := 1 }]) (fun s => s.stopped = false ∧ (s.slot 63).busRetryAt = some 1 ∧ s.slSt 63 = slIdentifying ∧ (s.slot 63).method = 1 ∧ 1 ≤ s.time ∧ s.flag Reg.TWB_STATUS.BUS_DEAD 63 = false) ∧
    meets base (fun s => s.stopped = false ∧ s.rd Reg.TWB_CFG.TMO_SCL 63 < 256 ∧ (s.bus 63).run = none) ∧
    meets (on [updTwb 63 fun x => { x with run := some (({ what := 0, par := { proto := 1, addr := 8 } }) : TwbJob) }]) (fun s => s.stopped = false ∧ s.rd Reg.TWB_CFG.TMO_SCL 63 < 256 ∧ (s.bus 63).run = some (({ what := 0, par := { proto := 1, addr := 8 } }) : TwbJob) ∧ (({ what := 0, par := { proto := 1, addr := 8 } }) : TwbJob).what = 0) ∧
    meets base (fun s => s.stopped = false ∧ s.rd Reg.TWB_CFG.TMO_SDA 63 < 256 ∧ (s.bus 63).run = none ∧ s.rd Reg.TWB_STATUS.USER 63 ≠ 3 ∧ (s.bus 63).agent = [] ∧ (s.bus 63).queue = [] ∧ 9 ≤ 9) ∧
    meets base (fun s => s.stopped = false ∧ s.rd Reg.TWB_CFG.TMO_SDA 63 < 256 ∧ (s.bus 63).run = none ∧ s.rd Reg.TWB_STATUS.USER 63 ≠ 3) ∧
    meets (on [updTwb 63 fun x => { x with run := some (({ what := 0, par := { proto := 1, addr := 8 } }) : TwbJob) }]) (fun s => s.stopped = false ∧ (s.bus 63).run = some (({ what := 0, par := { proto := 1, addr := 8 } }) : TwbJob)) := by
  and_intros <;> decide +kernel

theorem witness_BusLines :
    meets (on [setR Reg.TWB_CFG.SLEEP_EN 1 65]) (fun s => s.stopped = false ∧ 64 ≤ 65 ∧ s.flag Reg.TWB_CFG.SLEEP_EN 65 = true ∧ s.flag Reg.TWB_STATUS.BUSY 65 = false ∧ (s.bus 65).run = none ∧ (s.bus 65).agent = [] ∧ (s.bus 65).queue = [] ∧ (s.bus 65).idleAt + 1000 ≤ s.time) ∧
    meets base (fun s => s.stopped = false ∧ 64 ≤ 65 ∧ s.flag Reg.TWB_TGT.ALERT_REQ (65 - 64) = false) ∧
    meets (on [setR Reg.TWB_CFG.ARA_AUTO 1 65, updTwb 65 fun x => { x with alertIn := true }]) (fun s => s.stopped = false ∧ 64 ≤ 65 ∧ (s.bus 65).alertIn = true ∧ s.flag Reg.TWB_CFG.ARA_AUTO 65 = true ∧ (s.bus 65).araAt + 100000 ≤ s.time ∧ (s.bus 65).agent = [] ∧ s.flag Reg.TWB_STATUS.BUS_DEAD 65 = false ∧ (s.bus 65).run = none) ∧
    meets base (fun s => s.stopped = false ∧ 64 ≤ 65 ∧ s.barOn = true ∧ s.blockOn (Reg.TWB_TGT.ALERT_REQ.addr (65 - 64) 0 0) = true) ∧
    meets base (fun s => s.stopped = false ∧ s.barOn = true ∧ s.blockOn (Reg.TWB_CTRL.CANCEL.addr 65 0 0) = true) ∧
    meets base (fun s => s.stopped = false ∧ s.barOn = true ∧ s.blockOn (Reg.TWB_CTRL.RECOVER.addr 65 0 0) = true) ∧
    meets base (fun s => s.stopped = false ∧ s.barOn = true ∧ s.blockOn (Reg.TWB_CTRL.RECOVER.addr 65 0 0) = true ∧ 9 ≤ 9) ∧
    meets (on [updTwb 65 fun x => { x with queue := [(({ what := 0, par := { proto := 1, addr := 8 }, deadline := some 5 }) : TwbJob)] }]) (fun s => s.stopped = false ∧ (s.bus 65).queue = [(({ what := 0, par := { proto := 1, addr := 8 }, deadline := some 5 }) : TwbJob)] ∧ (({ what := 0, par := { proto := 1, addr := 8 }, deadline := some 5 }) : TwbJob).deadline = some 5 ∧ 5 ≤ s.time) ∧
    meets base (fun s => s.stopped = false ∧ (s.bus 65).run = none) ∧
    meets base (fun s => s.stopped = false ∧ (s.bus 65).run = none) ∧
    meets (on [setR Reg.TWB_TGT.EN 1 1, setR Reg.TWB_TGT.ADDR 0x40 1]) (fun s => s.stopped = false ∧ 64 ≤ 65 ∧ 65 ≤ 65 ∧ (s.bus 65).run = none ∧ hasBit (s.rd Reg.PWR_DOM.ON) (65 - 42) = true ∧ (s.bus 65).asleep = false ∧ s.flag Reg.TWB_TGT.EN (65 - 64) = true ∧ (({ addr := 0x40, cmd := 1, data := List.replicate 32 1 }) : TwbTgt).addr = s.rd Reg.TWB_TGT.ADDR (65 - 64) ∧ (({ addr := 0x40, cmd := 1, data := List.replicate 32 1 }) : TwbTgt).cmd = 1 ∧ (({ addr := 0x40, cmd := 1, data := List.replicate 32 1 }) : TwbTgt).read = false ∧ s.flag Reg.TWB_TGT.RX_FULL (65 - 64) = false ∧ (({ addr := 0x40, cmd := 1, data := List.replicate 32 1 }) : TwbTgt).data ≠ [] ∧ (({ addr := 0x40, cmd := 1, data := List.replicate 32 1 }) : TwbTgt).data.length ≤ 32 ∧ (({ addr := 0x40, cmd := 1, data := List.replicate 32 1 }) : TwbTgt).pec = none) ∧
    meets (on [setR Reg.TWB_TGT.EN 1 1, setR Reg.TWB_TGT.ADDR 0x40 1, updTwb 65 fun x => { x with asleep := true }]) (fun s => s.stopped = false ∧ 64 ≤ 65 ∧ 65 ≤ 65 ∧ (s.bus 65).run = none ∧ hasBit (s.rd Reg.PWR_DOM.ON) (65 - 42) = true ∧ (s.bus 65).asleep = true ∧ s.flag Reg.TWB_TGT.EN (65 - 64) = true ∧ (({ addr := 0x40 }) : TwbTgt).addr = s.rd Reg.TWB_TGT.ADDR (65 - 64)) := by
  and_intros <;> decide +kernel

theorem witness_PortAttach :
    meets (on [setR Reg.PDP_STATUS.TC_STATE 3 7, setR Reg.PDP_STATUS.TC_STATE 1 7]) (fun s => s.stopped = false ∧ s.rd Reg.PDP_STATUS.TC_STATE 7 = 1 ∧ s.running = true ∧ 1 < 2) ∧
    meets (on [setR Reg.PDP_STATUS.TC_STATE 3 7, setR Reg.PDP_STATUS.TC_STATE 2 7]) (fun s => s.stopped = false ∧ s.rd Reg.PDP_STATUS.TC_STATE 7 = 2 ∧ (s.port 7).rdAt + 150000 ≤ s.time) ∧
    meets (on [setR Reg.PDP_STATUS.TC_STATE 3 7, updPorts 7 fun x => { x with vbusEn := true }]) (fun s => s.stopped = false ∧ s.attached 7 = true ∧ (s.port 7).hardStep = 0 ∧ (s.port 7).offer = [] ∧ (s.port 7).awaits = 0 ∧ (s.port 7).vbusEn = true ∧ 4750 ≤ 4750 ∧ 4750 ≤ 5500 ∧ s.flag Reg.PDP_STATUS.VCONN 7 = false ∧ (s.port 7).vconnSink = false) ∧
    meets (on [setR Reg.PDP_STATUS.TC_STATE 3 7, updPorts 7 fun x => { x with vbusEn := true }, setR Reg.PDP_STATUS.VCONN 1 7]) (fun s => s.stopped = false ∧ s.attached 7 = true ∧ (s.port 7).hardStep = 0 ∧ (s.port 7).offer = [] ∧ (s.port 7).awaits = 0 ∧ (s.port 7).vbusEn = true ∧ 4750 ≤ 5500 ∧ 5500 ≤ 5500 ∧ s.flag Reg.PDP_STATUS.VCONN 7 = true ∧ (s.port 7).unmarked = false ∧ s.flag Reg.PDP_CABLE.VALID 7 = false) ∧
    meets (on [setR Reg.PDP_STATUS.TC_STATE 3 7, updPorts 7 fun x => { x with vbusEn := true, vconnSink := true }]) (fun s => s.stopped = false ∧ s.attached 7 = true ∧ (s.port 7).hardStep = 0 ∧ (s.port 7).offer = [] ∧ (s.port 7).awaits = 0 ∧ (s.port 7).vbusEn = true ∧ 4750 ≤ 5500 ∧ 5500 ≤ 5500 ∧ s.flag Reg.PDP_STATUS.VCONN 7 = false ∧ (s.port 7).vconnSink = true ∧ (s.port 7).unmarked = false ∧ s.flag Reg.PDP_CABLE.VALID 7 = false) ∧
    meets (on [setR Reg.PDP_STATUS.TC_STATE 3 7, updPorts 7 fun x => { x with awaits := 4 }]) (fun s => s.stopped = false ∧ s.attached 7 = true ∧ s.rd Reg.ENG_TASK.STATE (policyTask 7) < 2 ∧ ((s.port 7).awaits = 1 ∨ (s.port 7).awaits = 4) ∧ 3 < 4 ∧ 255 < 256) ∧
    meets (on [setR Reg.PDP_STATUS.TC_STATE 3 7, updPorts 7 fun x => { x with offer := [(1, 5000, 3000)] }]) (fun s => s.stopped = false ∧ s.attached 7 = true ∧ s.rd Reg.ENG_TASK.STATE (policyTask 7) < 2 ∧ (s.port 7).hardStep = 0 ∧ (s.port 7).offer ≠ [] ∧ (s.port 7).awaits ≠ 3 ∧ (s.port 7).asked 1 5000 3000 = some (5000, 3000, 1)) ∧
    meets (on [setR Reg.PDP_STATUS.TC_STATE 3 7, updPorts 7 fun x => { x with awaits := 3 }, setR Reg.PDP_POL_A.PMAX 1000 7, setR Reg.PDP_POL_A.IMAX 3000 7]) (fun s => s.stopped = false ∧ s.attached 7 = true ∧ s.rd Reg.ENG_TASK.STATE (policyTask 7) < 2 ∧ (s.port 7).hardStep = 0 ∧ (s.port 7).awaits = 3 ∧ s.fixedOffer 7 ≠ [] ∧ { (s.port 7) with offer := s.fixedOffer 7, pps := s.ppsOffer 7 }.asked 1 5000 3000 = some (5000, 3000, 1)) ∧
    meets (on [setR Reg.PDP_STATUS.TC_STATE 3 7, updPorts 7 fun x => { x with readyOwed := true, planned := true, nextV := 5000, nextI := 3000, nextKind := 1 }, setR Reg.PHC_REF_V.REF_V 5000 (portLead 7)]) (fun s => s.stopped = false ∧ 1000 ≤ 1000 ∧ s.attached 7 = true ∧ (s.port 7).readyOwed = true ∧ (s.port 7).planned = true ∧ s.rd Reg.PHC_REF_V.REF_V (portLead 7) = (s.port 7).nextV ∧ ((s.port 7).nextKind = 1 ∨ (s.port 7).nextKind = 3) ∧ 20 * (max 4750 (s.port 7).nextV - min 4750 (s.port 7).nextV) ≤ (s.port 7).nextV ∧ (s.port 7).nextI < 8192 ∧ (∀ a ∈ (s.port 7).actions, a.1 ≠ 20)) ∧
    meets (on [setR Reg.PDP_STATUS.TC_STATE 3 7, setR Reg.PDP_POL_B.EPR_EN 1 7, setR Reg.PDP_POL_B.VMASK 8 7, setR Reg.PDP_STATUS.REV 2 7, setR Reg.PDP_STATUS.CONTRACT 1 7, setR Reg.PDP_CABLE.VALID 1 7, setR Reg.PDP_CABLE.CABLE_I 2 7, setR Reg.PDP_CABLE.EPR_CAP 1 7, setR Reg.PDP_CABLE.VMAX 50 7]) (fun s => s.stopped = false ∧ s.attached 7 = true ∧ s.rd Reg.ENG_TASK.STATE (policyTask 7) < 2 ∧ s.eprMay 7 = true ∧ s.rd Reg.PDP_STATUS.REV 7 = 2 ∧ s.rd Reg.PDP_STATUS.CONTRACT 7 = 1) ∧
    meets (on [setR Reg.PDP_STATUS.TC_STATE 3 7, setR Reg.PDP_POL_B.VSWAP 1 7]) (fun s => s.stopped = false ∧ s.attached 7 = true ∧ s.rd Reg.ENG_TASK.STATE (policyTask 7) < 2 ∧ s.flag Reg.PDP_POL_B.VSWAP 7 = true) ∧
    meets (on [setR Reg.PDP_STATUS.TC_STATE 3 7, setR Reg.PDP_POL_B.VSWAP 0 7]) (fun s => s.stopped = false ∧ s.attached 7 = true ∧ s.rd Reg.ENG_TASK.STATE (policyTask 7) < 2 ∧ s.flag Reg.PDP_POL_B.VSWAP 7 = false) := by
  and_intros <;> decide +kernel

theorem witness_PortResets :
    meets (on [setR Reg.PDP_STATUS.TC_STATE 3 7, updPorts 7 fun x => { x with epr := true }]) (fun s => s.stopped = false ∧ (s.port 7).epr = true ∧ s.attached 7 = true) ∧
    meets (on [setR Reg.PDP_STATUS.TC_STATE 3 7]) (fun s => s.stopped = false ∧ s.attached 7 = true) ∧
    meets (on [setR Reg.PDP_STATUS.TC_STATE 3 7, updPorts 7 fun x => { x with hardStep := 1 }]) (fun s => s.stopped = false ∧ (s.port 7).hardStep = 1 ∧ (s.port 7).hardAt + 30000 ≤ s.time) ∧
    meets (on [setR Reg.PDP_STATUS.TC_STATE 3 7, updPorts 7 fun x => { x with hardStep := 2 }]) (fun s => s.stopped = false ∧ (s.port 7).hardStep = 2 ∧ (s.port 7).hardAt + 30000 ≤ 30000 ∧ 30000 + 700000 ≤ s.time) ∧
    meets (on [setR Reg.PDP_STATUS.TC_STATE 3 7]) (fun s => s.stopped = false ∧ s.attached 7 = true ∧ s.rd Reg.ENG_TASK.STATE (policyTask 7) < 2 ∧ (s.port 7).hardStep = 0) ∧
    meets (on [setR Reg.PDP_STATUS.TC_STATE 3 7, updPorts 7 fun x => { x with awaits := 3 }]) (fun s => s.stopped = false ∧ (s.port 7).awaits = 3 ∧ s.attached 7 = true) ∧
    meets (on [setR Reg.PDP_STATUS.TC_STATE 3 7, updPorts 7 fun x => { x with awaits := 3 }]) (fun s => s.stopped = false ∧ (s.port 7).awaits = 3 ∧ s.attached 7 = true) := by
  and_intros <;> decide +kernel

theorem witness_PortGuards :
    meets (on [setR Reg.PDP_STATUS.TC_STATE 3 7, setR Reg.PDP_CONTRACT.V 5000 7, setR Reg.PDP_STATUS.CONTRACT 1 7, updPorts 7 fun x => { x with vbusEn := true, readyOwed := true, nextV := 9000 }]) (fun s => s.stopped = false ∧ s.attached 7 = true ∧ (s.port 7).vbusEn = true ∧ 9000 ≠ 0 ∧ s.rd Reg.PDP_STATUS.CONTRACT 7 ≠ 2 ∧ 9000 = (if (s.port 7).readyOwed then max (s.port 7).nextV (s.rd Reg.PDP_CONTRACT.V 7) else s.rd Reg.PDP_CONTRACT.V 7) ∧ 115 * 9000 < 100 * 10351) ∧
    meets (on [setR Reg.PDP_STATUS.TC_STATE 3 7, setR Reg.PDP_CONTRACT.V 5000 7, setR Reg.PDP_STATUS.CONTRACT 1 7, updPorts 7 fun x => { x with vbusEn := true }, setR Reg.PDP_STATUS.CONTRACT 2 7]) (fun s => s.stopped = false ∧ s.attached 7 = true ∧ (s.port 7).vbusEn = true ∧ 5000 ≠ 0 ∧ s.rd Reg.PDP_STATUS.CONTRACT 7 = 2 ∧ 5000 = (if (s.port 7).readyOwed then max (s.port 7).nextV (s.rd Reg.PDP_CONTRACT.V 7) else s.rd Reg.PDP_CONTRACT.V 7) ∧ 5000 + 1000 < 6001) ∧
    meets (on [setR Reg.PDP_STATUS.TC_STATE 3 7, setR Reg.PDP_CONTRACT.V 5000 7, setR Reg.PDP_STATUS.CONTRACT 1 7, updChans (portLead 7) fun x => { x with ccSince := some 1 }]) (fun s => s.stopped = false ∧ s.attached 7 = true ∧ (s.rd Reg.PDP_STATUS.CONTRACT 7 = 1 ∨ s.rd Reg.PDP_STATUS.CONTRACT 7 = 3) ∧ s.flag Reg.SRC_GUARD.ACTIVE = false ∧ (s.chan (portLead 7)).ccSince = some 1 ∧ 1 + 50000 ≤ s.time) ∧
    meets (on [setR Reg.PDP_STATUS.TC_STATE 3 7, setR Reg.PDP_CONTRACT.V 5000 7, setR Reg.PDP_STATUS.CONTRACT 1 7, setR Reg.PDP_STATUS.TC_STATE 4 7]) (fun s => s.stopped = false ∧ s.rd Reg.PDP_STATUS.TC_STATE 7 = 4 ∧ (s.port 7).recoverAt ≤ s.time ∧ s.rd Reg.PHC_CNT.RETRIES (portLead 7) ≤ s.rd Reg.PHC_START.RETRY_MAX (portLead 7)) ∧
    meets (on [setR Reg.PDP_STATUS.TC_STATE 3 7, setR Reg.PDP_CONTRACT.V 5000 7, setR Reg.PDP_STATUS.CONTRACT 1 7, setR Reg.PDP_STATUS.TC_STATE 4 7, setR Reg.PHC_CNT.RETRIES 15 (portLead 7)]) (fun s => s.stopped = false ∧ s.rd Reg.PDP_STATUS.TC_STATE 7 = 4 ∧ (s.port 7).recoverAt ≤ s.time ∧ s.rd Reg.PHC_START.RETRY_MAX (portLead 7) < s.rd Reg.PHC_CNT.RETRIES (portLead 7)) ∧
    meets (on [setR Reg.PDP_STATUS.TC_STATE 3 7, setR Reg.PDP_CONTRACT.V 5000 7, setR Reg.PDP_STATUS.CONTRACT 1 7, setR Reg.PDP_STATUS.TC_STATE 5 7]) (fun s => s.stopped = false ∧ s.barOn = true ∧ s.blockOn (Reg.PDP_CTRL.CLEAR.addr 7 0 0) = true ∧ s.rd Reg.PDP_STATUS.TC_STATE 7 = 5) := by
  and_intros <;> decide +kernel

theorem witness_PortMessages :
    meets (on [setR Reg.PDP_STATUS.TC_STATE 3 7, setR Reg.PDP_STATUS.CONTRACT 1 7, setR Reg.PDP_STATUS.VCONN 1 7]) (fun s => s.stopped = false ∧ 400 < 401 ∧ 1000 ≤ 1000 ∧ s.flag Reg.PDP_STATUS.VCONN 7 = true) ∧
    meets (on [setR Reg.PDP_STATUS.TC_STATE 3 7, setR Reg.PDP_STATUS.CONTRACT 1 7]) (fun s => s.stopped = false ∧ s.attached 7 = true ∧ s.rd Reg.ENG_TASK.STATE (policyTask 7) < 2) ∧
    meets (on [setR Reg.PDP_STATUS.TC_STATE 3 7, setR Reg.PDP_STATUS.CONTRACT 1 7]) (fun s => s.stopped = false ∧ s.attached 7 = true ∧ s.rd Reg.ENG_TASK.STATE (policyTask 7) < 2) ∧
    meets (on [setR Reg.PDP_STATUS.TC_STATE 3 7, setR Reg.PDP_STATUS.CONTRACT 1 7]) (fun s => s.stopped = false ∧ s.attached 7 = true ∧ 19 < 20) ∧
    meets (on [setR Reg.PDP_STATUS.TC_STATE 3 7, setR Reg.PDP_STATUS.CONTRACT 1 7]) (fun s => s.stopped = false ∧ s.attached 7 = true ∧ 20 ≤ 20) ∧
    meets (on [setR Reg.PDP_STATUS.TC_STATE 3 7, setR Reg.PDP_STATUS.CONTRACT 1 7, setR Reg.ENG_TASK.STATE 2 (policyTask 7)]) (fun s => s.stopped = false ∧ s.attached 7 = true ∧ 2 ≤ s.rd Reg.ENG_TASK.STATE (policyTask 7)) ∧
    meets (on [setR Reg.PDP_STATUS.TC_STATE 3 7, setR Reg.PDP_STATUS.CONTRACT 1 7, updPorts 7 fun x => { x with svcStep := 3 }]) (fun s => s.stopped = false ∧ (3 = 1 ∨ 3 = 2 ∨ 3 = 3) ∧ (s.port 7).svcStep = 3 ∧ s.explicit 7 = true ∧ s.rd Reg.ENG_TASK.STATE (policyTask 7) < 2) ∧
    meets (on [setR Reg.PDP_STATUS.TC_STATE 3 7, setR Reg.PDP_STATUS.CONTRACT 1 7, updPorts 7 fun x => { x with svcStep := 4 }, setR Reg.PDP_STATUS.HELD 1 7, setR Reg.PDP_STATUS.HOLDER 0x400 7]) (fun s => s.stopped = false ∧ (s.port 7).svcStep = 4 ∧ s.explicit 7 = true ∧ s.rd Reg.ENG_TASK.STATE (policyTask 7) < 2 ∧ s.flag Reg.PDP_STATUS.SVC (svcTwin 7) = false ∧ s.flag Reg.PDP_STATUS.HELD 7 = true ∧ s.flag Reg.FN_STATUS.HELD (s.rd Reg.PDP_STATUS.HOLDER 7) = false) ∧
    meets (on [setR Reg.PDP_STATUS.TC_STATE 3 7, setR Reg.PDP_STATUS.CONTRACT 1 7]) (fun s => s.stopped = false ∧ s.rd Reg.PDP_STATUS.TC_STATE 7 = 3) := by
  and_intros <;> decide +kernel

theorem witness_EngineTasks :
    meets base (fun s => s.stopped = false ∧ 415 < 416 ∧ s.runsOn 415 = some (homePair 415) ∧ s.time % taskPeriod 415 = 0 ∧ 100 ≤ 400 * taskPeriod 415 ∧ (s.task 415).waits = none ∧ hasBit (s.rd Reg.PWR_DOM.ON) ((homePair 415) / 32 + 1) = true ∧ s.roundRuns 415 (homePair 415) = true ∧ (splitArrive (fun _ => true) (([.store 5 6, .effect 3 4 5]) : List TineAct)).2 = none) ∧
    meets (on [updTasks 415 fun x => { x with sent := 1 }]) (fun s => s.stopped = false ∧ 415 < 416 ∧ s.runsOn 415 = some (homePair 415) ∧ s.time % taskPeriod 415 = 0 ∧ 100 ≤ 400 * taskPeriod 415 ∧ (s.task 415).waits = none ∧ hasBit (s.rd Reg.PWR_DOM.ON) ((homePair 415) / 32 + 1) = true ∧ s.roundRuns 415 (homePair 415) = true ∧ (s.task 415).queue = []) ∧
    meets (on [updTasks 415 fun x => { x with ckptSeq := 5 }]) (fun s => s.stopped = false ∧ 415 < 416 ∧ s.runsOn 415 = some (homePair 415) ∧ s.planned 415 = false ∧ (true = true → s.time % taskPeriod 415 = 0)) ∧
    meets base (fun s => s.stopped = false ∧ s.taskOn (homePair 3) = some 3 ∧ s.runsOn 3 = some (homePair 3)) ∧
    meets (on [updPairs 511 fun x => { x with st := 3 }]) (fun s => s.stopped = false ∧ (s.pair 511).st = 3 ∧ (s.pair 511).quarAt + 20000 ≤ s.time ∧ (s.pair 511).strikes = []) ∧
    meets (on [updPairs 511 fun x => { x with st := 3 }]) (fun s => s.stopped = false ∧ (s.pair 511).st = 3 ∧ (s.pair 511).quarAt + 20000 ≤ s.time) ∧
    meets (on [setR Reg.ENG_TASK.STATE 2 414]) (fun s => s.stopped = false ∧ 414 < 416 ∧ s.rd Reg.ENG_TASK.STATE 414 = 2 ∧ (s.task 414).readyAt ≤ s.time ∧ s.time % taskPeriod 414 = 0 ∧ (s.planned 414 = true → s.moversTurn 414 = true) ∧ (s.task 414).owed = none ∧ taskSlot 414 = none ∧ (8 ≤ 414 / 26 ∨ 414 % 26 ≠ 25)) ∧
    meets base (fun s => s.stopped = false ∧ 15 < 16 ∧ hasBit (s.rd Reg.GLB_HEALTH.BED_LOST) 15 = false ∧ s.rd Reg.GLB_HEALTH.BED_LOST < 2 ^ 16) ∧
    meets (on [updEng fun x => { x with active := { barriers := List.replicate 16 (5, [415]) } }, updTasks 415 fun x => { x with waits := some (15, 5) }]) (fun s => s.stopped = false ∧ 15 < 16 ∧ s.barrierMembers 15 = [415] ∧ (s.task 415).waits = some (15, 5) ∧ (splitArrive (fun _ => true) (s.task 415).rest).2 = none) ∧
    meets (on [updTasks 415 fun x => { x with waits := some (15, 5) }]) (fun s => s.stopped = false ∧ 415 < 416 ∧ (s.task 415).waits = some (15, 5) ∧ 5 + s.barrierTimeout 415 15 ≤ s.time ∧ s.runsOn 415 = some (homePair 415) ∧ s.planned 415 = false) ∧
    meets (on [setR Reg.SVC_STATUS.DBG_RUN 1, updPairs 511 fun x => { x with bps := [5] }]) (fun s => s.stopped = false ∧ s.flag Reg.SVC_STATUS.DBG_RUN = true ∧ 5 ∈ (s.pair 511).bps ∧ (s.pair 511).halted = false) := by
  and_intros <;> decide +kernel

theorem witness_EngineRollout :
    meets (on [setR Reg.ENG_UPG.STATE 3, updEng fun x => { x with stage := some ((c0 : Ctl), 4096, 5) }]) (fun s => s.stopped = false ∧ s.eng.stage = some ((c0 : Ctl), 4096, (({ gen := 5, hi := 9 }) : Image).gen) ∧ (({ gen := 5, hi := 9 }) : Image).len = 4096 ∧ 0 ≠ 7 ∧ 0 ≠ 8 ∧ (({ gen := 5, hi := 9 }) : Image).err = 0 ∧ (({ gen := 5, hi := 9 }) : Image).gen < 65536 ∧ 0 < ((({ gen := 5, hi := 9 }) : Image).gen + 65536 - s.rd Reg.ENG_GEN.ACTIVE) % 65536 ∧ ((({ gen := 5, hi := 9 }) : Image).gen + 65536 - s.rd Reg.ENG_GEN.ACTIVE) % 65536 < 32768 ∧ (({ gen := 5, hi := 9 }) : Image).lo ≤ s.rd Reg.ENG_SCHEMA.ACT_HI) ∧
    meets (on [setR Reg.ENG_UPG.STATE 3, updEng fun x => { x with stage := some ((c0 : Ctl), 4096, 5) }]) (fun s => s.stopped = false ∧ s.eng.stage = some ((c0 : Ctl), 4096, 5) ∧ (8 = 7 ∨ 8 = 8)) ∧
    meets (on [setR Reg.ENG_UPG.STATE 3, setR Reg.ENG_UPG.BED 15, setR Reg.ENG_UPG.STEP 3]) (fun s => s.stopped = false ∧ s.rd Reg.ENG_UPG.STATE = 3 ∧ s.rd Reg.ENG_UPG.BED = 15 ∧ 15 < 16 ∧ s.rd Reg.ENG_UPG.STEP = 3 ∧ s.rd Reg.ENG_UPG.BEDS_NEW < 2 ^ 16) ∧
    meets (on [setR Reg.ENG_UPG.STATE 3, setR Reg.ENG_UPG.BED 15, setR Reg.ENG_UPG.STEP 4]) (fun s => s.stopped = false ∧ s.rd Reg.ENG_UPG.STATE = 3 ∧ s.rd Reg.ENG_UPG.BED = 15 ∧ 15 < 16 ∧ s.rd Reg.ENG_UPG.STEP = 4 ∧ (∀ p ∈ ([3] : List Nat), p / 32 ≠ 15)) ∧
    meets (on [setR Reg.ENG_UPG.STATE 3, setR Reg.ENG_UPG.BED 15, setR Reg.ENG_UPG.STEP 7, setR Reg.GLB_HEALTH.SPARE_PAIRS 96]) (fun s => s.stopped = false ∧ s.rd Reg.ENG_UPG.STATE = 3 ∧ s.rd Reg.ENG_UPG.STEP = 7 ∧ s.eng.dwellAt + 1000000 * s.eng.dwell ≤ s.time ∧ rollNext (s.rd Reg.ENG_UPG.BED) = some 14 ∧ 64 ≤ s.rd Reg.GLB_HEALTH.SPARE_PAIRS) ∧
    meets (on [setR Reg.ENG_UPG.STATE 3, setR Reg.ENG_UPG.BED 0, setR Reg.ENG_UPG.STEP 7]) (fun s => s.stopped = false ∧ s.rd Reg.ENG_UPG.STATE = 3 ∧ s.rd Reg.ENG_UPG.STEP = 7 ∧ s.eng.dwellAt + 1000000 * s.eng.dwell ≤ s.time ∧ rollNext (s.rd Reg.ENG_UPG.BED) = none) ∧
    meets (on [setR Reg.ENG_UPG.STATE 3]) (fun s => s.stopped = false) ∧
    meets (on [setR Reg.ENG_UPG.STATE 3]) (fun s => s.stopped = false ∧ s.barOn = true ∧ s.blockOn (Reg.ENG_PAIR_SEL.PAIR.addr 0 0 0) = true ∧ Reg.ENG_PAIR_SEL.PAIR.rangeCause 511 = 0) := by
  and_intros <;> decide +kernel

theorem witness_HouseRail :
    meets (on [setR Reg.SRC_HB_STATUS.ABSENT 0, updHouse fun x => { x with railStep := 6 }, setR Reg.SRC_HB_STATUS.STATE 2]) (fun s => s.stopped = false ∧ s.house.railStep = 6 ∧ s.flag Reg.SRC_HB_STATUS.ABSENT = false ∧ s.rd Reg.SRC_HB_STATUS.STATE = 2 ∧ hbCv s.hbChem ≤ 16400 ∧ 16400 < 2 ^ 16) ∧
    meets (on [setR Reg.SRC_HB_STATUS.ABSENT 0, updHouse fun x => { x with railStep := 4 }]) (fun s => s.stopped = false ∧ s.house.railStep = 4 ∧ s.flag Reg.SRC_HB_STATUS.ABSENT = false ∧ max 5000 5000 - min 5000 5000 ≤ 200 ∧ 5000 < hbDead s.hbChem ∧ s.rd Reg.SRC_HB_STATUS.STATE < 6) ∧
    meets (on [setR Reg.SRC_HB_STATUS.ABSENT 0]) (fun s => s.stopped = false ∧ hasBit (s.rd Reg.PWR_DOM.ON) 19 = true ∧ s.flag Reg.SRC_HB_STATUS.ABSENT = false ∧ s.flag Reg.TWB_STATUS.BUS_DEAD 64 = false) ∧
    meets (on [setR Reg.SRC_HB_STATUS.ABSENT 0, updHouse fun x => { x with railStep := 3 }, setR Reg.SRC_HB_STATUS.STATE 2]) (fun s => s.stopped = false ∧ 3 ≤ s.house.railStep ∧ s.flag Reg.SRC_HB_STATUS.ABSENT = false ∧ s.hbTempOk = false ∧ s.rd Reg.SRC_HB_STATUS.STATE < 6) ∧
    meets (on [setR Reg.SRC_HB_STATUS.ABSENT 0, updHouse fun x => { x with railStep := 3, chargeAt := 0 }, setR Reg.SRC_HB_STATUS.STATE 2]) (fun s => s.stopped = false ∧ 3 ≤ s.house.railStep ∧ s.flag Reg.SRC_HB_STATUS.ABSENT = false ∧ s.rd Reg.SRC_HB_STATUS.STATE ≠ 7 ∧ s.hbFaulty 0 = true) ∧
    meets (on [setR Reg.SRC_HB_STATUS.ABSENT 0, setR Reg.SRC_ACC_CTRL.RUNNING 1]) (fun s => s.stopped = false ∧ s.flag Reg.SRC_ACC_CTRL.RUNNING = true ∧ s.flag Reg.SRC_ACC_CTRL.UVLO = false ∧ s.flag Reg.SRC_HB_STATUS.ABSENT = false ∧ s.hbMv < hbCut s.hbChem) ∧
    meets (on [setR Reg.SRC_HB_STATUS.ABSENT 0, setR Reg.SRC_ACC_CTRL.UVLO 1, setR Reg.SRC_HB_MEAS.VOLT 14400]) (fun s => s.stopped = false ∧ s.flag Reg.SRC_ACC_CTRL.UVLO = true ∧ hbCut s.hbChem + 800 < s.hbMv) := by
  and_intros <;> decide +kernel

theorem witness_BusSources :
    meets base (fun s => s.stopped = false ∧ 3 < 4 ∧ s.modeReg ≠ mShip ∧ s.gridOn = true ∧ s.flag Reg.SRC_PORT_STATUS.PRESENT 3 = false) ∧
    meets (on [setR Reg.SRC_PORT_STATUS.PRESENT 1 3]) (fun s => s.stopped = false ∧ 3 < 4 ∧ s.modeReg ≠ mShip ∧ s.gridOn = true ∧ s.lossHolds 3 1 = true) ∧
    meets (on [setR Reg.SRC_PORT_STATUS.PRESENT 1 3, updSrcs 3 fun x => { x with qualAt := some 1, vGood := true }]) (fun s => s.stopped = false ∧ 3 < 4 ∧ (s.src 3).qualAt = some 1 ∧ s.gridOn = true ∧ s.flag Reg.SRC_PORT_STATUS.PRESENT 3 = true ∧ (s.src 3).vGood = true ∧ 1 + 1000000 * s.rd Reg.SRC_PORT_CFG.QUAL_T 3 ≤ s.time) ∧
    meets base (fun s => s.stopped = false ∧ 3 < 4 ∧ s.barOn = true ∧ s.blockOn (Reg.SRC_PORT_LIMIT.OVERRIDE.addr 3 0 0) = true ∧ Reg.SRC_PORT_LIMIT.OVERRIDE.rangeCause 0 = 0) ∧
    meets base (fun s => s.stopped = false ∧ 3 < 4 ∧ s.barOn = true ∧ s.blockOn (Reg.SRC_PORT_CFG.MODE.addr 3 0 0) = true ∧ Reg.SRC_PORT_CFG.MODE.rangeCause 0 = 0 ∧ 0 ≠ s.rd Reg.SRC_PORT_CFG.MODE 3) ∧
    meets (on [updGrid fun x => { x with demandLow := some 1, demand := [3] }, setR Reg.SRC_PORT_CFG.MODE 2 3, setR Reg.SRC_PORT_STATUS.ENABLED 1 3]) (fun s => s.stopped = false ∧ 3 < 4 ∧ s.grid.demandLow = some 1 ∧ s.grid.demand = 3 :: ([] : List Nat) ∧ 1 + 60000000 ≤ s.time) := by
  and_intros <;> decide +kernel

theorem witness_BusGuard :
    meets base (fun s => s.stopped = false ∧ s.gridOn = true ∧ validBus (({ busA := some 800000, busB := none, srcs := [] }) : BusSample) ≠ []) ∧
    meets base (fun s => s.stopped = false ∧ s.gridOn = true ∧ 64 ≤ 64 ∧ 1 < 2) ∧
    meets base (fun s => s.stopped = false ∧ s.gridOn = true ∧ 64 ≤ 64 ∧ 2 ≤ 9 ∧ 9 < 10) ∧
    meets (on [updGrid fun x => { x with misSince := some 5 }]) (fun s => s.stopped = false ∧ s.grid.misSince = some 5 ∧ 5 + 1000 ≤ s.time ∧ s.flag Reg.SRC_BUS.MISMATCH = false) ∧
    meets (on [setR Reg.SRC_PORT_STATUS.ENABLED 1 3, updSrcs 3 fun x => { x with tripRun := 2 }, setR Reg.SRC_GUARD.SCALE 1024]) (fun s => s.stopped = false ∧ ([3] : List Nat) = (s.srcsOn.filter fun k => decide (2 ≤ (s.src k).tripRun)) ∧ (∃ k ∈ ([3] : List Nat), k ∉ s.grid.tripped) ∧ s.scaleFor ([3] : List Nat) < 2048) ∧
    meets (on [updGrid fun x => { x with ovRun := 2 }, setR Reg.PHC_STATUS.DIR 1 126, setR Reg.PHC_STATUS.STAGE 3 126]) (fun s => s.stopped = false ∧ 2 ≤ s.grid.ovRun ∧ 126 ∈ s.feeding) ∧
    meets (on [updGrid fun x => { x with uvRun := 2 }]) (fun s => s.stopped = false ∧ 2 ≤ s.grid.uvRun) ∧
    meets (on [updGrid fun x => { x with below2 := [63] }, updSlots 63 fun x => { x with disc := true }, setR Reg.SLT_STATUS.STATE 4 63]) (fun s => s.stopped = false ∧ s.grid.below2.contains 63 = true ∧ (s.slot 63).disc = true ∧ s.oddGanged 63 = false ∧ s.slSt 63 ∉ [slEmpty, slOff, slGanged, slFaulted]) ∧
    meets (on [updGrid fun x => { x with restartSince := some 1, uvHold := true }]) (fun s => s.stopped = false ∧ s.grid.restartSince = some 1 ∧ s.grid.uvHold = true ∧ 1 + 100000 ≤ s.time) := by
  and_intros <;> decide +kernel

theorem witness_IslandDonors :
    meets (on [setR Reg.PWR_MODE.MODE 5, setR Reg.SLT_STATUS.ROLE 3 63, setR Reg.SLT_STATUS.STATE 6 63, setR Reg.PHC_STATUS.STAGE 3 126, setR Reg.PHC_STATUS.PARKED 0 126, setR Reg.SRC_BUS.BUS_V 48000, setR Reg.SRC_ISLAND.V_SET 48]) (fun s => s.stopped = false ∧ s.mode = mIsland ∧ s.grid.ready = false ∧ (∃ sl ∈ s.islandDonors, s.switching (s.slotLead sl) = true) ∧ 50 * (max (1000 * s.rd Reg.SRC_ISLAND.V_SET) s.busMv - min (1000 * s.rd Reg.SRC_ISLAND.V_SET) s.busMv) ≤ 1000 * s.rd Reg.SRC_ISLAND.V_SET) ∧
    meets (on [setR Reg.PWR_MODE.MODE 5, setR Reg.SLT_STATUS.ROLE 3 63, setR Reg.SLT_STATUS.STATE 6 63, setR Reg.SRC_ISLAND.FLOOR 20, setR Reg.GAU_SOC.SOC 2200 63, seatIt 5 3, updSlots 5 fun x => { x with donorGrant := true }, setR Reg.SLT_STATUS.ZONE 2 5, setR Reg.GAU_SOC.SOC 5000 5]) (fun s => s.stopped = false ∧ s.mode = mIsland ∧ 63 ∈ s.islandDonors ∧ s.rd Reg.GAU_SOC.SOC 63 ≤ 100 * s.rd Reg.SRC_ISLAND.FLOOR + 200 ∧ 100 * s.rd Reg.SRC_ISLAND.FLOOR < s.rd Reg.GAU_SOC.SOC 63 ∧ 63 ∉ s.grid.handed ∧ s.donorRank.head? = some 5) ∧
    meets (on [setR Reg.PWR_MODE.MODE 5, updSrcs 3 fun x => { x with qualAt := some 1, vGood := true }, setR Reg.SRC_PORT_STATUS.PRESENT 1 3, setR Reg.SRC_PORT_CFG.MODE 1 3]) (fun s => s.stopped = false ∧ s.mode = mIsland ∧ 3 < 4 ∧ (s.src 3).qualAt = some 1 ∧ s.gridOn = true ∧ s.flag Reg.SRC_PORT_STATUS.PRESENT 3 = true ∧ (s.src 3).vGood = true ∧ 1 + 1000000 * s.rd Reg.SRC_PORT_CFG.QUAL_T 3 ≤ s.time ∧ s.flag Reg.SRC_PORT_STATUS.ENABLED 3 = false ∧ s.rd Reg.SRC_PORT_CFG.MODE 3 ≠ 0 ∧ s.grid.returning = none ∧ (∀ j < 4, j ≠ 3 → s.waitsReturn j = false)) ∧
    meets (on [setR Reg.PWR_MODE.MODE 5, updSrcs 3 fun x => { x with qualified := true }, setR Reg.SRC_PORT_CFG.MODE 1 3]) (fun s => s.stopped = false ∧ s.mode = mIsland ∧ 3 < 4 ∧ s.waitsReturn 3 = true ∧ s.islandDonors = []) ∧
    meets (on [setR Reg.PWR_MODE.MODE 5, updSrcs 3 fun x => { x with qualified := true }, setR Reg.SRC_PORT_CFG.MODE 2 3, updGrid fun x => { x with returning := some (3, 5, 340) }]) (fun s => s.stopped = false ∧ s.mode = mIsland ∧ 3 < 4 ∧ s.waitsReturn 3 = true ∧ s.grid.returning = some (3, 5, 340) ∧ 5 + 100000 ≤ s.time) := by
  and_intros <;> decide +kernel

theorem witness_ModeRequests :
    meets (on [setR Reg.SRC_HB_STATUS.ABSENT 0]) (fun s => s.barOn = true ∧ s.outranked 8 = false ∧ s.modeReg ≠ mService ∧ s.rd Reg.PWR_MODE.SEQ = 0 ∧ s.running = true ∧ s.shipBar = 0) ∧
    meets (on [setR Reg.SRC_HB_STATUS.ABSENT 0, setR Reg.SRC_PORT_STATUS.PRESENT 1 3]) (fun s => s.barOn = true ∧ s.outranked 8 = false ∧ s.modeReg ≠ mService ∧ s.rd Reg.PWR_MODE.SEQ = 0 ∧ s.running = true ∧ s.shipBar ≠ 0) ∧
    meets (on [setR Reg.SRC_HB_STATUS.ABSENT 0]) (fun s => s.barOn = true ∧ s.outranked 8 = false ∧ s.modeReg ≠ mService ∧ s.rd Reg.PWR_MODE.SEQ = 0 ∧ s.running = true) ∧
    meets (on [setR Reg.SRC_HB_STATUS.ABSENT 0, setR Reg.PWR_MODE.SEQ 2, setR Reg.PWR_MODE.STEP 5]) (fun s => s.barOn = true ∧ s.outranked 8 = false ∧ s.modeReg ≠ mService ∧ s.rd Reg.PWR_MODE.SEQ = 2 ∧ s.rd Reg.PWR_MODE.STEP < 6 ∧ s.flag Reg.PWR_TEMP.SHUT = false) ∧
    meets (on [setR Reg.SRC_HB_STATUS.ABSENT 0, setR Reg.PWR_CFG.BTN_SHIP 1]) (fun s => s.flag Reg.SVC_STATUS.FROZEN = false ∧ s.modeReg ≠ mShip ∧ s.modeReg ≠ mService ∧ s.outranked 9 = false ∧ 5000 ≤ 5000 ∧ s.flag Reg.PWR_CFG.BTN_SHIP = true ∧ s.rd Reg.PWR_MODE.SEQ = 0 ∧ s.running = true ∧ s.shipBar = 0) ∧
    meets (on [setR Reg.SRC_HB_STATUS.ABSENT 0, setR Reg.PWR_MODE.SEQ 2, setR Reg.PWR_MODE.STEP 5]) (fun s => 100 ≤ 4999 ∧ 4999 < 5000 ∧ s.flag Reg.SVC_STATUS.FROZEN = false ∧ s.modeReg ≠ mShip ∧ s.modeReg ≠ mService ∧ s.outranked 9 = false ∧ s.rd Reg.PWR_MODE.SEQ = 2 ∧ s.rd Reg.PWR_MODE.STEP < 6 ∧ s.flag Reg.PWR_TEMP.SHUT = false) ∧
    meets (onAt ({ base with pending := [.thermalShutdown] }) [setR Reg.SRC_HB_STATUS.ABSENT 0]) (fun s => s.barOn = true ∧ s.outranked 8 = true) ∧
    meets (onAt ({ base with pending := [.thermalShutdown] }) [setR Reg.SRC_HB_STATUS.ABSENT 0]) (fun s => s.barOn = true ∧ s.outranked 8 = true) ∧
    meets (onAt ({ base with pending := [.thermalShutdown] }) [setR Reg.SRC_HB_STATUS.ABSENT 0]) (fun s => s.barOn = true ∧ s.outranked 8 = true) ∧
    meets (on [setR Reg.SRC_HB_STATUS.ABSENT 0, setR Reg.PWR_MODE.MODE 5, updHouse fun x => { x with lowSince := some 1 }]) (fun s => s.stopped = false ∧ s.modeReg = mIsland ∧ s.rd Reg.PWR_MODE.SEQ = 0 ∧ s.islandDonors = [] ∧ heldFor s.house.lowSince 10000000 s.time = true) := by
  and_intros <;> decide +kernel

theorem witness_ModeThermal :
    meets base (fun s => s.stopped = false ∧ s.barOn = true) ∧
    meets base (fun s => s.stopped = false ∧ (([-2048, 2047]) : List Int) ≠ [] ∧ (([-2048, 2047]) : List Int).length ≤ 20 ∧ (∀ x ∈ (([-2048, 2047]) : List Int), -2048 ≤ x ∧ x < 2048)) ∧
    meets (on [updPower fun x => { x with hotSince := some 1 }]) (fun s => s.stopped = false ∧ heldFor s.power.hotSince 1000000 s.time = true ∧ s.flag Reg.PWR_TEMP.CURT_THERM = false) ∧
    meets (on [updPower fun x => { x with coolSince := some 1 }, setR Reg.PWR_TEMP.CURT_THERM 1]) (fun s => s.stopped = false ∧ heldFor s.power.coolSince 10000000 s.time = true ∧ s.flag Reg.PWR_TEMP.CURT_THERM = true) ∧
    meets (on [updPower fun x => { x with shutSince := some 1 }]) (fun s => s.stopped = false ∧ heldFor s.power.shutSince 1000 s.time = true ∧ s.flag Reg.PWR_TEMP.SHUT = false ∧ s.running = true ∧ s.modeReg ≠ mService ∧ (s.keep.queue = [] ∨ heldFor s.power.shutSince 1100 s.time = true)) ∧
    meets (on [updPower fun x => { x with coolSince := some 1 }, setR Reg.PWR_TEMP.SHUT 1]) (fun s => s.stopped = false ∧ heldFor s.power.coolSince 60000000 s.time = true ∧ s.flag Reg.PWR_TEMP.SHUT = true) ∧
    meets (on [setR Reg.PWR_MODE.MODE 1, updTime fun _ => 100000937500]) (fun s => s.stopped = false ∧ 15 < 16 ∧ s.mode = mSentinel ∧ hasBit (s.rd Reg.GLB_HEALTH.BED_LOST) 15 = false ∧ s.time % 1000000 = 62500 * 15) ∧
    meets (on [setR Reg.PWR_MODE.MODE 1, updEng fun x => { x with wakes := [15] }]) (fun s => s.stopped = false ∧ 15 < 16 ∧ s.mode = mSentinel ∧ hasBit (s.rd Reg.GLB_HEALTH.BED_LOST) 15 = false ∧ 15 ∈ s.eng.wakes) := by
  and_intros <;> decide +kernel

theorem witness_DeviceResets :
    meets base (fun s => 7999 < 8000 ∧ 20 ≤ 20 ∧ s.modeReg ≠ mShip) ∧
    meets base (fun s => 1 ≤ 1 ∧ s.modeReg ≠ mShip) ∧
    meets base (fun s => s.barOn = true ∧ ({} : StartEnv).durs.getD 1 0 ≤ 40000) ∧
    meets (on [setR Reg.PWR_MODE.MODE 0]) (fun s => s.modeReg = mShip ∧ 1 ≤ 3 ∧ 3 ≤ 3 ∧ (3 = 1 → hbDead s.hbChem ≤ 0)) := by
  and_intros <;> decide +kernel

theorem witness_StartBegins :
    meets (on [setR Reg.PWR_MODE.MODE 2, setR Reg.PWR_MODE.SEQ 1, setR Reg.PWR_MODE.STEP 1, setR Reg.GLB_RESET_CAUSE.BROWNOUT 1]) (fun s => s.modeReg = mStart ∧ s.power.env = none ∧ s.rd Reg.PWR_MODE.SEQ = 1 ∧ s.power.shipPending = false ∧ 9000 < 9001 ∧ 10000 ≤ 10000 ∧ s.flag Reg.GLB_RESET_CAUSE.BROWNOUT = true ∧ s.rd Reg.PWR_MODE.STEP = 1 ∧ ({} : StartEnv).durs.getD 0 0 ≤ 4000) ∧
    meets (on [setR Reg.PWR_MODE.MODE 2, setR Reg.PWR_MODE.SEQ 1, setR Reg.PWR_MODE.STEP 1]) (fun s => s.modeReg = mStart ∧ s.power.env = none ∧ s.rd Reg.PWR_MODE.SEQ = 1 ∧ s.power.shipPending = false ∧ 776 ≤ 776 ∧ 776 ≤ 824 ∧ 873 ≤ 927 ∧ 927 ≤ 927 ∧ 1710 ≤ 1710 ∧ 1710 ≤ 1890 ∧ 1710 ≤ 1890 ∧ 1890 ≤ 1890 ∧ s.flag Reg.GLB_RESET_CAUSE.BROWNOUT = false ∧ s.rd Reg.PWR_MODE.STEP = 1 ∧ ({} : StartEnv).durs.getD 0 0 ≤ 4000) ∧
    meets (on [setR Reg.PWR_MODE.MODE 2, setR Reg.PWR_MODE.SEQ 1, setR Reg.PWR_MODE.STEP 1, setR Reg.PWR_MODE.STEP 2]) (fun s => s.modeReg = mStart ∧ s.power.env = none ∧ s.rd Reg.PWR_MODE.SEQ = 1 ∧ s.power.shipPending = false ∧ s.rd Reg.PWR_MODE.STEP = 2 ∧ ({} : StartEnv).durs.getD 1 0 ≤ 40000) ∧
    meets (on [setR Reg.PWR_MODE.MODE 2, setR Reg.PWR_MODE.SEQ 1, setR Reg.PWR_MODE.STEP 1, setR Reg.PWR_MODE.STEP 2]) (fun s => s.modeReg = mStart ∧ s.power.env = none ∧ s.rd Reg.PWR_MODE.SEQ = 1 ∧ s.power.shipPending = false ∧ 2 ≤ s.rd Reg.PWR_MODE.STEP ∧ 2 * startBound (s.rd Reg.PWR_MODE.STEP - 1) < 100000000) := by
  and_intros <;> decide +kernel

theorem witness_HaltCauses :
    meets base (fun s => s.stopped = false ∧ s.modeReg ≠ mHalt ∧ s.modeReg ≠ mShip) ∧
    meets base (fun s => s.stopped = false ∧ s.modeReg ≠ mHalt ∧ s.modeReg ≠ mShip ∧ 5000 ≤ 5000 ∧ hasBit (s.rd Reg.PWR_DOM.ON) 19 = true) ∧
    meets (on [setR Reg.WDG_STATUS.LPO_FAIL 1]) (fun s => s.stopped = false ∧ s.modeReg ≠ mHalt ∧ s.modeReg ≠ mShip ∧ 20 ≤ 20 ∧ hasBit (s.rd Reg.PWR_DOM.ON) 19 = true ∧ s.flag Reg.WDG_STATUS.LPO_FAIL = true) ∧
    meets base (fun s => s.stopped = false ∧ s.modeReg ≠ mHalt ∧ s.modeReg ≠ mShip ∧ 20 ≤ 20 ∧ hasBit (s.rd Reg.PWR_DOM.ON) 20 = true) ∧
    meets base (fun s => s.stopped = false ∧ s.modeReg ≠ mHalt ∧ s.modeReg ≠ mShip ∧ s.barOn = true) ∧
    meets (on [setR Reg.SAF_SSP.EN 1, setR Reg.SAF_SSP.HALT_ALLOW 1]) (fun s => s.stopped = false ∧ s.modeReg ≠ mHalt ∧ s.modeReg ≠ mShip ∧ s.flag Reg.SAF_SSP.EN = true ∧ s.sundialOn = true ∧ s.flag Reg.SAF_SSP.HALT_ALLOW = true) ∧
    meets (on [setR Reg.CLK_ISL_BACKUP.BACKUP 1 1]) (fun s => s.stopped = false ∧ s.modeReg ≠ mHalt ∧ s.modeReg ≠ mShip ∧ 10 ≤ 10 ∧ hasBit (s.rd Reg.CLK_ISL_BACKUP.BACKUP 1) 0 = true ∧ hasBit (s.rd Reg.CLK_ISL_DEAD.DEAD 1) 0 = false ∧ s.isleGone 32 = false) ∧
    meets (on [updClk fun x => { x with isleOut := [52] }]) (fun s => s.stopped = false ∧ s.modeReg ≠ mHalt ∧ s.modeReg ≠ mShip ∧ 200 ≤ 200 ∧ s.isleGone 52 = true ∧ s.isleGone 53 = false) := by
  and_intros <;> decide +kernel

theorem witness_SundialWork :
    meets base (fun s => s.stopped = false ∧ 63 < 64 ∧ s.sundialOn = true ∧ (s.slot 63).fgErrAt = none ∧ s.rd Reg.SAF_LATENT.FAIL < 2 ^ 13) ∧
    meets (on [updSlots 63 fun x => { x with fgErrAt := some 99999000001 }, setR Reg.SLT_STATUS.STATE 4 63]) (fun s => s.stopped = false ∧ 63 < 64 ∧ s.sundialOn = true ∧ (s.slot 63).fgErrAt = some 99999000001 ∧ s.time < 99999000001 + 1000000 ∧ s.oddGanged 63 = false ∧ s.slSt 63 ∉ [slEmpty, slOff, slGanged]) ∧
    meets base (fun s => s.stopped = false ∧ s.running = true ∧ s.sun.stopAt = none ∧ s.rd Reg.WDG_STATUS.STATE ≠ 3 ∧ s.sun.posed = false) ∧
    meets (on [updSun fun x => { x with posed := true, judged := false, nextAt := 100000000001 }]) (fun s => s.stopped = false ∧ s.running = true ∧ s.sun.stopAt = none ∧ s.rd Reg.WDG_STATUS.STATE ≠ 3 ∧ s.sun.posed = true ∧ s.sun.judged = false ∧ s.time < s.sun.nextAt ∧ s.sun.askedAt + 1000 * s.sun.askPeriod * s.sun.askOpen / 16 ≤ s.time) ∧
    meets (on [setR Reg.PWR_MODE.MODE 7, updPower fun x => { x with autoWarm := true }, setR Reg.SAF_HALT.CAUSE 8]) (fun s => s.stopped = false ∧ s.modeReg = mHalt ∧ s.power.autoWarm = true ∧ (s.rd Reg.SAF_HALT.CAUSE = 3 ∨ s.rd Reg.SAF_HALT.CAUSE = 7 ∨ s.rd Reg.SAF_HALT.CAUSE = 8) ∧ s.power.haltAt + 1000000 * s.power.restartS ≤ s.time ∧ s.power.autoWarms = [] ∧ ({} : StartEnv).durs.getD 1 0 ≤ 40000) ∧
    meets base (fun s => s.stopped = false ∧ 20 ≤ 20 ∧ hasBit (s.rd Reg.PWR_DOM.ON) 19 = true ∧ s.flag Reg.WDG_STATUS.LPO_FAIL = false ∧ s.rd Reg.WDG_STATUS.CLK_USE = 0) ∧
    meets (on [setR Reg.WDG_STATUS.CLK_USE 1]) (fun s => s.stopped = false ∧ 20 ≤ 20 ∧ hasBit (s.rd Reg.PWR_DOM.ON) 19 = true ∧ s.flag Reg.WDG_STATUS.XTAL_FAIL = false ∧ s.rd Reg.WDG_STATUS.CLK_USE = 1) ∧
    meets base (fun s => s.stopped = false ∧ s.sundialOn = true ∧ 2 < 12) ∧
    meets base (fun s => s.stopped = false ∧ (11 = 7 ∨ 11 = 10 ∨ 11 = 11) ∧ s.sundialOn = true ∧ s.rd Reg.SAF_LATENT.FAIL < 2 ^ 13) ∧
    meets base (fun s => s.stopped = false ∧ s.barOn = true) ∧
    meets (on [updPower fun x => { x with recovered := true }, setR Reg.RING_CTRL.EN 1 0x400 15, setR Reg.RING_CTRL.TYPE 2 0x400 15, setR Reg.RING_CTRL.CLASS_MASK 0xFF 0x400 15, setR Reg.RING_CTRL.LOG2 4 0x400 15]) (fun s => s.stopped = false ∧ s.power.recovered = true ∧ s.hifOn = true ∧ (s.evtRing pfFn 4).isSome = true) ∧
    meets (on [setR Reg.SLT_STATUS.STATE 3 63]) (fun s => s.stopped = false ∧ s.modeReg ≠ mShip ∧ 63 < 64 ∧ s.sundialOn = true ∧ 1 ≤ 2 ∧ 4 ∈ comparatorsOf 1 ∧ 20 ≤ 20 ∧ s.inTest 63 = false ∧ 20 * s.rd Reg.SAF_FG_A.OV_TH 63 ≥ s.rd Reg.PHC_MEAS_V.MEAS_V (s.slotLead 63) ∧ ofField 18 (s.rd Reg.PHC_MEAS_I.MEAS_I (s.slotLead 63)) ≤ (100 * s.rd Reg.SAF_FG_A.OC_TH 63 : Nat)) ∧
    meets (on [setR Reg.SLT_STATUS.STATE 3 63, updSlots 63 fun x => { x with masked := some (3, 100000000001) }]) (fun s => s.stopped = false ∧ s.modeReg ≠ mShip ∧ 63 < 64 ∧ s.sundialOn = true ∧ 0 ≤ 2 ∧ s.inTest 63 = true) ∧
    meets (on [setR Reg.SLT_STATUS.STATE 3 63, setR Reg.SAF_FG_A.OV_TH 100 63, setR Reg.PHC_MEAS_V.MEAS_V 60000 126]) (fun s => s.stopped = false ∧ s.modeReg ≠ mShip ∧ 63 < 64 ∧ s.sundialOn = true ∧ 1 ≤ 1 ∧ 1 ≤ 20 ∧ s.inTest 63 = false ∧ s.oddGanged 63 = false ∧ s.seated 63 = true ∧ 20 * s.rd Reg.SAF_FG_A.OV_TH 63 < s.rd Reg.PHC_MEAS_V.MEAS_V (s.slotLead 63)) ∧
    meets (on [setR Reg.SLT_STATUS.STATE 3 63, setR Reg.PHC_MEAS_I.MEAS_I 60000 126]) (fun s => s.stopped = false ∧ s.modeReg ≠ mShip ∧ 63 < 64 ∧ s.sundialOn = true ∧ 1 ≤ 1 ∧ 1 ≤ 20 ∧ s.inTest 63 = false ∧ s.oddGanged 63 = false ∧ s.seated 63 = true ∧ (100 * s.rd Reg.SAF_FG_A.OC_TH 63 : Nat) < ofField 18 (s.rd Reg.PHC_MEAS_I.MEAS_I (s.slotLead 63))) ∧
    meets (on [setR Reg.SLT_STATUS.STATE 3 63, updSlots 63 fun x => { x with masked := some (0, 100000000001) }]) (fun s => s.stopped = false ∧ s.modeReg ≠ mShip ∧ 63 < 64 ∧ s.fgMasked 63 0 = true) ∧
    meets (on [setR Reg.SLT_STATUS.STATE 3 63, updSlots 63 fun x => { x with masked := some (1, 100000000001) }]) (fun s => s.stopped = false ∧ s.modeReg ≠ mShip ∧ 63 < 64 ∧ s.fgMasked 63 1 = true) ∧
    meets (on [setR Reg.SLT_STATUS.STATE 3 63, updSlots 63 fun x => { x with masked := some (2, 100000000001) }]) (fun s => s.stopped = false ∧ s.modeReg ≠ mShip ∧ 63 < 64 ∧ s.fgMasked 63 2 = true) := by
  and_intros <;> decide +kernel

theorem witness_SafetySidePort :
    meets (on [setR Reg.SAF_SSP.EN 1]) (fun s => s.flag Reg.SAF_SSP.EN = true ∧ s.sundialOn = true) ∧
    meets (on [setR Reg.SAF_SSP.EN 1]) (fun s => s.flag Reg.SAF_SSP.EN = true ∧ s.sundialOn = true ∧ 5 ≤ 5) ∧
    meets (on [setR Reg.SAF_SSP.EN 1]) (fun s => s.flag Reg.SAF_SSP.EN = true ∧ s.sundialOn = true ∧ 65535 < 65536) ∧
    meets (on [setR Reg.SAF_SSP.EN 1]) (fun s => s.flag Reg.SAF_SSP.EN = true ∧ s.sundialOn = true ∧ (65535 ≠ 0xA5C3 ∨ s.flag Reg.SAF_SSP.HALT_ALLOW = false)) ∧
    meets (on [setR Reg.SAF_SSP.EN 1]) (fun s => s.flag Reg.SAF_SSP.EN = true ∧ s.sundialOn = true) ∧
    meets (on [setR Reg.SAF_SSP.EN 1]) (fun s => s.flag Reg.SAF_SSP.EN = true ∧ s.sundialOn = true ∧ s.sun.validAt + 1000 * s.rd Reg.SAF_SSP.TMO ≤ s.time) := by
  and_intros <;> decide +kernel

theorem witness_ClocksAndLanes :
    meets (on [setR Reg.CLK_STATUS.XTAL_OK 1]) (fun s => s.stopped = false ∧ 20 ≤ 20 ∧ s.flag Reg.CLK_STATUS.XTAL_OK = true ∧ s.flag Reg.WDG_STATUS.LPO_FAIL = false) ∧
    meets (on [setR Reg.CLK_STATUS.XTAL_OK 1, setR Reg.CLK_STATUS.PLL_REF 1]) (fun s => s.stopped = false ∧ s.rd Reg.CLK_STATUS.PLL_REF = 1 ∧ (4 ≤ 4 ∨ s.syncUsable 0 = false) ∧ s.flag Reg.CLK_STATUS.XTAL_OK = true) ∧
    meets (on [setR Reg.CLK_STATUS.XTAL_OK 1, setR Reg.CLK_CFG.PLL_REF 0]) (fun s => s.stopped = false ∧ 100 ≤ 100 ∧ 0 ≤ 1 ∧ hasBit (s.rd Reg.PWR_DOM.ON) 20 = true ∧ (0 = 1 → s.syncUsable 0 = true) ∧ s.rd Reg.CLK_CFG.PLL_REF = 0) ∧
    meets (on [setR Reg.CLK_STATUS.XTAL_OK 1]) (fun s => s.stopped = false ∧ 87 < 88 ∧ 10 ≤ 10 ∧ hasBit (s.rd Reg.CLK_ISL_DEAD.DEAD (87 / 32)) (87 % 32) = false ∧ hasBit (s.rd Reg.CLK_ISL_BACKUP.BACKUP (87 / 32)) (87 % 32) = false ∧ s.rd Reg.CLK_ISL_BACKUP.BACKUP (87 / 32) < 2 ^ 32) ∧
    meets (on [setR Reg.CLK_STATUS.XTAL_OK 1]) (fun s => s.stopped = false) ∧
    meets (on [setR Reg.CLK_STATUS.XTAL_OK 1]) (fun s => s.stopped = false ∧ (if false then 3 < 64 else 3 < 4 ∧ 1 < 2) ∧ (s.lane (laneKey false 3 1)).down = false ∧ flitOk 7 1 = true ∧ (s.lane (laneKey false 3 1)).resent.head? ≠ some 7) ∧
    meets (on [setR Reg.CLK_STATUS.XTAL_OK 1, updLanes (laneKey true 63 0) fun x => { x with resent := [7, 8] }]) (fun s => s.stopped = false ∧ (if true then 63 < 64 else 63 < 4 ∧ 0 < 2) ∧ (s.lane (laneKey true 63 0)).down = false ∧ flitOk 7 1 = true ∧ (s.lane (laneKey true 63 0)).resent.head? = some 7) ∧
    meets (on [setR Reg.CLK_STATUS.XTAL_OK 1]) (fun s => s.stopped = false ∧ (if false then 3 < 64 else 3 < 4 ∧ 1 < 2) ∧ (s.lane (laneKey false 3 1)).down = false ∧ flitOk 7 0 = false ∧ (s.lane (laneKey false 3 1)).fails < 2) ∧
    meets (on [setR Reg.CLK_STATUS.XTAL_OK 1, updLanes (laneKey false 3 1) fun x => { x with fails := 2 }]) (fun s => s.stopped = false ∧ 3 < 4 ∧ 1 < 2 ∧ (s.lane (laneKey false 3 1)).down = false ∧ flitOk 6 1 = false ∧ 2 ≤ (s.lane (laneKey false 3 1)).fails ∧ (s.lane (laneKey false 3 1)).spared = false) ∧
    meets (on [setR Reg.CLK_STATUS.XTAL_OK 1]) (fun s => s.stopped = false ∧ 3 < 4 ∧ 1 < 2 ∧ 200 ≤ 200 ∧ (s.lane (laneKey false 3 1)).spared = false ∧ hasBit (s.rd Reg.GLB_HEALTH.LANE_SPARED) 3 = false ∧ s.rd Reg.GLB_HEALTH.LANE_SPARED < 16) ∧
    meets (on [setR Reg.CLK_STATUS.XTAL_OK 1]) (fun s => s.stopped = false ∧ 7 < 8 ∧ 10 ≤ 10 ∧ hasBit (s.rd Reg.GLB_HEALTH_FE.FEED_LOST) 7 = false ∧ s.frontOn = true ∧ s.rd Reg.GLB_HEALTH_FE.FEED_LOST < 256) ∧
    meets (on [setR Reg.CLK_STATUS.XTAL_OK 1, setR Reg.GLB_HEALTH_FE.FEED_LOST 128]) (fun s => s.stopped = false ∧ 7 < 8 ∧ 10000 ≤ 10000 ∧ hasBit (s.rd Reg.GLB_HEALTH_FE.FEED_LOST) 7 = true ∧ s.frontOn = true ∧ s.rd Reg.GLB_HEALTH_FE.FEED_LOST < 256) := by
  and_intros <;> decide +kernel

theorem witness_FreezeSequence :
    meets base (fun s => s.servicePort = true ∧ 1 ≤ 1 ∧ s.flag Reg.SVC_STATUS.FROZEN = false ∧ s.flag Reg.SVC_STATUS.LOCKED = false ∧ s.mayFreeze = true ∧ s.outranked 5 = false) ∧
    meets ({ base with pending := [.thermalShutdown] }) (fun s => s.servicePort = true ∧ 1 ≤ 1 ∧ s.outranked 5 = true) ∧
    meets base (fun s => s.servicePort = true ∧ s.flag Reg.SVC_STATUS.FROZEN = false ∧ s.flag Reg.SVC_STATUS.LOCKED = false ∧ s.mayFreeze = true ∧ s.outranked 5 = false) ∧
    meets (on [setR Reg.SVC_STATUS.FROZEN 1]) (fun s => s.servicePort = true ∧ 1 ≤ 1 ∧ s.flag Reg.SVC_STATUS.FROZEN = true ∧ s.flag Reg.SVC_STATUS.SNAP_BUSY = false ∧ s.svc.latched = []) ∧
    meets (on [setR Reg.SVC_STATUS.FROZEN 1]) (fun s => s.servicePort = true ∧ s.frozenOpen = true ∧ s.flag Reg.SVC_STATUS.SNAP_BUSY = false ∧ s.svc.latched = []) ∧
    meets (on [setR Reg.SVC_STATUS.FROZEN 1]) (fun s => s.servicePort = true ∧ s.frozenOpen = true ∧ s.flag Reg.SVC_STATUS.SNAP_BUSY = false ∧ s.svc.latched = []) ∧
    meets (on [setR Reg.SVC_STATUS.FROZEN 1]) (fun s => s.servicePort = true ∧ s.frozenOpen = true ∧ s.flag Reg.SVC_STATUS.SNAP_BUSY = false ∧ snapSections 0x800 ≠ []) ∧
    meets (on [setR Reg.SVC_STATUS.SNAP_BUSY 1]) (fun s => s.servicePort = true ∧ s.flag Reg.SVC_STATUS.SNAP_BUSY = true ∧ s.svc.snapEnd ≤ s.time ∧ s.svc.releaseOwed = none) := by
  and_intros <;> decide +kernel

theorem witness_TapInstructions :
    meets base (fun s => s.servicePort = true) ∧
    meets base (fun s => s.servicePort = true) ∧
    meets base (fun s => s.servicePort = true ∧ s.unlocked = true) ∧
    meets (on [setR Reg.SVC_STATUS.FROZEN 1]) (fun s => s.servicePort = true ∧ s.frozenOpen = true) ∧
    meets base (fun s => s.servicePort = true ∧ s.unlocked = true) ∧
    meets (on [setR Reg.GLB_SEAL.SEALED 1]) (fun s => s.barOn = true ∧ s.flag Reg.GLB_SEAL.SEALED = true ∧ s.modeReg ≠ mService ∧ s.svc.lockAt = none) ∧
    meets (on [setR Reg.GLB_SEAL.SEALED 1, updSvc fun x => { x with lockAt := some 99999999000 }]) (fun s => s.barOn = true ∧ s.flag Reg.GLB_SEAL.SEALED = true ∧ s.modeReg ≠ mService ∧ s.svc.lockAt = some 99999999000 ∧ s.time ≤ 99999999000 + 1000) ∧
    meets base (fun s => s.barOn = true ∧ 65535 < 65536 ∧ 65535 ≠ 0x4C4B ∧ 65535 ≠ 0x5345) ∧
    meets (on [updSvc fun x => { x with blowing := true }]) (fun s => s.stopped = false ∧ s.svc.blowing = true ∧ s.modeReg ≠ mService) := by
  and_intros <;> decide +kernel

theorem witness_TineDebug :
    meets (on [setR Reg.SVC_STATUS.FROZEN 1, setR Reg.PWR_MODE.MODE 6]) (fun s => s.servicePort = true ∧ s.dbgOk 511 = true ∧ 32 ≤ 32) ∧
    meets (on [setR Reg.SVC_STATUS.FROZEN 1, setR Reg.PWR_MODE.MODE 6]) (fun s => s.servicePort = true ∧ s.dbgOk 511 = true ∧ 32 ≤ 32) ∧
    meets (on [setR Reg.SVC_STATUS.FROZEN 1, setR Reg.PWR_MODE.MODE 6]) (fun s => s.servicePort = true ∧ s.dbgOk 511 = true ∧ s.taskOn 511 = none) ∧
    meets (on [setR Reg.SVC_STATUS.FROZEN 1, setR Reg.PWR_MODE.MODE 6, updTasks 3 fun x => { x with mem := [(5, 9)] }]) (fun s => s.servicePort = true ∧ s.dbgOk (homePair 3) = true ∧ s.taskOn (homePair 3) = some 3 ∧ (s.task 3).mem.find? (·.1 == 5 % 2 ^ 19) = some (5 % 2 ^ 19, 9)) ∧
    meets (on [setR Reg.SVC_STATUS.FROZEN 1, setR Reg.PWR_MODE.MODE 6]) (fun s => s.servicePort = true ∧ s.dbgOk 511 = true ∧ s.taskOn 511 = none) ∧
    meets (on [setR Reg.SVC_STATUS.FROZEN 1, setR Reg.PWR_MODE.MODE 6]) (fun s => s.servicePort = true ∧ s.dbgOk (homePair 3) = true ∧ s.taskOn (homePair 3) = some 3) ∧
    meets (on [setR Reg.SVC_STATUS.FROZEN 1, setR Reg.PWR_MODE.MODE 6]) (fun s => s.servicePort = true ∧ s.dbgOk 511 = true) ∧
    meets (on [setR Reg.SVC_STATUS.FROZEN 1, setR Reg.PWR_MODE.MODE 6]) (fun s => s.servicePort = true ∧ s.dbgOk 511 = true ∧ 1 ≤ 65535 ∧ 65535 ≤ 65535) ∧
    meets (on [setR Reg.SVC_STATUS.FROZEN 1, setR Reg.PWR_MODE.MODE 6]) (fun s => s.servicePort = true ∧ s.dbgOk 511 = true ∧ (s.pair 511).bps.contains (5 % 2 ^ 19) = false ∧ (s.pair 511).bps.length < 4) ∧
    meets (on [setR Reg.SVC_STATUS.FROZEN 1, setR Reg.PWR_MODE.MODE 6]) (fun s => s.servicePort = true ∧ s.dbgOk 511 = true) ∧
    meets (on [setR Reg.SVC_STATUS.FROZEN 1, setR Reg.PWR_MODE.MODE 6, setR Reg.SVC_STATUS.DBG_RUN 1, updPairs 511 fun x => { x with halted := true }]) (fun s => s.servicePort = true ∧ s.dbgOk 511 = true ∧ s.flag Reg.SVC_STATUS.DBG_RUN = true ∧ (s.pair 511).halted = true) := by
  and_intros <;> decide +kernel

theorem witness_RegisterSpace :
    meets base (fun s => s.barOn = true ∧ 1 < 2 ∧ 7 < 8 ∧ 0xFFFFFFFF < 2 ^ 32 ∧ s.blockOn (Reg.TWB_TGT_TX.TX.addr 1 7 0) = true) ∧
    meets base (fun s => s.barOn = true ∧ 0xFFFFC % 4 = 0 ∧ fieldsAt 0xFFFFC = [] ∧ viewAt 0xFFFFC = false ∧ 0xFFFFC < 2 ^ 20 ∧ s.flag Reg.GLB_ACC_ERR.VALID = false) ∧
    meets (on [setR Reg.PWR_DOM.ON 0x007FFFFF]) (fun s => s.barOn = true ∧ (Reg.TWB_TGT_TX.TX.addr 1 0 0) % 4 = 0 ∧ fieldsAt (Reg.TWB_TGT_TX.TX.addr 1 0 0) ≠ [] ∧ s.blockOn (Reg.TWB_TGT_TX.TX.addr 1 0 0) = false ∧ (Reg.TWB_TGT_TX.TX.addr 1 0 0) < 2 ^ 20 ∧ s.flag Reg.GLB_ACC_ERR.VALID = false) ∧
    meets base (fun s => s.barOn = true ∧ accessKind 0x102 4 = 2 ∧ 0x400 = pfFn ∧ s.flag Reg.GLB_ACC_ERR.VALID = false) ∧
    meets base (fun s => s.barOn = true ∧ accessKind 0x102 4 = 2) ∧
    meets base (fun s => s.barOn = true ∧ s.time < 2 ^ 64) := by
  and_intros <;> decide +kernel

/-- A keep without a free location. -/
def keepFull : State :=
  { on [updKeep fun x => { x with queue := [{ effect := .owner 63 none }] }] with
    keepLocs := (List.range 1024).map fun k => (k, { typ := 1 }) }

theorem witness_KeepWrites_full :
    keepFull.stopped = false ∧ keepFull.keep.queue = [{ effect := .owner 63 none }] ∧ keepFull.keep.hot = false ∧ keepFull.keepFree = none := by
  refine ⟨by decide +kernel, by decide +kernel, by decide +kernel, ?_⟩
  have h : ((List.range keepSize).filter fun k => (keepFull.keepLoc k).isFree) = [] := by
    rw [List.filter_eq_nil_iff]
    intro k hk
    have e : keepFull.keepLoc k = { typ := 1 } := Tab.get_const _ _ hk
    simp [e, KeepLoc.isFree]
  simp [State.keepFree, h]

/-- What a command leaves, where it answers a next state. -/
def after (c : Instr) (s : State) (P : State → Bool) : Bool :=
  match exec c s with
  | .next t => P t
  | _ => false

theorem witness_StepTakesFront : ({ base with pending := [.perst, .por] } : State).pending = .perst :: [.por] ∧ base.pending = [] := by
  decide +kernel

theorem witness_StepKeepsWf : base.wf = true ∧ (match step { base with pending := [.perst] } with | .next _ => true | _ => false) = true := by
  and_intros <;> decide +kernel

theorem witness_CommandFrames :
    after (.debounceEnd 63) base (fun _ => true) = true ∧ (fieldsOf (.debounceEnd 63)).isSome = true ∧
      Reg.PWR_MODE.MODE ∈ fieldTable ∧ (∀ fs ∈ fieldsOf (.debounceEnd 63), Reg.PWR_MODE.MODE.id ∉ fs.map Fld.id) ∧
      Part.keys ∉ partsOf (.debounceEnd 63) := by
  and_intros <;> decide +kernel

theorem witness_UnitFrames :
    unitOf (.cvEntry 63) = some 63 ∧ after (.cvEntry 63) base (fun _ => true) = true ∧ Reg.SLT_STATUS.STATE ∈ fieldTable ∧
      Reg.SLT_STATUS.STATE.id ∉ sharedFields.map Fld.id ∧ (62 : Nat) ≠ 63 := by
  and_intros <;> decide +kernel

theorem witness_StandStill :
    (on [setR Reg.SVC_STATUS.FROZEN 1]).stopped = true ∧ actsStopped (.cvEntry 63) = false ∧
      (on [setR Reg.SVC_STATUS.FROZEN 1]).flag Reg.SVC_STATUS.FROZEN = true ∧
      (on [setR Reg.PWR_MODE.MODE mShip]).stopped = true := by
  and_intros <;> decide +kernel

theorem witness_RefusedDescriptors :
    opcodeOf (.slotRelease c5) = some (.slotRelease, c5) ∧ opcodeOf (.slotClaim { c5 with fn := 0x400, target := 64 }) = some (.slotClaim, { c5 with target := 64 }) ∧
      base.stopped = false ∧ base.takes c5.fn c5.ring = true ∧ base.fenced c5.fn c5.ring (wideFence .slotClaim) = false ∧
      base.accepts .slotClaim { c5 with target := 64 } = false ∧
      (on [setR Reg.FN_STATUS.LIVE 0 pfFn]).flag Reg.FN_STATUS.LIVE c5.fn = false ∧ opWhileDead (opCode .slotClaim) = false := by
  and_intros <;> decide +kernel

theorem witness_SealHolds :
    meets (on [setR Reg.GLB_SEAL.SEALED 1]) (fun s => s.barOn = true ∧ Reg.SLT_GCFG.T_OT.addr 0 0 0 % 4 = 0 ∧ s.blockOn (Reg.SLT_GCFG.T_OT.addr 0 0 0) = true ∧
      s.flag Reg.GLB_SEAL.SEALED = true ∧ (∃ x ∈ fieldsAt (Reg.SLT_GCFG.T_OT.addr 0 0 0), x.1.acc = .rws ∧ s.at x ≠ x.1.ofWord 0x46000000) ∧
      s.sltWaits (Reg.SLT_GCFG.T_OT.addr 0 0 0) = false ∧ s.flag Reg.GLB_ACC_ERR.VALID = false) := by
  and_intros <;> decide +kernel

/-- Bit 31 of `SRC_PORT_LIMIT` belongs to no field. -/
theorem witness_RegisterSpace_reserved :
    ∀ x ∈ base.placesAt pfFn (Reg.SRC_PORT_LIMIT.OVERRIDE.addr 3 0 0), 31 < x.1.lo ∨ x.1.lo + x.1.w ≤ 31 := by
  decide +kernel

theorem witness_KeptFields :
    after (.debounceEnd 63) base (fun _ => true) = true ∧ after (.registerWrite pfFn 0 4 0 {} none) base (fun _ => true) = true ∧
      0 ≠ Reg.PWR_CTRL.WARM.addr 0 0 0 ∧ 0 + 4 ≠ Reg.PWR_CTRL.WARM.addr 0 0 0 ∧
      (fieldTable.any fun f => f.keep == .k) = true := by
  and_intros <;> decide +kernel

theorem witness_ShipRefusal :
    meets (on [setR Reg.SRC_PORT_STATUS.PRESENT 1 3]) (fun s => s.flag Reg.SRC_PORT_STATUS.PRESENT 3 = true ∧ s.barOn = true) ∧
    meets (on [updSlots 63 fun x => { x with idClosed := true }]) (fun s => (s.slot 63).idClosed = true ∧ s.oddGanged 63 = false ∧ s.outranked 8 = false ∧ s.outranked 9 = false ∧ s.barOn = true) ∧
    meets (on [setR Reg.SRC_HB_STATUS.ABSENT 1]) (fun s => s.flag Reg.SRC_HB_STATUS.ABSENT = true ∧ s.mode ≠ mStart ∧ s.barOn = true ∧ s.shipBar ≠ 0) := by
  and_intros <;> decide +kernel

theorem witness_GangChange :
    meets (on ((List.range 4).map fun k => setR Reg.PHC_STATUS.PARKED 1 (124 + k))) (fun s => s.barOn = true ∧
      s.blockOn (Reg.PHC_GANG.GANG_EN.addr 0 0 0) = true ∧ s.flag Reg.GLB_SEAL.SEALED = false ∧
      (∀ g, g < 32 → hasBit 0x80000000 g ≠ s.ganged g → s.slSt (2 * g) = slEmpty ∧ s.slSt (2 * g + 1) ∈ [slEmpty, slOff, slGanged] ∧
        ∀ k, k < 4 → s.flag Reg.PHC_STATUS.PARKED (4 * g + k) = true)) ∧
    meets (on [setR Reg.SLT_STATUS.STATE slIdle 63]) (fun s => hasBit 0x80000000 31 ≠ s.ganged 31 ∧
      ¬ (s.slSt 62 = slEmpty ∧ s.slSt 63 ∈ [slEmpty, slOff, slGanged])) := by
  and_intros <;> decide +kernel

/-! One ill-formed command for each check of a command's form, beside one at the greatest index that passes. -/

theorem test_wellFormed_slot : (Instr.debounceEnd 64).wellFormed = false ∧ (Instr.debounceEnd 63).wellFormed = true := by decide
theorem test_wellFormed_channel : (Instr.apply 144).wellFormed = false ∧ (Instr.apply 143).wellFormed = true := by decide
theorem test_wellFormed_icv : (Instr.icvPassStart 16).wellFormed = false ∧ (Instr.icvPassStart 15).wellFormed = true := by decide
theorem test_wellFormed_plate : (Instr.fcvSelfTest 4 0 0).wellFormed = false ∧ (Instr.fcvSelfTest 3 0 0).wellFormed = true := by decide
theorem test_wellFormed_port : (Instr.pdAttach 8).wellFormed = false ∧ (Instr.pdAttach 7).wellFormed = true := by decide
theorem test_wellFormed_source : (Instr.sourceQualified 4).wellFormed = false ∧ (Instr.sourceQualified 3).wellFormed = true := by decide
theorem test_wellFormed_bus : (Instr.twbSleep 66).wellFormed = false ∧ (Instr.twbSleep 65).wellFormed = true := by decide
theorem test_wellFormed_bed : (Instr.bedFault 16).wellFormed = false ∧ (Instr.bedFault 15).wellFormed = true := by decide
theorem test_wellFormed_pair : (Instr.tineDbgResume 512).wellFormed = false ∧ (Instr.tineDbgResume 511).wellFormed = true := by decide
theorem test_wellFormed_task : (Instr.taskMigrationResume 416).wellFormed = false ∧ (Instr.taskMigrationResume 415).wellFormed = true := by decide
theorem test_wellFormed_fn : (Instr.rateLimit 0x401).wellFormed = false ∧ (Instr.rateLimit 0x400).wellFormed = true := by decide
theorem test_wellFormed_vf : (Instr.flr 1024).wellFormed = false ∧ (Instr.flr 1023).wellFormed = true := by decide
theorem test_wellFormed_ring : (Instr.hostReadError 0 16 true).wellFormed = false ∧ (Instr.hostReadError 0 15 true).wellFormed = true := by decide
theorem test_wellFormed_ctl : (Instr.nop { c0 with tag := 2 ^ 32 }).wellFormed = false ∧ (Instr.nop c0).wellFormed = true := by decide
theorem test_wellFormed_lane : (Instr.laneFault true 64 0 0).wellFormed = false ∧ (Instr.laneFault false 3 2 0).wellFormed = false := by decide
theorem test_wellFormed_size : (Instr.misalignedAccess 0 0 3 true).wellFormed = false ∧ (Instr.misalignedAccess 0 0 2 true).wellFormed = true := by decide
theorem test_wellFormed_word : (Instr.gangWrite (2 ^ 32)).wellFormed = false ∧ (Instr.gangWrite (2 ^ 32 - 1)).wellFormed = true := by decide
theorem test_wellFormed_line : (Instr.doorbellPoll 0 []).wellFormed = false ∧ (Instr.doorbellPoll 0 (List.replicate 64 0)).wellFormed = true := by decide
theorem test_wellFormed_mask : (Instr.snapRead 4096).wellFormed = false ∧ (Instr.snapRead 4095).wellFormed = true := by decide

/-! Worked examples of the spec. -/

/-- R349: the ASCII string "123456789" gives 0x29B1. -/
theorem test_crc16_string : crc16 [0x31, 0x32, 0x33, 0x34, 0x35, 0x36, 0x37, 0x38, 0x39] = 0x29B1 := by decide +kernel

/-- The worked example under R349: a CHARGE_TERMINATE for slot 37. -/
theorem test_crc16_descriptor : crc16 [0x13, 0, 1, 0, 2, 1, 0, 0, 0x25, 0, 0, 0, 0, 0] = 0xA2EB := by decide +kernel

/-- The worked example before R408: the PEC of a house-battery temperature read. -/
theorem test_crc8_read : crc8 [0x90, 0x00, 0x91, 0x80, 0x19] = 0x9E := by decide +kernel

/-- The worked example under R204: a token 32 ticks ago is not later than the last committed tick. -/
theorem test_tick_wrap : laterTick 0x00000010 0xFFFFFFF0 = true ∧ laterTick 0xFFFFFFF0 0x00000010 = false := by decide +kernel

/-- The worked example under R514: the NTC code at the defaults. -/
theorem test_ntc_code : ntcCode 10000 3435 60 = 0xEC := by decide +kernel

/-- The worked example under R619: offset 0x0003_2544 is `SLT_BOARD` of slot 37, offset 0x000C_B140 with GROUP 1 a ring of VF300. -/
theorem test_offset_slot : (fieldsAt 0x32544).all (fun x => x.2.1 == 37) = true ∧ (fieldsAt 0x32544).map (fun x => x.1.id) = [Reg.SLT_BOARD.IMAX_BRD.id, Reg.SLT_BOARD.VMAX_BRD.id] := by
  and_intros <;> decide +kernel

/-- The same example: a write to the gap 0x0002_4A58 is ignored and recorded. -/
theorem test_reserved_write : after (.registerWrite pfFn 0x24A58 4 5 {} none) base (fun t =>
    t.rd Reg.GLB_ACC_ERR.VALID == 1 && t.rd Reg.GLB_ACC_ERR.CAUSE == 1 && t.rd Reg.GLB_ACC_ERR.COUNT == 1 &&
    t.rd Reg.GLB_ACC_ERR.ADDR == 0x24A58) = true := by decide +kernel

/-- The worked example under R53: SRC0 at 42,000 mA of 39,400 mA trips the guard to SCALE 912. -/
theorem test_guard_trip : after .busGuardTrip (on [setR Reg.SRC_PORT_STATUS.ENABLED 1 0, setR Reg.SRC_PORT_STATUS.LIMIT_EFF 39400 0,
    setR Reg.SRC_PORT_MEAS.CURR 42000 0, updSrcs 0 fun x => { x with tripRun := 2 }]) (fun t =>
      t.rd Reg.SRC_GUARD.SCALE == 912 && t.rd Reg.SRC_GUARD.TRIPS == 1) = true := by decide +kernel

/-- A word spells no command: no row of the table has bits. -/
theorem test_decode_none : decodeTableWord 8 0 = none := by decide

/-- SLOT_CLAIM by the PF of a slot that nobody owns (R155). -/
theorem test_claim : after (.slotClaim c5) base (fun t => t.effOwner 5 == some 0x400) = true := by decide +kernel

/-- HALT parks every output (R533): the PF's HALT from RUN. -/
theorem test_halt : after .safCtrlHalt (on [setR Reg.PHC_STATUS.PARKED 0 126, setR Reg.PHC_STATUS.STAGE 3 126]) (fun t =>
    t.modeReg == mHalt && t.flag Reg.PHC_STATUS.PARKED 126) = true := by decide +kernel

end Sys2Proof.Tests
end

section
/-! The class K fields (R5, R616): which programs leave them alone, and from that which commands do. A reset of whole classes stands under one
number in the masks of `Prog.Touches`, whatever its classes; `Prog.SparesKept` looks at the classes themselves. -/

namespace Sys2Proof.Machine

/-! What spares the class K fields. -/

/-- The numbers of the class K fields of the map and, 700, that of a reset of classes (`Act.cell`), as a mask. -/
def keptMask : Nat := 0x10000000000000000600000000000000000000000000000000000000000000020000000000000000000001ffe0000000060000000000000c0000000000000000000000000000600000000000000000000000000000000000

/-- A primitive update writes no class K field and clears no class K field. -/
def Act.sparesKept : Act → Bool
  | .reg f _ _ _ _ => !keptMask.testBit f.id
  | .clear classes _ => !classes.contains .k
  | _ => true

/-- Every update of a program leaves the class K fields alone. -/
def Prog.SparesKept : Prog → Prop
  | .skip => True
  | .act a => a.sparesKept = true
  | .seq p q => p.SparesKept ∧ q.SparesKept
  | .read k => ∀ s, (k s).SparesKept

/-- A meaning always answers the next state of some program that leaves the class K fields alone. -/
def KeepsKept (e : State → Host.Outcome State Fault Refusal) : Prop :=
  ∀ s, ∃ p : Prog, p.SparesKept ∧ e s = .next (p.run s)

theorem testBit_keptMask {f : Fld} (hf : f ∈ fieldTable) : keptMask.testBit f.id = (f.keep == .k) := by
  have h : ∀ f ∈ fieldTable, keptMask.testBit f.id = (f.keep == .k) := by decide +kernel
  exact h f hf

theorem fieldTable_id {f : Fld} (hf : f ∈ fieldTable) : fieldTable[f.id]? = some f := by
  have h : ∀ f ∈ fieldTable, fieldTable[f.id]? = some f := by decide +kernel
  exact h f hf

theorem Tab.get_filter {β : Type} (d : β) {q : Nat × β → Bool} {k : Nat} (hq : ∀ v, q (k, v) = true) (t : List (Nat × β)) :
    Tab.get d (t.filter q) k = Tab.get d t k := by
  induction t with
  | nil => rfl
  | cons e t ih =>
    obtain ⟨k', v⟩ := e
    by_cases hk : k' = k
    · subst hk
      simp [hq, Tab.get]
    · rw [List.filter_cons]
      split <;> simp [Tab.get, hk, ih]

/-- A reset that does not clear the class of a field leaves that field as it was. -/
theorem rd_clear {f : Fld} (hf : f ∈ fieldTable) {classes : List Keep} (hc : classes.contains f.keep = false) (kp : Nat → Bool)
    (s : State) (i j k : Nat) : ((Act.clear classes kp).apply s).rd f i j k = s.rd f i j k := by
  have hkey : fieldTable[(Nat.unpair (f.key i j k)).1]? = some f := by
    rw [Fld.key, Nat.unpair_pair]
    exact fieldTable_id hf
  simp only [State.rd, Act.apply, clearedCells]
  rw [Tab.get_filter _ fun v => by simp only [hkey, hc, Bool.not_false, Bool.true_or]]

theorem Act.rd_of_sparesKept {a : Act} (ha : a.sparesKept = true) {f : Fld} (hf : f ∈ fieldTable) (hk : f.keep = .k)
    (s : State) (i j k : Nat) : (a.apply s).rd f i j k = s.rd f i j k := by
  cases a with
  | reg g i' j' k' v =>
    refine State.rd_wr_ne _ _ _ _ _ _ _ _ _ _ (Or.inl fun e => ?_)
    have hbit : keptMask.testBit g.id = true := by rw [← e, testBit_keptMask hf, hk]; rfl
    simp [Act.sparesKept, hbit] at ha
  | clear classes kp => exact rd_clear hf (by simpa [Act.sparesKept, hk] using ha) kp s i j k
  | _ => rfl

/-- A program that spares the class K fields leaves each of them as it was. -/
theorem Prog.SparesKept.rd {p : Prog} (h : p.SparesKept) {f : Fld} (hf : f ∈ fieldTable) (hk : f.keep = .k)
    (s : State) (i j k : Nat) : (p.run s).rd f i j k = s.rd f i j k := by
  induction p generalizing s with
  | skip => rfl
  | act a => exact Act.rd_of_sparesKept h hf hk s i j k
  | seq p q ihp ihq => exact (ihq h.2 _).trans (ihp h.1 s)
  | read q ih => exact ih s (h s) s

/-- What a mask without a class K field and without a reset of classes allows spares the class K fields. -/
theorem Prog.Touches.sparesKept {p : Prog} {M : Nat} (h : p.Touches M) (hM : M &&& keptMask = 0) : p.SparesKept := by
  have hbit : ∀ n, M.testBit n = true → keptMask.testBit n = false := by
    intro n hn
    have h0 : (M &&& keptMask).testBit n = false := by rw [hM, Nat.zero_testBit]
    rwa [Nat.testBit_and, hn, Bool.true_and] at h0
  induction p with
  | skip => trivial
  | act a =>
    have ha := hbit _ h
    cases a with
    | reg f i j k v => simpa [Prog.SparesKept, Act.sparesKept, Act.cell] using ha
    | clear classes kp => exact absurd ha (show keptMask.testBit 700 ≠ false by decide)
    | _ => rfl
  | seq p q ihp ihq => exact ⟨ihp h.1, ihq h.2⟩
  | read k ih => exact fun s => ih s (h s)

theorem RunsWithin.keepsKept {M : Nat} {e : State → Host.Outcome State Fault Refusal} (h : RunsWithin M e)
    (hM : M &&& keptMask = 0) : KeepsKept e := fun s => by
  obtain ⟨p, hp, he⟩ := h s
  exact ⟨p, hp.sparesKept hM, he⟩

section

variable {p q : Prog}

@[simp] theorem sparesKept_skip : Prog.skip.SparesKept := trivial
@[simp] theorem sparesKept_seq : (Prog.seq p q).SparesKept ↔ p.SparesKept ∧ q.SparesKept := Iff.rfl
@[simp] theorem sparesKept_read {k : State → Prog} : (Prog.read k).SparesKept ↔ ∀ s, (k s).SparesKept := Iff.rfl
@[simp] theorem sparesKept_act {a : Act} : (Prog.act a).SparesKept ↔ a.sparesKept = true := Iff.rfl
@[simp] theorem sparesKept_seqs_nil : (seqs []).SparesKept := trivial
@[simp] theorem sparesKept_seqs_cons {l : List Prog} : (seqs (p :: l)).SparesKept ↔ p.SparesKept ∧ (seqs l).SparesKept := Iff.rfl
@[simp] theorem sparesKept_each {α : Type} {l : List α} {g : α → Prog} : (each l g).SparesKept ↔ ∀ x ∈ l, (g x).SparesKept := by
  unfold each
  induction l with
  | nil => simp
  | cons a l ih => simp [ih]
@[simp] theorem sparesKept_ite {c : Prop} [Decidable c] :
    (if c then p else q).SparesKept ↔ (c → p.SparesKept) ∧ (¬ c → q.SparesKept) := by
  split <;> simp [*]
@[simp] theorem sparesKept_when {c : State → Bool} : (when c p).SparesKept ↔ ∀ s, c s = true → p.SparesKept := by simp [when]
@[simp] theorem sparesKept_cond {c : State → Bool} :
    (cond c p q).SparesKept ↔ ∀ s, (c s = true → p.SparesKept) ∧ (c s ≠ true → q.SparesKept) := by simp [cond]

theorem sparesKept_setR {f : Fld} {v i j k : Nat} (h : keptMask.testBit f.id = false) : (setR f v i j k).SparesKept := by
  simp [setR, Act.sparesKept, h]
theorem sparesKept_updR {f : Fld} {v : State → Nat} {i j k : Nat} (h : keptMask.testBit f.id = false) : (updR f v i j k).SparesKept :=
  fun _ => sparesKept_setR h
theorem sparesKept_incSat {f : Fld} {i j k : Nat} (h : keptMask.testBit f.id = false) : (incSat f i j k).SparesKept :=
  fun _ => sparesKept_setR h
@[simp] theorem sparesKept_updTime {g : Nat → Nat} : (updTime g).SparesKept := fun _ => rfl
@[simp] theorem sparesKept_updHost {g : HostRec → HostRec} : (updHost g).SparesKept := fun _ => rfl
@[simp] theorem sparesKept_updHouse {g : HouseRec → HouseRec} : (updHouse g).SparesKept := fun _ => rfl
@[simp] theorem sparesKept_updGrid {g : GridRec → GridRec} : (updGrid g).SparesKept := fun _ => rfl
@[simp] theorem sparesKept_updPendZ {g : List PendZ → List PendZ} : (updPendZ g).SparesKept := fun _ => rfl
@[simp] theorem sparesKept_updLanes {n : Nat} {g : LaneRec → LaneRec} : (updLanes n g).SparesKept := fun _ => rfl
@[simp] theorem sparesKept_updAlm {g : AlmRec → AlmRec} : (updAlm g).SparesKept := fun _ => rfl
@[simp] theorem sparesKept_updPower {g : PowerRec → PowerRec} : (updPower g).SparesKept := fun _ => rfl
@[simp] theorem sparesKept_updEng {g : EngRec → EngRec} : (updEng g).SparesKept := fun _ => rfl
@[simp] theorem sparesKept_updSun {g : SunRec → SunRec} : (updSun g).SparesKept := fun _ => rfl
@[simp] theorem sparesKept_updClk {g : ClkRec → ClkRec} : (updClk g).SparesKept := fun _ => rfl
@[simp] theorem sparesKept_updSvc {g : SvcRec → SvcRec} : (updSvc g).SparesKept := fun _ => rfl

end

/-! The operations that reset whole classes, and what leads to them. -/

theorem clearFns_sparesKept {p : Nat → Bool} : (clearFns p).SparesKept := by simp [clearFns, Act.sparesKept]

theorem hostReset_sparesKept {fns : List Nat} {cause : Nat} {tell : Bool} : (hostReset fns cause tell).SparesKept := by
  simp [hostReset, clearFns_sparesKept, discardWork_touch.sparesKept rfl, holdFn_touch.sparesKept rfl]

theorem perst_sparesKept : perst.SparesKept := by
  simp (disch := decide) [perst, hostReset_sparesKept, Act.sparesKept, sparesKept_setR]

theorem vfsOff_sparesKept : vfsOff.SparesKept := by simp [vfsOff, hostReset_sparesKept]

theorem orderTo_sparesKept {p w : Nat} {act : Prog} (h : act.SparesKept) : (orderTo p w act).SparesKept := by
  simp only [orderTo, sparesKept_read, sparesKept_seqs_cons, sparesKept_seqs_nil, and_true]
  refine fun s => ⟨fun _ => rfl, fun _ => rfl, ?_⟩
  split
  · exact h
  · trivial

theorem haltEnter_sparesKept {cause detail : Nat} : (haltEnter cause detail).SparesKept := by
  have park (p : Nat) : (each (gatesOf p) fun n => parkOutput n 0).SparesKept := by simp [parkOutput_touch.sparesKept rfl]
  simp (disch := decide) [haltEnter, Act.sparesKept, sparesKept_setR, sparesKept_incSat, discardWork_touch.sparesKept rfl,
    orderTo_sparesKept (park _)]

theorem shipWake_sparesKept {cause : Nat} {rail : Bool} : (shipWake cause rail).SparesKept := by
  simp (disch := decide) [shipWake, Act.sparesKept, sparesKept_setR, hiddenReset_touch.sparesKept rfl, startPending_touch.sparesKept rfl]

theorem deviceReset_sparesKept {kind : Nat} : (deviceReset kind).SparesKept := by
  have cut {ok : Bool} : (keepCut ok).SparesKept := keepCut_touch.sparesKept rfl
  have free : (withFree fun v => keepCut (v % 2 == 1)).SparesKept := fun _ => ⟨fun _ => rfl, cut⟩
  unfold deviceReset
  refine ⟨?_, hiddenReset_touch.sparesKept rfl, ?_, ?_, ?_, startPending_touch.sparesKept rfl, trivial⟩
  · split
    · exact free
    · exact cut
  · show (!List.contains (if kind < 2 then _ else _) Keep.k) = true
    split <;> rfl
  · split <;> simp (disch := decide) [sparesKept_setR]
  · split <;> simp

theorem sentinelIn_sparesKept : sentinelIn.SparesKept := by
  simp (disch := decide) [sentinelIn, perst_sparesKept, sparesKept_setR, rootPlanned_touch.sparesKept rfl, bedOff_touch.sparesKept rfl]

/-- Dusk at a tick boundary (R562): each of its steps, and the reversal. -/
theorem sequenceStep_sparesKept : sequenceStep.SparesKept := by
  have entered {m src seq : Nat} : (enterMode m src seq).SparesKept := enterMode_touch.sparesKept rfl
  have left : sentinelOut.SparesKept := sentinelOut_touch.sparesKept rfl
  have stop {lead : Nat} : (softStop lead).SparesKept := softStop_touch.sparesKept rfl
  have bed {b : Nat} : (bedOn b).SparesKept := bedOn_touch.sparesKept rfl
  simp only [sequenceStep, sparesKept_read, sparesKept_ite, sparesKept_skip, implies_true, true_and]
  intro s _
  split
  · simp only [sparesKept_ite]
    constructor <;> intro _
    · simp (disch := decide) [sparesKept_setR, sparesKept_incSat, modeEvent_touch.sparesKept rfl]
    · split <;> simp (disch := decide) [sparesKept_setR, sentinelIn_sparesKept, entered, stop, perst_sparesKept,
        shipIn_touch.sparesKept rfl, shipWake_sparesKept]
  · simp [entered, left]
  · simp [entered, left, bed]

theorem sysMiss_sparesKept : sysMiss.SparesKept := by
  simp (disch := decide) [sysMiss, sparesKept_setR, sparesKept_incSat, raisePf_touch.sparesKept rfl, haltEnter_sparesKept]

theorem sysAnswer_sparesKept {qseq token : Nat} : (sysAnswer qseq token).SparesKept := by
  simp (disch := decide) [sysAnswer, sparesKept_setR, sysMiss_sparesKept]

theorem wdgClockStopped_sparesKept {clock : Nat} : (wdgClockStopped clock).SparesKept := by
  have failed : (setR (if clock = 0 then Reg.WDG_STATUS.XTAL_FAIL else Reg.WDG_STATUS.LPO_FAIL) 1).SparesKept := by
    split <;> exact sparesKept_setR rfl
  simp (disch := decide) [wdgClockStopped, failed, sparesKept_setR, sparesKept_incSat, clkFail_touch.sparesKept rfl, haltEnter_sparesKept,
    raisePf_touch.sparesKept rfl]

theorem wdgClockSeen_sparesKept {clock : Nat} : (wdgClockSeen clock).SparesKept := by simp [wdgClockSeen, wdgClockStopped_sparesKept]

theorem pllUnlocked_sparesKept : pllUnlocked.SparesKept := by
  simp (disch := decide) [pllUnlocked, sparesKept_setR, sparesKept_incSat, haltEnter_sparesKept]

theorem sspTake_sparesKept {cmd seq data answer : Nat} : (sspTake cmd seq data answer).SparesKept := by
  simp (disch := decide) [sspTake, sparesKept_setR, haltEnter_sparesKept]

theorem sspRead_sparesKept {seq i : Nat} : (sspRead seq i).SparesKept := by
  have free : (withFree fun v => sspTake 1 seq i (v % 65536)).SparesKept := fun _ => ⟨fun _ => rfl, sspTake_sparesKept⟩
  simp [sspRead, free, sspTake_sparesKept]

theorem healthSet_sparesKept {f : Fld} {v : State → Nat} (h : keptMask.testBit f.id = false) : (healthSet f v).SparesKept := by
  simp [healthSet, sparesKept_setR h, raiseHealth_touch.sparesKept rfl]

theorem crystalStopped_sparesKept {slew : Nat} : (crystalStopped slew).SparesKept := by
  simp (disch := decide) [crystalStopped, sparesKept_setR, clkFail_touch.sparesKept rfl, pllTo_touch.sparesKept rfl,
    wdgClockStopped_sparesKept, healthSet_sparesKept]

theorem islandActs_sparesKept {i : Nat} : (islandActs i).SparesKept := by
  have covered : (healthSet Reg.GLB_HEALTH.COVERAGE_LOST fun _ => 1).SparesKept := healthSet_sparesKept rfl
  have slotSafe {sl : Nat} : (slotSafeSub sl 8).SparesKept := slotSafeSub_touch.sparesKept rfl
  have aux {n : Nat} : (auxFault n).SparesKept := auxFault_touch.sparesKept rfl
  have bed {b : Nat} : (bedFault b).SparesKept := bedFault_touch.sparesKept rfl
  have gone : hostGone.SparesKept := hostGone_touch.sparesKept rfl
  have dead {b : Nat} : (setR Reg.TWB_STATUS.BUS_DEAD 1 b).SparesKept := sparesKept_setR rfl
  simp only [islandActs, sparesKept_read, sparesKept_ite, sparesKept_seq, sparesKept_each, sparesKept_when, sparesKept_skip,
    covered, slotSafe, aux, bed, gone, haltEnter_sparesKept, implies_true, and_self, true_and]
  intro s _ _ _ _ _ _ _ _
  split
  · simp [aux, dead]
  · exact planterDead_touch.sparesKept rfl
  · simp [slotSafe, icvFail_touch.sparesKept rfl]

theorem islandLost_sparesKept {i : Nat} : (islandLost i).SparesKept := by simp [islandLost, islandActs_sparesKept]

theorem oscFail_sparesKept {i : Nat} : (oscFail i).SparesKept := by
  simp (disch := decide) [oscFail, sparesKept_setR, sparesKept_updR, sparesKept_incSat, clkFail_touch.sparesKept rfl,
    islandLost_sparesKept, bedFault_touch.sparesKept rfl]

theorem laneFault_sparesKept {fabric : Bool} {link dir : Nat} : (laneFault fabric link dir).SparesKept := by
  simp [laneFault, islandLost_sparesKept, laneSteer_touch.sparesKept rfl]

theorem boundary_sparesKept {late : List Nat} {avgs : List (Nat × Nat)} : (boundary late avgs).SparesKept := by
  simp [boundary, sequenceStep_sparesKept, rootTakes_touch.sparesKept rfl, commitTick_touch.sparesKept rfl, guardRelease_touch.sparesKept rfl,
    phasesByRef_touch.sparesKept rfl, boundaryCounts_touch.sparesKept rfl, contractsEnter_touch.sparesKept rfl,
    islandTick_touch.sparesKept rfl, rebuild_touch.sparesKept rfl, demandTick_touch.sparesKept rfl]

theorem latchedTake_sparesKept {x : Latched} : (latchedTake x).SparesKept := by
  cases x with
  | fgOv sl mv us => exact fgOvTrip_touch.sparesKept rfl
  | fgOc sl ma us => exact fgOcTrip_touch.sparesKept rfl
  | fgRv sl ma us => exact fgRvTrip_touch.sparesKept rfl
  | fgNtc sl input code ms => exact fgNtcTrip_touch.sparesKept rfl
  | idLoss sl mv ns => exact idLossTrip_touch.sparesKept rfl
  | idOpen sl pulses => exact packRemoval_touch.sparesKept rfl
  | idClosed sl => exact pinClose_touch.sparesKept rfl
  | presence k level mv => simp [latchedTake, presenceRise_touch.sparesKept rfl, sourceGone_touch.sparesKept rfl]
  | request m src => exact modeRequest_touch.sparesKept rfl
  | halt cause detail => exact haltEnter_sparesKept
  | perst => exact perst_sparesKept
  | freeze => exact freezeAsk_touch.sparesKept rfl
  | pllUnlock => exact pllUnlocked_sparesKept
  | wdgClock clock => exact wdgClockSeen_sparesKept
  | crystal slew => exact crystalStopped_sparesKept
  | feed n => exact feedGone_touch.sparesKept rfl

theorem latchedAll_sparesKept {l : List Latched} : (latchedAll l).SparesKept := by simp [latchedAll, latchedTake_sparesKept]

theorem thaw_sparesKept : thaw.SparesKept := by
  simp (disch := decide) [thaw, sparesKept_setR, Act.sparesKept, clocksRestart_touch.sparesKept rfl, sysWdgResume_touch.sparesKept rfl,
    outputsResume_touch.sparesKept rfl, raisePf_touch.sparesKept rfl, latchedAll_sparesKept, allSourcesLost_touch.sparesKept rfl,
    curtailUpdate_touch.sparesKept rfl]

theorem thawDbg_sparesKept : thawDbg.SparesKept := by
  simp (disch := decide) [thawDbg, sparesKept_setR, clocksRestart_touch.sparesKept rfl, sysWdgResume_touch.sparesKept rfl,
    outputsResume_touch.sparesKept rfl, latchedAll_sparesKept]

theorem release_sparesKept {dbg : Bool} : (release dbg).SparesKept := by simp [release, thaw_sparesKept, thawDbg_sparesKept]

/-! A register write (R618): class K fields are read-only, and only `PWR_CTRL.WARM` leads to START. -/

theorem mem_fieldsAt {x : Place} {a : Nat} (h : x ∈ fieldsAt a) :
    x.1 ∈ fieldTable ∧ x.1.base ≤ a ∧ ∃ y, x.1.instAt (a - x.1.base) = some y := by
  obtain ⟨f, hf, hx⟩ := List.mem_filterMap.1 h
  split at hx
  · cases hx
  · rename_i hlt
    obtain ⟨y, hy, rfl⟩ := Option.map_eq_some_iff.1 hx
    exact ⟨hf, Nat.le_of_not_lt hlt, y, hy⟩

theorem mem_fieldsAtVf {x : Place} {vf a : Nat} (h : x ∈ fieldsAtVf vf a) : x.1 ∈ fieldTable ∧ x.1.space = .fn := by
  obtain ⟨f, hf, hx⟩ := List.mem_filterMap.1 h
  split at hx
  · cases hx
  · rename_i hs
    obtain ⟨y, -, rfl⟩ := Option.map_eq_some_iff.1 hx
    refine ⟨hf, ?_⟩
    show f.space = .fn
    cases hsp : f.space with
    | pf => exact absurd (Or.inl hsp) hs
    | fn => rfl

/-- A field of the map is known by its number. -/
theorem eq_of_id {f g : Fld} (hf : f ∈ fieldTable) (hg : g ∈ fieldTable) (h : f.id = g.id) : f = g := by
  have := fieldTable_id hf
  rw [h, fieldTable_id hg] at this
  exact (Option.some.inj this).symm

theorem warm_mem : Reg.PWR_CTRL.WARM ∈ fieldTable := by decide +kernel

theorem covers_eq_false_of {f : Fld} {fs : List Place} (h : ∀ x ∈ fs, x.1.id ≠ f.id) : covers f fs = false := by
  simpa [covers] using fun f' i j k hx => h (f', i, j, k) hx

/-- The register at an address other than that of `PWR_CTRL` has no WARM bit. -/
theorem covers_warm_fieldsAt {a : Nat} (ha : a ≠ Reg.PWR_CTRL.WARM.addr 0 0 0) : covers Reg.PWR_CTRL.WARM (fieldsAt a) = false := by
  refine covers_eq_false_of fun x hx hid => ha ?_
  obtain ⟨hmem, hle, y, hy⟩ := mem_fieldsAt hx
  rw [eq_of_id hmem warm_mem hid] at hle hy
  have hoff : a - 0x2004 = 0 := by
    by_contra hne
    simp [Fld.instAt, Reg.PWR_CTRL.WARM, strideAt, hne] at hy
  have hle' : 0x2004 ≤ a := hle
  show a = 0x2004
  omega

/-- No register of a VF's BAR0 has a WARM bit. -/
theorem covers_warm_fieldsAtVf {vf a : Nat} : covers Reg.PWR_CTRL.WARM (fieldsAtVf vf a) = false := by
  refine covers_eq_false_of fun x hx hid => ?_
  obtain ⟨hmem, hspace⟩ := mem_fieldsAtVf hx
  rw [eq_of_id hmem warm_mem hid] at hspace
  exact absurd hspace (by decide)

/-- Class K fields are read-only (R616). -/
theorem testBit_keptMask_of_acc {f : Fld} (hf : f ∈ fieldTable) (ha : f.acc ≠ .ro) : keptMask.testBit f.id = false := by
  have h : ∀ f ∈ fieldTable, f.keep = .k → f.acc = .ro := by decide +kernel
  rw [testBit_keptMask hf, beq_eq_false_iff_ne]
  exact fun hk => ha (h f hf hk)

theorem coreHooks_sparesKept {s : State} {fs ch : List Place} {v : Nat} {env : StartEnv} (hw : covers Reg.PWR_CTRL.WARM fs = false) :
    (coreHooks s fs ch v env).SparesKept := by
  have hones : ones Reg.PWR_CTRL.WARM fs v = false := by simp [ones, hw]
  simp (disch := decide) [coreHooks, hones, sparesKept_updR, latentNow_touch.sparesKept rfl, haltEnter_sparesKept, lockWrite_touch.sparesKept rfl,
    hostCurtail_touch.sparesKept rfl, requestBy_touch.sparesKept rfl]

theorem writeTaken_sparesKept {s : State} {fs : List Place} {fn v : Nat} {env : StartEnv} {pulses : Option Nat}
    (hfs : ∀ x ∈ fs, x.1 ∈ fieldTable) (hw : covers Reg.PWR_CTRL.WARM fs = false) : (writeTaken s fs fn v env pulses).SparesKept := by
  have changed : ∀ x ∈ s.changes fs v, keptMask.testBit x.1.id = false := by
    intro x hx
    obtain ⟨hmem, hset⟩ := List.mem_filter.1 hx
    refine testBit_keptMask_of_acc (hfs x hmem) fun hro => ?_
    simp [Fld.settable, hro] at hset
  have cleared : ∀ x ∈ fs.filter (fun x => x.1.acc == .w1c), keptMask.testBit x.1.id = false := by
    intro x hx
    obtain ⟨hmem, hacc⟩ := List.mem_filter.1 hx
    refine testBit_keptMask_of_acc (hfs x hmem) fun hro => ?_
    simp [hro] at hacc
  simp only [writeTaken, sparesKept_seqs_cons, sparesKept_seqs_nil, sparesKept_each, and_true]
  refine ⟨fun x hx => sparesKept_setR (changed x (List.mem_of_mem_filter hx)), fun x hx => sparesKept_setR (cleared x hx),
    phcHooks_touch.sparesKept rfl, slotHooks_touch.sparesKept rfl, msrHooks_touch.sparesKept rfl, busHooks_touch.sparesKept rfl,
    gridHooks_touch.sparesKept rfl, engHooks_touch.sparesKept rfl, hostHooks_touch.sparesKept rfl, coreHooks_sparesKept hw⟩

theorem write32_sparesKept {fn a v : Nat} {env : StartEnv} {pulses : Option Nat} (ha : a ≠ Reg.PWR_CTRL.WARM.addr 0 0 0) :
    (write32 fn a v env pulses).SparesKept := by
  have err {a cause : Nat} : (accErr a cause).SparesKept := accErr_touch.sparesKept rfl
  have flags {ch : List Place} : (barredFlags ch).SparesKept := barredFlags_touch.sparesKept rfl
  have later : (sltLater a v).SparesKept := sltLater_touch.sparesKept rfl
  have pf {s : State} : (writeTaken s (fieldsAt a) pfFn v env pulses).SparesKept :=
    writeTaken_sparesKept (fun _ hx => (mem_fieldsAt hx).1) (covers_warm_fieldsAt ha)
  have vf {s : State} : (writeTaken s (fieldsAtVf fn a) fn v env none).SparesKept :=
    writeTaken_sparesKept (fun _ hx => (mem_fieldsAtVf hx).1) covers_warm_fieldsAtVf
  simp [write32, pfWrite32, vfWrite32, err, flags, later, pf, vf]

theorem execRegisterWrite_keepsKept {fn a size v : Nat} {env : StartEnv} {pulses : Option Nat}
    (ha : a ≠ Reg.PWR_CTRL.WARM.addr 0 0 0) (ha4 : a + 4 ≠ Reg.PWR_CTRL.WARM.addr 0 0 0) :
    KeepsKept (execRegisterWrite fn a size v env pulses) := by
  refine fun s => ⟨_, ?_, rfl⟩
  split
  · simp [write32_sparesKept ha, write32_sparesKept ha4]
  · simp [accErr_touch.sparesKept rfl]
  · exact abortRequest_touch.sparesKept rfl

/-! The commands. -/

section

variable {p : Prog}

theorem keepsKept_endsAlways (h : p.SparesKept) : KeepsKept (endsAlways p) := fun _ => ⟨p, h, rfl⟩

theorem keepsKept_ends (h : p.SparesKept) : KeepsKept (ends p) := by
  intro s
  by_cases hs : s.stopped = true
  · exact ⟨.skip, trivial, by simp [ends, hs]⟩
  · exact ⟨p, h, by simp [ends, hs]⟩

theorem keepsKept_latching {l : Latched} (h : p.SparesKept) : KeepsKept (latching l p) :=
  keepsKept_endsAlways (by simp [h])

/-- A happening that counts only once it has lasted long enough (log entry 7). -/
theorem keepsKept_unless {c : Prop} [Decidable c] {e : State → Host.Outcome State Fault Refusal} (h : KeepsKept e) :
    KeepsKept (if c then endsAlways .skip else e) := by
  split
  · exact keepsKept_endsAlways trivial
  · exact h

theorem keepsKept_pfWrite (h : p.SparesKept) : KeepsKept (pfWrite p) := keepsKept_endsAlways (by simp [h])

theorem keepsKept_ssp (h : p.SparesKept) : KeepsKept (ssp p) := keepsKept_ends (by simp [h, emit_touch.sparesKept rfl])

theorem keepsKept_tapRow {allowed : State → Bool} (h : p.SparesKept) : KeepsKept (tapRow allowed p) :=
  keepsKept_endsAlways (by simp [h, tap_touch.sparesKept rfl])

end

theorem execPor_keepsKept : KeepsKept execPor := keepsKept_endsAlways deviceReset_sparesKept
theorem execBrownout_keepsKept {mv us : Nat} : KeepsKept (execBrownout mv us) := keepsKept_endsAlways (by simp [deviceReset_sparesKept])
theorem execPinReset_keepsKept {us : Nat} : KeepsKept (execPinReset us) := keepsKept_endsAlways (by simp [deviceReset_sparesKept])

theorem execShipWake_keepsKept {cause battery : Nat} : KeepsKept (execShipWake cause battery) :=
  keepsKept_endsAlways (by simp [shipWake_sparesKept, requestRun_touch.sparesKept rfl, startResume_touch.sparesKept rfl])

theorem execStartStepTimeout_keepsKept {us : Nat} : KeepsKept (execStartStepTimeout us) :=
  keepsKept_endsAlways (by simp [haltEnter_sparesKept])

theorem execSundialLockstepMismatch_keepsKept : KeepsKept execSundialLockstepMismatch := keepsKept_latching haltEnter_sparesKept

theorem execSundialSilent_keepsKept {us : Nat} : KeepsKept (execSundialSilent us) :=
  keepsKept_unless (keepsKept_ends (by simp [haltEnter_sparesKept]))

theorem execSysWdgQuestion_keepsKept {answer : Option (Nat × Nat)} : KeepsKept (execSysWdgQuestion answer) := by
  refine keepsKept_ends ?_
  cases answer <;> simp [sysAnswer_sparesKept, sysMiss_sparesKept, sysAsk_touch.sparesKept rfl]

theorem execWdgClockFail_keepsKept {clock us : Nat} : KeepsKept (execWdgClockFail clock us) :=
  keepsKept_unless (keepsKept_latching wdgClockSeen_sparesKept)

theorem execPllUnlock_keepsKept {us : Nat} : KeepsKept (execPllUnlock us) :=
  keepsKept_unless (keepsKept_latching pllUnlocked_sparesKept)

theorem execSafCtrlHalt_keepsKept : KeepsKept execSafCtrlHalt := keepsKept_pfWrite haltEnter_sparesKept
theorem execSspNop_keepsKept {seq : Nat} : KeepsKept (execSspNop seq) := keepsKept_ssp sspTake_sparesKept
theorem execSspRead_keepsKept {seq i : Nat} : KeepsKept (execSspRead seq i) := keepsKept_ssp sspRead_sparesKept
theorem execSspHeartbeat_keepsKept {seq data : Nat} : KeepsKept (execSspHeartbeat seq data) := keepsKept_ssp sspTake_sparesKept
theorem execSspHaltReq_keepsKept {seq data : Nat} : KeepsKept (execSspHaltReq seq data) := keepsKept_ssp fun _ => sspTake_sparesKept

theorem execCrystalFail_keepsKept {us slew : Nat} : KeepsKept (execCrystalFail us slew) :=
  keepsKept_unless (keepsKept_latching crystalStopped_sparesKept)

theorem execIslandOscFail_keepsKept {i us : Nat} {silent : Bool} : KeepsKept (execIslandOscFail i us silent) :=
  keepsKept_ends (by simp [oscFail_sparesKept])

theorem execRunnerFlitReceive_keepsKept {fabric : Bool} {link dir flit got parity : Nat} :
    KeepsKept (execRunnerFlitReceive fabric link dir flit got parity) :=
  keepsKept_ends (by simp [laneFault_sparesKept])

theorem execLaneFault_keepsKept {fabric : Bool} {link dir ns : Nat} : KeepsKept (execLaneFault fabric link dir ns) :=
  keepsKept_ends (by simp [laneFault_sparesKept])

theorem execPcieLaneFault_keepsKept {lane : Option Nat} : KeepsKept (execPcieLaneFault lane) :=
  keepsKept_ends (by
    simp (disch := decide) [perst_sparesKept, sparesKept_setR, sparesKept_incSat, healthSet_sparesKept, pollReport_touch.sparesKept rfl])

theorem execPerst_keepsKept : KeepsKept execPerst := keepsKept_latching perst_sparesKept

theorem execFlr_keepsKept {vf : Nat} : KeepsKept (execFlr vf) :=
  keepsKept_ends (by simp (disch := decide) [sparesKept_setR, hostReset_sparesKept, pollReport_touch.sparesKept rfl])

theorem execPfFlr_keepsKept : KeepsKept execPfFlr :=
  keepsKept_ends (by simp (disch := decide) [sparesKept_setR, hostReset_sparesKept, vfsOff_sparesKept])

theorem execVfEnableWrite_keepsKept {en : Bool} : KeepsKept (execVfEnableWrite en) := keepsKept_ends (by simp [vfsOff_sparesKept])

theorem execTickBoundary_keepsKept {late : List Nat} {avgs : List (Nat × Nat)} : KeepsKept (execTickBoundary late avgs) :=
  keepsKept_ends boundary_sparesKept

theorem execRootHandover_keepsKept {late : List Nat} {avgs : List (Nat × Nat)} : KeepsKept (execRootHandover late avgs) :=
  keepsKept_ends (by simp [boundary_sparesKept])

theorem execFreezeReleasePin_keepsKept {us : Nat} : KeepsKept (execFreezeReleasePin us) :=
  keepsKept_endsAlways (by simp [release_sparesKept])

theorem execSnapStreamEnd_keepsKept : KeepsKept execSnapStreamEnd := by
  refine keepsKept_endsAlways fun s => ?_
  simp (disch := decide) only [sparesKept_ite, sparesKept_seq, sparesKept_setR, sparesKept_updSvc, sparesKept_skip, true_and,
    implies_true, and_true]
  intro _
  split
  · exact release_sparesKept
  · trivial

theorem execThaw_keepsKept : KeepsKept execThaw := keepsKept_tapRow ⟨tap_touch.sparesKept rfl, release_sparesKept⟩
theorem execThawDbg_keepsKept : KeepsKept execThawDbg := keepsKept_tapRow ⟨tap_touch.sparesKept rfl, release_sparesKept⟩

/-- Every command but a register write, the keep's commit and those that let START run leaves the class K fields alone. -/
theorem exec_keepsKept (c : Instr) (hreg : ∀ fn a size v env pulses, c ≠ .registerWrite fn a size v env pulses)
    (hkeep : ∀ k, c ≠ .keepWrite k) (hauto : ∀ e, c ≠ .autoWarm e) (hwarm : ∀ e, c ≠ .warm e) (hbrown : ∀ a b e, c ≠ .brownoutEnd a b e)
    (hnrel : ∀ e, c ≠ .resetNRelease e) (hrail : ∀ a b d g e, c ≠ .systemRailInRange a b d g e) : KeepsKept (exec c) := by
  cases c with
  | runnerFlitReceive => exact execRunnerFlitReceive_keepsKept
  | laneFault => exact execLaneFault_keepsKept
  | busSample => exact execBusSample_within.keepsKept rfl
  | modulatorStuck => exact execModulatorStuck_within.keepsKept rfl
  | busBelowPack => exact execBusBelowPack_within.keepsKept rfl
  | sourcePresenceRise => exact execSourcePresenceRise_within.keepsKept rfl
  | sourceLost => exact execSourceLost_within.keepsKept rfl
  | sourceQualified => exact execSourceQualified_within.keepsKept rfl
  | srcLimitWrite => exact execSrcLimitWrite_within.keepsKept rfl
  | srcModeWrite => exact execSrcModeWrite_within.keepsKept rfl
  | islandDonorFloor => exact execIslandDonorFloor_within.keepsKept rfl
  | islandSourceReturn => exact execIslandSourceReturn_within.keepsKept rfl
  | hbChargerTransition => exact execHbChargerTransition_within.keepsKept rfl
  | hbFault => exact execHbFault_within.keepsKept rfl
  | shipWake => exact execShipWake_keepsKept
  | currentUpdate => exact execCurrentUpdate_within.keepsKept rfl
  | apply => exact execApply_within.keepsKept rfl
  | riseAbort => exact execRiseAbort_within.keepsKept rfl
  | softLevelUpdate => exact execSoftLevelUpdate_within.keepsKept rfl
  | startBackoffEnd => exact execStartBackoffEnd_within.keepsKept rfl
  | retriesReset => exact execRetriesReset_within.keepsKept rfl
  | peakLimitTruncate => exact execPeakLimitTruncate_within.keepsKept rfl
  | phcEnableWrite => exact execPhcEnableWrite_within.keepsKept rfl
  | syncInEdge => exact execSyncInEdge_within.keepsKept rfl
  | syncLoss => exact execSyncLoss_within.keepsKept rfl
  | syncRelock => exact execSyncRelock_within.keepsKept rfl
  | phaseAddMeasured => exact execPhaseAddMeasured_within.keepsKept rfl
  | phaseShed => exact execPhaseShed_within.keepsKept rfl
  | phaseHandoverEnd => exact execPhaseHandoverEnd_within.keepsKept rfl
  | gangWrite => exact execGangWrite_within.keepsKept rfl
  | imbalanceCheck => exact execImbalanceCheck_within.keepsKept rfl
  | drvFault => exact execDrvFault_within.keepsKept rfl
  | runaway => exact execRunaway_within.keepsKept rfl
  | commitStale => exact execCommitStale_within.keepsKept rfl
  | idPinClose => exact execIdPinClose_within.keepsKept rfl
  | debounceEnd => exact execDebounceEnd_within.keepsKept rfl
  | wetTestComplete => exact execWetTestComplete_within.keepsKept rfl
  | idDecode => exact execIdDecode_within.keepsKept rfl
  | identificationComplete => exact execIdentificationComplete_within.keepsKept rfl
  | identificationFail => exact execIdentificationFail_within.keepsKept rfl
  | identRetry => exact execIdentRetry_within.keepsKept rfl
  | identityLoss => exact execIdentityLoss_within.keepsKept rfl
  | packRemoval => exact execPackRemoval_within.keepsKept rfl
  | slotEnableWrite => exact execSlotEnableWrite_within.keepsKept rfl
  | slotFaultClear => exact execSlotFaultClear_within.keepsKept rfl
  | chargePhaseAdvance => exact execChargePhaseAdvance_within.keepsKept rfl
  | cvEntry => exact execCvEntry_within.keepsKept rfl
  | packSag => exact execPackSag_within.keepsKept rfl
  | chargePhaseTimeout => exact execChargePhaseTimeout_within.keepsKept rfl
  | cvMaxExpiry => exact execCvMaxExpiry_within.keepsKept rfl
  | cvMaxParkFail => exact execCvMaxParkFail_within.keepsKept rfl
  | slotSuspend => exact execSlotSuspend_within.keepsKept rfl
  | ntcBothInvalid => exact execNtcBothInvalid_within.keepsKept rfl
  | taperCheck => exact execTaperCheck_within.keepsKept rfl
  | serialPoll => exact execSerialPoll_within.keepsKept rfl
  | transferEnd => exact execTransferEnd_within.keepsKept rfl
  | auditFillComplete => exact execAuditFillComplete_within.keepsKept rfl
  | auditRestEnd => exact execAuditRestEnd_within.keepsKept rfl
  | auditPause => exact execAuditPause_within.keepsKept rfl
  | auditResume => exact execAuditResume_within.keepsKept rfl
  | auditEmpty => exact execAuditEmpty_within.keepsKept rfl
  | auditPauseLimit => exact execAuditPauseLimit_within.keepsKept rfl
  | fgOvTrip => exact execFgOvTrip_within.keepsKept rfl
  | fgOcTrip => exact execFgOcTrip_within.keepsKept rfl
  | fgRvTrip => exact execFgRvTrip_within.keepsKept rfl
  | fgNtcTrip => exact execFgNtcTrip_within.keepsKept rfl
  | tickBoundary => exact execTickBoundary_keepsKept
  | tickFreeze => exact execTickFreeze_within.keepsKept rfl
  | quotaOverRepeat => exact execQuotaOverRepeat_within.keepsKept rfl
  | resvAtRisk => exact execResvAtRisk_within.keepsKept rfl
  | resvDeadline => exact execResvDeadline_within.keepsKept rfl
  | rootHandover => exact execRootHandover_keepsKept
  | almViewSelect => exact execAlmViewSelect_within.keepsKept rfl
  | mainsCrossing => exact execMainsCrossing_within.keepsKept rfl
  | icvConversionStart => exact execIcvConversionStart_within.keepsKept rfl
  | icvIntegrationEnd => exact execIcvIntegrationEnd_within.keepsKept rfl
  | icvConversionTimeout => exact execIcvConversionTimeout_within.keepsKept rfl
  | icvPassStart => exact execIcvPassStart_within.keepsKept rfl
  | icvTrigger => exact execIcvTrigger_within.keepsKept rfl
  | groupTrigger => exact execGroupTrigger_within.keepsKept rfl
  | groupStart => exact execGroupStart_within.keepsKept rfl
  | urgentConversionStart => exact execUrgentConversionStart_within.keepsKept rfl
  | fcvConversionEnd => exact execFcvConversionEnd_within.keepsKept rfl
  | refereeFinding => exact execRefereeFinding_within.keepsKept rfl
  | fcvSelfTest => exact execFcvSelfTest_within.keepsKept rfl
  | fcvLostInjectionCheck => exact execFcvLostInjectionCheck_within.keepsKept rfl
  | dacInjectWrite => exact execDacInjectWrite_within.keepsKept rfl
  | calAverageDone => exact execCalAverageDone_within.keepsKept rfl
  | coulombSample => exact execCoulombSample_within.keepsKept rfl
  | gauAccRead => exact execGauAccRead_within.keepsKept rfl
  | gaugeReportUpdate => exact execGaugeReportUpdate_within.keepsKept rfl
  | autoZeroTrim => exact execAutoZeroTrim_within.keepsKept rfl
  | fullAnchor => exact execFullAnchor_within.keepsKept rfl
  | gaugeSnapshotTimed => exact execGaugeSnapshotTimed_within.keepsKept rfl
  | currentXcheck => exact execCurrentXcheck_within.keepsKept rfl
  | currentReferee => exact execCurrentReferee_within.keepsKept rfl
  | outputVReferee => exact execOutputVReferee_within.keepsKept rfl
  | pcieLaneFault => exact execPcieLaneFault_keepsKept
  | doorbellPoll => exact execDoorbellPoll_within.keepsKept rfl
  | descriptorFetch => exact execDescriptorFetch_within.keepsKept rfl
  | msixModerationTimeout => exact execMsixModerationTimeout_within.keepsKept rfl
  | statusLineWrite => exact execStatusLineWrite_within.keepsKept rfl
  | flr => exact execFlr_keepsKept
  | d3hotEntry => exact execD3hotEntry_within.keepsKept rfl
  | hostReadError => exact execHostReadError_within.keepsKept rfl
  | doorbellPageWrite => exact execDoorbellPageWrite_within.keepsKept rfl
  | ringEnableWrite => exact execRingEnableWrite_within.keepsKept rfl
  | nop => exact execNop_within.keepsKept rfl
  | slotClaim => exact execSlotClaim_within.keepsKept rfl
  | slotRelease => exact execSlotRelease_within.keepsKept rfl
  | chargeStart => exact execChargeStart_within.keepsKept rfl
  | chargeTerminate => exact execChargeTerminate_within.keepsKept rfl
  | setLimits => exact execSetLimits_within.keepsKept rfl
  | reserve => exact execReserve_within.keepsKept rfl
  | transfer => exact execTransfer_within.keepsKept rfl
  | audit => exact execAudit_within.keepsKept rfl
  | gaugeRestore => exact execGaugeRestore_within.keepsKept rfl
  | gaugeSnapshot => exact execGaugeSnapshot_within.keepsKept rfl
  | measTableLoad => exact execMeasTableLoad_within.keepsKept rfl
  | measUrgent => exact execMeasUrgent_within.keepsKept rfl
  | calZero => exact execCalZero_within.keepsKept rfl
  | calFull => exact execCalFull_within.keepsKept rfl
  | twbXfer => exact execTwbXfer_within.keepsKept rfl
  | pdPolicyHold => exact execPdPolicyHold_within.keepsKept rfl
  | pdPolicyRelease => exact execPdPolicyRelease_within.keepsKept rfl
  | pdPolicySet => exact execPdPolicySet_within.keepsKept rfl
  | pdPolicySoftReset => exact execPdPolicySoftReset_within.keepsKept rfl
  | pdPolicyHardReset => exact execPdPolicyHardReset_within.keepsKept rfl
  | enterService => exact execEnterService_within.keepsKept rfl
  | exitService => exact execExitService_within.keepsKept rfl
  | wdgAnswer => exact execWdgAnswer_within.keepsKept rfl
  | fence => exact execFence_within.keepsKept rfl
  | quotaSet => exact execQuotaSet_within.keepsKept rfl
  | keyWrite => exact execKeyWrite_within.keepsKept rfl
  | microcodeStage => exact execMicrocodeStage_within.keepsKept rfl
  | microcodeStageComplete => exact execMicrocodeStageComplete_within.keepsKept rfl
  | microcodeRoll => exact execMicrocodeRoll_within.keepsKept rfl
  | microcodeAbort => exact execMicrocodeAbort_within.keepsKept rfl
  | microcodeDiscard => exact execMicrocodeDiscard_within.keepsKept rfl
  | unknownOpcode => exact execUnknownOpcode_within.keepsKept rfl
  | keepWrite ok => exact absurd rfl (hkeep ok)
  | wdgQuestion => exact execWdgQuestion_within.keepsKept rfl
  | rateLimit => exact execRateLimit_within.keepsKept rfl
  | twbTransactionStart => exact execTwbTransactionStart_within.keepsKept rfl
  | twbTransactionEnd => exact execTwbTransactionEnd_within.keepsKept rfl
  | identBusRetry => exact execIdentBusRetry_within.keepsKept rfl
  | twbSclTimeout => exact execTwbSclTimeout_within.keepsKept rfl
  | twbSdaTimeout => exact execTwbSdaTimeout_within.keepsKept rfl
  | twbArbLoss => exact execTwbArbLoss_within.keepsKept rfl
  | twbTargetTransaction => exact execTwbTargetTransaction_within.keepsKept rfl
  | twbSleep => exact execTwbSleep_within.keepsKept rfl
  | twbAlertIn => exact execTwbAlertIn_within.keepsKept rfl
  | twbAlertReread => exact execTwbAlertReread_within.keepsKept rfl
  | alertReq => exact execAlertReq_within.keepsKept rfl
  | cancel => exact execCancel_within.keepsKept rfl
  | recover => exact execRecover_within.keepsKept rfl
  | twbXferTimeout => exact execTwbXferTimeout_within.keepsKept rfl
  | pdRdDetect => exact execPdRdDetect_within.keepsKept rfl
  | pdAttach => exact execPdAttach_within.keepsKept rfl
  | pdVbusReady => exact execPdVbusReady_within.keepsKept rfl
  | pdCableIdentity => exact execPdCableIdentity_within.keepsKept rfl
  | pdRequest => exact execPdRequest_within.keepsKept rfl
  | pdPsRdy => exact execPdPsRdy_within.keepsKept rfl
  | pdEprEnter => exact execPdEprEnter_within.keepsKept rfl
  | pdEprKeepaliveTimeout => exact execPdEprKeepaliveTimeout_within.keepsKept rfl
  | pdVconnSwap => exact execPdVconnSwap_within.keepsKept rfl
  | pdVconnOvercurrent => exact execPdVconnOvercurrent_within.keepsKept rfl
  | pdHardReset => exact execPdHardReset_within.keepsKept rfl
  | pdHardResetPark => exact execPdHardResetPark_within.keepsKept rfl
  | pdVsafe0vHoldEnd => exact execPdVsafe0vHoldEnd_within.keepsKept rfl
  | pdSoftResetReceived => exact execPdSoftResetReceived_within.keepsKept rfl
  | pdSoftResetTimeout => exact execPdSoftResetTimeout_within.keepsKept rfl
  | pdUnsupportedMessage => exact execPdUnsupportedMessage_within.keepsKept rfl
  | pdEnterModeAck => exact execPdEnterModeAck_within.keepsKept rfl
  | pdDetach => exact execPdDetach_within.keepsKept rfl
  | pdOvp => exact execPdOvp_within.keepsKept rfl
  | pdOcp => exact execPdOcp_within.keepsKept rfl
  | pdErrorRecoveryEnd => exact execPdErrorRecoveryEnd_within.keepsKept rfl
  | pdFaultClear => exact execPdFaultClear_within.keepsKept rfl
  | taskPeriod => exact execTaskPeriod_within.keepsKept rfl
  | taskFault => exact execTaskFault_within.keepsKept rfl
  | pairDisagree => exact execPairDisagree_within.keepsKept rfl
  | pairSelfTestEnd => exact execPairSelfTestEnd_within.keepsKept rfl
  | taskMigrationResume => exact execTaskMigrationResume_within.keepsKept rfl
  | bedFault => exact execBedFault_within.keepsKept rfl
  | barrierRelease => exact execBarrierRelease_within.keepsKept rfl
  | barrierTimeout => exact execBarrierTimeout_within.keepsKept rfl
  | rolloutBedStep => exact execRolloutBedStep_within.keepsKept rfl
  | pairSnapshotSelect => exact execPairSnapshotSelect_within.keepsKept rfl
  | tineBreakpointHit => exact execTineBreakpointHit_within.keepsKept rfl
  | thresholdReadback => exact execThresholdReadback_within.keepsKept rfl
  | sundialSilent => exact execSundialSilent_keepsKept
  | sysWdgQuestion => exact execSysWdgQuestion_keepsKept
  | autoWarm env => exact absurd rfl (hauto env)
  | wdgClockFail => exact execWdgClockFail_keepsKept
  | pllUnlock => exact execPllUnlock_keepsKept
  | latentTest => exact execLatentTest_within.keepsKept rfl
  | sspNop => exact execSspNop_keepsKept
  | sspRead => exact execSspRead_keepsKept
  | sspHeartbeat => exact execSspHeartbeat_keepsKept
  | sspHaltReq => exact execSspHaltReq_keepsKept
  | buttonShipRequest => exact execButtonShipRequest_within.keepsKept rfl
  | buttonRunRequest => exact execButtonRunRequest_within.keepsKept rfl
  | hostCurtailWrite => exact execHostCurtailWrite_within.keepsKept rfl
  | warm env => exact absurd rfl (hwarm env)
  | thermalSensorRead => exact execThermalSensorRead_within.keepsKept rfl
  | thermalShutdown => exact execThermalShutdown_within.keepsKept rfl
  | sentinelRound => exact execSentinelRound_within.keepsKept rfl
  | brownout => exact execBrownout_keepsKept
  | brownoutEnd mv us env => exact absurd rfl (hbrown mv us env)
  | pinReset => exact execPinReset_keepsKept
  | feedLost => exact execFeedLost_within.keepsKept rfl
  | feedGood => exact execFeedGood_within.keepsKept rfl
  | crystalFail => exact execCrystalFail_keepsKept
  | pllRefSwitch => exact execPllRefSwitch_within.keepsKept rfl
  | pllRefReturn => exact execPllRefReturn_within.keepsKept rfl
  | islandOscFail => exact execIslandOscFail_keepsKept
  | timeTreeUpdate => exact execTimeTreeUpdate_within.keepsKept rfl
  | freezePin => exact execFreezePin_within.keepsKept rfl
  | freezeReleasePin => exact execFreezeReleasePin_keepsKept
  | samplePreload => exact execSamplePreload_within.keepsKept rfl
  | snapRead => exact execSnapRead_within.keepsKept rfl
  | tineDbgReadReg => exact execTineDbgReadReg_within.keepsKept rfl
  | tineDbgWriteReg => exact execTineDbgWriteReg_within.keepsKept rfl
  | tineDbgReadData => exact execTineDbgReadData_within.keepsKept rfl
  | tineDbgWriteData => exact execTineDbgWriteData_within.keepsKept rfl
  | tineDbgReadCode => exact execTineDbgReadCode_within.keepsKept rfl
  | tineDbgStep => exact execTineDbgStep_within.keepsKept rfl
  | tineDbgSetBreakpoint => exact execTineDbgSetBreakpoint_within.keepsKept rfl
  | tineDbgClearBreakpoint => exact execTineDbgClearBreakpoint_within.keepsKept rfl
  | tineDbgResume => exact execTineDbgResume_within.keepsKept rfl
  | svcLockKeyWrite => exact execSvcLockKeyWrite_within.keepsKept rfl
  | misalignedAccess => exact execMisalignedAccess_within.keepsKept rfl
  | registerWrite fn a size v env pulses => exact absurd rfl (hreg fn a size v env pulses)
  | linkUp => exact execLinkUp_within.keepsKept rfl
  | vfEnableWrite => exact execVfEnableWrite_keepsKept
  | d3hotExit => exact execD3hotExit_within.keepsKept rfl
  | resetNRelease env => exact absurd rfl (hnrel env)
  | systemRailInRange core pcie09 pcie18 io env => exact absurd rfl (hrail core pcie09 pcie18 io env)
  | startStepTimeout => exact execStartStepTimeout_keepsKept
  | twbStartSeen => exact execTwbStartSeen_within.keepsKept rfl
  | pdSenderResponseTimeout => exact execPdSenderResponseTimeout_within.keepsKept rfl
  | pdDiscoverResponse => exact execPdDiscoverResponse_within.keepsKept rfl
  | busSensorMismatch => exact execBusSensorMismatch_within.keepsKept rfl
  | busGuardTrip => exact execBusGuardTrip_within.keepsKept rfl
  | busOvervoltage => exact execBusOvervoltage_within.keepsKept rfl
  | busUndervoltage => exact execBusUndervoltage_within.keepsKept rfl
  | busUvRestart => exact execBusUvRestart_within.keepsKept rfl
  | demandSourceDisable => exact execDemandSourceDisable_within.keepsKept rfl
  | islandBusReady => exact execIslandBusReady_within.keepsKept rfl
  | hbTempRead => exact execHbTempRead_within.keepsKept rfl
  | hbTempSuspend => exact execHbTempSuspend_within.keepsKept rfl
  | accUvlo => exact execAccUvlo_within.keepsKept rfl
  | accRestart => exact execAccRestart_within.keepsKept rfl
  | mainsLockLoss => exact execMainsLockLoss_within.keepsKept rfl
  | mainsFreeTrigger => exact execMainsFreeTrigger_within.keepsKept rfl
  | calZeroExpiry => exact execCalZeroExpiry_within.keepsKept rfl
  | timeAnchor => exact execTimeAnchor_within.keepsKept rfl
  | perst => exact execPerst_keepsKept
  | pfFlr => exact execPfFlr_keepsKept
  | fenceRelease => exact execFenceRelease_within.keepsKept rfl
  | fenceTimeout => exact execFenceTimeout_within.keepsKept rfl
  | rolloutDwellEnd => exact execRolloutDwellEnd_within.keepsKept rfl
  | traceWindowRead => exact execTraceWindowRead_within.keepsKept rfl
  | sundialLockstepMismatch => exact execSundialLockstepMismatch_keepsKept
  | safCtrlHalt => exact execSafCtrlHalt_keepsKept
  | latentNow => exact execLatentNow_within.keepsKept rfl
  | safeRecovered => exact execSafeRecovered_within.keepsKept rfl
  | sspFrameError => exact execSspFrameError_within.keepsKept rfl
  | sspSilent => exact execSspSilent_within.keepsKept rfl
  | modeRequestShip => exact execModeRequestShip_within.keepsKept rfl
  | modeRequestSentinel => exact execModeRequestSentinel_within.keepsKept rfl
  | modeRequestRun => exact execModeRequestRun_within.keepsKept rfl
  | thermalCurtailOn => exact execThermalCurtailOn_within.keepsKept rfl
  | thermalCurtailOff => exact execThermalCurtailOff_within.keepsKept rfl
  | thermalShutdownEnd => exact execThermalShutdownEnd_within.keepsKept rfl
  | islandLowBattery => exact execIslandLowBattery_within.keepsKept rfl
  | por => exact execPor_keepsKept
  | snapStreamEnd => exact execSnapStreamEnd_keepsKept
  | bypass => exact execBypass_within.keepsKept rfl
  | idcode => exact execIdcode_within.keepsKept rfl
  | extest => exact execExtest_within.keepsKept rfl
  | freeze => exact execFreeze_within.keepsKept rfl
  | thaw => exact execThaw_keepsKept
  | thawDbg => exact execThawDbg_keepsKept
  | svcStatus => exact execSvcStatus_within.keepsKept rfl
  | glbTimeRead => exact execGlbTimeRead_within.keepsKept rfl
  | serviceLockFuseBlown => exact execServiceLockFuseBlown_within.keepsKept rfl
  -- `Instr.seal`, whose name is a word of Lean's own
  | _ => exact execSeal_within.keepsKept rfl

/-- Settles O10: every update of such a command's program spares the class K fields, so that the state it ends in shows them as before. -/
theorem keptFields : Obligations.KeptFields := by
  unfold Obligations.KeptFields
  intro c s t hst hc f hf hk i j k
  have hkeeps : KeepsKept (exec c) := by
    rcases hc with ⟨fn, a, size, v, env, pulses, rfl, ha, ha4⟩ | ⟨hreg, hkeep, hauto, hwarm, hbrown, hnrel, hrail⟩
    · exact execRegisterWrite_keepsKept ha ha4
    · exact exec_keepsKept c hreg hkeep hauto hwarm hbrown hnrel hrail
  obtain ⟨p, hp, he⟩ := hkeeps s
  rw [hst] at he
  rw [Host.Outcome.next.inj he]
  exact hp.rd hf hk s i j k

end Sys2Proof.Machine
end

section
/-! The doorbell polls (R339, R344, R346) and the fetch of a descriptor (R340, R350): which index a poll takes, and what a NOP that is
fetched moves on. -/

namespace Sys2Proof.Machine

/-! Doorbell polls (R339, R344, R346). -/

theorem leNat_lt (l : List Nat) : leNat l < 256 ^ l.length := by
  induction l with
  | nil => simp [leNat]
  | cons b l ih =>
    rw [leNat, List.length_cons, Nat.pow_succ]
    have hb : b % 256 < 256 := Nat.mod_lt _ (by decide)
    omega

theorem leAt_lt (bs : List Nat) (i n : Nat) : leAt bs i n < 256 ^ n :=
  (leNat_lt _).trans_le (Nat.pow_le_pow_right (by decide) (List.length_take_le _ _))

/-- A poll reads each ring's index at the ring's place in the line (R344). -/
theorem each_indexRead_lineWords (fn : Nat) (line : List Nat) :
    (each ((List.range 16).zip (lineWords line)) fun e => indexRead fn e.1 e.2) =
      each (List.range 16) fun q => indexRead fn q (leAt line (4 * q) 4) := rfl

theorem getD_lineWords (line : List Nat) {r : Nat} (hr : r < 16) : (lineWords line).getD r 0 = leAt line (4 * r) 4 := by
  simp [lineWords, List.getD_eq_getElem?_getD, hr]

section

variable {s : State} {fn r i : Nat}

theorem indexRead_run_disabled (h : s.flag Reg.RING_CTRL.EN fn r = false) : (indexRead fn r i).run s = s := by
  simp [indexRead, h]

/-- The producer index of a CMD ring that stands within the ring is taken, where it is new. -/
theorem indexRead_run_cmd (hen : s.flag Reg.RING_CTRL.EN fn r = true) (hty : s.rd Reg.RING_CTRL.TYPE fn r = 0)
    (hfit : (i + 2 ^ 32 - s.rd Reg.RING_DEV_IDX.DEV_IDX fn r) % 2 ^ 32 ≤ s.ringSize fn r) :
    (indexRead fn r i).run s = if i = s.rd Reg.RING_HOST_IDX.HOST_IDX fn r then s
      else (updRings (ringKey fn r) fun x => { x with short := false }).run (s.wr Reg.RING_HOST_IDX.HOST_IDX fn r 0 i) := by
  simp only [indexRead, Prog.run_read, hen, hty, not_true_eq_false, ↓reduceIte]
  rw [if_neg (Nat.not_lt.2 hfit)]
  split <;> rfl

/-- The consumer index of a device-written ring that stands within what the ring holds is taken. -/
theorem indexRead_run_device (hen : s.flag Reg.RING_CTRL.EN fn r = true) (hty : s.rd Reg.RING_CTRL.TYPE fn r ≠ 0)
    (hfit : (i + 2 ^ 32 - s.rd Reg.RING_HOST_IDX.HOST_IDX fn r) % 2 ^ 32 ≤
      (s.rd Reg.RING_DEV_IDX.DEV_IDX fn r + 2 ^ 32 - s.rd Reg.RING_HOST_IDX.HOST_IDX fn r) % 2 ^ 32) :
    (indexRead fn r i).run s = s.wr Reg.RING_HOST_IDX.HOST_IDX fn r 0 i := by
  simp only [indexRead, Prog.run_read, hen, hty, not_true_eq_false, ↓reduceIte]
  rw [if_neg (Nat.not_lt.2 hfit)]
  rfl

theorem State.fnr_congr {s t : State} (h : t.fns = s.fns) (k : Nat) : t.fnr k = s.fnr k := by
  unfold State.fnr
  rw [h]

/-- An index is taken: it is the ring's host index, and neither the enables of rings nor the functions' records change. -/
structure IndexTaken (s t : State) (fn r i : Nat) : Prop where
  host : t.rd Reg.RING_HOST_IDX.HOST_IDX fn r = i
  en : ∀ q, t.flag Reg.RING_CTRL.EN fn q = s.flag Reg.RING_CTRL.EN fn q
  fns : t.fns = s.fns

theorem indexTaken_wr (hi : i < 2 ^ 32) : IndexTaken s (s.wr Reg.RING_HOST_IDX.HOST_IDX fn r 0 i) fn r i where
  host := by
    rw [State.rd_wr_same _ _ _ _ _ _ rfl]
    exact Nat.mod_eq_of_lt hi
  en q := by
    unfold State.flag
    rw [State.rd_wr_ne _ _ _ _ _ _ _ _ _ _ (Or.inl (by decide))]
  fns := State.wr_fns ..

theorem indexTaken_cmd (hi : i < 2 ^ 32) (hen : s.flag Reg.RING_CTRL.EN fn r = true) (hty : s.rd Reg.RING_CTRL.TYPE fn r = 0)
    (hfit : (i + 2 ^ 32 - s.rd Reg.RING_DEV_IDX.DEV_IDX fn r) % 2 ^ 32 ≤ s.ringSize fn r) :
    IndexTaken s ((indexRead fn r i).run s) fn r i := by
  rw [indexRead_run_cmd hen hty hfit]
  split
  · exact ⟨Eq.symm ‹_›, fun _ => rfl, rfl⟩
  · obtain ⟨host, en, fns⟩ := indexTaken_wr (s := s) (fn := fn) (r := r) hi
    exact ⟨host, en, fns⟩

theorem indexTaken_device (hi : i < 2 ^ 32) (hen : s.flag Reg.RING_CTRL.EN fn r = true) (hty : s.rd Reg.RING_CTRL.TYPE fn r ≠ 0)
    (hfit : (i + 2 ^ 32 - s.rd Reg.RING_HOST_IDX.HOST_IDX fn r) % 2 ^ 32 ≤
      (s.rd Reg.RING_DEV_IDX.DEV_IDX fn r + 2 ^ 32 - s.rd Reg.RING_HOST_IDX.HOST_IDX fn r) % 2 ^ 32) :
    IndexTaken s ((indexRead fn r i).run s) fn r i := by
  rw [indexRead_run_device hen hty hfit]
  exact indexTaken_wr hi

theorem each_cons_run {α : Type} (a : α) (l : List α) (g : α → Prog) : (each (a :: l) g).run s = (each l g).run ((g a).run s) := rfl

/-- Rings that are not enabled take no index. -/
theorem indexReads_disabled {w : Nat → Nat} {l : List Nat} (h : ∀ q ∈ l, s.flag Reg.RING_CTRL.EN fn q = false) :
    (each l fun q => indexRead fn q (w q)).run s = s := by
  induction l with
  | nil => rfl
  | cons q l ih =>
    obtain ⟨hq, hl⟩ := List.forall_mem_cons.1 h
    rw [each_cons_run, indexRead_run_disabled hq, ih hl]

/-- Of rings of which one alone is enabled, that one's index is read. -/
theorem indexReads_only {w : Nat → Nat} {l : List Nat} (hnd : l.Nodup) (hr : r ∈ l)
    (hoff : ∀ q ∈ l, q ≠ r → s.flag Reg.RING_CTRL.EN fn q = false)
    (htaken : IndexTaken s ((indexRead fn r (w r)).run s) fn r (w r)) :
    (each l fun q => indexRead fn q (w q)).run s = (indexRead fn r (w r)).run s := by
  induction l with
  | nil => cases hr
  | cons q l ih =>
    obtain ⟨hq, hl⟩ := List.nodup_cons.1 hnd
    obtain ⟨hoffq, hoffl⟩ := List.forall_mem_cons.1 hoff
    rw [each_cons_run]
    by_cases hqr : q = r
    · subst hqr
      refine indexReads_disabled fun q' hq' => ?_
      rw [htaken.en]
      exact hoffl q' hq' (fun e => hq (e ▸ hq'))
    · rw [indexRead_run_disabled (hoffq hqr)]
      exact ih hl ((List.mem_cons.1 hr).resolve_left (Ne.symm hqr)) hoffl

end

/-- The state once a poll has been noted and before its indices are read (R346). -/
def State.polledNow (s : State) (fn : Nat) (line : List Nat) : State :=
  (updFns fn fun x => { x with
    pollAt := some s.time, line0 := lineWords line,
    activeUntil := if x.line0 = lineWords line then x.activeUntil else s.time + 10000 }).run s

theorem polledNow_fnr (s : State) (fn : Nat) (line : List Nat) :
    ((s.polledNow fn line).fnr fn).line0 = lineWords line ∧ ((s.polledNow fn line).fnr fn).pollAt = some s.time := by
  simp [State.polledNow, updFns]

/-- A poll that is due, of a function of which one ring is enabled: that ring's index is taken where it stands within the ring. -/
theorem doorbellPoll_only {s : State} (hs : s.stopped = false) {fn r : Nat} {line : List Nat} (hon : s.hifOn = true)
    (hup : s.fnUp fn = true) (hen : s.flag Reg.FN_DB_LO.EN fn = true) (hd3 : (s.fnr fn).d3hot = false) (hdue : s.pollDue fn = true)
    (hr : r < 16) (hoff : ∀ q ∈ List.range 16, q ≠ r → s.flag Reg.RING_CTRL.EN fn q = false)
    (htaken : IndexTaken (s.polledNow fn line) ((indexRead fn r (leAt line (4 * r) 4)).run (s.polledNow fn line)) fn r
      (leAt line (4 * r) 4)) :
    Does (.doorbellPoll fn line) s fun t => t.rd Reg.RING_HOST_IDX.HOST_IDX fn r = (lineWords line).getD r 0 ∧
      (t.fnr fn).line0 = lineWords line ∧ (t.fnr fn).pollAt = some s.time := by
  have hreads := indexReads_only (s := s.polledNow fn line) (w := fun q => leAt line (4 * q) 4) List.nodup_range
    (List.mem_range.2 hr) hoff htaken
  refine does_of_ends hs rfl ?_
  simp only [Prog.run_read, hon, hup, hen, hd3, hdue, Bool.and_self, Bool.not_false, if_true, seqs_cons_run, seqs_nil_run]
  rw [each_indexRead_lineWords, ← State.polledNow, hreads]
  have hfnr (u : State) (hu : u.fns = (s.polledNow fn line).fns) : (pollReport.run u).fnr fn = (s.polledNow fn line).fnr fn :=
    State.fnr_congr ((pollReport_touch.fns u rfl).trans hu) fn
  rw [pollReport_touch.rd _ _ rfl rfl, htaken.host, getD_lineWords line hr, hfnr _ htaken.fns]
  exact ⟨rfl, polledNow_fnr s fn line⟩

/-! Descriptors (R340, R350, R357). -/

section

variable {s t : State} {fn r : Nat}

/-- An entry moves its ring's producer index on by one (R342). -/
theorem ringPost_devIdx {entry : Nat → List Nat} {now : Bool} :
    ((ringPost fn r entry now).run s).rd Reg.RING_DEV_IDX.DEV_IDX fn r = (s.rd Reg.RING_DEV_IDX.DEV_IDX fn r + 1) % 2 ^ 32 := by
  simp only [ringPost, Prog.run_read, seqs_cons_run, seqs_nil_run]
  rw [ringModerate_touch.rd _ _ rfl rfl, emit_touch.rd _ _ rfl rfl, setR_run, State.rd_wr_same _ _ _ _ _ _ rfl]
  exact Nat.mod_mod _ _

theorem ringPost_devIdx_ne {entry : Nat → List Nat} {now : Bool} {q : Nat} (hq : q ≠ r) :
    ((ringPost fn r entry now).run s).rd Reg.RING_DEV_IDX.DEV_IDX fn q = s.rd Reg.RING_DEV_IDX.DEV_IDX fn q := by
  simp only [ringPost, Prog.run_read, seqs_cons_run, seqs_nil_run]
  rw [ringModerate_touch.rd _ _ rfl rfl, emit_touch.rd _ _ rfl rfl, setR_run,
    State.rd_wr_ne _ _ _ _ _ _ _ _ _ _ (Or.inr (Or.inr (Or.inl hq))), emit_touch.rd _ _ rfl rfl]

/-- The device can write a completion of the function (R340, R368, R537). -/
structure CanPost (s : State) (fn ring : Nat) : Prop where
  cpl : s.ringIs 1 fn (s.rd Reg.RING_CTRL.CPL_RING fn ring) = true
  alive : s.hifDead = false
  d0 : (s.fnr fn).d3hot = false

theorem complete_run {c : Ctl} {opcode status result detail : Nat} (hq : c.quiet = false) (h : CanPost s c.fn c.ring) :
    ∃ entry, (complete c opcode status result detail).run s =
      (updFns c.fn fun x => { x with activeUntil := s.time + 10000 }).run
        ((ringPost c.fn (s.rd Reg.RING_CTRL.CPL_RING c.fn c.ring) entry c.irq).run
          ((updRings (ringKey c.fn (s.rd Reg.RING_CTRL.CPL_RING c.fn c.ring)) fun x => { x with reserved := x.reserved - 1 }).run s)) := by
  simp only [complete, Prog.run_read, hq, h.cpl, h.alive, h.d0]
  exact ⟨_, rfl⟩

/-- A completion moves its ring's producer index on by one (R357). -/
theorem complete_devIdx {c : Ctl} {opcode status result detail : Nat} (hq : c.quiet = false) (h : CanPost s c.fn c.ring) :
    ((complete c opcode status result detail).run s).rd Reg.RING_DEV_IDX.DEV_IDX c.fn (s.rd Reg.RING_CTRL.CPL_RING c.fn c.ring) =
      (s.rd Reg.RING_DEV_IDX.DEV_IDX c.fn (s.rd Reg.RING_CTRL.CPL_RING c.fn c.ring) + 1) % 2 ^ 32 := by
  obtain ⟨entry, hrun⟩ := complete_run (opcode := opcode) (status := status) (result := result) (detail := detail) hq h
  rw [hrun]
  exact ringPost_devIdx

theorem complete_devIdx_ne {c : Ctl} {opcode status result detail : Nat} (hq : c.quiet = false) (h : CanPost s c.fn c.ring) {q : Nat}
    (hne : q ≠ s.rd Reg.RING_CTRL.CPL_RING c.fn c.ring) :
    ((complete c opcode status result detail).run s).rd Reg.RING_DEV_IDX.DEV_IDX c.fn q = s.rd Reg.RING_DEV_IDX.DEV_IDX c.fn q := by
  obtain ⟨entry, hrun⟩ := complete_run (opcode := opcode) (status := status) (result := result) (detail := detail) hq h
  rw [hrun]
  exact ringPost_devIdx_ne hne

end

theorem readPayload_nop {b : List Nat} (h0 : byteAt b 0 = 0) (hs : strayByte b [] = none) : readPayload b = .ok .nop := by
  simp [readPayload, h0, payload, hs]

theorem issuerBad_of_fetchBad {s : State} {c : Ctl} {b : List Nat} {inChain long : Bool} (h : fetchBad s c b inChain long = none) :
    issuerBad s (byteAt b 0) c = none := by
  simp only [fetchBad] at h
  split at h
  · cases h
  · split at h
    · cases h
    · assumption

/-- Two states in which the checks of a function's descriptors and their completions come out alike. -/
structure SameIssuer (s t : State) (fn : Nat) : Prop where
  rd : ∀ f : Fld, f.id ≠ Reg.RING_DEV_IDX.DEV_IDX.id → ∀ i j k : Nat, t.rd f i j k = s.rd f i j k
  clk : t.clk = s.clk
  history : (t.fnr fn).history = (s.fnr fn).history
  d3hot : (t.fnr fn).d3hot = (s.fnr fn).d3hot

section

variable {s t u : State} {fn ring : Nat}

theorem SameIssuer.flag (h : SameIssuer s t fn) {f : Fld} (hf : f.id ≠ Reg.RING_DEV_IDX.DEV_IDX.id) (i j k : Nat) :
    t.flag f i j k = s.flag f i j k := by
  unfold State.flag
  rw [h.rd f hf]

theorem SameIssuer.trans (h : SameIssuer s t fn) (h' : SameIssuer t u fn) : SameIssuer s u fn where
  rd f hf i j k := (h'.rd f hf i j k).trans (h.rd f hf i j k)
  clk := h'.clk.trans h.clk
  history := h'.history.trans h.history
  d3hot := h'.d3hot.trans h.d3hot

theorem SameIssuer.of_regs_fns_clk (hregs : t.regs = s.regs) (hfns : t.fns = s.fns) (hclk : t.clk = s.clk) : SameIssuer s t fn where
  rd f _ i j k := by unfold State.rd; rw [hregs]
  clk := hclk
  history := by rw [State.fnr_congr hfns]
  d3hot := by rw [State.fnr_congr hfns]

theorem SameIssuer.issuerBad (h : SameIssuer s t fn) (c : Ctl) (code : Nat) :
    issuerBad t code c = issuerBad s code c := by
  have hlive : t.flag Reg.FN_STATUS.LIVE c.fn = s.flag Reg.FN_STATUS.LIVE c.fn := h.flag (by decide) _ _ _
  simp only [Machine.issuerBad, hlive]

theorem SameIssuer.fetchBad (h : SameIssuer s t fn) (c : Ctl) (b : List Nat) (inChain long : Bool) :
    fetchBad t c b inChain long = fetchBad s c b inChain long := by
  simp only [Machine.fetchBad, h.issuerBad]

theorem SameIssuer.doneBefore (h : SameIssuer s t fn) {c : Ctl} (hc : c.fn = fn) (code : Nat) :
    t.doneBefore code c = s.doneBefore code c := by
  unfold State.doneBefore
  rw [hc, h.history]

theorem SameIssuer.canPost (h : SameIssuer s t fn) (hs : CanPost s fn ring) : CanPost t fn ring := by
  have hcpl : t.rd Reg.RING_CTRL.CPL_RING fn ring = s.rd Reg.RING_CTRL.CPL_RING fn ring := h.rd _ (by decide) _ _ _
  refine ⟨?_, ?_, ?_⟩
  · have h1 := hs.cpl
    simp only [State.ringIs] at h1 ⊢
    rw [hcpl, h.flag (by decide), h.rd _ (by decide)]
    exact h1
  · have h2 := hs.alive
    simp only [State.hifDead, State.isleGone] at h2 ⊢
    rw [h.clk]
    exact h2
  · rw [h.d3hot]
    exact hs.d0

/-- A NOP that passes every check completes and does nothing else (R351). -/
theorem descRun_nop {c : Ctl} (hi : issuerBad s 0 c = none) (hd : s.doneBefore 0 c = false) :
    (descRun 0 (.ok .nop) c).run s = (complete c 0 stOk (s.rd Reg.ALM_TICK.TICK)).run ((tokenNote c).run s.counted) := by
  have hi' : issuerBad s.counted 0 c = none := hi
  have hd' : s.counted.doneBefore 0 c = false := hd
  have hown : ownBad s.counted 0 (.ok .nop) c = none := by
    simp only [ownBad, hd']
    rfl
  rw [descRun, if_neg (by decide)]
  show Prog.run (match (issuerBad s.counted 0 c).or (ownBad s.counted 0 (.ok .nop) c) with
    | some (st, d) => complete c 0 st 0 d
    | none => Op.nop.act c) s.counted = _
  rw [hi', hown]
  rfl

theorem sameIssuer_counted : SameIssuer s s.counted fn := .of_regs_fns_clk rfl rfl rfl

theorem sameIssuer_tokenNote {c : Ctl} : SameIssuer s ((tokenNote c).run s) fn := .of_regs_fns_clk rfl rfl rfl

/-- A NOP that passes every check: its completion ring's producer index goes on by one, and no other index of the function. -/
theorem descRun_nop_devIdx {c : Ctl} (hq : c.quiet = false) (hp : CanPost s c.fn c.ring) (hi : issuerBad s 0 c = none)
    (hd : s.doneBefore 0 c = false) :
    let t := (descRun 0 (.ok .nop) c).run s
    let cpl := s.rd Reg.RING_CTRL.CPL_RING c.fn c.ring
    t.rd Reg.RING_DEV_IDX.DEV_IDX c.fn cpl = (s.rd Reg.RING_DEV_IDX.DEV_IDX c.fn cpl + 1) % 2 ^ 32 ∧
      ∀ q, q ≠ cpl → t.rd Reg.RING_DEV_IDX.DEV_IDX c.fn q = s.rd Reg.RING_DEV_IDX.DEV_IDX c.fn q := by
  have hp' : CanPost ((tokenNote c).run s.counted) c.fn c.ring := (sameIssuer_counted.trans sameIssuer_tokenNote).canPost hp
  rw [descRun_nop hi hd]
  exact ⟨complete_devIdx hq hp', fun q hne => complete_devIdx_ne hq hp' hne⟩

theorem single_run_nop {c : Ctl} {b : List Nat} (h0 : byteAt b 0 = 0) (hstray : strayByte b [] = none)
    (hbad : fetchBad s c b false false = none) : (single c b).run s = (descRun 0 (.ok .nop) c).run s := by
  simp only [single, Prog.run_read, hbad, h0, readPayload_nop h0 hstray]

/-- The state in which a descriptor runs that has been taken from the place `first` of a ring (R340). -/
def State.fetched (s : State) (fn ring first cpl : Nat) : State :=
  (seqs [stallSet fn ring false, turnTaken fn,
    setR Reg.RING_DEV_IDX.DEV_IDX ((first + 1) % 2 ^ 32) fn ring,
    updRings (ringKey fn cpl) fun x => { x with reserved := x.reserved + 1 },
    emit (.hostWrite fn (s.dbPage fn + 64 + 4 * ring) (leBytes 4 ((first + 1) % 2 ^ 32)))]).run s

variable {first cpl : Nat}

theorem fetchMembers_single_run {b : List Nat} (hf : s.fenced fn ring (wideBytes b) = false) (hfree : 1 ≤ s.cplFree fn cpl) :
    (fetchMembers fn ring first cpl (some [b])).run s =
      (single (readCtl fn ring (first % 2 ^ 32) false b) b).run (s.fetched fn ring first cpl) := by
  simp only [fetchMembers, Prog.run_read]
  rw [if_neg (by simpa using hf), if_neg (by simpa using Nat.one_le_iff_ne_zero.1 hfree)]
  rfl

theorem fetched_devIdx : (s.fetched fn ring first cpl).rd Reg.RING_DEV_IDX.DEV_IDX fn ring = (first + 1) % 2 ^ 32 := by
  simp only [State.fetched, seqs_cons_run, seqs_nil_run]
  rw [emit_touch.rd _ _ rfl rfl]
  show (State.wr _ _ _ _ _ _).rd _ _ _ _ = _
  rw [State.rd_wr_same _ _ _ _ _ _ rfl]
  exact Nat.mod_mod _ _

theorem fetched_devIdx_ne {q : Nat} (hq : q ≠ ring) :
    (s.fetched fn ring first cpl).rd Reg.RING_DEV_IDX.DEV_IDX fn q = s.rd Reg.RING_DEV_IDX.DEV_IDX fn q := by
  simp only [State.fetched, seqs_cons_run, seqs_nil_run]
  rw [emit_touch.rd _ _ rfl rfl]
  show (State.wr _ _ _ _ _ _).rd _ _ _ _ = _
  rw [State.rd_wr_ne _ _ _ _ _ _ _ _ _ _ (Or.inr (Or.inr (Or.inl hq))), turnTaken_touch.rd _ _ rfl rfl, stallSet_touch.rd _ _ rfl rfl]

theorem sameIssuer_wr_devIdx {r v : Nat} : SameIssuer s (s.wr Reg.RING_DEV_IDX.DEV_IDX fn r 0 v) fn where
  rd f hf i j k := State.rd_wr_ne _ _ _ _ _ _ _ _ _ _ (Or.inl hf)
  clk := State.wr_clk ..
  history := by rw [State.fnr_congr (State.wr_fns ..)]
  d3hot := by rw [State.fnr_congr (State.wr_fns ..)]

theorem sameIssuer_writeStatus : SameIssuer s ((writeStatus fn).run s) fn := by
  simp only [writeStatus, Prog.run_read]
  split
  · exact ⟨fun _ _ _ _ _ => rfl, rfl, by simp [updFns, emit, updOut], by simp [updFns, emit, updOut]⟩
  · exact .of_regs_fns_clk rfl rfl rfl

theorem sameIssuer_stallSet {v : Bool} : SameIssuer s ((stallSet fn ring v).run s) fn := by
  have hrings : SameIssuer s ((updRings (ringKey fn ring) fun x => { x with stalled := v }).run s) fn := .of_regs_fns_clk rfl rfl rfl
  simp only [stallSet, Prog.run_read, Prog.run_seq]
  split
  · exact hrings
  · exact hrings.trans sameIssuer_writeStatus

theorem sameIssuer_fetched : SameIssuer s (s.fetched fn ring first cpl) fn := by
  have hstall : SameIssuer s ((stallSet fn ring false).run s) fn := sameIssuer_stallSet
  have hturn {u : State} : SameIssuer u ((turnTaken fn).run u) fn := .of_regs_fns_clk rfl rfl rfl
  have hout {u : State} {g : RingRec → RingRec} {o : Out} :
      SameIssuer u ((emit o).run ((updRings (ringKey fn cpl) g).run u)) fn := .of_regs_fns_clk rfl rfl rfl
  exact ((hstall.trans hturn).trans sameIssuer_wr_devIdx).trans hout

end

theorem execDescriptorFetch_run {s : State} {fn ring : Nat} {mem : List (List Nat)} (hs : s.stopped = false) (ht : s.takes fn ring = true)
    (hturn : s.awaitsTurn fn = false) (hcmd : s.ringIs 0 fn ring = true) (hav : s.descAvail fn ring ≠ 0)
    (hcpl : s.ringIs 1 fn (s.rd Reg.RING_CTRL.CPL_RING fn ring) = true) :
    exec (.descriptorFetch fn ring mem) s = .next ((fetchMembers fn ring (s.rd Reg.RING_DEV_IDX.DEV_IDX fn ring)
      (s.rd Reg.RING_CTRL.CPL_RING fn ring) (membersOf 16 (mem.take (s.descAvail fn ring)))).run s) := by
  show execDescriptorFetch fn ring mem s = _
  simp [execDescriptorFetch, ends, hs, ht, hturn, hcmd, hav, hcpl]

theorem ringIs_type {s : State} {ty fn r : Nat} (h : s.ringIs ty fn r = true) : s.rd Reg.RING_CTRL.TYPE fn r = ty := by
  simp only [State.ringIs, Bool.and_eq_true, beq_iff_eq] at h
  exact h.2

theorem canPost_of_takes {s : State} {fn ring : Nat} (ht : s.takes fn ring = true)
    (hcpl : s.ringIs 1 fn (s.rd Reg.RING_CTRL.CPL_RING fn ring) = true) : CanPost s fn ring := by
  simp only [State.takes, State.hifOn, Bool.and_eq_true, Bool.not_eq_true'] at ht
  obtain ⟨⟨⟨⟨-, halive⟩, -⟩, hd3⟩, -⟩ := ht
  exact ⟨hcpl, halive, hd3⟩

/-- A NOP that is taken from a CMD ring and passes every check moves the ring's consumer index and its completion ring's producer index on
by one. -/
theorem fetchMembers_nop_devIdx {s : State} {fn ring : Nat} {b : List Nat} (hp : CanPost s fn ring)
    (hne : s.rd Reg.RING_CTRL.CPL_RING fn ring ≠ ring) (hfence : s.fenced fn ring (wideBytes b) = false)
    (hfree : 1 ≤ s.cplFree fn (s.rd Reg.RING_CTRL.CPL_RING fn ring)) (h0 : byteAt b 0 = 0) (hstray : strayByte b [] = none) {first : Nat}
    (hbad : fetchBad s (readCtl fn ring (first % 2 ^ 32) false b) b false false = none)
    (hquiet : (readCtl fn ring (first % 2 ^ 32) false b).quiet = false)
    (hdone : s.doneBefore 0 (readCtl fn ring (first % 2 ^ 32) false b) = false) :
    let cpl := s.rd Reg.RING_CTRL.CPL_RING fn ring
    let t := (fetchMembers fn ring first cpl (some [b])).run s
    t.rd Reg.RING_DEV_IDX.DEV_IDX fn ring = (first + 1) % 2 ^ 32 ∧
      t.rd Reg.RING_DEV_IDX.DEV_IDX fn cpl = (s.rd Reg.RING_DEV_IDX.DEV_IDX fn cpl + 1) % 2 ^ 32 := by
  intro cpl
  have same : SameIssuer s (s.fetched fn ring first cpl) fn := sameIssuer_fetched
  have hcpl : (s.fetched fn ring first cpl).rd Reg.RING_CTRL.CPL_RING fn ring = cpl := same.rd _ (by decide) _ _ _
  have hbad' := (same.fetchBad (readCtl fn ring (first % 2 ^ 32) false b) b false false).trans hbad
  have hissuer : issuerBad (s.fetched fn ring first cpl) 0 (readCtl fn ring (first % 2 ^ 32) false b) = none := h0 ▸ issuerBad_of_fetchBad hbad'
  obtain ⟨hon, hkept⟩ := descRun_nop_devIdx hquiet (same.canPost hp) hissuer ((same.doneBefore rfl 0).trans hdone)
  rw [fetchMembers_single_run hfence hfree, single_run_nop h0 hstray hbad']
  constructor
  · exact (hkept ring fun e => hne (hcpl.symm.trans e.symm)).trans fetched_devIdx
  · have hon' : _ = ((s.fetched fn ring first cpl).rd Reg.RING_DEV_IDX.DEV_IDX fn cpl + 1) % 2 ^ 32 := hcpl ▸ hon
    rw [fetched_devIdx_ne hne] at hon'
    exact hon'

/-- Settles O28: the polls by the one enabled ring whose index is read, the fetch by the NOP that runs once it has been taken. -/
theorem doorbellsAndFetches : Obligations.DoorbellsAndFetches := by
  unfold Obligations.DoorbellsAndFetches
  refine ⟨fun s hs => ⟨?_, ?_⟩, ?_⟩
  · intro fn r line hon hup hdb hd3 hdue _ _ hr hen hty hoff hfit
    rw [getD_lineWords line hr] at hfit
    exact doorbellPoll_only hs hon hup hdb hd3 hdue hr hoff (indexTaken_cmd (leAt_lt _ _ _) hen hty hfit)
  · intro fn r line hon hup hdb hd3 hdue _ _ hr hen hty hoff hfit
    rw [getD_lineWords line hr] at hfit
    obtain ⟨t, he, hidx, -, -⟩ := doorbellPoll_only hs hon hup hdb hd3 hdue hr hoff (indexTaken_device (leAt_lt _ _ _) hen hty hfit)
    exact ⟨t, he, hidx⟩
  · intro s hs fn r b mem ht hturn hcmd hav hcpl hone hfence hfree h0 hstray hbad hquiet hdone
    have hne : s.rd Reg.RING_CTRL.CPL_RING fn r ≠ r := fun e => by
      have hty := ringIs_type hcpl
      rw [e, ringIs_type hcmd] at hty
      cases hty
    refine ⟨_, execDescriptorFetch_run hs ht hturn hcmd hav hcpl, ?_⟩
    rw [hone]
    exact fetchMembers_nop_devIdx (canPost_of_takes ht hcpl) hne hfence hfree h0 hstray hbad hquiet hdone

end Sys2Proof.Machine
end

section
/-! What a program leaves as it was: one field of a register, or one view of a record, where
Laws/Touch.lean speaks of whole tables. -/

namespace Sys2Proof.Machine

/-- A program leaves what `g` shows of the state as it was. -/
def Prog.Keeps {β : Type} (g : State → β) (p : Prog) : Prop := ∀ s, g (p.run s) = g s

section

variable {β : Type} {g : State → β} {p q : Prog} {M : Nat} {f f' : Fld} {i j k i' j' k' v : Nat}

@[simp] theorem keeps_skip : Prog.skip.Keeps g := fun _ => rfl
@[simp] theorem keeps_seqs_nil : (seqs []).Keeps g := fun _ => rfl

theorem keeps_seq (hp : p.Keeps g) (hq : q.Keeps g) : (Prog.seq p q).Keeps g := fun s => (hq _).trans (hp s)
theorem keeps_read {r : State → Prog} (h : ∀ s, (r s).Keeps g) : (Prog.read r).Keeps g := fun s => h s s

theorem keeps_ite {c : Prop} [Decidable c] (hp : p.Keeps g) (hq : q.Keeps g) : (if c then p else q).Keeps g := by
  split
  · exact hp
  · exact hq

theorem keeps_cons {l : List Prog} (hp : p.Keeps g) (hl : (seqs l).Keeps g) : (seqs (p :: l)).Keeps g := keeps_seq hp hl

theorem keeps_seqs {l : List Prog} (h : ∀ p ∈ l, p.Keeps g) : (seqs l).Keeps g := by
  induction l with
  | nil => exact keeps_skip
  | cons p l ih =>
    obtain ⟨hp, hl⟩ := List.forall_mem_cons.1 h
    exact keeps_cons hp (ih hl)

theorem keeps_each {α : Type} {l : List α} {r : α → Prog} (h : ∀ x, (r x).Keeps g) : (each l r).Keeps g :=
  keeps_seqs fun p hp => by
    obtain ⟨x, -, rfl⟩ := List.mem_map.1 hp
    exact h x

theorem keeps_when {c : State → Bool} (h : p.Keeps g) : (when c p).Keeps g := keeps_read fun _ => keeps_ite h keeps_skip

/-- What a program leaves as it was shows no less of the state than a view of it does. -/
theorem Prog.Keeps.view {γ : Type} (h : p.Keeps g) (w : β → γ) : p.Keeps fun s => w (g s) := fun s => congrArg w (h s)

/-! By what a program touches. -/

theorem Prog.Touches.keepsRd (h : p.Touches M) (hf : M.testBit f.id = false) (hc : M.testBit 700 = false) :
    p.Keeps fun s => s.rd f i j k := fun s => h.rd s f hf hc i j k

theorem Prog.Touches.keepsTask (h : p.Touches M) {t : Nat} {w : TaskRec → β} (hM : M.testBit 727 = false) :
    p.Keeps fun s => w (s.task t) := fun s => congrArg (fun l => w (Tab.get ({} : TaskRec) l t)) (h.tasks s hM)

theorem Prog.Touches.keepsPair (h : p.Touches M) {n : Nat} (hM : M.testBit 726 = false) : p.Keeps fun s => s.pair n := fun s =>
  congrArg (fun l => Tab.get ({} : PairRec) l n) (h.pairs s hM)

theorem Prog.Touches.keepsLane (h : p.Touches M) {n : Nat} (hM : M.testBit 705 = false) : p.Keeps fun s => s.lane n := fun s =>
  congrArg (fun l => Tab.get ({} : LaneRec) l n) (h.lanes s hM)

theorem touch_ite {c : Prop} [Decidable c] (hp : p.Touches M) (hq : q.Touches M) : (if c then p else q).Touches M := by
  split
  · exact hp
  · exact hq

/-! Register fields. -/

/-- An update of another field, or of a record. -/
theorem keepsRd_act {a : Act} (h : a.cell ≠ f.id) (hc : a.cell ≠ 700) : (Prog.act a).Keeps fun s => s.rd f i j k :=
  Prog.Touches.keepsRd (M := 2 ^ a.cell) (touch_act (Nat.testBit_two_pow_self ..)) (Nat.testBit_two_pow_of_ne h) (Nat.testBit_two_pow_of_ne hc)

theorem keepsRd_setR (h : f'.id ≠ f.id) : (setR f' v i' j' k').Keeps fun s => s.rd f i j k :=
  fun _ => State.rd_wr_ne _ _ _ _ _ _ _ _ _ _ (.inl h.symm)

theorem keepsRd_incSat (h : f'.id ≠ f.id) : (incSat f' i' j' k').Keeps fun s => s.rd f i j k := keeps_read fun _ => keepsRd_setR h

theorem keepsRd_updR {u : State → Nat} (h : f'.id ≠ f.id) : (updR f' u i' j' k').Keeps fun s => s.rd f i j k :=
  keeps_read fun _ => keepsRd_setR h

@[simp] theorem keepsRd_updHouse {r : HouseRec → HouseRec} : (updHouse r).Keeps fun s => s.rd f i j k := fun _ => rfl
@[simp] theorem keepsRd_updGrid {r : GridRec → GridRec} : (updGrid r).Keeps fun s => s.rd f i j k := fun _ => rfl
@[simp] theorem keepsRd_updAlm {r : AlmRec → AlmRec} : (updAlm r).Keeps fun s => s.rd f i j k := fun _ => rfl
@[simp] theorem keepsRd_updEng {r : EngRec → EngRec} : (updEng r).Keeps fun s => s.rd f i j k := fun _ => rfl
@[simp] theorem keepsRd_updSun {r : SunRec → SunRec} : (updSun r).Keeps fun s => s.rd f i j k := fun _ => rfl
@[simp] theorem keepsRd_updClk {r : ClkRec → ClkRec} : (updClk r).Keeps fun s => s.rd f i j k := fun _ => rfl
@[simp] theorem keepsRd_updSvc {r : SvcRec → SvcRec} : (updSvc r).Keeps fun s => s.rd f i j k := fun _ => rfl
@[simp] theorem keepsRd_updPairs {n : Nat} {r : PairRec → PairRec} : (updPairs n r).Keeps fun s => s.rd f i j k := fun _ => rfl
@[simp] theorem keepsRd_updTasks {n : Nat} {r : TaskRec → TaskRec} : (updTasks n r).Keeps fun s => s.rd f i j k := fun _ => rfl
@[simp] theorem keepsRd_slotsMap {r : Nat → SlotRec → SlotRec} : (Prog.act (.slotsMap r)).Keeps fun s => s.rd f i j k := fun _ => rfl
@[simp] theorem keepsRd_updPendZ {r : List PendZ → List PendZ} : (updPendZ r).Keeps fun s => s.rd f i j k := fun _ => rfl

theorem rd_wr_fits {s : State} (hf : f.hard = false) (hv : v < 2 ^ min f.w 32) : (s.wr f i j k v).rd f i j k = v := by
  rw [State.rd_wr_same _ _ _ _ _ _ hf, Nat.mod_eq_of_lt hv]

theorem rd_setR {s : State} (hf : f.hard = false) (hv : v < 2 ^ min f.w 32) : ((setR f v i j k).run s).rd f i j k = v := rd_wr_fits hf hv

/-- A counter counts up by one, and saturates. -/
theorem rd_incSat {s : State} {n m : Nat} (hf : f.hard = false) (hw : f.w ≤ 32) (hm : 2 ^ f.w - 1 = m) (h : s.rd f i j k = n) :
    ((incSat f i j k).run s).rd f i j k = min (n + 1) m := by
  have hpos : 0 < 2 ^ f.w := Nat.two_pow_pos _
  subst hm h
  refine rd_wr_fits hf ?_
  rw [min_eq_left hw]
  omega

/-- What a program left in a field stands until another one writes it. -/
theorem rd_after {s : State} (hp : p.Keeps fun s => s.rd f i j k) (h : s.rd f i j k = v) : (p.run s).rd f i j k = v := (hp s).trans h

theorem flag_of_keeps {s : State} (hp : p.Keeps fun s => s.rd f i j k) : (p.run s).flag f i j k = s.flag f i j k :=
  congrArg (· == 1) (hp s)

/-! Records of tasks. -/

theorem task_after {s : State} {t : Nat} {w : TaskRec → β} {x : β} (hp : p.Keeps fun s => w (s.task t)) (h : w (s.task t) = x) :
    w ((p.run s).task t) = x := (hp s).trans h

theorem keepsTask_setR {t : Nat} {w : TaskRec → β} : (setR f v i j k).Keeps fun s => w (s.task t) := fun _ => congrArg w (State.wr_task ..)

theorem keepsTask_incSat {t : Nat} {w : TaskRec → β} : (incSat f i j k).Keeps fun s => w (s.task t) := keeps_read fun _ => keepsTask_setR

theorem keepsTask_updTasks {t t' : Nat} {w : TaskRec → β} {r : TaskRec → TaskRec} (h : ∀ x, w (r x) = w x) :
    (updTasks t' r).Keeps fun s => w (s.task t) := fun s => by
  by_cases ht : t' = t
  · subst ht
    exact (congrArg w (Act.tasks_same ..)).trans (h _)
  · exact congrArg w (Act.tasks_ne _ _ ht _ _)

theorem updTasks_task {s : State} {t : Nat} {r : TaskRec → TaskRec} : ((updTasks t r).run s).task t = r (s.task t) := Act.tasks_same ..

theorem pair_after {s : State} {n : Nat} {x : PairRec} (hp : p.Keeps fun s => s.pair n) (h : s.pair n = x) : (p.run s).pair n = x :=
  (hp s).trans h

theorem keepsPair_setR {n : Nat} : (setR f v i j k).Keeps fun s => s.pair n := fun _ => State.wr_pair ..
theorem keepsPair_incSat {n : Nat} : (incSat f i j k).Keeps fun s => s.pair n := keeps_read fun _ => keepsPair_setR

theorem updPairs_pair {s : State} {n : Nat} {r : PairRec → PairRec} : ((updPairs n r).run s).pair n = r (s.pair n) := Act.pairs_same ..

theorem updLanes_lane {s : State} {n : Nat} {r : LaneRec → LaneRec} : ((updLanes n r).run s).lane n = r (s.lane n) := Act.lanes_same ..

end

/-- Where the units run, nothing is frozen and the device is not in SHIP (R593, R555). -/
theorem runs_of_stopped {s : State} (hs : s.stopped = false) : s.flag Reg.SVC_STATUS.FROZEN = false ∧ s.modeReg ≠ mShip := by
  simp only [State.stopped, Bool.or_eq_false_iff, beq_eq_false_iff_ne] at hs
  obtain ⟨hf, hm⟩ := hs
  refine ⟨hf, fun h => hm ?_⟩
  simp [State.mode, h, mShip, mService]

end Sys2Proof.Machine
end

section
/-! HALT (R532, R533): the state that it leads to, and its causes. -/

namespace Sys2Proof.Machine

/-- HALT with a cause and its detail (R533, R547). -/
structure HaltedBy (cause detail : Nat) (t : State) : Prop where
  mode : t.modeReg = mHalt
  cause : t.rd Reg.SAF_HALT.CAUSE = cause
  detail : t.rd Reg.SAF_HALT.DETAIL = detail

section

variable {s : State} {cause detail : Nat}

theorem haltCause_mem : Reg.SAF_HALT.CAUSE ∈ fieldTable := by decide +kernel
theorem haltDetail_mem : Reg.SAF_HALT.DETAIL ∈ fieldTable := by decide +kernel

/-- SAFE (R569) clears no class P field. -/
theorem keepsRd_safe {f : Fld} (hf : f ∈ fieldTable) (hp : f.keep = .p) :
    (Prog.act (.clear [.w, .f, .x] safeKeeps)).Keeps fun s => s.rd f := fun s => rd_clear hf (by rw [hp]; rfl) _ s _ _ _

theorem haltEnter_halts (hm : s.modeReg ≠ mHalt) (hs : s.modeReg ≠ mShip) (hc : cause < 256) (hd : detail < 256) :
    HaltedBy cause detail ((haltEnter cause detail).run s) := by
  simp only [haltEnter, Prog.run_read, hm, hs, or_self, if_false]
  constructor
  case mode => simp (disch := decide) [State.modeReg, State.rd_wr_ne, rd_wr_fits]
  case cause =>
    rw [seqs_cons_run, seqs_cons_run, seqs_cons_run]
    refine rd_after (keeps_seqs ?_) (rd_setR rfl hc)
    simp (disch := decide) [keepsRd_setR, keepsRd_incSat, keepsRd_act, keepsRd_safe haltCause_mem, discardWork_touch.keepsRd]
  case detail =>
    rw [seqs_cons_run, seqs_cons_run, seqs_cons_run, seqs_cons_run]
    refine rd_after (keeps_seqs ?_) (rd_setR rfl hd)
    simp (disch := decide) [keepsRd_setR, keepsRd_incSat, keepsRd_act, keepsRd_safe haltDetail_mem, discardWork_touch.keepsRd]

/-- What comes before HALT leaves the mode alone. -/
theorem haltEnter_halts_after {p : Prog} (hp : p.Keeps fun u => u.rd Reg.PWR_MODE.MODE) (hm : s.modeReg ≠ mHalt) (hs : s.modeReg ≠ mShip) (hc : cause < 256)
    (hd : detail < 256) : HaltedBy cause detail ((haltEnter cause detail).run (p.run s)) :=
  haltEnter_halts (ne_of_eq_of_ne (hp s) hm) (ne_of_eq_of_ne (hp s) hs) hc hd

theorem HaltedBy.mode_and_cause {t : State} (h : HaltedBy cause detail t) : t.modeReg = mHalt ∧ t.rd Reg.SAF_HALT.CAUSE = cause :=
  ⟨h.mode, h.cause⟩

end

section

variable {s : State} (hm : s.modeReg ≠ mHalt) (hsh : s.modeReg ≠ mShip)

include hm hsh

/-- The crystal and then the other watchdog clock: with both stopped D0 halts (R530). -/
theorem wdgClockSeen_halts (hon : hasBit (s.rd Reg.PWR_DOM.ON) 19 = true) (hlpo : s.flag Reg.WDG_STATUS.LPO_FAIL = true) :
    HaltedBy 0x04 0 ((wdgClockSeen 0).run s) := by
  have hrun : (wdgClockSeen 0).run s = (haltEnter 0x04 0).run ((setR Reg.WDG_STATUS.XTAL_FAIL 1).run s) := by
    simp [wdgClockSeen, when_run, wdgClockStopped, hon, hlpo]
  rw [hrun]
  exact haltEnter_halts_after (keepsRd_setR (by decide)) hm hsh (by decide) (by decide)

theorem pllUnlocked_halts (hon : hasBit (s.rd Reg.PWR_DOM.ON) 20 = true) : HaltedBy 0x07 0 (pllUnlocked.run s) := by
  have hrun : pllUnlocked.run s =
      (haltEnter 0x07 0).run ((seqs [setR Reg.CLK_STATUS.PLL_LOCK 0, incSat Reg.CLK_CNT.PLL_UNLOCKS]).run s) := by
    simp [pllUnlocked, when_run, hon]
  rw [hrun]
  refine haltEnter_halts_after (keeps_seqs ?_) hm hsh (by decide) (by decide)
  simp (disch := decide) [keepsRd_setR, keepsRd_incSat]

/-- A valid frame of the side port that asks for HALT where the PF allows it (R542). -/
theorem sspTake_halts {seq answer : Nat} (hallow : s.flag Reg.SAF_SSP.HALT_ALLOW = true) :
    HaltedBy 0x05 0 ((sspTake 3 seq 0xA5C3 answer).run s) := by
  have hrun : (sspTake 3 seq 0xA5C3 answer).run s = (haltEnter 0x05 0).run ((seqs [
      updSun fun x => { x with answer := (3, seq % 16, answer), validAt := s.time, silent := false },
      setR Reg.SAF_SSP.LAST_SEQ (seq % 16), setR Reg.SAF_STATUS.SSP_LIVE 1]).run s) := by
    simp [sspTake, hallow]
  rw [hrun]
  refine haltEnter_halts_after (keeps_seqs ?_) hm hsh (by decide) (by decide)
  simp (disch := decide) [keepsRd_setR]

/-- The state in which the loss of an island acts (R588). -/
def State.without (s : State) (i : Nat) : State := (updClk fun c => { c with isleOut := i :: c.isleOut }).run s

omit hm hsh in
theorem islandLost_run {i : Nat} (hin : s.isleGone i = false) : (islandLost i).run s = (islandActs i).run (s.without i) := by
  simp [islandLost, hin, State.without]

theorem haltEnter_halts_without {i : Nat} (hi : i < 256) : HaltedBy 0x08 i ((haltEnter 0x08 i).run (s.without i)) :=
  haltEnter_halts_after keepsRd_updClk hm hsh (by decide) hi

/-- An island whose work no other carries on, and that serves no bed, Planter or fabric link, is lost (R588). -/
theorem islandLost_halts {i : Nat} (h32 : 32 ≤ i) (h52 : i < 52) (hin : s.isleGone i = false) : HaltedBy 0x08 i ((islandLost i).run s) := by
  have hact (u : State) : (islandActs i).run u = (haltEnter 0x08 i).run u := by
    rw [islandActs, Prog.run_read, if_neg (by omega), if_neg (by omega), if_neg (by omega), if_neg (by omega), if_neg (by omega),
      if_neg (by omega), if_neg (by omega), if_pos (by omega)]
  rw [islandLost_run hin, hact]
  exact haltEnter_halts_without hm hsh (by omega)

/-- The second island of the pair that the ring's fabric runs on is lost (R24, R588). -/
theorem islandLost_halts_pair {i : Nat} (h52 : 52 ≤ i) (h53 : i ≤ 53) (hin : s.isleGone i = false) (hpair : s.isleGone (partner i) = true) :
    HaltedBy 0x08 i ((islandLost i).run s) := by
  have hpair' : (s.without i).isleGone (partner i) = true := by
    show (i :: s.clk.isleOut).contains (partner i) = true
    rw [List.contains_cons, Bool.or_eq_true]
    exact .inr hpair
  have hact : (islandActs i).run (s.without i) = (haltEnter 0x08 i).run (s.without i) := by
    rw [islandActs, Prog.run_read, if_neg (by omega), if_neg (by omega), if_pos ⟨h52, h53⟩, if_pos hpair']
  rw [islandLost_run hin, hact]
  exact haltEnter_halts_without hm hsh (by omega)

omit hm hsh in
/-- An island whose running oscillator fails on its backup is lost, after its registers and CLK_FAIL have told of it (R587). -/
theorem oscFail_run_dead {i : Nat} (hdead : hasBit (s.rd Reg.CLK_ISL_DEAD.DEAD (i / 32)) (i % 32) = false)
    (hback : hasBit (s.rd Reg.CLK_ISL_BACKUP.BACKUP (i / 32)) (i % 32) = true) :
    ∃ u, (oscFail i).run s = (islandLost i).run u ∧ u.modeReg = s.modeReg ∧ u.clk = s.clk := by
  have hrun : (oscFail i).run s = (islandLost i).run ((seqs [
      setR Reg.CLK_ISL_DEAD.DEAD (setBit (s.rd Reg.CLK_ISL_DEAD.DEAD (i / 32)) (i % 32)) (i / 32),
      updR Reg.CLK_STATUS.ISL_DEAD fun t => t.islandBits Reg.CLK_ISL_DEAD.DEAD, clkFail 4 i]).run s) := by
    simp [oscFail, hdead, hback]
  refine ⟨_, hrun, rd_after (keeps_seqs ?_) rfl, ?_⟩
  · simp (disch := decide) [keepsRd_setR, keepsRd_updR, clkFail_touch.keepsRd]
  · simp [clkFail_touch.clk _ rfl]

theorem oscFail_halts {i : Nat} (h32 : 32 ≤ i) (h52 : i < 52) (hin : s.isleGone i = false)
    (hdead : hasBit (s.rd Reg.CLK_ISL_DEAD.DEAD (i / 32)) (i % 32) = false)
    (hback : hasBit (s.rd Reg.CLK_ISL_BACKUP.BACKUP (i / 32)) (i % 32) = true) : HaltedBy 0x08 i ((oscFail i).run s) := by
  obtain ⟨u, hrun, hmode, hclk⟩ := oscFail_run_dead hdead hback
  have hin' : u.isleGone i = false := by rw [State.isleGone, hclk]; exact hin
  rw [hrun]
  exact islandLost_halts (hmode ▸ hm) (hmode ▸ hsh) h32 h52 hin'

/-- A fault of a fabric lane takes its sender's island out (R24, R30). -/
theorem laneFault_halts_pair {i dir : Nat} (h52 : 52 ≤ i) (h53 : i ≤ 53) (hin : s.isleGone i = false) (hpair : s.isleGone (partner i) = true) :
    HaltedBy 0x08 i ((laneFault true i dir).run s) := by
  have hrun : (laneFault true i dir).run s = (islandLost i).run ((updLanes (laneKey true i dir) fun x => { x with fails := 0 }).run s) := rfl
  rw [hrun]
  exact islandLost_halts_pair (s := (updLanes _ _).run s) hm hsh h52 h53 hin hpair

end

/-- Settles O53: each cause leads to `haltEnter` in a mode that is neither HALT nor SHIP. -/
theorem haltCauses : Obligations.HaltCauses := by
  unfold Obligations.HaltCauses
  intro s hs hm hsh
  have hfrozen := (runs_of_stopped hs).1
  have halted {cause : Nat} (hc : cause < 256) : HaltedBy cause 0 ((haltEnter cause 0).run s) := haltEnter_halts hm hsh hc (by decide)
  refine ⟨?_, ?_, ?_, ?_, ?_, ?_, ?_, ?_⟩
  · exact does_of_latching hfrozen hsh rfl (halted (by decide)).mode_and_cause
  · intro us hus hon
    refine does_of_ends hs (congrFun (if_neg (Nat.not_lt.2 hus)) s) ?_
    rw [when_run, if_pos hon]
    exact (halted (by decide)).mode_and_cause
  · intro us hus hon hlpo
    have hlong : ¬ (us < 20 ∨ 0 > 1) := by omega
    exact does_of_latching hfrozen hsh (congrFun (if_neg hlong) s) (wdgClockSeen_halts hm hsh hon hlpo).mode_and_cause
  · intro us hus hon
    exact does_of_latching hfrozen hsh (congrFun (if_neg (Nat.not_lt.2 hus)) s) (pllUnlocked_halts hm hsh hon).mode_and_cause
  · intro hbar
    refine does_of_always rfl ?_
    rw [when_run, if_pos hbar]
    exact (halted (by decide)).mode_and_cause
  · intro seq hen hon hallow
    have hssp : s.sspOn = true := by simp [State.sspOn, hen, hon]
    refine does_of_ends hs rfl ?_
    rw [when_run, if_pos hssp]
    have hemit : ((emit (.miso s.sspNext)).run s).modeReg = s.modeReg := rfl
    exact (sspTake_halts (s := (emit (.miso s.sspNext)).run s) (hemit ▸ hm) (hemit ▸ hsh) hallow).mode_and_cause
  · intro us hus hback hdead hin
    obtain ⟨hmode, hcause, hdetail⟩ := oscFail_halts hm hsh (by decide) (by decide) hin hdead hback
    refine does_of_ends hs rfl ?_
    rw [if_pos ⟨by decide, hus⟩]
    exact ⟨hmode, hcause, hdetail⟩
  · intro ns hns hpair hin
    obtain ⟨hmode, hcause, hdetail⟩ := laneFault_halts_pair (dir := 0) hm hsh (by decide) (by decide) hin hpair
    refine does_of_ends hs rfl ?_
    rw [if_neg (by simp [hns])]
    exact ⟨hmode, hcause, hdetail⟩

end Sys2Proof.Machine
end

section
/-! The clocks (R583, R587, R589), the lanes of links and fabric (R23, R24, R30) and the feeds (R633, R635). -/

namespace Sys2Proof.Machine

/-! Numbers with a bit set or clear. -/

theorem setBit_lt {v i n : Nat} (hv : v < 2 ^ n) (hi : i < n) : setBit v i < 2 ^ n := by
  unfold setBit
  split
  · exact hv
  · rename_i hbit
    have hodd : v / 2 ^ i % 2 ≠ 1 := by simpa [hasBit] using hbit
    have hpow : 2 ^ (n - i) = 2 * 2 ^ (n - i - 1) := by rw [← Nat.pow_succ', Nat.succ_eq_add_one]; congr 1; omega
    have hsplit : 2 ^ n = 2 ^ (n - i) * 2 ^ i := by rw [← Nat.pow_add]; congr 1; omega
    rw [hsplit] at hv ⊢
    have hdiv : v / 2 ^ i < 2 ^ (n - i) := Nat.div_lt_of_lt_mul (by rwa [Nat.mul_comm])
    rw [← Nat.div_lt_iff_lt_mul (Nat.two_pow_pos i), Nat.add_div_right _ (Nat.two_pow_pos i)]
    omega

theorem clrBit_le (v i : Nat) : clrBit v i ≤ v := by
  unfold clrBit
  split
  · exact Nat.sub_le ..
  · exact Nat.le_refl v

section

variable {s : State}

/-! The crystal and the PLL's reference (R583). -/

/-- What raising an event touches, as a mask (Laws/Touch.lean). -/
def raiseMask : Nat := 0x4c0000000000000008000000000000000000000000000000000000000000000000000000000000000000010001200000000000000000000000000000000000000000000000000000000000000000000000000000000000000

theorem keepsRd_raiseHealth {f : Fld} {i j k : Nat} (h : raiseMask.testBit f.id = false) : raiseHealth.Keeps fun u => u.rd f i j k :=
  raiseHealth_touch.keepsRd h rfl

/-- A health flag reads what it is set to, whether or not it read so before (R37). -/
theorem healthSet_rd {f : Fld} {v : State → Nat} (hf : f.hard = false) (hv : v s < 2 ^ min f.w 32) (h : raiseMask.testBit f.id = false) :
    ((healthSet f v).run s).rd f = v s := by
  rw [healthSet, Prog.run_read]
  split
  · assumption
  · rw [Prog.run_seq]
    exact rd_after (keepsRd_raiseHealth h) (rd_setR hf hv)

theorem keepsRd_healthSet {f f' : Fld} {v : State → Nat} (h : f'.id ≠ f.id) (hm : raiseMask.testBit f.id = false) :
    (healthSet f' v).Keeps fun u => u.rd f :=
  keeps_read fun _ => keeps_ite keeps_skip (keeps_seq (keepsRd_setR h) (keepsRd_raiseHealth hm))

theorem keepsLane_healthSet {f : Fld} {v : State → Nat} {n : Nat} : (healthSet f v).Keeps fun u => u.lane n :=
  keeps_read fun _ => keeps_ite keeps_skip (keeps_seq (fun _ => State.wr_lane ..) (raiseHealth_touch.keepsLane rfl))

theorem pllTo_rd {ref slew : Nat} (hr : ref < 4) : ((pllTo ref slew).run s).rd Reg.CLK_STATUS.PLL_REF = ref := by
  rw [pllTo, Prog.run_read]
  split
  · assumption
  · rw [seqs_cons_run]
    refine rd_after (keeps_seqs ?_) (rd_setR rfl hr)
    simp (disch := decide) [keepsRd_setR, keepsRd_incSat, clkFail_touch.keepsRd]

theorem pllTo_holds {ref slew : Nat} (h : s.rd Reg.CLK_STATUS.PLL_REF ≠ ref) :
    ((pllTo ref slew).run s).rd Reg.CLK_STATUS.HOLDOVER = 1 := by
  rw [pllTo, Prog.run_read, if_neg h, seqs_cons_run, seqs_cons_run]
  refine rd_after (keeps_seqs ?_) (rd_setR rfl (by decide))
  simp (disch := decide) [keepsRd_incSat, clkFail_touch.keepsRd]

/-- A crystal that stops while the LPO runs: the watchdog notes it, and leaves it for the LPO where it ran on it (R530). -/
theorem wdgClockStopped_crystal (hlpo : s.flag Reg.WDG_STATUS.LPO_FAIL = false) {f : Fld} {v : Nat}
    (huse : Reg.WDG_STATUS.CLK_USE.id ≠ f.id) (hcnt : Reg.WDG_CNT.CLK_SWITCHES.id ≠ f.id)
    (hraise : ∀ d, (raisePf evWdgClk srcDevice d).Keeps fun u => u.rd f) (h : (s.wr Reg.WDG_STATUS.XTAL_FAIL 0 0 0 1).rd f = v) :
    ((wdgClockStopped 0).run s).rd f = v := by
  simp only [wdgClockStopped, Prog.run_read, hlpo, if_true]
  rw [seqs_cons_run]
  refine rd_after (keeps_seqs ?_) h
  simp only [List.forall_mem_cons, List.not_mem_nil, false_imp_iff, implies_true, and_true, zero_ne_one, false_and, if_false, keeps_skip,
    true_and, Bool.false_eq_true]
  refine keeps_ite (keeps_seqs ?_) keeps_skip
  simp [keepsRd_setR huse, keepsRd_incSat hcnt, hraise]

/-- What the clocks and the health register show of a crystal that stops (R583, R37). -/
def crystalNoted (slew : Nat) : Prog := seqs [
  setR Reg.CLK_STATUS.XTAL_OK 0, setR Reg.CLK_STATUS.TIME_LPO 1, clkFail 0 0,
  healthSet Reg.GLB_HEALTH.XTAL_LOST fun _ => 1,
  when (fun t => t.rd Reg.CLK_STATUS.PLL_REF == 0) (pllTo 2 slew)]

theorem crystalStopped_run {slew : Nat} (hok : s.flag Reg.CLK_STATUS.XTAL_OK = true) :
    (crystalStopped slew).run s = (wdgClockStopped 0).run ((crystalNoted slew).run s) := by
  simp [crystalStopped, hok, crystalNoted]

theorem crystalNoted_rd {slew : Nat} :
    let t := (crystalNoted slew).run s
    t.rd Reg.CLK_STATUS.XTAL_OK = 0 ∧ t.rd Reg.CLK_STATUS.TIME_LPO = 1 ∧ t.rd Reg.GLB_HEALTH.XTAL_LOST = 1 := by
  refine ⟨?_, ?_, ?_⟩
  · rw [crystalNoted, seqs_cons_run]
    refine rd_after (keeps_seqs ?_) (rd_setR rfl (by decide))
    simp (disch := decide) [keepsRd_setR, clkFail_touch.keepsRd, keepsRd_healthSet, (touch_when pllTo_touch).keepsRd]
  · rw [crystalNoted, seqs_cons_run, seqs_cons_run]
    refine rd_after (keeps_seqs ?_) (rd_setR rfl (by decide))
    simp (disch := decide) [clkFail_touch.keepsRd, keepsRd_healthSet, (touch_when pllTo_touch).keepsRd]
  · rw [crystalNoted, seqs_cons_run, seqs_cons_run, seqs_cons_run, seqs_cons_run]
    refine rd_after (keeps_seqs ?_) (healthSet_rd rfl (by decide) (by decide))
    simp (disch := decide) [(touch_when pllTo_touch).keepsRd]

theorem crystalNoted_lpo {slew : Nat} : (crystalNoted slew).Keeps fun u => u.rd Reg.WDG_STATUS.LPO_FAIL := by
  refine keeps_seqs ?_
  simp (disch := decide) [keepsRd_setR, clkFail_touch.keepsRd, keepsRd_healthSet, (touch_when pllTo_touch).keepsRd]

/-- The crystal stops while the LPO runs (R583, R530). -/
theorem crystalStopped_rd {slew : Nat} (hok : s.flag Reg.CLK_STATUS.XTAL_OK = true) (hlpo : s.flag Reg.WDG_STATUS.LPO_FAIL = false) :
    let t := (crystalStopped slew).run s
    t.rd Reg.CLK_STATUS.XTAL_OK = 0 ∧ t.rd Reg.CLK_STATUS.TIME_LPO = 1 ∧ t.rd Reg.GLB_HEALTH.XTAL_LOST = 1 ∧
      t.rd Reg.WDG_STATUS.XTAL_FAIL = 1 := by
  obtain ⟨hxtal, htime, hlost⟩ := crystalNoted_rd (s := s) (slew := slew)
  have hlpo' : ((crystalNoted slew).run s).flag Reg.WDG_STATUS.LPO_FAIL = false := (flag_of_keeps crystalNoted_lpo).trans hlpo
  have noted {f : Fld} {v : Nat} (h : ((crystalNoted slew).run s).rd f = v) (hf : f.id ≠ Reg.WDG_STATUS.XTAL_FAIL.id) :
      (((crystalNoted slew).run s).wr Reg.WDG_STATUS.XTAL_FAIL 0 0 0 1).rd f = v :=
    (State.rd_wr_ne _ _ _ _ _ _ _ _ _ _ (.inl hf)).trans h
  have raised {f : Fld} (hf : raiseMask.testBit f.id = false) (d : Nat) : (raisePf evWdgClk srcDevice d).Keeps fun u => u.rd f :=
    raisePf_touch.keepsRd hf rfl
  rw [crystalStopped_run hok]
  refine ⟨?_, ?_, ?_, ?_⟩
  · exact wdgClockStopped_crystal hlpo' (by decide) (by decide) (raised (by decide)) (noted hxtal (by decide))
  · exact wdgClockStopped_crystal hlpo' (by decide) (by decide) (raised (by decide)) (noted htime (by decide))
  · exact wdgClockStopped_crystal hlpo' (by decide) (by decide) (raised (by decide)) (noted hlost (by decide))
  · exact wdgClockStopped_crystal hlpo' (by decide) (by decide) (raised (by decide)) (rd_wr_fits rfl (by decide))

/-! Islands (R587) and the copies of device time (R589). -/

/-- An island's first loss of an oscillator switches it to its backup (R587). -/
theorem oscFail_backup {i : Nat} (hdead : hasBit (s.rd Reg.CLK_ISL_DEAD.DEAD (i / 32)) (i % 32) = false)
    (hback : hasBit (s.rd Reg.CLK_ISL_BACKUP.BACKUP (i / 32)) (i % 32) = false) (hfit : s.rd Reg.CLK_ISL_BACKUP.BACKUP (i / 32) < 2 ^ 32) :
    let t := (oscFail i).run s
    t.rd Reg.CLK_ISL_BACKUP.BACKUP (i / 32) = setBit (s.rd Reg.CLK_ISL_BACKUP.BACKUP (i / 32)) (i % 32) ∧
      t.rd Reg.CLK_CNT.ISL_SWITCHES = min (s.rd Reg.CLK_CNT.ISL_SWITCHES + 1) 255 := by
  have hset : setBit (s.rd Reg.CLK_ISL_BACKUP.BACKUP (i / 32)) (i % 32) < 2 ^ 32 := setBit_lt hfit (Nat.mod_lt _ (by decide))
  simp only [oscFail, Prog.run_read, hdead, hback, Bool.false_eq_true, if_false]
  constructor
  · rw [seqs_cons_run]
    refine rd_after (keeps_seqs ?_) (rd_setR rfl hset)
    simp (disch := decide) [keepsRd_updR, keepsRd_incSat, clkFail_touch.keepsRd, (touch_ite bedFault_touch touch_skip).keepsRd]
  · rw [seqs_cons_run, seqs_cons_run, seqs_cons_run]
    refine rd_after (keeps_seqs ?_) ?_
    · simp (disch := decide) [clkFail_touch.keepsRd, (touch_ite bedFault_touch touch_skip).keepsRd]
    · exact rd_incSat rfl (by decide) rfl (rd_after (keepsRd_updR (by decide)) (rd_after (keepsRd_setR (by decide)) rfl))

theorem le_foldl_max (l : List (Nat × Nat)) (m : Nat) : m ≤ l.foldl (fun m e => max m e.2) m := by
  induction l generalizing m with
  | nil => exact Nat.le_refl m
  | cons e l ih => exact (Nat.le_max_left m e.2).trans (ih _)

/-- The largest correction of the last second stands in the register, and one above 4 µs is counted (R589). -/
theorem execTimeTreeUpdate_does {corr : Nat} (hs : s.stopped = false) :
    Does (.timeTreeUpdate corr) s fun t => min 255 corr ≤ t.rd Reg.CLK_TIME_ERR.MAX_CORR ∧
      (4 < corr → t.rd Reg.CLK_CNT.TIME_RESYNC = min (s.rd Reg.CLK_CNT.TIME_RESYNC + 1) 255) := by
  refine does_of_ends hs rfl ?_
  rw [Prog.run_read, seqs_cons_run, seqs_cons_run]
  constructor
  · have hmax (l : List (Nat × Nat)) : min 255 corr ≤ min 255 (l.foldl (fun m e => max m e.2) (max 0 corr)) :=
      min_le_min_left 255 ((Nat.le_max_right 0 corr).trans (le_foldl_max l _))
    refine (hmax _).trans_eq (rd_after (keeps_cons ?_ (keeps_cons ?_ keeps_seqs_nil))
      (rd_setR rfl (Nat.lt_succ_of_le (Nat.min_le_left ..)))).symm
    · exact keeps_ite (keepsRd_incSat (by decide)) keeps_skip
    · exact keeps_ite (keepsRd_setR (by decide)) keeps_skip
  · intro hcorr
    rw [if_pos hcorr, seqs_cons_run]
    refine rd_after (keeps_cons ?_ keeps_seqs_nil) ?_
    · exact keeps_ite (keepsRd_setR (by decide)) keeps_skip
    · exact rd_incSat rfl (by decide) rfl (rd_after (keepsRd_setR (by decide)) rfl)

/-! Lanes (R23, R24, R30). -/

/-- A link's lane steers to the spare lane, and the sender sends the flits of its buffer again (R24, R30). -/
theorem laneSteer_spares {link dir : Nat} (hspared : (s.lane (laneKey false link dir)).spared = false) :
    let x := s.lane (laneKey false link dir)
    ((laneSteer link dir).run s).lane (laneKey false link dir) =
      { x with spared := true, fails := 0, resent := x.replay.reverse, replays := x.replays + 1 } := by
  have hlane : laneKey false link dir = 2 * link + dir := rfl
  rw [hlane] at hspared ⊢
  simp only [laneSteer, Prog.run_read, hspared, Bool.false_eq_true, if_false, Prog.run_seq]
  exact (keepsLane_healthSet _).trans updLanes_lane

theorem laneSteer_health {link dir : Nat} (hspared : (s.lane (laneKey false link dir)).spared = false) (hlink : link < 4)
    (hfit : s.rd Reg.GLB_HEALTH.LANE_SPARED < 16) :
    ((laneSteer link dir).run s).rd Reg.GLB_HEALTH.LANE_SPARED = setBit (s.rd Reg.GLB_HEALTH.LANE_SPARED) link := by
  have hlane : laneKey false link dir = 2 * link + dir := rfl
  rw [hlane] at hspared
  simp only [laneSteer, Prog.run_read, hspared, Bool.false_eq_true, if_false, Prog.run_seq]
  exact healthSet_rd rfl (setBit_lt (n := 4) hfit hlink) (by decide)

/-- The sender's buffer once a flit has gone out: a flit sent again stands in it already (R23). -/
def LaneRec.sent (x : LaneRec) (flit : Nat) : LaneRec :=
  if x.resent.head? == some flit then x else { x with replay := (flit :: x.replay).take 8 }

theorem LaneRec.sent_new {x : LaneRec} {flit : Nat} (h : x.resent.head? ≠ some flit) :
    x.sent flit = { x with replay := (flit :: x.replay).take 8 } := if_neg (by simpa using h)

theorem LaneRec.sent_again {x : LaneRec} {flit : Nat} (h : x.resent.head? = some flit) : x.sent flit = x := if_pos (by simpa using h)

@[simp] theorem LaneRec.sent_fails (x : LaneRec) (flit : Nat) : (x.sent flit).fails = x.fails := by
  unfold LaneRec.sent; split <;> rfl
@[simp] theorem LaneRec.sent_resent (x : LaneRec) (flit : Nat) : (x.sent flit).resent = x.resent := by
  unfold LaneRec.sent; split <;> rfl
@[simp] theorem LaneRec.sent_spared (x : LaneRec) (flit : Nat) : (x.sent flit).spared = x.spared := by
  unfold LaneRec.sent; split <;> rfl

section

variable {fabric : Bool} {link dir flit got parity : Nat} (hthere : if fabric then link < 64 else link < 4 ∧ dir < 2)
  (hup : (s.lane (laneKey fabric link dir)).down = false)

include hthere hup

theorem flit_not_skipped : ¬ ((fabric = true ∧ link ≥ 64) ∨ (¬ fabric = true ∧ (link ≥ 4 ∨ dir ≥ 2)) ∨
    (s.lane (laneKey fabric link dir)).down = true) := by
  cases fabric
  · simp only [Bool.false_eq_true, if_false] at hthere
    simp [hup]
    omega
  · simp only [if_true] at hthere
    simp [hup]
    omega

/-- A flit whose parity holds (R23). -/
theorem execRunnerFlitReceive_good (hs : s.stopped = false) (hok : flitOk got parity = true) :
    Does (.runnerFlitReceive fabric link dir flit got parity) s fun t =>
      let x := s.lane (laneKey fabric link dir)
      t.lane (laneKey fabric link dir) =
        { x.sent flit with fails := 0, resent := if x.resent.head? == some flit then x.resent.tail else x.resent } := by
  refine does_of_ends hs rfl ?_
  simp only [Prog.run_read, if_neg (flit_not_skipped hthere hup), hok, if_true, Prog.run_seq, updLanes_lane]
  rw [← LaneRec.sent, LaneRec.sent_resent]

/-- The sender's record after a flit whose parity fails (R23). -/
def LaneRec.failed (x : LaneRec) (flit : Nat) : LaneRec :=
  { x.sent flit with fails := x.fails + 1, resent := (x.sent flit).replay.reverse, replays := (x.sent flit).replays + 1 }

/-- A flit whose parity fails is sent again with those behind it; the third failure in a row is a lane fault (R23, R24). -/
theorem execRunnerFlitReceive_bad (hs : s.stopped = false) (hbad : flitOk got parity = false) :
    ∃ u : State, u.lane (laneKey fabric link dir) = (s.lane (laneKey fabric link dir)).failed flit ∧
      exec (.runnerFlitReceive fabric link dir flit got parity) s =
        .next ((if (s.lane (laneKey fabric link dir)).fails + 1 ≥ 3 then laneFault fabric link dir else .skip).run u) := by
  refine ⟨?next, ?lane, ?exec⟩
  case exec =>
    show ends _ s = _
    simp only [ends, hs, Bool.false_eq_true, if_false, Prog.run_read, if_neg (flit_not_skipped hthere hup), hbad, Prog.run_seq]
    rfl
  case lane =>
    rw [updLanes_lane, updLanes_lane, ← LaneRec.sent, LaneRec.failed, LaneRec.sent_fails]

end

/-! The feeds (R633, R635). -/

theorem frontOn_dom (h : s.frontOn = true) : hasBit (s.rd Reg.PWR_DOM.ON) 22 = true := by
  simp only [State.frontOn, Bool.and_eq_true] at h
  exact h.2

/-- A Planter without a feed is a loss of coverage (R37). -/
theorem planterDead_coverage {p : Nat} : ((planterDead p).run s).flag Reg.GLB_HEALTH.COVERAGE_LOST = true := by
  rw [planterDead, seqs_cons_run, seqs_cons_run, seqs_cons_run, seqs_nil_run, State.flag, healthSet_rd rfl (by decide) (by decide)]
  rfl

/-- A feed is lost (R633, R635). -/
theorem feedGone_rd {feed : Nat} (hfeed : feed < 8) (hgood : hasBit (s.rd Reg.GLB_HEALTH_FE.FEED_LOST) feed = false)
    (hdom : hasBit (s.rd Reg.PWR_DOM.ON) 22 = true) (hfit : s.rd Reg.GLB_HEALTH_FE.FEED_LOST < 256) :
    let t := (feedGone feed).run s
    t.rd Reg.GLB_HEALTH_FE.FEED_LOST = setBit (s.rd Reg.GLB_HEALTH_FE.FEED_LOST) feed ∧
      (hasBit (s.rd Reg.GLB_HEALTH_FE.FEED_LOST) (twinFeed feed) = true → s.feedReturns (twinFeed feed) = false →
        t.flag Reg.GLB_HEALTH.COVERAGE_LOST = true) := by
  have hset : setBit (s.rd Reg.GLB_HEALTH_FE.FEED_LOST) feed < 2 ^ 8 := setBit_lt hfit hfeed
  rw [feedGone, Prog.run_read, if_neg (by simp [hgood, hdom]), seqs_cons_run]
  constructor
  · refine rd_after (keeps_cons (keepsRd_raiseHealth (by decide)) (keeps_cons ?_ keeps_seqs_nil)) (rd_setR rfl hset)
    exact (touch_ite planterDead_touch touch_skip).keepsRd rfl rfl
  · intro htwin hreturns
    rw [seqs_cons_run, seqs_cons_run, seqs_nil_run, if_pos (by simp [htwin, hreturns])]
    exact planterDead_coverage

end

/-- Settles O56: each command's effect by the operation that it leads to. -/
theorem clocksAndLanes : Obligations.ClocksAndLanes := by
  unfold Obligations.ClocksAndLanes
  intro s hs
  obtain ⟨hfrozen, hship⟩ := runs_of_stopped hs
  refine ⟨?_, ?_, ?_, ?_, fun corr => execTimeTreeUpdate_does hs, ?_, ?_, ?_, ?_, ?_, ?_, ?_⟩
  · intro us slew hus hok hlpo
    exact does_of_latching hfrozen hship (congrFun (if_neg (Nat.not_lt.2 hus)) s) (crystalStopped_rd hok hlpo)
  · intro noEdge hz slew href hfails hok
    refine does_of_ends hs rfl ?_
    have hfails' : noEdge ≥ 4 ∨ ¬ s.syncUsable hz = true := by simpa using hfails
    simp only [Prog.run_read, href, if_pos hfails', hok, if_true]
    exact ⟨pllTo_rd (by decide), pllTo_holds (by rw [href]; decide)⟩
  · intro ref hz ms slew hms hr hdom hsync hsel
    refine does_of_ends hs rfl ?_
    have htaken : ¬ (ms < 100 ∨ ref > 1 ∨ ¬ hasBit (s.rd Reg.PWR_DOM.ON) 20 = true ∨ (ref = 1 ∧ ¬ s.syncUsable hz = true)) := by
      simp only [hdom, not_true_eq_false, false_or]
      rintro (h | h | ⟨h, h'⟩)
      · omega
      · omega
      · exact h' (hsync h)
    simp only [Prog.run_read, if_neg htaken, Prog.run_seq, hsel, true_or, if_true]
    exact pllTo_rd (by omega)
  · intro i us silent hi hus hdead hback hfit
    refine does_of_ends hs rfl ?_
    have hlong : if silent = true then us ≥ 1 else us ≥ 10 := by split <;> omega
    rw [if_pos ⟨hi, hlong⟩]
    exact oscFail_backup hdead hback hfit
  · intro fabric link dir flit got parity hthere hup hok hnew
    obtain ⟨t, he, ht⟩ := execRunnerFlitReceive_good hthere hup hs hok
    refine ⟨t, he, ?_⟩
    simp only [ht, LaneRec.sent_new hnew, and_self]
  · intro fabric link dir flit got parity hthere hup hok hagain
    obtain ⟨t, he, ht⟩ := execRunnerFlitReceive_good hthere hup hs hok
    refine ⟨t, he, ?_⟩
    simp only [ht, LaneRec.sent_again hagain, hagain, BEq.rfl, if_true, and_self]
  · intro fabric link dir flit got parity hthere hup hbad hfew
    obtain ⟨u, hu, he⟩ := execRunnerFlitReceive_bad hthere hup hs hbad
    rw [if_neg (by omega)] at he
    exact ⟨u, he, congrArg LaneRec.fails hu, by rw [hu]; rfl⟩
  · intro link dir flit got parity hlink hdir hup hbad hmany hspared
    obtain ⟨u, hu, he⟩ := execRunnerFlitReceive_bad (fabric := false) ⟨hlink, hdir⟩ hup hs hbad
    have hspared' : (u.lane (laneKey false link dir)).spared = false := by
      rw [hu]
      exact (LaneRec.sent_spared _ flit).trans hspared
    rw [if_pos (by omega)] at he
    exact ⟨_, he, congrArg LaneRec.spared (laneSteer_spares hspared'), congrArg LaneRec.fails (laneSteer_spares hspared')⟩
  · intro link dir ns hlink hdir hns hspared hclear hfit
    refine does_of_ends hs rfl ?_
    rw [if_neg (by simp; omega)]
    refine ⟨?_, laneSteer_health hspared hlink hfit, ?_⟩
    · exact congrArg LaneRec.spared (laneSteer_spares hspared)
    · exact congrArg LaneRec.resent (laneSteer_spares hspared)
  · intro feed us hfeed hus hgood hfront hfit
    have hshort : ¬ (feed ≥ 8 ∨ us < 10) := by omega
    exact does_of_latching hfrozen hship (congrFun (if_neg hshort) s) (feedGone_rd hfeed hgood (frontOn_dom hfront) hfit)
  · intro feed us hfeed hus hlost hfront hfit
    refine does_of_ends hs rfl ?_
    have htaken : ¬ (feed ≥ 8 ∨ us < 10000 ∨ ¬ hasBit (s.rd Reg.GLB_HEALTH_FE.FEED_LOST) feed = true ∨ ¬ s.frontOn = true) := by
      simp only [hlost, hfront, not_true_eq_false, or_false]
      omega
    simp only [Prog.run_read, if_neg htaken, Prog.run_seq]
    exact rd_after (keepsRd_raiseHealth (by decide)) (rd_setR rfl ((clrBit_le _ _).trans_lt hfit))

end Sys2Proof.Machine
end

section
/-! The engines' tasks, pairs and beds (R30, R474, R476 to R487, R507). -/

namespace Sys2Proof.Machine

/-! What a task's instruction stream leaves alone (R474). -/

/-- What only a checkpoint changes: the period's number, and the sequence number and memory that the task goes back to (R478). -/
def TaskRec.checkpoint (x : TaskRec) : Nat × Nat × List (Nat × Nat) := (x.period, x.ckptSeq, x.ckptMem)

/-- The speculative state of a task: what its instruction stream has done since the checkpoint (R474, R478). -/
def TaskRec.work (x : TaskRec) : List StoreEntry × Nat × List (Nat × Nat) := (x.queue, x.seq, x.mem)

section

variable {t t' : Nat}

/-- An entry that leaves the queue is the queue's business no more (R474). -/
theorem storeLeaves_keeps {e : StoreEntry} : (storeLeaves t' e).Keeps fun s => ((s.task t).queue, (s.task t).checkpoint) := by
  have hup {r : TaskRec → TaskRec} (h : ∀ x, ((r x).queue, (r x).checkpoint) = (x.queue, x.checkpoint)) (n : Nat) :
      (updTasks n r).Keeps fun s => ((s.task t).queue, (s.task t).checkpoint) :=
    keepsTask_updTasks (w := fun x => (x.queue, x.checkpoint)) h
  have hout {o : Out} : (emit o).Keeps fun s => ((s.task t).queue, (s.task t).checkpoint) := fun _ => rfl
  refine keeps_read fun s => keeps_ite (hup (by intro; rfl) _) (keeps_ite hout (keeps_seq (hup (by intro; rfl) _) ?_))
  exact keeps_ite keeps_skip (keeps_seq hout (keeps_ite (hup (by intro; rfl) _) keeps_skip))

theorem storeDrain_keeps : (storeDrain t').Keeps fun s => (s.task t).checkpoint :=
  keeps_read fun _ => keeps_seq (keepsTask_updTasks fun _ => rfl) (keeps_each fun _ => storeLeaves_keeps.view Prod.snd)

theorem storeEnters_keeps {e : StoreEntry} : (storeEnters t' e).Keeps fun s => (s.task t).checkpoint :=
  keeps_seq (keeps_when (keeps_seq (keepsTask_updTasks fun _ => rfl) storeDrain_keeps)) (keepsTask_updTasks fun _ => rfl)

theorem tineAct_keeps {a : TineAct} : (tineAct t' a).Keeps fun s => (s.task t).checkpoint := by
  cases a with
  | effect kind target data => exact keeps_ite storeEnters_keeps keeps_skip
  | store addr data => exact keeps_ite storeEnters_keeps keeps_skip
  | load addr => rw [tineAct]; exact keepsTask_updTasks fun _ => rfl
  | read addr => exact keeps_read fun _ => keeps_ite (fun _ => rfl) storeEnters_keeps
  | commit => exact keeps_seq (keepsTask_updTasks fun _ => rfl) storeDrain_keeps
  | discard => rw [tineAct]; exact keepsTask_updTasks fun _ => rfl
  | arrive k => exact keeps_skip
  | trace kind data => exact keeps_read fun _ => keeps_ite (tracePair_touch.keepsTask rfl) keeps_skip

theorem cutActs_keeps {acts : List TineAct} : (cutActs t' acts).Keeps fun s => (s.task t).checkpoint :=
  keeps_seq (keeps_each fun _ => tineAct_keeps) tineAct_keeps

end

/-! The end of a period (R474, R478). -/

section

variable {s : State} {t : Nat}

/-- Acts without an arrival at a barrier run to the period's end, whatever the barriers of which the task is a member. -/
theorem splitArrive_none {acts : List TineAct} (h : (splitArrive (fun _ => true) acts).2 = none) (p : Nat → Bool) :
    (splitArrive p acts).2 = none := by
  induction acts with
  | nil => rfl
  | cons a acts ih =>
    cases a with
    | arrive k => cases h
    | _ => exact ih h

/-- A queue whose every entry has committed drains (R474). -/
theorem storeDrain_empties (h : ∀ e ∈ (s.task t).queue, e.done = true) : (((storeDrain t).run s).task t).queue = [] := by
  rw [storeDrain, Prog.run_read, Prog.run_seq]
  refine task_after (w := TaskRec.queue) (keeps_each fun _ => storeLeaves_keeps.view Prod.fst) ?_
  rw [updTasks_task]
  exact List.dropWhile_eq_nil_iff.2 h

/-- A period ends: every entry has left the queue, and the checkpoint is taken (R474, R478). -/
structure PeriodEnded (s u : State) (t : Nat) : Prop where
  period : (u.task t).period = ((s.task t).period + 1) % 2 ^ 32
  queue : (u.task t).queue = []
  seq : (u.task t).ckptSeq = (u.task t).seq
  mem : (u.task t).ckptMem = (u.task t).mem
  waits : (u.task t).waits = none

theorem checkpoint_ends {u v : State} (hq : (u.task t).queue = []) (hp : (u.task t).period = (s.task t).period)
    (hv : v = (checkpoint t).run u) : PeriodEnded s v t := by
  subst hv
  constructor <;> rw [checkpoint, updTasks_task]
  · rw [hp]
  · exact hq

theorem runPeriod_ends {cycles : Nat} {acts : List TineAct} (h : (splitArrive (fun _ => true) acts).2 = none) :
    PeriodEnded s ((runPeriod t cycles acts).run s) t := by
  rw [runPeriod, Prog.run_read]
  simp only [splitArrive_none h, seqs_cons_run, seqs_nil_run, Prog.run_seq]
  refine checkpoint_ends ?_ ?_ rfl
  · refine task_after (w := TaskRec.queue) (tracePair_touch.keepsTask rfl) (storeDrain_empties ?_)
    rw [updTasks_task]
    simp
  · refine task_after (w := TaskRec.period) (tracePair_touch.keepsTask rfl) ?_
    refine task_after (w := TaskRec.period) (storeDrain_keeps.view Prod.fst) ?_
    refine task_after (w := TaskRec.period) (keepsTask_updTasks fun _ => rfl) ?_
    exact task_after (w := TaskRec.period) (keeps_each fun _ => tineAct_keeps.view Prod.fst) rfl

theorem updTasks_out {r : TaskRec → TaskRec} : ((updTasks t r).run s).out = s.out := rfl

/-- An effect of kind 1 leaves the queue: it takes the next sequence number, and goes out unless the fabric has delivered it already (R474, R479). -/
theorem storeLeaves_effect {e : StoreEntry} (h : e.kind = 1) : (storeLeaves t e).run s =
    (if (s.task t).seq < (s.task t).sent then Prog.skip else emit (.effect t (s.task t).seq 1 e.target e.data)).run
      ((updTasks t fun x => { x with seq := x.seq + 1, sent := max x.sent (x.seq + 1) }).run s) := by
  rw [storeLeaves, Prog.run_read, h, if_neg (by decide), if_neg (by decide), Prog.run_seq]
  split <;> rfl

theorem storeLeaves_effect_seq {e : StoreEntry} (h : e.kind = 1) : (((storeLeaves t e).run s).task t).seq = (s.task t).seq + 1 := by
  rw [storeLeaves_effect h]
  refine task_after (w := TaskRec.seq) (keeps_ite keeps_skip fun _ => rfl) ?_
  rw [updTasks_task]

theorem storeLeaves_effect_out {e : StoreEntry} (h : e.kind = 1) : ((storeLeaves t e).run s).out =
    if (s.task t).seq < (s.task t).sent then s.out else .effect t (s.task t).seq 1 e.target e.data :: s.out := by
  rw [storeLeaves_effect h]
  split <;> rfl

end

/-! Task faults (R476, R478, R485). -/

section

variable {t t' : Nat}

theorem keepsWork_healthSet {f : Fld} {v : State → Nat} : (healthSet f v).Keeps fun s => (s.task t).work :=
  keeps_read fun _ => keeps_ite keeps_skip (keeps_seq keepsTask_setR (raiseHealth_touch.keepsTask rfl))

theorem planMove_keeps {q : Nat} : (planMove t' q).Keeps fun s => (s.task t).work :=
  keeps_read fun _ => keeps_cons keepsTask_setR (keeps_cons keepsTask_setR (keeps_cons (keepsTask_updTasks (by intro; rfl)) keeps_seqs_nil))

theorem planBack_keeps {p : Nat} : (planBack t' p).Keeps fun s => (s.task t).work :=
  keeps_cons keepsTask_setR (keeps_cons keepsTask_setR (keeps_cons (keepsTask_updTasks (by intro; rfl)) keeps_seqs_nil))

/-- A planned move leaves the task's work as it is: it runs on until it resumes elsewhere (R483, R485). -/
theorem migrate_planned_keeps {out : List Nat} : (migrate t' 2 out).Keeps fun s => (s.task t).work := by
  refine keeps_read fun s => ?_
  dsimp only
  split
  · exact planBack_keeps
  · split
    · exact keeps_seq (taskStops_touch.keepsTask rfl) keepsWork_healthSet
    · exact planMove_keeps

theorem stoppedLeave_keeps {b : Nat} : (stoppedLeave b).Keeps fun s => (s.task t).work := by
  refine keeps_each fun t' => keeps_when (keeps_read fun s => ?_)
  split
  · exact keepsTask_setR
  · exact keepsTask_updTasks fun _ => rfl

theorem bedEmpties_keeps {b : Nat} : (bedEmpties b).Keeps fun s => (s.task t).work :=
  keeps_cons keepsTask_setR (keeps_cons (keeps_read fun _ => keeps_each fun _ => migrate_planned_keeps)
    (keeps_cons stoppedLeave_keeps keeps_seqs_nil))

theorem bedReturns_keeps : bedReturns.Keeps fun s => (s.task t).work := by
  refine keeps_read fun s => ?_
  split
  · exact keeps_seq keepsTask_setR (keeps_ite keepsTask_setR bedEmpties_keeps)
  · exact abortDone_touch.keepsTask rfl

theorem rollAbort_keeps {cause : Nat} : (rollAbort cause).Keeps fun s => (s.task t).work := by
  refine keeps_read fun s => keeps_ite ?_ keeps_skip
  exact keeps_cons (bootBack_touch.keepsTask rfl) (keeps_cons (fun _ => rfl) (keeps_cons keepsTask_setR (keeps_cons bedReturns_keeps keeps_seqs_nil)))

theorem sparesUpdate_keeps : sparesUpdate.Keeps fun s => (s.task t).work :=
  keeps_seq keepsWork_healthSet (keeps_read fun _ => keeps_ite rollAbort_keeps keeps_skip)

end

section

variable {s : State} {t : Nat}

/-- A task fault: it is counted, and the task stands at its last checkpoint, with nothing speculative left (R476, R478). -/
structure FaultTaken (s u : State) (t : Nat) : Prop where
  faults : u.rd Reg.ENG_TASK.FAULTS t = min (s.rd Reg.ENG_TASK.FAULTS t + 1) 255
  work : (u.task t).work = ([], (s.task t).ckptSeq, (s.task t).ckptMem)

theorem faultsNoted_keeps {l : List Nat} : (updTasks t fun x => { x with faults := l }).Keeps fun u => (u.task t).work :=
  keepsTask_updTasks (by intro; rfl)

theorem stopped_keeps : (updTasks t fun x => { x with stopped := true }).Keeps fun u => (u.task t).work :=
  keepsTask_updTasks (by intro; rfl)

theorem toCheckpoint_work : (((toCheckpoint t).run s).task t).work = ([], (s.task t).ckptSeq, (s.task t).ckptMem) := by
  rw [toCheckpoint, updTasks_task]
  rfl

theorem taskFault_taken {kind : Nat} : FaultTaken s ((taskFault t kind).run s) t := by
  rw [taskFault, Prog.run_read]
  constructor
  case faults =>
    rw [seqs_cons_run]
    refine rd_after ?_ (rd_incSat rfl (by decide) rfl rfl)
    refine keeps_cons (toCheckpoint_touch.keepsRd rfl rfl) (keeps_cons keepsRd_updTasks
      (keeps_cons ?_ (keeps_cons ?_ (keeps_cons ?_ keeps_seqs_nil))))
    · exact keeps_read fun _ => raisePf_touch.keepsRd rfl rfl
    · exact keeps_ite (rollAbort_touch.keepsRd rfl rfl) keeps_skip
    · refine keeps_ite keeps_skip (keeps_ite (keeps_seqs ?_) (keeps_seqs ?_))
      · simp (disch := decide) [shardGone_touch.keepsRd, keepsRd_setR, keepsRd_raiseHealth, sparesUpdate_touch.keepsRd]
      · simp (disch := decide) [keepsRd_incSat, taskStops_touch.keepsRd, keepsRd_raiseHealth]
  case work =>
    have hcount : ((incSat Reg.ENG_TASK.FAULTS t).run s).task t = s.task t := keepsTask_incSat (w := id) s
    rw [seqs_cons_run, seqs_cons_run]
    refine task_after (w := TaskRec.work) ?_ (toCheckpoint_work.trans (by rw [hcount]))
    refine keeps_cons faultsNoted_keeps (keeps_cons ?_ (keeps_cons ?_ (keeps_cons ?_ keeps_seqs_nil)))
    · exact keeps_read fun _ => raisePf_touch.keepsTask rfl
    · exact keeps_ite rollAbort_keeps keeps_skip
    · refine keeps_ite keeps_skip (keeps_ite (keeps_seqs ?_) (keeps_seqs ?_))
      · simp (disch := decide) [shardGone_touch.keepsTask, keepsTask_setR, raiseHealth_touch.keepsTask, sparesUpdate_keeps]
      · simp (disch := decide) [taskStops_touch.keepsTask, raiseHealth_touch.keepsTask, stopped_keeps, keepsTask_incSat]

/-- A fault of a task that runs, and is not on a planned move, is taken at once, after the period's acts so far (R476, R485). -/
theorem taskFaultDue_taken {p kind : Nat} {acts : List TineAct} (hruns : s.runsOn t = some p) (hplan : s.planned t = false) :
    FaultTaken s ((taskFaultDue t kind acts).run s) t := by
  have hrun : (taskFaultDue t kind acts).run s = (taskFault t kind).run ((cutActs t acts).run s) := by
    rw [taskFaultDue, Prog.run_read, if_pos (by simp [hruns, hplan]), Prog.run_seq]
  obtain ⟨hfaults, hwork⟩ := taskFault_taken (s := (cutActs t acts).run s) (t := t) (kind := kind)
  have hckpt : (((cutActs t acts).run s).task t).checkpoint = (s.task t).checkpoint := cutActs_keeps s
  simp only [TaskRec.checkpoint, Prod.mk.injEq] at hckpt
  obtain ⟨-, hseq, hmem⟩ := hckpt
  rw [hrun]
  exact ⟨hfaults.trans (by rw [cutActs_touch.rd _ Reg.ENG_TASK.FAULTS rfl rfl]), hwork.trans (by rw [hseq, hmem])⟩

/-! TASK_PERIOD (R474, R477 to R479). -/

/-- Where a task may run, its period does (R477, R556). -/
theorem execTaskPeriod_run {cycles p : Nat} {acts : List TineAct} (hs : s.stopped = false) (ht : t < 416) (hruns : s.runsOn t = some p)
    (hbound : s.time % taskPeriod t = 0) (hcycles : cycles ≤ 400 * taskPeriod t) (hwaits : (s.task t).waits = none)
    (hon : hasBit (s.rd Reg.PWR_DOM.ON) (p / 32 + 1) = true) (hround : s.roundRuns t p = true) :
    ∃ u, exec (.taskPeriod t cycles acts) s = .next ((runPeriod t cycles acts).run u) ∧ u.out = s.out ∧
      ∃ r, u.task t = { s.task t with roundAt := r } := by
  refine ⟨(tracePair p 1 (dat 16 2 t + dat 20 4 (s.task t).period)).run ((updTasks t fun x =>
    { x with roundAt := (s.eng.rounds.find? (·.1 == p / 32)).map (·.2) }).run s), ?_, ?_, ?_⟩
  · show execTaskPeriod t cycles acts s = _
    simp [execTaskPeriod, ends, hs, ht, hruns, hbound, hcycles, hwaits, hon, hround]
  · rw [tracePair_touch.out _ rfl]
    rfl
  · exact ⟨_, task_after (w := id) (tracePair_touch.keepsTask rfl) updTasks_task⟩

/-- An entry that enters a queue with room (R472). -/
theorem storeEnters_run {e : StoreEntry} (h : (s.task t).queue = []) :
    (storeEnters t e).run s = (updTasks t fun x => { x with queue := x.queue ++ [e] }).run s := by
  simp [storeEnters, when_run, h, storeDepth]

/-- A queue that holds one entry alone, which has committed (R474). -/
theorem storeDrain_single {e : StoreEntry} (h : (s.task t).queue = [e]) (hdone : e.done = true) :
    (storeDrain t).run s = (storeLeaves t e).run ((updTasks t fun x => { x with queue := x.queue.dropWhile (·.done) }).run s) := by
  simp [storeDrain, h, hdone, each]

/-- A period of one effect: it takes the next sequence number, and goes out unless the fabric has delivered it already (R474, R479). -/
theorem runPeriod_effect {cycles target data : Nat} (h : (s.task t).queue = []) :
    let u := (runPeriod t cycles [.effect 1 target data]).run s
    (u.task t).seq = (s.task t).seq + 1 ∧
      u.out = if (s.task t).seq < (s.task t).sent then s.out else .effect t (s.task t).seq 1 target (data % 2 ^ 32) :: s.out := by
  have hacts (q : Nat → Bool) : splitArrive q [.effect 1 target data] = ([.effect 1 target data], none) := rfl
  have henter : (each [TineAct.effect 1 target data] (tineAct t)).run s =
      (updTasks t fun x => { x with queue := x.queue ++ [{ kind := 1, target, data := data % 2 ^ 32 }] }).run s :=
    storeEnters_run h
  rw [runPeriod, Prog.run_read]
  simp only [hacts, seqs_cons_run, seqs_nil_run, Prog.run_seq]
  rw [henter, storeDrain_single (e := { kind := 1, target, data := data % 2 ^ 32, done := true }) ?_ rfl]
  · constructor
    · refine task_after (w := TaskRec.seq) (keepsTask_updTasks (by intro; rfl)) ?_
      refine task_after (w := TaskRec.seq) (tracePair_touch.keepsTask rfl) ?_
      rw [storeLeaves_effect_seq rfl]
      simp only [updTasks_task]
    · rw [checkpoint, updTasks_out, tracePair_touch.out _ rfl, storeLeaves_effect_out rfl]
      simp only [updTasks_task, updTasks_out]
  · simp only [updTasks_task, h, List.nil_append, List.map_cons, List.map_nil]

/-! Pairs (R481 to R483) and beds (R30, R484). -/

/-- A disagreement is counted, whatever it leads to (R481). -/
theorem execPairDisagree_counts {p point : Nat} {acts : List TineAct} (hs : s.stopped = false) (ht : s.taskOn p = some t)
    (hruns : s.runsOn t = some p) : Does (.pairDisagree p point acts) s fun u =>
      u.rd Reg.ENG_CNT.DISAGREE = min (s.rd Reg.ENG_CNT.DISAGREE + 1) 255 := by
  refine does_of_ends hs rfl ?_
  have htask : ((s.taskOn p).filter fun t => s.runsOn t == some p) = some t := by simp [ht, hruns]
  rw [Prog.run_read, htask]
  dsimp only
  rw [seqs_cons_run, seqs_cons_run]
  refine rd_after (keeps_cons (tracePair_touch.keepsRd rfl rfl) (keeps_cons (raisePf_touch.keepsRd rfl rfl)
    (keeps_cons keepsRd_updEng (keeps_cons ?_ keeps_seqs_nil)))) (rd_incSat rfl (by decide) rfl (cutActs_touch.rd _ _ rfl rfl _ _ _))
  refine keeps_ite (bedFault_touch.keepsRd rfl rfl) (keeps_cons keepsRd_updPairs
    (keeps_cons ?_ (keeps_cons (sparesUpdate_touch.keepsRd rfl rfl) keeps_seqs_nil)))
  exact keeps_ite (toCheckpoint_touch.keepsRd rfl rfl) (migrate_touch.keepsRd rfl rfl)

/-- The self-test of a pair in quarantine ends (R482): its verdict, then the count of spares. -/
theorem execPairSelfTestEnd_run {p : Nat} {pass : Bool} (hs : s.stopped = false) (hst : (s.pair p).st = 3)
    (hdue : (s.pair p).quarAt + 20000 ≤ s.time) : exec (.pairSelfTestEnd p pass) s = .next (sparesUpdate.run
      ((if pass && decide (((s.pair p).strikes.filter fun a => decide (s.time < a + 86400000000)).length < 2) then
        updPairs p fun x => { x with st := 0 }
      else .seq (updPairs p fun x => { x with st := 4 }) (incSat Reg.ENG_CNT.RETIRED)).run s)) := by
  show ends _ s = _
  rw [ends, if_neg (by simp [hs]), Prog.run_read, if_pos ⟨hst, hdue⟩]
  rfl

theorem execPairSelfTestEnd_pass {p : Nat} (hs : s.stopped = false) (hst : (s.pair p).st = 3)
    (hdue : (s.pair p).quarAt + 20000 ≤ s.time) (hfirst : (s.pair p).strikes = []) :
    Does (.pairSelfTestEnd p true) s fun u => (u.pair p).st = 0 := by
  refine ⟨_, execPairSelfTestEnd_run hs hst hdue, ?_⟩
  rw [if_pos (by simp [hfirst])]
  exact congrArg PairRec.st (pair_after (sparesUpdate_touch.keepsPair rfl) updPairs_pair)

theorem execPairSelfTestEnd_fail {p : Nat} (hs : s.stopped = false) (hst : (s.pair p).st = 3)
    (hdue : (s.pair p).quarAt + 20000 ≤ s.time) :
    Does (.pairSelfTestEnd p false) s fun u => (u.pair p).st = 4 ∧ u.rd Reg.ENG_CNT.RETIRED = min (s.rd Reg.ENG_CNT.RETIRED + 1) 255 := by
  refine ⟨_, execPairSelfTestEnd_run hs hst hdue, ?_⟩
  rw [if_neg (by simp), Prog.run_seq]
  constructor
  · exact congrArg PairRec.st (pair_after (sparesUpdate_touch.keepsPair rfl) (pair_after keepsPair_incSat updPairs_pair))
  · exact rd_after (sparesUpdate_touch.keepsRd rfl rfl) (rd_incSat rfl (by decide) rfl rfl)

/-- A task runs on its new pair (R483, R507). -/
theorem migrated_rd : ((migrated t).run s).rd Reg.ENG_TASK.STATE t = if s.hostOf t = homePair t then 0 else 1 := by
  rw [migrated, Prog.run_read]
  dsimp only
  rw [seqs_cons_run]
  refine rd_after ?_ (rd_setR rfl (by split <;> decide))
  refine keeps_cons (keepsRd_incSat (by decide)) (keeps_cons (keeps_ite (keepsRd_setR (by decide)) keeps_skip)
    (keeps_cons (toCheckpoint_touch.keepsRd rfl rfl) (keeps_cons keepsRd_updTasks (keeps_cons (tracePair_touch.keepsRd rfl rfl)
    (keeps_cons (raisePf_touch.keepsRd rfl rfl) (keeps_cons (keeps_ite keepsRd_updAlm keeps_skip) keeps_seqs_nil))))))

theorem migrated_from : (((migrated t).run s).task t).from? = none := by
  rw [migrated, Prog.run_read]
  dsimp only
  rw [seqs_cons_run, seqs_cons_run, seqs_cons_run, seqs_cons_run, seqs_cons_run]
  refine task_after (w := TaskRec.from?) ?_ (congrArg TaskRec.from? updTasks_task)
  exact keeps_cons (tracePair_touch.keepsTask rfl) (keeps_cons (raisePf_touch.keepsTask rfl)
    (keeps_cons (keeps_ite (fun _ => rfl) keeps_skip) keeps_seqs_nil))

/-- A task that no slot, held record, port or fault waits for resumes by its migration alone (R483). -/
theorem taskResumes_run (howed : (s.task t).owed = none) (hslot : taskSlot t = none) (hport : 8 ≤ t / 26 ∨ t % 26 ≠ 25) :
    (taskResumes t).run s = (migrated t).run s := by
  have hinbox : ¬ (t % 26 = 25 ∧ t / 26 < 8) := by omega
  rw [taskResumes, Prog.run_read]
  simp [howed, hslot, hinbox]

/-- What a bed fault does once the bed's registers tell of it (R484, R32, R500). -/
def bedGone (s : State) (b : Nat) : Prog := seqs [
  bedOff b, setR Reg.PWR_DOM.ON (clrBit (s.rd Reg.PWR_DOM.ON) (b + 1)), raiseHealth,
  if b = (if s.flag Reg.ALM_STATUS.ROOT_ALT then 8 else 0) then updAlm fun a => { a with rootLost := true } else .skip,
  updEng fun e => { e with toReturn := e.toReturn.filter (· != b) },
  if s.rd Reg.ENG_UPG.BED ≠ b then .skip else if s.rd Reg.ENG_UPG.STATE = 4 then bedReturns else rollAbort 2,
  rollSpares]

/-- No register that tells of the lost bed changes after it. -/
theorem bedGone_keeps {b : Nat} {f : Fld} (hf : f ∈ [Reg.GLB_HEALTH.BED_LOST, Reg.GLB_RESET_INFO.BED, Reg.GLB_RESET_CAUSE.BED]) :
    (bedGone s b).Keeps fun u => u.rd f := by
  simp only [List.mem_cons, List.not_mem_nil, or_false] at hf
  obtain rfl | rfl | rfl := hf
  all_goals
    refine keeps_cons (bedOff_touch.keepsRd rfl rfl) (keeps_cons (keepsRd_setR (by decide)) (keeps_cons (keepsRd_raiseHealth (by decide))
      (keeps_cons (keeps_ite keepsRd_updAlm keeps_skip) (keeps_cons keepsRd_updEng (keeps_cons ?_
      (keeps_cons (rollSpares_touch.keepsRd rfl rfl) keeps_seqs_nil))))))
    exact keeps_ite keeps_skip (keeps_ite (bedReturns_touch.keepsRd rfl rfl) (rollAbort_touch.keepsRd rfl rfl))

/-- A bed fault up to the registers that tell of the bed (R30, R37, R484). -/
theorem bedFault_run {b : Nat} (hin : hasBit (s.rd Reg.GLB_HEALTH.BED_LOST) b = false) :
    ∃ u : State, (bedFault b).run s = (bedGone s b).run ((setR Reg.GLB_RESET_INFO.BED b).run ((setR Reg.GLB_RESET_CAUSE.BED 1).run
      ((updR Reg.GLB_HEALTH.SPARE_PAIRS fun t => t.freePairs.length).run
        ((setR Reg.GLB_HEALTH.BED_LOST (setBit (s.rd Reg.GLB_HEALTH.BED_LOST) b)).run u)))) := by
  rw [bedFault, Prog.run_read, if_neg (by simp [hin])]
  iterate 7 rw [seqs_cons_run]
  exact ⟨_, rfl⟩

/-- A bed leaves service (R30, R484). -/
theorem bedFault_rd {b : Nat} (hb : b < 16) (hin : hasBit (s.rd Reg.GLB_HEALTH.BED_LOST) b = false)
    (hfit : s.rd Reg.GLB_HEALTH.BED_LOST < 2 ^ 16) :
    let u := (bedFault b).run s
    u.rd Reg.GLB_HEALTH.BED_LOST = setBit (s.rd Reg.GLB_HEALTH.BED_LOST) b ∧ u.rd Reg.GLB_RESET_INFO.BED = b ∧
      u.rd Reg.GLB_RESET_CAUSE.BED = 1 := by
  have hset : setBit (s.rd Reg.GLB_HEALTH.BED_LOST) b < 2 ^ 16 := setBit_lt (n := 16) hfit hb
  obtain ⟨u, hrun⟩ := bedFault_run hin
  rw [hrun]
  refine ⟨?_, ?_, ?_⟩
  · refine rd_after (bedGone_keeps (by simp)) (rd_after (keepsRd_setR (by decide)) (rd_after (keepsRd_setR (by decide))
      (rd_after (keepsRd_updR (by decide)) (rd_setR rfl hset))))
  · exact rd_after (bedGone_keeps (by simp)) (rd_setR rfl hb)
  · exact rd_after (bedGone_keeps (by simp)) (rd_after (keepsRd_setR (by decide)) (rd_setR rfl (by decide)))

/-! Barriers (R487). -/

theorem execBarrierRelease_run {k since : Nat} (hs : s.stopped = false) (hk : k < 16) (hms : s.barrierMembers k = [t])
    (hwaits : (s.task t).waits = some (k, since)) :
    ∃ u, exec (.barrierRelease k) s = .next ((runPeriod t (s.task t).restCycles (s.task t).rest).run u) ∧
      (u.task t).period = (s.task t).period := by
  refine ⟨(updTasks t fun x => { x with waits := none, rest := [] }).run
    ((tracePair (s.hostOf t) 5 (dat 16 1 k + dat 17 1 1)).run s), ?_, ?_⟩
  · have hall : k < 16 ∧ s.barrierMembers k ≠ [] ∧ (s.barrierMembers k).all (s.waitsAt k) = true := by
      simp [hk, hms, State.waitsAt, hwaits]
    show ends _ s = _
    rw [ends, if_neg (by simp [hs]), Prog.run_read, if_pos hall, hms]
    rfl
  · rw [updTasks_task]
    exact task_after (w := TaskRec.period) (tracePair_touch.keepsTask rfl) rfl

/-- The trace is no business of where a task runs. -/
theorem tracePair_runsOn {p kind data : Nat} :
    ((tracePair p kind data).run s).runsOn t = s.runsOn t ∧ ((tracePair p kind data).run s).planned t = s.planned t := by
  have hstate : ((tracePair p kind data).run s).rd Reg.ENG_TASK.STATE t = s.rd Reg.ENG_TASK.STATE t := tracePair_touch.rd _ _ rfl rfl _ _ _
  have hhost : ((tracePair p kind data).run s).hostOf t = s.hostOf t := tracePair_touch.rd _ _ rfl rfl _ _ _
  have htask : ((tracePair p kind data).run s).task t = s.task t := tracePair_touch.keepsTask (w := id) rfl s
  have hpair (n : Nat) : ((tracePair p kind data).run s).pair n = s.pair n := tracePair_touch.keepsPair rfl s
  have hplanned : ((tracePair p kind data).run s).planned t = s.planned t := by
    simp only [State.planned, hstate, htask]
  exact ⟨by simp only [State.runsOn, hplanned, hstate, hhost, htask, hpair], hplanned⟩

theorem execBarrierTimeout_run {k since : Nat} (hs : s.stopped = false) (ht : t < 416) (hwaits : (s.task t).waits = some (k, since))
    (hdue : since + s.barrierTimeout t k ≤ s.time) :
    exec (.barrierTimeout k t) s = .next ((taskFaultDue t 2 []).run ((tracePair (s.hostOf t) 5 (dat 16 1 k + dat 17 1 2)).run s)) := by
  show ends _ s = _
  simp [ends, hs, ht, hwaits, hdue]

end

/-- Settles O43: the end of a period, a fault taken, the end of a migration and a bed's loss, each by its lemma. -/
theorem engineTasks : Obligations.EngineTasks := by
  unfold Obligations.EngineTasks
  intro s hs
  refine ⟨?_, ?_, ?_, ?_, ?_, ?_, ?_, ?_, ?_, ?_, ?_⟩
  · intro t cycles p acts ht hruns hbound hcycles hwaits hon hround hacts
    obtain ⟨u, he, -, r, hu⟩ := execTaskPeriod_run (acts := acts) hs ht hruns hbound hcycles hwaits hon hround
    obtain ⟨hperiod, hqueue, hseq, hmem, -⟩ := runPeriod_ends (s := u) (t := t) (cycles := cycles) hacts
    rw [hu] at hperiod
    exact ⟨_, he, hperiod, hqueue, hseq, hmem⟩
  · intro t cycles p target data ht hruns hbound hcycles hwaits hon hround hqueue
    obtain ⟨u, he, hout, r, hu⟩ := execTaskPeriod_run (acts := [.effect 1 target data]) hs ht hruns hbound hcycles hwaits hon hround
    have heffect := runPeriod_effect (s := u) (t := t) (cycles := cycles) (target := target) (data := data) (by rw [hu]; exact hqueue)
    rw [hu, hout] at heffect
    exact ⟨_, he, heffect⟩
  · intro t p overrun acts ht hruns hplan hbound
    obtain ⟨hfaults, hwork⟩ := taskFaultDue_taken (kind := bit overrun) (acts := acts) hruns hplan
    simp only [TaskRec.work, Prod.mk.injEq] at hwork
    refine does_of_ends hs rfl ?_
    rw [Prog.run_read, if_pos ⟨ht, hbound⟩]
    exact ⟨hfaults, hwork⟩
  · exact fun p point t acts ht hruns => execPairDisagree_counts hs ht hruns
  · exact fun p hst hdue hfirst => execPairSelfTestEnd_pass hs hst hdue hfirst
  · exact fun p hst hdue => execPairSelfTestEnd_fail hs hst hdue
  · intro t ht hst hready hbound hturn howed hslot hport
    refine does_of_ends hs rfl ?_
    rw [Prog.run_read, if_pos ⟨ht, hst, hready, hbound, hturn⟩, taskResumes_run howed hslot hport]
    exact ⟨migrated_rd, migrated_from⟩
  · intro b hb hin hfit
    refine does_of_ends hs rfl ?_
    rw [if_pos hb]
    exact bedFault_rd hb hin hfit
  · intro k t since hk hms hwaits hacts
    obtain ⟨u, he, hu⟩ := execBarrierRelease_run hs hk hms hwaits
    obtain ⟨hperiod, -, -, -, hnone⟩ := runPeriod_ends (s := u) (t := t) (cycles := (s.task t).restCycles) hacts
    rw [hu] at hperiod
    exact ⟨_, he, hnone, hperiod⟩
  · intro k t since p ht hwaits hdue hruns hplan
    refine ⟨_, execBarrierTimeout_run hs ht hwaits hdue, ?_⟩
    obtain ⟨hruns', hplan'⟩ := tracePair_runsOn (s := s) (t := t) (p := s.hostOf t) (kind := 5) (data := dat 16 1 k + dat 17 1 2)
    obtain ⟨hfaults, -⟩ := taskFaultDue_taken (kind := 2) (acts := []) (hruns'.trans hruns) (hplan'.trans hplan)
    rw [hfaults, tracePair_touch.rd _ Reg.ENG_TASK.FAULTS rfl rfl]
  · intro p addr hrun hbp hhalted
    refine does_of_ends hs rfl ?_
    simp only [Prog.run_read, hrun, hhalted, List.contains_iff_mem.2 hbp, Bool.not_false, Bool.and_self, if_true, seqs_cons_run,
      seqs_nil_run]
    constructor
    · exact congrArg PairRec.halted (pair_after (p := updSun _) (fun _ => rfl) (pair_after keepsPair_setR
        (pair_after keepsPair_setR updPairs_pair)))
    · exact rd_after keepsRd_updSun (rd_setR rfl (by decide))

end Sys2Proof.Machine
end

section
/-! What a program leaves of the records of the house rail, the bus and the sources. -/

namespace Sys2Proof.Machine

section

variable {β : Type} {p q : Prog} {M : Nat} {f : Fld} {i j k n v : Nat}

theorem Prog.Touches.keepsHouse (h : p.Touches M) (hM : M.testBit 716 = false) : p.Keeps fun s => s.house := fun s => h.house s hM
theorem Prog.Touches.keepsGrid (h : p.Touches M) (hM : M.testBit 717 = false) : p.Keeps fun s => s.grid := fun s => h.grid s hM

theorem Prog.Touches.keepsSrc (h : p.Touches M) (hM : M.testBit 718 = false) : p.Keeps fun s => s.src n := fun s =>
  congrArg (fun l => Tab.get ({} : SrcRec) l n) (h.srcs s hM)

theorem keepsHouse_setR : (setR f v i j k).Keeps fun s => s.house := fun _ => State.wr_house ..
theorem keepsGrid_setR : (setR f v i j k).Keeps fun s => s.grid := fun _ => State.wr_grid ..
theorem keepsSrc_setR : (setR f v i j k).Keeps fun s => s.src n := fun _ => State.wr_src ..

@[simp] theorem keepsRd_updSrcs {i' j' k' : Nat} {r : SrcRec → SrcRec} : (updSrcs n r).Keeps fun s => s.rd f i' j' k' := fun _ => rfl
@[simp] theorem keepsRd_updChans {i' j' k' : Nat} {r : ChanRec → ChanRec} : (updChans n r).Keeps fun s => s.rd f i' j' k' := fun _ => rfl
@[simp] theorem keepsRd_updSlots {i' j' k' : Nat} {r : SlotRec → SlotRec} : (updSlots n r).Keeps fun s => s.rd f i' j' k' := fun _ => rfl

theorem flag_of_rd {s : State} (h : s.rd f i j k = v) : s.flag f i j k = (v == 1) := by rw [State.flag, h]

theorem updHouse_house {s : State} {r : HouseRec → HouseRec} : ((updHouse r).run s).house = r s.house := rfl
theorem updGrid_grid {s : State} {r : GridRec → GridRec} : ((updGrid r).run s).grid = r s.grid := rfl
theorem updSrcs_src {s : State} {r : SrcRec → SrcRec} : ((updSrcs n r).run s).src n = r (s.src n) := Act.srcs_same ..

theorem keepsSrc_updSrcs {w : SrcRec → β} {r : SrcRec → SrcRec} (h : ∀ x, w (r x) = w x) :
    (updSrcs i r).Keeps fun s => w (s.src n) := fun s => by
  by_cases hi : i = n
  · subst hi
    exact (congrArg w updSrcs_src).trans (h _)
  · exact congrArg w (Act.srcs_ne _ _ hi _ _)

/-- What a program left in a view of the state stands until another one changes it. -/
theorem view_after {g : State → β} {s : State} {x : β} (hp : p.Keeps g) (h : g s = x) : g (p.run s) = x := (hp s).trans h

end

end Sys2Proof.Machine
end

section
/-! The house-battery charger and the accessory boost (R59, R61, R62, R64, R78, R408). -/

namespace Sys2Proof.Machine

section

variable {s : State} {mv rail sys st : Nat} {ma : Int}

/-! The charger's states (R59). -/

theorem hbByV_dead (h : mv < hbDead s.hbChem) : s.hbByV mv = 0 := if_pos h

theorem hbEnter_state (h : st < 8) : ((hbEnter st).run s).rd Reg.SRC_HB_STATUS.STATE = st := by
  rw [hbEnter, Prog.run_read, Prog.run_seq]
  exact rd_after keepsRd_updHouse (rd_setR rfl h)

theorem hbEnter_cvAt : ((hbEnter 3).run s).house.cvAt = s.time := by
  rw [hbEnter, Prog.run_read, Prog.run_seq, updHouse_house]
  rfl

theorem hbEnter_railStep : (hbEnter st).Keeps fun s => s.house.railStep := by
  refine keeps_read fun s => keeps_seq (keepsHouse_setR.view HouseRec.railStep) fun _ => rfl

theorem hbStep_railStep : (hbStep mv ma).Keeps fun s => s.house.railStep := by
  refine keeps_read fun s => ?_
  dsimp only
  split
  case h_4 => exact keeps_ite hbEnter_railStep (keeps_ite hbEnter_railStep fun _ => rfl)
  case h_3 => exact keeps_ite hbEnter_railStep (keeps_ite hbEnter_railStep keeps_skip)
  case h_8 => exact keeps_skip
  all_goals exact keeps_ite hbEnter_railStep keeps_skip

/-- CC ends at the battery's CV voltage (R59). -/
theorem hbStep_cv (hst : s.rd Reg.SRC_HB_STATUS.STATE = 2) (hmv : hbCv s.hbChem ≤ mv) : (hbStep mv ma).run s = (hbEnter 3).run s := by
  simp only [hbStep, Prog.run_read, hst, if_pos hmv]

theorem hbStep_dead (hst : s.rd Reg.SRC_HB_STATUS.STATE = 0) (hmv : mv < hbDead s.hbChem) : (hbStep mv ma).run s = s := by
  simp [hbStep, hst, hbByV_dead hmv]

/-! The rail (R62). -/

theorem hbMatch_closed (h : s.house.railStep = 6) : (hbMatch mv rail).run s = s := by
  simp [hbMatch, h]

/-- The switch closes on a matched rail (R62 steps 4 to 6). -/
theorem hbMatch_closes (h : s.house.railStep = 4) (hrail : max rail mv - min rail mv ≤ 200) (hmv : mv < hbDead s.hbChem)
    (hst : s.rd Reg.SRC_HB_STATUS.STATE < 6) :
    let t := (hbMatch mv rail).run s
    t.rd Reg.SRC_HB_STATUS.HRAIL = 1 ∧ t.rd Reg.SRC_HB_STATUS.STATE = 0 ∧ t.house.railStep = 6 ∧ t.hbChem = s.hbChem := by
  have hrun : (hbMatch mv rail).run s = (hbEnter 0).run ((seqs [setR Reg.SRC_HB_STATUS.HRAIL 1,
      updHouse fun h => { h with railStep := 6, hbPre := false }]).run s) := by
    have h6 : s.rd Reg.SRC_HB_STATUS.STATE ≠ 6 := by omega
    have h7 : s.rd Reg.SRC_HB_STATUS.STATE ≠ 7 := by omega
    simp [hbMatch, h, hrail, when_run, h6, h7, hbByV_dead hmv]
  simp only [hrun]
  refine ⟨?_, hbEnter_state (by decide), ?_, ?_⟩
  · refine rd_after (hbEnter_touch.keepsRd rfl rfl) ?_
    rw [seqs_cons_run]
    exact rd_after (keeps_seqs (by simp)) (rd_setR rfl (by decide))
  · exact view_after hbEnter_railStep rfl
  · refine rd_after (hbEnter_touch.keepsRd rfl rfl) (rd_after (keeps_seqs ?_) rfl)
    simp (disch := decide) [keepsRd_setR]

/-! A reading of the battery moves the charger (R78). -/

/-- What a reading leaves in the registers and in the house rail's record. -/
def hbReading (mv : Nat) (ma : Int) (sys : Nat) : Prog := .read fun s => seqs [
  setR Reg.SRC_HB_MEAS.VOLT (min mv 0xFFFF), setR Reg.SRC_HB_MEAS.CURR (toField 16 (clampS 16 ma)),
  updHouse fun h => { h with
    sysMa := sys
    lowSince := if s.mode = mIsland ∧ s.islandDonors.isEmpty ∧ mv < hbCut s.hbChem then some (h.lowSince.getD s.time) else none }]

theorem hbReading_keepsRd {f : Fld} (hv : Reg.SRC_HB_MEAS.VOLT.id ≠ f.id) (hc : Reg.SRC_HB_MEAS.CURR.id ≠ f.id) :
    (hbReading mv ma sys).Keeps fun s => s.rd f :=
  keeps_read fun _ => keeps_seqs (by simp [keepsRd_setR hv, keepsRd_setR hc])

theorem hbReading_railStep : (hbReading mv ma sys).Keeps fun s => s.house.railStep :=
  keeps_read fun _ => keeps_cons (keepsHouse_setR.view HouseRec.railStep) (keeps_cons (keepsHouse_setR.view HouseRec.railStep)
    (keeps_cons (fun _ => rfl) keeps_seqs_nil))

theorem hbReading_volt (h : mv < 2 ^ 16) : ((hbReading mv ma sys).run s).rd Reg.SRC_HB_MEAS.VOLT = mv := by
  rw [hbReading, Prog.run_read, seqs_cons_run, Nat.min_eq_left (by omega)]
  refine rd_after (keeps_seqs ?_) (rd_setR rfl h)
  simp (disch := decide) [keepsRd_setR]

/-- Where the reading finds or leaves the switch closed, the closed switch's transitions follow (R59, R62). -/
theorem hbCharger_closed {t : State} (hs : s.stopped = false) (hstep : 3 ≤ s.house.railStep) (habs : s.flag Reg.SRC_HB_STATUS.ABSENT = false)
    (ht : (hbMatch mv rail).run ((hbReading mv ma sys).run s) = t) (h6 : t.house.railStep = 6) {P : State → Prop}
    (hP : P ((hbStep mv ma).run t)) : Does (.hbChargerTransition mv ma sys rail) s P := by
  have hthere : ¬ (s.house.railStep < 3 ∨ s.flag Reg.SRC_HB_STATUS.ABSENT = true) := by simp [habs, hstep]
  have hafter : ((hbStep mv ma).run t).house.railStep = 6 := view_after hbStep_railStep h6
  refine does_of_ends hs rfl ?_
  rw [Prog.run_read, if_neg hthere, seqs_cons_run, seqs_cons_run, seqs_cons_run]
  change P ((seqs _).run ((hbReading mv ma sys).run s))
  rw [seqs_cons_run, ht, seqs_cons_run, when_run, if_pos (by simp [h6]), seqs_cons_run, when_run, if_neg (by simp [hafter])]
  exact hP

theorem execHbChargerTransition_cv (hs : s.stopped = false) (hstep : s.house.railStep = 6) (habs : s.flag Reg.SRC_HB_STATUS.ABSENT = false)
    (hst : s.rd Reg.SRC_HB_STATUS.STATE = 2) (hcv : hbCv s.hbChem ≤ mv) (hmv : mv < 2 ^ 16) :
    Does (.hbChargerTransition mv ma sys rail) s fun t =>
      t.rd Reg.SRC_HB_STATUS.STATE = 3 ∧ t.rd Reg.SRC_HB_MEAS.VOLT = mv ∧ t.house.cvAt = s.time := by
  have hread : ((hbReading mv ma sys).run s).house.railStep = 6 := view_after hbReading_railStep hstep
  refine hbCharger_closed hs (by omega) habs (hbMatch_closed hread) hread ?_
  have hchem : ((hbReading mv ma sys).run s).hbChem = s.hbChem := hbReading_keepsRd (by decide) (by decide) s
  rw [hbStep_cv (rd_after (hbReading_keepsRd (by decide) (by decide)) hst) (hchem ▸ hcv)]
  refine ⟨hbEnter_state (by decide), rd_after (hbEnter_touch.keepsRd rfl rfl) (hbReading_volt hmv), hbEnter_cvAt.trans ?_⟩
  simp [hbReading, updHouse]

theorem execHbChargerTransition_closes (hs : s.stopped = false) (hstep : s.house.railStep = 4) (habs : s.flag Reg.SRC_HB_STATUS.ABSENT = false)
    (hrail : max rail mv - min rail mv ≤ 200) (hmv : mv < hbDead s.hbChem) (hst : s.rd Reg.SRC_HB_STATUS.STATE < 6) :
    Does (.hbChargerTransition mv ma sys rail) s fun t =>
      t.rd Reg.SRC_HB_STATUS.HRAIL = 1 ∧ t.rd Reg.SRC_HB_STATUS.STATE = 0 ∧ t.house.railStep = 6 := by
  have hchem : ((hbReading mv ma sys).run s).hbChem = s.hbChem := hbReading_keepsRd (by decide) (by decide) s
  have hst' : ((hbReading mv ma sys).run s).rd Reg.SRC_HB_STATUS.STATE < 6 :=
    (hbReading_keepsRd (by decide) (by decide) s).trans_lt hst
  obtain ⟨hhrail, hstate, h6, hchem'⟩ := hbMatch_closes (rail := rail) (view_after hbReading_railStep hstep) hrail (hchem ▸ hmv) hst'
  refine hbCharger_closed hs (by omega) habs rfl h6 ?_
  rw [hbStep_dead hstate (by rw [hchem', hchem]; exact hmv)]
  exact ⟨hhrail, hstate, h6⟩

/-! The battery's temperature and the charger's faults (R61, R408). -/

theorem agentQueue_queues {b : Nat} {j : TwbJob} (h : s.flag Reg.TWB_STATUS.BUS_DEAD b = false) :
    (((agentQueue b j).run s).bus b).agent = (s.bus b).agent ++ [j] := by
  simp [agentQueue, h, updTwb]

theorem execHbTempRead_queues (hs : s.stopped = false) (hdom : hasBit (s.rd Reg.PWR_DOM.ON) 19 = true)
    (habs : s.flag Reg.SRC_HB_STATUS.ABSENT = false) (hdead : s.flag Reg.TWB_STATUS.BUS_DEAD 64 = false) :
    Does .hbTempRead s fun t => (t.bus 64).agent.length = (s.bus 64).agent.length + 1 := by
  refine does_of_ends hs rfl ?_
  rw [when_run, if_pos (by simp [hdom, habs]), Prog.run_read, agentQueue_queues hdead, List.length_append, List.length_singleton]

theorem execHbTempSuspend_suspends (hs : s.stopped = false) (hstep : 3 ≤ s.house.railStep) (habs : s.flag Reg.SRC_HB_STATUS.ABSENT = false)
    (htemp : s.hbTempOk = false) (hst : s.rd Reg.SRC_HB_STATUS.STATE < 6) :
    Does .hbTempSuspend s fun t => t.rd Reg.SRC_HB_STATUS.STATE = 6 ∧ t.house.hbPre = false := by
  have hout : ¬ (s.house.railStep < 3 ∨ s.flag Reg.SRC_HB_STATUS.ABSENT = true ∨ s.hbTempOk = true) := by simp [habs, htemp, hstep]
  refine does_of_ends hs rfl ?_
  rw [Prog.run_read, if_neg hout, seqs_cons_run, when_run, if_pos (by simpa using hst), Prog.run_seq]
  have hstale {c : State → Bool} : (seqs [when c (setR Reg.SRC_HB_STATUS.TEMP 0x800)]).Touches (2 ^ 55) :=
    touch_seqs_cons (touch_when (touch_setR (by decide))) touch_seqs_nil
  constructor
  · exact rd_after (hstale.keepsRd rfl rfl) (rd_after keepsRd_updHouse (hbEnter_state (by decide)))
  · exact view_after ((hstale.keepsHouse rfl).view HouseRec.hbPre) rfl

theorem execHbFault_faults {cause : Nat} (hs : s.stopped = false) (hstep : 3 ≤ s.house.railStep) (habs : s.flag Reg.SRC_HB_STATUS.ABSENT = false)
    (hst : s.rd Reg.SRC_HB_STATUS.STATE ≠ 7) (hfault : s.hbFaulty cause = true) :
    Does (.hbFault cause) s fun t => t.rd Reg.SRC_HB_STATUS.STATE = 7 := by
  refine does_of_ends hs rfl ?_
  rw [Prog.run_read, if_neg (by simp [habs, hfault, hst, hstep]), seqs_cons_run, seqs_cons_run]
  exact rd_after (keeps_seqs (by simp)) (hbEnter_state (by decide))

/-! The accessory boost (R64). -/

/-- An output of one channel parks (R80, R120). -/
theorem parkOutput_parked {lead stage : Nat} (h : 128 ≤ lead) : ((parkOutput lead stage).run s).rd Reg.PHC_STATUS.PARKED lead = 1 := by
  have hone : s.outputOf lead = [lead] := if_neg (by omega)
  have hacc : (if lead = 137 then setR Reg.SRC_ACC_CTRL.RUNNING 0 else .skip).Keeps fun u => u.rd Reg.PHC_STATUS.PARKED lead :=
    keeps_ite (keepsRd_setR (by decide)) keeps_skip
  rw [parkOutput, Prog.run_read, seqs_cons_run, hone, if_neg (by omega : ¬ lead < 128)]
  refine rd_after (keeps_seqs ?_) ?_
  · simp (disch := decide) [hacc, keepsRd_setR, setDisc_touch.keepsRd]
  · rw [each, List.map_singleton, seqs_cons_run, seqs_nil_run, seqs_cons_run]
    refine rd_after (keeps_seqs ?_) (rd_setR rfl (by decide))
    simp (disch := decide) [keepsRd_setR]

/-- PHC137 soft-stops, or parks where it does not switch (R115). -/
theorem softStop_acc : ((softStop 137).run s).rd Reg.PHC_STATUS.STAGE 137 = 4 ∨ ((softStop 137).run s).flag Reg.PHC_STATUS.PARKED 137 = true := by
  rw [softStop, Prog.run_read]
  dsimp only
  split
  · left
    rw [softStopBegin, seqs_cons_run]
    exact rd_after (keeps_seqs (by simp)) (rd_setR rfl (by decide))
  · split
    · left; assumption
    · right
      rw [leadPark, Prog.run_read, seqs_cons_run]
      refine (flag_of_keeps (keeps_seqs ?_)).trans (flag_of_rd (parkOutput_parked (by decide)))
      simp (disch := decide) [keepsRd_setR]

theorem execAccUvlo_stops (hs : s.stopped = false) (hrun : s.flag Reg.SRC_ACC_CTRL.RUNNING = true) (huv : s.flag Reg.SRC_ACC_CTRL.UVLO = false)
    (habs : s.flag Reg.SRC_HB_STATUS.ABSENT = false) (hcut : s.hbMv < hbCut s.hbChem) :
    Does .accUvlo s fun t => t.flag Reg.SRC_ACC_CTRL.UVLO = true ∧
      (t.rd Reg.PHC_STATUS.STAGE 137 = 4 ∨ t.flag Reg.PHC_STATUS.PARKED 137 = true) := by
  refine does_of_ends hs rfl ?_
  rw [Prog.run_read, if_pos (by simp [hrun, huv, habs, hcut]), seqs_cons_run, seqs_cons_run, seqs_cons_run, seqs_nil_run]
  constructor
  · refine (flag_of_keeps (raisePf_touch.keepsRd rfl rfl)).trans ((flag_of_keeps (softStop_touch.keepsRd rfl rfl)).trans ?_)
    exact flag_of_rd (rd_setR rfl (by decide))
  · rcases softStop_acc (s := (setR Reg.SRC_ACC_CTRL.UVLO 1).run s) with h | h
    · exact .inl (rd_after (raisePf_touch.keepsRd rfl rfl) h)
    · exact .inr <| (flag_of_keeps (raisePf_touch.keepsRd rfl rfl)).trans h

theorem execAccRestart_clears (hs : s.stopped = false) (huv : s.flag Reg.SRC_ACC_CTRL.UVLO = true) (hcut : hbCut s.hbChem + 800 < s.hbMv) :
    Does .accRestart s fun t => t.flag Reg.SRC_ACC_CTRL.UVLO = false := by
  refine does_of_ends hs rfl ?_
  rw [Prog.run_read, if_pos (by simp [huv, hcut])]
  exact flag_of_rd (rd_setR rfl (by decide))

end

/-- Settles O45: each command by the step of the charger, of the rail or of the boost that it leads to. -/
theorem houseRail : Obligations.HouseRail := by
  unfold Obligations.HouseRail
  intro s hs
  refine ⟨?_, ?_, execHbTempRead_queues hs, execHbTempSuspend_suspends hs, fun _ => execHbFault_faults hs, execAccUvlo_stops hs,
    execAccRestart_clears hs⟩
  · intro mv sys rail ma hstep habs hst hcv hmv
    exact execHbChargerTransition_cv hs hstep habs hst hcv hmv
  · intro mv sys rail ma hstep habs hrail hmv hst
    exact execHbChargerTransition_closes hs hstep habs hrail hmv hst

end Sys2Proof.Machine
end

section
/-! The samples of the 380 V bus and its guard (R40, R41, R48, R49, R52, R650). -/

namespace Sys2Proof.Machine

section

variable {s : State}

/-! Samples (R40, R41, R68). -/

theorem busHigh_some {b : BusSample} (h : validBus b ≠ []) : ∃ v, s.busHigh b = some v := by
  obtain ⟨x, l, hl⟩ := List.exists_cons_of_ne_nil h
  simp [State.busHigh, hl]

theorem busLow_some {b : BusSample} (h : validBus b ≠ []) : ∃ v, s.busLow b = some v := by
  obtain ⟨x, l, hl⟩ := List.exists_cons_of_ne_nil h
  simp [State.busLow, hl]

/-- BUS_V shows the mean of the valid readings (R41, R68). -/
theorem busReadings_busV {b : BusSample} (h : validBus b ≠ []) :
    ((busReadings b).run s).rd Reg.SRC_BUS.BUS_V = min 0x7FFFF ((validBus b).foldl (· + ·) 0 / (validBus b).length) := by
  obtain ⟨hi, hhi⟩ := busHigh_some (s := s) h
  obtain ⟨lo, hlo⟩ := busLow_some (s := s) h
  simp only [busReadings, Prog.run_read, hhi, hlo]
  rw [seqs_cons_run, seqs_cons_run, seqs_nil_run, seqs_cons_run]
  refine rd_after (keeps_seqs ?_) (rd_setR rfl (Nat.lt_succ_of_le (Nat.min_le_left ..)))
  simp (disch := decide) [keepsRd_setR]

theorem execBusSample_busV {b : BusSample} {avgs : List (Nat × Nat)} (hs : s.stopped = false) (hgrid : s.gridOn = true) (h : validBus b ≠ []) :
    Does (.busSample b avgs) s fun t =>
      t.rd Reg.SRC_BUS.BUS_V = min 0x7FFFF ((validBus b).foldl (· + ·) 0 / (validBus b).length) := by
  refine does_of_ends hs rfl ?_
  rw [when_run, if_pos hgrid, seqs_cons_run, seqs_cons_run]
  refine rd_after (keeps_cons (keeps_each fun k => ?_) (keeps_cons (guardRecompute_touch.keepsRd rfl rfl)
    (keeps_cons (keeps_read fun u => ?_) keeps_seqs_nil))) (busReadings_busV h)
  · split
    · exact srcSample_touch.keepsRd rfl rfl
    · exact keeps_skip
  · split
    · exact keeps_seq (keeps_each fun _ => busLoop_touch.keepsRd rfl rfl) (keeps_each fun _ => preBias_touch.keepsRd rfl rfl)
    · exact keeps_skip

/-- MISMATCH latches, and SENSOR tells of it (R41). -/
theorem mismatch_latched : (((setR Reg.SRC_BUS.MISMATCH 1).seq sensorEvent).run s).rd Reg.SRC_BUS.MISMATCH = 1 := by
  rw [Prog.run_seq]
  exact rd_after (sensorEvent_touch.keepsRd rfl rfl) (rd_setR rfl (by decide))

/-- SENSOR tells of a MISMATCH once (R41). -/
theorem mismatch_seen :
    ((if s.flag Reg.SRC_BUS.MISMATCH then Prog.skip else (setR Reg.SRC_BUS.MISMATCH 1).seq sensorEvent).run s).rd Reg.SRC_BUS.MISMATCH = 1 := by
  split
  · rename_i hflag
    simpa [State.flag] using hflag
  · exact mismatch_latched

theorem execModulatorStuck_sensor {m clocks : Nat} (hs : s.stopped = false) (hgrid : s.gridOn = true) (hclk : 64 ≤ clocks) (hm : m < 2) :
    Does (.modulatorStuck m clocks) s fun t => t.rd Reg.SRC_BUS.MISMATCH = 1 := by
  refine does_of_ends hs rfl ?_
  rw [when_run, if_pos (by simp [hgrid, hclk]), if_pos hm, seqs_cons_run, seqs_cons_run, seqs_nil_run, Prog.run_read]
  exact mismatch_seen

theorem qualBreak_stuck {k n : Nat} : (qualBreak k).Keeps fun s => (s.src n).stuck := by
  refine keeps_read fun s => keeps_seq (keepsSrc_updSrcs (w := SrcRec.stuck) fun _ => rfl) (keeps_ite ?_ keeps_skip)
  exact keeps_seq (keepsSrc_setR.view SrcRec.stuck) ((returnDrop_touch.keepsSrc rfl).view SrcRec.stuck)

theorem execModulatorStuck_source {m clocks : Nat} (hs : s.stopped = false) (hgrid : s.gridOn = true) (hclk : 64 ≤ clocks) (hm : 2 ≤ m)
    (hm' : m < 10) : Does (.modulatorStuck m clocks) s fun t => (t.src ((m - 2) / 2)).stuck = true := by
  refine does_of_ends hs rfl ?_
  rw [when_run, if_pos (by simp [hgrid, hclk]), if_neg (by omega), if_pos hm', Prog.run_seq]
  refine view_after (g := fun u => (u.src ((m - 2) / 2)).stuck) (keeps_ite qualBreak_stuck keeps_skip) ?_
  rw [updSrcs_src]

theorem execBusSensorMismatch_latches {t0 : Nat} (hs : s.stopped = false) (hsince : s.grid.misSince = some t0) (hlong : t0 + 1000 ≤ s.time)
    (hflag : s.flag Reg.SRC_BUS.MISMATCH = false) : Does .busSensorMismatch s fun t => t.rd Reg.SRC_BUS.MISMATCH = 1 := by
  refine does_of_ends hs rfl ?_
  simp only [Prog.run_read, hsince, ge_iff_le, hlong, hflag, Bool.false_eq_true, not_false_eq_true, and_self, if_true]
  exact mismatch_latched

/-! SCALE (R48 to R50, R52). -/

theorem ocpSkip_keepsRd {f : Fld} {k n : Nat} : (ocpSkip k n).Keeps fun s => s.rd f := keeps_read fun _ => keepsRd_updChans

theorem setScale_scale {v : Nat} (h : v < 2 ^ 11) : ((setScale v).run s).rd Reg.SRC_GUARD.SCALE = v := by
  rw [setScale, Prog.run_read, seqs_cons_run]
  refine rd_after (keeps_cons (keepsRd_setR (by decide)) (keeps_cons keepsRd_updGrid (keeps_cons ?_ keeps_seqs_nil))) (rd_setR rfl h)
  exact keeps_ite (keeps_each fun _ => ocpSkip_keepsRd) keeps_skip

theorem execBusUndervoltage_holds (hs : s.stopped = false) (h : 2 ≤ s.grid.uvRun) :
    Does .busUndervoltage s fun t => t.rd Reg.SRC_GUARD.SCALE = 0 ∧ t.grid.uvHold = true := by
  refine does_of_ends hs rfl ?_
  rw [when_run, if_pos (by simpa using h), Prog.run_seq]
  exact ⟨rd_after keepsRd_updGrid (setScale_scale (by decide)), rfl⟩

/-- A source that has tripped since the guard's last look lets SCALE fall; the first such trip is counted (R48, R49). -/
theorem execBusGuardTrip_trips {ks : List Nat} (hs : s.stopped = false)
    (hks : ks = s.srcsOn.filter fun k => decide (2 ≤ (s.src k).tripRun)) (hnew : ∃ k ∈ ks, k ∉ s.grid.tripped) (hscale : s.scaleFor ks < 2048) :
    Does .busGuardTrip s fun t => t.rd Reg.SRC_GUARD.SCALE = s.scaleFor ks ∧ t.grid.tripped = ks ∧
      (s.grid.trip = false → t.rd Reg.SRC_GUARD.TRIPS = min (s.rd Reg.SRC_GUARD.TRIPS + 1) 255) := by
  have hsome : (ks.filter fun k => !s.grid.tripped.contains k).isEmpty = false := by
    obtain ⟨k, hk, hk'⟩ := hnew
    simpa using ⟨k, hk, hk'⟩
  refine does_of_ends hs rfl ?_
  simp only [Prog.run_read, ge_iff_le, ← hks, hsome, Bool.false_eq_true, if_false]
  rw [seqs_cons_run, seqs_cons_run, seqs_cons_run, seqs_nil_run]
  refine ⟨?_, ?_, fun htrip => ?_⟩
  · refine rd_after (keeps_ite keeps_skip (keeps_seq (keepsRd_incSat (by decide)) (keeps_read fun _ => raisePf_touch.keepsRd rfl rfl))) ?_
    exact rd_after keepsRd_updGrid (setScale_scale hscale)
  · refine view_after (g := fun u => u.grid.tripped) (keeps_ite keeps_skip (keeps_seq (keeps_read fun _ => ?_) (keeps_read fun _ => ?_))) rfl
    · exact keepsGrid_setR.view GridRec.tripped
    · exact (raisePf_touch.keepsGrid rfl).view GridRec.tripped
  · rw [if_neg (by simp [htrip]), Prog.run_seq]
    refine rd_after (keeps_read fun _ => raisePf_touch.keepsRd rfl rfl) (rd_incSat rfl (by decide) rfl ?_)
    exact rd_after keepsRd_updGrid (rd_after (setScale_touch.keepsRd rfl rfl) rfl)

/-! Parks and safe states (R52, R650). -/

/-- A program for each member of a list: what one member's program sets stands where the others' leave it as they find it. -/
theorem each_sets {α β : Type} {g : State → β} {x : β} {a : α} {r : α → Prog} (hset : ∀ u, g ((r a).run u) = x)
    (hkeep : ∀ b u, g u = x → g ((r b).run u) = x) {l : List α} (ha : a ∈ l) : g ((each l r).run s) = x := by
  have hrest (l : List α) (u : State) (hu : g u = x) : g ((each l r).run u) = x := by
    induction l generalizing u with
    | nil => exact hu
    | cons b l ih => exact ih _ (hkeep b u hu)
  induction l generalizing s with
  | nil => cases ha
  | cons b l ih =>
    rcases List.mem_cons.1 ha with rfl | ha
    · exact hrest l _ (hset s)
    · exact ih ha

/-- The STAGE that a park leaves: the lead's own alone (R131). -/
theorem parkOutput_stage {lead stage n : Nat} (h : stage < 8) :
    ((parkOutput lead stage).run s).rd Reg.PHC_STATUS.STAGE n = if n = lead then stage else s.rd Reg.PHC_STATUS.STAGE n := by
  have hchans : (each (s.outputOf lead) fun c => seqs [setR Reg.PHC_STATUS.PARKED 1 c, setR Reg.PHC_OUT.DUTY 0 c,
      updChans c fun x => { x with edges := none, pwmlLow := false, cut := false, cutSince := none, lowRun := 0 }]).Keeps
      fun u => u.rd Reg.PHC_STATUS.STAGE n :=
    keeps_each fun c => keeps_seqs (by simp (disch := decide) [keepsRd_setR])
  have hacc : (if lead = 137 then setR Reg.SRC_ACC_CTRL.RUNNING 0 else .skip).Keeps fun u => u.rd Reg.PHC_STATUS.STAGE n :=
    keeps_ite (keepsRd_setR (by decide)) keeps_skip
  have hguards : (if lead < 128 then each (s.guardsOf (lead / 2)) fun g => setR Reg.SAF_FG_B.RV_TH (s.rd Reg.SAF_FG_CFG.RV_IDLE) g
      else .skip).Keeps fun u => u.rd Reg.PHC_STATUS.STAGE n :=
    keeps_ite (keeps_each fun _ => keepsRd_setR (by decide)) keeps_skip
  rw [parkOutput, Prog.run_read, seqs_cons_run, seqs_cons_run, seqs_cons_run]
  refine rd_after (keeps_seqs ?_) ?_
  · simp (disch := decide) [hguards, keepsRd_setR, setDisc_touch.keepsRd]
  · by_cases hn : n = lead
    · rw [if_pos hn, hn]
      exact rd_setR rfl h
    · rw [if_neg hn]
      exact (State.rd_wr_ne _ _ _ _ _ _ _ _ _ _ (.inr (.inl hn))).trans ((hacc _).trans (hchans s))

theorem parkFeeding_parks {n : Nat} (h : n ∈ s.feeding) : (parkFeeding.run s).rd Reg.PHC_STATUS.STAGE n = 0 := by
  have hpark (m : Nat) (u : State) : ((Prog.seq (parkOutput m 0) (when (fun _ => decide (m < 128) && (s.slot (m / 2)).audStep == 3)
      (updSlots (m / 2) fun x => { x with parkAt := some (x.parkAt.getD s.time) }))).run u).rd Reg.PHC_STATUS.STAGE n =
      if n = m then 0 else u.rd Reg.PHC_STATUS.STAGE n := by
    rw [Prog.run_seq]
    exact rd_after (keeps_when keepsRd_updSlots) (parkOutput_stage (by decide))
  rw [parkFeeding, Prog.run_read]
  refine each_sets (a := n) (g := fun u => u.rd Reg.PHC_STATUS.STAGE n) (fun u => ?_) (fun m u hu => ?_) h
  · rw [hpark, if_pos rfl]
  · rw [hpark, hu, ite_self]

theorem execBusOvervoltage_parks {n : Nat} (hs : s.stopped = false) (hov : 2 ≤ s.grid.ovRun) (hn : n ∈ s.feeding) :
    Does .busOvervoltage s fun t => t.rd Reg.PHC_STATUS.STAGE n = 0 := by
  refine does_of_ends hs rfl ?_
  rw [when_run, if_pos (by simpa using hov)]
  exact parkFeeding_parks hn

theorem keepsRd_raiseSlot {f : Fld} {i typ sl : Nat} {d : State → Nat} (h : raiseMask.testBit f.id = false) :
    (Prog.read fun u => raiseSlot typ sl (d u)).Keeps fun u => u.rd f i := keeps_read fun _ => raiseSlot_touch.keepsRd h rfl

/-- The safe state of a slot with a pack at hand (R29, R180). -/
theorem slotSafe_faults {sl cause : Nat} (hodd : s.oddGanged sl = false) (hst : s.slSt sl ∉ [slEmpty, slOff, slGanged, slFaulted])
    (hc : cause < 256) : ((slotSafe sl cause).run s).slSt sl = slFaulted ∧ ((slotSafe sl cause).run s).rd Reg.SLT_FAULT.CAUSE sl = cause := by
  have hcarrier : s.carrier sl = sl := by simp [State.carrier, hodd]
  simp only [List.mem_cons, List.not_mem_nil, or_false, not_or] at hst
  obtain ⟨hempty, hoff, hgang, hfault⟩ := hst
  simp only [slotSafe, Prog.run_read, hcarrier, if_neg hfault, if_neg (show ¬ (s.slSt sl = slEmpty ∨ s.slSt sl = slGanged ∨ s.slSt sl = slOff) by tauto)]
  constructor
  · rw [seqs_cons_run, seqs_cons_run, seqs_cons_run, seqs_cons_run]
    refine rd_after (keeps_seqs ?_) (rd_setR rfl (by decide))
    simp (disch := decide) [keepsRd_setR, keepsRd_incSat, keepsRd_updR, escalationsDrop_touch.keepsRd, keepsRd_raiseSlot,
      resvEnd_touch.keepsRd, releaseGoesOn_touch.keepsRd]
  · rw [seqs_cons_run, seqs_cons_run, seqs_cons_run, seqs_cons_run, seqs_cons_run, seqs_cons_run]
    refine rd_after (keeps_seqs ?_) (rd_setR rfl hc)
    simp (disch := decide) [keepsRd_incSat, keepsRd_updR, escalationsDrop_touch.keepsRd, keepsRd_raiseSlot,
      resvEnd_touch.keepsRd, releaseGoesOn_touch.keepsRd]

theorem execBusBelowPack_faults {sl : Nat} (hs : s.stopped = false) (hbelow : s.grid.below2.contains sl = true) (hdisc : (s.slot sl).disc = true)
    (hodd : s.oddGanged sl = false) (hst : s.slSt sl ∉ [slEmpty, slOff, slGanged, slFaulted]) :
    Does (.busBelowPack sl) s fun t => t.slSt sl = slFaulted ∧ t.rd Reg.SLT_FAULT.CAUSE sl = caReverse := by
  refine does_of_ends hs rfl ?_
  rw [when_run, if_pos (by simp only [hbelow, hdisc, Bool.and_self])]
  exact slotSafe_faults hodd hst (by decide)

theorem execBusUvRestart_ends {t0 : Nat} (hs : s.stopped = false) (hsince : s.grid.restartSince = some t0) (hhold : s.grid.uvHold = true)
    (hlong : t0 + 100000 ≤ s.time) : Does .busUvRestart s fun t => t.grid.uvHold = false := by
  refine does_of_ends hs rfl ?_
  simp only [Prog.run_read, hsince, hhold, ge_iff_le, hlong, decide_true, Bool.and_self, if_true]
  rfl

end

/-- Settles O46: each command by the reading, the fall of SCALE, the park or the safe state that it leads to. -/
theorem busGuard : Obligations.BusGuard := by
  unfold Obligations.BusGuard
  intro s hs
  exact ⟨fun b avgs => execBusSample_busV hs, fun m clocks => execModulatorStuck_sensor hs, fun m clocks => execModulatorStuck_source hs,
    fun t0 => execBusSensorMismatch_latches hs, fun ks => execBusGuardTrip_trips hs, fun n => execBusOvervoltage_parks hs,
    execBusUndervoltage_holds hs, fun sl => execBusBelowPack_faults hs, fun t0 => execBusUvRestart_ends hs⟩

end Sys2Proof.Machine
end

section
/-! The sources of the bus (R42 to R47, R72, R73). -/

namespace Sys2Proof.Machine

/-- What `State.mode` reads (R550, R596). -/
theorem keepsMode {p : Prog} (hm : p.Keeps State.modeReg) (hd : p.Keeps fun s => s.rd Reg.SVC_STATUS.DBG_RUN)
    (hf : p.Keeps fun s => s.rd Reg.SVC_STATUS.FROM) : p.Keeps State.mode := fun s => by
  rw [State.mode, hm s, flag_of_keeps hd, rd_after hf rfl, State.mode]

/-- What the effective class of a port is read from (R42, R72). -/
theorem keepsSrcClass {p : Prog} {k : Nat} (hc : p.Keeps fun s => s.rd Reg.SRC_PORT_CFG.CLASS_SEL k) (hk : p.Keeps fun s => s.src k) :
    p.Keeps fun s => s.srcClass k := fun s => by
  have hsrc : (p.run s).src k = s.src k := hk s
  simp only [State.srcClass, rd_after hc rfl, hsrc]

section

variable {s : State} {k : Nat}

/-! A source that comes (R42, R45). -/

theorem presenceRise_rises {mv : Nat} (hgrid : s.gridOn = true) (hpres : s.flag Reg.SRC_PORT_STATUS.PRESENT k = false) :
    let t := (presenceRise k mv).run s
    t.rd Reg.SRC_PORT_STATUS.PRESENT k = 1 ∧ t.rd Reg.SRC_PORT_STATUS.QUALIFYING k = 1 ∧ (t.src k).idClass = classOf mv := by
  simp only [presenceRise, Prog.run_read, hgrid, hpres, Bool.not_true, Bool.or_false, Bool.false_eq_true, if_false]
  refine ⟨?_, ?_, ?_⟩
  · rw [seqs_cons_run]
    refine rd_after (keeps_seqs ?_) (rd_setR rfl (by decide))
    simp (disch := decide) [keepsRd_setR, srcLimit_touch.keepsRd, srcChange_touch.keepsRd]
  · rw [seqs_cons_run, seqs_cons_run]
    refine rd_after (keeps_seqs ?_) (rd_setR rfl (by decide))
    simp (disch := decide) [srcLimit_touch.keepsRd, srcChange_touch.keepsRd]
  · rw [seqs_cons_run, seqs_cons_run, seqs_cons_run]
    refine view_after (g := fun u => (u.src k).idClass) (keeps_cons ((srcLimit_touch.keepsSrc rfl).view _)
      (keeps_cons ((srcChange_touch.keepsSrc rfl).view _) keeps_seqs_nil)) ?_
    rw [updSrcs_src]

theorem execSourcePresenceRise_rises {mv : Nat} (hs : s.stopped = false) (hk : k < 4) (hgrid : s.gridOn = true)
    (hpres : s.flag Reg.SRC_PORT_STATUS.PRESENT k = false) :
    Does (.sourcePresenceRise k mv) s fun t => t.rd Reg.SRC_PORT_STATUS.PRESENT k = 1 ∧ t.rd Reg.SRC_PORT_STATUS.QUALIFYING k = 1 ∧
      (t.src k).idClass = classOf mv := by
  obtain ⟨hfrozen, hship⟩ := runs_of_stopped hs
  exact does_of_latching hfrozen hship (congrArg (fun p => latching (.presence k true mv) p s) (if_pos hk)) (presenceRise_rises hgrid hpres)

/-! A source that goes (R44, R54). -/

/-- A source out of service, which nothing enables before it has qualified anew (R44, R46). -/
structure OutOfService (k : Nat) (s : State) : Prop where
  enabled : s.rd Reg.SRC_PORT_STATUS.ENABLED k = 0
  qualified : (s.src k).qualified = false

/-- A program leaves a source out of service where it finds it so. -/
def Prog.LeavesOut (k : Nat) (p : Prog) : Prop := ∀ s, OutOfService k s → OutOfService k (p.run s)

theorem leavesOut_of_keeps {p : Prog} (he : p.Keeps fun s => s.rd Reg.SRC_PORT_STATUS.ENABLED k)
    (hq : p.Keeps fun s => (s.src k).qualified) : p.LeavesOut k := fun s h => ⟨(he s).trans h.enabled, (hq s).trans h.qualified⟩

theorem leavesOut_of_touch {p : Prog} {M : Nat} (h : p.Touches M) (he : M.testBit Reg.SRC_PORT_STATUS.ENABLED.id = false)
    (hc : M.testBit 700 = false) (hq : M.testBit 718 = false) : p.LeavesOut k :=
  leavesOut_of_keeps (h.keepsRd he hc) ((h.keepsSrc hq).view SrcRec.qualified)

theorem leavesOut_skip : Prog.skip.LeavesOut k := fun _ h => h

theorem leavesOut_seq {p q : Prog} (hp : p.LeavesOut k) (hq : q.LeavesOut k) : (Prog.seq p q).LeavesOut k := fun s h => hq _ (hp s h)

theorem leavesOut_seqs {l : List Prog} (h : ∀ p ∈ l, p.LeavesOut k) : (seqs l).LeavesOut k := by
  induction l with
  | nil => exact leavesOut_skip
  | cons p l ih =>
    obtain ⟨hp, hl⟩ := List.forall_mem_cons.1 h
    exact leavesOut_seq hp (ih hl)

theorem leavesOut_read {r : State → Prog} (h : ∀ s, (r s).LeavesOut k) : (Prog.read r).LeavesOut k := fun s => h s s

theorem leavesOut_ite {c : Prop} [Decidable c] {p q : Prog} (hp : p.LeavesOut k) (hq : q.LeavesOut k) : (if c then p else q).LeavesOut k := by
  split
  · exact hp
  · exact hq

theorem leavesOut_setR {f : Fld} {v i j n : Nat} (h : f.id ≠ Reg.SRC_PORT_STATUS.ENABLED.id) : (setR f v i j n).LeavesOut k :=
  leavesOut_of_keeps (keepsRd_setR h) (keepsSrc_setR.view SrcRec.qualified)

theorem srcEnable_qualified {j n b : Nat} : (srcEnable j b).Keeps fun s => (s.src n).qualified :=
  keeps_cons (keepsSrc_setR.view _) (keeps_cons (keepsSrc_setR.view _) (keeps_cons (keepsSrc_updSrcs (w := SrcRec.qualified) fun _ => rfl)
    (keeps_cons ((srcChange_touch.keepsSrc rfl).view _) keeps_seqs_nil)))

theorem srcEnable_enabled_ne {j b : Nat} (h : j ≠ k) : (srcEnable j b).Keeps fun s => s.rd Reg.SRC_PORT_STATUS.ENABLED k :=
  keeps_cons (fun _ => State.rd_wr_ne _ _ _ _ _ _ _ _ _ _ (.inr (.inl h.symm))) (keeps_cons (keepsRd_setR (by decide))
    (keeps_cons keepsRd_updSrcs (keeps_cons (srcChange_touch.keepsRd rfl rfl) keeps_seqs_nil)))

/-- Sources of MODE ALWAYS enter service where they have qualified, and no other does (R46). -/
theorem alwaysEnable_leavesOut : alwaysEnable.LeavesOut k := by
  refine leavesOut_seqs fun p hp => ?_
  obtain ⟨j, -, rfl⟩ := List.mem_map.1 hp
  intro s h
  rw [when_run]
  split
  · rename_i hwaits
    have hj : j ≠ k := by
      rintro rfl
      simp [State.waitsReturn, h.qualified] at hwaits
    exact leavesOut_of_keeps (srcEnable_enabled_ne hj) srcEnable_qualified s h
  · exact h

theorem modeEntered_leavesOut : modeEntered.LeavesOut k := by
  refine leavesOut_read fun s => leavesOut_seqs ?_
  have hscan : (each (List.range 64) scanPresence).LeavesOut k := leavesOut_of_touch (touch_each fun _ => scanPresence_touch) rfl rfl rfl
  have hpresent : (each (List.range 8) portPresent).LeavesOut k := leavesOut_of_touch (touch_each fun _ => portPresent_touch) rfl rfl rfl
  have hrun : (seqs [each (List.range 64) scanPresence, each (List.range 8) portPresent, portsLimitChanged]).LeavesOut k :=
    leavesOut_seqs (by simp [hscan, hpresent, leavesOut_of_touch portsLimitChanged_touch rfl rfl rfl])
  simp (disch := decide) only [List.forall_mem_cons, List.not_mem_nil, false_imp_iff, implies_true, and_true, leavesOut_setR,
    alwaysEnable_leavesOut, leavesOut_of_touch accUpdate_touch, leavesOut_of_touch hostFollow_touch, true_and]
  exact leavesOut_ite hrun (leavesOut_ite hscan leavesOut_skip)

theorem enterMode_leavesOut {m src seq : Nat} : (enterMode m src seq).LeavesOut k := by
  refine leavesOut_read fun s => leavesOut_ite leavesOut_skip (leavesOut_seqs ?_)
  have hhouse {r : HouseRec → HouseRec} : (updHouse r).LeavesOut k := leavesOut_of_keeps keepsRd_updHouse fun _ => rfl
  simp (disch := decide) [leavesOut_setR, hhouse, modeEntered_leavesOut, leavesOut_of_touch modeEvent_touch]

theorem allSourcesLost_leavesOut : allSourcesLost.LeavesOut k := by
  refine leavesOut_read fun s => leavesOut_seqs ?_
  have hgrid {r : GridRec → GridRec} : (updGrid r).LeavesOut k := leavesOut_of_keeps keepsRd_updGrid fun _ => rfl
  have hmode : (if (s.modeReg = mRun ∨ s.modeReg = mCurtail) ∧ s.rd Reg.PWR_MODE.SEQ = 0 then Prog.seq (enterMode mIsland 7 0) donorsChoose
      else .skip).LeavesOut k :=
    leavesOut_ite (leavesOut_seq enterMode_leavesOut (leavesOut_of_touch donorsChoose_touch rfl rfl rfl)) leavesOut_skip
  simp (disch := decide) [leavesOut_setR, hgrid, hmode, leavesOut_of_touch setScale_touch, leavesOut_of_touch parkFeeding_touch,
    leavesOut_of_touch portsWithdraw_touch]

/-- A lost source is out of service, and LOST_WHY tells why (R44). -/
theorem sourceLost_out {why : Nat} (hwhy : why < 8) :
    OutOfService k ((sourceLost k why).run s) ∧ ((sourceLost k why).run s).rd Reg.SRC_PORT_STATUS.LOST_WHY k = why := by
  have hgrid {r : GridRec → GridRec} : (updGrid r).LeavesOut k := leavesOut_of_keeps keepsRd_updGrid fun _ => rfl
  have hpresent {f : Fld} (h : Reg.SRC_PORT_STATUS.PRESENT.id ≠ f.id) :
      (if why = 1 then setR Reg.SRC_PORT_STATUS.PRESENT 0 k else .skip).Keeps fun u => u.rd f k := keeps_ite (keepsRd_setR h) keeps_skip
  have hall : (when (fun t => t.srcsOn.isEmpty) allSourcesLost).LeavesOut k :=
    leavesOut_read fun _ => leavesOut_ite allSourcesLost_leavesOut leavesOut_skip
  rw [sourceLost, Prog.run_read]
  dsimp only
  constructor
  · rw [seqs_cons_run, seqs_cons_run, seqs_cons_run, seqs_cons_run]
    refine leavesOut_seqs ?_ _ ⟨?_, ?_⟩
    · simp (disch := decide) [leavesOut_setR, hgrid, leavesOut_of_touch srcChange_touch, leavesOut_of_touch returnDrop_touch,
        leavesOut_ite hall leavesOut_skip]
    · refine rd_after keepsRd_updSrcs (rd_after (hpresent (by decide)) (rd_after (keepsRd_setR (by decide)) ?_))
      exact rd_setR rfl (by decide)
    · rw [updSrcs_src]
  · rw [seqs_cons_run, seqs_cons_run]
    refine rd_after (keeps_seqs ?_) (rd_setR rfl hwhy)
    have hlost : (when (fun t => t.srcsOn.isEmpty) allSourcesLost).Keeps fun u => u.rd Reg.SRC_PORT_STATUS.LOST_WHY k :=
      keeps_when (allSourcesLost_touch.keepsRd rfl rfl)
    simp (disch := decide) [keepsRd_setR, hpresent, srcChange_touch.keepsRd, returnDrop_touch.keepsRd, keeps_ite hlost keeps_skip]

theorem lossHolds_lt {why : Nat} (h : s.lossHolds k why = true) : why < 8 := by
  by_contra hge
  match why, hge, h with
  | n + 8, _, h => simp [State.lossHolds] at h

theorem sourceGone_out {why : Nat} (hk : k < 4) (hgrid : s.gridOn = true) (hloss : s.lossHolds k why = true) :
    let t := (sourceGone k why).run s
    t.rd Reg.SRC_PORT_STATUS.ENABLED k = 0 ∧ t.rd Reg.SRC_PORT_STATUS.LOST_WHY k = why ∧ (t.src k).qualified = false := by
  obtain ⟨⟨henabled, hqual⟩, hwhy⟩ := sourceLost_out (s := s) (k := k) (lossHolds_lt hloss)
  simp only [sourceGone, when_run, if_pos (show (s.gridOn && decide (k < 4) && s.lossHolds k why) = true by simp [hgrid, hk, hloss])]
  exact ⟨henabled, hwhy, hqual⟩

theorem execSourceLost_out {why : Nat} (hs : s.stopped = false) (hk : k < 4) (hgrid : s.gridOn = true) (hloss : s.lossHolds k why = true) :
    Does (.sourceLost k why) s fun t => t.rd Reg.SRC_PORT_STATUS.ENABLED k = 0 ∧ t.rd Reg.SRC_PORT_STATUS.LOST_WHY k = why ∧
      (t.src k).qualified = false := by
  obtain ⟨hfrozen, hship⟩ := runs_of_stopped hs
  by_cases h1 : why = 1
  · subst h1
    exact does_of_latching hfrozen hship rfl (sourceGone_out hk hgrid hloss)
  · exact does_of_ends hs (congrFun (if_neg h1) s) (sourceGone_out hk hgrid hloss)

/-! A source that qualifies (R45, R46). -/

theorem srcEnable_enabled {b : Nat} : ((srcEnable k b).run s).rd Reg.SRC_PORT_STATUS.ENABLED k = 1 := by
  rw [srcEnable, seqs_cons_run]
  refine rd_after (keeps_seqs ?_) (rd_setR rfl (by decide))
  simp (disch := decide) [keepsRd_setR, srcChange_touch.keepsRd]

theorem qualifiedActs_qualified {j : Nat} : (qualifiedActs j).Keeps fun s => (s.src k).qualified :=
  keeps_read fun _ => keeps_ite keeps_skip (keeps_ite ((returnNext_touch.keepsSrc rfl).view SrcRec.qualified) (keeps_ite srcEnable_qualified keeps_skip))

/-- MODE ALWAYS enables a qualified source out of ISLAND (R46). -/
theorem qualifiedActs_enables (hon : s.flag Reg.SRC_PORT_STATUS.ENABLED k = false) (hmode : s.mode ≠ mIsland)
    (halways : s.rd Reg.SRC_PORT_CFG.MODE k = 1) : ((qualifiedActs k).run s).rd Reg.SRC_PORT_STATUS.ENABLED k = 1 := by
  simp only [qualifiedActs, Prog.run_read, hon, hmode, halways, Bool.false_eq_true, if_true, if_false]
  exact srcEnable_enabled

/-- The period has ended: the source has qualified (R45, R46). -/
def qualEnd (k : Nat) : Prog := .seq (setR Reg.SRC_PORT_STATUS.QUALIFYING 0 k) (updSrcs k fun x => { x with qualAt := none, qualified := true })

theorem qualEnd_keepsRd {f : Fld} {i j n : Nat} (h : Reg.SRC_PORT_STATUS.QUALIFYING.id ≠ f.id) : (qualEnd k).Keeps fun s => s.rd f i j n :=
  keeps_seq (keepsRd_setR h) keepsRd_updSrcs

theorem qualEnd_qualified : (((qualEnd k).run s).src k).qualified = true := by
  rw [qualEnd, Prog.run_seq, updSrcs_src]

theorem qualEnd_mode : (qualEnd k).Keeps State.mode :=
  keepsMode (qualEnd_keepsRd (by decide)) (qualEnd_keepsRd (by decide)) (qualEnd_keepsRd (by decide))

/-- What follows the end of the period, in the state `s` in which it ended (R46, R649). -/
def qualFollows (k : Nat) (s : State) : Prog := seqs [
  if s.flag Reg.SRC_PORT_STATUS.ENABLED k then updSrcs k fun x => { x with budgetIn := 1 } else .skip,
  when (fun _ => s.flag Reg.SRC_PORT_STATUS.ENABLED k && s.rd Reg.SRC_PORT_CFG.MODE k == 2) (updGrid fun g => { g with demand := k :: g.demand }),
  qualifiedActs k,
  when (fun u => s.flag Reg.SRC_PORT_STATUS.ENABLED k || !u.flag Reg.SRC_PORT_STATUS.ENABLED k) (srcChange k),
  when (fun _ => s.flag Reg.PWR_CFG.SENT_AUTO && (s.mode == mSentinel || s.inDusk)) (requestBy mRun 3)]

theorem execSourceQualified_does {t0 : Nat} {P : State → Prop} (hs : s.stopped = false) (hk : k < 4) (hat : (s.src k).qualAt = some t0)
    (hgrid : s.gridOn = true) (hpres : s.flag Reg.SRC_PORT_STATUS.PRESENT k = true) (hgood : (s.src k).vGood = true)
    (hlong : t0 + 1000000 * s.rd Reg.SRC_PORT_CFG.QUAL_T k ≤ s.time) (hP : P ((qualFollows k s).run ((qualEnd k).run s))) :
    Does (.sourceQualified k) s P := by
  refine does_of_ends hs rfl ?_
  simp only [Prog.run_read, hat, hgrid, hk, hpres, hgood, ge_iff_le, hlong, decide_true, Bool.and_self, if_true]
  exact hP

theorem qualFollows_qualifying : (qualFollows k s).Keeps fun u => u.rd Reg.SRC_PORT_STATUS.QUALIFYING k :=
  keeps_cons (keeps_ite keepsRd_updSrcs keeps_skip) <| keeps_cons (keeps_when keepsRd_updGrid) <|
    keeps_cons (qualifiedActs_touch.keepsRd rfl rfl) <| keeps_cons (keeps_when (srcChange_touch.keepsRd rfl rfl)) <|
    keeps_cons (keeps_when (requestBy_touch.keepsRd rfl rfl)) keeps_seqs_nil

theorem qualFollows_qualified : (qualFollows k s).Keeps fun u => (u.src k).qualified :=
  keeps_cons (keeps_ite (keepsSrc_updSrcs (w := SrcRec.qualified) fun _ => rfl) keeps_skip) <| keeps_cons (keeps_when fun _ => rfl) <|
    keeps_cons qualifiedActs_qualified <| keeps_cons (keeps_when ((srcChange_touch.keepsSrc rfl).view _)) <|
    keeps_cons (keeps_when ((requestBy_touch.keepsSrc rfl).view _)) keeps_seqs_nil

/-- A source that was not enabled: what MODE lets it do is the first that follows. -/
theorem qualFollows_run (hon : s.flag Reg.SRC_PORT_STATUS.ENABLED k = false) {u : State} : (qualFollows k s).run u = (seqs [
    when (fun u => s.flag Reg.SRC_PORT_STATUS.ENABLED k || !u.flag Reg.SRC_PORT_STATUS.ENABLED k) (srcChange k),
    when (fun _ => s.flag Reg.PWR_CFG.SENT_AUTO && (s.mode == mSentinel || s.inDusk)) (requestBy mRun 3)]).run ((qualifiedActs k).run u) := by
  simp [qualFollows, hon, when_run]

theorem execSourceQualified_qualifies {t0 : Nat} (hs : s.stopped = false) (hk : k < 4) (hat : (s.src k).qualAt = some t0)
    (hgrid : s.gridOn = true) (hpres : s.flag Reg.SRC_PORT_STATUS.PRESENT k = true) (hgood : (s.src k).vGood = true)
    (hlong : t0 + 1000000 * s.rd Reg.SRC_PORT_CFG.QUAL_T k ≤ s.time) :
    Does (.sourceQualified k) s fun t => t.rd Reg.SRC_PORT_STATUS.QUALIFYING k = 0 ∧ (t.src k).qualified = true ∧
      (s.flag Reg.SRC_PORT_STATUS.ENABLED k = false → s.mode ≠ mIsland → s.rd Reg.SRC_PORT_CFG.MODE k = 1 →
        t.rd Reg.SRC_PORT_STATUS.ENABLED k = 1) := by
  refine execSourceQualified_does hs hk hat hgrid hpres hgood hlong ⟨?_, ?_, fun hon hmode halways => ?_⟩
  · refine rd_after qualFollows_qualifying ?_
    rw [qualEnd, Prog.run_seq]
    exact rd_after keepsRd_updSrcs (rd_setR rfl (by decide))
  · exact view_after (g := fun u => (u.src k).qualified) qualFollows_qualified qualEnd_qualified
  · rw [qualFollows_run hon]
    refine rd_after (keeps_cons (keeps_when (srcChange_touch.keepsRd rfl rfl))
      (keeps_cons (keeps_when (requestBy_touch.keepsRd rfl rfl)) keeps_seqs_nil)) (qualifiedActs_enables ?_ ?_ ?_)
    · exact (flag_of_keeps (qualEnd_keepsRd (by decide))).trans hon
    · exact ne_of_eq_of_ne (qualEnd_mode s) hmode
    · exact rd_after (qualEnd_keepsRd (by decide)) halways

/-! What the PF writes (R43, R46, R72, R73), and the end of a DEMAND source (R47). -/

theorem rangeCause_fits {f : Fld} {v : Nat} (h : f.rangeCause v = 0) : v < 2 ^ f.w := by
  have hmod : v % 2 ^ f.w = v := by
    by_contra hne
    simp [Fld.rangeCause, hne] at h
  exact hmod ▸ Nat.mod_lt _ (Nat.two_pow_pos _)

theorem execSrcLimitWrite_limits {v : Nat} (hbar : s.barOn = true) (hblk : s.blockOn (Reg.SRC_PORT_LIMIT.OVERRIDE.addr k 0 0) = true)
    (hv : Reg.SRC_PORT_LIMIT.OVERRIDE.rangeCause v = 0) :
    Does (.srcLimitWrite k v) s fun t => t.rd Reg.SRC_PORT_LIMIT.OVERRIDE k = v ∧
      t.rd Reg.SRC_PORT_STATUS.LIMIT_EFF k = min (classLimit (s.srcClass k)) v := by
  have hfit : v < 2 ^ 18 := rangeCause_fits hv
  have hset : ((setR Reg.SRC_PORT_LIMIT.OVERRIDE v k).run s).rd Reg.SRC_PORT_LIMIT.OVERRIDE k = v := rd_setR rfl hfit
  have hclass : ((setR Reg.SRC_PORT_LIMIT.OVERRIDE v k).run s).srcClass k = s.srcClass k :=
    keepsSrcClass (keepsRd_setR (by decide)) keepsSrc_setR s
  have htell {c : Prop} [Decidable c] : (if c then srcChange k else .skip).Keeps fun u => u.rd Reg.SRC_PORT_STATUS.LIMIT_EFF k :=
    keeps_ite (srcChange_touch.keepsRd rfl rfl) keeps_skip
  refine does_of_pfWrites hbar hblk hv rfl ?_
  rw [Prog.run_seq]
  refine ⟨rd_after (srcLimit_touch.keepsRd rfl rfl) hset, ?_⟩
  rw [srcLimit, Prog.run_read]
  dsimp only
  rw [seqs_cons_run, seqs_cons_run, hset, hclass]
  exact rd_after (keeps_cons htell keeps_seqs_nil) (rd_setR rfl ((Nat.min_le_right _ _).trans_lt hfit))

/-- MODE OFF takes a source out of service (R46). -/
theorem srcModeWritten_off (hoff : s.rd Reg.SRC_PORT_CFG.MODE k = 0) :
    ((srcModeWritten k).run s).flag Reg.SRC_PORT_STATUS.ENABLED k = false := by
  simp only [srcModeWritten, Prog.run_read, hoff]
  split
  · exact flag_of_rd (sourceLost_out (by decide)).1.enabled
  · rename_i hon
    exact (flag_of_keeps (returnDrop_touch.keepsRd rfl rfl)).trans (Bool.not_eq_true _ ▸ hon)

theorem execSrcModeWrite_writes {mode : Nat} (hbar : s.barOn = true) (hblk : s.blockOn (Reg.SRC_PORT_CFG.MODE.addr k 0 0) = true)
    (hv : Reg.SRC_PORT_CFG.MODE.rangeCause mode = 0) (hne : mode ≠ s.rd Reg.SRC_PORT_CFG.MODE k) :
    Does (.srcModeWrite k mode) s fun t => t.rd Reg.SRC_PORT_CFG.MODE k = mode ∧ (mode = 0 → t.flag Reg.SRC_PORT_STATUS.ENABLED k = false) := by
  have hset : ((setR Reg.SRC_PORT_CFG.MODE mode k).run s).rd Reg.SRC_PORT_CFG.MODE k = mode := rd_setR rfl (rangeCause_fits hv)
  refine does_of_pfWrites hbar hblk hv rfl ?_
  rw [Prog.run_read, if_neg hne, Prog.run_seq]
  exact ⟨rd_after (srcModeWritten_touch.keepsRd rfl rfl) hset, fun h0 => srcModeWritten_off (h0 ▸ hset)⟩

theorem execDemandSourceDisable_disables {t0 : Nat} {l : List Nat} (hs : s.stopped = false) (hlow : s.grid.demandLow = some t0)
    (hdemand : s.grid.demand = k :: l) (hlong : t0 + 60000000 ≤ s.time) :
    Does .demandSourceDisable s fun t => t.rd Reg.SRC_PORT_STATUS.ENABLED k = 0 ∧ t.grid.demandLow = none := by
  refine does_of_ends hs rfl ?_
  simp only [Prog.run_read, hlow, hdemand, ge_iff_le, hlong, if_true, Prog.run_seq]
  refine ⟨rd_after keepsRd_updGrid ?_, rfl⟩
  rw [srcDisable, seqs_cons_run]
  refine rd_after (keeps_seqs ?_) (rd_setR rfl (by decide))
  simp (disch := decide) [srcChange_touch.keepsRd]

end

/-- Settles O47: each command by what it does to its source. -/
theorem busSources : Obligations.BusSources := by
  unfold Obligations.BusSources
  intro s k hs hk
  refine ⟨?_, ?_, ?_, fun v => execSrcLimitWrite_limits, fun mode => execSrcModeWrite_writes, fun t0 l => execDemandSourceDisable_disables hs⟩
  · intro mv _ hgrid hpres
    exact execSourcePresenceRise_rises hs hk hgrid hpres
  · intro why _ hgrid hloss
    exact execSourceLost_out hs hk hgrid hloss
  · intro t0 hat hgrid hpres hgood hlong
    exact execSourceQualified_qualifies hs hk hat hgrid hpres hgood hlong

end Sys2Proof.Machine
end

section
/-! A request for SHIP (R65, R551, R564). -/

namespace Sys2Proof.Machine

section

variable {s : State}

/-- A program leaves the mode, the sequence under way and the power logic as they were. -/
structure ModeStands (s t : State) : Prop where
  mode : t.modeReg = s.modeReg
  seq : t.rd Reg.PWR_MODE.SEQ = s.rd Reg.PWR_MODE.SEQ
  step : t.rd Reg.PWR_MODE.STEP = s.rd Reg.PWR_MODE.STEP
  target : t.rd Reg.PWR_MODE.TARGET = s.rd Reg.PWR_MODE.TARGET

theorem ModeStands.refl (s : State) : ModeStands s s := ⟨rfl, rfl, rfl, rfl⟩

theorem anyPresent_of {k : Nat} (hk : k < 4) (h : s.flag Reg.SRC_PORT_STATUS.PRESENT k = true) : s.anyPresent = true :=
  List.any_eq_true.2 ⟨k, List.mem_range.2 hk, h⟩

/-- The conditions of R65 that `PWR_STATUS.REFUSE` numbers: one that fails bars SHIP. -/
theorem shipBar_ne_zero (h : (∃ k, k < 4 ∧ s.flag Reg.SRC_PORT_STATUS.PRESENT k = true) ∨
    (∃ sl, sl < 64 ∧ (s.slot sl).idClosed = true ∧ s.oddGanged sl = false) ∨
    s.flag Reg.SRC_HB_STATUS.ABSENT = true ∧ s.mode ≠ mStart ∨ s.shipBar ≠ 0) : s.shipBar ≠ 0 := by
  rcases h with ⟨k, hk, hpres⟩ | ⟨sl, hsl, hid, hodd⟩ | ⟨habs, hmode⟩ | h
  · simp [State.shipBar, anyPresent_of hk hpres]
  · have hany : ((List.range 64).any fun sl => (s.slot sl).idClosed && !s.oddGanged sl) = true :=
      List.any_eq_true.2 ⟨sl, List.mem_range.2 hsl, by simp [hid, hodd]⟩
    simp only [State.shipBar, hany, if_true]
    split_ifs <;> decide
  · simp only [State.shipBar, if_neg hmode, habs, if_true]
    split
    · decide
    · split <;> decide
  · exact h

theorem shipBar_lt : s.shipBar < 2 ^ 4 := by
  unfold State.shipBar
  dsimp only
  split_ifs <;> decide

/-- A refusal tells its reason, and changes nothing of the mode (R551). -/
structure Refused (s t : State) : Prop where
  stands : ModeStands s t
  power : t.power = s.power
  reason : t.rd Reg.PWR_STATUS.REFUSE ≠ 0

theorem refuse_refused {m why : Nat} (h0 : why ≠ 0) (hw : why < 2 ^ 4) : Refused s ((refuse m why).run s) where
  stands := ⟨refuse_touch.keepsRd rfl rfl s, refuse_touch.keepsRd rfl rfl s, refuse_touch.keepsRd rfl rfl s, refuse_touch.keepsRd rfl rfl s⟩
  power := refuse_touch.power s rfl
  reason := by
    rw [refuse, Prog.run_seq]
    exact ne_of_eq_of_ne (rd_after (raisePf_touch.keepsRd rfl rfl) (rd_setR rfl hw)) h0

/-- A request that comes where R65 bars SHIP is refused, for a bar or for its moment. -/
theorem requestShip_refused {src : Nat} (hbar : s.shipBar ≠ 0) : Refused s ((requestShip src).run s) := by
  rw [requestShip, Prog.run_read]
  dsimp only
  split
  · exact refuse_refused (by decide) (by decide)
  · exact refuse_refused hbar shipBar_lt

/-- What R564 takes first lets the request wait. -/
theorem requestBy_ship {src : Nat} (hbar : s.shipBar ≠ 0) : ModeStands s ((requestBy mShip src).run s) ∧
    (s.outranked (8 + min src 2) = false → Refused s ((requestBy mShip src).run s)) := by
  rw [requestBy, Prog.run_read]
  split
  · rename_i hrank
    exact ⟨⟨rfl, rfl, rfl, rfl⟩, fun h => absurd hrank (by simp [h])⟩
  · have href : Refused s ((modeRequest mShip src).run s) := requestShip_refused hbar
    exact ⟨href.stands, fun _ => href⟩

theorem execModeRequestShip_stands (hbar : s.shipBar ≠ 0) : Does .modeRequestShip s fun t => ModeStands s t ∧
    (s.outranked 8 = false → t.power = s.power ∧ (s.barOn = true → t.rd Reg.PWR_STATUS.REFUSE ≠ 0)) := by
  refine does_of_always rfl ?_
  rw [when_run]
  split
  · obtain ⟨hstands, href⟩ := requestBy_ship (src := 0) hbar
    exact ⟨hstands, fun h => ⟨(href h).power, fun _ => (href h).reason⟩⟩
  · rename_i hoff
    exact ⟨.refl s, fun _ => ⟨rfl, fun hon => absurd hon hoff⟩⟩

theorem execButtonShipRequest_stands {ms : Nat} (hbar : s.shipBar ≠ 0) : Does (.buttonShipRequest ms) s fun t => ModeStands s t ∧
    (s.outranked 9 = false → t.power = s.power) := by
  refine does_of_always rfl ?_
  rw [Prog.run_read]
  split
  · exact ⟨⟨rfl, rfl, rfl, rfl⟩, fun _ => rfl⟩
  · split
    · exact ⟨.refl s, fun _ => rfl⟩
    · rw [when_run]
      split
      · obtain ⟨hstands, href⟩ := requestBy_ship (src := 1) hbar
        exact ⟨hstands, fun h => (href h).power⟩
      · exact ⟨.refl s, fun _ => rfl⟩

end

/-- Settles O11: whichever condition of R65 fails bars SHIP, and a barred request is refused or waits. -/
theorem shipRefusal : Obligations.ShipRefusal := by
  unfold Obligations.ShipRefusal
  intro s h
  have hbar := shipBar_ne_zero h
  refine ⟨?_, fun ms => ?_⟩
  · obtain ⟨t, he, ⟨hmode, hseq, hstep, htarget⟩, href⟩ := execModeRequestShip_stands hbar
    exact ⟨t, he, hmode, hseq, hstep, htarget, href⟩
  · obtain ⟨t, he, ⟨hmode, hseq, hstep, htarget⟩, hpower⟩ := execButtonShipRequest_stands (ms := ms) hbar
    exact ⟨t, he, hmode, hseq, hstep, htarget, hpower⟩

end Sys2Proof.Machine
end

section
/-! The register tables (R73, R78, R201). -/

namespace Sys2Proof.Machine

theorem classLimit_lt (c : Nat) : classLimit c < 2 ^ 18 := by
  rcases Nat.lt_or_ge c 7 with h | h
  · interval_cases c <;> decide
  · rw [classLimit, List.getD_eq_default _ _ h]
    decide

/-- A field whose values have a lowest and a highest (R618). -/
theorem rangeCause_eq_zero_iff {f : Fld} {v h : Nat} (hh : f.highest = some h) (hw : h < 2 ^ f.w) :
    f.rangeCause v = 0 ↔ f.lowest ≤ v ∧ v ≤ h := by
  have hfit (hv : v ≤ h) : v % 2 ^ f.w = v := Nat.mod_eq_of_lt (hv.trans_lt hw)
  simp only [Fld.rangeCause, hh, bne_iff_ne, Bool.or_eq_true, decide_eq_true_eq, ite_eq_right_iff, OfNat.ofNat_ne_zero, imp_false]
  constructor
  · intro h; omega
  · rintro ⟨hlo, hhi⟩ 
    have := hfit hhi
    omega

/-- Settles O13: the four ports one by one, the other offsets by a look through the field map. -/
theorem registerTables : Obligations.RegisterTables := by
  unfold Obligations.RegisterTables
  refine ⟨?_, rfl, rfl, rfl, rfl, fun _ => rfl, fun c => min_eq_left (Nat.le_of_lt_succ (classLimit_lt c)), ?_, rfl, rfl, rfl, rfl, rfl, rfl, rfl,
    rfl, rfl, rfl, ?_, rfl, rfl, rfl, rfl, rfl, fun v => rangeCause_eq_zero_iff rfl (by decide)⟩
  · intro k hk
    interval_cases k <;> decide +kernel
  · decide +kernel
  · decide +kernel

end Sys2Proof.Machine
end

section
/-! ISLAND's donors and its end (R46, R47, R55 to R58). -/

namespace Sys2Proof.Machine

section

variable {s : State} {k : Nat}

/-! Donors (R56, R57). -/

/-- The donors hold the bus near V_SET: it is ready (R56). -/
theorem execIslandBusReady_ready (hs : s.stopped = false) (hmode : s.mode = mIsland) (hready : s.grid.ready = false)
    (hdonor : ∃ sl ∈ s.islandDonors, s.switching (s.slotLead sl) = true)
    (hnear : 50 * (max (1000 * s.rd Reg.SRC_ISLAND.V_SET) s.busMv - min (1000 * s.rd Reg.SRC_ISLAND.V_SET) s.busMv) ≤
      1000 * s.rd Reg.SRC_ISLAND.V_SET) : Does .islandBusReady s fun t => t.grid.ready = true := by
  refine does_of_ends hs rfl ?_
  simp only [Prog.run_read]
  rw [if_pos ⟨hmode, by simp [hready], List.any_eq_true.2 hdonor, hnear⟩, seqs_cons_run]
  exact view_after (g := fun u => u.grid.ready) (keeps_cons (keeps_each fun _ => (portPresent_touch.keepsGrid rfl).view _)
    (keeps_cons ((portsLimitChanged_touch.keepsGrid rfl).view _) keeps_seqs_nil)) rfl

theorem donorStart_starts {d : Nat} :
    ((donorStart d).run s).slSt d = slDonor ∧ ((donorStart d).run s).rd Reg.SLT_STATUS.ROLE d = 3 := by
  rw [donorStart, seqs_cons_run, seqs_cons_run, seqs_nil_run]
  exact ⟨rd_after (keepsRd_setR (by decide)) (rd_setR rfl (by decide)), rd_setR rfl (by decide)⟩

theorem nextDonor_run {d : Nat} (h : s.donorRank.head? = some d) : nextDonor.run s = (donorStart d).run s := by
  obtain ⟨l, hl⟩ := List.head?_eq_some_iff.1 h
  simp [nextDonor, hl]

/-- Near the floor a donor hands over, once, to the next by rank (R57). -/
theorem execIslandDonorFloor_starts {sl d : Nat} (hs : s.stopped = false) (hmode : s.mode = mIsland) (hsl : sl ∈ s.islandDonors)
    (hnear : s.rd Reg.GAU_SOC.SOC sl ≤ 100 * s.rd Reg.SRC_ISLAND.FLOOR + 200) (hfloor : 100 * s.rd Reg.SRC_ISLAND.FLOOR < s.rd Reg.GAU_SOC.SOC sl)
    (hnew : sl ∉ s.grid.handed) (hnext : s.donorRank.head? = some d) :
    Does (.islandDonorFloor sl) s fun t => t.slSt d = slDonor ∧ t.rd Reg.SLT_STATUS.ROLE d = 3 := by
  have hin : ¬ (s.mode ≠ mIsland ∨ ¬ s.islandDonors.contains sl = true ∨ s.rd Reg.GAU_SOC.SOC sl > 100 * s.rd Reg.SRC_ISLAND.FLOOR + 200) := by
    simp [hmode, hsl, hnear]
  have habove : ¬ decide (s.rd Reg.GAU_SOC.SOC sl ≤ 100 * s.rd Reg.SRC_ISLAND.FLOOR) = true := by simpa using hfloor
  refine does_of_ends hs rfl ?_
  simp only [Prog.run_read]
  rw [if_neg hin, if_neg (by simpa using hnew), seqs_cons_run, seqs_cons_run, seqs_nil_run, when_run, if_neg habove, Prog.run_seq, when_run]
  split
  · have hnext' : ((updGrid fun g => { g with handed := sl :: g.handed }).run s).donorRank.head? = some d := hnext
    rw [nextDonor_run hnext']
    exact donorStart_starts
  · rw [nextDonor_run hnext]
    exact donorStart_starts

/-! A source that returns (R46, R47, R58). -/

/-- The one waiting source begins to return (R58). -/
theorem returnNext_begins (hmode : s.mode = mIsland) (hnone : s.grid.returning = none) (hk : k < 4) (hwaits : s.waitsReturn k = true)
    (honly : ∀ j < 4, j ≠ k → s.waitsReturn j = false) :
    (returnNext.run s).grid.returning = some (k, s.time, s.donorVset.toNat) := by
  have hfind : (List.range 4).find? s.waitsReturn = some k := by
    have hsome : ((List.range 4).find? s.waitsReturn).isSome = true :=
      List.find?_isSome.2 ⟨k, List.mem_range.2 hk, hwaits⟩
    obtain ⟨j, hj⟩ := Option.isSome_iff_exists.1 hsome
    have hjk : j = k := by
      by_contra hne
      have hj4 : j < 4 := List.mem_range.1 (List.mem_of_find?_eq_some hj)
      exact absurd (List.find?_some hj) (by simp [honly j hj4 hne])
    rw [hj, hjk]
  simp [returnNext, hmode, hnone, hfind, updGrid]

theorem qualEnd_grid : (qualEnd k).Keeps State.grid := keeps_seq keepsGrid_setR fun _ => rfl

theorem qualEnd_donorVset (hnone : s.grid.returning = none) : ((qualEnd k).run s).donorVset = s.donorVset := by
  have hset : ((qualEnd k).run s).rd Reg.SRC_ISLAND.V_SET = s.rd Reg.SRC_ISLAND.V_SET := rd_after (qualEnd_keepsRd (by decide)) rfl
  simp only [State.donorVset, qualEnd_grid s, hnone, hset]

theorem qualEnd_waits (hon : s.flag Reg.SRC_PORT_STATUS.ENABLED k = false) (hmay : s.rd Reg.SRC_PORT_CFG.MODE k ≠ 0) :
    ((qualEnd k).run s).waitsReturn k = true := by
  have hmode : ((qualEnd k).run s).rd Reg.SRC_PORT_CFG.MODE k ≠ 0 := ne_of_eq_of_ne (rd_after (qualEnd_keepsRd (by decide)) rfl) hmay
  have hon' : ((qualEnd k).run s).flag Reg.SRC_PORT_STATUS.ENABLED k = false := (flag_of_keeps (qualEnd_keepsRd (by decide))).trans hon
  simp [State.waitsReturn, qualEnd_qualified, hmode, hon']

/-- The end of one source's period lets no other wait. -/
theorem qualEnd_waits_ne {j : Nat} (h : j ≠ k) : (qualEnd k).Keeps fun s => s.waitsReturn j := fun s => by
  have hsrc : ((qualEnd k).run s).src j = s.src j := (Act.srcs_ne _ _ h.symm _ _).trans (State.wr_src ..)
  have hmode : ((qualEnd k).run s).rd Reg.SRC_PORT_CFG.MODE j = s.rd Reg.SRC_PORT_CFG.MODE j := rd_after (qualEnd_keepsRd (by decide)) rfl
  simp only [State.waitsReturn, hsrc, hmode, flag_of_keeps (qualEnd_keepsRd (f := Reg.SRC_PORT_STATUS.ENABLED) (by decide))]

/-- A source that qualifies in ISLAND begins to return, and is not enabled yet (R46, R58). -/
theorem execSourceQualified_returns {t0 : Nat} (hs : s.stopped = false) (hmode : s.mode = mIsland) (hk : k < 4)
    (hat : (s.src k).qualAt = some t0) (hgrid : s.gridOn = true) (hpres : s.flag Reg.SRC_PORT_STATUS.PRESENT k = true)
    (hgood : (s.src k).vGood = true) (hlong : t0 + 1000000 * s.rd Reg.SRC_PORT_CFG.QUAL_T k ≤ s.time)
    (hon : s.flag Reg.SRC_PORT_STATUS.ENABLED k = false) (hmay : s.rd Reg.SRC_PORT_CFG.MODE k ≠ 0) (hnone : s.grid.returning = none)
    (honly : ∀ j < 4, j ≠ k → s.waitsReturn j = false) :
    Does (.sourceQualified k) s fun t => t.grid.returning = some (k, s.time, s.donorVset.toNat) ∧
      t.rd Reg.SRC_PORT_STATUS.ENABLED k = s.rd Reg.SRC_PORT_STATUS.ENABLED k := by
  have hmode' : ((qualEnd k).run s).mode = mIsland := (qualEnd_mode s).trans hmode
  have hon' : ((qualEnd k).run s).flag Reg.SRC_PORT_STATUS.ENABLED k = false := (flag_of_keeps (qualEnd_keepsRd (by decide))).trans hon
  have htime : ((qualEnd k).run s).time = s.time := State.wr_time ..
  have hacts : (qualifiedActs k).run ((qualEnd k).run s) = returnNext.run ((qualEnd k).run s) := by simp [qualifiedActs, hon', hmode']
  have hbegins := returnNext_begins hmode' ((congrArg GridRec.returning (qualEnd_grid s)).trans hnone) hk (qualEnd_waits hon hmay)
    fun j hj hne => (qualEnd_waits_ne hne s).trans (honly j hj hne)
  rw [htime, qualEnd_donorVset hnone] at hbegins
  refine execSourceQualified_does hs hk hat hgrid hpres hgood hlong ?_
  rw [qualFollows_run hon, hacts]
  constructor
  · exact view_after (g := fun u => u.grid.returning) (keeps_cons (keeps_when ((srcChange_touch.keepsGrid rfl).view _))
      (keeps_cons (keeps_when ((requestBy_touch.keepsGrid rfl).view _)) keeps_seqs_nil)) hbegins
  · refine rd_after (keeps_cons (keeps_when (srcChange_touch.keepsRd rfl rfl))
      (keeps_cons (keeps_when (requestBy_touch.keepsRd rfl rfl)) keeps_seqs_nil)) (rd_after (returnNext_touch.keepsRd rfl rfl) ?_)
    exact rd_after (qualEnd_keepsRd (by decide)) rfl

theorem srcEnable_allLost {b : Nat} : ((srcEnable k b).run s).rd Reg.SRC_GUARD.ALL_LOST = 0 := by
  rw [srcEnable, seqs_cons_run, seqs_cons_run]
  refine rd_after (keeps_seqs ?_) (rd_setR rfl (by decide))
  simp (disch := decide) [srcChange_touch.keepsRd]

theorem srcEnable_demand {b : Nat} : (srcEnable k b).Keeps fun s => s.grid.demand :=
  keeps_cons (keepsGrid_setR.view _) (keeps_cons (keepsGrid_setR.view _) (keeps_cons (fun _ => rfl)
    (keeps_cons ((srcChange_touch.keepsGrid rfl).view _) keeps_seqs_nil)))

theorem returnNext_demand : returnNext.Keeps fun s => s.grid.demand := by
  refine keeps_read fun s => keeps_ite keeps_skip ?_
  split
  · exact fun _ => rfl
  · exact keeps_skip

/-- A waiting source is enabled when the set point has ramped, or no donor runs (R58); a DEMAND source is the latest enabled (R47). -/
theorem execIslandSourceReturn_enables (hs : s.stopped = false) (hmode : s.mode = mIsland) (hk : k < 4) (hwaits : s.waitsReturn k = true)
    (hramp : (∃ t0 v, s.grid.returning = some (k, t0, v) ∧ t0 + 100000 ≤ s.time) ∨ s.islandDonors = []) :
    Does (.islandSourceReturn k) s fun t => t.rd Reg.SRC_PORT_STATUS.ENABLED k = 1 ∧ t.rd Reg.SRC_GUARD.ALL_LOST = 0 ∧
      (s.rd Reg.SRC_PORT_CFG.MODE k = 2 → t.grid.demand = k :: s.grid.demand) := by
  refine does_of_ends hs rfl ?_
  simp only [Prog.run_read]
  rw [if_pos, seqs_cons_run, seqs_cons_run, seqs_cons_run, seqs_nil_run]
  · refine ⟨?_, ?_, fun hdemand => ?_⟩
    · exact rd_after (returnNext_touch.keepsRd rfl rfl) (rd_after (keeps_when keepsRd_updGrid) srcEnable_enabled)
    · exact rd_after (returnNext_touch.keepsRd rfl rfl) (rd_after (keeps_when keepsRd_updGrid) srcEnable_allLost)
    · refine view_after returnNext_demand ?_
      rw [when_run, if_pos (by simpa using hdemand), updGrid_grid]
      exact congrArg (k :: ·) (srcEnable_demand s)
  · refine ⟨hmode, hk, hwaits, ?_⟩
    rcases hramp with ⟨t0, v, hret, hlong⟩ | hnone
    · simp [hret, hlong]
    · simp [hnone]

end

/-! A port whose ENABLED is no bit. -/

/-- ISLAND without donors, source 0 present and good, and its qualification period over. -/
def qualifiesInIsland : State :=
  (seqs [setR Reg.PWR_MODE.MODE mIsland, setR Reg.PWR_DOM.ON 0x100000, setR Reg.SRC_PORT_STATUS.PRESENT 1,
    updSrcs 0 fun x => { x with qualAt := some 0, vGood := true }, updTime fun _ => 5000000]).run State.reset

/-- The same with 2 in the cell of ENABLED: a canonical state, and one that no run reaches, since a write cuts a value to the field's width (R3). -/
def enabledReadsTwo : State :=
  { qualifiesInIsland with regs := Tab.ins (Reg.SRC_PORT_STATUS.ENABLED.key 0 0 0) 2 qualifiesInIsland.regs }

theorem enabledReadsTwo_qualifies : enabledReadsTwo.stopped = false ∧ enabledReadsTwo.mode = mIsland ∧
    (enabledReadsTwo.src 0).qualAt = some 0 ∧ enabledReadsTwo.gridOn = true ∧ enabledReadsTwo.flag Reg.SRC_PORT_STATUS.PRESENT = true ∧
    (enabledReadsTwo.src 0).vGood = true ∧ 0 + 1000000 * enabledReadsTwo.rd Reg.SRC_PORT_CFG.QUAL_T ≤ enabledReadsTwo.time ∧
    enabledReadsTwo.flag Reg.SRC_PORT_STATUS.ENABLED = false ∧ enabledReadsTwo.rd Reg.SRC_PORT_CFG.MODE ≠ 0 ∧
    enabledReadsTwo.grid.returning = none ∧ ∀ j < 4, j ≠ 0 → enabledReadsTwo.waitsReturn j = false := by
  and_intros <;> decide +kernel

theorem enabledReadsTwo_enabled : enabledReadsTwo.rd Reg.SRC_PORT_STATUS.ENABLED = 2 := by decide +kernel

/-- Refutes O48: in a state whose ENABLED reads 2, which is neither set nor 0, SOURCE_QUALIFIED leaves the field as it finds it. The lemmas above
prove what the statement says of each command, and of SOURCE_QUALIFIED that ENABLED stays as it was; only its "ENABLED reads 0" rests on a
value that fits the field. -/
theorem not_islandDonors : ¬ Obligations.IslandDonors := by
  unfold Obligations.IslandDonors
  intro h
  obtain ⟨hs, hmode, hat, hgrid, hpres, hgood, hlong, hon, hmay, hnone, honly⟩ := enabledReadsTwo_qualifies
  obtain ⟨-, -, hreturn, -, -⟩ := h enabledReadsTwo hs hmode
  obtain ⟨t, he, -, hzero⟩ := hreturn 0 0 (by decide) hat hgrid hpres hgood hlong hon hmay hnone honly
  obtain ⟨u, hu, -, hkept⟩ := execSourceQualified_returns hs hmode (by decide) hat hgrid hpres hgood hlong hon hmay hnone honly
  have htu : t = u := Host.Outcome.next.inj (he.symm.trans hu)
  rw [htu, hkept, enabledReadsTwo_enabled] at hzero
  exact absurd hzero (by decide)

end Sys2Proof.Machine
end

section
/-! The PF's writes to a channel (R87, R105, R130), and a change of a gang as a write of its register (R618). -/

namespace Sys2Proof.Machine

section

variable {s : State} {n v : Nat}

/-! What the effect of a written field leaves as it was. -/

theorem accErr_keepsGang {a cause : Nat} : (accErr a cause).Keeps fun u => u.rd Reg.PHC_GANG.GANG_EN := accErr_touch.keepsRd rfl rfl

/-- A one-bit field reads the bit that is set. -/
theorem flag_setR_bit {f : Fld} {i j k : Nat} {b : Bool} (hf : f.hard = false) (hw : 0 < min f.w 32) :
    ((setR f (bit b) i j k).run s).flag f i j k = b := by
  have hfits : bit b < 2 ^ min f.w 32 := (show bit b < 2 by cases b <;> decide).trans_le (Nat.le_self_pow hw.ne' 2)
  rw [flag_of_rd (rd_setR hf hfits)]
  cases b <;> rfl

/-! APPLY and ENABLE (R87, R130). -/

theorem execApply_waits (hbar : s.barOn = true) (hon : s.blockOn (Reg.PHC_LOOP.APPLY.addr n 0 0) = true) (hlead : s.isLead n = true)
    (hsw : s.switching n = true) : Does (.apply n) s fun t => t.rd Reg.PHC_LOOP.APPLY n = 1 := by
  refine does_of_pfWrites hbar hon rfl rfl ?_
  rw [applyWritten, Prog.run_read, if_neg (by simp [hlead]), if_pos hsw]
  exact rd_setR rfl (by decide)

theorem execPhcEnableWrite_sets {b : Bool} (hbar : s.barOn = true) (hon : s.blockOn (Reg.PHC_CTRL.ENABLE.addr n 0 0) = true) :
    Does (.phcEnableWrite n b) s fun t => t.flag Reg.PHC_CTRL.ENABLE n = b := by
  refine does_of_pfWrites hbar hon rfl rfl ?_
  rw [Prog.run_read]
  split
  · assumption
  · rw [Prog.run_seq]
    exact (flag_of_keeps (enableWritten_touch.keepsRd rfl rfl)).trans (flag_setR_bit rfl (by decide))

/-! The gang bits (R105). -/

theorem gangFree_iff {g : Nat} : s.gangFree g = true ↔ s.slSt (2 * g) = slEmpty ∧ s.slSt (2 * g + 1) ∈ [slEmpty, slOff, slGanged] ∧
    ∀ k, k < 4 → s.flag Reg.PHC_STATUS.PARKED (4 * g + k) = true := by
  simp [State.gangFree, and_assoc, or_assoc]

theorem gangOk_iff : s.gangOk v = true ↔ ∀ g, g < 32 → hasBit v g ≠ s.ganged g → s.gangFree g = true := by
  simp [State.gangOk, or_iff_not_imp_left]

theorem execGangWrite_sets (hv : v < 2 ^ 32) (hbar : s.barOn = true) (hon : s.blockOn (Reg.PHC_GANG.GANG_EN.addr 0 0 0) = true)
    (hseal : s.flag Reg.GLB_SEAL.SEALED = false) (hok : s.gangOk v = true) : Does (.gangWrite v) s fun t => t.rd Reg.PHC_GANG.GANG_EN = v := by
  refine does_of_pfWrites hbar hon (by simp [hseal, hok]) rfl ?_
  rw [Prog.run_read, Nat.mod_eq_of_lt hv]
  split
  · exact Eq.symm ‹_›
  · rw [Prog.run_seq]
    exact rd_after (gangWritten_touch.keepsRd rfl rfl) (rd_setR rfl hv)

/-- What a write of the PF leaves alone: what its own effect does, where it is taken, and the record of an ignored write. -/
theorem pfWrites_keeps {β : Type} {g : State → β} {f : Fld} {i j : Nat} {bad : State → Nat} {p : Prog}
    (hp : bad s = 0 → g (p.run s) = g s) (herr : ∀ a cause, (accErr a cause).Keeps g) :
    ∃ t, pfWrites f i j bad p s = .next t ∧ g t = g s := by
  refine ⟨_, rfl, ?_⟩
  rw [when_run]
  split
  · rw [Prog.run_read]
    dsimp only
    split
    · exact herr _ _ s
    · split
      · exact hp ‹_›
      · exact herr _ _ s
  · rfl

/-- Under the seal, or with a changed gang that is not free, a write is ignored (R105, R618). -/
theorem execGangWrite_ignored (h : s.flag Reg.GLB_SEAL.SEALED = true ∨ s.gangOk v = false) :
    Does (.gangWrite v) s fun t => t.rd Reg.PHC_GANG.GANG_EN = s.rd Reg.PHC_GANG.GANG_EN := by
  refine pfWrites_keeps (g := fun u => u.rd Reg.PHC_GANG.GANG_EN) (fun htaken => ?_) fun _ _ => accErr_keepsGang
  have hsame : v % 2 ^ 32 = s.rd Reg.PHC_GANG.GANG_EN := by
    by_contra hne
    rw [if_neg hne] at htaken
    split_ifs at htaken with hseal hok
    rcases h with h | h
    · exact hseal h
    · simp [h] at hok
  rw [Prog.run_read, if_pos hsame, Prog.run_skip]

/-! GANG_EN as a field of its register. -/

/-- GANG_EN at its place: the one field of its register. -/
def gangPlace : Place := (Reg.PHC_GANG.GANG_EN, 0, 0, 0)

theorem fieldsAt_gang : fieldsAt (Reg.PHC_GANG.GANG_EN.addr 0 0 0) = [gangPlace] := by decide +kernel

theorem changes_gangPlace : s.changes [gangPlace] v = [] ∨ s.changes [gangPlace] v = [gangPlace] := by
  rw [State.changes, List.filter_singleton]
  cases gangPlace.1.settable && s.at gangPlace != gangPlace.1.ofWord v
  · exact .inl rfl
  · exact .inr rfl

/-- Of the writes that the seal or R105 forbids, none that is taken changes the field (R618). -/
theorem changes_gangPlace_eq_nil {fn : Nat} (h : s.flag Reg.GLB_SEAL.SEALED = true ∨ s.gangOk v = false)
    (htaken : s.writeCause [gangPlace] fn v = 0) : s.changes [gangPlace] v = [] := by
  refine changes_gangPlace.resolve_right fun hch => ?_
  have hsealed : ([gangPlace].any fun x => x.1.acc == .rws) = true := rfl
  have hbarred (hok : s.gangOk v = false) : s.barred [gangPlace] fn v = true := by
    simp [State.barred, covers, gangPlace, hok]
  rw [State.writeCause, hch] at htaken
  rcases h with h | h
  · simp [hsealed, h] at htaken
  · simp only [hbarred h, if_true] at htaken
    split_ifs at htaken

/-- A write that changes no field of the register brings nothing about. -/
theorem writeTaken_gang_run {fn : Nat} {env : StartEnv} {pulses : Option Nat} (h : s.changes [gangPlace] v = []) :
    (writeTaken s [gangPlace] fn v env pulses).run s = s := by
  rw [writeTaken, h]
  rfl

theorem pfWrite32_gang_ignored {env : StartEnv} {pulses : Option Nat} (h : s.flag Reg.GLB_SEAL.SEALED = true ∨ s.gangOk v = false) :
    ((pfWrite32 (Reg.PHC_GANG.GANG_EN.addr 0 0 0) v env pulses).run s).rd Reg.PHC_GANG.GANG_EN = s.rd Reg.PHC_GANG.GANG_EN := by
  have hflags {ch : List Place} : (barredFlags ch).Keeps fun u => u.rd Reg.PHC_GANG.GANG_EN := barredFlags_touch.keepsRd rfl rfl
  have hlater {a : Nat} : (sltLater a v).Keeps fun u => u.rd Reg.PHC_GANG.GANG_EN := sltLater_touch.keepsRd rfl rfl
  rw [pfWrite32, Prog.run_read, fieldsAt_gang]
  dsimp only
  split
  · rfl
  · split
    · exact accErr_keepsGang s
    · split
      · exact accErr_keepsGang s
      · split
        · exact hlater s
        · split
          · rw [writeTaken_gang_run (changes_gangPlace_eq_nil h ‹_›)]
          · exact keeps_seq accErr_keepsGang (keeps_ite hflags keeps_skip) s

/-- An aligned word of the PF is one write of PF BAR0 (R614). -/
theorem does_of_pfWord {a : Nat} {env : StartEnv} {pulses : Option Nat} {P : State → Prop} (ha : a % 4 = 0) (hv : v < 2 ^ 32)
    (h : P ((pfWrite32 a v env pulses).run s)) : Does (.registerWrite pfFn a 4 v env pulses) s P := by
  refine does_of_always rfl ?_
  have hkind : accessKind a 4 = 0 := if_pos (.inl ⟨rfl, ha⟩)
  rw [hkind, Nat.mod_eq_of_lt hv]
  exact h

end

/-- Settles O17: each write by the effect of its field. -/
theorem channelWrites : Obligations.ChannelWrites := by
  unfold Obligations.ChannelWrites
  intro s n _ hbar
  exact ⟨execApply_waits hbar, fun _ => execPhcEnableWrite_sets hbar, fun v hv => execGangWrite_sets hv hbar⟩

/-- Settles O12: the conditions under which a change is taken are `gangOk`, which GANG_WRITE and the register write both go by. -/
theorem gangChange : Obligations.GangChange := by
  unfold Obligations.GangChange
  intro s v hv
  constructor
  · intro hbar hon hseal hfree
    exact execGangWrite_sets hv hbar hon hseal (gangOk_iff.2 fun g hg hne => gangFree_iff.2 (hfree g hg hne))
  · intro h
    have hno : s.flag Reg.GLB_SEAL.SEALED = true ∨ s.gangOk v = false := h.imp_right fun ⟨g, hg, hne, hheld⟩ =>
      Bool.eq_false_iff.2 fun hok => hheld (gangFree_iff.1 (gangOk_iff.1 hok g hg hne))
    exact ⟨execGangWrite_ignored hno, fun env pulses => does_of_pfWord rfl hv (pfWrite32_gang_ignored hno)⟩

end Sys2Proof.Machine
end

section
/-! Records of channels, and the channels of an output (R80). -/

namespace Sys2Proof.Machine

section

variable {β : Type} {p : Prog} {M : Nat} {f : Fld} {i j k n v : Nat} {s t : State}

theorem Prog.Touches.keepsChan (h : p.Touches M) (hM : M.testBit 708 = false) : p.Keeps fun s => s.chan n := fun s =>
  congrArg (fun l => Tab.get ({} : ChanRec) l n) (h.chans s hM)

theorem keepsChan_setR : (setR f v i j k).Keeps fun s => s.chan n := fun _ => State.wr_chan ..

theorem updChans_chan {r : ChanRec → ChanRec} : ((updChans n r).run s).chan n = r (s.chan n) := Act.chans_same ..

theorem keepsChan_updChans {w : ChanRec → β} {r : ChanRec → ChanRec} (h : ∀ x, w (r x) = w x) :
    (updChans i r).Keeps fun s => w (s.chan n) := fun s => by
  by_cases hi : i = n
  · subst hi
    exact (congrArg w updChans_chan).trans (h _)
  · exact congrArg w (Act.chans_ne _ _ hi _ _)

/-- Which channels make up an output hangs on the gangs alone (R80, R104). -/
theorem ganged_of_gang (h : t.rd Reg.PHC_GANG.GANG_EN = s.rd Reg.PHC_GANG.GANG_EN) : t.ganged n = s.ganged n := by
  rw [State.ganged, h, State.ganged]

theorem leadOf_of_gang (h : t.rd Reg.PHC_GANG.GANG_EN = s.rd Reg.PHC_GANG.GANG_EN) : t.leadOf n = s.leadOf n := by
  rw [State.leadOf, ganged_of_gang h, State.leadOf]

theorem outputOf_of_gang (h : t.rd Reg.PHC_GANG.GANG_EN = s.rd Reg.PHC_GANG.GANG_EN) : t.outputOf n = s.outputOf n := by
  rw [State.outputOf, ganged_of_gang h, State.outputOf]

theorem lead_mem_outputOf (h : s.isLead n = true) : n ∈ s.outputOf n := by
  simp only [State.isLead, State.leadOf, beq_iff_eq] at h
  unfold State.outputOf
  split_ifs at h ⊢ <;> simp [h]

/-- One value is written to a field of every channel of a list. -/
theorem rd_each_setR {l : List Nat} (hf : f.hard = false) (hv : v < 2 ^ min f.w 32) (hn : n ∈ l) :
    ((each l fun c => setR f v c).run s).rd f n = v := by
  refine each_sets (g := fun u => u.rd f n) (a := n) (fun u => rd_setR hf hv) (fun c u hu => ?_) hn
  by_cases hc : c = n
  · subst hc
    exact rd_setR hf hv
  · exact (State.rd_wr_ne _ _ _ _ _ _ _ _ _ _ (.inr (.inl (Ne.symm hc)))).trans hu

end

end Sys2Proof.Machine
end

section
/-! An output's updates, starts, retries and limits (R83, R111 to R115, R125). -/

namespace Sys2Proof.Machine

section

variable {s : State} {lead : Nat}

/-! The current update (R83). -/

/-- The output voltage of a current update stands in the lead's register (R83). -/
theorem execCurrentUpdate_measV {phases : List Int} {vout : Nat} {shadow : Bool} (hs : s.stopped = false) (hlead : s.isLead lead = true)
    (hsw : s.switching lead = true) (hv : vout < 2 ^ 17) :
    Does (.currentUpdate lead phases vout shadow) s fun t => t.rd Reg.PHC_MEAS_V.MEAS_V lead = vout := by
  refine does_of_ends hs rfl ?_
  rw [Prog.run_read, if_neg (by simp [hlead, hsw])]
  simp only [seqs_cons_run, seqs_nil_run]
  refine rd_after (keeps_ite (keeps_each fun _ => maskStandIn_touch.keepsRd rfl rfl) keeps_skip) ?_
  refine rd_after (keeps_when (runaway_touch.keepsRd rfl rfl)) (rd_after keepsRd_updChans ?_)
  refine rd_after (runawayCount_touch.keepsRd rfl rfl) (rd_after (imbalanceCount_touch.keepsRd rfl rfl) ?_)
  refine rd_after (phaseCount_touch.keepsRd rfl rfl) (rd_after (shedCounts_touch.keepsRd rfl rfl) ?_)
  refine rd_after ?_ (rd_after (keeps_when (voltageUpdate_touch.keepsRd rfl rfl)) (rd_after (keeps_when keepsRd_updChans) ?_))
  · refine keeps_read fun _ => keeps_cons (burstUpdate_touch.keepsRd rfl rfl) (keeps_cons ?_ (keeps_cons (modeUpdate_touch.keepsRd rfl rfl)
      keeps_seqs_nil))
    exact keeps_read fun _ => keeps_ite (burstIdle_touch.keepsRd rfl rfl) (currentLoop_touch.keepsRd rfl rfl)
  · exact rd_each_setR rfl hv (lead_mem_outputOf hlead)

/-! Starts and their failures (R111 to R113). -/

theorem attemptFailed_riseAbort : ((attemptFailed lead false).run s).rd Reg.PHC_STATUS.RISE_ABORT lead = 1 := by
  rw [attemptFailed, Prog.run_read, seqs_cons_run, seqs_cons_run, if_neg (by decide)]
  refine rd_after ?_ (rd_setR rfl (by decide))
  refine keeps_cons (keepsRd_incSat (by decide)) (keeps_cons (keeps_read fun _ => raiseOutput_touch.keepsRd rfl rfl)
    (keeps_cons keepsRd_updChans (keeps_cons (keeps_ite ?_ keeps_skip) (keeps_cons (keeps_when (outputSafe_touch.keepsRd rfl rfl))
      keeps_seqs_nil))))
  exact keeps_cons (keepsRd_setR (by decide)) (keeps_cons (fun _ => rfl) keeps_seqs_nil)

theorem execRiseAbort_aborts (hs : s.stopped = false) (hstage : s.rd Reg.PHC_STATUS.STAGE lead = 2) (hrisen : (s.chan lead).risen = false)
    (hlate : (s.chan lead).riseBy ≤ s.time) : Does (.riseAbort lead) s fun t => t.rd Reg.PHC_STATUS.RISE_ABORT lead = 1 := by
  refine does_of_ends hs rfl ?_
  rw [Prog.run_read]
  dsimp only
  rw [if_pos (by simp [hstage, hrisen, hlate])]
  exact attemptFailed_riseAbort

/-- Every 100 µs of a soft start counts one tick, the last one too (R112). -/
theorem execSoftLevelUpdate_ticks {avg : Option Nat} (hs : s.stopped = false) (hstage : s.rd Reg.PHC_STATUS.STAGE lead = 2) :
    Does (.softLevelUpdate lead avg) s fun t => (t.chan lead).softTick = (s.chan lead).softTick + 1 := by
  refine does_of_ends hs rfl ?_
  rw [Prog.run_read]
  simp only [hstage]
  rw [Prog.run_seq]
  refine view_after (g := fun u => (u.chan lead).softTick) (keeps_ite ?_ keeps_skip) (congrArg ChanRec.softTick updChans_chan)
  refine keeps_cons (keepsChan_setR.view _) (keeps_cons (keepsChan_setR.view _) (keeps_cons (keepsChan_setR.view _) (keeps_cons ?_
    keeps_seqs_nil)))
  exact keepsChan_updChans fun _ => rfl

/-- A lead that checks its output waits for an average (R111 step 1). -/
theorem preBias_waits (hstage : s.rd Reg.PHC_STATUS.STAGE lead = 1) (hbias : (s.chan lead).biasOk = false) : (preBias lead none).run s = s := by
  simp [preBias, hstage, hbias]

/-- A parked lead that may start (R88, R111, R130). -/
structure MayStart (s : State) (lead : Nat) : Prop where
  parked : s.rd Reg.PHC_STATUS.STAGE lead = 0
  wanted : s.refI lead ≠ 0
  lines : s.svc.parkLines = false
  inService : ((s.outputOf lead).all fun c => s.flag Reg.PHC_CTRL.ENABLE c) = true
  loops : s.startUnset lead = false

/-- A start begins with the check of the output (R111 step 1). -/
theorem leadStart_checks (h : MayStart s lead) (hbias : (s.chan lead).biasOk = false) :
    ((leadStart lead none).run s).rd Reg.PHC_STATUS.STAGE lead = 1 := by
  obtain ⟨hparked, hwanted, hlines, hservice, hloops⟩ := h
  rw [leadStart, Prog.run_read]
  dsimp only
  rw [if_neg (by simp [hparked, hwanted, hlines, hservice]), if_neg (by simp [hloops])]
  simp only [seqs_cons_run, seqs_nil_run]
  rw [preBias_waits (rd_setR rfl (by decide))]
  · exact rd_setR rfl (by decide)
  · refine view_after (g := fun u => (u.chan lead).biasOk) (keepsChan_setR.view _) ?_
    refine view_after (g := fun u => (u.chan lead).biasOk) (keeps_ite ((parkCounted_touch.keepsChan rfl).view _) keeps_skip) ?_
    refine view_after (g := fun u => (u.chan lead).biasOk) (keeps_when ((fgReverse_touch.keepsChan rfl).view _)) ?_
    exact view_after (g := fun u => (u.chan lead).biasOk) (keepsChan_setR.view _) hbias

/-- The end of a back-off leaves nothing of the lead but its STAGE changed before the start (R113). -/
theorem mayStart_of_backoff (hwanted : s.refI lead ≠ 0) (hlines : s.svc.parkLines = false)
    (hservice : ((s.outputOf lead).all fun c => s.flag Reg.PHC_CTRL.ENABLE c) = true) (hloops : s.startUnset lead = false) :
    MayStart ((setR Reg.PHC_STATUS.STAGE 0 lead).run s) lead := by
  have hkeep {f : Fld} (hf : Reg.PHC_STATUS.STAGE.id ≠ f.id) (i : Nat) :
      ((setR Reg.PHC_STATUS.STAGE 0 lead).run s).rd f i = s.rd f i := keepsRd_setR hf s
  have hchan : ((setR Reg.PHC_STATUS.STAGE 0 lead).run s).chan lead = s.chan lead := keepsChan_setR s
  constructor
  case parked => exact rd_setR rfl (by decide)
  case wanted => rwa [State.refI, hkeep (by decide)]
  case lines => exact (congrArg SvcRec.parkLines (State.wr_svc ..)).trans hlines
  case inService =>
    rw [outputOf_of_gang (hkeep (by decide) 0)]
    simpa only [State.flag, hkeep (f := Reg.PHC_CTRL.ENABLE) (by decide)] using hservice
  case loops => simpa only [State.startUnset, State.coefs, hchan] using hloops

theorem execStartBackoffEnd_restarts (hs : s.stopped = false) (hstage : s.rd Reg.PHC_STATUS.STAGE lead = 5)
    (hover : (s.chan lead).backoffUntil ≤ s.time) (hwanted : s.refI lead ≠ 0) (hlines : s.svc.parkLines = false)
    (hservice : ((s.outputOf lead).all fun c => s.flag Reg.PHC_CTRL.ENABLE c) = true) (hloops : s.startUnset lead = false)
    (hbias : (s.chan lead).biasOk = false) : Does (.startBackoffEnd lead none) s fun t => t.rd Reg.PHC_STATUS.STAGE lead = 1 := by
  refine does_of_ends hs rfl ?_
  rw [Prog.run_read, if_pos ⟨hstage, hover⟩, Prog.run_seq]
  refine leadStart_checks (mayStart_of_backoff hwanted hlines hservice hloops) ?_
  exact (congrArg ChanRec.biasOk (keepsChan_setR s)).trans hbias

theorem execRetriesReset_clears (hs : s.stopped = false) (hstage : s.rd Reg.PHC_STATUS.STAGE lead = 3)
    (hlong : (s.chan lead).regSince + 10000000 ≤ s.time) : Does (.retriesReset lead) s fun t => t.rd Reg.PHC_CNT.RETRIES lead = 0 := by
  refine does_of_ends hs rfl ?_
  rw [Prog.run_read, if_pos ⟨hstage, hlong⟩]
  exact rd_setR rfl (by decide)

/-! The peak limit (R114) and a stale commit (R125). -/

theorem execPeakLimitTruncate_cuts {ma tick : Nat} (hs : s.stopped = false) (hpark : s.flag Reg.PHC_STATUS.PARKED lead = false)
    (hpeak : 100 * s.rd Reg.PHC_CTRL.PEAK_LIM lead ≤ ma) :
    Does (.peakLimitTruncate lead ma tick) s fun t => t.rd Reg.PHC_CNT.CBC lead = min (s.rd Reg.PHC_CNT.CBC lead + 1) 65535 ∧
      (t.chan lead).edges = (s.chan lead).edges.map fun e => edgesCut e tick := by
  have hcount : ((incSat Reg.PHC_CNT.CBC lead).run s).chan lead = s.chan lead := keepsChan_setR s
  refine does_of_ends hs rfl ?_
  rw [Prog.run_read, if_pos (by simp [hpark, hpeak]), Prog.run_seq]
  constructor
  · exact rd_after keepsRd_updChans (rd_incSat rfl (by decide) rfl rfl)
  · rw [updChans_chan, hcount]

/-- A switching output that stops is in its soft stop, or stays in it (R115). -/
theorem softStop_stage (hsw : s.switching lead = true) : ((softStop lead).run s).rd Reg.PHC_STATUS.STAGE lead = 4 := by
  have hstage : (s.rd Reg.PHC_STATUS.STAGE lead = 2 ∨ s.rd Reg.PHC_STATUS.STAGE lead = 3) ∨ s.rd Reg.PHC_STATUS.STAGE lead = 4 := by
    simpa [State.switching] using hsw
  rw [softStop, Prog.run_read]
  dsimp only
  split
  · rw [softStopBegin, seqs_cons_run]
    exact rd_after (keeps_seqs (by simp)) (rd_setR rfl (by decide))
  · rename_i hnot
    have h4 := hstage.resolve_left hnot
    rw [if_pos h4]
    exact h4

theorem execCommitStale_stops (hs : s.stopped = false) (hsw : s.switching lead = true) (hstale : (s.chan lead).commitAt + 250000 ≤ s.time) :
    Does (.commitStale lead) s fun t => t.rd Reg.PHC_STATUS.STAGE lead = 4 := by
  refine does_of_ends hs rfl ?_
  rw [Prog.run_read, if_pos (by simp [hsw, hstale]), Prog.run_seq]
  exact rd_after (raisePf_touch.keepsRd rfl rfl) (softStop_stage hsw)

end

/-- Settles O14: each command by what its update, start, stop or count leaves of the lead. -/
theorem channelRuns : Obligations.ChannelRuns := by
  unfold Obligations.ChannelRuns
  intro s lead hs
  exact ⟨fun _ _ _ => execCurrentUpdate_measV hs, execRiseAbort_aborts hs, fun _ => execSoftLevelUpdate_ticks hs,
    execStartBackoffEnd_restarts hs, execRetriesReset_clears hs, fun _ _ => execPeakLimitTruncate_cuts hs, execCommitStale_stops hs⟩

end Sys2Proof.Machine
end

section
/-! Synchronisation of a lead (R99, R100), and the faults of an output (R122, R124). -/

namespace Sys2Proof.Machine

section

variable {s : State} {lead n ticks : Nat} {f : Fld}

/-! Lists of channels. -/

/-- A program for each member of a list, under a condition that all of them keep: what one member's program brings about stands where the
others' leave it. -/
theorem each_brings {α : Type} {I P : State → Prop} {a : α} {r : α → Prog} (hinv : ∀ b u, I u → I ((r b).run u))
    (hset : ∀ u, I u → P ((r a).run u)) (hkeep : ∀ b u, b ≠ a → I u → P u → P ((r b).run u)) {l : List α} (ha : a ∈ l) (hs : I s) :
    P ((each l r).run s) := by
  have hrest (l : List α) (u : State) (hi : I u) (hp : P u) : P ((each l r).run u) := by
    induction l generalizing u with
    | nil => exact hp
    | cons b l ih =>
      refine ih _ (hinv b u hi) ?_
      by_cases hb : b = a
      · rw [hb]
        exact hset u hi
      · exact hkeep b u hb hi hp
  induction l generalizing s with
  | nil => cases ha
  | cons b l ih =>
    rcases List.mem_cons.1 ha with rfl | ha
    · exact hrest l _ (hinv _ s hs) (hset s hs)
    · exact ih ha (hinv b s hs)

/-- The channels of an output have its lead (R80). -/
theorem leadOf_of_mem_outputOf {c : Nat} (h : c ∈ s.outputOf n) : s.leadOf c = s.leadOf n := by
  unfold State.outputOf at h
  unfold State.leadOf
  split_ifs at h with hslot hgang <;> simp only [List.mem_cons, List.not_mem_nil, or_false] at h
  · have hc : c < 128 ∧ c / 4 = n / 4 := by omega
    rw [if_pos hc.1, if_pos hslot, hc.2, if_pos hgang, if_pos hgang]
  · have hc : c < 128 ∧ c / 4 = n / 4 ∧ c / 2 = n / 2 := by omega
    rw [if_pos hc.1, if_pos hslot, hc.2.1, hc.2.2]
  · rw [h]

/-- No lead's output has another lead's channel. -/
theorem lead_not_mem_outputOf (hlead : s.isLead lead = true) (hn : s.isLead n = true) (hne : n ≠ lead) : lead ∉ s.outputOf n := fun h =>
  hne <| (beq_iff_eq.1 hn).symm.trans ((leadOf_of_mem_outputOf h).symm.trans (beq_iff_eq.1 hlead))

theorem keepsRd_each_setR {l : List Nat} {v : Nat → Nat} (h : n ∉ l) : (each l fun c => setR f (v c) c).Keeps fun u => u.rd f n :=
  keeps_seqs fun p hp => by
    obtain ⟨c, hc, rfl⟩ := List.mem_map.1 hp
    exact fun _ => State.rd_wr_ne _ _ _ _ _ _ _ _ _ _ (.inr (.inl fun e => h (e ▸ hc)))

/-! SYNC_IN edges (R99, R100). -/

/-- What an edge of SYNC_IN does to one channel. -/
def syncEdge (ticks lead : Nat) : Prog := .read fun s =>
  if !s.isLead lead || !s.flag Reg.PHC_CTRL.SYNC lead then .skip
  else seqs [
    updChans lead fun x =>
      { x with tSync := ticks, edgeAt := s.time, edgeRun := (if within1pct ticks x.tSync then x.edgeRun + 1 else 0) },
    if s.flag Reg.PHC_STATUS.SYNC_LOST lead then .skip
    else if s.syncOk lead ticks then .seq (setR Reg.PHC_STATUS.SYNC_LOCK 1 lead) (perEff lead (s.syncPer lead ticks))
    else .seq (setR Reg.PHC_STATUS.SYNC_LOCK 0 lead) (freeRun lead)]

theorem execSyncInEdge_eq : execSyncInEdge ticks = ends (each (List.range 144) (syncEdge ticks)) := rfl

/-- An edge changes the locks and the effective periods alone of the registers. -/
theorem syncEdge_keepsRd {i j k : Nat} (hlock : Reg.PHC_STATUS.SYNC_LOCK.id ≠ f.id) (hper : Reg.PHC_PER_EFF.PER_EFF.id ≠ f.id) :
    (syncEdge ticks n).Keeps fun u => u.rd f i j k := by
  have hset {v : Nat} : (setR Reg.PHC_STATUS.SYNC_LOCK v n).Keeps fun u => u.rd f i j k := keepsRd_setR hlock
  refine keeps_read fun s => keeps_ite keeps_skip (keeps_cons keepsRd_updChans (keeps_cons ?_ keeps_seqs_nil))
  refine keeps_ite keeps_skip (keeps_ite (keeps_seq hset ?_) (keeps_seq hset ?_))
  · exact keeps_read fun _ => keeps_each fun _ => keepsRd_setR hper
  · exact keeps_read fun _ => keeps_each fun _ => keepsRd_setR hper

/-- An edge does to another lead nothing that shows in this lead's lock and effective period. -/
theorem syncEdge_other (hlead : s.isLead lead = true) (hne : n ≠ lead) :
    ((syncEdge ticks n).run s).rd Reg.PHC_STATUS.SYNC_LOCK lead = s.rd Reg.PHC_STATUS.SYNC_LOCK lead ∧
      ((syncEdge ticks n).run s).rd Reg.PHC_PER_EFF.PER_EFF lead = s.rd Reg.PHC_PER_EFF.PER_EFF lead := by
  by_cases hn : s.isLead n = true
  · have hnot {u : State} (hu : u.rd Reg.PHC_GANG.GANG_EN = s.rd Reg.PHC_GANG.GANG_EN) : lead ∉ u.outputOf n := by
      rw [outputOf_of_gang hu]
      exact lead_not_mem_outputOf hlead hn hne
    have hlock {u : State} {v : Nat} : ((setR Reg.PHC_STATUS.SYNC_LOCK v n).run u).rd Reg.PHC_STATUS.SYNC_LOCK lead =
        u.rd Reg.PHC_STATUS.SYNC_LOCK lead := State.rd_wr_ne _ _ _ _ _ _ _ _ _ _ (.inr (.inl hne.symm))
    rw [syncEdge, Prog.run_read]
    split
    · exact ⟨rfl, rfl⟩
    · rw [seqs_cons_run, seqs_cons_run, seqs_nil_run]
      split
      · exact ⟨rfl, rfl⟩
      · split <;> rw [Prog.run_seq]
        · refine ⟨rd_after (perEff_touch.keepsRd rfl rfl) hlock, ?_⟩
          rw [perEff, Prog.run_read]
          exact rd_after (keepsRd_each_setR (hnot (keepsRd_setR (by decide) _))) (keepsRd_setR (by decide) _)
        · refine ⟨rd_after (freeRun_touch.keepsRd rfl rfl) hlock, ?_⟩
          rw [freeRun, Prog.run_read]
          exact rd_after (keepsRd_each_setR (hnot (keepsRd_setR (by decide) _))) (keepsRd_setR (by decide) _)
  · rw [syncEdge, Prog.run_read, if_pos (by simp [hn])]
    exact ⟨rfl, rfl⟩

/-- A lead that locks at a period (R99): SYNC set, no loss, and the period in range. -/
structure SyncReady (s : State) (lead ticks ratio : Nat) : Prop where
  isLead : s.isLead lead = true
  sync : s.flag Reg.PHC_CTRL.SYNC lead = true
  kept : s.flag Reg.PHC_STATUS.SYNC_LOST lead = false
  ratio : s.rd Reg.PHC_CTRL.RATIO lead = ratio
  inRange : s.syncOk lead ticks = true

variable {ratio : Nat}

theorem SyncReady.after (h : SyncReady s lead ticks ratio) (m : Nat) : SyncReady ((syncEdge ticks m).run s) lead ticks ratio := by
  have hratio : ((syncEdge ticks m).run s).rd Reg.PHC_CTRL.RATIO lead = s.rd Reg.PHC_CTRL.RATIO lead :=
    syncEdge_keepsRd (by decide) (by decide) s
  constructor
  case isLead => rw [State.isLead, leadOf_of_gang (syncEdge_keepsRd (by decide) (by decide) s)]; exact h.isLead
  case sync => exact (flag_of_keeps (syncEdge_keepsRd (by decide) (by decide))).trans h.sync
  case kept => exact (flag_of_keeps (syncEdge_keepsRd (by decide) (by decide))).trans h.kept
  case ratio => exact hratio.trans h.ratio
  case inRange => rw [State.syncOk, State.syncPer, hratio]; exact h.inRange

theorem syncPer_lt (h : s.syncOk lead ticks = true) : s.syncPer lead ticks < 2 ^ 18 := by
  obtain ⟨-, -, -, hper⟩ := of_decide_eq_true h
  omega

/-- Every channel of the output runs at the period given, and with them the lead (R99, R141). -/
theorem perEff_sets {per : Nat} (hlead : s.isLead lead = true) (hper : per < 2 ^ 18) :
    ((perEff lead per).run s).rd Reg.PHC_PER_EFF.PER_EFF lead = per := by
  rw [perEff, Prog.run_read]
  exact rd_each_setR rfl hper (lead_mem_outputOf hlead)

theorem syncEdge_locks (h : SyncReady s lead ticks ratio) : ((syncEdge ticks lead).run s).rd Reg.PHC_STATUS.SYNC_LOCK lead = 1 ∧
    ((syncEdge ticks lead).run s).rd Reg.PHC_PER_EFF.PER_EFF lead = ticks / (ratio + 1) := by
  obtain ⟨hlead, hsync, hkept, hratio, hok⟩ := h
  rw [syncEdge, Prog.run_read, if_neg (by simp [hlead, hsync]), seqs_cons_run, seqs_cons_run, seqs_nil_run, if_neg (by simp [hkept]),
    if_pos hok, Prog.run_seq]
  constructor
  · exact rd_after (perEff_touch.keepsRd rfl rfl) (rd_setR rfl (by decide))
  · rw [← hratio]
    refine perEff_sets ?_ (syncPer_lt hok)
    rw [State.isLead, leadOf_of_gang (keepsRd_setR (by decide) _)]
    exact hlead

theorem execSyncInEdge_locks (hlt : lead < 144) (hs : s.stopped = false) (h : SyncReady s lead ticks ratio) :
    Does (.syncInEdge ticks) s fun t =>
      t.rd Reg.PHC_STATUS.SYNC_LOCK lead = 1 ∧ t.rd Reg.PHC_PER_EFF.PER_EFF lead = ticks / (ratio + 1) := by
  refine does_of_ends hs (congrFun execSyncInEdge_eq s) ?_
  refine each_brings (I := fun u => SyncReady u lead ticks ratio)
    (P := fun u => u.rd Reg.PHC_STATUS.SYNC_LOCK lead = 1 ∧ u.rd Reg.PHC_PER_EFF.PER_EFF lead = ticks / (ratio + 1))
    (fun b u hu => hu.after b) (fun u => syncEdge_locks) (fun b u hb hu hset => ?_) (List.mem_range.2 hlt) h
  obtain ⟨hlock, hper⟩ := syncEdge_other (ticks := ticks) hu.isLead hb
  exact ⟨hlock.trans hset.1, hper.trans hset.2⟩

/-! The loss of SYNC_IN, and the lock after it (R100). -/

theorem execSyncLoss_loses (hs : s.stopped = false) (hsync : s.flag Reg.PHC_CTRL.SYNC lead = true)
    (hlock : s.flag Reg.PHC_STATUS.SYNC_LOCK lead = true) (hlong : s.rd Reg.PHC_GCTL.SYNC_LOSS_N * (s.chan lead).tSync < ticks) :
    Does (.syncLoss lead ticks) s fun t => t.rd Reg.PHC_STATUS.SYNC_LOCK lead = 0 ∧ t.rd Reg.PHC_STATUS.SYNC_LOST lead = 1 ∧
      t.rd Reg.PHC_CNT.SYNC_LOSSES lead = min (s.rd Reg.PHC_CNT.SYNC_LOSSES lead + 1) 255 := by
  refine does_of_ends hs rfl ?_
  rw [Prog.run_read, if_pos (by simp [hsync, hlock, hlong])]
  simp only [seqs_cons_run, seqs_nil_run]
  refine ⟨?_, ?_, ?_⟩ <;> refine rd_after (raisePf_touch.keepsRd rfl rfl) (rd_after keepsRd_updChans ?_)
  · exact rd_after (keepsRd_incSat (by decide)) (rd_after (keepsRd_setR (by decide)) (rd_setR rfl (by decide)))
  · exact rd_after (keepsRd_incSat (by decide)) (rd_setR rfl (by decide))
  · refine rd_incSat rfl (by decide) rfl ?_
    exact rd_after (keepsRd_setR (by decide)) (rd_after (keepsRd_setR (by decide)) rfl)

theorem execSyncRelock_locks {off : Nat} (hs : s.stopped = false) (hsync : s.flag Reg.PHC_CTRL.SYNC lead = true)
    (hlost : s.flag Reg.PHC_STATUS.SYNC_LOST lead = true) (hrun : 16 ≤ (s.chan lead).edgeRun)
    (hok : s.syncOk lead (s.chan lead).tSync = true) :
    Does (.syncRelock lead off) s fun t => t.rd Reg.PHC_STATUS.SYNC_LOCK lead = 1 ∧ t.rd Reg.PHC_STATUS.SYNC_LOST lead = 0 := by
  refine does_of_ends hs rfl ?_
  rw [Prog.run_read]
  dsimp only
  rw [if_pos (by simp [hsync, hlost, hrun, hok])]
  simp only [seqs_cons_run, seqs_nil_run]
  constructor <;> refine rd_after keepsRd_updChans (rd_after (perEff_touch.keepsRd rfl rfl) ?_)
  · exact rd_after (keepsRd_setR (by decide)) (rd_setR rfl (by decide))
  · exact rd_setR rfl (by decide)

/-! Faults (R122, R124). -/

theorem execDrvFault_sets {ns : Nat} (hs : s.stopped = false) (hlong : 200 ≤ ns) :
    Does (.drvFault lead ns) s fun t => t.rd Reg.PHC_STATUS.DRV_FLT lead = 1 := by
  refine does_of_ends hs rfl ?_
  rw [Prog.run_seq, if_pos hlong]
  simp only [seqs_cons_run, seqs_nil_run]
  exact rd_after (raiseOutput_touch.keepsRd rfl rfl) (rd_after (outputSafe_touch.keepsRd rfl rfl) (rd_setR rfl (by decide)))

theorem runaway_sets {cond : Nat} : ((runaway lead cond).run s).rd Reg.PHC_STATUS.RUNAWAY lead = 1 := by
  simp only [runaway, seqs_cons_run, seqs_nil_run]
  exact rd_after (raiseOutput_touch.keepsRd rfl rfl) (rd_after (outputSafe_touch.keepsRd rfl rfl) (rd_setR rfl (by decide)))

theorem execRunaway_sets {cond t0 : Nat} (hs : s.stopped = false) (hlead : s.isLead lead = true) (hsw : s.switching lead = true)
    (hsince : s.runawaySince lead cond = some t0) (hlong : t0 + runawayPersist cond ≤ s.time) :
    Does (.runaway lead cond) s fun t => t.rd Reg.PHC_STATUS.RUNAWAY lead = 1 := by
  refine does_of_ends hs rfl ?_
  rw [Prog.run_read]
  simp only [hsince]
  rw [if_pos (by simp [hlead, hsw, hlong])]
  exact runaway_sets

end

/-- Settles O15: an edge by what it does to the one lead and to the others, the rest by the registers that each writes. -/
theorem channelSyncAndFaults : Obligations.ChannelSyncAndFaults := by
  unfold Obligations.ChannelSyncAndFaults
  constructor
  · intro s lead hlt hs hsync
    refine ⟨fun ticks hlead hkept hok => ?_, fun _ => execSyncLoss_loses hs hsync, fun _ => execSyncRelock_locks hs hsync⟩
    exact execSyncInEdge_locks hlt hs ⟨hlead, hsync, hkept, rfl, hok⟩
  · intro s lead hs
    exact ⟨fun _ => execDrvFault_sets hs, fun _ _ => execRunaway_sets hs⟩

end Sys2Proof.Machine
end

section
/-! Phases added and shed (R102, R103), and their balance (R108). -/

namespace Sys2Proof.Machine

section

variable {s : State} {lead : Nat}

theorem nPhys_le_four : s.nPhys lead ≤ 4 := by
  unfold State.nPhys State.outputOf
  split_ifs <;> simp

theorem addPhases_active {m : Nat} (hmore : s.nAct lead < m) (hm : m < 8) :
    ((addPhases lead m).run s).rd Reg.PHC_STATUS.ACTIVE_PH lead = m := by
  rw [addPhases, Prog.run_read]
  dsimp only
  rw [if_neg (by omega)]
  simp only [seqs_cons_run, seqs_nil_run]
  refine rd_after keepsRd_updChans (rd_after (keeps_each fun _ => keeps_seq (keepsRd_setR (by decide)) keepsRd_updChans) ?_)
  exact rd_after (moveOffsets_touch.keepsRd rfl rfl) (rd_setR rfl hm)

theorem execPhaseAddMeasured_adds (hs : s.stopped = false) (hen : s.flag Reg.PHC_SHED.SHED_EN lead = true) (hsw : s.switching lead = true)
    (hrun : 4 ≤ (s.chan lead).addRun) (hmore : s.nAct lead < s.nPhys lead) :
    Does (.phaseAddMeasured lead) s fun t => t.rd Reg.PHC_STATUS.ACTIVE_PH lead = s.nAct lead + 1 := by
  have hphys : s.nPhys lead ≤ 4 := nPhys_le_four
  refine does_of_ends hs rfl ?_
  rw [Prog.run_read, if_pos (by simp [hen, hsw, hrun, hmore])]
  exact addPhases_active (Nat.lt_succ_self _) (by omega)

theorem execPhaseShed_sheds (hs : s.stopped = false) (hen : s.flag Reg.PHC_SHED.SHED_EN lead = true) (hsw : s.switching lead = true)
    (hmany : 1 < s.nAct lead) (hmax : s.nAct lead ≤ 4) (hbelow : (s.chan lead).isBelow = true)
    (hlow : (s.chan lead).belowSince + 1000 * s.rd Reg.PHC_SHED.SHED_DWELL lead ≤ s.time)
    (hrest : (s.chan lead).changeAt + 1000 * s.rd Reg.PHC_SHED.SHED_DWELL lead ≤ s.time) :
    Does (.phaseShed lead) s fun t => t.rd Reg.PHC_STATUS.ACTIVE_PH lead = s.nAct lead - 1 := by
  have hfits : s.nAct lead - 1 < 8 := by omega
  refine does_of_ends hs rfl ?_
  rw [Prog.run_read]
  dsimp only
  rw [if_pos (by simp [hen, hsw, hmany, hbelow, hlow, hrest])]
  simp only [seqs_cons_run, seqs_nil_run]
  refine rd_after keepsRd_updChans (rd_after (keeps_each fun _ => keepsRd_updChans) ?_)
  exact rd_after (moveOffsets_touch.keepsRd rfl rfl) (rd_setR rfl hfits)

/-- A shed phase parks once its periods with PWML held low are over (R103). -/
theorem execPhaseHandoverEnd_parks {p : Nat} (hs : s.stopped = false) (hshed : (s.chan lead).shedding = some p)
    (hover : 32 ≤ (s.chan p).lowRun) :
    Does (.phaseHandoverEnd lead) s fun t => t.rd Reg.PHC_STATUS.PARKED p = 1 ∧ t.rd Reg.PHC_OUT.DUTY p = 0 := by
  have hdue : (s.chan lead).shedding.toList.filter (fun p => decide ((s.chan p).lowRun ≥ 32)) = [p] := by simp [hshed, hover]
  refine does_of_ends hs rfl ?_
  rw [Prog.run_read]
  dsimp only
  rw [hdue]
  simp only [each, List.map_cons, List.map_nil, seqs_cons_run, seqs_nil_run]
  constructor <;> refine rd_after keepsRd_updChans (rd_after keepsRd_updChans ?_)
  · exact rd_after (keepsRd_setR (by decide)) (rd_setR rfl (by decide))
  · exact rd_setR rfl (by decide)

/-- Of two phases the imbalance is their difference against their mean, in percent, and IMB_PCT saturates (R108). -/
theorem execImbalanceCheck_two {x y : Nat} (hs : s.stopped = false) (hpos : 0 < x + y) (havgs : s.phaseAvgs lead = [x, y])
    (hshed : (s.chan lead).shedding = none) (hadd : (s.chan lead).adding = []) (hsame : (s.chan lead).imbChanged = false) :
    Does (.imbalanceCheck lead) s fun t =>
      t.rd Reg.PHC_IMBAL.IMB_PCT lead = min ((max x y - min x y) * 200 / (x + y)) 255 := by
  have hsum : [x, y].foldl (· + ·) 0 = x + y := by simp
  have hpct : ([x, y].foldl max 0 - [x, y].foldl min ([x, y].headD 0)) * 100 * [x, y].length / (x + y) =
      (max x y - min x y) * 200 / (x + y) := by simp [Nat.mul_assoc]
  refine does_of_ends hs rfl ?_
  rw [Prog.run_seq]
  refine rd_after (imbalanceNext_touch.keepsRd rfl rfl) ?_
  rw [Prog.run_read]
  dsimp only
  rw [havgs, hsum, hpct, if_neg (by simp [hshed, hadd, hsame]; omega)]
  simp only [seqs_cons_run, seqs_nil_run]
  refine rd_after (keeps_ite (raiseOutput_touch.keepsRd rfl rfl) keeps_skip) (rd_after keepsRd_updChans (rd_setR rfl ?_))
  exact (Nat.min_le_right _ _).trans_lt (by decide)

end

/-- Settles O16: each command by the phases that it leaves active or parked, or by the imbalance that it computes. -/
theorem channelPhases : Obligations.ChannelPhases := by
  unfold Obligations.ChannelPhases
  intro s lead hs
  exact ⟨execPhaseAddMeasured_adds hs, execPhaseShed_sheds hs, fun _ => execPhaseHandoverEnd_parks hs,
    fun _ _ => execImbalanceCheck_two hs⟩

end Sys2Proof.Machine
end

section
/-! Records of slots, and the stop of a slot whose output switches (R115, R146). -/

namespace Sys2Proof.Machine

section

variable {β : Type} {p : Prog} {M n : Nat} {f : Fld} {i j k v : Nat} {w : SlotRec → β} {s : State} {x : β}

theorem Prog.Touches.keepsSlot (h : p.Touches M) (hM : M.testBit 709 = false) : p.Keeps fun s => w (s.slot n) := fun s =>
  congrArg (fun l => w (Tab.get ({} : SlotRec) l n)) (h.slots s hM)

theorem keepsSlot_setR : (setR f v i j k).Keeps fun s => w (s.slot n) := fun _ => congrArg w (State.wr_slot ..)

theorem updSlots_slot {r : SlotRec → SlotRec} : ((updSlots n r).run s).slot n = r (s.slot n) := Act.slots_same ..

theorem keepsSlot_updSlots {r : SlotRec → SlotRec} (h : ∀ x, w (r x) = w x) : (updSlots i r).Keeps fun s => w (s.slot n) := fun s => by
  by_cases hi : i = n
  · subst hi
    exact (congrArg w updSlots_slot).trans (h _)
  · exact congrArg w (Act.slots_ne _ _ hi _ _)

/-- What a program left in a slot's record stands until another one changes it. -/
theorem slot_after (hp : p.Keeps fun s => w (s.slot n)) (h : w (s.slot n) = x) : w ((p.run s).slot n) = x := (hp s).trans h

end

section

variable {s : State} {sl lead after : Nat} {reason : Option Nat}

theorem switching_of_keeps {p : Prog} (hp : p.Keeps fun u => u.rd Reg.PHC_STATUS.STAGE lead) : (p.run s).switching lead = s.switching lead :=
  congrArg (fun g => g == 2 || g == 3 || g == 4) (hp s)

/-- The soft stop of a switching output begins, or goes on (R115). -/
theorem softStop_of_switching (h : s.switching lead = true) :
    (softStop lead).run s = (softStopBegin lead).run s ∨ (softStop lead).run s = s := by
  have hstage : (s.rd Reg.PHC_STATUS.STAGE lead = 2 ∨ s.rd Reg.PHC_STATUS.STAGE lead = 3) ∨ s.rd Reg.PHC_STATUS.STAGE lead = 4 := by
    simpa [State.switching] using h
  rw [softStop, Prog.run_read]
  dsimp only
  split
  · exact .inl rfl
  · rename_i hnot
    rw [if_pos (hstage.resolve_left hnot)]
    exact .inr rfl

/-- A soft stop leaves alone what the output's STAGE and its start level do not show. -/
theorem softStop_keeps {β : Type} {g : State → β} (h : s.switching lead = true) (hg : (softStopBegin lead).Keeps g) :
    g ((softStop lead).run s) = g s := by
  rcases softStop_of_switching h with e | e <;> rw [e]
  exact hg s

/-- A slot whose output switches is STOPPING, with what follows and the reason that is owed (R146, R173). -/
theorem stopSlot_stops (h : s.switching (s.slotLead sl) = true) :
    ((stopSlot sl after reason).run s).slSt sl = slStopping ∧
      ((stopSlot sl after reason).run s).slot sl = { s.slot sl with afterStop := after, endReason := reason } := by
  rw [stopSlot, Prog.run_read, seqs_cons_run, seqs_cons_run, seqs_cons_run, seqs_nil_run, if_pos h]
  have hstage := (switching_of_keeps (s := s) (lead := s.slotLead sl) (p := .seq (updSlots sl fun x =>
    { x with afterStop := after, endReason := reason }) (setR Reg.SLT_STATUS.STATE slStopping sl))
    (keeps_seq keepsRd_updSlots (keepsRd_setR (by decide)))).trans h
  constructor
  · exact (softStop_keeps (g := fun u => u.slSt sl) hstage (softStopBegin_touch.keepsRd rfl rfl)).trans (rd_setR rfl (by decide))
  · exact (softStop_keeps (g := fun u => u.slot sl) hstage (softStopBegin_touch.keepsSlot (w := id) rfl)).trans
      ((keepsSlot_setR (w := id) _).trans updSlots_slot)

end

end Sys2Proof.Machine
end

section
/-! What the bus agent's failures show of a slot's record (R416, R427, R428). -/

namespace Sys2Proof.Machine

section

variable {β : Type} {w : SlotRec → β} {n b : Nat}

/-- A view of a slot's record in which the repeats and the misses of the bus agent do not show. -/
def UnseenByAgent (w : SlotRec → β) : Prop :=
  ∀ (x : SlotRec) (at_ : Option Nat) (misses : Nat) (silent : Bool), w { x with busRetryAt := at_, pollMisses := misses, silent } = w x

theorem identRetryLater_keepsSlot (hw : UnseenByAgent w) : (identRetryLater b).Keeps fun s => w (s.slot n) :=
  keeps_read fun _ => keeps_ite (keepsSlot_updSlots fun x => hw x _ x.pollMisses x.silent) keeps_skip

theorem pollMissed_keepsSlot (hw : UnseenByAgent w) : (pollMissed b).Keeps fun s => w (s.slot n) := by
  refine keeps_when (keeps_cons (keepsSlot_updSlots fun x => hw x x.busRetryAt _ x.silent) (keeps_cons (keeps_read fun _ => ?_) keeps_seqs_nil))
  exact keeps_ite (keeps_seq (raiseSlot_touch.keepsSlot rfl) (keepsSlot_updSlots fun x => hw x x.busRetryAt x.pollMisses _)) keeps_skip

theorem agentFailed_keepsSlot (hw : UnseenByAgent w) {j : TwbJob} : (agentFailed b j).Keeps fun s => w (s.slot n) :=
  keeps_ite (identRetryLater_keepsSlot hw) (keeps_ite (pollMissed_keepsSlot hw) (keeps_ite (raisePf_touch.keepsSlot rfl) keeps_skip))

theorem agentQueue_keepsSlot (hw : UnseenByAgent w) {j : TwbJob} : (agentQueue b j).Keeps fun s => w (s.slot n) :=
  keeps_read fun _ => keeps_ite (agentFailed_keepsSlot hw) fun _ => rfl

theorem jobFails_keepsSlot (hw : UnseenByAgent w) {j : TwbJob} {status detail : Nat} :
    (jobFails b j status detail).Keeps fun s => w (s.slot n) :=
  keeps_ite (hostDone_touch.keepsSlot rfl) (agentFailed_keepsSlot hw)

theorem deadFlush_keepsSlot (hw : UnseenByAgent w) : (deadFlush b).Keeps fun s => w (s.slot n) :=
  keeps_read fun _ => keeps_cons (fun _ => rfl) (keeps_cons (hostqUpdate_touch.keepsSlot rfl)
    (keeps_cons (keeps_each fun _ => jobFails_keepsSlot hw) keeps_seqs_nil))

theorem recoverSda_keepsSlot (hw : UnseenByAgent w) {pulses : Option Nat} : (recoverSda b pulses).Keeps fun s => w (s.slot n) := by
  have htold {k : Nat} {l : List Nat} : (raise { typ := evTwbTimeout, src := busSrc b, data := dat 16 1 b + dat 17 1 k } l).Keeps
      fun s => w (s.slot n) := raise_touch.keepsSlot rfl
  refine keeps_read fun _ => keeps_ite (keeps_cons htold (keeps_cons (fun _ => rfl) keeps_seqs_nil)) ?_
  exact keeps_cons keepsSlot_setR (keeps_cons htold (keeps_cons (deadFlush_keepsSlot hw) keeps_seqs_nil))

end

end Sys2Proof.Machine
end

section
/-! The phases of a charge and its ends (R164 to R179). -/

namespace Sys2Proof.Machine

section

variable {s : State} {sl : Nat}

/-! Phases (R164, R165). -/

theorem toPhase_curPhase {ph : Nat} : (((toPhase sl ph).run s).slot sl).curPhase = ph := by
  simp only [toPhase, Prog.run_read, seqs_cons_run, seqs_nil_run]
  refine slot_after keepsSlot_setR ?_
  rw [updSlots_slot]

theorem toPhase_phTime {ph : Nat} : ((toPhase sl ph).run s).rd Reg.SLT_TIME.PH_TIME sl = 0 := rd_setR rfl (by decide)

/-- PHASE follows where current is planned (R161). -/
theorem toPhase_phase {ph : Nat} (hplanned : s.rd Reg.SLT_STATUS.PHASE sl ≠ 0) (hph : ph < 8) :
    ((toPhase sl ph).run s).rd Reg.SLT_STATUS.PHASE sl = ph := by
  simp only [toPhase, Prog.run_read, seqs_cons_run, seqs_nil_run]
  refine rd_after (keepsRd_setR (by decide)) (rd_after keepsRd_updSlots ?_)
  rw [when_run, if_pos (by simpa using hplanned)]
  exact rd_setR rfl hph

theorem execChargePhaseAdvance_advances {ph : Nat} (hs : s.stopped = false) (hph : ph = 1 ∨ ph = 2) (hst : s.slSt sl = slCharging)
    (hcur : (s.slot sl).curPhase = ph) (hrun : 5 ≤ (s.slot sl).upRun) :
    Does (.chargePhaseAdvance sl) s fun t => (t.slot sl).curPhase = ph + 1 ∧ t.rd Reg.SLT_TIME.PH_TIME sl = 0 := by
  subst hcur
  refine does_of_ends hs rfl ?_
  rw [Prog.run_read]
  dsimp only
  rw [if_pos ⟨hst, hph, hrun⟩]
  exact ⟨toPhase_curPhase, toPhase_phTime⟩

theorem execCvEntry_enters (hs : s.stopped = false) (hst : s.slSt sl = slCharging) (hlo : 1 ≤ (s.slot sl).curPhase)
    (hhi : (s.slot sl).curPhase ≤ 3) (hplanned : s.rd Reg.SLT_STATUS.PHASE sl ≠ 0) (hcv : s.cvFor sl 1000000 = true) :
    Does (.cvEntry sl) s fun t => t.rd Reg.SLT_STATUS.PHASE sl = 4 ∧ (t.slot sl).curPhase = 4 ∧ (t.slot sl).sunOn = true := by
  refine does_of_ends hs rfl ?_
  rw [Prog.run_read]
  dsimp only
  rw [if_pos ⟨hst, hlo, hhi, hplanned, hcv⟩, seqs_cons_run, seqs_cons_run, seqs_nil_run]
  refine ⟨rd_after keepsRd_updSlots (toPhase_phase hplanned (by decide)), ?_, ?_⟩
  · exact slot_after (keepsSlot_updSlots fun _ => rfl) toPhase_curPhase
  · rw [updSlots_slot]

theorem execPackSag_falls (hs : s.stopped = false) (hst : s.slSt sl = slCharging) (hcur : (s.slot sl).curPhase = 3)
    (hrun : 5 ≤ (s.slot sl).sagRun) : Does (.packSag sl) s fun t => (t.slot sl).curPhase = 2 := by
  refine does_of_ends hs rfl ?_
  rw [Prog.run_read, if_pos ⟨hst, hcur, hrun⟩]
  exact toPhase_curPhase

/-! Timers (R166, R175). -/

theorem execChargePhaseTimeout_faults (hs : s.stopped = false) (hst : s.slSt sl = slCharging) (hcur : (s.slot sl).curPhase = 1)
    (hlong : 6000 * s.rd Reg.SLT_TIMERS.TRICKLE_MAX sl ≤ (s.slot sl).tPhase) (hodd : s.oddGanged sl = false) :
    Does (.chargePhaseTimeout sl) s fun t => t.slSt sl = slFaulted ∧ t.rd Reg.SLT_FAULT.CAUSE sl = caTimer := by
  refine does_of_ends hs rfl ?_
  rw [phaseTimeout, Prog.run_read]
  dsimp only
  rw [if_neg (not_not.2 hst), if_pos ⟨hcur, hlong⟩]
  exact slotSafe_faults hodd (by rw [hst]; decide) (by decide)

theorem receiptEnd_none {xfer : Nat} (h : s.flag Reg.SLT_STATUS.RECEIVER sl = false) : (receiptEnd sl xfer).run s = s := by
  simp [receiptEnd, h]

/-- A charge without a donor, whose output switches, ends with a soft stop that owes its reason (R173). -/
theorem endCharge_stops {reason xfer : Nat} (hrec : s.flag Reg.SLT_STATUS.RECEIVER sl = false) (hsw : s.switching (s.slotLead sl) = true) :
    ((endCharge sl reason xfer).run s).slSt sl = slStopping ∧
      ((endCharge sl reason xfer).run s).slot sl = { s.slot sl with afterStop := slIdle, endReason := some reason } := by
  rw [endCharge, Prog.run_seq, receiptEnd_none hrec]
  exact stopSlot_stops hsw

theorem execCvMaxExpiry_ends (hs : s.stopped = false) (hst : s.slSt sl = slCharging) (hcur : (s.slot sl).curPhase = 4)
    (hlong : 6000 * s.rd Reg.SLT_TIMERS.CV_MAX sl ≤ (s.slot sl).tCv) (haud : (s.slot sl).audStep = 0)
    (hrec : s.flag Reg.SLT_STATUS.RECEIVER sl = false) (hsw : s.switching (s.slotLead sl) = true) :
    Does (.cvMaxExpiry sl) s fun t => t.slSt sl = slStopping ∧ (t.slot sl).endReason = some 1 ∧ (t.slot sl).cvOrderAt = some s.time := by
  have hexp : s.cvExpired sl = true := by simp [State.cvExpired, hcur, hlong]
  refine does_of_ends hs rfl ?_
  rw [cvTimeout, Prog.run_read, if_pos ⟨.inl hst, hexp⟩, seqs_cons_run, seqs_cons_run, seqs_cons_run, seqs_nil_run, when_run,
    if_neg (by simp [haud])]
  obtain ⟨hstop, hslot⟩ := endCharge_stops (s := (updSlots sl fun x => { x with cvOrderAt := some s.time }).run s) (sl := sl)
    (reason := 1) (xfer := 3) hrec hsw
  refine ⟨hstop, ?_, ?_⟩ <;> rw [hslot]
  rw [updSlots_slot]

theorem execCvMaxParkFail_faults {t0 : Nat} (hs : s.stopped = false) (hat : (s.slot sl).cvOrderAt = some t0) (hst : s.slSt sl = slStopping)
    (hpark : s.outputParked (s.slotLead sl) = false) (hlong : t0 + 1000000 ≤ s.time) (hodd : s.oddGanged sl = false) :
    Does (.cvMaxParkFail sl) s fun t => t.slSt sl = slFaulted ∧ t.rd Reg.SLT_FAULT.CAUSE sl = caTimer := by
  refine does_of_ends hs rfl ?_
  simp only [Prog.run_read, hat]
  rw [if_pos ⟨hst, by simp [hpark], hlong⟩]
  exact slotSafe_faults hodd (by rw [hst]; decide) (by decide)

/-! Suspension, taper and the serial poll (R169, R172, R179). -/

theorem execSlotSuspend_suspends {z : Nat} (hs : s.stopped = false) (hz : z = 0 ∨ z = 4 ∨ z = 7) (hst : s.slSt sl = slCharging)
    (hzone : s.rd Reg.SLT_STATUS.ZONE sl = z) (href : s.refI (s.slotLead sl) = 0) :
    Does (.slotSuspend sl) s fun t => t.slSt sl = slSuspended := by
  subst hzone
  refine does_of_ends hs rfl ?_
  rw [Prog.run_read]
  dsimp only
  rw [if_pos ⟨hst, hz, href⟩]
  exact rd_setR rfl (by decide)

/-- Below half of the current at CV entry for the first time, and at no later step: the first TAPER event alone is raised (R172). -/
theorem execTaperCheck_first (hs : s.stopped = false) (hst : s.slSt sl = slCharging) (hbits : (s.slot sl).taperBits = 0)
    (hhalf : 2 * (s.iAvg sl).natAbs < (s.slot sl).cvCurrent) (hquarter : (s.slot sl).cvCurrent ≤ 4 * (s.iAvg sl).natAbs)
    (htaper : (s.slot sl).taper ≤ (s.iAvg sl).natAbs) (hcv : s.rd Reg.SLT_STATUS.PHASE sl = 4) :
    Does (.taperCheck sl) s fun t => (t.slot sl).taperBits = 1 ∧ (t.slot sl).taperAt = s.time := by
  refine does_of_ends hs rfl ?_
  rw [Prog.run_read]
  dsimp only
  rw [if_neg (by simp [State.inCv, hst, hcv]), seqs_cons_run, seqs_cons_run, seqs_nil_run, if_pos htaper]
  have htenth : ¬ 10 * (s.iAvg sl).natAbs < (s.slot sl).cvCurrent := by omega
  constructor
  · refine slot_after (keepsSlot_updSlots fun _ => rfl) ?_
    simp only [each, List.map_cons, List.map_nil, seqs_cons_run, seqs_nil_run, hbits, hhalf, not_lt.2 hquarter, htenth, not_lt.2 htaper]
    have hevent : (((taperEvent sl 0 (s.iAvg sl)).run s).slot sl).taperBits = 0 := slot_after (taperEvent_touch.keepsSlot rfl) hbits
    simp [hasBit, setBit, updSlots_slot, hevent]
  · rw [updSlots_slot]

theorem execSerialPoll_polls (hs : s.stopped = false) (hauth : s.flag Reg.SLT_CFG.SWAP_AUTH sl = true) (hmethod : (s.slot sl).method = 1)
    (hseat : s.seated sl = true) (hlive : s.slotsLive = true)
    (hlong : (s.slot sl).pollAt + 1000000 * s.rd Reg.SLT_CFG.AUTH_POLL sl ≤ s.time) :
    Does (.serialPoll sl) s fun t => (t.slot sl).pollAt = s.time := by
  refine does_of_ends hs rfl ?_
  rw [Prog.run_read]
  dsimp only
  rw [if_pos (by simp [hauth, hmethod, hseat, hlive, hlong]), Prog.run_seq]
  refine slot_after (agentQueue_keepsSlot fun _ _ _ _ => rfl) ?_
  rw [updSlots_slot]

end

/-- Settles O18: each command by the phase that it enters, the end that it begins or the fault that it takes. -/
theorem slotCharging : Obligations.SlotCharging := by
  unfold Obligations.SlotCharging
  intro s sl hs
  exact ⟨fun _ => execChargePhaseAdvance_advances hs, execCvEntry_enters hs, execPackSag_falls hs, execChargePhaseTimeout_faults hs,
    execCvMaxExpiry_ends hs, fun _ => execCvMaxParkFail_faults hs, fun _ => execSlotSuspend_suspends hs,
    fun hst _ => execTaperCheck_first hs hst, execSerialPoll_polls hs⟩

end Sys2Proof.Machine
end

section
/-! A slot's pin, its wet test and its identification (R146 to R158, R177). -/

namespace Sys2Proof.Machine

section

variable {s : State} {sl : Nat}

/-- A change of an ID pin, where nothing is frozen and the device is not in SHIP. -/
theorem does_of_pinSeen {i : Instr} {closed : Bool} {l : Latched} {p : Prog} {P : State → Prop} (hs : s.stopped = false)
    (he : exec i s = pinSeen sl closed l p s) (hp : P (p.run s)) : Does i s P := by
  obtain ⟨hfrozen, hship⟩ := runs_of_stopped hs
  refine does_of_always he ?_
  rw [Prog.run_read, if_neg (by simp [hfrozen]), if_neg hship]
  exact hp

/-! Presence (R146). -/

theorem scanPresence_idClosed : (scanPresence sl).Keeps fun u => (u.slot sl).idClosed :=
  keeps_read fun _ => keeps_ite (keeps_seq keepsSlot_setR (keepsSlot_updSlots fun _ => rfl)) keeps_skip

/-- The closing time of a pin that closes now is that of its debounce. -/
theorem scanPresence_closedAt (h : (s.slot sl).closedAt = s.time) : (((scanPresence sl).run s).slot sl).closedAt = s.time := by
  rw [scanPresence, Prog.run_read]
  split
  · rw [Prog.run_seq, updSlots_slot]
  · exact h

theorem execIdPinClose_closes (hs : s.stopped = false) (hopen : (s.slot sl).idClosed = false) :
    Does (.idPinClose sl) s fun t => (t.slot sl).idClosed = true ∧ (t.slot sl).closedAt = s.time := by
  refine does_of_pinSeen hs rfl ?_
  rw [pinClose, Prog.run_read, if_neg (by simp [hopen]), seqs_cons_run, seqs_cons_run, seqs_cons_run, seqs_nil_run]
  set u := (bedWake sl).run ((updSlots sl fun x => { x with idClosed := true, closedAt := s.time, ntcValid := 0, ntcInvalid := 0 }).run s)
  have hslot : u.slot sl = { s.slot sl with idClosed := true, closedAt := s.time, ntcValid := 0, ntcInvalid := 0 } :=
    slot_after (w := id) (bedWake_touch.keepsSlot rfl) updSlots_slot
  have htime : u.time = s.time := bedWake_touch.time _ rfl
  have hclosed : (u.slot sl).idClosed = true := by rw [hslot]
  have hat : (u.slot sl).closedAt = s.time := by rw [hslot]
  split
  · exact ⟨hclosed, hat⟩
  · split
    · exact ⟨slot_after (raiseSlot_touch.keepsSlot rfl) hclosed, slot_after (raiseSlot_touch.keepsSlot rfl) hat⟩
    · exact ⟨slot_after scanPresence_idClosed hclosed, (scanPresence_closedAt (hat.trans htime.symm)).trans htime⟩

/-! Identification (R149, R151, R153). -/

theorem identBegin_state : ((identBegin sl).run s).slSt sl = slIdentifying := by
  rw [identBegin, Prog.run_read, seqs_cons_run]
  refine rd_after (keeps_seqs ?_) (rd_setR rfl (by decide))
  simp (disch := decide) [keepsRd_setR, dacShow_touch.keepsRd, identAttempt_touch.keepsRd]

theorem execDebounceEnd_identifies (hs : s.stopped = false) (hst : s.slSt sl = slDebounce) (hclosed : (s.slot sl).idClosed = true)
    (hlong : (s.slot sl).closedAt + 1000 * s.rd Reg.SLT_CFG.DEBOUNCE sl ≤ s.time) :
    Does (.debounceEnd sl) s fun t => t.slSt sl = slIdentifying := by
  refine does_of_ends hs rfl ?_
  rw [Prog.run_read, if_pos ⟨hst, hclosed, hlong⟩]
  exact identBegin_state

theorem idType_lt (mv : Nat) : idType mv < 16 := by
  unfold idType
  split_ifs <;> decide

theorem execIdDecode_decodes {mv : Nat} (hs : s.stopped = false) (hst : s.slSt sl = slIdentifying) (hwet : (s.slot sl).wetRunning = false)
    (htyped : (s.slot sl).typed = false) :
    Does (.idDecode sl mv) s fun t => t.rd Reg.SLT_STATUS.TYPE sl = idType mv ∧ t.rd Reg.SLT_DIAG.ID_MV sl = min mv 4095 := by
  have hfits : min mv 4095 < 2 ^ 12 := by omega
  refine does_of_ends hs rfl ?_
  rw [Prog.run_read, if_pos (by simp [hst, hwet, htyped]), seqs_cons_run, seqs_cons_run]
  constructor
  · refine rd_after (keeps_seqs ?_) (rd_setR rfl (idType_lt mv))
    simp (disch := decide) [keepsRd_setR]
  · refine rd_after (keeps_seqs ?_) (rd_after (keepsRd_setR (by decide)) (rd_setR rfl hfits))
    simp (disch := decide) [keepsRd_setR]

/-- A pack that is taken over is IDLE (R151). -/
theorem identified_state {p : PackRec} : ((identified sl p).run s).slSt sl = slIdle := by
  have hin : (Prog.read fun s => raiseSlot evPackIn sl (s.packInData sl)).Keeps fun u => u.rd Reg.SLT_STATUS.STATE sl :=
    keepsRd_raiseSlot rfl
  simp only [identified, seqs_cons_run, seqs_nil_run]
  exact rd_after (gaugeStart_touch.keepsRd rfl rfl) (rd_after hin (rd_setR rfl (by decide)))

theorem execIdentificationComplete_idle {p : PackRec} (hs : s.stopped = false) (hdone : s.identDone sl = true) (hrun : s.running = true)
    (hok : s.identFailure sl = none) (hpack : s.identPack sl = some p) :
    Does (.identificationComplete sl) s fun t => t.slSt sl = slIdle := by
  refine does_of_ends hs rfl ?_
  simp only [Prog.run_read, hdone, hrun, hok, hpack]
  exact identified_state

/-- A failure that is not one of challenge-response is final (R153). -/
theorem execIdentificationFail_fails {r : Nat} (hs : s.stopped = false) (hfail : s.identFailure sl = some r) (hrun : s.running = true)
    (hr : r < 3 ∨ 5 < r) : Does (.identificationFail sl) s fun t => t.slSt sl = slIdentFail := by
  refine does_of_ends hs rfl ?_
  simp only [Prog.run_read, hfail, hrun]
  rw [if_neg (by decide), if_neg (by omega), seqs_cons_run, seqs_cons_run, seqs_nil_run, seqs_cons_run, seqs_cons_run, seqs_cons_run, seqs_nil_run]
  exact rd_after (raiseSlot_touch.keepsRd rfl rfl) (rd_after keepsRd_updSlots (rd_setR rfl (by decide)))

theorem identAttempt_restarts : (((identAttempt sl).run s).slot sl).retryAt = none ∧ (((identAttempt sl).run s).slot sl).identAt = s.time := by
  simp only [identAttempt, Prog.run_read, seqs_cons_run, seqs_nil_run]
  have hkeeps {β : Type} {w : SlotRec → β} (hw : UnseenByAgent w) :
      (if (s.slot sl).method = 1 then agentQueue sl packRecordJob else .skip).Keeps fun u => w (u.slot sl) :=
    keeps_ite (agentQueue_keepsSlot hw) keeps_skip
  constructor <;> refine slot_after (hkeeps fun _ _ _ _ => rfl) ?_ <;> rw [updSlots_slot]

theorem execIdentRetry_restarts {t0 : Nat} (hs : s.stopped = false) (hat : (s.slot sl).retryAt = some t0) (hst : s.slSt sl = slIdentifying)
    (hdue : t0 ≤ s.time) : Does (.identRetry sl) s fun t => (t.slot sl).retryAt = none ∧ (t.slot sl).identAt = s.time := by
  refine does_of_ends hs rfl ?_
  simp only [Prog.run_read, hat]
  rw [if_pos ⟨hst, hdue⟩]
  exact identAttempt_restarts

/-! The wet test (R158). -/

theorem leakR_lt (v1 v2 : Nat) : leakR v1 v2 < 2 ^ 12 := by
  unfold leakR
  split
  · decide
  · omega

theorem execWetTestComplete_completes {v1 v2 : Nat} {c : FcvSel} (hs : s.stopped = false)
    (hcur : (s.fcv (sl / 16)).cur.or (s.fcvPick (sl / 16)) = some c) (htask : c.task = 5) (hslot : s.wetSlot (sl / 16) = some sl)
    (hlong : (s.fcv (sl / 16)).endAt + 15000 ≤ s.time) :
    Does (.wetTestComplete sl v1 v2) s fun t => (t.slot sl).wetRunning = false ∧ t.rd Reg.SLT_DIAG.LEAK_R sl = leakR v1 v2 := by
  refine does_of_ends hs rfl ?_
  simp only [Prog.run_read, hcur]
  rw [if_neg (by simp [htask, hslot]; omega), seqs_cons_run]
  constructor
  · refine slot_after (keeps_cons keepsSlot_setR (keeps_cons keepsSlot_setR (keeps_cons keepsSlot_setR (keeps_cons (dacShow_touch.keepsSlot rfl)
      (keeps_cons (fcvDone_touch.keepsSlot rfl) (keeps_cons (keeps_ite (raiseSlot_touch.keepsSlot rfl) keeps_skip) keeps_seqs_nil)))))) ?_
    rw [updSlots_slot]
  · rw [seqs_cons_run]
    exact rd_after (keeps_cons (keepsRd_setR (by decide)) (keeps_cons (keepsRd_setR (by decide)) (keeps_cons (dacShow_touch.keepsRd rfl rfl)
      (keeps_cons (fcvDone_touch.keepsRd rfl rfl) (keeps_cons (keeps_ite (raiseSlot_touch.keepsRd rfl rfl) keeps_skip) keeps_seqs_nil)))))
      (rd_setR rfl (leakR_lt v1 v2))

end

end Sys2Proof.Machine
end

section
/-! The removal of a pack (R177). -/

namespace Sys2Proof.Machine

section

variable {β : Type} {w : SlotRec → β} {s : State} {sl n : Nat} {p : Prog}

theorem when_run_of_not {c : State → Bool} (h : c s = false) : (when c p).run s = s := by rw [when_run, if_neg (by simp [h])]

/-- A park changes nothing of a slot's record but DISC (R98, R104). -/
theorem parkOutput_keepsSlot {lead stage : Nat} (hw : ∀ (x : SlotRec) (d : Bool), w { x with disc := d } = w x) :
    (parkOutput lead stage).Keeps fun u => w (u.slot n) := by
  have hdisc : (setDisc lead false).Keeps fun u => w (u.slot n) :=
    keeps_read fun _ => keeps_ite (keeps_each fun _ => keepsSlot_updSlots fun x => hw x false) (keeps_ite (fun _ => rfl) keeps_skip)
  refine keeps_read fun _ => ?_
  refine keeps_cons (keeps_each fun _ => keeps_cons keepsSlot_setR (keeps_cons keepsSlot_setR (keeps_cons (fun _ => rfl) keeps_seqs_nil))) ?_
  refine keeps_cons (keeps_ite keepsSlot_setR keeps_skip) (keeps_cons keepsSlot_setR (keeps_cons keepsSlot_setR (keeps_cons keepsSlot_setR
    (keeps_cons (fun _ => rfl) (keeps_cons (keeps_ite (keeps_each fun _ => keepsSlot_setR) keeps_skip) (keeps_cons hdisc keeps_seqs_nil))))))

theorem escalationsDrop_keepsSlot (hw : ∀ (x : SlotRec) r k, w { x with outRef := r, xchkRun := k } = w x) :
    (escalationsDrop sl).Keeps fun u => w (u.slot n) := by
  refine keeps_read fun _ => keeps_cons (keepsSlot_updSlots fun x => hw x _ _) (keeps_cons (fun _ => rfl) (keeps_cons ?_ keeps_seqs_nil))
  split
  · exact keeps_ite (refereeEnds_touch.keepsSlot rfl) keeps_skip
  · exact keeps_skip

theorem packForget_idClosed : (packForget sl).Keeps fun u => (u.slot n).idClosed := by
  have hdrop : (escalationsDrop sl).Keeps fun u => (u.slot n).idClosed := escalationsDrop_keepsSlot fun _ _ _ => rfl
  have hupd {r : SlotRec → SlotRec} (hr : ∀ x, (r x).idClosed = x.idClosed) : (updSlots sl r).Keeps fun u => (u.slot n).idClosed :=
    keepsSlot_updSlots hr
  have hset {f : Fld} {v : Nat} : (setR f v sl).Keeps fun u => (u.slot n).idClosed := keepsSlot_setR
  have hshow {p : Nat} : (dacShow p).Keeps fun u => (u.slot n).idClosed := dacShow_touch.keepsSlot rfl
  refine keeps_seqs ?_
  simp [hset, hupd, hshow, hdrop]

theorem packForget_type : ((packForget sl).run s).rd Reg.SLT_STATUS.TYPE sl = 0xF := by
  rw [packForget, seqs_cons_run]
  refine rd_after (keeps_seqs ?_) (rd_setR rfl (by decide))
  simp (disch := decide) [keepsRd_setR, dacShow_touch.keepsRd, escalationsDrop_touch.keepsRd]

theorem releaseGoesOn_keepsSlot (hw : ∀ (x : SlotRec) r, w { x with releaseCtl := r } = w x) : (releaseGoesOn sl).Keeps fun u => w (u.slot n) := by
  refine keeps_read fun s => ?_
  split
  · exact keeps_seq (keepsSlot_updSlots fun x => hw x _) (keepRequest_touch.keepsSlot rfl)
  · exact keeps_skip

/-- What of a slot's record a removal still has to settle: an AUDIT under way, and a written 0 of ENABLE. -/
def SlotRec.dues (x : SlotRec) : Nat × Bool := (x.audStep, x.offWait)

/-- No TRANSFER, AUDIT or written 0 of ENABLE is under way on a slot. -/
structure Unused (s : State) (sl : Nat) : Prop where
  role : s.rd Reg.SLT_STATUS.ROLE sl ≠ 1
  audit : (s.slot sl).audStep = 0
  receiver : s.flag Reg.SLT_STATUS.RECEIVER sl = false
  offWait : (s.slot sl).offWait = false

theorem Unused.after (h : Unused s sl) (hrole : p.Keeps fun u => u.rd Reg.SLT_STATUS.ROLE sl)
    (hreceiver : p.Keeps fun u => u.rd Reg.SLT_STATUS.RECEIVER sl)
    (hslot : p.Keeps fun u => (u.slot sl).dues) : Unused (p.run s) sl where
  role := ne_of_eq_of_ne (hrole s) h.role
  audit := (congrArg Prod.fst (hslot s)).trans h.audit
  receiver := (flag_of_keeps hreceiver).trans h.receiver
  offWait := (congrArg Prod.snd (hslot s)).trans h.offWait

/-- No part of a TRANSFER or AUDIT, none that ends (R186). -/
theorem endParts_none {reason fin : Nat} (h : Unused s sl) : (endParts sl reason fin).run s = s := by
  simp [endParts, when_run, h.role, h.audit, h.receiver]

/-- What a removal does before the slot empties. -/
def removalBegins (sl : Nat) (pulses : Option Nat) : Prog := .read fun s => seqs [
  updSlots sl fun x => { x with idClosed := false }, bedWake sl, busCancel sl (fun _ => true),
  when (fun _ => s.flag Reg.TWB_STATUS.BUS_DEAD sl) (.seq (setR Reg.TWB_STATUS.BUS_DEAD 0 sl) (recoverSda sl pulses))]

/-- What a removal does once the slot's output has parked. -/
def slotEmpties (sl d : Nat) : Prog := seqs [
  setR Reg.SLT_STATUS.STATE slEmpty sl,
  endParts sl 6 2, fgDisarm sl, resvEnd sl, raiseSlot evPackOut sl d, finalSnapshot sl, releaseGoesOn sl,
  when (fun t => (t.slot sl).offWait) (.seq (setR Reg.SLT_STATUS.STATE slOff sl) (updSlots sl fun x => { x with offWait := false })),
  packForget sl, setR Reg.SLT_STATUS.RECEIVER 0 sl, setR Reg.SLT_LINK.PEER 0xFF sl,
  .read fun t => useUpdate (t.ownerOrPf sl)]

theorem packRemoval_run_idle {pulses : Option Nat} (hclosed : (s.slot sl).idClosed = true) (hodd : s.oddGanged sl = false)
    (hlive : s.slotsLive = true) (hst : s.slSt sl = slIdle) : (packRemoval sl pulses).run s =
      (slotEmpties sl (s.packOutData sl)).run ((parkOutput (s.slotLead sl) 0).run ((removalBegins sl pulses).run s)) := by
  rw [packRemoval, removalBegins, slotEmpties, Prog.run_read]
  dsimp only
  rw [if_neg (by simp [hclosed]), seqs_cons_run, seqs_cons_run, seqs_cons_run, seqs_nil_run, if_neg (by simp [hodd, hlive]), seqs_cons_run,
    seqs_cons_run, seqs_cons_run, seqs_nil_run, hst, if_neg (by decide), if_neg (by decide), if_neg (by decide)]
  simp only [Prog.run_read, seqs_cons_run, seqs_nil_run]

theorem removalBegins_idClosed {pulses : Option Nat} : (((removalBegins sl pulses).run s).slot sl).idClosed = false := by
  have hrecover : (recoverSda sl pulses).Keeps fun u => (u.slot sl).idClosed := recoverSda_keepsSlot fun _ _ _ _ => rfl
  rw [removalBegins, Prog.run_read, seqs_cons_run]
  refine slot_after (keeps_cons (bedWake_touch.keepsSlot rfl) (keeps_cons (busCancel_touch.keepsSlot rfl) (keeps_cons (keeps_when
    (keeps_seq keepsSlot_setR hrecover)) keeps_seqs_nil))) ?_
  rw [updSlots_slot]

theorem Unused.removalBegins (h : Unused s sl) (pulses : Option Nat) : Unused ((removalBegins sl pulses).run s) sl := by
  have hfld {f : Fld} (hdead : Reg.TWB_STATUS.BUS_DEAD.id ≠ f.id) (hwake : (bedWake sl).Keeps fun u => u.rd f sl)
      (hcancel : (busCancel sl fun _ => true).Keeps fun u => u.rd f sl) (hrecover : (recoverSda sl pulses).Keeps fun u => u.rd f sl) :
      (Machine.removalBegins sl pulses).Keeps fun u => u.rd f sl :=
    keeps_read fun _ => keeps_cons keepsRd_updSlots (keeps_cons hwake (keeps_cons hcancel
      (keeps_cons (keeps_when (keeps_seq (keepsRd_setR hdead) hrecover)) keeps_seqs_nil)))
  refine h.after (hfld (by decide) (bedWake_touch.keepsRd rfl rfl) (busCancel_touch.keepsRd rfl rfl) (recoverSda_touch.keepsRd rfl rfl))
    (hfld (by decide) (bedWake_touch.keepsRd rfl rfl) (busCancel_touch.keepsRd rfl rfl) (recoverSda_touch.keepsRd rfl rfl)) ?_
  exact keeps_read fun _ => keeps_cons (keepsSlot_updSlots fun _ => rfl) (keeps_cons (bedWake_touch.keepsSlot rfl) (keeps_cons (busCancel_touch.keepsSlot rfl)
    (keeps_cons (keeps_when (keeps_seq keepsSlot_setR (recoverSda_keepsSlot fun _ _ _ _ => rfl))) keeps_seqs_nil)))

theorem slotEmpties_empties {d : Nat} (h : Unused s sl) (hopen : (s.slot sl).idClosed = false) :
    (((slotEmpties sl d).run s).slot sl).idClosed = false ∧ ((slotEmpties sl d).run s).slSt sl = slEmpty ∧
      ((slotEmpties sl d).run s).rd Reg.SLT_STATUS.TYPE sl = 0xF := by
  rw [slotEmpties, seqs_cons_run, seqs_cons_run,
    endParts_none (h.after (keepsRd_setR (by decide)) (keepsRd_setR (by decide)) keepsSlot_setR), seqs_cons_run, seqs_cons_run, seqs_cons_run,
    seqs_cons_run, seqs_cons_run, seqs_cons_run, when_run_of_not]
  · refine ⟨?_, ?_, ?_⟩
    · refine slot_after (keeps_cons packForget_idClosed (keeps_cons keepsSlot_setR (keeps_cons keepsSlot_setR (keeps_cons (keeps_read fun _ =>
        useUpdate_touch.keepsSlot rfl) keeps_seqs_nil)))) ?_
      refine slot_after (releaseGoesOn_keepsSlot fun _ _ => rfl) (slot_after (finalSnapshot_touch.keepsSlot rfl) (slot_after (raiseSlot_touch.keepsSlot rfl) ?_))
      exact slot_after (resvEnd_touch.keepsSlot rfl) (slot_after (fgDisarm_touch.keepsSlot rfl) (slot_after keepsSlot_setR hopen))
    · refine rd_after (keeps_cons (packForget_touch.keepsRd rfl rfl) (keeps_cons (keepsRd_setR (by decide)) (keeps_cons (keepsRd_setR (by decide))
        (keeps_cons (keeps_read fun _ => useUpdate_touch.keepsRd rfl rfl) keeps_seqs_nil)))) ?_
      refine rd_after (releaseGoesOn_touch.keepsRd rfl rfl) (rd_after (finalSnapshot_touch.keepsRd rfl rfl) (rd_after
        (raiseSlot_touch.keepsRd rfl rfl) ?_))
      exact rd_after (resvEnd_touch.keepsRd rfl rfl) (rd_after (fgDisarm_touch.keepsRd rfl rfl) (rd_setR rfl (by decide)))
    · rw [seqs_cons_run]
      exact rd_after (keeps_cons (keepsRd_setR (by decide)) (keeps_cons (keepsRd_setR (by decide))
        (keeps_cons (keeps_read fun _ => useUpdate_touch.keepsRd rfl rfl) keeps_seqs_nil))) packForget_type
  · refine slot_after (releaseGoesOn_keepsSlot fun _ _ => rfl) (slot_after (finalSnapshot_touch.keepsSlot rfl) (slot_after (raiseSlot_touch.keepsSlot rfl) ?_))
    exact slot_after (resvEnd_touch.keepsSlot rfl) (slot_after (fgDisarm_touch.keepsSlot rfl) (slot_after keepsSlot_setR h.offWait))

theorem execPackRemoval_empties {pulses : Option Nat} (hs : s.stopped = false) (hclosed : (s.slot sl).idClosed = true)
    (hodd : s.oddGanged sl = false) (hlive : s.slotsLive = true) (hst : s.slSt sl = slIdle) (h : Unused s sl) :
    Does (.packRemoval sl pulses) s fun t => (t.slot sl).idClosed = false ∧ t.slSt sl = slEmpty ∧ t.rd Reg.SLT_STATUS.TYPE sl = 0xF := by
  refine does_of_pinSeen hs rfl ?_
  rw [packRemoval_run_idle hclosed hodd hlive hst]
  refine slotEmpties_empties ((h.removalBegins pulses).after (parkOutput_touch.keepsRd rfl rfl) (parkOutput_touch.keepsRd rfl rfl)
    (parkOutput_keepsSlot fun _ _ => rfl)) ?_
  exact slot_after (parkOutput_keepsSlot fun _ _ => rfl) removalBegins_idClosed

end

/-- Settles O20: each command by the state, the readings or the record that it leaves of the slot. -/
theorem slotIdentification : Obligations.SlotIdentification := by
  unfold Obligations.SlotIdentification
  intro s sl hs _
  exact ⟨execIdPinClose_closes hs, execDebounceEnd_identifies hs, fun _ _ _ => execWetTestComplete_completes hs, fun _ => execIdDecode_decodes hs,
    fun _ => execIdentificationComplete_idle hs, fun _ => execIdentificationFail_fails hs, fun _ => execIdentRetry_restarts hs,
    fun hclosed hodd hlive hst hrole haud hrec hoff => execPackRemoval_empties hs hclosed hodd hlive hst ⟨hrole, haud, hrec, hoff⟩⟩

end Sys2Proof.Machine
end

section
/-! The trips of a slot's guards, and the PF's writes to a slot (R146, R171, R178, R182, R513, R517, R617). -/

namespace Sys2Proof.Machine

section

variable {s : State} {sl : Nat}

theorem seated_has_pack (h : s.seated sl = true) : s.slSt sl ∉ [slEmpty, slOff, slGanged, slFaulted] := by
  simp only [State.seated, Bool.or_eq_true, beq_iff_eq] at h
  rcases h with (((h | h) | h) | h) | h <;> rw [h] <;> decide

/-! Trips (R513, R517). -/

/-- What a trip does beside its flag. -/
theorem tripTold_keepsRd {g : Fld} {i d : Nat} (hcnt : Reg.SAF_CNT.FG_TRIPS.id ≠ g.id) (hraise : raiseMask.testBit g.id = false) :
    (seqs [incSat Reg.SAF_CNT.FG_TRIPS, isolate sl, bedWake sl, raisePf evFgTrip sl d]).Keeps fun u => u.rd g i :=
  keeps_cons (keepsRd_incSat hcnt) (keeps_cons (keeps_read fun _ => keeps_each fun _ => keepsRd_updSlots)
    (keeps_cons (keeps_when (keeps_read fun _ => keepsRd_updEng)) (keeps_cons (raisePf_touch.keepsRd hraise rfl) keeps_seqs_nil)))

theorem fgReport_keepsRd {f g : Fld} {k th i : Nat} (hf : f.id ≠ g.id) (hcnt : Reg.SAF_CNT.FG_TRIPS.id ≠ g.id)
    (hraise : raiseMask.testBit g.id = false) : (fgReport sl k th f).Keeps fun u => u.rd g i :=
  keeps_cons (keepsRd_setR hf) (tripTold_keepsRd hcnt hraise)

theorem fgReport_trips {f : Fld} {k th : Nat} (hhard : f.hard = false) (hw : 0 < min f.w 32) (hcnt : Reg.SAF_CNT.FG_TRIPS.id ≠ f.id)
    (hraise : raiseMask.testBit f.id = false) : ((fgReport sl k th f).run s).rd f sl = 1 := by
  rw [fgReport, seqs_cons_run]
  exact rd_after (tripTold_keepsRd hcnt hraise) (rd_setR hhard (Nat.one_lt_two_pow hw.ne'))

/-- The trip flags of a slot's guards (R513, R517). -/
def tripFlags : List Fld :=
  [Reg.SAF_FG_B.TRIP_OV, Reg.SAF_FG_B.TRIP_OC, Reg.SAF_FG_B.TRIP_RV, Reg.SAF_FG_B.TRIP_NTC, Reg.SAF_FG_B.TRIP_ID]

theorem tripFlags_apart {f : Fld} (hf : f ∈ tripFlags) : f.hard = false ∧ 0 < min f.w 32 ∧ f.id ≠ Reg.SLT_STATUS.STATE.id ∧
    f.id ≠ Reg.PHC_GANG.GANG_EN.id ∧ Reg.SAF_CNT.FG_TRIPS.id ≠ f.id ∧ raiseMask.testBit f.id = false := by
  have h : ∀ f ∈ tripFlags, f.hard = false ∧ 0 < min f.w 32 ∧ f.id ≠ Reg.SLT_STATUS.STATE.id ∧
      f.id ≠ Reg.PHC_GANG.GANG_EN.id ∧ Reg.SAF_CNT.FG_TRIPS.id ≠ f.id ∧ raiseMask.testBit f.id = false := by decide
  exact h f hf

theorem slotSafe_keepsTrip {f : Fld} {n cause : Nat} (hf : f ∈ tripFlags) : (slotSafe n cause).Keeps fun u => u.rd f sl := by
  simp only [tripFlags, List.mem_cons, List.not_mem_nil, or_false] at hf
  rcases hf with rfl | rfl | rfl | rfl | rfl <;> exact slotSafe_touch.keepsRd rfl rfl

/-- A guard of a slot has tripped since `s`: its flag is set, and the slot's state is that of `s`. -/
structure Tripped (s u : State) (sl : Nat) (f : Fld) : Prop where
  state : u.slSt sl = s.slSt sl
  gang : u.rd Reg.PHC_GANG.GANG_EN = s.rd Reg.PHC_GANG.GANG_EN
  flag : u.rd f sl = 1

theorem fgReport_tripped {f : Fld} {k th : Nat} (hf : f ∈ tripFlags) : Tripped s ((fgReport sl k th f).run s) sl f := by
  obtain ⟨hhard, hw, hst, hgang, hcnt, hraise⟩ := tripFlags_apart hf
  exact ⟨fgReport_keepsRd hst (by decide) rfl s, fgReport_keepsRd hgang (by decide) rfl s, fgReport_trips hhard hw hcnt hraise⟩

/-- A seated slot whose guard has tripped is FAULTED with the cause, and the flag stays. -/
theorem Tripped.faults {u : State} {f : Fld} {cause : Nat} (h : Tripped s u sl f) (hf : f ∈ tripFlags) (hodd : s.oddGanged sl = false)
    (hseat : s.seated sl = true) (hc : cause < 256) : ((slotSafe sl cause).run u).slSt sl = slFaulted ∧
      ((slotSafe sl cause).run u).rd Reg.SLT_FAULT.CAUSE sl = cause ∧ ((slotSafe sl cause).run u).rd f sl = 1 := by
  have huodd : u.oddGanged sl = false := by rw [State.oddGanged, ganged_of_gang h.gang]; exact hodd
  obtain ⟨hfault, hcause⟩ := slotSafe_faults (cause := cause) huodd (by rw [h.state]; exact seated_has_pack hseat) hc
  exact ⟨hfault, hcause, rd_after (slotSafe_keepsTrip hf) h.flag⟩

section

variable (hs : s.stopped = false) (hodd : s.oddGanged sl = false) (hseat : s.seated sl = true) (hlive : s.slotsLive = true)
include hs hodd hseat hlive

theorem execNtcBothInvalid_faults {t0 : Nat} (hsince : (s.slot sl).ntcBothSince = some t0) (hlong : t0 + 500000 ≤ s.time) :
    Does (.ntcBothInvalid sl) s fun t => t.slSt sl = slFaulted ∧ t.rd Reg.SLT_FAULT.CAUSE sl = caNtc := by
  refine does_of_ends hs rfl ?_
  simp only [Prog.run_read, hsince]
  rw [if_pos (by simp [hseat, hlive, hlong])]
  exact slotSafe_faults hodd (seated_has_pack hseat) (by decide)

theorem execIdentityLoss_faults {mv ns : Nat} (hmask : s.fgMasked sl 5 = false) (hout : inWindow (s.rd Reg.SLT_STATUS.TYPE sl) mv = false)
    (hmv : mv < 2900) (hns : 2000 ≤ ns) : Does (.identityLoss sl mv ns) s fun t => t.slSt sl = slFaulted ∧
      t.rd Reg.SLT_FAULT.CAUSE sl = caIdentLoss ∧ t.rd Reg.SAF_FG_B.TRIP_ID sl = 1 := by
  obtain ⟨hfrozen, hship⟩ := runs_of_stopped hs
  refine does_of_latching hfrozen hship rfl ?_
  rw [idLossTrip, Prog.run_read]
  dsimp only
  rw [if_pos (by simp [hseat, hlive, hmask, hout, hmv, hns])]
  rw [Prog.run_seq, identityLoss, Prog.run_seq]
  obtain ⟨hst, hgang, hflag⟩ := fgReport_tripped (s := s) (sl := sl) (k := 5) (th := idEdge (s.rd Reg.SLT_STATUS.TYPE sl) mv)
    (f := Reg.SAF_FG_B.TRIP_ID) (by decide)
  have htrip : Tripped s ((busCancel sl fun _ => true).run ((fgReport sl 5 (idEdge (s.rd Reg.SLT_STATUS.TYPE sl) mv)
      Reg.SAF_FG_B.TRIP_ID).run s)) sl Reg.SAF_FG_B.TRIP_ID :=
    ⟨rd_after (busCancel_touch.keepsRd rfl rfl) hst, rd_after (busCancel_touch.keepsRd rfl rfl) hgang,
      rd_after (busCancel_touch.keepsRd rfl rfl) hflag⟩
  exact htrip.faults (by decide) hodd hseat (by decide)

theorem execFgOvTrip_faults {mv us : Nat} (hmask : s.fgMasked sl 0 = false) (hclosed : (s.slot sl).idClosed = true)
    (hmv : 20 * s.rd Reg.SAF_FG_A.OV_TH sl < mv) (hus : 4 ≤ us) : Does (.fgOvTrip sl mv us) s fun t => t.slSt sl = slFaulted ∧
      t.rd Reg.SLT_FAULT.CAUSE sl = caOverVoltage ∧ t.rd Reg.SAF_FG_B.TRIP_OV sl = 1 := by
  have hcarrier : s.carrier sl = sl := by simp [State.carrier, hodd]
  obtain ⟨hfrozen, hship⟩ := runs_of_stopped hs
  refine does_of_latching hfrozen hship rfl ?_
  rw [fgOvTrip, Prog.run_read]
  dsimp only
  rw [hcarrier, if_pos ⟨hclosed, hlive, by simp [hmask], hmv, hus⟩, Prog.run_seq]
  exact (fgReport_tripped (by decide)).faults (by decide) hodd hseat (by decide)

theorem execFgOcTrip_faults {ma us : Nat} (hmask : s.fgMasked sl 1 = false) (hma : 100 * s.rd Reg.SAF_FG_A.OC_TH sl < ma) (hus : 8 ≤ us) :
    Does (.fgOcTrip sl ma us) s fun t => t.slSt sl = slFaulted ∧ t.rd Reg.SLT_FAULT.CAUSE sl = caOverCurrent ∧
      t.rd Reg.SAF_FG_B.TRIP_OC sl = 1 := by
  obtain ⟨hfrozen, hship⟩ := runs_of_stopped hs
  refine does_of_latching hfrozen hship rfl ?_
  rw [fgOcTrip, Prog.run_read]
  dsimp only
  rw [if_pos ⟨hlive, by simp [hmask], hma, hus⟩, Prog.run_seq]
  exact (fgReport_tripped (by decide)).faults (by decide) hodd hseat (by decide)

theorem execFgRvTrip_faults {ma us : Nat} (hmask : s.fgMasked sl 2 = false) (hma : 100 * s.rd Reg.SAF_FG_B.RV_TH sl < ma) (hus : 16 ≤ us) :
    Does (.fgRvTrip sl ma us) s fun t => t.slSt sl = slFaulted ∧ t.rd Reg.SLT_FAULT.CAUSE sl = caReverse ∧
      t.rd Reg.SAF_FG_B.TRIP_RV sl = 1 := by
  obtain ⟨hfrozen, hship⟩ := runs_of_stopped hs
  refine does_of_latching hfrozen hship rfl ?_
  rw [fgRvTrip, Prog.run_read]
  dsimp only
  rw [if_pos ⟨hlive, by simp [hmask], hma, hus⟩, Prog.run_seq]
  exact (fgReport_tripped (by decide)).faults (by decide) hodd hseat (by decide)

theorem execFgNtcTrip_faults {input code ms : Nat} (hmask : s.fgMasked sl (3 + min input 1) = false)
    (hcode : code < s.rd Reg.SAF_FG_B.NTC_CODE sl) (hms : 500 ≤ ms) : Does (.fgNtcTrip sl input code ms) s fun t => t.slSt sl = slFaulted ∧
      t.rd Reg.SLT_FAULT.CAUSE sl = caOverTemp ∧ t.rd Reg.SAF_FG_B.TRIP_NTC sl = 1 := by
  obtain ⟨hfrozen, hship⟩ := runs_of_stopped hs
  refine does_of_latching hfrozen hship rfl ?_
  rw [fgNtcTrip, Prog.run_read]
  dsimp only
  rw [if_pos ⟨hlive, by simp [hodd], by simp [hmask], hcode, hms⟩, Prog.run_seq]
  exact (fgReport_tripped (by decide)).faults (by decide) hodd hseat (by decide)

end

/-! What the PF writes (R146, R182, R617). -/

theorem execSlotEnableWrite_sets {v : Bool} (hbar : s.barOn = true) (hon : s.blockOn (Reg.SLT_CFG.ENABLE.addr sl 0 0) = true)
    (hnow : s.sltWaits (Reg.SLT_CFG.ENABLE.addr sl 0 0) = false) :
    Does (.slotEnableWrite sl v) s fun t => t.flag Reg.SLT_CFG.ENABLE sl = v := by
  refine does_of_pfWrites hbar hon rfl rfl ?_
  rw [Prog.run_read, if_neg (by simp [hnow])]
  split
  · assumption
  · rw [Prog.run_seq]
    exact (flag_of_keeps (slotEnableWritten_touch.keepsRd rfl rfl)).trans (flag_setR_bit rfl (by decide))

theorem faultClear_faulted : ((faultClear sl).run s).rd Reg.SLT_FAULT.FAULTED sl = 0 := by
  rw [faultClear, Prog.run_read, seqs_cons_run]
  have hstate {v : Nat} : (setR Reg.SLT_STATUS.STATE v sl).Keeps fun u => u.rd Reg.SLT_FAULT.FAULTED sl := keepsRd_setR (by decide)
  refine rd_after (keeps_cons (keeps_each fun _ => keeps_seqs ?_) (keeps_cons keepsRd_updSlots (keeps_cons (keepsRd_updR (by decide))
    (keeps_cons (outputClear_touch.keepsRd rfl rfl) (keeps_cons (tasksResume_touch.keepsRd rfl rfl) (keeps_cons
    (finalSnapshot_touch.keepsRd rfl rfl) (keeps_cons (packForget_touch.keepsRd rfl rfl) (keeps_cons (keeps_ite hstate (keeps_ite
    (identBegin_touch.keepsRd rfl rfl) hstate)) keeps_seqs_nil)))))))) (rd_setR rfl (by decide))
  simp (disch := decide) [keepsRd_setR]

theorem faultClear_state : ((faultClear sl).run s).slSt sl ≠ slFaulted := by
  simp only [faultClear, Prog.run_read, seqs_cons_run, seqs_nil_run]
  split
  · exact ne_of_eq_of_ne (rd_setR rfl (by decide)) (by decide)
  · split
    · exact ne_of_eq_of_ne identBegin_state (by decide)
    · exact ne_of_eq_of_ne (rd_setR rfl (by decide)) (by decide)

theorem execSlotFaultClear_clears (hbar : s.barOn = true) (hon : s.blockOn (Reg.SLT_FAULT.CLEAR.addr sl 0 0) = true)
    (hnow : s.sltWaits (Reg.SLT_FAULT.CLEAR.addr sl 0 0) = false) (hst : s.slSt sl = slFaulted) (hgone : s.causePersists sl = false) :
    Does (.slotFaultClear sl) s fun t => t.rd Reg.SLT_FAULT.FAULTED sl = 0 ∧ t.slSt sl ≠ slFaulted := by
  refine does_of_pfWrites hbar hon rfl rfl ?_
  rw [Prog.run_read, if_neg (by simp [hnow]), faultClearWritten, Prog.run_read, if_pos ⟨hst, by simp [hgone]⟩]
  exact ⟨faultClear_faulted, faultClear_state⟩

theorem execSlotFaultClear_waits (hbar : s.barOn = true) (hon : s.blockOn (Reg.SLT_FAULT.CLEAR.addr sl 0 0) = true)
    (hwaits : s.sltWaits (Reg.SLT_FAULT.CLEAR.addr sl 0 0) = true) : Does (.slotFaultClear sl) s fun t =>
      t.eng.sltWrites = s.eng.sltWrites ++ [(Reg.SLT_FAULT.CLEAR.addr sl 0 0, 2 ^ 30)] ∧ t.slSt sl = s.slSt sl := by
  refine does_of_pfWrites hbar hon rfl rfl ?_
  rw [Prog.run_read, if_pos hwaits]
  exact ⟨rfl, rfl⟩

end

/-- Settles O21: each trip by the flag and the safe state that it leads to, each write by its effect or by its wait. -/
theorem slotFaultsAndWrites : Obligations.SlotFaultsAndWrites := by
  unfold Obligations.SlotFaultsAndWrites
  constructor
  · intro s sl hs _ hodd hseat hlive
    exact ⟨fun _ => execNtcBothInvalid_faults hs hodd hseat hlive, fun _ _ => execIdentityLoss_faults hs hodd hseat hlive,
      fun _ _ => execFgOvTrip_faults hs hodd hseat hlive, fun _ _ => execFgOcTrip_faults hs hodd hseat hlive,
      fun _ _ => execFgRvTrip_faults hs hodd hseat hlive, fun _ _ _ => execFgNtcTrip_faults hs hodd hseat hlive⟩
  · intro s sl _ hbar
    exact ⟨fun _ => execSlotEnableWrite_sets hbar, execSlotFaultClear_clears hbar, execSlotFaultClear_waits hbar⟩

end Sys2Proof.Machine
end

section
/-! What an accepted slot opcode does (R155, R161, R173, R183, R185, R187, R223, R353). -/

namespace Sys2Proof.Machine

section

variable {s : State} {c : Ctl} {sl : Nat}

/-! Checks that have passed (R350). -/

theorem firstBad_eq_none {l : List (Bool × Nat × Nat)} : firstBad l = none ↔ ∀ e ∈ l, e.1 = false := by
  simp [firstBad]

theorem bad_of_accepts {o : Op} (h : s.accepts o c = true) : o.bad c s = none := by
  simp only [State.accepts, Bool.and_eq_true, Option.isNone_iff_eq_none, ownBad] at h
  obtain ⟨-, hown⟩ := h
  split_ifs at hown
  exact hown

/-- A reservation that may be made fits its field (R223). -/
theorem resvBad_none {soc tick a b : Nat} (h : resvBad s soc tick a b = none) (hsoc : soc ≠ 0) : soc < 2 ^ 14 := by
  simp only [resvBad, firstBad_eq_none, List.mem_cons, List.not_mem_nil, or_false, forall_eq_or_imp, forall_eq, Bool.and_eq_false_imp,
    bne_iff_ne, outside, Bool.or_eq_false_iff, decide_eq_false_iff_not] at h
  obtain ⟨hrange, -⟩ := h
  obtain ⟨-, hhi⟩ := hrange hsoc
  omega

/-! Ownership (R155). -/

theorem effOwner_of_pending {o : Option Nat} (h : (s.slot sl).pendingOwner = some o) : s.effOwner sl = o := by
  rw [State.effOwner, h]

theorem keepsEffOwner {p : Prog} (hslot : p.Keeps fun u => (u.slot sl).pendingOwner)
    (hclaimed : p.Keeps fun u => u.rd Reg.SLT_OWNER.CLAIMED sl) (howner : p.Keeps fun u => u.rd Reg.SLT_OWNER.OWNER sl) :
    p.Keeps fun u => u.effOwner sl := fun s => by
  have hs : ((p.run s).slot sl).pendingOwner = (s.slot sl).pendingOwner := hslot s
  have ho : (p.run s).rd Reg.SLT_OWNER.OWNER sl = s.rd Reg.SLT_OWNER.OWNER sl := howner s
  simp only [State.effOwner, State.ownerOf, hs, ho, flag_of_keeps hclaimed]

theorem execSlotClaim_claims (h : s.accepts .slotClaim c = true) : Does (.slotClaim c) s fun t => t.effOwner c.target = some c.fn := by
  refine does_of_accepted rfl h rfl ?_
  show ((claimDo c).run s.counted).effOwner c.target = some c.fn
  rw [claimDo, Prog.run_read]
  split
  · rename_i howns
    refine view_after (g := fun u => u.effOwner c.target) (keepsEffOwner (opTold_touch.keepsSlot rfl) (opTold_touch.keepsRd rfl rfl)
      (opTold_touch.keepsRd rfl rfl)) ?_
    simpa [State.owns] using howns
  · refine effOwner_of_pending ?_
    rw [seqs_cons_run]
    refine slot_after (keeps_cons (runOn_touch.keepsSlot rfl) (keeps_cons (keepRequest_touch.keepsSlot rfl) keeps_seqs_nil)) ?_
    rw [updSlots_slot]

theorem execSlotRelease_releases (h : s.accepts .slotRelease c = true) (hidle : s.slotBusy c.target = false) :
    Does (.slotRelease c) s fun t => t.effOwner c.target = none := by
  have hidle' : s.counted.slotBusy c.target = false := hidle
  refine does_of_accepted rfl h rfl (effOwner_of_pending ?_)
  show (((releaseDo c).run s.counted).slot c.target).pendingOwner = some none
  rw [releaseDo, Prog.run_read]
  dsimp only
  rw [if_neg (by simp [hidle']), seqs_cons_run]
  refine slot_after (keeps_cons (runOn_touch.keepsSlot rfl) (keeps_cons (keepRequest_touch.keepsSlot rfl) keeps_seqs_nil)) ?_
  rw [updSlots_slot]

/-! Charges and reservations (R161, R223). -/

theorem chargeRestart_state : ((chargeRestart sl).run s).slSt sl = slCharging := by
  rw [chargeRestart, Prog.run_read, seqs_cons_run]
  refine rd_after (keeps_seqs ?_) (rd_setR rfl (by decide))
  simp (disch := decide) [keepsRd_setR]

theorem chargeBegin_state {p : Profile} : ((chargeBegin sl p).run s).slSt sl = slCharging := by
  simp only [chargeBegin, seqs_cons_run, seqs_nil_run]
  exact chargeRestart_state

/-- A reservation shows its state of charge (R223). -/
theorem resvSet_sets {soc tick : Nat} (hsoc : soc ≠ 0) (hfit : soc < 2 ^ 14) : ((resvSet sl soc tick).run s).rd Reg.ALM_SLOT_A.RESV sl = 1 ∧
    ((resvSet sl soc tick).run s).rd Reg.ALM_SLOT_A.RESV_SOC sl = soc := by
  rw [resvSet, Prog.run_seq, if_neg hsoc, seqs_cons_run, seqs_cons_run, seqs_cons_run, seqs_nil_run]
  constructor <;> refine rd_after keepsRd_updSlots (rd_after (keepsRd_setR (by decide)) ?_)
  · exact rd_after (keepsRd_setR (by decide)) (rd_setR rfl (by decide))
  · exact rd_setR rfl hfit

/-- The last steps of CHARGE_START and RESERVE: the priority and the reservation, then the completion. -/
theorem prioAndResv_sets {prio soc tick code : Nat} (hprio : prio < 4) (hfit : soc ≠ 0 → soc < 2 ^ 14) :
    let t := (seqs [setR Reg.ALM_SLOT_A.PRIO prio sl, resvSet sl soc tick, opDone c code State.token]).run s
    t.rd Reg.ALM_SLOT_A.PRIO sl = prio ∧ (soc ≠ 0 → t.rd Reg.ALM_SLOT_A.RESV sl = 1 ∧ t.rd Reg.ALM_SLOT_A.RESV_SOC sl = soc) := by
  rw [seqs_cons_run, seqs_cons_run, seqs_cons_run, seqs_nil_run]
  refine ⟨?_, fun hsoc => ?_⟩
  · exact rd_after (opDone_touch.keepsRd rfl rfl) (rd_after (resvSet_touch.keepsRd rfl rfl) (rd_setR rfl hprio))
  · obtain ⟨hresv, hset⟩ := resvSet_sets (s := (setR Reg.ALM_SLOT_A.PRIO prio sl).run s) (sl := sl) (tick := tick) hsoc (hfit hsoc)
    exact ⟨rd_after (opDone_touch.keepsRd rfl rfl) hresv, rd_after (opDone_touch.keepsRd rfl rfl) hset⟩

theorem execChargeStart_charges {p : Profile} {soc tick : Nat} (h : s.accepts (.chargeStart p soc tick) c = true) (hprio : p.prio < 4) :
    Does (.chargeStart c p soc tick) s fun t => t.slSt c.target = slCharging ∧ t.rd Reg.ALM_SLOT_A.PRIO c.target = p.prio ∧
      (soc ≠ 0 → t.rd Reg.ALM_SLOT_A.RESV c.target = 1 ∧ t.rd Reg.ALM_SLOT_A.RESV_SOC c.target = soc) := by
  have hbad : chargeStartBad s c p soc tick = none := bad_of_accepts h
  have hfit : soc ≠ 0 → soc < 2 ^ 14 := resvBad_none (Option.or_eq_none_iff.1 hbad).2
  refine does_of_accepted rfl h rfl ?_
  show _ ∧ _
  rw [Op.act, chargeStartDo, Prog.run_read, seqs_cons_run, seqs_cons_run]
  refine ⟨?_, prioAndResv_sets hprio hfit⟩
  exact rd_after (keeps_cons (keepsRd_setR (by decide)) (keeps_cons (resvSet_touch.keepsRd rfl rfl)
    (keeps_cons (opDone_touch.keepsRd rfl rfl) keeps_seqs_nil))) chargeBegin_state

theorem execReserve_reserves {prio soc tick : Nat} (h : s.accepts (.reserve prio soc tick) c = true) (hprio : prio < 4) :
    Does (.reserve c prio soc tick) s fun t => t.rd Reg.ALM_SLOT_A.PRIO c.target = prio ∧
      (soc ≠ 0 → t.rd Reg.ALM_SLOT_A.RESV c.target = 1 ∧ t.rd Reg.ALM_SLOT_A.RESV_SOC c.target = soc) := by
  have hbad : reserveBad s c soc tick = none := bad_of_accepts h
  exact does_of_accepted rfl h rfl (prioAndResv_sets hprio (resvBad_none (Option.or_eq_none_iff.1 hbad).2))

/-! TRANSFER and AUDIT (R183, R187). -/

/-- The peers of an accepted TRANSFER are two, and the receiver's number fits PEER (R183). -/
theorem transferBad_none {p : TransferPar} (h : transferBad s c p = none) : c.target2 < 2 ^ 8 ∧ c.target ≠ c.target2 := by
  simp only [transferBad, firstBad_eq_none, List.mem_cons, List.not_mem_nil, or_false, forall_eq_or_imp, forall_eq, Bool.and_eq_false_imp,
    Bool.or_eq_false_iff, outside, decide_eq_true_eq, decide_eq_false_iff_not, beq_eq_false_iff_ne] at h
  obtain ⟨hrange, -, -, ⟨⟨hne, -⟩, -⟩, -⟩ := h
  exact ⟨by omega, hne⟩

theorem execTransfer_donates {p : TransferPar} (h : s.accepts (.transfer p) c = true) :
    Does (.transfer c p) s fun t => t.slSt c.target = slDonor ∧ t.rd Reg.SLT_STATUS.ROLE c.target = 1 ∧
      t.rd Reg.SLT_LINK.PEER c.target = c.target2 := by
  have hbad : transferBad s c p = none := bad_of_accepts h
  obtain ⟨hfit, hne⟩ := transferBad_none hbad
  have hpeer {u : State} (hu : u.rd Reg.SLT_LINK.PEER c.target = c.target2) : ((if c.target2 < 64 then
      Prog.seq (setR Reg.SLT_STATUS.RECEIVER 1 c.target2) (setR Reg.SLT_LINK.PEER c.target c.target2) else .skip).run u).rd
      Reg.SLT_LINK.PEER c.target = c.target2 := by
    split
    · exact (State.rd_wr_ne _ _ _ _ _ _ _ _ _ _ (.inr (.inl hne))).trans (rd_after (keepsRd_setR (by decide)) hu)
    · exact hu
  refine does_of_accepted rfl h rfl ?_
  show _ ∧ _
  rw [Op.act, transferDo, Prog.run_read]
  simp only [seqs_cons_run, seqs_nil_run]
  refine ⟨?_, ?_, ?_⟩ <;> refine rd_after (opDone_touch.keepsRd rfl rfl) (rd_after (useUpdate_touch.keepsRd rfl rfl) (rd_after keepsRd_updSlots ?_))
  · refine rd_after (keeps_ite (keeps_seq (keepsRd_setR (by decide)) (keepsRd_setR (by decide))) keeps_skip) ?_
    exact rd_after (keepsRd_setR (by decide)) (rd_after (keepsRd_setR (by decide)) (rd_setR rfl (by decide)))
  · refine rd_after (keeps_ite (keeps_seq (keepsRd_setR (by decide)) (keepsRd_setR (by decide))) keeps_skip) ?_
    exact rd_after (keepsRd_setR (by decide)) (rd_setR rfl (by decide))
  · exact hpeer (rd_setR rfl hfit)

theorem execAudit_fills {p : Profile} {a : AuditPar} (h : s.accepts (.audit p a) c = true) :
    Does (.audit c p a) s fun t => t.slSt c.target = slCharging ∧ (t.slot c.target).audStep = 1 ∧
      (t.slot c.target).audI = (s.auditFill c.target a).audI := by
  refine does_of_accepted rfl h rfl ?_
  show _ ∧ _
  rw [Op.act, auditDo, Prog.run_read]
  simp only [seqs_cons_run, seqs_nil_run]
  refine ⟨?_, ?_, ?_⟩
  · refine rd_after (opDone_touch.keepsRd rfl rfl) (rd_after keepsRd_updSlots (rd_after (resvEnd_touch.keepsRd rfl rfl) ?_))
    exact rd_after (keepsRd_setR (by decide)) chargeBegin_state
  · refine slot_after (opDone_touch.keepsSlot rfl) ?_
    rw [updSlots_slot]
  · refine slot_after (opDone_touch.keepsSlot rfl) ?_
    rw [updSlots_slot]
    rfl

/-! CHARGE_TERMINATE (R173, R185, R193). -/

/-- An accepted CHARGE_TERMINATE before which no timer of its slot expires. -/
theorem does_of_terminates {P : State → Prop} (h : s.accepts .chargeTerminate c = true)
    (htimers : (timersFirst c.target).run s.counted = s.counted) (hp : P ((terminateDo c).run s.counted)) : Does (.chargeTerminate c) s P := by
  simp only [State.accepts, Bool.and_eq_true, Bool.not_eq_true', Option.isNone_iff_eq_none] at h
  obtain ⟨⟨⟨⟨hs, htakes⟩, hfence⟩, hissuer⟩, hown⟩ := h
  have hchecks : (issuerBad s.counted 0x13 c).or (ownBad s.counted 0x13 (.ok .chargeTerminate) c) = none := Option.or_eq_none_iff.2 ⟨hissuer, hown⟩
  refine does_of_ends hs rfl ?_
  have hrun : (descRun 0x13 (.ok .chargeTerminate) c).run s = (terminateDo c).run s.counted := by
    have hcount : (updHost fun h => { h with count := h.count + 1 }).run s = s.counted := rfl
    rw [descRun, Prog.run_seq, Prog.run_seq, hcount, if_pos rfl, htimers, Prog.run_read, hchecks]
    rfl
  rw [Prog.run_read, if_pos (by simp [htakes, hfence])]
  exact hrun ▸ hp

theorem phaseTimeout_none (h : s.slSt sl = slCharging → (s.slot sl).curPhase = 0) : (phaseTimeout sl).run s = s := by
  rw [phaseTimeout, Prog.run_read]
  dsimp only
  split
  · rfl
  · rename_i hst
    have hcur := h (not_not.1 hst)
    simp [hcur]

theorem cvTimeout_none (h : s.slSt sl ≠ slSuspended ∧ (s.slSt sl = slCharging → s.cvExpired sl = false)) : (cvTimeout sl).run s = s := by
  obtain ⟨hsus, hexp⟩ := h
  rw [cvTimeout, Prog.run_read, if_neg]
  · rfl
  · rintro ⟨hst | hst, htrue⟩
    · simp [hexp hst] at htrue
    · exact hsus hst

/-- No timer of a slot expires (R193). -/
theorem timersFirst_none (hphase : s.slSt sl = slCharging → (s.slot sl).curPhase = 0)
    (hcv : s.slSt sl ≠ slSuspended ∧ (s.slSt sl = slCharging → s.cvExpired sl = false)) : (timersFirst sl).run s = s := by
  rw [timersFirst, Prog.run_seq, phaseTimeout_none hphase, cvTimeout_none hcv]

theorem execChargeTerminate_stops (h : s.accepts .chargeTerminate c = true) (hst : s.slSt c.target = slCharging)
    (haud : (s.slot c.target).audStep = 0) (hcur : (s.slot c.target).curPhase = 0) (hexp : s.cvExpired c.target = false)
    (hrec : s.flag Reg.SLT_STATUS.RECEIVER c.target = false) (hsw : s.switching (s.slotLead c.target) = true) :
    Does (.chargeTerminate c) s fun t => t.slSt c.target = slStopping ∧ (t.slot c.target).endReason = some 0 := by
  have hst' : s.counted.slSt c.target = slCharging := hst
  refine does_of_terminates h (timersFirst_none (fun _ => hcur) ⟨by rw [hst']; decide, fun _ => hexp⟩) ?_
  rw [terminateDo, Prog.run_read, Prog.run_seq, if_neg (not_not.2 (by exact haud)), if_neg (by rw [hst']; decide)]
  obtain ⟨hstop, hslot⟩ := endCharge_stops (s := s.counted) (sl := c.target) (reason := 0) (xfer := 4) hrec hsw
  refine ⟨rd_after (opDone_touch.keepsRd rfl rfl) hstop, slot_after (opDone_touch.keepsSlot rfl) ?_⟩
  rw [hslot]

/-! A donor's ROLE once its TRANSFER has ended (R185). -/

/-- A program never takes ROLE of a slot from 0. -/
def Prog.LeavesRole (sl : Nat) (p : Prog) : Prop := ∀ s, s.rd Reg.SLT_STATUS.ROLE sl = 0 → (p.run s).rd Reg.SLT_STATUS.ROLE sl = 0

section

variable {p q : Prog} {k : Nat}

theorem leavesRole_of_keeps (h : p.Keeps fun u => u.rd Reg.SLT_STATUS.ROLE sl) : p.LeavesRole sl := fun s hs => (h s).trans hs
theorem leavesRole_skip : Prog.skip.LeavesRole sl := fun _ h => h
theorem leavesRole_seq (hp : p.LeavesRole sl) (hq : q.LeavesRole sl) : (Prog.seq p q).LeavesRole sl := fun s h => hq _ (hp s h)
theorem leavesRole_read {r : State → Prog} (h : ∀ s, (r s).LeavesRole sl) : (Prog.read r).LeavesRole sl := fun s => h s s

theorem leavesRole_ite {b : Prop} [Decidable b] (hp : p.LeavesRole sl) (hq : q.LeavesRole sl) : (if b then p else q).LeavesRole sl := by
  split
  · exact hp
  · exact hq

theorem leavesRole_when {b : State → Bool} (h : p.LeavesRole sl) : (when b p).LeavesRole sl :=
  leavesRole_read fun _ => leavesRole_ite h leavesRole_skip

theorem leavesRole_seqs {l : List Prog} (h : ∀ p ∈ l, p.LeavesRole sl) : (seqs l).LeavesRole sl := by
  induction l with
  | nil => exact leavesRole_skip
  | cons p l ih =>
    obtain ⟨hp, hl⟩ := List.forall_mem_cons.1 h
    exact leavesRole_seq hp (ih hl)

theorem leavesRole_zero : (setR Reg.SLT_STATUS.ROLE 0 k).LeavesRole sl := fun s h => by
  by_cases hk : k = sl
  · subst hk
    exact rd_setR rfl (by decide)
  · exact (State.rd_wr_ne _ _ _ _ _ _ _ _ _ _ (.inr (.inl (Ne.symm hk)))).trans h

theorem leavesRole_setR {f : Fld} {v : Nat} (h : f.id ≠ Reg.SLT_STATUS.ROLE.id) : (setR f v k).LeavesRole sl :=
  leavesRole_of_keeps (keepsRd_setR h)

theorem leavesRole_updSlots {r : SlotRec → SlotRec} : (updSlots k r).LeavesRole sl := leavesRole_of_keeps keepsRd_updSlots

theorem packForget_leavesRole : (packForget k).LeavesRole sl := by
  have hshow {n : Nat} : (dacShow n).LeavesRole sl := leavesRole_of_keeps (dacShow_touch.keepsRd rfl rfl)
  have hdrop : (escalationsDrop k).LeavesRole sl := leavesRole_of_keeps (escalationsDrop_touch.keepsRd rfl rfl)
  refine leavesRole_seqs ?_
  simp (disch := decide) [leavesRole_zero, leavesRole_setR, leavesRole_updSlots, hshow, hdrop]

theorem reidentify_leavesRole : (reidentify k).LeavesRole sl :=
  leavesRole_seq (leavesRole_of_keeps (fgDisarm_touch.keepsRd rfl rfl)) <| leavesRole_seq packForget_leavesRole <|
    leavesRole_seq (leavesRole_of_keeps (identBegin_touch.keepsRd rfl rfl)) leavesRole_skip

theorem slotStopped_leavesRole : (slotStopped k).LeavesRole sl := by
  have hset {f : Fld} {v : Nat} (h : f.id ≠ Reg.SLT_STATUS.ROLE.id) : (setR f v k).LeavesRole sl := leavesRole_setR h
  refine leavesRole_read fun s => leavesRole_ite (leavesRole_seq (hset (by decide)) (leavesRole_seq ?idle (leavesRole_seq ?reason
    (leavesRole_seq ?off (leavesRole_seq ?release (leavesRole_seq ?use (leavesRole_seq ?again leavesRole_skip)))))))
    (leavesRole_ite (hset (by decide)) leavesRole_skip)
  case idle =>
    refine leavesRole_ite (leavesRole_seqs ?_) leavesRole_skip
    simp (disch := decide) [leavesRole_zero, hset, leavesRole_updSlots]
  case reason =>
    split
    · exact leavesRole_seq leavesRole_updSlots (leavesRole_of_keeps (chargeEnd_touch.keepsRd rfl rfl))
    · exact leavesRole_skip
  case off =>
    exact leavesRole_when (leavesRole_seq (leavesRole_of_keeps (finalSnapshot_touch.keepsRd rfl rfl)) (leavesRole_seq
      (leavesRole_of_keeps (fgDisarm_touch.keepsRd rfl rfl)) (leavesRole_seq leavesRole_updSlots leavesRole_skip)))
  case release =>
    split
    · exact leavesRole_seq leavesRole_updSlots (leavesRole_of_keeps (keepRequest_touch.keepsRd rfl rfl))
    · exact leavesRole_skip
  case use => exact leavesRole_read fun _ => leavesRole_of_keeps (useUpdate_touch.keepsRd rfl rfl)
  case again => exact leavesRole_when (leavesRole_ite reidentify_leavesRole (hset (by decide)))

theorem leadPark_leavesRole : (leadPark k).LeavesRole sl :=
  leavesRole_read fun _ => leavesRole_seq (leavesRole_of_keeps (parkOutput_touch.keepsRd rfl rfl)) <|
    leavesRole_seq (leavesRole_ite (leavesRole_seq (leavesRole_of_keeps (fgReverse_touch.keepsRd rfl rfl)) slotStopped_leavesRole) leavesRole_skip) <|
    leavesRole_seq (leavesRole_setR (by decide)) leavesRole_skip

theorem stopSlot_leavesRole {after : Nat} {reason : Option Nat} : (stopSlot k after reason).LeavesRole sl :=
  leavesRole_read fun _ => leavesRole_seq leavesRole_updSlots <| leavesRole_seq (leavesRole_setR (by decide)) <| leavesRole_seq
    (leavesRole_ite (leavesRole_read fun _ => leavesRole_ite (leavesRole_of_keeps (softStopBegin_touch.keepsRd rfl rfl))
      (leavesRole_ite leavesRole_skip leadPark_leavesRole)) leadPark_leavesRole) leavesRole_skip

end

theorem transferStop_role {reason : Nat} : ((transferStop sl reason).run s).rd Reg.SLT_STATUS.ROLE sl = 0 := by
  rw [transferStop, seqs_cons_run, seqs_cons_run, seqs_nil_run]
  refine stopSlot_leavesRole _ ?_
  simp only [transferEnd, Prog.run_read, seqs_cons_run, seqs_nil_run]
  exact rd_after (useUpdate_touch.keepsRd rfl rfl) (rd_setR rfl (by decide))

theorem execChargeTerminate_endsTransfer (h : s.accepts .chargeTerminate c = true) (hst : s.slSt c.target = slDonor)
    (haud : (s.slot c.target).audStep = 0) : Does (.chargeTerminate c) s fun t => t.rd Reg.SLT_STATUS.ROLE c.target = 0 := by
  have hst' : s.counted.slSt c.target = slDonor := hst
  have hidle : s.counted.slSt c.target ≠ slCharging := by rw [hst']; decide
  refine does_of_terminates h (timersFirst_none (fun hc => absurd hc hidle) ⟨by rw [hst']; decide, fun hc => absurd hc hidle⟩) ?_
  rw [terminateDo, Prog.run_read, Prog.run_seq, if_neg (not_not.2 (by exact haud)), if_pos hst']
  exact rd_after (opDone_touch.keepsRd rfl rfl) transferStop_role

/-! SET_LIMITS (R353). -/

theorem toField_lt (n : Nat) (x : Int) : toField n x < 2 ^ n := by
  have hpos : (0 : Int) < (2 ^ n : Nat) := by exact_mod_cast Nat.two_pow_pos n
  have hlt := Int.emod_lt_of_pos x hpos
  have hnn := Int.emod_nonneg x hpos.ne'
  rw [toField]
  omega

/-- A zone update reads the temperature windows and leaves them as they are. -/
theorem zoneUpdate_keepsRd {f : Fld} {i : Nat} (hzone : Reg.SLT_STATUS.ZONE.id ≠ f.id) (hraise : raiseMask.testBit f.id = false)
    (hact : ∀ new, (zoneAct sl new).Keeps fun u => u.rd f i) : (zoneUpdate sl).Keeps fun u => u.rd f i :=
  keeps_read fun _ => keeps_ite keeps_skip (keeps_cons (keepsRd_setR hzone) (keeps_cons (keepsRd_raiseSlot hraise) (keeps_cons (hact _) keeps_seqs_nil)))

theorem execSetLimits_applies {l : Limits} (h : s.accepts (.setLimits l) c = true) (h5 : hasBit l.mask 5 = false) (h6 : hasBit l.mask 6 = false) :
    Does (.setLimits c l) s fun t =>
      (hasBit l.mask 0 = true → hasBit l.mask 2 = false → (t.slot c.target).icap = if l.icap = 0 then none else some l.icap) ∧
      (hasBit l.mask 2 = true → t.rd Reg.SLT_TEMP_WIN.T1 c.target = toField 8 l.t1 ∧ t.rd Reg.SLT_TEMP_WIN.T4 c.target = toField 8 l.t4) ∧
      (hasBit l.mask 3 = true → t.rd Reg.GAU_WARN.LVL0 c.target = l.warn % 256) := by
  refine does_of_accepted rfl h rfl ?_
  show _ ∧ _
  rw [Op.act, limitsDo, Prog.run_read]
  simp only [h5, h6, seqs_cons_run, seqs_nil_run, Bool.false_eq_true, if_false, Prog.run_skip]
  refine ⟨fun h0 h2 => ?_, fun h2 => ?_, fun h3 => ?_⟩
  · have hset {f : Fld} {v : Nat} : (setR f v c.target).Keeps fun u => (u.slot c.target).icap := keepsSlot_setR
    have hwarn : (warnFresh c.target).Keeps fun u => (u.slot c.target).icap := warnFresh_touch.keepsSlot rfl
    refine slot_after (opDone_touch.keepsSlot rfl) ?_
    refine slot_after (keeps_ite (keeps_seq (keepsSlot_updSlots fun _ => rfl) (dacShow_touch.keepsSlot rfl)) keeps_skip) ?_
    refine slot_after (keeps_ite (keeps_cons hset (keeps_cons hset (keeps_cons hset (keeps_cons hset (keeps_cons (keeps_ite hwarn hset)
      keeps_seqs_nil))))) keeps_skip) ?_
    rw [if_neg (show ¬hasBit l.mask 2 = true by simp [h2]), Prog.run_skip, if_pos h0]
    have hgrant : (if hasBit l.mask 1 = true then updSlots c.target fun x => { x with donorGrant := l.donor } else .skip).Keeps
        fun u => (u.slot c.target).icap := keeps_ite (keepsSlot_updSlots fun _ => rfl) keeps_skip
    refine slot_after hgrant ?_
    rw [updSlots_slot]
  · have hset {f f' : Fld} {v : Nat} (hf : f.id ≠ f'.id) : (setR f v c.target).Keeps fun u => u.rd f' c.target := keepsRd_setR hf
    rw [if_pos h2, seqs_cons_run]
    constructor <;> refine rd_after (opDone_touch.keepsRd rfl rfl) (rd_after (keeps_ite (keeps_seq keepsRd_updSlots
      (dacShow_touch.keepsRd rfl rfl)) keeps_skip) (rd_after (keeps_ite (keeps_cons (hset (by decide)) (keeps_cons (hset (by decide))
        (keeps_cons (hset (by decide)) (keeps_cons (hset (by decide)) (keeps_cons (keeps_ite (warnFresh_touch.keepsRd rfl rfl)
          (hset (by decide))) keeps_seqs_nil))))) keeps_skip) ?_))
    · exact rd_after (keeps_cons (hset (by decide)) (keeps_cons (hset (by decide)) (keeps_cons (hset (by decide))
        (keeps_cons (zoneUpdate_keepsRd (by decide) (by decide) fun _ => zoneAct_touch.keepsRd rfl rfl) keeps_seqs_nil)))) (rd_setR rfl (toField_lt _ _))
    · rw [seqs_cons_run, seqs_cons_run, seqs_cons_run, seqs_cons_run, seqs_nil_run]
      exact rd_after (zoneUpdate_keepsRd (by decide) (by decide) fun _ => zoneAct_touch.keepsRd rfl rfl) (rd_setR rfl (toField_lt _ _))
  · have hset {f : Fld} {v : Nat} (hf : f.id ≠ Reg.GAU_WARN.LVL0.id) : (setR f v c.target).Keeps fun u => u.rd Reg.GAU_WARN.LVL0 c.target :=
      keepsRd_setR hf
    rw [if_pos h3, seqs_cons_run]
    refine rd_after (opDone_touch.keepsRd rfl rfl) (rd_after (keeps_ite (keeps_seq keepsRd_updSlots (dacShow_touch.keepsRd rfl rfl)) keeps_skip) ?_)
    exact rd_after (keeps_cons (hset (by decide)) (keeps_cons (hset (by decide)) (keeps_cons (hset (by decide)) (keeps_cons (keeps_ite
      (warnFresh_touch.keepsRd rfl rfl) (hset (by decide))) keeps_seqs_nil)))) (rd_setR rfl (Nat.mod_lt _ (by decide)))

end

/-- Settles O31: an accepted descriptor has passed its checks and acts, and a CHARGE_TERMINATE acts at once where no timer of its slot expires. -/
theorem slotOpcodes : Obligations.SlotOpcodes := by
  unfold Obligations.SlotOpcodes
  constructor
  · intro s c
    exact ⟨execSlotClaim_claims, execSlotRelease_releases, fun _ _ _ => execChargeStart_charges, fun _ _ _ => execReserve_reserves,
      fun _ => execTransfer_donates, fun _ _ => execAudit_fills⟩
  · intro s c
    exact ⟨execChargeTerminate_stops, execChargeTerminate_endsTransfer, fun _ => execSetLimits_applies⟩

end Sys2Proof.Machine
end

section
/-! The end of an AUDIT's rest (R188, R189): a discharge, and in a zone that holds no donor its pause at once (R170). -/

namespace Sys2Proof.Machine

section

variable {β : Type} {w : SlotRec → β} {s : State} {sl lead n : Nat}

/-- The park of an output leaves its slot as it is while that slot is a DONOR. -/
theorem slotStopped_of_donor (h : s.slSt sl = slDonor) : (slotStopped sl).run s = s := by
  rw [slotStopped, Prog.run_read]
  dsimp only
  rw [if_neg (by rw [h]; decide), if_neg (by rw [h]; decide), Prog.run_skip]

theorem leadPark_keepsSlot_of_donor (hw : ∀ (x : SlotRec) (d : Bool), w { x with disc := d } = w x)
    (h : lead < 128 → s.slSt (lead / 2) = slDonor) : w (((leadPark lead).run s).slot n) = w (s.slot n) := by
  rw [leadPark, Prog.run_read, seqs_cons_run, seqs_cons_run, seqs_cons_run, seqs_nil_run]
  refine slot_after keepsSlot_setR ?_
  split
  · rename_i hlead
    have hdonor : ((fgReverse (lead / 2) false).run ((parkOutput lead 0).run s)).slSt (lead / 2) = slDonor :=
      rd_after (fgReverse_touch.keepsRd rfl rfl) (rd_after (parkOutput_touch.keepsRd rfl rfl) (h hlead))
    rw [Prog.run_seq, slotStopped_of_donor hdonor]
    exact slot_after (fgReverse_touch.keepsSlot rfl) (parkOutput_keepsSlot hw _)
  · exact parkOutput_keepsSlot hw _

theorem softStop_keepsSlot_of_donor (hw : ∀ (x : SlotRec) (d : Bool), w { x with disc := d } = w x)
    (h : lead < 128 → s.slSt (lead / 2) = slDonor) : w (((softStop lead).run s).slot n) = w (s.slot n) := by
  rw [softStop, Prog.run_read]
  dsimp only
  split
  · exact softStopBegin_touch.keepsSlot rfl _
  · split
    · rfl
    · exact leadPark_keepsSlot_of_donor hw h

/-- The output of a slot is led at the slot itself, but for the odd slot of a gang (R104). -/
theorem slotLead_half (hodd : s.oddGanged sl = false) : s.slotLead sl / 2 = sl := by
  rw [State.slotLead, State.leadOf]
  have hpair : 2 * sl / 4 = sl / 2 := by omega
  rw [hpair]
  have heven : s.ganged (sl / 2) = true → sl % 2 = 0 := fun hg => by simpa [State.oddGanged, hg] using hodd
  split_ifs with hlow hgang
  · have := heven hgang
    omega
  · omega
  · omega

/-- A DONOR's audit is in its pause (R188 step 4). -/
theorem auditPause_pauses (hdonor : s.slSt sl = slDonor) (hodd : s.oddGanged sl = false) :
    (((auditPause sl).run s).slot sl).audStep = 4 := by
  rw [auditPause, Prog.run_read, seqs_cons_run, seqs_cons_run, seqs_cons_run, seqs_nil_run]
  have hcount : (parkCounted sl).Keeps fun u => u.slSt sl := parkCounted_touch.keepsRd rfl rfl
  refine (softStop_keepsSlot_of_donor (w := SlotRec.audStep) (fun _ _ => rfl) fun _ => ?_).trans (congrArg SlotRec.audStep updSlots_slot)
  rw [slotLead_half hodd]
  exact rd_after keepsRd_updSlots ((hcount s).trans hdonor)

/-- The rest's end in a zone that holds no donor: the discharge is in its pause (R170, R188 step 4). -/
theorem execAuditRestEnd_pauses (hs : s.stopped = false) (hstep : (s.slot sl).audStep = 2) (hparked : s.outputParked (s.slotLead sl) = true)
    (hrest : (s.slot sl).restAt + 60000000 * (s.slot sl).audRest ≤ s.time) (hdonor : s.slSt sl = slDonor) (hodd : s.oddGanged sl = false)
    (hzone : s.rd Reg.SLT_STATUS.ZONE sl = 0 ∨ s.rd Reg.SLT_STATUS.ZONE sl = 4) :
    Does (.auditRestEnd sl) s fun t => (t.slot sl).audStep = 4 := by
  refine does_of_ends hs rfl ?_
  rw [Prog.run_read, if_pos ⟨hstep, hparked, hrest⟩, Prog.run_seq, when_run, if_pos (by simpa using hzone), Prog.run_seq]
  exact auditPause_pauses hdonor hodd

/-- The rest's end in any other zone: the discharge begins, with its counts at 0 (R188 step 3). -/
theorem execAuditRestEnd_discharges (hs : s.stopped = false) (hstep : (s.slot sl).audStep = 2) (hparked : s.outputParked (s.slotLead sl) = true)
    (hrest : (s.slot sl).restAt + 60000000 * (s.slot sl).audRest ≤ s.time)
    (hzone : s.rd Reg.SLT_STATUS.ZONE sl ≠ 0 ∧ s.rd Reg.SLT_STATUS.ZONE sl ≠ 4) :
    Does (.auditRestEnd sl) s fun t => (t.slot sl).audStep = 3 ∧ (t.slot sl).audQ = 0 ∧ (t.slot sl).audE = 0 := by
  refine does_of_ends hs rfl ?_
  rw [Prog.run_read, if_pos ⟨hstep, hparked, hrest⟩, Prog.run_seq, when_run, if_neg (by simpa using hzone), updSlots_slot]
  exact ⟨rfl, rfl, rfl⟩

end

/-- Slot 0 rests in an AUDIT, its rest over, in ZONE 0. -/
def auditRestsCold : State :=
  (seqs [setR Reg.PWR_MODE.MODE mRun, setR Reg.SLT_STATUS.STATE slDonor, setR Reg.SLT_STATUS.ROLE 2, setR Reg.SLT_LINK.PEER 0xFE,
    setR Reg.SLT_STATUS.ZONE 0, setR Reg.PHC_STATUS.PARKED 1 0, setR Reg.PHC_STATUS.PARKED 1 1,
    updSlots 0 fun x => { x with idClosed := true, audStep := 2, audRest := 30 }, updTime fun _ => 1800000000]).run State.reset

theorem auditRestsCold_due : auditRestsCold.stopped = false ∧ (auditRestsCold.slot 0).audStep = 2 ∧
    auditRestsCold.outputParked (auditRestsCold.slotLead 0) = true ∧
    (auditRestsCold.slot 0).restAt + 60000000 * (auditRestsCold.slot 0).audRest ≤ auditRestsCold.time ∧
    auditRestsCold.rd Reg.SLT_STATUS.ZONE 0 = 0 ∧ auditRestsCold.slSt 0 = slDonor ∧ auditRestsCold.oddGanged 0 = false := by
  and_intros <;> decide +kernel

/-- Refutes O19: at the end of a rest in ZONE 0, where a pack may not be a donor (R170), AUDIT_REST_END leaves the AUDIT in the pause of its
discharge (R188 step 4), not in its step 3. `execAuditRestEnd_discharges` has the zones in which the clause holds. -/
theorem not_slotTransfers : ¬ Obligations.SlotTransfers := by
  unfold Obligations.SlotTransfers
  intro h
  obtain ⟨hs, hstep, hparked, hrest, hzone, hdonor, hodd⟩ := auditRestsCold_due
  obtain ⟨-, -, hrestEnd, -⟩ := h auditRestsCold 0 hs
  obtain ⟨t, he, hthree, -, -⟩ := hrestEnd hstep hparked hrest
  obtain ⟨u, hu, hfour⟩ := execAuditRestEnd_pauses hs hstep hparked hrest hdonor hodd (.inl hzone)
  have htu : t = u := Host.Outcome.next.inj (he.symm.trans hu)
  rw [htu, hfour] at hthree
  exact absurd hthree (by decide)

end Sys2Proof.Machine
end

section
/-! What events change of a function's record (R345, R361, R386). -/

namespace Sys2Proof.Machine

section

variable {β : Type} {p : Prog} {M n fn cls : Nat} {f : Fld} {i j k v : Nat} {w : FnRec → β} {s : State} {e : Ev} {fns : List Nat}

theorem Prog.Touches.keepsFn (h : p.Touches M) (hM : M.testBit 702 = false) : p.Keeps fun s => w (s.fnr n) := fun s =>
  congrArg w (State.fnr_congr (h.fns s hM) n)

theorem keepsFn_incSat : (incSat f i j k).Keeps fun s => w (s.fnr n) := keeps_read fun _ _ => congrArg w (State.wr_fnr ..)

theorem updFns_fnr {r : FnRec → FnRec} : ((updFns n r).run s).fnr n = r (s.fnr n) := Act.fns_same ..

theorem keepsFn_updFns {r : FnRec → FnRec} (h : ∀ x, w (r x) = w x) : (updFns fn r).Keeps fun s => w (s.fnr n) := fun s => by
  by_cases hn : fn = n
  · subst hn
    exact (congrArg w updFns_fnr).trans (h _)
  · exact congrArg w (Act.fns_ne _ _ hn _ _)

/-- A view of a function's record shows nothing of what the delivery of an event changes in it. -/
def SparedByEvents (w : FnRec → β) : Prop := ∀ (x : FnRec) drop status rate used at', 
  w { x with evtDrop := drop, statusAt := status, rateDrops := rate, bucketUsed := used, bucketAt := at' } = w x

theorem writeStatus_keepsFn (hw : SparedByEvents w) : (writeStatus fn).Keeps fun s => w (s.fnr n) :=
  keeps_read fun _ => keeps_ite (keeps_seq (fun _ => rfl)
    (keepsFn_updFns fun x => hw x x.evtDrop _ x.rateDrops x.bucketUsed x.bucketAt)) keeps_skip

theorem takeToken_keepsFn (hw : SparedByEvents w) : (takeToken fn cls).Keeps fun s => w (s.fnr n) :=
  keeps_read fun _ => keeps_ite (keepsFn_updFns fun x => hw x x.evtDrop x.statusAt x.rateDrops _ _) keeps_skip

theorem deliver_keepsFn (hw : SparedByEvents w) : (deliver e fn).Keeps fun s => w (s.fnr n) := by
  have hring {q : Nat} {r : RingRec → RingRec} : (updRings q r).Keeps fun s => w (s.fnr n) := fun _ => rfl
  refine keeps_read fun s => ?_
  dsimp only
  split
  · exact keeps_ite keeps_skip (keeps_seq (keepsFn_updFns fun x => hw x _ x.statusAt x.rateDrops x.bucketUsed x.bucketAt)
      (writeStatus_keepsFn hw))
  · refine keeps_ite ?_ (keeps_ite ?_ ?_)
    · exact keeps_cons hring (keeps_cons hring (keeps_cons keepsFn_incSat
        (keeps_cons (keepsFn_updFns fun x => hw x x.evtDrop x.statusAt _ x.bucketUsed x.bucketAt) keeps_seqs_nil)))
    · exact keeps_cons (takeToken_keepsFn hw) (keeps_cons hring (keeps_cons hring (keeps_cons keepsFn_incSat keeps_seqs_nil)))
    · exact keeps_cons (takeToken_keepsFn hw) (keeps_cons (ringPost_touch.keepsFn rfl) (keeps_cons hring keeps_seqs_nil))

theorem raise_keepsFn (hw : SparedByEvents w) : (raise e fns).Keeps fun s => w (s.fnr n) := keeps_each fun _ => deliver_keepsFn hw

end

end Sys2Proof.Machine
end

section
/-! The Almanac's commands between its boundaries (R206, R221, R225, R240). -/

namespace Sys2Proof.Machine

variable {s : State} {fn sl chan : Nat}

/-- The freeze point of a tick (R206, R208): the record is frozen, and a late rebuild counted. -/
theorem execTickFreeze_freezes {late : Bool} (hs : s.stopped = false) (hat : s.time % 10000 = 9000) (hon : s.almOn = true)
    (hroot : s.alm.rootLost = false) (hfree : s.alm.frozen = none) :
    Does (.tickFreeze late) s fun t => t.alm.frozen = some (s.frozenRecord late) ∧
      t.rd Reg.ALM_CNT.LATE_PLAN = if late then min (s.rd Reg.ALM_CNT.LATE_PLAN + 1) 255 else s.rd Reg.ALM_CNT.LATE_PLAN := by
  refine does_of_ends hs rfl ?_
  rw [Prog.run_read, if_neg (by simp [hat, hon, hroot, hfree]), Prog.run_seq]
  refine ⟨rfl, rd_after keepsRd_updAlm ?_⟩
  cases late with
  | false => rfl
  | true => exact rd_incSat rfl (by decide) rfl rfl

/-- A second of a quota's excess is over (R221): the next one counts from now. -/
theorem execQuotaOverRepeat_repeats (hs : s.stopped = false) (hfn : fn < 1024) (hover : (s.fnr fn).overSince.isSome = true)
    (hdue : (s.fnr fn).overAt + 1000000 ≤ s.time) : Does (.quotaOverRepeat fn) s fun t => (t.fnr fn).overAt = s.time := by
  refine does_of_ends hs rfl ?_
  rw [Prog.run_read, if_pos ⟨hfn, hover, hdue⟩, quotaOver, Prog.run_read, Prog.run_seq]
  exact (raise_keepsFn (w := FnRec.overAt) (fun _ _ _ _ _ _ => rfl) _).trans (congrArg FnRec.overAt updFns_fnr)

theorem execResvAtRisk_atRisk (hs : s.stopped = false) (hresv : s.rd Reg.ALM_SLOT_A.RESV sl = 1) (hlow : 100 ≤ (s.slot sl).resvLow) :
    Does (.resvAtRisk sl) s fun t => t.rd Reg.ALM_SLOT_A.RESV sl = 2 := by
  refine does_of_ends hs rfl ?_
  rw [Prog.run_read, if_pos ⟨hresv, hlow⟩, Prog.run_seq]
  exact rd_after (keeps_read fun _ => keeps_seq (fun _ => rfl) (raise_touch.keepsRd rfl rfl)) (rd_setR rfl (by decide))

theorem execResvDeadline_ends (hs : s.stopped = false) (hresv : s.reserved sl = true)
    (hcome : laterTick (s.rd Reg.ALM_SLOT_B.RESV_TICK sl) s.tickNow = false) :
    Does (.resvDeadline sl) s fun t => t.rd Reg.ALM_SLOT_A.RESV sl = 3 := by
  refine does_of_ends hs rfl ?_
  rw [Prog.run_read, if_pos ⟨hresv, by simp [hcome]⟩, Prog.run_seq]
  exact rd_after (raise_touch.keepsRd rfl rfl) (rd_setR rfl (by decide))

/-- The view starts at the last committed tick (R240). -/
theorem viewTake_base : (viewTake.run s).rd Reg.ALM_VIEW_BASE.TICK = s.rd Reg.ALM_TICK.TICK % 2 ^ 32 := by
  rw [viewTake, Prog.run_read, seqs_cons_run]
  exact rd_after (keeps_cons (viewEntry_touch.keepsRd rfl rfl) (keeps_cons (keeps_each fun _ => viewEntry_touch.keepsRd rfl rfl) keeps_seqs_nil))
    (State.rd_wr_same _ _ _ _ _ _ rfl)

theorem execAlmViewSelect_selects (hbar : s.barOn = true) (hblk : s.blockOn (Reg.ALM_VIEW_SEL.CHAN.addr 0 0 0) = true)
    (hchan : Reg.ALM_VIEW_SEL.CHAN.rangeCause chan = 0) :
    Does (.almViewSelect chan) s fun t => t.rd Reg.ALM_VIEW_SEL.CHAN = chan ∧
      t.rd Reg.ALM_VIEW_BASE.TICK = s.rd Reg.ALM_TICK.TICK % 2 ^ 32 := by
  refine does_of_pfWrites hbar hblk hchan rfl ?_
  rw [Prog.run_seq]
  refine ⟨rd_after (viewTake_touch.keepsRd rfl rfl) (rd_setR rfl (rangeCause_fits hchan)), viewTake_base.trans ?_⟩
  exact congrArg (· % 2 ^ 32) (keepsRd_setR (f := Reg.ALM_TICK.TICK) (by decide) s)

end Sys2Proof.Machine
end

section
/-! A tick boundary in RUN (R206, R231): the tick's commit or the root's handover comes first, and what follows neither counts nor commits. -/

namespace Sys2Proof.Machine

variable {s : State} {late leads : List Nat} {avgs : List (Nat × Nat)} {f : Fld} {M : Nat} {p : Prog}

/-- In RUN, with no sequence under way. -/
structure State.Settled (s : State) : Prop where
  mode : s.modeReg = mRun
  seq : s.rd Reg.PWR_MODE.SEQ = 0

theorem islandTick_run_settled (h : s.Settled) : islandTick.run s = s := by
  have hmode : s.mode ≠ mIsland := by simp [State.mode, h.mode, mRun, mService, mIsland]
  rw [islandTick, Prog.run_read, if_pos (.inl hmode), Prog.run_skip]

theorem sequenceStep_run_settled (h : s.Settled) : sequenceStep.run s = s := by
  have hmode : s.mode ≠ mSentinel := by simp [State.mode, h.mode, mRun, mService, mSentinel]
  rw [sequenceStep, Prog.run_read]
  simp [h.mode, h.seq, hmode, mRun, mService]

theorem State.Settled.after (h : s.Settled) (hm : p.Keeps fun u => u.rd Reg.PWR_MODE.MODE) (hq : p.Keeps fun u => u.rd Reg.PWR_MODE.SEQ) :
    (p.run s).Settled := ⟨rd_after hm h.mode, rd_after hq h.seq⟩

/-- The state as a boundary that is taken finds it: the references in force are noted (R206, R222). -/
def State.atBoundary (s : State) : State := (Prog.seq (updAlm fun a => { a with boundaryAt := some s.time }) (updAlm fun a =>
  { a with before := (List.range 144).filterMap fun l => if s.refNow l = 0 then none else some (l, s.refNow l) })).run s

theorem State.Settled.atBoundary (h : s.Settled) : s.atBoundary.Settled := ⟨h.mode, h.seq⟩

/-- What a boundary brings after the commit or the handover. -/
def boundaryRest : Prog := seqs [boundaryCounts, contractsEnter, islandTick, sequenceStep, when State.almOn (.seq rebuild demandTick)]

/-- The leads whose island has its record (R206). -/
def State.leadsInTime (s : State) (late : List Nat) : List Nat := (List.range 144).filter fun l => s.isLead l && !late.contains (islandOf l)

/-- What the commit of a boundary brings (R51, R126), and the handover of a root that was lost after it had frozen the tick (R231). -/
def commitFollows (leads : List Nat) : Prog := seqs [guardRelease, each leads phasesByRef, when (fun t => t.alm.rootLost) (rootTakes false)]

/-- A boundary that is due commits its tick, or the other root takes over; what else it brings comes after that (R206, R231). -/
theorem boundary_run (hdue : s.time % 10000 = 0) (hfresh : s.alm.boundaryAt ≠ some s.time) (hon : s.almOn = true)
    (hresume : s.alm.resume = false) :
    (boundary late avgs).run s = boundaryRest.run
      ((if s.alm.rootLost && s.alm.frozen.isNone then rootTakes true
        else .seq (commitTick late avgs) (commitFollows (s.leadsInTime late))).run s.atBoundary) := by
  rw [boundary, Prog.run_read, if_neg (by simp [hdue, hfresh]), Prog.run_seq, if_neg (by simp [hon]), if_neg (by simp [hresume]),
    seqs_cons_run, seqs_cons_run]
  split <;> rfl

/-- What the counts and the plan of a boundary touch, as a mask (Laws/Touch.lean). -/
def boundaryRestMask : Nat := 0x106464c0000000000000008000000000000000000000000000000000000000000000000000600000000000000018001200000000006080000000800000000140000044000018000000001000000000000000000000020008000000

theorem contractsEnter_keepsRd : contractsEnter.Keeps fun u => u.rd f := keeps_each fun _ => keeps_when fun _ => rfl

/-- Where the commit or the handover leaves the device settled, what follows writes the fields of counts, of the plan and of events alone. -/
theorem boundaryRest_rd_settled (h : s.Settled) (hf : boundaryRestMask.testBit f.id = false) : (boundaryRest.run s).rd f = s.rd f := by
  have hcounts : boundaryCounts.Touches boundaryRestMask := boundaryCounts_touch.mono rfl
  have hplan : rebuild.Touches boundaryRestMask := rebuild_touch.mono rfl
  have hdemand : demandTick.Touches boundaryRestMask := demandTick_touch.mono rfl
  have hbegun : (contractsEnter.run (boundaryCounts.run s)).Settled :=
    (h.after (hcounts.keepsRd rfl rfl) (hcounts.keepsRd rfl rfl)).after contractsEnter_keepsRd contractsEnter_keepsRd
  rw [boundaryRest, seqs_cons_run, seqs_cons_run, seqs_cons_run, seqs_cons_run, islandTick_run_settled hbegun, sequenceStep_run_settled hbegun]
  exact rd_after (keeps_cons (keeps_when (keeps_seq (hplan.keepsRd hf rfl) (hdemand.keepsRd hf rfl))) keeps_seqs_nil)
    (rd_after contractsEnter_keepsRd (hcounts.keepsRd hf rfl s))

/-! The commit (R206). -/

/-- What follows a commit, as a mask. -/
theorem commitFollows_touch : (commitFollows leads).Touches 0x102014c0000000000000008000000000000000000000000000000000000000000000000000000000000000000010001200000000000000000000000000000000002400800000000000000000000000000002100000000044000800 :=
  touch_seqs_cons (guardRelease_touch.mono rfl) (touch_seqs_cons (touch_each fun _ => phasesByRef_touch.mono rfl)
    (touch_seqs_cons (touch_when (rootTakes_touch.mono rfl)) touch_seqs_nil))

/-- What a commit touches after its tick and RUNNING, as a mask: neither of them. -/
def commitLeadsMask : Nat := 0x110d74c000000000000000800000000000000000400000000000000c0700001000000000000184800000000000160012000000000761f6d001800000000406400013800004200007fe86d800898000000133d04000000000000000

/-- A commit shows its tick and that the Almanac runs, then the figures and the leads (R206, R237). -/
theorem commitTick_begins : ∃ p : Prog, p.Touches commitLeadsMask ∧
    (commitTick late avgs).run s = p.run ((setR Reg.ALM_STATUS.RUNNING 1).run ((setR Reg.ALM_TICK.TICK s.tickNow).run s)) := by
  rw [commitTick, Prog.run_read, seqs_cons_run, seqs_cons_run]
  generalize s.polled = polled
  refine ⟨_, ?_, rfl⟩
  exact touch_seqs_cons (touch_setR rfl) (touch_seqs_cons (touch_setR rfl) (touch_seqs_cons (touch_setR rfl)
    (touch_seqs_cons (touch_each fun _ => commitOne_touch.mono rfl)
    (touch_seqs_cons (touch_each fun _ => touch_seq (touch_incSat rfl) (raisePf_touch.mono rfl))
    (touch_seqs_cons (touch_updAlm rfl) (touch_seqs_cons (touch_each fun _ => writeStatus_touch.mono rfl) touch_seqs_nil))))))

theorem commitTick_rd : ((commitTick late avgs).run s).rd Reg.ALM_TICK.TICK = s.tickNow ∧
    ((commitTick late avgs).run s).rd Reg.ALM_STATUS.RUNNING = 1 := by
  obtain ⟨p, htouch, hrun⟩ := commitTick_begins (s := s) (late := late) (avgs := avgs)
  have hfit : s.tickNow < 2 ^ 32 := Nat.mod_lt _ (by decide)
  rw [hrun]
  exact ⟨rd_after (htouch.keepsRd rfl rfl) (rd_after (keepsRd_setR (by decide)) (rd_setR rfl hfit)),
    rd_after (htouch.keepsRd rfl rfl) (rd_setR rfl (by decide))⟩

/-- TICK_BOUNDARY of a settled device whose root is there: the tick is committed (R206). -/
theorem execTickBoundary_commits (hs : s.stopped = false) (hdue : s.time % 10000 = 0) (hfresh : s.alm.boundaryAt ≠ some s.time)
    (hon : s.almOn = true) (hresume : s.alm.resume = false) (hroot : s.alm.rootLost = false) (hset : s.Settled) :
    Does (.tickBoundary late avgs) s fun t => t.rd Reg.ALM_TICK.TICK = s.tickNow ∧ t.flag Reg.ALM_STATUS.RUNNING = true := by
  refine does_of_ends hs rfl ?_
  rw [boundary_run hdue hfresh hon hresume, if_neg (by simp [hroot]), Prog.run_seq]
  obtain ⟨htick, hruns⟩ := commitTick_rd (s := s.atBoundary) (late := late) (avgs := avgs)
  have hsettled : ((commitFollows (s.leadsInTime late)).run ((commitTick late avgs).run s.atBoundary)).Settled :=
    (hset.atBoundary.after (commitTick_touch.keepsRd rfl rfl) (commitTick_touch.keepsRd rfl rfl)).after
      (commitFollows_touch.keepsRd rfl rfl) (commitFollows_touch.keepsRd rfl rfl)
  constructor
  · exact (boundaryRest_rd_settled hsettled rfl).trans (rd_after (commitFollows_touch.keepsRd rfl rfl) htick)
  · exact flag_of_rd ((boundaryRest_rd_settled hsettled rfl).trans (rd_after (commitFollows_touch.keepsRd rfl rfl) hruns))

/-! The handover (R231). -/

/-- The root runs on bed 0 or on bed 8, as ROOT_ALT shows. -/
theorem rootMoved_rootAlt {bed skipped tick : Nat} : ((rootMoved bed skipped tick).run s).flag Reg.ALM_STATUS.ROOT_ALT = decide (bed = 8) := by
  rw [rootMoved, seqs_cons_run]
  refine (flag_of_keeps ?_).trans (flag_setR_bit rfl (by decide))
  exact keeps_cons (keepsRd_incSat (by decide)) (keeps_cons (raisePf_touch.keepsRd rfl rfl)
    (keeps_cons (keepsRd_healthSet (by decide) rfl) keeps_seqs_nil))

/-- A tick that the lost root had not frozen is counted as skipped, and the other root takes over. -/
theorem rootTakes_skips : ((rootTakes true).run s).flag Reg.ALM_STATUS.ROOT_ALT = (!s.flag Reg.ALM_STATUS.ROOT_ALT) ∧
    ((rootTakes true).run s).rd Reg.ALM_CNT.SKIPPED = min (s.rd Reg.ALM_CNT.SKIPPED + 1) 255 := by
  rw [rootTakes, Prog.run_read, Prog.run_seq, seqs_cons_run, seqs_cons_run, seqs_nil_run, if_pos rfl, Prog.run_seq]
  constructor
  · rw [rootMoved_rootAlt]
    cases s.flag Reg.ALM_STATUS.ROOT_ALT <;> rfl
  · exact rd_after (rootMoved_touch.keepsRd rfl rfl) (rd_after (raise_touch.keepsRd rfl rfl) (rd_incSat rfl (by decide) rfl rfl))

/-- ROOT_HANDOVER of a settled device whose lost root had not frozen the tick (R231). -/
theorem execRootHandover_skips (hs : s.stopped = false) (hroot : s.alm.rootLost = true) (hdue : s.time % 10000 = 0)
    (hfresh : s.alm.boundaryAt ≠ some s.time) (hon : s.almOn = true) (hresume : s.alm.resume = false) (hset : s.Settled)
    (hfree : s.alm.frozen = none) :
    Does (.rootHandover late avgs) s fun t => t.flag Reg.ALM_STATUS.ROOT_ALT = !s.flag Reg.ALM_STATUS.ROOT_ALT ∧
      t.rd Reg.ALM_CNT.SKIPPED = min (s.rd Reg.ALM_CNT.SKIPPED + 1) 255 := by
  refine does_of_ends hs rfl ?_
  rw [when_run, if_pos hroot, boundary_run hdue hfresh hon hresume, if_pos (by simp [hroot, hfree])]
  obtain ⟨halt, hskip⟩ := rootTakes_skips (s := s.atBoundary)
  have hsettled : ((rootTakes true).run s.atBoundary).Settled :=
    hset.atBoundary.after (rootTakes_touch.keepsRd rfl rfl) (rootTakes_touch.keepsRd rfl rfl)
  exact ⟨(congrArg (· == 1) (boundaryRest_rd_settled hsettled rfl)).trans halt, (boundaryRest_rd_settled hsettled rfl).trans hskip⟩

/-- Settles O26: each command by its one effect, and both boundaries by what follows the commit or the handover, which writes none of the fields
that they show. -/
theorem plannerAndTicks : Obligations.PlannerAndTicks := by
  unfold Obligations.PlannerAndTicks
  constructor
  · intro s hs
    exact ⟨fun _ => execTickFreeze_freezes hs, fun _ => execQuotaOverRepeat_repeats hs, fun _ => execResvAtRisk_atRisk hs,
      fun _ => execResvDeadline_ends hs, fun _ => execAlmViewSelect_selects⟩
  · intro s hs
    exact ⟨fun _ _ hdue hfresh hon hresume hroot hmode hseq => execTickBoundary_commits hs hdue hfresh hon hresume hroot ⟨hmode, hseq⟩,
      fun _ _ hroot hdue hfresh hon hresume hmode hseq hfree => execRootHandover_skips hs hroot hdue hfresh hon hresume ⟨hmode, hseq⟩ hfree⟩

end Sys2Proof.Machine
end

section
/-! What a program leaves of device time, of the mains, and of the records of converters, sampling groups and two-wire buses. -/

namespace Sys2Proof.Machine

section

variable {β : Type} {p : Prog} {M a n : Nat} {f : Fld} {i j k v : Nat} {s : State}

theorem Prog.Touches.keepsTime (h : p.Touches M) (hM : M.testBit 701 = false) : p.Keeps State.time := fun s => h.time s hM
theorem Prog.Touches.keepsMains (h : p.Touches M) (hM : M.testBit 721 = false) : p.Keeps State.mains := fun s => h.mains s hM

theorem Prog.Touches.keepsQueue (h : p.Touches M) (hM : M.testBit 715 = false) : p.Keeps fun s => (s.bus n).queue := fun s =>
  congrArg (fun l => (Tab.get ({} : BusRec) l n).queue) (h.twb s hM)

theorem Prog.Touches.keepsSince (h : p.Touches M) (hM : M.testBit 723 = false) : p.Keeps fun s => (s.group n).since := fun s =>
  congrArg (fun l => (Tab.get ({} : GrpRec) l n).since) (h.groups s hM)

theorem keepsSince_incSat : (incSat f i j k).Keeps fun s => (s.group n).since :=
  keeps_read fun _ _ => congrArg GrpRec.since (State.wr_group ..)

@[simp] theorem keepsRd_updMains {r : MainsRec → MainsRec} : (updMains r).Keeps fun s => s.rd f i j k := fun _ => rfl
@[simp] theorem keepsRd_updIcvs {r : IcvRec → IcvRec} : (updIcvs n r).Keeps fun s => s.rd f i j k := fun _ => rfl
@[simp] theorem keepsRd_updFcvs {r : FcvRec → FcvRec} : (updFcvs n r).Keeps fun s => s.rd f i j k := fun _ => rfl
@[simp] theorem keepsRd_updGauges {r : GaugeRec → GaugeRec} : (updGauges n r).Keeps fun s => s.rd f i j k := fun _ => rfl

theorem updGroups_group {r : GrpRec → GrpRec} : ((updGroups n r).run s).group n = r (s.group n) := Act.groups_same ..
theorem updTwb_bus {r : BusRec → BusRec} : ((updTwb n r).run s).bus n = r (s.bus n) := Act.twb_same ..

theorem keepsSince_updGroups {r : GrpRec → GrpRec} (h : a ≠ n) : (updGroups a r).Keeps fun s => (s.group n).since :=
  fun _ => congrArg GrpRec.since (Act.groups_ne _ _ h _ _)

section

variable {w : IcvRec → β} {r : IcvRec → IcvRec}

theorem Prog.Touches.keepsIcv (h : p.Touches M) (hM : M.testBit 719 = false) : p.Keeps fun s => w (s.icv n) := fun s =>
  congrArg (fun l => w (Tab.get ({} : IcvRec) l n)) (h.icvs s hM)

theorem keepsIcv_setR : (setR f v i j k).Keeps fun s => w (s.icv n) := fun _ => congrArg w (State.wr_icv ..)

theorem keepsIcv_updR {v : State → Nat} : (updR f v i j k).Keeps fun s => w (s.icv n) := keeps_read fun _ => keepsIcv_setR

theorem updIcvs_icv : ((updIcvs n r).run s).icv n = r (s.icv n) := Act.icvs_same ..

theorem keepsIcv_updIcvs (h : ∀ x, w (r x) = w x) : (updIcvs a r).Keeps fun s => w (s.icv n) := fun s => by
  by_cases ha : a = n
  · subst ha
    exact (congrArg w updIcvs_icv).trans (h _)
  · exact congrArg w (Act.icvs_ne _ _ ha _ _)

end

end

end Sys2Proof.Machine
end

section
/-! Mains lock and the triggers of measurement (R246, R247, R260 to R262). -/

namespace Sys2Proof.Machine

section

variable {s : State} {g n : Nat}

/-! Mains (R246, R247). -/

/-- The eighth period in a row that lies in the window and agrees with the one before gains the lock. -/
theorem execMainsCrossing_locks {p : Nat} {l : List Nat} (hs : s.stopped = false) (hsrc : s.rd Reg.MSR_MAINS.SRC = 0)
    (hfree : s.flag Reg.MSR_MAINS.LOCKED = false) (hrun : s.mains.run = 7) (hper : s.mains.periods = p :: l)
    (hlo : 153850 ≤ p) (hhi : p ≤ 222220) :
    Does (.mainsCrossing p) s fun t => t.rd Reg.MSR_MAINS.LOCKED = 1 ∧ t.mains.lastAt = s.time := by
  refine does_of_ends hs rfl ?_
  rw [Prog.run_read]
  dsimp only
  rw [if_neg (not_not.2 hsrc), hper, hrun, seqs_cons_run, seqs_cons_run, seqs_nil_run, hfree, if_neg Bool.false_ne_true,
    if_pos (by simp [hlo, hhi])]
  simp only [seqs_cons_run, seqs_nil_run]
  constructor
  · refine rd_after (raisePf_touch.keepsRd rfl rfl) (rd_after (mainsApply_touch.keepsRd rfl rfl) (rd_after keepsRd_updMains ?_))
    exact rd_after (keepsRd_setR (by decide)) (rd_setR rfl (by decide))
  · refine view_after (g := fun u => u.mains.lastAt) ((raisePf_touch.keepsMains rfl).view _)
      (view_after (g := fun u => u.mains.lastAt) ((mainsApply_touch.keepsMains rfl).view _) ?_)
    simp [updMains]

theorem execMainsLockLoss_unlocks (hs : s.stopped = false) (hlocked : s.flag Reg.MSR_MAINS.LOCKED = true)
    (hlate : 3 * s.perT ≤ 20 * (s.time - s.mains.lastAt)) : Does .mainsLockLoss s fun t => t.rd Reg.MSR_MAINS.LOCKED = 0 := by
  refine does_of_ends hs rfl ?_
  rw [Prog.run_read, if_pos (by simp [hlocked, hlate]), mainsLoss, Prog.run_read, seqs_cons_run]
  refine rd_after (keeps_seqs ?_) (rd_setR rfl (by decide))
  simp (disch := decide) [keepsRd_setR, mainsApply_touch.keepsRd, raisePf_touch.keepsRd]

/-! Sampling groups (R262). -/

/-- A group's first trigger starts its wait; a further one leaves the group as it was. -/
theorem groupArrives_since (h : (s.group g).since = none ∨ (s.group g).since = some s.time) :
    (((groupArrives g).run s).group g).since = some s.time := by
  rw [groupArrives, Prog.run_read]
  rcases h with h | h <;> simp only [h]
  · rw [updGroups_group]
  · exact view_after (g := fun u => (u.group g).since) (keeps_each fun _ => keepsSince_incSat) h

theorem groupArrives_keepsSince {a : Nat} (h : a ≠ g) : (groupArrives a).Keeps fun u => (u.group g).since := keeps_read fun s => by
  split
  · exact keepsSince_updGroups h
  · exact keeps_each fun _ => keepsSince_incSat

theorem execGroupTrigger_waits (hs : s.stopped = false) (hsrc : s.rd Reg.MSR_GRP.SRC g = 3) (hidle : (s.group g).since = none) :
    Does (.groupTrigger g) s fun t => (t.group g).since = some s.time := by
  refine does_of_ends hs rfl ?_
  rw [Prog.run_read, if_pos (by simp [hsrc, State.trigNow])]
  exact groupArrives_since (.inl hidle)

/-- The groups that a trigger reaches at one moment: each of them waits from then on, or has waited since then. -/
theorem each_groupArrives_since {l : List Nat} (hg : g ∈ l) (h : (s.group g).since = none) :
    (((each l groupArrives).run s).group g).since = some s.time := by
  have hset (u : State) (hu : u.time = s.time ∧ ((u.group g).since = none ∨ (u.group g).since = some s.time)) :
      (((groupArrives g).run u).group g).since = some s.time := by
    obtain ⟨ht, hu⟩ := hu
    rw [← ht] at hu ⊢
    exact groupArrives_since hu
  have hkeep {a : Nat} (ha : a ≠ g) (u : State) : (((groupArrives a).run u).group g).since = (u.group g).since := groupArrives_keepsSince ha u
  refine each_brings (r := groupArrives) (I := fun u => u.time = s.time ∧ ((u.group g).since = none ∨ (u.group g).since = some s.time))
    (P := fun u => (u.group g).since = some s.time) (fun a u hu => ⟨(groupArrives_touch.keepsTime rfl u).trans hu.1, ?_⟩) hset
    (fun a u ha _ hp => (hkeep ha u).trans hp) hg ⟨rfl, .inl h⟩
  by_cases ha : a = g
  · exact .inr (ha ▸ hset u hu)
  · rw [hkeep ha u]
    exact hu.2

theorem execMainsFreeTrigger_reaches (hs : s.stopped = false) (hg : g < 4) (hfree : s.flag Reg.MSR_MAINS.LOCKED = false)
    (hdue : s.time % max (s.perT / 10) 1 = 0) (hsrc : s.rd Reg.MSR_GRP.SRC g = 1) (hidle : (s.group g).since = none) :
    Does .mainsFreeTrigger s fun t => (t.group g).since = some s.time := by
  refine does_of_ends hs rfl ?_
  rw [Prog.run_read, if_neg (by simp [hfree, hdue]), Prog.run_seq, each_groupArrives_since (by simp [hg, hsrc])]
  · exact congrArg some (keeps_each (fun _ => trigArrives_touch.keepsTime rfl) s)
  · exact view_after (g := fun u => (u.group g).since) (keeps_each fun _ => trigArrives_touch.keepsSince rfl) hidle

/-! Triggers of converters (R261). -/

theorem integrate_state {t flag : Nat} : ((integrate n t flag).run s).rd Reg.MSR_ICV_STATUS.STATE n = 2 := by
  rw [integrate, Prog.run_read, seqs_cons_run, seqs_cons_run, seqs_nil_run]
  exact rd_setR rfl (by decide)

theorem execIcvTrigger_integrates (hs : s.stopped = false) (hruns : s.icvRuns n = true) (hsrc : s.rd Reg.MSR_ICV_CTRL.TRIG_SRC n = 3)
    (hwaits : s.awaits n = true) : Does (.icvTrigger n) s fun t => t.rd Reg.MSR_ICV_STATUS.STATE n = 2 := by
  obtain ⟨hrun, hlive⟩ : s.flag Reg.MSR_ICV_CTRL.RUN n = true ∧ s.icvLive n = true := by simpa [State.icvRuns] using hruns
  refine does_of_ends hs rfl ?_
  rw [Prog.run_read, if_pos (by simp [hrun, hlive, hsrc, State.trigNow]), trigArrives, Prog.run_read, if_pos hwaits]
  exact integrate_state

theorem each_singleton_run {α : Type} {a : α} {r : α → Prog} : (each [a] r).run s = (r a).run s := rfl

/-- The converters of a mask of one bit. -/
theorem filter_hasBit_two_pow (h : n < 16) : (List.range 16).filter (hasBit (2 ^ n)) = [n] := by
  interval_cases n <;> decide

theorem execGroupStart_integrates {t0 : Nat} {c : Conv} (hs : s.stopped = false) (hn : n < 16) (hmem : s.rd Reg.MSR_GRP.MEMBERS g = 2 ^ n)
    (hsince : (s.group g).since = some t0) (hcur : (s.icv n).cur = some c) (hwaits : s.awaits n = true) (hlate : max t0 c.readyAt + 50 ≤ s.time) :
    Does (.groupStart g) s fun t => (t.group g).since = none ∧ t.rd Reg.MSR_ICV_STATUS.STATE n = 2 := by
  refine does_of_ends hs rfl ?_
  rw [Prog.run_read]
  dsimp only
  rw [hmem, filter_hasBit_two_pow hn, hsince]
  dsimp only
  rw [if_pos (by simp [hwaits, hcur, hlate]), Prog.run_seq]
  constructor
  · refine view_after (g := fun u => (u.group g).since) (keeps_each fun _ => keeps_seq (integrate_touch.keepsSince rfl) fun _ => rfl) ?_
    rw [updGroups_group]
  · rw [each_singleton_run, Prog.run_seq]
    exact rd_after keepsRd_updIcvs integrate_state

end

/-- Settles O22: each command by the lock, the wait or the integration that it brings. -/
theorem measTriggers : Obligations.MeasTriggers := by
  unfold Obligations.MeasTriggers
  intro s hs
  exact ⟨fun _ _ => execMainsCrossing_locks hs, execMainsLockLoss_unlocks hs, fun _ => execMainsFreeTrigger_reaches hs,
    fun _ => execIcvTrigger_integrates hs, fun _ => execGroupTrigger_waits hs, fun _ _ _ _ => execGroupStart_integrates hs⟩

end Sys2Proof.Machine
end

section
/-! What an ICV that has failed shows (R275): slots that lose their measurement with it end escalations of cross-checks, and no such end puts
the ICV back to work. -/

namespace Sys2Proof.Machine

/-- A program keeps a condition that holds before it. -/
def Prog.Leaves (P : State → Prop) (p : Prog) : Prop := ∀ s, P s → P (p.run s)

section

variable {α : Type} {P : State → Prop} {p q : Prog}

theorem leaves_skip : Prog.skip.Leaves P := fun _ h => h
theorem leaves_seq (hp : p.Leaves P) (hq : q.Leaves P) : (Prog.seq p q).Leaves P := fun s h => hq _ (hp s h)
theorem leaves_read {r : State → Prog} (h : ∀ s, (r s).Leaves P) : (Prog.read r).Leaves P := fun s => h s s

theorem leaves_ite {b : Prop} [Decidable b] (hp : p.Leaves P) (hq : q.Leaves P) : (if b then p else q).Leaves P := by
  split
  · exact hp
  · exact hq

theorem leaves_when {b : State → Bool} (h : p.Leaves P) : (when b p).Leaves P := leaves_read fun _ => leaves_ite h leaves_skip

theorem leaves_seqs {l : List Prog} (h : ∀ p ∈ l, p.Leaves P) : (seqs l).Leaves P := by
  induction l with
  | nil => exact leaves_skip
  | cons p l ih =>
    obtain ⟨hp, hl⟩ := List.forall_mem_cons.1 h
    exact leaves_seq hp (ih hl)

theorem leaves_each {l : List α} {r : α → Prog} (h : ∀ a, (r a).Leaves P) : (each l r).Leaves P :=
  leaves_seqs fun p hp => by
    obtain ⟨a, -, rfl⟩ := List.mem_map.1 hp
    exact h a

end

section

variable {n : Nat}

/-- The ICV shows that it has failed (R289). -/
def ShowsFailed (n : Nat) (s : State) : Prop := s.rd Reg.MSR_ICV_STATUS.FAILED n = 1 ∧ s.rd Reg.MSR_ICV_STATUS.STATE n = 7

/-- A field that is none of the two in which an ICV shows that it has failed. -/
abbrev Fld.Spares (f : Fld) : Prop := f.id ≠ Reg.MSR_ICV_STATUS.FAILED.id ∧ f.id ≠ Reg.MSR_ICV_STATUS.STATE.id

variable {p : Prog} {M sl lead : Nat}

theorem leavesFailed_of_keeps (hf : p.Keeps fun u => u.rd Reg.MSR_ICV_STATUS.FAILED n)
    (hst : p.Keeps fun u => u.rd Reg.MSR_ICV_STATUS.STATE n) : p.Leaves (ShowsFailed n) := fun s hs => hs.imp (hf s).trans (hst s).trans

theorem Prog.Touches.leavesFailed (h : p.Touches M) (hf : M.testBit Reg.MSR_ICV_STATUS.FAILED.id = false)
    (hst : M.testBit Reg.MSR_ICV_STATUS.STATE.id = false) (hc : M.testBit 700 = false) : p.Leaves (ShowsFailed n) :=
  leavesFailed_of_keeps (h.keepsRd hf hc) (h.keepsRd hst hc)

theorem setR_leavesFailed {f : Fld} {v i j k : Nat} (h : f.Spares) : (setR f v i j k).Leaves (ShowsFailed n) :=
  leavesFailed_of_keeps (keepsRd_setR h.1) (keepsRd_setR h.2)

theorem updSlots_leavesFailed {r : SlotRec → SlotRec} : (updSlots sl r).Leaves (ShowsFailed n) :=
  leavesFailed_of_keeps keepsRd_updSlots keepsRd_updSlots

/-- A referee's end puts an ICV back to work only where it shows the referee (R274). -/
theorem refereeEnds_leavesFailed {a : Nat} : (refereeEnds a).Leaves (ShowsFailed n) := leaves_read fun s => by
  refine leaves_seq ?_ (leaves_seq (leavesFailed_of_keeps keepsRd_updFcvs keepsRd_updFcvs)
    (leaves_seq (dacShow_touch.leavesFailed rfl rfl rfl) leaves_skip))
  split
  · rename_i r _
    intro u hu
    rw [when_run]
    split
    · rename_i h6
      have hne : n ≠ r.1 := by
        rintro rfl
        simp [hu.2] at h6
      exact ⟨rd_after (keepsRd_setR (by decide)) hu.1, (State.rd_wr_ne _ _ _ _ _ _ _ _ _ _ (.inr (.inl hne))).trans hu.2⟩
    · exact hu
  · exact leaves_skip

theorem escalationsDrop_leavesFailed : (escalationsDrop sl).Leaves (ShowsFailed n) := leaves_read fun s => by
  refine leaves_seq updSlots_leavesFailed (leaves_seq (leavesFailed_of_keeps keepsRd_updGauges keepsRd_updGauges) (leaves_seq ?_ leaves_skip))
  split
  · exact leaves_ite refereeEnds_leavesFailed leaves_skip
  · exact leaves_skip

theorem packForget_leavesFailed : (packForget sl).Leaves (ShowsFailed n) := by
  have hset {f : Fld} {v : Nat} (h : f.Spares) : (setR f v sl).Leaves (ShowsFailed n) := setR_leavesFailed h
  have hshow {a : Nat} : (dacShow a).Leaves (ShowsFailed n) := dacShow_touch.leavesFailed rfl rfl rfl
  refine leaves_seqs ?_
  simp (disch := decide) [hset, updSlots_leavesFailed, hshow, escalationsDrop_leavesFailed]

theorem reidentify_leavesFailed : (reidentify sl).Leaves (ShowsFailed n) :=
  leaves_seq (fgDisarm_touch.leavesFailed rfl rfl rfl) (leaves_seq packForget_leavesFailed
    (leaves_seq (identBegin_touch.leavesFailed rfl rfl rfl) leaves_skip))

theorem slotStopped_leavesFailed : (slotStopped sl).Leaves (ShowsFailed n) := by
  have hset {f : Fld} {v : Nat} (h : f.Spares) : (setR f v sl).Leaves (ShowsFailed n) := setR_leavesFailed h
  refine leaves_read fun s => leaves_ite (leaves_seq (hset (by decide)) (leaves_seq ?idle (leaves_seq ?reason (leaves_seq ?off
    (leaves_seq ?release (leaves_seq ?use (leaves_seq ?again leaves_skip))))))) (leaves_ite (hset (by decide)) leaves_skip)
  case idle =>
    exact leaves_ite (leaves_seq (hset (by decide)) (leaves_seq (hset (by decide)) (leaves_seq updSlots_leavesFailed leaves_skip))) leaves_skip
  case reason =>
    split
    · exact leaves_seq updSlots_leavesFailed (chargeEnd_touch.leavesFailed rfl rfl rfl)
    · exact leaves_skip
  case off =>
    exact leaves_when (leaves_seq (finalSnapshot_touch.leavesFailed rfl rfl rfl) (leaves_seq (fgDisarm_touch.leavesFailed rfl rfl rfl)
      (leaves_seq updSlots_leavesFailed leaves_skip)))
  case release =>
    split
    · exact leaves_seq updSlots_leavesFailed (keepRequest_touch.leavesFailed rfl rfl rfl)
    · exact leaves_skip
  case use => exact leaves_read fun _ => useUpdate_touch.leavesFailed rfl rfl rfl
  case again => exact leaves_when (leaves_ite reidentify_leavesFailed (hset (by decide)))

theorem leadPark_leavesFailed : (leadPark lead).Leaves (ShowsFailed n) :=
  leaves_read fun _ => leaves_seq (parkOutput_touch.leavesFailed rfl rfl rfl) <|
    leaves_seq (leaves_ite (leaves_seq (fgReverse_touch.leavesFailed rfl rfl rfl) slotStopped_leavesFailed) leaves_skip) <|
    leaves_seq (setR_leavesFailed (by decide)) leaves_skip

theorem stopSlot_leavesFailed {after : Nat} {reason : Option Nat} : (stopSlot sl after reason).Leaves (ShowsFailed n) :=
  leaves_read fun _ => leaves_seq updSlots_leavesFailed <| leaves_seq (setR_leavesFailed (by decide)) <| leaves_seq
    (leaves_ite (leaves_read fun _ => leaves_ite (softStopBegin_touch.leavesFailed rfl rfl rfl) (leaves_ite leaves_skip leadPark_leavesFailed))
      leadPark_leavesFailed) leaves_skip

theorem endParts_leavesFailed {reason fin : Nat} : (endParts sl reason fin).Leaves (ShowsFailed n) := leaves_read fun s => by
  refine leaves_seq (leaves_when (transferEnd_touch.leavesFailed rfl rfl rfl)) (leaves_seq (leaves_when (auditEnd_touch.leavesFailed rfl rfl rfl))
    (leaves_seq ?_ leaves_skip))
  split
  · exact leaves_seq (transferEnd_touch.leavesFailed rfl rfl rfl) (leaves_seq stopSlot_leavesFailed leaves_skip)
  · exact leaves_skip

theorem slotSafe_leavesFailed {cause : Nat} : (slotSafe sl cause).Leaves (ShowsFailed n) := by
  have hset {f : Fld} {v k : Nat} (h : f.Spares) : (setR f v k).Leaves (ShowsFailed n) := setR_leavesFailed h
  have hcount {f : Fld} {k : Nat} (h : f.Spares) : (incSat f k).Leaves (ShowsFailed n) := leaves_read fun _ => hset h
  have hpark {k stage : Nat} : (parkOutput k stage).Leaves (ShowsFailed n) := parkOutput_touch.leavesFailed rfl rfl rfl
  have htold {k : Nat} {d : State → Nat} : (Prog.read fun t => raiseSlot evFaulted k (d t)).Leaves (ShowsFailed n) :=
    leaves_read fun _ => raiseSlot_touch.leavesFailed rfl rfl rfl
  refine leaves_read fun s => leaves_ite (leaves_seq hpark (leaves_seq (hcount (by decide)) (leaves_seq ?later (leaves_seq htold leaves_skip))))
    (leaves_ite hpark (leaves_seqs ?_))
  case later => exact leaves_ite (leaves_seq (hset (by decide)) (hset (by decide))) leaves_skip
  have hshow {v : State → Nat} : (updR Reg.SAF_STATUS.FAULTED_CNT v).Leaves (ShowsFailed n) := leaves_read fun _ => hset (by decide)
  simp (disch := decide) [hset, hcount, hpark, htold, hshow, updSlots_leavesFailed, endParts_leavesFailed, escalationsDrop_leavesFailed,
    fgDisarm_touch.leavesFailed, resvEnd_touch.leavesFailed, releaseGoesOn_touch.leavesFailed]

/-- An order of the Sundial acts: a valid copy always arrives by the safety line (R524). -/
theorem orderTo_run {a w : Nat} {act : Prog} {s : State} :
    (orderTo a w act).run s = act.run ((seqs [emit (.order a 0 w (wordParity w)), emit (.order a 1 w (wordParity w))]).run s) := by
  have hvalid : ((s.orderCopies a w).find? fun c => c.2 == wordParity c.1).isSome = true := by simp [State.orderCopies]
  obtain ⟨c, hc⟩ := Option.isSome_iff_exists.1 hvalid
  rw [orderTo, Prog.run_read, hc]
  rfl

theorem slotSafeSub_leavesFailed {sub : Nat} : (slotSafeSub sl sub).Leaves (ShowsFailed n) := fun s hs => by
  rw [slotSafeSub, orderTo_run]
  refine leaves_read (fun u => leaves_seq (leaves_when (setR_leavesFailed (by decide))) (leaves_seq slotSafe_leavesFailed
    (leaves_seq (isolate_touch.leavesFailed rfl rfl rfl) leaves_skip))) _ ?_
  exact leaves_seq (emit_touch.leavesFailed rfl rfl rfl) (leaves_seq (emit_touch.leavesFailed rfl rfl rfl) leaves_skip) _ hs

theorem measLost_leavesFailed {l : List Nat} : (measLost l).Leaves (ShowsFailed n) :=
  leaves_seq (leaves_each fun _ => slotSafeSub_leavesFailed) <| leaves_read fun _ => leaves_ite leaves_skip <|
    leaves_seq (setR_leavesFailed (by decide)) (raiseHealth_touch.leavesFailed rfl rfl rfl)

/-- An ICV that fails shows it, whether or not an FCV takes its place. -/
theorem icvFail_showsFailed {cause : Nat} {s : State} (h : s.flag Reg.MSR_ICV_STATUS.FAILED n = false) : ShowsFailed n ((icvFail n cause).run s) := by
  have hput {f : Fld} {k : Nat} {v : State → Nat} (hf : f.Spares) : (updR f v k).Leaves (ShowsFailed n) :=
    leaves_read fun _ => setR_leavesFailed hf
  rw [icvFail, Prog.run_read]
  dsimp only
  rw [if_neg (by simp [h]), seqs_cons_run, seqs_cons_run, seqs_cons_run]
  refine leaves_seq (leavesFailed_of_keeps keepsRd_updIcvs keepsRd_updIcvs) (leaves_seq (leaves_when (raise_touch.leavesFailed rfl rfl rfl))
    (leaves_seq (leaves_ite (leaves_seqs ?_) measLost_leavesFailed) (leaves_seq (grpMembers_touch.leavesFailed rfl rfl rfl) leaves_skip))) _ ?_
  · have hround {r : FcvRec → FcvRec} : (updFcvs (n / 4) r).Leaves (ShowsFailed n) := leavesFailed_of_keeps keepsRd_updFcvs keepsRd_updFcvs
    simp (disch := decide) [setR_leavesFailed, hput, hround, raiseHealth_touch.leavesFailed]
  · exact ⟨rd_after (keepsRd_setR (by decide)) (rd_setR rfl (by decide)), rd_setR rfl (by decide)⟩

end

end Sys2Proof.Machine
end

section
/-! The conversions of an integrating converter (R244, R245, R248, R253, R254, R264, R266, R268, R269). -/

namespace Sys2Proof.Machine

section

variable {s : State} {n : Nat}

/-! A pass begins, and conversions begin in it (R248, R253, R254, R264). -/

theorem execIcvPassStart_begins (hs : s.stopped = false) (hruns : s.icvRuns n = true) (hcur : (s.icv n).cur = none)
    (hdelay : (s.icv n).delayUntil ≤ s.time) (hpass : (s.icv n).inPass = false) (href : s.refereeOn n = false) :
    Does (.icvPassStart n) s fun t => (t.icv n).inPass = true ∧ (t.icv n).pos = 0 ∧ (t.icv n).passAt = s.time := by
  refine does_of_ends hs rfl ?_
  rw [Prog.run_read]
  dsimp only
  rw [if_pos (by simp [hruns, hcur, hdelay, hpass, href]), seqs_cons_run, seqs_cons_run, seqs_cons_run, seqs_cons_run]
  have hshow (u : State) : ((seqs [setR Reg.MSR_ICV_STATUS.WINDOW ((if (s.icv n).inPass then (s.icv n).pass + 1 else (s.icv n).pass) % 4) n,
      setR Reg.MSR_ICV_STATUS.REPEAT_DONE 0 n, setR Reg.MSR_ICV_STATUS.ENTRY 0 n]).run u).icv n = u.icv n := by simp
  rw [hshow, updIcvs_icv]
  exact ⟨rfl, rfl, rfl⟩

/-- A conversion that goes onto a converter is its current one. -/
theorem convBegin_cur {c : Conv} : (((convBegin n c).run s).icv n).cur.isSome = true := by
  simp only [convBegin, Prog.run_read, seqs_cons_run, seqs_nil_run, setR_run, updR_run, State.wr_icv, updIcvs_icv, Option.isSome_some]

/-- It leaves the requests that wait (R264). -/
theorem convBegin_keepsRequests {c : Conv} : (convBegin n c).Keeps fun u => ((u.icv n).queue, (u.icv n).used) := fun s => by
  simp only [convBegin, Prog.run_read, seqs_cons_run, seqs_nil_run, setR_run, updR_run, State.wr_icv, updIcvs_icv]

theorem execIcvConversionStart_begins (hs : s.stopped = false) (hruns : s.icvRuns n = true) (hcur : (s.icv n).cur = none)
    (hdelay : (s.icv n).delayUntil ≤ s.time) (hpass : (s.icv n).inPass = true) (hnext : s.nextEntry n (s.icv n).pos < 32)
    (href : s.refereeOn n = false) (hurgent : s.urgentDue n = false) : Does (.icvConversionStart n) s fun t => (t.icv n).cur.isSome = true := by
  refine does_of_ends hs rfl ?_
  rw [Prog.run_read]
  dsimp only
  rw [if_pos (by simp [hruns, hcur, hdelay, hpass, hnext, href, hurgent]), seqs_cons_run, seqs_cons_run, seqs_cons_run]
  simp only [seqs_cons_run, seqs_nil_run, updR_run, State.wr_icv, updIcvs_icv]
  exact convBegin_cur

theorem execUrgentConversionStart_begins {c : Conv} {rest : List Conv} (hs : s.stopped = false)
    (hnext : (s.icv n).nextUrgent = some (c, rest)) (hdue : s.urgentDue n = true) :
    Does (.urgentConversionStart n) s fun t => (t.icv n).cur.isSome = true ∧ (t.icv n).queue = rest ∧ (t.icv n).used = true := by
  refine does_of_ends hs rfl ?_
  rw [Prog.run_read, hnext]
  dsimp only
  rw [if_neg (by simp [hdue]), seqs_cons_run, seqs_cons_run, seqs_cons_run, seqs_cons_run, seqs_nil_run]
  have hqueued (u : State) : ((urgQ n).run u).icv n = u.icv n := State.wr_icv ..
  refine ⟨convBegin_cur, Prod.mk.inj ((convBegin_keepsRequests _).trans ?_)⟩
  simp only [hqueued, updIcvs_icv]

/-! Where a record goes (R268, R269). -/

section

variable {r : MeasRec}

theorem rd_last {c : Nat} {v : Int} : ((setR Reg.MSR_ICV_LAST.VALUE (toField 32 v) n c).run s).rd Reg.MSR_ICV_LAST.VALUE n c = toField 32 v :=
  rd_setR rfl (toField_lt 32 v)

/-- A delivered record shows as the last value of its channel. -/
theorem recDeliver_shows (hchan : r.chan < 16) : ((recDeliver n r).run s).rd Reg.MSR_ICV_LAST.VALUE n r.chan = toField 32 r.value := by
  have hevent {o : Option Nat} {b : Nat → List Nat} : (match o with
      | some fn => measEvent r.src fn (b fn)
      | none => .skip).Keeps fun u => u.rd Reg.MSR_ICV_LAST.VALUE n r.chan := by
    cases o
    · exact keeps_skip
    · exact measEvent_touch.keepsRd rfl rfl
  rw [recDeliver, Prog.run_read]
  dsimp only
  rw [Prog.run_seq, if_pos (show r.chan < 20 by omega), if_pos (show r.chan < 20 by omega)]
  refine rd_after hevent ?_
  rw [deliverValue, Prog.run_read]
  dsimp only
  rw [if_pos hchan, seqs_cons_run]
  refine rd_after (keeps_cons (keeps_ite keeps_skip (keeps_ite ?_ (keeps_ite (ntcResult_touch.keepsRd rfl rfl) keeps_skip))) keeps_seqs_nil) rd_last
  split
  · exact keeps_seq (vpackResult_touch.keepsRd rfl rfl) (keeps_read fun _ => keeps_ite (unrestoredEstimate_touch.keepsRd rfl rfl) keeps_skip)
  · exact keeps_skip

/-- A record whose slot's pair runs, or sleeps in SENTINEL, shows as the last value of its channel. -/
theorem recIssue_shows (hchan : r.chan < 16) (hpost : s.rd Reg.ENG_TASK.STATE (postTask r.sl) < 2) :
    ((recIssue n r).run s).rd Reg.MSR_ICV_LAST.VALUE n r.chan = toField 32 r.value := by
  rw [recIssue, Prog.run_read]
  split
  · rw [Prog.run_seq]
    exact rd_last
  · rw [if_neg (by simp [hpost])]
    exact recDeliver_shows hchan

/-- A record whose slot's pair does not run is held. -/
theorem recIssue_holds (hsl : r.sl < 64) (hpost : 2 ≤ s.rd Reg.ENG_TASK.STATE (postTask r.sl)) (hawake : s.postSleeps r.sl = false) :
    (recIssue n r).run s = (updIcvs n fun x => { x with held := (x.held ++ [r]).take 4 }).run s := by
  rw [recIssue, Prog.run_read, if_neg (by simp [hawake]), if_pos (by simp [hsl, hpost])]

theorem recIssue_keepsCur : (recIssue n r).Keeps fun u => (u.icv n).cur := by
  refine keeps_read fun _ => keeps_ite (keeps_seq (keepsIcv_updIcvs fun _ => rfl) (keeps_ite keepsIcv_setR keeps_skip))
    (keeps_ite (keepsIcv_updIcvs fun _ => rfl) (recDeliver_touch.keepsIcv rfl))

end

/-! The result of a table entry without AVG (R253, R266). -/

section

variable {c : Conv} {stamp flags : Nat} {value raw : Int}

/-- The record of such an entry is issued at once; the rest of its result leaves the current conversion, the records held and the last values. -/
theorem tableResult_issues (havg : (s.entry n c.entry).avg = false) : ∃ ring, ∃ rest : Prog,
    (tableResult n c stamp flags value raw).run s = rest.run ((recIssue n (s.recOf n c stamp flags value raw ring)).run s) ∧
    (rest.Keeps fun u => ((u.icv n).cur, (u.icv n).held)) ∧ rest.Keeps fun u => u.rd Reg.MSR_ICV_LAST.VALUE n c.chan := by
  rw [tableResult, Prog.run_read]
  dsimp only
  rw [if_neg (by simp [havg]), seqs_cons_run]
  refine ⟨_, _, rfl, ?_, keeps_seqs ?_⟩
  · exact keeps_cons (keepsIcv_updIcvs (w := fun x => (x.cur, x.held)) fun _ => rfl) (keeps_cons (keepsIcv_setR (w := fun x => (x.cur, x.held)))
      (keeps_cons (keepsIcv_updR (w := fun x => (x.cur, x.held))) (keeps_cons (keepsIcv_updR (w := fun x => (x.cur, x.held))) keeps_seqs_nil)))
  · simp (disch := decide) [keepsRd_setR, keepsRd_updR]

theorem tableResult_shows (havg : (s.entry n c.entry).avg = false) (hchan : c.chan < 16)
    (hpost : s.rd Reg.ENG_TASK.STATE (postTask (chanSlot n c.chan)) < 2) :
    ((tableResult n c stamp flags value raw).run s).rd Reg.MSR_ICV_LAST.VALUE n c.chan = toField 32 value := by
  obtain ⟨ring, rest, hrun, -, hlast⟩ := tableResult_issues (stamp := stamp) (flags := flags) (value := value) (raw := raw) havg
  rw [hrun]
  exact rd_after hlast (recIssue_shows (r := s.recOf n c stamp flags value raw ring) hchan hpost)

theorem tableResult_cur (havg : (s.entry n c.entry).avg = false) : (((tableResult n c stamp flags value raw).run s).icv n).cur = (s.icv n).cur := by
  obtain ⟨ring, rest, hrun, hicv, -⟩ := tableResult_issues (stamp := stamp) (flags := flags) (value := value) (raw := raw) havg
  rw [hrun]
  exact (hicv.view Prod.fst _).trans (recIssue_keepsCur s)

theorem tableResult_holds (havg : (s.entry n c.entry).avg = false) (hsl : chanSlot n c.chan < 64)
    (hpost : 2 ≤ s.rd Reg.ENG_TASK.STATE (postTask (chanSlot n c.chan))) (hawake : s.postSleeps (chanSlot n c.chan) = false) :
    (((tableResult n c stamp flags value raw).run s).icv n).held.length = min ((s.icv n).held.length + 1) 4 ∧
      ((tableResult n c stamp flags value raw).run s).rd Reg.MSR_ICV_LAST.VALUE n c.chan = s.rd Reg.MSR_ICV_LAST.VALUE n c.chan := by
  obtain ⟨ring, rest, hrun, hicv, hlast⟩ := tableResult_issues (stamp := stamp) (flags := flags) (value := value) (raw := raw) havg
  rw [hrun, recIssue_holds (r := s.recOf n c stamp flags value raw ring) hsl hpost hawake]
  refine ⟨(hicv.view (fun x => x.2.length) _).trans ?_, hlast _⟩
  simp only [updIcvs_icv, List.length_take, List.length_append, List.length_singleton, min_comm]

end

/-! The end of an integration (R244, R248, R251). -/

/-- The code of a conversion and whether its input was at or beyond ±FS: a VPACK reading on ±2.5 V whose pin has opened the protected path is
clipped (R244, R245). -/
def Conv.codeRead (c : Conv) (pin : Nat) (raw : Int) : Int × Bool :=
  if (decide (c.chan < 12 ∧ c.chan % 3 = 0) && decide (3000 < pin)) && c.range == 1 then (8388607, true) else clipCode raw

theorem codeRead_open {c : Conv} {pin : Nat} {raw : Int} (hpin : 3000 < pin) (hrange : c.range = 1) (hchan : c.chan < 12) (hvpack : c.chan % 3 = 0) :
    c.codeRead pin raw = (8388607, true) := by simp [Conv.codeRead, hpin, hrange, hchan, hvpack]

theorem codeRead_closed {c : Conv} {pin : Nat} {raw : Int} (h : pin ≤ 3000 ∨ c.range ≠ 1 ∨ 12 ≤ c.chan ∨ c.chan % 3 ≠ 0) :
    c.codeRead pin raw = clipCode raw := by
  refine if_neg fun hopen => ?_
  simp only [Bool.and_eq_true, decide_eq_true_eq, beq_iff_eq] at hopen
  omega

/-- What the end of an integration does before its result is used: the counts, the path, the record kept for the cross-check, the comparisons
with the fast output voltage, the auto-range state. -/
def readout (n : Nat) (c : Conv) (opens ovr : Bool) (r : MeasRec) (fast : Nat) (others : List Nat) : Prog :=
  let vpack := decide (c.chan < 12 ∧ c.chan % 3 = 0)
  seqs [
    when (fun _ => ovr) (incSat Reg.MSR_ICV_CNT.OVR n),
    updIcvs n fun x => { x with
      cur := none, paths := if !vpack then x.paths else (if opens then [c.chan / 3] else []) ++ x.paths.filter (· != c.chan / 3) },
    resKeep n r,
    when (fun t => vpack && t.rd Reg.MSR_ICV_LAST.VALUE n c.chan != 0x80000000) (each others fun m => .read fun t =>
      outCheck (chanSlot n c.chan) 2 m (divRound (ofField 32 (t.rd Reg.MSR_ICV_LAST.VALUE n c.chan)) 1000).toNat c.range),
    when (fun _ => vpack && !ovr) (outCheck (chanSlot n c.chan) 1 fast (divRound r.value 1000).toNat c.range),
    rangeFollows n c.chan c.range r.value ovr]

section

variable {c : Conv} {pin fast t0 : Nat} {raw : Int} {others : List Nat} {opens ovr : Bool} {r : MeasRec}

theorem rangeFollows_keepsIcv {chan range : Nat} {value : Int} :
    (rangeFollows n chan range value ovr).Keeps fun u => ((u.icv n).cur, (u.icv n).held) := by
  have hset {k : Nat} : (setAutoRange n chan k).Keeps fun u => ((u.icv n).cur, (u.icv n).held) :=
    keeps_ite (keeps_read fun _ => keepsIcv_setR (w := fun x => (x.cur, x.held))) (keepsIcv_updIcvs (w := fun x => (x.cur, x.held)) fun _ => rfl)
  have hupd {q : IcvRec → IcvRec} (h : ∀ x, ((q x).cur, (q x).held) = (x.cur, x.held)) :
      (updIcvs n q).Keeps fun u => ((u.icv n).cur, (u.icv n).held) := keepsIcv_updIcvs (w := fun x => (x.cur, x.held)) h
  refine keeps_read fun _ => ?_
  dsimp only
  split
  · refine keeps_seq (hupd fun _ => rfl) ?_
    split
    · exact hset
    · exact keeps_skip
  · refine keeps_ite (keeps_seq (hupd fun _ => rfl) ?_) (keeps_ite (hupd fun _ => rfl) (hupd fun _ => rfl))
    split
    · exact hset
    · exact keeps_skip

/-- The converter is free after a readout, and holds the records that it held. -/
theorem readout_icv : ((((readout n c opens ovr r fast others).run s).icv n).cur, (((readout n c opens ovr r fast others).run s).icv n).held) =
    (none, (s.icv n).held) := by
  have hcheck {sl k m range : Nat} {v : State → Nat} :
      (Prog.read fun t => outCheck sl k m (v t) range).Keeps fun u => ((u.icv n).cur, (u.icv n).held) :=
    keeps_read fun _ => outCheck_touch.keepsIcv (w := fun x => (x.cur, x.held)) rfl
  have hcount : (when (fun _ => ovr) (incSat Reg.MSR_ICV_CNT.OVR n)).Keeps fun u => (u.icv n).held :=
    keeps_when (keeps_read fun _ => keepsIcv_setR)
  rw [readout, seqs_cons_run, seqs_cons_run]
  refine view_after (g := fun u => ((u.icv n).cur, (u.icv n).held)) (keeps_cons (keepsIcv_updIcvs (w := fun x => (x.cur, x.held)) fun _ => rfl)
    (keeps_cons (keeps_when (keeps_each fun _ => hcheck)) (keeps_cons (keeps_when hcheck) (keeps_cons rangeFollows_keepsIcv keeps_seqs_nil)))) ?_
  rw [updIcvs_icv]
  exact congrArg (Prod.mk none) (hcount s)

theorem readout_cur : (((readout n c opens ovr r fast others).run s).icv n).cur = none := congrArg Prod.fst readout_icv

theorem readout_held : (((readout n c opens ovr r fast others).run s).icv n).held = (s.icv n).held := congrArg Prod.snd readout_icv

/-- What a readout touches, as a mask (Laws/Touch.lean). -/
def readoutMask : Nat := 0x802000000000000000000000000000000000000000000000000000000000000000000000000000000000000000000000000000000000000000000108000000000000000000000000000000000000000000000000000000000000

/-- Of registers a readout writes the count of over-ranges and the auto-range states. -/
theorem readout_touch : (readout n c opens ovr r fast others).Touches readoutMask := by
  refine touch_seqs_cons (touch_when (touch_incSat rfl)) (touch_seqs_cons (touch_updIcvs rfl) (touch_seqs_cons (resKeep_touch.mono rfl)
    (touch_seqs_cons (touch_when (touch_each fun _ => touch_read fun _ => outCheck_touch.mono rfl)) (touch_seqs_cons
      (touch_when (outCheck_touch.mono rfl)) (touch_seqs_cons (rangeFollows_touch.mono rfl) touch_seqs_nil)))))

theorem readout_ovr (h : ovr = true) :
    ((readout n c opens ovr r fast others).run s).rd Reg.MSR_ICV_CNT.OVR n = min (s.rd Reg.MSR_ICV_CNT.OVR n + 1) 255 := by
  rw [readout, seqs_cons_run, when_run, if_pos h]
  have hcheck {sl k m range : Nat} {v : State → Nat} : (Prog.read fun t => outCheck sl k m (v t) range).Keeps fun u => u.rd Reg.MSR_ICV_CNT.OVR n :=
    keeps_read fun _ => outCheck_touch.keepsRd rfl rfl
  exact rd_after (keeps_cons keepsRd_updIcvs (keeps_cons (resKeep_touch.keepsRd rfl rfl) (keeps_cons (keeps_when (keeps_each fun _ => hcheck))
    (keeps_cons (keeps_when hcheck) (keeps_cons (rangeFollows_touch.keepsRd rfl rfl) keeps_seqs_nil))))) (rd_incSat rfl (by decide) rfl rfl)

theorem readout_entry {i : Nat} : ((readout n c opens ovr r fast others).run s).entry n i = s.entry n i := by
  have hkeep {f : Fld} (h : readoutMask.testBit f.id = false) :
      ((readout n c opens ovr r fast others).run s).rd f n i = s.rd f n i := readout_touch.keepsRd h rfl s
  simp (disch := decide) only [State.entry, State.entryA, State.entryB, hkeep]

theorem readout_postSleeps {sl : Nat} : ((readout n c opens ovr r fast others).run s).postSleeps sl = s.postSleeps sl := by
  have hmode : ((readout n c opens ovr r fast others).run s).mode = s.mode :=
    keepsMode (readout_touch.keepsRd rfl rfl) (readout_touch.keepsRd rfl rfl) (readout_touch.keepsRd rfl rfl) s
  have htime : ((readout n c opens ovr r fast others).run s).time = s.time := readout_touch.time s rfl
  have heng : ((readout n c opens ovr r fast others).run s).eng = s.eng := readout_touch.eng s rfl
  have hhost : ((readout n c opens ovr r fast others).run s).rd Reg.ENG_TASK.HOST (postTask sl) = s.rd Reg.ENG_TASK.HOST (postTask sl) :=
    readout_touch.keepsRd rfl rfl s
  simp only [State.postSleeps, hmode, htime, heng, hhost]

theorem readout_post {k : Nat} : ((readout n c opens ovr r fast others).run s).rd Reg.ENG_TASK.STATE k = s.rd Reg.ENG_TASK.STATE k :=
  readout_touch.keepsRd rfl rfl s

theorem chanSlot_lt (hn : n < 16) (hchan : c.chan < 16) : chanSlot n c.chan < 64 := by
  unfold chanSlot
  split_ifs <;> omega

theorem seqs_seven_run {p₁ p₂ p₃ p₄ p₅ p₆ q : Prog} :
    (seqs [p₁, p₂, p₃, p₄, p₅, p₆, q]).run s = q.run ((seqs [p₁, p₂, p₃, p₄, p₅, p₆]).run s) := rfl

section

variable (hs : s.stopped = false) (hcur : (s.icv n).cur = some c) (hstart : c.startAt = some t0)
  (hend : t0 + c.len ≤ s.time) (hok : s.flag Reg.MSR_ICV_STATUS.FAILED n = false) (hkind : c.kind = 0)

include hs hcur hstart hend hok hkind

/-- The end of the integration of a table entry: the readout, and then the entry's result. -/
theorem does_of_integrationEnd {P : State → Prop} (hp : ∀ opens flags,
    let code := (c.codeRead pin raw).1
    let value := calValue code c.off c.gain (fsOf c.range)
    P ((tableResult n c t0 flags value code).run
      ((readout n c opens (c.codeRead pin raw).2 (s.recOf n c t0 flags value code none) fast others).run s))) :
    Does (.icvIntegrationEnd n raw pin fast others) s P := by
  refine does_of_ends hs rfl ?_
  rw [Prog.run_read, hcur]
  dsimp only
  rw [hstart]
  dsimp only
  have hgot : (if (decide (c.chan < 12 ∧ c.chan % 3 = 0) && decide (3000 < pin)) && c.range == 1 then ((8388607 : Int), true) else clipCode raw) =
      c.codeRead pin raw := rfl
  rw [if_neg (by simp [hok]; omega), if_pos hkind, hgot, seqs_seven_run]
  exact hp (decide (c.chan < 12 ∧ c.chan % 3 = 0) && decide (3000 < pin)) (s.resultFlags n c (c.codeRead pin raw).2)

theorem execIcvIntegrationEnd_shows (hchan : c.chan < 16)
    (havg : (s.entry n c.entry).avg = false) (hpost : s.rd Reg.ENG_TASK.STATE (postTask (chanSlot n c.chan)) < 2)
    (hpin : pin ≤ 3000 ∨ c.range ≠ 1 ∨ 12 ≤ c.chan ∨ c.chan % 3 ≠ 0) :
    Does (.icvIntegrationEnd n raw pin fast others) s fun t => (t.icv n).cur = none ∧
      t.rd Reg.MSR_ICV_LAST.VALUE n c.chan = toField 32 (calValue (sat (-8388608) 8388607 raw) c.off c.gain (fsOf c.range)) := by
  refine does_of_integrationEnd hs hcur hstart hend hok hkind fun opens flags => ?_
  rw [codeRead_closed hpin]
  refine ⟨(tableResult_cur (by rwa [readout_entry])).trans readout_cur, ?_⟩
  exact tableResult_shows (by rwa [readout_entry]) hchan (by rwa [readout_post])

theorem execIcvIntegrationEnd_clips (havg : (s.entry n c.entry).avg = false) (hpost : s.rd Reg.ENG_TASK.STATE (postTask (chanSlot n c.chan)) < 2)
    (hpin : 3000 < pin) (hrange : c.range = 1) (hchan : c.chan < 12) (hvpack : c.chan % 3 = 0) :
    Does (.icvIntegrationEnd n raw pin fast others) s fun t =>
      t.rd Reg.MSR_ICV_LAST.VALUE n c.chan = toField 32 (calValue 8388607 c.off c.gain (fsOf 1)) ∧
      t.rd Reg.MSR_ICV_CNT.OVR n = min (s.rd Reg.MSR_ICV_CNT.OVR n + 1) 255 := by
  refine does_of_integrationEnd hs hcur hstart hend hok hkind fun opens flags => ?_
  rw [codeRead_open hpin hrange hchan hvpack, hrange]
  refine ⟨tableResult_shows (by rwa [readout_entry]) (by omega) (by rwa [readout_post]), ?_⟩
  exact rd_after (tableResult_touch.keepsRd rfl rfl) (readout_ovr rfl)

theorem execIcvIntegrationEnd_holds (hn : n < 16) (hchan : c.chan < 16)
    (havg : (s.entry n c.entry).avg = false) (hpost : 2 ≤ s.rd Reg.ENG_TASK.STATE (postTask (chanSlot n c.chan)))
    (hawake : s.postSleeps (chanSlot n c.chan) = false) :
    Does (.icvIntegrationEnd n raw pin fast others) s fun t => (t.icv n).held.length = min ((s.icv n).held.length + 1) 4 ∧
      t.rd Reg.MSR_ICV_LAST.VALUE n c.chan = s.rd Reg.MSR_ICV_LAST.VALUE n c.chan := by
  refine does_of_integrationEnd hs hcur hstart hend hok hkind fun opens flags => ?_
  obtain ⟨hheld, hlast⟩ := tableResult_holds (s := (readout n c opens (c.codeRead pin raw).2 (s.recOf n c t0 flags _ _ none) fast others).run s)
    (stamp := t0) (flags := flags) (by rwa [readout_entry]) (chanSlot_lt hn hchan) (by rwa [readout_post]) (by rwa [readout_postSleeps])
  refine ⟨hheld.trans ?_, hlast.trans (readout_touch.keepsRd rfl rfl s)⟩
  rw [readout_held]

end

end

/-! The readout that does not end (R248). -/

theorem execIcvConversionTimeout_fails {c : Conv} {t0 : Nat} (hs : s.stopped = false) (hcur : (s.icv n).cur = some c)
    (hstart : c.startAt = some t0) (hlate : t0 + c.len + c.per / 10 ≤ s.time) (hok : s.flag Reg.MSR_ICV_STATUS.FAILED n = false) :
    Does (.icvConversionTimeout n) s fun t => t.rd Reg.MSR_ICV_STATUS.FAILED n = 1 ∧ t.rd Reg.MSR_ICV_STATUS.STATE n = 7 := by
  refine does_of_ends hs rfl ?_
  rw [Prog.run_read, hcur]
  dsimp only
  rw [if_pos (by simp [hstart, hlate]), Prog.run_seq]
  exact icvFail_showsFailed ((flag_of_keeps (keepsRd_incSat (by decide))).trans hok)

end

/-- Settles O23: a conversion's start by the converter that it takes, its end by what the readout and the entry's result leave, a timeout by the
failure of the converter. -/
theorem measConversions : Obligations.MeasConversions := by
  unfold Obligations.MeasConversions
  intro s n hs
  exact ⟨fun hruns hcur hdelay hpass _ => execIcvPassStart_begins hs hruns hcur hdelay hpass, execIcvConversionStart_begins hs,
    fun _ _ _ _ _ _ => execIcvIntegrationEnd_shows hs, fun _ _ _ _ _ _ => execIcvIntegrationEnd_clips hs,
    fun _ _ _ _ _ _ => execIcvIntegrationEnd_holds hs, fun _ _ => execIcvConversionTimeout_fails hs,
    fun _ _ => execUrgentConversionStart_begins hs⟩

end Sys2Proof.Machine
end

section
/-! The injection check of an ICV whose FCV is lost (R265, R276, R277): the slot of the channel faults, where the channel has a slot. -/

namespace Sys2Proof.Machine

section

variable {s : State} {n chan range sl : Nat} {readings : List Int}

theorem oddGanged_of_keeps {p : Prog} (h : p.Keeps fun u => u.rd Reg.PHC_GANG.GANG_EN) : (p.run s).oddGanged sl = s.oddGanged sl := by
  rw [State.oddGanged, ganged_of_gang (h s), State.oddGanged]

/-- A safe state that the Sundial orders of a slot with a pack at hand (R277, R521). -/
theorem slotSafeSub_faults {sub : Nat} (hodd : s.oddGanged sl = false) (hst : s.slSt sl ∉ [slEmpty, slOff, slGanged, slFaulted]) :
    ((slotSafeSub sl sub).run s).slSt sl = slFaulted ∧ ((slotSafeSub sl sub).run s).rd Reg.SLT_FAULT.CAUSE sl = caFrontEnd := by
  rw [slotSafeSub, orderTo_run, Prog.run_read, seqs_cons_run, seqs_cons_run, seqs_cons_run, seqs_nil_run]
  have hsub {c : State → Bool} {k : Nat} {f : Fld} {i : Nat} (h : Reg.SAF_FG_B.SUBCAUSE.id ≠ f.id) :
      (when c (setR Reg.SAF_FG_B.SUBCAUSE sub k)).Keeps fun u => u.rd f i := keeps_when (keepsRd_setR h)
  refine And.imp (rd_after (isolate_touch.keepsRd rfl rfl)) (rd_after (isolate_touch.keepsRd rfl rfl))
    (slotSafe_faults (cause := caFrontEnd) ((oddGanged_of_keeps (hsub (by decide))).trans hodd) ?_ (by decide))
  rw [State.slSt, rd_after (hsub (by decide)) rfl]
  exact hst

/-- A channel of a slot that no FCV can carry: its failure is the slot's safe state. -/
theorem chanFail_faults (hslot : chanSlot n chan ≠ 0xFF) (hsubst : s.chanSubst n chan = false)
    (hfcv : s.rd Reg.MSR_FCV_STATUS.STATE (n / 4) = 2) (hodd : s.oddGanged (chanSlot n chan) = false) (hidle : s.slSt (chanSlot n chan) = slIdle) :
    ((chanFail n chan).run s).slSt (chanSlot n chan) = slFaulted ∧
      ((chanFail n chan).run s).rd Reg.SLT_FAULT.CAUSE (chanSlot n chan) = caFrontEnd := by
  have hlost {f : Fld} {i : Nat} {v : State → Nat} (hf : Reg.GLB_HEALTH.COVERAGE_LOST.id ≠ f.id) (hm : raiseMask.testBit f.id = false) :
      (healthSet Reg.GLB_HEALTH.COVERAGE_LOST v).Keeps fun u => u.rd f i :=
    keeps_read fun _ => keeps_ite keeps_skip (keeps_seq (keepsRd_setR hf) (raiseHealth_touch.keepsRd hm rfl))
  rw [chanFail, Prog.run_read]
  dsimp only
  rw [if_neg (by simp [hsubst]), if_neg (by simp [State.fcvFreeChan, hfcv]), if_neg hslot, measLost, Prog.run_seq, each_singleton_run]
  obtain ⟨hfaulted, hcause⟩ := slotSafeSub_faults (sub := 3) hodd (by rw [hidle]; decide)
  exact ⟨rd_after (hlost (by decide) rfl) hfaulted, rd_after (hlost (by decide) rfl) hcause⟩

/-- A channel without a slot that no FCV can carry: its failure leaves the state of every slot as it is. -/
theorem chanFail_slotless_keepsState (hslot : chanSlot n chan = 0xFF) (hsubst : s.chanSubst n chan = false)
    (hfcv : s.rd Reg.MSR_FCV_STATUS.STATE (n / 4) = 2) : ((chanFail n chan).run s).slSt sl = s.slSt sl := by
  rw [chanFail, Prog.run_read]
  dsimp only
  rw [if_neg (by simp [hsubst]), if_neg (by simp [State.fcvFreeChan, hfcv]), if_pos hslot]
  exact keeps_read (fun _ => keeps_ite keeps_skip (keeps_seq (keepsRd_setR (by decide)) (raiseHealth_touch.keepsRd rfl rfl))) s

theorem chanSubst_of_keeps {p : Prog} (h : p.Keeps fun u => u.rd Reg.MSR_ICV_SUBST.CHAN_SUBST n) (hchan : chan < 16) :
    (p.run s).chanSubst n chan = s.chanSubst n chan := by
  rw [State.chanSubst, if_pos hchan, rd_after h rfl, State.chanSubst, if_pos hchan]

section

variable (hs : s.stopped = false) (hfcv : s.rd Reg.MSR_FCV_STATUS.STATE (n / 4) = 2) (hchan : chan < 16)
  (hvpack : 12 ≤ chan ∨ chan % 3 ≠ 0) (hbad : onDac range false readings = false) (hsubst : s.chanSubst n chan = false)
  (hlive : s.icvLive n = true) (hcur : (s.icv n).cur = none)

include hs hfcv hchan hvpack hbad hsubst hlive hcur

/-- A check whose readings are not those of the injected levels fails its channel; before that it writes no register but a last value. -/
theorem does_of_injectionFails {P : State → Prop} (hp : ∀ p : Prog,
    (∀ {f : Fld} {i : Nat}, Reg.MSR_ICV_LAST.VALUE.id ≠ f.id → p.Keeps fun u => u.rd f i) → P ((chanFail n chan).run (p.run s))) :
    Does (.fcvLostInjectionCheck n chan range readings) s P := by
  refine does_of_ends hs rfl ?_
  rw [Prog.run_read]
  dsimp only
  rw [if_neg (by simp [hfcv, hlive, hsubst, hcur]; omega), seqs_cons_run, seqs_cons_run, seqs_cons_run, seqs_cons_run, seqs_nil_run, hbad,
    if_neg Bool.false_ne_true, abortRunning, Prog.run_read, hcur, Prog.run_skip]
  refine hp (.seq _ _) fun hf => keeps_seq keepsRd_updFcvs ?_
  split
  · exact keepsRd_setR hf
  · exact keeps_skip

/-- The slot of a channel that fails its check is in its safe state, where the channel has a slot. -/
theorem execFcvLostInjectionCheck_faults (hodd : s.oddGanged (chanSlot n chan) = false)
    (hidle : s.slSt (chanSlot n chan) = slIdle) (hslot : chanSlot n chan ≠ 0xFF) :
    Does (.fcvLostInjectionCheck n chan range readings) s fun t =>
      t.slSt (chanSlot n chan) = slFaulted ∧ t.rd Reg.SLT_FAULT.CAUSE (chanSlot n chan) = caFrontEnd :=
  does_of_injectionFails hs hfcv hchan hvpack hbad hsubst hlive hcur fun _ hrest =>
    chanFail_faults hslot ((chanSubst_of_keeps (hrest (by decide)) hchan).trans hsubst) (rd_after (hrest (by decide)) hfcv)
      ((oddGanged_of_keeps (hrest (by decide))).trans hodd) (rd_after (hrest (by decide)) hidle)

/-- Where it has none, no slot's state changes. -/
theorem execFcvLostInjectionCheck_slotless (hslot : chanSlot n chan = 0xFF) :
    Does (.fcvLostInjectionCheck n chan range readings) s fun t => t.slSt sl = s.slSt sl :=
  does_of_injectionFails hs hfcv hchan hvpack hbad hsubst hlive hcur fun _ hrest =>
    (chanFail_slotless_keepsState hslot ((chanSubst_of_keeps (hrest (by decide)) hchan).trans hsubst) (rd_after (hrest (by decide)) hfcv)).trans
      (hrest (by decide) s)

end

end

/-! An ICV that the device does not have. -/

/-- The lost FCV of a Planter 15, and slot 0xFF IDLE. -/
def lostFcv15 : State :=
  (seqs [setR Reg.PWR_MODE.MODE mRun, setR Reg.MSR_FCV_STATUS.STATE 2 15, setR Reg.SLT_STATUS.STATE slIdle 0xFF]).run State.reset

/-- The same with bit 37 of PWR_DOM.ON set, where the domain of a Planter 15 would stand. No run reaches it: a write cuts a value to the field's
width (R3), and the device has 16 ICVs (R243). -/
def icv63Lives : State := { lostFcv15 with regs := Tab.ins (Reg.PWR_DOM.ON.key 0 0 0) (2 ^ 37) lostFcv15.regs }

theorem icv63Lives_checks : icv63Lives.stopped = false ∧ icv63Lives.rd Reg.MSR_FCV_STATUS.STATE (63 / 4) = 2 ∧
    icv63Lives.chanSubst 63 15 = false ∧ icv63Lives.icvLive 63 = true ∧ (icv63Lives.icv 63).cur = none ∧
    icv63Lives.oddGanged (chanSlot 63 15) = false ∧ icv63Lives.slSt (chanSlot 63 15) = slIdle := by
  and_intros <;> decide +kernel

/-- Refutes O24: the clause of FCV_LOST_INJECTION_CHECK speaks of every ICV number, and the slot of channel 15 of an ICV 63 would have the number
0xFF, which stands for "no slot" (R266): its state stays IDLE. `execFcvLostInjectionCheck_faults` has the clause for every channel with a slot,
those of the 16 ICVs among them. -/
theorem not_measFineAndCalibration : ¬ Obligations.MeasFineAndCalibration := by
  unfold Obligations.MeasFineAndCalibration
  intro h
  obtain ⟨hs, hfcv, hsubst, hlive, hcur, hodd, hidle⟩ := icv63Lives_checks
  obtain ⟨hplanter, -⟩ := h
  obtain ⟨-, -, -, hcheck⟩ := hplanter icv63Lives 0 hs
  obtain ⟨t, he, hfaulted, -⟩ := hcheck 63 15 0 [] hfcv (by decide) (by decide) rfl hsubst hlive hcur hodd hidle
  obtain ⟨u, hu, hkept⟩ := execFcvLostInjectionCheck_slotless (sl := chanSlot 63 15) (range := 0) (readings := []) hs hfcv (by decide) (by decide)
    rfl hsubst hlive hcur rfl
  have htu : t = u := Host.Outcome.next.inj (he.symm.trans hu)
  rw [htu, hkept, hidle] at hfaulted
  exact absurd hfaulted (by decide)

end Sys2Proof.Machine
end

section
/-! TWB_XFER (R403, R417): an accepted transfer waits on its bus, and on a dead bus it completes at once. -/

namespace Sys2Proof.Machine

section

variable {s : State} {c : Ctl} {p : TwbPar} {b : Nat}

/-- The job of a host transfer that is queued now (R421, R431). -/
def State.twbJob (s : State) (c : Ctl) (p : TwbPar) : TwbJob :=
  { what := 0, par := p, ctl := some c, deadline := if p.timeout = 0 then none else some (s.time + 1000 * p.timeout) }

/-- An accepted transfer, before the bus is asked whether it is dead: its job stands last in the queue. -/
theorem twbDo_run : ∃ u : State, (twbDo c p).run s = (when (fun t => t.flag Reg.TWB_STATUS.BUS_DEAD c.target) (deadFlush c.target)).run u ∧
    (u.bus c.target).queue = (s.bus c.target).queue ++ [s.twbJob c p] ∧
    u.flag Reg.TWB_STATUS.BUS_DEAD c.target = s.flag Reg.TWB_STATUS.BUS_DEAD c.target := by
  refine ⟨(hostqUpdate c.target).run ((updTwb c.target fun x => { x with queue := x.queue ++ [s.twbJob c p], asleep := false }).run
    ((runOn c 0x40).run s)), rfl, ?_, ?_⟩
  · have hbus : ((hostqUpdate c.target).run ((updTwb c.target fun x => { x with queue := x.queue ++ [s.twbJob c p], asleep := false }).run
        ((runOn c 0x40).run s))).bus c.target = _ := (State.wr_bus ..).trans updTwb_bus
    rw [hbus]
    rfl
  · exact (flag_of_keeps (hostqUpdate_touch.keepsRd rfl rfl)).trans rfl

/-- A dead bus has nothing left that waits (R417). -/
theorem deadFlush_queue : (((deadFlush b).run s).bus b).queue = [] := by
  rw [deadFlush, Prog.run_read, seqs_cons_run]
  refine view_after (g := fun u => (u.bus b).queue) (keeps_cons (hostqUpdate_touch.keepsQueue rfl)
    (keeps_cons (keeps_each fun _ => jobFails_touch.keepsQueue rfl) keeps_seqs_nil)) ?_
  rw [updTwb_bus]

theorem execTwbXfer_queues (h : s.accepts (.twbXfer p) c = true) (hbus : s.flag Reg.TWB_STATUS.BUS_DEAD c.target = false) :
    Does (.twbXfer c p) s fun t => (t.bus c.target).queue = (s.bus c.target).queue ++ [s.twbJob c p] := by
  refine does_of_accepted rfl h rfl ?_
  show (((twbDo c p).run s.counted).bus c.target).queue = _
  obtain ⟨u, hrun, hqueue, hdead⟩ := twbDo_run (s := s.counted) (c := c) (p := p)
  rw [hrun, when_run_of_not (hdead.trans hbus), hqueue]
  rfl

theorem execTwbXfer_flushes (h : s.accepts (.twbXfer p) c = true) (hbus : s.flag Reg.TWB_STATUS.BUS_DEAD c.target = true) :
    Does (.twbXfer c p) s fun t => (t.bus c.target).queue = [] := by
  refine does_of_accepted rfl h rfl ?_
  show (((twbDo c p).run s.counted).bus c.target).queue = _
  obtain ⟨u, hrun, -, hdead⟩ := twbDo_run (s := s.counted) (c := c) (p := p)
  rw [hrun, when_run, if_pos (hdead.trans hbus)]
  exact deadFlush_queue

end

/-- RUN, with the host interface up and system bus 64 dead. -/
def systemBusDead : State :=
  (seqs [setR Reg.PWR_MODE.MODE mRun, setR Reg.PWR_DOM.ON 0x3FFFFFFF, setR Reg.FN_STATUS.LIVE 1 pfFn,
    setR Reg.TWB_STATUS.BUS_DEAD 1 64]).run State.reset

/-- A descriptor of the PF for bus 64. -/
def pfOnBus64 : Ctl := { fn := pfFn, ring := 0, target := 64 }

/-- A quick command to address 0x20 (R405). -/
def quickCommand : TwbPar := { proto := 0, addr := 0x20 }

theorem systemBusDead_accepts : systemBusDead.accepts (.twbXfer quickCommand) pfOnBus64 = true ∧
    systemBusDead.flag Reg.TWB_STATUS.BUS_DEAD pfOnBus64.target = true := by
  and_intros <;> decide +kernel

/-- Refutes O32: on a dead bus an accepted TWB_XFER completes at once with TWB_BUS_DEAD (R417) and is in no queue. `execTwbXfer_queues` has the
clause for every bus that is not dead. -/
theorem not_unitOpcodes : ¬ Obligations.UnitOpcodes := by
  unfold Obligations.UnitOpcodes
  intro h
  obtain ⟨haccepts, hdead⟩ := systemBusDead_accepts
  obtain ⟨-, -, -, -, -, -, -, -, hxfer⟩ := h systemBusDead pfOnBus64
  obtain ⟨t, he, hqueued⟩ := hxfer quickCommand haccepts
  obtain ⟨u, hu, hempty⟩ := execTwbXfer_flushes haccepts hdead
  have htu : t = u := Host.Outcome.next.inj (he.symm.trans hu)
  rw [htu, hempty] at hqueued
  simp at hqueued

end Sys2Proof.Machine
end

section
/-! Records of gauges, and a gauge's readings (R298, R299, R301, R308, R310, R316). -/

namespace Sys2Proof.Machine

section

variable {β : Type} {p : Prog} {M a n : Nat} {f : Fld} {i j k v : Nat} {w : GaugeRec → β} {r : GaugeRec → GaugeRec} {s : State} {x : β}

theorem Prog.Touches.keepsGauge (h : p.Touches M) (hM : M.testBit 710 = false) : p.Keeps fun s => w (s.gauge n) := fun s =>
  congrArg (fun l => w (Tab.get ({} : GaugeRec) l n)) (h.gauges s hM)

theorem keepsGauge_setR : (setR f v i j k).Keeps fun s => w (s.gauge n) := fun _ => congrArg w (State.wr_gauge ..)

theorem updGauges_gauge : ((updGauges n r).run s).gauge n = r (s.gauge n) := Act.gauges_same ..

/-- What a program left in a gauge's record stands until another one changes it. -/
theorem gauge_after (hp : p.Keeps fun s => w (s.gauge n)) (h : w (s.gauge n) = x) : w ((p.run s).gauge n) = x := (hp s).trans h

end

section

variable {s : State} {sl : Nat}

/-- The average current of a degraded gauge is the phases' mean (R299, R308). -/
theorem execGaugeReportUpdate_degraded (hs : s.stopped = false) (hnow : s.time % 100000 = 0) (hship : s.mode ≠ mShip)
    (hservice : s.mode ≠ mService) (hdegraded : s.flag Reg.GAU_STATUS.DEGRADED sl = true) :
    Does (.gaugeReportUpdate sl) s fun t => t.rd Reg.GAU_CURR.I_AVG sl = toField 18 (sat (-131072) 131071
      (phaseMean ((((s.gauge sl).acc, (s.gauge sl).nsamp, (s.gauge sl).phaseTot, s.time) :: (s.gauge sl).marks).take 11))) := by
  refine does_of_ends hs rfl ?_
  rw [Prog.run_read]
  dsimp only
  rw [if_neg (by simp [hnow, hship, hservice]), seqs_cons_run, if_pos hdegraded]
  refine rd_after (keeps_cons keepsRd_updGauges (keeps_cons keepsRd_updSlots (keeps_cons (keeps_ite keeps_skip ?_) keeps_seqs_nil)))
    (rd_setR rfl (toField_lt _ _))
  refine keeps_cons (keeps_when (emptyAnchor_touch.keepsRd rfl rfl)) (keeps_cons (keeps_when (keepsRd_updR (by decide))) (keeps_cons ?_
    keeps_seqs_nil))
  exact keeps_when (keeps_seq (gaugeDerive_touch.keepsRd rfl rfl) (warnCheck_touch.keepsRd rfl rfl))

/-- A sample adds its code, cut to the converter's range, and counts (R298). -/
theorem execCoulombSample_adds {code : Int} (hs : s.stopped = false) (hservice : s.mode ≠ mService)
    (hon : hasBit (s.rd Reg.PWR_DOM.ON) (26 + sl / 16) = true) : Does (.coulombSample sl code) s fun t =>
      (t.gauge sl).acc = toField 48 ((s.gauge sl).acc + sat (-524288) 524287 code) ∧ (t.gauge sl).nsamp = ((s.gauge sl).nsamp + 1) % 2 ^ 32 := by
  refine does_of_ends hs rfl ?_
  rw [Prog.run_read]
  dsimp only
  rw [if_neg (by simp [hservice, hon]), Prog.run_seq]
  have hover {g : GaugeRec → Nat} : (when (fun _ => decide (code ≥ 524288 ∨ code ≤ -524288))
      (.seq (setR Reg.GAU_STATUS.ACC_OVR 1 sl) (incSat Reg.GAU_CNT.OVR_CNT sl))).Keeps fun u => g (u.gauge sl) :=
    keeps_when (keeps_seq keepsGauge_setR (keeps_read fun _ => keepsGauge_setR))
  exact ⟨gauge_after hover (congrArg GaugeRec.acc updGauges_gauge), gauge_after hover (congrArg GaugeRec.nsamp updGauges_gauge)⟩

/-- A read of the accumulator's low word latches the sample count with it (R298). -/
theorem execGauAccRead_latches (hbar : s.barOn = true) : Does (.gauAccRead sl) s fun t =>
    t.rd Reg.GAU_ACC_LO.ACC_LO sl = (s.gauge sl).acc % 2 ^ 32 ∧ t.rd Reg.GAU_NSAMP.NSAMP sl = (s.gauge sl).nsamp % 2 ^ 32 := by
  refine does_of_always rfl ?_
  rw [when_run, if_pos hbar]
  simp only [seqs_cons_run, seqs_nil_run, updR_run, State.wr_gauge]
  constructor
  · rw [State.rd_wr_ne _ _ _ _ _ _ _ _ _ _ (.inl (by decide)), State.rd_wr_ne _ _ _ _ _ _ _ _ _ _ (.inl (by decide))]
    exact rd_wr_fits rfl (Nat.mod_lt _ (by decide))
  · exact State.rd_wr_same _ _ _ _ _ _ rfl

/-- A trim that is due for the first time, over marks between which samples were taken, notes its time (R301). -/
theorem execAutoZeroTrim_trims {t0 t1 t2 a0 a1 n0 n1 : Nat} {p0 p1 : Int} (hs : s.stopped = false)
    (hzero : s.flag Reg.GAU_CFG.AZERO sl = true) (hsince : (s.gauge sl).zeroSince = some t0) (hlong : t0 + 3000000 ≤ s.time)
    (hfirst : (s.gauge sl).trimAt = none) (hnew : (s.gauge sl).marks.head? = some (a1, n1, p1, t1))
    (hold : (s.gauge sl).marks.getLast? = some (a0, n0, p0, t2)) (hcount : (n1 + 2 ^ 32 - n0) % 2 ^ 32 ≠ 0) :
    Does (.autoZeroTrim sl) s fun t => (t.gauge sl).trimAt = some s.time := by
  refine does_of_ends hs rfl ?_
  simp only [Prog.run_read, hnew, hold, hsince, hfirst]
  rw [if_neg (by simpa [hzero, hlong] using hcount), seqs_cons_run, seqs_cons_run]
  exact gauge_after (keeps_cons (keeps_when (raiseDegraded_touch.keepsGauge rfl)) keeps_seqs_nil) (congrArg GaugeRec.trimAt updGauges_gauge)

/-- The full anchor (R310): the charge is the capacity. -/
theorem fullAnchor_anchors : (((fullAnchor sl).run s).gauge sl).capAtFull = true ∧
    ((fullAnchor sl).run s).rd Reg.GAU_STATUS.ANCHOR sl = 2 ∧
    ((fullAnchor sl).run s).rd Reg.GAU_QREM.Q_REM sl = s.rd Reg.GAU_QFULL.Q_FULL sl % 2 ^ 32 := by
  rw [fullAnchor, seqs_cons_run, seqs_cons_run, seqs_cons_run]
  have hderive {f : Fld} (h : (gaugeDerive sl).Keeps fun u => u.rd f sl) : (seqs [gaugeDerive sl]).Keeps fun u => u.rd f sl :=
    keeps_cons h keeps_seqs_nil
  refine ⟨?_, ?_, ?_⟩
  · exact gauge_after (keeps_cons (gaugeDerive_touch.keepsGauge rfl) keeps_seqs_nil) (congrArg GaugeRec.capAtFull updGauges_gauge)
  · refine rd_after (hderive (gaugeDerive_touch.keepsRd rfl rfl)) (rd_after keepsRd_updGauges ?_)
    rw [takeAnchor, Prog.run_read, seqs_cons_run]
    exact rd_after (keeps_cons (keepsRd_setR (by decide)) (keeps_cons keepsRd_updGauges keeps_seqs_nil)) (rd_setR rfl (by decide))
  · refine rd_after (hderive (gaugeDerive_touch.keepsRd rfl rfl)) (rd_after keepsRd_updGauges (rd_after (takeAnchor_touch.keepsRd rfl rfl) ?_))
    exact State.rd_wr_same _ _ _ _ _ _ rfl

theorem execFullAnchor_anchors {t0 : Nat} (hs : s.stopped = false) (hcv : s.inCv sl = true) (hon : s.gaugeOn sl = true)
    (hnew : (s.gauge sl).capAtFull = false)
    (htop : max (s.rd Reg.SLT_PROF_A.CV_CELL sl) (s.rd Reg.SLT_PACK_B.VCHG_CELL sl) ≤
      min (s.rd Reg.SLT_PROF_A.CV_CELL sl) (s.rd Reg.SLT_PACK_B.VCHG_CELL sl) + 10)
    (hsince : (s.slot sl).belowSince = some t0) (hlong : t0 + 60000000 ≤ s.time) : Does (.fullAnchor sl) s fun t =>
      (t.gauge sl).capAtFull = true ∧ t.rd Reg.GAU_STATUS.ANCHOR sl = 2 ∧
        t.rd Reg.GAU_QREM.Q_REM sl = s.rd Reg.GAU_QFULL.Q_FULL sl % 2 ^ 32 := by
  refine does_of_ends hs rfl ?_
  simp only [Prog.run_read, hsince]
  rw [if_pos (by simp [hcv, hon, hnew, hlong]; omega)]
  exact fullAnchor_anchors

/-- A snapshot, posted or dropped, takes the slot's next SEQ (R316). -/
theorem snapshot_seq {final : Bool} :
    ((snapshot sl final).run s).rd Reg.GAU_SNAP.SEQ sl = (s.rd Reg.GAU_SNAP.SEQ sl + 1) % 2 ^ 32 := by
  rw [snapshot, Prog.run_read, Prog.run_seq]
  have hdrop : (incSat Reg.GAU_CNT.SNAP_DROP sl).Keeps fun u => u.rd Reg.GAU_SNAP.SEQ sl := keepsRd_incSat (by decide)
  refine rd_after ?_ (rd_setR rfl (Nat.mod_lt _ (by decide)))
  split
  · exact hdrop
  · exact keeps_ite hdrop (ringPost_touch.keepsRd rfl rfl)

theorem execGaugeSnapshotTimed_counts (hs : s.stopped = false) (hnow : s.time % 1000000 = 15625 * sl) (hon : s.gaugeOn sl = true)
    (hhalt : s.mode ≠ mHalt) (hservice : s.mode ≠ mService) :
    Does (.gaugeSnapshotTimed sl) s fun t => t.rd Reg.GAU_SNAP.SEQ sl = (s.rd Reg.GAU_SNAP.SEQ sl + 1) % 2 ^ 32 := by
  refine does_of_ends hs rfl ?_
  rw [Prog.run_read, if_pos ⟨hnow, hon, hhalt, hservice⟩]
  exact snapshot_seq

end

end Sys2Proof.Machine
end

section
/-! What a safe state leaves of the cross-checks of current and output voltage (R518, R519): it ends their escalations (R545) and begins none. -/

namespace Sys2Proof.Machine

/-- The cross-checks that keep a referee conversion of their own in waiting (R518, R519). -/
inductive RefereedCheck where
  | current
  | outputVoltage

/-- The escalation of the output-voltage check: the referee in waiting, and the mismatches in a row. -/
def SlotRec.outCheck (x : SlotRec) : Option (Nat × Nat × Nat × Nat) × Nat := (x.outRef, x.xchkRun)

/-- No escalation of a check is under way on a slot. -/
def RefereedCheck.AtRest (n : Nat) (s : State) : RefereedCheck → Prop
  | .current => (s.gauge n).curRef = none
  | .outputVoltage => (s.slot n).outCheck = (none, 0)

/-- A program begins no escalation of a check on a slot. -/
abbrev Prog.BeginsNone (c : RefereedCheck) (n : Nat) (p : Prog) : Prop := p.Leaves fun s => c.AtRest n s

section

variable {c : RefereedCheck} {p : Prog} {M n k lead : Nat}

theorem beginsNone_of_keeps (hg : p.Keeps fun u => (u.gauge n).curRef) (ho : p.Keeps fun u => (u.slot n).outCheck) : p.BeginsNone c n := by
  cases c with
  | current => exact fun s hs => (hg s).trans hs
  | outputVoltage => exact fun s hs => (ho s).trans hs

theorem Prog.Touches.beginsNone (h : p.Touches M) (ho : M.testBit 709 = false) (hg : M.testBit 710 = false) : p.BeginsNone c n :=
  beginsNone_of_keeps (h.keepsGauge hg) (h.keepsSlot ho)

theorem setR_beginsNone {f : Fld} {v i : Nat} : (setR f v i).BeginsNone c n := beginsNone_of_keeps keepsGauge_setR keepsSlot_setR

theorem updSlots_beginsNone_of_imp {r : SlotRec → SlotRec} (h : ∀ x, x.outCheck = (none, 0) → (r x).outCheck = (none, 0)) :
    (updSlots k r).BeginsNone c n := fun s hs => by
  cases c with
  | current => exact hs
  | outputVoltage =>
    by_cases hk : k = n
    · subst hk
      exact (congrArg SlotRec.outCheck updSlots_slot).trans (h _ hs)
    · exact (congrArg SlotRec.outCheck (Act.slots_ne _ _ hk _ _)).trans hs

theorem updSlots_beginsNone {r : SlotRec → SlotRec} (href : ∀ x, (r x).outRef = x.outRef := by exact fun _ => rfl)
    (hrun : ∀ x, (r x).xchkRun = x.xchkRun := by exact fun _ => rfl) : (updSlots k r).BeginsNone c n :=
  updSlots_beginsNone_of_imp fun x hx => (Prod.ext (href x) (hrun x)).trans hx

theorem updGauges_beginsNone {r : GaugeRec → GaugeRec} (h : ∀ x, x.curRef = none → (r x).curRef = none) :
    (updGauges k r).BeginsNone c n := fun s hs => by
  cases c with
  | outputVoltage => exact hs
  | current =>
    by_cases hk : k = n
    · subst hk
      exact (congrArg GaugeRec.curRef updGauges_gauge).trans (h _ hs)
    · exact (congrArg GaugeRec.curRef (Act.gauges_ne _ _ hk _ _)).trans hs

theorem escalationsDrop_beginsNone : (escalationsDrop k).BeginsNone c n := leaves_read fun s => by
  refine leaves_seq (updSlots_beginsNone_of_imp fun _ _ => rfl) (leaves_seq (updGauges_beginsNone fun _ _ => rfl) (leaves_seq ?_ leaves_skip))
  split
  · exact leaves_ite (refereeEnds_touch.beginsNone rfl rfl) leaves_skip
  · exact leaves_skip

theorem packForget_beginsNone : (packForget k).BeginsNone c n := by
  have hshow {p : Nat} : (dacShow p).BeginsNone c n := dacShow_touch.beginsNone rfl rfl
  refine leaves_seqs ?_
  simp [setR_beginsNone, updSlots_beginsNone, hshow, escalationsDrop_beginsNone]

theorem identBegin_beginsNone : (identBegin k).BeginsNone c n := by
  have hqueue {j : TwbJob} : (agentQueue k j).BeginsNone c n :=
    beginsNone_of_keeps (agentQueue_touch.keepsGauge rfl) (agentQueue_keepsSlot fun _ _ _ _ => rfl)
  have hattempt : (identAttempt k).BeginsNone c n :=
    leaves_read fun _ => leaves_seq updSlots_beginsNone (leaves_seq (leaves_ite hqueue leaves_skip) leaves_skip)
  exact leaves_read fun _ => leaves_seq setR_beginsNone <| leaves_seq setR_beginsNone <| leaves_seq setR_beginsNone <|
    leaves_seq updSlots_beginsNone <| leaves_seq (dacShow_touch.beginsNone rfl rfl) <| leaves_seq hattempt leaves_skip

theorem finalSnapshot_beginsNone : (finalSnapshot k).BeginsNone c n := by
  refine leaves_read fun _ => leaves_ite (leaves_seq (snapshot_touch.beginsNone rfl rfl) (leaves_seqs ?_)) leaves_skip
  simp [setR_beginsNone, updGauges_beginsNone]

theorem slotStopped_beginsNone : (slotStopped k).BeginsNone c n := by
  have hdisarm : (fgDisarm k).BeginsNone c n := fgDisarm_touch.beginsNone rfl rfl
  refine leaves_read fun s => leaves_ite (leaves_seq setR_beginsNone (leaves_seq ?idle (leaves_seq ?reason (leaves_seq ?off
    (leaves_seq ?release (leaves_seq ?use (leaves_seq ?again leaves_skip))))))) (leaves_ite setR_beginsNone leaves_skip)
  case idle =>
    exact leaves_ite (leaves_seq setR_beginsNone (leaves_seq setR_beginsNone (leaves_seq updSlots_beginsNone leaves_skip))) leaves_skip
  case reason =>
    split
    · exact leaves_seq updSlots_beginsNone (chargeEnd_touch.beginsNone rfl rfl)
    · exact leaves_skip
  case off =>
    exact leaves_when (leaves_seq finalSnapshot_beginsNone (leaves_seq hdisarm (leaves_seq updSlots_beginsNone leaves_skip)))
  case release =>
    split
    · exact leaves_seq updSlots_beginsNone (keepRequest_touch.beginsNone rfl rfl)
    · exact leaves_skip
  case use => exact leaves_read fun _ => useUpdate_touch.beginsNone rfl rfl
  case again =>
    exact leaves_when (leaves_ite (leaves_seq hdisarm (leaves_seq packForget_beginsNone (leaves_seq identBegin_beginsNone leaves_skip)))
      setR_beginsNone)

theorem parkOutput_beginsNone {stage : Nat} : (parkOutput lead stage).BeginsNone c n :=
  beginsNone_of_keeps (parkOutput_touch.keepsGauge rfl) (parkOutput_keepsSlot fun _ _ => rfl)

theorem leadPark_beginsNone : (leadPark lead).BeginsNone c n :=
  leaves_read fun _ => leaves_seq parkOutput_beginsNone <|
    leaves_seq (leaves_ite (leaves_seq (fgReverse_touch.beginsNone rfl rfl) slotStopped_beginsNone) leaves_skip) <|
    leaves_seq setR_beginsNone leaves_skip

theorem stopSlot_beginsNone {after : Nat} {reason : Option Nat} : (stopSlot k after reason).BeginsNone c n :=
  leaves_read fun _ => leaves_seq updSlots_beginsNone <| leaves_seq setR_beginsNone <| leaves_seq
    (leaves_ite (leaves_read fun _ => leaves_ite (softStopBegin_touch.beginsNone rfl rfl) (leaves_ite leaves_skip leadPark_beginsNone))
      leadPark_beginsNone) leaves_skip

theorem endParts_beginsNone {reason fin : Nat} : (endParts k reason fin).BeginsNone c n := leaves_read fun s => by
  have htransfer {d : Nat} : (transferEnd d reason).BeginsNone c n := transferEnd_touch.beginsNone rfl rfl
  have haudit : (auditEnd k fin false).BeginsNone c n := leaves_read fun _ => leaves_seq setR_beginsNone <|
    leaves_seq (raiseSlot_touch.beginsNone rfl rfl) <| leaves_seq updSlots_beginsNone <| leaves_seq setR_beginsNone <|
    leaves_seq setR_beginsNone leaves_skip
  refine leaves_seq (leaves_when htransfer) (leaves_seq (leaves_when haudit) (leaves_seq ?_ leaves_skip))
  split
  · exact leaves_seq htransfer (leaves_seq stopSlot_beginsNone leaves_skip)
  · exact leaves_skip

theorem slotSafe_beginsNone {cause : Nat} : (slotSafe k cause).BeginsNone c n := by
  have hset {f : Fld} {v i : Nat} : (setR f v i).BeginsNone c n := setR_beginsNone
  have hcount {f : Fld} {i : Nat} : (incSat f i).BeginsNone c n := leaves_read fun _ => hset
  have htold {i : Nat} {d : State → Nat} : (Prog.read fun t => raiseSlot evFaulted i (d t)).BeginsNone c n :=
    leaves_read fun _ => raiseSlot_touch.beginsNone rfl rfl
  refine leaves_read fun s => leaves_ite (leaves_seq parkOutput_beginsNone (leaves_seq hcount (leaves_seq ?later (leaves_seq htold leaves_skip))))
    (leaves_ite parkOutput_beginsNone (leaves_seqs ?_))
  case later => exact leaves_ite (leaves_seq hset hset) leaves_skip
  have hshow {f : Fld} {v : State → Nat} : (updR f v).BeginsNone c n := leaves_read fun _ => hset
  have hrelease : (releaseGoesOn (s.carrier k)).BeginsNone c n :=
    beginsNone_of_keeps (releaseGoesOn_touch.keepsGauge rfl) (releaseGoesOn_keepsSlot fun _ _ => rfl)
  have hdisarm {i : Nat} : (fgDisarm i).BeginsNone c n := fgDisarm_touch.beginsNone rfl rfl
  have hresv {i : Nat} : (resvEnd i).BeginsNone c n := resvEnd_touch.beginsNone rfl rfl
  simp [hset, hcount, htold, hshow, hrelease, hdisarm, hresv, endParts_beginsNone, parkOutput_beginsNone, escalationsDrop_beginsNone,
    updSlots_beginsNone]

theorem slotSafeSub_beginsNone {sub : Nat} : (slotSafeSub k sub).BeginsNone c n := fun s hs => by
  have hisolate : (isolate k).BeginsNone c n := leaves_read fun _ => leaves_each fun _ => updSlots_beginsNone
  rw [slotSafeSub, orderTo_run]
  refine leaves_read (fun u => leaves_seq (leaves_when setR_beginsNone) (leaves_seq slotSafe_beginsNone (leaves_seq hisolate leaves_skip))) _ ?_
  exact leaves_seq (emit_touch.beginsNone rfl rfl) (leaves_seq (emit_touch.beginsNone rfl rfl) leaves_skip) _ hs

/-- The coulomb converter that goes out of service (R302). -/
theorem coulombLost_beginsNone : (coulombLost k).BeginsNone c n :=
  leaves_seq setR_beginsNone <| leaves_seq (updGauges_beginsNone fun _ => id) <| leaves_seq updSlots_beginsNone <|
    leaves_seq (raiseDegraded_touch.beginsNone rfl rfl) leaves_skip

end

end Sys2Proof.Machine
end

section
/-! The cross-checks of a slot's current and output voltage, and their referees (R518, R519, R520). -/

namespace Sys2Proof.Machine

section

variable {s : State} {sl : Nat}

/-- Two means that disagree call the referee (R518). -/
theorem execCurrentXcheck_calls (hs : s.stopped = false) (hgood : s.flag Reg.GAU_STATUS.DEGRADED sl = false) (hodd : s.oddGanged sl = false)
    (hmarks : 11 ≤ (s.gauge sl).marks.length) (hst : s.slSt sl ≠ slFaulted)
    (hbad : curAgree (s.coulMean sl (s.gauge sl).marks) (phaseMean (s.gauge sl).marks) = false) (hnone : (s.gauge sl).curRef = none) :
    Does (.currentXcheck sl) s fun t =>
      (t.gauge sl).curRef = some (s.coulMean sl (s.gauge sl).marks, phaseMean (s.gauge sl).marks, s.time) := by
  refine does_of_ends hs rfl ?_
  rw [Prog.run_read]
  dsimp only
  rw [if_neg (by simp [hgood, hodd, hst, hbad]; omega), updGauges_gauge, hnone]
  rfl

/-- A finding is counted (R518). -/
theorem xchkFail_counts {check sub a b : Nat} :
    ((xchkFail sl check sub a b).run s).rd Reg.SAF_CNT.XCHK_FAIL = min (s.rd Reg.SAF_CNT.XCHK_FAIL + 1) 255 := by
  rw [xchkFail, Prog.run_seq]
  exact rd_after (raisePf_touch.keepsRd rfl rfl) (rd_incSat rfl (by decide) rfl rfl)

/-- The referee of a slot's current ends the escalation and counts it, whichever of the two it finds wrong (R520). -/
theorem execCurrentReferee_finds {c p raw : Int} {t0 : Nat} (hs : s.stopped = false) (href : (s.gauge sl).curRef = some (c, p, t0))
    (hdone : t0 + s.rd Reg.MSR_ICV_CTRL.SETTLE (sl / 4) + s.perT / 10 ≤ s.time) (hlive : s.icvLive (sl / 4) = true) :
    Does (.currentReferee sl raw) s fun t =>
      (t.gauge sl).curRef = none ∧ t.rd Reg.SAF_CNT.XCHK_FAIL = min (s.rd Reg.SAF_CNT.XCHK_FAIL + 1) 255 := by
  refine does_of_ends hs rfl ?_
  simp only [Prog.run_read, href]
  rw [if_neg (by simp [hlive]; omega), seqs_cons_run, seqs_cons_run, seqs_cons_run, seqs_cons_run, seqs_cons_run, seqs_nil_run]
  constructor
  · refine leaves_seq (xchkFail_touch.beginsNone rfl rfl) (leaves_ite coulombLost_beginsNone slotSafeSub_beginsNone) (P := fun u =>
      RefereedCheck.current.AtRest sl u) _ ?_
    exact gauge_after keepsGauge_setR (congrArg GaugeRec.curRef updGauges_gauge)
  · refine rd_after (keeps_ite (coulombLost_touch.keepsRd rfl rfl) (slotSafeSub_touch.keepsRd rfl rfl)) (xchkFail_counts.trans ?_)
    rw [rd_after (keepsRd_setR (by decide)) (rd_after keepsRd_updGauges (abortRunning_touch.keepsRd rfl rfl s))]

/-- The referee of a slot's output voltage ends the escalation (R519): with its FCV out of service, and with a reading that bears out the ICV, the
fast converter, or neither. -/
theorem execOutputVReferee_ends {range fast icv t0 : Nat} {raw : Int} (hs : s.stopped = false)
    (href : (s.slot sl).outRef = some (fast, icv, range, t0)) (hdone : t0 + 100000 ≤ s.time) :
    Does (.outputVReferee sl raw) s fun t => (t.slot sl).outRef = none ∧ (t.slot sl).xchkRun = 0 := by
  refine does_of_ends hs rfl ?_
  refine Prod.ext_iff.1 (show RefereedCheck.outputVoltage.AtRest sl _ from ?_)
  simp only [Prog.run_read, href]
  have hrest (u : State) : RefereedCheck.outputVoltage.AtRest sl ((updSlots sl fun x => { x with outRef := none, xchkRun := 0 }).run u) :=
    congrArg SlotRec.outCheck updSlots_slot
  have hfail {sub a b : Nat} : (xchkFail sl 1 sub a b).BeginsNone .outputVoltage sl := xchkFail_touch.beginsNone rfl rfl
  have hsafe {a b : Nat} : (Prog.seq (xchkFail sl 1 1 a b) (slotSafeSub sl 1)).BeginsNone .outputVoltage sl :=
    leaves_seq hfail slotSafeSub_beginsNone
  split_ifs
  · exact hsafe _ (hrest _)
  · omega
  · exact hsafe _ (setR_beginsNone _ (hrest _))
  · exact leaves_seq hfail (leaves_seq (refereeBegin_touch.beginsNone rfl rfl) leaves_skip) _ (setR_beginsNone _ (hrest _))
  · exact hsafe _ (setR_beginsNone _ (hrest _))

end

/-- Settles O25: each reading by what it writes, each cross-check by the referee that it calls, and each referee by the end of its escalation,
which no safe state begins again. -/
theorem gaugeReadingsAndChecks : Obligations.GaugeReadingsAndChecks := by
  unfold Obligations.GaugeReadingsAndChecks
  constructor
  · intro s sl hs
    exact ⟨execGaugeReportUpdate_degraded hs, fun _ => execCoulombSample_adds hs, execGauAccRead_latches,
      fun _ _ _ _ _ _ _ _ _ => execAutoZeroTrim_trims hs, fun _ => execFullAnchor_anchors hs, execGaugeSnapshotTimed_counts hs⟩
  · intro s sl hs
    exact ⟨execCurrentXcheck_calls hs, fun _ _ _ _ => execCurrentReferee_finds hs, fun _ _ _ _ _ => execOutputVReferee_ends hs⟩

end Sys2Proof.Machine
end

section
/-! NOP, FENCE and a code that the table does not list (R350, R351, R356). -/

namespace Sys2Proof.Machine

section

variable {s : State} {c : Ctl} {f g : FenceRec}

theorem runs_and_takes_of_accepts {o : Op} (h : s.accepts o c = true) : s.stopped = false ∧ s.takes c.fn c.ring = true := by
  simp only [State.accepts, Bool.and_eq_true, Bool.not_eq_true'] at h
  obtain ⟨⟨⟨⟨hs, htakes⟩, -⟩, -⟩, -⟩ := h
  exact ⟨hs, htakes⟩

/-- A NOP that passes every check completes (R351). -/
theorem execNop_completes (h : s.accepts .nop c = true) (hq : c.quiet = false)
    (hcpl : s.ringIs 1 c.fn (s.rd Reg.RING_CTRL.CPL_RING c.fn c.ring) = true) :
    Does (.nop c) s fun t => t.rd Reg.RING_DEV_IDX.DEV_IDX c.fn (s.rd Reg.RING_CTRL.CPL_RING c.fn c.ring) =
      (s.rd Reg.RING_DEV_IDX.DEV_IDX c.fn (s.rd Reg.RING_CTRL.CPL_RING c.fn c.ring) + 1) % 2 ^ 32 := by
  have hpost : CanPost s c.fn c.ring := canPost_of_takes (runs_and_takes_of_accepts h).2 hcpl
  have hpost' : CanPost ((tokenNote c).run s.counted) c.fn c.ring := (sameIssuer_counted.trans sameIssuer_tokenNote).canPost hpost
  exact does_of_accepted rfl h rfl (complete_devIdx hq hpost')

/-- An accepted FENCE is in force (R356). -/
theorem execFence_holds {scope wait token timeout : Nat} (h : s.accepts (.fence scope wait token timeout) c = true) :
    Does (.fence c scope wait token timeout) s fun t => t.host.fences.length = s.host.fences.length + 1 :=
  does_of_accepted rfl h rfl List.length_append

/-! The end of a FENCE (R356). -/

theorem fenceEnd_fences {status result : Nat} : ((fenceEnd f status result).run s).host.fences = s.host.fences.erase f :=
  congrArg HostRec.fences (complete_touch.host _ rfl)

theorem fenceEnd_leaves_released {status result : Nat} : (fenceEnd g status result).Leaves fun u => f ∉ u.host.fences :=
  fun _ h hmem => h (List.mem_of_mem_erase (fenceEnd_fences ▸ hmem))

/-- The oldest FENCE ends, and the programs of the later ones put it in force no more. -/
theorem each_releases {l : List FenceRec} {r : FenceRec → Prog} {status result : Nat} (hf : s.host.fences = f :: l) (hl : f ∉ l)
    (hend : (r f).run s = (fenceEnd f status result).run s) (hrest : ∀ g, (r g).Leaves fun u => f ∉ u.host.fences) :
    f ∉ ((each s.host.fences r).run s).host.fences := by
  rw [hf, each_cons_run, hend]
  refine leaves_each hrest _ ?_
  rw [fenceEnd_fences, hf, List.erase_cons_head]
  exact hl

theorem execFenceRelease_releases {l : List FenceRec} (hs : s.stopped = false) (hf : s.host.fences = f :: l) (hl : f ∉ l)
    (hmet : s.fenceMet f = true) : Does .fenceRelease s fun t => f ∉ t.host.fences := by
  refine does_of_ends hs rfl ?_
  rw [Prog.run_read]
  refine each_releases hf hl (status := stOk) (result := if f.wait = 0 then 0 else s.rd Reg.ALM_TICK.TICK) ?_ fun g =>
    leaves_read fun _ => leaves_ite fenceEnd_leaves_released leaves_skip
  rw [Prog.run_read, if_pos hmet]

theorem execFenceTimeout_releases {l : List FenceRec} {t0 : Nat} (hs : s.stopped = false) (hf : s.host.fences = f :: l) (hl : f ∉ l)
    (huntil : f.until? = some t0) (hpast : t0 ≤ s.time) : Does .fenceTimeout s fun t => f ∉ t.host.fences := by
  refine does_of_ends hs rfl ?_
  rw [Prog.run_read]
  refine each_releases hf hl (status := stErrFenceTmo) (result := 0) ?_ fun g => ?_
  · simp only [huntil, if_pos hpast]
  · split
    · exact leaves_ite fenceEnd_leaves_released leaves_skip
    · exact leaves_skip

/-- A descriptor with a code that the table does not list completes (R351). -/
theorem execUnknownOpcode_completes {code : Nat} (hs : s.stopped = false) (htakes : s.takes c.fn c.ring = true)
    (hfence : s.fenced c.fn c.ring false = false) (hcode : opKnown code = false) (hq : c.quiet = false)
    (hcpl : s.ringIs 1 c.fn (s.rd Reg.RING_CTRL.CPL_RING c.fn c.ring) = true) :
    Does (.unknownOpcode c code) s fun t => t.rd Reg.RING_DEV_IDX.DEV_IDX c.fn (s.rd Reg.RING_CTRL.CPL_RING c.fn c.ring) =
      (s.rd Reg.RING_DEV_IDX.DEV_IDX c.fn (s.rd Reg.RING_CTRL.CPL_RING c.fn c.ring) + 1) % 2 ^ 32 := by
  refine does_of_ends hs rfl ?_
  rw [Prog.run_read, if_pos (by simp [htakes, hfence, hcode])]
  exact complete_devIdx hq (canPost_of_takes htakes hcpl)

end

/-- Settles O34: NOP and the unknown code by their completion, FENCE by the list of those in force, which its end leaves. -/
theorem ringOpcodes : Obligations.RingOpcodes := by
  unfold Obligations.RingOpcodes
  intro s c
  exact ⟨execNop_completes, fun _ _ _ _ => execFence_holds, fun _ _ => execFenceRelease_releases, fun _ _ _ => execFenceTimeout_releases,
    fun _ => execUnknownOpcode_completes⟩

end Sys2Proof.Machine
end

section
/-! What a program leaves of the ring engine's records (R335, R356, R367), and the outcome of a function's write to its own registers (R607, R613). -/

namespace Sys2Proof.Machine

section

variable {β : Type} {p : Prog} {M n q : Nat} {f : Fld} {i j k v : Nat} {w : RingRec → β} {s : State}

theorem Prog.Touches.keepsRing (h : p.Touches M) (hM : M.testBit 703 = false) : p.Keeps fun s => w (s.ringr n) := fun s =>
  congrArg (fun l => w (Tab.get ({} : RingRec) l n)) (h.rings s hM)

theorem Prog.Touches.keepsHost (h : p.Touches M) (hM : M.testBit 704 = false) : p.Keeps State.host := fun s => h.host s hM

theorem keepsRing_setR : (setR f v i j k).Keeps fun s => w (s.ringr n) := fun _ => congrArg w (State.wr_ringr ..)

theorem updRings_ringr {r : RingRec → RingRec} : ((updRings n r).run s).ringr n = r (s.ringr n) := Act.rings_same ..

theorem keepsRing_updRings {r : RingRec → RingRec} (h : ∀ x, w (r x) = w x) : (updRings q r).Keeps fun s => w (s.ringr n) := fun s => by
  by_cases hq : q = n
  · subst hq
    exact (congrArg w updRings_ringr).trans (h _)
  · exact congrArg w (Act.rings_ne _ _ hq _ _)

end

section

variable {c : Instr} {s : State} {P : State → Prop} {fn a : Nat} {bad : State → Nat} {p : Prog}

/-- A write of the PF to a register of its own that takes it. -/
theorem does_of_fnWrites_pf (hbar : s.barOn = true) (hon : s.blockOn a = true) (hok : bad s = 0) (he : exec c s = fnWrites pfFn a bad p s)
    (hp : P (p.run s)) : Does c s P :=
  ⟨p.run s, by rw [he]; simp [fnWrites, endsAlways, hbar, hon, hok], hp⟩

/-- A write of a VF to a register of its own that takes it. -/
theorem does_of_fnWrites_vf (hs : s.stopped = false) (hvf : fn ≠ pfFn) (hup : s.fnUp fn = true) (hd3 : (s.fnr fn).d3hot = false)
    (hon : s.blockOn 0x8000 = true) (hok : bad s = 0) (he : exec c s = fnWrites fn a bad p s) (hp : P (p.run s)) : Does c s P :=
  ⟨p.run s, by rw [he]; simp [fnWrites, endsAlways, hs, hvf, hup, hd3, hon, hok], hp⟩

end

end Sys2Proof.Machine
end

section
/-! Rings, messages and status lines (R338, R343, R345, R364, R371, R373). -/

namespace Sys2Proof.Machine

section

variable {s : State} {fn r : Nat}

/-! Messages and their moderation (R343). -/

/-- A message starts its ring's moderation afresh. -/
theorem ringMessage_modCount : (((ringMessage fn r).run s).ringr (ringKey fn r)).modCount = 0 := by
  rw [ringMessage, Prog.run_read, Prog.run_seq, updRings_ringr]

theorem execMsixModerationTimeout_sends (hs : s.stopped = false) (hen : s.flag Reg.RING_CTRL.EN fn r = true)
    (hcount : (s.ringr (ringKey fn r)).modCount ≠ 0) (hus : s.rd Reg.RING_MOD.MOD_US fn r ≠ 0)
    (hdue : (s.ringr (ringKey fn r)).modSince + s.rd Reg.RING_MOD.MOD_US fn r ≤ s.time) :
    Does (.msixModerationTimeout fn r) s fun t => (t.ringr (ringKey fn r)).modCount = 0 := by
  refine does_of_ends hs rfl ?_
  rw [Prog.run_read, if_pos (by simp [hen, hcount, hus, hdue])]
  exact ringMessage_modCount

/-! The status line (R345). -/

theorem hifDead_of_hifOn (h : s.hifOn = true) : s.hifDead = false := by
  simp only [State.hifOn, Bool.and_eq_true, Bool.not_eq_true'] at h
  exact h.2

theorem writeStatus_writes (hen : s.flag Reg.FN_DB_LO.EN fn = true) (hd3 : (s.fnr fn).d3hot = false) (halive : s.hifDead = false) :
    (((writeStatus fn).run s).fnr fn).statusAt = s.time ∧
      ((writeStatus fn).run s).out = Out.hostWrite fn (s.dbPage fn + 128) (s.statusLine fn) :: s.out := by
  rw [writeStatus, Prog.run_read, if_pos (by simp [hen, hd3, halive]), Prog.run_seq]
  exact ⟨congrArg FnRec.statusAt updFns_fnr, rfl⟩

theorem execStatusLineWrite_writes (hs : s.stopped = false) (hon : s.hifOn = true) (hup : s.fnUp fn = true)
    (hen : s.flag Reg.FN_DB_LO.EN fn = true) (hd3 : (s.fnr fn).d3hot = false) :
    Does (.statusLineWrite fn) s fun t => (t.fnr fn).statusAt = s.time ∧
      t.out = Out.hostWrite fn (s.dbPage fn + 128) (s.statusLine fn) :: s.out := by
  refine does_of_ends hs rfl ?_
  rw [Prog.run_read, if_pos (by simp [hon, hup])]
  exact writeStatus_writes hen hd3 (hifDead_of_hifOn hon)

/-! Events and the time anchor (R359, R361, R364). -/

theorem ringMessage_keepsSeq {k : Nat} : (ringMessage fn r).Keeps fun u => (u.ringr k).seq :=
  keeps_read fun _ => keeps_seq (msixRaise_touch.keepsRing rfl) (keepsRing_updRings fun _ => rfl)

/-- An entry that is written is no event of its own: the count of a ring's events goes on elsewhere. -/
theorem ringPost_keepsSeq {entry : Nat → List Nat} {now : Bool} {k : Nat} : (ringPost fn r entry now).Keeps fun u => (u.ringr k).seq :=
  keeps_read fun _ => keeps_cons (emit_touch.keepsRing rfl) (keeps_cons keepsRing_setR (keeps_cons (emit_touch.keepsRing rfl)
    (keeps_cons (keeps_read fun _ => keeps_ite ringMessage_keepsSeq (keepsRing_updRings fun _ => rfl)) keeps_seqs_nil)))

/-- An event that finds its ring open is counted there. -/
theorem deliver_counts {e : Ev} (hring : s.evtRing fn (evClass e.typ) = some r) (hroom : s.ringHeld fn r < s.ringSize fn r)
    (hd3 : (s.fnr fn).d3hot = false) (hrate : s.rateEmpty fn (evClass e.typ) = false) :
    (((deliver e fn).run s).ringr (ringKey fn r)).seq = ((s.ringr (ringKey fn r)).seq + 1) % 65536 := by
  simp only [deliver, Prog.run_read, hring]
  rw [if_neg (by simp [hrate]), if_neg (by simp [hroom, hd3]), seqs_cons_run, seqs_cons_run, seqs_cons_run, seqs_nil_run, updRings_ringr]
  refine congrArg (fun n => (n + 1) % 65536) ?_
  exact (ringPost_keepsSeq _).trans (takeToken_touch.keepsRing (w := RingRec.seq) rfl s)

theorem execTimeAnchor_counts (hs : s.stopped = false) (hsecond : s.time % 1000000 = 0) (hhalt : s.mode ≠ mHalt) (hservice : s.mode ≠ mService)
    (hlive : (allFns.filter fun f => s.flag Reg.FN_STATUS.LIVE f) = [fn]) (hring : s.evtRing fn (evClass evTimeAnchor) = some r)
    (hroom : s.ringHeld fn r < s.ringSize fn r) (hd3 : (s.fnr fn).d3hot = false) (hrate : s.rateEmpty fn (evClass evTimeAnchor) = false) :
    Does .timeAnchor s fun t => (t.ringr (ringKey fn r)).seq = ((s.ringr (ringKey fn r)).seq + 1) % 65536 := by
  refine does_of_ends hs rfl ?_
  rw [Prog.run_read, if_neg (by simp [hsecond, hhalt, hservice]), hlive, raise, each_cons_run]
  exact deliver_counts hring hroom hd3 hrate

/-! A ring that a failed read stops (R371). -/

theorem ringError_stops {code : Nat} (hcode : code < 16) : ((ringError fn r code).run s).flag Reg.RING_CTRL.EN fn r = false ∧
    ((ringError fn r code).run s).rd Reg.RING_ERRST.ERR_CODE fn r = code := by
  rw [ringError, seqs_cons_run, seqs_cons_run]
  have hrest {f : Fld} (hd : Reg.HIF_CNT.DMA_ERRS.id ≠ f.id) (hr : Reg.HIF_CNT.RING_ERRS.id ≠ f.id) (hraise : raiseMask.testBit f.id = false)
      (l : List Nat) (e : Ev) : (seqs [if code = 2 then incSat Reg.HIF_CNT.DMA_ERRS else incSat Reg.HIF_CNT.RING_ERRS, raise e l]).Keeps
        fun u => u.rd f fn r :=
    keeps_cons (keeps_ite (keepsRd_incSat hd) (keepsRd_incSat hr)) (keeps_cons (raise_touch.keepsRd hraise rfl) keeps_seqs_nil)
  constructor
  · exact flag_of_rd (rd_after (hrest (by decide) (by decide) rfl _ _) (rd_after (keepsRd_setR (by decide)) (rd_setR rfl (by decide))))
  · exact rd_after (hrest (by decide) (by decide) rfl _ _) (rd_setR rfl hcode)

theorem execHostReadError_stops {poisoned : Bool} (hs : s.stopped = false) (hon : s.hifOn = true)
    (hen : s.flag Reg.RING_CTRL.EN fn r = true) : Does (.hostReadError fn r poisoned) s fun t =>
      t.flag Reg.RING_CTRL.EN fn r = false ∧ t.rd Reg.RING_ERRST.ERR_CODE fn r = 2 := by
  refine does_of_ends hs rfl ?_
  rw [Prog.run_read, if_pos (by simp [hon, hen]), Prog.run_seq]
  exact ringError_stops (by decide)

/-! What a function writes to its own registers (R338, R373). -/

/-- What follows a write of DB_LO, as a mask (Laws/Touch.lean). -/
def dbLoFollowsMask : Nat := 0x2cc0000000000000008000000000000000000000000000000000000000000000000000000000000000000490001200030e00000000000000000000000080000008000000000000000000000000000000000000000000000000

theorem dbLoFollows_touch {c : Prop} [Decidable c] :
    (seqs [armUpdate fn, if c then pfCounts else .skip, pollReport, writeStatus fn]).Touches dbLoFollowsMask :=
  touch_seqs_cons (armUpdate_touch.mono rfl) (touch_seqs_cons (touch_ite (pfCounts_touch.mono rfl) touch_skip)
    (touch_seqs_cons (pollReport_touch.mono rfl) (touch_seqs_cons (writeStatus_touch.mono rfl) touch_seqs_nil)))

theorem dbLoWrite_sets {v : Nat} : ((dbLoWrite fn v).run s).rd Reg.FN_DB_LO.ADDR_LO fn = v / 2 ^ 12 % 2 ^ 20 ∧
    ((dbLoWrite fn v).run s).rd Reg.FN_DB_LO.EN fn = v % 2 := by
  rw [dbLoWrite, seqs_cons_run, seqs_cons_run]
  constructor
  · exact rd_after (dbLoFollows_touch.keepsRd rfl rfl) (rd_after (keepsRd_setR (by decide)) (rd_setR rfl (Nat.mod_lt _ (by decide))))
  · exact rd_after (dbLoFollows_touch.keepsRd rfl rfl) (rd_setR rfl (Nat.mod_lt _ (by decide)))

/-- What pfOwed touches, as a mask (Laws/Touch.lean). -/
def pfOwedMask : Nat := 0x1000104c0000000000000008000000000000000000000000000000000000000000000000000000000000000000010001200000000000000000000000000000000000000000000000000000000000000000000000000000000000000

/-- What enables a ring starts its indices and its moderation (R338), and no field of RING_CTRL. -/
theorem ringStart_keepsRd {f : Fld} {c : Prop} [Decidable c] (hdev : Reg.RING_DEV_IDX.DEV_IDX.id ≠ f.id)
    (hhost : Reg.RING_HOST_IDX.HOST_IDX.id ≠ f.id) :
    (if c then seqs [setR Reg.RING_DEV_IDX.DEV_IDX 0 fn r, setR Reg.RING_HOST_IDX.HOST_IDX 0 fn r,
      updRings (ringKey fn r) fun x => { x with modCount := 0 }] else .skip).Keeps fun u => u.rd f fn r :=
  keeps_ite (keeps_cons (keepsRd_setR hdev) (keeps_cons (keepsRd_setR hhost) (keeps_cons (fun _ => rfl) keeps_seqs_nil))) keeps_skip

theorem ringCtrlWrite_sets {v : Nat} : ((ringCtrlWrite fn r v).run s).rd Reg.RING_CTRL.EN fn r = v / 2 ^ 31 % 2 ∧
    ((ringCtrlWrite fn r v).run s).rd Reg.RING_CTRL.TYPE fn r = v / 2 ^ 29 % 4 ∧
    ((ringCtrlWrite fn r v).run s).rd Reg.RING_CTRL.LOG2 fn r = v / 2 ^ 24 % 32 := by
  have howed {f : Fld} (hf : pfOwedMask.testBit f.id = false) : (if fn = pfFn then pfOwed else .skip).Keeps fun u => u.rd f fn r :=
    keeps_ite (pfOwed_touch.keepsRd hf rfl) keeps_skip
  rw [ringCtrlWrite, Prog.run_read]
  refine ⟨?_, ?_, ?_⟩
  · iterate 7 rw [seqs_cons_run]
    exact rd_after (keeps_cons (howed rfl) keeps_seqs_nil) (rd_setR rfl (Nat.mod_lt _ (by decide)))
  · rw [seqs_cons_run]
    refine rd_after (keeps_seqs ?_) (rd_setR rfl (Nat.mod_lt _ (by decide)))
    simp (disch := decide) [keepsRd_setR, ringStart_keepsRd, howed]
  · rw [seqs_cons_run, seqs_cons_run]
    refine rd_after (keeps_seqs ?_) (rd_setR rfl (Nat.mod_lt _ (by decide)))
    simp (disch := decide) [keepsRd_setR, ringStart_keepsRd, howed]

end

/-- Settles O29: the message and the anchor by what they leave of the ring's record, the status line by what goes out, each write and the failed
read by the fields that they set. -/
theorem hostRings : Obligations.HostRings := by
  unfold Obligations.HostRings
  intro s hs
  refine ⟨fun _ _ => execMsixModerationTimeout_sends hs, fun _ => execStatusLineWrite_writes hs, fun _ _ => execTimeAnchor_counts hs,
    fun _ _ _ => execHostReadError_stops hs, fun _ hbar hon hok => does_of_fnWrites_pf hbar hon hok rfl dbLoWrite_sets,
    fun _ _ hvf hup hd3 hon hok => does_of_fnWrites_vf hs hvf hup hd3 hon hok rfl dbLoWrite_sets, fun _ _ hbar hon hok => ?_,
    fun _ _ _ hvf hup hd3 hon hok => ?_⟩
  · obtain ⟨hen, htype, -⟩ := ringCtrlWrite_sets
    exact does_of_fnWrites_pf hbar hon hok rfl ⟨hen, htype⟩
  · obtain ⟨hen, -, hlog2⟩ := ringCtrlWrite_sets
    exact does_of_fnWrites_vf hs hvf hup hd3 hon hok rfl ⟨hen, hlog2⟩

end Sys2Proof.Machine
end

section
/-! Resets of the host side (R365 to R369): what they leave of the register file, and the functions that they hold. -/

namespace Sys2Proof.Machine

section

variable {s : State} {f : Fld} {i j k fn n b : Nat} {fns : List Nat} {cause : Nat} {tell : Bool} {p : Nat → Bool} {classes : List Keep}
  {kp : Nat → Bool}

/-! Fields that a reset of classes clears (R5). -/

theorem Tab.get_filter_none {β : Type} (d : β) {q : Nat × β → Bool} {k : Nat} (hq : ∀ v, q (k, v) = false) (t : List (Nat × β)) :
    Tab.get d (t.filter q) k = d := by
  induction t with
  | nil => rfl
  | cons e t ih =>
    obtain ⟨k', v⟩ := e
    by_cases hk : k' = k
    · subst hk
      simpa [List.filter_cons, hq] using ih
    · rw [List.filter_cons]
      split
      · simpa [Tab.get, hk] using ih
      · exact ih

/-- A field of a class that is cleared, of a cell that is not spared, returns to its reset value. -/
theorem rd_cleared (hf : f ∈ fieldTable) (hhard : f.hard = false) (hc : classes.contains f.keep = true) (hkp : kp (f.key i j k) = false) :
    ((Act.clear classes kp).apply s).rd f i j k = f.resetAt i j := by
  have hkey : fieldTable[(Nat.unpair (f.key i j k)).1]? = some f := by
    rw [Fld.key, Nat.unpair_pair]
    exact fieldTable_id hf
  simp only [State.rd, Act.apply, clearedCells, hhard, Bool.false_eq_true, if_false]
  exact Tab.get_filter_none _ (fun v => by simp only [hkey, hc, hkp, Bool.not_true, Bool.or_self]) _

theorem keepsRd_clear (hf : f ∈ fieldTable) (hc : classes.contains f.keep = false) :
    (Prog.act (.clear classes kp)).Keeps fun u => u.rd f i j k := fun u => rd_clear hf hc kp u i j k

/-! A reset of the host side (R365 to R367). -/

/-- What a reset of the host side touches, but for the fields of class F that it clears, as a mask (Laws/Touch.lean). -/
def hostResetMask : Nat := 0x1058c25c0000000000000008000000000000000000000000000000000000000000000200800000800000018000010001200030000000000000000000001000080000008000000000000000000000000000000000000000000000000

theorem clearFns_keepsRd (hf : f ∈ fieldTable) (hc : f.keep ≠ .f) : (clearFns p).Keeps fun u => u.rd f i j k :=
  keeps_read fun _ => keeps_cons (keepsRd_clear hf (by simpa using hc)) (keeps_cons (fun _ => rfl) (keeps_cons (fun _ => rfl) keeps_seqs_nil))

theorem hostReset_keepsRd (hf : f ∈ fieldTable) (hc : f.keep ≠ .f) (hm : hostResetMask.testBit f.id = false) :
    (hostReset fns cause tell).Keeps fun u => u.rd f i j k :=
  have hwork {q : Nat → Bool} : (discardWork q).Touches hostResetMask := discardWork_touch.mono rfl
  have hhold {g : Nat} : (holdFn tell g cause).Touches hostResetMask := holdFn_touch.mono rfl
  keeps_cons (hwork.keepsRd hm rfl) (keeps_cons (clearFns_keepsRd hf hc) (keeps_cons (keeps_each fun _ => hhold.keepsRd hm rfl) keeps_seqs_nil))

/-! VF Enable (R367) is no work that a reset discards. -/

theorem finishRun_keepsVfEnable {c : Ctl} {status result detail : Nat} :
    (finishRun c status result detail).Keeps fun u => u.host.vfEnable := by
  refine keeps_read fun s => ?_
  split
  · exact keeps_cons (fun _ => rfl) (keeps_cons (keeps_ite ((histAdd_touch.keepsHost rfl).view _) keeps_skip)
      (keeps_cons (fun _ => rfl) (keeps_cons ((complete_touch.keepsHost rfl).view _) keeps_seqs_nil)))
  · exact keeps_skip

theorem hostDone_keepsVfEnable {job : TwbJob} {status result detail : Nat} :
    (hostDone b job status result detail).Keeps fun u => u.host.vfEnable := by
  refine keeps_seq (fun _ => congrArg HostRec.vfEnable (State.wr_host ..)) ?_
  split
  · exact finishRun_keepsVfEnable
  · exact keeps_skip

theorem busCancel_keepsVfEnable {q : TwbJob → Bool} : (busCancel b q).Keeps fun u => u.host.vfEnable :=
  keeps_read fun _ => keeps_cons (fun _ => rfl) (keeps_cons ((hostqUpdate_touch.keepsHost rfl).view _)
    (keeps_cons (keeps_each fun _ => keeps_ite hostDone_keepsVfEnable keeps_skip) keeps_seqs_nil))

theorem discardWork_keepsVfEnable : (discardWork p).Keeps fun u => u.host.vfEnable :=
  have hset {g : Fld} {v : Nat} : (setR g v).Keeps fun u => u.host.vfEnable := fun _ => congrArg HostRec.vfEnable (State.wr_host ..)
  keeps_read fun _ => keeps_cons (fun _ => rfl) (keeps_cons (keeps_each fun _ => busCancel_keepsVfEnable)
    (keeps_cons ((measDiscard_touch.keepsHost rfl).view _) (keeps_cons (fun _ => rfl)
    (keeps_cons (keeps_ite (keeps_cons hset (keeps_cons hset (keeps_cons (fun _ => rfl) keeps_seqs_nil))) keeps_skip) keeps_seqs_nil))))

theorem hostReset_keepsVfEnable : (hostReset fns cause tell).Keeps fun u => u.host.vfEnable :=
  keeps_cons discardWork_keepsVfEnable (keeps_cons ((clearFns_touch.keepsHost rfl).view _)
    (keeps_cons (keeps_each fun _ => (holdFn_touch.keepsHost rfl).view _) keeps_seqs_nil))

/-! Holds (R227). -/

/-- A function is held, and not live. -/
structure Held (fn : Nat) (s : State) : Prop where
  held : s.flag Reg.FN_STATUS.HELD fn = true
  dead : s.flag Reg.FN_STATUS.LIVE fn = false

theorem leavesHeld_of_keeps {q : Prog} (hheld : q.Keeps fun u => u.rd Reg.FN_STATUS.HELD fn) (hlive : q.Keeps fun u => u.rd Reg.FN_STATUS.LIVE fn) :
    q.Leaves (Held fn) := fun _ h => ⟨(flag_of_keeps hheld).trans h.held, (flag_of_keeps hlive).trans h.dead⟩

theorem Prog.Touches.leavesHeld {q : Prog} {M : Nat} (h : q.Touches M) (hheld : M.testBit Reg.FN_STATUS.HELD.id = false)
    (hlive : M.testBit Reg.FN_STATUS.LIVE.id = false) (hclear : M.testBit 700 = false) : q.Leaves (Held fn) :=
  leavesHeld_of_keeps (h.keepsRd hheld hclear) (h.keepsRd hlive hclear)

/-- What a hold brings beside the state of its function (R227, R228). -/
def holdFollows (tell : Bool) (fn cause : Nat) (s : State) : Prog := seqs [
  unacceptedDrop fn, setR Reg.ALM_STATUS.HELD_FN (s.rd Reg.ALM_STATUS.HELD_FN + 1),
  each (s.ownedBy fn) fun sl => .seq (setR Reg.ALM_SLOT_A.HELD 1 sl)
    (updSlots sl fun x => { x with holdRef := some (s.refI (s.slotLead sl)).natAbs }),
  holderHeld fn, if tell then raisePf evHoldOn (srcFn fn) (dat 16 1 cause) else .skip]

def holdFollowsMask : Nat := 0x24c0000000000000008000000000000000000000000000000000000000000000000000000800000000000010001200000000000000000000000000000080000008000000000000000000000000000000000000000000000000

theorem holdFollows_touch : (holdFollows tell fn cause s).Touches holdFollowsMask :=
  touch_seqs_cons (unacceptedDrop_touch.mono rfl) (touch_seqs_cons (touch_setR rfl)
    (touch_seqs_cons (touch_each fun _ => touch_seq (touch_setR rfl) (touch_updSlots rfl))
    (touch_seqs_cons (holderHeld_touch.mono rfl) (touch_seqs_cons (touch_ite (raisePf_touch.mono rfl) touch_skip) touch_seqs_nil))))

theorem holdFn_eq : holdFn tell fn cause = .read fun s =>
    .seq (.seq (setR Reg.FN_STATUS.LIVE 0 fn) (updFns fn fun x => { x with holdCause := cause }))
      (if s.flag Reg.FN_STATUS.HELD fn then .skip else .seq (setR Reg.FN_STATUS.HELD 1 fn) (holdFollows tell fn cause s)) := rfl

theorem holdFn_holds : Held fn ((holdFn tell fn cause).run s) := by
  have hfollows : (holdFollows tell fn cause s).Leaves (Held fn) := holdFollows_touch.leavesHeld rfl rfl rfl
  rw [holdFn_eq, Prog.run_read, Prog.run_seq]
  generalize hu : (Prog.seq (setR Reg.FN_STATUS.LIVE 0 fn) (updFns fn fun x => { x with holdCause := cause })).run s = u
  have hlive : u.flag Reg.FN_STATUS.LIVE fn = false := by
    rw [← hu]
    exact flag_of_rd (rd_setR rfl (by decide) : ((setR Reg.FN_STATUS.LIVE 0 fn).run s).rd Reg.FN_STATUS.LIVE fn = 0)
  have hheld : u.flag Reg.FN_STATUS.HELD fn = s.flag Reg.FN_STATUS.HELD fn := by
    rw [← hu]
    exact flag_of_keeps (keepsRd_setR (by decide))
  split
  · exact ⟨hheld.trans ‹_›, hlive⟩
  · exact hfollows _ ⟨flag_of_rd (rd_setR rfl (by decide)), (flag_of_keeps (keepsRd_setR (by decide))).trans hlive⟩

theorem holdFn_leavesHeld : (holdFn tell n cause).Leaves (Held fn) := fun u h => by
  by_cases hn : n = fn
  · rw [hn]
    exact holdFn_holds
  · have hother {g : Fld} {v : Nat} : (setR g v n).Keeps fun u => u.rd g fn := fun _ => State.rd_wr_ne _ _ _ _ _ _ _ _ _ _ (.inr (.inl (Ne.symm hn)))
    rw [holdFn_eq]
    refine leaves_read (fun s => leaves_seq (leaves_seq (leavesHeld_of_keeps (keepsRd_setR (by decide)) hother)
      (leavesHeld_of_keeps (fun _ => rfl) fun _ => rfl)) (leaves_ite leaves_skip (leaves_seq
      (leavesHeld_of_keeps hother (keepsRd_setR (by decide))) (holdFollows_touch.leavesHeld rfl rfl rfl)))) u h

theorem clearFns_leavesHeld : (clearFns p).Leaves (Held fn) :=
  leavesHeld_of_keeps (clearFns_keepsRd (by decide +kernel) (by decide)) (clearFns_keepsRd (by decide +kernel) (by decide))

/-- A reset holds the functions that it covers. -/
theorem hostReset_holds (h : fn ∈ fns) : Held fn ((hostReset fns cause tell).run s) := by
  rw [hostReset, seqs_cons_run, seqs_cons_run, seqs_cons_run, seqs_nil_run]
  exact each_brings (I := fun _ => True) (r := fun n => holdFn tell n cause) (fun _ _ _ => trivial) (fun _ _ => holdFn_holds)
    (fun _ u _ _ hu => holdFn_leavesHeld u hu) h trivial

theorem hostReset_leavesHeld : (hostReset fns cause tell).Leaves (Held fn) :=
  leaves_seq (discardWork_touch.leavesHeld rfl rfl rfl) (leaves_seq clearFns_leavesHeld
    (leaves_seq (leaves_each fun _ => holdFn_leavesHeld) leaves_skip))

/-! PERST (R365) and the loss of the VFs (R367). -/

/-- PERST is recorded, the link is down, and VF Enable is clear. -/
theorem perst_resets : (perst.run s).rd Reg.GLB_RESET_CAUSE.PERST = 1 ∧ (perst.run s).rd Reg.HIF_LINK.SPEED = 0 ∧
    (perst.run s).host.vfEnable = false := by
  rw [perst, seqs_cons_run, seqs_cons_run]
  refine ⟨?_, ?_, ?_⟩
  · refine rd_after (keeps_cons (fun _ => rfl) (keeps_cons (fun _ => rfl) (keeps_cons (hostReset_keepsRd (by decide +kernel) (by decide) rfl)
      keeps_seqs_nil))) ?_
    exact rd_after (keepsRd_clear (by decide +kernel) rfl) (rd_setR rfl (by decide))
  · refine rd_after (keeps_cons (fun _ => rfl) (keeps_cons (fun _ => rfl) (keeps_cons (hostReset_keepsRd (by decide +kernel) (by decide) rfl)
      keeps_seqs_nil))) ?_
    exact rd_cleared (by decide +kernel) rfl rfl (by decide +kernel)
  · rw [seqs_cons_run, seqs_cons_run, seqs_cons_run, seqs_nil_run]
    exact (hostReset_keepsVfEnable _).trans rfl

theorem vfsOff_vfEnable : (vfsOff.run s).host.vfEnable = false := by
  rw [vfsOff, Prog.run_seq]
  exact (hostReset_keepsVfEnable _).trans rfl

theorem vfsOff_leavesHeld : vfsOff.Leaves (Held fn) :=
  leaves_seq (leavesHeld_of_keeps (fun _ => rfl) fun _ => rfl) hostReset_leavesHeld

theorem vfsOff_keepsRd (hf : f ∈ fieldTable) (hc : f.keep ≠ .f) (hm : hostResetMask.testBit f.id = false) : vfsOff.Keeps fun u => u.rd f i j k :=
  keeps_seq (fun _ => rfl) (hostReset_keepsRd hf hc hm)

end

end Sys2Proof.Machine
end

section
/-! The host link, its resets and D3hot (R332, R365 to R368). -/

namespace Sys2Proof.Machine

section

variable {s : State} {fn vf width speed faulty w l : Nat}

/-! The link (R332). -/

/-- The link trains at what both ends support. -/
theorem execLinkUp_trains (hs : s.stopped = false) (hship : s.mode ≠ mShip) (hservice : s.mode ≠ mService)
    (hdown : s.rd Reg.HIF_LINK.SPEED = 0) (hspeed : 1 ≤ speed) :
    Does (.linkUp width speed) s fun t => t.rd Reg.HIF_LINK.SPEED = min speed 3 ∧
      t.rd Reg.HIF_LINK.WIDTH = if 4 ≤ width then 4 else if 2 ≤ width then 2 else 1 := by
  have hwidth : (if 4 ≤ width then 4 else if 2 ≤ width then 2 else 1) < 2 ^ min Reg.HIF_LINK.WIDTH.w 32 := by
    split_ifs <;> decide
  have hfits : min speed 3 < 2 ^ min Reg.HIF_LINK.SPEED.w 32 := (Nat.min_le_right _ _).trans_lt (by decide)
  refine does_of_ends hs rfl ?_
  rw [Prog.run_read]
  dsimp only
  rw [if_neg (by simp [hship, hservice, hdown, Nat.one_le_iff_ne_zero.1 hspeed]), seqs_cons_run, seqs_cons_run, seqs_cons_run]
  constructor
  · rw [seqs_cons_run]
    exact rd_after (keeps_cons (keepsRd_healthSet (by decide) rfl) keeps_seqs_nil) (rd_setR rfl hfits)
  · exact rd_after (keeps_cons (keepsRd_setR (by decide)) (keeps_cons (keepsRd_healthSet (by decide) rfl) keeps_seqs_nil)) (rd_setR rfl hwidth)

/-- The link goes on with what is left of it: its faulty lanes, its width and its speed. -/
def relink (faulty w speed : Nat) : Prog := seqs [
  setR Reg.HIF_LINK.LANE_FAULT faulty, setR Reg.HIF_LINK.WIDTH w, setR Reg.HIF_LINK.SPEED speed, incSat Reg.HIF_LINK.RETRAINS,
  healthSet Reg.GLB_HEALTH.PCIE_NARROW fun _ => 1, pollReport]

theorem relink_laneFault (h : faulty < 16) : ((relink faulty w speed).run s).rd Reg.HIF_LINK.LANE_FAULT = faulty := by
  rw [relink, seqs_cons_run]
  refine rd_after (keeps_seqs ?_) (rd_setR rfl h)
  simp (disch := decide) [keepsRd_setR, keepsRd_incSat, keepsRd_healthSet, pollReport_touch.keepsRd]

theorem relink_width (h : w < 16) : ((relink faulty w speed).run s).rd Reg.HIF_LINK.WIDTH = w := by
  rw [relink, seqs_cons_run, seqs_cons_run]
  refine rd_after (keeps_seqs ?_) (rd_setR rfl h)
  simp (disch := decide) [keepsRd_setR, keepsRd_incSat, keepsRd_healthSet, pollReport_touch.keepsRd]

theorem relink_speed (h : speed < 16) : ((relink faulty w speed).run s).rd Reg.HIF_LINK.SPEED = speed := by
  rw [relink, seqs_cons_run, seqs_cons_run, seqs_cons_run]
  refine rd_after (keeps_seqs ?_) (rd_setR rfl h)
  simp (disch := decide) [keepsRd_incSat, keepsRd_healthSet, pollReport_touch.keepsRd]

theorem relink_narrow : ((relink faulty w speed).run s).rd Reg.GLB_HEALTH.PCIE_NARROW = 1 := by
  rw [relink, seqs_cons_run, seqs_cons_run, seqs_cons_run, seqs_cons_run, seqs_cons_run]
  exact rd_after (keeps_cons (pollReport_touch.keepsRd rfl rfl) keeps_seqs_nil) (healthSet_rd rfl (by decide) rfl)

theorem narrowed_le (h : width ≤ 4) : narrowed width faulty ≤ 4 := by
  unfold narrowed
  dsimp only
  split_ifs <;> omega

/-- A lane fails, and the link goes on with the lanes that are left. -/
theorem execPcieLaneFault_narrows (hs : s.stopped = false) (hl : l < 4) (hup : s.rd Reg.HIF_LINK.SPEED ≠ 0)
    (hfaults : s.rd Reg.HIF_LINK.LANE_FAULT < 16)
    (hleft : narrowed (s.rd Reg.HIF_LINK.WIDTH) (setBit (s.rd Reg.HIF_LINK.LANE_FAULT) l) ≠ 0) (hwidth : s.rd Reg.HIF_LINK.WIDTH ≤ 4) :
    Does (.pcieLaneFault (some l)) s fun t => t.rd Reg.HIF_LINK.LANE_FAULT = setBit (s.rd Reg.HIF_LINK.LANE_FAULT) l ∧
      t.rd Reg.HIF_LINK.WIDTH = narrowed (s.rd Reg.HIF_LINK.WIDTH) (setBit (s.rd Reg.HIF_LINK.LANE_FAULT) l) ∧
      t.rd Reg.GLB_HEALTH.PCIE_NARROW = 1 := by
  refine does_of_ends hs rfl ?_
  rw [Prog.run_read]
  dsimp only
  rw [if_neg hup, if_pos hl, if_neg hleft]
  exact ⟨relink_laneFault (setBit_lt (n := 4) hfaults hl), relink_width ((narrowed_le hwidth).trans_lt (by decide)), relink_narrow⟩

/-- Equalization fails twice in a row, and the link goes on at the next lower speed. -/
theorem execPcieLaneFault_slows (hs : s.stopped = false) (hup : s.rd Reg.HIF_LINK.SPEED ≠ 0) (hspeed : s.rd Reg.HIF_LINK.SPEED ≤ 3)
    (hleft : narrowed (s.rd Reg.HIF_LINK.WIDTH) (s.rd Reg.HIF_LINK.LANE_FAULT) ≠ 0) :
    Does (.pcieLaneFault none) s fun t => t.rd Reg.HIF_LINK.SPEED = max (s.rd Reg.HIF_LINK.SPEED - 1) 1 := by
  refine does_of_ends hs rfl ?_
  rw [Prog.run_read]
  dsimp only
  rw [if_neg hup, if_neg hleft]
  exact relink_speed (by simp only [Option.isNone_none, if_true]; omega)

/-! Resets (R365 to R367). -/

theorem execPerst_resets (hfrozen : s.flag Reg.SVC_STATUS.FROZEN = false) (hship : s.modeReg ≠ mShip) :
    Does .perst s fun t => t.rd Reg.GLB_RESET_CAUSE.PERST = 1 ∧ t.rd Reg.HIF_LINK.SPEED = 0 ∧ t.host.vfEnable = false :=
  does_of_latching hfrozen hship rfl perst_resets

/-- A function is reset by its FLR: the cause shows it, and it is held. -/
theorem flr_holds (hfn : fn < 2048) {cause : Nat} {rest : Prog} (hflr : rest.Keeps fun u => u.rd Reg.GLB_RESET_CAUSE.FLR)
    (hinfo : rest.Keeps fun u => u.rd Reg.GLB_RESET_INFO.FLR_FN) (hheld : rest.Leaves (Held fn)) :
    let t := (seqs [setR Reg.GLB_RESET_CAUSE.FLR 1, setR Reg.GLB_RESET_INFO.FLR_FN fn, hostReset [fn] cause true, rest]).run s
    t.rd Reg.GLB_RESET_CAUSE.FLR = 1 ∧ t.rd Reg.GLB_RESET_INFO.FLR_FN = fn ∧ Held fn t := by
  rw [seqs_cons_run, seqs_cons_run, seqs_cons_run, seqs_cons_run, seqs_nil_run]
  refine ⟨?_, ?_, ?_⟩
  · exact rd_after hflr (rd_after (hostReset_keepsRd (by decide +kernel) (by decide) rfl)
      (rd_after (keepsRd_setR (by decide)) (rd_setR rfl (by decide))))
  · exact rd_after hinfo (rd_after (hostReset_keepsRd (by decide +kernel) (by decide) rfl) (rd_setR rfl hfn))
  · exact hheld _ (hostReset_holds (List.mem_singleton_self fn))

theorem execFlr_holds (hs : s.stopped = false) (hup : s.fnUp vf = true) (hvf : vf < 1024) :
    Does (.flr vf) s fun t => t.rd Reg.GLB_RESET_CAUSE.FLR = 1 ∧ t.rd Reg.GLB_RESET_INFO.FLR_FN = vf ∧
      t.flag Reg.FN_STATUS.HELD vf = true ∧ t.flag Reg.FN_STATUS.LIVE vf = false := by
  have hpf : vf ≠ pfFn := hvf.ne
  refine does_of_ends hs rfl ?_
  rw [Prog.run_read, if_neg (by simp [hup, hpf])]
  obtain ⟨hflr, hinfo, hheld⟩ := flr_holds (s := s) (cause := 1) (hvf.trans (by decide)) (pollReport_touch.keepsRd rfl rfl)
    (pollReport_touch.keepsRd rfl rfl) (pollReport_touch.leavesHeld rfl rfl rfl)
  exact ⟨hflr, hinfo, hheld.held, hheld.dead⟩

theorem execPfFlr_holds (hs : s.stopped = false) (hship : s.mode ≠ mShip) (hservice : s.mode ≠ mService) :
    Does .pfFlr s fun t => t.rd Reg.GLB_RESET_CAUSE.FLR = 1 ∧ t.rd Reg.GLB_RESET_INFO.FLR_FN = pfFn ∧ t.host.vfEnable = false ∧
      t.flag Reg.FN_STATUS.HELD pfFn = true := by
  refine does_of_ends hs rfl ?_
  rw [Prog.run_read, if_neg (by simp [hship, hservice])]
  obtain ⟨hflr, hinfo, hheld⟩ := flr_holds (s := s) (fn := pfFn) (cause := 1) (by decide) (vfsOff_keepsRd (by decide +kernel) (by decide) rfl)
    (vfsOff_keepsRd (by decide +kernel) (by decide) rfl) vfsOff_leavesHeld
  refine ⟨hflr, hinfo, ?_, hheld.held⟩
  rw [seqs_cons_run, seqs_cons_run, seqs_cons_run, seqs_cons_run, seqs_nil_run]
  exact vfsOff_vfEnable

theorem execVfEnableWrite_sets {en : Bool} (hs : s.stopped = false) (hship : s.mode ≠ mShip) (hservice : s.mode ≠ mService) :
    Does (.vfEnableWrite en) s fun t => t.host.vfEnable = en := by
  refine does_of_ends hs rfl ?_
  rw [Prog.run_read, if_neg (by simp [hship, hservice])]
  cases en with
  | true => rfl
  | false =>
    rw [if_neg (by decide)]
    split
    · exact vfsOff_vfEnable
    · rename_i hclear
      exact Bool.eq_false_iff.2 hclear

/-! D3hot (R368). -/

theorem execD3hotEntry_enters (hs : s.stopped = false) (hup : s.fnUp fn = true) : Does (.d3hotEntry fn) s fun t => (t.fnr fn).d3hot = true := by
  refine does_of_ends hs rfl ?_
  rw [Prog.run_read, if_pos hup, updFns_fnr]

theorem execD3hotExit_leaves (hs : s.stopped = false) (hd3 : (s.fnr fn).d3hot = true) : Does (.d3hotExit fn) s fun t => (t.fnr fn).d3hot = false := by
  refine does_of_ends hs rfl ?_
  rw [Prog.run_read, if_pos hd3, seqs_cons_run]
  refine view_after (g := fun u => (u.fnr fn).d3hot) (keeps_cons (keeps_each fun _ => ringPost_touch.keepsFn rfl)
    (keeps_cons (writeStatus_keepsFn fun _ _ _ _ _ _ => rfl) keeps_seqs_nil)) ?_
  rw [updFns_fnr]

end

/-- Settles O27: the link by what it goes on with, each reset by its cause and by the functions that it holds, D3hot by the function's record. -/
theorem hostLink : Obligations.HostLink := by
  unfold Obligations.HostLink
  intro s hs
  exact ⟨fun _ _ => execLinkUp_trains hs, fun _ => execPcieLaneFault_narrows hs, execPcieLaneFault_slows hs, execPerst_resets,
    fun _ => execFlr_holds hs, execPfFlr_holds hs, fun _ => execVfEnableWrite_sets hs, fun _ => execD3hotEntry_enters hs,
    fun _ => execD3hotExit_leaves hs⟩

end Sys2Proof.Machine
end

section
/-! Refused descriptors (R350, R396), and the timers that come before a CHARGE_TERMINATE (R193). -/

namespace Sys2Proof.Machine

section

variable {s : State} {c : Ctl} {o : Op} {i : Instr}

/-- A descriptor's row is its opcode's outcome. -/
theorem exec_of_opcodeOf (h : opcodeOf i = some (o, c)) : exec i s = opEnds o c s := by
  unfold opcodeOf at h
  split at h
  case h_33 => cases h
  all_goals
    cases h
    rfl

/-- A descriptor that a check refuses completes; before a CHARGE_TERMINATE the expired timers of its slot act all the same. -/
theorem descRun_refused {u : State} {code : Nat} (hu : (if code = 0x13 then timersFirst c.target else .skip).run s.counted = u)
    (hbad : (issuerBad u code c).or (ownBad u code (.ok o) c) ≠ none) :
    ∃ status detail, (descRun code (.ok o) c).run s = (complete c code status 0 detail).run u := by
  obtain ⟨⟨status, detail⟩, hsome⟩ := Option.ne_none_iff_exists'.1 hbad
  have hcount : (updHost fun h => { h with count := h.count + 1 }).run s = s.counted := rfl
  refine ⟨status, detail, ?_⟩
  rw [descRun, Prog.run_seq, Prog.run_seq, hcount, hu, Prog.run_read, hsome]

/-- The state after a descriptor's row, where the ring engine takes the descriptor and no FENCE holds it. -/
theorem does_of_taken {P : State → Prop} (hs : s.stopped = false) (htakes : s.takes c.fn c.ring = true)
    (hfence : s.fenced c.fn c.ring (wideFence o) = false) (he : exec i s = opEnds o c s) (hp : P ((descRun (opCode o) (.ok o) c).run s)) :
    Does i s P := by
  refine does_of_ends hs he ?_
  rw [Prog.run_read, if_pos (by simp [htakes, hfence])]
  exact hp

/-! Every opcode but CHARGE_TERMINATE. -/

/-- A function that is not live has its descriptors refused, but for the opcodes of R396. -/
theorem accepts_eq_false_of_dead (hlive : s.flag Reg.FN_STATUS.LIVE c.fn = false) (hcode : opWhileDead (opCode o) = false) :
    s.accepts o c = false := by
  have hissuer : issuerBad s (opCode o) c ≠ none := fun hnone => by
    have hsecond := firstBad_eq_none.1 hnone (_, stRejState, 0) (List.mem_cons_of_mem _ List.mem_cons_self)
    simp [hlive, hcode] at hsecond
  simp [State.accepts, hissuer]

theorem checks_of_refused (hs : s.stopped = false) (htakes : s.takes c.fn c.ring = true)
    (hfence : s.fenced c.fn c.ring (wideFence o) = false) (hbad : s.accepts o c = false) :
    (issuerBad s (opCode o) c).or (ownBad s (opCode o) (.ok o) c) ≠ none := fun h => by
  obtain ⟨hissuer, hown⟩ := Option.or_eq_none_iff.1 h
  simp [State.accepts, hs, htakes, hfence, hissuer, hown] at hbad

/-- The number of a part of the state in Laws/Touch.lean (`Act.cell`). -/
def Part.cell (q : Part) : Nat := 701 + q.ctorIdx

/-- A part whose number a program does not touch is as it was. -/
theorem Prog.Touches.same {p : Prog} {M : Nat} (h : p.Touches M) : ∀ q : Part, M.testBit q.cell = false → q.same s (p.run s)
  | .clock => h.time s
  | .fns => h.fns s
  | .rings => h.rings s
  | .host => h.host s
  | .lanes => h.lanes s
  | .out => h.out s
  | .freeCtr => h.freeCtr s
  | .chans => h.chans s
  | .slots => h.slots s
  | .gauges => h.gauges s
  | .keepLocs => h.keepLocs s
  | .keep => h.keep s
  | .keys => h.keys s
  | .ports => h.ports s
  | .twb => h.twb s
  | .house => h.house s
  | .grid => h.grid s
  | .srcs => h.srcs s
  | .icvs => h.icvs s
  | .fcvs => h.fcvs s
  | .mains => h.mains s
  | .pendZ => h.pendZ s
  | .groups => h.groups s
  | .alm => h.alm s
  | .power => h.power s
  | .pairs => h.pairs s
  | .tasks => h.tasks s
  | .eng => h.eng s
  | .trace => h.trace s
  | .sun => h.sun s
  | .clk => h.clk s
  | .svc => h.svc s
  | .tines => h.tines s
  | .chals => h.chals s

/-- The one effect of a refused descriptor: its number, and its completion. -/
structure OnlyCompletes (s t : State) : Prop where
  fields : ∀ f ∈ fieldTable, f.id ∉ completeWrites.map Fld.id → ∀ i j k : Nat, t.rd f i j k = s.rd f i j k
  parts : ∀ q : Part, q ∉ [Part.fns, .rings, .out, .host] → q.same s t
  count : t.host = { s.host with count := s.host.count + 1 }

/-- What a completion touches, and the count of the descriptors, as a mask (Laws/Touch.lean). -/
def refusedMask : Nat := 0x5c0000000000000008000000000000000000000000000000000000000000000000000000000000000000000000200000000000000000000000000000000000000000000000000000000000000000000000000000000000000

theorem testBit_refusedMask_fields : ∀ f ∈ fieldTable, f.id ∉ completeWrites.map Fld.id → refusedMask.testBit f.id = false := by decide +kernel

theorem testBit_refusedMask_parts (q : Part) (hq : q ∉ [Part.fns, .rings, .out, .host]) : refusedMask.testBit q.cell = false := by
  revert hq
  cases q <;> decide

theorem complete_onlyCompletes {code status detail : Nat} : OnlyCompletes s ((complete c code status 0 detail).run s.counted) := by
  have htouch : (Prog.seq (updHost fun h => { h with count := h.count + 1 }) (complete c code status 0 detail)).Touches refusedMask :=
    touch_seq (touch_updHost rfl) (complete_touch.mono rfl)
  exact ⟨fun f hf hid i j k => htouch.rd s f (testBit_refusedMask_fields f hf hid) rfl i j k,
    fun q hq => htouch.same q (testBit_refusedMask_parts q hq), complete_touch.host s.counted rfl⟩

/-- A refused descriptor of any opcode but CHARGE_TERMINATE has none of its effect (R350, R396). -/
theorem refused_onlyCompletes (hop : opcodeOf i = some (o, c)) (hcode : opCode o ≠ 0x13) (hs : s.stopped = false)
    (htakes : s.takes c.fn c.ring = true) (hfence : s.fenced c.fn c.ring (wideFence o) = false)
    (hbad : s.accepts o c = false ∨ (s.flag Reg.FN_STATUS.LIVE c.fn = false ∧ opWhileDead (opCode o) = false)) :
    Does i s (OnlyCompletes s) := by
  have hrefused : s.accepts o c = false := hbad.elim id fun ⟨hlive, hdead⟩ => accepts_eq_false_of_dead hlive hdead
  have hchecks : (issuerBad s.counted (opCode o) c).or (ownBad s.counted (opCode o) (.ok o) c) ≠ none :=
    checks_of_refused hs htakes hfence hrefused
  obtain ⟨status, detail, hrun⟩ := descRun_refused (by rw [if_neg hcode, Prog.run_skip]) hchecks
  exact does_of_taken hs htakes hfence (exec_of_opcodeOf hop) (hrun ▸ complete_onlyCompletes)

/-! CHARGE_TERMINATE at the moment at which a timer of its slot expires (R166, R193). -/

theorem timersFirst_faults {sl : Nat} (hst : s.slSt sl = slCharging) (hcur : (s.slot sl).curPhase = 1)
    (hlong : 6000 * s.rd Reg.SLT_TIMERS.TRICKLE_MAX sl ≤ (s.slot sl).tPhase) (hodd : s.oddGanged sl = false) :
    ((timersFirst sl).run s).slSt sl = slFaulted := by
  have hphase : ((phaseTimeout sl).run s).slSt sl = slFaulted := by
    rw [phaseTimeout, Prog.run_read]
    dsimp only
    rw [if_neg (not_not.2 hst), if_pos ⟨hcur, hlong⟩]
    exact (slotSafe_faults hodd (by rw [hst]; decide) (by decide)).1
  rw [timersFirst, Prog.run_seq, cvTimeout_none ⟨by rw [hphase]; decide, fun h => absurd (hphase.symm.trans h) (by decide)⟩]
  exact hphase

/-- A slot that is FAULTED has nothing that CHARGE_TERMINATE could end. -/
theorem ownBad_terminate_of_faulted (h : s.slSt c.target = slFaulted) : ownBad s 0x13 (.ok .chargeTerminate) c ≠ none := by
  have hruns : terminateBad s c ≠ none := fun hnone => by
    have hstill := firstBad_eq_none.1 hnone (_, stNotActive, 0) (List.mem_cons_of_mem _ (List.mem_singleton_self _))
    simp [h, slFaulted, slCharging, slSuspended, slDonor] at hstill
  unfold ownBad
  split_ifs
  · simp
  · simp
  · exact hruns

/-- The slot FAULTS on the expired timer, whether or not the descriptor would have been accepted. -/
theorem execChargeTerminate_faults_expired (hs : s.stopped = false) (htakes : s.takes c.fn c.ring = true)
    (hfence : s.fenced c.fn c.ring (wideFence .chargeTerminate) = false) (hst : s.slSt c.target = slCharging)
    (hcur : (s.slot c.target).curPhase = 1) (hlong : 6000 * s.rd Reg.SLT_TIMERS.TRICKLE_MAX c.target ≤ (s.slot c.target).tPhase)
    (hodd : s.oddGanged c.target = false) : Does (.chargeTerminate c) s fun t => t.slSt c.target = slFaulted := by
  have hfault := timersFirst_faults (s := s.counted) hst hcur hlong hodd
  obtain ⟨status, detail, hrun⟩ := descRun_refused (s := s) (code := opCode .chargeTerminate) (congrArg (Prog.run · s.counted) (if_pos rfl))
    fun h => ownBad_terminate_of_faulted hfault (Option.or_eq_none_iff.1 h).2
  refine does_of_taken hs htakes hfence rfl ?_
  rw [hrun]
  exact rd_after (complete_touch.keepsRd rfl rfl) hfault

end

/-- Slot 0 charges in TRICKLE, its time over. -/
def trickleOver : State :=
  (seqs [setR Reg.PWR_MODE.MODE mRun, setR Reg.PWR_DOM.ON (2 ^ 18), setR Reg.SLT_STATUS.STATE slCharging,
    updSlots 0 fun x => { x with curPhase := 1, tPhase := 6000 * 127 }]).run State.reset

/-- A CHARGE_TERMINATE of the PF for slot 0 whose unused TARGET2 is not zero. -/
def strayTarget2 : Ctl := { fn := pfFn, ring := 0, target := 0, target2 := 1 }

theorem trickleOver_refuses : trickleOver.stopped = false ∧ trickleOver.takes strayTarget2.fn strayTarget2.ring = true ∧
    trickleOver.fenced strayTarget2.fn strayTarget2.ring (wideFence .chargeTerminate) = false ∧
    trickleOver.accepts .chargeTerminate strayTarget2 = false := by
  and_intros <;> decide +kernel

theorem trickleOver_expired : trickleOver.slSt 0 = slCharging ∧ (trickleOver.slot 0).curPhase = 1 ∧
    6000 * trickleOver.rd Reg.SLT_TIMERS.TRICKLE_MAX 0 ≤ (trickleOver.slot 0).tPhase ∧ trickleOver.oddGanged 0 = false := by
  and_intros <;> decide +kernel

/-- Refutes O8: a timer that has expired comes before a CHARGE_TERMINATE at the same time (R193), and so it does before one that is refused: here
the charge of slot 0 FAULTS on its TRICKLE_MAX, while the descriptor completes with ERR_RSVD. `refused_onlyCompletes` has the opcodes of which the
statement holds, every other one. -/
theorem not_refusedDescriptors : ¬ Obligations.RefusedDescriptors := by
  unfold Obligations.RefusedDescriptors
  intro h
  obtain ⟨hs, htakes, hfence, hbad⟩ := trickleOver_refuses
  obtain ⟨hst, hcur, hlong, hodd⟩ := trickleOver_expired
  obtain ⟨t, ht, hfields, -, -⟩ := h (.chargeTerminate strayTarget2) .chargeTerminate strayTarget2 trickleOver rfl hs htakes hfence (.inl hbad)
  obtain ⟨u, hu, hfaulted⟩ := execChargeTerminate_faults_expired hs htakes hfence hst hcur hlong hodd
  have hkept : t.slSt 0 = slCharging := (hfields Reg.SLT_STATUS.STATE (by decide +kernel) (by decide) 0 0 0).trans hst
  rw [Host.Outcome.next.inj (ht.symm.trans hu)] at hkept
  exact absurd (hkept.symm.trans hfaulted) (by decide)

end Sys2Proof.Machine
end

section
/-! The tenants' questions and event limits (R386, R391, R393). -/

namespace Sys2Proof.Machine

section

variable {s : State} {fn : Nat}

theorem keepsFn_setR {β : Type} {w : FnRec → β} {f : Fld} {i j k v n : Nat} : (setR f v i j k).Keeps fun u => w (u.fnr n) :=
  fun _ => congrArg w (State.wr_fnr ..)

/-! A question (R391). -/

/-- A question that is posed at `at'` is open from then on, for one period. -/
theorem wdgAsk_poses {at' : Nat} :
    let x := ((wdgAsk fn at').run s).fnr fn
    x.askedAt = at' ∧ x.judged = false ∧ x.nextAt = at' + 10000 * s.rd Reg.TEN_WDG_CFG.PERIOD fn := by
  simp only [wdgAsk, withFree, Prog.run_read, Prog.run_seq, seqs_cons_run, seqs_nil_run]
  exact ⟨view_after (writeStatus_keepsFn fun _ _ _ _ _ _ => rfl) (congrArg FnRec.askedAt updFns_fnr),
    view_after (writeStatus_keepsFn fun _ _ _ _ _ _ => rfl) (congrArg FnRec.judged updFns_fnr),
    view_after (writeStatus_keepsFn fun _ _ _ _ _ _ => rfl) (congrArg FnRec.nextAt updFns_fnr)⟩

/-- WDG_QUESTION where a question is due: an unanswered one counts as missed before the next one is posed. -/
theorem does_of_questionDue {P : State → Prop} (hs : s.stopped = false) (harmed : (s.fnr fn).armed = true) (hon : s.hifOn = true)
    (hdue : (s.fnr fn).nextAt ≤ s.time)
    (hp : P ((wdgAsk fn (s.fnr fn).nextAt).run ((if (s.fnr fn).judged then .skip else wdgMiss fn 0 : Prog).run s))) :
    Does (.wdgQuestion fn) s P := by
  refine does_of_ends hs rfl ?_
  rw [Prog.run_read]
  dsimp only
  rw [if_pos (by simp [harmed, hon, hdue]), Prog.run_seq]
  exact hp

theorem execWdgQuestion_poses (hs : s.stopped = false) (harmed : (s.fnr fn).armed = true) (hon : s.hifOn = true)
    (hdue : (s.fnr fn).nextAt ≤ s.time) (hjudged : (s.fnr fn).judged = true) : Does (.wdgQuestion fn) s fun t =>
      (t.fnr fn).askedAt = (s.fnr fn).nextAt ∧ (t.fnr fn).judged = false ∧
        (t.fnr fn).nextAt = (s.fnr fn).nextAt + 10000 * s.rd Reg.TEN_WDG_CFG.PERIOD fn := by
  refine does_of_questionDue hs harmed hon hdue ?_
  rw [if_pos hjudged]
  exact wdgAsk_poses

/-! A miss (R393). -/

theorem wdgMiss_counts {cause : Nat} :
    ((wdgMiss fn cause).run s).rd Reg.FN_WDG.MISSES fn = min (s.rd Reg.FN_WDG.MISSES fn + 1) 2 := by
  rw [wdgMiss, Prog.run_read, seqs_cons_run]
  refine rd_after ?_ (rd_setR rfl (Nat.lt_of_le_of_lt (min_le_right ..) (by decide)))
  exact keeps_cons (keepsRd_setR (by decide)) <| keeps_cons (fun _ => rfl) <|
    keeps_cons (keeps_ite keeps_skip (keepsRd_incSat (by decide))) <| keeps_cons (raise_touch.keepsRd rfl rfl) <|
    keeps_cons (keeps_ite (fnLost_touch.keepsRd rfl rfl) keeps_skip) <| keeps_cons (writeStatus_touch.keepsRd rfl rfl) keeps_seqs_nil

theorem execWdgQuestion_misses (hs : s.stopped = false) (harmed : (s.fnr fn).armed = true) (hon : s.hifOn = true)
    (hdue : (s.fnr fn).nextAt ≤ s.time) (hopen : (s.fnr fn).judged = false) :
    Does (.wdgQuestion fn) s fun t => t.rd Reg.FN_WDG.MISSES fn = min (s.rd Reg.FN_WDG.MISSES fn + 1) 2 := by
  refine does_of_questionDue hs harmed hon hdue (rd_after (wdgAsk_touch.keepsRd rfl rfl) ?_)
  rw [if_neg (by simp [hopen])]
  exact wdgMiss_counts

/-! The event limit (R386). -/

/-- RATE_LIMIT notes its time, at the earliest one second after the last one. -/
theorem execRateLimit_notes (hs : s.stopped = false) (hdrops : (s.fnr fn).rateDrops ≠ 0)
    (hdue : ∀ t0, (s.fnr fn).rateAt = some t0 → t0 + 1000000 ≤ s.time) :
    Does (.rateLimit fn) s fun t => (t.fnr fn).rateAt = some s.time := by
  refine does_of_ends hs rfl ?_
  rw [Prog.run_read]
  dsimp only
  rw [if_pos, Prog.run_seq]
  · refine view_after (raise_keepsFn fun _ _ _ _ _ _ => rfl) ?_
    rw [updFns_fnr]
  · cases hat : (s.fnr fn).rateAt with
    | none => simpa using hdrops
    | some t0 => simpa [hdrops] using hdue t0 hat

end

/-- Settles O30: a question by what it leaves of the function's record and a miss by its count; both event limits are one that is due. -/
theorem tenantTimers : Obligations.TenantTimers := by
  unfold Obligations.TenantTimers
  intro s hs
  exact ⟨fun _ => execWdgQuestion_poses hs, fun _ => execWdgQuestion_misses hs,
    fun _ hdrops hnone => execRateLimit_notes hs hdrops (by simp [hnone]),
    fun _ _ hdrops hat hlong => execRateLimit_notes hs hdrops (by simpa [hat] using hlong)⟩

end Sys2Proof.Machine
end

section
/-! What an accepted opcode of the tenants, the microcode and the seal does (R380, R388, R392, R393, R493 to R495, R498, R622). -/

namespace Sys2Proof.Machine

section

variable {s : State} {c : Ctl}

theorem Prog.Touches.keepsEng {p : Prog} {M : Nat} (h : p.Touches M) (hM : M.testBit 728 = false) : p.Keeps State.eng := fun s => h.eng s hM

theorem keepsEng_setR {f : Fld} {i j k v : Nat} : (setR f v i j k).Keeps State.eng := fun _ => State.wr_eng ..

/-! WDG_ANSWER (R392, R393). The right token is the model's own function of key and question, log entry 12. -/

/-- A good outcome ends the misses and counts. -/
theorem wdgGood_counts {fn : Nat} : ((wdgGood fn).run s).rd Reg.FN_WDG.MISSES fn = 0 ∧
    ((wdgGood fn).run s).rd Reg.FN_WDG.GOOD fn = min (s.rd Reg.FN_WDG.GOOD fn + 1) 2 := by
  have hrest {f : Fld} {p : Prop} [Decidable p] (hlive : (goLive fn true).Keeps fun u => u.rd f fn)
      (hstatus : (writeStatus fn).Keeps fun u => u.rd f fn) : (seqs [updFns fn fun x => { x with judged := true },
        if p then goLive fn true else writeStatus fn]).Keeps fun u => u.rd f fn :=
    keeps_cons (fun _ => rfl) (keeps_cons (keeps_ite hlive hstatus) keeps_seqs_nil)
  rw [wdgGood, Prog.run_read, seqs_cons_run, seqs_cons_run]
  constructor <;> refine rd_after (hrest (goLive_touch.keepsRd rfl rfl) (writeStatus_touch.keepsRd rfl rfl)) ?_
  · exact rd_after (keepsRd_setR (by decide)) (rd_setR rfl (by decide))
  · exact rd_setR rfl (Nat.lt_of_le_of_lt (min_le_right ..) (by decide))

/-- The answer to the question in force, in its window and with its token, is good. -/
theorem wdgAnswer_run_of_right {fn token qseq : Nat} (harmed : (s.fnr fn).armed = true) (hopen : (s.fnr fn).judged = false)
    (hbefore : s.time < (s.fnr fn).nextAt) (hseq : qseq = s.rd Reg.FN_WDG.QSEQ fn)
    (hwindow : (s.fnr fn).askedAt + 10000 * (s.fnr fn).askPeriod * (s.fnr fn).askOpen / 16 ≤ s.time)
    (htoken : token = wdgToken (s.fnr fn).askKey fn (s.fnr fn).question) : (wdgAnswer fn token qseq).run s = (wdgGood fn).run s := by
  rw [wdgAnswer, Prog.run_read]
  dsimp only
  rw [if_neg (by simp [harmed, hopen, hbefore]), if_pos hseq, if_neg (Nat.not_lt.2 hwindow), if_pos htoken]

theorem execWdgAnswer_counts {token qseq : Nat} (h : s.accepts (.wdgAnswer token qseq) c = true) (harmed : (s.fnr c.fn).armed = true)
    (hopen : (s.fnr c.fn).judged = false) (hbefore : s.time < (s.fnr c.fn).nextAt) (hseq : qseq = s.rd Reg.FN_WDG.QSEQ c.fn)
    (hwindow : (s.fnr c.fn).askedAt + 10000 * (s.fnr c.fn).askPeriod * (s.fnr c.fn).askOpen / 16 ≤ s.time)
    (htoken : token = wdgToken (s.fnr c.fn).askKey c.fn (s.fnr c.fn).question) : Does (.wdgAnswer c token qseq) s fun t =>
      t.rd Reg.FN_WDG.MISSES c.fn = 0 ∧ t.rd Reg.FN_WDG.GOOD c.fn = min (s.rd Reg.FN_WDG.GOOD c.fn + 1) 2 := by
  refine does_of_accepted rfl h rfl ?_
  show _ ∧ _
  rw [Op.act, answerDo, Prog.run_seq, wdgAnswer_run_of_right (s := s.counted) harmed hopen hbefore hseq hwindow htoken]
  obtain ⟨hmisses, hgood⟩ := wdgGood_counts (s := s.counted) (fn := c.fn)
  exact ⟨rd_after (opTold_touch.keepsRd rfl rfl) hmisses, rd_after (opTold_touch.keepsRd rfl rfl) hgood⟩

/-! QUOTA_SET and KEY_WRITE (R380, R388): a record for the keep. -/

theorem keepRequest_queue {q : KeepReq} : ((keepRequest q).run s).keep.queue = s.keep.queue ++ [q] := by
  rw [keepRequest, Prog.run_read, Prog.run_seq, updR_run, State.wr_keep]
  rfl

theorem execQuotaSet_queues {p : QuotaPar} (h : s.accepts (.quotaSet p) c = true) :
    Does (.quotaSet c p) s fun t => t.keep.queue = s.keep.queue ++ [{ effect := .quota c.target p, ctl := some c }] :=
  does_of_accepted rfl h rfl keepRequest_queue

/-- The request of a KEY_WRITE, with the key slot that it takes for a pack key (R388). -/
def State.keyRequest (s : State) (c : Ctl) (p : KeyPar) : KeepReq :=
  if p.kind = 1 then { effect := .master p.key p.erase, ctl := some c }
  else { effect := .packKey (((s.keySlot c.target p.keyId).or s.freeKeySlot).getD 0) c.target p.keyId p.key p.erase, ctl := some c }

theorem keyDo_run {p : KeyPar} : (keyDo c p).run s = (keepRequest (s.keyRequest c p)).run ((runOn c 0x61).run s) := by
  rw [keyDo, Prog.run_read, Prog.run_seq, State.keyRequest]
  split_ifs <;> rfl

theorem execKeyWrite_queues {p : KeyPar} (h : s.accepts (.keyWrite p) c = true) :
    Does (.keyWrite c p) s fun t => t.keep.queue = s.keep.queue ++ [s.keyRequest c p] := by
  refine does_of_accepted rfl h rfl ?_
  show (((keyDo c p).run s.counted).keep).queue = _
  rw [keyDo_run]
  exact keepRequest_queue

/-! MICROCODE_STAGE and DISCARD (R493, R494). -/

theorem execMicrocodeStage_stages {addr len gen : Nat} (h : s.accepts (.mcodeStage addr len gen) c = true) :
    Does (.microcodeStage c addr len gen) s fun t => t.rd Reg.ENG_UPG.STATE = 1 ∧ t.eng.stage = some (c, len, gen) := by
  refine does_of_accepted rfl h rfl ?_
  show _ ∧ _
  rw [Op.act, stageDo, seqs_cons_run, seqs_cons_run]
  refine ⟨rd_after ?_ (rd_setR rfl (by decide)), rfl⟩
  exact keeps_cons (keepsRd_setR (by decide)) (keeps_cons (keepsRd_setR (by decide)) (keeps_cons keepsRd_updEng keeps_seqs_nil))

theorem execMicrocodeDiscard_discards (h : s.accepts .mcodeDiscard c = true) :
    Does (.microcodeDiscard c) s fun t => t.rd Reg.ENG_UPG.STATE = 0 ∧ t.rd Reg.ENG_GEN.STAGED = 0 := by
  have hrest {f : Fld} (hlo : Reg.ENG_SCHEMA_STG.STG_LO.id ≠ f.id) (hhi : Reg.ENG_SCHEMA_STG.STG_HI.id ≠ f.id)
      (hdone : (opDone c 0x63 fun _ => 0).Keeps fun u => u.rd f) : (seqs [setR Reg.ENG_SCHEMA_STG.STG_LO 0, setR Reg.ENG_SCHEMA_STG.STG_HI 0,
        updEng fun e => { e with staged := none }, opDone c 0x63 fun _ => 0]).Keeps fun u => u.rd f :=
    keeps_cons (keepsRd_setR hlo) (keeps_cons (keepsRd_setR hhi) (keeps_cons keepsRd_updEng (keeps_cons hdone keeps_seqs_nil)))
  refine does_of_accepted rfl h rfl ?_
  show _ ∧ _
  rw [Op.act, discardDo, seqs_cons_run, seqs_cons_run]
  constructor <;> refine rd_after (hrest (by decide) (by decide) (opDone_touch.keepsRd rfl rfl)) ?_
  · exact rd_after (keepsRd_setR (by decide)) (rd_setR rfl (by decide))
  · exact rd_setR rfl (by decide)

/-! A bed's steps begin (R496). -/

/-- BED names the bed whose steps begin, cut to the field's width. -/
theorem bedBegins_bed {b : Nat} : ((bedBegins b).run s).rd Reg.ENG_UPG.BED = b % 32 := by
  rw [bedBegins, Prog.run_seq]
  exact rd_after (keeps_ite (keepsRd_setR (by decide)) (bedEmpties_touch.keepsRd rfl rfl)) (State.rd_wr_same _ _ _ _ _ _ rfl)

/-! ROLL (R494, R495). -/

/-- A ROLL is accepted with spares for the first bed. -/
theorem rollBad_none (h : rollBad s = none) : 64 ≤ s.rd Reg.GLB_HEALTH.SPARE_PAIRS := by
  simp only [rollBad, firstBad_eq_none, List.mem_singleton, forall_eq, Bool.or_eq_false_iff, decide_eq_false_iff_not, Nat.not_lt] at h
  obtain ⟨⟨-, hspares⟩, -⟩ := h
  exact hspares

theorem rollBed_run_of_spares {b : Nat} (h : 64 ≤ s.rd Reg.GLB_HEALTH.SPARE_PAIRS) : (rollBed b).run s = (bedBegins b).run s := by
  rw [rollBed, Prog.run_read, if_neg (Nat.not_lt.2 h)]

/-- ROLL goes on with the first bed, the rollout under way. -/
theorem rollDo_run {dwell : Nat} : ∃ u : State, (rollDo c dwell).run s = (rollBed 15).run u ∧ u.rd Reg.ENG_UPG.STATE = 3 ∧
    u.eng.roll = some c ∧ u.rd Reg.GLB_HEALTH.SPARE_PAIRS = s.rd Reg.GLB_HEALTH.SPARE_PAIRS := by
  rw [rollDo, Prog.run_read]
  simp only [seqs_cons_run, seqs_nil_run]
  refine ⟨_, rfl, rd_after keepsRd_updEng (rd_setR rfl (by decide)), rfl, ?_⟩
  exact rd_after keepsRd_updEng (rd_after (keepsRd_setR (by decide)) (runOn_touch.keepsRd rfl rfl s))

theorem execMicrocodeRoll_begins {dwell : Nat} (h : s.accepts (.mcodeRoll dwell) c = true) : Does (.microcodeRoll c dwell) s fun t =>
    t.rd Reg.ENG_UPG.STATE = 3 ∧ t.rd Reg.ENG_UPG.BED = 15 ∧ t.eng.roll = some c := by
  refine does_of_accepted rfl h rfl ?_
  show _ ∧ _
  obtain ⟨u, hrun, hstate, hroll, hspares⟩ := rollDo_run (s := s.counted) (c := c) (dwell := dwell)
  rw [Op.act, hrun, rollBed_run_of_spares (hspares ▸ rollBad_none (bad_of_accepts h))]
  exact ⟨rd_after (bedBegins_touch.keepsRd rfl rfl) hstate, bedBegins_bed,
    ((bedBegins_touch.keepsEng rfl).view EngRec.roll u).trans hroll⟩

/-! ABORT (R494, R498). -/

theorem abortBad_none (h : abortBad s = none) : s.rd Reg.ENG_UPG.STATE = 3 := by
  simpa [abortBad, firstBad_eq_none] using h

theorem bootBack_run_of_empty (h : s.keep.queue = []) : bootBack.run s = s := by
  simp [bootBack, Prog.run_read, h]

/-- The beds that an abort brings back: those reloaded, and before them the one in progress, unless it has only been announced (R498). -/
def State.abortBeds (s : State) : List Nat :=
  ((if s.rd Reg.ENG_UPG.STEP ≥ 2 ∧ ¬ s.eng.reloaded.contains (s.rd Reg.ENG_UPG.BED) then [s.rd Reg.ENG_UPG.BED] else []) ++
    s.eng.reloaded).filter fun b => !hasBit (s.rd Reg.GLB_HEALTH.BED_LOST) b

/-- A rollout that is aborted while no ACTIVE_BANK record waits: it is ABORTING, and the first of its beds returns. -/
theorem rollAbort_run {cause : Nat} (hstate : s.rd Reg.ENG_UPG.STATE = 3) (hqueue : s.keep.queue = []) :
    ∃ u : State, (rollAbort cause).run s = bedReturns.run u ∧ u.rd Reg.ENG_UPG.STATE = 4 ∧
      u.eng = { s.eng with toReturn := s.abortBeds, abortCause := cause, abortBed := s.rd Reg.ENG_UPG.BED } := by
  rw [rollAbort, Prog.run_read, if_pos hstate]
  simp only [seqs_cons_run, seqs_nil_run, bootBack_run_of_empty hqueue]
  exact ⟨_, rfl, rd_setR rfl (by decide), State.wr_eng ..⟩

/-- The same of an accepted ABORT, which is noted to complete with the last bed. -/
theorem abortDo_run (hstate : s.rd Reg.ENG_UPG.STATE = 3) (hqueue : s.keep.queue = []) :
    ∃ u : State, (abortDo c).run s = bedReturns.run u ∧ u.rd Reg.ENG_UPG.STATE = 4 ∧ u.eng.toReturn = s.abortBeds ∧
      u.eng.abort = some c := by
  obtain ⟨u, hrun, hnow, heng⟩ := rollAbort_run (cause := 0)
    (s := (updEng fun e => { e with abort := some c }).run ((runOn c 0x63).run s)) hstate hqueue
  refine ⟨u, ?_, hnow, ?_, ?_⟩
  · simpa only [abortDo, seqs_cons_run, seqs_nil_run] using hrun
  · rw [heng]
    rfl
  · rw [heng]
    rfl

/-- An abort that has brought every bed back leaves the image STAGED, and neither ROLL nor ABORT under way. -/
theorem abortDone_ends : (abortDone.run s).rd Reg.ENG_UPG.STATE = 2 ∧ (abortDone.run s).rd Reg.ENG_UPG.BED = 31 ∧
    (abortDone.run s).eng.roll = none ∧ (abortDone.run s).eng.abort = none := by
  rw [abortDone, Prog.run_read, seqs_cons_run, seqs_cons_run]
  refine ⟨rd_after ?_ (rd_after (keepsRd_setR (by decide)) (rd_setR rfl (by decide))), rd_after ?_ (rd_setR rfl (by decide)), rfl, rfl⟩ <;>
    refine keeps_cons (keepsRd_setR (by decide)) <| keeps_cons (keepsRd_setR (by decide)) <|
      keeps_cons (keeps_read fun _ => keepsRd_setR (by decide)) <| keeps_cons (raise_touch.keepsRd rfl rfl) <|
      keeps_cons ?_ <| keeps_cons ?_ <| keeps_cons keepsRd_updEng keeps_seqs_nil
  all_goals
    split
    · exact finishRun_touch.keepsRd rfl rfl
    · exact keeps_skip

/-- With no bed to bring back an abort is done at once. -/
theorem execMicrocodeAbort_ends (h : s.accepts .mcodeAbort c = true) (hqueue : s.keep.queue = []) (hstep : s.rd Reg.ENG_UPG.STEP < 2)
    (hnone : s.eng.reloaded = []) : Does (.microcodeAbort c) s fun t =>
      t.rd Reg.ENG_UPG.STATE = 2 ∧ t.rd Reg.ENG_UPG.BED = 31 ∧ t.eng.roll = none ∧ t.eng.abort = none := by
  refine does_of_accepted rfl h rfl ?_
  show _ ∧ _
  obtain ⟨u, hrun, -, hbeds, -⟩ := abortDo_run (s := s.counted) (c := c) (abortBad_none (bad_of_accepts h)) hqueue
  have hnobed : s.counted.abortBeds = [] := by simp [State.abortBeds, Nat.not_le.2 hstep, hnone]
  rw [Op.act, hrun, bedReturns, Prog.run_read, hbeds, hnobed]
  exact abortDone_ends

/-- With a bed in progress an abort brings it back first: its steps begin anew, and BED keeps what of its value fits the field. -/
theorem execMicrocodeAbort_returns (h : s.accepts .mcodeAbort c = true) (hqueue : s.keep.queue = [])
    (hnew : ∀ b ∈ s.eng.reloaded, s.rd Reg.ENG_UPG.BED ≠ b) (hstep : 2 ≤ s.rd Reg.ENG_UPG.STEP)
    (hin : hasBit (s.rd Reg.GLB_HEALTH.BED_LOST) (s.rd Reg.ENG_UPG.BED) = false) : Does (.microcodeAbort c) s fun t =>
      t.rd Reg.ENG_UPG.STATE = 4 ∧ t.rd Reg.ENG_UPG.BED = s.rd Reg.ENG_UPG.BED % 32 ∧ t.eng.abort = some c := by
  refine does_of_accepted rfl h rfl ?_
  show _ ∧ _
  obtain ⟨u, hrun, hstate, hbeds, habort⟩ := abortDo_run (s := s.counted) (c := c) (abortBad_none (bad_of_accepts h)) hqueue
  have hfresh : s.rd Reg.ENG_UPG.BED ∉ s.eng.reloaded := fun hmem => hnew _ hmem rfl
  obtain ⟨l, hfirst⟩ : ∃ l, s.counted.abortBeds = s.rd Reg.ENG_UPG.BED :: l := by simp [State.abortBeds, hstep, hfresh, hin]
  rw [Op.act, hrun, bedReturns, Prog.run_read, hbeds, hfirst]
  exact ⟨rd_after (bedBegins_touch.keepsRd rfl rfl) hstate, bedBegins_bed,
    view_after ((bedBegins_touch.keepsEng rfl).view EngRec.abort) habort⟩

/-- BED stays as it was where its value fits the field. -/
theorem execMicrocodeAbort_keepsBed (h : s.accepts .mcodeAbort c = true) (hqueue : s.keep.queue = [])
    (hnew : ∀ b ∈ s.eng.reloaded, s.rd Reg.ENG_UPG.BED ≠ b) (hstep : 2 ≤ s.rd Reg.ENG_UPG.STEP)
    (hin : hasBit (s.rd Reg.GLB_HEALTH.BED_LOST) (s.rd Reg.ENG_UPG.BED) = false) (hfits : s.rd Reg.ENG_UPG.BED < 32) :
    Does (.microcodeAbort c) s fun t =>
      t.rd Reg.ENG_UPG.STATE = 4 ∧ t.rd Reg.ENG_UPG.BED = s.rd Reg.ENG_UPG.BED ∧ t.eng.abort = some c := by
  have hreturns := execMicrocodeAbort_returns h hqueue hnew hstep hin
  rwa [Nat.mod_eq_of_lt hfits] at hreturns

/-! SEAL (R622). -/

theorem execSeal_seals (h : s.accepts .doSeal c = true) : Does (.seal c) s fun t => t.flag Reg.GLB_SEAL.SEALED = true := by
  refine does_of_accepted rfl h rfl (flag_of_rd (v := 1) ?_)
  rw [Op.act, sealDo, seqs_cons_run, seqs_cons_run]
  exact rd_after (keeps_cons (opDone_touch.keepsRd rfl rfl) keeps_seqs_nil) (rd_setR rfl (by decide))

end

/-! A rollout whose BED is no number of five bits. -/

/-- RUN, with the host interface up, in step 2 of a rollout. -/
def rollsOut : State :=
  (seqs [setR Reg.PWR_MODE.MODE mRun, setR Reg.PWR_DOM.ON 0x3FFFFFFF, setR Reg.FN_STATUS.LIVE 1 pfFn, setR Reg.ENG_UPG.STATE 3,
    setR Reg.ENG_UPG.STEP 2]).run State.reset

/-- The same with 32 in the cell of BED: a canonical state, and one that no run reaches, since a write cuts a value to the field's width (R3). -/
def bedReads32 : State := { rollsOut with regs := Tab.ins (Reg.ENG_UPG.BED.key 0 0 0) 32 rollsOut.regs }

/-- A descriptor of the PF. -/
def pfDescriptor : Ctl := { fn := pfFn, ring := 0, target := 0 }

theorem bedReads32_accepts : bedReads32.accepts .mcodeAbort pfDescriptor = true ∧ bedReads32.keep.queue = [] ∧
    (∀ b ∈ bedReads32.eng.reloaded, bedReads32.rd Reg.ENG_UPG.BED ≠ b) ∧ 2 ≤ bedReads32.rd Reg.ENG_UPG.STEP ∧
    hasBit (bedReads32.rd Reg.GLB_HEALTH.BED_LOST) (bedReads32.rd Reg.ENG_UPG.BED) = false := by
  and_intros <;> decide +kernel

theorem bedReads32_bed : bedReads32.rd Reg.ENG_UPG.BED = 32 := by decide +kernel

/-- Refutes O35: in a state whose BED reads 32, more than its five bits hold (R506), an ABORT that begins the return of that bed leaves BED at 0.
The lemmas above prove every other clause as it stands, and of this one STATE, the ABORT under way and a BED cut to its width
(`execMicrocodeAbort_returns`); `execMicrocodeAbort_keepsBed` has it whole where BED fits its field. -/
theorem not_deviceOpcodes : ¬ Obligations.DeviceOpcodes := by
  unfold Obligations.DeviceOpcodes
  intro h
  obtain ⟨haccepts, hqueue, hnew, hstep, hin⟩ := bedReads32_accepts
  obtain ⟨-, -, -, -, -, -, hreturns, -, -⟩ := h bedReads32 pfDescriptor
  obtain ⟨t, he, -, hbed, -⟩ := hreturns haccepts hqueue hnew hstep hin
  obtain ⟨u, hu, -, hcut, -⟩ := execMicrocodeAbort_returns haccepts hqueue hnew hstep hin
  have htu : t = u := Host.Outcome.next.inj (he.symm.trans hu)
  rw [htu, hcut, bedReads32_bed] at hbed
  exact absurd hbed (by decide)

end Sys2Proof.Machine
end

section
/-! What a program leaves of a two-wire bus's record, and how a transaction begins and ends there (R403, R418, R437). -/

namespace Sys2Proof.Machine

section

variable {β : Type} {w : BusRec → β} {p : Prog} {M a n b status : Nat} {f : Fld} {i j k v : Nat} {s : State} {r : BusRec → BusRec}
  {job : TwbJob}

theorem Prog.Touches.keepsBus (h : p.Touches M) (hM : M.testBit 715 = false) : p.Keeps fun s => w (s.bus n) := fun s =>
  congrArg (fun l => w (Tab.get ({} : BusRec) l n)) (h.twb s hM)

theorem keepsBus_setR : (setR f v i j k).Keeps fun s => w (s.bus n) := fun _ => congrArg w (State.wr_bus ..)

@[simp] theorem keepsRd_updTwb : (updTwb a r).Keeps fun s => s.rd f i j k := fun _ => rfl

theorem bus_after {x : β} (hp : p.Keeps fun s => w (s.bus n)) (h : w (s.bus n) = x) : w ((p.run s).bus n) = x := (hp s).trans h

theorem keepsBus_updTwb (h : ∀ x, w (r x) = w x) : (updTwb a r).Keeps fun s => w (s.bus n) := fun s => by
  by_cases ha : a = n
  · subst ha
    exact (congrArg w updTwb_bus).trans (h _)
  · exact congrArg w (Act.twb_ne _ _ ha _ _)

/-- LAST shows the status with which a host transfer completes. -/
theorem hostDone_last {result detail : Nat} (h : status < 2 ^ 8) :
    ((hostDone b job status result detail).run s).rd Reg.TWB_STATUS.LAST b = status := by
  rw [hostDone, Prog.run_seq]
  cases job.ctl with
  | none => exact rd_setR rfl h
  | some c => exact rd_after (finishRun_touch.keepsRd rfl rfl) (rd_setR rfl h)

theorem jobFails_last {detail : Nat} (hhost : job.what = 0) (h : status < 2 ^ 8) :
    ((jobFails b job status detail).run s).rd Reg.TWB_STATUS.LAST b = status := by
  rw [jobFails, if_pos hhost]
  exact hostDone_last h

theorem runOver_busy : ((runOver b).run s).rd Reg.TWB_STATUS.BUSY b = 0 := by
  rw [runOver, Prog.run_read, seqs_cons_run, seqs_cons_run]
  exact rd_after (keeps_cons (keepsRd_setR (by decide)) keeps_seqs_nil) (rd_setR rfl (by decide))

theorem runOver_keepsBus (h : ∀ (x : BusRec) run cancel at', w { x with run := run, cancel := cancel, idleAt := at' } = w x) :
    (runOver a).Keeps fun s => w (s.bus n) :=
  keeps_read fun _ => keeps_cons (keepsBus_updTwb fun x => h x _ _ _) (keeps_cons keepsBus_setR (keeps_cons keepsBus_setR keeps_seqs_nil))

theorem jobRuns_run : (((jobRuns b job).run s).bus b).run = some job := by
  rw [jobRuns, seqs_cons_run]
  exact bus_after (keeps_cons keepsBus_setR (keeps_cons keepsBus_setR keeps_seqs_nil)) (congrArg BusRec.run updTwb_bus)

theorem jobRuns_keepsQueue : (jobRuns b job).Keeps fun u => (u.bus n).queue :=
  keeps_cons (keepsBus_updTwb fun _ => rfl) (keeps_cons keepsBus_setR (keeps_cons keepsBus_setR keeps_seqs_nil))

/-- BUSY and USER name the transaction on the wire (R437). -/
theorem jobRuns_shown (hhost : job.what = 0) : ((jobRuns b job).run s).rd Reg.TWB_STATUS.BUSY b = 1 ∧
    ((jobRuns b job).run s).rd Reg.TWB_STATUS.USER b = 2 := by
  rw [jobRuns, if_pos hhost, seqs_cons_run, seqs_cons_run]
  exact ⟨rd_after (keeps_cons (keepsRd_setR (by decide)) keeps_seqs_nil) (rd_setR rfl (by decide)), rd_setR rfl (by decide)⟩

end

end Sys2Proof.Machine
end

section
/-! The device's own transactions on a two-wire bus (R30, R403, R414 to R421, R427, R434). -/

namespace Sys2Proof.Machine

section

variable {s : State} {b ms : Nat} {j : TwbJob} {e : TwbEnd}

/-! The start of a transaction (R403). -/

/-- On a free bus that serves it, the oldest host transfer goes onto the wire. -/
theorem execTwbTransactionStart_run {l : List TwbJob} (hrun : (s.bus b).run = none) (hbusy : s.flag Reg.TWB_STATUS.BUSY b = false)
    (hdead : s.flag Reg.TWB_STATUS.BUS_DEAD b = false) (hagent : (s.bus b).agent = []) (hqueue : (s.bus b).queue = j :: l)
    (hserves : s.busServes b j = true) (hhost : j.what = 0) : exec (.twbTransactionStart b) s =
      ends (seqs [updTwb b fun x => { x with queue := l }, hostqUpdate b, jobRuns b j]) s := by
  show ends _ s = _
  simp [ends, hrun, hbusy, hdead, hagent, hqueue, hserves, hhost]

theorem execTwbTransactionStart_starts {l : List TwbJob} (hs : s.stopped = false) (hrun : (s.bus b).run = none)
    (hbusy : s.flag Reg.TWB_STATUS.BUSY b = false) (hdead : s.flag Reg.TWB_STATUS.BUS_DEAD b = false) (hagent : (s.bus b).agent = [])
    (hqueue : (s.bus b).queue = j :: l) (hserves : s.busServes b j = true) (hhost : j.what = 0) :
    Does (.twbTransactionStart b) s fun t => (t.bus b).run = some j ∧ (t.bus b).queue = l ∧ t.rd Reg.TWB_STATUS.BUSY b = 1 ∧
      t.rd Reg.TWB_STATUS.USER b = 2 := by
  refine does_of_ends hs (execTwbTransactionStart_run hrun hbusy hdead hagent hqueue hserves hhost) ?_
  rw [seqs_cons_run, seqs_cons_run, seqs_cons_run, seqs_nil_run]
  refine ⟨jobRuns_run, ?_, jobRuns_shown hhost⟩
  exact bus_after jobRuns_keepsQueue (bus_after (hostqUpdate_touch.keepsBus rfl) (congrArg BusRec.queue updTwb_bus))

/-! The end of a transaction (R407, R422, R432), and the result that waits for a bus agent pair (R30, R434). -/

/-- What the end of a transaction on the wire brings whoever takes its result: the bus is free, and NACKs and PEC errors are counted. -/
def stopSeen (b : Nat) (j : TwbJob) (e : TwbEnd) : Prog := seqs [
  runOver b, countNack b (twbStatus j.par e), if pecRefused j.par e then pecCounted b else .skip,
  if e.whole && ([stOk, stTwbPec, stTwbCount] : List Nat).contains (twbStatus j.par e) then emit (.twbSent b (sentBytes j.par)) else .skip]

theorem execTwbTransactionEnd_run (hrun : (s.bus b).run = some j) : exec (.twbTransactionEnd b e) s = ends (seqs [
    stopSeen b j e,
    if b < 64 ∧ 2 ≤ s.rd Reg.ENG_TASK.STATE (agentTask b) then updTwb b fun x => { x with held := x.held ++ [(j, e, (s.bus b).cancel)] }
    else jobResult b j e (s.bus b).cancel,
    if j.what = 0x0C then updTwb b fun x => { x with araAt := s.time } else .skip]) s := by
  show ends _ s = _
  simp [ends, hrun, stopSeen]

theorem stopSeen_busy : ((stopSeen b j e).run s).rd Reg.TWB_STATUS.BUSY b = 0 := by
  rw [stopSeen, seqs_cons_run]
  exact rd_after (keeps_cons (countNack_touch.keepsRd rfl rfl) (keeps_cons (keeps_ite (pecCounted_touch.keepsRd rfl rfl) keeps_skip)
    (keeps_cons (keeps_ite (emit_touch.keepsRd rfl rfl) keeps_skip) keeps_seqs_nil))) runOver_busy

theorem stopSeen_keepsLast : (stopSeen b j e).Keeps fun u => u.rd Reg.TWB_STATUS.LAST b :=
  keeps_cons (runOver_touch.keepsRd rfl rfl) (keeps_cons (countNack_touch.keepsRd rfl rfl)
    (keeps_cons (keeps_ite (pecCounted_touch.keepsRd rfl rfl) keeps_skip)
      (keeps_cons (keeps_ite (emit_touch.keepsRd rfl rfl) keeps_skip) keeps_seqs_nil)))

theorem stopSeen_keepsHeld : (stopSeen b j e).Keeps fun u => (u.bus b).held :=
  keeps_cons (runOver_keepsBus fun _ _ _ _ => rfl) (keeps_cons (countNack_touch.keepsBus rfl)
    (keeps_cons (keeps_ite (pecCounted_touch.keepsBus rfl) keeps_skip)
      (keeps_cons (keeps_ite (emit_touch.keepsBus rfl) keeps_skip) keeps_seqs_nil)))

/-- A host transfer that ends well shows so in LAST. -/
theorem jobResult_last (hhost : j.what = 0) (hok : twbStatus j.par e = stOk) :
    ((jobResult b j e false).run s).rd Reg.TWB_STATUS.LAST b = stOk := by
  rw [jobResult, Bool.false_and, if_neg (by decide), Bool.false_and, if_neg (by decide), if_neg (by simpa using hok),
    if_neg (by simpa using hhost), seqs_cons_run, seqs_cons_run, seqs_nil_run]
  exact hostDone_last (by decide)

theorem execTwbTransactionEnd_completes (hs : s.stopped = false) (hrun : (s.bus b).run = some j) (hcancel : (s.bus b).cancel = false)
    (hhost : j.what = 0) (hok : twbStatus j.par e = stOk) (hpair : 64 ≤ b ∨ s.rd Reg.ENG_TASK.STATE (agentTask b) < 2) :
    Does (.twbTransactionEnd b e) s fun t => t.rd Reg.TWB_STATUS.LAST b = stOk ∧ t.rd Reg.TWB_STATUS.BUSY b = 0 := by
  refine does_of_ends hs (execTwbTransactionEnd_run hrun) ?_
  rw [if_neg (by omega), if_neg (by omega), hcancel, seqs_cons_run, seqs_cons_run, seqs_cons_run, Prog.run_skip, seqs_nil_run]
  exact ⟨jobResult_last hhost hok, rd_after (jobResult_touch.keepsRd rfl rfl) stopSeen_busy⟩

theorem execTwbTransactionEnd_holds (hs : s.stopped = false) (hrun : (s.bus b).run = some j) (hslot : b < 64)
    (hpair : 2 ≤ s.rd Reg.ENG_TASK.STATE (agentTask b)) (hara : j.what ≠ 0x0C) :
    Does (.twbTransactionEnd b e) s fun t => (t.bus b).held = (s.bus b).held ++ [(j, e, (s.bus b).cancel)] ∧
      t.rd Reg.TWB_STATUS.BUSY b = 0 ∧ t.rd Reg.TWB_STATUS.LAST b = s.rd Reg.TWB_STATUS.LAST b := by
  refine does_of_ends hs (execTwbTransactionEnd_run hrun) ?_
  rw [if_pos ⟨hslot, hpair⟩, if_neg hara, seqs_cons_run, seqs_cons_run, seqs_cons_run, Prog.run_skip, seqs_nil_run]
  refine ⟨?_, stopSeen_busy, stopSeen_keepsLast s⟩
  refine (congrArg BusRec.held updTwb_bus).trans ?_
  exact congrArg (· ++ [(j, e, (s.bus b).cancel)]) (stopSeen_keepsHeld s)

/-! The repeat of an identification transaction (R427). -/

theorem agentQueue_run (hdead : s.flag Reg.TWB_STATUS.BUS_DEAD b = false) :
    (agentQueue b j).run s = (updTwb b fun x => { x with agent := x.agent ++ [j], asleep := false }).run s := by
  rw [agentQueue, Prog.run_read, if_neg (by simp [hdead])]

theorem execIdentBusRetry_queues {t0 : Nat} (hs : s.stopped = false) (hat : (s.slot b).busRetryAt = some t0)
    (hst : s.slSt b = slIdentifying) (hmethod : (s.slot b).method = 1) (htime : t0 ≤ s.time)
    (hdead : s.flag Reg.TWB_STATUS.BUS_DEAD b = false) :
    Does (.identBusRetry b) s fun t => (t.slot b).busRetryAt = none ∧ (t.bus b).agent.length = (s.bus b).agent.length + 1 := by
  refine does_of_ends hs rfl ?_
  rw [Prog.run_read]
  simp only [hat]
  rw [if_pos ⟨hst, hmethod, htime⟩, Prog.run_seq, agentQueue_run ((flag_of_keeps keepsRd_updSlots).trans hdead)]
  refine ⟨slot_after (fun _ => rfl) (congrArg SlotRec.busRetryAt updSlots_slot), ?_⟩
  rw [updTwb_bus, List.length_append]
  rfl

/-! The time-outs of SCL and SDA (R415, R416). -/

theorem execTwbSclTimeout_run (hlong : s.rd Reg.TWB_CFG.TMO_SCL b < ms) (hrun : (s.bus b).run = none) :
    exec (.twbSclTimeout b ms) s = ends (seqs [setR Reg.TWB_STATUS.SCL_TMO 1 b, incSat Reg.TWB_CNT.TIMEOUTS b,
      raise { typ := evTwbTimeout, src := busSrc b, data := dat 16 1 b } (s.busFns b),
      when (fun t => t.rd Reg.TWB_STATUS.USER b == 3) (runOver b)]) s := by
  show ends _ s = _
  simp [ends, hrun, hlong.not_ge]

theorem execTwbSclTimeout_run_host (hlong : s.rd Reg.TWB_CFG.TMO_SCL b < ms) (hrun : (s.bus b).run = some j) (hhost : j.what = 0) :
    exec (.twbSclTimeout b ms) s = ends (seqs [setR Reg.TWB_STATUS.SCL_TMO 1 b, incSat Reg.TWB_CNT.TIMEOUTS b,
      raise { typ := evTwbTimeout, src := busSrc b, data := dat 16 1 b } (s.busFns b), runOver b, jobFails b j stTwbSclTmo]) s := by
  show ends _ s = _
  simp [ends, hrun, hlong.not_ge, hhost]

theorem execTwbSclTimeout_counts (hs : s.stopped = false) (hlong : s.rd Reg.TWB_CFG.TMO_SCL b < ms) (hrun : (s.bus b).run = none) :
    Does (.twbSclTimeout b ms) s fun t => t.rd Reg.TWB_STATUS.SCL_TMO b = 1 ∧
      t.rd Reg.TWB_CNT.TIMEOUTS b = min (s.rd Reg.TWB_CNT.TIMEOUTS b + 1) (2 ^ Reg.TWB_CNT.TIMEOUTS.w - 1) := by
  refine does_of_ends hs (execTwbSclTimeout_run hlong hrun) ?_
  rw [seqs_cons_run]
  constructor
  · exact rd_after (keeps_cons (keepsRd_incSat (by decide)) (keeps_cons (raise_touch.keepsRd rfl rfl)
      (keeps_cons (keeps_when (runOver_touch.keepsRd rfl rfl)) keeps_seqs_nil))) (rd_setR rfl (by decide))
  · rw [seqs_cons_run]
    exact rd_after (keeps_cons (raise_touch.keepsRd rfl rfl) (keeps_cons (keeps_when (runOver_touch.keepsRd rfl rfl)) keeps_seqs_nil))
      (rd_incSat rfl (by decide) rfl (keepsRd_setR (by decide) s))

theorem execTwbSclTimeout_fails (hs : s.stopped = false) (hlong : s.rd Reg.TWB_CFG.TMO_SCL b < ms) (hrun : (s.bus b).run = some j)
    (hhost : j.what = 0) :
    Does (.twbSclTimeout b ms) s fun t => t.rd Reg.TWB_STATUS.SCL_TMO b = 1 ∧ t.rd Reg.TWB_STATUS.LAST b = stTwbSclTmo := by
  refine does_of_ends hs (execTwbSclTimeout_run_host hlong hrun hhost) ?_
  rw [seqs_cons_run]
  constructor
  · exact rd_after (keeps_cons (keepsRd_incSat (by decide)) (keeps_cons (raise_touch.keepsRd rfl rfl)
      (keeps_cons (runOver_touch.keepsRd rfl rfl) (keeps_cons (jobFails_touch.keepsRd rfl rfl) keeps_seqs_nil)))) (rd_setR rfl (by decide))
  · rw [seqs_cons_run, seqs_cons_run, seqs_cons_run, seqs_cons_run]
    exact jobFails_last hhost (by decide)

/-- Recovery has seen SDA high: the bus is idle from now (R416). -/
theorem recoverSda_idles {n : Nat} (hn : n ≤ 9) : (((recoverSda b (some n)).run s).bus b).idleAt = s.time := by
  rw [recoverSda, Prog.run_read]
  dsimp only
  rw [if_pos (decide_eq_true hn), seqs_cons_run, seqs_cons_run, seqs_nil_run, updTwb_bus]

theorem recoverSda_keepsDead {n : Nat} (hn : n ≤ 9) : (recoverSda b (some n)).Keeps fun u => u.rd Reg.TWB_STATUS.BUS_DEAD b :=
  keeps_read fun _ => by
    dsimp only
    rw [if_pos (decide_eq_true hn)]
    exact keeps_cons (raise_touch.keepsRd rfl rfl) (keeps_cons keepsRd_updTwb keeps_seqs_nil)

/-- Recovery has not seen SDA high: the bus is dead (R416, R417). -/
theorem recoverSda_dies : ((recoverSda b none).run s).rd Reg.TWB_STATUS.BUS_DEAD b = 1 := by
  rw [recoverSda, Prog.run_read]
  dsimp only
  rw [if_neg (by decide), seqs_cons_run]
  exact rd_after (keeps_cons (raise_touch.keepsRd rfl rfl) (keeps_cons (deadFlush_touch.keepsRd rfl rfl) keeps_seqs_nil)) (rd_setR rfl (by decide))

/-- A retried transaction that meets a stuck SDA again completes, and leaves its queue. -/
def sdaStuck (s : State) (b : Nat) : Prog :=
  match (s.bus b).agent, (s.bus b).queue with
  | j :: t, _ => if j.retried then .seq (updTwb b fun x => { x with agent := t }) (jobFails b j stTwbSdaStuck) else .skip
  | [], j :: t => if j.retried then seqs [updTwb b fun x => { x with queue := t }, hostqUpdate b, jobFails b j stTwbSdaStuck] else .skip
  | [], [] => .skip

theorem execTwbSdaTimeout_run {pulses : Option Nat} (hlong : s.rd Reg.TWB_CFG.TMO_SDA b < ms) (hrun : (s.bus b).run = none)
    (huser : s.rd Reg.TWB_STATUS.USER b ≠ 3) : exec (.twbSdaTimeout b ms pulses) s =
      ends (seqs [setR Reg.TWB_STATUS.SDA_TMO 1 b, incSat Reg.TWB_CNT.TIMEOUTS b, sdaStuck s b, recoverSda b pulses]) s := by
  have hdue : ¬ (ms < s.rd Reg.TWB_CFG.TMO_SDA b + 1 ∨ (s.bus b).run.isSome = true ∨ s.rd Reg.TWB_STATUS.USER b = 3) := by
    simp [hrun, huser, hlong]
  show ends _ s = _
  rw [ends, Prog.run_read, if_neg hdue]
  rfl

theorem sdaStuck_keepsSdaTmo : (sdaStuck s b).Keeps fun u => u.rd Reg.TWB_STATUS.SDA_TMO b := by
  have hfails {j : TwbJob} : (jobFails b j stTwbSdaStuck).Keeps fun u => u.rd Reg.TWB_STATUS.SDA_TMO b := jobFails_touch.keepsRd rfl rfl
  unfold sdaStuck
  split
  · exact keeps_ite (keeps_seq keepsRd_updTwb hfails) keeps_skip
  · exact keeps_ite (keeps_cons keepsRd_updTwb (keeps_cons (hostqUpdate_touch.keepsRd rfl rfl) (keeps_cons hfails keeps_seqs_nil))) keeps_skip
  · exact keeps_skip

theorem sdaStuck_of_idle (hagent : (s.bus b).agent = []) (hqueue : (s.bus b).queue = []) : sdaStuck s b = .skip := by
  simp [sdaStuck, hagent, hqueue]

theorem execTwbSdaTimeout_idles {n : Nat} (hs : s.stopped = false) (hlong : s.rd Reg.TWB_CFG.TMO_SDA b < ms) (hrun : (s.bus b).run = none)
    (huser : s.rd Reg.TWB_STATUS.USER b ≠ 3) (hagent : (s.bus b).agent = []) (hqueue : (s.bus b).queue = []) (hn : n ≤ 9) :
    Does (.twbSdaTimeout b ms (some n)) s fun t => t.rd Reg.TWB_STATUS.SDA_TMO b = 1 ∧ (t.bus b).idleAt = s.time := by
  refine does_of_ends hs (execTwbSdaTimeout_run hlong hrun huser) ?_
  rw [sdaStuck_of_idle hagent hqueue, seqs_cons_run]
  constructor
  · exact rd_after (keeps_cons (keepsRd_incSat (by decide)) (keeps_cons keeps_skip (keeps_cons (recoverSda_touch.keepsRd rfl rfl) keeps_seqs_nil)))
      (rd_setR rfl (by decide))
  · rw [seqs_cons_run, seqs_cons_run, seqs_cons_run, seqs_nil_run, recoverSda_idles hn]
    simp [incSat]

theorem execTwbSdaTimeout_dies (hs : s.stopped = false) (hlong : s.rd Reg.TWB_CFG.TMO_SDA b < ms) (hrun : (s.bus b).run = none)
    (huser : s.rd Reg.TWB_STATUS.USER b ≠ 3) :
    Does (.twbSdaTimeout b ms none) s fun t => t.rd Reg.TWB_STATUS.SDA_TMO b = 1 ∧ t.rd Reg.TWB_STATUS.BUS_DEAD b = 1 := by
  refine does_of_ends hs (execTwbSdaTimeout_run hlong hrun huser) ?_
  rw [seqs_cons_run]
  constructor
  · exact rd_after (keeps_cons (keepsRd_incSat (by decide)) (keeps_cons sdaStuck_keepsSdaTmo
      (keeps_cons (recoverSda_touch.keepsRd rfl rfl) keeps_seqs_nil))) (rd_setR rfl (by decide))
  · rw [seqs_cons_run, seqs_cons_run, seqs_cons_run, seqs_nil_run]
    exact recoverSda_dies

/-! A lost arbitration (R419, R420). -/

/-- A transaction that has lost arbitration waits at the head of its queue again (R419). -/
def waitsAgain (b : Nat) (x : TwbJob) : Prog :=
  if x.what = 0 then .seq (updTwb b fun y => { y with queue := x :: y.queue }) (hostqUpdate b)
  else updTwb b fun y => { y with agent := x :: y.agent }

theorem waitsAgain_keepsLost : (waitsAgain b j).Keeps fun u => u.rd Reg.TWB_STATUS.ARB_LOST b :=
  keeps_ite (keeps_seq keepsRd_updTwb (hostqUpdate_touch.keepsRd rfl rfl)) keepsRd_updTwb

theorem waitsAgain_keepsRun : (waitsAgain b j).Keeps fun u => (u.bus b).run :=
  keeps_ite (keeps_seq (keepsBus_updTwb fun _ => rfl) (hostqUpdate_touch.keepsBus rfl)) (keepsBus_updTwb fun _ => rfl)

/-- What becomes of the transaction that has lost (R419, R420, R423). -/
def arbLoser (s : State) (b : Nat) (own : Bool) (j : TwbJob) : Prog :=
  if (s.bus b).cancel then dropWaiting b j
  else if own && decide (b ≥ 64) && s.flag Reg.TWB_TGT.EN (b - 64) then .seq (setR Reg.TWB_STATUS.USER 3 b) (waitsAgain b j)
  else if j.arb < s.rd Reg.TWB_CFG.ARB_RETRY b then waitsAgain b { j with arb := j.arb + 1 }
  else jobFails b j stTwbArbLost

theorem arbLoser_keepsLost {own : Bool} : (arbLoser s b own j).Keeps fun u => u.rd Reg.TWB_STATUS.ARB_LOST b :=
  keeps_ite (dropWaiting_touch.keepsRd rfl rfl) (keeps_ite (keeps_seq (keepsRd_setR (by decide)) waitsAgain_keepsLost)
    (keeps_ite waitsAgain_keepsLost (jobFails_touch.keepsRd rfl rfl)))

theorem arbLoser_keepsRun {own : Bool} : (arbLoser s b own j).Keeps fun u => (u.bus b).run :=
  keeps_ite (dropWaiting_touch.keepsBus rfl) (keeps_ite (keeps_seq keepsBus_setR waitsAgain_keepsRun)
    (keeps_ite waitsAgain_keepsRun (jobFails_touch.keepsBus rfl)))

theorem execTwbArbLoss_run {own : Bool} (hrun : (s.bus b).run = some j) : exec (.twbArbLoss b own) s =
    ends (seqs [incSat Reg.TWB_CNT.ARB_LOSSES b, setR Reg.TWB_STATUS.ARB_LOST 1 b,
      updTwb b fun x => { x with run := none, cancel := false }, setR Reg.TWB_STATUS.BUSY 1 b, setR Reg.TWB_STATUS.USER 0 b,
      arbLoser s b own j]) s := by
  show ends _ s = _
  rw [ends, Prog.run_read]
  simp only [hrun]
  rfl

theorem execTwbArbLoss_loses {own : Bool} (hs : s.stopped = false) (hrun : (s.bus b).run = some j) :
    Does (.twbArbLoss b own) s fun t => t.rd Reg.TWB_STATUS.ARB_LOST b = 1 ∧ (t.bus b).run = none := by
  refine does_of_ends hs (execTwbArbLoss_run hrun) ?_
  rw [seqs_cons_run, seqs_cons_run]
  constructor
  · exact rd_after (keeps_cons keepsRd_updTwb (keeps_cons (keepsRd_setR (by decide)) (keeps_cons (keepsRd_setR (by decide))
      (keeps_cons arbLoser_keepsLost keeps_seqs_nil)))) (rd_setR rfl (by decide))
  · rw [seqs_cons_run]
    exact bus_after (keeps_cons keepsBus_setR (keeps_cons keepsBus_setR (keeps_cons arbLoser_keepsRun keeps_seqs_nil)))
      (congrArg BusRec.run updTwb_bus)

end

/-- Settles O37: what follows a transaction's own effect leaves that effect as it was. -/
theorem busTransactions : Obligations.BusTransactions := by
  unfold Obligations.BusTransactions
  intro s b hs
  refine ⟨?_, ?_, ?_, ?_, ?_, ?_, ?_, ?_, ?_⟩
  · intro j l
    exact execTwbTransactionStart_starts hs
  · intro j e
    exact execTwbTransactionEnd_completes hs
  · intro j e
    exact execTwbTransactionEnd_holds hs
  · intro t0
    exact execIdentBusRetry_queues hs
  · intro ms
    exact execTwbSclTimeout_counts hs
  · intro ms j
    exact execTwbSclTimeout_fails hs
  · intro ms n
    exact execTwbSdaTimeout_idles hs
  · intro ms
    exact execTwbSdaTimeout_dies hs
  · intro j own
    exact execTwbArbLoss_loses hs

end Sys2Proof.Machine
end

section
/-! The alert line, cancelling, recovery and foreign traffic of a two-wire bus (R414, R416 to R418, R421, R429, R430). -/

namespace Sys2Proof.Machine

section

variable {s : State} {b : Nat} {j : TwbJob}

/-! Sleep and the alert line (R414, R430). -/

theorem execTwbSleep_sleeps (hs : s.stopped = false) (hsys : 64 ≤ b) (hen : s.flag Reg.TWB_CFG.SLEEP_EN b = true)
    (hbusy : s.flag Reg.TWB_STATUS.BUSY b = false) (hrun : (s.bus b).run = none) (hagent : (s.bus b).agent = [])
    (hqueue : (s.bus b).queue = []) (hidle : (s.bus b).idleAt + 1000 ≤ s.time) :
    Does (.twbSleep b) s fun t => (t.bus b).asleep = true := by
  refine does_of_ends hs rfl ?_
  rw [Prog.run_read]
  dsimp only
  rw [if_pos ⟨hsys, hen, by simp [hbusy], hrun, hagent, hqueue, hidle⟩]
  exact congrArg BusRec.asleep updTwb_bus

/-- ALERT shows the line of a system bus: low while another device or the device itself pulls it. -/
theorem alertShow_shows (hsys : 64 ≤ b) : ((alertShow b).run s).flag Reg.TWB_STATUS.ALERT b =
    ((s.bus b).alertIn || s.flag Reg.TWB_TGT.ALERT_REQ (b - 64)) := by
  rw [alertShow, updR_run, decide_eq_true hsys, Bool.true_and]
  exact flag_setR_bit rfl (by decide)

theorem agentQueue_keepsAlertIn : (agentQueue b j).Keeps fun u => (u.bus b).alertIn :=
  keeps_read fun _ => keeps_ite (agentFailed_touch.keepsBus rfl) (keepsBus_updTwb fun _ => rfl)

theorem execTwbAlertIn_shows {low : Bool} (hs : s.stopped = false) (hsys : 64 ≤ b) (hreq : s.flag Reg.TWB_TGT.ALERT_REQ (b - 64) = false) :
    Does (.twbAlertIn b low) s fun t => (t.bus b).alertIn = low ∧ t.flag Reg.TWB_STATUS.ALERT b = low := by
  refine does_of_ends hs rfl ?_
  rw [Prog.run_read, if_neg hsys.not_gt, seqs_cons_run]
  constructor
  · exact bus_after (keeps_cons (alertShow_touch.keepsBus rfl) (keeps_cons (keeps_ite
      (keeps_seq (keepsBus_updTwb fun _ => rfl) agentQueue_keepsAlertIn) keeps_skip) keeps_seqs_nil)) (congrArg BusRec.alertIn updTwb_bus)
  · rw [seqs_cons_run]
    refine (flag_of_keeps (keeps_cons (keeps_ite (keeps_seq keepsRd_updTwb (agentQueue_touch.keepsRd rfl rfl)) keeps_skip) keeps_seqs_nil)).trans ?_
    rw [alertShow_shows hsys, updTwb_bus, flag_of_keeps keepsRd_updTwb, hreq, Bool.or_false]

theorem execTwbAlertReread_queues (hs : s.stopped = false) (hsys : 64 ≤ b) (halert : (s.bus b).alertIn = true)
    (hauto : s.flag Reg.TWB_CFG.ARA_AUTO b = true) (hat : (s.bus b).araAt + 100000 ≤ s.time) (hagent : (s.bus b).agent = [])
    (hdead : s.flag Reg.TWB_STATUS.BUS_DEAD b = false) (hrun : (s.bus b).run = none) :
    Does (.twbAlertReread b) s fun t => (t.bus b).agent = [araJob] ∧ (t.bus b).araAt = s.time := by
  refine does_of_ends hs rfl ?_
  rw [Prog.run_read]
  dsimp only
  rw [if_pos ⟨hsys, halert, hauto, hat, hagent, hrun⟩, Prog.run_seq, agentQueue_run ((flag_of_keeps keepsRd_updTwb).trans hdead),
    updTwb_bus, updTwb_bus]
  exact ⟨congrArg (· ++ [araJob]) hagent, rfl⟩

theorem execAlertReq_shows {v : Bool} (hsys : 64 ≤ b) (hbar : s.barOn = true) (hon : s.blockOn (Reg.TWB_TGT.ALERT_REQ.addr (b - 64) 0 0) = true) :
    Does (.alertReq b v) s fun t => t.flag Reg.TWB_TGT.ALERT_REQ (b - 64) = v ∧ t.flag Reg.TWB_STATUS.ALERT b = ((s.bus b).alertIn || v) := by
  refine does_of_pfWrites hbar hon rfl (congrFun (if_neg hsys.not_gt) s) ?_
  have hreq : ((setR Reg.TWB_TGT.ALERT_REQ (bit v) (b - 64)).run s).flag Reg.TWB_TGT.ALERT_REQ (b - 64) = v := flag_setR_bit rfl (by decide)
  rw [Prog.run_seq, alertShow_shows hsys, hreq, setR_run, State.wr_bus]
  exact ⟨(flag_of_keeps (alertShow_touch.keepsRd rfl rfl)).trans hreq, rfl⟩

/-! Cancelling (R421, R422). -/

/-- What waits on a bus is cancelled at once. -/
theorem busCancel_queue {p : TwbJob → Bool} : (((busCancel b p).run s).bus b).queue = (s.bus b).queue.filter fun j => !p j := by
  rw [busCancel, Prog.run_read, seqs_cons_run]
  exact bus_after (keeps_cons (hostqUpdate_touch.keepsBus rfl) (keeps_cons (keeps_each fun _ => dropWaiting_touch.keepsBus rfl) keeps_seqs_nil))
    (congrArg BusRec.queue updTwb_bus)

theorem execCancel_cancels (hbar : s.barOn = true) (hon : s.blockOn (Reg.TWB_CTRL.CANCEL.addr b 0 0) = true) :
    Does (.cancel b) s fun t => (t.bus b).queue = (s.bus b).queue.filter fun j => j.what != 0 :=
  does_of_pfWrites hbar hon rfl rfl busCancel_queue

theorem execTwbXferTimeout_cancels {t0 : Nat} (hs : s.stopped = false) (hqueue : (s.bus b).queue = [j]) (hdeadline : j.deadline = some t0)
    (hdue : t0 ≤ s.time) : Does (.twbXferTimeout b) s fun t => (t.bus b).queue = [] := by
  refine does_of_ends hs rfl ?_
  rw [Prog.run_read, busCancel_queue, hqueue]
  simp [hdeadline, hdue]

/-! Recovery on the PF's order (R416, R417). -/

theorem execRecover_dies (hbar : s.barOn = true) (hon : s.blockOn (Reg.TWB_CTRL.RECOVER.addr b 0 0) = true) :
    Does (.recover b none) s fun t => t.rd Reg.TWB_STATUS.BUS_DEAD b = 1 :=
  does_of_pfWrites hbar hon rfl rfl recoverSda_dies

theorem execRecover_recovers {n : Nat} (hbar : s.barOn = true) (hon : s.blockOn (Reg.TWB_CTRL.RECOVER.addr b 0 0) = true) (hn : n ≤ 9) :
    Does (.recover b (some n)) s fun t => t.rd Reg.TWB_STATUS.BUS_DEAD b = 0 := by
  refine does_of_pfWrites hbar hon rfl rfl ?_
  rw [Prog.run_seq]
  exact rd_after (recoverSda_keepsDead hn) (rd_setR rfl (by decide))

/-! Other controllers' traffic (R418), and the target role (R414, R429). -/

theorem execTwbStartSeen_busy (hs : s.stopped = false) (hrun : (s.bus b).run = none) :
    Does (.twbStartSeen b false) s fun t => t.rd Reg.TWB_STATUS.BUSY b = 1 := by
  refine does_of_ends hs rfl ?_
  rw [Prog.run_read, if_neg (by simp [hrun]), if_neg (by decide)]
  exact rd_setR rfl (by decide)

theorem execTwbStartSeen_free (hs : s.stopped = false) (hrun : (s.bus b).run = none) :
    Does (.twbStartSeen b true) s fun t => t.rd Reg.TWB_STATUS.BUSY b = 0 := by
  refine does_of_ends hs rfl ?_
  rw [Prog.run_read, if_neg (by simp [hrun]), if_pos rfl]
  exact runOver_busy

variable {p : TwbTgt}

/-- The device takes a transaction that names its own address on a system bus in power. -/
theorem execTwbTargetTransaction_run (hsys : 64 ≤ b) (hlast : b ≤ 65) (hrun : (s.bus b).run = none)
    (hdom : hasBit (s.rd Reg.PWR_DOM.ON) (b - 42) = true) (hen : s.flag Reg.TWB_TGT.EN (b - 64) = true)
    (haddr : p.addr = s.rd Reg.TWB_TGT.ADDR (b - 64)) :
    exec (.twbTargetTransaction b p) s = ends (seqs [targetWake b, targetServe b p, runOver b]) s := by
  have htakes : ¬ (b < 64 ∨ b > 65 ∨ (s.bus b).run.isSome = true ∨ ¬ hasBit (s.rd Reg.PWR_DOM.ON) (b - 42) = true) := by
    simp [hrun, hdom, hsys, hlast]
  have hnamed : s.flag Reg.TWB_TGT.EN (b - 64) = true ∧ p.addr = s.rd Reg.TWB_TGT.ADDR (b - 64) := ⟨hen, haddr⟩
  show ends _ s = _
  rw [ends, Prog.run_read, if_neg htakes, if_pos hnamed]
  rfl

theorem targetWake_run_of_awake (h : (s.bus b).asleep = false) : (targetWake b).run s = s := by
  rw [targetWake, Prog.run_read, if_neg (by simp [h]), Prog.run_skip]

/-- A request for RUN moves no work of a bus. -/
theorem requestBy_run_keepsBus {β : Type} {w : BusRec → β} {n src : Nat} : (requestBy mRun src).Keeps fun u => w (u.bus n) :=
  keeps_read fun _ => keeps_ite (fun _ => rfl) (requestRun_touch.keepsBus rfl)

theorem targetWake_awake (h : (s.bus b).asleep = true) : (((targetWake b).run s).bus b).asleep = false := by
  rw [targetWake, Prog.run_read, if_pos h, seqs_cons_run]
  exact bus_after (keeps_cons (keeps_ite requestBy_run_keepsBus keeps_skip) keeps_seqs_nil) (congrArg BusRec.asleep updTwb_bus)

/-- A block fills the receive mailbox (R429). -/
theorem rxTake_fills {data : List Nat} {checked : Bool} (hlen : data.length ≤ 32) :
    ((rxTake b data checked).run s).flag Reg.TWB_TGT.RX_FULL (b - 64) = true ∧
      ((rxTake b data checked).run s).rd Reg.TWB_TGT.RX_LEN (b - 64) = data.length := by
  rw [rxTake, seqs_cons_run, seqs_cons_run]
  constructor
  · rw [seqs_cons_run]
    exact flag_of_rd (rd_after (keeps_cons (raisePf_touch.keepsRd rfl rfl) keeps_seqs_nil) (rd_setR rfl (by decide)))
  · exact rd_after (keeps_cons (keepsRd_setR (by decide)) (keeps_cons (raisePf_touch.keepsRd rfl rfl) keeps_seqs_nil))
      (rd_setR rfl (show data.length < 2 ^ 8 by omega))

theorem targetServe_run_block (hcmd : p.cmd = 1) (hwrite : p.read = false) (hfull : s.flag Reg.TWB_TGT.RX_FULL (b - 64) = false)
    (hdata : p.data ≠ []) (hlen : p.data.length ≤ 32) (hpec : p.pec = none) : (targetServe b p).run s = (rxTake b p.data false).run s := by
  have htakes : ¬ (s.flag Reg.TWB_TGT.RX_FULL (b - 64) = true ∨ p.data.isEmpty = true ∨ p.data.length > 32) := by simp [hfull, hdata, hlen]
  rw [targetServe, Prog.run_read]
  dsimp only
  rw [if_pos ⟨hcmd, by simp [hwrite]⟩, if_neg htakes, hpec]

theorem execTwbTargetTransaction_fills (hs : s.stopped = false) (hsys : 64 ≤ b) (hlast : b ≤ 65) (hrun : (s.bus b).run = none)
    (hdom : hasBit (s.rd Reg.PWR_DOM.ON) (b - 42) = true) (hawake : (s.bus b).asleep = false) (hen : s.flag Reg.TWB_TGT.EN (b - 64) = true)
    (haddr : p.addr = s.rd Reg.TWB_TGT.ADDR (b - 64)) (hcmd : p.cmd = 1) (hwrite : p.read = false)
    (hfull : s.flag Reg.TWB_TGT.RX_FULL (b - 64) = false) (hdata : p.data ≠ []) (hlen : p.data.length ≤ 32) (hpec : p.pec = none) :
    Does (.twbTargetTransaction b p) s fun t => t.flag Reg.TWB_TGT.RX_FULL (b - 64) = true ∧
      t.rd Reg.TWB_TGT.RX_LEN (b - 64) = p.data.length := by
  refine does_of_ends hs (execTwbTargetTransaction_run hsys hlast hrun hdom hen haddr) ?_
  rw [seqs_cons_run, targetWake_run_of_awake hawake, seqs_cons_run, targetServe_run_block hcmd hwrite hfull hdata hlen hpec]
  obtain ⟨hrx, hrxLen⟩ := rxTake_fills (s := s) (b := b) (checked := false) hlen
  exact ⟨(flag_of_keeps (keeps_cons (runOver_touch.keepsRd rfl rfl) keeps_seqs_nil)).trans hrx,
    rd_after (keeps_cons (runOver_touch.keepsRd rfl rfl) keeps_seqs_nil) hrxLen⟩

theorem execTwbTargetTransaction_wakes (hs : s.stopped = false) (hsys : 64 ≤ b) (hlast : b ≤ 65) (hrun : (s.bus b).run = none)
    (hdom : hasBit (s.rd Reg.PWR_DOM.ON) (b - 42) = true) (hasleep : (s.bus b).asleep = true) (hen : s.flag Reg.TWB_TGT.EN (b - 64) = true)
    (haddr : p.addr = s.rd Reg.TWB_TGT.ADDR (b - 64)) : Does (.twbTargetTransaction b p) s fun t => (t.bus b).asleep = false := by
  refine does_of_ends hs (execTwbTargetTransaction_run hsys hlast hrun hdom hen haddr) ?_
  rw [seqs_cons_run]
  exact bus_after (keeps_cons (targetServe_touch.keepsBus rfl) (keeps_cons (runOver_keepsBus fun _ _ _ _ => rfl) keeps_seqs_nil))
    (targetWake_awake hasleep)

end

/-- Settles O38: each command at its own effect, which what follows it leaves alone. -/
theorem busLines : Obligations.BusLines := by
  unfold Obligations.BusLines
  intro s b hs
  refine ⟨?_, ?_, ?_, ?_, ?_, ?_, ?_, ?_, ?_, ?_, ?_, ?_⟩
  · exact execTwbSleep_sleeps hs
  · intro low
    exact execTwbAlertIn_shows hs
  · exact execTwbAlertReread_queues hs
  · intro v
    exact execAlertReq_shows
  · exact execCancel_cancels
  · exact execRecover_dies
  · intro n
    exact execRecover_recovers
  · intro j t0
    exact execTwbXferTimeout_cancels hs
  · exact execTwbStartSeen_busy hs
  · exact execTwbStartSeen_free hs
  · intro p
    exact execTwbTargetTransaction_fills hs
  · intro p
    exact execTwbTargetTransaction_wakes hs

end Sys2Proof.Machine
end

section
/-! The register space (R2, R578, R614, R615, R617 to R619): a word that is taken, the record of an ignored write, the latched device time, and the
word that a read returns. -/

namespace Sys2Proof.Machine

section

variable {s : State} {a v cause : Nat} {env : StartEnv} {pulses : Option Nat}

/-! The record of an ignored write (R618, R619). -/

theorem accErr_run (hvalid : s.flag Reg.GLB_ACC_ERR.VALID = false) : (accErr a cause).run s = (seqs [incSat Reg.GLB_ACC_ERR.COUNT,
    setR Reg.GLB_ACC_ERR.VALID 1, setR Reg.GLB_ACC_ERR.CAUSE cause, setR Reg.GLB_ACC_ERR.ADDR a]).run s := by
  rw [accErr, Prog.run_read, hvalid, if_neg (by decide)]
  rfl

theorem accErr_valid (hvalid : s.flag Reg.GLB_ACC_ERR.VALID = false) : ((accErr a cause).run s).rd Reg.GLB_ACC_ERR.VALID = 1 := by
  rw [accErr_run hvalid, seqs_cons_run, seqs_cons_run]
  exact rd_after (keeps_cons (keepsRd_setR (by decide)) (keeps_cons (keepsRd_setR (by decide)) keeps_seqs_nil)) (rd_setR rfl (by decide))

theorem accErr_cause (hvalid : s.flag Reg.GLB_ACC_ERR.VALID = false) (hcause : cause < 2 ^ 3) :
    ((accErr a cause).run s).rd Reg.GLB_ACC_ERR.CAUSE = cause := by
  rw [accErr_run hvalid, seqs_cons_run, seqs_cons_run, seqs_cons_run]
  exact rd_after (keeps_cons (keepsRd_setR (by decide)) keeps_seqs_nil) (rd_setR rfl hcause)

theorem accErr_addr (hvalid : s.flag Reg.GLB_ACC_ERR.VALID = false) (ha : a < 2 ^ 20) :
    ((accErr a cause).run s).rd Reg.GLB_ACC_ERR.ADDR = a := by
  rw [accErr_run hvalid, seqs_cons_run, seqs_cons_run, seqs_cons_run, seqs_cons_run]
  exact rd_setR rfl ha

/-- A word of the PF is 32 bits of what it wrote (R614). -/
theorem does_of_pfWord_mod {P : State → Prop} (ha : a % 4 = 0) (h : P ((pfWrite32 a (v % 2 ^ 32) env pulses).run s)) :
    Does (.registerWrite pfFn a 4 v env pulses) s P := by
  refine does_of_always rfl ?_
  have hkind : accessKind a 4 = 0 := if_pos (.inl ⟨rfl, ha⟩)
  rw [hkind]
  exact h

/-- A write to reserved space is ignored (R618). -/
theorem pfWrite32_reserved (hbar : s.barOn = true) (hfields : fieldsAt a = []) (hview : viewAt a = false) :
    (pfWrite32 a v env pulses).run s = (accErr a 1).run s := by
  rw [pfWrite32, Prog.run_read]
  simp [hbar, hfields, hview]

/-- A write to a register whose power domain is off, or stands still, is ignored (R617). -/
theorem pfWrite32_off (hbar : s.barOn = true) (hfields : fieldsAt a ≠ []) (hoff : s.blockOn a = false) :
    (pfWrite32 a v env pulses).run s = (accErr a 3).run s := by
  rw [pfWrite32, Prog.run_read]
  simp [hbar, hfields, hoff]

theorem execRegisterWrite_reserved (hbar : s.barOn = true) (ha : a % 4 = 0) (hfields : fieldsAt a = []) (hview : viewAt a = false)
    (hspace : a < 2 ^ 20) (hvalid : s.flag Reg.GLB_ACC_ERR.VALID = false) :
    Does (.registerWrite pfFn a 4 v env pulses) s fun t => t.rd Reg.GLB_ACC_ERR.CAUSE = 1 ∧ t.rd Reg.GLB_ACC_ERR.ADDR = a ∧
      t.rd Reg.GLB_ACC_ERR.VALID = 1 := by
  refine does_of_pfWord_mod ha ?_
  rw [pfWrite32_reserved hbar hfields hview]
  exact ⟨accErr_cause hvalid (by decide), accErr_addr hvalid hspace, accErr_valid hvalid⟩

theorem execRegisterWrite_off (hbar : s.barOn = true) (ha : a % 4 = 0) (hfields : fieldsAt a ≠ []) (hoff : s.blockOn a = false)
    (hspace : a < 2 ^ 20) (hvalid : s.flag Reg.GLB_ACC_ERR.VALID = false) :
    Does (.registerWrite pfFn a 4 v env pulses) s fun t => t.rd Reg.GLB_ACC_ERR.CAUSE = 3 ∧ t.rd Reg.GLB_ACC_ERR.ADDR = a := by
  refine does_of_pfWord_mod ha ?_
  rw [pfWrite32_off hbar hfields hoff]
  exact ⟨accErr_cause hvalid (by decide), accErr_addr hvalid hspace⟩

/-! Requests that complete with Completer Abort (R615). -/

theorem execMisalignedAccess_run {size : Nat} {write : Bool} (hbar : s.barOn = true) (hkind : accessKind a size = 2) :
    exec (.misalignedAccess pfFn a size write) s =
      endsAlways (.seq (emit (.aer pfFn)) (if write then accErr a 2 else .skip)) s := by
  show endsAlways _ s = _
  simp [endsAlways, hkind, abortRequest, when, hbar]

theorem execMisalignedAccess_records {size : Nat} (hbar : s.barOn = true) (hkind : accessKind a size = 2)
    (hvalid : s.flag Reg.GLB_ACC_ERR.VALID = false) :
    Does (.misalignedAccess pfFn a size true) s fun t => t.rd Reg.GLB_ACC_ERR.CAUSE = 2 ∧ t.out = .aer pfFn :: s.out := by
  refine does_of_always (execMisalignedAccess_run hbar hkind) ?_
  rw [Prog.run_seq, if_pos rfl]
  exact ⟨accErr_cause ((flag_of_keeps (emit_touch.keepsRd rfl rfl)).trans hvalid) (by decide), accErr_touch.out _ rfl⟩

theorem execMisalignedAccess_reports {size : Nat} (hbar : s.barOn = true) (hkind : accessKind a size = 2) :
    Does (.misalignedAccess pfFn a size false) s fun t => t.out = .aer pfFn :: s.out :=
  does_of_always (execMisalignedAccess_run hbar hkind) rfl

/-! Device time, whose upper word a read of the lower one latches (R578). -/

theorem execGlbTimeRead_latches (hbar : s.barOn = true) (htime : s.time < 2 ^ 64) :
    Does .glbTimeRead s fun t => t.rd Reg.GLB_TIME_LO.TIME_LO + 2 ^ 32 * t.rd Reg.GLB_TIME_HI.TIME_HI = s.time := by
  refine does_of_always rfl ?_
  rw [when_run, if_pos hbar, Prog.run_read, Prog.run_seq]
  have hlo : ((setR Reg.GLB_TIME_LO.TIME_LO (s.time % 2 ^ 32)).run s).rd Reg.GLB_TIME_LO.TIME_LO = s.time % 2 ^ 32 :=
    rd_setR rfl (Nat.mod_lt _ (by decide))
  rw [rd_after (keepsRd_setR (by decide)) hlo, rd_setR rfl (show s.time / 2 ^ 32 < 2 ^ 32 by omega)]
  exact Nat.mod_add_div _ _

/-! A word that is taken (R429, R618): the transmit mailbox, each of whose words is one field. -/

/-- Word `w` of a transmit mailbox at its place. -/
def txPlace (t w : Nat) : Place := (Reg.TWB_TGT_TX.TX, t, w, 0)

variable {t0 w : Nat}

theorem fieldsAt_tx (ht : t0 < 2) (hw : w < 8) : fieldsAt (Reg.TWB_TGT_TX.TX.addr t0 w 0) = [txPlace t0 w] := by
  have hall : ∀ (t : Fin 2) (w : Fin 8), fieldsAt (Reg.TWB_TGT_TX.TX.addr t w 0) = [txPlace t w] := by decide +kernel
  exact hall ⟨t0, ht⟩ ⟨w, hw⟩

theorem ofWord_tx (hv : v < 2 ^ 32) : (txPlace t0 w).1.ofWord v = v := by
  show v / 2 ^ 0 % 2 ^ 32 = v
  omega

theorem changes_txPlace (hv : v < 2 ^ 32) : s.changes [txPlace t0 w] v = if s.rd Reg.TWB_TGT_TX.TX t0 w = v then [] else [txPlace t0 w] := by
  have hfilter : ((txPlace t0 w).1.settable && s.at (txPlace t0 w) != (txPlace t0 w).1.ofWord v) =
      !decide (s.rd Reg.TWB_TGT_TX.TX t0 w = v) := by rw [ofWord_tx hv]; rfl
  rw [State.changes, List.filter_singleton, hfilter]
  split <;> simp [*]

theorem rangeCause_tx (hv : v < 2 ^ 32) : (txPlace t0 w).1.rangeCause ((txPlace t0 w).1.ofWord v) = 0 := by
  have hfits : v % 2 ^ (txPlace t0 w).1.w = v := Nat.mod_eq_of_lt hv
  rw [ofWord_tx hv, Fld.rangeCause, hfits]
  simp [txPlace, Reg.TWB_TGT_TX.TX]

/-- The mailbox takes every value, in every state (R618). -/
theorem writeCause_tx (hv : v < 2 ^ 32) {fn : Nat} : s.writeCause [txPlace t0 w] fn v = 0 := by
  rw [State.writeCause, changes_txPlace hv]
  split
  · rfl
  · have hrange : ([txPlace t0 w].any fun x => x.1.rangeCause (x.1.ofWord v) != 0) = false := by simp [rangeCause_tx hv]
    have hclash : s.clash [txPlace t0 w] [txPlace t0 w] v = false := by
      simp only [State.clash, hrange]
      rfl
    have hbarred : s.barred [txPlace t0 w] fn v = false := rfl
    simp only [hclash, hbarred]
    rfl

/-- Nothing follows a change of the mailbox but the new word. -/
theorem writeTaken_tx {fn : Nat} (hv : v < 2 ^ 32) : ((writeTaken s [txPlace t0 w] fn v env pulses).run s).rd Reg.TWB_TGT_TX.TX t0 w = v := by
  rw [writeTaken, changes_txPlace hv]
  split
  · assumption
  · show ((setR Reg.TWB_TGT_TX.TX ((txPlace t0 w).1.ofWord v) t0 w 0).run s).rd Reg.TWB_TGT_TX.TX t0 w = v
    rw [ofWord_tx hv]
    exact rd_setR rfl hv

theorem addr_tx (ht : t0 < 2) (hw : w < 8) : Reg.TWB_TGT_TX.TX.addr t0 w 0 % 4 = 0 ∧ 0x34000 ≤ Reg.TWB_TGT_TX.TX.addr t0 w 0 := by
  have haddr : Reg.TWB_TGT_TX.TX.addr t0 w 0 = 0x64020 + t0 * 0x100 + w * 4 + 0 * 0 := rfl
  rw [haddr]
  omega

theorem execRegisterWrite_tx (hbar : s.barOn = true) (ht : t0 < 2) (hw : w < 8) (hv : v < 2 ^ 32)
    (hon : s.blockOn (Reg.TWB_TGT_TX.TX.addr t0 w 0) = true) :
    Does (.registerWrite pfFn (Reg.TWB_TGT_TX.TX.addr t0 w 0) 4 v env pulses) s fun t => t.rd Reg.TWB_TGT_TX.TX t0 w = v := by
  obtain ⟨halign, hplace⟩ := addr_tx ht hw
  have hslt : s.sltWaits (Reg.TWB_TGT_TX.TX.addr t0 w 0) = false := by simp [State.sltWaits, hplace.not_gt]
  refine does_of_pfWord halign hv ?_
  rw [pfWrite32, Prog.run_read, fieldsAt_tx ht hw]
  dsimp only
  rw [hbar, hon, hslt, writeCause_tx hv]
  exact writeTaken_tx hv

end

section

variable {s : State} {f : Nat → Bool} {i n fn a b : Nat}

/-! The word that a read returns (R2, R614). -/

/-- The number of `n` bits whose bit `b` is `f b`. -/
def bitSum (f : Nat → Bool) (n : Nat) : Nat := ((List.range n).map fun b => bit (f b) * 2 ^ b).sum

theorem bitSum_succ : bitSum f (n + 1) = 2 ^ n * bit (f n) + bitSum f n := by
  simp [bitSum, List.range_succ, Nat.mul_comm, Nat.add_comm]

theorem bitSum_lt : bitSum f n < 2 ^ n := by
  induction n with
  | zero => simp [bitSum]
  | succ n ih =>
    have hbit : bit (f n) ≤ 1 := by cases f n <;> decide
    have htop : 2 ^ n * bit (f n) ≤ 2 ^ n * 1 := Nat.mul_le_mul_left _ hbit
    rw [bitSum_succ, Nat.pow_succ]
    omega

theorem hasBit_eq_testBit (v i : Nat) : hasBit v i = v.testBit i := by
  rw [Nat.testBit_eq_decide_div_mod_eq]
  rfl

theorem hasBit_bitSum (h : i < n) : hasBit (bitSum f n) i = f i := by
  rw [hasBit_eq_testBit]
  induction n with
  | zero => exact absurd h (Nat.not_lt_zero i)
  | succ n ih =>
    rw [bitSum_succ, Nat.testBit_two_pow_mul_add _ bitSum_lt]
    split
    · exact ih ‹_›
    · have hi : i = n := by omega
      subst hi
      rw [Nat.sub_self]
      cases f i <;> rfl

theorem barRead_eq : s.barRead fn a = bitSum ((s.seen fn a).wordBit (s.placesAt fn a)) 32 := rfl

/-- A bit that no field holds reads zero (R2). -/
theorem wordBit_reserved {l : List Place} (h : ∀ x ∈ l, b < x.1.lo ∨ x.1.lo + x.1.w ≤ b) : s.wordBit l b = false := by
  rw [State.wordBit, List.any_eq_false]
  intro x hx
  have := h x hx
  simp only [Bool.and_eq_true, decide_eq_true_eq, not_and]
  omega

theorem barRead_lt : s.barRead fn a < 2 ^ 32 := by
  rw [barRead_eq]
  exact bitSum_lt

theorem hasBit_barRead (hb : b < 32) : hasBit (s.barRead fn a) b = (s.seen fn a).wordBit (s.placesAt fn a) b := by
  rw [barRead_eq, hasBit_bitSum hb]

end

/-- Settles O60: the address decides what becomes of a written word, and a read is the sum of its bits. -/
theorem registerSpace : Obligations.RegisterSpace := by
  unfold Obligations.RegisterSpace
  constructor
  · intro s hbar
    refine ⟨?_, ?_, ?_, ?_, ?_, ?_⟩
    · intro t0 w v env pulses
      exact execRegisterWrite_tx hbar
    · intro a v env pulses
      exact execRegisterWrite_reserved hbar
    · intro a v env pulses
      exact execRegisterWrite_off hbar
    · rintro a size fn hkind rfl
      exact execMisalignedAccess_records hbar hkind
    · intro a size
      exact execMisalignedAccess_reports hbar
    · exact execGlbTimeRead_latches hbar
  · intro s fn a
    exact ⟨barRead_lt, fun b hb hreserved => (hasBit_barRead hb).trans (wordBit_reserved hreserved), fun b => hasBit_barRead, fun vf => rfl⟩

end Sys2Proof.Machine
end

section
/-! The canonical form of the tables (R5, chapter 16): every update keeps it, and so does every program. -/

set_option Elab.async false

namespace Sys2Proof.Machine

section

variable {s : State}

/-- The cells of the register file as `State.wf` asks for them: strictly rising keys, values of 32 bits. -/
def regsWf (l : List (Nat × Nat)) : Bool :=
  decide (l.Pairwise fun a b => a.1 < b.1) && l.all fun e => decide (e.2 < 2 ^ 32)

theorem regsWf_iff {l : List (Nat × Nat)} :
    regsWf l = true ↔ l.Pairwise (fun a b => a.1 < b.1) ∧ ∀ e ∈ l, e.2 < 2 ^ 32 := by
  simp [regsWf]

theorem regsWf_filter {l : List (Nat × Nat)} (q : Nat × Nat → Bool) (h : regsWf l = true) : regsWf (l.filter q) = true := by
  rw [regsWf_iff] at h ⊢
  exact ⟨h.1.filter q, fun e he => h.2 e (List.mem_of_mem_filter he)⟩

theorem regsWf_put {l : List (Nat × Nat)} {d k v : Nat} (hv : v < 2 ^ 32) (h : regsWf l = true) : regsWf (Tab.put d l k v) = true := by
  unfold Tab.put
  split
  · exact regsWf_filter _ h
  · rw [regsWf_iff] at h ⊢
    refine ⟨Tab.rising_ins k v h.1, fun e he => ?_⟩
    rcases Tab.mem_ins k v he with rfl | he
    · exact hv
    · exact h.2 e he

theorem mod_min_lt (v w : Nat) : v % 2 ^ min w 32 < 2 ^ 32 :=
  (Nat.mod_lt _ (Nat.two_pow_pos _)).trans_le (Nat.pow_le_pow_right (by omega) (min_le_right _ _))

theorem regsWf_wr (f : Fld) (i j k v : Nat) (h : regsWf s.regs = true) : regsWf (s.wr f i j k v).regs = true := by
  unfold State.wr
  split
  · exact h
  · exact regsWf_put (mod_min_lt _ _) h

theorem regsWf_clear (classes : List Keep) (kp : Nat → Bool) (h : regsWf s.regs = true) : regsWf (clearedCells classes kp s.regs) = true :=
  regsWf_filter _ h

theorem State.wf_iff : s.wf = true ↔
    regsWf s.regs = true ∧ Tab.wf {} s.fns = true ∧ Tab.wf {} s.rings = true ∧ Tab.wf {} s.lanes = true ∧ Tab.wf {} s.chans = true ∧
    Tab.wf {} s.slots = true ∧ Tab.wf {} s.gauges = true ∧ Tab.wf {} s.keepLocs = true ∧ Tab.wf {} s.keys = true ∧ Tab.wf {} s.ports = true ∧
    Tab.wf {} s.twb = true ∧ Tab.wf {} s.srcs = true ∧ Tab.wf {} s.icvs = true ∧ Tab.wf {} s.fcvs = true ∧ Tab.wf {} s.groups = true ∧
    Tab.wf {} s.pairs = true ∧ Tab.wf {} s.tasks = true ∧ Tab.wf {} s.trace = true ∧ Tab.wf {} s.tines = true := by
  simp only [State.wf, regsWf, Bool.and_eq_true, and_assoc]

/-- A primitive update keeps every table in canonical form: that of its own number by the laws of tables, the others as they are. -/
theorem Act.wf_apply (a : Act) (h : s.wf = true) : (a.apply s).wf = true := by
  rw [State.wf_iff] at h ⊢
  cases a with
  | reg f i j k v => simp [h, regsWf_wr]
  | clear classes kp => simp [h, Act.apply, regsWf_clear]
  | _ => simp [h, Act.apply, Tab.wf_put, Tab.wf_map]

/-- A program keeps the canonical form, since each of its updates does. -/
theorem Prog.wf_run (p : Prog) (h : s.wf = true) : (p.run s).wf = true := by
  induction p generalizing s with
  | skip => exact h
  | act a => exact a.wf_apply h
  | seq p q ihp ihq => exact ihq (ihp h)
  | read k ih => exact ih s h

end

end Sys2Proof.Machine
end

section
/-! What every command's program may touch: the fields and the parts of its frame, as a mask (Laws/Touch.lean). -/

set_option Elab.async false

namespace Sys2Proof.Machine

/-- The mask of a list of numbers (`Act.cell`). -/
def maskOf (l : List Nat) : Nat := l.foldr (fun n m => 2 ^ n ||| m) 0

theorem testBit_maskOf {l : List Nat} {n : Nat} : (maskOf l).testBit n = decide (n ∈ l) := by
  induction l with
  | nil => simp [maskOf]
  | cons a l ih =>
    show (2 ^ a ||| maskOf l).testBit n = _
    rw [Nat.testBit_or, Nat.testBit_two_pow, ih]
    simp [eq_comm]

/-- The number of every field of the map and of a reset of classes. -/
def anyField : Nat := 2 ^ 701 - 1

/-- What a command may write: the fields of its list, or any field where it has none; and its parts. -/
def frameMask (c : Instr) : Nat :=
  (match fieldsOf c with
    | some fs => maskOf (fs.map Fld.id) % 2 ^ 700
    | none => anyField) ||| maskOf ((partsOf c).map Part.cell)

theorem fieldTable_id_lt : ∀ f ∈ fieldTable, f.id < 700 := by decide +kernel

theorem Part.le_cell (q : Part) : 701 ≤ q.cell := Nat.le_add_right _ _

theorem Part.cell_injective : Function.Injective Part.cell := fun p q h => by
  rw [← Part.ofNat_ctorIdx p, Nat.add_left_cancel h, Part.ofNat_ctorIdx q]

theorem testBit_frameMask_of_lt {c : Instr} {fs : List Fld} (hfs : fieldsOf c = some fs) {n : Nat} (hn : n < 701)
    (hnot : n ∉ fs.map Fld.id) : (frameMask c).testBit n = false := by
  have hparts : n ∉ (partsOf c).map Part.cell := fun h => by
    obtain ⟨q, -, rfl⟩ := List.mem_map.1 h
    exact absurd q.le_cell (by omega)
  simp only [frameMask, hfs, Nat.testBit_or, Nat.testBit_mod_two_pow, testBit_maskOf, decide_eq_false hnot, decide_eq_false hparts, Bool.and_false,
    Bool.or_false]

theorem testBit_frameMask_part {c : Instr} {q : Part} (hq : q ∉ partsOf c) : (frameMask c).testBit q.cell = false := by
  have hparts : q.cell ∉ (partsOf c).map Part.cell := fun h => hq ((List.mem_map_of_injective Part.cell_injective).1 h)
  have hle := q.le_cell
  rw [frameMask, Nat.testBit_or, testBit_maskOf, decide_eq_false hparts, Bool.or_false]
  split
  · rw [Nat.testBit_mod_two_pow, decide_eq_false (by omega), Bool.false_and]
  · rw [anyField, Nat.testBit_two_pow_sub_one, decide_eq_false (by omega)]

/-- A reset of classes is in the frame of the commands without a list alone. -/
theorem testBit_frameMask_clear {c : Instr} {fs : List Fld} (hfs : fieldsOf c = some fs) : (frameMask c).testBit 700 = false := by
  have hparts : 700 ∉ (partsOf c).map Part.cell := fun h => by
    obtain ⟨q, -, hq⟩ := List.mem_map.1 h
    exact absurd q.le_cell (by omega)
  simp only [frameMask, hfs, Nat.testBit_or, Nat.testBit_mod_two_pow, testBit_maskOf, decide_eq_false hparts, lt_irrefl, decide_false,
    Bool.false_and, Bool.or_false]


/-! A register write (R618) may write any field that a BAR0 shows, and all that follows from one; a challenge alone is out of its reach. -/

section

variable {M : Nat}

/-- A field of the map has its bit in a mask with all of theirs. -/
theorem testBit_of_anyField (hM : anyField &&& M = anyField) {f : Fld} (hf : f ∈ fieldTable) : M.testBit f.id = true := by
  have hany : anyField.testBit f.id = true := by
    have := fieldTable_id_lt f hf
    rw [anyField, Nat.testBit_two_pow_sub_one, decide_eq_true (by omega)]
  rw [← hM, Nat.testBit_and, Bool.and_eq_true] at hany
  exact hany.2

theorem touch_each_mem {α : Type} {l : List α} {g : α → Prog} (h : ∀ x ∈ l, (g x).Touches M) : (each l g).Touches M :=
  touch_seqs fun p hp => by obtain ⟨x, hx, rfl⟩ := List.mem_map.1 hp; exact h x hx

end

/-- Every field, a reset of classes, and every part but the challenges. -/
def registerMask : Nat := 2 ^ 734 - 1

theorem writeTaken_touch {s : State} {fs : List Place} {fn v : Nat} {env : StartEnv} {pulses : Option Nat}
    (hfs : ∀ x ∈ fs, x.1 ∈ fieldTable) : (writeTaken s fs fn v env pulses).Touches registerMask := by
  have field : ∀ x ∈ fs, registerMask.testBit x.1.id = true := fun x hx => testBit_of_anyField (by decide +kernel) (hfs x hx)
  refine touch_seqs_cons (touch_each_mem fun x hx => touch_setR (field x (List.mem_of_mem_filter (List.mem_of_mem_filter hx))))
    (touch_seqs_cons (touch_each_mem fun x hx => touch_setR (field x (List.mem_of_mem_filter hx))) ?_)
  exact ⟨phcHooks_touch.mono (by decide +kernel), slotHooks_touch.mono (by decide +kernel), msrHooks_touch.mono (by decide +kernel),
    busHooks_touch.mono (by decide +kernel), gridHooks_touch.mono (by decide +kernel), engHooks_touch.mono (by decide +kernel),
    hostHooks_touch.mono (by decide +kernel), coreHooks_touch.mono (by decide +kernel), trivial⟩

theorem accErr_registerMask {a cause : Nat} : (accErr a cause).Touches registerMask := accErr_touch.mono (by decide +kernel)

theorem write32_touch {fn a v : Nat} {env : StartEnv} {pulses : Option Nat} : (write32 fn a v env pulses).Touches registerMask := by
  unfold write32
  split
  · refine fun s => ?_
    dsimp only
    split_ifs
    · trivial
    · exact accErr_registerMask
    · exact accErr_registerMask
    · exact sltLater_touch.mono (by decide +kernel)
    · exact writeTaken_touch fun x hx => (mem_fieldsAt hx).1
    · exact ⟨accErr_registerMask, barredFlags_touch.mono (by decide +kernel)⟩
    · exact ⟨accErr_registerMask, trivial⟩
  · refine fun s => ?_
    dsimp only
    split_ifs
    · trivial
    · exact writeTaken_touch fun x hx => (mem_fieldsAtVf hx).1

theorem execRegisterWrite_within {fn a size v : Nat} {env : StartEnv} {pulses : Option Nat} :
    RunsWithin registerMask (execRegisterWrite fn a size v env pulses) := by
  refine endsAlways_within ?_
  split
  · split_ifs
    · exact ⟨write32_touch, write32_touch⟩
    · exact write32_touch
  · split_ifs
    · exact touch_when accErr_registerMask
    · trivial
  · exact abortRequest_touch.mono (by decide +kernel)

set_option maxRecDepth 8192 in
/-- A command runs a program within its frame. -/
theorem exec_within (c : Instr) : RunsWithin (frameMask c) (exec c) := by
  cases c
  case' runnerFlitReceive => refine execRunnerFlitReceive_within.mono ?_
  case' laneFault => refine execLaneFault_within.mono ?_
  case' busSample => refine execBusSample_within.mono ?_
  case' modulatorStuck => refine execModulatorStuck_within.mono ?_
  case' busBelowPack => refine execBusBelowPack_within.mono ?_
  case' sourcePresenceRise => refine execSourcePresenceRise_within.mono ?_
  case' sourceLost => refine execSourceLost_within.mono ?_
  case' sourceQualified => refine execSourceQualified_within.mono ?_
  case' srcLimitWrite => refine execSrcLimitWrite_within.mono ?_
  case' srcModeWrite => refine execSrcModeWrite_within.mono ?_
  case' islandDonorFloor => refine execIslandDonorFloor_within.mono ?_
  case' islandSourceReturn => refine execIslandSourceReturn_within.mono ?_
  case' hbChargerTransition => refine execHbChargerTransition_within.mono ?_
  case' hbFault => refine execHbFault_within.mono ?_
  case' shipWake => refine execShipWake_within.mono ?_
  case' currentUpdate => refine execCurrentUpdate_within.mono ?_
  case' apply => refine execApply_within.mono ?_
  case' riseAbort => refine execRiseAbort_within.mono ?_
  case' softLevelUpdate => refine execSoftLevelUpdate_within.mono ?_
  case' startBackoffEnd => refine execStartBackoffEnd_within.mono ?_
  case' retriesReset => refine execRetriesReset_within.mono ?_
  case' peakLimitTruncate => refine execPeakLimitTruncate_within.mono ?_
  case' phcEnableWrite => refine execPhcEnableWrite_within.mono ?_
  case' syncInEdge => refine execSyncInEdge_within.mono ?_
  case' syncLoss => refine execSyncLoss_within.mono ?_
  case' syncRelock => refine execSyncRelock_within.mono ?_
  case' phaseAddMeasured => refine execPhaseAddMeasured_within.mono ?_
  case' phaseShed => refine execPhaseShed_within.mono ?_
  case' phaseHandoverEnd => refine execPhaseHandoverEnd_within.mono ?_
  case' gangWrite => refine execGangWrite_within.mono ?_
  case' imbalanceCheck => refine execImbalanceCheck_within.mono ?_
  case' drvFault => refine execDrvFault_within.mono ?_
  case' runaway => refine execRunaway_within.mono ?_
  case' commitStale => refine execCommitStale_within.mono ?_
  case' idPinClose => refine execIdPinClose_within.mono ?_
  case' debounceEnd => refine execDebounceEnd_within.mono ?_
  case' wetTestComplete => refine execWetTestComplete_within.mono ?_
  case' idDecode => refine execIdDecode_within.mono ?_
  case' identificationComplete => refine execIdentificationComplete_within.mono ?_
  case' identificationFail => refine execIdentificationFail_within.mono ?_
  case' identRetry => refine execIdentRetry_within.mono ?_
  case' identityLoss => refine execIdentityLoss_within.mono ?_
  case' packRemoval => refine execPackRemoval_within.mono ?_
  case' slotEnableWrite => refine execSlotEnableWrite_within.mono ?_
  case' slotFaultClear => refine execSlotFaultClear_within.mono ?_
  case' chargePhaseAdvance => refine execChargePhaseAdvance_within.mono ?_
  case' cvEntry => refine execCvEntry_within.mono ?_
  case' packSag => refine execPackSag_within.mono ?_
  case' chargePhaseTimeout => refine execChargePhaseTimeout_within.mono ?_
  case' cvMaxExpiry => refine execCvMaxExpiry_within.mono ?_
  case' cvMaxParkFail => refine execCvMaxParkFail_within.mono ?_
  case' slotSuspend => refine execSlotSuspend_within.mono ?_
  case' ntcBothInvalid => refine execNtcBothInvalid_within.mono ?_
  case' taperCheck => refine execTaperCheck_within.mono ?_
  case' serialPoll => refine execSerialPoll_within.mono ?_
  case' transferEnd => refine execTransferEnd_within.mono ?_
  case' auditFillComplete => refine execAuditFillComplete_within.mono ?_
  case' auditRestEnd => refine execAuditRestEnd_within.mono ?_
  case' auditPause => refine execAuditPause_within.mono ?_
  case' auditResume => refine execAuditResume_within.mono ?_
  case' auditEmpty => refine execAuditEmpty_within.mono ?_
  case' auditPauseLimit => refine execAuditPauseLimit_within.mono ?_
  case' fgOvTrip => refine execFgOvTrip_within.mono ?_
  case' fgOcTrip => refine execFgOcTrip_within.mono ?_
  case' fgRvTrip => refine execFgRvTrip_within.mono ?_
  case' fgNtcTrip => refine execFgNtcTrip_within.mono ?_
  case' tickBoundary => refine execTickBoundary_within.mono ?_
  case' tickFreeze => refine execTickFreeze_within.mono ?_
  case' quotaOverRepeat => refine execQuotaOverRepeat_within.mono ?_
  case' resvAtRisk => refine execResvAtRisk_within.mono ?_
  case' resvDeadline => refine execResvDeadline_within.mono ?_
  case' rootHandover => refine execRootHandover_within.mono ?_
  case' almViewSelect => refine execAlmViewSelect_within.mono ?_
  case' mainsCrossing => refine execMainsCrossing_within.mono ?_
  case' icvConversionStart => refine execIcvConversionStart_within.mono ?_
  case' icvIntegrationEnd => refine execIcvIntegrationEnd_within.mono ?_
  case' icvConversionTimeout => refine execIcvConversionTimeout_within.mono ?_
  case' icvPassStart => refine execIcvPassStart_within.mono ?_
  case' icvTrigger => refine execIcvTrigger_within.mono ?_
  case' groupTrigger => refine execGroupTrigger_within.mono ?_
  case' groupStart => refine execGroupStart_within.mono ?_
  case' urgentConversionStart => refine execUrgentConversionStart_within.mono ?_
  case' fcvConversionEnd => refine execFcvConversionEnd_within.mono ?_
  case' refereeFinding => refine execRefereeFinding_within.mono ?_
  case' fcvSelfTest => refine execFcvSelfTest_within.mono ?_
  case' fcvLostInjectionCheck => refine execFcvLostInjectionCheck_within.mono ?_
  case' dacInjectWrite => refine execDacInjectWrite_within.mono ?_
  case' calAverageDone => refine execCalAverageDone_within.mono ?_
  case' coulombSample => refine execCoulombSample_within.mono ?_
  case' gauAccRead => refine execGauAccRead_within.mono ?_
  case' gaugeReportUpdate => refine execGaugeReportUpdate_within.mono ?_
  case' autoZeroTrim => refine execAutoZeroTrim_within.mono ?_
  case' fullAnchor => refine execFullAnchor_within.mono ?_
  case' gaugeSnapshotTimed => refine execGaugeSnapshotTimed_within.mono ?_
  case' currentXcheck => refine execCurrentXcheck_within.mono ?_
  case' currentReferee => refine execCurrentReferee_within.mono ?_
  case' outputVReferee => refine execOutputVReferee_within.mono ?_
  case' pcieLaneFault => refine execPcieLaneFault_within.mono ?_
  case' doorbellPoll => refine execDoorbellPoll_within.mono ?_
  case' descriptorFetch => refine execDescriptorFetch_within.mono ?_
  case' msixModerationTimeout => refine execMsixModerationTimeout_within.mono ?_
  case' statusLineWrite => refine execStatusLineWrite_within.mono ?_
  case' flr => refine execFlr_within.mono ?_
  case' d3hotEntry => refine execD3hotEntry_within.mono ?_
  case' hostReadError => refine execHostReadError_within.mono ?_
  case' doorbellPageWrite => refine execDoorbellPageWrite_within.mono ?_
  case' ringEnableWrite => refine execRingEnableWrite_within.mono ?_
  case' nop => refine execNop_within.mono ?_
  case' slotClaim => refine execSlotClaim_within.mono ?_
  case' slotRelease => refine execSlotRelease_within.mono ?_
  case' chargeStart => refine execChargeStart_within.mono ?_
  case' chargeTerminate => refine execChargeTerminate_within.mono ?_
  case' setLimits => refine execSetLimits_within.mono ?_
  case' reserve => refine execReserve_within.mono ?_
  case' transfer => refine execTransfer_within.mono ?_
  case' audit => refine execAudit_within.mono ?_
  case' gaugeRestore => refine execGaugeRestore_within.mono ?_
  case' gaugeSnapshot => refine execGaugeSnapshot_within.mono ?_
  case' measTableLoad => refine execMeasTableLoad_within.mono ?_
  case' measUrgent => refine execMeasUrgent_within.mono ?_
  case' calZero => refine execCalZero_within.mono ?_
  case' calFull => refine execCalFull_within.mono ?_
  case' twbXfer => refine execTwbXfer_within.mono ?_
  case' pdPolicyHold => refine execPdPolicyHold_within.mono ?_
  case' pdPolicyRelease => refine execPdPolicyRelease_within.mono ?_
  case' pdPolicySet => refine execPdPolicySet_within.mono ?_
  case' pdPolicySoftReset => refine execPdPolicySoftReset_within.mono ?_
  case' pdPolicyHardReset => refine execPdPolicyHardReset_within.mono ?_
  case' enterService => refine execEnterService_within.mono ?_
  case' exitService => refine execExitService_within.mono ?_
  case' wdgAnswer => refine execWdgAnswer_within.mono ?_
  case' fence => refine execFence_within.mono ?_
  case' quotaSet => refine execQuotaSet_within.mono ?_
  case' keyWrite => refine execKeyWrite_within.mono ?_
  case' microcodeStage => refine execMicrocodeStage_within.mono ?_
  case' microcodeStageComplete => refine execMicrocodeStageComplete_within.mono ?_
  case' microcodeRoll => refine execMicrocodeRoll_within.mono ?_
  case' microcodeAbort => refine execMicrocodeAbort_within.mono ?_
  case' microcodeDiscard => refine execMicrocodeDiscard_within.mono ?_
  case' unknownOpcode => refine execUnknownOpcode_within.mono ?_
  case' keepWrite => refine execKeepWrite_within.mono ?_
  case' wdgQuestion => refine execWdgQuestion_within.mono ?_
  case' rateLimit => refine execRateLimit_within.mono ?_
  case' twbTransactionStart => refine execTwbTransactionStart_within.mono ?_
  case' twbTransactionEnd => refine execTwbTransactionEnd_within.mono ?_
  case' identBusRetry => refine execIdentBusRetry_within.mono ?_
  case' twbSclTimeout => refine execTwbSclTimeout_within.mono ?_
  case' twbSdaTimeout => refine execTwbSdaTimeout_within.mono ?_
  case' twbArbLoss => refine execTwbArbLoss_within.mono ?_
  case' twbTargetTransaction => refine execTwbTargetTransaction_within.mono ?_
  case' twbSleep => refine execTwbSleep_within.mono ?_
  case' twbAlertIn => refine execTwbAlertIn_within.mono ?_
  case' twbAlertReread => refine execTwbAlertReread_within.mono ?_
  case' alertReq => refine execAlertReq_within.mono ?_
  case' cancel => refine execCancel_within.mono ?_
  case' recover => refine execRecover_within.mono ?_
  case' twbXferTimeout => refine execTwbXferTimeout_within.mono ?_
  case' pdRdDetect => refine execPdRdDetect_within.mono ?_
  case' pdAttach => refine execPdAttach_within.mono ?_
  case' pdVbusReady => refine execPdVbusReady_within.mono ?_
  case' pdCableIdentity => refine execPdCableIdentity_within.mono ?_
  case' pdRequest => refine execPdRequest_within.mono ?_
  case' pdPsRdy => refine execPdPsRdy_within.mono ?_
  case' pdEprEnter => refine execPdEprEnter_within.mono ?_
  case' pdEprKeepaliveTimeout => refine execPdEprKeepaliveTimeout_within.mono ?_
  case' pdVconnSwap => refine execPdVconnSwap_within.mono ?_
  case' pdVconnOvercurrent => refine execPdVconnOvercurrent_within.mono ?_
  case' pdHardReset => refine execPdHardReset_within.mono ?_
  case' pdHardResetPark => refine execPdHardResetPark_within.mono ?_
  case' pdVsafe0vHoldEnd => refine execPdVsafe0vHoldEnd_within.mono ?_
  case' pdSoftResetReceived => refine execPdSoftResetReceived_within.mono ?_
  case' pdSoftResetTimeout => refine execPdSoftResetTimeout_within.mono ?_
  case' pdUnsupportedMessage => refine execPdUnsupportedMessage_within.mono ?_
  case' pdEnterModeAck => refine execPdEnterModeAck_within.mono ?_
  case' pdDetach => refine execPdDetach_within.mono ?_
  case' pdOvp => refine execPdOvp_within.mono ?_
  case' pdOcp => refine execPdOcp_within.mono ?_
  case' pdErrorRecoveryEnd => refine execPdErrorRecoveryEnd_within.mono ?_
  case' pdFaultClear => refine execPdFaultClear_within.mono ?_
  case' taskPeriod => refine execTaskPeriod_within.mono ?_
  case' taskFault => refine execTaskFault_within.mono ?_
  case' pairDisagree => refine execPairDisagree_within.mono ?_
  case' pairSelfTestEnd => refine execPairSelfTestEnd_within.mono ?_
  case' taskMigrationResume => refine execTaskMigrationResume_within.mono ?_
  case' bedFault => refine execBedFault_within.mono ?_
  case' barrierRelease => refine execBarrierRelease_within.mono ?_
  case' barrierTimeout => refine execBarrierTimeout_within.mono ?_
  case' rolloutBedStep => refine execRolloutBedStep_within.mono ?_
  case' pairSnapshotSelect => refine execPairSnapshotSelect_within.mono ?_
  case' tineBreakpointHit => refine execTineBreakpointHit_within.mono ?_
  case' thresholdReadback => refine execThresholdReadback_within.mono ?_
  case' sundialSilent => refine execSundialSilent_within.mono ?_
  case' sysWdgQuestion => refine execSysWdgQuestion_within.mono ?_
  case' autoWarm => refine execAutoWarm_within.mono ?_
  case' wdgClockFail => refine execWdgClockFail_within.mono ?_
  case' pllUnlock => refine execPllUnlock_within.mono ?_
  case' latentTest => refine execLatentTest_within.mono ?_
  case' sspNop => refine execSspNop_within.mono ?_
  case' sspRead => refine execSspRead_within.mono ?_
  case' sspHeartbeat => refine execSspHeartbeat_within.mono ?_
  case' sspHaltReq => refine execSspHaltReq_within.mono ?_
  case' buttonShipRequest => refine execButtonShipRequest_within.mono ?_
  case' buttonRunRequest => refine execButtonRunRequest_within.mono ?_
  case' hostCurtailWrite => refine execHostCurtailWrite_within.mono ?_
  case' warm => refine execWarm_within.mono ?_
  case' thermalSensorRead => refine execThermalSensorRead_within.mono ?_
  case' thermalShutdown => refine execThermalShutdown_within.mono ?_
  case' sentinelRound => refine execSentinelRound_within.mono ?_
  case' brownout => refine execBrownout_within.mono ?_
  case' brownoutEnd => refine execBrownoutEnd_within.mono ?_
  case' pinReset => refine execPinReset_within.mono ?_
  case' feedLost => refine execFeedLost_within.mono ?_
  case' feedGood => refine execFeedGood_within.mono ?_
  case' crystalFail => refine execCrystalFail_within.mono ?_
  case' pllRefSwitch => refine execPllRefSwitch_within.mono ?_
  case' pllRefReturn => refine execPllRefReturn_within.mono ?_
  case' islandOscFail => refine execIslandOscFail_within.mono ?_
  case' timeTreeUpdate => refine execTimeTreeUpdate_within.mono ?_
  case' freezePin => refine execFreezePin_within.mono ?_
  case' freezeReleasePin => refine execFreezeReleasePin_within.mono ?_
  case' samplePreload => refine execSamplePreload_within.mono ?_
  case' snapRead => refine execSnapRead_within.mono ?_
  case' tineDbgReadReg => refine execTineDbgReadReg_within.mono ?_
  case' tineDbgWriteReg => refine execTineDbgWriteReg_within.mono ?_
  case' tineDbgReadData => refine execTineDbgReadData_within.mono ?_
  case' tineDbgWriteData => refine execTineDbgWriteData_within.mono ?_
  case' tineDbgReadCode => refine execTineDbgReadCode_within.mono ?_
  case' tineDbgStep => refine execTineDbgStep_within.mono ?_
  case' tineDbgSetBreakpoint => refine execTineDbgSetBreakpoint_within.mono ?_
  case' tineDbgClearBreakpoint => refine execTineDbgClearBreakpoint_within.mono ?_
  case' tineDbgResume => refine execTineDbgResume_within.mono ?_
  case' svcLockKeyWrite => refine execSvcLockKeyWrite_within.mono ?_
  case' misalignedAccess => refine execMisalignedAccess_within.mono ?_
  case' registerWrite => refine execRegisterWrite_within.mono ?_
  case' linkUp => refine execLinkUp_within.mono ?_
  case' vfEnableWrite => refine execVfEnableWrite_within.mono ?_
  case' d3hotExit => refine execD3hotExit_within.mono ?_
  case' resetNRelease => refine execResetNRelease_within.mono ?_
  case' systemRailInRange => refine execSystemRailInRange_within.mono ?_
  case' startStepTimeout => refine execStartStepTimeout_within.mono ?_
  case' twbStartSeen => refine execTwbStartSeen_within.mono ?_
  case' pdSenderResponseTimeout => refine execPdSenderResponseTimeout_within.mono ?_
  case' pdDiscoverResponse => refine execPdDiscoverResponse_within.mono ?_
  case' busSensorMismatch => refine execBusSensorMismatch_within.mono ?_
  case' busGuardTrip => refine execBusGuardTrip_within.mono ?_
  case' busOvervoltage => refine execBusOvervoltage_within.mono ?_
  case' busUndervoltage => refine execBusUndervoltage_within.mono ?_
  case' busUvRestart => refine execBusUvRestart_within.mono ?_
  case' demandSourceDisable => refine execDemandSourceDisable_within.mono ?_
  case' islandBusReady => refine execIslandBusReady_within.mono ?_
  case' hbTempRead => refine execHbTempRead_within.mono ?_
  case' hbTempSuspend => refine execHbTempSuspend_within.mono ?_
  case' accUvlo => refine execAccUvlo_within.mono ?_
  case' accRestart => refine execAccRestart_within.mono ?_
  case' mainsLockLoss => refine execMainsLockLoss_within.mono ?_
  case' mainsFreeTrigger => refine execMainsFreeTrigger_within.mono ?_
  case' calZeroExpiry => refine execCalZeroExpiry_within.mono ?_
  case' timeAnchor => refine execTimeAnchor_within.mono ?_
  case' perst => refine execPerst_within.mono ?_
  case' pfFlr => refine execPfFlr_within.mono ?_
  case' fenceRelease => refine execFenceRelease_within.mono ?_
  case' fenceTimeout => refine execFenceTimeout_within.mono ?_
  case' rolloutDwellEnd => refine execRolloutDwellEnd_within.mono ?_
  case' traceWindowRead => refine execTraceWindowRead_within.mono ?_
  case' sundialLockstepMismatch => refine execSundialLockstepMismatch_within.mono ?_
  case' safCtrlHalt => refine execSafCtrlHalt_within.mono ?_
  case' latentNow => refine execLatentNow_within.mono ?_
  case' safeRecovered => refine execSafeRecovered_within.mono ?_
  case' sspFrameError => refine execSspFrameError_within.mono ?_
  case' sspSilent => refine execSspSilent_within.mono ?_
  case' modeRequestShip => refine execModeRequestShip_within.mono ?_
  case' modeRequestSentinel => refine execModeRequestSentinel_within.mono ?_
  case' modeRequestRun => refine execModeRequestRun_within.mono ?_
  case' thermalCurtailOn => refine execThermalCurtailOn_within.mono ?_
  case' thermalCurtailOff => refine execThermalCurtailOff_within.mono ?_
  case' thermalShutdownEnd => refine execThermalShutdownEnd_within.mono ?_
  case' islandLowBattery => refine execIslandLowBattery_within.mono ?_
  case' por => refine execPor_within.mono ?_
  case' snapStreamEnd => refine execSnapStreamEnd_within.mono ?_
  case' bypass => refine execBypass_within.mono ?_
  case' idcode => refine execIdcode_within.mono ?_
  case' extest => refine execExtest_within.mono ?_
  case' freeze => refine execFreeze_within.mono ?_
  case' thaw => refine execThaw_within.mono ?_
  case' thawDbg => refine execThawDbg_within.mono ?_
  case' svcStatus => refine execSvcStatus_within.mono ?_
  case' glbTimeRead => refine execGlbTimeRead_within.mono ?_
  case' serviceLockFuseBlown => refine execServiceLockFuseBlown_within.mono ?_
  -- `Instr.seal`, whose name is a word of Lean's own, is the goal that is left
  rotate_right
  refine execSeal_within.mono ?_
  all_goals
    simp only [frameMask, fieldsOf, partsOf]
    decide +kernel

/-- A command answers the state that some program ends in. -/
theorem exec_runs (c : Instr) (s : State) : ∃ p : Prog, exec c s = .next (p.run s) :=
  (exec_within c s).imp fun _ h => h.2

/-- Settles O4: a command's program is total, and no update of a program touches the queue. -/
theorem commandsComplete : Obligations.CommandsComplete := by
  intro c s
  obtain ⟨p, hp⟩ := exec_runs c s
  exact ⟨p.run s, hp, p.run_pending s⟩

/-- Settles O5: what is outside a command's lists has no number in the mask of its frame. -/
theorem commandFrames : Obligations.CommandFrames := by
  intro c s t ht
  obtain ⟨p, hp, he⟩ := exec_within c s
  obtain rfl : t = p.run s := Host.Outcome.next.inj (ht.symm.trans he)
  exact ⟨fun fs hfs f hf hnot i j k =>
      hp.rd s f (testBit_frameMask_of_lt hfs ((fieldTable_id_lt f hf).trans (by decide)) hnot) (testBit_frameMask_clear hfs) i j k,
    fun q hq => hp.same q (testBit_frameMask_part hq)⟩

/-! A step (R22 and chapter 95). -/

theorem step_cons {c : Instr} {rest : List Instr} {s : State} (h : s.pending = c :: rest) : step s = exec c { s with pending := rest } := by
  simp only [step, h]

theorem step_nil {s : State} (h : s.pending = []) : step s = .next (idleTick.run s) := by simp only [step, h]

/-- Settles O1: by what `step` is for either form of the queue, and since no program touches the queue. -/
theorem stepTakesFront : Obligations.StepTakesFront :=
  ⟨fun _ _ _ h => step_cons h, fun s h => ⟨idleTick.run s, step_nil h, (idleTick.run_pending s).trans h⟩⟩

/-- Settles O3: a step ends in the state of a program, the command's or the idle one, and each update of a program keeps the canonical form. -/
theorem stepKeepsWf : Obligations.StepKeepsWf := by
  intro s t hs hstep
  cases hq : s.pending with
  | nil =>
    rw [step_nil hq] at hstep
    cases hstep
    exact idleTick.wf_run hs
  | cons c rest =>
    obtain ⟨p, hp⟩ := exec_runs c { s with pending := rest }
    rw [step_cons hq, hp] at hstep
    cases hstep
    exact p.wf_run hs

/-- Settles O2: the state after reset lists no cell, so that every field reads as its reset value. -/
theorem resetState : Obligations.ResetState := by
  refine ⟨by decide +kernel, rfl, rfl, by decide +kernel, by decide +kernel, by decide +kernel, by decide +kernel, by decide +kernel, ?_⟩
  intro f _ i j k
  show (if f.hard then f.resetAt i j else f.resetAt i j) = _
  rw [ite_self]

end Sys2Proof.Machine
end

section
/-! A device that is frozen or in SHIP stands still (R555, R593), but for what acts then; a freeze latches the pins (R594). -/

set_option Elab.async false

namespace Sys2Proof.Machine

section

variable {s : State}

theorem barOn_of_stopped (h : s.stopped = true) : s.barOn = false := by simp [State.barOn, h]

theorem vfBarOn_of_stopped (h : s.stopped = true) (vf : Nat) : s.vfBarOn vf = false := by simp [State.vfBarOn, h]

theorem ends_still (h : s.stopped = true) (p : Prog) : ends p s = .next s := by rw [ends, if_pos h]

/-- What waits for PF BAR0 to answer does nothing. -/
theorem when_barOn_still (h : s.stopped = true) (p : Prog) : (when State.barOn p).run s = s := by
  rw [when_run, barOn_of_stopped h, if_neg Bool.false_ne_true]

theorem always_barOn_still (h : s.stopped = true) (p : Prog) : endsAlways (when State.barOn p) s = .next s :=
  congrArg Host.Outcome.next (when_barOn_still h p)

theorem fnWrites_still (h : s.stopped = true) (fn a : Nat) (bad : State → Nat) (p : Prog) : fnWrites fn a bad p s = .next s := by
  simp only [fnWrites, endsAlways, Prog.run_read, barOn_of_stopped h, h, Bool.not_false, Bool.true_or, if_true]
  split <;> rfl

theorem abortRequest_still (h : s.stopped = true) (fn a : Nat) (write : Bool) : (abortRequest fn a write).run s = s := by
  simp [abortRequest, when_run, barOn_of_stopped h, vfBarOn_of_stopped h]

theorem write32_still (h : s.stopped = true) (fn a v : Nat) (env : StartEnv) (pulses : Option Nat) : (write32 fn a v env pulses).run s = s := by
  unfold write32
  split
  · simp [pfWrite32, barOn_of_stopped h]
  · simp [vfWrite32, vfBarOn_of_stopped h]

theorem execRegisterWrite_still (h : s.stopped = true) (fn a size v : Nat) (env : StartEnv) (pulses : Option Nat) :
    execRegisterWrite fn a size v env pulses s = .next s := by
  refine congrArg Host.Outcome.next ?_
  split
  · split_ifs
    · rw [Prog.run_seq, write32_still h, write32_still h]
    · exact write32_still h ..
  · split_ifs
    · exact when_barOn_still h _
    · rfl
  · exact abortRequest_still h ..

theorem execMisalignedAccess_still (h : s.stopped = true) (fn a size : Nat) (write : Bool) : execMisalignedAccess fn a size write s = .next s := by
  refine congrArg Host.Outcome.next ?_
  split
  · exact abortRequest_still h ..
  · rfl

/-- ALERT_REQ, of either side of a bus. -/
theorem execAlertReq_still (h : s.stopped = true) (b : Nat) (v : Bool) : execAlertReq b v s = .next s := by
  unfold execAlertReq
  split
  · rfl
  · exact always_barOn_still h _

theorem execSundialSilent_still (h : s.stopped = true) (us : Nat) : execSundialSilent us s = .next s := by
  unfold execSundialSilent
  split
  · rfl
  · exact ends_still h _

/-- A command that does not act while the units stand still leaves the state as it was: by the outcome that it shares. -/
theorem exec_still (h : s.stopped = true) {c : Instr} (hc : actsStopped c = false) : exec c s = .next s := by
  cases c
  case por | brownout | brownoutEnd | pinReset | resetNRelease | systemRailInRange | startStepTimeout | shipWake | freezePin |
      freezeReleasePin | freeze | thaw | thawDbg | snapStreamEnd | snapRead | samplePreload | bypass | idcode | extest | svcStatus |
      tineDbgReadReg | tineDbgWriteReg | tineDbgReadData | tineDbgWriteData | tineDbgReadCode | tineDbgStep | tineDbgSetBreakpoint |
      tineDbgClearBreakpoint | tineDbgResume | sourcePresenceRise | sourceLost | identityLoss | fgOvTrip | fgOcTrip | fgRvTrip | fgNtcTrip
      | buttonShipRequest | buttonRunRequest | sundialLockstepMismatch | perst | idPinClose | packRemoval | pllUnlock | crystalFail |
      wdgClockFail | feedLost | svcLockKeyWrite =>
    cases hc
  case srcLimitWrite | srcModeWrite | apply | phcEnableWrite | gangWrite | slotEnableWrite | slotFaultClear | almViewSelect |
      dacInjectWrite | cancel | recover | pdFaultClear | pairSnapshotSelect | hostCurtailWrite | safCtrlHalt | latentNow | modeRequestShip
      | modeRequestSentinel | modeRequestRun | gauAccRead | warm | glbTimeRead =>
    exact always_barOn_still h _
  case doorbellPageWrite | ringEnableWrite =>
    exact fnWrites_still h ..
  case registerWrite =>
    exact execRegisterWrite_still h ..
  case misalignedAccess =>
    exact execMisalignedAccess_still h ..
  case alertReq =>
    exact execAlertReq_still h ..
  case sundialSilent =>
    exact execSundialSilent_still h ..
  all_goals exact ends_still h _

/-- While the device is frozen a happening at a latched pin is put by for the release (R594). -/
theorem latching_frozen (h : s.flag Reg.SVC_STATUS.FROZEN = true) (l : Latched) (p : Prog) :
    latching l p s = .next { s with svc := { s.svc with latched := s.svc.latched ++ [l] } } := by
  refine congrArg Host.Outcome.next ?_
  rw [Prog.run_read, if_pos h]
  rfl

end

/-- Settles O7: a command that does not act then by the outcome that it shares with others, a latched pin by what a freeze makes of it. -/
theorem standStill : Obligations.StandStill := fun _ _ =>
  ⟨fun h hc => exec_still h hc, fun _ _ h => latching_frozen h _ _, fun _ _ _ h => latching_frozen h _ _, fun _ _ _ h => latching_frozen h _ _,
    fun h => latching_frozen h _ _⟩

end Sys2Proof.Machine
end

section
/-! A unit's commands leave every other unit's registers alone: every field that they write is their own unit's, but for what all units share. -/

set_option Elab.async false

namespace Sys2Proof.Machine

/-- What no unit owns, as a mask (Laws/Touch.lean): the rings of events, the record of ignored writes, and every part of the state beside the
register file. -/
def sharedMask : Nat := maskOf (sharedFields.map Fld.id) ||| maskOf ((List.range 34).map (701 + ·))

/-- A primitive update writes no register of a unit but that of unit `n`. -/
def Act.own (n : Nat) : Act → Bool
  | .reg f i _ _ _ => i == n || sharedMask.testBit f.id
  | .clear _ _ => false
  | _ => true

/-- Every update of a program writes no register of a unit but that of unit `n`. -/
def Prog.Own (n : Nat) : Prog → Prop
  | .skip => True
  | .act a => a.own n = true
  | .seq p q => p.Own n ∧ q.Own n
  | .read k => ∀ s, (k s).Own n

/-- A meaning always answers the next state of some program of unit `n`. -/
def RunsOwn (n : Nat) (e : State → Host.Outcome State Fault Refusal) : Prop :=
  ∀ s, ∃ p : Prog, p.Own n ∧ e s = .next (p.run s)

theorem testBit_sharedMask : ∀ f ∈ fieldTable, f.id ∉ sharedFields.map Fld.id → sharedMask.testBit f.id = false := by decide +kernel

theorem Act.rd_of_own {a : Act} {n : Nat} (ha : a.own n = true) {f : Fld} (hf : f ∈ fieldTable) (hs : f.id ∉ sharedFields.map Fld.id)
    (s : State) {i : Nat} (hi : i ≠ n) (j k : Nat) : (a.apply s).rd f i j k = s.rd f i j k := by
  cases a with
  | reg g i' j' k' v =>
    refine State.rd_wr_ne _ _ _ _ _ _ _ _ _ _ ?_
    rcases Bool.or_eq_true_iff.1 ha with h | h
    · exact .inr (.inl fun e => hi (e.trans (eq_of_beq h)))
    · refine .inl fun e => ?_
      rw [← e, testBit_sharedMask f hf hs] at h
      cases h
  | clear classes kp => cases ha
  | _ => rfl

/-- A program of unit `n` leaves the registers of every other unit as they were. -/
theorem Prog.Own.rd {p : Prog} {n : Nat} (h : p.Own n) {f : Fld} (hf : f ∈ fieldTable) (hs : f.id ∉ sharedFields.map Fld.id)
    (s : State) {i : Nat} (hi : i ≠ n) (j k : Nat) : (p.run s).rd f i j k = s.rd f i j k := by
  induction p generalizing s with
  | skip => rfl
  | act a => exact Act.rd_of_own h hf hs s hi j k
  | seq p q ihp ihq => exact (ihq h.2 _).trans (ihp h.1 s)
  | read q ih => exact ih s (h s) s

/-- What touches only what is shared is every unit's. -/
theorem Prog.Touches.own {p : Prog} {M : Nat} (h : p.Touches M) (hM : M &&& sharedMask = M) (n : Nat) : p.Own n := by
  replace h := h.mono hM
  induction p with
  | skip => trivial
  | act a =>
    have ha : sharedMask.testBit a.cell = true := h
    cases a with
    | reg f i j k v => exact Bool.or_eq_true_iff.2 (.inr ha)
    | clear classes kp => exact absurd ha (show sharedMask.testBit 700 ≠ true by decide +kernel)
    | _ => rfl
  | seq p q ihp ihq => exact ⟨ihp h.1, ihq h.2⟩
  | read k ih => exact fun s => ih s (h s)

section

variable {n : Nat} {p q : Prog}

@[simp] theorem own_skip : Prog.skip.Own n := trivial
@[simp] theorem own_seq : (Prog.seq p q).Own n ↔ p.Own n ∧ q.Own n := Iff.rfl
@[simp] theorem own_read {k : State → Prog} : (Prog.read k).Own n ↔ ∀ s, (k s).Own n := Iff.rfl
@[simp] theorem own_seqs_nil : (seqs []).Own n := trivial
@[simp] theorem own_seqs_cons {l : List Prog} : (seqs (p :: l)).Own n ↔ p.Own n ∧ (seqs l).Own n := Iff.rfl
@[simp] theorem own_each {α : Type} {l : List α} {g : α → Prog} : (each l g).Own n ↔ ∀ x ∈ l, (g x).Own n := by
  unfold each
  induction l with
  | nil => simp
  | cons a l ih => simp [ih]
@[simp] theorem own_ite {c : Prop} [Decidable c] : (if c then p else q).Own n ↔ (c → p.Own n) ∧ (¬ c → q.Own n) := by
  split <;> simp [*]
@[simp] theorem own_when {c : State → Bool} : (when c p).Own n ↔ ∀ s, c s = true → p.Own n := by simp [when]
@[simp] theorem own_setR {f : Fld} {v j k : Nat} : (setR f v n j k).Own n := Bool.or_eq_true_iff.2 (.inl (beq_self_eq_true n))
@[simp] theorem own_updR {f : Fld} {v : State → Nat} {j k : Nat} : (updR f v n j k).Own n := fun _ => own_setR
@[simp] theorem own_incSat {f : Fld} {j k : Nat} : (incSat f n j k).Own n := fun _ => own_setR
@[simp] theorem own_updChans {k : Nat} {g : ChanRec → ChanRec} : (updChans k g).Own n := fun _ => rfl
@[simp] theorem own_updSlots {k : Nat} {g : SlotRec → SlotRec} : (updSlots k g).Own n := fun _ => rfl
@[simp] theorem own_updGauges {k : Nat} {g : GaugeRec → GaugeRec} : (updGauges k g).Own n := fun _ => rfl
@[simp] theorem own_updIcvs {k : Nat} {g : IcvRec → IcvRec} : (updIcvs k g).Own n := fun _ => rfl
@[simp] theorem own_updFns {k : Nat} {g : FnRec → FnRec} : (updFns k g).Own n := fun _ => rfl
@[simp] theorem own_updPorts {k : Nat} {g : PortRec → PortRec} : (updPorts k g).Own n := fun _ => rfl
@[simp] theorem own_updTwb {k : Nat} {g : BusRec → BusRec} : (updTwb k g).Own n := fun _ => rfl
@[simp] theorem own_updSvc {g : SvcRec → SvcRec} : (updSvc g).Own n := fun _ => rfl

/-! What only raises events, sends messages, records an ignored write or changes the parts of the state. -/

@[simp] theorem own_raise {e : Ev} {l : List Nat} : (raise e l).Own n := raise_touch.own (by decide +kernel) n
@[simp] theorem own_raisePf {typ src data : Nat} : (raisePf typ src data).Own n := raisePf_touch.own (by decide +kernel) n
@[simp] theorem own_raiseSlot {typ sl data : Nat} : (raiseSlot typ sl data).Own n := raiseSlot_touch.own (by decide +kernel) n
@[simp] theorem own_raisePort {typ k data : Nat} : (raisePort typ k data).Own n := raisePort_touch.own (by decide +kernel) n
@[simp] theorem own_raiseOutput {typ lead data : Nat} : (raiseOutput typ lead data).Own n := raiseOutput_touch.own (by decide +kernel) n
@[simp] theorem own_raiseDegraded {sl cause : Nat} : (raiseDegraded sl cause).Own n := raiseDegraded_touch.own (by decide +kernel) n
@[simp] theorem own_taperEvent {sl step : Nat} {i : Int} : (taperEvent sl step i).Own n := taperEvent_touch.own (by decide +kernel) n
@[simp] theorem own_emit {o : Out} : (emit o).Own n := emit_touch.own (by decide +kernel) n
@[simp] theorem own_pdSend {k : Nat} {m : PdMsg} : (pdSend k m).Own n := own_emit
@[simp] theorem own_sendCaps {k : Nat} : (sendCaps k).Own n := sendCaps_touch.own (by decide +kernel) n
@[simp] theorem own_offerChanged {k : Nat} : (offerChanged k).Own n := offerChanged_touch.own (by decide +kernel) n
@[simp] theorem own_cableAsk {k : Nat} : (cableAsk k).Own n := cableAsk_touch.own (by decide +kernel) n
@[simp] theorem own_finishRun {c : Ctl} {status result detail : Nat} : (finishRun c status result detail).Own n :=
  finishRun_touch.own (by decide +kernel) n
@[simp] theorem own_accErr {a cause : Nat} : (accErr a cause).Own n := accErr_touch.own (by decide +kernel) n
@[simp] theorem own_moveOffsets {lead m : Nat} : (moveOffsets lead m).Own n := moveOffsets_touch.own (by decide +kernel) n
@[simp] theorem own_imbalanceNext {lead : Nat} : (imbalanceNext lead).Own n := imbalanceNext_touch.own (by decide +kernel) n
@[simp] theorem own_bedWake {sl : Nat} : (bedWake sl).Own n := bedWake_touch.own (by decide +kernel) n
@[simp] theorem own_turnsPass {icv a b : Nat} : (turnsPass icv a b).Own n := turnsPass_touch.own (by decide +kernel) n
@[simp] theorem own_writeStatus {fn : Nat} : (writeStatus fn).Own n := writeStatus_touch.own (by decide +kernel) n
@[simp] theorem own_agentQueue {b : Nat} {j : TwbJob} : (agentQueue b j).Own n := agentQueue_touch.own (by decide +kernel) n
@[simp] theorem own_agentFailed {b : Nat} {j : TwbJob} : (agentFailed b j).Own n := agentFailed_touch.own (by decide +kernel) n

/-! Shared operations that write registers of the unit they are about. -/

@[simp] theorem own_toPhase {ph : Nat} : (toPhase n ph).Own n := by simp [toPhase]
@[simp] theorem own_scanPresence : (scanPresence n).Own n := by simp [scanPresence]
@[simp] theorem own_takeAnchor {code : Nat} : (takeAnchor n code).Own n := by simp [takeAnchor]
@[simp] theorem own_gaugeDerive : (gaugeDerive n).Own n := by simp [gaugeDerive]
@[simp] theorem own_fullAnchor : (fullAnchor n).Own n := by simp [fullAnchor]
@[simp] theorem own_pendTake : (pendTake n).Own n := by simp [pendTake]
@[simp] theorem own_convBegin {c : Conv} : (convBegin n c).Own n := by simp [convBegin]
@[simp] theorem own_urgQ : (urgQ n).Own n := by simp [urgQ]
@[simp] theorem own_abortRunning : (abortRunning n).Own n := by
  intro s
  dsimp only
  split <;> simp
@[simp] theorem own_integrate {t flag : Nat} : (integrate n t flag).Own n := by simp [integrate]
@[simp] theorem own_trigLatch : (trigLatch n).Own n := by simp [trigLatch]
@[simp] theorem own_trigArrives : (trigArrives n).Own n := by simp [trigArrives]
@[simp] theorem own_alertShow : (alertShow n).Own n := by simp [alertShow]
@[simp] theorem own_runOver : (runOver n).Own n := by simp [runOver]
@[simp] theorem own_portStart : (portStart n).Own n := by simp [portStart]
@[simp] theorem own_cableUnmarked : (cableUnmarked n).Own n := by simp [cableUnmarked]
@[simp] theorem own_pdFault {cause : Nat} : (pdFault n cause).Own n := by simp [pdFault]

@[simp] theorem own_hostqUpdate : (hostqUpdate n).Own n := by simp [hostqUpdate]
@[simp] theorem own_hostDone {j : TwbJob} {status result detail : Nat} : (hostDone n j status result detail).Own n :=
  ⟨own_setR, by split <;> simp⟩
@[simp] theorem own_jobFails {j : TwbJob} {status detail : Nat} : (jobFails n j status detail).Own n := by simp [jobFails]
@[simp] theorem own_deadFlush : (deadFlush n).Own n := by simp [deadFlush]
@[simp] theorem own_recoverSda {pulses : Option Nat} : (recoverSda n pulses).Own n := by simp [recoverSda]

/-! What a port's policy engine does with a message, but for a Request and the acknowledgements of service mode (R462). -/

@[simp] theorem own_cableTook {cur vmax : Nat} {epr : Bool} : (cableTook n cur vmax epr).Own n := by simp [cableTook]
@[simp] theorem own_eprTook : (eprTook n).Own n := by simp [eprTook]
@[simp] theorem own_swapTook : (swapTook n).Own n := by simp [swapTook]
@[simp] theorem own_softTook : (softTook n).Own n := by simp [softTook]
@[simp] theorem own_unusedTook {vdm structured : Bool} : (unusedTook n vdm structured).Own n := by simp [unusedTook]

theorem own_pdReceive {amid : Option Nat} {acked : Bool} (h : p.Own n) : (pdReceive n amid acked p).Own n := by
  intro s
  dsimp only
  split
  · trivial
  · split <;> simp [h]

theorem own_pdMessage {amid : Option Nat} {m : PdIn} (h : (pdTake n m).Own n) : (pdMessage n amid m).Own n :=
  own_pdReceive (by simp [h])

/-! Commands. -/

theorem runsOwn_endsAlways (h : p.Own n) : RunsOwn n (endsAlways p) := fun _ => ⟨p, h, rfl⟩

theorem runsOwn_ends (h : p.Own n) : RunsOwn n (ends p) := by
  intro s
  by_cases hs : s.stopped = true
  · exact ⟨.skip, trivial, by simp [ends, hs]⟩
  · exact ⟨p, h, by simp [ends, hs]⟩

theorem runsOwn_pfWrites {f : Fld} {i j : Nat} {bad : State → Nat} (h : p.Own n) : RunsOwn n (pfWrites f i j bad p) :=
  runsOwn_endsAlways (by simp [h])

theorem execIdPinClose_own : RunsOwn n (execIdPinClose n) := runsOwn_endsAlways (by simp [pinClose])

theorem execAutoZeroTrim_own : RunsOwn n (execAutoZeroTrim n) := by
  refine runsOwn_ends fun s => ?_
  dsimp only
  split
  · simp
  · trivial

theorem execRecover_own {pulses : Option Nat} : RunsOwn n (execRecover n pulses) := runsOwn_pfWrites (by simp)

theorem execIdentBusRetry_own : RunsOwn n (execIdentBusRetry n) := by
  refine runsOwn_ends fun s => ?_
  dsimp only
  split <;> simp

theorem execUrgentConversionStart_own : RunsOwn n (execUrgentConversionStart n) := by
  refine runsOwn_ends fun s => ?_
  dsimp only
  split <;> simp

/-- A unit's command runs a program of that unit. -/
theorem exec_own {c : Instr} (h : unitOf c = some n) : RunsOwn n (exec c) := by
  cases c
  case retriesReset | peakLimitTruncate | syncLoss | phaseShed | imbalanceCheck | idDecode | chargePhaseAdvance | cvEntry | packSag |
      slotSuspend | taperCheck | auditResume | icvPassStart | resvDeadline | coulombSample | fullAnchor | currentXcheck | statusLineWrite
      | d3hotEntry | rateLimit | twbSleep | pdRdDetect | pdAttach | pdVbusReady | pdVconnOvercurrent | pdVsafe0vHoldEnd | serialPoll |
      icvConversionStart | icvTrigger | twbStartSeen | twbAlertIn =>
    cases h
    exact runsOwn_ends (by simp)
  case pdCableIdentity | pdEprEnter | pdVconnSwap | pdSoftResetReceived | pdUnsupportedMessage =>
    cases h
    exact runsOwn_ends (own_pdMessage (by simp [pdTake]))
  case gauAccRead =>
    cases h
    exact runsOwn_endsAlways (by simp)
  case idPinClose =>
    cases h
    exact execIdPinClose_own
  case autoZeroTrim =>
    cases h
    exact execAutoZeroTrim_own
  case recover =>
    cases h
    exact execRecover_own
  case identBusRetry =>
    cases h
    exact execIdentBusRetry_own
  case urgentConversionStart =>
    cases h
    exact execUrgentConversionStart_own
  all_goals cases h

end

/-- Settles O6: every register that a unit's program writes is its own or shared. -/
theorem unitFrames : Obligations.UnitFrames := by
  intro c n s t hc ht f hf hs i j k hi
  obtain ⟨p, hp, he⟩ := exec_own hc s
  obtain rfl : t = p.run s := Host.Outcome.next.inj (ht.symm.trans he)
  exact hp.rd hf hs s hi j k

end Sys2Proof.Machine
end

section
/-! A write that would change a sealed field (R618, R619): it is recorded, with CAUSE 4, or waits for its slot's round (R617). -/

set_option Elab.async false

namespace Sys2Proof.Machine

section

variable {s : State} {a v : Nat} {env : StartEnv} {pulses : Option Nat}

/-- What touches only what is shared leaves every other register of the map as it was. -/
theorem Prog.Touches.rd_of_shared {p : Prog} {M : Nat} (h : p.Touches M) (hM : M &&& sharedMask = M) (s : State) :
    ∀ f ∈ fieldTable, f.id ∉ sharedFields.map Fld.id → ∀ i j k : Nat, (p.run s).rd f i j k = s.rd f i j k :=
  fun _ hf hs i j k => (h.own hM (i + 1)).rd hf hs s (Nat.ne_of_lt i.lt_succ_self) j k

/-- A change of an RWS field under the seal is the first of R618's reasons that GLB_ACC_ERR can name. -/
theorem writeCause_sealed {fn : Nat} {fs : List Place} (hseal : s.flag Reg.GLB_SEAL.SEALED = true)
    (hchange : ∃ x ∈ fs, x.1.acc = .rws ∧ s.at x ≠ x.1.ofWord v) : s.writeCause fs fn v = 4 := by
  obtain ⟨x, hx, hacc, hne⟩ := hchange
  have hmem : x ∈ s.changes fs v := List.mem_filter.2 ⟨hx, by simp [Fld.settable, hacc, hne]⟩
  have hany : (s.changes fs v).any (fun x => x.1.acc == .rws) = true := List.any_eq_true.2 ⟨x, hmem, by simp [hacc]⟩
  simp [State.writeCause, hany, hseal]

theorem pfWrite32_sealed (hbar : s.barOn = true) (hon : s.blockOn a = true) (hwaits : s.sltWaits a = false)
    (hseal : s.flag Reg.GLB_SEAL.SEALED = true) (hchange : ∃ x ∈ fieldsAt a, x.1.acc = .rws ∧ s.at x ≠ x.1.ofWord v) :
    (pfWrite32 a v env pulses).run s = (if s.barred (s.changes (fieldsAt a) v) pfFn v then barredFlags (s.changes (fieldsAt a) v)
      else .skip).run ((accErr a 4).run s) := by
  have hfields : (fieldsAt a).isEmpty = false := by
    obtain ⟨x, hx, -⟩ := hchange
    exact List.isEmpty_eq_false_iff.2 (List.ne_nil_of_mem hx)
  simp [pfWrite32, hbar, hfields, hon, hwaits, writeCause_sealed hseal hchange]

theorem pfWrite32_waits (hbar : s.barOn = true) (hon : s.blockOn a = true) (hwaits : s.sltWaits a = true)
    (hfields : fieldsAt a ≠ []) : (pfWrite32 a v env pulses).run s = (sltLater a v).run s := by
  simp [pfWrite32, hbar, hfields, hon, hwaits]

/-- Where no state rule sets a flag of its own (R98, R280), a write that would change a sealed field changes nothing but the record of it. -/
theorem sealed_recordsAlone (hbar : s.barOn = true) (ha : a % 4 = 0) (hv : v < 2 ^ 32) (hon : s.blockOn a = true)
    (hseal : s.flag Reg.GLB_SEAL.SEALED = true) (hchange : ∃ x ∈ fieldsAt a, x.1.acc = .rws ∧ s.at x ≠ x.1.ofWord v)
    (hfree : s.barred (s.changes (fieldsAt a) v) pfFn v = false) :
    Does (.registerWrite pfFn a 4 v env pulses) s fun t =>
      (∀ f ∈ fieldTable, f.id ∉ sharedFields.map Fld.id → ∀ i j k : Nat, t.rd f i j k = s.rd f i j k) ∧
      (s.sltWaits a = false → (∀ q : Part, q.same s t) ∧ (s.flag Reg.GLB_ACC_ERR.VALID = false → t.rd Reg.GLB_ACC_ERR.CAUSE = 4)) := by
  refine does_of_pfWord ha hv ?_
  cases hwaits : s.sltWaits a with
  | true =>
    obtain ⟨x, hx, -⟩ := hchange
    rw [pfWrite32_waits hbar hon hwaits (List.ne_nil_of_mem hx)]
    exact ⟨sltLater_touch.rd_of_shared (by decide +kernel) s, fun h => by cases h⟩
  | false =>
    rw [pfWrite32_sealed hbar hon hwaits hseal hchange, hfree]
    exact ⟨accErr_touch.rd_of_shared (by decide +kernel) s,
      fun _ => ⟨fun q => accErr_touch.same q (by cases q <;> rfl), fun hvalid => accErr_cause hvalid (by decide)⟩⟩

end

/-- Channel 0 switches under the seal. -/
def sealedSwitching : State :=
  (seqs [setR Reg.PWR_MODE.MODE mRun, setR Reg.PWR_DOM.ON (2 ^ 24 - 1), setR Reg.GLB_SEAL.SEALED 1, setR Reg.PHC_STATUS.PARKED 0]).run State.reset

/-- `PHC_CTRL` of channel 0, with TOPO, which is sealed, and SYNC changed. -/
def topoAndSync : Nat := 0x60000000

theorem sealedSwitching_takes : sealedSwitching.barOn = true ∧ sealedSwitching.blockOn 0x20000 = true ∧
    sealedSwitching.flag Reg.GLB_SEAL.SEALED = true := by
  and_intros <;> decide +kernel

theorem sealedSwitching_changes : ∃ x ∈ fieldsAt 0x20000, x.1.acc = .rws ∧ sealedSwitching.at x ≠ x.1.ofWord topoAndSync :=
  ⟨(Reg.PHC_CTRL.TOPO, 0, 0, 0), by decide +kernel, rfl, by decide +kernel⟩

theorem sealedSwitching_flags :
    ((pfWrite32 0x20000 topoAndSync {} none).run sealedSwitching).rd Reg.PHC_STATUS.WR_REJ = 1 ∧ sealedSwitching.rd Reg.PHC_STATUS.WR_REJ = 0 := by
  constructor <;> decide +kernel

/-- Refutes O9: a write of `PHC_CTRL` that would change TOPO, which is sealed, and SYNC, while the output switches, is ignored for the seal and
by R98 at once: it is recorded with CAUSE 4, and WR_REJ is set, which is no part of the record. `sealed_recordsAlone` has the writes of which the
statement holds, all those that no state rule flags. -/
theorem not_sealHolds : ¬ Obligations.SealHolds := by
  intro h
  obtain ⟨hbar, hon, hseal⟩ := sealedSwitching_takes
  obtain ⟨t, ht, hfields, -⟩ := h sealedSwitching 0x20000 topoAndSync {} none hbar rfl (by decide) hon hseal sealedSwitching_changes
  obtain ⟨u, hu, hflag⟩ : Does (.registerWrite pfFn 0x20000 4 topoAndSync {} none) sealedSwitching fun t => t.rd Reg.PHC_STATUS.WR_REJ = 1 :=
    does_of_pfWord rfl (by decide) sealedSwitching_flags.1
  rw [← Host.Outcome.next.inj (ht.symm.trans hu), hfields _ (by decide +kernel) (by decide), sealedSwitching_flags.2] at hflag
  cases hflag

end Sys2Proof.Machine
end

section
/-! What the smallest programs do, as equations of the state they end in: with them `simp` evaluates a program written out. -/

set_option Elab.async false

namespace Sys2Proof.Machine

variable {s : State}

@[simp] theorem updTime_run {f : Nat → Nat} : (updTime f).run s = (Act.time (f s.time)).apply s := rfl
@[simp] theorem updHost_run {f : HostRec → HostRec} : (updHost f).run s = (Act.host (f s.host)).apply s := rfl
@[simp] theorem updOut_run {f : List Out → List Out} : (updOut f).run s = (Act.out (f s.out)).apply s := rfl
@[simp] theorem updSlots_run {k : Nat} {f : SlotRec → SlotRec} : (updSlots k f).run s = (Act.slots k (f (s.slot k))).apply s := rfl
@[simp] theorem updAlm_run {f : AlmRec → AlmRec} : (updAlm f).run s = (Act.alm (f s.alm)).apply s := rfl
@[simp] theorem updPorts_run {k : Nat} {f : PortRec → PortRec} : (updPorts k f).run s = (Act.ports k (f (s.port k))).apply s := rfl
@[simp] theorem updHouse_run {f : HouseRec → HouseRec} : (updHouse f).run s = (Act.house (f s.house)).apply s := rfl
@[simp] theorem updPower_run {f : PowerRec → PowerRec} : (updPower f).run s = (Act.power (f s.power)).apply s := rfl
@[simp] theorem updPairs_run {k : Nat} {f : PairRec → PairRec} : (updPairs k f).run s = (Act.pairs k (f (s.pair k))).apply s := rfl
@[simp] theorem updTasks_run {k : Nat} {f : TaskRec → TaskRec} : (updTasks k f).run s = (Act.tasks k (f (s.task k))).apply s := rfl
@[simp] theorem updEng_run {f : EngRec → EngRec} : (updEng f).run s = (Act.eng (f s.eng)).apply s := rfl
@[simp] theorem updSun_run {f : SunRec → SunRec} : (updSun f).run s = (Act.sun (f s.sun)).apply s := rfl
@[simp] theorem updClk_run {f : ClkRec → ClkRec} : (updClk f).run s = (Act.clk (f s.clk)).apply s := rfl
@[simp] theorem updSvc_run {f : SvcRec → SvcRec} : (updSvc f).run s = (Act.svc (f s.svc)).apply s := rfl
@[simp] theorem updTines_run {k : Nat} {f : TineCell → TineCell} : (updTines k f).run s = (Act.tines k (f (s.tine k))).apply s := rfl

@[simp] theorem incSat_run {f : Fld} {i j k : Nat} :
    (incSat f i j k).run s = s.wr f i j k (min (s.rd f i j k + 1) (2 ^ f.w - 1)) := rfl
@[simp] theorem emit_run {o : Out} : (emit o).run s = (Act.out (o :: s.out)).apply s := rfl
@[simp] theorem withFree_run {k : Nat → Prog} :
    (withFree k).run s = (k (Config.freeValue s.freeCtr)).run ((Act.freeCtr (s.freeCtr + 1)).apply s) := rfl

@[simp] theorem tinesMap_rd {g : Nat → TineCell → TineCell} {f : Fld} {i j k : Nat} :
    ((Act.tinesMap g).apply s).rd f i j k = s.rd f i j k := rfl
@[simp] theorem tinesMap_pair {g : Nat → TineCell → TineCell} {n : Nat} : ((Act.tinesMap g).apply s).pair n = s.pair n := rfl
@[simp] theorem pairsMap_rd {g : Nat → PairRec → PairRec} {f : Fld} {i j k : Nat} :
    ((Act.pairsMap g).apply s).rd f i j k = s.rd f i j k := rfl
@[simp] theorem pairsMap_svc {g : Nat → PairRec → PairRec} : ((Act.pairsMap g).apply s).svc = s.svc := rfl

@[simp] theorem clear_time {c : List Keep} {kp : Nat → Bool} : ((Act.clear c kp).apply s).time = s.time := rfl
@[simp] theorem clear_power {c : List Keep} {kp : Nat → Bool} : ((Act.clear c kp).apply s).power = s.power := rfl

section

variable {p : Prog} {M : Nat}

/-! What a program leaves of one record, by what it touches. -/

theorem Prog.Touches.pair (h : p.Touches M) (hM : M.testBit 726 = false) (s : State) (n : Nat) : (p.run s).pair n = s.pair n :=
  congrArg (fun l => Tab.get ({} : PairRec) l n) (h.pairs s hM)
theorem Prog.Touches.port (h : p.Touches M) (hM : M.testBit 714 = false) (s : State) (n : Nat) : (p.run s).port n = s.port n :=
  congrArg (fun l => Tab.get ({} : PortRec) l n) (h.ports s hM)
theorem Prog.Touches.tine (h : p.Touches M) (hM : M.testBit 733 = false) (s : State) (n : Nat) : (p.run s).tine n = s.tine n :=
  congrArg (fun l => Tab.get ({} : TineCell) l n) (h.tines s hM)

end

theorem flag_iff {f : Fld} {i j k : Nat} : s.flag f i j k = true ↔ s.rd f i j k = 1 := by simp [State.flag]
theorem flag_of_zero {f : Fld} {i j k : Nat} (h : s.rd f i j k = 0) : s.flag f i j k = false := by simp [State.flag, h]

/-- A write of another field leaves a field as it was. -/
theorem rd_wr_of_id {f g : Fld} {i j k i' j' k' v : Nat} (h : f.id ≠ g.id) : (s.wr g i' j' k' v).rd f i j k = s.rd f i j k :=
  State.rd_wr_ne _ _ _ _ _ _ _ _ _ _ (.inl h)

/-- What a counter that counted up once shows. -/
theorem rd_counted {f : Fld} {i j k n m : Nat} (hf : f.hard = false) (hw : f.w ≤ 32) (hm : 2 ^ f.w - 1 = m) :
    (s.wr f i j k (min (n + 1) (2 ^ f.w - 1))).rd f i j k = min (n + 1) m := by
  have hpos : 0 < 2 ^ f.w := Nat.two_pow_pos _
  subst hm
  refine rd_wr_fits hf ?_
  rw [min_eq_left hw]
  omega

end Sys2Proof.Machine
end

section
/-! The service port (chapter 15): the TAP's instructions and the lock, the freeze and its release. -/

set_option Elab.async false

namespace Sys2Proof.Machine

variable {s : State}

/-- An instruction of the TAP that is allowed acts (R600). -/
theorem does_of_tap {i : Instr} {P : State → Prop} {allowed : State → Bool} {p : Prog} (hp : s.servicePort = true) (ha : allowed s = true)
    (he : exec i s = tapRow allowed p s) (h : P (p.run s)) : Does i s P := by
  refine does_of_always he ?_
  rwa [when_run, if_pos hp, cond_run, if_pos ha]

@[simp] theorem tap_svc {ir tdo : Nat} : ((tap ir tdo).run s).svc = { s.svc with ir, tdo } := rfl

/-- Settles O58: each instruction puts its code and its answer in force; the lock takes its two words in order. -/
theorem tapInstructions : Obligations.TapInstructions := by
  unfold Obligations.TapInstructions
  intro s
  refine ⟨fun hp => ?bypass, fun hp => ?idcode, fun load hp hu => ?sample, fun hp ho => ?extest, fun hp hu => ?status,
    fun hb hseal hm hl => ?first, fun t0 hb hseal hm hl ht => ?second, fun v hb hv h1 h2 => ?bad, fun hs hblow hm => ?fuse⟩
  case bypass => exact does_of_tap hp rfl rfl ⟨rfl, rfl⟩
  case idcode => exact does_of_tap hp rfl rfl ⟨rfl, rfl⟩
  case sample => exact does_of_tap hp hu rfl ⟨rfl, rfl⟩
  case extest => exact does_of_tap hp ho rfl ⟨rfl, rfl⟩
  case status => exact does_of_tap hp hu rfl ⟨rfl, rfl⟩
  case first => exact does_of_always rfl (by simp [when, hb, lockWrite, hseal, hm, hl, updSvc])
  case second => exact does_of_always rfl (by simp [when, hb, lockWrite, hseal, hm, hl, ht, updSvc])
  case bad =>
    refine does_of_always rfl ?_
    cases hl : s.svc.lockAt <;>
      simp (disch := decide) [when, hb, lockWrite, hl, Nat.mod_eq_of_lt hv, h1, h2, updSvc, rd_wr_fits]
  case fuse =>
    refine does_of_ends hs rfl ?_
    simp (disch := decide) [hblow, hm, updSvc, raisePf_touch.svc, raisePf_touch.rd, rd_wr_fits]

/-! The freeze and its release. -/

/-- What a freeze leaves in force (R592). -/
theorem freezeBegin_freezes : ((freezeBegin.run s).rd Reg.SVC_STATUS.FROZEN = 1 ∧ (freezeBegin.run s).modeReg = mService) ∧
    (freezeBegin.run s).svc = { s.svc with frozenAt := s.time, parkLines := true, latched := [], releaseOwed := none } := by
  by_cases hm : s.rd Reg.PWR_MODE.MODE = mService <;>
  simp (disch := decide) [freezeBegin, hm, State.modeReg, rd_wr_fits, rd_wr_of_id,
      (touch_each fun n => parkOutput_touch (lead := n) (stage := 0)).svc]

/-- A request to freeze that nothing of R564 precedes, with the lock intact in a mode that allows it, freezes. -/
theorem freezeAsk_run (ho : s.outranked 5 = false) (hf : s.flag Reg.SVC_STATUS.FROZEN = false) (hl : s.flag Reg.SVC_STATUS.LOCKED = false)
    (hm : s.mayFreeze = true) : freezeAsk.run s = freezeBegin.run s := by
  simp [freezeAsk, ho, hf, hl, hm]

/-- The clocks restart (R595): nothing is frozen, and the length of the freeze stands. -/
theorem clocksRestart_rd : ((clocksRestart.run s).rd Reg.SVC_STATUS.FROZEN = 0 ∧
    (clocksRestart.run s).rd Reg.SVC_FREEZE_LEN.LEN = min (s.time - s.svc.frozenAt) 0xFFFFFFFF) := by
  have hlen : min (s.time - s.svc.frozenAt) 0xFFFFFFFF < 2 ^ min Reg.SVC_FREEZE_LEN.LEN.w 32 :=
    (Nat.min_le_right _ _).trans_lt (by decide)
  simp (disch := decide) [clocksRestart, rd_wr_fits, rd_wr_fits rfl hlen, rd_wr_of_id, timesShift_touch.rd,
      (touch_each fun t => storeDrain_touch (t := t)).rd]

/-- The release takes what the freeze latched: here nothing. -/
theorem latchedAll_nil_touch : (latchedAll []).Touches 0 := by
  unfold latchedAll
  exact touch_each fun _ => touch_skip

/-- What a release leaves, where the freeze latched nothing (R595). -/
theorem thaw_rd (hf : s.rd Reg.SVC_STATUS.FROZEN = 1) (hl : s.svc.latched = []) : (thaw.run s).rd Reg.SVC_STATUS.FROZEN = 0 ∧
    (thaw.run s).rd Reg.SVC_STATUS.DBG_RUN = 0 ∧
    (thaw.run s).rd Reg.SVC_FREEZE_LEN.LEN = min (s.time - s.svc.frozenAt) 0xFFFFFFFF ∧ (thaw.run s).svc.parkLines = false := by
  obtain ⟨h0, hlen⟩ := clocksRestart_rd (s := s)
  simp (disch := decide) [thaw, State.flag, hf, hl, h0, hlen, rd_wr_fits, rd_wr_of_id,
    latchedAll_nil_touch.rd, latchedAll_nil_touch.svc, sysWdgResume_touch.rd, sysWdgResume_touch.svc,
    outputsResume_touch.rd, outputsResume_touch.svc, raisePf_touch.rd, raisePf_touch.svc,
    (touch_when allSourcesLost_touch).rd, (touch_when allSourcesLost_touch).svc, curtailUpdate_touch.rd, curtailUpdate_touch.svc]

/-- What a release to debug run leaves, where the freeze latched nothing (R596). -/
theorem thawDbg_rd (hl : s.svc.latched = []) : (thawDbg.run s).rd Reg.SVC_STATUS.FROZEN = 0 ∧
    (thawDbg.run s).rd Reg.SVC_STATUS.DBG_RUN = 1 := by
  obtain ⟨h0, -⟩ := clocksRestart_rd (s := s)
  simp (disch := decide) [thawDbg, hl, h0, rd_wr_fits, rd_wr_of_id, latchedAll_nil_touch.rd,
      (touch_when sysWdgResume_touch).rd, outputsResume_touch.rd]

/-- A release does not wait where no snapshot streams out. -/
theorem release_run (hb : s.flag Reg.SVC_STATUS.SNAP_BUSY = false) :
    (release false).run s = thaw.run s ∧ (release true).run s = thawDbg.run s := by
  simp [release, hb]

/-- Settles O57: the freeze and its release by what their programs leave; where R564 puts something first, the request is deferred. -/
theorem freezeSequence : Obligations.FreezeSequence := by
  unfold Obligations.FreezeSequence
  intro s hp
  refine ⟨fun us hus hf hl hm ho => ?pin, fun us hus ho => ?defer, fun hf hl hm ho => ?tap, fun us hus hf hb hl => ?pinUp,
    fun ho hb hl => ?thaw, fun ho hb hl => ?thawDbg, fun mask ho hb hm => ?snap, fun hb ht hr => ?snapEnd⟩
  case pin =>
    refine does_of_always rfl ?_
    obtain ⟨⟨hfz, hmode⟩, hsvc⟩ := freezeBegin_freezes (s := s)
    rw [when_run, if_pos (by simp [hus, hp]), freezeAsk_run ho hf hl hm]
    exact ⟨hfz, hmode, by rw [hsvc], by rw [hsvc]⟩
  case defer =>
    refine does_of_always rfl ?_
    simp [when_run, hus, hp, freezeAsk, ho, State.modeReg]
  case tap =>
    have hu : s.unlocked = true := by simp [State.unlocked, hl]
    obtain ⟨⟨hfz, hmode⟩, hsvc⟩ := freezeBegin_freezes (s := (tap 0x10 0).run s)
    refine does_of_always rfl ?_
    rw [when_run, if_pos hp, Prog.run_seq, cond_run, if_pos hu, freezeAsk_run (s := (tap 0x10 0).run s) ho hf hl hm]
    exact ⟨hfz, hmode, by rw [hsvc]; rfl⟩
  case pinUp =>
    obtain ⟨hfz, -, hlen, hpark⟩ := thaw_rd (flag_iff.1 hf) hl
    refine does_of_always rfl ?_
    rw [when_run, if_pos (by simp [hus, hf]), (release_run hb).1]
    exact ⟨by simp [State.flag, hfz], hlen, hpark⟩
  case thaw =>
    have hfz1 : s.flag Reg.SVC_STATUS.FROZEN = true := (Bool.and_eq_true_iff.1 ho).2
    obtain ⟨hfz, hdbg, hlen, -⟩ := thaw_rd (s := (tap 0x11 0).run s) (flag_iff.1 hfz1) hl
    refine does_of_tap hp (by simp [(Bool.and_eq_true_iff.1 ho).1, hfz1]) rfl ?_
    rw [Prog.run_seq, (release_run (s := (tap 0x11 0).run s) hb).1]
    exact ⟨by simp [State.flag, hfz], by simp [State.flag, hdbg], hlen⟩
  case thawDbg =>
    obtain ⟨hfz, hdbg⟩ := thawDbg_rd (s := (tap 0x12 0).run s) hl
    refine does_of_tap hp ho rfl ?_
    rw [Prog.run_seq, (release_run (s := (tap 0x12 0).run s) hb).2]
    exact ⟨by simp [State.flag, hfz], by simp [State.flag, hdbg]⟩
  case snap =>
    refine does_of_tap hp ho rfl ?_
    simp (disch := decide) [tap, hb, hm, rd_wr_fits]
  case snapEnd =>
    refine does_of_always rfl ?_
    simp (disch := decide) [hb, ht, hr, rd_wr_fits]

end Sys2Proof.Machine
end

section
/-! The safety side port (R541 to R543). -/

set_option Elab.async false

namespace Sys2Proof.Machine

variable {s : State}

/-- A frame while the side port works: meanwhile the answer to the one before goes out (R541). -/
theorem does_of_ssp {i : Instr} {P : State → Prop} {p : Prog} (hen : s.flag Reg.SAF_SSP.EN = true) (hon : s.sundialOn = true)
    (he : exec i s = ssp p s) (h : P (p.run ((Act.out (.miso s.sspNext :: s.out)).apply s))) : Does i s P := by
  have hs : s.stopped = false := by
    simp only [State.sundialOn, Bool.and_eq_true, Bool.not_eq_true'] at hon
    exact hon.1
  refine does_of_ends hs he ?_
  rwa [when_run, if_pos (by simp [State.sspOn, hen, hon])]

/-- What a valid frame that asks for no HALT leaves: it keeps the port alive and prepares its answer (R541, R543). -/
theorem sspTake_run {cmd seq data answer : Nat} (h : cmd = 3 → data = 0xA5C3 → s.flag Reg.SAF_SSP.HALT_ALLOW = false) :
    ((sspTake cmd seq data answer).run s).sun = { s.sun with answer := (cmd, seq % 16, answer), validAt := s.time, silent := false } ∧
    ((sspTake cmd seq data answer).run s).rd Reg.SAF_SSP.LAST_SEQ = seq % 16 ∧
    ((sspTake cmd seq data answer).run s).rd Reg.SAF_STATUS.SSP_LIVE = 1 ∧
    ((sspTake cmd seq data answer).run s).modeReg = s.modeReg ∧ ((sspTake cmd seq data answer).run s).out = s.out := by
  have hc : ¬ (cmd = 3 ∧ data = 0xA5C3 ∧ s.flag Reg.SAF_SSP.HALT_ALLOW = true) := by
    rintro ⟨h1, h2, h3⟩
    exact Bool.false_ne_true ((h h1 h2).symm.trans h3)
  have hseq : seq % 16 < 2 ^ min Reg.SAF_SSP.LAST_SEQ.w 32 := Nat.mod_lt _ (by decide)
  simp (disch := decide) [sspTake, hc, State.modeReg, rd_wr_fits, rd_wr_fits rfl hseq, rd_wr_of_id]

/-- Settles O55: each valid frame's answer by `sspTake_run`; a bad frame is counted; silence is told once. -/
theorem safetySidePort : Obligations.SafetySidePort := by
  unfold Obligations.SafetySidePort
  intro s hen hon
  have hs : s.stopped = false := by
    simp only [State.sundialOn, Bool.and_eq_true, Bool.not_eq_true'] at hon
    exact hon.1
  refine ⟨fun seq => ?nop, fun seq i hi => ?read, fun seq data hd => ?heartbeat, fun seq data hno => ?halt, ?error, fun ht => ?silent⟩
  case nop =>
    refine does_of_ssp hen hon rfl ?_
    obtain ⟨hsun, hseq, hlive, -, hout⟩ := sspTake_run (s := (Act.out (.miso s.sspNext :: s.out)).apply s) (cmd := 0) (seq := seq) (data := 0)
      (answer := 0) (by simp)
    exact ⟨hseq, by rw [hsun], by rw [hsun]; rfl, hlive, hout⟩
  case read =>
    refine does_of_ssp hen hon rfl ?_
    obtain ⟨hsun, hseq, -⟩ := sspTake_run (s := (Act.out (.miso s.sspNext :: s.out)).apply s) (cmd := 1) (seq := seq) (data := i)
      (answer := s.sspWord i) (by simp)
    rw [sspRead, Nat.mod_eq_of_lt (show i < 65536 by omega), if_pos hi]
    exact ⟨hseq, congrArg SunRec.answer hsun⟩
  case heartbeat =>
    refine does_of_ssp hen hon rfl ?_
    obtain ⟨hsun, -⟩ := sspTake_run (s := (Act.out (.miso s.sspNext :: s.out)).apply s) (cmd := 2) (seq := seq) (data := data)
      (answer := 65535 - data) (by simp)
    rw [Nat.mod_eq_of_lt hd]
    exact ⟨by rw [hsun], by rw [hsun]; rfl⟩
  case halt =>
    refine does_of_ssp hen hon rfl ?_
    have hno' : ¬ (((Act.out (.miso s.sspNext :: s.out)).apply s).flag Reg.SAF_SSP.HALT_ALLOW = true ∧ data = 0xA5C3) := by
      rintro ⟨h1, h2⟩
      rcases hno with h | h
      · exact h h2
      · exact Bool.false_ne_true (h.symm.trans h1)
    obtain ⟨hsun, -, -, hmode, -⟩ := sspTake_run (s := (Act.out (.miso s.sspNext :: s.out)).apply s) (cmd := 3) (seq := seq) (data := data)
      (answer := 0) (fun _ h2 => hno.resolve_left fun h => h h2)
    rw [Prog.run_read, if_neg hno']
    exact ⟨congrArg SunRec.answer hsun, hmode⟩
  case error =>
    refine does_of_ssp hen hon rfl ?_
    simp [rd_counted (f := Reg.SAF_SSP.SPI_ERR_CNT) (m := 255) rfl (by decide) rfl]
  case silent =>
    refine does_of_ends hs rfl ?_
    rw [when_run, if_pos (by simp [State.sspOn, hen, hon])]
    cases hq : s.sun.silent <;> simp (disch := decide) [ht, hq, rd_wr_fits, raisePf_touch.rd, raisePf_touch.sun]

end Sys2Proof.Machine
end

section
/-! Mode requests (R551, R553, R563, R564): dusk begins, is turned back, or is refused; what R564 puts first defers a request. -/

set_option Elab.async false

namespace Sys2Proof.Machine

variable {s : State} {i : Instr} {P : State → Prop}

/-- A write of a PF register that has no field at its place acts while PF BAR0 answers. -/
theorem does_of_pfWrite {p : Prog} (hb : s.barOn = true) (he : exec i s = pfWrite p s) (h : P (p.run s)) : Does i s P := by
  refine does_of_always he ?_
  rwa [when_run, if_pos hb]

theorem mode_eq_modeReg (h : s.modeReg ≠ mService) : s.mode = s.modeReg := if_neg fun hm => h hm.1

/-- A device that runs is not in SENTINEL, nor in START (R550). -/
theorem running_mode (h : s.running = true) : s.mode ≠ mSentinel ∧ s.mode ≠ mStart := by
  simp only [State.running, Bool.or_eq_true, beq_iff_eq] at h
  rcases h with (h | h) | h <;> rw [h] <;> decide

/-- Dusk has begun toward a mode, by a source (R562). -/
structure DuskBegun (target src : Nat) (t : State) : Prop where
  seq : t.rd Reg.PWR_MODE.SEQ = 2
  target : t.rd Reg.PWR_MODE.TARGET = target
  step : t.rd Reg.PWR_MODE.STEP = 2
  source : t.rd Reg.PWR_STATUS.LAST_SRC = src

theorem duskStart_begins {target src : Nat} (hm : s.mode ≠ mSentinel) (ht : target < 8) (hs : src < 16) :
    DuskBegun target src ((duskStart target src).run s) := by
  have ht' : target < 2 ^ min Reg.PWR_MODE.TARGET.w 32 := ht
  have hs' : src < 2 ^ min Reg.PWR_STATUS.LAST_SRC.w 32 := hs
  constructor <;>
    simp (disch := decide) [duskStart, hm, modeEvent, rd_wr_fits, rd_wr_fits rfl ht', rd_wr_fits rfl hs', rd_wr_of_id, raisePf_touch.rd,
      rolesEnd_touch.rd, portsWithdraw_touch.rd]

/-- A request that nothing of R564 precedes is taken; one that something precedes waits. -/
theorem requestBy_run {m src : Nat} (h : s.outranked (8 + min src 2) = false) : (requestBy m src).run s = (modeRequest m src).run s := by
  simp [requestBy, h]

theorem requestBy_defers {m src : Nat} (h : s.outranked (8 + min src 2) = true) :
    (requestBy m src).run s = (Act.power { s.power with deferred := s.power.deferred ++ [.request m src] }).apply s := by
  simp [requestBy, h]

/-- A SHIP request begins dusk where every condition of R65 holds. -/
theorem requestShip_begins {src : Nat} (hm : s.modeReg ≠ mService) (hq : s.rd Reg.PWR_MODE.SEQ = 0) (hr : s.running = true) (hb : s.shipBar = 0)
    (hs : src < 16) : DuskBegun mShip src ((requestShip src).run s) := by
  obtain ⟨hsent, hstart⟩ := running_mode hr
  have hrun : (requestShip src).run s = (duskStart mShip src).run s := by simp [requestShip, hm, hq, hr, hb, hstart]
  rw [hrun]
  exact duskStart_begins hsent (by decide) hs

/-- A SHIP request is refused with the first condition of R65 that fails. -/
theorem requestShip_refuses {src : Nat} (hm : s.modeReg ≠ mService) (hq : s.rd Reg.PWR_MODE.SEQ = 0) (hr : s.running = true) (hb : s.shipBar ≠ 0) :
    ((requestShip src).run s).rd Reg.PWR_STATUS.REFUSE = s.shipBar := by
  have hfit : s.shipBar < 2 ^ min Reg.PWR_STATUS.REFUSE.w 32 := shipBar_lt.trans_le (by decide)
  simp (disch := decide) [requestShip, hm, hq, hr, hb, refuse, raisePf_touch.rd, rd_wr_fits rfl hfit]

/-- A RUN request turns a dusk back before the point of no return (R563). -/
theorem requestRun_reverses {src : Nat} (hm : s.modeReg ≠ mService) (hq : s.rd Reg.PWR_MODE.SEQ = 2) (hk : s.rd Reg.PWR_MODE.STEP < 6)
    (ht : s.flag Reg.PWR_TEMP.SHUT = false) (hs : src < 16) : ((requestRun src true).run s).power.reverse = true ∧
      ((requestRun src true).run s).rd Reg.PWR_CTRL.REQ = mRun ∧ ((requestRun src true).run s).rd Reg.PWR_STATUS.LAST_SRC = src := by
  have hs' : src < 2 ^ min Reg.PWR_STATUS.LAST_SRC.w 32 := hs
  simp (disch := decide) [requestRun, hm, hq, hk, ht, rd_wr_fits, rd_wr_fits rfl hs', rd_wr_of_id]

/-- Settles O49: a request in force begins dusk, turns it back or is refused; one outranked is deferred, and nothing else changes. -/
theorem modeRequests : Obligations.ModeRequests := by
  unfold Obligations.ModeRequests
  intro s
  refine ⟨fun hb ho hm hq hr hbar => ?ship, fun hb ho hm hq hr hbar => ?shipBarred, fun hb ho hm hq hr => ?sentinel, fun hb ho hm hq hk ht => ?run,
    fun ms hf hsh hm ho hms hbtn hq hr hbar => ?buttonShip, fun ms h1 h2 hf hsh hm ho hq hk ht => ?buttonRun,
    fun hb ho => ?shipLater, fun hb ho => ?sentinelLater, fun hb ho => ?runLater, fun hs hm hq hd hl => ?island⟩
  case ship =>
    refine does_of_pfWrite hb rfl ?_
    rw [requestBy_run ho]
    obtain ⟨hseq, htarget, hstep, hsrc⟩ := requestShip_begins (src := 0) hm hq hr hbar (by decide)
    exact ⟨hseq, htarget, hstep, hsrc⟩
  case shipBarred =>
    refine does_of_pfWrite hb rfl ?_
    rw [requestBy_run ho]
    exact requestShip_refuses (src := 0) hm hq hr hbar
  case sentinel =>
    refine does_of_pfWrite hb rfl ?_
    rw [requestBy_run ho]
    have hrun : (modeRequest mSentinel 0).run s = (duskStart mSentinel 0).run s := by
      simp [modeRequest, mSentinel, mShip, requestSentinel, hm, hq, hr]
    obtain ⟨hseq, htarget, hstep, -⟩ := duskStart_begins (target := mSentinel) (src := 0) (running_mode hr).1 (by decide) (by decide)
    rw [hrun]
    exact ⟨hseq, htarget, hstep⟩
  case run =>
    refine does_of_pfWrite hb rfl ?_
    rw [requestBy_run ho]
    obtain ⟨hrev, hreq, -⟩ := requestRun_reverses (src := 0) hm hq hk ht (by decide)
    exact ⟨hrev, hreq⟩
  case buttonShip =>
    refine does_of_latching hf hsh rfl ?_
    rw [when_run, if_pos (by simp [hms, hbtn]), requestBy_run ho]
    obtain ⟨hseq, htarget, -, hsrc⟩ := requestShip_begins (src := 1) hm hq hr hbar (by decide)
    exact ⟨hseq, htarget, hsrc⟩
  case buttonRun =>
    refine does_of_latching hf hsh (congrFun (if_pos ⟨h1, h2⟩) s) ?_
    rw [requestBy_run ho]
    obtain ⟨hrev, -, hsrc⟩ := requestRun_reverses (src := 1) hm hq hk ht (by decide)
    exact ⟨hrev, hsrc⟩
  case shipLater =>
    refine does_of_pfWrite hb rfl ?_
    rw [requestBy_defers ho]
    exact ⟨rfl, rfl, rfl⟩
  case sentinelLater =>
    refine does_of_pfWrite hb rfl ?_
    rw [requestBy_defers ho]
    exact ⟨rfl, rfl⟩
  case runLater =>
    refine does_of_pfWrite hb rfl ?_
    rw [requestBy_defers ho]
    exact ⟨rfl, rfl⟩
  case island =>
    have hmode : s.mode ≠ mSentinel := by
      rw [mode_eq_modeReg (by rw [hm]; decide), hm]
      decide
    obtain ⟨hseq, htarget, -, hsrc⟩ := duskStart_begins (target := mSentinel) (src := 5) hmode (by decide) (by decide)
    refine does_of_ends hs rfl ?_
    rw [Prog.run_read, if_pos ⟨hm, hq, hd, hl⟩]
    exact ⟨hseq, htarget, hsrc⟩

end Sys2Proof.Machine
end

section
/-! The curtail causes, the die sensors, thermal shutdown and SENTINEL's rounds (R552, R556, R574, R575). -/

set_option Elab.async false

namespace Sys2Proof.Machine

variable {s : State}

/-- A mode that is entered stands (R550). -/
theorem enterMode_enters {m src seq : Nat} (hm : m < 8) (h : s.modeReg ≠ mService) : ((enterMode m src seq).run s).modeReg = m := by
  have hm' : m < 2 ^ min Reg.PWR_MODE.MODE.w 32 := hm
  simp (disch := decide) [enterMode, h]
  simp (disch := decide) [State.modeReg, modeEvent, modeEntered_touch.rd, raisePf_touch.rd, rd_wr_fits rfl hm', rd_wr_of_id]

/-- CURTAIL follows a cause (R552). -/
theorem curtailUpdate_curtails {src : Nat} (hq : s.rd Reg.PWR_MODE.SEQ = 0) (hm : s.modeReg = mRun) (hc : s.curtailCause = true) :
    ((curtailUpdate src).run s).modeReg = mCurtail := by
  rw [curtailUpdate, Prog.run_read, if_neg (by simp [hq]), if_pos ⟨hm, hc⟩]
  exact enterMode_enters (by decide) (by rw [hm]; decide)

/-- RUN returns once no cause holds (R552). -/
theorem curtailUpdate_runs {src : Nat} (hq : s.rd Reg.PWR_MODE.SEQ = 0) (hm : s.modeReg = mCurtail) (hc : s.curtailCause = false) :
    ((curtailUpdate src).run s).modeReg = mRun := by
  rw [curtailUpdate, Prog.run_read, if_neg (by simp [hq]), if_neg (by simp [hc]), if_pos ⟨hm, by simp [hc]⟩]
  exact enterMode_enters (by decide) (by rw [hm]; decide)

/-! The sensors (R574). -/

/-- The hottest of the readings, the lowest number where two are equal (R574). -/
def hottest (h : Int × Nat) (l : List (Int × Nat)) : Int × Nat := l.foldl (fun a b => if a.1 < b.1 then b else a) h

theorem hottest_spec (h : Int × Nat) (l : List (Int × Nat)) : hottest h l ∈ h :: l ∧ ∀ x ∈ h :: l, x.1 ≤ (hottest h l).1 := by
  induction l generalizing h with
  | nil => simp [hottest]
  | cons b l ih =>
    obtain ⟨hmem, hmax⟩ := ih (if h.1 < b.1 then b else h)
    have hstep : hottest h (b :: l) = hottest (if h.1 < b.1 then b else h) l := rfl
    rw [hstep]
    refine ⟨?_, fun x hx => ?_⟩
    · grind
    · have := hmax (if h.1 < b.1 then b else h) (by simp)
      grind

theorem ofField_toField {x : Int} (h1 : -2048 ≤ x) (h2 : x < 2048) : ofField 12 (toField 12 x) = x := by
  have hmod : ((x % (2 ^ 12 : Nat)).toNat : Int) = x % 4096 := by omega
  unfold ofField toField
  split <;> omega

/-- The reading shown is the hottest one (R574). -/
theorem tempShown {m : Int} {n : Nat} (h1 : -2048 ≤ m) (h2 : m < 2048) :
    ((seqs [setR Reg.PWR_TEMP.TEMP (toField 12 m), setR Reg.PWR_TEMP.SRC n, thermalTimes m]).run s).dieTemp = m := by
  have hfit : toField 12 m < 2 ^ min Reg.PWR_TEMP.TEMP.w 32 := toField_lt 12 m
  simp (disch := decide) [State.dieTemp, thermalTimes_touch.rd, rd_wr_fits rfl hfit, rd_wr_of_id, ofField_toField h1 h2]

/-- A reading of at most 20 sensors shows the hottest of them. -/
theorem execThermalSensorRead_shows {t : Int} {l : List Int} (hs : s.stopped = false) (hlen : (t :: l).length ≤ 20)
    (hrange : ∀ x ∈ t :: l, -2048 ≤ x ∧ x < 2048) :
    Does (.thermalSensorRead (t :: l)) s fun u => u.dieTemp = (hottest (t, 0) (l.zipIdx 1)).1 := by
  obtain ⟨hmem, -⟩ := hottest_spec (t, 0) (l.zipIdx 1)
  have hm : (hottest (t, 0) (l.zipIdx 1)).1 ∈ t :: l := by
    have := List.mem_map_of_mem (f := Prod.fst) hmem
    simpa [List.zipIdx_map_fst] using this
  refine does_of_ends hs (p := seqs [setR Reg.PWR_TEMP.TEMP (toField 12 (hottest (t, 0) (l.zipIdx 1)).1),
    setR Reg.PWR_TEMP.SRC (hottest (t, 0) (l.zipIdx 1)).2, thermalTimes (hottest (t, 0) (l.zipIdx 1)).1]) ?_
    (tempShown (hrange _ hm).1 (hrange _ hm).2)
  show execThermalSensorRead (t :: l) s = _
  rw [execThermalSensorRead, List.take_of_length_le hlen]
  rfl

/-- A round of a bed that has begun is recorded, and the bed's wake is taken (R556, R557). -/
theorem sentinelRound_begins {b : Nat} : (b, s.time) ∈ ((sentinelRound b).run s).eng.rounds ∧ b ∉ ((sentinelRound b).run s).eng.wakes := by
  simp (disch := decide) [sentinelRound, (touch_each fun n => heldDeliver_touch (sl := n)).eng, (touch_each fun n => gaugeTick_touch (sl := n)).eng]

/-- Thermal shutdown (R575) begins dusk at its step 3, where no sequence runs. -/
theorem thermalShutdown_shuts : (thermalShutdown.run s).rd Reg.PWR_TEMP.SHUT = 1 := by
  rw [thermalShutdown, Prog.run_read]
  split <;> (try split) <;> (try split) <;> simp (disch := decide) [rd_wr_fits, rd_wr_of_id, thermalEvent_touch.rd, modeEvent, raisePf_touch.rd]

theorem thermalShutdown_begins (hm : s.mode ≠ mSentinel) (hq : s.rd Reg.PWR_MODE.SEQ = 0) : (thermalShutdown.run s).rd Reg.PWR_MODE.SEQ = 2 ∧
    (thermalShutdown.run s).rd Reg.PWR_MODE.STEP = 3 ∧ (thermalShutdown.run s).rd Reg.PWR_MODE.TARGET = mSentinel := by
  simp (disch := decide) [thermalShutdown, hm, hq, modeEvent, raisePf_touch.rd, rd_wr_fits, rd_wr_of_id]

theorem requestRun_keepsShut {src : Nat} {any : Bool} : (requestRun src any).Keeps fun u => u.rd Reg.PWR_TEMP.SHUT := requestRun_touch.keepsRd rfl rfl

/-- Settles O50: the causes, the sensors, the shutdown and the rounds by what their programs leave. -/
theorem modeThermal : Obligations.ModeThermal := by
  unfold Obligations.ModeThermal
  intro s hs
  refine ⟨fun v hb => ?host, fun temps hne hlen hrange => ?sensor, fun hh hc => ?curtailOn, fun hh hc => ?curtailOff,
    fun hh hsh hr hm hk => ?shutdown, fun hh hsh => ?shutdownEnd, fun b hb hm hl ht => ?round, fun b hb hm hl hw => ?wake⟩
  case host =>
    refine does_of_pfWrite hb rfl ?_
    have hbit : bit v < 2 := by cases v <;> decide
    have hset : ((setR Reg.PWR_CTRL.CURTAIL (bit v % 2)).run s).flag Reg.PWR_CTRL.CURTAIL = v := by
      cases v <;> simp (disch := decide) [State.flag, bit, rd_wr_fits]
    refine ⟨(flag_of_keeps (curtailUpdate_touch.keepsRd rfl rfl)).trans hset, fun hv hq hm => curtailUpdate_curtails ?_ ?_ ?_⟩
    · exact (rd_wr_of_id (by decide)).trans hq
    · exact (rd_wr_of_id (by decide)).trans hm
    · exact Bool.or_eq_true_iff.2 (.inr (hset.trans hv))
  case sensor =>
    obtain ⟨t, l, rfl⟩ := List.exists_cons_of_ne_nil hne
    obtain ⟨u, hu, htemp⟩ := execThermalSensorRead_shows hs hlen hrange
    obtain ⟨hmem, hmax⟩ := hottest_spec (t, 0) (l.zipIdx 1)
    refine ⟨u, hu, htemp ▸ ?_, fun x hx => htemp ▸ ?_⟩
    · simpa [List.zipIdx_map_fst] using List.mem_map_of_mem (f := Prod.fst) hmem
    · obtain ⟨p, hp, rfl⟩ : ∃ p ∈ (t, 0) :: l.zipIdx 1, p.1 = x := by
        have : x ∈ ((t, 0) :: l.zipIdx 1).map Prod.fst := by simpa [List.zipIdx_map_fst] using hx
        exact List.mem_map.1 this
      exact hmax p hp
  case curtailOn =>
    refine does_of_ends hs rfl ?_
    rw [Prog.run_read, if_pos (by simp [hh, hc]), seqs_cons_run, seqs_cons_run, seqs_cons_run, seqs_nil_run]
    have hset : ((thermalEvent 0).run ((setR Reg.PWR_TEMP.CURT_THERM 1).run s)).rd Reg.PWR_TEMP.CURT_THERM = 1 :=
      rd_after (thermalEvent_touch.keepsRd rfl rfl) (rd_setR rfl (by decide))
    refine ⟨rd_after (curtailUpdate_touch.keepsRd rfl rfl) hset, fun hq hm => curtailUpdate_curtails ?_ ?_ ?_⟩
    · exact rd_after (thermalEvent_touch.keepsRd rfl rfl) ((rd_wr_of_id (by decide)).trans hq)
    · exact rd_after (thermalEvent_touch.keepsRd rfl rfl) ((rd_wr_of_id (by decide)).trans hm)
    · exact Bool.or_eq_true_iff.2 (.inl (flag_iff.2 hset))
  case curtailOff =>
    refine does_of_ends hs rfl ?_
    rw [Prog.run_read, if_pos (by simp [hh, hc]), seqs_cons_run, seqs_cons_run, seqs_cons_run, seqs_nil_run]
    have hset : ((thermalEvent 1).run ((setR Reg.PWR_TEMP.CURT_THERM 0).run s)).rd Reg.PWR_TEMP.CURT_THERM = 0 :=
      rd_after (thermalEvent_touch.keepsRd rfl rfl) (rd_setR rfl (by decide))
    refine ⟨rd_after (curtailUpdate_touch.keepsRd rfl rfl) hset, fun hq hm hcurt => curtailUpdate_runs ?_ ?_ ?_⟩
    · exact rd_after (thermalEvent_touch.keepsRd rfl rfl) ((rd_wr_of_id (by decide)).trans hq)
    · exact rd_after (thermalEvent_touch.keepsRd rfl rfl) ((rd_wr_of_id (by decide)).trans hm)
    · refine Bool.or_eq_false_iff.2 ⟨flag_of_zero hset, ?_⟩
      exact (flag_of_keeps (thermalEvent_touch.keepsRd rfl rfl)).trans ((flag_of_keeps (keepsRd_setR (by decide))).trans hcurt)
  case shutdown =>
    refine does_of_ends hs rfl ?_
    rw [Prog.run_read, if_pos]
    · exact ⟨thermalShutdown_shuts, fun hq => thermalShutdown_begins (running_mode hr).1 hq⟩
    · rcases hk with hk | hk <;> simp [hh, hsh, hr, hm, hk]
  case shutdownEnd =>
    refine does_of_ends hs rfl ?_
    rw [Prog.run_read, if_pos (by simp [hh, hsh]), seqs_cons_run]
    refine rd_after (keeps_cons (thermalEvent_touch.keepsRd rfl rfl) (keeps_cons (keeps_ite requestRun_keepsShut keeps_skip) keeps_seqs_nil))
      (rd_setR rfl (by decide))
  case round =>
    refine does_of_ends hs rfl ?_
    rw [Prog.run_read, if_pos (by simp [hb, hm, hl, ht])]
    exact sentinelRound_begins
  case wake =>
    refine does_of_ends hs rfl ?_
    rw [Prog.run_read, if_pos (by simp [hb, hm, hl, hw])]
    exact sentinelRound_begins

end Sys2Proof.Machine
end

section
/-! The whole-device resets (R560, R565 to R568), and how START begins or ends in HALT (R558, R634). -/

set_option Elab.async false

namespace Sys2Proof.Machine

variable {s : State} {i : Instr} {P : State → Prop}

/-- START stands at a step, before its work (R558, R579). -/
structure StartStands (step : Nat) (t : State) : Prop where
  mode : t.modeReg = mStart
  seq : t.rd Reg.PWR_MODE.SEQ = 1
  step : t.rd Reg.PWR_MODE.STEP = step

theorem startPending_stands {step : Nat} (h : step < 16) : StartStands step ((startPending step).run s) := by
  have hfit : step < 2 ^ min Reg.PWR_MODE.STEP.w 32 := h
  constructor <;> simp (disch := decide) [startPending, State.modeReg, rd_wr_fits, rd_wr_fits rfl hfit, rd_wr_of_id]

/-- A reset leaves START at its first step, or by the pin at its second (R565). -/
theorem deviceReset_stands {kind : Nat} : StartStands (if kind < 2 then 1 else 2) ((deviceReset kind).run s) :=
  startPending_stands (by split <;> decide)

/-- The state in which the work of START's step `k` runs (R558): its time has passed, and STEP names the next one. -/
def State.atWork (s : State) (e : StartEnv) (k : Nat) : State :=
  (seqs [updPower fun p => { p with env := some e }, updTime (· + e.durs.getD (k - 1) 0), setR Reg.PWR_MODE.STEP (min 10 (k + 1))]).run s

/-- START's step runs within its bound, where no SHIP request waits (R558, R561). -/
theorem startBegin_works {e : StartEnv} {k : Nat} (hs : StartStands k s) (he : s.power.env = none) (hd : e.durs.getD (k - 1) 0 ≤ 2 * startBound k)
    (hp : ((startWork e k).run (s.atWork e k)).power.shipPending = false) : (startBegin e).run s = (startWork e k).run (s.atWork e k) := by
  obtain ⟨hmode, hseq, hstep⟩ := hs
  have hm : s.mode = mStart := by rw [mode_eq_modeReg (by rw [hmode]; decide), hmode]
  rw [startBegin, Prog.run_read, if_pos ⟨hm, he, hseq⟩, Prog.run_seq, startAdvance, Prog.run_read]
  have hmode' : ((Act.power { s.power with env := some e }).apply s).mode = mStart := hm
  simp only [updPower_run, Act.power_same, Act.power_rd, hmode', hseq, hstep, ne_eq, not_true_eq_false, if_false, seqs_cons_run, seqs_nil_run,
    if_neg (Nat.not_lt.2 hd), Nat.reduceEqDiff]
  show (when _ _).run ((startWork e k).run (s.atWork e k)) = _
  rw [when_run, if_neg (by simp [hp])]

/-- Step 1 of START: the oscillator's domain is on, and step 2 stands (R558). -/
theorem startBegin_first {e : StartEnv} (hs : StartStands 1 s) (he : s.power.env = none) (hp : s.power.shipPending = false)
    (hd : e.durs.getD 0 0 ≤ 4000) : ((startBegin e).run s).rd Reg.PWR_DOM.ON = 0x200001 ∧ ((startBegin e).run s).rd Reg.PWR_MODE.STEP = 2 ∧
      ((startBegin e).run s).time = s.time + e.durs.getD 0 0 := by
  rw [startBegin_works hs he hd (by simp [startWork, State.atWork, hp])]
  simp (disch := decide) [startWork, State.atWork, rd_wr_fits, rd_wr_of_id]

/-- Step 2 of START: the lock shows the fuse, and step 3 stands (R558). -/
theorem startBegin_second {e : StartEnv} (hs : StartStands 2 s) (he : s.power.env = none) (hp : s.power.shipPending = false)
    (hd : e.durs.getD 1 0 ≤ 40000) : ((startBegin e).run s).rd Reg.PWR_MODE.STEP = 3 ∧ ((startBegin e).run s).modeReg = mStart ∧
      ((startBegin e).run s).flag Reg.SVC_STATUS.LOCKED = s.svc.fuse ∧
      ((startBegin e).run s).rd Reg.GLB_RESET_CAUSE.WARM = s.rd Reg.GLB_RESET_CAUSE.WARM := by
  have hbit : bit s.svc.fuse < 2 ^ min Reg.SVC_STATUS.LOCKED.w 32 := by cases s.svc.fuse <;> decide
  have hmode : s.rd Reg.PWR_MODE.MODE = mStart := hs.mode
  rw [startBegin_works hs he hd (by simp (disch := decide) [startWork, State.atWork, hp, keepScan_touch.power])]
  have hflag : (bit s.svc.fuse == 1) = s.svc.fuse := by cases s.svc.fuse <;> rfl
  simp (disch := decide) [startWork, State.atWork, State.modeReg, State.flag, hmode, hflag, keepScan_touch.rd, keepScan_touch.svc,
    rd_wr_fits, rd_wr_fits rfl hbit, rd_wr_of_id]

/-! WARM (R565). -/

theorem warmReset_stands : StartStands 2 (warmReset.run s) := startPending_stands (by decide)

/-- What WARM writes of the ports and of the periods leaves what no write of theirs changes. -/
theorem warmTail_keeps {β : Type} {g : State → β} (hheld : ∀ k, (setR Reg.PDP_STATUS.HELD 0 k).Keeps g)
    (hholder : ∀ k, (setR Reg.PDP_STATUS.HOLDER 0 k).Keeps g) (hper : ∀ n v, (setR Reg.PHC_PER_EFF.PER_EFF v n).Keeps g) :
    (Prog.seq (each (List.range 8) fun k => .seq (setR Reg.PDP_STATUS.HELD 0 k) (setR Reg.PDP_STATUS.HOLDER 0 k))
      (each (List.range 144) fun n => updR Reg.PHC_PER_EFF.PER_EFF (fun t => t.rd Reg.PHC_TIMING.PER n) n)).Keeps g :=
  keeps_seq (keeps_each fun _ => keeps_seq (hheld _) (hholder _)) (keeps_each fun _ => keeps_read fun _ => hper _ _)

/-- No START waits after WARM, and no SHIP request. -/
theorem warmReset_power : (warmReset.run s).power.env = none ∧ (warmReset.run s).power.shipPending = false := by
  have htail (u : State) := warmTail_keeps (g := State.power) (fun _ _ => State.wr_power ..) (fun _ _ => State.wr_power ..)
    (fun _ _ _ => State.wr_power ..) u
  simp only [Prog.run_seq] at htail
  simp (disch := decide) [warmReset, hiddenReset, startPending_touch.power, htail]

theorem warmReset_cause : (warmReset.run s).rd Reg.GLB_RESET_CAUSE.WARM = 1 := by
  have htail (u : State) := warmTail_keeps (g := fun v => v.rd Reg.GLB_RESET_CAUSE.WARM) (fun _ => keepsRd_setR (by decide))
    (fun _ => keepsRd_setR (by decide)) (fun _ _ => keepsRd_setR (by decide)) u
  simp only [Prog.run_seq] at htail
  simp (disch := decide) [warmReset, startPending_touch.rd, rd_wr_fits, htail]

/-! Leaving SHIP (R67, R568). -/

/-- A wake that the battery allows starts the device, with its cause and the rail as it closes (R67). -/
theorem shipWake_starts {cause : Nat} {rail : Bool} (hc : cause < 4) : ((shipWake cause rail).run s).modeReg = mStart ∧
    ((shipWake cause rail).run s).time = 0 ∧ ((shipWake cause rail).run s).rd Reg.SRC_HB_STATUS.WAKE = cause ∧
    ((shipWake cause rail).run s).flag Reg.SRC_HB_STATUS.HRAIL = rail ∧ ((shipWake cause rail).run s).rd Reg.GLB_RESET_CAUSE.SHIP_WAKE = 1 := by
  have hc' : cause < 2 ^ min Reg.SRC_HB_STATUS.WAKE.w 32 := hc
  have hbit : bit rail < 2 ^ min Reg.SRC_HB_STATUS.HRAIL.w 32 := by cases rail <;> decide
  have hflag : (bit rail == 1) = rail := by cases rail <;> rfl
  refine ⟨(startPending_stands (by decide)).mode, ?_⟩
  simp (disch := decide) [shipWake, State.flag, hflag, startPending_touch.rd, startPending_touch.time,
    rd_wr_fits, rd_wr_fits rfl hc', rd_wr_fits rfl hbit, rd_wr_of_id]

/-- Settles O51. -/
theorem deviceResets : Obligations.DeviceResets := by
  unfold Obligations.DeviceResets
  intro s
  refine ⟨?por, fun mv us hmv hus hm => ?brownout, fun us hus hm => ?pin, fun env hb hd => ?warm, fun cause battery hm h1 h3 hbat => ?wake⟩
  case por =>
    obtain ⟨hmode, hseq, hstep⟩ := deviceReset_stands (s := s) (kind := 0)
    refine does_of_always rfl ⟨hmode, ?_, ?_, hstep, hseq⟩
    · simp (disch := decide) [deviceReset, startPending_touch.time]
    · simp (disch := decide) [deviceReset, startPending_touch.rd, rd_wr_fits]
  case brownout =>
    obtain ⟨hmode, -, hstep⟩ := deviceReset_stands (s := s) (kind := 1)
    refine does_of_always rfl ?_
    rw [when_run, if_pos (by simp [hmv, hus, hm])]
    refine ⟨hmode, ?_, ?_, hstep⟩
    · simp (disch := decide) [deviceReset, startPending_touch.time]
    · simp (disch := decide) [deviceReset, startPending_touch.rd, rd_wr_fits]
  case pin =>
    obtain ⟨hmode, -, hstep⟩ := deviceReset_stands (s := s) (kind := 2)
    refine does_of_always rfl ?_
    rw [when_run, if_pos (by simp [hus, hm])]
    refine ⟨hmode, ?_, ?_, hstep⟩
    · simp (disch := decide) [deviceReset, startPending_touch.time, hiddenReset_touch.time, keepCut_touch.time]
    · simp (disch := decide) [deviceReset, startPending_touch.rd, rd_wr_fits]
  case warm =>
    obtain ⟨henv, hship⟩ := warmReset_power (s := s)
    obtain ⟨hstep, hmode, -, hwarm⟩ := startBegin_second warmReset_stands henv hship hd
    refine does_of_pfWrite (p := .seq warmReset (startBegin env)) hb rfl ?_
    rw [Prog.run_seq]
    exact ⟨hmode, hwarm.trans warmReset_cause, hstep⟩
  case wake =>
    obtain ⟨hmode, htime, hwake, hrail, hcause⟩ :=
      shipWake_starts (s := s) (rail := decide (cause ≠ 2 ∧ hbDead s.hbChem ≤ battery)) (Nat.lt_succ_of_le h3)
    refine does_of_always rfl ?_
    rw [Prog.run_read]
    dsimp only
    rw [if_neg (by omega), if_pos hm, if_neg (by rintro ⟨h, hlow⟩; exact Nat.not_le.2 hlow (hbat h))]
    exact ⟨hmode, htime, hwake, hrail, hcause⟩

/-- Settles O52: START's first steps by their work; a trigger that does not come is HALT. -/
theorem startBegins : Obligations.StartBegins := by
  unfold Obligations.StartBegins
  intro s hm he hq hp
  refine ⟨fun mv us env hmv hus hb hk hd => ?brownoutEnd, fun core pcie09 pcie18 io env h1 h2 h3 h4 h5 h6 h7 h8 hb hk hd => ?rails,
    fun env hk hd => ?release, fun us hk hus => ?timeout⟩
  case brownoutEnd =>
    refine does_of_always rfl ?_
    rw [when_run, if_pos (by simp [hmv, hus, hb, hk])]
    exact startBegin_first ⟨hm, hq, hk⟩ he hp hd
  case rails =>
    refine does_of_always rfl ?_
    rw [when_run, if_pos (by simp [h1, h2, h3, h4, h5, h6, h7, h8, hb, hk])]
    exact startBegin_first ⟨hm, hq, hk⟩ he hp hd
  case release =>
    refine does_of_always rfl ?_
    rw [when_run, if_pos (by simp [hk])]
    obtain ⟨hstep, -, hlock, -⟩ := startBegin_second (s := s) ⟨hm, hq, hk⟩ he hp hd
    exact ⟨hstep, hlock⟩
  case timeout =>
    refine does_of_always rfl ?_
    have hmode : s.mode = mStart := by rw [mode_eq_modeReg (by rw [hm]; decide), hm]
    rw [Prog.run_read]
    dsimp only
    rw [if_pos ⟨hmode, hq, hk, hus⟩]
    exact (haltEnter_halts (by rw [hm]; decide) (by rw [hm]; decide) (by decide) (by decide)).mode_and_cause

end Sys2Proof.Machine
end

section
/-! Tine debug (R486, R597): what is read, written and stepped, and that a frozen step lets nothing out. -/

set_option Elab.async false

namespace Sys2Proof.Machine

variable {s : State} {i : Instr} {P : State → Prop} {p kind addr t : Nat} {differs : Bool}

/-- A TINE_DBG command that is accepted for its pair acts (R597). -/
theorem does_of_tineDbg {q : Prog} (hp : s.servicePort = true) (hok : s.dbgOk p = true) (he : exec i s = tineDbg p q s)
    (h : P (q.run ((tap 0x15 0).run s))) : Does i s P := does_of_tap hp hok he h

/-- What a read shows of a cell that holds no word of a task: the value found there, or a free one that then stands there. -/
theorem tineRead_shows (h : kind = 1 → s.taskOn p = none) :
    (((tineRead p kind addr differs).run s).tine (tineKey p kind addr)).v = some ((tineRead p kind addr differs).run s).svc.tdo := by
  have hstored : (if kind = 1 then (s.taskOn p).bind fun t => ((s.task t).mem.find? (·.1 == addr)).map (·.2) else none) = none := by
    split
    · simp [h ‹_›]
    · rfl
  rw [tineRead, Prog.run_read]
  simp only [hstored, Option.none_or]
  cases hv : (s.tine (tineKey p kind addr)).v <;> cases differs <;> simp [tap, hv]

/-- Where the tines differ, a read says so. -/
theorem tineRead_differs : ((tineRead p kind addr true).run s).rd Reg.SVC_STATUS.DBG_DIFF = 1 := by
  rw [tineRead, Prog.run_read]
  dsimp only
  generalize Option.or _ _ = o
  cases o <;> simp (disch := decide) [tap, rd_wr_fits]

/-- A read of the data memory shows the word of the task that the pair runs. -/
theorem tineRead_task {v : Nat} (ht : s.taskOn p = some t) (hm : (s.task t).mem.find? (·.1 == addr) = some (addr, v)) :
    ((tineRead p 1 addr differs).run s).svc.tdo = v := by
  cases differs <;> simp [tineRead, ht, hm, tap]

/-- A write of a cell that holds no word of a task stands there. -/
theorem tineWrite_stands {v : Nat} (h : kind = 1 → s.taskOn p = none) :
    (((tineWrite p kind addr v).run s).tine (tineKey p kind addr)).v = some (v % 2 ^ 32) := by
  have hnone : (if kind = 1 then s.taskOn p else none) = none := by
    split
    · exact h ‹_›
    · rfl
  simp [tineWrite, hnone]

/-- A write of the data memory is the task's. -/
theorem tineWrite_task {v : Nat} (ht : s.taskOn p = some t) :
    ((((tineWrite p 1 addr v).run s).task t).mem.find? (·.1 == addr)) = some (addr, v % 2 ^ 32) := by
  simp [tineWrite, ht]

/-! A step. -/

/-- A table whose records of a key all map to the default shows the default there. -/
theorem Tab.get_map_default {β : Type} [DecidableEq β] {d : β} {g : Nat → β → β} {k : Nat} (h : ∀ v, g k v = d) (l : List (Nat × β)) :
    Tab.get d (Tab.map d g l) k = d := by
  induction l with
  | nil => rfl
  | cons e l ih =>
    obtain ⟨k', v⟩ := e
    by_cases hk : k' = k
    · subst hk
      simpa [Tab.map, h] using ih
    · by_cases hd : g k' v = d
      · simpa [Tab.map, hd] using ih
      · simpa [Tab.map, hd, Tab.get, hk] using ih

/-- A step forgets what debug saw of the pair's registers and data. -/
theorem tineForget_forgets (hk : kind ≠ 2) : ((tineForget p).run s).tine (tineKey p kind addr) = {} := by
  refine Tab.get_map_default (d := ({} : TineCell)) (g := fun key c =>
    if (Nat.unpair key).1 = p ∧ (Nat.unpair (Nat.unpair key).2).1 ≠ 2 then {} else c) (fun v => ?_) s.tines
  simp [tineKey, hk]

/-- An act of a frozen step leaves the tine's outputs alone: the store queue takes it, which has room (R597). -/
theorem stepAct_out {a : TineAct} (h : (s.task t).queue.length < storeDepth) : ((stepAct t a).run s).out = s.out := by
  have henters (e : StoreEntry) : ((storeEnters t e).run s).out = s.out := by
    simp [storeEnters, when_run, Nat.not_le.2 h]
  cases a with
  | effect kind target data =>
    simp only [stepAct, tineAct]
    split
    · exact henters _
    · rfl
  | store addr data =>
    simp only [stepAct, tineAct]
    split
    · exact henters _
    · rfl
  | read addr => exact henters _
  | load addr => rfl
  | commit => rfl
  | discard => rfl
  | arrive b => rfl
  | trace kind data => rfl

theorem stepActs_out {acts : List TineAct} : ((stepActs t acts).run s).out = s.out := by
  induction acts generalizing s with
  | nil => rfl
  | cons a acts ih =>
    rw [stepActs, cond_run]
    split
    case isTrue h => exact ih.trans (stepAct_out (of_decide_eq_true h))
    case isFalse => rfl

/-- What a step of the pair runs: the acts of its task. -/
def tineActs (p n : Nat) (acts : List TineAct) : Prog := .read fun s =>
  match s.taskOn p with
  | some t => if s.flag Reg.SVC_STATUS.FROZEN then stepActs t (acts.take n) else each (acts.take n) (tineAct t)
  | none => .skip

theorem tineActs_touch {n : Nat} {acts : List TineAct} : (tineActs p n acts).Touches
    0x180000400000000000000000000000000000000000000000000000000000000010000000000000000000000000000000000000000000000000000000000000000000000000000000000000000000000000000000000000000000000 := by
  refine touch_read fun s => ?_
  split
  · exact touch_ite stepActs_touch (touch_each fun _ => tineAct_touch)
  · exact touch_skip

theorem tineActs_out {n : Nat} {acts : List TineAct} (hf : s.flag Reg.SVC_STATUS.FROZEN = true) : ((tineActs p n acts).run s).out = s.out := by
  rw [tineActs, Prog.run_read]
  split
  · rw [if_pos hf]
    exact stepActs_out
  · rfl

/-- Settles O59: each command by what it does to a cell, to the step's acts or to the pair. -/
theorem tineDebug : Obligations.TineDebug := by
  unfold Obligations.TineDebug
  intro s p hp hok
  refine ⟨fun r differs hr => ?readReg, fun r v hr => ?writeReg, fun addr differs ht => ?readData, fun addr t0 v differs ht hm => ?readTask,
    fun addr v ht => ?writeData, fun addr v t0 ht => ?writeTask, fun addr differs => ?readCode, fun n r acts h1 h2 => ?step,
    fun addr hb hl => ?set, fun addr => ?clear, fun hrun hh => ?resume⟩
  case readReg =>
    refine does_of_tineDbg hp hok rfl ?_
    rw [if_pos hr]
    refine ⟨tineRead_shows (by simp), ?_⟩
    rintro rfl
    exact tineRead_differs
  case writeReg =>
    refine does_of_tineDbg hp hok rfl ?_
    rw [if_pos hr]
    exact tineWrite_stands (by simp)
  case readData => exact does_of_tineDbg hp hok rfl (tineRead_shows fun _ => ht)
  case readTask => exact does_of_tineDbg hp hok rfl (tineRead_task (s := (tap 0x15 0).run s) ht hm)
  case writeData => exact does_of_tineDbg hp hok rfl (tineWrite_stands fun _ => ht)
  case writeTask => exact does_of_tineDbg hp hok rfl (tineWrite_task (s := (tap 0x15 0).run s) ht)
  case readCode => exact does_of_tineDbg hp hok rfl (tineRead_shows (by simp))
  case step =>
    refine does_of_tineDbg hp hok rfl ?_
    rw [if_pos ⟨h1, h2⟩]
    show ((((tineActs p n acts).run ((tineForget p).run ((tap 0x15 0).run s))).tine _).v = none ∧ (((tineActs p n acts).run _).tine _).v = none ∧
      (_ → ((tineActs p n acts).run ((tineForget p).run ((tap 0x15 0).run s))).out = _))
    have hkeep (key : Nat) : ((tineActs p n acts).run ((tineForget p).run ((tap 0x15 0).run s))).tine key =
        ((tineForget p).run ((tap 0x15 0).run s)).tine key := tineActs_touch.tine rfl _ _
    refine ⟨?_, ?_, fun hf => tineActs_out (s := (tineForget p).run ((tap 0x15 0).run s)) hf⟩
    · rw [hkeep, tineForget_forgets (by decide)]
    · rw [hkeep, tineForget_forgets (by decide)]
  case set =>
    refine does_of_tineDbg hp hok rfl ?_
    simp at hb
    simp [hb, Nat.not_le.2 hl, tap]
  case clear => exact does_of_tineDbg hp hok rfl (by simp [tap])
  case resume =>
    refine does_of_tineDbg hp hok rfl ?_
    have hfit (v : Nat) (t : State) : (t.wr Reg.SVC_STATUS.HALTED_PAIRS 0 0 0 v).rd Reg.SVC_STATUS.HALTED_PAIRS = v % 1024 :=
      State.rd_wr_same _ _ _ _ _ _ rfl
    have hrun' : ((tap 0x15 0).run s).flag Reg.SVC_STATUS.DBG_RUN = true := hrun
    have hh' : (((tap 0x15 0).run s).pair p).halted = true := hh
    rw [Prog.run_read, if_pos (by simp [hrun', hh'])]
    split <;> simp (disch := decide) [tap, hfit, tineForget, sysWdgResume_touch.rd, sysWdgResume_touch.pair]

end Sys2Proof.Machine
end

section
/-! The end of a rollout (R496, R499): the record of the active bank is asked for once. -/

set_option Elab.async false

namespace Sys2Proof.Machine

variable {s : State}

/-- The last dwell of a rollout asks for the record of ACTIVE_BANK, where none waits (R499). -/
theorem execRolloutDwellEnd_asks (hs : s.stopped = false) (hst : s.rd Reg.ENG_UPG.STATE = 3) (hk : s.rd Reg.ENG_UPG.STEP = 7)
    (ht : s.eng.dwellAt + 1000000 * s.eng.dwell ≤ s.time) (hb : rollNext (s.rd Reg.ENG_UPG.BED) = none)
    (hq : s.keep.queue.any KeepReq.isBoot = false) : Does .rolloutDwellEnd s fun t => t.eng.roll = none ∧
      t.keep.queue = s.keep.queue ++ [{ effect := .boot (1 - s.rd Reg.ENG_BOOT.ACTIVE_BANK), ctl := s.eng.roll }] := by
  refine does_of_ends hs rfl ?_
  simp only [Prog.run_read, hst, hk, hb, hq, ht, ge_iff_le, and_self, if_true, Bool.false_eq_true, if_false]
  exact ⟨rfl, keepRequest_queue⟩

/-- The last bed of a rollout has dwelt, and the record of ACTIVE_BANK waits to be written. -/
def bootWaits : State :=
  (seqs [updTime fun _ => 1000000000, setR Reg.PWR_MODE.MODE mRun, setR Reg.ENG_UPG.STATE 3, setR Reg.ENG_UPG.STEP 7, setR Reg.ENG_UPG.BED 0,
    updKeep fun k => { k with queue := [{ effect := .boot 1 }] }]).run State.reset

/-- Refutes O44: while the record of ACTIVE_BANK waits in the keep's queue, ROLLOUT_DWELL_END changes nothing, so the queue gains no second
record. `execRolloutDwellEnd_asks` has the case in which none waits. -/
theorem not_engineRollout : ¬ Obligations.EngineRollout := by
  intro h
  obtain ⟨-, -, -, -, -, hend, -⟩ := h bootWaits (by decide +kernel)
  obtain ⟨t, ht, -, hqueue⟩ := hend (by decide +kernel) (by decide +kernel) (by decide +kernel) (by decide +kernel)
  have hrest : exec .rolloutDwellEnd bootWaits = .next bootWaits := by
    have hs : bootWaits.stopped = false := by decide +kernel
    have hb : rollNext (bootWaits.rd Reg.ENG_UPG.BED) = none := by decide +kernel
    have hq : bootWaits.keep.queue.any KeepReq.isBoot = true := by decide +kernel
    show ends _ _ = _
    simp only [ends, hs, Prog.run_read, hb, hq, if_true, Bool.false_eq_true, ite_self, Prog.run_skip]
  rw [← Host.Outcome.next.inj (hrest.symm.trans ht)] at hqueue
  exact absurd (congrArg List.length hqueue) (by simp)

end Sys2Proof.Machine
end

section
/-! What has gone out stays out: the programs of a slot's safe state only add to it. -/

set_option Elab.async false

namespace Sys2Proof.Machine

/-- `o` has gone out. -/
def Said (o : Out) (s : State) : Prop := o ∈ s.out

section

variable {o : Out} {p : Prog} {M : Nat}

theorem Prog.Touches.leavesSaid (h : p.Touches M) (hM : M.testBit 706 = false) : p.Leaves (Said o) := fun s hs => by
  rw [Said, h.out s hM]
  exact hs

@[simp] theorem emit_leavesSaid {o' : Out} : (emit o').Leaves (Said o) := fun _ h => List.mem_cons_of_mem _ h
@[simp] theorem setR_leavesSaid {f : Fld} {v i j k : Nat} : (setR f v i j k).Leaves (Said o) := fun s h => by
  rw [Said, setR_run, State.wr_out]
  exact h
@[simp] theorem incSat_leavesSaid {f : Fld} {i j k : Nat} : (incSat f i j k).Leaves (Said o) := leaves_read fun _ => setR_leavesSaid
@[simp] theorem updR_leavesSaid {f : Fld} {v : State → Nat} {i j k : Nat} : (updR f v i j k).Leaves (Said o) := leaves_read fun _ => setR_leavesSaid
@[simp] theorem updRings_leavesSaid {k : Nat} {f : RingRec → RingRec} : (updRings k f).Leaves (Said o) := fun _ h => h
@[simp] theorem updFns_leavesSaid {k : Nat} {f : FnRec → FnRec} : (updFns k f).Leaves (Said o) := fun _ h => h
@[simp] theorem updSlots_leavesSaid {k : Nat} {f : SlotRec → SlotRec} : (updSlots k f).Leaves (Said o) := fun _ h => h
@[simp] theorem updTwb_leavesSaid {k : Nat} {f : BusRec → BusRec} : (updTwb k f).Leaves (Said o) := fun _ h => h

/-! Rings and events (R342, R361). -/

theorem ringMessage_leavesSaid {fn r : Nat} : (ringMessage fn r).Leaves (Said o) := leaves_read fun _ =>
  leaves_seq (leaves_read fun _ => leaves_ite setR_leavesSaid emit_leavesSaid) updRings_leavesSaid

theorem ringPost_leavesSaid {fn r : Nat} {entry : Nat → List Nat} {now : Bool} : (ringPost fn r entry now).Leaves (Said o) := leaves_read fun _ =>
  leaves_seqs (by simp [leaves_read fun _ => leaves_ite ringMessage_leavesSaid updRings_leavesSaid, ringModerate])

theorem writeStatus_leavesSaid {fn : Nat} : (writeStatus fn).Leaves (Said o) := leaves_read fun _ =>
  leaves_ite (leaves_seq emit_leavesSaid updFns_leavesSaid) leaves_skip

theorem deliver_leavesSaid {e : Ev} {fn : Nat} : (deliver e fn).Leaves (Said o) := leaves_read fun s => by
  dsimp only
  split
  · exact leaves_ite leaves_skip (leaves_seq updFns_leavesSaid writeStatus_leavesSaid)
  · refine leaves_ite (leaves_seqs ?_) (leaves_ite (leaves_seqs ?_) (leaves_seqs ?_)) <;>
      simp (disch := decide) [takeToken_touch.leavesSaid, ringPost_leavesSaid]

theorem raise_leavesSaid {e : Ev} {l : List Nat} : (raise e l).Leaves (Said o) := leaves_each fun _ => deliver_leavesSaid
@[simp] theorem raisePf_leavesSaid {typ src data : Nat} : (raisePf typ src data).Leaves (Said o) := raise_leavesSaid
@[simp] theorem raiseSlot_leavesSaid {typ sl data : Nat} : (raiseSlot typ sl data).Leaves (Said o) := leaves_read fun _ => raise_leavesSaid

/-! A slot that stops (R146). -/

theorem finalSnapshot_leavesSaid {sl : Nat} : (finalSnapshot sl).Leaves (Said o) := leaves_read fun _ => by
  refine leaves_ite (leaves_seq (leaves_read fun _ => leaves_seq setR_leavesSaid ?_) (gaugeClear_touch.leavesSaid rfl)) leaves_skip
  split
  · exact incSat_leavesSaid
  · exact leaves_ite incSat_leavesSaid ringPost_leavesSaid

theorem pollMissed_leavesSaid {sl : Nat} : (pollMissed sl).Leaves (Said o) := leaves_when (leaves_seq updSlots_leavesSaid
  (leaves_seq (leaves_read fun _ => leaves_ite (leaves_seq raiseSlot_leavesSaid updSlots_leavesSaid) leaves_skip) leaves_skip))

theorem agentQueue_leavesSaid {b : Nat} {j : TwbJob} : (agentQueue b j).Leaves (Said o) := leaves_read fun _ =>
  leaves_ite (leaves_ite (identRetryLater_touch.leavesSaid rfl) (leaves_ite pollMissed_leavesSaid (leaves_ite raisePf_leavesSaid leaves_skip)))
    updTwb_leavesSaid

theorem identBegin_leavesSaid {sl : Nat} : (identBegin sl).Leaves (Said o) := leaves_read fun _ => leaves_seqs (by
  have hattempt : (identAttempt sl).Leaves (Said o) := leaves_read fun _ =>
    leaves_seq updSlots_leavesSaid (leaves_seq (leaves_ite agentQueue_leavesSaid leaves_skip) leaves_skip)
  simp (disch := decide) [hattempt, dacShow_touch.leavesSaid])

theorem slotStopped_leavesSaid {sl : Nat} : (slotStopped sl).Leaves (Said o) := leaves_read fun s => by
  have hend {r : Nat} : (chargeEnd sl r).Leaves (Said o) := leaves_read fun _ => leaves_seq raiseSlot_leavesSaid (resvEnd_touch.leavesSaid rfl)
  have hagain : (reidentify sl).Leaves (Said o) := leaves_seqs (by
    simp (disch := decide) [fgDisarm_touch.leavesSaid, packForget_touch.leavesSaid, identBegin_leavesSaid])
  have huse : (Prog.read fun t => useUpdate (t.ownerOrPf sl)).Leaves (Said o) := leaves_read fun _ => useUpdate_touch.leavesSaid rfl
  have hoff {c : State → Bool} : (when c (seqs [finalSnapshot sl, fgDisarm sl,
      updSlots sl fun x => { x with offWait := false }])).Leaves (Said o) :=
    leaves_when (leaves_seqs (by simp (disch := decide) [finalSnapshot_leavesSaid, fgDisarm_touch.leavesSaid]))
  refine leaves_ite (leaves_seq setR_leavesSaid (leaves_seq (leaves_ite (leaves_seqs (by simp)) leaves_skip) (leaves_seq ?reason
    (leaves_seq hoff (leaves_seq ?release (leaves_seq huse (leaves_seq (leaves_when (leaves_ite hagain setR_leavesSaid)) leaves_skip)))))))
    (leaves_ite setR_leavesSaid leaves_skip)
  case reason =>
    split
    · exact leaves_seq updSlots_leavesSaid hend
    · exact leaves_skip
  case release =>
    split
    · exact leaves_seq updSlots_leavesSaid (keepRequest_touch.leavesSaid rfl)
    · exact leaves_skip

theorem leadPark_leavesSaid {lead : Nat} : (leadPark lead).Leaves (Said o) := leaves_read fun _ =>
  leaves_seq (parkOutput_touch.leavesSaid rfl) (leaves_seq
    (leaves_ite (leaves_seq (fgReverse_touch.leavesSaid rfl) slotStopped_leavesSaid) leaves_skip) (leaves_seq setR_leavesSaid leaves_skip))

theorem stopSlot_leavesSaid {sl after : Nat} {reason : Option Nat} : (stopSlot sl after reason).Leaves (Said o) := leaves_read fun _ =>
  leaves_seq updSlots_leavesSaid (leaves_seq setR_leavesSaid (leaves_seq (leaves_ite (leaves_read fun _ =>
    leaves_ite (softStopBegin_touch.leavesSaid rfl) (leaves_ite leaves_skip leadPark_leavesSaid)) leadPark_leavesSaid) leaves_skip))

theorem endParts_leavesSaid {sl reason fin : Nat} : (endParts sl reason fin).Leaves (Said o) := leaves_read fun _ => by
  have hend {d : Nat} : (transferEnd d reason).Leaves (Said o) := leaves_read fun _ => leaves_seqs (by
    simp (disch := decide) [freeReceiver_touch.leavesSaid, useUpdate_touch.leavesSaid])
  have haudit : (auditEnd sl fin false).Leaves (Said o) := leaves_read fun _ => leaves_seqs (by simp)
  refine leaves_seq (leaves_when hend) (leaves_seq (leaves_when haudit) (leaves_seq ?_ leaves_skip))
  split
  · exact leaves_seq hend (leaves_seq stopSlot_leavesSaid leaves_skip)
  · exact leaves_skip

/-- The safe state of a slot only adds to what goes out. -/
theorem slotSafe_leavesSaid {sl cause : Nat} : (slotSafe sl cause).Leaves (Said o) := by
  have htold {k : Nat} {d : State → Nat} : (Prog.read fun t => raiseSlot evFaulted k (d t)).Leaves (Said o) :=
    leaves_read fun _ => raiseSlot_leavesSaid
  refine leaves_read fun s => leaves_ite (leaves_seq (parkOutput_touch.leavesSaid rfl) (leaves_seq incSat_leavesSaid (leaves_seq
    (leaves_ite (leaves_seq setR_leavesSaid setR_leavesSaid) leaves_skip) (leaves_seq htold leaves_skip))))
    (leaves_ite (parkOutput_touch.leavesSaid rfl) (leaves_seqs ?_))
  simp (disch := decide) [htold, endParts_leavesSaid, parkOutput_touch.leavesSaid, fgDisarm_touch.leavesSaid, escalationsDrop_touch.leavesSaid,
    resvEnd_touch.leavesSaid, releaseGoesOn_touch.leavesSaid]

/-- Both copies of the order for a safe state go out (R521, R524). -/
theorem slotSafeSub_orders {s : State} {sl sub path : Nat} (hp : path = 0 ∨ path = 1) :
    .order (sl / 16) path (16 * sl + sub) (wordParity (16 * sl + sub)) ∈ ((slotSafeSub sl sub).run s).out := by
  rw [slotSafeSub, orderTo_run]
  refine leaves_read (P := Said _) (fun _ => leaves_seq (leaves_when setR_leavesSaid) (leaves_seq slotSafe_leavesSaid
    (leaves_seq (isolate_touch.leavesSaid rfl) leaves_skip))) _ ?_
  rcases hp with rfl | rfl
  · exact List.mem_cons_of_mem _ (List.mem_cons_self ..)
  · exact List.mem_cons_self ..

end

end Sys2Proof.Machine
end

section
/-! The Sundial's work (R523 to R539): read-back, the system watchdog, WARM by itself, the watchdog's clocks and the latent tests. -/

set_option Elab.async false

namespace Sys2Proof.Machine

variable {s : State} {P : State → Prop} {sl b obj k us : Nat} {pass : Bool}

/-! Threshold read-back (R523). -/

/-- A finding sets its bit (R538). -/
theorem latentFail_rd (hfail : s.rd Reg.SAF_LATENT.FAIL < 2 ^ 13) (hb : b < 13) :
    ((latentFail b obj).run s).rd Reg.SAF_LATENT.FAIL = setBit (s.rd Reg.SAF_LATENT.FAIL) b := by
  have hfit : setBit (s.rd Reg.SAF_LATENT.FAIL) b < 2 ^ min Reg.SAF_LATENT.FAIL.w 32 := setBit_lt hfail hb
  simp (disch := decide) [latentFail, raisePf_touch.rd, rd_wr_fits rfl hfit, rd_wr_of_id]

/-- A slot that has faulted stays so in a further safe state (R181). -/
theorem slotSafe_keepsFaulted {cause : Nat} (hodd : s.oddGanged sl = false) (hst : s.slSt sl = slFaulted) :
    ((slotSafe sl cause).run s).slSt sl = slFaulted := by
  have hcarrier : s.carrier sl = sl := by simp [State.carrier, hodd]
  rw [slotSafe, Prog.run_read]
  dsimp only
  rw [hcarrier, if_pos hst]
  have hcause {c : Prop} [Decidable c] :
      (if c then .seq (setR Reg.SLT_FAULT.CAUSE cause sl) (setR Reg.SAF_FG_B.SUBCAUSE 0 sl) else .skip : Prog).Keeps fun u => u.rd Reg.SLT_STATUS.STATE sl := keeps_ite (keeps_seq (keepsRd_setR (by decide)) (keepsRd_setR (by decide))) keeps_skip
  refine rd_after (f := Reg.SLT_STATUS.STATE) (keeps_seqs ?_) hst
  simp (disch := decide) [parkOutput_touch.keepsRd, keepsRd_incSat, hcause, keepsRd_raiseSlot]

/-- An order for the safe state of a slot that has a pack, or had one, leaves it FAULTED (R521). -/
theorem slotSafeSub_faulted {sub : Nat} (hodd : s.oddGanged sl = false) (hst : s.slSt sl ∉ [slEmpty, slOff, slGanged]) :
    ((slotSafeSub sl sub).run s).slSt sl = slFaulted := by
  by_cases hf : s.slSt sl = slFaulted
  · have hcarrier : s.carrier sl = sl := by simp [State.carrier, hodd]
    rw [slotSafeSub, orderTo_run, Prog.run_read, seqs_cons_run, seqs_cons_run, seqs_cons_run, seqs_nil_run]
    refine rd_after (f := Reg.SLT_STATUS.STATE) (isolate_touch.keepsRd rfl rfl) ?_
    have hwhen {c : State → Bool} {n : Nat} {g : Fld} {i : Nat} (h : Reg.SAF_FG_B.SUBCAUSE.id ≠ g.id) :
        (when c (setR Reg.SAF_FG_B.SUBCAUSE sub n)).Keeps fun u => u.rd g i := keeps_when (keepsRd_setR h)
    exact slotSafe_keepsFaulted ((oddGanged_of_keeps (hwhen (by decide))).trans hodd) (rd_after (hwhen (by decide)) hf)
  · exact (slotSafeSub_faults hodd (by simp only [List.mem_cons, List.not_mem_nil, or_false, not_or] at hst ⊢; tauto)).1

/-- What a read-back that finds a difference leaves, for the first time (R523). -/
theorem readbackError_first (h : (s.slot sl).fgErrAt = none) (hfail : s.rd Reg.SAF_LATENT.FAIL < 2 ^ 13) :
    (((readbackError sl).run s).slot sl).fgErrAt = some s.time ∧
      ((readbackError sl).run s).rd Reg.SAF_LATENT.FAIL = setBit (s.rd Reg.SAF_LATENT.FAIL) 8 := by
  simp [readbackError, h, latentFail_rd hfail]

/-- The second within a second is the slot's fault, by an order on both paths. -/
theorem readbackError_second {t0 : Nat} (h : (s.slot sl).fgErrAt = some t0) (ht : s.time < t0 + 1000000) (hodd : s.oddGanged sl = false)
    (hst : s.slSt sl ∉ [slEmpty, slOff, slGanged]) : ((readbackError sl).run s).slSt sl = slFaulted ∧
      ∀ path, path = 0 ∨ path = 1 → .order (sl / 16) path (16 * sl + 6) (wordParity (16 * sl + 6)) ∈ ((readbackError sl).run s).out := by
  have hrun : (readbackError sl).run s =
      (slotSafeSub sl 6).run ((updSlots sl fun x => { x with fgErrAt := some s.time }).run ((latentFail 8 sl).run s)) := by
    simp [readbackError, h, ht]
  have hstate : ((updSlots sl fun x => { x with fgErrAt := some s.time }).run ((latentFail 8 sl).run s)).slSt sl = s.slSt sl :=
    latentFail_touch.rd s Reg.SLT_STATUS.STATE rfl rfl sl 0 0
  rw [hrun]
  refine ⟨slotSafeSub_faulted ?_ (by rw [hstate]; exact hst), fun path hp => slotSafeSub_orders hp⟩
  exact (oddGanged_of_keeps (latentFail_touch.keepsRd rfl rfl)).trans hodd

theorem execThresholdReadback_runs (hs : s.stopped = false) (hon : s.sundialOn = true) (hsl : sl < 64) (h : P ((readbackError sl).run s)) :
    Does (.thresholdReadback [sl]) s P := by
  refine does_of_ends hs rfl ?_
  rwa [when_run, if_pos hon, each_singleton_run, if_pos hsl]

/-! The system watchdog (R528, R529). -/

/-- The first question is posed. -/
theorem execSysWdgQuestion_asks (hs : s.stopped = false) (hr : s.running = true) (hstop : s.sun.stopAt = none)
    (hst : s.rd Reg.WDG_STATUS.STATE ≠ 3) (hp : s.sun.posed = false) : Does (.sysWdgQuestion none) s fun t =>
      t.sun.posed = true ∧ t.sun.askedAt = s.time ∧ t.rd Reg.WDG_STATUS.STATE = 1 := by
  refine does_of_ends hs rfl ?_
  simp (disch := decide) [hr, State.sysWdgStopped, hstop, hst, hp, sysAsk, rd_wr_fits, rd_wr_of_id]

/-- The answer to the question in force, in its window and with its token, ends the misses. -/
theorem execSysWdgQuestion_answers (hs : s.stopped = false) (hr : s.running = true) (hstop : s.sun.stopAt = none)
    (hst : s.rd Reg.WDG_STATUS.STATE ≠ 3) (hp : s.sun.posed = true) (hj : s.sun.judged = false) (hn : s.time < s.sun.nextAt)
    (hw : s.sun.askedAt + 1000 * s.sun.askPeriod * s.sun.askOpen / 16 ≤ s.time) :
    Does (.sysWdgQuestion (some (s.rd Reg.WDG_STATUS.QSEQ, sysToken s.sun.question))) s fun t =>
      t.rd Reg.WDG_STATUS.MISSES = 0 ∧ t.sun.judged = true := by
  refine does_of_ends hs rfl ?_
  have hrun : (sysAnswer (s.rd Reg.WDG_STATUS.QSEQ) (sysToken s.sun.question)).run s =
      (updSun fun x => { x with judged := true }).run ((setR Reg.WDG_STATUS.MISSES 0).run s) := by
    rw [sysAnswer, Prog.run_read]
    dsimp only
    rw [if_neg (by simp [hj, hn]), if_pos rfl, if_pos ⟨hw, rfl⟩, Prog.run_seq]
  simp only [Prog.run_read, hr, Bool.true_or, Bool.not_true, Bool.false_or, State.sysWdgStopped, hstop, Option.isSome_none, beq_iff_eq, hst,
    if_false, hp, if_true, hrun]
  exact ⟨rd_after keepsRd_updSun (rd_setR rfl (by decide)), rfl⟩

/-- The Sundial's WARM after a HALT (R529), as the host's. -/
theorem execAutoWarm_warms {env : StartEnv} (hs : s.stopped = false) (hm : s.modeReg = mHalt) (ha : s.power.autoWarm = true)
    (hc : s.rd Reg.SAF_HALT.CAUSE = 3 ∨ s.rd Reg.SAF_HALT.CAUSE = 7 ∨ s.rd Reg.SAF_HALT.CAUSE = 8)
    (ht : s.power.haltAt + 1000000 * s.power.restartS ≤ s.time) (hw : s.power.autoWarms = []) (hd : env.durs.getD 1 0 ≤ 40000) :
    Does (.autoWarm env) s fun t => t.modeReg = mStart ∧ t.rd Reg.GLB_RESET_CAUSE.WARM = 1 ∧ t.rd Reg.PWR_MODE.STEP = 3 := by
  refine does_of_ends hs rfl ?_
  have hmode : s.mode = mHalt := by rw [mode_eq_modeReg (by rw [hm]; decide), hm]
  rw [Prog.run_read]
  dsimp only
  rw [if_pos ⟨hmode, ha, hc, ht, by simp [hw]⟩, seqs_cons_run, seqs_cons_run, seqs_cons_run, seqs_cons_run, seqs_nil_run]
  obtain ⟨henv, hship⟩ := warmReset_power (s := (setR Reg.WDG_CNT.AUTO_WARMS _).run ((updPower _).run s))
  obtain ⟨hstep, hmode, -, hwarm⟩ := startBegin_second warmReset_stands henv hship hd
  exact ⟨hmode, hwarm.trans warmReset_cause, hstep⟩

/-! The watchdog's clocks (R530). -/

theorem execWdgClockFail_crystal (hs : s.stopped = false) (hus : 20 ≤ us) (hon : hasBit (s.rd Reg.PWR_DOM.ON) 19 = true)
    (hok : s.flag Reg.WDG_STATUS.LPO_FAIL = false) (huse : s.rd Reg.WDG_STATUS.CLK_USE = 0) : Does (.wdgClockFail 0 us) s fun t =>
      t.rd Reg.WDG_STATUS.XTAL_FAIL = 1 ∧ t.rd Reg.WDG_STATUS.CLK_USE = 1 := by
  obtain ⟨hfrozen, hship⟩ := runs_of_stopped hs
  refine does_of_latching hfrozen hship (congrFun (if_neg (by omega)) s) ?_
  rw [wdgClockSeen, when_run, if_pos hon]
  simp (disch := decide) [wdgClockStopped, hok, huse, raisePf_touch.rd, rd_wr_fits, rd_wr_of_id]

theorem execWdgClockFail_lpo (hs : s.stopped = false) (hus : 20 ≤ us) (hon : hasBit (s.rd Reg.PWR_DOM.ON) 19 = true)
    (hok : s.flag Reg.WDG_STATUS.XTAL_FAIL = false) (huse : s.rd Reg.WDG_STATUS.CLK_USE = 1) : Does (.wdgClockFail 1 us) s fun t =>
      t.rd Reg.WDG_STATUS.LPO_FAIL = 1 ∧ t.rd Reg.WDG_STATUS.CLK_USE = 0 := by
  obtain ⟨hfrozen, hship⟩ := runs_of_stopped hs
  refine does_of_latching hfrozen hship (congrFun (if_neg (by omega)) s) ?_
  rw [wdgClockSeen, when_run, if_pos hon]
  have hlpo (v : State) (c : Prop) [Decidable c] (f : Fld) (i : Nat) (h1 : Reg.CLK_STATUS.LPO_OK.id ≠ f.id) (h2 : raiseMask.testBit f.id = false) :
      ((if c then .seq (setR Reg.CLK_STATUS.LPO_OK 0) (clkFail 1 0) else .skip : Prog).run v).rd f i = v.rd f i :=
    keeps_ite (keeps_seq (keepsRd_setR h1) (raisePf_touch.keepsRd h2 rfl)) keeps_skip v
  simp (disch := decide) [wdgClockStopped, hok, huse, hlpo, raisePf_touch.rd, rd_wr_fits, rd_wr_of_id]

/-! The latent tests (R538, R539). -/

/-- A test that is not refused runs. -/
theorem execLatentTest_runs (hs : s.stopped = false) (hon : s.sundialOn = true)
    (h : ¬ (b ≤ 2 ∧ (obj ≥ 64 ∨ k ∉ comparatorsOf b ∨ us > 20 ∨ s.inTest obj = true)))
    (hp : P ((seqs [
      updSun fun x => { x with latentDue := x.latentDue.filter (· != b) },
      if b ≤ 2 then .seq (updSlots obj fun x => { x with masked := some (k, s.time + us) }) (maskStandIn obj) else .skip,
      if pass then .skip else latentAction b obj]).run s)) : Does (.latentTest b obj k us pass) s P := by
  refine does_of_ends hs rfl ?_
  rwa [when_run, if_pos hon, Prog.run_read, if_neg h]

/-- The state in which a slot's comparator is under test. -/
def State.underTest (s : State) (b sl k us : Nat) : State :=
  (seqs [updSun fun x => { x with latentDue := x.latentDue.filter (· != b) }, updSlots sl fun x => { x with masked := some (k, s.time + us) }]).run s

theorem underTest_masked : ((s.underTest b sl k us).slot sl).masked = some (k, s.time + us) := by simp [State.underTest]

theorem underTest_fgMasked {c : Nat} : (s.underTest b sl k us).fgMasked sl c = (k == c && decide (0 < us)) := by
  have htime : (s.underTest b sl k us).time = s.time := rfl
  simp [State.fgMasked, underTest_masked, htime]

/-- A comparator's test masks it alone, and the gate interface stands in for it (R539). -/
theorem execLatentTest_masks (hs : s.stopped = false) (hon : s.sundialOn = true) (hb : b ≤ 2) (hsl : sl < 64) (hk : k ∈ comparatorsOf b)
    (hus : us ≤ 20) (hfree : s.inTest sl = false) (hp : P ((maskStandIn sl).run (s.underTest b sl k us))) :
    Does (.latentTest b sl k us true) s P := by
  refine execLatentTest_runs hs hon ?_ ?_
  · rintro ⟨-, h | h | h | h⟩
    · omega
    · exact h hk
    · omega
    · exact Bool.false_ne_true (hfree.symm.trans h)
  · rwa [if_pos hb]

theorem maskStandIn_ov (hm : s.fgMasked sl 0 = true) (hov : 20 * s.rd Reg.SAF_FG_A.OV_TH sl < s.rd Reg.PHC_MEAS_V.MEAS_V (s.slotLead sl)) :
    (maskStandIn sl).run s = (slotSafe sl caOverVoltage).run ((fgReport sl 0 (20 * s.rd Reg.SAF_FG_A.OV_TH sl) Reg.SAF_FG_B.TRIP_OV).run s) := by
  rw [maskStandIn, Prog.run_read]
  dsimp only
  rw [if_pos ⟨hm, hov⟩, Prog.run_seq]

theorem maskStandIn_oc (hm : s.fgMasked sl 0 = false) (hm1 : s.fgMasked sl 1 = true)
    (hoc : (100 * s.rd Reg.SAF_FG_A.OC_TH sl : Nat) < ofField 18 (s.rd Reg.PHC_MEAS_I.MEAS_I (s.slotLead sl))) :
    (maskStandIn sl).run s = (slotSafe sl caOverCurrent).run ((fgReport sl 1 (100 * s.rd Reg.SAF_FG_A.OC_TH sl) Reg.SAF_FG_B.TRIP_OC).run s) := by
  rw [maskStandIn, Prog.run_read]
  dsimp only
  rw [if_neg (by simp [hm]), if_pos ⟨hm1, hoc⟩, Prog.run_seq]

theorem maskStandIn_rests (hov : s.rd Reg.PHC_MEAS_V.MEAS_V (s.slotLead sl) ≤ 20 * s.rd Reg.SAF_FG_A.OV_TH sl)
    (hoc : ofField 18 (s.rd Reg.PHC_MEAS_I.MEAS_I (s.slotLead sl)) ≤ (100 * s.rd Reg.SAF_FG_A.OC_TH sl : Nat)) : (maskStandIn sl).run s = s := by
  rw [maskStandIn, Prog.run_read]
  dsimp only
  rw [if_neg fun h => Nat.not_lt.2 hov h.2, if_neg fun h => not_lt.2 hoc h.2, Prog.run_skip]

/-- A failed test of the coverage of the Sundial's own work (R538). -/
theorem latentAction_coverage (hb : b = 7 ∨ b = 10 ∨ b = 11) (hfail : s.rd Reg.SAF_LATENT.FAIL < 2 ^ 13) :
    ((latentAction b obj).run s).rd Reg.SAF_LATENT.FAIL = setBit (s.rd Reg.SAF_LATENT.FAIL) b ∧
      ((latentAction b obj).run s).rd Reg.GLB_HEALTH.COVERAGE_LOST = 1 := by
  have hrun : (latentAction b obj).run s = (healthSet Reg.GLB_HEALTH.COVERAGE_LOST fun _ => 1).run ((latentFail b obj).run s) := by
    rcases hb with rfl | rfl | rfl <;> rfl
  have hkeep : (healthSet Reg.GLB_HEALTH.COVERAGE_LOST fun _ => 1).Keeps fun u => u.rd Reg.SAF_LATENT.FAIL :=
    keeps_read fun _ => keeps_ite keeps_skip (keeps_seq (keepsRd_setR (by decide)) (raiseHealth_touch.keepsRd rfl rfl))
  rw [hrun]
  exact ⟨rd_after hkeep (latentFail_rd hfail (by omega)), healthSet_rd rfl (by decide) rfl⟩

/-! A masked comparator trips without effect (R539). -/

theorem fgOvTrip_masked {mv : Nat} (h : s.fgMasked sl 0 = true) : (fgOvTrip sl mv us).run s = s := by simp [fgOvTrip, h]
theorem fgOcTrip_masked {ma : Nat} (h : s.fgMasked sl 1 = true) : (fgOcTrip sl ma us).run s = s := by simp [fgOcTrip, h]
theorem fgRvTrip_masked {ma : Nat} (h : s.fgMasked sl 2 = true) : (fgRvTrip sl ma us).run s = s := by simp [fgRvTrip, h]

/-- Settles O54: each part by the lemma on its command; what trips under test by the stand-in of the gate interface. -/
theorem sundialWork : Obligations.SundialWork := by
  unfold Obligations.SundialWork
  constructor
  · intro s hs
    refine ⟨fun sl hsl hon he hf => ?first, fun sl t0 hsl hon he ht hodd hst => ?second, execSysWdgQuestion_asks hs, execSysWdgQuestion_answers hs,
      fun env hm ha hc ht hw hd => execAutoWarm_warms hs hm ha hc ht hw hd, fun us => execWdgClockFail_crystal hs, fun us => execWdgClockFail_lpo hs,
      fun b obj k us hon hb => ?passed, fun b obj k us hb hon hf => ?failed, fun hb => ?asked, fun hrec hhif hevt => ?recovered⟩
    case first => exact execThresholdReadback_runs hs hon hsl (readbackError_first he hf)
    case second =>
      obtain ⟨hst', hout⟩ := readbackError_second he ht hodd hst
      exact execThresholdReadback_runs hs hon hsl ⟨hst', hout 0 (.inl rfl), hout 1 (.inr rfl)⟩
    case passed =>
      refine execLatentTest_runs hs hon (fun h => by omega) ?_
      rw [if_neg (by omega)]
      rfl
    case failed =>
      refine execLatentTest_runs hs hon (fun h => by omega) ?_
      rw [if_neg (by omega)]
      exact latentAction_coverage (s := (updSun fun x => { x with latentDue := x.latentDue.filter (· != b) }).run s) hb hf
    case asked => exact does_of_pfWrite hb rfl rfl
    case recovered =>
      refine does_of_ends hs rfl ?_
      simp (disch := decide) [hrec, hhif, hevt, raisePf_touch.power]
  · intro s sl hs hsh hsl
    refine ⟨fun b k us hon hb hk hus hfree hov hoc => ?masks, fun b k us pass hon hb hin => ?busy, fun us hon h1 hus hfree hodd hseat hov => ?ov,
      fun us hon h1 hus hfree hodd hseat hoc => ?oc, fun mv us h => ?ovMasked, fun ma us h => ?ocMasked, fun ma us h => ?rvMasked⟩
    case masks =>
      refine execLatentTest_masks hs hon hb hsl hk hus hfree ?_
      rw [maskStandIn_rests (s := s.underTest b sl k us) hov hoc]
      exact ⟨rfl, underTest_masked, rfl⟩
    case busy =>
      refine does_of_ends hs rfl ?_
      rw [when_run, if_pos hon, Prog.run_read, if_pos ⟨hb, .inr (.inr (.inr hin))⟩]
      exact ⟨rfl, rfl⟩
    case ov =>
      refine execLatentTest_masks hs hon (by decide) hsl (by decide) hus hfree ?_
      rw [maskStandIn_ov (s := s.underTest 0 sl 0 us) (by simp [underTest_fgMasked]; omega) hov]
      exact (fgReport_tripped (s := s.underTest 0 sl 0 us) (by decide)).faults (by decide) hodd hseat (by decide)
    case oc =>
      refine execLatentTest_masks hs hon (by decide) hsl (by decide) hus hfree ?_
      rw [maskStandIn_oc (s := s.underTest 0 sl 1 us) (by simp [underTest_fgMasked]) (by simp [underTest_fgMasked]; omega) hoc]
      exact (fgReport_tripped (s := s.underTest 0 sl 1 us) (by decide)).faults (by decide) hodd hseat (by decide)
    case ovMasked =>
      refine does_of_latching (runs_of_stopped hs).1 hsh rfl ?_
      rw [fgOvTrip_masked h]
      exact ⟨rfl, rfl⟩
    case ocMasked =>
      refine does_of_latching (runs_of_stopped hs).1 hsh rfl ?_
      rw [fgOcTrip_masked h]
      exact ⟨rfl, rfl⟩
    case rvMasked =>
      refine does_of_latching (runs_of_stopped hs).1 hsh rfl ?_
      rw [fgRvTrip_masked h]
      exact ⟨rfl, rfl⟩

end Sys2Proof.Machine
end

section
/-! The records of the PD ports: what the shared operations of chapter 11 leave in them. -/

set_option Elab.async false

namespace Sys2Proof.Machine

variable {s : State} {k n kind cause status d lead stage : Nat}

/-! A slot's output that stops leaves the ports as they were (R104, R115). -/

theorem donorOf_lt {peer : Nat} (h : s.donorOf peer = some d) : d < 64 := by
  simpa using List.mem_of_find?_eq_some h

theorem slotLead_lt (h : d < 64) : s.slotLead d < 128 := by
  rw [State.slotLead, State.leadOf, if_pos (by omega)]
  split <;> omega

theorem setR_keepsPorts {f : Fld} {v i j l : Nat} : (setR f v i j l).Keeps State.ports := fun _ => State.wr_ports ..

/-- A park changes the ports by its output switch alone. -/
theorem parkOutput_switch : ∃ u : State, u.ports = s.ports ∧ (parkOutput lead stage).run s = (setDisc lead false).run u := by
  refine ⟨_, ?_, by rw [parkOutput, Prog.run_read]; rfl⟩
  have hchan : (each (s.outputOf lead) fun c => seqs [setR Reg.PHC_STATUS.PARKED 1 c, setR Reg.PHC_OUT.DUTY 0 c,
      updChans c fun x => { x with edges := none, pwmlLow := false, cut := false, cutSince := none, lowRun := 0 }]).Keeps State.ports :=
    keeps_each fun _ => keeps_cons setR_keepsPorts (keeps_cons setR_keepsPorts (keeps_cons (fun _ => rfl) keeps_seqs_nil))
  exact (keeps_seq hchan <| keeps_seq (keeps_ite setR_keepsPorts keeps_skip) <| keeps_seq setR_keepsPorts <| keeps_seq setR_keepsPorts <|
    keeps_seq setR_keepsPorts <| keeps_seq (fun _ => rfl) <| keeps_ite (keeps_each fun _ => setR_keepsPorts) keeps_skip) s

theorem parkOutput_keepsPorts (h : lead < 128) : (parkOutput lead stage).Keeps State.ports := fun s => by
  obtain ⟨u, hu, hrun⟩ := parkOutput_switch (s := s) (lead := lead) (stage := stage)
  rw [hrun, ← hu, setDisc, Prog.run_read, if_pos h]
  exact keeps_each (g := State.ports) (fun _ _ => rfl) u

theorem touch_keepsPorts {p : Prog} {M : Nat} (h : p.Touches M) (hM : M.testBit 714 = false) : p.Keeps State.ports := fun s => h.ports s hM

theorem leadPark_keepsPorts (h : lead < 128) : (leadPark lead).Keeps State.ports := keeps_read fun _ =>
  keeps_cons (parkOutput_keepsPorts h) (keeps_cons
    (keeps_ite (keeps_seq (touch_keepsPorts fgReverse_touch rfl) (touch_keepsPorts slotStopped_touch rfl)) keeps_skip)
    (keeps_cons setR_keepsPorts keeps_seqs_nil))

theorem transferStop_keepsPorts {reason : Nat} (h : d < 64) : (transferStop d reason).Keeps State.ports :=
  keeps_cons (touch_keepsPorts transferEnd_touch rfl) (keeps_cons (keeps_read fun _ => keeps_cons (fun _ => rfl) (keeps_cons setR_keepsPorts
    (keeps_cons (keeps_ite (keeps_read fun _ => keeps_ite (touch_keepsPorts softStopBegin_touch rfl) (keeps_ite keeps_skip
      (leadPark_keepsPorts (slotLead_lt h)))) (leadPark_keepsPorts (slotLead_lt h))) keeps_seqs_nil))) keeps_seqs_nil)

/-! What the operations leave in the record of the port. -/

/-- The record of a port without its contract (R460). -/
def PortRec.bare (x : PortRec) : PortRec :=
  { x with
    nextV := 0, nextI := 0, nextKind := 0, nextPos := 0, readyOwed := false, planned := false, epr := false,
    awaits := 0, offerOwed := false, offer := [], pps := none, svcStep := 0 }

@[simp] theorem contractGone_port : ((contractGone k).run s).port k = (s.port k).bare := by
  have hstop : (match s.donorOf (0x80 + k) with | some d => transferStop d 3 | none => .skip : Prog).Keeps State.ports := by
    split
    case h_1 d hd => exact transferStop_keepsPorts (donorOf_lt hd)
    case h_2 => exact keeps_skip
  have hport := hstop.view fun l => Tab.get ({} : PortRec) l k
  rw [contractGone, Prog.run_read]
  simp only [seqs_cons_run, seqs_nil_run]
  refine (hport _).trans ?_
  show State.port _ k = _
  simp [PortRec.bare]

theorem contractGone_contract : ((contractGone k).run s).rd Reg.PDP_STATUS.CONTRACT k = 0 := by
  have hstop : (match s.donorOf (0x80 + k) with | some d => transferStop d 3 | none => .skip : Prog).Keeps
      fun u => u.rd Reg.PDP_STATUS.CONTRACT k := by
    split
    · exact transferStop_touch.keepsRd rfl rfl
    · exact keeps_skip
  rw [contractGone, Prog.run_read]
  simp only [seqs_cons_run, seqs_nil_run]
  refine rd_after hstop ?_
  simp (disch := decide) [rd_wr_fits, rd_wr_of_id]

theorem finishRuns_port {l : List (Nat × Ctl)} {token : Nat} :
    ((each l fun a => finishRun a.2 status token).run s).port n = s.port n := (touch_each fun _ => finishRun_touch).port rfl _ _

@[simp] theorem actionsDone_port {p : Nat → Bool} :
    ((actionsDone k p status).run s).port k = { s.port k with actions := (s.port k).actions.filter fun a => !p a.1 } := by
  simp [actionsDone, finishRuns_port]

/-- VBUS goes off (R459, R460): its switch opens where the port has one, and it discharges. -/
@[simp] theorem vbusOff_port : ((vbusOff k).run s).port k =
    { s.port k with vbusEn := (s.port k).vbusEn && decide (8 ≤ k), vbusDis := true } := by
  obtain ⟨u, hu, hrun⟩ := parkOutput_switch (s := s) (lead := portLead k) (stage := 0)
  have hport : u.port k = s.port k := congrArg (fun l => Tab.get ({} : PortRec) l k) hu
  have hsub : 128 + k - 128 = k := by omega
  rw [vbusOff, Prog.run_seq, hrun, setDisc, Prog.run_read, portLead, if_neg (by omega)]
  by_cases hk : k < 8
  · rw [if_pos (by omega)]
    simp [hport, hsub, hk]
  · rw [if_neg (by omega)]
    simp [hport, Nat.not_lt.1 hk]

@[simp] theorem pdFault_port : ((pdFault k cause).run s).port n = s.port n := pdFault_touch.port rfl _ _
@[simp] theorem raisePort_port {typ data : Nat} : ((raisePort typ k data).run s).port n = s.port n := raisePort_touch.port rfl _ _
@[simp] theorem pdSend_run {m : PdMsg} : (pdSend k m).run s = (Act.out (.pd k m :: s.out)).apply s := rfl

theorem sendCaps_port (h : s.attached k = true) : ((sendCaps k).run s).port k =
    { s.port k with offer := s.fixedOffer k, pps := s.ppsOffer k, awaits := 2, offerOwed := false } := by
  simp [sendCaps, h]

/-- The record of a port as a Hard Reset leaves it (R460 step 1): every action on it has completed. -/
theorem hardReset_port (h : s.attached k = true) : ((hardReset k kind cause).run s).port k =
    { (s.port k).bare with hardStep := 1, hardAt := s.time, vconnSink := false, actions := [] } := by
  rw [hardReset, Prog.run_read, if_pos h]
  have hsent (u : State) : ((if kind = 0 then pdSend k .hardReset else .skip : Prog).run u).port k = u.port k := by split <;> simp
  simp (disch := decide) [hsent, svcOpen_touch.port, PortRec.bare]

theorem hardReset_contract (h : s.attached k = true) : ((hardReset k kind cause).run s).rd Reg.PDP_STATUS.CONTRACT k = 0 := by
  rw [hardReset, Prog.run_read, if_pos h]
  simp (disch := decide) [rd_wr_of_id, actionsDone_touch.rd, raisePort_touch.rd, contractGone_contract]

end Sys2Proof.Machine
end

section
/-! A PD port's protections and resets (R449, R453, R459 to R461). -/

set_option Elab.async false

namespace Sys2Proof.Machine

variable {s : State} {k vbus v : Nat}

theorem attached_iff : s.attached k = true ↔ s.rd Reg.PDP_STATUS.TC_STATE k = 3 := by simp [State.attached]

/-- What leaves TC_STATE leaves the attach. -/
theorem attached_of_keeps {p : Prog} (hp : p.Keeps fun u => u.rd Reg.PDP_STATUS.TC_STATE k) : (p.run s).attached k = s.attached k :=
  congrArg (· == 3) (hp s)

theorem vbusOff_attached : (vbusOff k).Keeps fun u => u.rd Reg.PDP_STATUS.TC_STATE k := vbusOff_touch.keepsRd rfl rfl
theorem pdFault_attached {cause : Nat} : (pdFault k cause).Keeps fun u => u.rd Reg.PDP_STATUS.TC_STATE k := pdFault_touch.keepsRd rfl rfl

/-! The protections (R449, R459). -/

/-- An overvoltage takes VBUS off and begins a Hard Reset. -/
theorem ovp_resets (h : s.attached k = true) :
    (((seqs [vbusOff k, pdFault k 2, hardReset k 0 2]).run s).port k).hardStep = 1 ∧
      (((seqs [vbusOff k, pdFault k 2, hardReset k 0 2]).run s).port k).vbusDis = true := by
  have hatt : ((pdFault k 2).run ((vbusOff k).run s)).attached k = true :=
    (attached_of_keeps pdFault_attached).trans ((attached_of_keeps vbusOff_attached).trans h)
  simp [hardReset_port hatt, PortRec.bare]

/-- PD_OVP above the limit that the contract gives. -/
theorem execPdOvp_resets (hs : s.stopped = false) (ha : s.attached k = true) (hen : (s.port k).vbusEn = true) (hv : v ≠ 0)
    (hvv : v = (if (s.port k).readyOwed then max (s.port k).nextV (s.rd Reg.PDP_CONTRACT.V k) else s.rd Reg.PDP_CONTRACT.V k))
    (hlim : (if s.rd Reg.PDP_STATUS.CONTRACT k = 2 then 100 * (v + 1000) else 115 * v) < 100 * vbus) :
    Does (.pdOvp k vbus) s fun t => (t.port k).hardStep = 1 ∧ (t.port k).vbusDis = true := by
  refine does_of_ends hs rfl ?_
  rw [Prog.run_read]
  dsimp only
  rw [← hvv, if_pos ⟨ha, hen, hv, hlim⟩]
  exact ovp_resets ha

/-- The end of ErrorRecovery presents Rp again, or faults the port where its retries are spent (R449). -/
theorem execPdErrorRecoveryEnd_ends (hs : s.stopped = false) (ht : s.rd Reg.PDP_STATUS.TC_STATE k = 4) (hr : (s.port k).recoverAt ≤ s.time) :
    Does (.pdErrorRecoveryEnd k) s fun t =>
      (s.rd Reg.PHC_CNT.RETRIES (portLead k) ≤ s.rd Reg.PHC_START.RETRY_MAX (portLead k) →
        t.rd Reg.PDP_STATUS.TC_STATE k = 1 ∧ (t.port k).vbusDis = false) ∧
      (s.rd Reg.PHC_START.RETRY_MAX (portLead k) < s.rd Reg.PHC_CNT.RETRIES (portLead k) → t.rd Reg.PDP_STATUS.TC_STATE k = 5) := by
  refine does_of_ends hs rfl ?_
  rw [Prog.run_read]
  dsimp only
  rw [if_neg (by omega)]
  by_cases hspent : s.rd Reg.PHC_START.RETRY_MAX (portLead k) < s.rd Reg.PHC_CNT.RETRIES (portLead k)
  · refine ⟨fun h => absurd hspent (Nat.not_lt.2 h), fun _ => ?_⟩
    simp (disch := decide) [hspent, pdFault_touch.rd, rd_wr_fits]
  · refine ⟨fun _ => ?_, fun h => absurd h hspent⟩
    simp (disch := decide) [hspent, rd_wr_fits]

/-- The PF's clear returns a faulted port (R449). -/
theorem portFaultClear_clears (ht : s.rd Reg.PDP_STATUS.TC_STATE k = 5) : ((portFaultClear k).run s).rd Reg.PDP_STATUS.TC_STATE k = 1 ∧
    ((portFaultClear k).run s).rd Reg.PHC_CNT.RETRIES (portLead k) = 0 := by
  simp (disch := decide) [portFaultClear, ht, rd_wr_fits, rd_wr_of_id]

/-- Settles O42. -/
theorem portGuards : Obligations.PortGuards := by
  unfold Obligations.PortGuards
  intro s k hs
  refine ⟨fun vbus v ha hen hv hc hvv hlim => ?ovp, fun vbus v ha hen hv hc hvv hlim => ?ovpPps, fun t0 ha hc hg hcc ht => ?ocp,
    fun ht hr hle => ?recovered, fun ht hr hlt => ?spent, fun hb ho ht => ?clear⟩
  case ovp => exact execPdOvp_resets hs ha hen hv hvv (by rw [if_neg hc]; exact hlim)
  case ovpPps => exact execPdOvp_resets hs ha hen hv hvv (by rw [if_pos hc]; omega)
  case ocp =>
    have hatt : ((pdFault k 3).run s).attached k = true := (attached_of_keeps pdFault_attached).trans ha
    refine does_of_ends hs rfl ?_
    rw [Prog.run_read]
    dsimp only
    rw [hcc, if_pos (by rcases hc with hc | hc <;> simp [ha, hc, hg, ht]), Prog.run_seq, hardReset_port hatt]
  case recovered =>
    obtain ⟨t, ht', h1, -⟩ := execPdErrorRecoveryEnd_ends hs ht hr
    exact ⟨t, ht', h1 hle⟩
  case spent =>
    obtain ⟨t, ht', -, h5⟩ := execPdErrorRecoveryEnd_ends hs ht hr
    exact ⟨t, ht', h5 hlt⟩
  case clear => exact does_of_pfWrites hb ho rfl rfl (portFaultClear_clears ht)

/-! Messages for the policy engine (R462, R467). -/

/-- A message that arrives alone, while the policy engine's pair runs, is answered by GoodCRC and taken. -/
theorem does_of_pdMessage {i : Instr} {P : State → Prop} {m : PdIn} (hs : s.stopped = false) (ha : s.attached k = true)
    (hp : s.rd Reg.ENG_TASK.STATE (policyTask k) < 2) (he : exec i s = ends (pdMessage k none m) s)
    (h : P ((pdTake k m).run ((Act.out (.pd k .goodCrc :: s.out)).apply s))) : Does i s P := by
  refine does_of_ends hs he ?_
  rw [pdMessage, pdReceive, Prog.run_read]
  dsimp only
  rw [if_neg (not_not.2 (attached_iff.1 ha)), Prog.run_seq, if_pos rfl, pdSend_run, Prog.run_read, if_neg (by simpa using hp)]
  exact h

/-! The resets (R453, R460, R461). -/

/-- A Hard Reset begins. -/
theorem hardReset_begins {kind cause : Nat} (h : s.attached k = true) : (((hardReset k kind cause).run s).port k).hardStep = 1 ∧
    (((hardReset k kind cause).run s).port k).hardAt = s.time ∧ ((hardReset k kind cause).run s).rd Reg.PDP_STATUS.CONTRACT k = 0 := by
  refine ⟨?_, ?_, hardReset_contract h⟩ <;> rw [hardReset_port h]

/-- A Soft Reset of the sink is counted and answered by the capabilities (R461). -/
theorem softTook_answers (ha : s.attached k = true) (hh : (s.port k).hardStep = 0) :
    ((softTook k).run s).rd Reg.PDP_CNT.SOFT_RESETS k = min (s.rd Reg.PDP_CNT.SOFT_RESETS k + 1) 255 ∧
      (((softTook k).run s).port k).awaits = 2 := by
  rw [softTook, Prog.run_read, if_pos ⟨ha, hh⟩]
  constructor
  · simp (disch := decide) [sendCaps_touch.rd, raisePort_touch.rd, rd_counted (f := Reg.PDP_CNT.SOFT_RESETS) (m := 255) rfl (by decide) rfl]
  · have hatt : ((seqs [incSat Reg.PDP_CNT.SOFT_RESETS k, raisePort evPdReset k (dat 16 1 3 + dat 17 1 1),
        pdSend k .accept]).run s).attached k = true :=
      (attached_of_keeps (keeps_cons (keepsRd_incSat (by decide)) (keeps_cons (raisePort_touch.keepsRd rfl rfl) (keeps_cons (fun _ => rfl)
        keeps_seqs_nil)))).trans ha
    simp only [seqs_cons_run, seqs_nil_run] at hatt ⊢
    rw [sendCaps_port hatt]

/-- Settles O40. -/
theorem portResets : Obligations.PortResets := by
  unfold Obligations.PortResets
  intro s k hs
  refine ⟨fun he ha => ?keepalive, fun received ha => ?hard, fun hh ht => ?park, fun since hh h1 h2 => ?hold, fun ha hp hh => ?soft,
    fun haw ha => ?softTimeout, fun haw ha => ?response⟩
  case keepalive =>
    refine does_of_ends hs rfl ?_
    rw [Prog.run_read, if_pos he]
    exact (hardReset_begins ha).1
  case hard =>
    refine does_of_ends hs rfl ?_
    cases received with
    | false => exact hardReset_begins ha
    | true =>
      rw [if_pos rfl, pdReceive, Prog.run_read]
      dsimp only
      rw [if_neg (not_not.2 (attached_iff.1 ha))]
      exact hardReset_begins ha
  case park =>
    refine does_of_ends hs rfl ?_
    rw [Prog.run_read]
    dsimp only
    rw [if_pos ⟨hh, ht⟩]
    simp
  case hold =>
    refine does_of_ends hs rfl ?_
    rw [Prog.run_read]
    dsimp only
    rw [if_pos ⟨hh, h1, h2⟩]
    simp (disch := decide) [portStart, rd_wr_fits, rd_wr_of_id]
  case soft => exact does_of_pdMessage hs ha hp rfl (softTook_answers (s := (Act.out (.pd k .goodCrc :: s.out)).apply s) ha hh)
  case softTimeout =>
    refine does_of_ends hs rfl ?_
    rw [Prog.run_read, if_pos haw]
    exact (hardReset_begins ha).1
  case response =>
    refine does_of_ends hs rfl ?_
    rw [Prog.run_read, haw]
    exact (hardReset_begins ha).1

end Sys2Proof.Machine
end

section
/-! A PD port comes up (R448 to R455). -/

set_option Elab.async false

namespace Sys2Proof.Machine

variable {s : State} {k vbus pos mv ma rev nv ni kind : Nat}

/-! The reading of VBUS is no part of the offer (R452). -/

section

variable {x : Nat}

theorem mode_meas : (s.wr Reg.PDP_MEAS.VBUS k 0 0 vbus).mode = s.mode := by
  simp (disch := decide) [State.mode, State.modeReg, State.flag, rd_wr_of_id]

theorem pmaxEff_meas : (s.wr Reg.PDP_MEAS.VBUS k 0 0 vbus).pmaxEff x = s.pmaxEff x := by
  simp (disch := decide) [State.pmaxEff, State.busDw, State.flag, mode_meas, rd_wr_of_id]

theorem cableI_meas : (s.wr Reg.PDP_MEAS.VBUS k 0 0 vbus).cableI x = s.cableI x := by
  simp (disch := decide) [State.cableI, State.flag, rd_wr_of_id]

theorem cableV_meas : (s.wr Reg.PDP_MEAS.VBUS k 0 0 vbus).cableV x = s.cableV x := by
  simp (disch := decide) [State.cableV, State.flag, rd_wr_of_id]

theorem eprMay_meas : (s.wr Reg.PDP_MEAS.VBUS k 0 0 vbus).eprMay x = s.eprMay x := by
  simp (disch := decide) [State.eprMay, State.cableEpr, State.flag, mode_meas, rd_wr_of_id]

theorem eprObjs_meas : (s.wr Reg.PDP_MEAS.VBUS k 0 0 vbus).eprObjs x = s.eprObjs x := by
  simp (disch := decide) [State.eprObjs, pmaxEff_meas, rd_wr_of_id]

theorem fixedOffer_meas : (s.wr Reg.PDP_MEAS.VBUS k 0 0 vbus).fixedOffer x = s.fixedOffer x := by
  simp (disch := decide) [State.fixedOffer, State.wr_port, pmaxEff_meas, cableI_meas, cableV_meas, eprMay_meas, eprObjs_meas, mode_meas,
    rd_wr_of_id]

end

/-- What lets PD_VBUS_READY ask for the cable or send the capabilities (R448 step 4). -/
structure VbusReady (s : State) (k vbus : Nat) : Prop where
  running : s.stopped = false
  attached : s.attached k = true
  reset : (s.port k).hardStep = 0
  offer : (s.port k).offer = []
  awaits : (s.port k).awaits = 0
  enabled : (s.port k).vbusEn = true
  low : 4750 ≤ vbus
  high : vbus ≤ 5500

theorem VbusReady.does {P : State → Prop} (h : VbusReady s k vbus) (hp : P ((cableAsk k).run (s.wr Reg.PDP_MEAS.VBUS k 0 0 vbus))) :
    Does (.pdVbusReady k vbus) s P := by
  obtain ⟨hs, ha, hr, ho, haw, hen, hlow, hhigh⟩ := h
  refine does_of_ends hs rfl ?_
  rw [Prog.run_read]
  dsimp only
  rw [if_pos (by simp [ha, hr, ho, haw, hen, hlow, hhigh])]
  exact hp

/-- With VCONN on neither side, the capabilities go out at once. -/
theorem cableAsk_offers (hv : s.flag Reg.PDP_STATUS.VCONN k = false) (hsink : (s.port k).vconnSink = false) :
    (cableAsk k).run s = (sendCaps k).run s := by
  simp [cableAsk, hv, hsink]

/-- With VCONN on, the cable is asked; with VCONN at the sink, VCONN is asked for. -/
theorem cableAsk_asks (hu : (s.port k).unmarked = false) (hc : s.flag Reg.PDP_CABLE.VALID k = false) :
    (s.flag Reg.PDP_STATUS.VCONN k = true →
      (((cableAsk k).run s).port k).awaits = 1 ∧ ((cableAsk k).run s).out = .pd k .discoverIdentityCable :: s.out) ∧
    (s.flag Reg.PDP_STATUS.VCONN k = false → (s.port k).vconnSink = true →
      (((cableAsk k).run s).port k).awaits = 4 ∧ ((cableAsk k).run s).out = .pd k .vconnSwap :: s.out) := by
  constructor
  · intro hv
    simp [cableAsk, hu, hc, hv]
  · intro hv hsink
    simp [cableAsk, hu, hc, hv, hsink]

/-- The e-marker's answer is recorded (R451). -/
theorem cableTook_records {cur vmax : Nat} {epr : Bool} (ha : s.attached k = true) (haw : (s.port k).awaits = 1 ∨ (s.port k).awaits = 4)
    (hcur : cur < 4) (hvmax : vmax < 256) : ((cableTook k cur vmax epr).run s).rd Reg.PDP_CABLE.VALID k = 1 ∧
      ((cableTook k cur vmax epr).run s).rd Reg.PDP_CABLE.CABLE_I k = cur ∧ ((cableTook k cur vmax epr).run s).rd Reg.PDP_CABLE.VMAX k = vmax ∧
      ((cableTook k cur vmax epr).run s).flag Reg.PDP_CABLE.EPR_CAP k = epr := by
  have hcur' : cur < 2 ^ min Reg.PDP_CABLE.CABLE_I.w 32 := hcur
  have hvmax' : vmax < 2 ^ min Reg.PDP_CABLE.VMAX.w 32 := hvmax
  have hbit : bit epr < 2 ^ min Reg.PDP_CABLE.EPR_CAP.w 32 := by cases epr <;> decide
  have hflag : (bit epr == 1) = epr := by cases epr <;> rfl
  rw [cableTook, Prog.run_read, if_pos ⟨ha, haw⟩]
  simp (disch := decide) [State.flag, hflag, sendCaps_touch.rd, raisePort_touch.rd, rd_wr_fits, rd_wr_fits rfl hcur', rd_wr_fits rfl hvmax',
    rd_wr_fits rfl hbit, rd_wr_of_id]

/-- Actions that wait for the sink's answer complete: nothing else of the port changes (R447, R461). -/
theorem requestAnswered_port : ∃ l, ((requestAnswered k).run s).port k = { s.port k with actions := l } := by
  by_cases ho : (s.port k).offerOwed = true
  · exact ⟨(s.port k).actions, by rw [requestAnswered, Prog.run_read, if_pos ho]; rfl⟩
  · exact ⟨_, by rw [requestAnswered, Prog.run_read, if_neg ho, actionsDone_port]⟩

/-- A Request that the offer covers is accepted (R455). -/
theorem requestJudged_accepts (ha : s.attached k = true) (hh : (s.port k).hardStep = 0) (ho : (s.port k).offer ≠ [])
    (hq : (s.port k).asked pos mv ma = some (nv, ni, kind)) : ∃ l, ((requestJudged k pos mv ma rev).run s).port k =
      { s.port k with
        nextV := nv, nextI := ni, nextKind := kind, nextPos := pos, readyOwed := true, planned := false, awaits := 0, actions := l } := by
  have hrev (u : State) : ((when (fun _ => s.rd Reg.PDP_STATUS.REV k == 0) (setR Reg.PDP_STATUS.REV rev k)).run u).port k = u.port k := by
    rw [when_run]
    split <;> simp
  rw [requestJudged, Prog.run_read]
  dsimp only
  rw [if_neg (by simp [ha, hh, ho]), hq]
  simp only [seqs_cons_run, seqs_nil_run, pdSend_run, updPorts_run]
  obtain ⟨l, hl⟩ := requestAnswered_port (k := k) (s := (Act.ports k _).apply ((when (fun _ => s.rd Reg.PDP_STATUS.REV k == 0)
    (setR Reg.PDP_STATUS.REV rev k)).run ((Act.out (.pd k .accept :: s.out)).apply s)))
  exact ⟨l, by rw [hl]; simp [hrev]⟩

/-- An action on the contract leaves it in force, but a Hard Reset. -/
theorem actStart_keepsContract {f : Fld} {a : Nat} {c : Ctl}
    (hf : f = Reg.PDP_CONTRACT.V ∨ f = Reg.PDP_CONTRACT.I ∨ f = Reg.PDP_STATUS.CONTRACT) (ha : a ≠ 4) :
    (actStart k a c).Keeps fun u => u.rd f k := by
  have hraise {typ data : Nat} : (raisePort typ k data).Keeps fun u => u.rd f k := by
    rcases hf with rfl | rfl | rfl <;> exact raisePort_touch.keepsRd rfl rfl
  have hcnt : (incSat Reg.PDP_CNT.SOFT_RESETS k).Keeps fun u => u.rd f k := by
    rcases hf with rfl | rfl | rfl <;> exact keepsRd_incSat (by decide)
  have hexit : (svcExit k).Keeps fun u => u.rd f k := by
    rcases hf with rfl | rfl | rfl <;> exact svcExit_touch.keepsRd rfl rfl
  have hdone {status token : Nat} : (finishRun c status token).Keeps fun u => u.rd f k := by
    rcases hf with rfl | rfl | rfl <;> exact finishRun_touch.keepsRd rfl rfl
  unfold actStart
  dsimp only
  split
  case h_1 =>
    exact keeps_cons (fun _ => rfl) (keeps_cons (fun _ => rfl) (keeps_cons (fun _ => rfl) (keeps_cons hcnt (keeps_cons hraise keeps_seqs_nil))))
  case h_2 => exact absurd rfl ha
  case h_3 => exact keeps_cons (fun _ => rfl) (keeps_cons (fun _ => rfl) (keeps_cons (fun _ => rfl) keeps_seqs_nil))
  case h_4 => exact keeps_seq hexit (keeps_read fun _ => hdone)

/-- A contract that is ready comes into force; an action that has waited may begin behind it, but a Hard Reset (R455, R466). -/
theorem offerPaid_keepsContract {f : Fld} (hf : f = Reg.PDP_CONTRACT.V ∨ f = Reg.PDP_CONTRACT.I ∨ f = Reg.PDP_STATUS.CONTRACT)
    (hno : ∀ a ∈ (s.port k).actions, a.1 ≠ 20) : ((offerPaid k).run s).rd f k = s.rd f k := by
  have hcaps : (sendCaps k).Keeps fun u => u.rd f k := by
    rcases hf with rfl | rfl | rfl <;> exact sendCaps_touch.keepsRd rfl rfl
  rw [offerPaid, Prog.run_read]
  dsimp only
  split
  · rfl
  · split
    · exact hcaps s
    · split
      next a c hfind =>
        have hwaited : 16 ≤ a := by simpa using List.find?_some hfind
        have hnot : a ≠ 20 := hno _ (List.mem_of_find?_eq_some hfind)
        exact keeps_seq (g := fun u => u.rd f k) (fun _ => rfl) (actStart_keepsContract hf (by omega)) s
      next => rfl

/-- What PD_PS_RDY puts in force (R455). -/
theorem contractReady_inForce {data : Nat} (hi : ni < 8192) (hkind : kind < 4) (hno : ∀ a ∈ (s.port k).actions, a.1 ≠ 20) :
    let t := (seqs [setR Reg.PDP_MEAS.VBUS vbus k, pdSend k .psRdy, setR Reg.PDP_CONTRACT.V nv k, setR Reg.PDP_CONTRACT.I ni k,
      setR Reg.PDP_STATUS.CONTRACT kind k, updPorts k fun x => { x with readyOwed := false, planned := false },
      raisePort evPdContract k data, offerPaid k]).run s
    t.rd Reg.PDP_CONTRACT.V k = nv % 2 ^ 16 ∧ t.rd Reg.PDP_CONTRACT.I k = ni ∧ t.rd Reg.PDP_STATUS.CONTRACT k = kind := by
  have hv (u : State) : (u.wr Reg.PDP_CONTRACT.V k 0 0 nv).rd Reg.PDP_CONTRACT.V k = nv % 2 ^ 16 := State.rd_wr_same _ _ _ _ _ _ rfl
  have hi' : ni < 2 ^ min Reg.PDP_CONTRACT.I.w 32 := hi
  have hkind' : kind < 2 ^ min Reg.PDP_STATUS.CONTRACT.w 32 := hkind
  simp only [seqs_cons_run, seqs_nil_run]
  refine ⟨(offerPaid_keepsContract (.inl rfl) ?_).trans ?_, (offerPaid_keepsContract (.inr (.inl rfl)) ?_).trans ?_,
    (offerPaid_keepsContract (.inr (.inr rfl)) ?_).trans ?_⟩
  case refine_2 | refine_4 | refine_6 => simp (disch := decide) [raisePort_touch.rd, rd_wr_of_id, hv, rd_wr_fits rfl hi', rd_wr_fits rfl hkind']
  all_goals simpa using hno

/-- Settles O39. -/
theorem portAttach : Obligations.PortAttach := by
  unfold Obligations.PortAttach
  intro s k hs
  refine ⟨fun orient ra ht hr ho => ?rd, fun ht hrd => ?attach,
    fun vbus ha hr ho haw hen hlow hhigh hv hsink => ?offers, fun vbus ha hr ho haw hen hlow hhigh hv hu hc => ?asksCable,
    fun vbus ha hr ho haw hen hlow hhigh hv hsink hu hc => ?asksVconn, fun cur vmax epr ha hp haw hcur hvmax => ?identity,
    fun pos mv ma rev nv ni kind ha hp hh ho haw hq => ?request, fun pos mv ma rev nv ni kind ha hp hh haw ho hq => ?requestAfterReset,
    fun vbus us hus ha hready hplan href hkind htol hi hno => ?psRdy,
    fun ha hp hmay hrev hc => ?epr, fun ha hp hv => ?swap, fun ha hp hv => ?noSwap⟩
  case rd =>
    refine does_of_ends hs rfl ?_
    have ho' : orient < 2 ^ min Reg.PDP_STATUS.ORIENT.w 32 := ho
    rw [Prog.run_read, if_pos ⟨ht, hr⟩]
    simp (disch := decide) [rd_wr_fits, rd_wr_fits rfl ho', rd_wr_of_id]
  case attach =>
    refine does_of_ends hs rfl ?_
    have hbit : bit (s.port k).ra < 2 ^ min Reg.PDP_STATUS.VCONN.w 32 := by cases (s.port k).ra <;> decide
    have hflag : (bit (s.port k).ra == 1) = (s.port k).ra := by cases (s.port k).ra <;> rfl
    rw [Prog.run_read]
    dsimp only
    rw [if_pos ⟨ht, hrd⟩]
    simp (disch := decide) [portStart, State.flag, hflag, raisePort_touch.rd, rd_wr_fits, rd_wr_fits rfl hbit, rd_wr_of_id]
  case offers =>
    have hvbus : vbus < 2 ^ min Reg.PDP_MEAS.VBUS.w 32 := lt_of_le_of_lt hhigh (by decide)
    have hatt : (s.wr Reg.PDP_MEAS.VBUS k 0 0 vbus).attached k = true := (attached_of_keeps (keepsRd_setR (by decide))).trans ha
    refine VbusReady.does ⟨hs, ha, hr, ho, haw, hen, hlow, hhigh⟩ ?_
    rw [cableAsk_offers (s := s.wr Reg.PDP_MEAS.VBUS k 0 0 vbus) ((flag_of_keeps (keepsRd_setR (by decide))).trans hv) (by rwa [State.wr_port]),
      sendCaps_port hatt]
    exact ⟨(sendCaps_touch.rd _ _ rfl rfl _ _ _).trans (rd_wr_fits rfl hvbus), rfl, fixedOffer_meas⟩
  case asksCable =>
    refine VbusReady.does ⟨hs, ha, hr, ho, haw, hen, hlow, hhigh⟩ ?_
    obtain ⟨hask, -⟩ := cableAsk_asks (s := s.wr Reg.PDP_MEAS.VBUS k 0 0 vbus) (k := k) (by rwa [State.wr_port])
      ((flag_of_keeps (keepsRd_setR (by decide))).trans hc)
    rw [State.wr_out] at hask
    exact hask ((flag_of_keeps (keepsRd_setR (by decide))).trans hv)
  case asksVconn =>
    refine VbusReady.does ⟨hs, ha, hr, ho, haw, hen, hlow, hhigh⟩ ?_
    obtain ⟨-, hask⟩ := cableAsk_asks (s := s.wr Reg.PDP_MEAS.VBUS k 0 0 vbus) (k := k) (by rwa [State.wr_port])
      ((flag_of_keeps (keepsRd_setR (by decide))).trans hc)
    rw [State.wr_out, State.wr_port] at hask
    exact hask ((flag_of_keeps (keepsRd_setR (by decide))).trans hv) hsink
  case identity =>
    exact does_of_pdMessage hs ha hp rfl (cableTook_records (s := (Act.out (.pd k .goodCrc :: s.out)).apply s) ha haw hcur hvmax)
  case request =>
    refine does_of_pdMessage hs ha hp rfl ?_
    obtain ⟨l, hport⟩ := requestJudged_accepts (s := (Act.out (.pd k .goodCrc :: s.out)).apply s) (rev := rev) ha hh ho hq
    show _ ∧ _
    rw [pdTake, requestTook, Prog.run_seq, when_run, if_neg (by simpa using haw), hport]
    exact ⟨rfl, rfl, rfl, rfl, rfl⟩
  case requestAfterReset =>
    refine does_of_pdMessage hs ha hp rfl ?_
    have hcaps := sendCaps_port (s := (Act.out (.pd k .goodCrc :: s.out)).apply s) (k := k) ha
    have hatt : ((sendCaps k).run ((Act.out (.pd k .goodCrc :: s.out)).apply s)).attached k = true :=
      (attached_of_keeps (sendCaps_touch.keepsRd rfl rfl)).trans ha
    obtain ⟨l, hport⟩ := requestJudged_accepts (rev := rev) hatt (by rw [hcaps]; exact hh) (by rw [hcaps]; exact ho) (by rw [hcaps]; exact hq)
    show _ ∧ _
    rw [pdTake, requestTook, Prog.run_seq, when_run, if_pos (by simpa using haw), hport, hcaps]
    exact ⟨rfl, rfl, rfl, rfl, rfl⟩
  case psRdy =>
    refine does_of_ends hs rfl ?_
    rw [Prog.run_read]
    dsimp only
    rw [if_pos (by rcases hkind with hkind | hkind <;> simp [ha, hready, hplan, href, hkind, htol, hus])]
    exact contractReady_inForce hi (by rcases hkind with hkind | hkind <;> omega) hno
  case epr =>
    refine does_of_pdMessage hs ha hp rfl ?_
    have hatt : ((Act.out (.pd k .goodCrc :: s.out)).apply s).attached k = true := ha
    have hrev' : ((Act.out (.pd k .goodCrc :: s.out)).apply s).rd Reg.PDP_STATUS.REV k = 2 := hrev
    have hc' : ((Act.out (.pd k .goodCrc :: s.out)).apply s).rd Reg.PDP_STATUS.CONTRACT k = 1 := hc
    have hmay' : ((Act.out (.pd k .goodCrc :: s.out)).apply s).eprMay k = true := hmay
    rw [pdTake, eprTook, Prog.run_read]
    dsimp only
    rw [if_neg (by simp [hatt]), if_pos (by simp [hmay', hrev', hc'])]
    simp only [seqs_cons_run, seqs_nil_run, pdSend_run, updPorts_run]
    rw [sendCaps_port (by exact ha)]
    simp
  case swap =>
    refine does_of_pdMessage hs ha hp rfl ?_
    have hatt : ((Act.out (.pd k .goodCrc :: s.out)).apply s).attached k = true := ha
    have hv' : ((Act.out (.pd k .goodCrc :: s.out)).apply s).flag Reg.PDP_POL_B.VSWAP k = true := hv
    rw [pdTake, swapTook, Prog.run_read, if_neg (by simp [hatt]), if_pos hv']
    have hfits : 1 - s.rd Reg.PDP_STATUS.VCONN k < 2 ^ min Reg.PDP_STATUS.VCONN.w 32 := lt_of_le_of_lt (Nat.sub_le ..) (by decide)
    rw [Bool.eq_iff_iff]
    simp [State.flag, rd_wr_fits rfl hfits]
    omega
  case noSwap =>
    refine does_of_pdMessage hs ha hp rfl ?_
    have ha' : ((Act.out (.pd k .goodCrc :: s.out)).apply s).attached k = true := ha
    have hv' : ((Act.out (.pd k .goodCrc :: s.out)).apply s).flag Reg.PDP_POL_B.VSWAP k = false := hv
    simp [pdTake, swapTook, ha', hv']

end Sys2Proof.Machine
end

section
/-! A PD port's messages, its service mode and its end (R441, R450, R462 to R467). -/

set_option Elab.async false

namespace Sys2Proof.Machine

variable {s : State} {k n : Nat}

/-- The policy engine answers a message without a use; an attached port is meant (R441). -/
theorem unusedTook_answers {vdm structured : Bool} (ha : s.attached k = true) (h : (vdm && !structured) = false) :
    ((unusedTook k vdm structured).run s).out = .pd k (if vdm then .vdmNak else .notSupported) :: s.out := by
  rw [unusedTook, Prog.run_read, if_neg (by simp [ha, h])]
  rfl

theorem unusedTook_keepsOut {vdm structured : Bool} {o : Out} (h : o ∈ s.out) : o ∈ ((unusedTook k vdm structured).run s).out := by
  rw [unusedTook, Prog.run_read]
  split
  · exact h
  · exact List.mem_cons_of_mem _ h

/-- A message for the policy engine that comes during another (R462): it is received where its preamble is long enough. -/
theorem pdMessage_amid {m : PdIn} (ha : s.attached k = true) :
    (n < 20 → (pdMessage k (some n) m).run s = s) ∧
    (20 ≤ n → ∃ u : State, (pdMessage k (some n) m).run s =
        (if 2 ≤ u.rd Reg.ENG_TASK.STATE (policyTask k) then updPorts k fun x => { x with inbox := x.inbox ++ [m] } else pdTake k m : Prog).run u ∧
      u.out = .pd k .goodCrc :: s.out ∧
      u.rd Reg.PDP_CNT.RX_ABORTS k = min (s.rd Reg.PDP_CNT.RX_ABORTS k + 1) (2 ^ Reg.PDP_CNT.RX_ABORTS.w - 1)) := by
  rw [pdMessage, pdReceive, Prog.run_read]
  dsimp only
  rw [if_neg (not_not.2 (attached_iff.1 ha))]
  constructor
  · intro h
    rw [if_pos h]
    rfl
  · intro h
    rw [if_neg (Nat.not_lt.2 h)]
    refine ⟨_, rfl, ?_, rd_counted rfl (by decide) rfl⟩
    simp

/-- Where no action waits for the negotiation, it ends with the capabilities that are owed or with nothing (R447, R466). -/
theorem offerPaid_ofNone {f : Fld} (hf : (sendCaps k).Keeps fun u => u.rd f k)
    (h : ∀ a ∈ (s.port k).actions, a.1 < 16) : ((offerPaid k).run s).rd f k = s.rd f k := by
  have hnone : (s.port k).actions.find? (fun a => decide (16 ≤ a.1)) = none := by
    rw [List.find?_eq_none]
    intro a ha
    simpa using h a ha
  rw [offerPaid, Prog.run_read]
  dsimp only
  rw [hnone]
  split
  · rfl
  · split
    · exact hf s
    · rfl

/-- A reply that lists the SVID or the mode is followed by the next step (R463). -/
theorem discoverTook_steps (hn : n ≠ 0) (hlast : n < 4) (hstep : (s.port k).svcStep = n) (he : s.explicit k = true) :
    (((discoverTook k true).run s).port k).svcStep = n + 1 := by
  rw [discoverTook, Prog.run_read]
  dsimp only
  rw [hstep, if_neg (by simp [hn, he]), if_neg (by decide), if_neg (by omega)]
  simp

/-- The service mode is entered; an action that has waited may leave it at once (R463, R466). -/
theorem modeTook_enters (hn : (s.port k).svcStep = 4) (he : s.explicit k = true) (htwin : s.flag Reg.PDP_STATUS.SVC (svcTwin k) = false)
    (hheld : s.flag Reg.PDP_STATUS.HELD k = true) (hfn : s.flag Reg.FN_STATUS.HELD (s.rd Reg.PDP_STATUS.HOLDER k) = false)
    (h : ∀ a ∈ (s.port k).actions, a.1 < 16) : ((modeTook k).run s).flag Reg.PDP_STATUS.SVC k = true := by
  rw [modeTook, Prog.run_read]
  dsimp only
  rw [if_neg (by simp [hn, he]), if_neg (by simp [htwin]), if_neg (by simp [hheld, hfn])]
  simp only [seqs_cons_run, seqs_nil_run]
  rw [flag_iff, offerPaid_ofNone (sendCaps_touch.keepsRd rfl rfl)]
  · simp (disch := decide) [actionsDone_touch.rd, raisePort_touch.rd, rd_wr_fits]
  · simpa [raisePort_port] using fun a c hac _ => h (a, c) hac

/-- A sink that has gone leaves the port as it was without one (R460, R465). -/
theorem portDetach_detaches : ((portDetach k).run s).rd Reg.PDP_STATUS.TC_STATE k = 1 ∧ ((portDetach k).run s).rd Reg.PDP_STATUS.VCONN k = 0 := by
  rw [portDetach, Prog.run_read]
  simp (disch := decide) [actionsDone_touch.rd, rd_wr_fits, rd_wr_of_id]

/-- VCONN that carries too much goes off, and the cable counts as unmarked (R450). -/
theorem execPdVconnOvercurrent_off {ma us : Nat} (hs : s.stopped = false) (hma : 400 < ma) (hus : 1000 ≤ us)
    (hv : s.flag Reg.PDP_STATUS.VCONN k = true) :
    Does (.pdVconnOvercurrent k ma us) s fun t => t.rd Reg.PDP_STATUS.VCONN k = 0 ∧ t.rd Reg.PDP_CABLE.VALID k = 0 := by
  refine does_of_ends hs rfl ?_
  have hlast {f : Fld} (h1 : (sendCaps k).Keeps fun u => u.rd f k) (h2 : (offerChanged k).Keeps fun u => u.rd f k) :
      (Prog.read fun t => if (t.port k).awaits = 1 then sendCaps k else offerChanged k).Keeps fun u => u.rd f k :=
    keeps_read fun _ => keeps_ite h1 h2
  rw [Prog.run_read, if_pos (by simp [hv, hma, hus])]
  simp only [seqs_cons_run, seqs_nil_run]
  refine ⟨rd_after (hlast (sendCaps_touch.keepsRd rfl rfl) (offerChanged_touch.keepsRd rfl rfl)) ?_,
    rd_after (hlast (sendCaps_touch.keepsRd rfl rfl) (offerChanged_touch.keepsRd rfl rfl)) ?_⟩ <;>
  simp (disch := decide) [cableUnmarked, pdFault_touch.rd, rd_wr_fits, rd_wr_of_id]

/-- Settles O41. -/
theorem portMessages : Obligations.PortMessages := by
  unfold Obligations.PortMessages
  intro s k hs
  refine ⟨fun ma us hma hus hv => ?overcurrent, fun ha hp => ?vdm, fun structured ha hp => ?other, fun vdm structured n ha hn => ?short,
    fun vdm structured n ha hn => ?long, fun vdm structured ha hp => ?waits, fun n hn hstep he hp => ?discover,
    fun hstep he hp htwin hheld hfn => ?mode, fun ht => ?detach⟩
  case overcurrent => exact execPdVconnOvercurrent_off hs hma hus hv
  case vdm => exact does_of_pdMessage hs ha hp rfl (unusedTook_answers (s := (Act.out (.pd k .goodCrc :: s.out)).apply s) ha rfl)
  case other => exact does_of_pdMessage hs ha hp rfl (unusedTook_answers (s := (Act.out (.pd k .goodCrc :: s.out)).apply s) ha rfl)
  case short =>
    refine does_of_ends hs rfl ?_
    rw [(pdMessage_amid ha).1 hn]
    exact ⟨rfl, rfl⟩
  case long =>
    refine does_of_ends hs rfl ?_
    obtain ⟨u, hrun, hout, hcnt⟩ := (pdMessage_amid (m := .unsupported vdm structured) ha).2 hn
    rw [hrun]
    split
    · exact ⟨by simp [hout], hcnt⟩
    · exact ⟨unusedTook_keepsOut (hout ▸ List.mem_cons_self), (unusedTook_touch.rd _ _ rfl rfl _ _ _).trans hcnt⟩
  case waits =>
    refine does_of_ends hs rfl ?_
    rw [pdMessage, pdReceive, Prog.run_read]
    dsimp only
    rw [if_neg (not_not.2 (attached_iff.1 ha)), Prog.run_seq, if_pos rfl, pdSend_run, Prog.run_read, if_pos (by simpa using hp)]
    simp
  case discover =>
    have ha : s.attached k = true := (Bool.and_eq_true_iff.1 he).1
    refine does_of_pdMessage hs ha hp rfl ?_
    exact discoverTook_steps (s := (Act.out (.pd k .goodCrc :: s.out)).apply s) (by omega) (by omega) hstep he
  case mode =>
    have ha : s.attached k = true := (Bool.and_eq_true_iff.1 he).1
    refine does_of_pdMessage hs ha hp rfl ?_
    by_cases hwait : ∃ a c, (a, c) ∈ (s.port k).actions ∧ 16 ≤ a
    · exact .inr hwait
    · refine .inl (modeTook_enters (s := (Act.out (.pd k .goodCrc :: s.out)).apply s) hstep he htwin hheld hfn ?_)
      exact fun a ha' => Nat.lt_of_not_le fun h => hwait ⟨a.1, a.2, ha', h⟩
  case detach =>
    refine does_of_ends hs rfl ?_
    rw [Prog.run_read]
    dsimp only
    rw [if_neg (by omega), if_pos ht]
    exact portDetach_detaches

end Sys2Proof.Machine
end

section
/-! The opcodes of the PD ports (R444 to R447, R460 to R466). -/

set_option Elab.async false

namespace Sys2Proof.Machine

variable {s : State} {c : Ctl} {p : PdPolicy} {k : Nat}

/-- The ranges of a policy that has passed its checks (R445). -/
theorem policyBad_none (h : policyBad p = none) : p.pmax ≤ 2400 ∧ p.imax ≤ 5000 ∧ p.vmin ≤ 21000 ∧ p.vmax ≤ 21000 := by
  simp only [policyBad, firstBad_eq_none, List.mem_cons, List.not_mem_nil, or_false, forall_eq_or_imp, forall_eq, Bool.or_eq_false_iff,
    outside, decide_eq_false_iff_not, not_lt] at h
  obtain ⟨⟨-, hpmax⟩, ⟨-, himax⟩, -, ⟨⟨-, hvmin⟩, -⟩, ⟨hvmax, -⟩, -⟩ := h
  exact ⟨hpmax, himax, hvmin, hvmax⟩

/-- What runs through an offer that changes leaves the registers as the change does, but those of a completion (R447). -/
theorem policyActs_rd {change : Prog} {action : Nat} {f : Fld} (hoffer : (offerChanged k).Keeps fun u => u.rd f k)
    (hdone : ∀ token, (finishRun c stOk token).Keeps fun u => u.rd f k) :
    ((policyActs k action c change).run s).rd f k = (change.run s).rd f k := by
  rw [policyActs, Prog.run_read, Prog.run_seq, Prog.run_read]
  split
  · exact keeps_seq (g := fun u => u.rd f k) (fun _ => rfl) hoffer _
  · exact hdone _ _

/-- A policy is written whole (R445). -/
theorem policySet_sets (hp : p.pmax ≤ 2400 ∧ p.imax ≤ 5000 ∧ p.vmin ≤ 21000 ∧ p.vmax ≤ 21000) :
    ((policySet k p).run s).rd Reg.PDP_POL_A.PMAX k = p.pmax ∧ ((policySet k p).run s).rd Reg.PDP_POL_A.IMAX k = p.imax ∧
      ((policySet k p).run s).rd Reg.PDP_POL_C.PPS_VMIN k = p.vmin ∧ ((policySet k p).run s).rd Reg.PDP_POL_C.PPS_VMAX k = p.vmax := by
  obtain ⟨hpmax, himax, hvmin, hvmax⟩ := hp
  have hpmax' : p.pmax < 2 ^ min Reg.PDP_POL_A.PMAX.w 32 := lt_of_le_of_lt hpmax (by decide)
  have himax' : p.imax < 2 ^ min Reg.PDP_POL_A.IMAX.w 32 := lt_of_le_of_lt himax (by decide)
  have hvmin' : p.vmin < 2 ^ min Reg.PDP_POL_C.PPS_VMIN.w 32 := lt_of_le_of_lt hvmin (by decide)
  have hvmax' : p.vmax < 2 ^ min Reg.PDP_POL_C.PPS_VMAX.w 32 := lt_of_le_of_lt hvmax (by decide)
  simp (disch := decide) [policySet, rd_wr_of_id, rd_wr_fits rfl hpmax', rd_wr_fits rfl himax', rd_wr_fits rfl hvmin', rd_wr_fits rfl hvmax']

/-- HOLD: the issuer holds the port under its policy (R444, R446). -/
theorem execPdPolicyHold_holds (h : s.accepts (.pdHold p) c = true) (hfn : c.fn < 2048) :
    Does (.pdPolicyHold c p) s fun t => t.flag Reg.PDP_STATUS.HELD c.target = true ∧ t.rd Reg.PDP_STATUS.HOLDER c.target = c.fn ∧
      t.rd Reg.PDP_POL_A.PMAX c.target = p.pmax ∧ t.rd Reg.PDP_POL_C.PPS_VMAX c.target = p.vmax := by
  have hbad : holdBad s c p = none := bad_of_accepts h
  have hranges := policyBad_none (Option.or_eq_none_iff.1 hbad).2
  have hfn' : c.fn < 2 ^ min Reg.PDP_STATUS.HOLDER.w 32 := hfn
  refine does_of_accepted rfl h rfl ?_
  show _ ∧ _
  rw [Op.act, holdDo, Prog.run_seq, flag_iff, policyActs_rd (offerChanged_touch.keepsRd rfl rfl) fun _ => finishRun_touch.keepsRd rfl rfl,
    policyActs_rd (offerChanged_touch.keepsRd rfl rfl) fun _ => finishRun_touch.keepsRd rfl rfl,
    policyActs_rd (offerChanged_touch.keepsRd rfl rfl) fun _ => finishRun_touch.keepsRd rfl rfl,
    policyActs_rd (offerChanged_touch.keepsRd rfl rfl) fun _ => finishRun_touch.keepsRd rfl rfl]
  simp only [seqs_cons_run, seqs_nil_run]
  obtain ⟨hpmax, -, -, hvmax⟩ := policySet_sets (s := (setR Reg.PDP_STATUS.HOLDER c.fn c.target).run ((setR Reg.PDP_STATUS.HELD 1 c.target).run
    ((runOn c 0x41).run s.counted))) (k := c.target) hranges
  refine ⟨?_, ?_, hpmax, hvmax⟩ <;> simp (disch := decide) [policySet, rd_wr_of_id, rd_wr_fits, rd_wr_fits rfl hfn']

/-- RELEASE: nobody holds the port (R444, R447). -/
theorem execPdPolicyRelease_releases (h : s.accepts .pdRelease c = true) : Does (.pdPolicyRelease c) s fun t =>
    t.flag Reg.PDP_STATUS.HELD c.target = false ∧ t.rd Reg.PDP_STATUS.HOLDER c.target = 0 := by
  refine does_of_accepted rfl h rfl ?_
  show _ ∧ _
  rw [Op.act, pdReleaseDo]
  simp only [seqs_cons_run, seqs_nil_run]
  refine ⟨flag_of_zero ?_, ?_⟩ <;>
  · rw [policyActs_rd (offerChanged_touch.keepsRd rfl rfl) fun _ => finishRun_touch.keepsRd rfl rfl]
    simp (disch := decide) [policyDefault_touch.rd, rd_wr_of_id, rd_wr_fits]

/-- SET: the holder's policy (R447). -/
theorem execPdPolicySet_sets (h : s.accepts (.pdSet p) c = true) : Does (.pdPolicySet c p) s fun t =>
    t.rd Reg.PDP_POL_A.PMAX c.target = p.pmax ∧ t.rd Reg.PDP_POL_A.IMAX c.target = p.imax ∧ t.rd Reg.PDP_POL_C.PPS_VMIN c.target = p.vmin := by
  have hbad : pdSetBad s c p = none := bad_of_accepts h
  obtain ⟨hpmax, himax, hvmin, -⟩ := policySet_sets (s := (runOn c 0x41).run s.counted) (k := c.target)
    (policyBad_none (Option.or_eq_none_iff.1 hbad).2)
  refine does_of_accepted rfl h rfl ?_
  show _ ∧ _
  rw [Op.act, pdSetDo, Prog.run_seq]
  refine ⟨?_, ?_, ?_⟩ <;> rw [policyActs_rd (offerChanged_touch.keepsRd rfl rfl) fun _ => finishRun_touch.keepsRd rfl rfl] <;> assumption

/-! The actions on a contract (R446, R460 to R466). -/

/-- The action of an opcode: it begins, or it waits behind the negotiation. -/
theorem actBegin_run {action : Nat} :
    ((s.port k).readyOwed = false → (s.port k).awaits = 0 → (actBegin k action c).run s = (actStart k action c).run s) ∧
    (((s.port k).readyOwed || (s.port k).awaits != 0) = true →
      (((actBegin k action c).run s).port k).actions = (s.port k).actions ++ [(action + 16, c)]) := by
  rw [actBegin, Prog.run_read]
  refine ⟨fun hr hw => by rw [if_neg (by simp [hr, hw])], fun h => ?_⟩
  rw [if_pos h]
  simp

/-- An accepted opcode whose whole effect is an action on the contract: while nothing is under way it begins. -/
theorem does_of_action {i : Instr} {P : State → Prop} {o : Op} {action : Nat} (hq : (opCode o == 0x13) = false) (h : s.accepts o c = true)
    (he : exec i s = opEnds o c s) (hact : o.act c = .seq (runOn c 0x41) (actBegin c.target action c))
    (hr : (s.port c.target).readyOwed = false) (hw : (s.port c.target).awaits = 0)
    (hp : P ((actStart c.target action c).run ((runOn c 0x41).run s.counted))) : Does i s P := by
  refine does_of_accepted hq h he ?_
  rw [hact, Prog.run_seq, (actBegin_run (s := (runOn c 0x41).run s.counted)).1 hr hw]
  exact hp

/-- While the negotiation runs, the action waits. -/
theorem does_of_waiting {i : Instr} {o : Op} {action : Nat} (hq : (opCode o == 0x13) = false) (h : s.accepts o c = true)
    (he : exec i s = opEnds o c s) (hact : o.act c = .seq (runOn c 0x41) (actBegin c.target action c))
    (hwait : ((s.port c.target).readyOwed || (s.port c.target).awaits != 0) = true) :
    Does i s fun t => (t.port c.target).actions = (s.port c.target).actions ++ [(action + 16, c)] := by
  refine does_of_accepted hq h he ?_
  rw [hact, Prog.run_seq]
  exact (actBegin_run (s := (runOn c 0x41).run s.counted)).2 hwait

theorem actStart_softReset : (((actStart k 3 c).run s).port k).awaits = 3 ∧
    ((actStart k 3 c).run s).rd Reg.PDP_CNT.SOFT_RESETS k = min (s.rd Reg.PDP_CNT.SOFT_RESETS k + 1) 255 := by
  simp (disch := decide) [actStart, raisePort_touch.rd, rd_counted (f := Reg.PDP_CNT.SOFT_RESETS) (m := 255) rfl (by decide) rfl]

theorem actStart_enterService : (((actStart k 5 c).run s).port k).svcStep = 1 ∧ (((actStart k 5 c).run s).port k).awaits = 5 := by
  simp [actStart]

theorem actStart_hardReset (h : s.attached k = true) :
    (((actStart k 4 c).run s).port k).hardStep = 1 ∧ (((actStart k 4 c).run s).port k).hardAt = s.time := by
  show (((Prog.seq (updPorts k _) (hardReset k 0 0)).run s).port k).hardStep = 1 ∧
    (((Prog.seq (updPorts k _) (hardReset k 0 0)).run s).port k).hardAt = s.time
  rw [Prog.run_seq, hardReset_port (by exact h)]
  exact ⟨rfl, rfl⟩

theorem svcExit_clears : ((svcExit k).run s).flag Reg.PDP_STATUS.SVC k = false := by
  rw [svcExit, Prog.run_read]
  by_cases h : s.flag Reg.PDP_STATUS.SVC k = true
  · rw [if_pos h]
    refine flag_of_zero ?_
    simp (disch := decide) [svcOpen, h, raisePort_touch.rd, rd_wr_fits]
  · rw [if_neg h]
    simpa using h

theorem actStart_exitService : ((actStart k 6 c).run s).flag Reg.PDP_STATUS.SVC k = false := by
  show ((Prog.seq (svcExit k) (.read fun s => finishRun c stOk s.token)).run s).flag Reg.PDP_STATUS.SVC k = false
  rw [Prog.run_seq, Prog.run_read]
  exact (flag_of_keeps (finishRun_touch.keepsRd rfl rfl)).trans svcExit_clears

/-- HARD_RESET needs an attached sink (R446). -/
theorem hardResetBad_none (h : hardResetBad s c = none) : s.attached c.target = true := by
  have hpass : s.holds c.fn c.target = true ∧ s.attached c.target = true := by simpa [hardResetBad, firstBad_eq_none] using h
  exact hpass.2

/-- Settles O33. -/
theorem portOpcodes : Obligations.PortOpcodes := by
  unfold Obligations.PortOpcodes
  intro s c
  refine ⟨fun p => execPdPolicyHold_holds, execPdPolicyRelease_releases, fun p => execPdPolicySet_sets,
    fun h hr hw => does_of_action rfl h rfl rfl hr hw actStart_softReset, fun h hwait => does_of_waiting rfl h rfl rfl hwait,
    fun h hr hw => does_of_action rfl h rfl rfl hr hw ?hard, fun h hwait => does_of_waiting rfl h rfl rfl hwait,
    fun h hr hw => does_of_action rfl h rfl rfl hr hw actStart_enterService, fun h hwait => does_of_waiting rfl h rfl rfl hwait,
    fun h hr hw => does_of_action rfl h rfl rfl hr hw actStart_exitService⟩
  case hard => exact actStart_hardReset (s := (runOn c 0x41).run s.counted) (hardResetBad_none (bad_of_accepts h))

end Sys2Proof.Machine
end
